-- ==== Sys2Proof/Word.lean ====
section
/-! DEFINITION. The byte and the words of the object protocol (spec R6: every multi-byte value is little-endian). -/

namespace Sys2Proof

/-- One byte on the wire or in a store. -/
abbrev Byte := BitVec 8

/-- A 32-bit word, used by the checksum and hash units. -/
abbrev Word32 := BitVec 32

end Sys2Proof
end

