-- ==== Sys2Proof/Syntax.lean ====
section
/-! DEFINITION. The commands that reach the block from outside: one constructor of `Instr` per row of the command table,
and the records their operands are made of. -/

namespace Sys2Proof

/-- One datagram of the object protocol (R284): header fields, payload and tag. -/
structure ObjFrame where
  /-- `VERSION` -/
  version : Nat
  /-- `SERVICE` (R285) -/
  service : Nat
  /-- `FLAGS` -/
  flags : Nat
  /-- `SESSION` identifier -/
  session : Nat
  /-- `SEQ` -/
  seq : Nat
  /-- `INDEX` -/
  index : Nat
  /-- `SUB` -/
  sub : Nat
  /-- `ARG` -/
  arg : Nat
  /-- `STATUS` -/
  status : Nat
  /-- payload, 0 to 1,024 bytes -/
  payload : List Byte
  /-- 32-byte tag, empty in the frames R284 lists -/
  tag : List Byte
  deriving DecidableEq, Repr

/-- Where a host datagram came from, or goes to: port 0 HN0, 1 HN1, 2 HSVC, IPv4 address, UDP port, and the UDP port and the 802.1Q tag
at the device's end. -/
structure NetAddr where
  /-- device port -/
  port : Nat
  /-- host IPv4 address -/
  addr : Nat
  /-- host UDP port -/
  udp : Nat
  /-- the device's UDP port -/
  own : Nat
  /-- 802.1Q VLAN ID; none for an untagged frame -/
  vlan : Option Nat
  deriving DecidableEq, Repr

/-- A Sync message as its Follow_Up completes it (R348). Times are in 2⁻¹⁶ ns since the PTP epoch. -/
structure SyncMsg where
  /-- sender's clock identity -/
  clock : Nat
  /-- domainNumber -/
  domain : Nat
  /-- logSyncInterval -/
  logInterval : Int
  /-- origin time plus correction -/
  origin : Int
  /-- hardware capture of the message in station time, before the ingress latency is removed -/
  rx : Int
  deriving DecidableEq, Repr

/-- An Announce message (R349). -/
structure AnnounceMsg where
  /-- sender's clock identity -/
  clock : Nat
  /-- sender's port number -/
  portNumber : Nat
  /-- domainNumber -/
  domain : Nat
  /-- grandmaster identity -/
  gm : Nat
  /-- priority1 -/
  priority1 : Nat
  /-- clockClass -/
  clockClass : Nat
  /-- clockAccuracy -/
  accuracy : Nat
  /-- offsetScaledLogVariance -/
  variance : Nat
  /-- priority2 -/
  priority2 : Nat
  /-- stepsRemoved -/
  steps : Nat
  /-- currentUtcOffset -/
  utc : Int
  deriving DecidableEq, Repr

/-- A Delay_Resp or Pdelay_Resp as its Follow_Up completes it (R348). Times in 2⁻¹⁶ ns. -/
structure DelayMsg where
  /-- sequenceId -/
  seqId : Nat
  /-- when the other side received the request -/
  remoteRx : Int
  /-- when the other side sent the response (peer-to-peer) -/
  remoteTx : Int
  /-- capture of the response here (peer-to-peer) -/
  rx : Int
  deriving DecidableEq, Repr

/-- One sampled-value ASDU of R310: smpCnt, smpSynch and 8 channels of value and quality. -/
structure SvAsdu where
  /-- svID -/
  svId : List Byte
  /-- confRev -/
  confRev : Nat
  /-- smpCnt -/
  smpCnt : Nat
  /-- smpSynch -/
  smpSynch : Nat
  /-- channel values in the order of R310 -/
  values : List Int
  /-- channel qualities -/
  quality : List Nat
  deriving DecidableEq, Repr

/-- A sampled-value frame (R310). -/
structure SvFrame where
  /-- 802.1Q VLAN ID; none for an untagged frame -/
  vlan : Option Nat
  /-- destination MAC address -/
  dest : Nat
  /-- APPID -/
  appId : Nat
  /-- simulation bit -/
  test : Bool
  /-- the ASDUs -/
  asdus : List SvAsdu
  deriving DecidableEq, Repr

/-- What the option loader found (R468, R469). -/
structure OptionView where
  /-- one of the reads passed -/
  good : Bool
  /-- ordering code -/
  code : Nat
  /-- units enabled -/
  units : Nat
  /-- droves enabled -/
  droves : Nat
  /-- single-bit corrections -/
  corrected : Nat
  /-- length of the load, µs -/
  us : Nat
  deriving DecidableEq, Repr

/-- An operation on the JTAG port (R502). -/
inductive JtagOp where
  /-- load a boundary-scan instruction: 0 BYPASS, 1 IDCODE, 2 SAMPLE/PRELOAD, 3 EXTEST, 4 CLAMP -/
  | load (instr : Nat)
  /-- halt a unit of `DEBUG_HALTED` -/
  | halt (unit : Nat)
  /-- let a halted unit run again -/
  | resume (unit : Nat)
  /-- step a halted unit -/
  | stepUnit (unit : Nat)
  /-- read a byte of a memory region -/
  | readMem (region addr : Nat)
  /-- write a byte of a memory region -/
  | writeMem (region addr : Nat) (v : Byte)
  deriving DecidableEq, Repr

/-- A tide frame that came back (R58, R264): the lane's own frame of drove `d`, or the frame of `d` that its partner carried. -/
structure TideReturn where
  /-- drove the frame serves -/
  d : Nat
  /-- carried through the partner's tail bridge -/
  bridged : Bool
  /-- the frame as received, check value included -/
  bytes : List Byte
  /-- arrival of its last byte in the Flock Store after the tide start, 0.1 ns -/
  arrive : Nat
  /-- START leaving the lane output to the second-pass START at the lane input, 0.1 ns -/
  loop : Nat
  /-- invalid code blocks the receiver met in it and since the frame before it (R39) -/
  invalid : Nat := 0
  deriving DecidableEq, Repr

/-- A slack-water frame that came back (R53). -/
structure SlackReturn where
  /-- drove of the target leaf -/
  d : Nat
  /-- position of the target leaf -/
  target : Nat
  /-- the frame as received, check value included -/
  bytes : List Byte
  /-- invalid code blocks the receiver met in it and since the frame before it (R39) -/
  invalid : Nat := 0
  deriving DecidableEq, Repr

/-- Where an uncorrectable error was found (R79). -/
structure MemError where
  /-- region code of R72 or R73 -/
  region : Nat
  /-- byte address within the memory -/
  addr : Nat
  /-- what the word holds in region 1 (0 command slot, 1 reference set, 2 demand, 3 sensor sample), in regions 5 and 8 (0
  leaf-bound message or draft, 1 host-bound message or committed image), in region 17 (0 filter state or coefficients, 1 one copy of
  an accumulator, 2 both copies, 3 a snapshot) -/
  kind : Nat
  /-- the leaf, arm, sample word, queue, subscription, pair, engine, channel, accumulator (8 per meter) or entry it belongs to -/
  inst : Nat
  /-- `SEQ` of a message or event record, counter of a subscription record, tide of a slot, sample or slow record -/
  detail : Nat
  /-- a write of fewer than 8 bytes to a poisoned word, or a later read, reports it again -/
  again : Bool
  deriving DecidableEq, Repr

/-- A point-of-connection sample (R161): the three phase voltages at the primary, mV, and the sampling instant in station time, ns.
`good` says that its quality is good and its test flag clear, and for a sampled-value stream that it is globally synchronised. -/
structure PocSample where
  /-- v_a, mV -/
  va : Int
  /-- v_b, mV -/
  vb : Int
  /-- v_c, mV -/
  vc : Int
  /-- sampling instant, ns -/
  ns : Nat
  /-- valid as delivered -/
  good : Bool
  deriving DecidableEq, Repr

/-- Raw readings of a metering channel at a grid instant (R374), in 2⁻³¹ of the full scale of each path. -/
structure MeterReading where
  /-- channel 0 to 39 -/
  ch : Nat
  /-- ×1 path -/
  x1 : Int
  /-- ×16 path -/
  x16 : Int
  /-- the ×1 reading is saturated -/
  sat1 : Bool
  /-- the ×16 reading is saturated -/
  sat16 : Bool
  deriving DecidableEq, Repr

/-- What a SAR calibration measured of one input (R400): codes summed over the 256 and the 1,024 conversions, and the peak-to-peak
spread of each run. -/
structure SarReading where
  /-- input 0 to 31 -/
  input : Nat
  /-- sum of the 256 conversions of step 2 -/
  sum1 : Nat
  /-- their spread -/
  spread1 : Nat
  /-- sum of the 1,024 conversions of step 3 -/
  sum2 : Nat
  /-- their spread -/
  spread2 : Nat
  deriving DecidableEq, Repr

/-- The commands of the block: one constructor per row of spec/opcode_table.json. -/
inductive Instr where
  /-- TIDE_START (R20): At each tide start the device samples S(n), launches every enabled drove's tide frame, and applies any scheduled station-state change. -/
  | tideStart (samples : List (Nat × Int))
  /-- REFERENCE_MARK (R23): At 0.80 × P the control pairs publish their reference sets, and the tide reference generator captures them. -/
  | referenceMark (missed : List Nat)
  /-- RETURN_DEADLINE (R24): At 0.85 × P the telemetry of S(n) is released as one set, unreturned slots are marked missing, and the loop engines start. -/
  | returnDeadline (late : List Nat)
  /-- GRID_SET_PUBLISH (R165): 200 ns before the return deadline the grid interface publishes the grid set for S(n). -/
  | gridSetPublish
  /-- DEMAND_MARK (R103): At 2 × P − 2.0 µs the shepherds freeze their inputs and rank each arm for tide n + 2. -/
  | demandMark (missed : List Nat)
  /-- COMMAND_CUTOFF (R25): At 2 × P − 0.3 µs every command slot must be written; the sequencer repeats any unwritten slot, and the heartbeat word goes to channel A. -/
  | commandCutoff (missed : List Nat)
  /-- TIDE_FRAME_RETURN (R58): A returned tide frame is checked as GOOD, STOMPED or BAD and, when GOOD, its slots are stored in the telemetry ring and its STATUS words snooped. -/
  | tideFrameReturn (ret : TideReturn)
  /-- SLACK_WATER_FRAME_SEND (R95): Before each slack-water frame the sequencer chooses the target leaf by level and packs a container for it. -/
  | slackWaterFrameSend (d : Nat) (gap : Nat)
  /-- SLACK_WATER_FRAME_RETURN (R53): A returned slack-water frame is checked, and its upward records are processed only on GOOD. -/
  | slackWaterFrameReturn (ret : SlackReturn)
  /-- BLOCK_ECHO_ARRIVAL (R41): A BLOCK set echoed by the turning leaf arrives, and its time is recorded in BLOCK_ECHO_TIME and reported to Breakwater. -/
  | blockEchoArrival (d : Nat) (interval : Nat)
  /-- ECHO_LIMIT_EXPIRY (R440): A drove that has not echoed within ECHO_LIMIT sets ECHO_MISSING and, with ECHO_REACTION 1, raises TRIP. -/
  | echoLimitExpiry (d : Nat)
  /-- LANE_LOCK_LOSS (R36): A lane input loses block lock; the loss is counted in LOCK_LOSSES and in LANE_PATH. -/
  | laneLockLoss (d : Nat)
  /-- RT_MEASUREMENT_END (R63): After 4,096 tides a round-trip measurement completes with ROUND_TRIP, OUTBOUND_PASSAGE and EARLIEST_TELEMETRY, or fails. -/
  | rtMeasurementEnd (d : Nat) (phase : Nat)
  /-- LANE_PHASE_CHECK (R19): Once a second the device compares each lane's tide phase with its reference and raises a drift event above 8/64 cycle. -/
  | lanePhaseCheck (d : Nat) (phase : Nat)
  /-- RT_MARGIN_SECOND (R65): Once a second each drove's smallest return margin goes to RT_MARGIN, with an event when it is below 200 ns. -/
  | rtMarginSecond (d : Nat)
  /-- T_LOOP_AVERAGE (R61): Every 1,024 tides the device forms a new T_loop average, recomputes the leaf delays, and owes a WELCOME where a delay changed by more than 0.5 ns. -/
  | tLoopAverage (d : Nat)
  /-- BRIDGE_UNAVAILABLE_TIMEOUT (R66): After 10 s without a BRIDGE_LOOP report from either last leaf, the device raises tail bridge unavailable. -/
  | bridgeUnavailableTimeout (pair : Nat)
  /-- LANE_REJOIN (R268): When the rejoin conditions hold at a return deadline, the drove launches its own full frame again from the next tide start. -/
  | laneRejoin (d : Nat)
  /-- STRAY_PEN_TIME_EXPIRY (R269): A leaf still STRAY after STRAY_PEN_TIME is penned with cause 8, reason 1. -/
  | strayPenTimeExpiry (leaf : Nat)
  /-- RETX_TIMEOUT_EXPIRY (R252): RETX_TIMEOUT tides without an ACK make a retransmission due from ACKED_SEQ + 1. -/
  | retxTimeoutExpiry (id : Nat)
  /-- ACK_DELAY_EXPIRY (R95): An ACK owed for ACK_DELAY tides makes its leaf a level A candidate. -/
  | ackDelayExpiry (leaf : Nat)
  /-- POLL_INTERVAL_EXPIRY (R95): A leaf with a message waiting without credit, or a stray leaf, gets a level D poll after POLL_INTERVAL tides. -/
  | pollIntervalExpiry (leaf : Nat)
  /-- ADMIT_TIMEOUT_EXPIRY (R127): An ADMITTING leaf not eligible within ADMIT_TIMEOUT tides is penned again, and readmission failed is raised. -/
  | admitTimeoutExpiry (leaf : Nat)
  /-- READMIT_TIMEOUT_EXPIRY (R274): Readmission steps not finished within READMIT_TIMEOUT set status 0x91, and the leaf stays PENNED. -/
  | readmitTimeoutExpiry (leaf : Nat)
  /-- LEAF_PENNING (R238): The device pens a leaf for a listed cause, records PEN_CAUSE, and appends PERMANENT_BYPASS where the cause commands it. -/
  | leafPenning (leaf : Nat) (cause : Nat) (reason : Nat)
  /-- PENNING_COMPLETE (R260): Penning completes on BYPASS_LATCHED seen or BYPASS_ACK_TIMEOUT, and the fold's queues change as for a penned leaf. -/
  | penningComplete (leaf : Nat)
  /-- BYPASS_ACK_TIMEOUT_EXPIRY (R238): A permanent bypass not confirmed within BYPASS_ACK_TIMEOUT retires the leaf and raises permanent bypass not confirmed. -/
  | bypassAckTimeoutExpiry (leaf : Nat)
  /-- SC_CLEAR_DELAY_EXPIRY (R233): SC_CLEAR_DELAY after an upset short circuit, the device posts SC_CLEAR once no block is in force and the shepherd is Active or Watch. -/
  | scClearDelayExpiry (leaf : Nat)
  /-- UV_RECORD_TIMEOUT (R234): A GATE_UV seen in STATUS whose record has not arrived within 100 ms counts under supply index 0xFF. -/
  | uvRecordTimeout (leaf : Nat)
  /-- TEST_TIMEOUT_EXPIRY (R237): No class 10 report within TEST_TIMEOUT records code 0x21 and counts in the self-test source. -/
  | testTimeoutExpiry (leaf : Nat)
  /-- FAULT_WINDOW_BOUNDARY (R261): At each boundary of a source's window, every instance count above 0 leaks by 1. -/
  | faultWindowBoundary (family : Nat) (source : Nat)
  /-- SUB_WINDOW_RECORD (R99): At the end of each decimation window the subscription engine writes one record, or drops it and counts it in SUB_LOST. -/
  | subWindowRecord (k : Nat) (late : Bool)
  /-- SCRUB_LINE (R78): The background scrubber reads a line of the shared store and corrects or reports its errors. -/
  | scrubLine (region : Nat) (addr : Nat) (found : Nat) (spot : MemError) (last : Bool)
  /-- SCRUB_PERIOD_END (R78): A scrub pass that has not finished within SCRUB_PERIOD counts one SCRUB_OVERRUNS and continues. -/
  | scrubPeriodEnd
  /-- ECC_CORRECTED_ERROR (R78): A single-bit error found on a read is corrected, written back, and counted in ECC_CORRECTED. -/
  | eccCorrectedError (region : Nat) (addr : Nat)
  /-- UNCORRECTABLE_ERROR (R79): An uncorrectable error poisons the word, is counted, and triggers the reaction of its region. -/
  | uncorrectableError (spot : MemError)
  /-- ARB_PROMOTION (R82): A bank request that has waited ARB_AGE_LIMIT FAB cycles is promoted and counted. -/
  | arbPromotion (bank : Nat)
  /-- LOCKSTEP_MISMATCH (R143): A control pair fails; its outputs are discarded, its items move to their targets, and it starts a self-test. -/
  | lockstepMismatch (pair : Nat)
  /-- PAIR_SELF_TEST_END (R143): A failed pair's self-test ends, and the pair becomes STANDBY or RETIRED. -/
  | pairSelfTestEnd (unit : Nat) (passed : Bool)
  /-- LOOP_ENGINE_FAULT (R144): A loop engine fails on a trap, a memory error or two missed demands, and its legs and programs move to their targets. -/
  | loopEngineFault (engine : Nat)
  /-- CONTROL_CAPACITY_LOST (R145): An item left without a live target sends the station to BLOCKED, COAST or a restart according to the item and the state. -/
  | controlCapacityLost (item : Nat)
  /-- TRACE_TRIGGER (R158): The armed trace triggers on its condition, records the tide, fills the rest of its depth, and stops. -/
  | traceTrigger (code : Nat)
  /-- TRACE_ARMED (R158): An arming trace becomes ARMED once every channel holds its pretrigger share. -/
  | traceArmed
  /-- VOLTAGE_SAMPLE (R163): Each valid point-of-connection sample updates the sequence separation, the phase-locked loop, and the sector tracker. -/
  | voltageSample (c : Nat) (src : Nat) (m : PocSample)
  /-- SOURCE_LOSS_TIMEOUT (R162): No valid sample for SOURCE_LOSS_TIME changes to the alternative source, or sets SOURCE_LOST and acts by state. -/
  | sourceLossTimeout (c : Nat)
  /-- SCR_ESTIMATE (R166): Once a second the grid interface fits Δv+ against Δq and updates SCR_EST. -/
  | scrEstimate (c : Nat)
  /-- RT_CONFIRM_EXPIRY (R175): A ride-through condition held for RT_CONFIRM sends the station into RIDE-THROUGH. -/
  | rtConfirmExpiry (c : Nat)
  /-- RT_CURVE_CROSSED (R177): v+ beyond the ride-through curve for RT_CONFIRM sends the station to BLOCKED. -/
  | rtCurveCrossed (c : Nat)
  /-- RT_EXIT_HOLD_EXPIRY (R179): No ride-through condition for RT_EXIT_HOLD, with direct power control inactive, returns the station to RUNNING. -/
  | rtExitHoldExpiry
  /-- DPC_ENTRY (R181): An entry condition found in ride-through activates direct power control at the next tide start, or blocks when no vector is available. -/
  | dpcEntry (c : Nat)
  /-- DPC_EXIT_HOLD_EXPIRY (R184): v+ and LOCKED held for DPC_EXIT_HOLD end direct power control and rebase the integrators. -/
  | dpcExitHoldExpiry (c : Nat)
  /-- ISLANDING_DETECTED (R188): An islanding method detects; its flag latches, and ISLAND_REACTION applies in the active states. -/
  | islandingDetected (c : Nat) (how : Nat)
  /-- PROBE_PERIOD_START (R187): At each PROBE_PERIOD the GRID item injects the two negative-sequence bursts and updates PROBE_Z. -/
  | probePeriodStart (c : Nat)
  /-- GRID_STALL (R185): No forward sector transition for STALL_TIME is a stall: BLOCKED under direct power control, otherwise an islanding detection. -/
  | gridStall (c : Nat)
  /-- REVERSAL_DWELL_END (R189): The reversal dwell ends with a reversal if permitted, or HELD with a reason. -/
  | reversalDwellEnd (c : Nat)
  /-- COAST_END (R194): The pairs become ready; they take up their items, and the station returns to RUNNING or RIDE-THROUGH. -/
  | coastEnd
  /-- COAST_LIMIT_EXPIRY (R194): COAST_LIMIT passes without the pairs publishing, and the station goes to RAMP-DOWN with cause 2. -/
  | coastLimitExpiry
  /-- RAMP_DOWN_COMPLETE (R197): The references reach 0 with currents below 0.02 pu for 1 ms, and the station goes to BLOCKED. -/
  | rampDownComplete
  /-- RAMP_DOWN_GRACE_EXPIRY (R197): RAMP_DOWN_TIME + RAMP_DOWN_GRACE passes, and the station goes to BLOCKED with ramp-down incomplete. -/
  | rampDownGraceExpiry
  /-- VOC_MEASUREMENT_END (R208): An open-circuit measurement ends, and Voc is set from the mean port voltage. -/
  | vocMeasurementEnd (leaf : Nat)
  /-- SCAN_DUE (R211): A leaf's scan becomes due and starts when the arm's concurrency and curtailment allow. -/
  | scanDue (leaf : Nat)
  /-- SCAN_POINT_END (R212): A scan dwell ends, and the point's power is recorded; after the last point the best point is taken. -/
  | scanPointEnd (leaf : Nat)
  /-- SCAN_ABANDON (R213): A scan is abandoned on curtailment or a state change, and the reference returns to v_before. -/
  | scanAbandon (leaf : Nat)
  /-- CURTAIL_STEP (R217): Each CURTAIL_PERIOD the tracker moves a curtailed leaf's reference toward its power target. -/
  | curtailStep (leaf : Nat)
  /-- SENTINEL_ROTATE_EXPIRY (R216): Every SENTINEL_ROTATE the sentinels are released into CURTAILED, and the next ones are chosen. -/
  | sentinelRotateExpiry (arm : Nat)
  /-- CHARGE_TIMEOUT_EXPIRY (R337): CHARGE_TIMEOUT passes before the charge is complete, and the station goes to BLOCKED with pre-charge failed. -/
  | chargeTimeoutExpiry
  /-- RETIDE_RESTART (R328): After 16 silent tides the lanes restart under the new tide settings and TRAIN sets. -/
  | retideRestart
  /-- RETIDE_READY (R328): After a re-tide, 16 GOOD frames on every drove or 100 ms let the station go to READY, and the commit ends. -/
  | retideReady
  /-- BOOT_RESTORE (R329): At the end of BOOT the device loads the later valid EEPROM slot, measures the droves, and validates the image. -/
  | bootRestore
  /-- VALIDATION_COMPLETE (R324): A validation finishes and reports its first failure, recording the validated generation and check. -/
  | validationComplete
  /-- COMMIT_SLOT_WRITTEN (R326): The draft has been written to the inactive EEPROM slot, and the commit moves to verifying. -/
  | commitSlotWritten (ok : Bool) (stuck : Bool)
  /-- COMMIT_VERIFIED (R326): The slot reads back good; it becomes active and the committed image takes effect, or the commit fails with 0x12 or 0x13. -/
  | commitVerified (ok : Bool) (stuck : Bool)
  /-- SESSION_OPEN (R290): A SESSION_OPEN request creates a half-open session and returns a device nonce, or is refused. -/
  | sessionOpen (net : NetAddr) (f : ObjFrame)
  /-- SESSION_AUTH (R290): A SESSION_AUTH proof opens the session and derives Ks, or fails and discards the half-open session. -/
  | sessionAuth (net : NetAddr) (f : ObjFrame)
  /-- SESSION_CLOSE (R293): A SESSION_CLOSE request ends the session. -/
  | sessionClose (net : NetAddr) (f : ObjFrame)
  /-- KEEPALIVE (R285): A KEEPALIVE request keeps the session alive and is answered. -/
  | keepalive (net : NetAddr) (f : ObjFrame)
  /-- READ (R285): A READ request returns an object's value, subject to the checks of R295. -/
  | read (net : NetAddr) (f : ObjFrame)
  /-- WRITE (R295): A WRITE to an object without a row of its own is checked and takes effect at its place in the total order. -/
  | write (net : NetAddr) (f : ObjFrame)
  /-- BLOCK_READ_START (R288): A block read starts and snapshots the whole value. -/
  | blockReadStart (net : NetAddr) (f : ObjFrame)
  /-- BLOCK_READ_SEGMENT (R288): A segment request returns bytes of the block-read snapshot. -/
  | blockReadSegment (net : NetAddr) (f : ObjFrame)
  /-- BLOCK_WRITE_START (R288): A block write opens a transfer buffer. -/
  | blockWriteStart (net : NetAddr) (f : ObjFrame)
  /-- BLOCK_WRITE_SEGMENT (R288): A segment is appended at the next contiguous offset, or refused as out of order. -/
  | blockWriteSegment (net : NetAddr) (f : ObjFrame)
  /-- BLOCK_WRITE_END (R288): The assembled value is checked for length and CRC, then written as a WRITE would be. -/
  | blockWriteEnd (net : NetAddr) (f : ObjFrame)
  /-- TRANSFER_TIMEOUT_EXPIRY (R288): A block transfer with no progress for TRANSFER_TIMEOUT is discarded. -/
  | transferTimeoutExpiry (k : Nat)
  /-- HELD_REQUEST_EXPIRY (R286): Held out-of-order requests whose gap has not closed within 100 ms are dropped and counted. -/
  | heldRequestExpiry (k : Nat)
  /-- HALF_OPEN_TIMEOUT (R290): A half-open session not completed within 1 s is discarded. -/
  | halfOpenTimeout (k : Nat)
  /-- SESSION_TIMEOUT_EXPIRY (R293): No valid frame for SESSION_TIMEOUT ends the session. -/
  | sessionTimeoutExpiry (k : Nat)
  /-- NOTIFY_ACK (R299): A NOTIFY_ACK frees the notifications it covers. -/
  | notifyAck (net : NetAddr) (f : ObjFrame)
  /-- NOTIFY_RETRY_EXPIRY (R299): An unacknowledged notification is sent again every NOTIFY_RETRY. -/
  | notifyRetryExpiry (k : Nat)
  /-- NOTIFY (R298): The device sends a notification to each session whose mask enables its type. -/
  | notify (kind : Nat) (body : List Byte)
  /-- IMAGE_OUT (R301): An IMAGE_OUT fragment is assembled, and a complete output image is ordered and applied entry by entry. -/
  | imageOut (net : NetAddr) (f : ObjFrame)
  /-- IMAGE_CYCLE_START (R302): At each process-image cycle start the device sends each master's input image and judges missing outputs. -/
  | imageCycleStart
  /-- TOKEN_REQUEST (R306): A master requests the command token: it takes it when free, or is refused and the holder is told. -/
  | tokenRequest (k : Nat) (v : Nat)
  /-- TOKEN_FORCED (R306): An engineer session writes its code + 0x80 and takes the token at once. -/
  | tokenForced (k : Nat) (v : Nat)
  /-- TOKEN_RELEASE (R306): The holder releases the token. -/
  | tokenRelease (k : Nat) (v : Nat)
  /-- TOKEN_TIMEOUT_EXPIRY (R306): The holder silent for TOKEN_TIMEOUT frees the token, which may pass at once to the other master. -/
  | tokenTimeoutExpiry
  /-- SESSION_EVICT (R293): An engineer writes a session number to SESSION_EVICT, and that session ends. -/
  | sessionEvict (k : Nat) (v : Nat)
  /-- ROLE_KEY_WRITE (R294): A role key is written into the non-volatile store and applies to later sessions. -/
  | roleKeyWrite (k : Nat) (which : Nat) (value : List Byte)
  /-- SV_FRAME (R310): A sampled-value frame is accepted for its stream or discarded, and its samples feed the grid interface. -/
  | svFrame (port : Nat) (m : SvFrame)
  /-- FRAME_DROPPED (R282): A host-port frame of an unsupported protocol or malformed datagram is dropped and counted. -/
  | frameDropped (port : Nat)
  /-- ARP_ICMP_REQUEST (R282): An ARP request for the port's address or an ICMP echo request is answered. -/
  | arpIcmpRequest (port : Nat) (kind : Nat) (target : Nat) (data : List Byte)
  /-- QUEUE_POST (R87): A host posts a message to a leaf-bound queue; it is enqueued, completed as a repeat, or refused. -/
  | queuePost (k : Nat) (value : List Byte)
  /-- QUEUE_SELECT (R88): A session sets the queue that its own descriptor and peek reads name. -/
  | queueSelect (k : Nat) (v : Nat)
  /-- QUEUE_RELEASE (R88): A write removes the head message when its SEQ matches. -/
  | queueRelease (k : Nat) (value : List Byte)
  /-- QUEUE_CLEAR_RETURNED (R88): A write discards the returned messages of a RETURNED queue and reopens it. -/
  | queueClearReturned (k : Nat) (v : Nat)
  /-- SUB_ENABLE (R100): Enabling a subscription is checked against the 500 MB/s output budget. -/
  | subEnable (k : Nat) (n : Nat) (v : Nat)
  /-- SUB_RELEASE (R99): A record counter written to SUB_RELEASE frees that record and all before it. -/
  | subRelease (k : Nat) (n : Nat) (v : Nat)
  /-- MISS_COUNTER_CLEAR (R22): A write of 0 clears a tide miss counter; any other value is refused. -/
  | missCounterClear (k : Nat) (which : Nat) (v : Nat)
  /-- RT_MEASURE (R63): A write of 1 starts a round-trip measurement of the drove. -/
  | rtMeasure (k : Nat) (d : Nat) (v : Nat)
  /-- REBALANCE (R143): A write of 1 returns items to their configured units at the next tide start. -/
  | rebalance (k : Nat) (v : Nat)
  /-- PLAUS_CLEAR (R149): A write of 1 clears PLAUS_FLAGS, SENSOR_FLAGS and SUM_CHECK_FLAGS. -/
  | plausClear (k : Nat) (v : Nat)
  /-- TRACE_ARM (R158): A write of 1 to TRACE_CONTROL arms the trace. -/
  | traceArm (k : Nat)
  /-- TRACE_MANUAL_TRIGGER (R158): A write of 2 to TRACE_CONTROL triggers the trace manually. -/
  | traceManualTrigger (k : Nat)
  /-- TRACE_STOP (R158): A write of 0 to TRACE_CONTROL stops the trace at once and returns it to IDLE. -/
  | traceStop (k : Nat)
  /-- CORE_RESTART (R195): A write of 1 starts COAST in RUNNING when permitted, or restarts the pairs without COAST in the resting states. -/
  | coreRestart (k : Nat) (v : Nat)
  /-- RAMP_DOWN_REQUEST (R196): A write of 1 sends the station into RAMP-DOWN with cause 1. -/
  | rampDownRequest (k : Nat) (v : Nat)
  /-- ISLAND_CLEAR (R186): A write of 1 clears the latched islanding flags. -/
  | islandClear (k : Nat) (c : Nat) (v : Nat)
  /-- GRID_MODE_WRITE (R174): A change of GRID_MODE makes a bumpless transfer at the next permitted reference mark. -/
  | gridModeWrite (k : Nat) (c : Nat) (v : Nat)
  /-- SCAN_ABORT (R213): A write of 1 abandons every running scan. -/
  | scanAbort (k : Nat) (v : Nat)
  /-- SELF_TEST_COMMAND (R235): PROT_COMMAND 0x01 checks the preconditions and posts SELF_TEST to the leaf. -/
  | selfTestCommand (k : Nat) (leaf : Nat) (args : List Byte)
  /-- SC_CLEAR_COMMAND (R232): PROT_COMMAND 0x02 posts SC_CLEAR when SC_TRIP was last seen set. -/
  | scClearCommand (k : Nat) (leaf : Nat)
  /-- PERMANENT_BYPASS_COMMAND (R238): PROT_COMMAND 0x03 pens the leaf with cause 1 and commands permanent bypass. -/
  | permanentBypassCommand (k : Nat) (leaf : Nat)
  /-- RELEASE_BYPASS_COMMAND (R232): PROT_COMMAND 0x04 posts RELEASE_BYPASS for a penned leaf. -/
  | releaseBypassCommand (k : Nat) (leaf : Nat)
  /-- PEN_WITHOUT_BYPASS_COMMAND (R238): PROT_COMMAND 0x80 pens the leaf with cause 1 and without bypass. -/
  | penWithoutBypassCommand (k : Nat) (leaf : Nat)
  /-- CLEAR_RETIREMENT_COMMAND (R239): PROT_COMMAND 0x81 in HELD clears RETIRED and sets PENNINGS to 0. -/
  | clearRetirementCommand (k : Nat) (leaf : Nat)
  /-- LEAF_READMIT (R272): A write of 1 checks the readmission conditions and posts READMIT. -/
  | leafReadmit (k : Nat) (leaf : Nat) (v : Nat)
  /-- READMIT_STEP (R274): A readmission step completes on its ending event, and the next step begins. -/
  | readmitStep (leaf : Nat)
  /-- REJOIN_REQUEST (R267): An engineer requests the rejoin of a drove and clears REJOIN_HELD. -/
  | rejoinRequest (k : Nat) (v : Nat)
  /-- VALIDATE (R324): A write of 1 starts validation of the draft. -/
  | validate (k : Nat) (v : Nat)
  /-- CONFIG_COMMIT (R326): A write of the validated check starts a commit, or is refused with a COMMIT_STATUS. -/
  | configCommit (k : Nat) (v : Nat)
  /-- DRAFT_FROM_COMMITTED (R330): DRAFT_DISCARD 1 replaces the draft with the committed image. -/
  | draftFromCommitted (k : Nat)
  /-- DRAFT_FROM_FACTORY (R330): DRAFT_DISCARD 2 replaces the draft with the factory image. -/
  | draftFromFactory (k : Nat)
  /-- HOLD (R333): State request 1 takes the station to HELD with reason 4. -/
  | hold (k : Nat)
  /-- CHARGE (R333): State request 2 starts pre-charge in CHARGING. -/
  | charge (k : Nat)
  /-- RUN (R339): State request 3 starts the outputs in RUNNING. -/
  | run (k : Nat)
  /-- STOP (R333): State request 4 sends the station into RAMP-DOWN with cause 7. -/
  | stop (k : Nat)
  /-- BLOCK (R333): State request 5 sends the station to BLOCKED and replaces a pending request. -/
  | block (k : Nat)
  /-- DISCHARGE (R340): State request 6 leads to READY once the arms are discharged. -/
  | discharge (k : Nat)
  /-- SAFE_RESET (R333): State request 7 takes the station from SAFE to BLOCKED or HELD. -/
  | safeReset (k : Nat)
  /-- PTP_SYNC (R353): A Sync message yields an offset, and the servo updates the increment or rate. -/
  | ptpSync (port : Nat) (m : SyncMsg)
  /-- PTP_ANNOUNCE (R349): An Announce message is fed to the BMCA, which qualifies masters and selects the active one. -/
  | ptpAnnounce (port : Nat) (m : AnnounceMsg)
  /-- ANNOUNCE_RECEIPT_TIMEOUT (R356): The announce receipt timeout passes, and without a qualified master the device enters HOLDOVER. -/
  | announceReceiptTimeout (port : Nat) (clock : Nat)
  /-- PTP_DELAY_REQ_SEND (R348): At PTP_LOG_DELAY_INTERVAL the device sends a Delay_Req or Pdelay_Req. -/
  | ptpDelayReqSend (port : Nat) (sent : Bool) (stamp : Int)
  /-- PTP_DELAY_RESPONSE (R348): A Delay_Resp or Pdelay_Resp completes a path-delay exchange. -/
  | ptpDelayResponse (port : Nat) (m : DelayMsg)
  /-- PDELAY_REQ_RECEIVED (R348): A received Pdelay_Req is answered one-step or two-step. -/
  | pdelayReqReceived (port : Nat) (seqId : Nat) (domain : Nat) (rx : Int) (tx : Int)
  /-- TS_ENTRY_STALE (R352): A transmit timestamp unread for 100 ms is freed and counted in TS_STALE. -/
  | tsEntryStale (port : Nat) (ident : Nat)
  /-- TIME_STEP (R359): Station time is stepped through a silence of the lanes, and the tide restarts under the new time. -/
  | timeStep
  /-- TIME_STEP_PERMIT (R358): A write of 1 permits the pending step in a state that allows it. -/
  | timeStepPermit (k : Nat) (v : Nat)
  /-- TIME_SET (R360): A write sets station time directly by a step. -/
  | timeSet (k : Nat) (v : Nat)
  /-- TIME_INCREMENT_WRITE (R353): With SERVO_SOURCE 1, a host-written increment takes effect at the next tide start. -/
  | timeIncrementWrite (k : Nat) (v : Nat)
  /-- RATE_ADJUST_WRITE (R353): With SERVO_SOURCE 1, a host-written mode 1 rate takes effect at the next tide start. -/
  | rateAdjustWrite (k : Nat) (v : Nat)
  /-- PPS_SECOND (R361): At each whole second + PPS_OFFSET, PPS_OUT pulses unless squelched. -/
  | ppsSecond
  /-- TIME_TOLERANCE_CHANGE (R347): The error estimate crosses TIME_ALARM_BOUND, and the matching event is raised. -/
  | timeToleranceChange
  /-- REF_LOST (R364): REF is lost; the PLLs freeze, and the device falls back to the other source. -/
  | refLost (src : Nat)
  /-- REF_RESTORED (R364): A REF source becomes present, the device switches to it, and the PLLs leave their freeze. -/
  | refRestored (src : Nat)
  /-- PLL_LOCK (R363): A PLL locks and stores its band search. -/
  | pllLock (pll : Nat) (us : Nat)
  /-- GRID_SAMPLE (R374): At each metering grid instant the channels are evaluated, power is formed, and energy is accumulated. -/
  | gridSample (readings : List MeterReading) (span : Nat)
  /-- METER_WINDOW_BOUNDARY (R378): At each 200 ms boundary the chain publishes its window quantities, adds apparent energy, applies coefficient changes, and refreshes the cove copy. -/
  | meterWindowBoundary
  /-- CHANNEL_CLOCK_CHECK (R370): Each second a bitstream input's clock count is compared with nominal, and FAULT is set when it is off rate. -/
  | channelClockCheck (ch : Nat) (count : Nat) (moving : Bool)
  /-- CHANNEL_CLOCK_MISSING (R370): No clock edge for 2 µs sets FAULT on the bitstream input. -/
  | channelClockMissing (ch : Nat)
  /-- CHANNEL_DATA_STUCK (R370): Data held for 64 consecutive clocks sets DEAD on the bitstream input. -/
  | channelDataStuck (ch : Nat)
  /-- SNAPSHOT_TRIGGER (R381): A write of 1 takes an accumulator snapshot at the next grid boundary. -/
  | snapshotTrigger (k : Nat) (v : Nat)
  /-- ENERGY_PRESET (R382): A write sets one accumulator at the next grid boundary. -/
  | energyPreset (k : Nat) (m : Nat) (value : List Byte)
  /-- METER_FLAGS_CLEAR (R390): A write clears the selected bits of METER_FLAGS. -/
  | meterFlagsClear (k : Nat) (m : Nat) (v : Nat)
  /-- PULSE_EMIT (R385): A due pulse is emitted on a pulse output, spaced by at least 2 × PULSE_WIDTH. -/
  | pulseEmit (n : Nat)
  /-- CAL_CHANNELS (R386): A write starts an offset calibration of the named metering channels. -/
  | calChannels (k : Nat) (v : Nat)
  /-- CAL_HALF_END (R386): A calibration half ends; after the second half the offsets are replaced, or the calibration fails. -/
  | calHalfEnd
  /-- SAR_BACKGROUND_CONVERSION (R398): A background conversion completes into the data register, with an overrun if the previous result was not taken. -/
  | sarBackgroundConversion (conv : Nat) (input : Nat) (code : Nat) (taken : Bool)
  /-- SAR_DATA_READ (R398): A read of SAR_DATA returns the register and clears OVERRUN. -/
  | sarDataRead (k : Nat) (conv : Nat)
  /-- SAR_CAL (R400): A write starts an offset calibration of the named SAR converters. -/
  | sarCal (k : Nat) (v : Nat)
  /-- SAR_CAL_END (R401): A SAR calibration ends with its status, replacing the offsets on success. -/
  | sarCalEnd (failed : Nat) (readings : List SarReading)
  /-- SAR_SELF_CAL_END (R399): A converter's array self-calibration ends, or fails with SELF_CAL_FAILED. -/
  | sarSelfCalEnd (conv : Nat) (passed : Bool)
  /-- SENSOR_DECIMATOR_OUTPUT (R402): A sensor decimator completes an output used as the tide's bitstream sample. -/
  | sensorDecimatorOutput (input : Nat) (code : Int) (outputs : Nat) (delay : Int)
  /-- COMPARATOR_CHANGE (R405): A window comparator's output leaves its window, latches its flag, and feeds its routes. -/
  | comparatorChange (c : Nat) (outside : Bool)
  /-- BLANKING_START (R404): The blanking source starts an interval that holds the comparator output. -/
  | blankingStart (c : Nat)
  /-- BLANKING_END (R404): A blanking interval ends, and the comparator output passes again. -/
  | blankingEnd (c : Nat) (outside : Bool)
  /-- CMP_CLEAR (R405): A write clears the latched comparator flags whose outputs are inside. -/
  | cmpClear (k : Nat) (v : Nat)
  /-- PWM_VALLEY (R407): At each valley a PWM pair takes its duty and starts a period. -/
  | pwmValley (q : Nat) (correction : Nat)
  /-- PWM_DUTY_WRITE (R410): A write of PWM_DUTY sets the duty of a pair whose duty source is the object. -/
  | pwmDutyWrite (k : Nat) (q : Nat) (v : Nat)
  /-- DELAY_LINE_CALIBRATION (R409): Every 100 µs the delay-line replica is calibrated and the tap table updated, or DELAY_UNCAL is set. -/
  | delayLineCalibration (matched : Bool)
  /-- GPIO_OUT_WRITE (R413): A write of GPIO_OUT drives the output pins. -/
  | gpioOutWrite (k : Nat) (v : Nat)
  /-- GPIO_EDGE (R413): A debounced GPIO edge enabled for events raises GPIO edge. -/
  | gpioEdge (pin : Nat) (level : Bool)
  /-- XCVR_POLL (R417): Every XCVR_POLL the device polls each enabled drove's transceiver and updates XCVR_TABLE. -/
  | xcvrPoll
  /-- PMBUS_POLL (R418): Every PMBUS_POLL the device polls each regulator and updates PMBUS_TABLE. -/
  | pmbusPoll
  /-- MBUS_REQUEST (R419): A host management-bus request is queued and run, with its result in MBUS_RESULT. -/
  | mbusRequest (k : Nat) (value : List Byte)
  /-- MBUS_TRANSACTION_END (R414): A management-bus transaction reaches its stop, and the next one is chosen. -/
  | mbusTransactionEnd (outcome : Nat) (data : List Byte)
  /-- MBUS_RECOVERY (R416): The device recovers the bus by clocking it free, or sets MBUS_STUCK. -/
  | mbusRecovery (freed : Bool)
  /-- SAFETY_INPUT_CHANGE (R433): A safety contact leaves or returns to healthy, and the channels set or release the pair's demand. -/
  | safetyInputChange (pair : Nat) (a : Bool) (b : Bool) (glitch : Bool)
  /-- SIN_DISCREPANCY_EXPIRY (R434): A pair whose contacts do not follow each other within SIN_DISCREPANCY has a discrepancy fault. -/
  | sinDiscrepancyExpiry (pair : Nat)
  /-- RESET_PRESS (R435): A reset pair released after 0.1 s to 5 s acts as a Breakwater reset. -/
  | resetPress (pair : Nat)
  /-- BREAKWATER_DEMAND (R428): A BLOCK, TRIP or INHIBIT demand is raised and carried out by both channels. -/
  | breakwaterDemand (cause : Nat) (dead : List Nat)
  /-- BLOCK_SET_REPEAT (R42): While a block demand holds, a BLOCK set goes out on every enabled lane every 64 code blocks. -/
  | blockSetRepeat
  /-- BLOCK_RELEASE (R441): At a tide start with no demand the release begins, sending BLOCK_RELEASE for four tides. -/
  | blockRelease
  /-- PERIODIC_RELEASE (R441): Every 1,024 tides without a demand the device sends a BLOCK_RELEASE naming the tide 4 ahead. -/
  | periodicRelease
  /-- HEARTBEAT_WINDOW_CLOSE (R445): A heartbeat window closes without a good word, and HEARTBEAT_MISSES misses raise BLOCK. -/
  | heartbeatWindowClose
  /-- TEST_PULSE (R437): Each energised trip output is pulsed off in turn, and its readback is checked. -/
  | testPulse (output : Nat) (ok : Bool)
  /-- FAST_PATH_TEST (R443): A routed comparator is tested with a stand-in guarding its pin. -/
  | fastPathTest (c : Nat) (result : Nat)
  /-- CHANNEL_DIAGNOSTIC_CHECK (R446): A periodic channel diagnostic runs and reports any fault it finds. -/
  | channelDiagnosticCheck (code : Nat) (bad : Bool)
  /-- CHANNEL_FAULT (R447): A Breakwater channel fault raises TRIP or enters degraded mode. -/
  | channelFault (code : Nat) (fallen : Bool)
  /-- ALIVE_MONITOR_EXPIRY (R446): Channel A's loop fails to retrigger channel B's monostable within 20 µs, and B raises BLOCK. -/
  | aliveMonitorExpiry
  /-- DEGRADED_TIME_EXPIRY (R448): DEGRADED_REMAINING reaches 0, and the healthy channel raises TRIP. -/
  | degradedTimeExpiry
  /-- SAFETY_RESET (R449): A host reset clears the latched causes that are absent. -/
  | safetyReset (k : Nat) (v : Nat)
  /-- SAFETY_SESSION_RESET (R449): A safety-session reset clears the latched causes that are absent. -/
  | safetySessionReset (k : Nat) (v : Nat)
  /-- TRIP_RELEASE (R436): A write of 1 lets the channels energise their trip outputs. -/
  | tripRelease (k : Nat) (v : Nat)
  /-- SAFETY_DEMAND (R431): A safety session writes a BLOCK, TRIP or INHIBIT demand, or clears it. -/
  | safetyDemand (k : Nat) (v : Nat)
  /-- SAFETY_SELFTEST (R451): A safety session starts a Breakwater self-test again. -/
  | safetySelftest (k : Nat) (v : Nat)
  /-- BREAKWATER_SELFTEST_END (R451): The Breakwater self-test ends with a pass that clears its causes, or with a channel fault. -/
  | breakwaterSelftestEnd (code : Nat)
  /-- SAFETY_CONFIRM (R450): A safety session confirms the safety parameters by writing their check. -/
  | safetyConfirm (k : Nat) (v : Nat)
  /-- PORN_LOW (R459): PORN low holds a FULL reset. -/
  | pornLow
  /-- SRSTN_LOW (R459): SRSTN low holds a SYSTEM reset. -/
  | srstnLow
  /-- SUPPLY_MONITOR_TRIP (R509): A rail below its threshold for 2 µs holds a FULL reset. -/
  | supplyMonitorTrip (rail : Nat)
  /-- CRITICAL_STATE_PARITY (R459): A critical-state parity error resets the reach of its domain. -/
  | criticalStateParity (domain : Nat)
  /-- LOOKOUT_WATCHDOG_EXPIRY (R459): No service of the lookout watchdog for LOOKOUT_WDT causes a CORE reset. -/
  | lookoutWatchdogExpiry
  /-- CORE_RESET (R460): DEVICE_RESET code 1 requests a CORE reset. -/
  | coreReset (k : Nat)
  /-- SYSTEM_RESET (R460): DEVICE_RESET code 2 requests a SYSTEM reset. -/
  | systemReset (k : Nat)
  /-- FULL_RESET (R460): DEVICE_RESET code 3 from a safety session requests a FULL reset. -/
  | fullReset (k : Nat)
  /-- RESET_SOURCE_RELEASED (R461): An active reset source ends, and release may proceed from the first domain of its reach. -/
  | resetSourceReleased (src : Nat)
  /-- DOMAIN_RELEASE (R462): A domain's gap ends, and the domain is released. -/
  | domainRelease
  /-- OPTION_LOAD_DONE (R468): The option loader finishes and loads the option view, or loads the smallest view with OPTION_FAULT. -/
  | optionLoadDone (view : OptionView)
  /-- STORE_INIT_DONE (R462): The shared store holds zeros with valid check bits, and FABRIC is ready. -/
  | storeInitDone
  /-- BOOT_COMPLETE (R335): The loader has finished, the lookout cores run, and the station clock is locked, so the station enters HELD. -/
  | bootComplete
  /-- UNIT_DOZE (R470): An idle unit with its next mark at least 20 µs ahead enters DOZE, and wakes 2 µs before the mark. -/
  | unitDoze (unit : Nat) (doze : Bool)
  /-- SCHEDULED_WAKE (R474): The controller begins to wake at the event − wake(S) − WAKE_GUARD. -/
  | scheduledWake
  /-- WAKE_EVENT (R475): A demand, host signal, GPIO edge, reset source or write wakes the device at once from NAP or DORMANT. -/
  | wakeEvent (why : Nat)
  /-- WAKE_ATTEMPT_TIMEOUT (R476): PG_CORE or REF is late in a DORMANT wake attempt, so the device returns to retention and retries, or sets POWER_FAULT. -/
  | wakeAttemptTimeout (pgLate : Bool) (refLate : Bool)
  /-- POWER_RETRY (R476): A write of 1 runs three more wake attempts. -/
  | powerRetry (k : Nat) (v : Nat)
  /-- POWER_MAX_STATE_WRITE (R475): A write of POWER_MAX_STATE sets the deepest state and wakes the device. -/
  | powerMaxStateWrite (k : Nat) (v : Nat)
  /-- NEXT_DISPATCH_WRITE (R473): A write sets the dispatch calendar event that bounds NAP and DORMANT. -/
  | nextDispatchWrite (k : Nat) (v : Nat)
  /-- AUX_POWER_WARNING (R480): VIO33 falls below 3.0 V, and the device writes the event tail and energy copy and hands time to the cove. -/
  | auxPowerWarning
  /-- COVE_STORES_EXHAUSTED (R481): Every cove store falls below 1.60 V, and the cove stops with its contents lost. -/
  | coveStoresExhausted
  /-- COVE_COLD_START (R481): The quick store reaches 2.2 V, and the cove cold-starts with cleared contents and unknown time. -/
  | coveColdStart
  /-- COVE_SECOND_RESYNC (R479): At each whole second the cove's KEEP counter is re-synchronised to TIME. -/
  | coveSecondResync
  /-- JUNCTION_TEMPERATURE_CHANGE (R520): A die sensor crosses 145 °C, 140 °C or 155 °C, and the matching event is raised. -/
  | junctionTemperatureChange (die : Nat) (t : Int)
  /-- EVENT_EMIT (R489): A source delivers an event into the log intake, or it is dropped when the intake is full. -/
  | eventEmit (rank : Nat) (num : Nat) (severity : Nat) (inst : Nat) (args : List Byte)
  /-- EVENT_COMMIT (R489): 50 µs after its stamp, an event is committed to the ring in key order and notified by severity. -/
  | eventCommit
  /-- LOG_CURSOR_WRITE (R492): A session sets its log cursor, refused when ahead of LOG_NEXT_SEQ. -/
  | logCursorWrite (k : Nat) (v : Nat)
  /-- ALARM_ACK (R493): A write acknowledges every alarm up to the given EVENT_SEQ. -/
  | alarmAck (k : Nat) (v : Nat)
  /-- PMC_OVERFLOW (R497): A performance counter carries past 0xFFFF_FFFF, sets its sticky bit, and may request a sample. -/
  | pmcOverflow (c : Nat) (add : Nat) (wr : Option Nat) (clear : Bool)
  /-- PMC_SAMPLE_CAPTURE (R499): The sample unit captures a waiting sample request into the ring, or skips or drops it. -/
  | pmcSampleCapture (context : Nat)
  /-- PMC_SETTINGS_WRITE (R496): A write of a counter's event, instance, mode or threshold takes effect on the next FAB edge. -/
  | pmcSettingsWrite (k : Nat) (c : Nat) (sub : Nat) (v : Nat)
  /-- PMC_VALUE_WRITE (R497): A write sets a counter's value. -/
  | pmcValueWrite (k : Nat) (c : Nat) (v : Nat)
  /-- PMC_STATUS_CLEAR (R497): A write clears counter sticky bits, except on an overflow edge. -/
  | pmcStatusClear (k : Nat) (v : Nat)
  /-- PMC_FREEZE (R496): A write freezes or resumes every counter on one edge. -/
  | pmcFreeze (k : Nat) (v : Nat)
  /-- PMC_SAMPLE_RELEASE (R499): A write frees the given sample record and all before it. -/
  | pmcSampleRelease (k : Nat) (v : Nat)
  /-- HISTOGRAM_OBSERVATION (R500): An observation of a histogram's source is binned into that histogram. -/
  | histogramObservation (h : Nat) (inst : Nat) (value : Nat)
  /-- HIST_CLEAR (R500): A write of 1 zeroes a histogram on one edge and stamps the time. -/
  | histClear (k : Nat) (h : Nat) (v : Nat)
  /-- DEBUG_CHALLENGE (R502): A read of DEBUG_CHALLENGE returns a fresh nonce. -/
  | debugChallenge (k : Nat)
  /-- DEBUG_UNLOCK (R502): A correct HMAC unlocks the debug port; a wrong one is refused and counted. -/
  | debugUnlock (k : Nat) (mac : List Byte)
  /-- DEBUG_LOCK (R502): A write of 1 releases every halt and locks the debug port. -/
  | debugLock (k : Nat) (v : Nat)
  /-- LANE_BLOCK_LOCK_GAINED (R36): A lane input gains block lock after 64 consecutive valid sync headers, and the lane leaves training. -/
  | laneBlockLockGained (d : Nat)
  /-- HOST_PORT_LINK_CHANGE (R475): A host port's link goes up or down, which updates PORT_LINK and, in DORMANT, a detected signal wakes the device. -/
  | hostPortLinkChange (port : Nat) (up : Bool)
  /-- PLL_LOCK_LOSS (R362): A PLL loses lock, which is counted in PLL_LOCK_LOSSES and, for a lane PLL, makes its next lock renew each lane's phase reference. -/
  | pllLockLoss (pll : Nat)
  /-- SYNC_RECEIPT_TIMEOUT (R349): Three Sync intervals pass without a Sync from a foreign master, which disqualifies it and may leave no active master. -/
  | syncReceiptTimeout (port : Nat) (clock : Nat)
  /-- DELAY_EXCHANGE_TIMEOUT (R352): A delay or peer-delay exchange whose frame was never sent, or never answered, times out after 100 ms and is abandoned. -/
  | delayExchangeTimeout (port : Nat)
  /-- PG_CORE_REPORT (R476): The core regulator reports PG_CORE during a wake from DORMANT, letting the PLLs relock and the lanes restart. -/
  | pgCoreReport
  /-- SV_STREAM_LOSS_TIMEOUT (R311): A sampled-value stream stops being valid after SOURCE_LOSS_TIME without a valid sample, and SV_STATE changes. -/
  | svStreamLossTimeout (st : Nat)
  /-- JTAG_ACCESS (R502): An operation on the JTAG port loads a boundary-scan instruction, or through the unlocked debug port halts, steps, reads or writes a unit. -/
  | jtagAccess (acc : JtagOp)
  /-- CLKOUT_ALIGNMENT_STEP (R366): An aligning clock output takes a glitch-free phase step, and sets CLKOUT_ALIGNED once its edge falls within ±0.5 ns of the second. -/
  | clkoutAlignmentStep (o : Nat) (delta : Int) (aligned : Bool)
  /-- TRIP_READBACK_CHANGE (R437): A trip readback pin changes level while its output is de-energised, which counts a readback fault and a fault of that channel. -/
  | tripReadbackChange (output : Nat) (level : Bool)
  deriving DecidableEq, Repr

end Sys2Proof
end

