-- ==== Sys2Proof/Machine/Num.lean ====
section
/-! DEFINITION. Number helpers: little-endian bytes (R6), two's complement, rounding to nearest with ties to even (R7),
saturating counters, per-unit and binary32 formats (R6). -/

namespace Sys2Proof.Machine

/-- The `n` little-endian bytes of `v` (R6). -/
def leBytes : Nat → Nat → List Byte
  | 0, _ => []
  | n + 1, v => BitVec.ofNat 8 v :: leBytes n (v / 256)

/-- The number little-endian bytes spell (R6). -/
def leNat : List Byte → Nat
  | [] => 0
  | b :: bs => b.toNat + 256 * leNat bs

/-- The two's complement reading of the low `w` bits of `v`. -/
def toSigned (w v : Nat) : Int :=
  let m := v % 2 ^ w
  if m < 2 ^ (w - 1) then (m : Int) else (m : Int) - (2 ^ w : Nat)

/-- The low `w` bits that spell the integer `i` in two's complement. -/
def ofSigned (w : Nat) (i : Int) : Nat := (i % ((2 ^ w : Nat) : Int)).toNat

/-- Nearest integer, ties to even (R7). -/
def roundHalfEven (x : Rat) : Int :=
  let f := x.floor
  let r := x - (f : Rat)
  if r < 1 / 2 then f
  else if 1 / 2 < r then f + 1
  else if f % 2 = 0 then f else f + 1

/-- `n / d` rounded to the nearest integer, ties to even. -/
def divHalfEven (n : Int) (d : Nat) : Int := roundHalfEven ((n : Rat) / (d : Rat))

/-- Clamp an integer into a closed range. -/
def clampInt (lo hi x : Int) : Int := if x < lo then lo else if hi < x then hi else x

/-- Clamp a rational into a closed range. -/
def clampRat (lo hi x : Rat) : Rat := if x < lo then lo else if hi < x then hi else x

/-- Absolute value of a rational. -/
def absRat (x : Rat) : Rat := if x < 0 then -x else x

/-- Maximum and minimum of rationals. -/
def maxRat (x y : Rat) : Rat := if x < y then y else x

/-- Minimum of two rationals. -/
def minRat (x y : Rat) : Rat := if y < x then y else x

/-- A counter that stops at its largest value. -/
def satAdd (max v n : Nat) : Nat := if max < v + n then max else v + n

/-- Bit `i` of `v`. -/
def bit (v i : Nat) : Bool := v.testBit i

/-- `v` with bit `i` set. -/
def setBit (v i : Nat) : Nat := if v.testBit i then v else v + 2 ^ i

/-- `v` with bit `i` clear. -/
def clearBit (v i : Nat) : Nat := if v.testBit i then v - 2 ^ i else v

/-- `v` with bit `i` equal to `b`. -/
def putBit (v i : Nat) (b : Bool) : Nat := if b then setBit v i else clearBit v i

/-- `v` with every bit of `mask` clear. -/
def clearMask (v mask : Nat) : Nat := v - (v &&& mask)

/-- Bits `hi` down to `lo` of `v`. -/
def bits (v hi lo : Nat) : Nat := (v / 2 ^ lo) % 2 ^ (hi + 1 - lo)

/-- `v` with the `w` bits from `lo` up replaced by `x`. -/
def putBits (v lo w x : Nat) : Nat := v - bits v (lo + w - 1) lo * 2 ^ lo + (x % 2 ^ w) * 2 ^ lo

/-- How many of the low `n` bits of `v` are set. -/
def popCount : Nat → Nat → Nat
  | 0, _ => 0
  | n + 1, v => (if v.testBit n then 1 else 0) + popCount n v

/-- The indices below `n` whose bit of `v` is set, ascending. -/
def bitsSet (n v : Nat) : List Nat := (List.range n).filter (fun i => v.testBit i)

/-- 1 for true, 0 for false. -/
def b2n (b : Bool) : Nat := if b then 1 else 0

/-- Serial-number order modulo `2 ^ w` (R248): `a` is ahead of `b`. -/
def aheadOf (w a b : Nat) : Bool :=
  let d := (a + 2 ^ w - b % 2 ^ w) % 2 ^ w
  decide (0 < d) && decide (d < 2 ^ (w - 1))

/-! ### Per-unit values: I32 with 24 fraction bits (R6). -/

/-- Smallest PU24 code. -/
def pu24Min : Int := -(2 ^ 31)

/-- Largest PU24 code. -/
def pu24Max : Int := 2 ^ 31 - 1

/-- Saturation of an integer into the PU24 code range. -/
def pu24Sat (i : Int) : Int := clampInt pu24Min pu24Max i

/-- The value a raw 32-bit PU24 code stands for. -/
def pu24ToRat (raw : Nat) : Rat := ((toSigned 32 raw : Int) : Rat) / ((2 ^ 24 : Nat) : Rat)

/-- The raw PU24 code nearest to a value, ties to even (R7), saturated. -/
def pu24OfRat (x : Rat) : Nat := ofSigned 32 (pu24Sat (roundHalfEven (x * ((2 ^ 24 : Nat) : Rat))))

/-! ### Binary32 (R6). -/

/-- A binary32 pattern is finite: neither an infinity nor a NaN. -/
def f32Finite (raw : Nat) : Bool := decide (bits raw 30 23 ≠ 255)

/-- The value of a finite binary32 pattern; a NaN or infinity reads as 0 here (the writers refuse them, R6). -/
def f32ToRat (raw : Nat) : Rat :=
  let e := bits raw 30 23
  let m := bits raw 22 0
  let mag : Rat :=
    if e = 255 then 0
    else if e = 0 then (m : Rat) / ((2 ^ 149 : Nat) : Rat)
    else if 150 ≤ e then (((2 ^ 23 + m) * 2 ^ (e - 150) : Nat) : Rat)
    else ((2 ^ 23 + m : Nat) : Rat) / ((2 ^ (150 - e) : Nat) : Rat)
  if raw.testBit 31 then -mag else mag

/-- Binary exponent `e` with `2 ^ e ≤ x < 2 ^ (e + 1)` for `0 < x`, from the bit lengths of numerator and denominator. -/
def ratLog2 (x : Rat) : Int :=
  let e : Int := (x.num.natAbs.log2 : Int) - (x.den.log2 : Int)
  let p : Rat := if 0 ≤ e then ((2 ^ e.toNat : Nat) : Rat) else 1 / ((2 ^ (-e).toNat : Nat) : Rat)
  if x < p then e - 1 else e

/-- `x` times a power of two. -/
def scale2 (x : Rat) (e : Int) : Rat :=
  if 0 ≤ e then x * ((2 ^ e.toNat : Nat) : Rat) else x / ((2 ^ (-e).toNat : Nat) : Rat)

/-- Largest finite binary32 magnitude. -/
def f32MaxBits : Nat := 0x7F7FFFFF

/-- Binary32 of a rational: round to nearest, ties to even; a result below the normal range is flushed to zero and one
beyond the largest finite value becomes that value, as the loop arithmetic does (R152). -/
def f32OfRat (x : Rat) : Nat :=
  if x = 0 then 0
  else
    let sign := if x < 0 then 2 ^ 31 else 0
    let a := absRat x
    let e := ratLog2 a
    let m := (roundHalfEven (scale2 a (23 - e))).toNat
    let (m, e) := if m = 2 ^ 24 then (2 ^ 23, e + 1) else (m, e)
    if e < -126 then sign
    else if 127 < e then sign + f32MaxBits
    else sign + ((e + 127).toNat) * 2 ^ 23 + (m - 2 ^ 23)

/-! ### Station time values: STIME as one 128-bit number, seconds in the low 64 bits (R6). -/

/-- Seconds of an STIME. -/
def stimeSec (v : Nat) : Nat := bits v 63 0

/-- Nanoseconds of an STIME. -/
def stimeNs (v : Nat) : Nat := bits v 95 64

/-- Sub-nanosecond fraction of an STIME, 2⁻¹⁶ ns. -/
def stimeFrac (v : Nat) : Nat := bits v 111 96

/-- Quality of an STIME. -/
def stimeQuality (v : Nat) : Nat := bits v 127 112

/-- An STIME from its four parts. -/
def stimeMk (sec ns frac quality : Nat) : Nat :=
  sec % 2 ^ 64 + (ns % 2 ^ 32) * 2 ^ 64 + (frac % 2 ^ 16) * 2 ^ 96 + (quality % 2 ^ 16) * 2 ^ 112

/-- Every element of a list of numbers added. -/
def sumNat (xs : List Nat) : Nat := xs.foldl (· + ·) 0

/-- Every element of a list of integers added. -/
def sumInt (xs : List Int) : Int := xs.foldl (· + ·) 0

/-- Every element of a list of rationals added. -/
def sumRat (xs : List Rat) : Rat := xs.foldl (· + ·) 0

/-- The largest of a list, 0 when empty. -/
def maxNat (xs : List Nat) : Nat := xs.foldl max 0

/-- `xs` at position `i`, or `d` past its end. -/
def getD' {α : Type} (xs : List α) (i : Nat) (d : α) : α := (xs[i]?).getD d

/-- `n` bytes of a list from offset `o`. -/
def slice {α : Type} (xs : List α) (o n : Nat) : List α := (xs.drop o).take n

/-- Bytes padded with zeros (or cut) to exactly `n`. -/
def padTo (n : Nat) (bs : List Byte) : List Byte := (bs ++ List.replicate (n - bs.length) 0).take n

/-- ASCII bytes of a string. -/
def asciiBytes (t : String) : List Byte := t.toList.map (fun c => BitVec.ofNat 8 c.toNat)

end Sys2Proof.Machine
end

