-- ==== Sys2Proof/Machine/Crypto.lean ====
section
/-! DEFINITION. The check sums of the lanes and the dictionary (CRC of any width 8 to 32, R71; CRC-32C, R288) and
HMAC-SHA-256, by which sessions authenticate (R290, R291). -/

namespace Sys2Proof.Machine

/-- The low `w` bits of `v` in reverse order. -/
def reflectBits : Nat → Nat → Nat
  | 0, _ => 0
  | w + 1, v => (v % 2) * 2 ^ w + reflectBits w (v / 2)

/-- One message bit into a left-shifting CRC register of width `w`. -/
def crcBit (w poly reg : Nat) (b : Bool) : Nat :=
  let top := reg.testBit (w - 1)
  let sh := (reg * 2) % 2 ^ w
  if top != b then sh ^^^ (poly % 2 ^ w) else sh

/-- One byte into the register, most significant bit first, or least significant first when `reflect`. -/
def crcByte (w poly : Nat) (reflect : Bool) (reg : Nat) (b : Byte) : Nat :=
  let v := if reflect then reflectBits 8 b.toNat else b.toNat
  [7, 6, 5, 4, 3, 2, 1, 0].foldl (fun r i => crcBit w poly r (v.testBit i)) reg

/-- CRC with width, polynomial, initial value, final inversion and reflection (the check objects of R71). -/
def crc (w poly init : Nat) (invert reflect : Bool) (bytes : List Byte) : Nat :=
  let r := bytes.foldl (crcByte w poly reflect) (init % 2 ^ w)
  let r := if reflect then reflectBits w r else r
  if invert then r ^^^ (2 ^ w - 1) else r

/-- CRC-32C (polynomial 0x1EDC_6F41, R288). -/
def crc32c (bytes : List Byte) : Nat := crc 32 0x1EDC6F41 0xFFFFFFFF true true bytes

/-- SHA-256 round constants. -/
def shaK : List Word32 := [
  0x428a2f98, 0x71374491, 0xb5c0fbcf, 0xe9b5dba5, 0x3956c25b, 0x59f111f1, 0x923f82a4, 0xab1c5ed5,
  0xd807aa98, 0x12835b01, 0x243185be, 0x550c7dc3, 0x72be5d74, 0x80deb1fe, 0x9bdc06a7, 0xc19bf174] ++ [
  0xe49b69c1, 0xefbe4786, 0x0fc19dc6, 0x240ca1cc, 0x2de92c6f, 0x4a7484aa, 0x5cb0a9dc, 0x76f988da,
  0x983e5152, 0xa831c66d, 0xb00327c8, 0xbf597fc7, 0xc6e00bf3, 0xd5a79147, 0x06ca6351, 0x14292967] ++ [
  0x27b70a85, 0x2e1b2138, 0x4d2c6dfc, 0x53380d13, 0x650a7354, 0x766a0abb, 0x81c2c92e, 0x92722c85,
  0xa2bfe8a1, 0xa81a664b, 0xc24b8b70, 0xc76c51a3, 0xd192e819, 0xd6990624, 0xf40e3585, 0x106aa070] ++ [
  0x19a4c116, 0x1e376c08, 0x2748774c, 0x34b0bcb5, 0x391c0cb3, 0x4ed8aa4a, 0x5b9cca4f, 0x682e6ff3,
  0x748f82ee, 0x78a5636f, 0x84c87814, 0x8cc70208, 0x90befffa, 0xa4506ceb, 0xbef9a3f7, 0xc67178f2]

/-- SHA-256 initial hash value. -/
def shaInit : List Word32 :=
  [0x6a09e667, 0xbb67ae85, 0x3c6ef372, 0xa54ff53a, 0x510e527f, 0x9b05688c, 0x1f83d9ab, 0x5be0cd19]

/-- Big-endian 32-bit words of a byte list whose length is a multiple of 4. -/
def shaWords : List Byte → List Word32
  | a :: b :: c :: d :: rest =>
    BitVec.ofNat 32 (a.toNat * 16777216 + b.toNat * 65536 + c.toNat * 256 + d.toNat) :: shaWords rest
  | _ => []

/-- The message schedule, newest word first, extended by `n` words. -/
def shaExtend : Nat → List Word32 → List Word32
  | 0, ws => ws
  | n + 1, ws =>
    let w2 := getD' ws 1 0
    let w7 := getD' ws 6 0
    let w15 := getD' ws 14 0
    let w16 := getD' ws 15 0
    let s0 := w15.rotateRight 7 ^^^ w15.rotateRight 18 ^^^ (w15 >>> 3)
    let s1 := w2.rotateRight 17 ^^^ w2.rotateRight 19 ^^^ (w2 >>> 10)
    shaExtend n ((w16 + s0 + w7 + s1) :: ws)

/-- One compression round on the eight working words. -/
def shaRound (st : List Word32) (kw : Word32) : List Word32 :=
  match st with
  | [a, b, c, d, e, f, g, h] =>
    let s1 := e.rotateRight 6 ^^^ e.rotateRight 11 ^^^ e.rotateRight 25
    let ch := (e &&& f) ^^^ (~~~e &&& g)
    let t1 := h + s1 + ch + kw
    let s0 := a.rotateRight 2 ^^^ a.rotateRight 13 ^^^ a.rotateRight 22
    let mj := (a &&& b) ^^^ (a &&& c) ^^^ (b &&& c)
    [t1 + (s0 + mj), a, b, c, d + t1, e, f, g]
  | other => other

/-- One 64-byte block into the hash. -/
def shaBlock (hash : List Word32) (block : List Byte) : List Word32 :=
  let ws := (shaExtend 48 (shaWords block).reverse).reverse
  let kws := List.zipWith (· + ·) shaK ws
  List.zipWith (· + ·) hash (kws.foldl shaRound hash)

/-- Fold the hash over `n` blocks. -/
def shaBlocks : Nat → List Word32 → List Byte → List Word32
  | 0, h, _ => h
  | n + 1, h, bs => shaBlocks n (shaBlock h (bs.take 64)) (bs.drop 64)

/-- Big-endian bytes of a word. -/
def beWord (w : Word32) : List Byte := (leBytes 4 w.toNat).reverse

/-- SHA-256 of a byte string. -/
def sha256 (msg : List Byte) : List Byte :=
  let zeros := (55 + 64 - msg.length % 64) % 64
  let padded := msg ++ [0x80] ++ List.replicate zeros 0 ++ (leBytes 8 (8 * msg.length)).reverse
  (shaBlocks (padded.length / 64) shaInit padded).flatMap beWord

/-- HMAC-SHA-256 with a key of at most 64 bytes (R290). -/
def hmac (key msg : List Byte) : List Byte :=
  let k := padTo 64 key
  sha256 (k.map (· ^^^ 0x5c) ++ sha256 (k.map (· ^^^ 0x36) ++ msg))

end Sys2Proof.Machine
end

