-- ==== Sys2Proof/Config.lean ====
section
/-! DEFINITION. What an implementation fixes and the values the spec leaves open. Every constant here is opaque: no proof can
see its value, so a statement about one holds whatever it is. -/

namespace Sys2Proof.Config

/-- The hardware random source (R290, R490, R502): the number drawn at the `n`-th draw. -/
opaque random : Nat → Nat

/-- Serial number fused into the device (R313). -/
opaque serialNumber : Nat

/-- Firmware build number (R313). -/
opaque firmwareBuild : Nat

/-- MAC address of HN0 (R313, R283). -/
opaque baseMac : Nat

/-- Silicon stepping text (R313, "as fused"). -/
opaque siliconStep : List Byte

/-- Firmware version text (R313, "per build"). -/
opaque firmwareVersion : List Byte

/-- `LOG_ID` the cove drew at its first cold start (R490). -/
opaque firstLogId : Nat

/-- The entries of `EVENT_CATALOGUE`, which the firmware build fixes (R494). -/
opaque catalogueEntries : List (List Byte)

/-- `ARG` of the IMAGE_IN frames of a cycle, which no rule gives (R285, R302). -/
opaque imageInArg : Nat → Nat

/-- The number n of the event with catalogue position `k` in this firmware build (R494). -/
opaque eventNumber : Nat → Nat

/-- The severity the catalogue gives the event at position `k`, where the manual states none (R494). -/
opaque eventSeverity : Nat → Nat

/-- Voltage at a cove input (0 the quick store, 1 the bulk store, 2 HVIN) at an instant, mV: the plant's. -/
opaque coveMillivolts : Nat → Nat → Nat

/-- What supplies the cove at an instant: bit 0 VKA within range, bit 1 HVIN at its operating point, bit 2 the crystal runs. -/
opaque coveSupply : Nat → Nat

/-- Draw of the cove on its stores at a die temperature in 0.01 °C, µA, which R480 bounds at 25 °C and 150 °C only. -/
opaque coveDrawUa : Int → Nat

/-- Pool block that message `seq` of queue `q` occupies: the manual leaves the order free (R86). -/
opaque poolBlock : Nat → Nat → Nat

/-- Token of the `n`-th service command to a leaf (R231). -/
opaque serviceToken : Nat → Nat → Nat

/-- Tide start to START leaving the lane output of a drove, 0.1 ns (R44). -/
opaque launchOffset : Nat → Nat

/-- Gather latency of a drove, 0.1 ns (R67). -/
opaque gatherLatency : Nat → Nat

/-- Bridged delay of leaf `k` as refined from its bridged-path L(k) and the computed delay, 0.1 ns (R61 states no formula). -/
opaque refinedBridge : Nat → Nat → Nat → Nat

/-- Outbound delay of leaf `k` before its loop time and the lane's T_loop are known, 0.1 ns (R55, R61 state none). -/
opaque earlyDelay : Nat → Nat

/-- One step of the second-order generalised integrators (R163), whose discretisation the manual does not state: v′_α, qv′_α, v′_β,
qv′_β after a sample, from their values before it, v_α and v_β, the frequency in Hz, the gain and the sample interval in s. -/
opaque sogi : List Rat → Rat → Rat → Rat → Rat → Rat → List Rat

/-- What the control laws take for the current of an arm whose sample is missing: tide and arm. -/
opaque missingCurrent : Nat → Nat → Rat

/-- What they take for a missing DC voltage: tide and converter. -/
opaque missingDcVoltage : Nat → Nat → Rat

/-- The short-circuit ratio estimate where the fit of R166 has slope 0, by converter and second. -/
opaque flatScr : Nat → Nat → Rat

/-- Deviation of SIN and COS from the exact value for an operand pattern; R152 bounds it (opcode, operand). -/
opaque trigError : Nat → Nat → Rat

/-- Deviation of ATAN2 from the exact value in turns; R152 bounds it. -/
opaque atanError : Nat → Nat → Rat

/-- Worst case of a pair item (GRID0, GRID1, ENERGY0, ENERGY1, STATION), CORE cycles, which the firmware build fixes (R142). -/
opaque itemWcet : Nat → Nat

/-- Worst case of a leg item, FAB cycles. -/
opaque legWcet : Nat → Nat

/-- Share of the way to its input that the first-order filter of the schedule axes goes in one tide (R146), whose discretisation the
manual does not state: the tide in time constants. -/
opaque filterShare : Rat → Rat

/-- `SCAN_GAIN` of a scan whose p_before is 0 (R223 states none): leaf and tide. -/
opaque scanGain : Nat → Nat → Nat

/-- Power recorded for a scan point of leaf L in tide n whose last half holds no valid tide (R212; log 69). -/
opaque scanPower : Nat → Nat → Rat

/-- Output of the leaky integrator of a metering channel (R373), whose realisation the manual does not state: channel, grid instant in
ns, corrected input. -/
opaque meterIntegral : Nat → Nat → Rat → Rat

/-- Voltage of an element shifted by 90° by the filter of R378, whose coefficients the manual does not state: element, grid instant in
ns, voltage. -/
opaque meterShift : Nat → Nat → Rat → Rat

/-- `METER_FREQUENCY` of a window without two zero crossings (R378 states none): meter and window boundary in ns. -/
opaque noFrequency : Nat → Nat → Nat

/-- What a register of a user program holds when a run starts: tide, program, register (R152 states none); register 32 is PF. -/
opaque loopRegister : Nat → Nat → Nat → Nat

/-- Age in `XCVR_TABLE` of a transceiver that no poll has reached yet (R417 states none). -/
opaque unpolledAge : Nat → Nat

/-- VOUT of a regulator whose VOUT_MODE names no linear format (R418 states none): mode and word. -/
opaque otherVout : Nat → Nat → Nat

/-- A byte of a memory whose layout the manual does not give, as the debug port reads it (R502): region, address, station time. -/
opaque debugByte : Nat → Nat → Nat → Byte

end Sys2Proof.Config
end

