-- ==== Sys2Proof/Machine/DictTable.lean ====
section
/-! DEFINITION. The object dictionary of R312 as data, one row per object row of the spec's object tables (R22, R71, R101,
R131, R133, R159, R199, R200, R221, R243 to R246, R277 to R280, R313 to R318, R342, R343, R368, R390, R421 to R424, R454,
R483, R484, R504 to R506 and the bit-field tables beside them): index pattern, sub-indices, type, access, persistence,
defaults, range, write role, and the optional unit it belongs to (R3). -/

namespace Sys2Proof.Machine

/-- Data types of R6. -/
inductive ObjTy where
  | bool | u8 | u16 | u32 | u64 | i8 | i16 | i32 | i64 | f32 | pu24 | ang32 | stime | str | domain
  deriving DecidableEq, Repr

/-- Access codes of R9. -/
inductive Access where
  | ro | rw | wo | rwh | rws
  deriving DecidableEq, Repr

/-- Roles of R292. -/
inductive Role where
  | viewer | operator | engineer | safety
  deriving DecidableEq, Repr

/-- The range an object's table states (R7), on the value the code stands for. -/
inductive Range where
  /-- no range beyond the type's -/
  | any
  /-- a closed range -/
  | within (lo hi : Rat)
  /-- a list of accepted values -/
  | oneOf (vs : List Nat)
  /-- a multiple of `n` in a closed range -/
  | multipleOf (n lo hi : Nat)
  /-- above 0 -/
  | positive
  /-- not 0 -/
  | nonzero
  /-- magnitude in a closed range -/
  | magnitude (lo hi : Rat)
  deriving DecidableEq, Repr

/-- What decides whether an instance of the object is present on a code (R3, R16, R369, R390). -/
inductive Fitted where
  | core | drove | leaf | solar | solarLeaf | channel | bitstreamOnly | onPackageCurrent
  deriving DecidableEq, Repr

/-- One row of an object table. Instance `i` below `count` stands at index `base + stride * i`. -/
structure ObjRow where
  /-- the object's name in the spec -/
  name : String
  /-- first index -/
  base : Nat
  /-- how many indices carry the row -/
  count : Nat
  /-- distance of the indices -/
  stride : Nat
  /-- first sub-index -/
  lo : Nat
  /-- last sub-index -/
  hi : Nat
  /-- data type -/
  ty : ObjTy
  /-- access code -/
  acc : Access
  /-- P (true) or V (false), R10 -/
  persist : Bool
  /-- the defaults run over the instances instead of the sub-indices -/
  byIndex : Bool
  /-- default codes; the last one repeats -/
  dflt : List Nat
  /-- the stated range -/
  range : Range
  /-- lowest role that may write -/
  role : Role
  /-- fitted unit -/
  fitted : Fitted
  deriving DecidableEq, Repr

/-- `CLOCK_IDENTITY` from `BASE_MAC` (R348): the 48-bit address with 0xFFFE between its halves. -/
def clockIdentity : Nat :=
  let m := Config.baseMac % 2 ^ 48
  bits m 47 24 * 2 ^ 40 + 0xFFFE * 2 ^ 24 + bits m 23 0

/-- Object rows 0x0000 to 0x10FF, part 0. -/
def rowsIdentity0 : List ObjRow := [
  ⟨"IDENTITY_HIGHEST", 0x1000, 1, 1, 0, 0, .u8, .ro, false, false, [10], .any, .engineer, .core⟩,
  ⟨"VENDOR_NAME", 0x1000, 1, 1, 1, 1, .str, .ro, false, false, [], .any, .engineer, .core⟩,
  ⟨"PRODUCT_NAME", 0x1000, 1, 1, 2, 2, .str, .ro, false, false, [], .any, .engineer, .core⟩,
  ⟨"ORDERING_CODE", 0x1000, 1, 1, 3, 3, .str, .ro, false, false, [], .any, .engineer, .core⟩,
  ⟨"SERIAL_NUMBER", 0x1000, 1, 1, 4, 4, .u64, .ro, false, false, [Config.serialNumber % 2 ^ 64], .any, .engineer, .core⟩,
  ⟨"SILICON_STEP", 0x1000, 1, 1, 5, 5, .str, .ro, false, false, [], .any, .engineer, .core⟩,
  ⟨"FIRMWARE_BUILD", 0x1000, 1, 1, 6, 6, .u32, .ro, false, false, [Config.firmwareBuild % 2 ^ 32], .any, .engineer, .core⟩,
  ⟨"FIRMWARE_VERSION", 0x1000, 1, 1, 7, 7, .str, .ro, false, false, [], .any, .engineer, .core⟩,
  ⟨"BASE_MAC", 0x1000, 1, 1, 8, 8, .u64, .ro, false, false, [Config.baseMac % 2 ^ 48], .any, .engineer, .core⟩,
  ⟨"DICTIONARY_VERSION", 0x1000, 1, 1, 9, 9, .u16, .ro, false, false, [1], .any, .engineer, .core⟩,
  ⟨"PROTOCOL_VERSION", 0x1000, 1, 1, 10, 10, .u8, .ro, false, false, [1], .any, .engineer, .core⟩,
  ⟨"STATE_HIGHEST", 0x1001, 1, 1, 0, 0, .u8, .ro, false, false, [8], .any, .engineer, .core⟩,
  ⟨"STATION_STATE", 0x1001, 1, 1, 1, 1, .u8, .ro, false, false, [1], .any, .engineer, .core⟩,
  ⟨"STATE_TIDE", 0x1001, 1, 1, 2, 2, .u64, .ro, false, false, [0], .any, .engineer, .core⟩,
  ⟨"PREVIOUS_STATE", 0x1001, 1, 1, 3, 3, .u8, .ro, false, false, [0], .any, .engineer, .core⟩,
  ⟨"TRANSITION_CAUSE", 0x1001, 1, 1, 4, 4, .u8, .ro, false, false, [13], .any, .engineer, .core⟩,
  ⟨"HELD_REASON", 0x1001, 1, 1, 5, 5, .u8, .ro, false, false, [0], .any, .engineer, .core⟩,
  ⟨"STATE_REQUEST", 0x1001, 1, 1, 6, 6, .u8, .wo, false, false, [0], .within 1 7, .operator, .core⟩,
  ⟨"REQUEST_STATUS", 0x1001, 1, 1, 7, 7, .u8, .ro, false, false, [0], .any, .engineer, .core⟩,
  ⟨"STATE_TRANSITIONS", 0x1001, 1, 1, 8, 8, .u32, .ro, false, false, [0], .any, .engineer, .core⟩,
  ⟨"STARTUP_HIGHEST", 0x1002, 1, 1, 0, 0, .u8, .ro, false, false, [9], .any, .engineer, .core⟩,
  ⟨"CHARGE_TARGET", 0x1002, 1, 1, 1, 1, .u16, .rwh, true, false, [9000], .within 5000 10000, .engineer, .core⟩,
  ⟨"CHARGE_SPREAD_MAX", 0x1002, 1, 1, 2, 2, .u16, .rwh, true, false, [500], .within 50 2000, .engineer, .core⟩,
  ⟨"CHARGE_TIMEOUT", 0x1002, 1, 1, 3, 3, .u16, .rwh, true, false, [60], .within 1 3600, .engineer, .core⟩,
  ⟨"PRECHARGE_PWM", 0x1002, 1, 1, 4, 4, .u8, .rwh, true, false, [255], .oneOf [0, 1, 2, 3, 4, 5, 6, 7, 8, 9, 10, 11, 255], .engineer, .core⟩,
  ⟨"PRECHARGE_SENSOR", 0x1002, 1, 1, 5, 5, .u8, .rwh, true, false, [0], .within 0 63, .engineer, .core⟩,
  ⟨"PRECHARGE_I_REF", 0x1002, 1, 1, 6, 6, .f32, .rwh, true, false, [1092616192], .within 0 10000, .engineer, .core⟩,
  ⟨"PRECHARGE_KP", 0x1002, 1, 1, 7, 7, .f32, .rwh, true, false, [1008981770], .within 0 10, .engineer, .core⟩,
  ⟨"PRECHARGE_KI", 0x1002, 1, 1, 8, 8, .f32, .rwh, true, false, [1065353216], .within 0 1000, .engineer, .core⟩,
  ⟨"DISCHARGED_LEVEL", 0x1002, 1, 1, 9, 9, .u16, .rwh, true, false, [500], .within 100 5000, .engineer, .core⟩]

/-- Object rows 0x0000 to 0x10FF. -/
def rowsIdentity : List ObjRow := rowsIdentity0

/-- Object rows 0x1100 to 0x13FF, part 0. -/
def rowsPorts0 : List ObjRow := [
  ⟨"PORT_HIGHEST", 0x1100, 3, 1, 0, 0, .u8, .ro, false, false, [11], .any, .engineer, .core⟩,
  ⟨"PORT_ENABLE", 0x1100, 3, 1, 1, 1, .bool, .rwh, true, false, [1], .any, .engineer, .core⟩,
  ⟨"PORT_MODE", 0x1100, 3, 1, 2, 2, .u8, .rwh, true, true, [0, 0, 1], .within 0 1, .engineer, .core⟩,
  ⟨"IP_ADDRESS", 0x1100, 3, 1, 3, 3, .u32, .rwh, true, true, [3232238090, 3232238346, 3232300554], .any, .engineer, .core⟩,
  ⟨"IP_MASK", 0x1100, 3, 1, 4, 4, .u32, .rwh, true, false, [4294967040], .any, .engineer, .core⟩,
  ⟨"IP_GATEWAY", 0x1100, 3, 1, 5, 5, .u32, .rwh, true, false, [0], .any, .engineer, .core⟩,
  ⟨"VLAN_ID", 0x1100, 3, 1, 6, 6, .u16, .rwh, true, false, [0], .within 0 4094, .engineer, .core⟩,
  ⟨"MAC_ADDRESS", 0x1100, 3, 1, 7, 7, .u64, .ro, false, true, [Config.baseMac % 2 ^ 48, Config.baseMac % 2 ^ 48 + 1, Config.baseMac % 2 ^ 48 + 2], .any, .engineer, .core⟩,
  ⟨"PORT_LINK", 0x1100, 3, 1, 8, 8, .u8, .ro, false, false, [0], .any, .engineer, .core⟩,
  ⟨"FRAMES_IN", 0x1100, 3, 1, 9, 9, .u64, .ro, false, false, [0], .any, .engineer, .core⟩,
  ⟨"FRAMES_OUT", 0x1100, 3, 1, 10, 10, .u64, .ro, false, false, [0], .any, .engineer, .core⟩,
  ⟨"FRAMES_DROPPED", 0x1100, 3, 1, 11, 11, .u32, .ro, false, false, [0], .any, .engineer, .core⟩,
  ⟨"PROTOCOL_HIGHEST", 0x1104, 1, 1, 0, 0, .u8, .ro, false, false, [7], .any, .engineer, .core⟩,
  ⟨"OBJECT_UDP_PORT", 0x1104, 1, 1, 1, 1, .u16, .rwh, true, false, [40100], .within 1024 65535, .engineer, .core⟩,
  ⟨"SESSION_TIMEOUT", 0x1104, 1, 1, 2, 2, .u16, .rwh, true, false, [5000], .within 1000 60000, .engineer, .core⟩,
  ⟨"TRANSFER_TIMEOUT", 0x1104, 1, 1, 3, 3, .u16, .rwh, true, false, [2000], .within 100 60000, .engineer, .core⟩,
  ⟨"NOTIFY_RETRY", 0x1104, 1, 1, 4, 4, .u16, .rwh, true, false, [20], .within 5 1000, .engineer, .core⟩,
  ⟨"PCP_IMAGE", 0x1104, 1, 1, 5, 5, .u8, .rwh, true, false, [6], .within 0 7, .engineer, .core⟩,
  ⟨"PCP_OBJECT", 0x1104, 1, 1, 6, 6, .u8, .rwh, true, false, [4], .within 0 7, .engineer, .core⟩,
  ⟨"PCP_NOTIFY", 0x1104, 1, 1, 7, 7, .u8, .rwh, true, false, [4], .within 0 7, .engineer, .core⟩,
  ⟨"KEYS_HIGHEST", 0x1106, 1, 1, 0, 0, .u8, .ro, false, false, [5], .any, .engineer, .core⟩,
  ⟨"ROLE_KEY", 0x1106, 1, 1, 1, 4, .domain, .wo, false, false, [], .any, .engineer, .core⟩,
  ⟨"KEYS_SET", 0x1106, 1, 1, 5, 5, .u8, .ro, false, false, [0], .any, .engineer, .core⟩,
  ⟨"SESSIONS_HIGHEST", 0x1107, 1, 1, 0, 0, .u8, .ro, false, false, [6], .any, .engineer, .core⟩,
  ⟨"SESSIONS_OPEN", 0x1107, 1, 1, 1, 1, .u8, .ro, false, false, [0], .any, .engineer, .core⟩,
  ⟨"SESSION_EVICT", 0x1107, 1, 1, 2, 2, .u8, .wo, false, false, [0], .within 0 15, .engineer, .core⟩,
  ⟨"AUTH_FAILURES", 0x1107, 1, 1, 3, 3, .u32, .ro, false, false, [0], .any, .engineer, .core⟩,
  ⟨"BAD_TAGS", 0x1107, 1, 1, 4, 4, .u32, .ro, false, false, [0], .any, .engineer, .core⟩,
  ⟨"SEQ_REJECTS", 0x1107, 1, 1, 5, 5, .u32, .ro, false, false, [0], .any, .engineer, .core⟩,
  ⟨"ABORTS_SENT", 0x1107, 1, 1, 6, 6, .u32, .ro, false, false, [0], .any, .engineer, .core⟩,
  ⟨"TOKEN_HIGHEST", 0x1108, 1, 1, 0, 0, .u8, .ro, false, false, [9], .any, .engineer, .core⟩,
  ⟨"TOKEN_MODE", 0x1108, 1, 1, 1, 1, .u8, .rwh, true, false, [0], .within 0 1, .engineer, .core⟩,
  ⟨"TOKEN_HOLDER", 0x1108, 1, 1, 2, 2, .u8, .ro, false, false, [0], .any, .engineer, .core⟩,
  ⟨"TOKEN_REQUEST", 0x1108, 1, 1, 3, 3, .u8, .wo, false, false, [0], .any, .operator, .core⟩,
  ⟨"TOKEN_RELEASE", 0x1108, 1, 1, 4, 4, .u8, .wo, false, false, [0], .within 1 1, .operator, .core⟩,
  ⟨"TOKEN_TIMEOUT", 0x1108, 1, 1, 5, 5, .u16, .rwh, true, false, [50], .within 5 5000, .engineer, .core⟩,
  ⟨"TOKEN_AUTO_TAKE", 0x1108, 1, 1, 6, 6, .bool, .rwh, true, false, [1], .any, .engineer, .core⟩,
  ⟨"TOKEN_TRANSFERS", 0x1108, 1, 1, 7, 7, .u32, .ro, false, false, [0], .any, .engineer, .core⟩,
  ⟨"TOKEN_CONFLICTS", 0x1108, 1, 1, 8, 8, .u32, .ro, false, false, [0], .any, .engineer, .core⟩,
  ⟨"TOKEN_REFUSALS", 0x1108, 1, 1, 9, 9, .u32, .ro, false, false, [0], .any, .engineer, .core⟩]

/-- Object rows 0x1100 to 0x13FF, part 1. -/
def rowsPorts1 : List ObjRow := [
  ⟨"SESSION_HIGHEST", 0x1110, 16, 1, 0, 0, .u8, .ro, false, false, [9], .any, .engineer, .core⟩,
  ⟨"SESSION_STATE", 0x1110, 16, 1, 1, 1, .u8, .ro, false, false, [0], .any, .engineer, .core⟩,
  ⟨"SESSION_MASTER", 0x1110, 16, 1, 2, 2, .u8, .ro, false, false, [0], .any, .engineer, .core⟩,
  ⟨"SESSION_ROLE", 0x1110, 16, 1, 3, 3, .u8, .ro, false, false, [0], .any, .engineer, .core⟩,
  ⟨"SESSION_PORT", 0x1110, 16, 1, 4, 4, .u8, .ro, false, false, [255], .any, .engineer, .core⟩,
  ⟨"SESSION_ADDRESS", 0x1110, 16, 1, 5, 5, .u32, .ro, false, false, [0], .any, .engineer, .core⟩,
  ⟨"SESSION_UDP", 0x1110, 16, 1, 6, 6, .u16, .ro, false, false, [0], .any, .engineer, .core⟩,
  ⟨"NOTIFY_MASK", 0x1110, 16, 1, 7, 7, .u8, .rw, false, false, [127], .any, .viewer, .core⟩,
  ⟨"SESSION_REQUESTS", 0x1110, 16, 1, 8, 8, .u64, .ro, false, false, [0], .any, .engineer, .core⟩,
  ⟨"NOTIFY_DROPPED", 0x1110, 16, 1, 9, 9, .u32, .ro, false, false, [0], .any, .engineer, .core⟩,
  ⟨"SV_HIGHEST", 0x1140, 8, 1, 0, 0, .u8, .ro, false, false, [12], .any, .engineer, .core⟩,
  ⟨"SV_ENABLE", 0x1140, 8, 1, 1, 1, .bool, .rwh, true, false, [0], .any, .engineer, .core⟩,
  ⟨"SV_DEST_MAC", 0x1140, 8, 1, 2, 2, .u64, .rwh, true, false, [0], .any, .engineer, .core⟩,
  ⟨"SV_APPID", 0x1140, 8, 1, 3, 3, .u16, .rwh, true, false, [16384], .within 16384 32767, .engineer, .core⟩,
  ⟨"SV_ID", 0x1140, 8, 1, 4, 4, .str, .rwh, true, false, [], .any, .engineer, .core⟩,
  ⟨"SV_CONF_REV", 0x1140, 8, 1, 5, 5, .u32, .rwh, true, false, [1], .any, .engineer, .core⟩,
  ⟨"SV_RATE", 0x1140, 8, 1, 6, 6, .u16, .rwh, true, false, [4000], .oneOf [4000, 4800, 12800, 14400, 15360], .engineer, .core⟩,
  ⟨"SV_PHASE_MAP", 0x1140, 8, 1, 7, 7, .u16, .rwh, true, false, [1620], .any, .engineer, .core⟩,
  ⟨"SV_STATE", 0x1140, 8, 1, 8, 8, .u8, .ro, false, false, [0], .any, .engineer, .core⟩,
  ⟨"SV_FRAMES", 0x1140, 8, 1, 9, 9, .u64, .ro, false, false, [0], .any, .engineer, .core⟩,
  ⟨"SV_DISCARDED", 0x1140, 8, 1, 10, 10, .u32, .ro, false, false, [0], .any, .engineer, .core⟩,
  ⟨"SV_LAST_SMPCNT", 0x1140, 8, 1, 11, 11, .u16, .ro, false, false, [0], .any, .engineer, .core⟩,
  ⟨"SV_SMPSYNCH", 0x1140, 8, 1, 12, 12, .u8, .ro, false, false, [0], .any, .engineer, .core⟩,
  ⟨"MAP_HIGHEST", 0x1200, 4, 1, 0, 0, .u8, .ro, false, false, [2], .any, .engineer, .core⟩,
  ⟨"IMAGE_MAP", 0x1200, 4, 1, 1, 1, .domain, .rwh, true, false, [], .any, .engineer, .core⟩,
  ⟨"IMAGE_SIZE", 0x1200, 4, 1, 2, 2, .u16, .ro, false, false, [0], .any, .engineer, .core⟩,
  ⟨"IMAGE_HIGHEST", 0x1210, 1, 1, 0, 0, .u8, .ro, false, false, [9], .any, .engineer, .core⟩,
  ⟨"IMAGE_CYCLE", 0x1210, 1, 1, 1, 1, .u16, .rwh, true, false, [100], .within 25 10000, .engineer, .core⟩,
  ⟨"IMAGE_PHASE", 0x1210, 1, 1, 2, 2, .u32, .rwh, true, false, [0], .any, .engineer, .core⟩,
  ⟨"IMAGE_MISS_LIMIT", 0x1210, 1, 1, 3, 3, .u8, .rwh, true, false, [10], .within 1 255, .engineer, .core⟩,
  ⟨"IMAGE_CYCLE_NOW", 0x1210, 1, 1, 4, 4, .u64, .ro, false, false, [0], .any, .engineer, .core⟩,
  ⟨"IMAGES_IN_SENT", 0x1210, 1, 1, 5, 5, .u64, .ro, false, false, [0], .any, .engineer, .core⟩,
  ⟨"IMAGES_OUT_APPLIED", 0x1210, 1, 1, 6, 6, .u64, .ro, false, false, [0], .any, .engineer, .core⟩,
  ⟨"IMAGE_LATE", 0x1210, 1, 1, 7, 7, .u32, .ro, false, false, [0], .any, .engineer, .core⟩,
  ⟨"IMAGE_REFUSED", 0x1210, 1, 1, 8, 8, .u32, .ro, false, false, [0], .any, .engineer, .core⟩,
  ⟨"IMAGE_MISSES", 0x1210, 1, 1, 9, 9, .u32, .ro, false, false, [0], .any, .engineer, .core⟩,
  ⟨"HIGHEST_1220", 0x1220, 1, 1, 0, 0, .u8, .ro, false, false, [64], .any, .engineer, .core⟩,
  ⟨"HOST_INPUT", 0x1220, 1, 1, 1, 64, .f32, .rw, false, false, [0], .any, .operator, .core⟩,
  ⟨"HIGHEST_1221", 0x1221, 1, 1, 0, 0, .u8, .ro, false, false, [64], .any, .engineer, .core⟩,
  ⟨"HOST_VALUE", 0x1221, 1, 1, 1, 64, .f32, .ro, false, false, [0], .any, .engineer, .core⟩]

/-- Object rows 0x1100 to 0x13FF. -/
def rowsPorts : List ObjRow := rowsPorts0 ++ rowsPorts1

/-- Object rows 0x1400 to 0x1FFF, part 0. -/
def rowsConfig0 : List ObjRow := [
  ⟨"DRAFT_HIGHEST", 0x1400, 1, 1, 0, 0, .u8, .ro, false, false, [4], .any, .engineer, .core⟩,
  ⟨"CONFIG_DRAFT", 0x1400, 1, 1, 1, 1, .domain, .rwh, false, false, [], .any, .engineer, .core⟩,
  ⟨"CONFIG_COMMITTED", 0x1400, 1, 1, 2, 2, .domain, .ro, false, false, [], .any, .engineer, .core⟩,
  ⟨"DRAFT_GENERATION", 0x1400, 1, 1, 3, 3, .u32, .ro, false, false, [0], .any, .engineer, .core⟩,
  ⟨"DRAFT_CHECK", 0x1400, 1, 1, 4, 4, .u32, .ro, false, false, [0], .any, .engineer, .core⟩,
  ⟨"VALIDATE_HIGHEST", 0x1401, 1, 1, 0, 0, .u8, .ro, false, false, [7], .any, .engineer, .core⟩,
  ⟨"VALIDATE", 0x1401, 1, 1, 1, 1, .u8, .wo, false, false, [0], .within 1 1, .engineer, .core⟩,
  ⟨"VALIDATE_STATUS", 0x1401, 1, 1, 2, 2, .u8, .ro, false, false, [254], .any, .engineer, .core⟩,
  ⟨"VALIDATE_INDEX", 0x1401, 1, 1, 3, 3, .u16, .ro, false, false, [0], .any, .engineer, .core⟩,
  ⟨"VALIDATE_SUB", 0x1401, 1, 1, 4, 4, .u8, .ro, false, false, [0], .any, .engineer, .core⟩,
  ⟨"VALIDATE_DETAIL", 0x1401, 1, 1, 5, 5, .u32, .ro, false, false, [4294967295], .any, .engineer, .core⟩,
  ⟨"VALIDATED_GENERATION", 0x1401, 1, 1, 6, 6, .u32, .ro, false, false, [0], .any, .engineer, .core⟩,
  ⟨"VALIDATED_CHECK", 0x1401, 1, 1, 7, 7, .u32, .ro, false, false, [0], .any, .engineer, .core⟩,
  ⟨"COMMIT_HIGHEST", 0x1402, 1, 1, 0, 0, .u8, .ro, false, false, [8], .any, .engineer, .core⟩,
  ⟨"CONFIG_COMMIT", 0x1402, 1, 1, 1, 1, .u32, .wo, false, false, [0], .any, .engineer, .core⟩,
  ⟨"COMMIT_STATUS", 0x1402, 1, 1, 2, 2, .u8, .ro, false, false, [0], .any, .engineer, .core⟩,
  ⟨"COMMIT_PROGRESS", 0x1402, 1, 1, 3, 3, .u8, .ro, false, false, [0], .any, .engineer, .core⟩,
  ⟨"COMMITTED_GENERATION", 0x1402, 1, 1, 4, 4, .u32, .ro, false, false, [0], .any, .engineer, .core⟩,
  ⟨"COMMITTED_CHECK", 0x1402, 1, 1, 5, 5, .u32, .ro, false, false, [0], .any, .engineer, .core⟩,
  ⟨"ACTIVE_SLOT", 0x1402, 1, 1, 6, 6, .u8, .ro, false, false, [255], .any, .engineer, .core⟩,
  ⟨"COMMITS", 0x1402, 1, 1, 7, 7, .u32, .ro, false, false, [0], .any, .engineer, .core⟩,
  ⟨"LIVE_DIFFERS", 0x1402, 1, 1, 8, 8, .bool, .ro, false, false, [0], .any, .engineer, .core⟩,
  ⟨"CONFIG_MISC_HIGHEST", 0x1403, 1, 1, 0, 0, .u8, .ro, false, false, [2], .any, .engineer, .core⟩,
  ⟨"DRAFT_DISCARD", 0x1403, 1, 1, 1, 1, .u8, .wo, false, false, [0], .within 1 2, .engineer, .core⟩,
  ⟨"LAST_COMMIT_TIME", 0x1403, 1, 1, 2, 2, .stime, .ro, false, false, [0], .any, .engineer, .core⟩,
  ⟨"LOG_HIGHEST", 0x1800, 1, 1, 0, 0, .u8, .ro, false, false, [11], .any, .engineer, .core⟩,
  ⟨"LOG_NEXT_SEQ", 0x1800, 1, 1, 1, 1, .u64, .ro, false, false, [0], .any, .engineer, .core⟩,
  ⟨"LOG_OLDEST_SEQ", 0x1800, 1, 1, 2, 2, .u64, .ro, false, false, [0], .any, .engineer, .core⟩,
  ⟨"LOG_DATA", 0x1800, 1, 1, 3, 3, .domain, .ro, false, false, [], .any, .engineer, .core⟩,
  ⟨"LOG_DROPPED", 0x1800, 1, 1, 4, 4, .u32, .ro, false, false, [0], .any, .engineer, .core⟩,
  ⟨"LOG_LOST", 0x1800, 1, 1, 5, 5, .u32, .ro, false, false, [0], .any, .engineer, .core⟩,
  ⟨"LOG_NOTIFY_MIN", 0x1800, 1, 1, 6, 6, .u8, .rw, true, false, [1], .within 0 3, .viewer, .core⟩,
  ⟨"ALARM_ACK", 0x1800, 1, 1, 7, 7, .u64, .wo, false, false, [0], .any, .operator, .core⟩,
  ⟨"ALARMS_UNACKED", 0x1800, 1, 1, 8, 8, .u32, .ro, false, false, [0], .any, .engineer, .core⟩,
  ⟨"TIME_EPOCH_NOW", 0x1800, 1, 1, 9, 9, .u16, .ro, false, false, [0], .any, .engineer, .core⟩,
  ⟨"LOG_ID", 0x1800, 1, 1, 10, 10, .u32, .ro, false, false, [Config.firstLogId % 2 ^ 32], .any, .engineer, .core⟩,
  ⟨"EVENT_CATALOGUE", 0x1800, 1, 1, 11, 11, .domain, .ro, false, false, [], .any, .engineer, .core⟩,
  ⟨"HIGHEST_1801", 0x1801, 1, 1, 0, 0, .u8, .ro, false, false, [16], .any, .engineer, .core⟩,
  ⟨"LOG_CURSOR", 0x1801, 1, 1, 1, 16, .u64, .rw, false, false, [0], .any, .viewer, .core⟩]

/-- Object rows 0x1400 to 0x1FFF. -/
def rowsConfig : List ObjRow := rowsConfig0

/-- Object rows 0x2000 to 0x20FF, part 0. -/
def rowsTime0 : List ObjRow := [
  ⟨"TIME_HIGHEST", 0x2000, 1, 1, 0, 0, .u8, .ro, false, false, [13], .any, .engineer, .core⟩,
  ⟨"STATION_TIME", 0x2000, 1, 1, 1, 1, .stime, .ro, false, false, [0], .any, .engineer, .core⟩,
  ⟨"TIME_QUALITY", 0x2000, 1, 1, 2, 2, .u16, .ro, false, false, [3327], .any, .engineer, .core⟩,
  ⟨"TIME_INCREMENT", 0x2000, 1, 1, 3, 3, .u32, .rw, false, false, [67108864], .any, .engineer, .core⟩,
  ⟨"TIME_SET", 0x2000, 1, 1, 4, 4, .stime, .wo, false, false, [0], .any, .engineer, .core⟩,
  ⟨"TIME_STEP_PERMIT", 0x2000, 1, 1, 5, 5, .u8, .wo, false, false, [0], .within 1 1, .engineer, .core⟩,
  ⟨"STEP_POLICY", 0x2000, 1, 1, 6, 6, .u8, .rwh, true, false, [0], .within 0 1, .engineer, .core⟩,
  ⟨"FIRST_STEP_AUTO", 0x2000, 1, 1, 7, 7, .bool, .rwh, true, false, [1], .any, .engineer, .core⟩,
  ⟨"SLEW_MAX", 0x2000, 1, 1, 8, 8, .u16, .rwh, true, false, [100], .within 1 100, .engineer, .core⟩,
  ⟨"PENDING_OFFSET", 0x2000, 1, 1, 9, 9, .i64, .ro, false, false, [0], .any, .engineer, .core⟩,
  ⟨"TIME_STEPS", 0x2000, 1, 1, 10, 10, .u32, .ro, false, false, [0], .any, .engineer, .core⟩,
  ⟨"TIME_SLEW_NOW", 0x2000, 1, 1, 11, 11, .i32, .ro, false, false, [0], .any, .engineer, .core⟩,
  ⟨"UTC_OFFSET", 0x2000, 1, 1, 12, 12, .i16, .ro, false, false, [0], .any, .engineer, .core⟩,
  ⟨"TIME_ALARM_BOUND", 0x2000, 1, 1, 13, 13, .u32, .rwh, true, false, [1000], .within 10 1000000000, .engineer, .core⟩,
  ⟨"SERVO_HIGHEST", 0x2001, 1, 1, 0, 0, .u8, .ro, false, false, [10], .any, .engineer, .core⟩,
  ⟨"CORRECTION_MODE", 0x2001, 1, 1, 1, 1, .u8, .rwh, true, false, [0], .within 0 1, .engineer, .core⟩,
  ⟨"SERVO_SOURCE", 0x2001, 1, 1, 2, 2, .u8, .rwh, true, false, [0], .within 0 1, .engineer, .core⟩,
  ⟨"SERVO_KP", 0x2001, 1, 1, 3, 3, .f32, .rwh, true, false, [1060320051], .within (1 / 100) 2, .engineer, .core⟩,
  ⟨"SERVO_KI", 0x2001, 1, 1, 4, 4, .f32, .rwh, true, false, [1050253722], .within (1 / 1000) 1, .engineer, .core⟩,
  ⟨"ACQUIRE_SAMPLES", 0x2001, 1, 1, 5, 5, .u8, .rwh, true, false, [4], .within 1 64, .engineer, .core⟩,
  ⟨"LOCK_THRESHOLD", 0x2001, 1, 1, 6, 6, .u16, .rwh, true, false, [50], .within 10 10000, .engineer, .core⟩,
  ⟨"PTP_ERROR_BUDGET", 0x2001, 1, 1, 7, 7, .u16, .rwh, true, false, [20], .within 0 10000, .engineer, .core⟩,
  ⟨"OFFSET_FROM_MASTER", 0x2001, 1, 1, 8, 8, .i64, .ro, false, false, [0], .any, .engineer, .core⟩,
  ⟨"FREQ_OFFSET", 0x2001, 1, 1, 9, 9, .i32, .ro, false, false, [0], .any, .engineer, .core⟩,
  ⟨"RATE_ADJUST", 0x2001, 1, 1, 10, 10, .i32, .rw, false, false, [0], .within (-500000000) 500000000, .engineer, .core⟩,
  ⟨"PTP_HIGHEST", 0x2002, 1, 1, 0, 0, .u8, .ro, false, false, [14], .any, .engineer, .core⟩,
  ⟨"PTP_PROFILE", 0x2002, 1, 1, 1, 1, .u8, .rwh, true, false, [4], .within 0 4, .engineer, .core⟩,
  ⟨"PTP_DOMAIN", 0x2002, 1, 1, 2, 2, .u8, .rwh, true, false, [0], .within 0 127, .engineer, .core⟩,
  ⟨"PTP_PORT_ENABLE", 0x2002, 1, 1, 3, 3, .u8, .rwh, true, false, [3], .within 0 7, .engineer, .core⟩,
  ⟨"PTP_TWO_STEP", 0x2002, 1, 1, 4, 4, .bool, .rwh, true, false, [0], .any, .engineer, .core⟩,
  ⟨"PTP_LOG_DELAY_INTERVAL", 0x2002, 1, 1, 5, 5, .i8, .rwh, true, false, [0], .within (-4) 5, .engineer, .core⟩,
  ⟨"PTP_CLASS_LIMIT", 0x2002, 1, 1, 6, 6, .u8, .rwh, true, false, [7], .within 6 254, .engineer, .core⟩,
  ⟨"PTP_ACTIVE_PORT", 0x2002, 1, 1, 7, 7, .u8, .ro, false, false, [255], .any, .engineer, .core⟩,
  ⟨"PTP_GM_IDENTITY", 0x2002, 1, 1, 8, 8, .u64, .ro, false, false, [0], .any, .engineer, .core⟩,
  ⟨"PTP_GM_CLASS", 0x2002, 1, 1, 9, 9, .u8, .ro, false, false, [255], .any, .engineer, .core⟩,
  ⟨"PTP_STEPS_REMOVED", 0x2002, 1, 1, 10, 10, .u16, .ro, false, false, [0], .any, .engineer, .core⟩,
  ⟨"TIME_STATE_CHANGES", 0x2002, 1, 1, 11, 11, .u32, .ro, false, false, [0], .any, .engineer, .core⟩,
  ⟨"TIME_LOSSES", 0x2002, 1, 1, 12, 12, .u32, .ro, false, false, [0], .any, .engineer, .core⟩,
  ⟨"HOLDOVER_TIME", 0x2002, 1, 1, 13, 13, .u32, .ro, false, false, [0], .any, .engineer, .core⟩,
  ⟨"CLOCK_IDENTITY", 0x2002, 1, 1, 14, 14, .u64, .ro, false, false, [clockIdentity], .any, .engineer, .core⟩]

/-- Object rows 0x2000 to 0x20FF, part 1. -/
def rowsTime1 : List ObjRow := [
  ⟨"PTP_PORT_HIGHEST", 0x2003, 3, 1, 0, 0, .u8, .ro, false, false, [11], .any, .engineer, .core⟩,
  ⟨"PTP_PORT_STATE", 0x2003, 3, 1, 1, 1, .u8, .ro, false, false, [3], .any, .engineer, .core⟩,
  ⟨"MEAN_PATH_DELAY", 0x2003, 3, 1, 2, 2, .u32, .ro, false, false, [0], .any, .engineer, .core⟩,
  ⟨"PTP_ASYMMETRY", 0x2003, 3, 1, 3, 3, .i32, .rwh, true, false, [0], .within (-1000000) 1000000, .engineer, .core⟩,
  ⟨"TS_EGRESS_LATENCY", 0x2003, 3, 1, 4, 4, .u16, .rwh, true, false, [0], .any, .engineer, .core⟩,
  ⟨"TS_INGRESS_LATENCY", 0x2003, 3, 1, 5, 5, .u16, .rwh, true, false, [0], .any, .engineer, .core⟩,
  ⟨"SYNC_RECEIVED", 0x2003, 3, 1, 6, 6, .u64, .ro, false, false, [0], .any, .engineer, .core⟩,
  ⟨"DELAY_EXCHANGES", 0x2003, 3, 1, 7, 7, .u64, .ro, false, false, [0], .any, .engineer, .core⟩,
  ⟨"TS_QUEUE_DEPTH", 0x2003, 3, 1, 8, 8, .u8, .ro, false, false, [0], .any, .engineer, .core⟩,
  ⟨"TS_QUEUE_HIGH", 0x2003, 3, 1, 9, 9, .u8, .ro, false, false, [0], .any, .engineer, .core⟩,
  ⟨"TS_OVERFLOWS", 0x2003, 3, 1, 10, 10, .u32, .ro, false, false, [0], .any, .engineer, .core⟩,
  ⟨"TS_STALE", 0x2003, 3, 1, 11, 11, .u32, .ro, false, false, [0], .any, .engineer, .core⟩,
  ⟨"HOLDOVER_HIGHEST", 0x2008, 1, 1, 0, 0, .u8, .ro, false, false, [4], .any, .engineer, .core⟩,
  ⟨"HOLDOVER_DRIFT", 0x2008, 1, 1, 1, 1, .u32, .rwh, true, false, [50], .within 1 100000, .engineer, .core⟩,
  ⟨"HOLDOVER_AVERAGE", 0x2008, 1, 1, 2, 2, .u16, .rwh, true, false, [60], .within 1 3600, .engineer, .core⟩,
  ⟨"COVE_DRIFT", 0x2008, 1, 1, 3, 3, .u32, .rwh, true, false, [100000], .within 1000 1000000, .engineer, .core⟩,
  ⟨"FREEZE_DRIFT", 0x2008, 1, 1, 4, 4, .u32, .rwh, true, false, [30000], .within 1000 1000000, .engineer, .core⟩,
  ⟨"PPS_HIGHEST", 0x2009, 1, 1, 0, 0, .u8, .ro, false, false, [5], .any, .engineer, .core⟩,
  ⟨"PPS_ENABLE", 0x2009, 1, 1, 1, 1, .bool, .rwh, true, false, [1], .any, .engineer, .core⟩,
  ⟨"PPS_WIDTH", 0x2009, 1, 1, 2, 2, .u32, .rwh, true, false, [100000], .within 1 500000, .engineer, .core⟩,
  ⟨"PPS_OFFSET", 0x2009, 1, 1, 3, 3, .i32, .rwh, true, false, [0], .within (-500000000) 500000000, .engineer, .core⟩,
  ⟨"PPS_SQUELCH", 0x2009, 1, 1, 4, 4, .u8, .rwh, true, false, [1], .within 0 2, .engineer, .core⟩,
  ⟨"PPS_SQUELCH_BOUND", 0x2009, 1, 1, 5, 5, .u32, .rwh, true, false, [1000], .within 10 1000000000, .engineer, .core⟩,
  ⟨"TIDE_HIGHEST", 0x2010, 1, 1, 0, 0, .u8, .ro, false, false, [12], .any, .engineer, .core⟩,
  ⟨"TIDE_PERIOD", 0x2010, 1, 1, 1, 1, .u16, .rwh, true, false, [100], .within 50 500, .engineer, .core⟩,
  ⟨"APPLY_MARK", 0x2010, 1, 1, 2, 2, .u16, .rwh, true, false, [6000], .within 0 49500, .engineer, .core⟩,
  ⟨"TIDE_PHASE", 0x2010, 1, 1, 3, 3, .u32, .rwh, true, false, [0], .within 0 49999, .engineer, .core⟩,
  ⟨"RETURN_DEADLINE", 0x2010, 1, 1, 4, 4, .u32, .ro, false, false, [8500], .any, .engineer, .core⟩,
  ⟨"REFERENCE_MARK", 0x2010, 1, 1, 5, 5, .u32, .ro, false, false, [8000], .any, .engineer, .core⟩,
  ⟨"DEMAND_MARK", 0x2010, 1, 1, 6, 6, .u32, .ro, false, false, [18000], .any, .engineer, .core⟩,
  ⟨"COMMAND_CUTOFF", 0x2010, 1, 1, 7, 7, .u32, .ro, false, false, [19700], .any, .engineer, .core⟩,
  ⟨"TIDE_NUMBER", 0x2010, 1, 1, 8, 8, .u64, .ro, false, false, [0], .any, .engineer, .core⟩,
  ⟨"REFERENCE_MISSES", 0x2010, 1, 1, 9, 9, .u32, .rw, false, false, [0], .within 0 0, .engineer, .core⟩,
  ⟨"DEMAND_MISSES", 0x2010, 1, 1, 10, 10, .u32, .rw, false, false, [0], .within 0 0, .engineer, .core⟩,
  ⟨"CUTOFF_MISSES", 0x2010, 1, 1, 11, 11, .u32, .rw, false, false, [0], .within 0 0, .engineer, .core⟩,
  ⟨"MIN_PERIOD", 0x2010, 1, 1, 12, 12, .u16, .ro, false, false, [0], .any, .engineer, .core⟩,
  ⟨"PLL_HIGHEST", 0x2020, 5, 1, 0, 0, .u8, .ro, false, false, [6], .any, .engineer, .core⟩,
  ⟨"PLL_STATE", 0x2020, 5, 1, 1, 1, .u8, .ro, false, false, [0], .any, .engineer, .core⟩,
  ⟨"PLL_LOCK_LOSSES", 0x2020, 5, 1, 2, 2, .u32, .ro, false, false, [0], .any, .engineer, .core⟩,
  ⟨"PLL_FREEZES", 0x2020, 5, 1, 3, 3, .u32, .ro, false, false, [0], .any, .engineer, .core⟩]

/-- Object rows 0x2000 to 0x20FF, part 2. -/
def rowsTime2 : List ObjRow := [
  ⟨"PLL_FROZEN_TIME", 0x2020, 5, 1, 4, 4, .u32, .ro, false, false, [0], .any, .engineer, .core⟩,
  ⟨"PLL_LAST_LOCK_TIME", 0x2020, 5, 1, 5, 5, .u32, .ro, false, false, [0], .any, .engineer, .core⟩,
  ⟨"PLL_STORED_VALID", 0x2020, 5, 1, 6, 6, .bool, .ro, false, false, [0], .any, .engineer, .core⟩,
  ⟨"REF_HIGHEST", 0x2026, 1, 1, 0, 0, .u8, .ro, false, false, [5], .any, .engineer, .core⟩,
  ⟨"REF_SELECT", 0x2026, 1, 1, 1, 1, .u8, .rwh, true, false, [0], .within 0 1, .engineer, .core⟩,
  ⟨"REF_FALLBACK", 0x2026, 1, 1, 2, 2, .bool, .rwh, true, false, [1], .any, .engineer, .core⟩,
  ⟨"REF_IN_USE", 0x2026, 1, 1, 3, 3, .u8, .ro, false, false, [255], .any, .engineer, .core⟩,
  ⟨"REF_PRESENT", 0x2026, 1, 1, 4, 4, .u8, .ro, false, false, [0], .any, .engineer, .core⟩,
  ⟨"REF_LOSSES", 0x2026, 1, 1, 5, 5, .u32, .ro, false, false, [0], .any, .engineer, .core⟩,
  ⟨"CLKOUT_HIGHEST", 0x2030, 4, 1, 0, 0, .u8, .ro, false, false, [7], .any, .engineer, .core⟩,
  ⟨"CLKOUT_ENABLE", 0x2030, 4, 1, 1, 1, .bool, .rwh, true, false, [0], .any, .engineer, .core⟩,
  ⟨"CLKOUT_SOURCE", 0x2030, 4, 1, 2, 2, .u8, .rwh, true, false, [2], .within 0 5, .engineer, .core⟩,
  ⟨"CLKOUT_DIVIDER", 0x2030, 4, 1, 3, 3, .u16, .rwh, true, false, [25], .within 1 4096, .engineer, .core⟩,
  ⟨"CLKOUT_FORMAT", 0x2030, 4, 1, 4, 4, .u8, .rwh, true, false, [1], .within 1 3, .engineer, .core⟩,
  ⟨"CLKOUT_PHASE", 0x2030, 4, 1, 5, 5, .i16, .rwh, true, false, [0], .within (-4096) 4096, .engineer, .core⟩,
  ⟨"CLKOUT_ALIGN", 0x2030, 4, 1, 6, 6, .bool, .rwh, true, false, [0], .any, .engineer, .core⟩,
  ⟨"CLKOUT_ALIGNED", 0x2030, 4, 1, 7, 7, .bool, .ro, false, false, [0], .any, .engineer, .core⟩]

/-- Object rows 0x2000 to 0x20FF. -/
def rowsTime : List ObjRow := rowsTime0 ++ rowsTime1 ++ rowsTime2

/-- Object rows 0x2100 to 0x21FF, part 0. -/
def rowsPower0 : List ObjRow := [
  ⟨"RESET_HIGHEST", 0x2100, 1, 1, 0, 0, .u8, .ro, false, false, [8], .any, .engineer, .core⟩,
  ⟨"RESET_CAUSE", 0x2100, 1, 1, 1, 1, .u32, .ro, false, false, [0], .any, .engineer, .core⟩,
  ⟨"RESET_REACH_LAST", 0x2100, 1, 1, 2, 2, .u8, .ro, false, false, [3], .any, .engineer, .core⟩,
  ⟨"RESET_COUNT", 0x2100, 1, 1, 3, 3, .u32, .ro, false, false, [0], .any, .engineer, .core⟩,
  ⟨"RESET_SOURCE_COUNTS", 0x2100, 1, 1, 4, 4, .domain, .ro, false, false, [], .any, .engineer, .core⟩,
  ⟨"LAST_RESET_TIME", 0x2100, 1, 1, 5, 5, .stime, .ro, false, false, [0], .any, .engineer, .core⟩,
  ⟨"BOOT_TIME", 0x2100, 1, 1, 6, 6, .u32, .ro, false, false, [0], .any, .engineer, .core⟩,
  ⟨"DEVICE_RESET", 0x2100, 1, 1, 7, 7, .u8, .wo, false, false, [0], .within 1 3, .engineer, .core⟩,
  ⟨"LOOKOUT_WDT", 0x2100, 1, 1, 8, 8, .u16, .rwh, true, false, [100], .within 10 10000, .engineer, .core⟩,
  ⟨"OPTION_HIGHEST", 0x2101, 1, 1, 0, 0, .u8, .ro, false, false, [6], .any, .engineer, .core⟩,
  ⟨"OPTION_STATUS", 0x2101, 1, 1, 1, 1, .u8, .ro, false, false, [0], .any, .engineer, .core⟩,
  ⟨"OPTION_CODE", 0x2101, 1, 1, 2, 2, .u8, .ro, false, false, [0], .any, .engineer, .core⟩,
  ⟨"OPTION_UNITS", 0x2101, 1, 1, 3, 3, .u8, .ro, false, false, [7], .any, .engineer, .core⟩,
  ⟨"OPTION_DROVES", 0x2101, 1, 1, 4, 4, .u8, .ro, false, false, [128], .any, .engineer, .core⟩,
  ⟨"OPTION_LOAD_TIME", 0x2101, 1, 1, 5, 5, .u32, .ro, false, false, [0], .any, .engineer, .core⟩,
  ⟨"OPTION_CORRECTED", 0x2101, 1, 1, 6, 6, .u16, .ro, false, false, [0], .any, .engineer, .core⟩,
  ⟨"POWER_HIGHEST", 0x2110, 1, 1, 0, 0, .u8, .ro, false, false, [17], .any, .engineer, .core⟩,
  ⟨"POWER_STATE", 0x2110, 1, 1, 1, 1, .u8, .ro, false, false, [0], .any, .engineer, .core⟩,
  ⟨"POWER_MAX_STATE", 0x2110, 1, 1, 2, 2, .u8, .rw, true, false, [1], .within 0 3, .engineer, .core⟩,
  ⟨"NEXT_DISPATCH", 0x2110, 1, 1, 3, 3, .stime, .rw, false, false, [0], .any, .operator, .core⟩,
  ⟨"KEEPALIVE_CAPABLE", 0x2110, 1, 1, 4, 4, .bool, .rwh, true, false, [0], .any, .engineer, .core⟩,
  ⟨"WAKE_GUARD", 0x2110, 1, 1, 5, 5, .u16, .rwh, true, false, [500], .within 0 10000, .engineer, .core⟩,
  ⟨"DORMANT_DRIFT", 0x2110, 1, 1, 6, 6, .u32, .rwh, true, false, [500], .within 100 100000, .engineer, .core⟩,
  ⟨"POWER_BLOCKER", 0x2110, 1, 1, 7, 7, .u8, .ro, false, false, [0], .any, .engineer, .core⟩,
  ⟨"UNIT_DOZE", 0x2110, 1, 1, 8, 8, .u32, .ro, false, false, [0], .any, .engineer, .core⟩,
  ⟨"NAP_ENTRIES", 0x2110, 1, 1, 9, 9, .u32, .ro, false, false, [0], .any, .engineer, .core⟩,
  ⟨"DORMANT_ENTRIES", 0x2110, 1, 1, 10, 10, .u32, .ro, false, false, [0], .any, .engineer, .core⟩,
  ⟨"LAST_WAKE_TIME", 0x2110, 1, 1, 11, 11, .u32, .ro, false, false, [0], .any, .engineer, .core⟩,
  ⟨"WAKE_LATE", 0x2110, 1, 1, 12, 12, .u32, .ro, false, false, [0], .any, .engineer, .core⟩,
  ⟨"WAKE_FAILURES", 0x2110, 1, 1, 13, 13, .u32, .ro, false, false, [0], .any, .engineer, .core⟩,
  ⟨"POWER_FAULT", 0x2110, 1, 1, 14, 14, .bool, .ro, false, false, [0], .any, .engineer, .core⟩,
  ⟨"POWER_FAULT_CAUSE", 0x2110, 1, 1, 15, 15, .u8, .ro, false, false, [0], .any, .engineer, .core⟩,
  ⟨"POWER_RETRY", 0x2110, 1, 1, 16, 16, .u8, .wo, false, false, [0], .within 1 1, .engineer, .core⟩,
  ⟨"DOZE_TIME", 0x2110, 1, 1, 17, 17, .u64, .ro, false, false, [0], .any, .engineer, .core⟩,
  ⟨"COVE_HIGHEST", 0x2120, 1, 1, 0, 0, .u8, .ro, false, false, [9], .any, .engineer, .core⟩,
  ⟨"COVE_STATUS", 0x2120, 1, 1, 1, 1, .u8, .ro, false, false, [0], .any, .engineer, .core⟩,
  ⟨"COVE_QUICK_V", 0x2120, 1, 1, 2, 2, .u16, .ro, false, false, [0], .any, .engineer, .core⟩,
  ⟨"COVE_BULK_V", 0x2120, 1, 1, 3, 3, .u16, .ro, false, false, [0], .any, .engineer, .core⟩,
  ⟨"COVE_HVIN_V", 0x2120, 1, 1, 4, 4, .u16, .ro, false, false, [0], .any, .engineer, .core⟩,
  ⟨"COVE_CHARGE_I", 0x2120, 1, 1, 5, 5, .u8, .rwh, true, false, [10], .within 1 50, .engineer, .core⟩]

/-- Object rows 0x2100 to 0x21FF, part 1. -/
def rowsPower1 : List ObjRow := [
  ⟨"COVE_BULK_F", 0x2120, 1, 1, 6, 6, .u16, .rwh, true, false, [1000], .within 0 1000, .engineer, .core⟩,
  ⟨"COVE_ENDURANCE", 0x2120, 1, 1, 7, 7, .u32, .ro, false, false, [0], .any, .engineer, .core⟩,
  ⟨"COVE_ON_STORE_TIME", 0x2120, 1, 1, 8, 8, .u32, .ro, false, false, [0], .any, .engineer, .core⟩,
  ⟨"COVE_COLD_STARTS", 0x2120, 1, 1, 9, 9, .u32, .ro, false, false, [0], .any, .engineer, .core⟩]

/-- Object rows 0x2100 to 0x21FF. -/
def rowsPower : List ObjRow := rowsPower0 ++ rowsPower1

/-- Object rows 0x2200 to 0x224F, part 0. -/
def rowsFaults0 : List ObjRow := [
  ⟨"FSRC_HIGHEST", 0x2200, 14, 1, 0, 0, .u8, .ro, false, false, [7], .any, .engineer, .core⟩,
  ⟨"FSRC_WEIGHT", 0x2200, 14, 1, 1, 1, .u8, .rwh, true, true, [1, 32, 1, 1, 16, 16, 1, 255, 64, 128, 255, 64, 1, 128], .within 1 255, .engineer, .core⟩,
  ⟨"FSRC_THRESHOLD", 0x2200, 14, 1, 2, 2, .u16, .rwh, true, true, [1000, 96, 16, 64, 64, 64, 200, 255, 128, 255, 255, 192, 1000, 255], .within 1 65535, .engineer, .core⟩,
  ⟨"FSRC_WINDOW", 0x2200, 14, 1, 3, 3, .u16, .rwh, true, true, [1000, 10000, 10000, 1000, 10000, 10000, 100, 10000, 10000, 10000, 10000, 10000, 1000, 10000], .within 1 10000, .engineer, .core⟩,
  ⟨"FSRC_REACTION", 0x2200, 14, 1, 4, 4, .u8, .rwh, true, true, [0, 1, 0, 3, 1, 1, 0, 0, 0, 0, 1, 1, 0, 2], .any, .engineer, .core⟩,
  ⟨"FSRC_UPSETS", 0x2200, 14, 1, 5, 5, .u32, .ro, false, false, [0], .any, .engineer, .core⟩,
  ⟨"FSRC_LASTING", 0x2200, 14, 1, 6, 6, .u32, .ro, false, false, [0], .any, .engineer, .core⟩,
  ⟨"FSRC_COUNTS", 0x2200, 14, 1, 7, 7, .domain, .ro, false, false, [], .any, .engineer, .core⟩,
  ⟨"RECOVERY_HIGHEST", 0x2220, 1, 1, 0, 0, .u8, .ro, false, false, [17], .any, .engineer, .core⟩,
  ⟨"RETX_TIMEOUT", 0x2220, 1, 1, 1, 1, .u16, .rwh, true, false, [32], .within 8 4096, .engineer, .core⟩,
  ⟨"STRAY_PEN_TIME", 0x2220, 1, 1, 2, 2, .u16, .rwh, true, false, [1000], .within 10 60000, .engineer, .core⟩,
  ⟨"REJOIN_AUTO", 0x2220, 1, 1, 3, 3, .bool, .rwh, true, false, [1], .any, .engineer, .core⟩,
  ⟨"REJOIN_HOLD", 0x2220, 1, 1, 4, 4, .u16, .rwh, true, false, [1000], .within 100 60000, .engineer, .core⟩,
  ⟨"REJOIN_TRIES", 0x2220, 1, 1, 5, 5, .u8, .rwh, true, false, [3], .within 1 16, .engineer, .core⟩,
  ⟨"READMIT_TIMEOUT", 0x2220, 1, 1, 6, 6, .u16, .rwh, true, false, [100], .within 10 10000, .engineer, .core⟩,
  ⟨"REJOIN_REQUEST", 0x2220, 1, 1, 7, 7, .u8, .wo, false, false, [0], .within 0 127, .engineer, .core⟩,
  ⟨"RETRANSMISSIONS", 0x2220, 1, 1, 8, 8, .u64, .ro, false, false, [0], .any, .engineer, .core⟩,
  ⟨"UP_DUPLICATES", 0x2220, 1, 1, 9, 9, .u32, .ro, false, false, [0], .any, .engineer, .core⟩,
  ⟨"UP_DISCARDED", 0x2220, 1, 1, 10, 10, .u32, .ro, false, false, [0], .any, .engineer, .core⟩,
  ⟨"ACK_INVALID", 0x2220, 1, 1, 11, 11, .u32, .ro, false, false, [0], .any, .engineer, .core⟩,
  ⟨"EPOCH_MISMATCH", 0x2220, 1, 1, 12, 12, .u32, .ro, false, false, [0], .any, .engineer, .core⟩,
  ⟨"EPOCHS_OPENED", 0x2220, 1, 1, 13, 13, .u32, .ro, false, false, [0], .any, .engineer, .core⟩,
  ⟨"PATH_FAULTS", 0x2220, 1, 1, 14, 14, .u32, .ro, false, false, [0], .any, .engineer, .core⟩,
  ⟨"REJOINS", 0x2220, 1, 1, 15, 15, .u32, .ro, false, false, [0], .any, .engineer, .core⟩,
  ⟨"REJOIN_FAILS", 0x2220, 1, 1, 16, 16, .u32, .ro, false, false, [0], .any, .engineer, .core⟩,
  ⟨"READMISSIONS", 0x2220, 1, 1, 17, 17, .u32, .ro, false, false, [0], .any, .engineer, .core⟩,
  ⟨"TURN_PLAN_HIGHEST", 0x2222, 1, 1, 0, 0, .u8, .ro, false, false, [128], .any, .engineer, .core⟩,
  ⟨"TURN_PLAN", 0x2222, 1, 1, 1, 128, .u32, .ro, false, false, [0xFFFF00], .any, .engineer, .core⟩,
  ⟨"PSRC_HIGHEST", 0x2240, 5, 1, 0, 0, .u8, .ro, false, false, [6], .any, .engineer, .core⟩,
  ⟨"PSRC_WEIGHT", 0x2240, 5, 1, 1, 1, .u8, .rwh, true, true, [128, 32, 64, 255, 255], .within 1 255, .engineer, .core⟩,
  ⟨"PSRC_THRESHOLD", 0x2240, 5, 1, 2, 2, .u16, .rwh, true, true, [256, 128, 192, 255, 255], .within 1 65535, .engineer, .core⟩,
  ⟨"PSRC_WINDOW", 0x2240, 5, 1, 3, 3, .u16, .rwh, true, true, [10000, 1000, 10000, 10000, 10000], .within 1 10000, .engineer, .core⟩,
  ⟨"PSRC_REACTION", 0x2240, 5, 1, 4, 4, .u8, .rwh, true, true, [1, 1, 1, 2, 2], .within 0 2, .engineer, .core⟩,
  ⟨"PSRC_UPSETS", 0x2240, 5, 1, 5, 5, .u32, .ro, false, false, [0], .any, .engineer, .core⟩,
  ⟨"PSRC_LASTING", 0x2240, 5, 1, 6, 6, .u32, .ro, false, false, [0], .any, .engineer, .core⟩,
  ⟨"PROT_HIGHEST", 0x2245, 1, 1, 0, 0, .u8, .ro, false, false, [7], .any, .engineer, .core⟩,
  ⟨"SC_AUTO_CLEAR", 0x2245, 1, 1, 1, 1, .bool, .rwh, true, false, [1], .any, .engineer, .core⟩,
  ⟨"SC_CLEAR_DELAY", 0x2245, 1, 1, 2, 2, .u16, .rwh, true, false, [100], .within 10 60000, .engineer, .core⟩,
  ⟨"BYPASS_ACK_TIMEOUT", 0x2245, 1, 1, 3, 3, .u16, .rwh, true, false, [50], .within 5 5000, .engineer, .core⟩,
  ⟨"RETIRE_PENNINGS", 0x2245, 1, 1, 4, 4, .u8, .rwh, true, false, [3], .within 1 255, .engineer, .core⟩]

/-- Object rows 0x2200 to 0x224F, part 1. -/
def rowsFaults1 : List ObjRow := [
  ⟨"TEST_V_MIN", 0x2245, 1, 1, 5, 5, .u16, .rwh, true, false, [3000], .within 1000 9000, .engineer, .core⟩,
  ⟨"TEST_TIMEOUT", 0x2245, 1, 1, 6, 6, .u16, .rwh, true, false, [200], .within 60 10000, .engineer, .core⟩,
  ⟨"TEST_CONCURRENT", 0x2245, 1, 1, 7, 7, .u8, .rwh, true, false, [2], .within 1 16, .engineer, .core⟩]

/-- Object rows 0x2200 to 0x224F. -/
def rowsFaults : List ObjRow := rowsFaults0 ++ rowsFaults1

/-- Object rows 0x2250 to 0x23FF, part 0. -/
def rowsCounters0 : List ObjRow := [
  ⟨"PMC_HIGHEST", 0x2250, 1, 1, 0, 0, .u8, .ro, false, false, [7], .any, .engineer, .core⟩,
  ⟨"PMC_STATUS", 0x2250, 1, 1, 1, 1, .u32, .ro, false, false, [0], .any, .engineer, .core⟩,
  ⟨"PMC_STATUS_CLEAR", 0x2250, 1, 1, 2, 2, .u32, .wo, false, false, [0], .any, .operator, .core⟩,
  ⟨"PMC_READ", 0x2250, 1, 1, 3, 3, .domain, .ro, false, false, [], .any, .engineer, .core⟩,
  ⟨"PMC_FREEZE", 0x2250, 1, 1, 4, 4, .bool, .rw, false, false, [0], .any, .operator, .core⟩,
  ⟨"PMC_SAMPLES", 0x2250, 1, 1, 5, 5, .domain, .ro, false, false, [], .any, .engineer, .core⟩,
  ⟨"PMC_SAMPLE_RELEASE", 0x2250, 1, 1, 6, 6, .u32, .wo, false, false, [0], .any, .operator, .core⟩,
  ⟨"PMC_SAMPLES_LOST", 0x2250, 1, 1, 7, 7, .u64, .ro, false, false, [0], .any, .engineer, .core⟩,
  ⟨"PMC_C_HIGHEST", 0x2260, 32, 1, 0, 0, .u8, .ro, false, false, [8], .any, .engineer, .core⟩,
  ⟨"PMC_EVENT", 0x2260, 32, 1, 1, 1, .u8, .rw, false, false, [0], .within 0 21, .engineer, .core⟩,
  ⟨"PMC_INSTANCE", 0x2260, 32, 1, 2, 2, .u16, .rw, false, false, [65535], .any, .engineer, .core⟩,
  ⟨"PMC_MODE", 0x2260, 32, 1, 3, 3, .u8, .rw, false, false, [0], .within 0 3, .engineer, .core⟩,
  ⟨"PMC_THRESHOLD", 0x2260, 32, 1, 4, 4, .u32, .rw, false, false, [1], .any, .engineer, .core⟩,
  ⟨"PMC_VALUE", 0x2260, 32, 1, 5, 5, .u32, .rw, false, false, [0], .any, .engineer, .core⟩,
  ⟨"PMC_PRELOAD", 0x2260, 32, 1, 6, 6, .u32, .rw, false, false, [0], .any, .engineer, .core⟩,
  ⟨"PMC_SAMPLE", 0x2260, 32, 1, 7, 7, .bool, .rw, false, false, [0], .any, .engineer, .core⟩,
  ⟨"PMC_OWNER", 0x2260, 32, 1, 8, 8, .u8, .ro, false, false, [255], .any, .engineer, .core⟩,
  ⟨"HIST_HIGHEST", 0x2280, 8, 1, 0, 0, .u8, .ro, false, false, [8], .any, .engineer, .core⟩,
  ⟨"HIST_ENABLE", 0x2280, 8, 1, 1, 1, .bool, .rw, false, false, [0], .any, .engineer, .core⟩,
  ⟨"HIST_SOURCE", 0x2280, 8, 1, 2, 2, .u8, .rw, false, false, [0], .within 0 7, .engineer, .core⟩,
  ⟨"HIST_INSTANCE", 0x2280, 8, 1, 3, 3, .u16, .rw, false, false, [65535], .any, .engineer, .core⟩,
  ⟨"HIST_BASE", 0x2280, 8, 1, 4, 4, .u32, .rw, false, false, [0], .any, .engineer, .core⟩,
  ⟨"HIST_WIDTH", 0x2280, 8, 1, 5, 5, .u32, .rw, false, false, [100], .within 1 4294967295, .engineer, .core⟩,
  ⟨"HIST_LOG", 0x2280, 8, 1, 6, 6, .bool, .rw, false, false, [0], .any, .engineer, .core⟩,
  ⟨"HIST_DATA", 0x2280, 8, 1, 7, 7, .domain, .ro, false, false, [], .any, .engineer, .core⟩,
  ⟨"HIST_CLEAR", 0x2280, 8, 1, 8, 8, .u8, .wo, false, false, [0], .within 1 1, .operator, .core⟩,
  ⟨"DEBUG_HIGHEST", 0x22F0, 1, 1, 0, 0, .u8, .ro, false, false, [5], .any, .engineer, .core⟩,
  ⟨"DEBUG_STATE", 0x22F0, 1, 1, 1, 1, .u8, .ro, false, false, [0], .any, .engineer, .core⟩,
  ⟨"DEBUG_CHALLENGE", 0x22F0, 1, 1, 2, 2, .domain, .ro, false, false, [], .any, .engineer, .core⟩,
  ⟨"DEBUG_UNLOCK", 0x22F0, 1, 1, 3, 3, .domain, .wo, false, false, [], .any, .engineer, .core⟩,
  ⟨"DEBUG_LOCK", 0x22F0, 1, 1, 4, 4, .u8, .wo, false, false, [0], .within 1 1, .engineer, .core⟩,
  ⟨"DEBUG_HALTED", 0x22F0, 1, 1, 5, 5, .u32, .ro, false, false, [0], .any, .engineer, .core⟩]

/-- Object rows 0x2250 to 0x23FF. -/
def rowsCounters : List ObjRow := rowsCounters0

/-- Object rows 0x2400 to 0x27FF, part 0. -/
def rowsSafety0 : List ObjRow := [
  ⟨"BW_HIGHEST", 0x2400, 1, 1, 0, 0, .u8, .ro, false, false, [23], .any, .engineer, .core⟩,
  ⟨"BW_STATUS", 0x2400, 1, 1, 1, 1, .u32, .ro, false, false, [262226], .any, .engineer, .core⟩,
  ⟨"DEMAND_CAUSES", 0x2400, 1, 1, 2, 2, .u32, .ro, false, false, [3072], .any, .engineer, .core⟩,
  ⟨"SAFETY_DEMAND", 0x2400, 1, 1, 3, 3, .u8, .rws, false, false, [0], .within 0 3, .safety, .core⟩,
  ⟨"SAFETY_RESET", 0x2400, 1, 1, 4, 4, .u8, .wo, false, false, [0], .within 1 1, .operator, .core⟩,
  ⟨"TRIP_RELEASE", 0x2400, 1, 1, 5, 5, .u8, .wo, false, false, [0], .within 1 1, .operator, .core⟩,
  ⟨"SAFETY_SELFTEST", 0x2400, 1, 1, 6, 6, .u8, .rws, false, false, [0], .within 1 1, .safety, .core⟩,
  ⟨"SELFTEST_STATUS", 0x2400, 1, 1, 7, 7, .u8, .ro, false, false, [255], .any, .engineer, .core⟩,
  ⟨"SAFETY_CONFIRM", 0x2400, 1, 1, 8, 8, .u32, .rws, false, false, [0], .any, .safety, .core⟩,
  ⟨"SAFETY_PARAM_CHECK", 0x2400, 1, 1, 9, 9, .u32, .ro, false, false, [0], .any, .engineer, .core⟩,
  ⟨"CONFIRMED_CHECK", 0x2400, 1, 1, 10, 10, .u32, .ro, false, false, [0xB11B8A40], .any, .engineer, .core⟩,
  ⟨"DEGRADED_REMAINING", 0x2400, 1, 1, 11, 11, .u16, .ro, false, false, [0], .any, .engineer, .core⟩,
  ⟨"FAULT_DETAIL", 0x2400, 1, 1, 12, 12, .u8, .ro, false, false, [0], .any, .engineer, .core⟩,
  ⟨"DEMANDS", 0x2400, 1, 1, 13, 13, .u32, .ro, false, false, [0], .any, .engineer, .core⟩,
  ⟨"RESETS", 0x2400, 1, 1, 14, 14, .u32, .ro, false, false, [0], .any, .engineer, .core⟩,
  ⟨"CHANNEL_FAULTS", 0x2400, 1, 1, 15, 15, .u32, .ro, false, false, [0], .any, .engineer, .core⟩,
  ⟨"DEGRADED_ENTRIES", 0x2400, 1, 1, 16, 16, .u32, .ro, false, false, [0], .any, .engineer, .core⟩,
  ⟨"ECHO_MISSES", 0x2400, 1, 1, 17, 17, .u32, .ro, false, false, [0], .any, .engineer, .core⟩,
  ⟨"HEARTBEAT_LOSSES", 0x2400, 1, 1, 18, 18, .u32, .ro, false, false, [0], .any, .engineer, .core⟩,
  ⟨"FAST_TESTS", 0x2400, 1, 1, 19, 19, .u64, .ro, false, false, [0], .any, .engineer, .core⟩,
  ⟨"FAST_TEST_FAILS", 0x2400, 1, 1, 20, 20, .u32, .ro, false, false, [0], .any, .engineer, .core⟩,
  ⟨"TRIP_PULSE_FAULTS", 0x2400, 1, 1, 21, 21, .u32, .ro, false, false, [0], .any, .engineer, .core⟩,
  ⟨"CHANNEL_DISAGREE", 0x2400, 1, 1, 22, 22, .u32, .ro, false, false, [0], .any, .engineer, .core⟩,
  ⟨"SAFETY_SESSION_RESET", 0x2400, 1, 1, 23, 23, .u8, .rws, false, false, [0], .within 1 1, .safety, .core⟩,
  ⟨"BW_CFG_HIGHEST", 0x2401, 1, 1, 0, 0, .u8, .ro, false, false, [10], .any, .engineer, .core⟩,
  ⟨"DEGRADED_TIME", 0x2401, 1, 1, 1, 1, .u8, .rws, true, false, [15], .within 0 60, .safety, .core⟩,
  ⟨"TEST_PULSE_PERIOD", 0x2401, 1, 1, 2, 2, .u16, .rws, true, false, [500], .within 100 10000, .safety, .core⟩,
  ⟨"TEST_PULSE_WIDTH", 0x2401, 1, 1, 3, 3, .u16, .rws, true, false, [300], .within 100 1000, .safety, .core⟩,
  ⟨"HEARTBEAT_MISSES", 0x2401, 1, 1, 4, 4, .u8, .rws, true, false, [2], .within 1 3, .safety, .core⟩,
  ⟨"ECHO_LIMIT", 0x2401, 1, 1, 5, 5, .u16, .rws, true, false, [20], .within 10 100, .safety, .core⟩,
  ⟨"ECHO_REACTION", 0x2401, 1, 1, 6, 6, .u8, .rws, true, false, [1], .within 0 1, .safety, .core⟩,
  ⟨"AOC_REACTION", 0x2401, 1, 1, 7, 7, .u8, .rws, true, false, [0], .within 0 1, .safety, .core⟩,
  ⟨"DCOV_REACTION", 0x2401, 1, 1, 8, 8, .u8, .rws, true, false, [0], .within 0 1, .safety, .core⟩,
  ⟨"FAST_TEST_PERIOD", 0x2401, 1, 1, 9, 9, .u16, .rws, true, false, [1000], .within 100 60000, .safety, .core⟩,
  ⟨"HOST_RESET_ALLOWED", 0x2401, 1, 1, 10, 10, .bool, .rws, true, false, [1], .any, .safety, .core⟩,
  ⟨"SIN_HIGHEST", 0x2410, 16, 1, 0, 0, .u8, .ro, false, false, [6], .any, .engineer, .core⟩,
  ⟨"SIN_MODE", 0x2410, 16, 1, 1, 1, .u8, .rws, true, false, [0], .within 0 1, .safety, .core⟩,
  ⟨"SIN_FUNCTION", 0x2410, 16, 1, 2, 2, .u8, .rws, true, false, [0], .within 0 4, .safety, .core⟩,
  ⟨"SIN_DISCREPANCY", 0x2410, 16, 1, 3, 3, .u16, .rws, true, false, [100], .within 1 2000, .safety, .core⟩,
  ⟨"SIN_STATE", 0x2410, 16, 1, 4, 4, .u8, .ro, false, false, [0], .any, .engineer, .core⟩]

/-- Object rows 0x2400 to 0x27FF, part 1. -/
def rowsSafety1 : List ObjRow := [
  ⟨"SIN_DEMANDS", 0x2410, 16, 1, 5, 5, .u32, .ro, false, false, [0], .any, .engineer, .core⟩,
  ⟨"SIN_FAULTS", 0x2410, 16, 1, 6, 6, .u32, .ro, false, false, [0], .any, .engineer, .core⟩,
  ⟨"BW_IO_HIGHEST", 0x2420, 1, 1, 0, 0, .u8, .ro, false, false, [7], .any, .engineer, .core⟩,
  ⟨"TRIP_STATE", 0x2420, 1, 1, 1, 4, .u8, .ro, false, false, [0], .any, .engineer, .core⟩,
  ⟨"FAST_TEST_RESULT", 0x2420, 1, 1, 5, 5, .u32, .ro, false, false, [0], .any, .engineer, .core⟩,
  ⟨"STANDIN_STATE", 0x2420, 1, 1, 6, 6, .u8, .ro, false, false, [0], .any, .engineer, .core⟩,
  ⟨"STANDIN_FOR", 0x2420, 1, 1, 7, 7, .u16, .ro, false, false, [65535], .any, .engineer, .core⟩]

/-- Object rows 0x2400 to 0x27FF. -/
def rowsSafety : List ObjRow := rowsSafety0 ++ rowsSafety1

/-- Object rows 0x2800 to 0x29FF, part 0. Bits 7:4 of `SAR_CAL` name no converter: a write with one set is out of range (DESIGN CHOICE,
log entry 61). -/
def rowsLocalIo0 : List ObjRow := [
  ⟨"SAR_HIGHEST", 0x2800, 4, 1, 0, 0, .u8, .ro, false, false, [21], .any, .engineer, .core⟩,
  ⟨"SAR_CONTINUOUS", 0x2800, 4, 1, 1, 1, .bool, .rwh, true, false, [0], .any, .engineer, .core⟩,
  ⟨"SAR_BG_MASK", 0x2800, 4, 1, 2, 2, .u8, .rwh, true, false, [0], .any, .engineer, .core⟩,
  ⟨"SAR_STATUS", 0x2800, 4, 1, 3, 3, .u8, .ro, false, false, [0], .any, .engineer, .core⟩,
  ⟨"SAR_DATA", 0x2800, 4, 1, 4, 4, .u32, .ro, false, false, [0], .any, .engineer, .core⟩,
  ⟨"SAR_OVERRUNS", 0x2800, 4, 1, 5, 5, .u32, .ro, false, false, [0], .any, .engineer, .core⟩,
  ⟨"SAR_VALUE", 0x2800, 4, 1, 6, 13, .u16, .ro, false, false, [0], .any, .engineer, .core⟩,
  ⟨"SAR_INPUT_OFFSET", 0x2800, 4, 1, 14, 21, .i16, .rw, true, false, [0], .within (-512) 512, .engineer, .core⟩,
  ⟨"SAR_CAL_HIGHEST", 0x2804, 1, 1, 0, 0, .u8, .ro, false, false, [5], .any, .engineer, .core⟩,
  ⟨"SAR_CAL", 0x2804, 1, 1, 1, 1, .u8, .wo, false, false, [0], .within 0 15, .engineer, .core⟩,
  ⟨"SAR_CAL_STATUS", 0x2804, 1, 1, 2, 2, .u8, .ro, false, false, [254], .any, .engineer, .core⟩,
  ⟨"SAR_CAL_FAILED", 0x2804, 1, 1, 3, 3, .u8, .ro, false, false, [255], .any, .engineer, .core⟩,
  ⟨"SAR_CAL_ZERO_LIMIT", 0x2804, 1, 1, 4, 4, .u16, .rwh, true, false, [160], .within 16 4096, .engineer, .core⟩,
  ⟨"SAR_CALIBRATIONS", 0x2804, 1, 1, 5, 5, .u32, .ro, false, false, [0], .any, .engineer, .core⟩,
  ⟨"SENSE_HIGHEST", 0x2810, 1, 1, 0, 0, .u8, .ro, false, false, [2], .any, .engineer, .core⟩,
  ⟨"SENSE_ENABLE", 0x2810, 1, 1, 1, 1, .u64, .rwh, true, false, [0], .any, .engineer, .core⟩,
  ⟨"SENSE_MISSING", 0x2810, 1, 1, 2, 2, .u64, .ro, false, false, [0], .any, .engineer, .core⟩,
  ⟨"HIGHEST_2811", 0x2811, 1, 1, 0, 0, .u8, .ro, false, false, [64], .any, .engineer, .core⟩,
  ⟨"SENSE_GAIN", 0x2811, 1, 1, 1, 64, .f32, .rwh, true, false, [1065353216], .nonzero, .engineer, .core⟩,
  ⟨"HIGHEST_2812", 0x2812, 1, 1, 0, 0, .u8, .ro, false, false, [64], .any, .engineer, .core⟩,
  ⟨"SENSE_OFFSET", 0x2812, 1, 1, 1, 64, .f32, .rwh, true, false, [0], .any, .engineer, .core⟩,
  ⟨"HIGHEST_2813", 0x2813, 1, 1, 0, 0, .u8, .ro, false, false, [64], .any, .engineer, .core⟩,
  ⟨"SENSE_VALUE", 0x2813, 1, 1, 1, 64, .f32, .ro, false, false, [0], .any, .engineer, .core⟩,
  ⟨"HIGHEST_2814", 0x2814, 1, 1, 0, 0, .u8, .ro, false, false, [32], .any, .engineer, .core⟩,
  ⟨"SENSE_DECIMATION", 0x2814, 1, 1, 1, 32, .u16, .rwh, true, false, [64], .within 8 256, .engineer, .core⟩,
  ⟨"HIGHEST_2815", 0x2815, 1, 1, 0, 0, .u8, .ro, false, false, [32], .any, .engineer, .core⟩,
  ⟨"SENSE_DELAY", 0x2815, 1, 1, 1, 32, .i32, .ro, false, false, [0], .any, .engineer, .core⟩,
  ⟨"SENSE_MAP_HIGHEST", 0x2816, 1, 1, 0, 0, .u8, .ro, false, false, [14], .any, .engineer, .core⟩,
  ⟨"ARM_I_SENSOR", 0x2816, 1, 1, 1, 12, .u8, .rwh, true, false, [255], .oneOf [0, 1, 2, 3, 4, 5, 6, 7, 8, 9, 10, 11, 12, 13, 14, 15, 16, 17, 18, 19, 20, 21, 22, 23, 24, 25, 26, 27, 28, 29, 30, 31, 32, 33, 34, 35, 36, 37, 38, 39, 40, 41, 42, 43, 44, 45, 46, 47, 48, 49, 50, 51, 52, 53, 54, 55, 56, 57, 58, 59, 60, 61, 62, 63, 255], .engineer, .core⟩,
  ⟨"DC_V_SENSOR", 0x2816, 1, 1, 13, 14, .u8, .rwh, true, false, [255], .oneOf [0, 1, 2, 3, 4, 5, 6, 7, 8, 9, 10, 11, 12, 13, 14, 15, 16, 17, 18, 19, 20, 21, 22, 23, 24, 25, 26, 27, 28, 29, 30, 31, 32, 33, 34, 35, 36, 37, 38, 39, 40, 41, 42, 43, 44, 45, 46, 47, 48, 49, 50, 51, 52, 53, 54, 55, 56, 57, 58, 59, 60, 61, 62, 63, 255], .engineer, .core⟩,
  ⟨"CMP_HIGHEST", 0x2820, 24, 1, 0, 0, .u8, .ro, false, false, [10], .any, .engineer, .core⟩,
  ⟨"CMP_ENABLE", 0x2820, 24, 1, 1, 1, .bool, .rws, true, false, [0], .any, .safety, .core⟩,
  ⟨"CMP_INPUT", 0x2820, 24, 1, 2, 2, .u8, .rws, true, false, [0], .within 0 31, .safety, .core⟩,
  ⟨"CMP_UPPER", 0x2820, 24, 1, 3, 3, .u16, .rws, true, false, [1023], .within 1 1023, .safety, .core⟩,
  ⟨"CMP_LOWER", 0x2820, 24, 1, 4, 4, .u16, .rws, true, false, [0], .within 0 1022, .safety, .core⟩,
  ⟨"CMP_HYST", 0x2820, 24, 1, 5, 5, .u8, .rws, true, false, [2], .within 0 7, .safety, .core⟩,
  ⟨"CMP_ROUTE", 0x2820, 24, 1, 6, 6, .u8, .rws, true, false, [0], .within 0 7, .safety, .core⟩,
  ⟨"CMP_BLANK_SOURCE", 0x2820, 24, 1, 7, 7, .u8, .rws, true, false, [0], .within 0 2, .safety, .core⟩,
  ⟨"CMP_BLANK_ARG", 0x2820, 24, 1, 8, 8, .u16, .rws, true, false, [0], .within 0 49999, .safety, .core⟩,
  ⟨"CMP_BLANK_TIME", 0x2820, 24, 1, 9, 9, .u16, .rws, true, false, [0], .within 0 2000, .safety, .core⟩]

/-- Object rows 0x2800 to 0x29FF, part 1. -/
def rowsLocalIo1 : List ObjRow := [
  ⟨"CMP_CLEAR_MODE", 0x2820, 24, 1, 10, 10, .u8, .rws, true, false, [0], .within 0 2, .safety, .core⟩,
  ⟨"CMP_COMMON_HIGHEST", 0x2838, 1, 1, 0, 0, .u8, .ro, false, false, [4], .any, .engineer, .core⟩,
  ⟨"CMP_FLAGS", 0x2838, 1, 1, 1, 1, .u32, .ro, false, false, [0], .any, .engineer, .core⟩,
  ⟨"CMP_CLEAR", 0x2838, 1, 1, 2, 2, .u32, .wo, false, false, [0], .any, .operator, .core⟩,
  ⟨"CMP_RAW", 0x2838, 1, 1, 3, 3, .u32, .ro, false, false, [0], .any, .engineer, .core⟩,
  ⟨"CMP_LATCHES", 0x2838, 1, 1, 4, 4, .u32, .ro, false, false, [0], .any, .engineer, .core⟩,
  ⟨"PWM_HIGHEST", 0x2840, 12, 1, 0, 0, .u8, .ro, false, false, [12], .any, .engineer, .core⟩,
  ⟨"PWM_ENABLE", 0x2840, 12, 1, 1, 1, .bool, .rwh, true, false, [0], .any, .engineer, .core⟩,
  ⟨"PWM_ROLE", 0x2840, 12, 1, 2, 2, .u8, .rwh, true, false, [0], .within 0 1, .engineer, .core⟩,
  ⟨"PWM_PERIOD", 0x2840, 12, 1, 3, 3, .u16, .rwh, true, false, [2000], .within 40 65535, .engineer, .core⟩,
  ⟨"PWM_DELAY_RISE", 0x2840, 12, 1, 4, 4, .u16, .rwh, true, false, [25600], .any, .engineer, .core⟩,
  ⟨"PWM_DELAY_FALL", 0x2840, 12, 1, 5, 5, .u16, .rwh, true, false, [0], .any, .engineer, .core⟩,
  ⟨"PWM_MIN_PULSE", 0x2840, 12, 1, 6, 6, .u16, .rwh, true, false, [40], .within 0 4000, .engineer, .core⟩,
  ⟨"PWM_POLARITY", 0x2840, 12, 1, 7, 7, .u8, .rwh, true, false, [0], .within 0 3, .engineer, .core⟩,
  ⟨"PWM_SYNC", 0x2840, 12, 1, 8, 8, .bool, .rwh, true, false, [1], .any, .engineer, .core⟩,
  ⟨"PWM_DUTY", 0x2840, 12, 1, 9, 9, .f32, .rw, false, false, [0], .within 0 1, .operator, .core⟩,
  ⟨"PWM_STATUS", 0x2840, 12, 1, 10, 10, .u8, .ro, false, false, [0], .any, .engineer, .core⟩,
  ⟨"PWM_SUPPRESSED", 0x2840, 12, 1, 11, 11, .u32, .ro, false, false, [0], .any, .engineer, .core⟩,
  ⟨"PWM_RESYNCS", 0x2840, 12, 1, 12, 12, .u32, .ro, false, false, [0], .any, .engineer, .core⟩,
  ⟨"GPIO_HIGHEST", 0x2860, 1, 1, 0, 0, .u8, .ro, false, false, [8], .any, .engineer, .core⟩,
  ⟨"GPIO_DIRECTION", 0x2860, 1, 1, 1, 1, .u32, .rwh, true, false, [0], .any, .engineer, .core⟩,
  ⟨"GPIO_OUT", 0x2860, 1, 1, 2, 2, .u32, .rw, false, false, [0], .any, .operator, .core⟩,
  ⟨"GPIO_IN", 0x2860, 1, 1, 3, 3, .u32, .ro, false, false, [0], .any, .engineer, .core⟩,
  ⟨"GPIO_OUT_INIT", 0x2860, 1, 1, 4, 4, .u32, .rwh, true, false, [0], .any, .engineer, .core⟩,
  ⟨"GPIO_DEBOUNCE", 0x2860, 1, 1, 5, 5, .u16, .rwh, true, false, [10], .within 0 10000, .engineer, .core⟩,
  ⟨"GPIO_EVENT_RISE", 0x2860, 1, 1, 6, 6, .u32, .rwh, true, false, [0], .any, .engineer, .core⟩,
  ⟨"GPIO_EVENT_FALL", 0x2860, 1, 1, 7, 7, .u32, .rwh, true, false, [0], .any, .engineer, .core⟩,
  ⟨"GPIO_EVENTS", 0x2860, 1, 1, 8, 8, .u32, .ro, false, false, [0], .any, .engineer, .core⟩,
  ⟨"MBUS_HIGHEST", 0x2870, 1, 1, 0, 0, .u8, .ro, false, false, [13], .any, .engineer, .core⟩,
  ⟨"MBUS_SPEED", 0x2870, 1, 1, 1, 1, .u8, .rwh, true, false, [1], .within 0 2, .engineer, .core⟩,
  ⟨"MBUS_STRETCH_MAX", 0x2870, 1, 1, 2, 2, .u16, .rwh, true, false, [25], .within 1 100, .engineer, .core⟩,
  ⟨"MBUS_RETRIES", 0x2870, 1, 1, 3, 3, .u8, .rwh, true, false, [3], .within 0 15, .engineer, .core⟩,
  ⟨"MBUS_STATUS", 0x2870, 1, 1, 4, 4, .u8, .ro, false, false, [0], .any, .engineer, .core⟩,
  ⟨"MBUS_STUCK_COUNT", 0x2870, 1, 1, 5, 5, .u32, .ro, false, false, [0], .any, .engineer, .core⟩,
  ⟨"MBUS_ERRORS", 0x2870, 1, 1, 6, 6, .u32, .ro, false, false, [0], .any, .engineer, .core⟩,
  ⟨"MBUS_REQUEST", 0x2870, 1, 1, 7, 7, .domain, .wo, false, false, [], .any, .engineer, .core⟩,
  ⟨"MBUS_RESULT", 0x2870, 1, 1, 8, 8, .domain, .ro, false, false, [], .any, .engineer, .core⟩,
  ⟨"XCVR_POLL", 0x2870, 1, 1, 9, 9, .u16, .rwh, true, false, [1000], .within 0 60000, .engineer, .core⟩,
  ⟨"XCVR_TABLE", 0x2870, 1, 1, 10, 10, .domain, .ro, false, false, [], .any, .engineer, .core⟩,
  ⟨"PMBUS_POLL", 0x2870, 1, 1, 11, 11, .u16, .rwh, true, false, [100], .within 0 60000, .engineer, .core⟩]

/-- Object rows 0x2800 to 0x29FF, part 2. -/
def rowsLocalIo2 : List ObjRow := [
  ⟨"PMBUS_PEC", 0x2870, 1, 1, 12, 12, .bool, .rwh, true, false, [0], .any, .engineer, .core⟩,
  ⟨"PMBUS_TABLE", 0x2870, 1, 1, 13, 13, .domain, .ro, false, false, [], .any, .engineer, .core⟩,
  ⟨"HIGHEST_2871", 0x2871, 1, 1, 0, 0, .u8, .ro, false, false, [16], .any, .engineer, .core⟩,
  ⟨"XCVR_SWITCH_ADDR", 0x2871, 1, 1, 1, 16, .u8, .rwh, true, false, [112, 113, 114, 115, 116, 117, 118, 119, 104, 105, 106, 107, 108, 109, 110, 111], .within 0 127, .engineer, .core⟩,
  ⟨"HIGHEST_2872", 0x2872, 1, 1, 0, 0, .u8, .ro, false, false, [8], .any, .engineer, .core⟩,
  ⟨"PMBUS_ADDRESS", 0x2872, 1, 1, 1, 8, .u8, .rwh, true, false, [255], .any, .engineer, .core⟩]

/-- Object rows 0x2800 to 0x29FF. -/
def rowsLocalIo : List ObjRow := rowsLocalIo0 ++ rowsLocalIo1 ++ rowsLocalIo2

/-- Object rows 0x2A00 to 0x2FFF, part 0. -/
def rowsMeter0 : List ObjRow := [
  ⟨"METERING_HIGHEST", 0x2A00, 1, 1, 0, 0, .u8, .ro, false, false, [10], .any, .engineer, .core⟩,
  ⟨"METER_CORRECTION", 0x2A00, 1, 1, 1, 1, .u8, .rwh, true, false, [3], .within 0 3, .engineer, .core⟩,
  ⟨"RANGE_HOLD", 0x2A00, 1, 1, 2, 2, .u16, .rwh, true, false, [320], .within 16 16000, .engineer, .core⟩,
  ⟨"INTEGRATOR_CORNER", 0x2A00, 1, 1, 3, 3, .f32, .rwh, true, false, [1056964608], .within (1 / 10) 5, .engineer, .core⟩,
  ⟨"SNAPSHOT_TRIGGER", 0x2A00, 1, 1, 4, 4, .u8, .wo, false, false, [0], .within 1 1, .viewer, .core⟩,
  ⟨"SNAPSHOT", 0x2A00, 1, 1, 5, 5, .domain, .ro, false, false, [], .any, .engineer, .core⟩,
  ⟨"SNAPSHOT_INTERVAL", 0x2A00, 1, 1, 6, 6, .u16, .rwh, true, false, [15], .within 0 1440, .engineer, .core⟩,
  ⟨"SNAPSHOT_COUNT", 0x2A00, 1, 1, 7, 7, .u32, .ro, false, false, [0], .any, .engineer, .core⟩,
  ⟨"CHAIN_RESTARTS", 0x2A00, 1, 1, 8, 8, .u32, .ro, false, false, [0], .any, .engineer, .core⟩,
  ⟨"RANGE_SWITCHES", 0x2A00, 1, 1, 9, 9, .u32, .ro, false, false, [0], .any, .engineer, .core⟩,
  ⟨"SNAPSHOT_HISTORY", 0x2A00, 1, 1, 10, 10, .domain, .ro, false, false, [], .any, .engineer, .core⟩,
  ⟨"CH_HIGHEST", 0x2A10, 40, 1, 0, 0, .u8, .ro, false, false, [13], .any, .engineer, .channel⟩,
  ⟨"CH_ENABLE", 0x2A10, 40, 1, 1, 1, .bool, .rwh, true, false, [0], .any, .engineer, .channel⟩,
  ⟨"CH_KIND", 0x2A10, 40, 1, 2, 2, .u8, .rwh, true, true, List.replicate 36 0 ++ List.replicate 4 1, .within 0 1, .engineer, .channel⟩,
  ⟨"CH_FULL_SCALE", 0x2A10, 40, 1, 3, 3, .f32, .rwh, true, false, [1065353216], .positive, .engineer, .channel⟩,
  ⟨"BS_DECIMATION", 0x2A10, 40, 1, 4, 4, .u16, .rwh, true, false, [1250], .within 64 1562, .engineer, .bitstreamOnly⟩,
  ⟨"CH_GAIN", 0x2A10, 40, 1, 5, 5, .f32, .rwh, true, false, [1065353216], .within (1 / 2) 2, .engineer, .channel⟩,
  ⟨"CH_OFFSET", 0x2A10, 40, 1, 6, 6, .f32, .rw, true, false, [0], .within ((-1) / 100) (1 / 100), .engineer, .channel⟩,
  ⟨"CH_DELAY", 0x2A10, 40, 1, 7, 7, .i16, .rwh, true, false, [0], .within (-1024) 1024, .engineer, .channel⟩,
  ⟨"CH_GAIN_X16", 0x2A10, 40, 1, 8, 8, .f32, .rwh, true, false, [1065353216], .any, .engineer, .onPackageCurrent⟩,
  ⟨"CH_OFFSET_X16", 0x2A10, 40, 1, 9, 9, .f32, .rw, true, false, [0], .within ((-1) / 100) (1 / 100), .engineer, .channel⟩,
  ⟨"CH_RANGE", 0x2A10, 40, 1, 10, 10, .u8, .rwh, true, false, [0], .within 0 2, .engineer, .onPackageCurrent⟩,
  ⟨"CH_INTEGRATOR", 0x2A10, 40, 1, 11, 11, .bool, .rwh, true, false, [0], .any, .engineer, .onPackageCurrent⟩,
  ⟨"CH_STATUS", 0x2A10, 40, 1, 12, 12, .u8, .ro, false, false, [0], .any, .engineer, .channel⟩,
  ⟨"CH_RMS", 0x2A10, 40, 1, 13, 13, .f32, .ro, false, false, [0], .any, .engineer, .channel⟩,
  ⟨"EL_HIGHEST", 0x2A40, 6, 1, 0, 0, .u8, .ro, false, false, [12], .any, .engineer, .core⟩,
  ⟨"EL_V_CHANNEL", 0x2A40, 6, 1, 1, 1, .u8, .rwh, true, false, [255], .oneOf [0, 1, 2, 3, 4, 5, 6, 7, 8, 9, 10, 11, 12, 13, 14, 15, 16, 17, 18, 19, 20, 21, 22, 23, 24, 25, 26, 27, 28, 29, 30, 31, 32, 33, 34, 35, 36, 37, 38, 39, 255], .engineer, .core⟩,
  ⟨"EL_I_CHANNEL", 0x2A40, 6, 1, 2, 2, .u8, .rwh, true, false, [255], .oneOf [0, 1, 2, 3, 4, 5, 6, 7, 8, 9, 10, 11, 12, 13, 14, 15, 16, 17, 18, 19, 20, 21, 22, 23, 24, 25, 26, 27, 28, 29, 30, 31, 32, 33, 34, 35, 36, 37, 38, 39, 255], .engineer, .core⟩,
  ⟨"EL_P_GAIN", 0x2A40, 6, 1, 3, 3, .f32, .rwh, true, false, [1065353216], .within (9 / 10) (11 / 10), .engineer, .core⟩,
  ⟨"EL_P_OFFSET", 0x2A40, 6, 1, 4, 4, .f32, .rwh, true, false, [0], .within ((-1) / 1000) (1 / 1000), .engineer, .core⟩,
  ⟨"EL_Q_GAIN", 0x2A40, 6, 1, 5, 5, .f32, .rwh, true, false, [1065353216], .within (9 / 10) (11 / 10), .engineer, .core⟩,
  ⟨"EL_Q_OFFSET", 0x2A40, 6, 1, 6, 6, .f32, .rwh, true, false, [0], .within ((-1) / 1000) (1 / 1000), .engineer, .core⟩,
  ⟨"EL_V_RMS", 0x2A40, 6, 1, 7, 7, .f32, .ro, false, false, [0], .any, .engineer, .core⟩,
  ⟨"EL_I_RMS", 0x2A40, 6, 1, 8, 8, .f32, .ro, false, false, [0], .any, .engineer, .core⟩,
  ⟨"EL_P", 0x2A40, 6, 1, 9, 9, .f32, .ro, false, false, [0], .any, .engineer, .core⟩,
  ⟨"EL_Q", 0x2A40, 6, 1, 10, 10, .f32, .ro, false, false, [0], .any, .engineer, .core⟩,
  ⟨"EL_S", 0x2A40, 6, 1, 11, 11, .f32, .ro, false, false, [0], .any, .engineer, .core⟩,
  ⟨"EL_PF", 0x2A40, 6, 1, 12, 12, .f32, .ro, false, false, [0], .any, .engineer, .core⟩,
  ⟨"METER_HIGHEST", 0x2A60, 2, 1, 0, 0, .u8, .ro, false, false, [19], .any, .engineer, .core⟩,
  ⟨"METER_ENABLE", 0x2A60, 2, 1, 1, 1, .bool, .rwh, true, false, [0], .any, .engineer, .core⟩]

/-- Object rows 0x2A00 to 0x2FFF, part 1. -/
def rowsMeter1 : List ObjRow := [
  ⟨"METER_RATIO", 0x2A60, 2, 1, 2, 2, .f32, .rwh, true, false, [1065353216], .within 1 1000000000, .engineer, .core⟩,
  ⟨"METER_FREQUENCY", 0x2A60, 2, 1, 3, 3, .f32, .ro, false, false, [0], .any, .engineer, .core⟩,
  ⟨"METER_P", 0x2A60, 2, 1, 4, 4, .f32, .ro, false, false, [0], .any, .engineer, .core⟩,
  ⟨"METER_Q", 0x2A60, 2, 1, 5, 5, .f32, .ro, false, false, [0], .any, .engineer, .core⟩,
  ⟨"METER_S", 0x2A60, 2, 1, 6, 6, .f32, .ro, false, false, [0], .any, .engineer, .core⟩,
  ⟨"ENERGY", 0x2A60, 2, 1, 7, 14, .u64, .ro, false, false, [0], .any, .engineer, .core⟩,
  ⟨"METER_FLAGS", 0x2A60, 2, 1, 15, 15, .u32, .ro, false, false, [0], .any, .engineer, .core⟩,
  ⟨"METER_FLAGS_CLEAR", 0x2A60, 2, 1, 16, 16, .u32, .wo, false, false, [0], .any, .operator, .core⟩,
  ⟨"ENERGY_PRESET", 0x2A60, 2, 1, 17, 17, .domain, .wo, false, false, [], .any, .engineer, .core⟩,
  ⟨"MISSING_SAMPLES", 0x2A60, 2, 1, 18, 18, .u64, .ro, false, false, [0], .any, .engineer, .core⟩,
  ⟨"METER_GAP_TIME", 0x2A60, 2, 1, 19, 19, .u32, .ro, false, false, [0], .any, .engineer, .core⟩,
  ⟨"PULSE_HIGHEST", 0x2A70, 4, 1, 0, 0, .u8, .ro, false, false, [8], .any, .engineer, .core⟩,
  ⟨"PULSE_ENABLE", 0x2A70, 4, 1, 1, 1, .bool, .rwh, true, false, [0], .any, .engineer, .core⟩,
  ⟨"PULSE_SOURCE", 0x2A70, 4, 1, 2, 2, .u8, .rwh, true, false, [0], .any, .engineer, .core⟩,
  ⟨"PULSE_CONSTANT", 0x2A70, 4, 1, 3, 3, .u32, .rwh, true, false, [10000], .within 1 100000, .engineer, .core⟩,
  ⟨"PULSE_WIDTH", 0x2A70, 4, 1, 4, 4, .u16, .rwh, true, false, [3000], .within 10 10000, .engineer, .core⟩,
  ⟨"PULSE_POLARITY", 0x2A70, 4, 1, 5, 5, .bool, .rwh, true, false, [0], .any, .engineer, .core⟩,
  ⟨"PULSE_COUNT", 0x2A70, 4, 1, 6, 6, .u64, .ro, false, false, [0], .any, .engineer, .core⟩,
  ⟨"PULSE_BACKLOG", 0x2A70, 4, 1, 7, 7, .u16, .ro, false, false, [0], .any, .engineer, .core⟩,
  ⟨"PULSE_OVERRUNS", 0x2A70, 4, 1, 8, 8, .u32, .ro, false, false, [0], .any, .engineer, .core⟩,
  ⟨"CAL_HIGHEST", 0x2A80, 1, 1, 0, 0, .u8, .ro, false, false, [6], .any, .engineer, .core⟩,
  ⟨"CAL_CHANNELS", 0x2A80, 1, 1, 1, 1, .u64, .wo, false, false, [0], .any, .engineer, .core⟩,
  ⟨"CAL_STATUS", 0x2A80, 1, 1, 2, 2, .u8, .ro, false, false, [254], .any, .engineer, .core⟩,
  ⟨"CAL_FAILED_CHANNEL", 0x2A80, 1, 1, 3, 3, .u8, .ro, false, false, [255], .any, .engineer, .core⟩,
  ⟨"CAL_TIME", 0x2A80, 1, 1, 4, 4, .u16, .rwh, true, false, [2000], .within 200 20000, .engineer, .core⟩,
  ⟨"CAL_ZERO_LIMIT", 0x2A80, 1, 1, 5, 5, .f32, .rwh, true, false, [973279855], .within (1 / 10000) (1 / 100), .engineer, .core⟩,
  ⟨"CALIBRATIONS", 0x2A80, 1, 1, 6, 6, .u32, .ro, false, false, [0], .any, .engineer, .core⟩]

/-- Object rows 0x2A00 to 0x2FFF. -/
def rowsMeter : List ObjRow := rowsMeter0 ++ rowsMeter1

/-- Object rows 0x3000 to 0x30FF, part 0. -/
def rowsGrid0 : List ObjRow := [
  ⟨"COAST_HIGHEST", 0x3010, 1, 1, 0, 0, .u8, .ro, false, false, [5], .any, .engineer, .core⟩,
  ⟨"COAST_LIMIT", 0x3010, 1, 1, 1, 1, .u16, .rwh, true, false, [40], .within 5 40, .engineer, .core⟩,
  ⟨"COAST_ENERGY_BAND", 0x3010, 1, 1, 2, 2, .u16, .rwh, true, false, [1000], .within 100 3000, .engineer, .core⟩,
  ⟨"RAMP_DOWN_TIME", 0x3010, 1, 1, 3, 3, .u16, .rwh, true, false, [200], .within 20 10000, .engineer, .core⟩,
  ⟨"RAMP_DOWN_GRACE", 0x3010, 1, 1, 4, 4, .u16, .rwh, true, false, [20], .within 1 1000, .engineer, .core⟩,
  ⟨"COAST_REARM", 0x3010, 1, 1, 5, 5, .u16, .rwh, true, false, [10], .within 1 3600, .engineer, .core⟩,
  ⟨"GRID_CMD_HIGHEST", 0x3011, 1, 1, 0, 0, .u8, .ro, false, false, [2], .any, .engineer, .core⟩,
  ⟨"CORE_RESTART", 0x3011, 1, 1, 1, 1, .u8, .wo, false, false, [0], .within 1 1, .engineer, .core⟩,
  ⟨"RAMP_DOWN_REQUEST", 0x3011, 1, 1, 2, 2, .u8, .wo, false, false, [0], .within 1 1, .operator, .core⟩,
  ⟨"GRID_STATUS_HIGHEST", 0x3012, 1, 1, 0, 0, .u8, .ro, false, false, [7], .any, .engineer, .core⟩,
  ⟨"TRG_STATE", 0x3012, 1, 1, 1, 1, .u8, .ro, false, false, [0], .any, .engineer, .core⟩,
  ⟨"COASTS", 0x3012, 1, 1, 2, 2, .u32, .ro, false, false, [0], .any, .engineer, .core⟩,
  ⟨"COAST_LAST", 0x3012, 1, 1, 3, 3, .u16, .ro, false, false, [0], .any, .engineer, .core⟩,
  ⟨"ARM_HEADROOM", 0x3012, 1, 1, 4, 4, .u16, .ro, false, false, [0], .any, .engineer, .core⟩,
  ⟨"COAST_OVERRUNS", 0x3012, 1, 1, 5, 5, .u32, .ro, false, false, [0], .any, .engineer, .core⟩,
  ⟨"RAMP_DOWNS", 0x3012, 1, 1, 6, 6, .u32, .ro, false, false, [0], .any, .engineer, .core⟩,
  ⟨"RAMP_DOWN_CAUSE", 0x3012, 1, 1, 7, 7, .u8, .ro, false, false, [0], .any, .engineer, .core⟩,
  ⟨"MEAS_HIGHEST", 0x3020, 2, 64, 0, 0, .u8, .ro, false, false, [8], .any, .engineer, .core⟩,
  ⟨"VOLTAGE_SOURCE", 0x3020, 2, 64, 1, 1, .u8, .rwh, true, false, [1], .within 0 2, .engineer, .core⟩,
  ⟨"VOLTAGE_SOURCE_ALT", 0x3020, 2, 64, 2, 2, .u8, .rwh, true, false, [255], .oneOf [0, 1, 2, 255], .engineer, .core⟩,
  ⟨"SV_STREAM", 0x3020, 2, 64, 3, 3, .u8, .rwh, true, false, [0], .within 0 7, .engineer, .core⟩,
  ⟨"SV_DELAY", 0x3020, 2, 64, 4, 4, .u32, .rwh, true, false, [0], .within 0 10000000, .engineer, .core⟩,
  ⟨"METER_VOLTAGE_BASE", 0x3020, 2, 64, 5, 5, .u8, .rwh, true, false, [0], .any, .engineer, .core⟩,
  ⟨"SOURCE_LOSS_TIME", 0x3020, 2, 64, 6, 6, .u16, .rwh, true, false, [2000], .within 500 20000, .engineer, .core⟩,
  ⟨"SOURCE_DELAY", 0x3020, 2, 64, 7, 7, .u32, .ro, false, false, [0], .any, .engineer, .core⟩,
  ⟨"SOURCE_IN_USE", 0x3020, 2, 64, 8, 8, .u8, .ro, false, false, [255], .any, .engineer, .core⟩,
  ⟨"SYNC_HIGHEST", 0x3021, 2, 64, 0, 0, .u8, .ro, false, false, [7], .any, .engineer, .core⟩,
  ⟨"PLL_BANDWIDTH", 0x3021, 2, 64, 1, 1, .f32, .rwh, true, false, [1101004800], .within 2 100, .engineer, .core⟩,
  ⟨"PLL_DAMPING", 0x3021, 2, 64, 2, 2, .f32, .rwh, true, false, [1060437492], .within (3 / 10) 2, .engineer, .core⟩,
  ⟨"DSOGI_GAIN", 0x3021, 2, 64, 3, 3, .f32, .rwh, true, false, [1068826100], .within (1 / 2) 3, .engineer, .core⟩,
  ⟨"F_MIN", 0x3021, 2, 64, 4, 4, .f32, .rwh, true, false, [1061997773], .within (1 / 2) 1, .engineer, .core⟩,
  ⟨"F_MAX", 0x3021, 2, 64, 5, 5, .f32, .rwh, true, false, [1067030938], .within 1 (3 / 2), .engineer, .core⟩,
  ⟨"ROCOF_WINDOW", 0x3021, 2, 64, 6, 6, .u16, .rwh, true, false, [100], .within 20 1000, .engineer, .core⟩,
  ⟨"SCR_DEFAULT", 0x3021, 2, 64, 7, 7, .f32, .rwh, true, false, [1084227584], .within 1 50, .engineer, .core⟩,
  ⟨"GRID_HIGHEST", 0x3022, 2, 64, 0, 0, .u8, .ro, false, false, [12], .any, .engineer, .core⟩,
  ⟨"GRID_THETA", 0x3022, 2, 64, 1, 1, .ang32, .ro, false, false, [0], .any, .engineer, .core⟩,
  ⟨"GRID_FREQUENCY", 0x3022, 2, 64, 2, 2, .pu24, .ro, false, false, [0], .any, .engineer, .core⟩,
  ⟨"GRID_ROCOF", 0x3022, 2, 64, 3, 3, .i32, .ro, false, false, [0], .any, .engineer, .core⟩,
  ⟨"V_POS", 0x3022, 2, 64, 4, 4, .pu24, .ro, false, false, [0], .any, .engineer, .core⟩,
  ⟨"V_NEG", 0x3022, 2, 64, 5, 5, .pu24, .ro, false, false, [0], .any, .engineer, .core⟩]

/-- Object rows 0x3000 to 0x30FF, part 1. -/
def rowsGrid1 : List ObjRow := [
  ⟨"P_MEAS", 0x3022, 2, 64, 6, 6, .pu24, .ro, false, false, [0], .any, .engineer, .core⟩,
  ⟨"Q_MEAS", 0x3022, 2, 64, 7, 7, .pu24, .ro, false, false, [0], .any, .engineer, .core⟩,
  ⟨"SCR_EST", 0x3022, 2, 64, 8, 8, .pu24, .ro, false, false, [83886080], .any, .engineer, .core⟩,
  ⟨"GRID_AGE", 0x3022, 2, 64, 9, 9, .i32, .ro, false, false, [0], .any, .engineer, .core⟩,
  ⟨"SYNC_FLAGS", 0x3022, 2, 64, 10, 10, .u16, .ro, false, false, [0], .any, .engineer, .core⟩,
  ⟨"SECTOR_NOW", 0x3022, 2, 64, 11, 11, .u8, .ro, false, false, [0], .any, .engineer, .core⟩,
  ⟨"SECTOR_TRANSITIONS", 0x3022, 2, 64, 12, 12, .u64, .ro, false, false, [0], .any, .engineer, .core⟩,
  ⟨"DISPATCH_HIGHEST", 0x3023, 2, 64, 0, 0, .u8, .ro, false, false, [14], .any, .engineer, .core⟩,
  ⟨"GRID_MODE", 0x3023, 2, 64, 1, 1, .u8, .rw, true, false, [0], .within 0 1, .engineer, .core⟩,
  ⟨"P_SETPOINT", 0x3023, 2, 64, 2, 2, .pu24, .rw, false, false, [0], .any, .operator, .core⟩,
  ⟨"Q_SETPOINT", 0x3023, 2, 64, 3, 3, .pu24, .rw, false, false, [0], .any, .operator, .core⟩,
  ⟨"Q_MODE", 0x3023, 2, 64, 4, 4, .u8, .rw, true, false, [0], .within 0 2, .engineer, .core⟩,
  ⟨"V_SETPOINT", 0x3023, 2, 64, 5, 5, .pu24, .rw, false, false, [16777216], .within (4 / 5) (6 / 5), .operator, .core⟩,
  ⟨"Q_DROOP", 0x3023, 2, 64, 6, 6, .pu24, .rwh, true, false, [838861], .within (1 / 100) (1 / 2), .engineer, .core⟩,
  ⟨"PF_SETPOINT", 0x3023, 2, 64, 7, 7, .pu24, .rw, false, false, [16777216], .magnitude (1 / 10) 1, .operator, .core⟩,
  ⟨"P_RAMP_RATE", 0x3023, 2, 64, 8, 8, .pu24, .rwh, true, false, [1677722], .within (1 / 1000) 100, .engineer, .core⟩,
  ⟨"P_BAT_SETPOINT", 0x3023, 2, 64, 9, 9, .pu24, .rw, false, false, [0], .any, .operator, .core⟩,
  ⟨"F_DROOP", 0x3023, 2, 64, 10, 10, .pu24, .rwh, true, false, [838861], .any, .engineer, .core⟩,
  ⟨"F_DEADBAND", 0x3023, 2, 64, 11, 11, .pu24, .rwh, true, false, [6711], .any, .engineer, .core⟩,
  ⟨"I_MAX", 0x3023, 2, 64, 12, 12, .pu24, .rwh, true, false, [18454938], .within (1 / 10) (3 / 2), .engineer, .core⟩,
  ⟨"EBB_P_MAX", 0x3023, 2, 64, 13, 13, .pu24, .rwh, true, false, [16777216], .within 0 (3 / 2), .engineer, .core⟩,
  ⟨"FLOOD_P_MAX", 0x3023, 2, 64, 14, 14, .pu24, .rwh, true, false, [16777216], .within 0 (3 / 2), .engineer, .core⟩,
  ⟨"VDC_HIGHEST", 0x3024, 2, 64, 0, 0, .u8, .ro, false, false, [3], .any, .engineer, .core⟩,
  ⟨"VDC_REF", 0x3024, 2, 64, 1, 1, .pu24, .rw, false, false, [16777216], .within (4 / 5) (6 / 5), .operator, .core⟩,
  ⟨"KP_VDC", 0x3024, 2, 64, 2, 2, .f32, .rwh, true, false, [1084227584], .any, .engineer, .core⟩,
  ⟨"KI_VDC", 0x3024, 2, 64, 3, 3, .f32, .rwh, true, false, [1112014848], .any, .engineer, .core⟩,
  ⟨"FORMING_HIGHEST", 0x3025, 2, 64, 0, 0, .u8, .ro, false, false, [7], .any, .engineer, .core⟩,
  ⟨"INERTIA_H", 0x3025, 2, 64, 1, 1, .f32, .rwh, true, false, [1082130432], .within (1 / 5) 20, .engineer, .core⟩,
  ⟨"DAMPING_D", 0x3025, 2, 64, 2, 2, .f32, .rwh, true, false, [1101004800], .within 0 200, .engineer, .core⟩,
  ⟨"VIRTUAL_R", 0x3025, 2, 64, 3, 3, .f32, .rwh, true, false, [1008981770], .within 0 (1 / 2), .engineer, .core⟩,
  ⟨"VIRTUAL_X", 0x3025, 2, 64, 4, 4, .f32, .rwh, true, false, [1041865114], .within (1 / 50) 1, .engineer, .core⟩,
  ⟨"E_DROOP", 0x3025, 2, 64, 5, 5, .f32, .rwh, true, false, [1028443341], .within 0 (1 / 2), .engineer, .core⟩,
  ⟨"LIMIT_SYNC_GAIN", 0x3025, 2, 64, 6, 6, .f32, .rwh, true, false, [1092616192], .within 1 1000, .engineer, .core⟩,
  ⟨"FORMING_LIMITED", 0x3025, 2, 64, 7, 7, .bool, .ro, false, false, [0], .any, .engineer, .core⟩,
  ⟨"RT_HIGHEST", 0x3026, 2, 64, 0, 0, .u8, .ro, false, false, [12], .any, .engineer, .core⟩,
  ⟨"LVRT_ENTRY", 0x3026, 2, 64, 1, 1, .pu24, .rwh, true, false, [14260634], .any, .engineer, .core⟩,
  ⟨"HVRT_ENTRY", 0x3026, 2, 64, 2, 2, .pu24, .rwh, true, false, [19293798], .any, .engineer, .core⟩,
  ⟨"NEG_ENTRY", 0x3026, 2, 64, 3, 3, .pu24, .rwh, true, false, [838861], .any, .engineer, .core⟩,
  ⟨"RT_CONFIRM", 0x3026, 2, 64, 4, 4, .u16, .rwh, true, false, [1000], .within 100 20000, .engineer, .core⟩,
  ⟨"RT_EXIT_HOLD", 0x3026, 2, 64, 5, 5, .u16, .rwh, true, false, [20], .within 0 1000, .engineer, .core⟩]

/-- Object rows 0x3000 to 0x30FF, part 2. -/
def rowsGrid2 : List ObjRow := [
  ⟨"K_POS", 0x3026, 2, 64, 6, 6, .f32, .rwh, true, false, [1073741824], .within 0 10, .engineer, .core⟩,
  ⟨"K_NEG", 0x3026, 2, 64, 7, 7, .f32, .rwh, true, false, [1073741824], .within 0 10, .engineer, .core⟩,
  ⟨"P_RECOVERY_RATE", 0x3026, 2, 64, 8, 8, .f32, .rwh, true, false, [1073741824], .within (1 / 10) 100, .engineer, .core⟩,
  ⟨"LVRT_POINTS", 0x3026, 2, 64, 9, 9, .u8, .rwh, true, false, [4], .within 1 8, .engineer, .core⟩,
  ⟨"HVRT_POINTS", 0x3026, 2, 64, 10, 10, .u8, .rwh, true, false, [3], .within 1 8, .engineer, .core⟩,
  ⟨"RT_ENTRIES", 0x3026, 2, 64, 11, 11, .u32, .ro, false, false, [0], .any, .engineer, .core⟩,
  ⟨"RT_BEYOND", 0x3026, 2, 64, 12, 12, .u32, .ro, false, false, [0], .any, .engineer, .core⟩,
  ⟨"HIGHEST_3027", 0x3027, 2, 64, 0, 0, .u8, .ro, false, false, [16], .any, .engineer, .core⟩,
  ⟨"LVRT_TIME", 0x3027, 2, 64, 1, 8, .u32, .rwh, true, false, [0, 150, 150, 1500], .any, .engineer, .core⟩,
  ⟨"LVRT_VOLTAGE", 0x3027, 2, 64, 9, 16, .pu24, .rwh, true, false, [0, 0, 8388608, 14260634], .any, .engineer, .core⟩,
  ⟨"HIGHEST_3028", 0x3028, 2, 64, 0, 0, .u8, .ro, false, false, [16], .any, .engineer, .core⟩,
  ⟨"HVRT_TIME", 0x3028, 2, 64, 1, 8, .u32, .rwh, true, false, [0, 200], .any, .engineer, .core⟩,
  ⟨"HVRT_VOLTAGE", 0x3028, 2, 64, 9, 16, .pu24, .rwh, true, false, [21810381, 21810381, 19293798], .any, .engineer, .core⟩,
  ⟨"DPC_HIGHEST", 0x3029, 2, 64, 0, 0, .u8, .ro, false, false, [10], .any, .engineer, .core⟩,
  ⟨"DPC_ENABLE", 0x3029, 2, 64, 1, 1, .bool, .rwh, true, false, [1], .any, .engineer, .core⟩,
  ⟨"DPC_ENTRY_V", 0x3029, 2, 64, 2, 2, .pu24, .rwh, true, false, [3355443], .any, .engineer, .core⟩,
  ⟨"DPC_ANGLE_JUMP", 0x3029, 2, 64, 3, 3, .ang32, .rwh, true, false, [357913941], .any, .engineer, .core⟩,
  ⟨"DPC_ENTRY_ERR", 0x3029, 2, 64, 4, 4, .pu24, .rwh, true, false, [8388608], .any, .engineer, .core⟩,
  ⟨"DPC_EXIT_HOLD", 0x3029, 2, 64, 5, 5, .u16, .rwh, true, false, [20], .within 1 1000, .engineer, .core⟩,
  ⟨"DPC_BAND_P", 0x3029, 2, 64, 6, 6, .pu24, .rwh, true, false, [838861], .any, .engineer, .core⟩,
  ⟨"DPC_BAND_Q", 0x3029, 2, 64, 7, 7, .pu24, .rwh, true, false, [838861], .any, .engineer, .core⟩,
  ⟨"DPC_STEP", 0x3029, 2, 64, 8, 8, .pu24, .rwh, true, false, [1677722], .any, .engineer, .core⟩,
  ⟨"DPC_ACTIVE", 0x3029, 2, 64, 9, 9, .bool, .ro, false, false, [0], .any, .engineer, .core⟩,
  ⟨"DPC_ENTRIES", 0x3029, 2, 64, 10, 10, .u32, .ro, false, false, [0], .any, .engineer, .core⟩,
  ⟨"ISLAND_HIGHEST", 0x302A, 2, 64, 0, 0, .u8, .ro, false, false, [18], .any, .engineer, .core⟩,
  ⟨"ISLAND_ENABLE", 0x302A, 2, 64, 1, 1, .u8, .rwh, true, false, [23], .within 0 31, .engineer, .core⟩,
  ⟨"ISL_F_LOW", 0x302A, 2, 64, 2, 2, .pu24, .rwh, true, false, [15938355], .any, .engineer, .core⟩,
  ⟨"ISL_F_HIGH", 0x302A, 2, 64, 3, 3, .pu24, .rwh, true, false, [17280532], .any, .engineer, .core⟩,
  ⟨"ISL_F_HOLD", 0x302A, 2, 64, 4, 4, .u16, .rwh, true, false, [100], .within 10 10000, .engineer, .core⟩,
  ⟨"ISL_ROCOF", 0x302A, 2, 64, 5, 5, .i32, .rwh, true, false, [2500], .within 100 10000, .engineer, .core⟩,
  ⟨"ISL_ROCOF_HOLD", 0x302A, 2, 64, 6, 6, .u16, .rwh, true, false, [100], .within 10 10000, .engineer, .core⟩,
  ⟨"ISL_SHIFT", 0x302A, 2, 64, 7, 7, .ang32, .rwh, true, false, [119304647], .any, .engineer, .core⟩,
  ⟨"PROBE_CURRENT", 0x302A, 2, 64, 8, 8, .pu24, .rwh, true, false, [335544], .within (1 / 200) (1 / 10), .engineer, .core⟩,
  ⟨"PROBE_PERIOD", 0x302A, 2, 64, 9, 9, .u16, .rwh, true, false, [200], .within 100 10000, .engineer, .core⟩,
  ⟨"PROBE_BURST", 0x302A, 2, 64, 10, 10, .u16, .rwh, true, false, [40], .within 20 200, .engineer, .core⟩,
  ⟨"PROBE_Z_LIMIT", 0x302A, 2, 64, 11, 11, .pu24, .rwh, true, false, [5033165], .any, .engineer, .core⟩,
  ⟨"STALL_TIME", 0x302A, 2, 64, 12, 12, .u16, .rwh, true, false, [10], .within 2 100, .engineer, .core⟩,
  ⟨"STALL_V_MIN", 0x302A, 2, 64, 13, 13, .pu24, .rwh, true, false, [838861], .any, .engineer, .core⟩,
  ⟨"ISLAND_REACTION", 0x302A, 2, 64, 14, 14, .u8, .rwh, true, false, [2], .within 0 3, .engineer, .core⟩,
  ⟨"ISLAND_FLAGS", 0x302A, 2, 64, 15, 15, .u8, .ro, false, false, [0], .any, .engineer, .core⟩]

/-- Object rows 0x3000 to 0x30FF, part 3. -/
def rowsGrid3 : List ObjRow := [
  ⟨"ISLAND_DETECTIONS", 0x302A, 2, 64, 16, 16, .u32, .ro, false, false, [0], .any, .engineer, .core⟩,
  ⟨"PROBE_Z", 0x302A, 2, 64, 17, 17, .pu24, .ro, false, false, [0], .any, .engineer, .core⟩,
  ⟨"ISLAND_CLEAR", 0x302A, 2, 64, 18, 18, .u8, .wo, false, false, [0], .within 1 1, .operator, .core⟩,
  ⟨"REVERSAL_HIGHEST", 0x302B, 2, 64, 0, 0, .u8, .ro, false, false, [9], .any, .engineer, .core⟩,
  ⟨"REVERSAL_PERMIT", 0x302B, 2, 64, 1, 1, .u8, .rw, true, false, [3], .within 0 3, .engineer, .core⟩,
  ⟨"REVERSAL_DWELL", 0x302B, 2, 64, 2, 2, .u16, .rwh, true, false, [200], .within 0 10000, .engineer, .core⟩,
  ⟨"REVERSAL_INTERVAL", 0x302B, 2, 64, 3, 3, .u16, .rwh, true, false, [5], .within 0 3600, .engineer, .core⟩,
  ⟨"REVERSAL_ZERO_BAND", 0x302B, 2, 64, 4, 4, .pu24, .rwh, true, false, [167772], .any, .engineer, .core⟩,
  ⟨"REVERSAL_RAMP", 0x302B, 2, 64, 5, 5, .pu24, .rwh, true, false, [8388608], .any, .engineer, .core⟩,
  ⟨"DIRECTION", 0x302B, 2, 64, 6, 6, .u8, .ro, false, false, [0], .any, .engineer, .core⟩,
  ⟨"REVERSAL_STATE", 0x302B, 2, 64, 7, 7, .u8, .ro, false, false, [0], .any, .engineer, .core⟩,
  ⟨"REVERSAL_HOLD_REASON", 0x302B, 2, 64, 8, 8, .u8, .ro, false, false, [0], .any, .engineer, .core⟩,
  ⟨"REVERSALS", 0x302B, 2, 64, 9, 9, .u32, .ro, false, false, [0], .any, .engineer, .core⟩]

/-- Object rows 0x3000 to 0x30FF. -/
def rowsGrid : List ObjRow := rowsGrid0 ++ rowsGrid1 ++ rowsGrid2 ++ rowsGrid3

/-- Object rows 0x3100 to 0x31FF, part 0. -/
def rowsCluster0 : List ObjRow := [
  ⟨"CLUSTER_HIGHEST", 0x3100, 1, 1, 0, 0, .u8, .ro, false, false, [16], .any, .engineer, .core⟩,
  ⟨"PAIR_STATE", 0x3100, 1, 1, 1, 4, .u8, .ro, false, false, [1], .any, .engineer, .core⟩,
  ⟨"ENGINE_STATE", 0x3100, 1, 1, 5, 12, .u8, .ro, false, false, [1], .any, .engineer, .core⟩,
  ⟨"PAIR_FAULTS", 0x3100, 1, 1, 13, 13, .u32, .ro, false, false, [0], .any, .engineer, .core⟩,
  ⟨"ENGINE_FAULTS", 0x3100, 1, 1, 14, 14, .u32, .ro, false, false, [0], .any, .engineer, .core⟩,
  ⟨"REBALANCE", 0x3100, 1, 1, 15, 15, .u8, .wo, false, false, [0], .within 1 1, .engineer, .core⟩,
  ⟨"FAILOVER_REQUIRED", 0x3100, 1, 1, 16, 16, .bool, .rwh, true, false, [1], .any, .engineer, .core⟩,
  ⟨"BASES_HIGHEST", 0x3101, 1, 1, 0, 0, .u8, .ro, false, false, [10], .any, .engineer, .core⟩,
  ⟨"RATED_POWER", 0x3101, 1, 1, 1, 1, .f32, .rwh, true, false, [1315859240], .any, .engineer, .core⟩,
  ⟨"RATED_AC_VOLTAGE", 0x3101, 1, 1, 2, 2, .f32, .rwh, true, false, [1218519552], .any, .engineer, .core⟩,
  ⟨"RATED_DC_VOLTAGE", 0x3101, 1, 1, 3, 3, .f32, .rwh, true, false, [1226588160], .any, .engineer, .core⟩,
  ⟨"RATED_FREQUENCY", 0x3101, 1, 1, 4, 4, .f32, .rwh, true, false, [1112014848], .any, .engineer, .core⟩,
  ⟨"BASE_CURRENT", 0x3101, 1, 1, 5, 5, .f32, .ro, false, false, [1159373619], .any, .engineer, .core⟩,
  ⟨"BASE_IMPEDANCE", 0x3101, 1, 1, 6, 6, .f32, .ro, false, false, [1121569997], .any, .engineer, .core⟩,
  ⟨"BASE_ENERGY", 0x3101, 1, 1, 7, 7, .f32, .ro, false, false, [1315859240], .any, .engineer, .core⟩,
  ⟨"BASE_DC_CURRENT", 0x3101, 1, 1, 8, 8, .f32, .ro, false, false, [1153650688], .any, .engineer, .core⟩,
  ⟨"TRANSFORMER_RATIO", 0x3101, 1, 1, 9, 9, .f32, .rwh, true, false, [1065353216], .any, .engineer, .core⟩,
  ⟨"USER_TERM_LIMIT", 0x3101, 1, 1, 10, 10, .i32, .rwh, true, false, [838861], .any, .engineer, .core⟩,
  ⟨"PLANT_HIGHEST", 0x3102, 1, 1, 0, 0, .u8, .ro, false, false, [8], .any, .engineer, .core⟩,
  ⟨"ARM_INDUCTANCE", 0x3102, 1, 1, 1, 1, .f32, .rwh, true, false, [1028443341], .any, .engineer, .core⟩,
  ⟨"ARM_RESISTANCE", 0x3102, 1, 1, 2, 2, .f32, .rwh, true, false, [1045220557], .any, .engineer, .core⟩,
  ⟨"TRANSFORMER_L", 0x3102, 1, 1, 3, 3, .f32, .rwh, true, false, [1024416809], .any, .engineer, .core⟩,
  ⟨"KIND_CAPACITANCE", 0x3102, 1, 1, 4, 8, .f32, .rwh, true, false, [1008981770], .any, .engineer, .core⟩,
  ⟨"ASSIGN_HIGHEST", 0x3103, 1, 1, 0, 0, .u8, .ro, false, false, [34], .any, .engineer, .core⟩,
  ⟨"ITEM_PAIR", 0x3103, 1, 1, 1, 5, .u8, .rwh, true, false, [0, 1, 2, 2, 3], .within 0 3, .engineer, .core⟩,
  ⟨"LEG_ENGINE", 0x3103, 1, 1, 6, 11, .u8, .rwh, true, false, [0, 1, 2, 3, 4, 5], .within 0 7, .engineer, .core⟩,
  ⟨"ITEM_FAILOVER", 0x3103, 1, 1, 12, 16, .u8, .ro, false, false, [255], .any, .engineer, .core⟩,
  ⟨"LEG_FAILOVER", 0x3103, 1, 1, 17, 22, .u8, .ro, false, false, [255], .any, .engineer, .core⟩,
  ⟨"PAIR_WCET", 0x3103, 1, 1, 23, 26, .u32, .ro, false, false, [0], .any, .engineer, .core⟩,
  ⟨"ENGINE_WCET", 0x3103, 1, 1, 27, 34, .u32, .ro, false, false, [0], .any, .engineer, .core⟩,
  ⟨"LAWS_HIGHEST", 0x3104, 1, 1, 0, 0, .u8, .ro, false, false, [8], .any, .engineer, .core⟩,
  ⟨"DC_ROLE", 0x3104, 1, 1, 1, 2, .u8, .rwh, true, false, [1], .within 0 2, .engineer, .core⟩,
  ⟨"ENERGY_REF", 0x3104, 1, 1, 3, 4, .i32, .rwh, true, false, [0], .any, .engineer, .core⟩,
  ⟨"NEG_ENABLE", 0x3104, 1, 1, 5, 5, .bool, .rwh, true, false, [0], .any, .engineer, .core⟩,
  ⟨"FINE_EDGE_ENABLE", 0x3104, 1, 1, 6, 6, .bool, .rwh, true, false, [1], .any, .engineer, .core⟩,
  ⟨"HEADROOM_BACKOFF", 0x3104, 1, 1, 7, 7, .u16, .rwh, true, false, [100], .within 0 1000, .engineer, .core⟩,
  ⟨"HEADROOM_RECOVER", 0x3104, 1, 1, 8, 8, .u16, .rwh, true, false, [10], .within 1 1000, .engineer, .core⟩,
  ⟨"SCHED_HIGHEST", 0x3110, 1, 1, 0, 0, .u8, .ro, false, false, [12], .any, .engineer, .core⟩,
  ⟨"SCHED_AXIS_X", 0x3110, 1, 1, 1, 1, .u8, .rwh, true, false, [0], .within 0 6, .engineer, .core⟩,
  ⟨"SCHED_AXIS_Y", 0x3110, 1, 1, 2, 2, .u8, .rwh, true, false, [3], .within 0 6, .engineer, .core⟩]

/-- Object rows 0x3100 to 0x31FF, part 1. -/
def rowsCluster1 : List ObjRow := [
  ⟨"BREAK_X", 0x3110, 1, 1, 3, 5, .i32, .rwh, true, false, [4194304, 8388608, 12582912], .any, .engineer, .core⟩,
  ⟨"BREAK_Y", 0x3110, 1, 1, 6, 8, .i32, .rwh, true, false, [33554432, 50331648, 83886080], .any, .engineer, .core⟩,
  ⟨"SCHED_HYST", 0x3110, 1, 1, 9, 9, .i32, .rwh, true, false, [335544], .any, .engineer, .core⟩,
  ⟨"SCHED_BLEND", 0x3110, 1, 1, 10, 10, .u16, .rwh, true, false, [100], .within 0 65535, .engineer, .core⟩,
  ⟨"SCHED_CELL_NOW", 0x3110, 1, 1, 11, 11, .u16, .ro, false, false, [0], .any, .engineer, .core⟩,
  ⟨"SCHED_CHANGES", 0x3110, 1, 1, 12, 12, .u32, .ro, false, false, [0], .any, .engineer, .core⟩,
  ⟨"CELL_HIGHEST", 0x3120, 16, 1, 0, 0, .u8, .ro, false, false, [8], .any, .engineer, .core⟩,
  ⟨"KP_I", 0x3120, 16, 1, 1, 1, .f32, .rwh, true, false, [1056964608], .any, .engineer, .core⟩,
  ⟨"KI_I", 0x3120, 16, 1, 2, 2, .f32, .rwh, true, false, [1112014848], .any, .engineer, .core⟩,
  ⟨"KP_C", 0x3120, 16, 1, 3, 3, .f32, .rwh, true, false, [1050253722], .any, .engineer, .core⟩,
  ⟨"KI_C", 0x3120, 16, 1, 4, 4, .f32, .rwh, true, false, [1101004800], .any, .engineer, .core⟩,
  ⟨"KP_E", 0x3120, 16, 1, 5, 5, .f32, .rwh, true, false, [1073741824], .any, .engineer, .core⟩,
  ⟨"KI_E", 0x3120, 16, 1, 6, 6, .f32, .rwh, true, false, [1092616192], .any, .engineer, .core⟩,
  ⟨"K_BAL", 0x3120, 16, 1, 7, 7, .f32, .rwh, true, false, [1065353216], .any, .engineer, .core⟩,
  ⟨"K_FF", 0x3120, 16, 1, 8, 8, .f32, .rwh, true, false, [1065353216], .any, .engineer, .core⟩,
  ⟨"PLAUS_HIGHEST", 0x3130, 1, 1, 0, 0, .u8, .ro, false, false, [9], .any, .engineer, .core⟩,
  ⟨"PLAUS_THRESHOLD", 0x3130, 1, 1, 1, 1, .i32, .rwh, true, false, [1677722], .any, .engineer, .core⟩,
  ⟨"PLAUS_TIDES", 0x3130, 1, 1, 2, 2, .u8, .rwh, true, false, [3], .within 1 64, .engineer, .core⟩,
  ⟨"PLAUS_REACTION", 0x3130, 1, 1, 3, 3, .u8, .rwh, true, false, [1], .within 0 2, .engineer, .core⟩,
  ⟨"STUCK_TIDES", 0x3130, 1, 1, 4, 4, .u16, .rwh, true, false, [1000], .within 10 65535, .engineer, .core⟩,
  ⟨"PLAUS_FLAGS", 0x3130, 1, 1, 5, 5, .u16, .ro, false, false, [0], .any, .engineer, .core⟩,
  ⟨"PLAUS_CLEAR", 0x3130, 1, 1, 6, 6, .u8, .wo, false, false, [0], .within 1 1, .operator, .core⟩,
  ⟨"SENSOR_FLAGS", 0x3130, 1, 1, 7, 7, .u64, .ro, false, false, [0], .any, .engineer, .core⟩,
  ⟨"PLAUS_SKIPS", 0x3130, 1, 1, 8, 8, .u32, .ro, false, false, [0], .any, .engineer, .core⟩,
  ⟨"SUM_CHECK_FLAGS", 0x3130, 1, 1, 9, 9, .u8, .ro, false, false, [0], .any, .engineer, .core⟩,
  ⟨"HIGHEST_3131", 0x3131, 1, 1, 0, 0, .u8, .ro, false, false, [12], .any, .engineer, .core⟩,
  ⟨"PLAUS_RESIDUAL", 0x3131, 1, 1, 1, 12, .i32, .ro, false, false, [0], .any, .engineer, .core⟩,
  ⟨"PROG_HIGHEST", 0x3140, 8, 1, 0, 0, .u8, .ro, false, false, [9], .any, .engineer, .core⟩,
  ⟨"PROG_ENABLE", 0x3140, 8, 1, 1, 1, .bool, .rwh, true, false, [0], .any, .engineer, .core⟩,
  ⟨"PROG_IMAGE", 0x3140, 8, 1, 2, 2, .domain, .rwh, true, false, [], .any, .engineer, .core⟩,
  ⟨"PROG_BIND", 0x3140, 8, 1, 3, 3, .domain, .rwh, true, false, [], .any, .engineer, .core⟩,
  ⟨"PROG_WCET", 0x3140, 8, 1, 4, 4, .u32, .ro, false, false, [0], .any, .engineer, .core⟩,
  ⟨"PROG_RUNS", 0x3140, 8, 1, 5, 5, .u64, .ro, false, false, [0], .any, .engineer, .core⟩,
  ⟨"PROG_MISSES", 0x3140, 8, 1, 6, 6, .u32, .ro, false, false, [0], .any, .engineer, .core⟩,
  ⟨"PROG_NUMERIC", 0x3140, 8, 1, 7, 7, .u32, .ro, false, false, [0], .any, .engineer, .core⟩,
  ⟨"PROG_ENGINE_NOW", 0x3140, 8, 1, 8, 8, .u8, .ro, false, false, [255], .any, .engineer, .core⟩,
  ⟨"PROG_STATE", 0x3140, 8, 1, 9, 9, .u8, .ro, false, false, [0], .any, .engineer, .core⟩,
  ⟨"HIGHEST_3150", 0x3150, 8, 1, 0, 0, .u8, .ro, false, false, [64], .any, .engineer, .core⟩,
  ⟨"LOOP_PARAM", 0x3150, 8, 1, 1, 64, .f32, .rw, false, false, [0], .any, .operator, .core⟩,
  ⟨"TRACE_HIGHEST", 0x3160, 1, 1, 0, 0, .u8, .ro, false, false, [9], .any, .engineer, .core⟩]

/-- Object rows 0x3100 to 0x31FF, part 2. -/
def rowsCluster2 : List ObjRow := [
  ⟨"TRACE_CONTROL", 0x3160, 1, 1, 1, 1, .u8, .rw, false, false, [0], .within 0 2, .operator, .core⟩,
  ⟨"TRACE_STATE", 0x3160, 1, 1, 2, 2, .u8, .ro, false, false, [0], .any, .engineer, .core⟩,
  ⟨"TRACE_TRIGGER_KIND", 0x3160, 1, 1, 3, 3, .u8, .rw, false, false, [0], .within 0 4, .operator, .core⟩,
  ⟨"TRACE_TRIGGER_CHANNEL", 0x3160, 1, 1, 4, 4, .u8, .rw, false, false, [0], .within 0 63, .operator, .core⟩,
  ⟨"TRACE_TRIGGER_LEVEL", 0x3160, 1, 1, 5, 5, .f32, .rw, false, false, [0], .any, .operator, .core⟩,
  ⟨"TRACE_PRETRIGGER", 0x3160, 1, 1, 6, 6, .u8, .rw, false, false, [50], .within 0 100, .operator, .core⟩,
  ⟨"TRACE_TRIGGER_TIDE", 0x3160, 1, 1, 7, 7, .u64, .ro, false, false, [0], .any, .engineer, .core⟩,
  ⟨"TRACE_DEPTH", 0x3160, 1, 1, 8, 8, .u32, .ro, false, false, [0], .any, .engineer, .core⟩,
  ⟨"TRACE_DATA", 0x3160, 1, 1, 9, 9, .domain, .ro, false, false, [], .any, .engineer, .core⟩,
  ⟨"HIGHEST_3161", 0x3161, 1, 1, 0, 0, .u8, .ro, false, false, [64], .any, .engineer, .core⟩,
  ⟨"TRACE_SOURCE", 0x3161, 1, 1, 1, 64, .u32, .rw, false, false, [0], .any, .operator, .core⟩,
  ⟨"HIGHEST_3162", 0x3162, 1, 1, 0, 0, .u8, .ro, false, false, [64], .any, .engineer, .core⟩,
  ⟨"TRACE_DECIMATION", 0x3162, 1, 1, 1, 64, .u16, .rw, false, false, [1], .within 1 65535, .operator, .core⟩]

/-- Object rows 0x3100 to 0x31FF. -/
def rowsCluster : List ObjRow := rowsCluster0 ++ rowsCluster1 ++ rowsCluster2

/-- Object rows 0x3200 to 0x33FF, part 0. -/
def rowsSolar0 : List ObjRow := [
  ⟨"MPPT_HIGHEST", 0x3200, 1, 1, 0, 0, .u8, .ro, false, false, [25], .any, .engineer, .solar⟩,
  ⟨"MPPT_PERIOD", 0x3200, 1, 1, 1, 1, .u16, .rwh, true, false, [200], .within 20 10000, .engineer, .solar⟩,
  ⟨"MPPT_WINDOW", 0x3200, 1, 1, 2, 2, .u16, .rwh, true, false, [40], .within 5 9995, .engineer, .solar⟩,
  ⟨"STEP_INIT", 0x3200, 1, 1, 3, 3, .u16, .rwh, true, false, [100], .within 1 1000, .engineer, .solar⟩,
  ⟨"STEP_MIN", 0x3200, 1, 1, 4, 4, .u16, .rwh, true, false, [10], .within 1 1000, .engineer, .solar⟩,
  ⟨"STEP_MAX", 0x3200, 1, 1, 5, 5, .u16, .rwh, true, false, [400], .within 1 1000, .engineer, .solar⟩,
  ⟨"DP_BAND", 0x3200, 1, 1, 6, 6, .u16, .rwh, true, false, [20], .within 0 1000, .engineer, .solar⟩,
  ⟨"V_START", 0x3200, 1, 1, 7, 7, .u16, .rwh, true, false, [8000], .within 1000 9900, .engineer, .solar⟩,
  ⟨"V_LOW", 0x3200, 1, 1, 8, 8, .u16, .rwh, true, false, [4000], .within 1000 9900, .engineer, .solar⟩,
  ⟨"V_HIGH", 0x3200, 1, 1, 9, 9, .u16, .rwh, true, false, [9800], .within 1000 9990, .engineer, .solar⟩,
  ⟨"VOC_TIME", 0x3200, 1, 1, 10, 10, .u16, .rwh, true, false, [20], .within 10 1000, .engineer, .solar⟩,
  ⟨"PV_VOC_MIN", 0x3200, 1, 1, 11, 11, .u16, .rwh, true, false, [1000], .any, .engineer, .solar⟩,
  ⟨"SCAN_INTERVAL", 0x3200, 1, 1, 12, 12, .u16, .rwh, true, false, [600], .within 0 65535, .engineer, .solar⟩,
  ⟨"SCAN_LOW", 0x3200, 1, 1, 13, 13, .u16, .rwh, true, false, [5500], .within 1000 9900, .engineer, .solar⟩,
  ⟨"SCAN_HIGH", 0x3200, 1, 1, 14, 14, .u16, .rwh, true, false, [9500], .within 1000 9990, .engineer, .solar⟩,
  ⟨"SCAN_POINTS", 0x3200, 1, 1, 15, 15, .u8, .rwh, true, false, [41], .within 2 101, .engineer, .solar⟩,
  ⟨"SCAN_DWELL", 0x3200, 1, 1, 16, 16, .u16, .rwh, true, false, [20], .within 10 1000, .engineer, .solar⟩,
  ⟨"SCAN_GAIN_MIN", 0x3200, 1, 1, 17, 17, .u16, .rwh, true, false, [200], .within 0 5000, .engineer, .solar⟩,
  ⟨"SCAN_CONCURRENT", 0x3200, 1, 1, 18, 18, .u8, .rwh, true, false, [4], .within 1 64, .engineer, .solar⟩,
  ⟨"CURTAIL_PERIOD", 0x3200, 1, 1, 19, 19, .u16, .rwh, true, false, [10], .within 10 1000, .engineer, .solar⟩,
  ⟨"CURTAIL_BAND", 0x3200, 1, 1, 20, 20, .u16, .rwh, true, false, [100], .within 10 1000, .engineer, .solar⟩,
  ⟨"SENTINELS", 0x3200, 1, 1, 21, 21, .u8, .rwh, true, false, [4], .within 0 16, .engineer, .solar⟩,
  ⟨"SENTINEL_ROTATE", 0x3200, 1, 1, 22, 22, .u16, .rwh, true, false, [60], .within 1 3600, .engineer, .solar⟩,
  ⟨"SOLAR_P_LIMIT_C0", 0x3200, 1, 1, 23, 23, .pu24, .rw, false, false, [25165824], .within 0 (3 / 2), .operator, .solar⟩,
  ⟨"SOLAR_P_LIMIT_C1", 0x3200, 1, 1, 24, 24, .pu24, .rw, false, false, [25165824], .within 0 (3 / 2), .operator, .solar⟩,
  ⟨"SCAN_ABORT", 0x3200, 1, 1, 25, 25, .u8, .wo, false, false, [0], .within 1 1, .operator, .solar⟩,
  ⟨"MPPT_COUNT_HIGHEST", 0x3201, 1, 1, 0, 0, .u8, .ro, false, false, [6], .any, .engineer, .solar⟩,
  ⟨"MPPT_STEPS", 0x3201, 1, 1, 1, 1, .u64, .ro, false, false, [0], .any, .engineer, .solar⟩,
  ⟨"MPPT_HOLDS", 0x3201, 1, 1, 2, 2, .u32, .ro, false, false, [0], .any, .engineer, .solar⟩,
  ⟨"SCANS", 0x3201, 1, 1, 3, 3, .u32, .ro, false, false, [0], .any, .engineer, .solar⟩,
  ⟨"SCAN_MOVES", 0x3201, 1, 1, 4, 4, .u32, .ro, false, false, [0], .any, .engineer, .solar⟩,
  ⟨"SCANS_ABANDONED", 0x3201, 1, 1, 5, 5, .u32, .ro, false, false, [0], .any, .engineer, .solar⟩,
  ⟨"SCANS_DELAYED", 0x3201, 1, 1, 6, 6, .u32, .ro, false, false, [0], .any, .engineer, .solar⟩,
  ⟨"SOLAR_ARM_HIGHEST", 0x3210, 12, 1, 0, 0, .u8, .ro, false, false, [7], .any, .engineer, .solar⟩,
  ⟨"SOLAR_AVAILABLE", 0x3210, 12, 1, 1, 1, .i32, .ro, false, false, [0], .any, .engineer, .solar⟩,
  ⟨"SOLAR_TARGET", 0x3210, 12, 1, 2, 2, .i32, .ro, false, false, [0], .any, .engineer, .solar⟩,
  ⟨"SOLAR_DELIVERED", 0x3210, 12, 1, 3, 3, .i32, .ro, false, false, [0], .any, .engineer, .solar⟩,
  ⟨"SOLAR_CURTAILED", 0x3210, 12, 1, 4, 4, .bool, .ro, false, false, [0], .any, .engineer, .solar⟩,
  ⟨"SOLAR_RHO", 0x3210, 12, 1, 5, 5, .u16, .ro, false, false, [32768], .any, .engineer, .solar⟩,
  ⟨"SOLAR_DARK", 0x3210, 12, 1, 6, 6, .u16, .ro, false, false, [0], .any, .engineer, .solar⟩]

/-- Object rows 0x3200 to 0x33FF, part 1. -/
def rowsSolar1 : List ObjRow := [
  ⟨"SOLAR_SCANNING", 0x3210, 12, 1, 7, 7, .u8, .ro, false, false, [0], .any, .engineer, .solar⟩]

/-- Object rows 0x3200 to 0x33FF. -/
def rowsSolar : List ObjRow := rowsSolar0 ++ rowsSolar1

/-- Object rows 0x3400 to 0x34FF, part 0. -/
def rowsDroves0 : List ObjRow := [
  ⟨"DROVE_HIGHEST", 0x3400, 128, 1, 0, 0, .u8, .ro, false, false, [159], .any, .engineer, .drove⟩,
  ⟨"DROVE_ENABLE", 0x3400, 128, 1, 1, 1, .bool, .rwh, true, false, [0], .any, .engineer, .drove⟩,
  ⟨"DROVE_LEAVES", 0x3400, 128, 1, 2, 2, .u8, .rwh, true, false, [0], .within 0 128, .engineer, .drove⟩,
  ⟨"DROVE_ARM", 0x3400, 128, 1, 3, 3, .u8, .rwh, true, false, [255], .oneOf [0, 1, 2, 3, 4, 5, 6, 7, 8, 9, 10, 11, 255], .engineer, .drove⟩,
  ⟨"BRIDGE_ENABLE", 0x3400, 128, 1, 4, 4, .bool, .rwh, true, false, [0], .any, .engineer, .drove⟩,
  ⟨"CHECK_WIDTH", 0x3400, 128, 1, 5, 5, .u8, .rwh, true, false, [32], .within 8 32, .engineer, .drove⟩,
  ⟨"CHECK_POLY", 0x3400, 128, 1, 6, 6, .u32, .rwh, true, false, [517762881], .any, .engineer, .drove⟩,
  ⟨"CHECK_INIT", 0x3400, 128, 1, 7, 7, .u32, .rwh, true, false, [4294967295], .any, .engineer, .drove⟩,
  ⟨"CHECK_INVERT", 0x3400, 128, 1, 8, 8, .bool, .rwh, true, false, [1], .any, .engineer, .drove⟩,
  ⟨"CHECK_REFLECT", 0x3400, 128, 1, 9, 9, .bool, .rwh, true, false, [1], .any, .engineer, .drove⟩,
  ⟨"TX_AMPLITUDE", 0x3400, 128, 1, 10, 10, .u8, .rwh, true, false, [8], .within 0 12, .engineer, .drove⟩,
  ⟨"TX_EMPHASIS", 0x3400, 128, 1, 11, 11, .u8, .rwh, true, false, [2], .within 0 12, .engineer, .drove⟩,
  ⟨"RT_MEASURE", 0x3400, 128, 1, 12, 12, .u8, .rwh, false, false, [0], .within 1 1, .engineer, .drove⟩,
  ⟨"ROUND_TRIP", 0x3400, 128, 1, 13, 13, .u32, .ro, false, false, [0], .any, .engineer, .drove⟩,
  ⟨"OUTBOUND_PASSAGE", 0x3400, 128, 1, 14, 14, .u32, .ro, false, false, [0], .any, .engineer, .drove⟩,
  ⟨"EARLIEST_TELEMETRY", 0x3400, 128, 1, 15, 15, .u32, .ro, false, false, [0], .any, .engineer, .drove⟩,
  ⟨"BRIDGE_ROUND_TRIP", 0x3400, 128, 1, 16, 16, .u32, .ro, false, false, [0], .any, .engineer, .drove⟩,
  ⟨"BRIDGE_OUTBOUND_PASSAGE", 0x3400, 128, 1, 17, 17, .u32, .ro, false, false, [0], .any, .engineer, .drove⟩,
  ⟨"BRIDGE_LOOP", 0x3400, 128, 1, 18, 18, .u16, .ro, false, false, [65535], .any, .engineer, .drove⟩,
  ⟨"LANE_TIDE_PHASE", 0x3400, 128, 1, 19, 19, .u8, .ro, false, false, [0], .any, .engineer, .drove⟩,
  ⟨"LANE_STATE", 0x3400, 128, 1, 20, 20, .u8, .ro, false, false, [0], .any, .engineer, .drove⟩,
  ⟨"TURN_POSITION", 0x3400, 128, 1, 21, 21, .u8, .ro, false, false, [255], .any, .engineer, .drove⟩,
  ⟨"RT_MARGIN", 0x3400, 128, 1, 22, 22, .i32, .ro, false, false, [0], .any, .engineer, .drove⟩,
  ⟨"FRAMES_GOOD", 0x3400, 128, 1, 23, 23, .u64, .ro, false, false, [0], .any, .engineer, .drove⟩,
  ⟨"FRAMES_BAD", 0x3400, 128, 1, 24, 24, .u32, .ro, false, false, [0], .any, .engineer, .drove⟩,
  ⟨"FRAMES_STOMPED", 0x3400, 128, 1, 25, 25, .u32, .ro, false, false, [0], .any, .engineer, .drove⟩,
  ⟨"FRAMES_MISSING", 0x3400, 128, 1, 26, 26, .u32, .ro, false, false, [0], .any, .engineer, .drove⟩,
  ⟨"LOCK_LOSSES", 0x3400, 128, 1, 27, 27, .u32, .ro, false, false, [0], .any, .engineer, .drove⟩,
  ⟨"BLOCK_ECHO_TIME", 0x3400, 128, 1, 28, 28, .u32, .ro, false, false, [0], .any, .engineer, .drove⟩,
  ⟨"SLACK_OUT_BYTES", 0x3400, 128, 1, 29, 29, .u64, .ro, false, false, [0], .any, .engineer, .drove⟩,
  ⟨"SLACK_IN_BYTES", 0x3400, 128, 1, 30, 30, .u64, .ro, false, false, [0], .any, .engineer, .drove⟩,
  ⟨"LEAF_DELAY_TRIM", 0x3400, 128, 1, 32, 159, .i16, .rwh, true, false, [0], .any, .engineer, .drove⟩]

/-- Object rows 0x3400 to 0x34FF. -/
def rowsDroves : List ObjRow := rowsDroves0

/-- Object rows 0x3500 to 0x35FF, part 0. -/
def rowsArms0 : List ObjRow := [
  ⟨"SHEPHERD_HIGHEST", 0x3500, 12, 1, 0, 0, .u8, .ro, false, false, [53], .any, .engineer, .core⟩,
  ⟨"KIND_V_NOMINAL", 0x3500, 12, 1, 1, 5, .u16, .rwh, true, false, [18000], .within 1000 40000, .engineer, .core⟩,
  ⟨"W_VOLTAGE", 0x3500, 12, 1, 6, 6, .u16, .rwh, true, false, [256], .within 0 4096, .engineer, .core⟩,
  ⟨"W_SOC", 0x3500, 12, 1, 7, 7, .u16, .rwh, true, false, [64], .within 0 4096, .engineer, .core⟩,
  ⟨"W_THERMAL", 0x3500, 12, 1, 8, 8, .u16, .rwh, true, false, [32], .within 0 4096, .engineer, .core⟩,
  ⟨"T_KNEE", 0x3500, 12, 1, 9, 9, .i16, .rwh, true, false, [7000], .any, .engineer, .core⟩,
  ⟨"TOL_BAND", 0x3500, 12, 1, 10, 10, .u16, .rwh, true, false, [100], .within 0 2000, .engineer, .core⟩,
  ⟨"HARD_BAND", 0x3500, 12, 1, 11, 11, .u16, .rwh, true, false, [800], .within 100 5000, .engineer, .core⟩,
  ⟨"SWITCH_BUDGET", 0x3500, 12, 1, 12, 12, .u8, .rwh, true, false, [8], .within 0 255, .engineer, .core⟩,
  ⟨"LEAF_DWELL", 0x3500, 12, 1, 13, 13, .u16, .rwh, true, false, [20], .within 0 10000, .engineer, .core⟩,
  ⟨"EDGE_GUARD", 0x3500, 12, 1, 14, 14, .u16, .rwh, true, false, [100], .within 50 400, .engineer, .core⟩,
  ⟨"EDGE_SEARCH", 0x3500, 12, 1, 15, 15, .u8, .rwh, true, false, [8], .within 0 32, .engineer, .core⟩,
  ⟨"CURRENT_DEADBAND", 0x3500, 12, 1, 16, 16, .u32, .rwh, true, false, [33554], .any, .engineer, .core⟩,
  ⟨"HEADROOM_MARGIN", 0x3500, 12, 1, 17, 17, .u16, .rwh, true, false, [300], .within 0 2000, .engineer, .core⟩,
  ⟨"HEADROOM_PRIORITY", 0x3500, 12, 1, 18, 18, .u8, .rwh, true, false, [0], .within 0 1, .engineer, .core⟩,
  ⟨"ADMIT_WINDOW", 0x3500, 12, 1, 19, 19, .u16, .rwh, true, false, [500], .within 50 2000, .engineer, .core⟩,
  ⟨"ADMIT_HOLD", 0x3500, 12, 1, 20, 20, .u16, .rwh, true, false, [32], .within 1 10000, .engineer, .core⟩,
  ⟨"ADMIT_MAX", 0x3500, 12, 1, 21, 21, .u8, .rwh, true, false, [4], .within 1 16, .engineer, .core⟩,
  ⟨"ADMIT_TIMEOUT", 0x3500, 12, 1, 22, 22, .u32, .rwh, true, false, [200000], .within 1000 10000000, .engineer, .core⟩,
  ⟨"PORT_I_CHARGE_MAX", 0x3500, 12, 1, 23, 23, .u16, .rwh, true, false, [2000], .any, .engineer, .core⟩,
  ⟨"PORT_I_DISCHARGE_MAX", 0x3500, 12, 1, 24, 24, .u16, .rwh, true, false, [2000], .any, .engineer, .core⟩,
  ⟨"SOC_SHARE_GAIN", 0x3500, 12, 1, 25, 25, .u16, .rwh, true, false, [512], .within 0 4096, .engineer, .core⟩,
  ⟨"PORT_DERATE_T", 0x3500, 12, 1, 26, 26, .i16, .rwh, true, false, [5500], .any, .engineer, .core⟩,
  ⟨"SOLAR_SURPLUS_BAND", 0x3500, 12, 1, 27, 27, .u16, .rwh, true, false, [300], .within 50 2000, .engineer, .core⟩,
  ⟨"ARM_V_FLOOR", 0x3500, 12, 1, 28, 28, .u32, .rwh, true, false, [0], .any, .engineer, .core⟩,
  ⟨"SHEPHERD_STATE", 0x3500, 12, 1, 32, 32, .u8, .ro, false, false, [0], .any, .engineer, .core⟩,
  ⟨"ELIGIBLE", 0x3500, 12, 1, 33, 33, .u16, .ro, false, false, [0], .any, .engineer, .core⟩,
  ⟨"ELIGIBLE_VOLTAGE", 0x3500, 12, 1, 34, 34, .u32, .ro, false, false, [0], .any, .engineer, .core⟩,
  ⟨"INSERTED_POS", 0x3500, 12, 1, 35, 35, .u16, .ro, false, false, [0], .any, .engineer, .core⟩,
  ⟨"INSERTED_NEG", 0x3500, 12, 1, 36, 36, .u16, .ro, false, false, [0], .any, .engineer, .core⟩,
  ⟨"EDGE_LEAF", 0x3500, 12, 1, 37, 37, .u16, .ro, false, false, [65535], .any, .engineer, .core⟩,
  ⟨"EDGE_OFFSET_LAST", 0x3500, 12, 1, 38, 38, .u16, .ro, false, false, [0], .any, .engineer, .core⟩,
  ⟨"FINE_RESIDUAL", 0x3500, 12, 1, 39, 39, .i32, .ro, false, false, [0], .any, .engineer, .core⟩,
  ⟨"MEAN_CAP_RATIO", 0x3500, 12, 1, 40, 40, .u16, .ro, false, false, [0], .any, .engineer, .core⟩,
  ⟨"CAP_SPREAD", 0x3500, 12, 1, 41, 41, .u16, .ro, false, false, [0], .any, .engineer, .core⟩,
  ⟨"MEAN_SOC", 0x3500, 12, 1, 42, 42, .u16, .ro, false, false, [65535], .any, .engineer, .core⟩,
  ⟨"HEADROOM_FLAGS", 0x3500, 12, 1, 43, 43, .u8, .ro, false, false, [0], .any, .engineer, .core⟩,
  ⟨"HEADROOM_EPISODES", 0x3500, 12, 1, 44, 44, .u32, .ro, false, false, [0], .any, .engineer, .core⟩,
  ⟨"HEADROOM_TIDES", 0x3500, 12, 1, 45, 45, .u64, .ro, false, false, [0], .any, .engineer, .core⟩,
  ⟨"SWITCH_EVENTS", 0x3500, 12, 1, 46, 46, .u64, .ro, false, false, [0], .any, .engineer, .core⟩]

/-- Object rows 0x3500 to 0x35FF, part 1. -/
def rowsArms1 : List ObjRow := [
  ⟨"SWAPS_DEFERRED", 0x3500, 12, 1, 47, 47, .u64, .ro, false, false, [0], .any, .engineer, .core⟩,
  ⟨"SWITCH_RATE", 0x3500, 12, 1, 48, 48, .u32, .ro, false, false, [0], .any, .engineer, .core⟩,
  ⟨"ADMITTING", 0x3500, 12, 1, 49, 49, .u8, .ro, false, false, [0], .any, .engineer, .core⟩,
  ⟨"SOLAR_ACCEPT", 0x3500, 12, 1, 50, 50, .i32, .ro, false, false, [0], .any, .engineer, .core⟩,
  ⟨"BATTERY_SHORTFALL", 0x3500, 12, 1, 51, 51, .i32, .ro, false, false, [0], .any, .engineer, .core⟩,
  ⟨"RANK_TIDE", 0x3500, 12, 1, 52, 52, .u64, .ro, false, false, [0], .any, .engineer, .core⟩,
  ⟨"RANK_REPORT", 0x3500, 12, 1, 53, 53, .domain, .ro, false, false, [], .any, .engineer, .core⟩]

/-- Object rows 0x3500 to 0x35FF. -/
def rowsArms : List ObjRow := rowsArms0 ++ rowsArms1

/-- Object rows 0x3600 to 0x3FFF, part 0. -/
def rowsStore0 : List ObjRow := [
  ⟨"INTEGRITY_HIGHEST", 0x3600, 1, 1, 0, 0, .u8, .ro, false, false, [9], .any, .engineer, .core⟩,
  ⟨"ECC_CORRECTED", 0x3600, 1, 1, 1, 1, .u64, .ro, false, false, [0], .any, .engineer, .core⟩,
  ⟨"ECC_UNCORRECTED", 0x3600, 1, 1, 2, 2, .u32, .ro, false, false, [0], .any, .engineer, .core⟩,
  ⟨"PARITY_ERRORS", 0x3600, 1, 1, 3, 3, .u32, .ro, false, false, [0], .any, .engineer, .core⟩,
  ⟨"POISONED_WORDS", 0x3600, 1, 1, 4, 4, .u32, .ro, false, false, [0], .any, .engineer, .core⟩,
  ⟨"LAST_ERROR_ADDRESS", 0x3600, 1, 1, 5, 5, .u32, .ro, false, false, [0], .any, .engineer, .core⟩,
  ⟨"LAST_ERROR_REGION", 0x3600, 1, 1, 6, 6, .u8, .ro, false, false, [0], .any, .engineer, .core⟩,
  ⟨"SCRUB_PERIOD", 0x3600, 1, 1, 7, 7, .u16, .rwh, true, false, [1000], .within 100 10000, .engineer, .core⟩,
  ⟨"SCRUB_PASSES", 0x3600, 1, 1, 8, 8, .u32, .ro, false, false, [0], .any, .engineer, .core⟩,
  ⟨"SCRUB_OVERRUNS", 0x3600, 1, 1, 9, 9, .u32, .ro, false, false, [0], .any, .engineer, .core⟩,
  ⟨"ARB_CLASS_HIGHEST", 0x3601, 1, 1, 0, 0, .u8, .ro, false, false, [48], .any, .engineer, .core⟩,
  ⟨"ARB_CLASS", 0x3601, 1, 1, 1, 48, .u8, .rwh, true, false, List.replicate 28 0 ++ List.replicate 13 1 ++ List.replicate 5 2 ++ List.replicate 2 3, .within 0 3, .engineer, .core⟩,
  ⟨"ARB_HIGHEST", 0x3602, 1, 1, 0, 0, .u8, .ro, false, false, [4], .any, .engineer, .core⟩,
  ⟨"ARB_PARK_MODE", 0x3602, 1, 1, 1, 1, .u8, .rwh, true, false, [0], .within 0 2, .engineer, .core⟩,
  ⟨"ARB_AGE_LIMIT", 0x3602, 1, 1, 2, 2, .u16, .rwh, true, false, [512], .within 64 4096, .engineer, .core⟩,
  ⟨"ARB_PROMOTIONS", 0x3602, 1, 1, 3, 3, .u64, .ro, false, false, [0], .any, .engineer, .core⟩,
  ⟨"ARB_MASKED", 0x3602, 1, 1, 4, 4, .u64, .ro, false, false, [0], .any, .engineer, .core⟩,
  ⟨"POOL_HIGHEST", 0x3604, 1, 1, 0, 0, .u8, .ro, false, false, [5], .any, .engineer, .core⟩,
  ⟨"POOL_BLOCKS", 0x3604, 1, 1, 1, 1, .u32, .ro, false, false, [491520], .any, .engineer, .core⟩,
  ⟨"POOL_DOWN_SHARE", 0x3604, 1, 1, 2, 2, .u32, .rwh, true, false, [245760], .within 16384 475136, .engineer, .core⟩,
  ⟨"POOL_DOWN_FREE", 0x3604, 1, 1, 3, 3, .u32, .ro, false, false, [245760], .any, .engineer, .core⟩,
  ⟨"POOL_UP_FREE", 0x3604, 1, 1, 4, 4, .u32, .ro, false, false, [245760], .any, .engineer, .core⟩,
  ⟨"POOL_DOWN_LOW", 0x3604, 1, 1, 5, 5, .u32, .ro, false, false, [245760], .any, .engineer, .core⟩,
  ⟨"CAPACITY_HIGHEST", 0x3605, 1, 1, 0, 0, .u8, .ro, false, false, [16], .any, .engineer, .core⟩,
  ⟨"CLASS_CAPACITY", 0x3605, 1, 1, 1, 16, .u16, .rwh, true, false, [64, 16, 514, 64, 16, 16, 16, 16, 64, 64, 32, 256, 16, 16, 16, 16], .any, .engineer, .core⟩,
  ⟨"SCHED_HIGHEST", 0x3606, 1, 1, 0, 0, .u8, .ro, false, false, [3], .any, .engineer, .core⟩,
  ⟨"POLL_INTERVAL", 0x3606, 1, 1, 1, 1, .u8, .rwh, true, false, [16], .within 1 255, .engineer, .core⟩,
  ⟨"ACK_DELAY", 0x3606, 1, 1, 2, 2, .u8, .rwh, true, false, [4], .within 1 32, .engineer, .core⟩,
  ⟨"UP_CONTAINER", 0x3606, 1, 1, 3, 3, .u16, .rwh, true, false, [1024], .multipleOf 8 64 2048, .engineer, .core⟩,
  ⟨"QCOUNT_HIGHEST", 0x3607, 1, 1, 0, 0, .u8, .ro, false, false, [6], .any, .engineer, .core⟩,
  ⟨"POSTS", 0x3607, 1, 1, 1, 1, .u64, .ro, false, false, [0], .any, .engineer, .core⟩,
  ⟨"POSTS_REFUSED", 0x3607, 1, 1, 2, 2, .u32, .ro, false, false, [0], .any, .engineer, .core⟩,
  ⟨"UP_REFUSED", 0x3607, 1, 1, 3, 3, .u32, .ro, false, false, [0], .any, .engineer, .core⟩,
  ⟨"CREDIT_INVALID", 0x3607, 1, 1, 4, 4, .u32, .ro, false, false, [0], .any, .engineer, .core⟩,
  ⟨"RETURNED_MESSAGES", 0x3607, 1, 1, 5, 5, .u32, .ro, false, false, [0], .any, .engineer, .core⟩,
  ⟨"SLOT_POISON_SKIPS", 0x3607, 1, 1, 6, 6, .u32, .ro, false, false, [0], .any, .engineer, .core⟩,
  ⟨"QACCESS_HIGHEST", 0x3610, 1, 1, 0, 0, .u8, .ro, false, false, [6], .any, .engineer, .core⟩,
  ⟨"QUEUE_SELECT", 0x3610, 1, 1, 1, 1, .u32, .rw, false, false, [0], .within 0 262143, .viewer, .core⟩,
  ⟨"QUEUE_DESCRIPTOR", 0x3610, 1, 1, 2, 2, .domain, .ro, false, false, [], .any, .engineer, .core⟩,
  ⟨"QUEUE_PEEK", 0x3610, 1, 1, 3, 3, .domain, .ro, false, false, [], .any, .engineer, .core⟩]

/-- Object rows 0x3600 to 0x3FFF, part 1. -/
def rowsStore1 : List ObjRow := [
  ⟨"QUEUE_RELEASE", 0x3610, 1, 1, 4, 4, .domain, .wo, false, false, [], .any, .operator, .core⟩,
  ⟨"QUEUE_POST", 0x3610, 1, 1, 5, 5, .domain, .wo, false, false, [], .any, .operator, .core⟩,
  ⟨"QUEUE_CLEAR_RETURNED", 0x3610, 1, 1, 6, 6, .u32, .wo, false, false, [0], .any, .operator, .core⟩,
  ⟨"QUEUE_NOTIFY_MASK", 0x3611, 1, 1, 0, 0, .u8, .rw, true, false, [2], .any, .operator, .core⟩,
  ⟨"SUB_HIGHEST", 0x3620, 16, 1, 0, 0, .u8, .ro, false, false, [9], .any, .engineer, .core⟩,
  ⟨"SUB_ENABLE", 0x3620, 16, 1, 1, 1, .bool, .rw, false, false, [0], .any, .operator, .core⟩,
  ⟨"SUB_FIRST_LEAF", 0x3620, 16, 1, 2, 2, .u16, .rw, false, false, [0], .any, .operator, .core⟩,
  ⟨"SUB_LEAF_COUNT", 0x3620, 16, 1, 3, 3, .u16, .rw, false, false, [1], .within 1 2048, .operator, .core⟩,
  ⟨"SUB_FIELDS", 0x3620, 16, 1, 4, 4, .u8, .rw, false, false, [7], .within 1 15, .operator, .core⟩,
  ⟨"SUB_MODE", 0x3620, 16, 1, 5, 5, .u8, .rw, false, false, [1], .within 0 2, .operator, .core⟩,
  ⟨"SUB_DECIMATION", 0x3620, 16, 1, 6, 6, .u16, .rw, false, false, [100], .within 1 65535, .operator, .core⟩,
  ⟨"SUB_DATA", 0x3620, 16, 1, 7, 7, .domain, .ro, false, false, [], .any, .engineer, .core⟩,
  ⟨"SUB_RELEASE", 0x3620, 16, 1, 8, 8, .u16, .wo, false, false, [0], .any, .operator, .core⟩,
  ⟨"SUB_LOST", 0x3620, 16, 1, 9, 9, .u32, .ro, false, false, [0], .any, .engineer, .core⟩]

/-- Object rows 0x3600 to 0x3FFF. -/
def rowsStore : List ObjRow := rowsStore0 ++ rowsStore1

/-- Object rows 0x4000 to 0x7FFF, part 0. -/
def rowsLeaves0 : List ObjRow := [
  ⟨"HIGHEST_4000", 0x4000, 16384, 1, 0, 0, .u8, .ro, false, false, [104], .any, .engineer, .leaf⟩,
  ⟨"LEAF_KIND_CFG", 0x4000, 16384, 1, 32, 32, .u8, .rwh, true, false, [0], .within 0 4, .engineer, .leaf⟩,
  ⟨"LEAF_RANK_STATE", 0x4000, 16384, 1, 33, 33, .u8, .ro, false, false, [0], .any, .engineer, .leaf⟩,
  ⟨"LEAF_KEY", 0x4000, 16384, 1, 34, 34, .i32, .ro, false, false, [0], .any, .engineer, .leaf⟩,
  ⟨"LEAF_MODE_SENT", 0x4000, 16384, 1, 35, 35, .u8, .ro, false, false, [4], .any, .engineer, .leaf⟩,
  ⟨"LEAF_EVENTS", 0x4000, 16384, 1, 36, 36, .u32, .ro, false, false, [0], .any, .engineer, .leaf⟩,
  ⟨"LEAF_PORT_REF", 0x4000, 16384, 1, 37, 37, .i16, .ro, false, false, [0], .any, .engineer, .leaf⟩,
  ⟨"MPPT_STATE", 0x4000, 16384, 1, 48, 48, .u8, .ro, false, false, [0], .any, .engineer, .solarLeaf⟩,
  ⟨"PV_V_REF", 0x4000, 16384, 1, 49, 49, .u16, .ro, false, false, [32767], .any, .engineer, .solarLeaf⟩,
  ⟨"PV_VOC", 0x4000, 16384, 1, 50, 50, .u16, .ro, false, false, [0], .any, .engineer, .solarLeaf⟩,
  ⟨"PV_V_MPP", 0x4000, 16384, 1, 51, 51, .u16, .ro, false, false, [0], .any, .engineer, .solarLeaf⟩,
  ⟨"PV_P_MPP", 0x4000, 16384, 1, 52, 52, .u32, .ro, false, false, [0], .any, .engineer, .solarLeaf⟩,
  ⟨"PV_P_WINDOW", 0x4000, 16384, 1, 53, 53, .u32, .ro, false, false, [0], .any, .engineer, .solarLeaf⟩,
  ⟨"PV_STEP", 0x4000, 16384, 1, 54, 54, .u16, .ro, false, false, [0], .any, .engineer, .solarLeaf⟩,
  ⟨"LAST_SCAN", 0x4000, 16384, 1, 55, 55, .u64, .ro, false, false, [0], .any, .engineer, .solarLeaf⟩,
  ⟨"SCAN_GAIN", 0x4000, 16384, 1, 56, 56, .i16, .ro, false, false, [0], .any, .engineer, .solarLeaf⟩,
  ⟨"PROT_COMMAND", 0x4000, 16384, 1, 64, 64, .domain, .wo, false, false, [], .any, .operator, .leaf⟩,
  ⟨"PROT_FLAGS", 0x4000, 16384, 1, 65, 65, .u8, .ro, false, false, [0], .any, .engineer, .leaf⟩,
  ⟨"PEN_CAUSE", 0x4000, 16384, 1, 66, 66, .u8, .ro, false, false, [0], .any, .engineer, .leaf⟩,
  ⟨"PENNINGS", 0x4000, 16384, 1, 67, 67, .u16, .ro, false, false, [0], .any, .engineer, .leaf⟩,
  ⟨"SC_EVENTS", 0x4000, 16384, 1, 68, 68, .u16, .ro, false, false, [0], .any, .engineer, .leaf⟩,
  ⟨"SC_RAMP_EVENTS", 0x4000, 16384, 1, 69, 69, .u16, .ro, false, false, [0], .any, .engineer, .leaf⟩,
  ⟨"UV_EVENTS", 0x4000, 16384, 1, 70, 75, .u16, .ro, false, false, [0], .any, .engineer, .leaf⟩,
  ⟨"UV_EVENTS_UNKNOWN", 0x4000, 16384, 1, 76, 76, .u16, .ro, false, false, [0], .any, .engineer, .leaf⟩,
  ⟨"OT_EVENTS", 0x4000, 16384, 1, 77, 77, .u16, .ro, false, false, [0], .any, .engineer, .leaf⟩,
  ⟨"TEST_STATUS", 0x4000, 16384, 1, 78, 78, .u8, .ro, false, false, [33], .any, .engineer, .leaf⟩,
  ⟨"TEST_RESULT", 0x4000, 16384, 1, 79, 79, .domain, .ro, false, false, [], .any, .engineer, .leaf⟩,
  ⟨"PSRC_COUNT", 0x4000, 16384, 1, 80, 80, .domain, .ro, false, false, [], .any, .engineer, .leaf⟩,
  ⟨"FOLD_EPOCH", 0x4000, 16384, 1, 96, 96, .u8, .ro, false, false, [0], .any, .engineer, .leaf⟩,
  ⟨"LINK_STATE", 0x4000, 16384, 1, 97, 97, .u8, .ro, false, false, [0], .any, .engineer, .leaf⟩,
  ⟨"LEAF_READMIT", 0x4000, 16384, 1, 98, 98, .u8, .wo, false, false, [0], .within 1 1, .engineer, .leaf⟩,
  ⟨"READMIT_STATUS", 0x4000, 16384, 1, 99, 99, .u8, .ro, false, false, [0], .any, .engineer, .leaf⟩,
  ⟨"STRAY_EPISODES", 0x4000, 16384, 1, 100, 100, .u32, .ro, false, false, [0], .any, .engineer, .leaf⟩,
  ⟨"LEAF_RETRANSMISSIONS", 0x4000, 16384, 1, 101, 101, .u32, .ro, false, false, [0], .any, .engineer, .leaf⟩,
  ⟨"LEAF_UP_DUPLICATES", 0x4000, 16384, 1, 102, 102, .u32, .ro, false, false, [0], .any, .engineer, .leaf⟩,
  ⟨"LINK_PEN_REASON", 0x4000, 16384, 1, 103, 103, .u8, .ro, false, false, [0], .any, .engineer, .leaf⟩,
  ⟨"LINK_SRC_COUNT", 0x4000, 16384, 1, 104, 104, .domain, .ro, false, false, [], .any, .engineer, .leaf⟩]

/-- Object rows 0x4000 to 0x7FFF. -/
def rowsLeaves : List ObjRow := rowsLeaves0

/-- The rows that may hold index `ix`. -/
def rowsFor (ix : Nat) : List ObjRow :=
  if ix < 0x1100 then rowsIdentity
  else if ix < 0x1400 then rowsPorts
  else if ix < 0x2000 then rowsConfig
  else if ix < 0x2100 then rowsTime
  else if ix < 0x2200 then rowsPower
  else if ix < 0x2250 then rowsFaults
  else if ix < 0x2400 then rowsCounters
  else if ix < 0x2800 then rowsSafety
  else if ix < 0x2A00 then rowsLocalIo
  else if ix < 0x3000 then rowsMeter
  else if ix < 0x3100 then rowsGrid
  else if ix < 0x3200 then rowsCluster
  else if ix < 0x3400 then rowsSolar
  else if ix < 0x3500 then rowsDroves
  else if ix < 0x3600 then rowsArms
  else if ix < 0x4000 then rowsStore
  else if ix < 0x8000 then rowsLeaves
  else []

/-- Every row of the dictionary, in index order. -/
def dictRows : List ObjRow := rowsIdentity ++ rowsPorts ++ rowsConfig ++ rowsTime ++ rowsPower ++ rowsFaults ++ rowsCounters ++ rowsSafety ++ rowsLocalIo ++ rowsMeter ++ rowsGrid ++ rowsCluster ++ rowsSolar ++ rowsDroves ++ rowsArms ++ rowsStore ++ rowsLeaves

end Sys2Proof.Machine
end

