-- ==== Sys2Proof/Machine/Keys.lean ====
section
/-! DEFINITION. Object keys by the spec's names: key = index × 256 + sub-index. `i` counts the instances (drove, arm, leaf,
converter, session, channel ...), `k` the sub-indices from the first one of the row. -/

namespace Sys2Proof.Machine.Obj

/-- 0x2010:00 U8, R22. -/
abbrev TIDE_HIGHEST : Nat := 0x201000
/-- 0x2010:01 U16, R22. -/
abbrev TIDE_PERIOD : Nat := 0x201001
/-- 0x2010:02 U16, R22. -/
abbrev APPLY_MARK : Nat := 0x201002
/-- 0x2010:03 U32, R22. -/
abbrev TIDE_PHASE : Nat := 0x201003
/-- 0x2010:04 U32, R22. -/
abbrev RETURN_DEADLINE : Nat := 0x201004
/-- 0x2010:05 U32, R22. -/
abbrev REFERENCE_MARK : Nat := 0x201005
/-- 0x2010:06 U32, R22. -/
abbrev DEMAND_MARK : Nat := 0x201006
/-- 0x2010:07 U32, R22. -/
abbrev COMMAND_CUTOFF : Nat := 0x201007
/-- 0x2010:08 U64, R22. -/
abbrev TIDE_NUMBER : Nat := 0x201008
/-- 0x2010:09 U32, R22. -/
abbrev REFERENCE_MISSES : Nat := 0x201009
/-- 0x2010:0A U32, R22. -/
abbrev DEMAND_MISSES : Nat := 0x20100A
/-- 0x2010:0B U32, R22. -/
abbrev CUTOFF_MISSES : Nat := 0x20100B
/-- 0x2010:0C U16, R22. -/
abbrev MIN_PERIOD : Nat := 0x20100C
/-- 0x34dd:00 U8, R71. -/
abbrev DROVE_HIGHEST (i : Nat) : Nat := 0x340000 + i * 0x100
/-- 0x34dd:01 BOOL, R71. -/
abbrev DROVE_ENABLE (i : Nat) : Nat := 0x340001 + i * 0x100
/-- 0x34dd:02 U8, R71. -/
abbrev DROVE_LEAVES (i : Nat) : Nat := 0x340002 + i * 0x100
/-- 0x34dd:03 U8, R71. -/
abbrev DROVE_ARM (i : Nat) : Nat := 0x340003 + i * 0x100
/-- 0x34dd:04 BOOL, R71. -/
abbrev BRIDGE_ENABLE (i : Nat) : Nat := 0x340004 + i * 0x100
/-- 0x34dd:05 U8, R71. -/
abbrev CHECK_WIDTH (i : Nat) : Nat := 0x340005 + i * 0x100
/-- 0x34dd:06 U32, R71. -/
abbrev CHECK_POLY (i : Nat) : Nat := 0x340006 + i * 0x100
/-- 0x34dd:07 U32, R71. -/
abbrev CHECK_INIT (i : Nat) : Nat := 0x340007 + i * 0x100
/-- 0x34dd:08 BOOL, R71. -/
abbrev CHECK_INVERT (i : Nat) : Nat := 0x340008 + i * 0x100
/-- 0x34dd:09 BOOL, R71. -/
abbrev CHECK_REFLECT (i : Nat) : Nat := 0x340009 + i * 0x100
/-- 0x34dd:0A U8, R71. -/
abbrev TX_AMPLITUDE (i : Nat) : Nat := 0x34000A + i * 0x100
/-- 0x34dd:0B U8, R71. -/
abbrev TX_EMPHASIS (i : Nat) : Nat := 0x34000B + i * 0x100
/-- 0x34dd:0C U8, R71. -/
abbrev RT_MEASURE (i : Nat) : Nat := 0x34000C + i * 0x100
/-- 0x34dd:0D U32, R71. -/
abbrev ROUND_TRIP (i : Nat) : Nat := 0x34000D + i * 0x100
/-- 0x34dd:0E U32, R71. -/
abbrev OUTBOUND_PASSAGE (i : Nat) : Nat := 0x34000E + i * 0x100
/-- 0x34dd:0F U32, R71. -/
abbrev EARLIEST_TELEMETRY (i : Nat) : Nat := 0x34000F + i * 0x100
/-- 0x34dd:10 U32, R71. -/
abbrev BRIDGE_ROUND_TRIP (i : Nat) : Nat := 0x340010 + i * 0x100
/-- 0x34dd:11 U32, R71. -/
abbrev BRIDGE_OUTBOUND_PASSAGE (i : Nat) : Nat := 0x340011 + i * 0x100
/-- 0x34dd:12 U16, R71. -/
abbrev BRIDGE_LOOP (i : Nat) : Nat := 0x340012 + i * 0x100
/-- 0x34dd:13 U8, R71. -/
abbrev LANE_TIDE_PHASE (i : Nat) : Nat := 0x340013 + i * 0x100
/-- 0x34dd:14 U8, R71. -/
abbrev LANE_STATE (i : Nat) : Nat := 0x340014 + i * 0x100
/-- 0x34dd:15 U8, R71. -/
abbrev TURN_POSITION (i : Nat) : Nat := 0x340015 + i * 0x100
/-- 0x34dd:16 I32, R71. -/
abbrev RT_MARGIN (i : Nat) : Nat := 0x340016 + i * 0x100
/-- 0x34dd:17 U64, R71. -/
abbrev FRAMES_GOOD (i : Nat) : Nat := 0x340017 + i * 0x100
/-- 0x34dd:18 U32, R71. -/
abbrev FRAMES_BAD (i : Nat) : Nat := 0x340018 + i * 0x100
/-- 0x34dd:19 U32, R71. -/
abbrev FRAMES_STOMPED (i : Nat) : Nat := 0x340019 + i * 0x100
/-- 0x34dd:1A U32, R71. -/
abbrev FRAMES_MISSING (i : Nat) : Nat := 0x34001A + i * 0x100
/-- 0x34dd:1B U32, R71. -/
abbrev LOCK_LOSSES (i : Nat) : Nat := 0x34001B + i * 0x100
/-- 0x34dd:1C U32, R71. -/
abbrev BLOCK_ECHO_TIME (i : Nat) : Nat := 0x34001C + i * 0x100
/-- 0x34dd:1D U64, R71. -/
abbrev SLACK_OUT_BYTES (i : Nat) : Nat := 0x34001D + i * 0x100
/-- 0x34dd:1E U64, R71. -/
abbrev SLACK_IN_BYTES (i : Nat) : Nat := 0x34001E + i * 0x100
/-- 0x34dd:20–9F I16, R71. -/
abbrev LEAF_DELAY_TRIM (i : Nat) (k : Nat) : Nat := 0x340020 + i * 0x100 + k
/-- 0x3600:00 U8, R101. -/
abbrev INTEGRITY_HIGHEST : Nat := 0x360000
/-- 0x3600:01 U64, R101. -/
abbrev ECC_CORRECTED : Nat := 0x360001
/-- 0x3600:02 U32, R101. -/
abbrev ECC_UNCORRECTED : Nat := 0x360002
/-- 0x3600:03 U32, R101. -/
abbrev PARITY_ERRORS : Nat := 0x360003
/-- 0x3600:04 U32, R101. -/
abbrev POISONED_WORDS : Nat := 0x360004
/-- 0x3600:05 U32, R101. -/
abbrev LAST_ERROR_ADDRESS : Nat := 0x360005
/-- 0x3600:06 U8, R101. -/
abbrev LAST_ERROR_REGION : Nat := 0x360006
/-- 0x3600:07 U16, R101. -/
abbrev SCRUB_PERIOD : Nat := 0x360007
/-- 0x3600:08 U32, R101. -/
abbrev SCRUB_PASSES : Nat := 0x360008
/-- 0x3600:09 U32, R101. -/
abbrev SCRUB_OVERRUNS : Nat := 0x360009
/-- 0x3601:00 U8, R101. -/
abbrev ARB_CLASS_HIGHEST : Nat := 0x360100
/-- 0x3601:01–30 U8, R101. -/
abbrev ARB_CLASS (k : Nat) : Nat := 0x360101 + k
/-- 0x3602:00 U8, R101. -/
abbrev ARB_HIGHEST : Nat := 0x360200
/-- 0x3602:01 U8, R101. -/
abbrev ARB_PARK_MODE : Nat := 0x360201
/-- 0x3602:02 U16, R101. -/
abbrev ARB_AGE_LIMIT : Nat := 0x360202
/-- 0x3602:03 U64, R101. -/
abbrev ARB_PROMOTIONS : Nat := 0x360203
/-- 0x3602:04 U64, R101. -/
abbrev ARB_MASKED : Nat := 0x360204
/-- 0x3604:00 U8, R101. -/
abbrev POOL_HIGHEST : Nat := 0x360400
/-- 0x3604:01 U32, R101. -/
abbrev POOL_BLOCKS : Nat := 0x360401
/-- 0x3604:02 U32, R101. -/
abbrev POOL_DOWN_SHARE : Nat := 0x360402
/-- 0x3604:03 U32, R101. -/
abbrev POOL_DOWN_FREE : Nat := 0x360403
/-- 0x3604:04 U32, R101. -/
abbrev POOL_UP_FREE : Nat := 0x360404
/-- 0x3604:05 U32, R101. -/
abbrev POOL_DOWN_LOW : Nat := 0x360405
/-- 0x3605:00 U8, R101. -/
abbrev CAPACITY_HIGHEST : Nat := 0x360500
/-- 0x3605:01–10 U16, R101. -/
abbrev CLASS_CAPACITY (k : Nat) : Nat := 0x360501 + k
/-- 0x3606:00 U8, R101. -/
abbrev SCHED_HIGHEST : Nat := 0x360600
/-- 0x3606:01 U8, R101. -/
abbrev POLL_INTERVAL : Nat := 0x360601
/-- 0x3606:02 U8, R101. -/
abbrev ACK_DELAY : Nat := 0x360602
/-- 0x3606:03 U16, R101. -/
abbrev UP_CONTAINER : Nat := 0x360603
/-- 0x3607:00 U8, R101. -/
abbrev QCOUNT_HIGHEST : Nat := 0x360700
/-- 0x3607:01 U64, R101. -/
abbrev POSTS : Nat := 0x360701
/-- 0x3607:02 U32, R101. -/
abbrev POSTS_REFUSED : Nat := 0x360702
/-- 0x3607:03 U32, R101. -/
abbrev UP_REFUSED : Nat := 0x360703
/-- 0x3607:04 U32, R101. -/
abbrev CREDIT_INVALID : Nat := 0x360704
/-- 0x3607:05 U32, R101. -/
abbrev RETURNED_MESSAGES : Nat := 0x360705
/-- 0x3607:06 U32, R101. -/
abbrev SLOT_POISON_SKIPS : Nat := 0x360706
/-- 0x3610:00 U8, R101. -/
abbrev QACCESS_HIGHEST : Nat := 0x361000
/-- 0x3610:01 U32, R101. -/
abbrev QUEUE_SELECT : Nat := 0x361001
/-- 0x3610:02 DOMAIN, R101. -/
abbrev QUEUE_DESCRIPTOR : Nat := 0x361002
/-- 0x3610:03 DOMAIN, R101. -/
abbrev QUEUE_PEEK : Nat := 0x361003
/-- 0x3610:04 DOMAIN, R101. -/
abbrev QUEUE_RELEASE : Nat := 0x361004
/-- 0x3610:05 DOMAIN, R101. -/
abbrev QUEUE_POST : Nat := 0x361005
/-- 0x3610:06 U32, R101. -/
abbrev QUEUE_CLEAR_RETURNED : Nat := 0x361006
/-- 0x3611:00 U8, R101. -/
abbrev QUEUE_NOTIFY_MASK : Nat := 0x361100
/-- 0x3620+s:00 U8, R101. -/
abbrev SUB_HIGHEST (i : Nat) : Nat := 0x362000 + i * 0x100
/-- 0x3620+s:01 BOOL, R101. -/
abbrev SUB_ENABLE (i : Nat) : Nat := 0x362001 + i * 0x100
/-- 0x3620+s:02 U16, R101. -/
abbrev SUB_FIRST_LEAF (i : Nat) : Nat := 0x362002 + i * 0x100
/-- 0x3620+s:03 U16, R101. -/
abbrev SUB_LEAF_COUNT (i : Nat) : Nat := 0x362003 + i * 0x100
/-- 0x3620+s:04 U8, R101. -/
abbrev SUB_FIELDS (i : Nat) : Nat := 0x362004 + i * 0x100
/-- 0x3620+s:05 U8, R101. -/
abbrev SUB_MODE (i : Nat) : Nat := 0x362005 + i * 0x100
/-- 0x3620+s:06 U16, R101. -/
abbrev SUB_DECIMATION (i : Nat) : Nat := 0x362006 + i * 0x100
/-- 0x3620+s:07 DOMAIN, R101. -/
abbrev SUB_DATA (i : Nat) : Nat := 0x362007 + i * 0x100
/-- 0x3620+s:08 U16, R101. -/
abbrev SUB_RELEASE (i : Nat) : Nat := 0x362008 + i * 0x100
/-- 0x3620+s:09 U32, R101. -/
abbrev SUB_LOST (i : Nat) : Nat := 0x362009 + i * 0x100
/-- 0x35aa:00 U8, R131. -/
abbrev SHEPHERD_HIGHEST (i : Nat) : Nat := 0x350000 + i * 0x100
/-- 0x35aa:01–05 U16, R131. -/
abbrev KIND_V_NOMINAL (i : Nat) (k : Nat) : Nat := 0x350001 + i * 0x100 + k
/-- 0x35aa:06 U16, R131. -/
abbrev W_VOLTAGE (i : Nat) : Nat := 0x350006 + i * 0x100
/-- 0x35aa:07 U16, R131. -/
abbrev W_SOC (i : Nat) : Nat := 0x350007 + i * 0x100
/-- 0x35aa:08 U16, R131. -/
abbrev W_THERMAL (i : Nat) : Nat := 0x350008 + i * 0x100
/-- 0x35aa:09 I16, R131. -/
abbrev T_KNEE (i : Nat) : Nat := 0x350009 + i * 0x100
/-- 0x35aa:0A U16, R131. -/
abbrev TOL_BAND (i : Nat) : Nat := 0x35000A + i * 0x100
/-- 0x35aa:0B U16, R131. -/
abbrev HARD_BAND (i : Nat) : Nat := 0x35000B + i * 0x100
/-- 0x35aa:0C U8, R131. -/
abbrev SWITCH_BUDGET (i : Nat) : Nat := 0x35000C + i * 0x100
/-- 0x35aa:0D U16, R131. -/
abbrev LEAF_DWELL (i : Nat) : Nat := 0x35000D + i * 0x100
/-- 0x35aa:0E U16, R131. -/
abbrev EDGE_GUARD (i : Nat) : Nat := 0x35000E + i * 0x100
/-- 0x35aa:0F U8, R131. -/
abbrev EDGE_SEARCH (i : Nat) : Nat := 0x35000F + i * 0x100
/-- 0x35aa:10 U32, R131. -/
abbrev CURRENT_DEADBAND (i : Nat) : Nat := 0x350010 + i * 0x100
/-- 0x35aa:11 U16, R131. -/
abbrev HEADROOM_MARGIN (i : Nat) : Nat := 0x350011 + i * 0x100
/-- 0x35aa:12 U8, R131. -/
abbrev HEADROOM_PRIORITY (i : Nat) : Nat := 0x350012 + i * 0x100
/-- 0x35aa:13 U16, R131. -/
abbrev ADMIT_WINDOW (i : Nat) : Nat := 0x350013 + i * 0x100
/-- 0x35aa:14 U16, R131. -/
abbrev ADMIT_HOLD (i : Nat) : Nat := 0x350014 + i * 0x100
/-- 0x35aa:15 U8, R131. -/
abbrev ADMIT_MAX (i : Nat) : Nat := 0x350015 + i * 0x100
/-- 0x35aa:16 U32, R131. -/
abbrev ADMIT_TIMEOUT (i : Nat) : Nat := 0x350016 + i * 0x100
/-- 0x35aa:17 U16, R131. -/
abbrev PORT_I_CHARGE_MAX (i : Nat) : Nat := 0x350017 + i * 0x100
/-- 0x35aa:18 U16, R131. -/
abbrev PORT_I_DISCHARGE_MAX (i : Nat) : Nat := 0x350018 + i * 0x100
/-- 0x35aa:19 U16, R131. -/
abbrev SOC_SHARE_GAIN (i : Nat) : Nat := 0x350019 + i * 0x100
/-- 0x35aa:1A I16, R131. -/
abbrev PORT_DERATE_T (i : Nat) : Nat := 0x35001A + i * 0x100
/-- 0x35aa:1B U16, R131. -/
abbrev SOLAR_SURPLUS_BAND (i : Nat) : Nat := 0x35001B + i * 0x100
/-- 0x35aa:1C U32, R131. -/
abbrev ARM_V_FLOOR (i : Nat) : Nat := 0x35001C + i * 0x100
/-- 0x35aa:20 U8, R131. -/
abbrev SHEPHERD_STATE (i : Nat) : Nat := 0x350020 + i * 0x100
/-- 0x35aa:21 U16, R131. -/
abbrev ELIGIBLE (i : Nat) : Nat := 0x350021 + i * 0x100
/-- 0x35aa:22 U32, R131. -/
abbrev ELIGIBLE_VOLTAGE (i : Nat) : Nat := 0x350022 + i * 0x100
/-- 0x35aa:23 U16, R131. -/
abbrev INSERTED_POS (i : Nat) : Nat := 0x350023 + i * 0x100
/-- 0x35aa:24 U16, R131. -/
abbrev INSERTED_NEG (i : Nat) : Nat := 0x350024 + i * 0x100
/-- 0x35aa:25 U16, R131. -/
abbrev EDGE_LEAF (i : Nat) : Nat := 0x350025 + i * 0x100
/-- 0x35aa:26 U16, R131. -/
abbrev EDGE_OFFSET_LAST (i : Nat) : Nat := 0x350026 + i * 0x100
/-- 0x35aa:27 I32, R131. -/
abbrev FINE_RESIDUAL (i : Nat) : Nat := 0x350027 + i * 0x100
/-- 0x35aa:28 U16, R131. -/
abbrev MEAN_CAP_RATIO (i : Nat) : Nat := 0x350028 + i * 0x100
/-- 0x35aa:29 U16, R131. -/
abbrev CAP_SPREAD (i : Nat) : Nat := 0x350029 + i * 0x100
/-- 0x35aa:2A U16, R131. -/
abbrev MEAN_SOC (i : Nat) : Nat := 0x35002A + i * 0x100
/-- 0x35aa:2B U8, R131. -/
abbrev HEADROOM_FLAGS (i : Nat) : Nat := 0x35002B + i * 0x100
/-- 0x35aa:2C U32, R131. -/
abbrev HEADROOM_EPISODES (i : Nat) : Nat := 0x35002C + i * 0x100
/-- 0x35aa:2D U64, R131. -/
abbrev HEADROOM_TIDES (i : Nat) : Nat := 0x35002D + i * 0x100
/-- 0x35aa:2E U64, R131. -/
abbrev SWITCH_EVENTS (i : Nat) : Nat := 0x35002E + i * 0x100
/-- 0x35aa:2F U64, R131. -/
abbrev SWAPS_DEFERRED (i : Nat) : Nat := 0x35002F + i * 0x100
/-- 0x35aa:30 U32, R131. -/
abbrev SWITCH_RATE (i : Nat) : Nat := 0x350030 + i * 0x100
/-- 0x35aa:31 U8, R131. -/
abbrev ADMITTING (i : Nat) : Nat := 0x350031 + i * 0x100
/-- 0x35aa:32 I32, R131. -/
abbrev SOLAR_ACCEPT (i : Nat) : Nat := 0x350032 + i * 0x100
/-- 0x35aa:33 I32, R131. -/
abbrev BATTERY_SHORTFALL (i : Nat) : Nat := 0x350033 + i * 0x100
/-- 0x35aa:34 U64, R131. -/
abbrev RANK_TIDE (i : Nat) : Nat := 0x350034 + i * 0x100
/-- 0x35aa:35 DOMAIN, R131. -/
abbrev RANK_REPORT (i : Nat) : Nat := 0x350035 + i * 0x100
/-- 0x4000+L:20 U8, R133. -/
abbrev LEAF_KIND_CFG (i : Nat) : Nat := 0x400020 + i * 0x100
/-- 0x4000+L:21 U8, R133. -/
abbrev LEAF_RANK_STATE (i : Nat) : Nat := 0x400021 + i * 0x100
/-- 0x4000+L:22 I32, R133. -/
abbrev LEAF_KEY (i : Nat) : Nat := 0x400022 + i * 0x100
/-- 0x4000+L:23 U8, R133. -/
abbrev LEAF_MODE_SENT (i : Nat) : Nat := 0x400023 + i * 0x100
/-- 0x4000+L:24 U32, R133. -/
abbrev LEAF_EVENTS (i : Nat) : Nat := 0x400024 + i * 0x100
/-- 0x4000+L:25 I16, R133. -/
abbrev LEAF_PORT_REF (i : Nat) : Nat := 0x400025 + i * 0x100
/-- 0x3100:00 U8, R159. -/
abbrev CLUSTER_HIGHEST : Nat := 0x310000
/-- 0x3100:01–04 U8, R159. -/
abbrev PAIR_STATE (k : Nat) : Nat := 0x310001 + k
/-- 0x3100:05–0C U8, R159. -/
abbrev ENGINE_STATE (k : Nat) : Nat := 0x310005 + k
/-- 0x3100:0D U32, R159. -/
abbrev PAIR_FAULTS : Nat := 0x31000D
/-- 0x3100:0E U32, R159. -/
abbrev ENGINE_FAULTS : Nat := 0x31000E
/-- 0x3100:0F U8, R159. -/
abbrev REBALANCE : Nat := 0x31000F
/-- 0x3100:10 BOOL, R159. -/
abbrev FAILOVER_REQUIRED : Nat := 0x310010
/-- 0x3101:00 U8, R159. -/
abbrev BASES_HIGHEST : Nat := 0x310100
/-- 0x3101:01 F32, R159. -/
abbrev RATED_POWER : Nat := 0x310101
/-- 0x3101:02 F32, R159. -/
abbrev RATED_AC_VOLTAGE : Nat := 0x310102
/-- 0x3101:03 F32, R159. -/
abbrev RATED_DC_VOLTAGE : Nat := 0x310103
/-- 0x3101:04 F32, R159. -/
abbrev RATED_FREQUENCY : Nat := 0x310104
/-- 0x3101:05 F32, R159. -/
abbrev BASE_CURRENT : Nat := 0x310105
/-- 0x3101:06 F32, R159. -/
abbrev BASE_IMPEDANCE : Nat := 0x310106
/-- 0x3101:07 F32, R159. -/
abbrev BASE_ENERGY : Nat := 0x310107
/-- 0x3101:08 F32, R159. -/
abbrev BASE_DC_CURRENT : Nat := 0x310108
/-- 0x3101:09 F32, R159. -/
abbrev TRANSFORMER_RATIO : Nat := 0x310109
/-- 0x3101:0A I32, R159. -/
abbrev USER_TERM_LIMIT : Nat := 0x31010A
/-- 0x3102:00 U8, R159. -/
abbrev PLANT_HIGHEST : Nat := 0x310200
/-- 0x3102:01 F32, R159. -/
abbrev ARM_INDUCTANCE : Nat := 0x310201
/-- 0x3102:02 F32, R159. -/
abbrev ARM_RESISTANCE : Nat := 0x310202
/-- 0x3102:03 F32, R159. -/
abbrev TRANSFORMER_L : Nat := 0x310203
/-- 0x3102:04–08 F32, R159. -/
abbrev KIND_CAPACITANCE (k : Nat) : Nat := 0x310204 + k
/-- 0x3103:00 U8, R159. -/
abbrev ASSIGN_HIGHEST : Nat := 0x310300
/-- 0x3103:01–05 U8, R159. -/
abbrev ITEM_PAIR (k : Nat) : Nat := 0x310301 + k
/-- 0x3103:06–0B U8, R159. -/
abbrev LEG_ENGINE (k : Nat) : Nat := 0x310306 + k
/-- 0x3103:0C–10 U8, R159. -/
abbrev ITEM_FAILOVER (k : Nat) : Nat := 0x31030C + k
/-- 0x3103:11–16 U8, R159. -/
abbrev LEG_FAILOVER (k : Nat) : Nat := 0x310311 + k
/-- 0x3103:17–1A U32, R159. -/
abbrev PAIR_WCET (k : Nat) : Nat := 0x310317 + k
/-- 0x3103:1B–22 U32, R159. -/
abbrev ENGINE_WCET (k : Nat) : Nat := 0x31031B + k
/-- 0x3104:00 U8, R159. -/
abbrev LAWS_HIGHEST : Nat := 0x310400
/-- 0x3104:01–02 U8, R159. -/
abbrev DC_ROLE (k : Nat) : Nat := 0x310401 + k
/-- 0x3104:03–04 I32, R159. -/
abbrev ENERGY_REF (k : Nat) : Nat := 0x310403 + k
/-- 0x3104:05 BOOL, R159. -/
abbrev NEG_ENABLE : Nat := 0x310405
/-- 0x3104:06 BOOL, R159. -/
abbrev FINE_EDGE_ENABLE : Nat := 0x310406
/-- 0x3104:07 U16, R159. -/
abbrev HEADROOM_BACKOFF : Nat := 0x310407
/-- 0x3104:08 U16, R159. -/
abbrev HEADROOM_RECOVER : Nat := 0x310408
/-- 0x3110:01 U8, R159. -/
abbrev SCHED_AXIS_X : Nat := 0x311001
/-- 0x3110:02 U8, R159. -/
abbrev SCHED_AXIS_Y : Nat := 0x311002
/-- 0x3110:03–05 I32, R159. -/
abbrev BREAK_X (k : Nat) : Nat := 0x311003 + k
/-- 0x3110:06–08 I32, R159. -/
abbrev BREAK_Y (k : Nat) : Nat := 0x311006 + k
/-- 0x3110:09 I32, R159. -/
abbrev SCHED_HYST : Nat := 0x311009
/-- 0x3110:0A U16, R159. -/
abbrev SCHED_BLEND : Nat := 0x31100A
/-- 0x3110:0B U16, R159. -/
abbrev SCHED_CELL_NOW : Nat := 0x31100B
/-- 0x3110:0C U32, R159. -/
abbrev SCHED_CHANGES : Nat := 0x31100C
/-- 0x3120+k:00 U8, R159. -/
abbrev CELL_HIGHEST (i : Nat) : Nat := 0x312000 + i * 0x100
/-- 0x3120+k:01 F32, R159. -/
abbrev KP_I (i : Nat) : Nat := 0x312001 + i * 0x100
/-- 0x3120+k:02 F32, R159. -/
abbrev KI_I (i : Nat) : Nat := 0x312002 + i * 0x100
/-- 0x3120+k:03 F32, R159. -/
abbrev KP_C (i : Nat) : Nat := 0x312003 + i * 0x100
/-- 0x3120+k:04 F32, R159. -/
abbrev KI_C (i : Nat) : Nat := 0x312004 + i * 0x100
/-- 0x3120+k:05 F32, R159. -/
abbrev KP_E (i : Nat) : Nat := 0x312005 + i * 0x100
/-- 0x3120+k:06 F32, R159. -/
abbrev KI_E (i : Nat) : Nat := 0x312006 + i * 0x100
/-- 0x3120+k:07 F32, R159. -/
abbrev K_BAL (i : Nat) : Nat := 0x312007 + i * 0x100
/-- 0x3120+k:08 F32, R159. -/
abbrev K_FF (i : Nat) : Nat := 0x312008 + i * 0x100
/-- 0x3130:00 U8, R159. -/
abbrev PLAUS_HIGHEST : Nat := 0x313000
/-- 0x3130:01 I32, R159. -/
abbrev PLAUS_THRESHOLD : Nat := 0x313001
/-- 0x3130:02 U8, R159. -/
abbrev PLAUS_TIDES : Nat := 0x313002
/-- 0x3130:03 U8, R159. -/
abbrev PLAUS_REACTION : Nat := 0x313003
/-- 0x3130:04 U16, R159. -/
abbrev STUCK_TIDES : Nat := 0x313004
/-- 0x3130:05 U16, R159. -/
abbrev PLAUS_FLAGS : Nat := 0x313005
/-- 0x3130:06 U8, R159. -/
abbrev PLAUS_CLEAR : Nat := 0x313006
/-- 0x3130:07 U64, R159. -/
abbrev SENSOR_FLAGS : Nat := 0x313007
/-- 0x3130:08 U32, R159. -/
abbrev PLAUS_SKIPS : Nat := 0x313008
/-- 0x3130:09 U8, R159. -/
abbrev SUM_CHECK_FLAGS : Nat := 0x313009
/-- 0x3131:01–0C I32, R159. -/
abbrev PLAUS_RESIDUAL (k : Nat) : Nat := 0x313101 + k
/-- 0x3140+u:00 U8, R159. -/
abbrev PROG_HIGHEST (i : Nat) : Nat := 0x314000 + i * 0x100
/-- 0x3140+u:01 BOOL, R159. -/
abbrev PROG_ENABLE (i : Nat) : Nat := 0x314001 + i * 0x100
/-- 0x3140+u:02 DOMAIN, R159. -/
abbrev PROG_IMAGE (i : Nat) : Nat := 0x314002 + i * 0x100
/-- 0x3140+u:03 DOMAIN, R159. -/
abbrev PROG_BIND (i : Nat) : Nat := 0x314003 + i * 0x100
/-- 0x3140+u:04 U32, R159. -/
abbrev PROG_WCET (i : Nat) : Nat := 0x314004 + i * 0x100
/-- 0x3140+u:05 U64, R159. -/
abbrev PROG_RUNS (i : Nat) : Nat := 0x314005 + i * 0x100
/-- 0x3140+u:06 U32, R159. -/
abbrev PROG_MISSES (i : Nat) : Nat := 0x314006 + i * 0x100
/-- 0x3140+u:07 U32, R159. -/
abbrev PROG_NUMERIC (i : Nat) : Nat := 0x314007 + i * 0x100
/-- 0x3140+u:08 U8, R159. -/
abbrev PROG_ENGINE_NOW (i : Nat) : Nat := 0x314008 + i * 0x100
/-- 0x3140+u:09 U8, R159. -/
abbrev PROG_STATE (i : Nat) : Nat := 0x314009 + i * 0x100
/-- 0x3150+u:01–40 F32, R159. -/
abbrev LOOP_PARAM (i : Nat) (k : Nat) : Nat := 0x315001 + i * 0x100 + k
/-- 0x3160:00 U8, R159. -/
abbrev TRACE_HIGHEST : Nat := 0x316000
/-- 0x3160:01 U8, R159. -/
abbrev TRACE_CONTROL : Nat := 0x316001
/-- 0x3160:02 U8, R159. -/
abbrev TRACE_STATE : Nat := 0x316002
/-- 0x3160:03 U8, R159. -/
abbrev TRACE_TRIGGER_KIND : Nat := 0x316003
/-- 0x3160:04 U8, R159. -/
abbrev TRACE_TRIGGER_CHANNEL : Nat := 0x316004
/-- 0x3160:05 F32, R159. -/
abbrev TRACE_TRIGGER_LEVEL : Nat := 0x316005
/-- 0x3160:06 U8, R159. -/
abbrev TRACE_PRETRIGGER : Nat := 0x316006
/-- 0x3160:07 U64, R159. -/
abbrev TRACE_TRIGGER_TIDE : Nat := 0x316007
/-- 0x3160:08 U32, R159. -/
abbrev TRACE_DEPTH : Nat := 0x316008
/-- 0x3160:09 DOMAIN, R159. -/
abbrev TRACE_DATA : Nat := 0x316009
/-- 0x3161:01–40 U32, R159. -/
abbrev TRACE_SOURCE (k : Nat) : Nat := 0x316101 + k
/-- 0x3162:01–40 U16, R159. -/
abbrev TRACE_DECIMATION (k : Nat) : Nat := 0x316201 + k
/-- 0x3010:00 U8, R199. -/
abbrev COAST_HIGHEST : Nat := 0x301000
/-- 0x3010:01 U16, R199. -/
abbrev COAST_LIMIT : Nat := 0x301001
/-- 0x3010:02 U16, R199. -/
abbrev COAST_ENERGY_BAND : Nat := 0x301002
/-- 0x3010:03 U16, R199. -/
abbrev RAMP_DOWN_TIME : Nat := 0x301003
/-- 0x3010:04 U16, R199. -/
abbrev RAMP_DOWN_GRACE : Nat := 0x301004
/-- 0x3010:05 U16, R199. -/
abbrev COAST_REARM : Nat := 0x301005
/-- 0x3011:00 U8, R199. -/
abbrev GRID_CMD_HIGHEST : Nat := 0x301100
/-- 0x3011:01 U8, R199. -/
abbrev CORE_RESTART : Nat := 0x301101
/-- 0x3011:02 U8, R199. -/
abbrev RAMP_DOWN_REQUEST : Nat := 0x301102
/-- 0x3012:00 U8, R199. -/
abbrev GRID_STATUS_HIGHEST : Nat := 0x301200
/-- 0x3012:01 U8, R199. -/
abbrev TRG_STATE : Nat := 0x301201
/-- 0x3012:02 U32, R199. -/
abbrev COASTS : Nat := 0x301202
/-- 0x3012:03 U16, R199. -/
abbrev COAST_LAST : Nat := 0x301203
/-- 0x3012:04 U16, R199. -/
abbrev ARM_HEADROOM : Nat := 0x301204
/-- 0x3012:05 U32, R199. -/
abbrev COAST_OVERRUNS : Nat := 0x301205
/-- 0x3012:06 U32, R199. -/
abbrev RAMP_DOWNS : Nat := 0x301206
/-- 0x3012:07 U8, R199. -/
abbrev RAMP_DOWN_CAUSE : Nat := 0x301207
/-- 0x3020:00 U8, R200. -/
abbrev MEAS_HIGHEST (i : Nat) : Nat := 0x302000 + i * 0x4000
/-- 0x3020:01 U8, R200. -/
abbrev VOLTAGE_SOURCE (i : Nat) : Nat := 0x302001 + i * 0x4000
/-- 0x3020:02 U8, R200. -/
abbrev VOLTAGE_SOURCE_ALT (i : Nat) : Nat := 0x302002 + i * 0x4000
/-- 0x3020:03 U8, R200. -/
abbrev SV_STREAM (i : Nat) : Nat := 0x302003 + i * 0x4000
/-- 0x3020:04 U32, R200. -/
abbrev SV_DELAY (i : Nat) : Nat := 0x302004 + i * 0x4000
/-- 0x3020:05 U8, R200. -/
abbrev METER_VOLTAGE_BASE (i : Nat) : Nat := 0x302005 + i * 0x4000
/-- 0x3020:06 U16, R200. -/
abbrev SOURCE_LOSS_TIME (i : Nat) : Nat := 0x302006 + i * 0x4000
/-- 0x3020:07 U32, R200. -/
abbrev SOURCE_DELAY (i : Nat) : Nat := 0x302007 + i * 0x4000
/-- 0x3020:08 U8, R200. -/
abbrev SOURCE_IN_USE (i : Nat) : Nat := 0x302008 + i * 0x4000
/-- 0x3021:00 U8, R200. -/
abbrev SYNC_HIGHEST (i : Nat) : Nat := 0x302100 + i * 0x4000
/-- 0x3021:01 F32, R200. -/
abbrev PLL_BANDWIDTH (i : Nat) : Nat := 0x302101 + i * 0x4000
/-- 0x3021:02 F32, R200. -/
abbrev PLL_DAMPING (i : Nat) : Nat := 0x302102 + i * 0x4000
/-- 0x3021:03 F32, R200. -/
abbrev DSOGI_GAIN (i : Nat) : Nat := 0x302103 + i * 0x4000
/-- 0x3021:04 F32, R200. -/
abbrev F_MIN (i : Nat) : Nat := 0x302104 + i * 0x4000
/-- 0x3021:05 F32, R200. -/
abbrev F_MAX (i : Nat) : Nat := 0x302105 + i * 0x4000
/-- 0x3021:06 U16, R200. -/
abbrev ROCOF_WINDOW (i : Nat) : Nat := 0x302106 + i * 0x4000
/-- 0x3021:07 F32, R200. -/
abbrev SCR_DEFAULT (i : Nat) : Nat := 0x302107 + i * 0x4000
/-- 0x3022:00 U8, R200. -/
abbrev GRID_HIGHEST (i : Nat) : Nat := 0x302200 + i * 0x4000
/-- 0x3022:01 ANG32, R200. -/
abbrev GRID_THETA (i : Nat) : Nat := 0x302201 + i * 0x4000
/-- 0x3022:02 PU24, R200. -/
abbrev GRID_FREQUENCY (i : Nat) : Nat := 0x302202 + i * 0x4000
/-- 0x3022:03 I32, R200. -/
abbrev GRID_ROCOF (i : Nat) : Nat := 0x302203 + i * 0x4000
/-- 0x3022:04 PU24, R200. -/
abbrev V_POS (i : Nat) : Nat := 0x302204 + i * 0x4000
/-- 0x3022:05 PU24, R200. -/
abbrev V_NEG (i : Nat) : Nat := 0x302205 + i * 0x4000
/-- 0x3022:06 PU24, R200. -/
abbrev P_MEAS (i : Nat) : Nat := 0x302206 + i * 0x4000
/-- 0x3022:07 PU24, R200. -/
abbrev Q_MEAS (i : Nat) : Nat := 0x302207 + i * 0x4000
/-- 0x3022:08 PU24, R200. -/
abbrev SCR_EST (i : Nat) : Nat := 0x302208 + i * 0x4000
/-- 0x3022:09 I32, R200. -/
abbrev GRID_AGE (i : Nat) : Nat := 0x302209 + i * 0x4000
/-- 0x3022:0A U16, R200. -/
abbrev SYNC_FLAGS (i : Nat) : Nat := 0x30220A + i * 0x4000
/-- 0x3022:0B U8, R200. -/
abbrev SECTOR_NOW (i : Nat) : Nat := 0x30220B + i * 0x4000
/-- 0x3022:0C U64, R200. -/
abbrev SECTOR_TRANSITIONS (i : Nat) : Nat := 0x30220C + i * 0x4000
/-- 0x3023:00 U8, R200. -/
abbrev DISPATCH_HIGHEST (i : Nat) : Nat := 0x302300 + i * 0x4000
/-- 0x3023:01 U8, R200. -/
abbrev GRID_MODE (i : Nat) : Nat := 0x302301 + i * 0x4000
/-- 0x3023:02 PU24, R200. -/
abbrev P_SETPOINT (i : Nat) : Nat := 0x302302 + i * 0x4000
/-- 0x3023:03 PU24, R200. -/
abbrev Q_SETPOINT (i : Nat) : Nat := 0x302303 + i * 0x4000
/-- 0x3023:04 U8, R200. -/
abbrev Q_MODE (i : Nat) : Nat := 0x302304 + i * 0x4000
/-- 0x3023:05 PU24, R200. -/
abbrev V_SETPOINT (i : Nat) : Nat := 0x302305 + i * 0x4000
/-- 0x3023:06 PU24, R200. -/
abbrev Q_DROOP (i : Nat) : Nat := 0x302306 + i * 0x4000
/-- 0x3023:07 PU24, R200. -/
abbrev PF_SETPOINT (i : Nat) : Nat := 0x302307 + i * 0x4000
/-- 0x3023:08 PU24, R200. -/
abbrev P_RAMP_RATE (i : Nat) : Nat := 0x302308 + i * 0x4000
/-- 0x3023:09 PU24, R200. -/
abbrev P_BAT_SETPOINT (i : Nat) : Nat := 0x302309 + i * 0x4000
/-- 0x3023:0A PU24, R200. -/
abbrev F_DROOP (i : Nat) : Nat := 0x30230A + i * 0x4000
/-- 0x3023:0B PU24, R200. -/
abbrev F_DEADBAND (i : Nat) : Nat := 0x30230B + i * 0x4000
/-- 0x3023:0C PU24, R200. -/
abbrev I_MAX (i : Nat) : Nat := 0x30230C + i * 0x4000
/-- 0x3023:0D PU24, R200. -/
abbrev EBB_P_MAX (i : Nat) : Nat := 0x30230D + i * 0x4000
/-- 0x3023:0E PU24, R200. -/
abbrev FLOOD_P_MAX (i : Nat) : Nat := 0x30230E + i * 0x4000
/-- 0x3024:00 U8, R200. -/
abbrev VDC_HIGHEST (i : Nat) : Nat := 0x302400 + i * 0x4000
/-- 0x3024:01 PU24, R200. -/
abbrev VDC_REF (i : Nat) : Nat := 0x302401 + i * 0x4000
/-- 0x3024:02 F32, R200. -/
abbrev KP_VDC (i : Nat) : Nat := 0x302402 + i * 0x4000
/-- 0x3024:03 F32, R200. -/
abbrev KI_VDC (i : Nat) : Nat := 0x302403 + i * 0x4000
/-- 0x3025:00 U8, R200. -/
abbrev FORMING_HIGHEST (i : Nat) : Nat := 0x302500 + i * 0x4000
/-- 0x3025:01 F32, R200. -/
abbrev INERTIA_H (i : Nat) : Nat := 0x302501 + i * 0x4000
/-- 0x3025:02 F32, R200. -/
abbrev DAMPING_D (i : Nat) : Nat := 0x302502 + i * 0x4000
/-- 0x3025:03 F32, R200. -/
abbrev VIRTUAL_R (i : Nat) : Nat := 0x302503 + i * 0x4000
/-- 0x3025:04 F32, R200. -/
abbrev VIRTUAL_X (i : Nat) : Nat := 0x302504 + i * 0x4000
/-- 0x3025:05 F32, R200. -/
abbrev E_DROOP (i : Nat) : Nat := 0x302505 + i * 0x4000
/-- 0x3025:06 F32, R200. -/
abbrev LIMIT_SYNC_GAIN (i : Nat) : Nat := 0x302506 + i * 0x4000
/-- 0x3025:07 BOOL, R200. -/
abbrev FORMING_LIMITED (i : Nat) : Nat := 0x302507 + i * 0x4000
/-- 0x3026:00 U8, R200. -/
abbrev RT_HIGHEST (i : Nat) : Nat := 0x302600 + i * 0x4000
/-- 0x3026:01 PU24, R200. -/
abbrev LVRT_ENTRY (i : Nat) : Nat := 0x302601 + i * 0x4000
/-- 0x3026:02 PU24, R200. -/
abbrev HVRT_ENTRY (i : Nat) : Nat := 0x302602 + i * 0x4000
/-- 0x3026:03 PU24, R200. -/
abbrev NEG_ENTRY (i : Nat) : Nat := 0x302603 + i * 0x4000
/-- 0x3026:04 U16, R200. -/
abbrev RT_CONFIRM (i : Nat) : Nat := 0x302604 + i * 0x4000
/-- 0x3026:05 U16, R200. -/
abbrev RT_EXIT_HOLD (i : Nat) : Nat := 0x302605 + i * 0x4000
/-- 0x3026:06 F32, R200. -/
abbrev K_POS (i : Nat) : Nat := 0x302606 + i * 0x4000
/-- 0x3026:07 F32, R200. -/
abbrev K_NEG (i : Nat) : Nat := 0x302607 + i * 0x4000
/-- 0x3026:08 F32, R200. -/
abbrev P_RECOVERY_RATE (i : Nat) : Nat := 0x302608 + i * 0x4000
/-- 0x3026:09 U8, R200. -/
abbrev LVRT_POINTS (i : Nat) : Nat := 0x302609 + i * 0x4000
/-- 0x3026:0A U8, R200. -/
abbrev HVRT_POINTS (i : Nat) : Nat := 0x30260A + i * 0x4000
/-- 0x3026:0B U32, R200. -/
abbrev RT_ENTRIES (i : Nat) : Nat := 0x30260B + i * 0x4000
/-- 0x3026:0C U32, R200. -/
abbrev RT_BEYOND (i : Nat) : Nat := 0x30260C + i * 0x4000
/-- 0x3027:01–08 U32, R200. -/
abbrev LVRT_TIME (i : Nat) (k : Nat) : Nat := 0x302701 + i * 0x4000 + k
/-- 0x3027:09–10 PU24, R200. -/
abbrev LVRT_VOLTAGE (i : Nat) (k : Nat) : Nat := 0x302709 + i * 0x4000 + k
/-- 0x3028:01–08 U32, R200. -/
abbrev HVRT_TIME (i : Nat) (k : Nat) : Nat := 0x302801 + i * 0x4000 + k
/-- 0x3028:09–10 PU24, R200. -/
abbrev HVRT_VOLTAGE (i : Nat) (k : Nat) : Nat := 0x302809 + i * 0x4000 + k
/-- 0x3029:00 U8, R200. -/
abbrev DPC_HIGHEST (i : Nat) : Nat := 0x302900 + i * 0x4000
/-- 0x3029:01 BOOL, R200. -/
abbrev DPC_ENABLE (i : Nat) : Nat := 0x302901 + i * 0x4000
/-- 0x3029:02 PU24, R200. -/
abbrev DPC_ENTRY_V (i : Nat) : Nat := 0x302902 + i * 0x4000
/-- 0x3029:03 ANG32, R200. -/
abbrev DPC_ANGLE_JUMP (i : Nat) : Nat := 0x302903 + i * 0x4000
/-- 0x3029:04 PU24, R200. -/
abbrev DPC_ENTRY_ERR (i : Nat) : Nat := 0x302904 + i * 0x4000
/-- 0x3029:05 U16, R200. -/
abbrev DPC_EXIT_HOLD (i : Nat) : Nat := 0x302905 + i * 0x4000
/-- 0x3029:06 PU24, R200. -/
abbrev DPC_BAND_P (i : Nat) : Nat := 0x302906 + i * 0x4000
/-- 0x3029:07 PU24, R200. -/
abbrev DPC_BAND_Q (i : Nat) : Nat := 0x302907 + i * 0x4000
/-- 0x3029:08 PU24, R200. -/
abbrev DPC_STEP (i : Nat) : Nat := 0x302908 + i * 0x4000
/-- 0x3029:09 BOOL, R200. -/
abbrev DPC_ACTIVE (i : Nat) : Nat := 0x302909 + i * 0x4000
/-- 0x3029:0A U32, R200. -/
abbrev DPC_ENTRIES (i : Nat) : Nat := 0x30290A + i * 0x4000
/-- 0x302A:00 U8, R200. -/
abbrev ISLAND_HIGHEST (i : Nat) : Nat := 0x302A00 + i * 0x4000
/-- 0x302A:01 U8, R200. -/
abbrev ISLAND_ENABLE (i : Nat) : Nat := 0x302A01 + i * 0x4000
/-- 0x302A:02 PU24, R200. -/
abbrev ISL_F_LOW (i : Nat) : Nat := 0x302A02 + i * 0x4000
/-- 0x302A:03 PU24, R200. -/
abbrev ISL_F_HIGH (i : Nat) : Nat := 0x302A03 + i * 0x4000
/-- 0x302A:04 U16, R200. -/
abbrev ISL_F_HOLD (i : Nat) : Nat := 0x302A04 + i * 0x4000
/-- 0x302A:05 I32, R200. -/
abbrev ISL_ROCOF (i : Nat) : Nat := 0x302A05 + i * 0x4000
/-- 0x302A:06 U16, R200. -/
abbrev ISL_ROCOF_HOLD (i : Nat) : Nat := 0x302A06 + i * 0x4000
/-- 0x302A:07 ANG32, R200. -/
abbrev ISL_SHIFT (i : Nat) : Nat := 0x302A07 + i * 0x4000
/-- 0x302A:08 PU24, R200. -/
abbrev PROBE_CURRENT (i : Nat) : Nat := 0x302A08 + i * 0x4000
/-- 0x302A:09 U16, R200. -/
abbrev PROBE_PERIOD (i : Nat) : Nat := 0x302A09 + i * 0x4000
/-- 0x302A:0A U16, R200. -/
abbrev PROBE_BURST (i : Nat) : Nat := 0x302A0A + i * 0x4000
/-- 0x302A:0B PU24, R200. -/
abbrev PROBE_Z_LIMIT (i : Nat) : Nat := 0x302A0B + i * 0x4000
/-- 0x302A:0C U16, R200. -/
abbrev STALL_TIME (i : Nat) : Nat := 0x302A0C + i * 0x4000
/-- 0x302A:0D PU24, R200. -/
abbrev STALL_V_MIN (i : Nat) : Nat := 0x302A0D + i * 0x4000
/-- 0x302A:0E U8, R200. -/
abbrev ISLAND_REACTION (i : Nat) : Nat := 0x302A0E + i * 0x4000
/-- 0x302A:0F U8, R200. -/
abbrev ISLAND_FLAGS (i : Nat) : Nat := 0x302A0F + i * 0x4000
/-- 0x302A:10 U32, R200. -/
abbrev ISLAND_DETECTIONS (i : Nat) : Nat := 0x302A10 + i * 0x4000
/-- 0x302A:11 PU24, R200. -/
abbrev PROBE_Z (i : Nat) : Nat := 0x302A11 + i * 0x4000
/-- 0x302A:12 U8, R200. -/
abbrev ISLAND_CLEAR (i : Nat) : Nat := 0x302A12 + i * 0x4000
/-- 0x302B:00 U8, R200. -/
abbrev REVERSAL_HIGHEST (i : Nat) : Nat := 0x302B00 + i * 0x4000
/-- 0x302B:01 U8, R200. -/
abbrev REVERSAL_PERMIT (i : Nat) : Nat := 0x302B01 + i * 0x4000
/-- 0x302B:02 U16, R200. -/
abbrev REVERSAL_DWELL (i : Nat) : Nat := 0x302B02 + i * 0x4000
/-- 0x302B:03 U16, R200. -/
abbrev REVERSAL_INTERVAL (i : Nat) : Nat := 0x302B03 + i * 0x4000
/-- 0x302B:04 PU24, R200. -/
abbrev REVERSAL_ZERO_BAND (i : Nat) : Nat := 0x302B04 + i * 0x4000
/-- 0x302B:05 PU24, R200. -/
abbrev REVERSAL_RAMP (i : Nat) : Nat := 0x302B05 + i * 0x4000
/-- 0x302B:06 U8, R200. -/
abbrev DIRECTION (i : Nat) : Nat := 0x302B06 + i * 0x4000
/-- 0x302B:07 U8, R200. -/
abbrev REVERSAL_STATE (i : Nat) : Nat := 0x302B07 + i * 0x4000
/-- 0x302B:08 U8, R200. -/
abbrev REVERSAL_HOLD_REASON (i : Nat) : Nat := 0x302B08 + i * 0x4000
/-- 0x302B:09 U32, R200. -/
abbrev REVERSALS (i : Nat) : Nat := 0x302B09 + i * 0x4000
/-- 0x3200:00 U8, R221. -/
abbrev MPPT_HIGHEST : Nat := 0x320000
/-- 0x3200:01 U16, R221. -/
abbrev MPPT_PERIOD : Nat := 0x320001
/-- 0x3200:02 U16, R221. -/
abbrev MPPT_WINDOW : Nat := 0x320002
/-- 0x3200:03 U16, R221. -/
abbrev STEP_INIT : Nat := 0x320003
/-- 0x3200:04 U16, R221. -/
abbrev STEP_MIN : Nat := 0x320004
/-- 0x3200:05 U16, R221. -/
abbrev STEP_MAX : Nat := 0x320005
/-- 0x3200:06 U16, R221. -/
abbrev DP_BAND : Nat := 0x320006
/-- 0x3200:07 U16, R221. -/
abbrev V_START : Nat := 0x320007
/-- 0x3200:08 U16, R221. -/
abbrev V_LOW : Nat := 0x320008
/-- 0x3200:09 U16, R221. -/
abbrev V_HIGH : Nat := 0x320009
/-- 0x3200:0A U16, R221. -/
abbrev VOC_TIME : Nat := 0x32000A
/-- 0x3200:0B U16, R221. -/
abbrev PV_VOC_MIN : Nat := 0x32000B
/-- 0x3200:0C U16, R221. -/
abbrev SCAN_INTERVAL : Nat := 0x32000C
/-- 0x3200:0D U16, R221. -/
abbrev SCAN_LOW : Nat := 0x32000D
/-- 0x3200:0E U16, R221. -/
abbrev SCAN_HIGH : Nat := 0x32000E
/-- 0x3200:0F U8, R221. -/
abbrev SCAN_POINTS : Nat := 0x32000F
/-- 0x3200:10 U16, R221. -/
abbrev SCAN_DWELL : Nat := 0x320010
/-- 0x3200:11 U16, R221. -/
abbrev SCAN_GAIN_MIN : Nat := 0x320011
/-- 0x3200:12 U8, R221. -/
abbrev SCAN_CONCURRENT : Nat := 0x320012
/-- 0x3200:13 U16, R221. -/
abbrev CURTAIL_PERIOD : Nat := 0x320013
/-- 0x3200:14 U16, R221. -/
abbrev CURTAIL_BAND : Nat := 0x320014
/-- 0x3200:15 U8, R221. -/
abbrev SENTINELS : Nat := 0x320015
/-- 0x3200:16 U16, R221. -/
abbrev SENTINEL_ROTATE : Nat := 0x320016
/-- 0x3200:17 PU24, R221. -/
abbrev SOLAR_P_LIMIT_C0 : Nat := 0x320017
/-- 0x3200:18 PU24, R221. -/
abbrev SOLAR_P_LIMIT_C1 : Nat := 0x320018
/-- 0x3200:19 U8, R221. -/
abbrev SCAN_ABORT : Nat := 0x320019
/-- 0x3201:00 U8, R221. -/
abbrev MPPT_COUNT_HIGHEST : Nat := 0x320100
/-- 0x3201:01 U64, R221. -/
abbrev MPPT_STEPS : Nat := 0x320101
/-- 0x3201:02 U32, R221. -/
abbrev MPPT_HOLDS : Nat := 0x320102
/-- 0x3201:03 U32, R221. -/
abbrev SCANS : Nat := 0x320103
/-- 0x3201:04 U32, R221. -/
abbrev SCAN_MOVES : Nat := 0x320104
/-- 0x3201:05 U32, R221. -/
abbrev SCANS_ABANDONED : Nat := 0x320105
/-- 0x3201:06 U32, R221. -/
abbrev SCANS_DELAYED : Nat := 0x320106
/-- 0x3210+a:00 U8, R222. -/
abbrev SOLAR_ARM_HIGHEST (i : Nat) : Nat := 0x321000 + i * 0x100
/-- 0x3210+a:01 I32, R222. -/
abbrev SOLAR_AVAILABLE (i : Nat) : Nat := 0x321001 + i * 0x100
/-- 0x3210+a:02 I32, R222. -/
abbrev SOLAR_TARGET (i : Nat) : Nat := 0x321002 + i * 0x100
/-- 0x3210+a:03 I32, R222. -/
abbrev SOLAR_DELIVERED (i : Nat) : Nat := 0x321003 + i * 0x100
/-- 0x3210+a:04 BOOL, R222. -/
abbrev SOLAR_CURTAILED (i : Nat) : Nat := 0x321004 + i * 0x100
/-- 0x3210+a:05 U16, R222. -/
abbrev SOLAR_RHO (i : Nat) : Nat := 0x321005 + i * 0x100
/-- 0x3210+a:06 U16, R222. -/
abbrev SOLAR_DARK (i : Nat) : Nat := 0x321006 + i * 0x100
/-- 0x3210+a:07 U8, R222. -/
abbrev SOLAR_SCANNING (i : Nat) : Nat := 0x321007 + i * 0x100
/-- 0x4000+L:30 U8, R223. -/
abbrev MPPT_STATE (i : Nat) : Nat := 0x400030 + i * 0x100
/-- 0x4000+L:31 U16, R223. -/
abbrev PV_V_REF (i : Nat) : Nat := 0x400031 + i * 0x100
/-- 0x4000+L:32 U16, R223. -/
abbrev PV_VOC (i : Nat) : Nat := 0x400032 + i * 0x100
/-- 0x4000+L:33 U16, R223. -/
abbrev PV_V_MPP (i : Nat) : Nat := 0x400033 + i * 0x100
/-- 0x4000+L:34 U32, R223. -/
abbrev PV_P_MPP (i : Nat) : Nat := 0x400034 + i * 0x100
/-- 0x4000+L:35 U32, R223. -/
abbrev PV_P_WINDOW (i : Nat) : Nat := 0x400035 + i * 0x100
/-- 0x4000+L:36 U16, R223. -/
abbrev PV_STEP (i : Nat) : Nat := 0x400036 + i * 0x100
/-- 0x4000+L:37 U64, R223. -/
abbrev LAST_SCAN (i : Nat) : Nat := 0x400037 + i * 0x100
/-- 0x4000+L:38 I16, R223. -/
abbrev SCAN_GAIN (i : Nat) : Nat := 0x400038 + i * 0x100
/-- 0x2240+s:00 U8, R243. -/
abbrev PSRC_HIGHEST (i : Nat) : Nat := 0x224000 + i * 0x100
/-- 0x2240+s:01 U8, R243. -/
abbrev PSRC_WEIGHT (i : Nat) : Nat := 0x224001 + i * 0x100
/-- 0x2240+s:02 U16, R243. -/
abbrev PSRC_THRESHOLD (i : Nat) : Nat := 0x224002 + i * 0x100
/-- 0x2240+s:03 U16, R243. -/
abbrev PSRC_WINDOW (i : Nat) : Nat := 0x224003 + i * 0x100
/-- 0x2240+s:04 U8, R243. -/
abbrev PSRC_REACTION (i : Nat) : Nat := 0x224004 + i * 0x100
/-- 0x2240+s:05 U32, R243. -/
abbrev PSRC_UPSETS (i : Nat) : Nat := 0x224005 + i * 0x100
/-- 0x2240+s:06 U32, R243. -/
abbrev PSRC_LASTING (i : Nat) : Nat := 0x224006 + i * 0x100
/-- 0x2245:00 U8, R244. -/
abbrev PROT_HIGHEST : Nat := 0x224500
/-- 0x2245:01 BOOL, R244. -/
abbrev SC_AUTO_CLEAR : Nat := 0x224501
/-- 0x2245:02 U16, R244. -/
abbrev SC_CLEAR_DELAY : Nat := 0x224502
/-- 0x2245:03 U16, R244. -/
abbrev BYPASS_ACK_TIMEOUT : Nat := 0x224503
/-- 0x2245:04 U8, R244. -/
abbrev RETIRE_PENNINGS : Nat := 0x224504
/-- 0x2245:05 U16, R244. -/
abbrev TEST_V_MIN : Nat := 0x224505
/-- 0x2245:06 U16, R244. -/
abbrev TEST_TIMEOUT : Nat := 0x224506
/-- 0x2245:07 U8, R244. -/
abbrev TEST_CONCURRENT : Nat := 0x224507
/-- 0x4000+L:40 DOMAIN, R245. -/
abbrev PROT_COMMAND (i : Nat) : Nat := 0x400040 + i * 0x100
/-- 0x4000+L:41 U8, R245. -/
abbrev PROT_FLAGS (i : Nat) : Nat := 0x400041 + i * 0x100
/-- 0x4000+L:42 U8, R245. -/
abbrev PEN_CAUSE (i : Nat) : Nat := 0x400042 + i * 0x100
/-- 0x4000+L:43 U16, R245. -/
abbrev PENNINGS (i : Nat) : Nat := 0x400043 + i * 0x100
/-- 0x4000+L:44 U16, R245. -/
abbrev SC_EVENTS (i : Nat) : Nat := 0x400044 + i * 0x100
/-- 0x4000+L:45 U16, R245. -/
abbrev SC_RAMP_EVENTS (i : Nat) : Nat := 0x400045 + i * 0x100
/-- 0x4000+L:46–4B U16, R245. -/
abbrev UV_EVENTS (i : Nat) (k : Nat) : Nat := 0x400046 + i * 0x100 + k
/-- 0x4000+L:4C U16, R245. -/
abbrev UV_EVENTS_UNKNOWN (i : Nat) : Nat := 0x40004C + i * 0x100
/-- 0x4000+L:4D U16, R245. -/
abbrev OT_EVENTS (i : Nat) : Nat := 0x40004D + i * 0x100
/-- 0x4000+L:4E U8, R245. -/
abbrev TEST_STATUS (i : Nat) : Nat := 0x40004E + i * 0x100
/-- 0x4000+L:4F DOMAIN, R245. -/
abbrev TEST_RESULT (i : Nat) : Nat := 0x40004F + i * 0x100
/-- 0x4000+L:50 DOMAIN, R245. -/
abbrev PSRC_COUNT (i : Nat) : Nat := 0x400050 + i * 0x100
/-- 0x2200+s:00 U8, R277. -/
abbrev FSRC_HIGHEST (i : Nat) : Nat := 0x220000 + i * 0x100
/-- 0x2200+s:01 U8, R277. -/
abbrev FSRC_WEIGHT (i : Nat) : Nat := 0x220001 + i * 0x100
/-- 0x2200+s:02 U16, R277. -/
abbrev FSRC_THRESHOLD (i : Nat) : Nat := 0x220002 + i * 0x100
/-- 0x2200+s:03 U16, R277. -/
abbrev FSRC_WINDOW (i : Nat) : Nat := 0x220003 + i * 0x100
/-- 0x2200+s:04 U8, R277. -/
abbrev FSRC_REACTION (i : Nat) : Nat := 0x220004 + i * 0x100
/-- 0x2200+s:05 U32, R277. -/
abbrev FSRC_UPSETS (i : Nat) : Nat := 0x220005 + i * 0x100
/-- 0x2200+s:06 U32, R277. -/
abbrev FSRC_LASTING (i : Nat) : Nat := 0x220006 + i * 0x100
/-- 0x2200+s:07 DOMAIN, R277. -/
abbrev FSRC_COUNTS (i : Nat) : Nat := 0x220007 + i * 0x100
/-- 0x2220:00 U8, R278. -/
abbrev RECOVERY_HIGHEST : Nat := 0x222000
/-- 0x2220:01 U16, R278. -/
abbrev RETX_TIMEOUT : Nat := 0x222001
/-- 0x2220:02 U16, R278. -/
abbrev STRAY_PEN_TIME : Nat := 0x222002
/-- 0x2220:03 BOOL, R278. -/
abbrev REJOIN_AUTO : Nat := 0x222003
/-- 0x2220:04 U16, R278. -/
abbrev REJOIN_HOLD : Nat := 0x222004
/-- 0x2220:05 U8, R278. -/
abbrev REJOIN_TRIES : Nat := 0x222005
/-- 0x2220:06 U16, R278. -/
abbrev READMIT_TIMEOUT : Nat := 0x222006
/-- 0x2220:07 U8, R278. -/
abbrev REJOIN_REQUEST : Nat := 0x222007
/-- 0x2220:08 U64, R278. -/
abbrev RETRANSMISSIONS : Nat := 0x222008
/-- 0x2220:09 U32, R278. -/
abbrev UP_DUPLICATES : Nat := 0x222009
/-- 0x2220:0A U32, R278. -/
abbrev UP_DISCARDED : Nat := 0x22200A
/-- 0x2220:0B U32, R278. -/
abbrev ACK_INVALID : Nat := 0x22200B
/-- 0x2220:0C U32, R278. -/
abbrev EPOCH_MISMATCH : Nat := 0x22200C
/-- 0x2220:0D U32, R278. -/
abbrev EPOCHS_OPENED : Nat := 0x22200D
/-- 0x2220:0E U32, R278. -/
abbrev PATH_FAULTS : Nat := 0x22200E
/-- 0x2220:0F U32, R278. -/
abbrev REJOINS : Nat := 0x22200F
/-- 0x2220:10 U32, R278. -/
abbrev REJOIN_FAILS : Nat := 0x222010
/-- 0x2220:11 U32, R278. -/
abbrev READMISSIONS : Nat := 0x222011
/-- 0x2222:00 U8, R278. -/
abbrev TURN_PLAN_HIGHEST : Nat := 0x222200
/-- 0x2222:01–80 U32, R278. -/
abbrev TURN_PLAN (k : Nat) : Nat := 0x222201 + k
/-- 0x4000+L:60 U8, R280. -/
abbrev FOLD_EPOCH (i : Nat) : Nat := 0x400060 + i * 0x100
/-- 0x4000+L:61 U8, R280. -/
abbrev LINK_STATE (i : Nat) : Nat := 0x400061 + i * 0x100
/-- 0x4000+L:62 U8, R280. -/
abbrev LEAF_READMIT (i : Nat) : Nat := 0x400062 + i * 0x100
/-- 0x4000+L:63 U8, R280. -/
abbrev READMIT_STATUS (i : Nat) : Nat := 0x400063 + i * 0x100
/-- 0x4000+L:64 U32, R280. -/
abbrev STRAY_EPISODES (i : Nat) : Nat := 0x400064 + i * 0x100
/-- 0x4000+L:65 U32, R280. -/
abbrev LEAF_RETRANSMISSIONS (i : Nat) : Nat := 0x400065 + i * 0x100
/-- 0x4000+L:66 U32, R280. -/
abbrev LEAF_UP_DUPLICATES (i : Nat) : Nat := 0x400066 + i * 0x100
/-- 0x4000+L:67 U8, R280. -/
abbrev LINK_PEN_REASON (i : Nat) : Nat := 0x400067 + i * 0x100
/-- 0x4000+L:68 DOMAIN, R280. -/
abbrev LINK_SRC_COUNT (i : Nat) : Nat := 0x400068 + i * 0x100
/-- 0x1000:00 U8, R313. -/
abbrev IDENTITY_HIGHEST : Nat := 0x100000
/-- 0x1000:01 STR, R313. -/
abbrev VENDOR_NAME : Nat := 0x100001
/-- 0x1000:02 STR, R313. -/
abbrev PRODUCT_NAME : Nat := 0x100002
/-- 0x1000:03 STR, R313. -/
abbrev ORDERING_CODE : Nat := 0x100003
/-- 0x1000:04 U64, R313. -/
abbrev SERIAL_NUMBER : Nat := 0x100004
/-- 0x1000:05 STR, R313. -/
abbrev SILICON_STEP : Nat := 0x100005
/-- 0x1000:06 U32, R313. -/
abbrev FIRMWARE_BUILD : Nat := 0x100006
/-- 0x1000:07 STR, R313. -/
abbrev FIRMWARE_VERSION : Nat := 0x100007
/-- 0x1000:08 U64, R313. -/
abbrev BASE_MAC : Nat := 0x100008
/-- 0x1000:09 U16, R313. -/
abbrev DICTIONARY_VERSION : Nat := 0x100009
/-- 0x1000:0A U8, R313. -/
abbrev PROTOCOL_VERSION : Nat := 0x10000A
/-- 0x110p:00 U8, R314. -/
abbrev PORT_HIGHEST (i : Nat) : Nat := 0x110000 + i * 0x100
/-- 0x110p:01 BOOL, R314. -/
abbrev PORT_ENABLE (i : Nat) : Nat := 0x110001 + i * 0x100
/-- 0x110p:02 U8, R314. -/
abbrev PORT_MODE (i : Nat) : Nat := 0x110002 + i * 0x100
/-- 0x110p:03 U32, R314. -/
abbrev IP_ADDRESS (i : Nat) : Nat := 0x110003 + i * 0x100
/-- 0x110p:04 U32, R314. -/
abbrev IP_MASK (i : Nat) : Nat := 0x110004 + i * 0x100
/-- 0x110p:05 U32, R314. -/
abbrev IP_GATEWAY (i : Nat) : Nat := 0x110005 + i * 0x100
/-- 0x110p:06 U16, R314. -/
abbrev VLAN_ID (i : Nat) : Nat := 0x110006 + i * 0x100
/-- 0x110p:07 U64, R314. -/
abbrev MAC_ADDRESS (i : Nat) : Nat := 0x110007 + i * 0x100
/-- 0x110p:08 U8, R314. -/
abbrev PORT_LINK (i : Nat) : Nat := 0x110008 + i * 0x100
/-- 0x110p:09 U64, R314. -/
abbrev FRAMES_IN (i : Nat) : Nat := 0x110009 + i * 0x100
/-- 0x110p:0A U64, R314. -/
abbrev FRAMES_OUT (i : Nat) : Nat := 0x11000A + i * 0x100
/-- 0x110p:0B U32, R314. -/
abbrev FRAMES_DROPPED (i : Nat) : Nat := 0x11000B + i * 0x100
/-- 0x1104:00 U8, R315. -/
abbrev PROTOCOL_HIGHEST : Nat := 0x110400
/-- 0x1104:01 U16, R315. -/
abbrev OBJECT_UDP_PORT : Nat := 0x110401
/-- 0x1104:02 U16, R315. -/
abbrev SESSION_TIMEOUT : Nat := 0x110402
/-- 0x1104:03 U16, R315. -/
abbrev TRANSFER_TIMEOUT : Nat := 0x110403
/-- 0x1104:04 U16, R315. -/
abbrev NOTIFY_RETRY : Nat := 0x110404
/-- 0x1104:05 U8, R315. -/
abbrev PCP_IMAGE : Nat := 0x110405
/-- 0x1104:06 U8, R315. -/
abbrev PCP_OBJECT : Nat := 0x110406
/-- 0x1104:07 U8, R315. -/
abbrev PCP_NOTIFY : Nat := 0x110407
/-- 0x1106:00 U8, R315. -/
abbrev KEYS_HIGHEST : Nat := 0x110600
/-- 0x1106:01–04 DOMAIN, R315. -/
abbrev ROLE_KEY (k : Nat) : Nat := 0x110601 + k
/-- 0x1106:05 U8, R315. -/
abbrev KEYS_SET : Nat := 0x110605
/-- 0x1107:00 U8, R315. -/
abbrev SESSIONS_HIGHEST : Nat := 0x110700
/-- 0x1107:01 U8, R315. -/
abbrev SESSIONS_OPEN : Nat := 0x110701
/-- 0x1107:02 U8, R315. -/
abbrev SESSION_EVICT : Nat := 0x110702
/-- 0x1107:03 U32, R315. -/
abbrev AUTH_FAILURES : Nat := 0x110703
/-- 0x1107:04 U32, R315. -/
abbrev BAD_TAGS : Nat := 0x110704
/-- 0x1107:05 U32, R315. -/
abbrev SEQ_REJECTS : Nat := 0x110705
/-- 0x1107:06 U32, R315. -/
abbrev ABORTS_SENT : Nat := 0x110706
/-- 0x1108:00 U8, R315. -/
abbrev TOKEN_HIGHEST : Nat := 0x110800
/-- 0x1108:01 U8, R315. -/
abbrev TOKEN_MODE : Nat := 0x110801
/-- 0x1108:02 U8, R315. -/
abbrev TOKEN_HOLDER : Nat := 0x110802
/-- 0x1108:03 U8, R315. -/
abbrev TOKEN_REQUEST : Nat := 0x110803
/-- 0x1108:04 U8, R315. -/
abbrev TOKEN_RELEASE : Nat := 0x110804
/-- 0x1108:05 U16, R315. -/
abbrev TOKEN_TIMEOUT : Nat := 0x110805
/-- 0x1108:06 BOOL, R315. -/
abbrev TOKEN_AUTO_TAKE : Nat := 0x110806
/-- 0x1108:07 U32, R315. -/
abbrev TOKEN_TRANSFERS : Nat := 0x110807
/-- 0x1108:08 U32, R315. -/
abbrev TOKEN_CONFLICTS : Nat := 0x110808
/-- 0x1108:09 U32, R315. -/
abbrev TOKEN_REFUSALS : Nat := 0x110809
/-- 0x111k:00 U8, R316. -/
abbrev SESSION_HIGHEST (i : Nat) : Nat := 0x111000 + i * 0x100
/-- 0x111k:01 U8, R316. -/
abbrev SESSION_STATE (i : Nat) : Nat := 0x111001 + i * 0x100
/-- 0x111k:02 U8, R316. -/
abbrev SESSION_MASTER (i : Nat) : Nat := 0x111002 + i * 0x100
/-- 0x111k:03 U8, R316. -/
abbrev SESSION_ROLE (i : Nat) : Nat := 0x111003 + i * 0x100
/-- 0x111k:04 U8, R316. -/
abbrev SESSION_PORT (i : Nat) : Nat := 0x111004 + i * 0x100
/-- 0x111k:05 U32, R316. -/
abbrev SESSION_ADDRESS (i : Nat) : Nat := 0x111005 + i * 0x100
/-- 0x111k:06 U16, R316. -/
abbrev SESSION_UDP (i : Nat) : Nat := 0x111006 + i * 0x100
/-- 0x111k:07 U8, R316. -/
abbrev NOTIFY_MASK (i : Nat) : Nat := 0x111007 + i * 0x100
/-- 0x111k:08 U64, R316. -/
abbrev SESSION_REQUESTS (i : Nat) : Nat := 0x111008 + i * 0x100
/-- 0x111k:09 U32, R316. -/
abbrev NOTIFY_DROPPED (i : Nat) : Nat := 0x111009 + i * 0x100
/-- 0x1200+m:00 U8, R317. -/
abbrev MAP_HIGHEST (i : Nat) : Nat := 0x120000 + i * 0x100
/-- 0x1200+m:01 DOMAIN, R317. -/
abbrev IMAGE_MAP (i : Nat) : Nat := 0x120001 + i * 0x100
/-- 0x1200+m:02 U16, R317. -/
abbrev IMAGE_SIZE (i : Nat) : Nat := 0x120002 + i * 0x100
/-- 0x1210:00 U8, R317. -/
abbrev IMAGE_HIGHEST : Nat := 0x121000
/-- 0x1210:01 U16, R317. -/
abbrev IMAGE_CYCLE : Nat := 0x121001
/-- 0x1210:02 U32, R317. -/
abbrev IMAGE_PHASE : Nat := 0x121002
/-- 0x1210:03 U8, R317. -/
abbrev IMAGE_MISS_LIMIT : Nat := 0x121003
/-- 0x1210:04 U64, R317. -/
abbrev IMAGE_CYCLE_NOW : Nat := 0x121004
/-- 0x1210:05 U64, R317. -/
abbrev IMAGES_IN_SENT : Nat := 0x121005
/-- 0x1210:06 U64, R317. -/
abbrev IMAGES_OUT_APPLIED : Nat := 0x121006
/-- 0x1210:07 U32, R317. -/
abbrev IMAGE_LATE : Nat := 0x121007
/-- 0x1210:08 U32, R317. -/
abbrev IMAGE_REFUSED : Nat := 0x121008
/-- 0x1210:09 U32, R317. -/
abbrev IMAGE_MISSES : Nat := 0x121009
/-- 0x1220:01–40 F32, R317. -/
abbrev HOST_INPUT (k : Nat) : Nat := 0x122001 + k
/-- 0x1221:01–40 F32, R317. -/
abbrev HOST_VALUE (k : Nat) : Nat := 0x122101 + k
/-- 0x114s:00 U8, R318. -/
abbrev SV_HIGHEST (i : Nat) : Nat := 0x114000 + i * 0x100
/-- 0x114s:01 BOOL, R318. -/
abbrev SV_ENABLE (i : Nat) : Nat := 0x114001 + i * 0x100
/-- 0x114s:02 U64, R318. -/
abbrev SV_DEST_MAC (i : Nat) : Nat := 0x114002 + i * 0x100
/-- 0x114s:03 U16, R318. -/
abbrev SV_APPID (i : Nat) : Nat := 0x114003 + i * 0x100
/-- 0x114s:04 STR, R318. -/
abbrev SV_ID (i : Nat) : Nat := 0x114004 + i * 0x100
/-- 0x114s:05 U32, R318. -/
abbrev SV_CONF_REV (i : Nat) : Nat := 0x114005 + i * 0x100
/-- 0x114s:06 U16, R318. -/
abbrev SV_RATE (i : Nat) : Nat := 0x114006 + i * 0x100
/-- 0x114s:07 U16, R318. -/
abbrev SV_PHASE_MAP (i : Nat) : Nat := 0x114007 + i * 0x100
/-- 0x114s:08 U8, R318. -/
abbrev SV_STATE (i : Nat) : Nat := 0x114008 + i * 0x100
/-- 0x114s:09 U64, R318. -/
abbrev SV_FRAMES (i : Nat) : Nat := 0x114009 + i * 0x100
/-- 0x114s:0A U32, R318. -/
abbrev SV_DISCARDED (i : Nat) : Nat := 0x11400A + i * 0x100
/-- 0x114s:0B U16, R318. -/
abbrev SV_LAST_SMPCNT (i : Nat) : Nat := 0x11400B + i * 0x100
/-- 0x114s:0C U8, R318. -/
abbrev SV_SMPSYNCH (i : Nat) : Nat := 0x11400C + i * 0x100
/-- 0x1001:00 U8, R342. -/
abbrev STATE_HIGHEST : Nat := 0x100100
/-- 0x1001:01 U8, R342. -/
abbrev STATION_STATE : Nat := 0x100101
/-- 0x1001:02 U64, R342. -/
abbrev STATE_TIDE : Nat := 0x100102
/-- 0x1001:03 U8, R342. -/
abbrev PREVIOUS_STATE : Nat := 0x100103
/-- 0x1001:04 U8, R342. -/
abbrev TRANSITION_CAUSE : Nat := 0x100104
/-- 0x1001:05 U8, R342. -/
abbrev HELD_REASON : Nat := 0x100105
/-- 0x1001:06 U8, R342. -/
abbrev STATE_REQUEST : Nat := 0x100106
/-- 0x1001:07 U8, R342. -/
abbrev REQUEST_STATUS : Nat := 0x100107
/-- 0x1001:08 U32, R342. -/
abbrev STATE_TRANSITIONS : Nat := 0x100108
/-- 0x1002:00 U8, R342. -/
abbrev STARTUP_HIGHEST : Nat := 0x100200
/-- 0x1002:01 U16, R342. -/
abbrev CHARGE_TARGET : Nat := 0x100201
/-- 0x1002:02 U16, R342. -/
abbrev CHARGE_SPREAD_MAX : Nat := 0x100202
/-- 0x1002:03 U16, R342. -/
abbrev CHARGE_TIMEOUT : Nat := 0x100203
/-- 0x1002:04 U8, R342. -/
abbrev PRECHARGE_PWM : Nat := 0x100204
/-- 0x1002:05 U8, R342. -/
abbrev PRECHARGE_SENSOR : Nat := 0x100205
/-- 0x1002:06 F32, R342. -/
abbrev PRECHARGE_I_REF : Nat := 0x100206
/-- 0x1002:07 F32, R342. -/
abbrev PRECHARGE_KP : Nat := 0x100207
/-- 0x1002:08 F32, R342. -/
abbrev PRECHARGE_KI : Nat := 0x100208
/-- 0x1002:09 U16, R342. -/
abbrev DISCHARGED_LEVEL : Nat := 0x100209
/-- 0x1400:00 U8, R343. -/
abbrev DRAFT_HIGHEST : Nat := 0x140000
/-- 0x1400:01 DOMAIN, R343. -/
abbrev CONFIG_DRAFT : Nat := 0x140001
/-- 0x1400:02 DOMAIN, R343. -/
abbrev CONFIG_COMMITTED : Nat := 0x140002
/-- 0x1400:03 U32, R343. -/
abbrev DRAFT_GENERATION : Nat := 0x140003
/-- 0x1400:04 U32, R343. -/
abbrev DRAFT_CHECK : Nat := 0x140004
/-- 0x1401:00 U8, R343. -/
abbrev VALIDATE_HIGHEST : Nat := 0x140100
/-- 0x1401:01 U8, R343. -/
abbrev VALIDATE : Nat := 0x140101
/-- 0x1401:02 U8, R343. -/
abbrev VALIDATE_STATUS : Nat := 0x140102
/-- 0x1401:03 U16, R343. -/
abbrev VALIDATE_INDEX : Nat := 0x140103
/-- 0x1401:04 U8, R343. -/
abbrev VALIDATE_SUB : Nat := 0x140104
/-- 0x1401:05 U32, R343. -/
abbrev VALIDATE_DETAIL : Nat := 0x140105
/-- 0x1401:06 U32, R343. -/
abbrev VALIDATED_GENERATION : Nat := 0x140106
/-- 0x1401:07 U32, R343. -/
abbrev VALIDATED_CHECK : Nat := 0x140107
/-- 0x1402:00 U8, R343. -/
abbrev COMMIT_HIGHEST : Nat := 0x140200
/-- 0x1402:01 U32, R343. -/
abbrev CONFIG_COMMIT : Nat := 0x140201
/-- 0x1402:02 U8, R343. -/
abbrev COMMIT_STATUS : Nat := 0x140202
/-- 0x1402:03 U8, R343. -/
abbrev COMMIT_PROGRESS : Nat := 0x140203
/-- 0x1402:04 U32, R343. -/
abbrev COMMITTED_GENERATION : Nat := 0x140204
/-- 0x1402:05 U32, R343. -/
abbrev COMMITTED_CHECK : Nat := 0x140205
/-- 0x1402:06 U8, R343. -/
abbrev ACTIVE_SLOT : Nat := 0x140206
/-- 0x1402:07 U32, R343. -/
abbrev COMMITS : Nat := 0x140207
/-- 0x1402:08 BOOL, R343. -/
abbrev LIVE_DIFFERS : Nat := 0x140208
/-- 0x1403:00 U8, R343. -/
abbrev CONFIG_MISC_HIGHEST : Nat := 0x140300
/-- 0x1403:01 U8, R343. -/
abbrev DRAFT_DISCARD : Nat := 0x140301
/-- 0x1403:02 STIME, R343. -/
abbrev LAST_COMMIT_TIME : Nat := 0x140302
/-- 0x2000:00 U8, R368. -/
abbrev TIME_HIGHEST : Nat := 0x200000
/-- 0x2000:01 STIME, R368. -/
abbrev STATION_TIME : Nat := 0x200001
/-- 0x2000:02 U16, R368. -/
abbrev TIME_QUALITY : Nat := 0x200002
/-- 0x2000:03 U32, R368. -/
abbrev TIME_INCREMENT : Nat := 0x200003
/-- 0x2000:04 STIME, R368. -/
abbrev TIME_SET : Nat := 0x200004
/-- 0x2000:05 U8, R368. -/
abbrev TIME_STEP_PERMIT : Nat := 0x200005
/-- 0x2000:06 U8, R368. -/
abbrev STEP_POLICY : Nat := 0x200006
/-- 0x2000:07 BOOL, R368. -/
abbrev FIRST_STEP_AUTO : Nat := 0x200007
/-- 0x2000:08 U16, R368. -/
abbrev SLEW_MAX : Nat := 0x200008
/-- 0x2000:09 I64, R368. -/
abbrev PENDING_OFFSET : Nat := 0x200009
/-- 0x2000:0A U32, R368. -/
abbrev TIME_STEPS : Nat := 0x20000A
/-- 0x2000:0B I32, R368. -/
abbrev TIME_SLEW_NOW : Nat := 0x20000B
/-- 0x2000:0C I16, R368. -/
abbrev UTC_OFFSET : Nat := 0x20000C
/-- 0x2000:0D U32, R368. -/
abbrev TIME_ALARM_BOUND : Nat := 0x20000D
/-- 0x2001:00 U8, R368. -/
abbrev SERVO_HIGHEST : Nat := 0x200100
/-- 0x2001:01 U8, R368. -/
abbrev CORRECTION_MODE : Nat := 0x200101
/-- 0x2001:02 U8, R368. -/
abbrev SERVO_SOURCE : Nat := 0x200102
/-- 0x2001:03 F32, R368. -/
abbrev SERVO_KP : Nat := 0x200103
/-- 0x2001:04 F32, R368. -/
abbrev SERVO_KI : Nat := 0x200104
/-- 0x2001:05 U8, R368. -/
abbrev ACQUIRE_SAMPLES : Nat := 0x200105
/-- 0x2001:06 U16, R368. -/
abbrev LOCK_THRESHOLD : Nat := 0x200106
/-- 0x2001:07 U16, R368. -/
abbrev PTP_ERROR_BUDGET : Nat := 0x200107
/-- 0x2001:08 I64, R368. -/
abbrev OFFSET_FROM_MASTER : Nat := 0x200108
/-- 0x2001:09 I32, R368. -/
abbrev FREQ_OFFSET : Nat := 0x200109
/-- 0x2001:0A I32, R368. -/
abbrev RATE_ADJUST : Nat := 0x20010A
/-- 0x2002:00 U8, R368. -/
abbrev PTP_HIGHEST : Nat := 0x200200
/-- 0x2002:01 U8, R368. -/
abbrev PTP_PROFILE : Nat := 0x200201
/-- 0x2002:02 U8, R368. -/
abbrev PTP_DOMAIN : Nat := 0x200202
/-- 0x2002:03 U8, R368. -/
abbrev PTP_PORT_ENABLE : Nat := 0x200203
/-- 0x2002:04 BOOL, R368. -/
abbrev PTP_TWO_STEP : Nat := 0x200204
/-- 0x2002:05 I8, R368. -/
abbrev PTP_LOG_DELAY_INTERVAL : Nat := 0x200205
/-- 0x2002:06 U8, R368. -/
abbrev PTP_CLASS_LIMIT : Nat := 0x200206
/-- 0x2002:07 U8, R368. -/
abbrev PTP_ACTIVE_PORT : Nat := 0x200207
/-- 0x2002:08 U64, R368. -/
abbrev PTP_GM_IDENTITY : Nat := 0x200208
/-- 0x2002:09 U8, R368. -/
abbrev PTP_GM_CLASS : Nat := 0x200209
/-- 0x2002:0A U16, R368. -/
abbrev PTP_STEPS_REMOVED : Nat := 0x20020A
/-- 0x2002:0B U32, R368. -/
abbrev TIME_STATE_CHANGES : Nat := 0x20020B
/-- 0x2002:0C U32, R368. -/
abbrev TIME_LOSSES : Nat := 0x20020C
/-- 0x2002:0D U32, R368. -/
abbrev HOLDOVER_TIME : Nat := 0x20020D
/-- 0x2002:0E U64, R368. -/
abbrev CLOCK_IDENTITY : Nat := 0x20020E
/-- 0x2003+p:00 U8, R368. -/
abbrev PTP_PORT_HIGHEST (i : Nat) : Nat := 0x200300 + i * 0x100
/-- 0x2003+p:01 U8, R368. -/
abbrev PTP_PORT_STATE (i : Nat) : Nat := 0x200301 + i * 0x100
/-- 0x2003+p:02 U32, R368. -/
abbrev MEAN_PATH_DELAY (i : Nat) : Nat := 0x200302 + i * 0x100
/-- 0x2003+p:03 I32, R368. -/
abbrev PTP_ASYMMETRY (i : Nat) : Nat := 0x200303 + i * 0x100
/-- 0x2003+p:04 U16, R368. -/
abbrev TS_EGRESS_LATENCY (i : Nat) : Nat := 0x200304 + i * 0x100
/-- 0x2003+p:05 U16, R368. -/
abbrev TS_INGRESS_LATENCY (i : Nat) : Nat := 0x200305 + i * 0x100
/-- 0x2003+p:06 U64, R368. -/
abbrev SYNC_RECEIVED (i : Nat) : Nat := 0x200306 + i * 0x100
/-- 0x2003+p:07 U64, R368. -/
abbrev DELAY_EXCHANGES (i : Nat) : Nat := 0x200307 + i * 0x100
/-- 0x2003+p:08 U8, R368. -/
abbrev TS_QUEUE_DEPTH (i : Nat) : Nat := 0x200308 + i * 0x100
/-- 0x2003+p:09 U8, R368. -/
abbrev TS_QUEUE_HIGH (i : Nat) : Nat := 0x200309 + i * 0x100
/-- 0x2003+p:0A U32, R368. -/
abbrev TS_OVERFLOWS (i : Nat) : Nat := 0x20030A + i * 0x100
/-- 0x2003+p:0B U32, R368. -/
abbrev TS_STALE (i : Nat) : Nat := 0x20030B + i * 0x100
/-- 0x2008:00 U8, R368. -/
abbrev HOLDOVER_HIGHEST : Nat := 0x200800
/-- 0x2008:01 U32, R368. -/
abbrev HOLDOVER_DRIFT : Nat := 0x200801
/-- 0x2008:02 U16, R368. -/
abbrev HOLDOVER_AVERAGE : Nat := 0x200802
/-- 0x2008:03 U32, R368. -/
abbrev COVE_DRIFT : Nat := 0x200803
/-- 0x2008:04 U32, R368. -/
abbrev FREEZE_DRIFT : Nat := 0x200804
/-- 0x2009:00 U8, R368. -/
abbrev PPS_HIGHEST : Nat := 0x200900
/-- 0x2009:01 BOOL, R368. -/
abbrev PPS_ENABLE : Nat := 0x200901
/-- 0x2009:02 U32, R368. -/
abbrev PPS_WIDTH : Nat := 0x200902
/-- 0x2009:03 I32, R368. -/
abbrev PPS_OFFSET : Nat := 0x200903
/-- 0x2009:04 U8, R368. -/
abbrev PPS_SQUELCH : Nat := 0x200904
/-- 0x2009:05 U32, R368. -/
abbrev PPS_SQUELCH_BOUND : Nat := 0x200905
/-- 0x2020+k:00 U8, R368. -/
abbrev PLL_HIGHEST (i : Nat) : Nat := 0x202000 + i * 0x100
/-- 0x2020+k:01 U8, R368. -/
abbrev PLL_STATE (i : Nat) : Nat := 0x202001 + i * 0x100
/-- 0x2020+k:02 U32, R368. -/
abbrev PLL_LOCK_LOSSES (i : Nat) : Nat := 0x202002 + i * 0x100
/-- 0x2020+k:03 U32, R368. -/
abbrev PLL_FREEZES (i : Nat) : Nat := 0x202003 + i * 0x100
/-- 0x2020+k:04 U32, R368. -/
abbrev PLL_FROZEN_TIME (i : Nat) : Nat := 0x202004 + i * 0x100
/-- 0x2020+k:05 U32, R368. -/
abbrev PLL_LAST_LOCK_TIME (i : Nat) : Nat := 0x202005 + i * 0x100
/-- 0x2020+k:06 BOOL, R368. -/
abbrev PLL_STORED_VALID (i : Nat) : Nat := 0x202006 + i * 0x100
/-- 0x2026:00 U8, R368. -/
abbrev REF_HIGHEST : Nat := 0x202600
/-- 0x2026:01 U8, R368. -/
abbrev REF_SELECT : Nat := 0x202601
/-- 0x2026:02 BOOL, R368. -/
abbrev REF_FALLBACK : Nat := 0x202602
/-- 0x2026:03 U8, R368. -/
abbrev REF_IN_USE : Nat := 0x202603
/-- 0x2026:04 U8, R368. -/
abbrev REF_PRESENT : Nat := 0x202604
/-- 0x2026:05 U32, R368. -/
abbrev REF_LOSSES : Nat := 0x202605
/-- 0x2030+o:00 U8, R368. -/
abbrev CLKOUT_HIGHEST (i : Nat) : Nat := 0x203000 + i * 0x100
/-- 0x2030+o:01 BOOL, R368. -/
abbrev CLKOUT_ENABLE (i : Nat) : Nat := 0x203001 + i * 0x100
/-- 0x2030+o:02 U8, R368. -/
abbrev CLKOUT_SOURCE (i : Nat) : Nat := 0x203002 + i * 0x100
/-- 0x2030+o:03 U16, R368. -/
abbrev CLKOUT_DIVIDER (i : Nat) : Nat := 0x203003 + i * 0x100
/-- 0x2030+o:04 U8, R368. -/
abbrev CLKOUT_FORMAT (i : Nat) : Nat := 0x203004 + i * 0x100
/-- 0x2030+o:05 I16, R368. -/
abbrev CLKOUT_PHASE (i : Nat) : Nat := 0x203005 + i * 0x100
/-- 0x2030+o:06 BOOL, R368. -/
abbrev CLKOUT_ALIGN (i : Nat) : Nat := 0x203006 + i * 0x100
/-- 0x2030+o:07 BOOL, R368. -/
abbrev CLKOUT_ALIGNED (i : Nat) : Nat := 0x203007 + i * 0x100
/-- 0x2A00:00 U8, R390. -/
abbrev METERING_HIGHEST : Nat := 0x2A0000
/-- 0x2A00:01 U8, R390. -/
abbrev METER_CORRECTION : Nat := 0x2A0001
/-- 0x2A00:02 U16, R390. -/
abbrev RANGE_HOLD : Nat := 0x2A0002
/-- 0x2A00:03 F32, R390. -/
abbrev INTEGRATOR_CORNER : Nat := 0x2A0003
/-- 0x2A00:04 U8, R390. -/
abbrev SNAPSHOT_TRIGGER : Nat := 0x2A0004
/-- 0x2A00:05 DOMAIN, R390. -/
abbrev SNAPSHOT : Nat := 0x2A0005
/-- 0x2A00:06 U16, R390. -/
abbrev SNAPSHOT_INTERVAL : Nat := 0x2A0006
/-- 0x2A00:07 U32, R390. -/
abbrev SNAPSHOT_COUNT : Nat := 0x2A0007
/-- 0x2A00:08 U32, R390. -/
abbrev CHAIN_RESTARTS : Nat := 0x2A0008
/-- 0x2A00:09 U32, R390. -/
abbrev RANGE_SWITCHES : Nat := 0x2A0009
/-- 0x2A00:0A DOMAIN, R390. -/
abbrev SNAPSHOT_HISTORY : Nat := 0x2A000A
/-- 0x2A10+c:00 U8, R390. -/
abbrev CH_HIGHEST (i : Nat) : Nat := 0x2A1000 + i * 0x100
/-- 0x2A10+c:01 BOOL, R390. -/
abbrev CH_ENABLE (i : Nat) : Nat := 0x2A1001 + i * 0x100
/-- 0x2A10+c:02 U8, R390. -/
abbrev CH_KIND (i : Nat) : Nat := 0x2A1002 + i * 0x100
/-- 0x2A10+c:03 F32, R390. -/
abbrev CH_FULL_SCALE (i : Nat) : Nat := 0x2A1003 + i * 0x100
/-- 0x2A10+c:04 U16, R390. -/
abbrev BS_DECIMATION (i : Nat) : Nat := 0x2A1004 + i * 0x100
/-- 0x2A10+c:05 F32, R390. -/
abbrev CH_GAIN (i : Nat) : Nat := 0x2A1005 + i * 0x100
/-- 0x2A10+c:06 F32, R390. -/
abbrev CH_OFFSET (i : Nat) : Nat := 0x2A1006 + i * 0x100
/-- 0x2A10+c:07 I16, R390. -/
abbrev CH_DELAY (i : Nat) : Nat := 0x2A1007 + i * 0x100
/-- 0x2A10+c:08 F32, R390. -/
abbrev CH_GAIN_X16 (i : Nat) : Nat := 0x2A1008 + i * 0x100
/-- 0x2A10+c:09 F32, R390. -/
abbrev CH_OFFSET_X16 (i : Nat) : Nat := 0x2A1009 + i * 0x100
/-- 0x2A10+c:0A U8, R390. -/
abbrev CH_RANGE (i : Nat) : Nat := 0x2A100A + i * 0x100
/-- 0x2A10+c:0B BOOL, R390. -/
abbrev CH_INTEGRATOR (i : Nat) : Nat := 0x2A100B + i * 0x100
/-- 0x2A10+c:0C U8, R390. -/
abbrev CH_STATUS (i : Nat) : Nat := 0x2A100C + i * 0x100
/-- 0x2A10+c:0D F32, R390. -/
abbrev CH_RMS (i : Nat) : Nat := 0x2A100D + i * 0x100
/-- 0x2A40+e:00 U8, R390. -/
abbrev EL_HIGHEST (i : Nat) : Nat := 0x2A4000 + i * 0x100
/-- 0x2A40+e:01 U8, R390. -/
abbrev EL_V_CHANNEL (i : Nat) : Nat := 0x2A4001 + i * 0x100
/-- 0x2A40+e:02 U8, R390. -/
abbrev EL_I_CHANNEL (i : Nat) : Nat := 0x2A4002 + i * 0x100
/-- 0x2A40+e:03 F32, R390. -/
abbrev EL_P_GAIN (i : Nat) : Nat := 0x2A4003 + i * 0x100
/-- 0x2A40+e:04 F32, R390. -/
abbrev EL_P_OFFSET (i : Nat) : Nat := 0x2A4004 + i * 0x100
/-- 0x2A40+e:05 F32, R390. -/
abbrev EL_Q_GAIN (i : Nat) : Nat := 0x2A4005 + i * 0x100
/-- 0x2A40+e:06 F32, R390. -/
abbrev EL_Q_OFFSET (i : Nat) : Nat := 0x2A4006 + i * 0x100
/-- 0x2A40+e:07 F32, R390. -/
abbrev EL_V_RMS (i : Nat) : Nat := 0x2A4007 + i * 0x100
/-- 0x2A40+e:08 F32, R390. -/
abbrev EL_I_RMS (i : Nat) : Nat := 0x2A4008 + i * 0x100
/-- 0x2A40+e:09 F32, R390. -/
abbrev EL_P (i : Nat) : Nat := 0x2A4009 + i * 0x100
/-- 0x2A40+e:0A F32, R390. -/
abbrev EL_Q (i : Nat) : Nat := 0x2A400A + i * 0x100
/-- 0x2A40+e:0B F32, R390. -/
abbrev EL_S (i : Nat) : Nat := 0x2A400B + i * 0x100
/-- 0x2A40+e:0C F32, R390. -/
abbrev EL_PF (i : Nat) : Nat := 0x2A400C + i * 0x100
/-- 0x2A60+m:00 U8, R390. -/
abbrev METER_HIGHEST (i : Nat) : Nat := 0x2A6000 + i * 0x100
/-- 0x2A60+m:01 BOOL, R390. -/
abbrev METER_ENABLE (i : Nat) : Nat := 0x2A6001 + i * 0x100
/-- 0x2A60+m:02 F32, R390. -/
abbrev METER_RATIO (i : Nat) : Nat := 0x2A6002 + i * 0x100
/-- 0x2A60+m:03 F32, R390. -/
abbrev METER_FREQUENCY (i : Nat) : Nat := 0x2A6003 + i * 0x100
/-- 0x2A60+m:04 F32, R390. -/
abbrev METER_P (i : Nat) : Nat := 0x2A6004 + i * 0x100
/-- 0x2A60+m:05 F32, R390. -/
abbrev METER_Q (i : Nat) : Nat := 0x2A6005 + i * 0x100
/-- 0x2A60+m:06 F32, R390. -/
abbrev METER_S (i : Nat) : Nat := 0x2A6006 + i * 0x100
/-- 0x2A60+m:07–0E U64, R390. -/
abbrev ENERGY (i : Nat) (k : Nat) : Nat := 0x2A6007 + i * 0x100 + k
/-- 0x2A60+m:0F U32, R390. -/
abbrev METER_FLAGS (i : Nat) : Nat := 0x2A600F + i * 0x100
/-- 0x2A60+m:10 U32, R390. -/
abbrev METER_FLAGS_CLEAR (i : Nat) : Nat := 0x2A6010 + i * 0x100
/-- 0x2A60+m:11 DOMAIN, R390. -/
abbrev ENERGY_PRESET (i : Nat) : Nat := 0x2A6011 + i * 0x100
/-- 0x2A60+m:12 U64, R390. -/
abbrev MISSING_SAMPLES (i : Nat) : Nat := 0x2A6012 + i * 0x100
/-- 0x2A60+m:13 U32, R390. -/
abbrev METER_GAP_TIME (i : Nat) : Nat := 0x2A6013 + i * 0x100
/-- 0x2A70+k:00 U8, R390. -/
abbrev PULSE_HIGHEST (i : Nat) : Nat := 0x2A7000 + i * 0x100
/-- 0x2A70+k:01 BOOL, R390. -/
abbrev PULSE_ENABLE (i : Nat) : Nat := 0x2A7001 + i * 0x100
/-- 0x2A70+k:02 U8, R390. -/
abbrev PULSE_SOURCE (i : Nat) : Nat := 0x2A7002 + i * 0x100
/-- 0x2A70+k:03 U32, R390. -/
abbrev PULSE_CONSTANT (i : Nat) : Nat := 0x2A7003 + i * 0x100
/-- 0x2A70+k:04 U16, R390. -/
abbrev PULSE_WIDTH (i : Nat) : Nat := 0x2A7004 + i * 0x100
/-- 0x2A70+k:05 BOOL, R390. -/
abbrev PULSE_POLARITY (i : Nat) : Nat := 0x2A7005 + i * 0x100
/-- 0x2A70+k:06 U64, R390. -/
abbrev PULSE_COUNT (i : Nat) : Nat := 0x2A7006 + i * 0x100
/-- 0x2A70+k:07 U16, R390. -/
abbrev PULSE_BACKLOG (i : Nat) : Nat := 0x2A7007 + i * 0x100
/-- 0x2A70+k:08 U32, R390. -/
abbrev PULSE_OVERRUNS (i : Nat) : Nat := 0x2A7008 + i * 0x100
/-- 0x2A80:00 U8, R390. -/
abbrev CAL_HIGHEST : Nat := 0x2A8000
/-- 0x2A80:01 U64, R390. -/
abbrev CAL_CHANNELS : Nat := 0x2A8001
/-- 0x2A80:02 U8, R390. -/
abbrev CAL_STATUS : Nat := 0x2A8002
/-- 0x2A80:03 U8, R390. -/
abbrev CAL_FAILED_CHANNEL : Nat := 0x2A8003
/-- 0x2A80:04 U16, R390. -/
abbrev CAL_TIME : Nat := 0x2A8004
/-- 0x2A80:05 F32, R390. -/
abbrev CAL_ZERO_LIMIT : Nat := 0x2A8005
/-- 0x2A80:06 U32, R390. -/
abbrev CALIBRATIONS : Nat := 0x2A8006
/-- 0x280k:00 U8, R421. -/
abbrev SAR_HIGHEST (i : Nat) : Nat := 0x280000 + i * 0x100
/-- 0x280k:01 BOOL, R421. -/
abbrev SAR_CONTINUOUS (i : Nat) : Nat := 0x280001 + i * 0x100
/-- 0x280k:02 U8, R421. -/
abbrev SAR_BG_MASK (i : Nat) : Nat := 0x280002 + i * 0x100
/-- 0x280k:03 U8, R421. -/
abbrev SAR_STATUS (i : Nat) : Nat := 0x280003 + i * 0x100
/-- 0x280k:04 U32, R421. -/
abbrev SAR_DATA (i : Nat) : Nat := 0x280004 + i * 0x100
/-- 0x280k:05 U32, R421. -/
abbrev SAR_OVERRUNS (i : Nat) : Nat := 0x280005 + i * 0x100
/-- 0x280k:06–0D U16, R421. -/
abbrev SAR_VALUE (i : Nat) (k : Nat) : Nat := 0x280006 + i * 0x100 + k
/-- 0x280k:0E–15 I16, R421. -/
abbrev SAR_INPUT_OFFSET (i : Nat) (k : Nat) : Nat := 0x28000E + i * 0x100 + k
/-- 0x2804:00 U8, R422. -/
abbrev SAR_CAL_HIGHEST : Nat := 0x280400
/-- 0x2804:01 U8, R422. -/
abbrev SAR_CAL : Nat := 0x280401
/-- 0x2804:02 U8, R422. -/
abbrev SAR_CAL_STATUS : Nat := 0x280402
/-- 0x2804:03 U8, R422. -/
abbrev SAR_CAL_FAILED : Nat := 0x280403
/-- 0x2804:04 U16, R422. -/
abbrev SAR_CAL_ZERO_LIMIT : Nat := 0x280404
/-- 0x2804:05 U32, R422. -/
abbrev SAR_CALIBRATIONS : Nat := 0x280405
/-- 0x2810:00 U8, R422. -/
abbrev SENSE_HIGHEST : Nat := 0x281000
/-- 0x2810:01 U64, R422. -/
abbrev SENSE_ENABLE : Nat := 0x281001
/-- 0x2810:02 U64, R422. -/
abbrev SENSE_MISSING : Nat := 0x281002
/-- 0x2811:01–40 F32, R422. -/
abbrev SENSE_GAIN (k : Nat) : Nat := 0x281101 + k
/-- 0x2812:01–40 F32, R422. -/
abbrev SENSE_OFFSET (k : Nat) : Nat := 0x281201 + k
/-- 0x2813:01–40 F32, R422. -/
abbrev SENSE_VALUE (k : Nat) : Nat := 0x281301 + k
/-- 0x2814:01–20 U16, R422. -/
abbrev SENSE_DECIMATION (k : Nat) : Nat := 0x281401 + k
/-- 0x2815:01–20 I32, R422. -/
abbrev SENSE_DELAY (k : Nat) : Nat := 0x281501 + k
/-- 0x2816:00 U8, R422. -/
abbrev SENSE_MAP_HIGHEST : Nat := 0x281600
/-- 0x2816:01–0C U8, R422. -/
abbrev ARM_I_SENSOR (k : Nat) : Nat := 0x281601 + k
/-- 0x2816:0D–0E U8, R422. -/
abbrev DC_V_SENSOR (k : Nat) : Nat := 0x28160D + k
/-- 0x2820+c:00 U8, R422. -/
abbrev CMP_HIGHEST (i : Nat) : Nat := 0x282000 + i * 0x100
/-- 0x2820+c:01 BOOL, R422. -/
abbrev CMP_ENABLE (i : Nat) : Nat := 0x282001 + i * 0x100
/-- 0x2820+c:02 U8, R422. -/
abbrev CMP_INPUT (i : Nat) : Nat := 0x282002 + i * 0x100
/-- 0x2820+c:03 U16, R422. -/
abbrev CMP_UPPER (i : Nat) : Nat := 0x282003 + i * 0x100
/-- 0x2820+c:04 U16, R422. -/
abbrev CMP_LOWER (i : Nat) : Nat := 0x282004 + i * 0x100
/-- 0x2820+c:05 U8, R422. -/
abbrev CMP_HYST (i : Nat) : Nat := 0x282005 + i * 0x100
/-- 0x2820+c:06 U8, R422. -/
abbrev CMP_ROUTE (i : Nat) : Nat := 0x282006 + i * 0x100
/-- 0x2820+c:07 U8, R422. -/
abbrev CMP_BLANK_SOURCE (i : Nat) : Nat := 0x282007 + i * 0x100
/-- 0x2820+c:08 U16, R422. -/
abbrev CMP_BLANK_ARG (i : Nat) : Nat := 0x282008 + i * 0x100
/-- 0x2820+c:09 U16, R422. -/
abbrev CMP_BLANK_TIME (i : Nat) : Nat := 0x282009 + i * 0x100
/-- 0x2820+c:0A U8, R422. -/
abbrev CMP_CLEAR_MODE (i : Nat) : Nat := 0x28200A + i * 0x100
/-- 0x2838:00 U8, R422. -/
abbrev CMP_COMMON_HIGHEST : Nat := 0x283800
/-- 0x2838:01 U32, R422. -/
abbrev CMP_FLAGS : Nat := 0x283801
/-- 0x2838:02 U32, R422. -/
abbrev CMP_CLEAR : Nat := 0x283802
/-- 0x2838:03 U32, R422. -/
abbrev CMP_RAW : Nat := 0x283803
/-- 0x2838:04 U32, R422. -/
abbrev CMP_LATCHES : Nat := 0x283804
/-- 0x284q:00 U8, R423. -/
abbrev PWM_HIGHEST (i : Nat) : Nat := 0x284000 + i * 0x100
/-- 0x284q:01 BOOL, R423. -/
abbrev PWM_ENABLE (i : Nat) : Nat := 0x284001 + i * 0x100
/-- 0x284q:02 U8, R423. -/
abbrev PWM_ROLE (i : Nat) : Nat := 0x284002 + i * 0x100
/-- 0x284q:03 U16, R423. -/
abbrev PWM_PERIOD (i : Nat) : Nat := 0x284003 + i * 0x100
/-- 0x284q:04 U16, R423. -/
abbrev PWM_DELAY_RISE (i : Nat) : Nat := 0x284004 + i * 0x100
/-- 0x284q:05 U16, R423. -/
abbrev PWM_DELAY_FALL (i : Nat) : Nat := 0x284005 + i * 0x100
/-- 0x284q:06 U16, R423. -/
abbrev PWM_MIN_PULSE (i : Nat) : Nat := 0x284006 + i * 0x100
/-- 0x284q:07 U8, R423. -/
abbrev PWM_POLARITY (i : Nat) : Nat := 0x284007 + i * 0x100
/-- 0x284q:08 BOOL, R423. -/
abbrev PWM_SYNC (i : Nat) : Nat := 0x284008 + i * 0x100
/-- 0x284q:09 F32, R423. -/
abbrev PWM_DUTY (i : Nat) : Nat := 0x284009 + i * 0x100
/-- 0x284q:0A U8, R423. -/
abbrev PWM_STATUS (i : Nat) : Nat := 0x28400A + i * 0x100
/-- 0x284q:0B U32, R423. -/
abbrev PWM_SUPPRESSED (i : Nat) : Nat := 0x28400B + i * 0x100
/-- 0x284q:0C U32, R423. -/
abbrev PWM_RESYNCS (i : Nat) : Nat := 0x28400C + i * 0x100
/-- 0x2860:00 U8, R423. -/
abbrev GPIO_HIGHEST : Nat := 0x286000
/-- 0x2860:01 U32, R423. -/
abbrev GPIO_DIRECTION : Nat := 0x286001
/-- 0x2860:02 U32, R423. -/
abbrev GPIO_OUT : Nat := 0x286002
/-- 0x2860:03 U32, R423. -/
abbrev GPIO_IN : Nat := 0x286003
/-- 0x2860:04 U32, R423. -/
abbrev GPIO_OUT_INIT : Nat := 0x286004
/-- 0x2860:05 U16, R423. -/
abbrev GPIO_DEBOUNCE : Nat := 0x286005
/-- 0x2860:06 U32, R423. -/
abbrev GPIO_EVENT_RISE : Nat := 0x286006
/-- 0x2860:07 U32, R423. -/
abbrev GPIO_EVENT_FALL : Nat := 0x286007
/-- 0x2860:08 U32, R423. -/
abbrev GPIO_EVENTS : Nat := 0x286008
/-- 0x2870:00 U8, R424. -/
abbrev MBUS_HIGHEST : Nat := 0x287000
/-- 0x2870:01 U8, R424. -/
abbrev MBUS_SPEED : Nat := 0x287001
/-- 0x2870:02 U16, R424. -/
abbrev MBUS_STRETCH_MAX : Nat := 0x287002
/-- 0x2870:03 U8, R424. -/
abbrev MBUS_RETRIES : Nat := 0x287003
/-- 0x2870:04 U8, R424. -/
abbrev MBUS_STATUS : Nat := 0x287004
/-- 0x2870:05 U32, R424. -/
abbrev MBUS_STUCK_COUNT : Nat := 0x287005
/-- 0x2870:06 U32, R424. -/
abbrev MBUS_ERRORS : Nat := 0x287006
/-- 0x2870:07 DOMAIN, R424. -/
abbrev MBUS_REQUEST : Nat := 0x287007
/-- 0x2870:08 DOMAIN, R424. -/
abbrev MBUS_RESULT : Nat := 0x287008
/-- 0x2870:09 U16, R424. -/
abbrev XCVR_POLL : Nat := 0x287009
/-- 0x2870:0A DOMAIN, R424. -/
abbrev XCVR_TABLE : Nat := 0x28700A
/-- 0x2870:0B U16, R424. -/
abbrev PMBUS_POLL : Nat := 0x28700B
/-- 0x2870:0C BOOL, R424. -/
abbrev PMBUS_PEC : Nat := 0x28700C
/-- 0x2870:0D DOMAIN, R424. -/
abbrev PMBUS_TABLE : Nat := 0x28700D
/-- 0x2871:01–10 U8, R424. -/
abbrev XCVR_SWITCH_ADDR (k : Nat) : Nat := 0x287101 + k
/-- 0x2872:01–08 U8, R424. -/
abbrev PMBUS_ADDRESS (k : Nat) : Nat := 0x287201 + k
/-- 0x2400:00 U8, R454. -/
abbrev BW_HIGHEST : Nat := 0x240000
/-- 0x2400:01 U32, R454. -/
abbrev BW_STATUS : Nat := 0x240001
/-- 0x2400:02 U32, R454. -/
abbrev DEMAND_CAUSES : Nat := 0x240002
/-- 0x2400:03 U8, R454. -/
abbrev SAFETY_DEMAND : Nat := 0x240003
/-- 0x2400:04 U8, R454. -/
abbrev SAFETY_RESET : Nat := 0x240004
/-- 0x2400:05 U8, R454. -/
abbrev TRIP_RELEASE : Nat := 0x240005
/-- 0x2400:06 U8, R454. -/
abbrev SAFETY_SELFTEST : Nat := 0x240006
/-- 0x2400:07 U8, R454. -/
abbrev SELFTEST_STATUS : Nat := 0x240007
/-- 0x2400:08 U32, R454. -/
abbrev SAFETY_CONFIRM : Nat := 0x240008
/-- 0x2400:09 U32, R454. -/
abbrev SAFETY_PARAM_CHECK : Nat := 0x240009
/-- 0x2400:0A U32, R454. -/
abbrev CONFIRMED_CHECK : Nat := 0x24000A
/-- 0x2400:0B U16, R454. -/
abbrev DEGRADED_REMAINING : Nat := 0x24000B
/-- 0x2400:0C U8, R454. -/
abbrev FAULT_DETAIL : Nat := 0x24000C
/-- 0x2400:0D U32, R454. -/
abbrev DEMANDS : Nat := 0x24000D
/-- 0x2400:0E U32, R454. -/
abbrev RESETS : Nat := 0x24000E
/-- 0x2400:0F U32, R454. -/
abbrev CHANNEL_FAULTS : Nat := 0x24000F
/-- 0x2400:10 U32, R454. -/
abbrev DEGRADED_ENTRIES : Nat := 0x240010
/-- 0x2400:11 U32, R454. -/
abbrev ECHO_MISSES : Nat := 0x240011
/-- 0x2400:12 U32, R454. -/
abbrev HEARTBEAT_LOSSES : Nat := 0x240012
/-- 0x2400:13 U64, R454. -/
abbrev FAST_TESTS : Nat := 0x240013
/-- 0x2400:14 U32, R454. -/
abbrev FAST_TEST_FAILS : Nat := 0x240014
/-- 0x2400:15 U32, R454. -/
abbrev TRIP_PULSE_FAULTS : Nat := 0x240015
/-- 0x2400:16 U32, R454. -/
abbrev CHANNEL_DISAGREE : Nat := 0x240016
/-- 0x2400:17 U8, R454. -/
abbrev SAFETY_SESSION_RESET : Nat := 0x240017
/-- 0x2401:00 U8, R454. -/
abbrev BW_CFG_HIGHEST : Nat := 0x240100
/-- 0x2401:01 U8, R454. -/
abbrev DEGRADED_TIME : Nat := 0x240101
/-- 0x2401:02 U16, R454. -/
abbrev TEST_PULSE_PERIOD : Nat := 0x240102
/-- 0x2401:03 U16, R454. -/
abbrev TEST_PULSE_WIDTH : Nat := 0x240103
/-- 0x2401:04 U8, R454. -/
abbrev HEARTBEAT_MISSES : Nat := 0x240104
/-- 0x2401:05 U16, R454. -/
abbrev ECHO_LIMIT : Nat := 0x240105
/-- 0x2401:06 U8, R454. -/
abbrev ECHO_REACTION : Nat := 0x240106
/-- 0x2401:07 U8, R454. -/
abbrev AOC_REACTION : Nat := 0x240107
/-- 0x2401:08 U8, R454. -/
abbrev DCOV_REACTION : Nat := 0x240108
/-- 0x2401:09 U16, R454. -/
abbrev FAST_TEST_PERIOD : Nat := 0x240109
/-- 0x2401:0A BOOL, R454. -/
abbrev HOST_RESET_ALLOWED : Nat := 0x24010A
/-- 0x2410+i:00 U8, R454. -/
abbrev SIN_HIGHEST (i : Nat) : Nat := 0x241000 + i * 0x100
/-- 0x2410+i:01 U8, R454. -/
abbrev SIN_MODE (i : Nat) : Nat := 0x241001 + i * 0x100
/-- 0x2410+i:02 U8, R454. -/
abbrev SIN_FUNCTION (i : Nat) : Nat := 0x241002 + i * 0x100
/-- 0x2410+i:03 U16, R454. -/
abbrev SIN_DISCREPANCY (i : Nat) : Nat := 0x241003 + i * 0x100
/-- 0x2410+i:04 U8, R454. -/
abbrev SIN_STATE (i : Nat) : Nat := 0x241004 + i * 0x100
/-- 0x2410+i:05 U32, R454. -/
abbrev SIN_DEMANDS (i : Nat) : Nat := 0x241005 + i * 0x100
/-- 0x2410+i:06 U32, R454. -/
abbrev SIN_FAULTS (i : Nat) : Nat := 0x241006 + i * 0x100
/-- 0x2420:00 U8, R454. -/
abbrev BW_IO_HIGHEST : Nat := 0x242000
/-- 0x2420:01–04 U8, R454. -/
abbrev TRIP_STATE (k : Nat) : Nat := 0x242001 + k
/-- 0x2420:05 U32, R454. -/
abbrev FAST_TEST_RESULT : Nat := 0x242005
/-- 0x2420:06 U8, R454. -/
abbrev STANDIN_STATE : Nat := 0x242006
/-- 0x2420:07 U16, R454. -/
abbrev STANDIN_FOR : Nat := 0x242007
/-- 0x2100:00 U8, R483. -/
abbrev RESET_HIGHEST : Nat := 0x210000
/-- 0x2100:01 U32, R483. -/
abbrev RESET_CAUSE : Nat := 0x210001
/-- 0x2100:02 U8, R483. -/
abbrev RESET_REACH_LAST : Nat := 0x210002
/-- 0x2100:03 U32, R483. -/
abbrev RESET_COUNT : Nat := 0x210003
/-- 0x2100:04 DOMAIN, R483. -/
abbrev RESET_SOURCE_COUNTS : Nat := 0x210004
/-- 0x2100:05 STIME, R483. -/
abbrev LAST_RESET_TIME : Nat := 0x210005
/-- 0x2100:06 U32, R483. -/
abbrev BOOT_TIME : Nat := 0x210006
/-- 0x2100:07 U8, R483. -/
abbrev DEVICE_RESET : Nat := 0x210007
/-- 0x2100:08 U16, R483. -/
abbrev LOOKOUT_WDT : Nat := 0x210008
/-- 0x2101:00 U8, R483. -/
abbrev OPTION_HIGHEST : Nat := 0x210100
/-- 0x2101:01 U8, R483. -/
abbrev OPTION_STATUS : Nat := 0x210101
/-- 0x2101:02 U8, R483. -/
abbrev OPTION_CODE : Nat := 0x210102
/-- 0x2101:03 U8, R483. -/
abbrev OPTION_UNITS : Nat := 0x210103
/-- 0x2101:04 U8, R483. -/
abbrev OPTION_DROVES : Nat := 0x210104
/-- 0x2101:05 U32, R483. -/
abbrev OPTION_LOAD_TIME : Nat := 0x210105
/-- 0x2101:06 U16, R483. -/
abbrev OPTION_CORRECTED : Nat := 0x210106
/-- 0x2110:00 U8, R484. -/
abbrev POWER_HIGHEST : Nat := 0x211000
/-- 0x2110:01 U8, R484. -/
abbrev POWER_STATE : Nat := 0x211001
/-- 0x2110:02 U8, R484. -/
abbrev POWER_MAX_STATE : Nat := 0x211002
/-- 0x2110:03 STIME, R484. -/
abbrev NEXT_DISPATCH : Nat := 0x211003
/-- 0x2110:04 BOOL, R484. -/
abbrev KEEPALIVE_CAPABLE : Nat := 0x211004
/-- 0x2110:05 U16, R484. -/
abbrev WAKE_GUARD : Nat := 0x211005
/-- 0x2110:06 U32, R484. -/
abbrev DORMANT_DRIFT : Nat := 0x211006
/-- 0x2110:07 U8, R484. -/
abbrev POWER_BLOCKER : Nat := 0x211007
/-- 0x2110:08 U32, R484. -/
abbrev UNIT_DOZE : Nat := 0x211008
/-- 0x2110:09 U32, R484. -/
abbrev NAP_ENTRIES : Nat := 0x211009
/-- 0x2110:0A U32, R484. -/
abbrev DORMANT_ENTRIES : Nat := 0x21100A
/-- 0x2110:0B U32, R484. -/
abbrev LAST_WAKE_TIME : Nat := 0x21100B
/-- 0x2110:0C U32, R484. -/
abbrev WAKE_LATE : Nat := 0x21100C
/-- 0x2110:0D U32, R484. -/
abbrev WAKE_FAILURES : Nat := 0x21100D
/-- 0x2110:0E BOOL, R484. -/
abbrev POWER_FAULT : Nat := 0x21100E
/-- 0x2110:0F U8, R484. -/
abbrev POWER_FAULT_CAUSE : Nat := 0x21100F
/-- 0x2110:10 U8, R484. -/
abbrev POWER_RETRY : Nat := 0x211010
/-- 0x2110:11 U64, R484. -/
abbrev DOZE_TIME : Nat := 0x211011
/-- 0x2120:00 U8, R484. -/
abbrev COVE_HIGHEST : Nat := 0x212000
/-- 0x2120:01 U8, R484. -/
abbrev COVE_STATUS : Nat := 0x212001
/-- 0x2120:02 U16, R484. -/
abbrev COVE_QUICK_V : Nat := 0x212002
/-- 0x2120:03 U16, R484. -/
abbrev COVE_BULK_V : Nat := 0x212003
/-- 0x2120:04 U16, R484. -/
abbrev COVE_HVIN_V : Nat := 0x212004
/-- 0x2120:05 U8, R484. -/
abbrev COVE_CHARGE_I : Nat := 0x212005
/-- 0x2120:06 U16, R484. -/
abbrev COVE_BULK_F : Nat := 0x212006
/-- 0x2120:07 U32, R484. -/
abbrev COVE_ENDURANCE : Nat := 0x212007
/-- 0x2120:08 U32, R484. -/
abbrev COVE_ON_STORE_TIME : Nat := 0x212008
/-- 0x2120:09 U32, R484. -/
abbrev COVE_COLD_STARTS : Nat := 0x212009
/-- 0x1800:00 U8, R504. -/
abbrev LOG_HIGHEST : Nat := 0x180000
/-- 0x1800:01 U64, R504. -/
abbrev LOG_NEXT_SEQ : Nat := 0x180001
/-- 0x1800:02 U64, R504. -/
abbrev LOG_OLDEST_SEQ : Nat := 0x180002
/-- 0x1800:03 DOMAIN, R504. -/
abbrev LOG_DATA : Nat := 0x180003
/-- 0x1800:04 U32, R504. -/
abbrev LOG_DROPPED : Nat := 0x180004
/-- 0x1800:05 U32, R504. -/
abbrev LOG_LOST : Nat := 0x180005
/-- 0x1800:06 U8, R504. -/
abbrev LOG_NOTIFY_MIN : Nat := 0x180006
/-- 0x1800:07 U64, R504. -/
abbrev ALARM_ACK : Nat := 0x180007
/-- 0x1800:08 U32, R504. -/
abbrev ALARMS_UNACKED : Nat := 0x180008
/-- 0x1800:09 U16, R504. -/
abbrev TIME_EPOCH_NOW : Nat := 0x180009
/-- 0x1800:0A U32, R504. -/
abbrev LOG_ID : Nat := 0x18000A
/-- 0x1800:0B DOMAIN, R504. -/
abbrev EVENT_CATALOGUE : Nat := 0x18000B
/-- 0x1801:01–10 U64, R504. -/
abbrev LOG_CURSOR (k : Nat) : Nat := 0x180101 + k
/-- 0x2250:00 U8, R505. -/
abbrev PMC_HIGHEST : Nat := 0x225000
/-- 0x2250:01 U32, R505. -/
abbrev PMC_STATUS : Nat := 0x225001
/-- 0x2250:02 U32, R505. -/
abbrev PMC_STATUS_CLEAR : Nat := 0x225002
/-- 0x2250:03 DOMAIN, R505. -/
abbrev PMC_READ : Nat := 0x225003
/-- 0x2250:04 BOOL, R505. -/
abbrev PMC_FREEZE : Nat := 0x225004
/-- 0x2250:05 DOMAIN, R505. -/
abbrev PMC_SAMPLES : Nat := 0x225005
/-- 0x2250:06 U32, R505. -/
abbrev PMC_SAMPLE_RELEASE : Nat := 0x225006
/-- 0x2250:07 U64, R505. -/
abbrev PMC_SAMPLES_LOST : Nat := 0x225007
/-- 0x2260+c:00 U8, R505. -/
abbrev PMC_C_HIGHEST (i : Nat) : Nat := 0x226000 + i * 0x100
/-- 0x2260+c:01 U8, R505. -/
abbrev PMC_EVENT (i : Nat) : Nat := 0x226001 + i * 0x100
/-- 0x2260+c:02 U16, R505. -/
abbrev PMC_INSTANCE (i : Nat) : Nat := 0x226002 + i * 0x100
/-- 0x2260+c:03 U8, R505. -/
abbrev PMC_MODE (i : Nat) : Nat := 0x226003 + i * 0x100
/-- 0x2260+c:04 U32, R505. -/
abbrev PMC_THRESHOLD (i : Nat) : Nat := 0x226004 + i * 0x100
/-- 0x2260+c:05 U32, R505. -/
abbrev PMC_VALUE (i : Nat) : Nat := 0x226005 + i * 0x100
/-- 0x2260+c:06 U32, R505. -/
abbrev PMC_PRELOAD (i : Nat) : Nat := 0x226006 + i * 0x100
/-- 0x2260+c:07 BOOL, R505. -/
abbrev PMC_SAMPLE (i : Nat) : Nat := 0x226007 + i * 0x100
/-- 0x2260+c:08 U8, R505. -/
abbrev PMC_OWNER (i : Nat) : Nat := 0x226008 + i * 0x100
/-- 0x2280+h:00 U8, R505. -/
abbrev HIST_HIGHEST (i : Nat) : Nat := 0x228000 + i * 0x100
/-- 0x2280+h:01 BOOL, R505. -/
abbrev HIST_ENABLE (i : Nat) : Nat := 0x228001 + i * 0x100
/-- 0x2280+h:02 U8, R505. -/
abbrev HIST_SOURCE (i : Nat) : Nat := 0x228002 + i * 0x100
/-- 0x2280+h:03 U16, R505. -/
abbrev HIST_INSTANCE (i : Nat) : Nat := 0x228003 + i * 0x100
/-- 0x2280+h:04 U32, R505. -/
abbrev HIST_BASE (i : Nat) : Nat := 0x228004 + i * 0x100
/-- 0x2280+h:05 U32, R505. -/
abbrev HIST_WIDTH (i : Nat) : Nat := 0x228005 + i * 0x100
/-- 0x2280+h:06 BOOL, R505. -/
abbrev HIST_LOG (i : Nat) : Nat := 0x228006 + i * 0x100
/-- 0x2280+h:07 DOMAIN, R505. -/
abbrev HIST_DATA (i : Nat) : Nat := 0x228007 + i * 0x100
/-- 0x2280+h:08 U8, R505. -/
abbrev HIST_CLEAR (i : Nat) : Nat := 0x228008 + i * 0x100
/-- 0x22F0:00 U8, R506. -/
abbrev DEBUG_HIGHEST : Nat := 0x22F000
/-- 0x22F0:01 U8, R506. -/
abbrev DEBUG_STATE : Nat := 0x22F001
/-- 0x22F0:02 DOMAIN, R506. -/
abbrev DEBUG_CHALLENGE : Nat := 0x22F002
/-- 0x22F0:03 DOMAIN, R506. -/
abbrev DEBUG_UNLOCK : Nat := 0x22F003
/-- 0x22F0:04 U8, R506. -/
abbrev DEBUG_LOCK : Nat := 0x22F004
/-- 0x22F0:05 U32, R506. -/
abbrev DEBUG_HALTED : Nat := 0x22F005

end Sys2Proof.Machine.Obj
end

