-- ==== Sys2Proof/Machine/Dict.lean ====
section
/-! DEFINITION. Looking objects up in the dictionary: which row holds an index and sub-index, whether it is present on a
code (R3), its default (R5), its size and its range (R6 to R8). -/

namespace Sys2Proof.Machine

/-- Index part of a key. -/
def keyIndex (k : Nat) : Nat := k / 256

/-- Sub-index part of a key. -/
def keySub (k : Nat) : Nat := k % 256

/-- Key of an index and a sub-index. -/
def objKey (ix sub : Nat) : Nat := ix * 256 + sub

/-- Row `r` covers index `ix` and sub-index `sub`. -/
def ObjRow.covers (r : ObjRow) (ix sub : Nat) : Bool :=
  decide (r.base ≤ ix) && decide (ix < r.base + r.stride * r.count) && decide ((ix - r.base) % r.stride = 0)
    && decide (r.lo ≤ sub) && decide (sub ≤ r.hi)

/-- The row of an index and sub-index. -/
def findRow (ix sub : Nat) : Option ObjRow := (rowsFor ix).find? (fun r => r.covers ix sub)

/-- Instance of a row that an index names. -/
def ObjRow.instOf (r : ObjRow) (ix : Nat) : Nat := (ix - r.base) / r.stride

/-- The default code of an instance and sub-index: the last listed default repeats (R5). -/
def ObjRow.defaultAt (r : ObjRow) (ix sub : Nat) : Nat :=
  let n := if r.byIndex then r.instOf ix else sub - r.lo
  (r.dflt[n]?).getD (r.dflt.getLast?.getD 0)

/-- What an object reads as while nothing has written it: its Default (R5). -/
def objDefault (key : Nat) : Nat :=
  match findRow (keyIndex key) (keySub key) with
  | some r => r.defaultAt (keyIndex key) (keySub key)
  | none => 0

/-- Bytes of a STR or DOMAIN object that nothing has written: 64 unbound entries in `PROG_BIND` (R156), none in the others; DESIGN CHOICE,
log entry 5. -/
def blobDefault (key : Nat) : List Byte :=
  if 0x3140 ≤ keyIndex key ∧ keyIndex key ≤ 0x3147 ∧ keySub key = 3 then List.replicate 256 0 else []

/-- Droves on an ordering code: 0 QSX-16384-FA, 1 QSX-16384-G, 2 QSX-8192-G (R1). -/
def codeDroves (code : Nat) : Nat := if code = 2 then 64 else 128

/-- Leaves on an ordering code (R1). -/
def codeLeaves (code : Nat) : Nat := 128 * codeDroves code

/-- The row's instance at `ix` is present on the code (R3, R16, R369, R390). -/
def ObjRow.fittedOn (r : ObjRow) (code ix : Nat) : Bool :=
  let i := r.instOf ix
  match r.fitted with
  | .core => true
  | .drove => decide (i < codeDroves code)
  | .leaf => decide (i < codeLeaves code)
  | .solar => decide (code = 0)
  | .solarLeaf => decide (code = 0) && decide (i < codeLeaves code)
  | .channel => decide (i < 32) || decide (code = 0)
  | .bitstreamOnly => decide (i < 32)
  | .onPackageCurrent => decide (36 ≤ i) && decide (code = 0)

/-- Sub-indices 0x41 to 0x80 of `TURN_PLAN` are absent on QSX-8192-G (R279). -/
def subFitted (code ix sub : Nat) : Bool := !(decide (code = 2) && decide (ix = 0x2222) && decide (0x40 < sub))

/-- The row of an object present on the code; none where the access is refused with "object does not exist" (R3, R8). -/
def presentRow (code ix sub : Nat) : Option ObjRow :=
  match findRow ix sub with
  | some r => if r.fittedOn code ix && subFitted code ix sub then some r else none
  | none => none

/-- Bytes of a type of fixed size; 0 for STR and DOMAIN (R6). -/
def ObjTy.size : ObjTy → Nat
  | .bool | .u8 | .i8 => 1
  | .u16 | .i16 => 2
  | .u32 | .i32 | .f32 | .pu24 | .ang32 => 4
  | .u64 | .i64 => 8
  | .stime => 16
  | .str | .domain => 0

/-- The type has a length given with each object (STR, DOMAIN). -/
def ObjTy.variable : ObjTy → Bool
  | .str | .domain => true
  | _ => false

/-- The value a code stands for, as the ranges of R7 are stated. -/
def ObjTy.value (t : ObjTy) (raw : Nat) : Rat :=
  match t with
  | .i8 => (toSigned 8 raw : Int)
  | .i16 => (toSigned 16 raw : Int)
  | .i32 => (toSigned 32 raw : Int)
  | .i64 => (toSigned 64 raw : Int)
  | .f32 => f32ToRat raw
  | .pu24 => pu24ToRat raw
  | _ => (raw : Rat)

/-- The code is a value of its type: BOOL 0 or 1, F32 finite, STIME nanoseconds below 10⁹ (R6). -/
def ObjTy.legal (t : ObjTy) (raw : Nat) : Bool :=
  match t with
  | .bool => decide (raw ≤ 1)
  | .f32 => f32Finite raw
  | .stime => decide (stimeNs raw ≤ 999999999)
  | _ => true

/-- `raw` as a PU24 of a range bound: range bounds of PU24 objects are rounded to the nearest code (R7). -/
def Range.holds (rg : Range) (t : ObjTy) (raw : Nat) : Bool :=
  let v := t.value raw
  let bound (x : Rat) : Rat := match t with
    | .pu24 => pu24ToRat (pu24OfRat x)
    | .f32 => f32ToRat (f32OfRat x)
    | _ => x
  match rg with
  | .any => true
  | .within lo hi => decide (bound lo ≤ v) && decide (v ≤ bound hi)
  | .oneOf vs => vs.contains raw
  | .multipleOf n lo hi => decide (raw % n = 0) && decide (lo ≤ raw) && decide (raw ≤ hi)
  | .positive => decide (0 < v)
  | .nonzero => decide (v ≠ 0)
  | .magnitude lo hi => decide (bound lo ≤ absRat v) && decide (absRat v ≤ bound hi)

/-- Reactions R263 allows to each station source. -/
def allowedReactions : List (List Nat) :=
  [[0, 1, 3], [0, 1, 3], [0], [0, 3], [1], [1], [0, 3], [0, 3], [0, 3], [0, 3], [0, 1], [0, 1, 2], [0, 1], [1, 2]]

/-- A 32-bit mask with contiguous ones from the top (R314). -/
def contiguousMask (m : Nat) : Bool := (List.range 33).any (fun n => m = 2 ^ 32 - 2 ^ n)

/-- Single-object value checks that the tables state beside their range columns (R243, R263, R314, R318, R390). -/
def extraRange (key raw : Nat) : Bool :=
  let ix := keyIndex key
  let sub := keySub key
  if 0x2200 ≤ ix ∧ ix ≤ 0x220D ∧ sub = 4 then (getD' allowedReactions (ix - 0x2200) []).contains raw
  else if (ix = 0x2243 ∨ ix = 0x2244) ∧ sub = 4 then decide (raw = 2)
  else if ix = 0x1102 ∧ sub = 2 then decide (raw = 1)
  else if 0x1100 ≤ ix ∧ ix ≤ 0x1102 ∧ sub = 4 then contiguousMask raw
  else if 0x1140 ≤ ix ∧ ix ≤ 0x1147 ∧ sub = 7 then
    decide (bits raw 3 0 ≤ 7) && decide (bits raw 7 4 ≤ 7) && decide (bits raw 11 8 ≤ 7)
  else if 0x2A30 ≤ ix ∧ ix ≤ 0x2A37 ∧ sub = 2 then decide (raw = if ix < 0x2A34 then 0 else 1)
  else if ix = 0x2000 ∧ sub = 3 then decide (0x03FF7CEE ≤ raw) && decide (raw ≤ 0x04008312)
  else true

/-- `CMP_BLANK_TIME` as R7 rounds it: to the nearest 2.5 ns, ties to even, in the whole ns the object can hold (DEDUCED, log 71). -/
def blankCode (raw : Nat) : Nat :=
  let steps : Int := roundHalfEven ((raw : Rat) * 2 / 5)
  (roundHalfEven ((steps : Rat) * 5 / 2)).toNat

/-- The code a write carries: rounded to what the object can represent (R7), without its reserved bits, which read as 0 and are ignored
in a write (R8). The bit fields whose tables give only some bits are `NOTIFY_MASK`, `SV_PHASE_MAP`, `PTP_PORT_ENABLE`, `CMP_ROUTE`,
`PWM_POLARITY`, `METER_CORRECTION`, `PULSE_SOURCE`, `ISLAND_ENABLE` and `REVERSAL_PERMIT`; DEDUCED, log entry 20. -/
def writtenCode (key raw : Nat) : Nat :=
  let ix := keyIndex key
  let sub := keySub key
  if 0x1110 ≤ ix ∧ ix ≤ 0x111F then raw % 0x80
  else if 0x1140 ≤ ix ∧ ix ≤ 0x1147 ∧ sub = 2 then raw % 2 ^ 48
  else if 0x1140 ≤ ix ∧ ix ≤ 0x1147 ∧ sub = 7 then raw % 2 ^ 12
  else if ix = 0x2002 ∧ sub = 3 then raw % 8
  else if 0x2820 ≤ ix ∧ ix ≤ 0x2837 ∧ sub = 6 then raw % 8
  else if 0x2820 ≤ ix ∧ ix ≤ 0x2837 ∧ sub = 9 then blankCode raw
  else if 0x2840 ≤ ix ∧ ix ≤ 0x284B ∧ sub = 7 then raw % 4
  else if ix = 0x2A00 ∧ sub = 1 then raw % 4
  else if 0x2A70 ≤ ix ∧ ix ≤ 0x2A73 ∧ sub = 2 then raw % 8 + 0x10 * (raw / 0x10 % 2)
  else if (ix = 0x302A ∨ ix = 0x306A) ∧ sub = 1 then raw % 32
  else if (ix = 0x302B ∨ ix = 0x306B) ∧ sub = 1 then raw % 4
  else raw

/-- The bytes a write of a DOMAIN object leaves: the reserved bytes of `PROG_IMAGE` and `PROG_BIND` are ignored and read as 0 (R8, R156). -/
def writtenBytes (key : Nat) (bs : List Byte) : List Byte :=
  if 0x3140 ≤ keyIndex key ∧ keyIndex key ≤ 0x3147 then
    if keySub key = 2 then bs.mapIdx (fun i b => if 9 ≤ i ∧ i ≤ 11 then 0 else b)
    else if keySub key = 3 then bs.mapIdx (fun i b => if i % 4 = 3 then 0 else b)
    else bs
  else bs

/-- A code is one the object's type and range accept (checks 9 and 10 of R295 for the value itself). -/
def valueOk (r : ObjRow) (key raw : Nat) : Bool := r.ty.legal raw && r.range.holds r.ty raw && extraRange key raw

/-- Every index and sub-index of row `r` present on the code, ascending. -/
def ObjRow.keysOn (r : ObjRow) (code : Nat) : List Nat :=
  (List.range r.count).flatMap (fun i =>
    let ix := r.base + r.stride * i
    if r.fittedOn code ix then
      (List.range (r.hi + 1 - r.lo)).filterMap (fun j =>
        if subFitted code ix (r.lo + j) then some (objKey ix (r.lo + j)) else none)
    else [])

/-- Keys of every P object of the code, in ascending order of index, then sub-index (R321). -/
def persistKeys (code : Nat) : List Nat :=
  (dictRows.filter (fun r => r.persist)).flatMap (fun r => r.keysOn code) |>.mergeSort

/-- Keys of every RWS P object of the code (R450). -/
def rwsKeys (code : Nat) : List Nat :=
  (dictRows.filter (fun r => r.persist && (r.acc == .rws))).flatMap (fun r => r.keysOn code) |>.mergeSort

end Sys2Proof.Machine
end

