-- ==== Sys2Proof/Machine/Types.lean ====
section
/-! DEFINITION. The records State is made of: plain data, one record per subsystem. Everything the object dictionary shows
lives in the object store (`Regs`); the records here hold what the spec gives the machine beyond its objects. -/

namespace Sys2Proof.Machine

/-- The events the manual names (R487, R494), in the order of the model's catalogue. -/
inductive Ev where
  | blockEchoMissing | safetyInputDiscrepancy | fastPathTestFailed | tideHeartbeatLost | degradedTimeExpired
  | safetyParametersConfirmed | breakwaterChannelFault | breakwaterDegraded | breakwaterReset | breakwaterDemand
  | deviceReset | junctionTemperatureHigh | junctionTemperatureVeryHigh | junctionTemperatureNormal
  | timeOutOfTolerance | timeWithinTolerance | timeHoldover | timeStepPending | timeStepped | refLost | refRestored
  | stationClockOutOfRange | utcOffsetChanged
  | stateChanged | preChargeFailed | configurationCommitted
  | voltageSourceChanged | voltageSourceLost | gridModeChanged | rideThroughEntered | rideThroughLimitCrossed
  | dpcEntered | gridVectorStalled | islandingDetected | powerReversal | coreRestart | coastEnded | rampDownIncomplete
  | controlPairFault | loopEngineFault | controlCapacityLost | armCurrentImplausible
  | leafKindMismatch | armCapacityLow | readmissionFailed
  | leafShortCircuit | leafGateSupplyLow | leafOverTemperature | leafBypassLatched | permanentBypassNotConfirmed
  | leafRetired | leafRetirementCleared | bypassHoldAtRisk
  | laneTidePhaseDrift | droveReturnMarginLow | tailBridgeUnavailable | lanePathFault | leavesOrphaned | laneRejoined
  | laneRejoinFailed | leafStray | leafReturned | readmissionComplete | foldEpochOpened
  | meteringIntervalClosed | energyPreset | energyInvalid | meteringChainRestarted
  | sarSelfCalFailed | comparatorWindowLeft | pwmDelayUncalibrated | gpioEdge | mbusStuck | mbusRecovered
  | transceiverAbsent | transceiverLossOfSignal | regulatorFault
  | commandTokenForced | commandTokenLost | commandConflict | outputsMissing
  | eventLogRestored | debugEnabled | debugDisabled
  | upset | lastingFault
  deriving DecidableEq, Repr

/-- An event waiting in the intake of the log (R489). -/
structure IntakeEntry where
  /-- event code (R494) -/
  code : Nat
  /-- source rank (R488) -/
  rank : Nat
  /-- severity -/
  severity : Nat
  /-- instance, 0xFFFF_FFFF for none -/
  inst : Nat
  /-- `EVENT_TIME`, STIME -/
  stime : Nat
  /-- the stamp as station time in 2⁻²⁴ ns, for the order of R489 -/
  at24 : Nat
  /-- `TIME_EPOCH` -/
  epoch : Nat
  /-- `EVENT_FLAGS` -/
  flags : Nat
  /-- argument bytes, at most 24 -/
  args : List Byte
  /-- order of emission within the source -/
  order : Nat
  deriving DecidableEq, Repr

/-- A committed record (R487), with its place in the log. -/
structure LogRecord where
  /-- `EVENT_SEQ` -/
  seq : Nat
  /-- the entry as committed -/
  ent : IntakeEntry
  /-- `LAG`, µs -/
  lag : Nat
  /-- lost to an uncorrectable error in region 7 (R491) -/
  lost : Bool
  deriving DecidableEq, Repr

/-- The event log beyond its objects (R489 to R492). -/
structure EventLog where
  /-- intake, at most 512 entries -/
  intake : List IntakeEntry
  /-- the ring, oldest first, at most 32,768 records -/
  ring : List LogRecord
  /-- the cove tail: the last 1,024 committed records -/
  tail : List LogRecord
  /-- per rank: count of dropped events and the first dropped code -/
  dropped : List (Nat × Nat × Nat)
  /-- emission counter -/
  order : Nat
  /-- alarms not yet acknowledged, by `EVENT_SEQ` -/
  alarms : List Nat
  /-- the cove cold-started and no record has been committed since -/
  cold : Bool
  deriving DecidableEq, Repr

/-- One notification waiting for acknowledgement (R298, R299). -/
structure Notification where
  /-- `SEQ` once sent, 0 before -/
  seq : Nat
  /-- type -/
  kind : Nat
  /-- flags: bit 0 OVERFLOW -/
  flags : Nat
  /-- station time of the occurrence -/
  stime : Nat
  /-- body -/
  body : List Byte
  deriving DecidableEq, Repr

/-- An open block transfer (R288). -/
structure Transfer where
  /-- transfer identifier -/
  ident : Nat
  /-- a block write -/
  write : Bool
  /-- object index -/
  index : Nat
  /-- object sub-index -/
  sub : Nat
  /-- total length -/
  total : Nat
  /-- snapshot of a read, bytes assembled of a write -/
  data : List Byte
  deriving DecidableEq, Repr

/-- A request held out of order (R286). -/
structure HeldRequest where
  /-- sender -/
  net : NetAddr
  /-- the frame -/
  frame : ObjFrame
  /-- station time of its arrival, 2⁻²⁴ ns -/
  since : Nat
  deriving DecidableEq, Repr

/-- A response recorded for repeats (R286). -/
structure SentResponse where
  /-- `SEQ` of the request -/
  seq : Nat
  /-- response frame -/
  frame : ObjFrame
  deriving DecidableEq, Repr

/-- What a session holds beyond its objects at 0x1110 + k. -/
structure Session where
  /-- session identifier, 0 when free -/
  ident : Nat
  /-- host nonce -/
  nh : List Byte
  /-- device nonce -/
  nd : List Byte
  /-- session key Ks, empty before authentication -/
  ks : List Byte
  /-- highest `SEQ` executed -/
  execd : Nat
  /-- requests held out of order -/
  held : List HeldRequest
  /-- the last 16 responses -/
  replies : List SentResponse
  /-- device's outgoing number (R291) -/
  outSeq : Nat
  /-- notifications sent and not acknowledged, then those still to be sent -/
  notes : List Notification
  /-- the next notification carries OVERFLOW -/
  overflow : Bool
  /-- queue named by `QUEUE_SELECT` (R88) -/
  queueSelect : Nat
  /-- open block transfer -/
  transfer : Option Transfer
  /-- highest `ARG` of IMAGE_OUT received (R301) -/
  imageArg : Nat
  /-- identifiers of the sessions that ended last in this slot with their keys (R297) -/
  ended : List (Nat × List Byte)
  deriving DecidableEq, Repr

/-- A free session. -/
def Session.free : Session :=
  { ident := 0, nh := [], nd := [], ks := [], execd := 0, held := [], replies := [], outSeq := 1, notes := [],
    overflow := false, queueSelect := 0, transfer := none, imageArg := 0, ended := [] }

/-- One process-image being assembled (R301). -/
structure ImageAsm where
  /-- cycle k -/
  cycle : Nat
  /-- fragments: offset and bytes -/
  parts : List (Nat × List Byte)
  deriving DecidableEq, Repr

/-- Per master (A, B) process-image state (R301 to R303, R308). -/
structure MasterImages where
  /-- images under assembly -/
  asm : List ImageAsm
  /-- cycles whose image is complete, of the previous, present and next cycle -/
  complete : List Nat
  /-- those of them whose image was applied -/
  applied : List Nat
  /-- those of them with a refused entry -/
  refused : List Nat
  /-- consecutive cycles without a complete image -/
  missed : Nat
  /-- OUTPUTS_MISSING -/
  outputsMissing : Bool
  /-- a conflict arose in the present cycle -/
  conflict : Bool
  /-- what this master wrote in the present cycle: key and code -/
  wrote : List (Nat × Nat)
  /-- refused writes remembered for the present cycle (R308) -/
  remembered : List (Nat × Nat)
  /-- entries of this master's unapplied image of the present cycle that the holder has not written yet -/
  shadow : List (Nat × Nat)
  /-- differing entries of that image so far -/
  shadowHits : Nat
  /-- images of this master apply from this cycle on (R306) -/
  applyFrom : Nat
  /-- mapped input values as they stood just after the last reference mark, with its tide (R302) -/
  snap : Nat × List Byte
  deriving DecidableEq, Repr

/-- No image. -/
def MasterImages.empty : MasterImages :=
  { asm := [], complete := [], applied := [], refused := [], missed := 0, outputsMissing := false, conflict := false, wrote := [],
    remembered := [], shadow := [], shadowHits := 0, applyFrom := 0, snap := (0, []) }

/-- A configuration image (R319 to R321): header fields that vary, and the values that differ from the factory's. -/
structure Image where
  /-- `GENERATION` -/
  generation : Nat
  /-- `DICTIONARY` -/
  dictionary : Nat
  /-- `CODE` -/
  code : Nat
  /-- `COMMIT_SECONDS` -/
  seconds : Nat
  /-- P objects by key, those that differ from the factory value -/
  vals : List (Nat × Nat)
  /-- P objects of type DOMAIN or STR -/
  blobs : List (Nat × List Byte)
  /-- records of V or absent objects kept for validation to refuse (R321) -/
  extra : List (Nat × List Byte)
  deriving DecidableEq, Repr

/-- What a slot of the configuration EEPROM holds (R319, R329). -/
inductive Slot where
  /-- every byte 0xFF -/
  | blank
  /-- bytes that fail the checks -/
  | bad
  /-- a stored image whose check passes -/
  | good (im : Image) (commits lastCommit : Nat)
  deriving DecidableEq, Repr

/-- A re-tide or step silence of the lanes under way (R328, R359): after the last tide the transmitters are off for 16 tides, in which
no tide starts (R420). -/
structure Silence where
  /-- last tide at the old settings -/
  lastTide : Nat
  /-- new settings wait to apply (re-tide) -/
  retide : Bool
  /-- offset by which station time is to be set back at the end, ns -/
  stepBy : Option Int
  /-- the step was a `TIME_SET` -/
  setWrite : Bool
  deriving DecidableEq, Repr

/-- Configuration beyond its objects (R319 to R328). -/
structure Configuration where
  /-- the draft -/
  draft : Image
  /-- the committed image -/
  committed : Option Image
  /-- slot 0 -/
  slot0 : Slot
  /-- slot 1 -/
  slot1 : Slot
  /-- the draft is marked invalid under R79 -/
  draftDamaged : Bool
  /-- a validation is running -/
  validating : Bool
  /-- the draft it judges, with its `DRAFT_GENERATION` (R325) -/
  judged : Option (Image × Nat)
  /-- the committed image is valid: it was committed, or restored with status 0x00 (R329, R333) -/
  valid : Bool
  /-- a validation of the committed image at start-up is running (R329) -/
  restoring : Bool
  /-- a commit is running: 0 no, 1 writing, 2 verifying, 3 applying -/
  commitStep : Nat
  /-- the commit runs in HELD -/
  commitHeld : Bool
  /-- consecutive GOOD frames since a re-tide, per drove -/
  retideGood : List (Nat × Nat)
  /-- station time at which the lanes restarted after a re-tide, while the station waits to go to READY (R328) -/
  retideWait : Option Nat
  /-- the committed values take effect at the next tide start (R326 step 3) -/
  applyDue : Bool
  /-- `HELD_REASON` chosen at the end of BOOT, 0 before (R329) -/
  bootReason : Nat
  deriving DecidableEq, Repr

/-- A transition waiting for a tide start (R332, R335, R198). -/
structure Cause where
  /-- station state to go to -/
  target : Nat
  /-- cause code of R335 -/
  cause : Nat
  /-- first tide number at which it may be taken -/
  due : Nat
  /-- `HELD_REASON` or `RAMP_DOWN_CAUSE` where the target takes one -/
  arg : Nat
  deriving DecidableEq, Repr

/-- The station state machine beyond its objects (R332 to R341). -/
structure StationMachine where
  /-- transitions waiting -/
  causes : List Cause
  /-- request pending: its code, 0 none -/
  request : Nat
  /-- the demand mark of this tide has passed -/
  afterDemand : Bool
  /-- integrator of the pre-charge loop (R337) -/
  chargeX : Rat
  /-- duty of the pre-charge pair -/
  chargeDuty : Rat
  deriving DecidableEq, Repr

/-- A foreign master heard in Announce messages (R349). -/
structure ForeignMaster where
  /-- port it is heard on -/
  port : Nat
  /-- sender's clock identity -/
  clock : Nat
  /-- sender's port number -/
  portNumber : Nat
  /-- grandmaster identity -/
  gm : Nat
  /-- priority1 -/
  priority1 : Nat
  /-- clockClass -/
  clockClass : Nat
  /-- clockAccuracy -/
  accuracy : Nat
  /-- offsetScaledLogVariance -/
  variance : Nat
  /-- priority2 -/
  priority2 : Nat
  /-- stepsRemoved -/
  steps : Nat
  /-- currentUtcOffset -/
  utc : Int
  /-- domainNumber -/
  domain : Nat
  /-- Announce messages heard without a receipt timeout -/
  announces : Nat
  /-- three Sync intervals have passed without a Sync -/
  syncMissed : Bool
  deriving DecidableEq, Repr

/-- An entry of a transmit timestamp queue (R352). -/
structure TsEntry where
  /-- identifier -/
  ident : Nat
  /-- corrected timestamp -/
  stime : Nat
  deriving DecidableEq, Repr

/-- One PTP port (R348 to R352). -/
structure PtpPort where
  /-- sequenceId of the delay exchange under way -/
  exchange : Option Nat
  /-- next sequenceId -/
  nextSeq : Nat
  /-- transmit timestamp queue, oldest first -/
  queue : List TsEntry
  /-- mean path delay, ns -/
  delay : Rat
  /-- origin and receipt of the last Sync on the port, ns -/
  lastSync : Option (Rat × Rat)
  deriving DecidableEq, Repr

/-- An idle PTP port. -/
def PtpPort.idle : PtpPort := { exchange := none, nextSeq := 0, queue := [], delay := 0, lastSync := none }

/-- Station time and its discipline (R344 to R361). -/
structure TimeUnit where
  /-- the station time counter, in 2⁻²⁴ ns since the PTP epoch (R344) -/
  acc : Nat
  /-- the increment in force; a new `TIME_INCREMENT` waits for a tide start -/
  inc : Nat
  /-- error estimate e at `errAt`, ns; none when unknown (R347) -/
  err : Option Rat
  /-- counter at which `err` was taken -/
  errAt : Nat
  /-- counter at which the present or last holdover began -/
  heldAt : Nat
  /-- e has exceeded `TIME_ALARM_BOUND` -/
  alarm : Bool
  /-- last Sync offsets, newest first, ns (R347) -/
  offsets : List Rat
  /-- offsets of the run that decides on a master (R355) -/
  run : List Rat
  /-- consecutive offsets below the lock threshold -/
  below : Nat
  /-- consecutive offsets above four times the threshold -/
  above : Nat
  /-- a decision m has been taken on the active master -/
  decided : Bool
  /-- frequency estimate, ppb -/
  freq : Rat
  /-- samples of the frequency estimate while LOCKED with their instants, newest first (R356) -/
  freqHist : List (Nat × Rat)
  /-- offset still to be removed by slew, ns -/
  slewLeft : Rat
  /-- slew of the last tide c(n), ns -/
  slewNow : Rat
  /-- frequency in force in the increment, ppb (moves at most SLEW_MAX / 4 a tide) -/
  freqNow : Rat
  /-- foreign masters -/
  masters : List ForeignMaster
  /-- index key of the active master: port and clock -/
  active : Option (Nat × Nat)
  /-- station time of the last Sync of the active master -/
  lastSync : Nat
  /-- logSyncInterval of the active master -/
  logSync : Int
  /-- time on the cove before the counter was loaded from it, 2⁻²⁴ ns (R347) -/
  coveSpan : Nat
  /-- a permission of `TIME_STEP_PERMIT` is held -/
  permit : Bool
  /-- an acquisition has been made since the reset (mode 1, R353) -/
  acquired : Bool
  /-- a step decided and waiting for the next tide start: offset ns, and whether `TIME_SET` asked for it -/
  stepDue : Option (Int × Bool)
  /-- BOUND of the value a `TIME_SET` wrote -/
  setBound : Nat
  /-- ports -/
  ports : List PtpPort
  /-- level of PPS_OUT -/
  ppsHigh : Bool
  /-- counter at the last rising edge of PPS_OUT -/
  ppsLast : Nat
  /-- a step waits to be followed by the first permitted pulse (R361) -/
  ppsAfterStep : Bool
  /-- drifts: time frozen counts as REF frozen -/
  frozenSince : Nat
  /-- the reference in use was lost and has not been restored (R364) -/
  refDown : Bool
  /-- the next tide start takes its number from station time alone (R20, R328, R359) -/
  restartTide : Bool
  /-- silence of the lanes for a step or a re-tide -/
  silence : Option Silence
  /-- phase in force at each clock output, steps (R366) -/
  clkPhase : List Int
  deriving DecidableEq, Repr

/-- The cove (R478 to R481): what survives without auxiliary power. -/
structure Cove where
  /-- station time in the KEEP counter, 2⁻²⁴ ns -/
  time : Nat
  /-- quality at the handover -/
  quality : Nat
  /-- the cove holds valid contents -/
  alive : Bool
  /-- stored accumulators with check (R383): meter by meter raw values, none when invalid -/
  energy : Option (List Nat)
  /-- die temperature at which each PLL's search was stored, 0.01 °C (R363) -/
  pllTemp : List Int
  /-- error estimate at handover, ns -/
  err : Option Rat
  /-- counter at the handover -/
  since : Nat
  deriving DecidableEq, Repr

/-- Reset controller and power controller beyond their objects (R457 to R477). -/
structure ResetPower where
  /-- how many domains of R457 are released, in order -/
  released : Nat
  /-- the shared store is initialised (R462) -/
  storeReady : Bool
  /-- active reset sources, bits of R485 -/
  sources : Nat
  /-- reach of each active source: pairs of source bit and first domain held -/
  reach : List (Nat × Nat)
  /-- every source active during the reset under way -/
  seen : Nat
  /-- widest reach of the reset under way: 1 CORE, 2 SYSTEM, 3 FULL, 0 none -/
  widest : Nat
  /-- REF was missing during the release -/
  refMissing : Bool
  /-- counter at the release of the first domain in reach -/
  bootStart : Nat
  /-- failed wake attempts -/
  wakeTries : Nat
  /-- a wake from NAP or DORMANT is under way -/
  waking : Bool
  /-- counter at the start of the wake -/
  wakeStart : Nat
  /-- CORE_RET pin -/
  coreRet : Bool
  /-- REF_OSC_EN pin -/
  refOscEn : Bool
  /-- PG_CORE reported -/
  pgCore : Bool
  /-- fallback service of R477 runs -/
  fallback : Bool
  /-- reach of a `DEVICE_RESET` accepted, applied after its response, 0 none (R460) -/
  resetDue : Nat
  /-- rate or sleep the lanes change to (1 full rate, 2 keep-alive, 3 sleep, 0 none) and the tides until then (R69, R70, R474) -/
  entering : Nat × Nat
  /-- quiet tides left after a change of the lane rate (R69) -/
  quiet : Nat
  /-- event that the DORMANT state entered last ends for, if one bounds it (R474) -/
  wakeAt : Option Nat
  /-- the cove cold-started since the last reset (R485) -/
  coveLost : Bool
  /-- die temperatures, control and analogue, 0.01 °C -/
  dieTemp : List Int
  /-- last temperature event: 0 none, 1 high, 2 above 155 °C -/
  tempAlarm : Nat
  deriving DecidableEq, Repr

/-- One queued sample request of the counter block (R499). -/
structure PmcRequest where
  /-- counter -/
  counter : Nat
  /-- FAB edge of the overflow -/
  edge : Nat
  deriving DecidableEq, Repr

/-- One captured sample record (R499). -/
structure PmcSample where
  /-- tide number -/
  tide : Nat
  /-- ns into the tide -/
  offset : Nat
  /-- sample count -/
  seq : Nat
  /-- counter -/
  counter : Nat
  /-- FAB cycles from overflow to capture -/
  skid : Nat
  /-- instance -/
  inst : Nat
  /-- context word -/
  context : Nat
  /-- counter at capture -/
  value : Nat
  deriving DecidableEq, Repr

/-- Counter block beyond its objects (R495 to R499). -/
structure PmcUnit where
  /-- waiting sample requests, in order of overflow -/
  waiting : List PmcRequest
  /-- sample ring, oldest first, at most 512 -/
  ring : List PmcSample
  /-- samples captured so far -/
  seq : Nat
  /-- FAB edge count -/
  edge : Nat
  /-- occupancy presented to each counter in the last cycle (R496) -/
  last : List Nat
  deriving DecidableEq, Repr

/-- One latency histogram beyond its settings (R500). -/
structure Histogram where
  /-- station time of the last clear -/
  cleared : Nat
  /-- COUNT -/
  count : Nat
  /-- SUM -/
  sum : Nat
  /-- MIN -/
  min : Nat
  /-- MAX -/
  max : Nat
  /-- UNDER -/
  under : Nat
  /-- OVER -/
  beyond : Nat
  /-- bins, those above 0 -/
  bins : List (Nat × Nat)
  deriving DecidableEq, Repr

/-- A cleared histogram. MIN and MAX of an empty histogram read 0 (DESIGN CHOICE: the spec gives none). -/
def Histogram.clear (t : Nat) : Histogram :=
  { cleared := t, count := 0, sum := 0, min := 0, max := 0, under := 0, beyond := 0, bins := [] }

/-- Debug port (R502). -/
structure DebugPort where
  /-- nonce of the last `DEBUG_CHALLENGE`, empty when none is outstanding -/
  nonce : List Byte
  /-- boundary-scan instruction loaded: 0 BYPASS, 1 IDCODE, 2 SAMPLE/PRELOAD, 3 EXTEST, 4 CLAMP -/
  instr : Nat
  deriving DecidableEq, Repr

/-- Everything the block sends out, newest first. -/
inductive Out where
  /-- a frame of the object protocol, with its 802.1Q priority -/
  | datagram (dest : NetAddr) (pcp : Nat) (frame : ObjFrame)
  /-- an ARP or ICMP echo reply, with its 802.1Q tag -/
  | netReply (port kind : Nat) (vlan : Option Nat) (data : List Byte)
  /-- a PTP message: port, messageType, 802.1Q tag, sequenceId, correction ns -/
  | ptp (port kind : Nat) (vlan : Option Nat) (seqId : Nat) (correction : Rat)
  /-- an ordered set on a lane: drove, set name code, argument -/
  | orderedSet (drove kind arg : Nat)
  /-- a tide frame on a lane -/
  | tideFrame (drove : Nat) (bytes : List Byte)
  /-- a slack-water frame on a lane -/
  | slackFrame (drove : Nat) (bytes : List Byte)
  /-- a pin driven: pin class, number, level -/
  | pin (kind number : Nat) (level : Bool)
  /-- a pulse on an output -/
  | pulse (kind number width : Nat)
  /-- a transaction on the management bus: address, bytes written, bytes to read -/
  | mbus (addr : Nat) (wr : List Byte) (rd : Nat)
  /-- a byte of a memory shifted out of the debug port -/
  | tdo (v : Byte)
  deriving DecidableEq, Repr

end Sys2Proof.Machine
end

