-- ==== Sys2Proof/Machine/TypesGrid.lean ====
section
/-! DEFINITION. The records of the grid interface, the control laws, their placing on pairs and engines, the user programs and the
trace: what the spec gives them beyond their objects. Quantities in per unit are exact rationals. -/

namespace Sys2Proof.Machine

/-- The reference set of a converter (R191): currents per axis, and the DC side. -/
structure RefSet where
  /-- i_P* -/
  ip : Rat
  /-- i_Q* -/
  iq : Rat
  /-- negative-sequence active axis -/
  np : Rat
  /-- negative-sequence reactive axis -/
  nq : Rat
  /-- P_dc* -/
  pdc : Rat
  /-- P_bat* -/
  pbat : Rat
  deriving DecidableEq, Repr

/-- No references. -/
def RefSet.zero : RefSet := { ip := 0, iq := 0, np := 0, nq := 0, pdc := 0, pbat := 0 }

/-- The grid set of one tide (R165). Angles are in turns. -/
structure GridSet where
  /-- θ(n) -/
  theta : Rat
  /-- θ_a -/
  thetaA : Rat
  /-- ω, pu of rated frequency -/
  omega : Rat
  /-- rate of change of frequency, mHz/s -/
  rocof : Int
  /-- positive-sequence active axis -/
  vp : Rat
  /-- positive-sequence reactive axis -/
  vq : Rat
  /-- negative-sequence active axis -/
  np : Rat
  /-- negative-sequence reactive axis -/
  nq : Rat
  /-- p, pu -/
  p : Rat
  /-- q, pu -/
  q : Rat
  /-- v_α at S(n) -/
  va : Rat
  /-- v_β at S(n) -/
  vb : Rat
  /-- S(n) - t_s, ns -/
  age : Int
  /-- measured i_P of S(n) -/
  ip : Rat
  /-- measured i_Q of S(n) -/
  iq : Rat
  /-- the same of the negative sequence, which the phases share -/
  inp : Rat
  /-- negative-sequence reactive current -/
  inq : Rat
  deriving DecidableEq, Repr

/-- Before the first grid set. -/
def GridSet.zero : GridSet :=
  { theta := 0, thetaA := 0, omega := 0, rocof := 0, vp := 0, vq := 0, np := 0, nq := 0, p := 0, q := 0, va := 0, vb := 0, age := 0,
    ip := 0, iq := 0, inp := 0, inq := 0 }

/-- Means of one 100 ms interval (R166). -/
structure Bucket where
  /-- which interval of station time -/
  index : Nat
  /-- sum of v+ -/
  v : Rat
  /-- samples -/
  nv : Nat
  /-- sum of q -/
  q : Rat
  /-- grid sets -/
  nq : Nat
  deriving DecidableEq, Repr

/-- A point-of-connection sample on its way into the grid interface (R161). -/
structure PocVolts where
  /-- v_a, mV -/
  va : Rat
  /-- v_b, mV -/
  vb : Rat
  /-- v_c, mV -/
  vc : Rat
  /-- sampling instant, ns -/
  ns : Nat
  /-- arrival, ns -/
  arrive : Nat
  /-- valid as delivered -/
  good : Bool
  deriving DecidableEq, Repr

/-- What the grid set and the currents of a sample kept for one second (R175, R186). -/
structure Kept where
  /-- sampling instant, 2⁻²⁴ ns -/
  stamp : Nat
  /-- v+ -/
  v : Rat
  /-- i_P -/
  ip : Rat
  /-- i_Q -/
  iq : Rat
  /-- angle of the positive sequence, turns -/
  angle : Rat
  /-- ω -/
  omega : Rat
  deriving DecidableEq, Repr

/-- A converter: its grid interface and its GRID and ENERGY items (R160 to R198). -/
structure Converter where
  /-- sampling instants of the last valid sample of sources 0, 1 and 2 -/
  seen : List (Option Nat)
  /-- samples of the metering chain that have still to arrive, oldest first: source and sample (R374) -/
  flow : List (Nat × PocVolts)
  /-- sum of the ages of the samples in use since the last grid set, ns -/
  ageSum : Int
  /-- how many -/
  ageCount : Nat
  /-- generalised integrators: v′_α, qv′_α, v′_β, qv′_β (R163) -/
  sogi : List Rat
  /-- v_α before separation -/
  va : Rat
  /-- v_β before separation -/
  vb : Rat
  /-- positive sequence -/
  vpa : Rat
  /-- positive sequence -/
  vpb : Rat
  /-- negative sequence -/
  vna : Rat
  /-- negative sequence -/
  vnb : Rat
  /-- integrator of the loop -/
  x : Rat
  /-- ω -/
  omega : Rat
  /-- θ, turns -/
  theta : Rat
  /-- sampling instant of the latest sample processed -/
  stamp : Option Nat
  /-- instant since when the phase error is below 5° with v+ at least 0.1 pu (R164) -/
  goodSince : Option Nat
  /-- instant since when it is above 10° -/
  badSince : Option Nat
  /-- ω over `ROCOF_WINDOW`, newest first -/
  omegas : List (Nat × Rat)
  /-- the last second, newest first -/
  kept : List Kept
  /-- 100 ms means of the last second, newest first -/
  buckets : List Bucket
  /-- first sample of the ride-through condition present (R175) -/
  rtFrom : Option Nat
  /-- v_pre -/
  vPre : Rat
  /-- i_P,pre -/
  ipPre : Rat
  /-- i_Q,pre -/
  iqPre : Rat
  /-- the sector after a source change is not counted (R198) -/
  sectorFresh : Bool
  /-- grid set of the present tide -/
  set : GridSet
  /-- direct power control becomes active at the next tide start -/
  dpcDue : Bool
  /-- direct power control ends at the next tide start -/
  dpcEnd : Bool
  /-- S_P -/
  sP : Int
  /-- S_Q -/
  sQ : Int
  /-- vector k, 0 before the first -/
  vector : Nat
  /-- emf of the tide, α -/
  emfA : Rat
  /-- emf of the tide, β -/
  emfB : Rat
  /-- consecutive tides with a current error above `DPC_ENTRY_ERR` -/
  errRun : Nat
  /-- setpoints copied at the last reference mark (R29): P, Q, V, PF, P_BAT, VDC -/
  setp : List Rat
  /-- P_target after the ramp -/
  pTarget : Rat
  /-- P_ac* -/
  pAc : Rat
  /-- Q* -/
  qStar : Rat
  /-- P_ac* moves at `P_RAMP_RATE` after a reversal, a run or a change of mode -/
  ramping : Bool
  /-- Q* moves at `P_RAMP_RATE` after a run or a change of mode -/
  qRamping : Bool
  /-- references published at the last reference mark -/
  refs : RefSet
  /-- the rise limit of R176 is in force -/
  rising : Bool
  /-- headroom back-off of the active axis (R140) -/
  backP : Rat
  /-- of the reactive axis -/
  backQ : Rat
  /-- `GRID_MODE` in force (R174) -/
  mode : Nat
  /-- `ISLAND_REACTION` 3 writes `GRID_MODE` at the next tide start (R188) -/
  modeDue : Bool
  /-- θ_v, turns -/
  thetaV : Rat
  /-- ω_v -/
  omegaV : Rat
  /-- E -/
  eMag : Rat
  /-- reference marks in a row without the limit of R173 -/
  unlimited : Nat
  /-- integrator of the DC voltage loop -/
  xDc : Rat
  /-- output of the DC voltage loop at the last reference mark (R168) -/
  pdcLoop : Rat
  /-- integrator of the energy loop -/
  xE : Rat
  /-- stored energy of the converter, pu -/
  energy : Rat
  /-- a probe period runs its bursts: 1, else 0 (R187) -/
  probe : Nat
  /-- start of the probe period -/
  probeFrom : Nat
  /-- sum of the negative-sequence voltage in the second half of the first burst: active, reactive, count -/
  probeSum : Rat × Rat × Nat
  /-- the same of the second burst -/
  probeMinus : Rat × Rat × Nat
  /-- consecutive periods above `PROBE_Z_LIMIT` -/
  probeOver : Nat
  /-- station time until which the vector shift method is suspended after RIDE-THROUGH or direct power control (R186) -/
  shiftFrom : Nat
  /-- station time of the last reversal -/
  lastReversal : Option Nat
  /-- start of the dwell -/
  dwellFrom : Option Nat
  /-- set captured by the tide reference generator (R191) -/
  captured : RefSet
  /-- captured θ_v, ω_v, E -/
  capturedV : Rat × Rat × Rat
  /-- captured v_pre and i_P,pre -/
  capturedPre : Rat × Rat
  /-- references at the entry to RAMP-DOWN -/
  entry : RefSet
  /-- filtered axis values (R146) -/
  axes : Rat × Rat
  /-- gains in force: `KP_I`, `KI_I`, `KP_C`, `KI_C`, `KP_E`, `KI_E`, `K_BAL`, `K_FF` -/
  gains : List Rat
  /-- gains of the previous tide -/
  gainsOld : List Rat
  /-- tides left of the blend -/
  blend : Nat
  deriving DecidableEq, Repr

/-- A converter after a core reset. -/
def Converter.reset : Converter :=
  { seen := [none, none, none], flow := [], ageSum := 0, ageCount := 0, sogi := [0, 0, 0, 0], va := 0, vb := 0, vpa := 0, vpb := 0,
    vna := 0, vnb := 0, x := 0, omega := 1, theta := 0, stamp := none, goodSince := none, badSince := none, omegas := [], kept := [],
    buckets := [], rtFrom := none, vPre := 0, ipPre := 0, iqPre := 0, sectorFresh := true, set := GridSet.zero, dpcDue := false,
    dpcEnd := false, sP := 1, sQ := 1, vector := 0, emfA := 0, emfB := 0, errRun := 0, setp := [0, 0, 1, 1, 0, 1], pTarget := 0,
    pAc := 0, qStar := 0, ramping := false, qRamping := false, refs := RefSet.zero, rising := false, backP := 0, backQ := 0, mode := 0,
    modeDue := false, thetaV := 0, omegaV := 1, eMag := 0, unlimited := 0, xDc := 0, pdcLoop := 0, xE := 0, energy := 0,
    probe := 0, probeFrom := 0, probeSum := (0, 0, 0), probeMinus := (0, 0, 0), probeOver := 0, shiftFrom := 0,
    lastReversal := none, dwellFrom := none, captured := RefSet.zero, capturedV := (0, 1, 0), capturedPre := (0, 0), entry := RefSet.zero, axes := (0, 0), gains := [], gainsOld := [], blend := 0 }

/-- A leg (R136 to R140, R148). -/
structure Leg where
  /-- x_p, positive sequence -/
  xp : Rat
  /-- x_q, positive sequence -/
  xq : Rat
  /-- x_p, negative sequence -/
  xnp : Rat
  /-- x_q, negative sequence -/
  xnq : Rat
  /-- x_c -/
  xc : Rat
  /-- i_c*, published at the last reference mark -/
  icRef : Rat
  /-- captured i_c* (R191) -/
  icCaptured : Rat
  /-- e*_P -/
  ep : Rat
  /-- e*_Q -/
  eq : Rat
  /-- u_c -/
  uc : Rat
  /-- i_c of S(n) -/
  ic : Rat
  /-- predicted i_sum and i_diff of the next sample; none where the evaluation is skipped -/
  pred : Option (Rat × Rat)
  /-- r_Σ -/
  rSum : Rat
  /-- r_Δ -/
  rDiff : Rat
  /-- consecutive evaluated tides above the threshold, upper arm -/
  runU : Nat
  /-- the same, lower arm -/
  runL : Nat
  /-- W_Σ -/
  wSum : Rat
  /-- W_Δ -/
  wDiff : Rat
  deriving DecidableEq, Repr

/-- An idle leg. -/
def Leg.zero : Leg :=
  { xp := 0, xq := 0, xnp := 0, xnq := 0, xc := 0, icRef := 0, icCaptured := 0, ep := 0, eq := 0, uc := 0, ic := 0, pred := none,
    rSum := 0, rDiff := 0, runU := 0, runL := 0, wSum := 0, wDiff := 0 }

/-- A user program (R151, R152). -/
structure UserProg where
  /-- data words, raw binary32 -/
  data : List Nat
  /-- data words as the checkpoint of the last demand mark holds them (R141) -/
  kept : List Nat
  /-- output slots, raw binary32 -/
  out : List Nat
  /-- slots and data words of completed runs by tide, taken at that tide's demand mark -/
  next : List (Nat × List Nat × List Nat)
  /-- consecutive misses -/
  missRun : Nat
  /-- the numeric flag of R152 -/
  numeric : Bool
  deriving DecidableEq, Repr

/-- A program that has not run. -/
def UserProg.off : UserProg := { data := [], kept := [], out := List.replicate 64 0, next := [], missRun := 0, numeric := false }

/-- What the loop engines took at the return deadline of a tide (R23, R155). -/
structure EngineInputs where
  /-- tide -/
  tide : Nat
  /-- grid sets of both converters -/
  sets : List GridSet
  /-- reference sets of both -/
  refs : List RefSet
  /-- i_c* of the six legs -/
  ic : List Rat
  /-- `BATTERY_POWER` of the twelve arms -/
  battery : List Rat
  /-- gains in force, both converters -/
  gains : List (List Rat)
  /-- gains of the tide before -/
  gainsOld : List (List Rat)
  /-- sectors of both (R180) -/
  sectors : List Nat
  deriving DecidableEq, Repr

/-- Where the work of pairs and engines stands (R141 to R145), coast and ramp-down (R192 to R197), the sensor checks (R150). -/
structure Cluster where
  /-- pair that holds GRID0, GRID1, ENERGY0, ENERGY1, STATION; 0xFF none -/
  items : List Nat
  /-- engine that holds LEG0 to LEG5; 0xFF none -/
  legs : List Nat
  /-- engine that holds user programs 0 to 7; 0xFF none -/
  progs : List Nat
  /-- units configured for the items when they were last placed (R143) -/
  itemsCfg : List Nat
  /-- the same of the legs -/
  legsCfg : List Nat
  /-- the same of the programs -/
  progsCfg : List Nat
  /-- items return to their configured units at the next tide start -/
  rebalance : Bool
  /-- consecutive missed reference marks of the five items -/
  refMiss : List Nat
  /-- consecutive missed demand marks of the twelve arms -/
  demandMiss : List Nat
  /-- items that moved in this tide, which publish nothing at its reference mark, and the pair that failed (R143) -/
  movedItems : List (Nat × Nat)
  /-- legs that moved, the engine that failed, and the tide of the first samples that the new engine computes (R144) -/
  movedLegs : List (Nat × Nat × Nat)
  /-- the restarted pairs are ready and take up their items at the next tide start (R194) -/
  takeUp : Bool
  /-- the pairs hold their items and publish -/
  serving : Bool
  /-- the outputs have been started for the present run (R339) -/
  started : Bool
  /-- COAST ends at the next tide start: 1 the pairs published -/
  coastDone : Bool
  /-- station time at which COAST began -/
  coastFrom : Option Nat
  /-- ū of the arms when it began -/
  coastU : List Nat
  /-- station time at which the last COAST ended -/
  lastCoast : Option Nat
  /-- a lasting fault of the COAST source refuses `CORE_RESTART` until a core reset (R263) -/
  noCoast : Bool
  /-- station time at which RAMP-DOWN began -/
  rampFrom : Option Nat
  /-- sampling instant, ns, since which every leg's |i_ac| has stayed below 0.02 pu in RAMP-DOWN (R197) -/
  calmFrom : Option Nat
  /-- no ride-through condition has been present for `RT_EXIT_HOLD` (R179) -/
  rtClear : Bool
  /-- `BATTERY_POWER` of the twelve arms, published at the last reference mark -/
  battery : List Rat
  /-- the same as captured (R191) -/
  batteryCaptured : List Rat
  /-- last raw code of each sensor sample and how many tides it has stood unchanged -/
  stuck : List (Int × Nat)
  /-- consecutive tides with the sum check of a converter above the threshold -/
  sumRun : List Nat
  /-- largest residual of each arm in this second, PU24 -/
  residual : List Nat
  /-- user programs 0 to 7 -/
  user : List UserProg
  /-- host inputs as the last reference mark took them, raw binary32 (R29, R304) -/
  hostIn : List Nat
  /-- inputs of the last two tides, newest first -/
  latched : List EngineInputs
  deriving DecidableEq, Repr

/-- The cluster after a core reset, with the items on their default units (R141). -/
def Cluster.reset : Cluster :=
  { items := [0, 1, 2, 2, 3], legs := [0, 1, 2, 3, 4, 5], progs := List.replicate 8 0xFF,
    itemsCfg := [0, 1, 2, 2, 3], legsCfg := [0, 1, 2, 3, 4, 5], progsCfg := List.replicate 8 0xFF, rebalance := false,
    refMiss := List.replicate 5 0, demandMiss := List.replicate 12 0, movedItems := [], movedLegs := [],
    takeUp := false, serving := true, started := false, coastDone := false, coastFrom := none,
    coastU := [], lastCoast := none, noCoast := false, rampFrom := none, calmFrom := none, rtClear := false, battery := List.replicate 12 0,
    batteryCaptured := List.replicate 12 0, stuck := List.replicate 64 (0, 0), sumRun := [0, 0],
    residual := List.replicate 12 0, user := List.replicate 8 UserProg.off, hostIn := List.replicate 64 0, latched := [] }

/-- The trace (R157, R158). -/
structure TraceUnit where
  /-- samples of the 64 channels, newest first: tide and raw binary32 -/
  chans : List (List (Nat × Nat))
  /-- samples invalidated by parity errors: channel and tide -/
  bad : List (Nat × Nat)
  deriving DecidableEq, Repr

/-- An empty trace. -/
def TraceUnit.empty : TraceUnit := { chans := List.replicate 64 [], bad := [] }

end Sys2Proof.Machine
end

