-- ==== Sys2Proof/Machine/TypesLink.lean ====
section
/-! DEFINITION. The records of the drove links, the leaves, the queues, the shepherds and Breakwater: what the spec gives
them beyond their objects. -/

namespace Sys2Proof.Machine

/-- Bytes 0 to 5 of a command slot (R45). -/
structure CmdSlot where
  /-- `MODE` (R46) -/
  mode : Nat
  /-- `EDGE_OFFSET`, ns -/
  edge : Nat
  /-- `SETPOINT`, raw 16 bits -/
  setpoint : Nat
  deriving DecidableEq, Repr

/-- The block command (R102). -/
def CmdSlot.block : CmdSlot := { mode := 4, edge := 0, setpoint := 0 }

/-- A leaf, as the device knows it. -/
structure Leaf where
  /-- STATUS of the last slot the leaf wrote in a GOOD frame -/
  statusNew : Nat
  /-- the same as it stood at the present tide start (R95) -/
  statusAt : Nat
  /-- consecutive tides whose slot was missing -/
  missRun : Nat
  /-- consecutive tides whose slot was returned (R272) -/
  goodRun : Nat
  /-- consecutive valid slots with LEVEL_NOW bypass (R235) -/
  bypassRun : Nat
  /-- last valid `CAP_VOLTAGE`, 0.1 V -/
  lastCap : Nat
  /-- STRAY (R269) -/
  stray : Bool
  /-- KIND MISMATCH entered (R108) -/
  kindBad : Bool
  /-- level commanded for the last ranked tide: 0 bypass, 1 positive, 2 negative, 3 blocked (R113) -/
  levelPrev : Nat
  /-- tide of the last transition commanded -/
  lastTrans : Nat
  /-- in readmission and not yet eligible (R126) -/
  admitting : Bool
  /-- consecutive tides inside the admission window -/
  admitHold : Nat
  /-- words of the slow record under assembly, in order (R51) -/
  slowWords : List Nat
  /-- every word so far arrived -/
  slowOk : Bool
  /-- last accepted slow records with their tide, newest first, at most 4 (R52, R72) -/
  slow : List (Nat × List Byte)
  /-- the last assembly ended in a gap -/
  slowGap : Bool
  /-- sightings of GATE_UV whose records have not arrived, oldest first: BYPASS_LATCHED was seen beside it (R234, R240) -/
  uvWait : List Bool
  /-- BYPASS_LATCHED has been seen beside the GATE_UV that stands now (R240) -/
  uvHeld : Bool
  /-- the records of this GATE_UV so far: 0 none, 1 another supply than 4, 2 supply 4 or none in time, 3 acted on (R240) -/
  uvNamed : Nat
  /-- automatic clears whose delay runs (R233) -/
  scDelays : Nat
  /-- automatic clears that wait for their conditions (R233) -/
  scClears : Nat
  /-- a PERMANENT_BYPASS is in flight -/
  bypassCmd : Bool
  /-- it is still to be appended: class 1 had no room for it (R85, R238) -/
  bypassOwed : Bool
  /-- penned and its fold handled (R238, R260) -/
  penDone : Bool
  /-- serial number recorded since the last core reset (R271) -/
  serial : Option Nat
  /-- forward latency announced, 0.1 ns -/
  fwd : Nat
  /-- return latency announced, 0.1 ns -/
  ret : Nat
  /-- a WELCOME is owed (R55) -/
  welcomeOwed : Bool
  /-- the owed WELCOME opens an epoch -/
  welcomeNew : Bool
  /-- `SLACK_SEQ` of the frames that have carried the WELCOME owed -/
  welcomeFrames : List Nat
  /-- delays carried in the last WELCOME -/
  welcomeSent : Option (Nat × Nat)
  /-- tide of the last ANNOUNCE and the epoch it named (R276) -/
  announced : Option (Nat × Nat)
  /-- the fold holds an accepted epoch (R257) -/
  accepted : Bool
  /-- the fold's epoch was ended (R256, R260) -/
  foldEnded : Bool
  /-- tide in which a slack-water frame last went to the leaf -/
  lastFrame : Nat
  /-- a poll is due (R95 level D) -/
  pollDue : Bool
  /-- levels A to C at which the leaf was served this tide -/
  served : Bool
  /-- readmission step of R274, 0 none -/
  readmit : Nat
  /-- `SEQ` of its READMIT message -/
  readmitSeq : Nat
  /-- that message has been acknowledged -/
  readmitAcked : Bool
  /-- consecutive tides served through the tail bridge (R61) -/
  bridgeTides : Nat
  /-- the slow record under assembly was latched on the bridged path -/
  slowBridged : Bool
  /-- the latest L(k) measured on the normal path, 0.1 ns (R61) -/
  loopNormal : Option Nat
  /-- the latest L(k) measured on the bridged path in this bridged service -/
  loopBridged : Option Nat
  /-- station time since when every accepted slow record showed the down link -/
  downSince : Option Nat
  /-- station time of the last accepted slow record that showed no up link -/
  upLost : Option Nat
  deriving DecidableEq, Repr

/-- A leaf nothing has been heard of. -/
def Leaf.unknown : Leaf :=
  { statusNew := 0, statusAt := 0, missRun := 0, goodRun := 0, bypassRun := 0, lastCap := 0, stray := false, kindBad := false,
    levelPrev := 3, lastTrans := 0, admitting := false, admitHold := 0, slowWords := [], slowOk := false, slow := [],
    slowGap := false, uvWait := [], uvHeld := false, uvNamed := 0, scDelays := 0, scClears := 0, bypassCmd := false,
    bypassOwed := false, penDone := false, serial := none, fwd := 0, ret := 0, welcomeOwed := false, welcomeNew := false,
    welcomeFrames := [], welcomeSent := none, announced := none, accepted := false, foldEnded := false, lastFrame := 0,
    pollDue := false, served := false, readmit := 0, readmitSeq := 0, readmitAcked := false, bridgeTides := 0, slowBridged := false,
    loopNormal := none, loopBridged := none, downSince := none, upLost := none }

/-- A message held in a queue (R85). -/
structure Msg where
  /-- `SEQ` -/
  seq : Nat
  /-- payload -/
  body : List Byte
  /-- tide in which it was enqueued -/
  tide : Nat
  /-- LOST flag (R79) -/
  lost : Bool
  /-- returned undelivered (R257, R260) -/
  back : Bool
  deriving DecidableEq, Repr

/-- A queue (R86), with what the sender and receiver hold beside the descriptor. -/
structure Queue where
  /-- `NEXT_SEQ` -/
  nextSeq : Nat
  /-- `SENT_SEQ` -/
  sentSeq : Nat
  /-- `ACKED_SEQ` -/
  ackedSeq : Nat
  /-- `CREDIT_LIMIT` -/
  creditLimit : Nat
  /-- `CREDIT_USED` -/
  creditUsed : Nat
  /-- QSTATE: 0 CLOSED, 1 OPEN, 2 HALTED, 3 RETURNED -/
  qstate : Nat
  /-- CREDIT_INVALID -/
  creditBad : Bool
  /-- POISONED -/
  poisoned : Bool
  /-- a message behind the expected link `SEQ` that is coming in again: its `SEQ` and segments so far (R254) -/
  dup : Option (Nat × Nat)
  /-- messages, oldest first -/
  msgs : List Msg
  /-- segments of message `SENT_SEQ` already placed -/
  seg : Nat
  /-- segments placed at least once: the first `SEQ` and segment not yet placed -/
  highSeq : Nat
  /-- segment part of that mark -/
  highSeg : Nat
  /-- a retransmission is due of which nothing has been resent yet (R252) -/
  retx : Bool
  /-- tide in which a segment was last placed -/
  placed : Option Nat
  /-- an ACK is owed (R254) -/
  ackOwed : Bool
  /-- the ACK owed has waited `ACK_DELAY` tides (R95) -/
  ackLate : Bool
  /-- partial upward message: its link `SEQ` and bytes -/
  part : Option (Nat × List Byte)
  /-- segments held of the partial message -/
  partSegs : Nat
  /-- the next FIRST segment gives the link `SEQ` (R257) -/
  fresh : Bool
  /-- credit received this tide, taking effect for the next tide's frames (R93) -/
  creditNext : Option Nat
  /-- ACK received this tide, likewise -/
  ackNext : Option Nat
  deriving DecidableEq, Repr

/-- A queue after a core reset (R86). -/
def Queue.empty : Queue :=
  { nextSeq := 0, sentSeq := 0, ackedSeq := 0xFFFF, creditLimit := 0, creditUsed := 0, qstate := 0, creditBad := false,
    poisoned := false, dup := none, msgs := [], seg := 0, highSeq := 0, highSeg := 0, retx := false, placed := none,
    ackOwed := false, ackLate := false, part := none, partSegs := 0, fresh := true, creditNext := none, ackNext := none }

/-- How a tide frame of the present tide came back. -/
inductive Return where
  /-- not launched, or not yet back -/
  | none
  /-- back with a BAD or STOMPED check -/
  | bad
  /-- back GOOD with its `TURN_POSITION` -/
  | good (turn : Nat)
  deriving DecidableEq, Repr

/-- A poisoned word of a memory (R79), with what it holds, as the error that poisoned it named it. -/
structure Poison where
  /-- 2³² x region + byte address of the word -/
  key : Nat
  /-- region code -/
  region : Nat
  /-- `kind` of the error -/
  kind : Nat
  /-- `inst` of the error -/
  inst : Nat
  /-- `detail` of the error -/
  detail : Nat
  deriving DecidableEq, Repr

/-- A slack-water frame that is out. -/
structure Flight where
  /-- position of its target -/
  target : Nat
  /-- its `SLACK_SEQ` -/
  seq : Nat
  /-- ns after the start of the tide in which it left by which it should have returned -/
  due : Nat
  /-- it has been counted lost (R275) -/
  lost : Bool
  deriving DecidableEq, Repr

/-- A drove lane beyond its objects. -/
structure Drove where
  /-- the lane input holds block lock (R36) -/
  locked : Bool
  /-- an own frame was launched this tide -/
  launched : Bool
  /-- a bridged frame of this drove was launched on the partner's lane this tide -/
  launchedBr : Bool
  /-- return of the own frame -/
  own : Return
  /-- return of the bridged frame -/
  bridged : Return
  /-- the last own return that was neither BAD nor STOMPED was a full GOOD one -/
  full : Bool
  /-- invalid code blocks its receiver has counted (R39) -/
  invalid : Nat
  /-- consecutive failed returns (R68) -/
  fails : Nat
  /-- `TURN_POSITION` of the last short GOOD return among them (R265) -/
  short : Option Nat
  /-- a path fault is in force -/
  faulted : Bool
  /-- own frames run with `TURN_AT` one below the bridged turn, or have stopped after it (R265): 0 untried, 1 under trial, 2 over -/
  trial : Nat
  /-- turn plan for the next tide start: own `TURN_AT`, bridged `TURN_AT`, 0xFF for none -/
  planDue : Option (Nat × Nat)
  /-- an engineer asked for the rejoin -/
  rejoinAsk : Bool
  /-- a rejoin waits for the next tide start -/
  rejoinDue : Bool
  /-- tides of an unconfirmed rejoin still to judge, 0 none (R268) -/
  rejoinTides : Nat
  /-- failed tides of the rejoin -/
  rejoinBad : Nat
  /-- tides of a running round-trip measurement, counted from its start; none when idle (R63) -/
  measure : Option Nat
  /-- a measurement is to begin at the first return deadline at which the drove can be measured (R63, R323) -/
  measWant : Bool
  /-- its latest arrival, 0.1 ns -/
  measMax : Nat
  /-- its `TURN_POSITION` -/
  measTurn : Option Nat
  /-- something made it fail -/
  measBad : Bool
  /-- smallest return margin of this second, ns -/
  margin : Option Int
  /-- loop times of the current average, 0.1 ns -/
  loopSum : Nat
  /-- how many -/
  loopCount : Nat
  /-- tides of the current average -/
  loopTides : Nat
  /-- T_loop, 0.1 ns (R61) -/
  tloop : Option Nat
  /-- station time of the last `BRIDGE_LOOP` report -/
  bridgeSeen : Nat
  /-- reference phase (R19) -/
  phaseRef : Option Nat
  /-- the next phase becomes the reference -/
  phaseRenew : Bool
  /-- station time of the first BLOCK set of a demand whose echo is awaited (R440) -/
  echoFrom : Option Nat
  /-- the first BLOCK set of the demand in force has gone out on the lane -/
  blockFirst : Bool
  /-- position last served at each level A to D (R95) -/
  lastServed : List Nat
  /-- the level D frame of this tide has gone -/
  pollSent : Bool
  /-- code blocks of slack water used this tide -/
  slackUsed : Nat
  /-- slack-water frames sent this tide -/
  slackFrames : Nat
  /-- `SLACK_SEQ` -/
  slackSeq : Nat
  /-- the partner's drove sent the last alternating frame (R97) -/
  alternate : Bool
  /-- slack-water frames on their way, oldest first -/
  flying : List Flight
  /-- tides since lane errors began a TRAIN after a restart: the lane trains -/
  training : Bool
  deriving DecidableEq, Repr

/-- A lane that is off. -/
def Drove.off : Drove :=
  { locked := false, launched := false, launchedBr := false, own := .none, bridged := .none, full := false, invalid := 0, fails := 0, short := none,
    faulted := false, trial := 0, planDue := none, rejoinAsk := false, rejoinDue := false, rejoinTides := 0, rejoinBad := 0,
    measure := none, measWant := false, measMax := 0, measTurn := none, measBad := false, margin := none, loopSum := 0, loopCount := 0, loopTides := 0,
    tloop := none, bridgeSeen := 0, phaseRef := none, phaseRenew := false, echoFrom := none, blockFirst := false, lastServed := [127, 127, 127, 127],
    pollSent := false, slackUsed := 0, slackFrames := 0, slackSeq := 0, alternate := false, flying := [], training := true }

/-- A demand record (R104), components as raw PU24 codes. -/
structure Demand where
  /-- `V_DC` -/
  vdc : Int
  /-- `V_P` -/
  vp : Int
  /-- `V_Q` -/
  vq : Int
  /-- `V_CIRC` -/
  vcirc : Int
  /-- `CURRENT_FORECAST` -/
  forecast : Int
  /-- `BATTERY_POWER` -/
  battery : Int
  /-- `DEMAND_TIDE` -/
  tide : Nat
  /-- `DEMAND_FLAGS` -/
  flags : Nat
  deriving DecidableEq, Repr

/-- No demand. -/
def Demand.zero : Demand :=
  { vdc := 0, vp := 0, vq := 0, vcirc := 0, forecast := 0, battery := 0, tide := 0, flags := 0 }

/-- A shepherd beyond its objects (R102 to R130). -/
structure Shepherd where
  /-- demand record in the tide area -/
  written : Demand
  /-- last record accepted -/
  accepted : Demand
  /-- direction of the previous tide -/
  dir : Int
  /-- residual carried, 0.1 V·ns -/
  residual : Rat
  /-- the previous tide was limited -/
  limited : Bool
  /-- Σ `KIND_V_NOMINAL` is below the floor -/
  below : Bool
  /-- switching events of this second -/
  switched : Nat
  /-- leaf-tides of this second -/
  leafTides : Nat
  /-- an uncorrectable error has taken the demand of the coming ranking (R79, R129) -/
  lost : Bool
  /-- the arm last accepted some part of its available solar power (R125) -/
  accepts : Bool
  /-- every slot of the last ranking was written -/
  done : Bool
  deriving DecidableEq, Repr

/-- An idle shepherd. -/
def Shepherd.idle : Shepherd :=
  { written := Demand.zero, accepted := Demand.zero, dir := 1, residual := 0, limited := false, below := false, switched := 0,
    leafTides := 0, lost := false, accepts := true, done := false }

/-- What a subscription has gathered of one leaf over a window (R98), field by field. -/
structure SubLeaf where
  /-- VALID -/
  valid : Nat
  /-- value of the first tide, none when that slot was missing -/
  first : Option (List Nat)
  /-- sums of the values as signed numbers -/
  sums : List Int
  /-- minima -/
  mins : List Int
  /-- maxima -/
  maxs : List Int
  /-- OR of STATUS -/
  ors : Nat
  /-- AND of STATUS -/
  ands : Nat
  deriving DecidableEq, Repr

/-- A subscription beyond its objects (R98, R99). -/
structure Subscription where
  /-- first tide of the window under way and what it has gathered -/
  window : Option (Nat × List SubLeaf)
  /-- complete windows not yet written, oldest first -/
  ready : List (Nat × List SubLeaf)
  /-- records in the ring, oldest first, with their counters -/
  ring : List (Nat × List Byte)
  /-- next record counter -/
  counter : Nat
  /-- records lost since the previous record -/
  lost : Nat
  deriving DecidableEq, Repr

/-- An idle subscription. -/
def Subscription.idle : Subscription := { window := none, ready := [], ring := [], counter := 0, lost := 0 }

/-- One windowed fault counter event of the present tide (R261). -/
structure FaultEvent where
  /-- rank of its source in the event log -/
  rank : Nat
  /-- family: 0 station source, 1 leaf protection source -/
  family : Nat
  /-- source -/
  source : Nat
  /-- instance -/
  inst : Nat
  /-- how many -/
  n : Nat
  deriving DecidableEq, Repr

/-- A dual-contact input (R432 to R435). -/
structure SafePair where
  /-- level of contact A's pin -/
  a : Bool
  /-- level of contact B's pin -/
  b : Bool
  /-- latched demand of the pair in channel A: 0 none, 1 BLOCK, 2 TRIP -/
  latchA : Nat
  /-- the same in channel B -/
  latchB : Nat
  /-- DISCREPANCY -/
  disc : Bool
  /-- both contacts have been unhealthy together since the fault -/
  bothOpen : Bool
  /-- station time at which one contact moved and the other is awaited -/
  since : Option Nat
  /-- station time at which a press of a reset pair began -/
  press : Option Nat
  /-- length of a press that has ended and has not been acted on -/
  pressed : Option Nat
  deriving DecidableEq, Repr

/-- A pair with both contacts closed. -/
def SafePair.closed : SafePair :=
  { a := true, b := true, latchA := 0, latchB := 0, disc := false, bothOpen := false, since := none, press := none,
    pressed := none }

/-- Breakwater beyond its objects (R428 to R453). Latches hold 0 none, 1 BLOCK, 2 TRIP. -/
structure Breakwater where
  /-- input pairs 0 to 15 -/
  pairs : List SafePair
  /-- arm overcurrent latch, channel B -/
  aocB : Nat
  /-- arm overcurrent TRIP recorded by channel A -/
  aocA : Nat
  /-- DC overvoltage latch, channel A -/
  dcovA : Nat
  /-- DC overvoltage latch, channel B -/
  dcovB : Nat
  /-- heartbeat latch -/
  heartbeat : Nat
  /-- value of `SAFETY_DEMAND` latched -/
  host : Nat
  /-- echo latch -/
  echo : Nat
  /-- TRIP of a channel fault -/
  channel : Nat
  /-- TRIP of a block line readback -/
  lines : Nat
  /-- degraded time expired -/
  expired : Nat
  /-- fast path: 0 none, 1 BLOCK and INHIBIT, 3 INHIBIT only -/
  fast : Nat
  /-- the self-test has passed -/
  passed : Bool
  /-- power-up latches of channel B -/
  powerUp : Bool
  /-- degraded mode -/
  degraded : Bool
  /-- channel A faulted -/
  faultA : Bool
  /-- channel B faulted -/
  faultB : Bool
  /-- trip outputs energised: A0, A1, B0, B1 -/
  outputs : List Bool
  /-- readback levels of the four outputs -/
  readback : List Bool
  /-- readback fault of each output -/
  outFault : List Bool
  /-- `TRIP_RELEASE` accepted since the outputs were last de-energised -/
  released : Bool
  /-- place in the order A0, B0, A1, B1 from which the test pulses go on (R437) -/
  pulseNext : Nat
  /-- a BLOCK set has been sent since the last release -/
  blockSent : Bool
  /-- tide d at which the release under way began -/
  release : Option Nat
  /-- station time of the last reset -/
  lastReset : Option Nat
  /-- last good heartbeat word: tide and station time -/
  lastGood : Option (Nat × Nat)
  /-- consecutive heartbeat misses -/
  misses : Nat
  /-- station times of the disagreements of the last 10 s -/
  disagrees : List Nat
  /-- consecutive periods in which a test was skipped -/
  skips : Nat
  /-- a test was skipped in the present period -/
  skipped : Bool
  /-- comparator whose test fell due last -/
  lastTest : Option Nat
  /-- the outputs of a faulted channel have fallen: A, B -/
  fallenA : Bool
  /-- the same of channel B -/
  fallenB : Bool
  /-- comparators that failed their last test, ascending, with the stand-in that substitutes, if any -/
  failedCmp : List (Nat × Option Nat)
  /-- stand-ins: 0 free, 1 testing, 2 substituting, 3 failed -/
  standIn : List Nat
  deriving DecidableEq, Repr

/-- Breakwater as its reset leaves it (R451, R455, R456). -/
def Breakwater.reset : Breakwater :=
  { pairs := List.replicate 16 SafePair.closed, aocB := 0, aocA := 0, dcovA := 0, dcovB := 0, heartbeat := 0, host := 0, echo := 0,
    channel := 0, lines := 0, expired := 0, fast := 0, passed := false, powerUp := true, degraded := false, faultA := false,
    faultB := false, outputs := [false, false, false, false], readback := [false, false, false, false],
    outFault := [false, false, false, false], released := false, pulseNext := 0, blockSent := false, release := none, lastReset := none,
    lastGood := none, misses := 0, disagrees := [], skips := 0, skipped := false, lastTest := none,
    fallenA := false, fallenB := false, failedCmp := [], standIn := [0, 0] }

end Sys2Proof.Machine
end

