-- ==== Sys2Proof/Machine/TypesPlant.lean ====
section
/-! DEFINITION. The records of the solar tracking unit, the metering chain and the local I/O: what the spec gives them beyond
their objects. -/

namespace Sys2Proof.Machine

/-! ### Solar tracking (R203 to R223) -/

/-- What the next scan of a solar leaf is counted from (R211, R213), with the instant in ns. -/
inductive ScanBase where
  /-- it has not been in TRACKING -/
  | never
  /-- it entered TRACKING with no scan yet -/
  | entered (at' : Nat)
  /-- its last scan began -/
  | began (at' : Nat)
  /-- its scan was abandoned -/
  | abandoned (at' : Nat)
  deriving DecidableEq, Repr

/-- A solar leaf. Voltages are in 0.1 V, powers in 0.005 W (the product of R204). -/
structure SolarLeaf where
  /-- return deadline at which the present `PV_V_REF` was delivered -/
  refTide : Nat
  /-- the value delivered before it -/
  refOld : Nat
  /-- tracking state of R207 as an object code -/
  state : Nat
  /-- reference of P&O or of the curtailment loop, 0.1 V -/
  vref : Rat
  /-- Voc, 0.1 V -/
  voc : Rat
  /-- Voc is known -/
  vocKnown : Bool
  /-- Voc is estimated (R219) -/
  estimated : Bool
  /-- P&O direction -/
  dir : Int
  /-- P&O run -/
  run : Nat
  /-- P&O step, 0.01 % of Voc -/
  step : Rat
  /-- power of the previous window; none before the first -/
  pPrev : Option Rat
  /-- reference and power of the last window but one -/
  older : Option (Rat × Rat)
  /-- V_MPP -/
  vMpp : Rat
  /-- P_MPP -/
  pMpp : Rat
  /-- power of the last window -/
  pWin : Rat
  /-- sum of the powers of the window under way -/
  sumP : Rat
  /-- sum of its port voltages -/
  sumV : Rat
  /-- valid tides of it -/
  valid : Nat
  /-- tides of it -/
  tides : Nat
  /-- consecutive periods with Voc back (R209) -/
  brightRun : Nat
  /-- an open-circuit measurement runs: tides since it began -/
  vocRun : Option Nat
  /-- a scan runs: its next point -/
  scan : Option Nat
  /-- tides since the present point began -/
  dwell : Nat
  /-- valid tides of the present point -/
  seen : Nat
  /-- v_before -/
  vBefore : Rat
  /-- p_before -/
  pBefore : Rat
  /-- best scan point so far: reference and power -/
  best : Option (Rat × Rat)
  /-- a scan is due (R211) -/
  due : Bool
  /-- the wait has been counted in `SCANS_DELAYED` -/
  delayed : Bool
  /-- what its next scan is counted from -/
  scanBase : ScanBase
  /-- instant at which it became due, ns -/
  dueAt : Nat
  /-- last two curtailment steps: reference and power, newest first -/
  steps : List (Rat × Rat)
  /-- leaving curtailment: the loop runs until the reference reaches V_MPP (R216) -/
  leaving : Bool
  /-- contribution held in SHED -/
  held : Rat
  /-- P_MPP when it became a sentinel -/
  sentinelP : Rat
  /-- it has completed a window as a sentinel -/
  sentinelWin : Bool
  deriving DecidableEq, Repr

/-- A solar leaf after a core reset. -/
def SolarLeaf.reset : SolarLeaf :=
  { refTide := 0, refOld := 0x7FFF, state := 0, vref := 0, voc := 0, vocKnown := false, estimated := false, dir := -1, run := 0, step := 0, pPrev := none,
    older := none, vMpp := 0, pMpp := 0, pWin := 0, sumP := 0, sumV := 0, valid := 0, tides := 0, brightRun := 0, vocRun := none,
    scan := none, dwell := 0, seen := 0, vBefore := 0, pBefore := 0, best := none, due := false, delayed := false, scanBase := .never,
    dueAt := 0, steps := [], leaving := false, held := 0, sentinelP := 0, sentinelWin := false }

/-- The solar tracking unit. -/
structure SolarUnit where
  /-- solar leaves by leaf ID -/
  leaves : List (Nat × SolarLeaf)
  /-- sentinels of the twelve arms -/
  sentinels : List (List Nat)
  /-- last sentinel of the previous choice of each arm -/
  lastSentinel : List (Option Nat)
  /-- return deadlines in a row with C_a at least A_a while curtailed -/
  exitRun : List Nat
  /-- the last return deadline -/
  tide : Nat
  /-- the tide period changes at a commit: the periods of the leaves restart (R219) -/
  restart : Bool
  /-- first tide of the period that a commit changed; none before -/
  origin : Option Nat
  deriving DecidableEq, Repr

/-- The unit after a core reset. -/
def SolarUnit.reset : SolarUnit :=
  { leaves := [], sentinels := List.replicate 12 [], lastSentinel := List.replicate 12 none, exitRun := List.replicate 12 0,
    tide := 0, restart := false, origin := none }

/-! ### Metering (R369 to R392) -/

/-- A metering channel. -/
structure MeterChannel where
  /-- grid samples left of a settling interval -/
  settle : Nat
  /-- consecutive samples below 1/32 of full scale (R372) -/
  low : Nat
  /-- a sample of the window saturated -/
  sat : Bool
  /-- sum of the squares of the window -/
  sumSq : Rat
  /-- samples of the window -/
  count : Nat
  /-- coefficients in force (R375): offset, gain, offset ×16, gain ×16 -/
  coef : List Rat
  /-- calibration sums of this half: mean and squares of ×1, mean and squares of ×16, count -/
  cal : List Rat
  /-- means of the first half checked: ×1 and ×16 -/
  calBad : Nat
  deriving DecidableEq, Repr

/-- A channel after a core reset. -/
def MeterChannel.reset : MeterChannel :=
  { settle := 320, low := 0, sat := false, sumSq := 0, count := 0, coef := [0, 1, 0, 1], cal := [0, 0, 0, 0, 0], calBad := 0 }

/-- A metering element. -/
structure Element where
  /-- sum of v² -/
  v2 : Rat
  /-- sum of i² -/
  i2 : Rat
  /-- sum of p -/
  p : Rat
  /-- sum of q -/
  q : Rat
  /-- samples -/
  n : Nat
  /-- gains and offsets in force: P gain, P offset, Q gain, Q offset -/
  coef : List Rat
  deriving DecidableEq, Repr

/-- An element after a core reset. -/
def Element.reset : Element := { v2 := 0, i2 := 0, p := 0, q := 0, n := 0, coef := [1, 0, 1, 0] }

/-- A meter. -/
structure Meter where
  /-- remainders of the eight accumulators, 2⁻³² of an LSB -/
  rem : List Nat
  /-- presets that wait for the next boundary: accumulator and value -/
  presets : List (Nat × Nat)
  /-- voltage of the last sample of element 3m and its instant -/
  last : Option (Rat × Nat)
  /-- first positive-going zero crossing of the window, 2⁻²⁴ ns -/
  first : Option Rat
  /-- last crossing -/
  final : Option Rat
  /-- crossings -/
  crossings : Nat
  deriving DecidableEq, Repr

/-- A meter after a core reset. -/
def Meter.reset : Meter :=
  { rem := List.replicate 8 0, presets := [], last := none, first := none, final := none, crossings := 0 }

/-- A pulse output. -/
structure PulseOut where
  /-- remainder, in pulses -/
  rem : Rat
  /-- station time of the last pulse -/
  last : Option Nat
  deriving DecidableEq, Repr

/-- What the cove keeps of the metering chain (R383). -/
structure MeterCopy where
  /-- accumulators and remainders of both meters -/
  acc : List (Nat × Nat)
  /-- flags of both -/
  flags : List Nat
  /-- gap time of both -/
  gap : List Nat
  /-- station time of the last boundary metered -/
  stamp : Nat
  deriving DecidableEq, Repr

/-- The metering chain. -/
structure MeterChain where
  /-- channels 0 to 39 -/
  chans : List MeterChannel
  /-- elements 0 to 5 -/
  els : List Element
  /-- meters 0 and 1 -/
  meters : List Meter
  /-- pulse outputs 0 to 3 -/
  pulses : List PulseOut
  /-- a snapshot is due at the next boundary -/
  snap : Bool
  /-- interval snapshots, oldest first -/
  history : List (List Byte)
  /-- `METER_CORRECTION` in force -/
  corr : Nat
  /-- calibration: 0 none, 1 first half, 2 second half -/
  calHalf : Nat
  /-- channels being calibrated -/
  calMask : Nat
  /-- something was missing or saturated: lowest channel -/
  calMissing : Option Nat
  /-- the copy in the cove -/
  copy : Option MeterCopy
  /-- station time of the last boundary metered since the reset -/
  lastGrid : Option Nat
  /-- last window boundary metered -/
  lastWindow : Option Nat
  /-- a step of station time falls into the present interval (R384) -/
  stepped : Bool
  /-- the accumulators have resumed from the copy, and the gap is still to be counted -/
  resumed : Bool
  deriving DecidableEq, Repr

/-- The chain after a cove cold start. -/
def MeterChain.reset : MeterChain :=
  { chans := List.replicate 40 MeterChannel.reset, els := List.replicate 6 Element.reset, meters := List.replicate 2 Meter.reset,
    pulses := List.replicate 4 { rem := 0, last := none }, snap := false, history := [], corr := 3, calHalf := 0, calMask := 0,
    calMissing := none, copy := none, lastGrid := none, lastWindow := none, stepped := false, resumed := false }

/-! ### Local I/O (R393 to R427) -/

/-- A window comparator. -/
structure Comparator where
  /-- the pin lies outside the window, before blanking -/
  raw : Bool
  /-- a blanking interval holds the output -/
  blank : Bool
  /-- station time of the last "comparator window left" -/
  lastEvent : Option Nat
  deriving DecidableEq, Repr

/-- A PWM pair. -/
structure PwmPair where
  /-- the outputs are driven -/
  driven : Bool
  /-- duty taken at the last valley -/
  duty : Rat
  /-- compare value of the running period, in 1/32 counts -/
  compare : Nat
  /-- duty that a user program or the pre-charge loop gives for the next period -/
  next : Rat
  deriving DecidableEq, Repr

/-- A transaction of the management bus. -/
inductive BusJob where
  /-- configuration EEPROM -/
  | eeprom
  /-- host request -/
  | host
  /-- regulator poll of an entry -/
  | regulator (r : Nat)
  /-- transceiver poll of a drove -/
  | transceiver (d : Nat)
  /-- soft TX disable of a drove's transceiver (R417) -/
  | txDisable (d : Nat) (off : Bool)
  deriving DecidableEq, Repr

/-- One entry of `XCVR_TABLE` (R417). -/
structure Xcvr where
  /-- 0 absent, 1 present, 0xFF not polled -/
  presence : Nat
  /-- bytes 1 to 11 as reported: status, then the five readings -/
  body : List Byte
  /-- station time of the last successful poll -/
  polled : Nat
  deriving DecidableEq, Repr

/-- One entry of `PMBUS_TABLE` (R418): the 16 bytes, `VOUT_MODE` and the last STATUS_WORD. -/
structure Regulator where
  /-- entry as read -/
  body : List Byte
  /-- VOUT_MODE at first contact -/
  mode : Option Nat
  /-- last STATUS_WORD -/
  status : Nat
  deriving DecidableEq, Repr

/-- Local I/O. -/
structure LocalIo where
  /-- results of each converter that still stand untaken in its data register -/
  full : List Bool
  /-- input from which each converter's background scan goes on (R398) -/
  bgNext : List Nat
  /-- calibration of R400: converters named -/
  calMask : Nat
  /-- array self-calibration of R399 runs on these converters -/
  selfMask : Nat
  /-- decimator outputs still to skip per bitstream input -/
  settle : List Nat
  /-- sums and counts for `SENSE_DELAY` per bitstream input -/
  delays : List (Int × Nat)
  /-- raw codes of the sensor samples of this tide -/
  codes : List (Option Int)
  /-- comparators 0 to 23 -/
  cmps : List Comparator
  /-- PWM pairs 0 to 11 -/
  pwms : List PwmPair
  /-- delay line uncalibrated and the event given -/
  uncal : Bool
  /-- levels at the 32 GPIO pins, debounced -/
  gpio : Nat
  /-- pins that are outputs -/
  gpioOut : Nat
  /-- transaction running -/
  job : Option BusJob
  /-- transactions waiting -/
  jobs : List BusJob
  /-- host request waiting or running -/
  request : Option (List Byte)
  /-- retries left of the running transaction -/
  retries : Nat
  /-- transceivers 0 to 127 -/
  xcvrs : List (Nat × Xcvr)
  /-- regulators 0 to 7 -/
  regs : List Regulator
  deriving DecidableEq, Repr

/-- Local I/O after a reset that reaches it. -/
def LocalIo.reset : LocalIo :=
  { full := [false, false, false, false], bgNext := [0, 0, 0, 0], calMask := 0, selfMask := 0, settle := List.replicate 32 3,
    delays := List.replicate 32 (0, 0), codes := List.replicate 64 none,
    cmps := List.replicate 24 { raw := false, blank := false, lastEvent := none },
    pwms := List.replicate 12 { driven := false, duty := 0, compare := 0, next := 0 }, uncal := false, gpio := 0, gpioOut := 0,
    job := none, jobs := [], request := none, retries := 0, xcvrs := [],
    regs := List.replicate 8 { body := List.replicate 16 0, mode := none, status := 0 } }

end Sys2Proof.Machine
end

