-- ==== Sys2Proof/Machine/State.lean ====
section
/-! DEFINITION. The state of the block, as plain data, its fault and refusal reasons, and the state right after reset. -/

namespace Sys2Proof.Machine

/-- Why a step stops with a fault. -/
inductive Fault where
  /-- Raised by JTAG_ACCESS: a read or write of a memory region or address that does not exist (R74, R502). Safe: the model
  stops where the spec gives the port nothing to reach. -/
  | noSuchAddress
  deriving DecidableEq, Repr

/-- Why a command is refused. -/
inductive Refusal where
  /-- Raised by no meaning: only an arm of the dispatch without a meaning answers it. Safe: the model stops. -/
  | notModelled (mnemonic : String)
  deriving DecidableEq, Repr

/-- No image: the factory's values (R319). -/
def Image.factory : Image :=
  { generation := 0, dictionary := 1, code := 0, seconds := 0, vals := [], blobs := [], extra := [] }

/-- The timebase after the reset that follows a cove cold start (R346, R360). -/
def TimeUnit.reset : TimeUnit :=
  { acc := 0, inc := 0x04000000, err := none, errAt := 0, heldAt := 0, alarm := false, offsets := [], run := [], below := 0,
    above := 0, decided := false, freq := 0, freqHist := [], slewLeft := 0, slewNow := 0, freqNow := 0, masters := [],
    active := none, lastSync := 0, logSync := 0, coveSpan := 0, permit := false, acquired := false, stepDue := none, setBound := 255,
    ports := [PtpPort.idle, PtpPort.idle, PtpPort.idle], ppsHigh := false, ppsLast := 0, ppsAfterStep := false,
    frozenSince := 0, refDown := false, restartTide := true, silence := none, clkPhase := [0, 0, 0, 0] }

/-- A cove that has cold-started (R481). -/
def Cove.reset : Cove :=
  { time := 0, quality := 0x0CFF, alive := true, energy := none, pllTemp := [0, 0, 0, 0, 0],
    err := none, since := 0 }

/-- No domain released, no source active: the start of the release after a FULL reset (R462). -/
def ResetPower.reset : ResetPower :=
  { released := 0, storeReady := false, sources := 0, reach := [], seen := 2, widest := 3, refMissing := false, bootStart := 0,
    wakeTries := 0, waking := false, wakeStart := 0, coreRet := false, refOscEn := true,
    pgCore := true, fallback := false, resetDue := 0, entering := (0, 0), quiet := 0, wakeAt := none, coveLost := true, dieTemp := [2500, 2500], tempAlarm := 0 }

/-- No image committed, both EEPROM slots blank (R329). -/
def Configuration.reset : Configuration :=
  { draft := Image.factory, committed := none, slot0 := .blank, slot1 := .blank, draftDamaged := false,
    validating := false, judged := none, valid := false, restoring := false, commitStep := 0, commitHeld := false, retideGood := [], retideWait := none,
    applyDue := false, bootReason := 0 }

/-- The state machine in BOOT. -/
def StationMachine.reset : StationMachine :=
  { causes := [], request := 0, afterDemand := false, chargeX := 0,
    chargeDuty := 0 }

/-- An empty log. -/
def EventLog.reset : EventLog := { intake := [], ring := [], tail := [], dropped := [], order := 0, alarms := [], cold := true }

/-- Idle counters. -/
def PmcUnit.reset : PmcUnit := { waiting := [], ring := [], seq := 0, edge := 0, last := List.replicate 32 0 }

/-- The state of the block. -/
structure State where
  /-- object values by key, entries equal to the dictionary default left out -/
  regs : List (Nat × Nat)
  /-- DOMAIN and STR objects by key, empty ones left out -/
  blobs : List (Nat × List Byte)
  /-- station time (R344) -/
  time : TimeUnit
  /-- the cove (R478) -/
  cove : Cove
  /-- reset and power controllers (R457, R470) -/
  rp : ResetPower
  /-- configuration images and commit (R319) -/
  cfg : Configuration
  /-- station state machine (R332) -/
  sm : StationMachine
  /-- sessions 0 to 15 (R289) -/
  sessions : List Session
  /-- process images of masters A and B, and the refused writes of the service master (R301, R308) -/
  images : List MasterImages
  /-- sampled values of the last second: stream and instant of every smpCnt accepted, ns (R310) -/
  svSeen : List (Nat × Nat)
  /-- authentication failures per IPv4 address within 10 s (R290) -/
  authFails : List (Nat × Nat)
  /-- event log (R489) -/
  log : EventLog
  /-- performance counters (R495) -/
  pmc : PmcUnit
  /-- latency histograms (R500) -/
  hists : List Histogram
  /-- debug port (R502) -/
  dbg : DebugPort
  /-- MODEL: how often the hardware random source has been read; it counts the free values of Config.random -/
  draws : Nat
  /-- next block transfer identifier -/
  transfers : Nat
  /-- drove lanes 0 to 127, those that are off left out (R71) -/
  droves : List (Nat × Drove)
  /-- leaves by leaf ID, those nothing has been heard of left out (R13) -/
  leaves : List (Nat × Leaf)
  /-- queues by queue ID, those as the core reset leaves them left out (R15, R86) -/
  queues : List (Nat × Queue)
  /-- command slots of even and odd tides: key 16384 x (tide mod 2) + leaf, block commands left out (R72) -/
  slots : List (Nat × CmdSlot)
  /-- command slots poisoned, by the key of slots (R79) -/
  slotPoison : List Nat
  /-- leaves whose slot of the coming tide repeats the previous command (R25) -/
  repeated : List Nat
  /-- tide records: key 16384 x (tide mod 64) + leaf, four bits each, those that read missing and nothing else left out (R75) -/
  tideRec : List (Nat × Nat)
  /-- places, tide mod 64, of the ring and the records that a tide has begun since the store was initialised (R74, R76) -/
  begun : List Nat
  /-- sensor samples: key 64 x (tide mod 64) + word, missing ones left out (R75) -/
  samples : List (Nat × Option Int)
  /-- bytes of the memories of R72 and R73: key 2^32 x region code + byte address, zeros left out; region 2 is the telemetry ring (R74) -/
  mem : List Host.Cell
  /-- poisoned words, newest first (R79) -/
  poison : List Poison
  /-- shepherds of arms 0 to 11 (R102) -/
  shepherds : List Shepherd
  /-- telemetry subscriptions 0 to 15 (R98) -/
  subs : List Subscription
  /-- windowed fault counts c by family, source and instance, zeros left out (R261) -/
  faultCounts : List (Nat × Nat)
  /-- events collected in the present tide, in order of arrival (R261) -/
  faultEvents : List FaultEvent
  /-- instances whose upset has been logged in the present window (R262) -/
  faultLogged : List Nat
  /-- Breakwater (R428) -/
  bw : Breakwater
  /-- converters 0 and 1: grid interface, GRID and ENERGY items (R160) -/
  convs : List Converter
  /-- legs 0 to 5 (R136) -/
  legs : List Leg
  /-- placing of the work, coast, ramp-down, sensor checks, user programs (R141) -/
  cl : Cluster
  /-- trace memory (R157) -/
  trace : TraceUnit
  /-- solar tracking unit (R203) -/
  solar : SolarUnit
  /-- metering chain (R369) -/
  meter : MeterChain
  /-- local I/O (R393) -/
  lio : LocalIo
  /-- everything sent out, newest first -/
  outbox : List Out
  /-- commands waiting, first in, first out -/
  pending : List Instr
  deriving DecidableEq, Repr

/-- The block right after a FULL reset has been applied and no source holds it any longer: no domain released yet, every
object at its Default, station state BOOT (R335, R462, R465). The cove has cold-started (R481): COLD_STARTED is set (R486). -/
def State.reset : State where
  regs := [(Obj.COVE_STATUS, 0x40)]
  blobs := []
  time := TimeUnit.reset
  cove := Cove.reset
  rp := ResetPower.reset
  cfg := Configuration.reset
  sm := StationMachine.reset
  sessions := List.replicate 16 Session.free
  images := [MasterImages.empty, MasterImages.empty, MasterImages.empty]
  svSeen := []
  authFails := []
  log := EventLog.reset
  pmc := PmcUnit.reset
  hists := List.replicate 8 (Histogram.clear 0)
  dbg := { nonce := [], instr := 0 }
  draws := 0
  transfers := 1
  droves := []
  leaves := []
  queues := []
  slots := []
  slotPoison := []
  repeated := []
  tideRec := []
  begun := []
  samples := []
  mem := []
  poison := []
  shepherds := List.replicate 12 Shepherd.idle
  subs := List.replicate 16 Subscription.idle
  faultCounts := []
  faultEvents := []
  faultLogged := []
  bw := Breakwater.reset
  convs := [Converter.reset, Converter.reset]
  legs := List.replicate 6 Leg.zero
  cl := Cluster.reset
  trace := TraceUnit.empty
  solar := SolarUnit.reset
  meter := MeterChain.reset
  lio := LocalIo.reset
  outbox := []
  pending := []

end Sys2Proof.Machine
end

