-- ==== Sys2Proof/Machine/Tbl.lean ====
section
/-! DEFINITION. Sparse tables in one canonical form: keys strictly rising, and no entry equal to what an unlisted key
reads as. Every store of State whose keys are numbers (objects, leaves, droves, queues, the telemetry ring) is one. -/

namespace Sys2Proof.Machine

/-- Read key `k`; an unlisted key reads as `d k`. -/
def Tbl.get {α : Type} (d : Nat → α) : List (Nat × α) → Nat → α
  | [], k => d k
  | (j, v) :: m, k => if k = j then v else Tbl.get d m k

/-- The table without key `k`. -/
def Tbl.erase {α : Type} (m : List (Nat × α)) (k : Nat) : List (Nat × α) := m.filter (fun p => decide (p.1 ≠ k))

/-- Put an entry before the first greater key. -/
def Tbl.insert {α : Type} (k : Nat) (v : α) : List (Nat × α) → List (Nat × α)
  | [] => [(k, v)]
  | (j, w) :: m => if k < j then (k, v) :: (j, w) :: m else (j, w) :: Tbl.insert k v m

/-- Let key `k` read as `v`; an entry equal to the default is left out. -/
def Tbl.set {α : Type} [DecidableEq α] (d : Nat → α) (m : List (Nat × α)) (k : Nat) (v : α) : List (Nat × α) :=
  if v = d k then Tbl.erase m k else Tbl.insert k v (Tbl.erase m k)

/-- Every key is above `lo`. -/
def Tbl.above {α : Type} (lo : Nat) : List (Nat × α) → Bool
  | [] => true
  | (j, _) :: _ => decide (lo < j)

/-- The canonical form. -/
def Tbl.wf {α : Type} [DecidableEq α] (d : Nat → α) : List (Nat × α) → Bool
  | [] => true
  | (j, v) :: m => decide (v ≠ d j) && Tbl.above j m && Tbl.wf d m

/-- Apply `f` to the value at `k`. -/
def Tbl.modify {α : Type} [DecidableEq α] (d : Nat → α) (m : List (Nat × α)) (k : Nat) (f : α → α) : List (Nat × α) :=
  Tbl.set d m k (f (Tbl.get d m k))

/-- Apply `f` to every entry; one that becomes its default is left out. -/
def Tbl.mapAll {α : Type} [DecidableEq α] (d : Nat → α) (f : Nat → α → α) (m : List (Nat × α)) : List (Nat × α) :=
  m.filterMap (fun p => if f p.1 p.2 = d p.1 then none else some (p.1, f p.1 p.2))

end Sys2Proof.Machine
end

