-- ==== Sys2Proof/Machine/Ops.lean ====
section
/-! DEFINITION. The named operations every meaning is written with: reading and writing objects, counters, station time,
what the block sends out, and which reset domains run. -/

namespace Sys2Proof.Machine

/-! ### Objects -/

/-- The live code of a numeric object. -/
def rd (s : State) (key : Nat) : Nat := Tbl.get objDefault s.regs key

/-- Set the live code of a numeric object. -/
def wr (s : State) (key v : Nat) : State := { s with regs := Tbl.set objDefault s.regs key v }

/-- Set several objects, in order. -/
def wrs (s : State) (kvs : List (Nat × Nat)) : State := kvs.foldl (fun t kv => wr t kv.1 kv.2) s

/-- The live bytes of a DOMAIN or STR object. -/
def rdBlob (s : State) (key : Nat) : List Byte := Tbl.get blobDefault s.blobs key

/-- Set the live bytes of a DOMAIN or STR object. -/
def wrBlob (s : State) (key : Nat) (v : List Byte) : State := { s with blobs := Tbl.set blobDefault s.blobs key v }

/-- An object of two's complement type of width `w`. -/
def rdInt (w : Nat) (s : State) (key : Nat) : Int := toSigned w (rd s key)

/-- Set an object of two's complement type of width `w`. -/
def wrInt (w : Nat) (s : State) (key : Nat) (i : Int) : State := wr s key (ofSigned w i)

/-- A PU24 object's value. -/
def rdPu (s : State) (key : Nat) : Rat := pu24ToRat (rd s key)

/-- Set a PU24 object to the nearest code. -/
def wrPu (s : State) (key : Nat) (x : Rat) : State := wr s key (pu24OfRat x)

/-- An F32 object's value. -/
def rdF (s : State) (key : Nat) : Rat := f32ToRat (rd s key)

/-- Set an F32 object to the nearest code. -/
def wrF (s : State) (key : Nat) (x : Rat) : State := wr s key (f32OfRat x)

/-- A BOOL object. -/
def rdBool (s : State) (key : Nat) : Bool := decide (rd s key ≠ 0)

/-- Count `n` in a counter that saturates at `2 ^ w - 1`. -/
def countBy (w : Nat) (s : State) (key n : Nat) : State := wr s key (satAdd (2 ^ w - 1) (rd s key) n)

/-- Count one in a U32 counter that saturates. -/
def count (s : State) (key : Nat) : State := countBy 32 s key 1

/-- Raise a maximum register. -/
def raiseTo (s : State) (key v : Nat) : State := if rd s key < v then wr s key v else s

/-! ### Which domains run (R457) -/

/-- The reset domains of R457, in the order of their release. -/
inductive Domain where
  | option | clock | safety | time | analogue | fabric | link | localIo | lookout | processing
  deriving DecidableEq, Repr

/-- Place of a domain in the order of R457, from 0. -/
def Domain.place : Domain → Nat
  | .option => 0 | .clock => 1 | .safety => 2 | .time => 3 | .analogue => 4
  | .fabric => 5 | .link => 6 | .localIo => 7 | .lookout => 8 | .processing => 9

/-- The domain has been released from reset. -/
def alive (s : State) (d : Domain) : Bool := decide (d.place < s.rp.released)

/-- Run `f` when the domain that does the work is out of reset; a unit held in reset does nothing. -/
def whenAlive (d : Domain) (f : State → State) (s : State) : State := if alive s d then f s else s

/-! ### Station time (R344, R345) -/

/-- 2⁻²⁴ ns in one nanosecond. -/
def nsUnit : Nat := 2 ^ 24

/-- 2⁻²⁴ ns in one second. -/
def secUnit : Nat := 1000000000 * nsUnit

/-- Station time in whole nanoseconds. -/
def nowNs (s : State) : Nat := s.time.acc / nsUnit

/-- Quality of station time as it stands (R347). -/
def timeQuality (s : State) : Nat := rd s Obj.TIME_QUALITY

/-- An STIME of an instant, with the present quality. -/
def stimeAt (s : State) (acc : Nat) : Nat :=
  stimeMk (acc / secUnit) (acc % secUnit / nsUnit) (acc % nsUnit / 2 ^ 8) (timeQuality s)

/-- `STATION_TIME` as it stands (R345). -/
def stimeNow (s : State) : Nat := stimeAt s s.time.acc

/-- Number of TIME edges until the counter reaches `target`: the first edge at or after that instant (R20). -/
def edgesTo (s : State) (target : Nat) : Nat :=
  if target ≤ s.time.acc then 0 else (target - s.time.acc + s.time.inc - 1) / s.time.inc

/-! ### The tide (R20, R22) -/

/-- Tide period in ns. -/
def periodNs (s : State) : Nat := rd s Obj.TIDE_PERIOD * 100

/-- Number of the present tide. -/
def tideNow (s : State) : Nat := rd s Obj.TIDE_NUMBER

/-- Ideal start of tide `n`, in 2⁻²⁴ ns (R20). -/
def tideStartAt (s : State) (n : Nat) : Nat := (n * periodNs s + rd s Obj.TIDE_PHASE) * nsUnit

/-- Instant `ns` after the ideal start of the present tide. -/
def markAt (s : State) (ns : Nat) : Nat := tideStartAt s (tideNow s) + ns * nsUnit

/-! ### What the block sends -/

/-- Send something out. -/
def send (o : Out) (s : State) : State := { s with outbox := o :: s.outbox }

/-- A number from the hardware random source (a free value: `Config.random` is opaque). -/
def drawBytes (n : Nat) (s : State) : List Byte × State :=
  (leBytes n (Config.random s.draws), { s with draws := s.draws + 1 })

/-! ### Sessions -/

/-- Session `k`. -/
def sess (s : State) (k : Nat) : Session := getD' s.sessions k Session.free

/-- Change session `k`. -/
def setSess (s : State) (k : Nat) (f : Session → Session) : State :=
  { s with sessions := s.sessions.modify k f }

/-- Master code of session `k` (R289). -/
def sessMaster (s : State) (k : Nat) : Nat := rd s (Obj.SESSION_MASTER k)

/-- Role of session `k`: 0 viewer, 1 operator, 2 engineer, 3 safety (R316). -/
def sessRole (s : State) (k : Nat) : Nat := rd s (Obj.SESSION_ROLE k)

/-- Session `k` is open, or is the installation session. -/
def sessOpen (s : State) (k : Nat) : Bool :=
  decide (k < 16) && (decide (rd s (Obj.SESSION_STATE k) = 2) || decide (rd s (Obj.SESSION_STATE k) = 3))

/-! ### Station state (R331) -/

/-- Station state codes of R331. -/
abbrev stOff : Nat := 0
/-- BOOT -/
abbrev stBoot : Nat := 1
/-- HELD -/
abbrev stHeld : Nat := 2
/-- READY -/
abbrev stReady : Nat := 3
/-- CHARGING -/
abbrev stCharging : Nat := 4
/-- ENERGISED -/
abbrev stEnergised : Nat := 5
/-- RUNNING -/
abbrev stRunning : Nat := 6
/-- RIDE-THROUGH -/
abbrev stRideThrough : Nat := 7
/-- COAST -/
abbrev stCoast : Nat := 8
/-- RAMP-DOWN -/
abbrev stRampDown : Nat := 9
/-- BLOCKED -/
abbrev stBlocked : Nat := 10
/-- SAFE -/
abbrev stSafe : Nat := 11

/-- The station state. -/
def station (s : State) : Nat := rd s Obj.STATION_STATE

/-- The active states RUNNING, RIDE-THROUGH, COAST and RAMP-DOWN (R332). -/
def isActive (st : Nat) : Bool := decide (6 ≤ st) && decide (st ≤ 9)

/-- Ordering code of the device, as the option view gives it. -/
def optionCode (s : State) : Nat := rd s Obj.OPTION_CODE

/-- Droves present. -/
def droveCount (s : State) : Nat := codeDroves (optionCode s)

/-- Leaves present. -/
def leafCount (s : State) : Nat := codeLeaves (optionCode s)

/-- A Breakwater demand is in force: BLOCK, TRIP or INHIBIT (R309, R428, R455). -/
def demandInForce (s : State) : Bool := decide (bits (rd s Obj.BW_STATUS) 6 4 ≠ 0)

end Sys2Proof.Machine
end

