-- ==== Sys2Proof/Machine/Cycles.lean ====
section
/-! DEFINITION. FAB cycles passing in the counter block (R495 to R497), with the occupancies it presents, and station time running
(R20, R344). -/

namespace Sys2Proof.Machine

/-- Units of credit a segment costs (R90). -/
def segCost (len : Nat) : Nat := (8 + len + 63) / 64

/-- Credit available (R91). -/
def Queue.available (q : Queue) : Nat := (q.creditLimit + 65536 - q.creditUsed % 65536) % 65536

/-- The message to be sent next: the first at or after `SENT_SEQ` that has not been returned (R250). -/
def Queue.sending (q : Queue) : Option Msg := q.msgs.find? (fun m => !m.back && (m.seq = q.sentSeq || aheadOf 16 m.seq q.sentSeq))

/-- Segments of that message already placed. -/
def Queue.sendSeg (q : Queue) (m : Msg) : Nat := if m.seq = q.sentSeq then q.seg else 0

/-- Class of a queue ID (R15). -/
def queueClass (q : Nat) : Nat := q % 16

/-- A class runs toward the leaf. -/
def leafBound (c : Nat) : Bool := decide (c < 8)

/-- `SEQ` a lies 1 to 32,767 behind b (R248). -/
def behind (a b : Nat) : Bool := aheadOf 16 b a

/-- A sending point lies before what has been placed once. -/
def Queue.before (q : Queue) (seq seg : Nat) : Bool := behind seq q.highSeq || (decide (seq = q.highSeq) && decide (seg < q.highSeg))

/-- The segment at the sending point is a repeat (R252). -/
def Queue.repeating (q : Queue) : Bool := match q.sending with | some m => q.before m.seq (q.sendSeg m) | none => false

/-- NO_CREDIT (R86): the head segment of an open leaf-bound queue of class `cls`, no repeat, waits for credit. -/
def Queue.waitsCredit (q : Queue) (cls : Nat) : Bool :=
  leafBound cls && decide (q.qstate = 1) && !q.repeating && (match q.sending with
    | some m => decide (q.available < segCost (min 1016 (m.body.length - 1016 * q.sendSeg m)))
    | none => false)

/-- The selections that present an occupancy (kind O of R495). -/
def pmcOccupancy (sel : Nat) : Bool := [0x04, 0x05, 0x07, 0x08, 0x0B, 0x11, 0x14].contains sel

/-- A mode fits a selection: mode 0 with kind E, modes 1 to 3 with kind O; a stopped counter takes either (R496). -/
def pmcModeFits (sel mode : Nat) : Bool :=
  if sel = 0 then true else if pmcOccupancy sel then decide (1 ≤ mode) else decide (mode = 0)

/-- Give counter `c` the sum `v + n` (R497): the low 32 bits, or with `PMC_SAMPLE` set `PMC_PRELOAD` plus the excess on an
overflow. -/
def pmcSum (s : State) (c v n : Nat) : Nat :=
  if v + n < 2 ^ 32 then v + n
  else if rdBool s (Obj.PMC_SAMPLE c) then
    let p := rd s (Obj.PMC_PRELOAD c)
    p + (v + n - 2 ^ 32) % (2 ^ 32 - p)
  else (v + n) % 2 ^ 32

/-- How often adding `n` to `v` overflows. -/
def pmcOverflows (s : State) (c v n : Nat) : Nat :=
  if v + n < 2 ^ 32 then 0
  else if rdBool s (Obj.PMC_SAMPLE c) then 1 + (v + n - 2 ^ 32) / (2 ^ 32 - rd s (Obj.PMC_PRELOAD c))
  else (v + n) / 2 ^ 32

/-- Low and high halves of `PMC_SAMPLES_LOST`: `n` samples skipped (R505). -/
def countSkips (n : Nat) (s : State) : State :=
  let v := rd s Obj.PMC_SAMPLES_LOST
  wr s Obj.PMC_SAMPLES_LOST (putBits v 0 32 (satAdd (2 ^ 32 - 1) (bits v 31 0) n))

/-- One sample skipped. -/
def countSkipped (s : State) : State := countSkips 1 s

/-- Count a sample dropped on a full ring. -/
def countSampleDropped (s : State) : State :=
  let v := rd s Obj.PMC_SAMPLES_LOST
  wr s Obj.PMC_SAMPLES_LOST (putBits v 32 32 (satAdd (2 ^ 32 - 1) (bits v 63 32) 1))

/-- Request a sample of counter `c`; a second overflow while its request waits is skipped and counted (R499). -/
def pmcRequest (c : Nat) (s : State) : State :=
  if s.pmc.waiting.any (fun r => r.counter = c) then countSkipped s
  else { s with pmc := { s.pmc with waiting := s.pmc.waiting ++ [{ counter := c, edge := s.pmc.edge }] } }

/-- What an overflow of counter `c` does beside the sum: the sticky bit, and a sample when `PMC_SAMPLE` is set (R497). -/
def pmcOverflowed (c : Nat) (s : State) : State :=
  let s := wr s Obj.PMC_STATUS (setBit (rd s Obj.PMC_STATUS) c)
  if rdBool s (Obj.PMC_SAMPLE c) then pmcRequest c s else s

/-- Add `n` to counter `c` on the present FAB edge; a frozen counter adds nothing (R496, R503). -/
def pmcAdd (c n : Nat) (s : State) : State :=
  if rdBool s Obj.PMC_FREEZE || n = 0 then s
  else
    let v := rd s (Obj.PMC_VALUE c)
    let k := pmcOverflows s c v n
    let s := wr s (Obj.PMC_VALUE c) (pmcSum s c v n)
    if k = 0 then s
    else
      let s := pmcOverflowed c s
      if rdBool s (Obj.PMC_SAMPLE c) then countSkips (k - 1) s else s

/-- An event of selection `sel` at instance `inst`, `n` times: every counter that selects it counts (R495, mode 0 of R496). -/
def pmcEvent (sel inst n : Nat) (s : State) : State :=
  (List.range 32).foldl (fun t c =>
    if rd t (Obj.PMC_EVENT c) = sel && rd t (Obj.PMC_MODE c) = 0
        && (rd t (Obj.PMC_INSTANCE c) = 0xFFFF || rd t (Obj.PMC_INSTANCE c) = inst) then pmcAdd c n t else t) s

/-- The occupancy a selection of kind O presents at an instance (R495). Requests at a bank are served within the command that makes
them, so none waits (0x04, 0x05). -/
def occupancy (s : State) (sel inst : Nat) : Nat :=
  match sel with
  | 0x07 => rd s Obj.POOL_DOWN_SHARE - rd s Obj.POOL_DOWN_FREE
  | 0x08 => rd s Obj.POOL_BLOCKS - rd s Obj.POOL_DOWN_SHARE - rd s Obj.POOL_UP_FREE
  | 0x0B => (s.queues.filter (fun p => p.2.waitsCredit (queueClass p.1))).length
  | 0x11 => if inst = 0xFFFF then sumNat ((List.range 12).map (fun a => rd s (Obj.ELIGIBLE a)))
            else if inst < 12 then rd s (Obj.ELIGIBLE inst) else 0
  | 0x14 => sumNat (s.sessions.map (fun x => x.held.length))
  | _ => 0

/-- What `n` FAB cycles add to counter `c` in its mode, the occupancy having been `last` before (R496). -/
def pmcCycleAdd (s : State) (c n last : Nat) : Nat :=
  let sel := rd s (Obj.PMC_EVENT c)
  let thr := rd s (Obj.PMC_THRESHOLD c)
  let now := occupancy s sel (rd s (Obj.PMC_INSTANCE c))
  if pmcOccupancy sel = false then 0
  else match rd s (Obj.PMC_MODE c) with
    | 1 => if thr ≤ now then n else 0
    | 2 => if last < thr ∧ thr ≤ now then 1 else 0
    | 3 => n * now
    | _ => 0

/-- `n` FAB cycles pass: the edge count moves, selection 0x01 adds them, and counters of an occupancy add by their mode; in DORMANT
the counters hold (R496). -/
def pmcCycles (n : Nat) (s : State) : State :=
  if n = 0 || rd s Obj.POWER_STATE = 3 then s
  else
    let s := { s with pmc := { s.pmc with edge := s.pmc.edge + n } }
    let s := (List.range 32).foldl (fun t c => pmcAdd c (pmcCycleAdd t c n (getD' t.pmc.last c 0)) t) (pmcEvent 0x01 0xFFFF n s)
    { s with pmc := { s.pmc with
      last := (List.range 32).map (fun c => occupancy s (rd s (Obj.PMC_EVENT c)) (rd s (Obj.PMC_INSTANCE c))) } }

/-- `n` edges of the TIME clock, 4 ns each, pass: station time runs (R344), and the four FAB edges in each are counted while FAB is
out of reset. Outside RUN every microsecond that passes counts in `DOZE_TIME` (R484). -/
def runEdges (n : Nat) (s : State) : State :=
  let before := s.time.acc
  let s := { s with time := { s.time with acc := before + n * s.time.inc } }
  let us := 1000 * nsUnit
  let s := if rd s Obj.POWER_STATE = 0 then s else countBy 64 s Obj.DOZE_TIME (s.time.acc / us - before / us)
  if alive s .fabric then pmcCycles (4 * n) s else s

/-- Let station time run to the first TIME edge at or after `target` (R20). -/
def runTo (target : Nat) (s : State) : State := runEdges (edgesTo s target) s

end Sys2Proof.Machine
end

