-- ==== Sys2Proof/Machine/Frames.lean ====
section
/-! DEFINITION. Frames of the object protocol (R284, R291), responses, and notifications (R298, R299). -/

namespace Sys2Proof.Machine

/-- The 24 header bytes of a frame (R284). -/
def headerBytes (f : ObjFrame) : List Byte :=
  leBytes 1 f.version ++ leBytes 1 f.service ++ leBytes 2 f.flags ++ leBytes 4 f.session ++ leBytes 4 f.seq
    ++ leBytes 2 f.index ++ leBytes 1 f.sub ++ leBytes 1 0 ++ leBytes 4 f.arg ++ leBytes 4 f.status

/-- The tag a frame carries under a session key; the installation session's frames carry none (R284, R291). -/
def frameTag (ks : List Byte) (f : ObjFrame) : List Byte :=
  if ks = [] then [] else hmac ks (headerBytes f ++ f.payload)

/-- `FLAGS` bit 0. -/
abbrev flagResponse : Nat := 1

/-- `FLAGS` bit 1. -/
abbrev flagLast : Nat := 2

/-- The response to a request frame (R285). -/
def responseFrame (f : ObjFrame) (session arg status : Nat) (last : Bool) (payload : List Byte) : ObjFrame :=
  { version := 1, service := f.service, flags := flagResponse + (if last then flagLast else 0), session := session,
    seq := f.seq, index := f.index, sub := f.sub, arg := arg, status := status, payload := payload, tag := [] }

/-- The 802.1Q tag of every frame the device sends from a port (R283). -/
def vlanTag (s : State) (port : Nat) : Option Nat := if rd s (Obj.VLAN_ID port) = 0 then none else some (rd s (Obj.VLAN_ID port))

/-- A received frame's tag does not have it dropped (R282). An untagged frame has no VLAN ID that could differ (DEDUCED, log 70). -/
def vlanFits (s : State) (port : Nat) (vlan : Option Nat) : Bool := vlan.isNone || decide (vlan = vlanTag s port)

/-- A datagram for the object protocol of its port: to its UDP port, with a fitting tag (R282). -/
def addressed (s : State) (net : NetAddr) : Bool := decide (net.own = rd s Obj.OBJECT_UDP_PORT) && vlanFits s net.port net.vlan

/-- The device answers to an address: inside the port's subnet, or through `IP_GATEWAY` (R282). -/
def reachable (s : State) (port addr : Nat) : Bool :=
  decide (rd s (Obj.IP_GATEWAY port) ≠ 0)
    || decide (addr &&& rd s (Obj.IP_MASK port) = rd s (Obj.IP_ADDRESS port) &&& rd s (Obj.IP_MASK port))

/-- The addresses of a datagram the device sends: from the object protocol's UDP port, with the port's tag. -/
def outward (s : State) (net : NetAddr) : NetAddr := { net with own := rd s Obj.OBJECT_UDP_PORT, vlan := vlanTag s net.port }

/-- Send a frame with its tag out of a port, and count it in `FRAMES_OUT` (R283, R314). To an address outside the subnet, without a
gateway, nothing is sent (R282). -/
def sendFrame (dest : NetAddr) (pcp : Nat) (ks : List Byte) (f : ObjFrame) (s : State) : State :=
  if reachable s dest.port dest.addr then
    send (.datagram (outward s dest) pcp { f with tag := frameTag ks f }) (countBy 64 s (Obj.FRAMES_OUT dest.port) 1)
  else s

/-- Where session `k`'s notifications and input images go: the port, address and UDP port of its last valid frame (R289). -/
def sessNet (s : State) (k : Nat) : NetAddr :=
  outward s { port := rd s (Obj.SESSION_PORT k), addr := rd s (Obj.SESSION_ADDRESS k), udp := rd s (Obj.SESSION_UDP k), own := 0,
              vlan := none }

/-- Unacknowledged notifications allowed (R299). -/
abbrev notifyWindow : Nat := 8

/-- Notifications a session may hold (R299). -/
abbrev notifyMax : Nat := 64

/-- The NOTIFY frame of a notification (R298). -/
def notifyFrame (ident : Nat) (n : Notification) : ObjFrame :=
  { version := 1, service := 0x20, flags := 0, session := ident, seq := n.seq, index := 0, sub := 0, arg := 0,
    status := 0,
    payload := leBytes 1 n.kind ++ leBytes 1 n.flags ++ leBytes 2 n.body.length ++ leBytes 16 n.stime ++ leBytes 4 0
      ++ n.body, tag := [] }

/-- How many notifications of a list have been sent. -/
def sentCount (ns : List Notification) : Nat := (ns.filter (fun n => n.seq ≠ 0)).length

/-- Number and send the unsent notifications of `todo` while the window allows; the next one sent after a drop carries OVERFLOW (R299). -/
def pumpNotes (k : Nat) : List Notification → State → State
  | [], s => s
  | n :: rest, s =>
    if n.seq ≠ 0 then pumpNotes k rest (setSess s k (fun x => { x with notes := x.notes ++ [n] }))
    else if notifyWindow ≤ sentCount (sess s k).notes then
      pumpNotes k rest (setSess s k (fun x => { x with notes := x.notes ++ [n] }))
    else
      let q := (sess s k).outSeq
      let n' := { n with seq := q, flags := b2n (sess s k).overflow }
      let s := setSess s k (fun x => { x with notes := x.notes ++ [n'], outSeq := q + 1, overflow := false })
      pumpNotes k rest (sendFrame (sessNet s k) (rd s Obj.PCP_NOTIFY) (sess s k).ks (notifyFrame (sess s k).ident n') s)

/-- Send whatever session `k`'s window allows. -/
def pumpSession (k : Nat) (s : State) : State :=
  let ns := (sess s k).notes
  pumpNotes k ns (setSess s k (fun x => { x with notes := [] }))

/-- Queue one notification for session `k` if its mask enables the type, and send it when the window allows; one too many
is dropped and counted (R298, R299). -/
def notifySession (k kind stime : Nat) (body : List Byte) (s : State) : State :=
  if sessOpen s k && bit (rd s (Obj.NOTIFY_MASK k)) (kind - 1) then
    if notifyMax ≤ (sess s k).notes.length then
      setSess (count s (Obj.NOTIFY_DROPPED k)) k (fun x => { x with overflow := true })
    else
      let n : Notification := { seq := 0, kind := kind, flags := 0, stime := stime, body := body }
      pumpSession k (setSess s k (fun x => { x with notes := x.notes ++ [n] }))
  else s

/-- Every session number. -/
def allSessions : List Nat := List.range 16

/-- Notify every session whose mask enables the type (R298). -/
def notifyAll (kind stime : Nat) (body : List Byte) (s : State) : State :=
  allSessions.foldl (fun t k => notifySession k kind stime body t) s

/-- Notify the open sessions of a master. -/
def notifyMaster (m kind : Nat) (body : List Byte) (s : State) : State :=
  allSessions.foldl (fun t k => if sessMaster t k = m then notifySession k kind (stimeNow t) body t else t) s

end Sys2Proof.Machine
end

