-- ==== Sys2Proof/Machine/Log.lean ====
section
/-! DEFINITION. The event log: the catalogue of events (R488, R494), the intake, the commit to the ring in key order
(R489), losses and restore (R491), and notification and alarms (R493). -/

namespace Sys2Proof.Machine

/-- Rank of an event's source (R488). -/
def Ev.rank : Ev → Nat
  | .blockEchoMissing | .safetyInputDiscrepancy | .fastPathTestFailed | .tideHeartbeatLost | .degradedTimeExpired
  | .safetyParametersConfirmed | .breakwaterChannelFault | .breakwaterDegraded | .breakwaterReset | .breakwaterDemand => 0
  | .deviceReset | .junctionTemperatureHigh | .junctionTemperatureVeryHigh | .junctionTemperatureNormal => 1
  | .timeOutOfTolerance | .timeWithinTolerance | .timeHoldover | .timeStepPending | .timeStepped | .refLost
  | .refRestored | .stationClockOutOfRange | .utcOffsetChanged => 2
  | .stateChanged | .preChargeFailed | .configurationCommitted => 3
  | .voltageSourceChanged | .voltageSourceLost | .gridModeChanged | .rideThroughEntered | .rideThroughLimitCrossed
  | .dpcEntered | .gridVectorStalled | .islandingDetected | .powerReversal | .coreRestart | .coastEnded
  | .rampDownIncomplete => 4
  | .controlPairFault | .loopEngineFault | .controlCapacityLost | .armCurrentImplausible => 5
  | .leafKindMismatch | .armCapacityLow | .readmissionFailed => 6
  | .leafShortCircuit | .leafGateSupplyLow | .leafOverTemperature | .leafBypassLatched | .permanentBypassNotConfirmed
  | .leafRetired | .leafRetirementCleared | .bypassHoldAtRisk => 7
  | .laneTidePhaseDrift | .droveReturnMarginLow | .tailBridgeUnavailable | .lanePathFault | .leavesOrphaned
  | .laneRejoined | .laneRejoinFailed | .leafStray | .leafReturned | .readmissionComplete | .foldEpochOpened => 8
  | .meteringIntervalClosed | .energyPreset | .energyInvalid | .meteringChainRestarted => 10
  | .sarSelfCalFailed | .comparatorWindowLeft | .pwmDelayUncalibrated | .gpioEdge | .mbusStuck | .mbusRecovered
  | .transceiverAbsent | .transceiverLossOfSignal | .regulatorFault => 11
  | .commandTokenForced | .commandTokenLost | .commandConflict | .outputsMissing => 13
  | .eventLogRestored | .debugEnabled | .debugDisabled => 14
  | .upset | .lastingFault => 15

/-- Place of an event in the model's catalogue; `Config.eventNumber` and `Config.eventSeverity` are functions of it. -/
def Ev.place (e : Ev) : Nat := e.ctorIdx

/-- Event code: rank × 256 + n, where the firmware build fixes n between 0x01 and 0xFE (R494). The second code of
"junction temperature high" is the same event at severity 3 (R520). -/
def Ev.code (e : Ev) : Nat :=
  let e' := if e = .junctionTemperatureVeryHigh then .junctionTemperatureHigh else e
  e.rank * 256 + (Config.eventNumber e'.place % 254 + 1)

/-- Severity: what the manual states (R520), else what the build's catalogue gives (R494). -/
def Ev.severity (e : Ev) : Nat :=
  match e with
  | .junctionTemperatureHigh | .junctionTemperatureNormal => 2
  | .junctionTemperatureVeryHigh => 3
  | _ => Config.eventSeverity e.place % 4

/-- No instance. -/
abbrev noInst : Nat := 0xFFFFFFFF

/-- Entries the intake holds (R489). -/
abbrev intakeMax : Nat := 512

/-- Records the ring holds (R491). -/
abbrev ringMax : Nat := 32768

/-- Records the cove tail holds (R491). -/
abbrev tailMax : Nat := 1024

/-- Count an event lost to a full intake under its rank (R491). -/
def noteDropped (rank code : Nat) : List (Nat × Nat × Nat) → List (Nat × Nat × Nat)
  | [] => [(rank, 1, code)]
  | (r, n, c) :: rest => if r = rank then (r, n + 1, c) :: rest else (r, n, c) :: noteDropped rank code rest

/-- Deliver an event into the intake, or drop and count it when the intake is full (R489, R491). -/
def emitRaw (code rank severity inst flags : Nat) (args : List Byte) (s : State) : State :=
  if intakeMax ≤ s.log.intake.length then
    let s := count s Obj.LOG_DROPPED
    { s with log := { s.log with dropped := noteDropped rank code s.log.dropped } }
  else
    let e : IntakeEntry :=
      { code := code, rank := rank, severity := severity, inst := inst, stime := stimeNow s, at24 := s.time.acc,
        epoch := rd s Obj.TIME_EPOCH_NOW, flags := flags, args := args.take 24, order := s.log.order }
    { s with log := { s.log with intake := s.log.intake ++ [e], order := s.log.order + 1 } }

/-- Raise a named event. -/
def emit (e : Ev) (inst : Nat) (args : List Byte) (s : State) : State :=
  emitRaw e.code e.rank e.severity inst 0 args s

/-- `EVENT_FLAGS` bits (R487). -/
abbrev evGapBefore : Nat := 0
/-- LATE -/
abbrev evLate : Nat := 1
/-- FROM_COVE -/
abbrev evFromCove : Nat := 2
/-- COLD -/
abbrev evCold : Nat := 3

/-- Key order of R489: epoch, time, rank, order of emission. -/
def IntakeEntry.before (a b : IntakeEntry) : Bool :=
  decide (a.epoch < b.epoch) || (a.epoch = b.epoch &&
    (decide (a.at24 < b.at24) || (a.at24 = b.at24 &&
      (decide (a.rank < b.rank) || (a.rank = b.rank && decide (a.order < b.order))))))

/-- The entry with the least key. -/
def firstEntry : List IntakeEntry → Option IntakeEntry
  | [] => none
  | e :: rest =>
    match firstEntry rest with
    | none => some e
    | some m => if m.before e then some m else some e

/-- The 64 bytes of a record (R487); a lost record shows only its number and GAP_BEFORE (R491). -/
def LogRecord.bytes (r : LogRecord) : List Byte :=
  if r.lost then
    leBytes 16 0 ++ leBytes 8 r.seq ++ leBytes 8 0 ++ leBytes 1 1 ++ leBytes 31 0
  else
    leBytes 16 r.ent.stime ++ leBytes 8 r.seq ++ leBytes 2 r.ent.code ++ leBytes 1 r.ent.rank ++ leBytes 1 r.ent.severity
      ++ leBytes 4 r.ent.inst ++ leBytes 1 r.ent.flags ++ leBytes 1 0 ++ leBytes 2 r.ent.epoch ++ leBytes 2 r.lag
      ++ leBytes 2 r.ent.args.length ++ padTo 24 r.ent.args

/-- The last record committed. -/
def lastRecord (s : State) : Option LogRecord := s.log.ring.getLast?

/-- Raise a late entry to the last committed key (R489): LATE is set, and `LAG` is the rise in µs, 65,535 across a step. -/
def raiseLate (last : Option LogRecord) (e : IntakeEntry) : IntakeEntry × Nat :=
  match last with
  | none => (e, 0)
  | some r =>
    if e.epoch < r.ent.epoch then
      ({ e with epoch := r.ent.epoch, stime := r.ent.stime, at24 := r.ent.at24, flags := setBit e.flags evLate }, 65535)
    else if e.epoch = r.ent.epoch ∧ e.at24 < r.ent.at24 then
      ({ e with stime := r.ent.stime, at24 := r.ent.at24, flags := setBit e.flags evLate },
        min 65535 ((r.ent.at24 - e.at24) / (1000 * nsUnit)))
    else if e.epoch = r.ent.epoch ∧ e.at24 = r.ent.at24 ∧ r.ent.before e = false then
      ({ e with flags := setBit e.flags evLate }, 0)
    else (e, 0)

/-- Keep the last `n` of a list. -/
def keepLast {α : Type} (n : Nat) (xs : List α) : List α := xs.drop (xs.length - n)

/-- Put a record into the ring and the cove tail, count an alarm, and notify by severity (R489, R491, R493). -/
def commitRecord (r : LogRecord) (s : State) : State :=
  let ring := keepLast ringMax (s.log.ring ++ [r])
  let s := { s with log := { s.log with
    ring := ring, tail := keepLast tailMax (s.log.tail ++ [r]), cold := false,
    alarms := if r.ent.severity = 3 then s.log.alarms ++ [r.seq] else s.log.alarms } }
  let s := wr s Obj.LOG_NEXT_SEQ (r.seq + 1)
  let s := wr s Obj.LOG_OLDEST_SEQ ((ring.head?.map (·.seq)).getD r.seq)
  let s := if r.ent.severity = 3 then countBy 32 s Obj.ALARMS_UNACKED 1 else s
  if rd s Obj.LOG_NOTIFY_MIN ≤ r.ent.severity then notifyAll 0x01 r.ent.stime r.bytes s else s

/-- Commit one entry: number it, raise it when late, mark the first record after a cold start (R489, R490). -/
def commitEntry (e : IntakeEntry) (s : State) : State :=
  let (e, lag) := raiseLate (lastRecord s) e
  let e := if s.log.cold then { e with flags := setBit e.flags evCold } else e
  commitRecord { seq := rd s Obj.LOG_NEXT_SEQ, ent := e, lag := lag, lost := false } s

/-- Enter one "events dropped" record for each rank that lost events, as far as the intake has room; they commit in key order. -/
def enterDropped : List (Nat × Nat × Nat) → State → State
  | [], s => s
  | d :: rest, s =>
    if intakeMax ≤ s.log.intake.length then s
    else
      let e : IntakeEntry :=
        { code := d.1 * 256 + 0xFF, rank := d.1, severity := 2, inst := noInst, stime := stimeNow s, at24 := s.time.acc,
          epoch := rd s Obj.TIME_EPOCH_NOW, flags := setBit 0 evGapBefore, args := leBytes 4 d.2.1 ++ leBytes 2 d.2.2,
          order := s.log.order }
      enterDropped rest { s with log := { s.log with
        intake := s.log.intake ++ [e], order := s.log.order + 1, dropped := rest } }

/-- When room returns in the intake, one "events dropped" record per rank that lost events (R491). -/
def reportDropped (s : State) : State := enterDropped s.log.dropped s

/-- Take the least entry out of the intake and commit it. -/
def commitFirst (s : State) : State :=
  match firstEntry s.log.intake with
  | none => s
  | some e => reportDropped (commitEntry e { s with log := { s.log with intake := s.log.intake.erase e } })

/-- Hold behind present time before a commit, 50 µs (R489). -/
def commitHold : Nat := 50000 * nsUnit

/-- The least entry is due: station time has passed its stamp by 50 µs, or its epoch is over. -/
def commitDue (s : State) : Bool :=
  match firstEntry s.log.intake with
  | none => false
  | some e => decide (e.at24 + commitHold ≤ s.time.acc) || decide (e.epoch < rd s Obj.TIME_EPOCH_NOW)

/-- Commit every pending entry, oldest key first: at a step of station time (R490). -/
def commitAll : Nat → State → State
  | 0, s => s
  | n + 1, s => commitAll n (commitFirst s)

/-- A step of station time in the log (R490): pending records commit in the old epoch, "station time stepped" is the last of
it, and `TIME_EPOCH` rises; if the intake is full the record is lost and the epoch still rises (R503). -/
def logTimeStep (args : List Byte) (s : State) : State :=
  let full := decide (intakeMax ≤ s.log.intake.length)
  let s := if full then emit .timeStepped noInst args s else s
  let s := commitAll (s.log.intake.length + s.log.dropped.length) s
  let s := if full then s else
    commitFirst (emit .timeStepped noInst args s)
  wr s Obj.TIME_EPOCH_NOW ((rd s Obj.TIME_EPOCH_NOW + 1) % 2 ^ 16)

/-- The log after a reset (R491): the cove tail is copied back with FROM_COVE, and the first new record is
"event log restored" with the count restored and GAP_BEFORE when records were pending in the intake. -/
def logRestore (s : State) : State :=
  let pendingLost := decide (s.log.intake ≠ [])
  let ring := s.log.tail.map (fun r => { r with ent := { r.ent with flags := setBit r.ent.flags evFromCove } })
  let s := { s with log := { s.log with intake := [], dropped := [], ring := ring } }
  let s := wr s Obj.LOG_OLDEST_SEQ ((ring.head?.map (·.seq)).getD (rd s Obj.LOG_NEXT_SEQ))
  let s := (List.range 16).foldl (fun t k => wr t (Obj.LOG_CURSOR k) (rd t Obj.LOG_OLDEST_SEQ)) s
  commitEntry { code := Ev.eventLogRestored.code, rank := 14, severity := Ev.eventLogRestored.severity, inst := noInst,
                stime := stimeNow s, at24 := s.time.acc, epoch := rd s Obj.TIME_EPOCH_NOW,
                flags := if pendingLost then setBit 0 evGapBefore else 0, args := leBytes 2 ring.length,
                order := s.log.order } s

/-- EVENT_EMIT (R489): a source delivers an event with its code number into the intake. -/
def execEventEmit (rank num severity inst : Nat) (args : List Byte) (s : State) : Host.Outcome State Fault Refusal :=
  .next (whenAlive .lookout (emitRaw (rank * 256 + num) rank severity inst 0 args) s)

/-- EVENT_COMMIT (R489): the entry with the least key is committed once station time has passed it by 50 µs. -/
def execEventCommit (s : State) : Host.Outcome State Fault Refusal :=
  .next (whenAlive .lookout (fun s => if commitDue s then commitFirst s else s) s)

end Sys2Proof.Machine
end

