-- ==== Sys2Proof/Machine/Counters.lean ====
section
/-! DEFINITION. Performance counters, their sampling, and the latency histograms (R495 to R500). -/

namespace Sys2Proof.Machine

/-- Records the sample ring holds (R499). -/
abbrev sampleRingMax : Nat := 512

/-- The selections whose sample records carry a `CONTEXT`; that of every other reads 0 (R499). -/
def hasContext (sel : Nat) : Bool := (decide (3 ≤ sel) && decide (sel ≤ 6)) || (decide (9 ≤ sel) && decide (sel ≤ 0x11))

/-- Capture the oldest waiting request, at least 4 cycles after its overflow; past 15 cycles it is skipped (R499). -/
def pmcCapture (context : Nat) (s : State) : State :=
  match s.pmc.waiting with
  | [] => s
  | r :: rest =>
    let skid := s.pmc.edge - r.edge
    if skid < 4 then s
    else
      let s := { s with pmc := { s.pmc with waiting := rest } }
      if 15 < skid then countSkipped s
      else if sampleRingMax ≤ s.pmc.ring.length then countSampleDropped s
      else
        let p : PmcSample :=
          { tide := tideNow s, offset := (s.time.acc - tideStartAt s (tideNow s)) / nsUnit, seq := s.pmc.seq,
            counter := r.counter, skid := skid, inst := rd s (Obj.PMC_INSTANCE r.counter),
            context := if hasContext (rd s (Obj.PMC_EVENT r.counter)) then context % 2 ^ 32 else 0,
            value := rd s (Obj.PMC_VALUE r.counter) }
        { s with pmc := { s.pmc with ring := s.pmc.ring ++ [p], seq := (s.pmc.seq + 1) % 2 ^ 32 } }

/-- The 32 bytes of a sample record (R499). -/
def PmcSample.bytes (p : PmcSample) : List Byte :=
  leBytes 8 p.tide ++ leBytes 4 p.offset ++ leBytes 4 p.seq ++ leBytes 1 p.counter ++ leBytes 1 p.skid
    ++ leBytes 2 p.inst ++ leBytes 4 p.context ++ leBytes 4 p.value ++ leBytes 4 0

/-- `PMC_READ`: the 32 counters and `PMC_STATUS` as they stand (R498). -/
def pmcReadBytes (s : State) : List Byte :=
  (List.range 32).flatMap (fun c => leBytes 4 (rd s (Obj.PMC_VALUE c))) ++ leBytes 4 (rd s Obj.PMC_STATUS)

/-- Free sample record `q` and every record before it (R499). -/
def pmcRelease (q : Nat) (s : State) : State :=
  if s.pmc.ring.any (fun p => p.seq = q) then
    { s with pmc := { s.pmc with ring := (s.pmc.ring.dropWhile (fun p => p.seq ≠ q)).drop 1 } }
  else s

/-- PMC_OVERFLOW (R497): counter `c` adds `add` on this edge; `wr` is a `PMC_VALUE` write and `clear` a `PMC_STATUS_CLEAR`
of its bit that land on the same edge. Of an addition that carries, the written value stands and discards the addition, and
the sticky bit stays set; without a carry the write and the clear act as they would alone. -/
def execPmcOverflow (c add : Nat) (wr' : Option Nat) (clear : Bool) (s : State) : Host.Outcome State Fault Refusal :=
  .next (whenAlive .fabric (fun s =>
    let v := rd s (Obj.PMC_VALUE c)
    let beyond := !rdBool s Obj.PMC_FREEZE && decide (c < 32) && decide (2 ^ 32 ≤ v + add)
    let s := if clear && !beyond then wr s Obj.PMC_STATUS (clearBit (rd s Obj.PMC_STATUS) c) else s
    match wr' with
    | some w => if beyond then pmcOverflowed c (wr s (Obj.PMC_VALUE c) (w % 2 ^ 32)) else
        if c < 32 then wr s (Obj.PMC_VALUE c) (w % 2 ^ 32) else s
    | none => if c < 32 then pmcAdd c add s else s) s)

/-- PMC_SAMPLE_CAPTURE (R499): the sample unit captures the oldest waiting request. -/
def execPmcSampleCapture (context : Nat) (s : State) : Host.Outcome State Fault Refusal :=
  .next (whenAlive .fabric (pmcCapture context) s)

/-- Histogram `h`. -/
def hist (s : State) (h : Nat) : Histogram := getD' s.hists h (Histogram.clear 0)

/-- Bin of a value in histogram `h`: none below bin 0 (UNDER), 32 above bin 31 (OVER) (R500). -/
def histBin (s : State) (h v : Nat) : Option Nat :=
  let base := rd s (Obj.HIST_BASE h)
  let w := rd s (Obj.HIST_WIDTH h)
  if v < base then none
  else if rdBool s (Obj.HIST_LOG h) then
    some (((List.range 32).find? (fun i => decide (v < base + w * 2 ^ i))).getD 32)
  else some (min 32 ((v - base) / w))

/-- Count `n` at key `k` of a sparse list of saturating U32 bins. -/
def bumpBin (k : Nat) : List (Nat × Nat) → List (Nat × Nat)
  | [] => [(k, 1)]
  | (j, n) :: rest => if j = k then (j, satAdd (2 ^ 32 - 1) n 1) :: rest
                      else if k < j then (k, 1) :: (j, n) :: rest else (j, n) :: bumpBin k rest

/-- A histogram with one more observation: bins saturate, COUNT and SUM wrap (R500). -/
def Histogram.observe (x : Histogram) (b : Option Nat) (v : Nat) : Histogram :=
  let x := { x with
    min := if x.count = 0 then v % 2 ^ 32 else Nat.min x.min v, max := Nat.max x.max (v % 2 ^ 32),
    count := (x.count + 1) % 2 ^ 64, sum := (x.sum + v) % 2 ^ 64 }
  match b with
  | none => { x with under := satAdd (2 ^ 32 - 1) x.under 1 }
  | some 32 => { x with beyond := satAdd (2 ^ 32 - 1) x.beyond 1 }
  | some i => { x with bins := bumpBin i x.bins }

/-- Observe `v` of source `src` at instance `inst` in every enabled histogram that collects it (R500). -/
def observe (src inst v : Nat) (s : State) : State :=
  (List.range 8).foldl (fun t h =>
    if rdBool t (Obj.HIST_ENABLE h) && rd t (Obj.HIST_SOURCE h) = src
        && (rd t (Obj.HIST_INSTANCE h) = 0xFFFF || rd t (Obj.HIST_INSTANCE h) = inst) then
      { t with hists := t.hists.modify h (fun x => x.observe (histBin t h v) v) }
    else t) s

/-- The 176 bytes of `HIST_DATA` (R500). -/
def Histogram.bytes (x : Histogram) : List Byte :=
  leBytes 16 x.cleared ++ leBytes 8 x.count ++ leBytes 8 x.sum ++ leBytes 4 x.min ++ leBytes 4 x.max ++ leBytes 4 x.under
    ++ leBytes 4 x.beyond
    ++ (List.range 32).flatMap (fun i => leBytes 4 ((x.bins.find? (fun p => p.1 = i)).map (·.2) |>.getD 0))

/-- Zero histogram `h` and stamp the time (R500). -/
def histClear (h : Nat) (s : State) : State :=
  { s with hists := s.hists.modify h (fun _ => Histogram.clear (stimeNow s)) }

/-- HISTOGRAM_OBSERVATION (R500): a value observed at an instance is binned into histogram `h` while it is enabled and takes
that instance. -/
def execHistogramObservation (h inst value : Nat) (s : State) : Host.Outcome State Fault Refusal :=
  .next (whenAlive .fabric (fun s =>
    if rdBool s (Obj.HIST_ENABLE h) && (rd s (Obj.HIST_INSTANCE h) = 0xFFFF || rd s (Obj.HIST_INSTANCE h) = inst) then
      { s with hists := s.hists.modify h (fun x => x.observe (histBin s h value) value) }
    else s) s)

/-- What passes on an empty queue: one edge of the TIME clock, when that domain runs, and the FAB edges in it; while it is held in reset,
4 ns of the cove's time (R360). -/
def idle (s : State) : State :=
  if alive s .time then runEdges 1 s
  else if s.cove.alive then { s with cove := { s.cove with time := s.cove.time + 4 * nsUnit } }
  else s

end Sys2Proof.Machine
end

