-- ==== Sys2Proof/Machine/Station.lean ====
section
/-! DEFINITION. Scheduling changes of station state: when a cause takes effect (R332), which cause wins a tide start (R198),
and the records of a transition (R335). -/

namespace Sys2Proof.Machine

/-- Cause codes of R335. -/
abbrev causeRequest : Nat := 1
/-- commit or restore -/
abbrev causeCommit : Nat := 2
/-- Breakwater -/
abbrev causeBreakwater : Nat := 3
/-- grid interface, R175 to R197 -/
abbrev causeGrid : Nat := 4
/-- fault-source reaction -/
abbrev causeFaultSource : Nat := 5
/-- control capacity -/
abbrev causeCapacity : Nat := 6
/-- plausibility -/
abbrev causePlausibility : Nat := 7
/-- islanding -/
abbrev causeIslanding : Nat := 8
/-- end of coast -/
abbrev causeCoastEnd : Nat := 9
/-- end of ramp-down -/
abbrev causeRampEnd : Nat := 10
/-- pre-charge timeout -/
abbrev causePreCharge : Nat := 11
/-- discharge complete -/
abbrev causeDischarged : Nat := 12
/-- reset -/
abbrev causeReset : Nat := 13

/-- The tide start at which a change to `target` arising now takes effect (R332): the next one, or the one after it when the
demand mark has passed and the change is neither to BLOCKED or SAFE nor between active states. -/
def dueTide (s : State) (target : Nat) : Nat :=
  if target = stBlocked ∨ target = stSafe ∨ (isActive (station s) && isActive target) = true
      ∨ s.sm.afterDemand = false then tideNow s + 1
  else tideNow s + 2

/-- Schedule a change of station state. -/
def schedule (target cause arg : Nat) (s : State) : State :=
  { s with sm := { s.sm with causes := s.sm.causes ++ [{ target := target, cause := cause, due := dueTide s target,
                                                         arg := arg }] } }

/-- Places of R198: the state taken is the first that applies. HELD and READY, reached by commit, restore or request, come
after them (R335). -/
def causePriority (target : Nat) : Nat :=
  if target = stSafe then 0
  else if target = stBlocked then 1
  else if target = stRampDown then 2
  else if target = stCoast then 3
  else if target = stRideThrough then 4
  else if target = stRunning then 5
  else 6

/-- The winning cause of a list (R198); the earlier one of equals. -/
def winner : List Cause → Option Cause
  | [] => none
  | c :: rest =>
    match winner rest with
    | none => some c
    | some w => if causePriority w.target < causePriority c.target then some w else some c

/-- The transitions of R335. -/
def transitionLegal (src dst : Nat) : Bool :=
  match dst with
  | 2 => [1, 3, 10, 11].contains src
  | 3 => [2, 5, 10].contains src
  | 4 => decide (src = 3)
  | 5 => decide (src = 4)
  | 6 => [5, 10, 7, 8].contains src
  | 7 => [6, 8].contains src
  | 8 => [6, 7].contains src
  | 9 => [6, 7, 8].contains src
  | 10 => [4, 5, 6, 7, 8, 9, 11].contains src
  | 11 => decide (2 ≤ src) && decide (src ≤ 9)
  | _ => false

/-- A step of station time is decided or under way, or a re-tide is (R328, R359). -/
def tideStops (s : State) : Bool := s.time.silence.isSome || s.time.stepDue.isSome

/-- The causes that may take effect at the start of tide `n`: due, and with a transition R335 lists. A request waits while a step of
station time or a re-tide is under way (R367). -/
def dueCauses (s : State) (n : Nat) : List Cause :=
  s.sm.causes.filter (fun c => decide (c.due ≤ n) && transitionLegal (station s) c.target
    && (!tideStops s || decide (c.cause ≠ causeRequest)))

/-- The station state that begins at the start of tide `n`, as it stands scheduled (R103). -/
def stateAhead (s : State) (n : Nat) : Nat :=
  match winner (dueCauses s n) with
  | some c => c.target
  | none => station s

/-- The pending request lapses (R333, R335): `REQUEST_STATUS` reads 0x01, and a change it had scheduled is dropped. -/
def lapseRequest (s : State) : State :=
  if s.sm.request = 0 then s
  else wr { s with sm := { s.sm with
      request := 0,
      causes := s.sm.causes.filter (fun c => !(c.cause = causeDischarged || (c.cause = causeRequest && c.target ≠ stEnergised))) } }
    Obj.REQUEST_STATUS 1

/-- Record a transition (R335): states, tide, cause, count and event. `HELD_REASON` reads 0 outside HELD (R330). -/
def recordTransition (target cause arg : Nat) (s : State) : State :=
  let old := station s
  let s := wrs s [(Obj.PREVIOUS_STATE, old), (Obj.STATION_STATE, target), (Obj.STATE_TIDE, tideNow s),
    (Obj.TRANSITION_CAUSE, cause), (Obj.HELD_REASON, if target = stHeld then arg else 0)]
  emit .stateChanged noInst (leBytes 1 old ++ leBytes 1 target ++ leBytes 1 cause) (count s Obj.STATE_TRANSITIONS)

end Sys2Proof.Machine
end

