-- ==== Sys2Proof/Machine/Aborts.lean ====
section
/-! DEFINITION. Abort codes of R296, and the result of a write: the state it leaves and its abort code, 0 for success. -/

namespace Sys2Proof.Machine

/-- Object does not exist. -/
abbrev abNoObject : Nat := 0x01000001
/-- Object is read-only. -/
abbrev abReadOnly : Nat := 0x01000002
/-- Object is write-only. -/
abbrev abWriteOnly : Nat := 0x01000003
/-- Access denied. -/
abbrev abAccess : Nat := 0x01000004
/-- Length does not match the type. -/
abbrev abLength : Nat := 0x01000005
/-- Value out of range. -/
abbrev abRange : Nat := 0x02000001
/-- Sequence mismatch. -/
abbrev abSequence : Nat := 0x02000002
/-- Not allowed in present state. -/
abbrev abState : Nat := 0x03000001
/-- Command token not held. -/
abbrev abToken : Nat := 0x03000002
/-- Command conflict. -/
abbrev abConflict : Nat := 0x03000003
/-- Safety demand in force. -/
abbrev abSafety : Nat := 0x03000004
/-- Queue full. -/
abbrev abQueueFull : Nat := 0x04000001
/-- Resource limit exceeded. -/
abbrev abResource : Nat := 0x04000002
/-- Transfer unknown or timed out. -/
abbrev abTransfer : Nat := 0x05000001
/-- Transfer check failed. -/
abbrev abTransferCheck : Nat := 0x05000002
/-- Segment out of order. -/
abbrev abSegment : Nat := 0x05000003
/-- Service not supported. -/
abbrev abService : Nat := 0x05000004
/-- Value too long for the service. -/
abbrev abTooLong : Nat := 0x05000005
/-- Authentication failed. -/
abbrev abAuth : Nat := 0x06000001
/-- Session unknown or expired. -/
abbrev abSession : Nat := 0x06000002
/-- General device error. -/
abbrev abDevice : Nat := 0x07000001

/-- What a write leaves: the state, and its abort code or 0. -/
abbrev WriteResult := State × Nat

/-- A write that succeeds. -/
def accept (s : State) : WriteResult := (s, 0)

/-- A write that is refused. -/
def refuse (s : State) (code : Nat) : WriteResult := (s, code)

end Sys2Proof.Machine
end

