-- ==== Sys2Proof/Machine/Faults.lean ====
section
/-! DEFINITION. Windowed fault counters (R261 to R263): events collected in a tide, the fold at the next tide start, upsets and
lasting faults, window boundaries, and the objects that show the counts. -/

namespace Sys2Proof.Machine

/-- Station sources of R263. -/
abbrev srcLaneCheck : Nat := 0
/-- path faults and losses of lock -/
abbrev srcLanePath : Nat := 1
/-- drift of the launch phase -/
abbrev srcLanePhase : Nat := 2
/-- cutoff misses, poison skips -/
abbrev srcSequencer : Nat := 3
/-- control pairs -/
abbrev srcPair : Nat := 4
/-- loop engines -/
abbrev srcEngine : Nat := 5
/-- headroom episodes -/
abbrev srcHeadroom : Nat := 6
/-- arm capacity -/
abbrev srcCapacity : Nat := 7
/-- plausibility -/
abbrev srcPlausibility : Nat := 8
/-- voltage source losses -/
abbrev srcVoltage : Nat := 9
/-- coast overruns -/
abbrev srcCoast : Nat := 10
/-- stray entries -/
abbrev srcStray : Nat := 11
/-- retransmissions -/
abbrev srcRetx : Nat := 12
/-- admission failures -/
abbrev srcAdmit : Nat := 13

/-- Rank in the event log of the unit that a fault source belongs to (R261, R488). -/
def faultRank (family source : Nat) : Nat :=
  if family = 1 then 7
  else getD' [8, 8, 8, 8, 5, 5, 6, 6, 5, 4, 4, 8, 8, 6] source 15

/-- Key of a fault counter instance. -/
def faultKey (family source inst : Nat) : Nat := (family * 16 + source) * 65536 + inst

/-- Index of a source's objects (R243, R277). -/
def faultIndex (family source : Nat) : Nat := if family = 1 then 0x2240 + source else 0x2200 + source

/-- A setting or total of a source. -/
def faultObj (family source sub : Nat) : Nat := objKey (faultIndex family source) sub

/-- The present count c of an instance. -/
def faultCount (s : State) (family source inst : Nat) : Nat := Tbl.get (fun _ => 0) s.faultCounts (faultKey family source inst)

/-- Set a count. -/
def setFaultCount (key v : Nat) (s : State) : State := { s with faultCounts := Tbl.set (fun _ => 0) s.faultCounts key v }

/-- Count `n` events of a station source (family 0) or a leaf protection source (family 1); they are folded in at the next tide
start (R261). -/
def countFault (family source inst n : Nat) (s : State) : State :=
  if n = 0 then s
  else
    let e : FaultEvent := { rank := faultRank family source, family := family, source := source, inst := inst, n := n }
    { s with faultEvents := s.faultEvents ++ [e] }

/-- What the fold found of one instance: its source and instance, and whether the fault is lasting. -/
structure FoldResult where
  /-- family -/
  family : Nat
  /-- source -/
  source : Nat
  /-- instance -/
  inst : Nat
  /-- lasting fault, else upset -/
  lasting : Bool
  deriving DecidableEq, Repr

/-- Arguments of "upset" and "lasting fault" (R261). -/
def faultArgs (family source c : Nat) : List Byte := leBytes 1 family ++ leBytes 1 source ++ leBytes 2 0 ++ leBytes 2 c

/-- Fold one event in: an upset below the threshold, logged once per window and instance; at the threshold a lasting fault,
at most one per fold, and the count returns to 0 (R261, R262). -/
def foldOne (family source inst : Nat) (acc : State × List FoldResult) : State × List FoldResult :=
  let (s, rs) := acc
  let key := faultKey family source inst
  let c := min 65535 (faultCount s family source inst + rd s (faultObj family source 1))
  let args := faultArgs family source c
  let was := rs.any (fun r => r.family = family && r.source = source && r.inst = inst && r.lasting)
  if c < rd s (faultObj family source 2) then
    let s := count (setFaultCount key c s) (faultObj family source 5)
    let s := if s.faultLogged.contains key then s
             else emit .upset inst args { s with faultLogged := key :: s.faultLogged }
    (s, rs ++ [{ family := family, source := source, inst := inst, lasting := false }])
  else if was then (setFaultCount key 0 s, rs)
  else
    (emit .lastingFault inst args (setFaultCount key 0 (count s (faultObj family source 6))),
      rs ++ [{ family := family, source := source, inst := inst, lasting := true }])

/-- Fold `n` equal events. -/
def foldMany (family source inst : Nat) : Nat → State × List FoldResult → State × List FoldResult
  | 0, acc => acc
  | n + 1, acc => foldMany family source inst n (foldOne family source inst acc)

/-- Events of one rank, in order of arrival. -/
def ofRank (k : Nat) (es : List FaultEvent) : List FaultEvent := es.filter (fun e => e.rank = k)

/-- The fold at a tide start: the collected events by source rank, then by arrival (R261). -/
def foldFaults (s : State) : State × List FoldResult :=
  let es := (List.range 16).flatMap (fun k => ofRank k s.faultEvents)
  es.foldl (fun acc e => foldMany e.family e.source e.inst e.n acc) ({ s with faultEvents := [] }, [])

/-- Every count of a source returns to 0, and its windows start afresh (R261). -/
def clearSource (family source : Nat) (s : State) : State :=
  let lo := faultKey family source 0
  let other (k : Nat) : Bool := decide (k < lo) || decide (lo + 65536 ≤ k)
  { s with faultCounts := s.faultCounts.filter (fun p => other p.1), faultLogged := s.faultLogged.filter other }

/-- A boundary of a source's window: every count above 0 falls by 1, and an upset may be logged again (R261, R262). -/
def leakSource (family source : Nat) (s : State) : State :=
  let lo := faultKey family source 0
  let mine (k : Nat) : Bool := decide (lo ≤ k) && decide (k < lo + 65536)
  { s with
    faultCounts := s.faultCounts.filterMap (fun p => if mine p.1 then (if p.2 ≤ 1 then none else some (p.1, p.2 - 1)) else some p)
    faultLogged := s.faultLogged.filter (fun k => !mine k) }

/-- FAULT_WINDOW_BOUNDARY (R261): a boundary of a source's window. -/
def execFaultWindowBoundary (family source : Nat) (s : State) : Host.Outcome State Fault Refusal :=
  .next (whenAlive .fabric (leakSource family source) s)

/-- Instances a station source has on the code (R263). -/
def faultInstances (s : State) (source : Nat) : Nat :=
  match source with
  | 0 | 1 | 2 => droveCount s
  | 3 => droveCount s / 8
  | 4 => 4
  | 5 => 8
  | 6 | 7 | 8 => 12
  | 9 => 2
  | 10 => 1
  | _ => leafCount s

/-- `FSRC_COUNTS`: the count of every instance present, U16 each (R277). -/
def faultCountsBytes (s : State) (source : Nat) : List Byte :=
  (List.range (faultInstances s source)).flatMap (fun i => leBytes 2 (faultCount s 0 source i))

/-- `PSRC_COUNT` of a leaf: sources 0 to 4 (R245). -/
def leafProtBytes (s : State) (leaf : Nat) : List Byte :=
  (List.range 5).flatMap (fun k => leBytes 2 (faultCount s 1 k leaf))

/-- `LINK_SRC_COUNT` of a leaf: sources 11 to 13 (R280). -/
def leafLinkBytes (s : State) (leaf : Nat) : List Byte :=
  [srcStray, srcRetx, srcAdmit].flatMap (fun k => leBytes 2 (faultCount s 0 k leaf))

end Sys2Proof.Machine
end

