-- ==== Sys2Proof/Machine/Trig.lean ====
section
/-! DEFINITION. Square root, sine, cosine and angle of a rational, in fixed point with 60 fraction bits: the control laws are
written with them, and the manual does not state how finely they are computed (DEDUCED: within 2⁻⁵⁰ of the exact value, finer
than any object shows). -/

namespace Sys2Proof.Machine

/-- One in fixed point. -/
def fxOne : Int := 2 ^ 60

/-- A rational in fixed point, rounded to nearest. -/
def fxOf (x : Rat) : Int := roundHalfEven (x * ((2 ^ 60 : Nat) : Rat))

/-- Back to a rational. -/
def fxTo (x : Int) : Rat := (x : Rat) / ((2 ^ 60 : Nat) : Rat)

/-- Product in fixed point. -/
def fxMul (a b : Int) : Int := a * b / fxOne

/-- 2π in fixed point. -/
def fxTwoPi : Int := 7244019458077122842

/-- 1 / 2π in fixed point. -/
def fxInvTwoPi : Int := 183493156455125076

/-- Square root of a rational that is not negative, rounded down to 60 fraction bits; 0 for a negative one. -/
def sqrtR (x : Rat) : Rat :=
  if x ≤ 0 then 0 else ((Nat.sqrt (x.num.natAbs * 2 ^ 120 / x.den) : Nat) : Rat) / ((2 ^ 60 : Nat) : Rat)

/-- Taylor sum Σ (-1)^j t^(2j+o) / (2j+o)!, from the term already formed. -/
def taylor (t2 : Int) : Nat → Nat → Int → Int
  | 0, _, _ => 0
  | fuel + 1, o, term => term + taylor t2 fuel (o + 2) (-(fxMul term t2) / (((o + 1) * (o + 2) : Nat) : Int))

/-- Sine and cosine of an angle of at most an eighth turn, in fixed point. -/
def sinCosSmall (turns : Int) : Int × Int :=
  let t := fxMul turns fxTwoPi
  let t2 := fxMul t t
  (taylor t2 12 1 t, taylor t2 12 0 fxOne)

/-- Sine and cosine of an angle in turns. -/
def sinCosT (x : Rat) : Rat × Rat :=
  let q := roundHalfEven (4 * x)
  let sc := sinCosSmall (fxOf (x - (q : Rat) / 4))
  let r : Int × Int := match q % 4 with
    | 0 => (sc.1, sc.2)
    | 1 => (sc.2, -sc.1)
    | 2 => (-sc.1, -sc.2)
    | _ => (-sc.2, sc.1)
  (fxTo r.1, fxTo r.2)

/-- Sine of an angle in turns. -/
def sinT (x : Rat) : Rat := (sinCosT x).1

/-- Cosine of an angle in turns. -/
def cosT (x : Rat) : Rat := (sinCosT x).2

/-- Σ (-1)^j w^(2j+1) / (2j+1). -/
def atanSum (w2 : Int) : Nat → Nat → Int → Int
  | 0, _, _ => 0
  | fuel + 1, k, p => p / (k : Int) + atanSum w2 fuel (k + 2) (-(fxMul p w2))

/-- Arc tangent, in turns, of a value from 0 to 1 in fixed point. -/
def atanUnit (z : Int) : Int :=
  -- above tan(π/8) the angle is an eighth turn less that of (1 - z) / (1 + z)
  if z * 12 < fxOne * 5 then fxMul (atanSum (fxMul z z) 30 1 z) fxInvTwoPi
  else
    let w := (fxOne - z) * fxOne / (fxOne + z)
    fxOne / 8 - fxMul (atanSum (fxMul w w) 30 1 w) fxInvTwoPi

/-- Angle of the vector (x, y) in turns, in (-1/2, 1/2]; 0 for the zero vector. -/
def atan2T (y x : Rat) : Rat :=
  let ax := absRat x
  let ay := absRat y
  if ax = 0 ∧ ay = 0 then 0
  else
    let a : Rat := if ay ≤ ax then fxTo (atanUnit (fxOf (ay / ax))) else 1 / 4 - fxTo (atanUnit (fxOf (ax / ay)))
    let b := if x < 0 then 1 / 2 - a else a
    if y < 0 then -b else b

/-- Magnitude of a vector. -/
def mag (x y : Rat) : Rat := sqrtR (x * x + y * y)

/-- An angle in turns brought into [0, 1). -/
def wrapTurn (x : Rat) : Rat := x - (x.floor : Rat)

/-- An angle difference in turns brought into [-1/2, 1/2). -/
def wrapHalf (x : Rat) : Rat := wrapTurn (x + 1 / 2) - 1 / 2

end Sys2Proof.Machine
end

