-- ==== Sys2Proof/Machine/Bases.lean ====
section
/-! DEFINITION. The per-unit bases in force (R134) and the objects derived from them. The live objects of 0x3101 are the bases in
force in every state, HELD included. -/

namespace Sys2Proof.Machine

/-- S_b, W. -/
def basePower (s : State) : Rat := rdF s Obj.RATED_POWER

/-- V_ac, V line to line RMS at the valve side. -/
def baseVac (s : State) : Rat := rdF s Obj.RATED_AC_VOLTAGE

/-- V_dc, V. -/
def baseVdc (s : State) : Rat := rdF s Obj.RATED_DC_VOLTAGE

/-- Rated frequency, Hz. -/
def ratedHz (s : State) : Rat := rdF s Obj.RATED_FREQUENCY

/-- √(2/3). -/
def sqrt23 : Rat := sqrtR (2 / 3)

/-- Current base, A peak: √2 × S_b / (√3 × V_ac). -/
def baseCurrent (s : State) : Rat := sqrt23 * basePower s / baseVac s

/-- AC voltage base, V peak phase: √2 × V_ac / √3. -/
def baseAc (s : State) : Rat := sqrt23 * baseVac s

/-- Impedance base, Ω: V_ac² / S_b. -/
def baseImpedance (s : State) : Rat := baseVac s * baseVac s / basePower s

/-- DC current base, A: S_b / V_dc. -/
def baseDcCurrent (s : State) : Rat := basePower s / baseVdc s

/-- Energy base, J: S_b × 1 s. -/
def baseEnergy (s : State) : Rat := basePower s

/-- The four derived objects of 0x3101 (R134). -/
def showBases (s : State) : State :=
  wrF (wrF (wrF (wrF s Obj.BASE_CURRENT (baseCurrent s)) Obj.BASE_IMPEDANCE (baseImpedance s)) Obj.BASE_ENERGY (baseEnergy s))
    Obj.BASE_DC_CURRENT (baseDcCurrent s)

/-- Tide period in seconds. -/
def tideSec (s : State) : Rat := (periodNs s : Rat) / 1000000000

end Sys2Proof.Machine
end

