-- ==== Sys2Proof/Machine/Store.lean ====
section
/-! DEFINITION. The Flock Store: its bytes, the telemetry ring, the tide records and sensor samples (R72 to R76), and the
telemetry subscriptions (R98 to R100). -/

namespace Sys2Proof.Machine

/-! ### Bytes -/

/-- What a byte of a memory that nothing has written reads as: the store holds zeros after its initialisation (R462). -/
def memDefault : Nat → Byte := fun _ => 0

/-- Key of a byte: region code and byte address. -/
def memKey (region addr : Nat) : Nat := region * 2 ^ 32 + addr

/-- Read one byte. -/
def rdMem (s : State) (key : Nat) : Byte := Tbl.get memDefault s.mem key

/-- Write one byte. -/
def wrMem (s : State) (key : Nat) (v : Byte) : State := { s with mem := Tbl.set memDefault s.mem key v }

/-- Write bytes from a key upward. -/
def wrMems (s : State) (key : Nat) : List Byte → State
  | [] => s
  | b :: bs => wrMems (wrMem s key b) (key + 1) bs

/-- Read `n` bytes from a key upward. -/
def rdMems (s : State) (key n : Nat) : List Byte := (List.range n).map (fun i => rdMem s (key + i))

/-- The canonical form of the memory. -/
abbrev Memory.wf (m : List Host.Cell) : Prop := Tbl.wf memDefault m = true

/-! ### Telemetry ring and tide records -/

/-- Leaves of the ring and the tide records. -/
abbrev leafMax : Nat := 16384

/-- Key of leaf `L`'s entry of tide `n` in the telemetry ring (R74). -/
def ringKey (n L : Nat) : Nat := memKey 2 (n % 64 * 163840 + 10 * L)

/-- The 10 bytes of leaf `L` in tide `n`: slot bytes 6 to 15. -/
def ringBytes (s : State) (n L : Nat) : List Byte := rdMems s (ringKey n L) 10

/-- Store an entry. -/
def setRing (n L : Nat) (bs : List Byte) (s : State) : State := wrMems s (ringKey n L) bs

/-- The bytes of a missing slot (R74). -/
def missingBytes : List Byte := List.replicate 10 0xFF

/-- Fields of a ring entry, as raw 16-bit values: `CAP_VOLTAGE`, `PORT_VOLTAGE`, `PORT_CURRENT`, `STATUS`, `SLOW_WORD`. -/
def slotWord (bs : List Byte) (i : Nat) : Nat := leNat (slice bs (2 * i) 2)

/-- Key of a tide record. -/
def recKey (n L : Nat) : Nat := n % 64 * leafMax + L

/-- MISSING -/
abbrev trMissing : Nat := 0
/-- STALE -/
abbrev trStale : Nat := 1
/-- REPEATED -/
abbrev trRepeated : Nat := 2
/-- POISONED -/
abbrev trPoisoned : Nat := 3

/-- Tide record bits of leaf `L` in tide `n` (R75). A slot that nothing has returned is missing, that of a leaf not configured too. -/
def tideBits (s : State) (n L : Nat) : Nat := Tbl.get (fun _ => 1) s.tideRec (recKey n L)

/-- Set them. -/
def setTideBits (n L v : Nat) (s : State) : State := { s with tideRec := Tbl.set (fun _ => 1) s.tideRec (recKey n L) v }

/-- A slot is missing for its tide (R24, R50). -/
def slotMissing (s : State) (n L : Nat) : Bool := bit (tideBits s n L) trMissing

/-- The entry that holds an address of the ring is that of an unconfigured position in a tide that has begun: nothing was written, and it
reads 0xFF, as every slot that is missing does (R74). -/
def ringMissing (s : State) (addr : Nat) : Bool :=
  let n := addr / 163840
  let L := addr % 163840 / 10
  s.begun.contains n && decide (tideBits s n L = 1) && (ringBytes s n L).all (fun b => b = 0)

/-- A byte of the telemetry ring, by its address in the region. -/
def ringByte (s : State) (addr : Nat) : Byte := if ringMissing s addr then 0xFF else rdMem s (memKey 2 addr)

/-- Sensor sample word `w` of tide `n`; none where it is missing. -/
def sampleAt (s : State) (n w : Nat) : Option Int := Tbl.get (fun _ => none) s.samples (n % 64 * 64 + w)

/-- The word holds sensor sample `w` of tide `n` (R79). -/
def Poison.isSample (p : Poison) (n w : Nat) : Bool :=
  decide (p.region = 1) && decide (p.kind = 3) && decide (p.inst = w) && decide (p.detail % 64 = n % 64)

/-- Store a sensor sample; the write clears a poison of its word (R79). -/
def setSample (n w : Nat) (v : Option Int) (s : State) : State :=
  { s with samples := Tbl.set (fun _ => none) s.samples (n % 64 * 64 + w) v, poison := s.poison.filter (fun p => !p.isSample n w) }

/-! ### Poisoned words (R79) -/

/-- Writes of all 8 bytes store fresh data in every poisoned word that `p` selects. -/
def heal (p : Poison → Bool) (s : State) : State := { s with poison := s.poison.filter (fun w => !p w) }

/-- The words of instance `inst` of a region are written afresh. -/
def healInst (region inst : Nat) (s : State) : State :=
  heal (fun w => decide (w.region = region) && decide (w.inst = inst)) s

/-- Reference sets (`kind` 1) or demands (`kind` 2) of the tide area are written afresh, of the arms that `p` selects. -/
def healTideArea (kind : Nat) (p : Nat → Bool) (s : State) : State :=
  heal (fun w => decide (w.region = 1) && decide (w.kind = kind) && p w.inst) s

/-- The entry of tide `n` in the telemetry ring is written afresh. -/
def healRing (n : Nat) (s : State) : State :=
  heal (fun w => decide (ringKey n 0 ≤ w.key) && decide (w.key < ringKey n 0 + 163840)) s

/-! ### Leaves and droves -/

/-- Record of leaf `L`. -/
def leafOf (s : State) (L : Nat) : Leaf := Tbl.get (fun _ => Leaf.unknown) s.leaves L

/-- Change it. -/
def setLeaf (L : Nat) (f : Leaf → Leaf) (s : State) : State :=
  { s with leaves := Tbl.modify (fun _ => Leaf.unknown) s.leaves L f }

/-- Record of drove `d`. -/
def droveOf (s : State) (d : Nat) : Drove := Tbl.get (fun _ => Drove.off) s.droves d

/-- Change it. -/
def setDrove (d : Nat) (f : Drove → Drove) (s : State) : State :=
  { s with droves := Tbl.modify (fun _ => Drove.off) s.droves d f }

/-- Partner of a drove (R66). -/
def partner (d : Nat) : Nat := if d % 2 = 0 then d + 1 else d - 1

/-- A drove is in service. -/
def droveOn (s : State) (d : Nat) : Bool := decide (d < droveCount s) && rdBool s (Obj.DROVE_ENABLE d)

/-- Every drove in service. -/
def drovesOn (s : State) : List Nat := (List.range (droveCount s)).filter (droveOn s)

/-- Leaves of a drove in service. -/
def leavesOf (s : State) (d : Nat) : List Nat :=
  if droveOn s d then (List.range (min 128 (rd s (Obj.DROVE_LEAVES d)))).map (fun p => d * 128 + p) else []

/-- A leaf is configured. -/
def leafOn (s : State) (L : Nat) : Bool := droveOn s (L / 128) && decide (L % 128 < rd s (Obj.DROVE_LEAVES (L / 128)))

/-- Every configured leaf. -/
def allLeaves (s : State) : List Nat := (drovesOn s).flatMap (leavesOf s)

/-- Arm of a leaf, 0xFF for none. -/
def armOf (s : State) (L : Nat) : Nat := rd s (Obj.DROVE_ARM (L / 128))

/-- Droves of an arm that are in service. -/
def armDroves (s : State) (a : Nat) : List Nat := (drovesOn s).filter (fun d => decide (rd s (Obj.DROVE_ARM d) = a))

/-- Configured leaves of an arm, in ascending order. -/
def armLeaves (s : State) (a : Nat) : List Nat := (armDroves s a).flatMap (leavesOf s)

/-- An arm holds droves. -/
def armOn (s : State) (a : Nat) : Bool := !(armDroves s a).isEmpty

/-- The latest accepted slow record of a leaf (R52, R109). -/
def slowOf (s : State) (L : Nat) : Option (List Byte) := ((leafOf s L).slow.head?).map (·.2)

/-- A 16-bit field of a slow record. -/
def slowField (bs : List Byte) (o : Nat) : Nat := leNat (slice bs o 2)

/-! ### Subscriptions (R98 to R100) -/

/-- Bytes a subscription ring holds (R99). -/
abbrev subRingBytes : Nat := 262144

/-- Subscription `k`. -/
def subOf (s : State) (k : Nat) : Subscription := getD' s.subs k Subscription.idle

/-- Change it. -/
def setSub (k : Nat) (f : Subscription → Subscription) (s : State) : State := { s with subs := s.subs.modify k f }

/-- Field numbers a mask selects. -/
def subFields (mask : Nat) : List Nat := bitsSet 4 mask

/-- A field's value as a signed number: `PORT_CURRENT` is I16, the others are U16. -/
def fieldValue (f raw : Nat) : Int := if f = 2 then toSigned 16 raw else (raw : Int)

/-- Add the slot of one tide to what a window has gathered of a leaf. -/
def SubLeaf.add (x : SubLeaf) (firstTide : Bool) (slot : Option (List Byte)) : SubLeaf :=
  match slot with
  | none => x
  | some bs =>
    let raw := [0, 1, 2, 3].map (slotWord bs)
    let vals := [0, 1, 2, 3].map (fun f => fieldValue f (slotWord bs f))
    let st := slotWord bs 3
    if x.valid = 0 then
      { valid := 1, first := if firstTide then some raw else none, sums := vals, mins := vals, maxs := vals, ors := st, ands := st }
    else
      { valid := x.valid + 1, first := x.first,
        sums := (x.sums.zip vals).map (fun p => p.1 + p.2),
        mins := (x.mins.zip vals).map (fun p => if p.2 < p.1 then p.2 else p.1),
        maxs := (x.maxs.zip vals).map (fun p => if p.1 < p.2 then p.2 else p.1),
        ors := x.ors ||| st, ands := x.ands &&& st }

/-- Nothing gathered yet. -/
def SubLeaf.none : SubLeaf := { valid := 0, first := Option.none, sums := [], mins := [], maxs := [], ors := 0, ands := 0 }

/-- VALID and the values of one leaf in a record (R98, R99). -/
def SubLeaf.bytes (x : SubLeaf) (mode mask : Nat) : List Byte :=
  let fs := subFields mask
  let gap := List.replicate (fs.length * (if mode = 2 then 4 else 2)) (0xFF : Byte)
  match mode with
  | 0 => match x.first with
    | some raw => leBytes 2 1 ++ fs.flatMap (fun f => leBytes 2 (getD' raw f 0))
    | Option.none => leBytes 2 0 ++ gap
  | 1 =>
    if x.valid = 0 then leBytes 2 0 ++ gap
    else leBytes 2 x.valid ++ fs.flatMap (fun f =>
      if f = 3 then leBytes 2 x.ors else leBytes 2 (ofSigned 16 (divHalfEven (getD' x.sums f 0) x.valid)))
  | _ =>
    if x.valid = 0 then leBytes 2 0 ++ gap
    else leBytes 2 x.valid ++ fs.flatMap (fun f =>
      if f = 3 then leBytes 2 x.ors ++ leBytes 2 x.ands
      else leBytes 2 (ofSigned 16 (getD' x.mins f 0)) ++ leBytes 2 (ofSigned 16 (getD' x.maxs f 0)))

/-- The slot of tide `n` as a subscription sees it: none when missing or stale. -/
def subSlot (s : State) (n L : Nat) : Option (List Byte) := if slotMissing s n L then none else some (ringBytes s n L)

/-- Take tide `n` into the window of an enabled subscription: a window starts at n mod N = 0 and ends N - 1 tides later. A
window already under way when the subscription is enabled is not joined (DEDUCED). -/
def gatherSub (n k : Nat) (s : State) : State :=
  if rdBool s (Obj.SUB_ENABLE k) = false then s
  else
    let dec := rd s (Obj.SUB_DECIMATION k)
    let first := rd s (Obj.SUB_FIRST_LEAF k)
    let cnt := rd s (Obj.SUB_LEAF_COUNT k)
    let start := decide (n % dec = 0)
    let win := if start then some (n, List.replicate cnt SubLeaf.none) else (subOf s k).window
    match win with
    | none => s
    | some (t, xs) =>
      let ys := (xs.zip (List.range cnt)).map (fun p => p.1.add start (subSlot s n (first + p.2)))
      if n % dec = dec - 1 then setSub k (fun x => { x with window := none, ready := x.ready ++ [(t, ys)] }) s
      else setSub k (fun x => { x with window := some (t, ys) }) s

/-- Take tide `n` into every subscription. -/
def gatherSubs (n : Nat) (s : State) : State := (List.range 16).foldl (fun t k => gatherSub n k t) s

/-- One record of a subscription (R99). -/
def subRecord (s : State) (k t : Nat) (xs : List SubLeaf) : List Byte :=
  let mode := rd s (Obj.SUB_MODE k)
  let mask := rd s (Obj.SUB_FIELDS k)
  let body := xs.flatMap (fun x => x.bytes mode mask)
  leBytes 8 t ++ leBytes 2 (rd s (Obj.SUB_FIRST_LEAF k)) ++ leBytes 2 xs.length ++ leBytes 2 (rd s (Obj.SUB_DECIMATION k))
    ++ leBytes 1 mask ++ leBytes 1 mode ++ leBytes 4 (subOf s k).lost ++ leBytes 2 (subOf s k).counter ++ leBytes 2 0
    ++ leBytes 4 (32 + body.length) ++ leBytes 4 0 ++ body

/-- Drop a record: counted in `SUB_LOST` and in the next record's header. -/
def dropSub (k : Nat) (s : State) : State :=
  setSub k (fun x => { x with lost := satAdd (2 ^ 32 - 1) x.lost 1 }) (count s (Obj.SUB_LOST k))

/-- A complete window of subscription `k` that began in tide `t` can no longer be read: the ring entry of its last tide is being
overwritten from the start of the 64th tide after it (R76). -/
def windowGone (s : State) (k t : Nat) : Bool := decide (t + rd s (Obj.SUB_DECIMATION k) + 63 ≤ tideNow s)

/-- SUB_WINDOW_RECORD (R98, R99): the oldest complete window is written, or dropped when it does not fit, or when its last ring entry
has been overwritten (R76). `late` says that the engine itself, held up at the banks, had not finished reading in time. The record
takes the place in the ring of one dropped for an error, whose word it heals (R79). -/
def execSubWindowRecord (k : Nat) (late : Bool) (s : State) : Host.Outcome State Fault Refusal :=
  .next (whenAlive .fabric (fun s =>
    match (subOf s k).ready with
    | [] => s
    | (t, xs) :: rest =>
      let s := setSub k (fun x => { x with ready := rest }) s
      let r := subRecord s k t xs
      let used := sumNat ((subOf s k).ring.map (fun p => p.2.length))
      if late || windowGone s k t || decide (subRingBytes < used + r.length) then dropSub k s
      else
        pmcEvent 0x15 k 1 (setSub k (fun x =>
          { x with ring := x.ring ++ [(x.counter, r)], counter := (x.counter + 1) % 65536, lost := 0 }) (healInst 6 k s))) s)

/-- Output rate of a subscription, bytes per second (R100). -/
def subRate (s : State) (k : Nat) : Rat :=
  let n := (subFields (rd s (Obj.SUB_FIELDS k))).length
  let per : Nat := 32 + rd s (Obj.SUB_LEAF_COUNT k) * (2 + 2 * n * (if rd s (Obj.SUB_MODE k) = 2 then 2 else 1))
  (per : Rat) * 1000000000 / (periodNs s : Rat) / (rd s (Obj.SUB_DECIMATION k) : Rat)

/-- `SUB_RELEASE` (R99): a record of that counter and all before it are freed. The write of a counter that no record of the ring has
completes without effect (DESIGN CHOICE, log entry 61). -/
def subRelease (k c : Nat) (s : State) : State :=
  if (subOf s k).ring.any (fun p => p.1 = c) then
    setSub k (fun x => { x with ring := (x.ring.dropWhile (fun p => p.1 ≠ c)).drop 1 }) s
  else s

end Sys2Proof.Machine
end

