-- ==== Sys2Proof/Machine/Sensors.lean ====
section
/-! DEFINITION. What the control laws read of the plant: sensor samples, arm currents and DC voltages (R394, R395), the phases,
legs and arms of a converter (R12), and transforms between phases and axes (R136, R163, R183). -/

namespace Sys2Proof.Machine

/-- Value of sample `w` of tide `n` in engineering units; none when missing. -/
def sampleVal (s : State) (n w : Nat) : Option Rat :=
  if w < 64 then (sampleAt s n w).map (fun raw => f32ToRat raw.toNat) else none

/-- Current of arm `a` in the samples of tide `n`, pu. -/
def armCurrent (s : State) (n a : Nat) : Option Rat := (sampleVal s n (rd s (Obj.ARM_I_SENSOR a))).map (· / baseCurrent s)

/-- DC voltage of converter `c` in the samples of tide `n`, pu. -/
def dcVoltage (s : State) (n c : Nat) : Option Rat := (sampleVal s n (rd s (Obj.DC_V_SENSOR c))).map (· / baseVdc s)

/-- Arms of converter `c`. -/
def convArms (c : Nat) : List Nat := (List.range 6).map (6 * c + ·)

/-- Legs of converter `c`. -/
def convLegs (c : Nat) : List Nat := (List.range 3).map (3 * c + ·)

/-- Converter `c` has arms that hold droves. -/
def convOn (s : State) (c : Nat) : Bool := (convArms c).any (armOn s)

/-- Converters present. -/
def convsOn (s : State) : List Nat := (List.range 2).filter (convOn s)

/-- √3. -/
def sqrt3 : Rat := sqrtR 3

/-- Amplitude-invariant Clarke transform (R163). -/
def clarke (a b c : Rat) : Rat × Rat := ((2 * a - b - c) / 3, (b - c) / sqrt3)

/-- Phase `p` of an αβ vector. -/
def phaseOf (v : Rat × Rat) (p : Nat) : Rat :=
  match p with
  | 0 => v.1
  | 1 => -v.1 / 2 + sqrt3 / 2 * v.2
  | _ => -v.1 / 2 - sqrt3 / 2 * v.2

/-- φ_p in turns. -/
def phiTurns (p : Nat) : Rat := -((p : Rat) / 3)

/-- Active and reactive components of an αβ vector at angle `th` (turns): the active axis is (cos, sin); the reactive one lags it
by 90° (R136). -/
def toAxes (v : Rat × Rat) (th : Rat) : Rat × Rat :=
  let sc := sinCosT th
  (v.1 * sc.2 + v.2 * sc.1, v.1 * sc.1 - v.2 * sc.2)

/-- The αβ vector with active and reactive components `x` at angle `th`. -/
def fromAxes (x : Rat × Rat) (th : Rat) : Rat × Rat :=
  let sc := sinCosT th
  (x.1 * sc.2 + x.2 * sc.1, x.1 * sc.1 - x.2 * sc.2)

/-- A vector turned by an angle in turns. -/
def turn (v : Rat × Rat) (th : Rat) : Rat × Rat :=
  let sc := sinCosT th
  (v.1 * sc.2 - v.2 * sc.1, v.1 * sc.1 + v.2 * sc.2)

/-- Arm current as the laws take it: a free value stands in for a missing sample. -/
def armCurrentOr (s : State) (n a : Nat) : Rat := (armCurrent s n a).getD (Config.missingCurrent n a)

/-- DC voltage as the laws take it. -/
def dcVoltageOr (s : State) (n c : Nat) : Rat := (dcVoltage s n c).getD (Config.missingDcVoltage n c)

/-- AC current of leg `g`, i_u - i_l, pu. -/
def legAc (s : State) (n g : Nat) : Rat := armCurrentOr s n (2 * g) - armCurrentOr s n (2 * g + 1)

/-- Circulating current of leg `g`, (i_u + i_l) / 2, pu. -/
def legCirc (s : State) (n g : Nat) : Rat := (armCurrentOr s n (2 * g) + armCurrentOr s n (2 * g + 1)) / 2

/-- αβ currents of converter `c` in the samples of tide `n`. -/
def convCurrent (s : State) (n c : Nat) : Rat × Rat :=
  clarke (legAc s n (3 * c)) (legAc s n (3 * c + 1)) (legAc s n (3 * c + 2))

/-- Mean of a list, 0 when empty. -/
def meanOf (xs : List Rat) : Rat := if xs.isEmpty then 0 else sumRat xs / (xs.length : Rat)

end Sys2Proof.Machine
end

