-- ==== Sys2Proof/Machine/Grid.lean ====
section
/-! DEFINITION. The grid interface unit (R160 to R166, R175, R177, R180, R181, R184 to R190): sources, synchronisation, the grid set,
ride-through and islanding supervision, and the sector tracker. Angles are in turns, voltages and currents in pu, instants in ns. -/

namespace Sys2Proof.Machine

/-- π. -/
def piR : Rat := fxTo fxTwoPi / 2

/-- Converter `c`. -/
def conv (s : State) (c : Nat) : Converter := getD' s.convs c Converter.reset

/-- Change converter `c`. -/
def setConv (c : Nat) (f : Converter → Converter) (s : State) : State := { s with convs := s.convs.modify c f }

/-! ### `SYNC_FLAGS` (R201) -/

/-- LOCKED -/
abbrev sfLocked : Nat := 0
/-- FREQ_CLAMPED -/
abbrev sfClamped : Nat := 1
/-- RT_CONDITION -/
abbrev sfRt : Nat := 2
/-- DPC_ACTIVE -/
abbrev sfDpc : Nat := 3
/-- STALLED -/
abbrev sfStalled : Nat := 4
/-- VECTOR_ABSENT -/
abbrev sfAbsent : Nat := 5
/-- SOURCE_LOST -/
abbrev sfLost : Nat := 6
/-- ALT_IN_USE -/
abbrev sfAlt : Nat := 7
/-- CURRENT_LIMITED -/
abbrev sfLimited : Nat := 8

/-- A bit of `SYNC_FLAGS`. -/
def sync (s : State) (c i : Nat) : Bool := bit (rd s (Obj.SYNC_FLAGS c)) i

/-- Set a bit of `SYNC_FLAGS`. -/
def setSync (c i : Nat) (b : Bool) (s : State) : State := wr s (Obj.SYNC_FLAGS c) (putBit (rd s (Obj.SYNC_FLAGS c)) i b)

/-- Direct power control is active. -/
def dpcOn (s : State) (c : Nat) : Bool := rdBool s (Obj.DPC_ACTIVE c)

/-- v+ -/
def vPos (x : Converter) : Rat := mag x.vpa x.vpb

/-- v- -/
def vNeg (x : Converter) : Rat := mag x.vna x.vnb

/-! ### Sources (R161, R162) -/

/-- `SOURCE_LOSS_TIME` in ns. -/
def lossNs (s : State) (c : Nat) : Nat := rd s (Obj.SOURCE_LOSS_TIME c) * 1000

/-- Source `src` has delivered a valid sample within `SOURCE_LOSS_TIME`. -/
def sourceValid (s : State) (c src : Nat) : Bool :=
  match getD' (conv s c).seen src none with
  | some t => decide (nowNs s ≤ t + lossNs s c)
  | none => false

/-- Whether a valid sample of `src` is one to use: of the source in use; of the primary, while none has been in use; of the alternative,
while the interface is lost. It returns to the primary by no sample (R162). -/
def takesSource (s : State) (c src : Nat) : Bool :=
  let used := rd s (Obj.SOURCE_IN_USE c)
  if used = src then true
  else if used = 0xFF ∧ src = rd s (Obj.VOLTAGE_SOURCE c) then true
  else sync s c sfLost && decide (src = rd s (Obj.VOLTAGE_SOURCE_ALT c))

/-- Use source `src` from now on. -/
def useSource (c src : Nat) (s : State) : State :=
  if rd s (Obj.SOURCE_IN_USE c) = src then s
  else
    let s := setSync c sfAlt (src ≠ rd s (Obj.VOLTAGE_SOURCE c)) (wr s (Obj.SOURCE_IN_USE c) src)
    setConv c (fun x => { x with sectorFresh := true }) s

/-- The interface changes to `VOLTAGE_SOURCE_ALT`, with the event of R162. -/
def changeSource (c alt : Nat) (s : State) : State :=
  emit .voltageSourceChanged c (leBytes 1 c ++ leBytes 1 (rd s (Obj.SOURCE_IN_USE c)) ++ leBytes 1 alt) (useSource c alt s)

/-! ### Synchronisation (R163, R164) -/

/-- Interval of the sample from the one before it, s. -/
def sampleSec (x : Converter) (ns : Nat) : Rat :=
  match x.stamp with
  | some t => if t < ns then ((ns - t : Nat) : Rat) / 1000000000 else 0
  | none => 0

/-- Sequence separation of a sample (R163). -/
def separate (s : State) (c : Nat) (ab : Rat × Rat) (ts : Rat) (x : Converter) : Converter :=
  let g := Config.sogi x.sogi ab.1 ab.2 (x.omega * ratedHz s) (rdF s (Obj.DSOGI_GAIN c)) ts
  let a := getD' g 0 0
  let qa := getD' g 1 0
  let b := getD' g 2 0
  let qb := getD' g 3 0
  { x with sogi := [a, qa, b, qb], va := ab.1, vb := ab.2, vpa := (a - qb) / 2, vpb := (qa + b) / 2, vna := (a + qb) / 2,
           vnb := (b - qa) / 2 }

/-- The phase-locked loop takes a sample (R163): θ has been carried to its instant at the last ω; FREQ_CLAMPED is returned. While v+ is
below `STALL_V_MIN` ω stands, and the flag with it (DEDUCED, log entry 67). -/
def lockLoop (s : State) (c : Nat) (ts : Rat) (x : Converter) : Converter × Bool :=
  let f := ratedHz s
  let th := wrapTurn (x.theta + x.omega * f * ts)
  let v := vPos x
  if v < rdPu s (Obj.STALL_V_MIN c) then ({ x with theta := th }, sync s c sfClamped)
  else
    let sc := sinCosT th
    let vq := x.vpb * sc.2 - x.vpa * sc.1
    let e := vq / maxRat v (1 / 10)
    let bw := rdF s (Obj.PLL_BANDWIDTH c)
    let kp := 2 * rdF s (Obj.PLL_DAMPING c) * bw / f
    let ki := 2 * piR * bw * bw / f
    let w := 1 + kp * e + x.x
    let lo := rdF s (Obj.F_MIN c)
    let hi := rdF s (Obj.F_MAX c)
    ({ x with theta := th, omega := clampRat lo hi w, x := x.x + ki * e * ts }, decide (w < lo) || decide (hi < w))

/-- Phase error of the positive sequence against θ, in turns. -/
def phaseError (x : Converter) : Rat :=
  let sc := sinCosT x.theta
  atan2T (x.vpb * sc.2 - x.vpa * sc.1) (x.vpa * sc.2 + x.vpb * sc.1)

/-- LOCKED of R164, and the instants its times run from. -/
def lockFlag (s : State) (c ns : Nat) (x : Converter) (was : Bool) : Converter × Bool :=
  let err := absRat (phaseError x)
  let v := vPos x
  let good : Option Nat := if err < 1 / 72 ∧ (1 / 10 : Rat) ≤ v then some (x.goodSince.getD ns) else none
  let bad : Option Nat := if (1 / 36 : Rat) < err then some (x.badSince.getD ns) else none
  let held (t : Option Nat) (d : Nat) : Bool := match t with | some a => decide (a + d ≤ ns) | none => false
  let now := if v < rdPu s (Obj.STALL_V_MIN c) ∨ held bad 2000000 = true then false else was || held good 20000000
  ({ x with goodSince := good, badSince := bad }, now)

/-! ### Sectors (R180) -/

/-- Sector of an angle in turns: sector s is centred on s × 30°. -/
def sectorOf (g : Rat) : Nat := (wrapTurn (g + 1 / 24) * 12).floor.toNat % 12

/-- The angle lies more than 2° inside sector `dest`, from the side it was entered on. -/
def sectorPassed (g : Rat) (old dest : Nat) : Bool :=
  let inside := wrapTurn (g + 1 / 24) - (dest : Rat) / 12
  if (dest + 12 - old) % 12 ≤ 6 then decide ((1 : Rat) / 180 < inside) else decide (inside < 1 / 12 - 1 / 180)

/-- Track the sector of the measured vector (R180). -/
def trackSector (c : Nat) (s : State) : State :=
  let x := conv s c
  if station s < stHeld then s
  else if mag x.va x.vb < rdPu s (Obj.STALL_V_MIN c) then setSync c sfStalled false (setSync c sfAbsent true s)
  else
    let s := setSync c sfAbsent false s
    let g := atan2T x.vb x.va
    let old := rd s (Obj.SECTOR_NOW c)
    let dest := sectorOf g
    let fresh := x.sectorFresh
    let s := setConv c (fun x => { x with sectorFresh := false }) s
    if dest = old ∨ sectorPassed g old dest = false then s
    else
      let s := wr s (Obj.SECTOR_NOW c) dest
      if dest = (old + 1) % 12 ∧ fresh = false then setSync c sfStalled false (countBy 64 s (Obj.SECTOR_TRANSITIONS c) 1) else s

/-! ### Ride-through condition (R175) -/

/-- v+ or v- is outside its entry threshold. -/
def rtPresent (s : State) (c : Nat) (x : Converter) : Bool :=
  decide (vPos x < rdPu s (Obj.LVRT_ENTRY c)) || decide (rdPu s (Obj.HVRT_ENTRY c) < vPos x)
    || decide (rdPu s (Obj.NEG_ENTRY c) < vNeg x)

/-- The samples of the second before `ns` (R175). -/
def keptSince (x : Converter) (ns : Nat) : List Kept := x.kept.filter (fun k => decide (ns ≤ k.stamp + 1000000000))

/-- Track the condition: its first sample starts t_f and takes the means of the second before it. Within one RIDE-THROUGH t_f runs
on when the condition pauses. A condition breaks off the hold of R179. -/
def trackRt (c ns : Nat) (s : State) : State :=
  let x := conv s c
  let now := rtPresent s c x
  let s := setSync c sfRt now s
  if now then
    let s := { s with cl := { s.cl with rtClear := false } }
    match x.rtFrom with
    | some _ => s
    | none =>
      let ks := keptSince x ns
      setConv c (fun x => { x with
        rtFrom := some ns, vPre := meanOf (ks.map (·.v)), ipPre := meanOf (ks.map (·.ip)), iqPre := meanOf (ks.map (·.iq)) }) s
  else if station s = stRideThrough then s
  else setConv c (fun x => { x with rtFrom := none }) s

/-- Add to the 100 ms mean `index` of R166; the last 24 are kept. -/
def addBucket (index : Nat) (v : Option Rat) (q : Option Rat) (bs : List Bucket) : List Bucket :=
  let put (b : Bucket) : Bucket :=
    { b with v := b.v + v.getD 0, nv := b.nv + b2n v.isSome, q := b.q + q.getD 0, nq := b.nq + b2n q.isSome }
  if bs.any (fun b => b.index = index) then bs.map (fun b => if b.index = index then put b else b)
  else (put { index := index, v := 0, nv := 0, q := 0, nq := 0 } :: bs).take 24

/-! ### The probe (R187) -/

/-- A vector and a count added to a sum. -/
def addVector (n : Rat × Rat) (p : Rat × Rat × Nat) : Rat × Rat × Nat := (p.1 + n.1, p.2.1 + n.2, p.2.2 + 1)

/-- A sample of the probe's bursts, by its own instant: the negative-sequence voltage over the second half of each (R187). -/
def probeSample (s : State) (c ns : Nat) (x : Converter) : Converter :=
  if x.probe = 0 ∨ ns < x.probeFrom then x
  else
    let t := ns - x.probeFrom
    let b := rd s (Obj.PROBE_BURST c) * 1000000
    let n := toAxes (x.vna, -x.vnb) x.theta
    if b / 2 ≤ t ∧ t < b then { x with probeSum := addVector n x.probeSum }
    else if b + b / 2 ≤ t ∧ t < 2 * b then { x with probeMinus := addVector n x.probeMinus }
    else x

/-- Mean of a sum of vectors. -/
def meanVector (p : Rat × Rat × Nat) : Rat × Rat := (p.1 / (p.2.2 : Rat), p.2.1 / (p.2.2 : Rat))

/-- End of a probe: `PROBE_Z` from the means of both bursts. A burst without a sample gives no mean, and the probe no impedance (DEDUCED,
log entry 67). -/
def closeProbe (c : Nat) (s : State) : State :=
  let x := conv s c
  if x.probe = 0 then s
  else if x.probeSum.2.2 = 0 ∨ x.probeMinus.2.2 = 0 then setConv c (fun x => { x with probe := 0 }) s
  else
    let p := meanVector x.probeSum
    let m := meanVector x.probeMinus
    let z := mag (p.1 - m.1) (p.2 - m.2) / (2 * rdPu s (Obj.PROBE_CURRENT c))
    setConv c (fun x => { x with probe := 0, probeOver := if rdPu s (Obj.PROBE_Z_LIMIT c) < z then x.probeOver + 1 else 0 })
      (wrPu s (Obj.PROBE_Z c) z)

/-- The probe is over once a sample taken after both bursts has been processed. -/
def probeDone (c ns : Nat) (s : State) : State :=
  if (conv s c).probeFrom + 2 * (rd s (Obj.PROBE_BURST c) * 1000000) ≤ ns then closeProbe c s else s

/-- A valid sample of the source in use is processed (R163, R164, R175, R180). -/
def processSample (c : Nat) (m : PocVolts) (s : State) : State :=
  let k := rdF s Obj.TRANSFORMER_RATIO * baseAc s * 1000
  let ab := clarke (m.va / k) (m.vb / k) (m.vc / k)
  let x := conv s c
  let ts := sampleSec x m.ns
  let r := lockLoop s c ts (separate s c ab ts x)
  let l := lockFlag s c m.ns r.1 (sync s c sfLocked)
  let win := rd s (Obj.ROCOF_WINDOW c) * 1000000
  let y : Converter := { l.1 with
    stamp := some m.ns, ageSum := x.ageSum + ((m.arrive : Int) - (m.ns : Int)), ageCount := x.ageCount + 1,
    omegas := ((m.ns, l.1.omega) :: x.omegas).filter (fun p => decide (m.ns ≤ p.1 + win)) }
  let s := setConv c (fun _ => probeSample s c m.ns y) s
  let s := setSync c sfLocked l.2 (setSync c sfClamped r.2 s)
  let s := if l.2 then setSync c sfLost false s else s
  let s := trackRt c m.ns (probeDone c m.ns (trackSector c s))
  setConv c (fun x => { x with
    kept := { stamp := m.ns, v := vPos x, ip := x.set.ip, iq := x.set.iq, angle := atan2T x.vpb x.vpa, omega := x.omega }
      :: keptSince x m.ns,
    buckets := addBucket (m.ns / 100000000) (some (vPos x)) none x.buckets }) s

/-- A point-of-connection sample arrives from source `src` (R161, R162). It is missing when its quality is bad, its test flag is set,
or it is older than `SOURCE_LOSS_TIME`. A lost interface that takes the alternative up changes to it. -/
def takeVoltage (c src : Nat) (m : PocVolts) (s : State) : State :=
  if 2 ≤ c ∨ 3 ≤ src ∨ station s < stHeld then s
  else if m.good = false ∨ m.ns + lossNs s c < m.arrive then s
  else
    let takes := takesSource s c src
    let used := rd s (Obj.SOURCE_IN_USE c)
    let s := setConv c (fun x => { x with seen := x.seen.set src (some m.ns) }) s
    if takes = false then s
    else processSample c m (if used = src ∨ used = 0xFF then useSource c src s else changeSource c src s)

/-- A sample of the command VOLTAGE_SAMPLE, which arrives now. -/
def voltsOf (s : State) (m : PocSample) : PocVolts :=
  { va := m.va, vb := m.vb, vc := m.vc, ns := m.ns, arrive := nowNs s, good := m.good }

/-- VOLTAGE_SAMPLE (R163). -/
def execVoltageSample (c src : Nat) (m : PocSample) (s : State) : Host.Outcome State Fault Refusal :=
  .next (whenAlive .fabric (fun s => takeVoltage c src (voltsOf s m) s) s)

/-- The samples of the metering chain that have arrived by now are taken, oldest first (R374). -/
def deliverVolts (c : Nat) (s : State) : State :=
  let due (v : Nat × PocVolts) : Bool := decide (v.2.arrive ≤ nowNs s)
  let vs := (conv s c).flow.filter due
  vs.foldl (fun t v => takeVoltage c v.1 v.2 t) (setConv c (fun x => { x with flow := x.flow.filter (fun v => !due v) }) s)

/-! ### The grid set (R165) -/

/-- Rate of change of frequency over `ROCOF_WINDOW`, mHz/s. -/
def rocof (s : State) (x : Converter) : Rat :=
  match x.omegas.head?, x.omegas.getLast? with
  | some a, some b => if b.1 < a.1 then (a.2 - b.2) * ratedHz s * 1000 / (((a.1 - b.1 : Nat) : Rat) / 1000000000) else 0
  | _, _ => 0

/-- The grid set of converter `c` for S(n). -/
def gridSet (s : State) (n c : Nat) : GridSet :=
  let x := conv s c
  let sn : Int := (tideStartAt s n / nsUnit : Nat)
  let age : Int := match x.stamp with | some t => sn - (t : Int) | none => 0
  let rate := x.omega * ratedHz s / 1000000000
  let move := rate * (age : Rat)
  let th := wrapTurn (x.theta + move)
  let p := toAxes (x.vpa, x.vpb) x.theta
  let q := toAxes (x.vna, -x.vnb) x.theta
  let vp := turn (x.vpa, x.vpb) move
  let vn := turn (x.vna, x.vnb) (-move)
  let v : Rat × Rat := (vp.1 + vn.1, vp.2 + vn.2)
  let i := convCurrent s n c
  let ia := toAxes i th
  let im := toAxes (i.1, -i.2) th
  { theta := th, thetaA := wrapTurn (th + rate * (5 / 2 * (periodNs s : Rat) + (rd s Obj.APPLY_MARK : Rat))), omega := x.omega,
    rocof := roundHalfEven (rocof s x), vp := p.1, vq := p.2, np := q.1, nq := q.2, p := v.1 * i.1 + v.2 * i.2,
    q := v.2 * i.1 - v.1 * i.2, va := v.1, vb := v.2, age := age, ip := ia.1, iq := ia.2, inp := im.1, inq := im.2 }

/-- An angle in turns as ANG32. -/
def ang32 (t : Rat) : Nat := (wrapTurn t * ((2 ^ 32 : Nat) : Rat)).floor.toNat % 2 ^ 32

/-- Publish the grid set of converter `c` and its objects. -/
def publishGrid (n c : Nat) (s : State) : State :=
  let g := gridSet s n c
  let x := conv s c
  let sat (i : Int) : Nat := ofSigned 32 (clampInt (-(2 ^ 31)) (2 ^ 31 - 1) i)
  let s := wrs s [(Obj.GRID_THETA c, ang32 g.theta), (Obj.GRID_FREQUENCY c, pu24OfRat g.omega), (Obj.GRID_ROCOF c, sat g.rocof),
    (Obj.V_POS c, pu24OfRat (vPos x)), (Obj.V_NEG c, pu24OfRat (vNeg x)), (Obj.P_MEAS c, pu24OfRat g.p),
    (Obj.Q_MEAS c, pu24OfRat g.q), (Obj.GRID_AGE c, sat g.age)]
  let s := if x.ageCount = 0 then s
    else wr s (Obj.SOURCE_DELAY c) (clampInt 0 (2 ^ 32 - 1) (roundHalfEven ((x.ageSum : Rat) / (x.ageCount : Rat)))).toNat
  setConv c (fun x => { x with
    set := g, ageSum := 0, ageCount := 0,
    buckets := addBucket (tideStartAt s n / nsUnit / 100000000) none (some g.q) x.buckets }) s

/-- GRID_SET_PUBLISH (R165): 200 ns before the return deadline. -/
def execGridSetPublish (s : State) : Host.Outcome State Fault Refusal :=
  .next (whenAlive .fabric (fun s =>
    let s := runTo (markAt s (rd s Obj.RETURN_DEADLINE - 200)) s
    if station s < stHeld then s
    else publishGrid (tideNow s) 1 (publishGrid (tideNow s) 0 (deliverVolts 1 (deliverVolts 0 s)))) s)

/-! ### Station reactions -/

/-- Ramp-down at the next tide start with a cause of R196. -/
def askRampDown (cause arg : Nat) (s : State) : State := schedule stRampDown cause arg s

/-- BLOCKED at the next tide start. -/
def askBlocked (cause : Nat) (s : State) : State := schedule stBlocked cause 0 s

/-- What a lost voltage source does in the present state (R162). -/
def sourceLostAction (c : Nat) (s : State) : State :=
  if dpcOn s c && isActive (station s) then askBlocked causeGrid s
  else if [stRunning, stRideThrough, stCoast].contains (station s) then askRampDown causeGrid 6 s
  else s

/-- SOURCE_LOSS_TIMEOUT (R162): the source in use has been without a valid sample for `SOURCE_LOSS_TIME`. -/
def execSourceLossTimeout (c : Nat) (s : State) : Host.Outcome State Fault Refusal :=
  .next (whenAlive .fabric (fun s =>
    let used := rd s (Obj.SOURCE_IN_USE c)
    let alt := rd s (Obj.VOLTAGE_SOURCE_ALT c)
    if 2 ≤ c ∨ station s < stHeld ∨ sourceValid s c used = true then s
    else if alt < 3 ∧ alt ≠ used ∧ sourceValid s c alt = true then changeSource c alt s
    else if sync s c sfLost then s
    else
      let s := setSync c sfLocked false (setSync c sfLost true s)
      let s := setConv c (fun x => { x with goodSince := none }) s
      sourceLostAction c (countFault 0 srcVoltage c 1 (emit .voltageSourceLost c (leBytes 1 c) s))) s)

/-! ### Short-circuit ratio (R166) -/

/-- Slope of Δv+ over Δq by least squares, and the range of q. -/
def scrFit (ps : List (Rat × Rat)) : Rat × Rat :=
  let qm := meanOf (ps.map (·.2))
  let vm := meanOf (ps.map (·.1))
  let num := sumRat (ps.map (fun p => (p.2 - qm) * (p.1 - vm)))
  let den := sumRat (ps.map (fun p => (p.2 - qm) * (p.2 - qm)))
  let qs := ps.map (·.2)
  let hi := qs.foldl maxRat (qs.head?.getD 0)
  let lo := qs.foldl minRat (qs.head?.getD 0)
  (if den = 0 then 0 else num / den, hi - lo)

/-- SCR_ESTIMATE (R166): once per second, from the ten 100 ms means of the second that has ended. -/
def execScrEstimate (c : Nat) (s : State) : Host.Outcome State Fault Refusal :=
  .next (whenAlive .fabric (fun s =>
    let sec := nowNs s / 1000000000
    let ps := ((conv s c).buckets.filter (fun b => decide (b.index / 10 + 1 = sec) && decide (0 < b.nv) && decide (0 < b.nq))).map
      (fun b => (b.v / (b.nv : Rat), b.q / (b.nq : Rat)))
    let f := scrFit ps
    if 2 ≤ c ∨ ps.length ≠ 10 ∨ f.2 < 1 / 50 then s
    else
      let est := if f.1 = 0 then Config.flatScr c sec else 1 / f.1
      let old := rdPu s (Obj.SCR_EST c)
      wrPu s (Obj.SCR_EST c) (old + (est - old) / 4)) s)

/-! ### Ride-through (R175 to R179) -/

/-- RT_CONFIRM_EXPIRY (R175): the condition has held for `RT_CONFIRM`; the station enters RIDE-THROUGH from RUNNING. -/
def execRtConfirmExpiry (c : Nat) (s : State) : Host.Outcome State Fault Refusal :=
  .next (whenAlive .fabric (fun s =>
    if decide (c < 2) && sync s c sfRt && decide (station s = stRunning) && !(stateAhead s (tideNow s + 1) = stRideThrough) then
      schedule stRideThrough causeGrid 0 (count (emit .rideThroughEntered c (leBytes 1 c) s) (Obj.RT_ENTRIES c))
    else s) s)

/-- Boundary of a curve at `t` ns after onset (R177): linear between points, the later point at a shared time, the last voltage
after the last point. -/
def curveAt (ps : List (Rat × Rat)) (t : Rat) : Rat :=
  match ps with
  | [] => 0
  | [p] => p.2
  | p :: q :: rest =>
    if q.1 ≤ t then curveAt (q :: rest) t
    else if t < p.1 ∨ q.1 = p.1 then p.2
    else p.2 + (q.2 - p.2) * (t - p.1) / (q.1 - p.1)

/-- Points of the low-voltage curve: time in ns, voltage. -/
def lvrtCurve (s : State) (c : Nat) : List (Rat × Rat) :=
  (List.range (rd s (Obj.LVRT_POINTS c))).map (fun k => (((rd s (Obj.LVRT_TIME c k) * 1000000 : Nat) : Rat), rdPu s (Obj.LVRT_VOLTAGE c k)))

/-- Points of the high-voltage curve. -/
def hvrtCurve (s : State) (c : Nat) : List (Rat × Rat) :=
  (List.range (rd s (Obj.HVRT_POINTS c))).map (fun k => (((rd s (Obj.HVRT_TIME c k) * 1000000 : Nat) : Rat), rdPu s (Obj.HVRT_VOLTAGE c k)))

/-- v+ lies beyond the curve at the present fault time. -/
def beyondCurve (s : State) (c : Nat) : Bool :=
  let x := conv s c
  match x.rtFrom, x.stamp with
  | some a, some b =>
    let t : Rat := ((b - a : Nat) : Rat)
    decide (vPos x < curveAt (lvrtCurve s c) t) || decide (curveAt (hvrtCurve s c) t < vPos x)
  | _, _ => false

/-- RT_CURVE_CROSSED (R177, R198, R335): v+ has been beyond the curve for `RT_CONFIRM` in an active state. -/
def execRtCurveCrossed (c : Nat) (s : State) : Host.Outcome State Fault Refusal :=
  .next (whenAlive .fabric (fun s =>
    if decide (c < 2) && beyondCurve s c && isActive (station s) then
      askBlocked causeGrid (count (emit .rideThroughLimitCrossed c (leBytes 1 c) s) (Obj.RT_BEYOND c))
    else s) s)

/-- What R179 asks of both converters at the coming tide start: no condition, and direct power control inactive then. -/
def rideOver (s : State) : Bool :=
  [0, 1].all (fun c => !sync s c sfRt && (!dpcOn s c || (conv s c).dpcEnd) && !(conv s c).dpcDue)

/-- The cause that ends RIDE-THROUGH (R179). -/
def Cause.endsRide (c : Cause) : Bool := decide (c.target = stRunning) && decide (c.cause = causeGrid)

/-- RIDE-THROUGH ends at the next tide start when its hold has expired and nothing else keeps it (R179). -/
def endRide (s : State) : State :=
  if station s = stRideThrough ∧ s.cl.rtClear = true ∧ rideOver s = true ∧ s.sm.causes.any Cause.endsRide = false then
    schedule stRunning causeGrid 0 s
  else s

/-- RT_EXIT_HOLD_EXPIRY (R179): no condition has been present for `RT_EXIT_HOLD`. -/
def execRtExitHoldExpiry (s : State) : Host.Outcome State Fault Refusal :=
  .next (whenAlive .fabric (fun s =>
    if [0, 1].all (fun c => !sync s c sfRt) then endRide { s with cl := { s.cl with rtClear := true } } else s) s)

/-- At a tide start an end of RIDE-THROUGH whose conditions no longer hold is dropped (R179). -/
def keepRide (s : State) : State :=
  if station s = stRideThrough ∧ (s.cl.rtClear = false ∨ rideOver s = false) then
    { s with sm := { s.sm with causes := s.sm.causes.filter (fun c => !c.endsRide) } }
  else s

/-! ### Direct power control (R181, R184) -/

/-- A condition of R181 is found. -/
def dpcCondition (s : State) (c : Nat) : Bool :=
  let x := conv s c
  decide (vPos x < rdPu s (Obj.DPC_ENTRY_V c))
    || decide ((rd s (Obj.DPC_ANGLE_JUMP c) : Rat) / ((2 ^ 32 : Nat) : Rat) < absRat (phaseError x))
    || decide (2 ≤ x.errRun)

/-- The states in which direct power control may be entered: RIDE-THROUGH, and COAST or RAMP-DOWN under ride-through. -/
def dpcState (s : State) (c : Nat) : Bool :=
  station s = stRideThrough || ((station s = stCoast || station s = stRampDown) && sync s c sfRt)

/-- DPC_ENTRY (R181). -/
def execDpcEntry (c : Nat) (s : State) : Host.Outcome State Fault Refusal :=
  .next (whenAlive .fabric (fun s =>
    if decide (c < 2) && rdBool s (Obj.DPC_ENABLE c) && !dpcOn s c && dpcState s c && dpcCondition s c then
      if sync s c sfAbsent || sync s c sfLost then askBlocked causeGrid s
      else setConv c (fun x => { x with dpcDue := true }) s
    else s) s)

/-- DPC_EXIT_HOLD_EXPIRY (R184): v+ and LOCKED have held for `DPC_EXIT_HOLD`. RIDE-THROUGH may end at the same tide start (R179). -/
def execDpcExitHoldExpiry (c : Nat) (s : State) : Host.Outcome State Fault Refusal :=
  .next (whenAlive .fabric (fun s =>
    if decide (c < 2) && dpcOn s c && decide (rdPu s (Obj.DPC_ENTRY_V c) + 1 / 20 < vPos (conv s c)) && sync s c sfLocked then
      endRide (setConv c (fun x => { x with dpcEnd := true }) s)
    else s) s)

/-! ### Islanding (R185 to R188) -/

/-- One rated cycle, ns. -/
def ratedCycle (s : State) : Rat := 1000000000 / ratedHz s

/-- Vector shift in turns (R186): the angle of the positive sequence in the latest sample against the one predicted from the latest
sample at least one rated cycle older, at the frequency of that sample (DEDUCED, log entry 67); 0 before there is one. -/
def vectorShift (s : State) (c : Nat) : Rat :=
  match (conv s c).kept with
  | [] => 0
  | k :: rest =>
    match rest.find? (fun o => decide (ratedCycle s ≤ ((k.stamp - o.stamp : Nat) : Rat))) with
    | none => 0
    | some o =>
      let d := wrapTurn (k.angle - o.angle - o.omega * ratedHz s * (((k.stamp - o.stamp : Nat) : Rat) / 1000000000))
      minRat d (1 - d)

/-- The vector shift method is suspended in RIDE-THROUGH, under direct power control, and for 200 ms after either ends (R186). -/
def shiftSuspended (s : State) (c : Nat) : Bool :=
  station s = stRideThrough || dpcOn s c || decide (nowNs s < (conv s c).shiftFrom)

/-- RIDE-THROUGH or direct power control ends: the vector shift method stays suspended for 200 ms (R186). -/
def suspendShift (c : Nat) (s : State) : State := setConv c (fun x => { x with shiftFrom := nowNs s + 200000000 }) s

/-- A method finds its condition (R186). -/
def islandFound (s : State) (c how : Nat) : Bool :=
  let x := conv s c
  match how with
  | 0 => decide (x.omega < rdPu s (Obj.ISL_F_LOW c)) || decide (rdPu s (Obj.ISL_F_HIGH c) < x.omega)
  | 1 => decide ((rdInt 32 s (Obj.ISL_ROCOF c) : Rat) < absRat (rocof s x))
  | 2 => !shiftSuspended s c && decide ((rd s (Obj.ISL_SHIFT c) : Rat) / ((2 ^ 32 : Nat) : Rat) < vectorShift s c)
  | 3 => decide (station s = stRunning) && decide (2 ≤ x.probeOver)
  | 4 => !sync s c sfAbsent
  | _ => false

/-- The reaction of `ISLAND_REACTION` (R188). -/
def islandReaction (c : Nat) (s : State) : State :=
  match rd s (Obj.ISLAND_REACTION c) with
  | 1 => askRampDown causeIslanding 5 s
  | 2 => askBlocked causeIslanding s
  | 3 => setConv c (fun x => { x with modeDue := true }) s
  | _ => s

/-- `ISLAND_REACTION` 3 takes effect at this tide start (R188). -/
def islandMode (c : Nat) (s : State) : State :=
  if (conv s c).modeDue then wr (setConv c (fun x => { x with modeDue := false }) s) (Obj.GRID_MODE c) 1 else s

/-- Method `how` runs: enabled, from READY onward but for SAFE, which only measures, while a source is there (R32, R162, R186). -/
def methodRuns (s : State) (c how : Nat) : Bool :=
  decide (stReady ≤ station s) && station s ≠ stSafe && !sync s c sfLost && bit (rd s (Obj.ISLAND_ENABLE c)) how

/-- The flag of a method that runs latches (R186, R202). -/
def flagMethod (c how : Nat) (s : State) : State :=
  if methodRuns s c how then wr s (Obj.ISLAND_FLAGS c) (setBit (rd s (Obj.ISLAND_FLAGS c)) how) else s

/-- A detection by a method (R186, R188). -/
def detectIsland (c how : Nat) (s : State) : State :=
  if methodRuns s c how = false then s
  else
    let old := rd s (Obj.ISLAND_FLAGS c)
    let s := flagMethod c how s
    if old ≠ 0 ∨ isActive (station s) = false then s
    else islandReaction c (count (emit .islandingDetected c (leBytes 1 c ++ leBytes 1 how) s) (Obj.ISLAND_DETECTIONS c))

/-- A stalled grid vector: under direct power control BLOCKED, before any other reaction (R185), else a detection (R188). -/
def stallFound (c : Nat) (s : State) : State :=
  if dpcOn s c then askBlocked causeGrid (emit .gridVectorStalled c (leBytes 1 c) (flagMethod c 4 s)) else detectIsland c 4 s

/-- ISLANDING_DETECTED (R188): method `how` of R186 has detected. -/
def execIslandingDetected (c how : Nat) (s : State) : Host.Outcome State Fault Refusal :=
  .next (whenAlive .fabric (fun s =>
    if decide (c < 2) && islandFound s c how then (if how = 4 then stallFound c s else detectIsland c how s) else s) s)

/-- GRID_STALL (R185, R188): no forward transition for `STALL_TIME` while the vector is there. -/
def execGridStall (c : Nat) (s : State) : Host.Outcome State Fault Refusal :=
  .next (whenAlive .fabric (fun s =>
    if 2 ≤ c ∨ sync s c sfAbsent = true ∨ station s < stHeld then s else stallFound c (setSync c sfStalled true s)) s)

/-- PROBE_PERIOD_START (R187): in RUNNING with the probe enabled, the two bursts begin; the period before ends with the samples it has
had. -/
def execProbePeriodStart (c : Nat) (s : State) : Host.Outcome State Fault Refusal :=
  .next (whenAlive .fabric (fun s =>
    if decide (c < 2) && decide (station s = stRunning) && bit (rd s (Obj.ISLAND_ENABLE c)) 3 then
      setConv c (fun x => { x with probe := 1, probeFrom := nowNs s, probeSum := (0, 0, 0), probeMinus := (0, 0, 0) }) (closeProbe c s)
    else s) s)

/-! ### Writes and tide starts -/

/-- A write of 1 to `ISLAND_CLEAR` (R186). -/
def clearIslands (c : Nat) (s : State) : State := wr s (Obj.ISLAND_FLAGS c) 0

/-- A write of either source object returns to the primary (R162). -/
def primarySource (c : Nat) (s : State) : State := setSync c sfAlt false (wr s (Obj.SOURCE_IN_USE c) 0xFF)

/-- Values that have come into force: another voltage source starts from the primary (R162), another `SCR_DEFAULT` starts the estimate
afresh (R166; DEDUCED, log entry 67). -/
def gridCommit (old s : State) : State :=
  [0, 1].foldl (fun t c =>
    let t := if rd old (Obj.VOLTAGE_SOURCE c) = rd t (Obj.VOLTAGE_SOURCE c) ∧ rd old (Obj.VOLTAGE_SOURCE_ALT c) = rd t (Obj.VOLTAGE_SOURCE_ALT c)
      then t else primarySource c t
    if rd old (Obj.SCR_DEFAULT c) = rd t (Obj.SCR_DEFAULT c) then t else wrPu t (Obj.SCR_EST c) (rdF t (Obj.SCR_DEFAULT c))) s

/-- Direct power control begins at the tide start after its entry condition was found (R181). -/
def dpcBegin (c : Nat) (s : State) : State :=
  if (conv s c).dpcDue = false then s
  else
    let s := setConv c (fun x => { x with dpcDue := false, vector := 0 }) s
    if isActive (station s) then
      emit .dpcEntered c (leBytes 1 c) (count (wr (setSync c sfDpc true s) (Obj.DPC_ACTIVE c) 1) (Obj.DPC_ENTRIES c))
    else s

end Sys2Proof.Machine
end

