-- ==== Sys2Proof/Machine/GridItems.lean ====
section
/-! DEFINITION. What the control pairs compute at a reference mark: the GRID items (R167 to R174, R176, R189, R190, R196), the ENERGY
items (R138, R139), and what the tide reference generator captures and publishes (R191, R193). -/

namespace Sys2Proof.Machine

/-- `x` moved toward `y` by at most `d`. -/
def moveToward (x y d : Rat) : Rat := if absRat (y - x) ≤ d then y else if x < y then x + d else x - d

/-- Setpoints as the last reference mark took them (R29). -/
def spP (x : Converter) : Rat := getD' x.setp 0 0
/-- Q -/
def spQ (x : Converter) : Rat := getD' x.setp 1 0
/-- V -/
def spV (x : Converter) : Rat := getD' x.setp 2 1
/-- power factor -/
def spPf (x : Converter) : Rat := getD' x.setp 3 1
/-- battery -/
def spBat (x : Converter) : Rat := getD' x.setp 4 0
/-- DC voltage -/
def spVdc (x : Converter) : Rat := getD' x.setp 5 1

/-- The six setpoints take effect at a reference mark (R29). -/
def copySetpoints (c : Nat) (s : State) : State :=
  setConv c (fun x => { x with setp := [rdPu s (Obj.P_SETPOINT c), rdPu s (Obj.Q_SETPOINT c), rdPu s (Obj.V_SETPOINT c),
    rdPu s (Obj.PF_SETPOINT c), rdPu s (Obj.P_BAT_SETPOINT c), rdPu s (Obj.VDC_REF c)] }) s

/-- Positive-sequence magnitude of the grid set. -/
def setV (g : GridSet) : Rat := mag g.vp g.vq

/-! ### Dispatch (R167, R168) -/

/-- Frequency response ΔP_f (R167), in grid-following mode. -/
def freqResponse (s : State) (c : Nat) (g : GridSet) : Rat :=
  let droop := rdPu s (Obj.F_DROOP c)
  let band := rdPu s (Obj.F_DEADBAND c)
  let d := g.omega - 1
  if droop = 0 ∨ absRat d ≤ band then 0 else -(if 0 < d then d - band else d + band) / droop

/-- Code of the first condition of R190 that fails for direction `dir`, 0 when all hold. -/
def reversalReason (s : State) (c dir : Nat) : Nat :=
  let since := match (conv s c).lastReversal with
    | some t => decide (t + rd s (Obj.REVERSAL_INTERVAL c) * 1000000000 ≤ nowNs s)
    | none => true
  if bit (rd s (Obj.REVERSAL_PERMIT c)) dir = false then 1
  else if rd s (Obj.DC_ROLE c) = 2 then 0
  else if since = false then 2
  else if station s = stRideThrough ∨ dpcOn s c = true then 3
  else if station s ≠ stRunning then 4
  else 0

/-- Direction wanted by a target power (R189): 0 ebb, 1 flood, unchanged at 0. -/
def wantedDir (s : State) (c : Nat) (p : Rat) : Nat := if 0 < p then 0 else if p < 0 then 1 else rd s (Obj.DIRECTION c)

/-- Carry out a reversal (R189). -/
def reverse (c dir : Nat) (s : State) : State :=
  let s := wrs s [(Obj.DIRECTION c, dir), (Obj.REVERSAL_STATE c, 0), (Obj.REVERSAL_HOLD_REASON c, 0)]
  let s := emit .powerReversal c (leBytes 1 c ++ leBytes 1 dir) (count s (Obj.REVERSALS c))
  setConv c (fun x => { x with lastReversal := some (nowNs s), dwellFrom := none, ramping := true }) s

/-- The interlock returns to STEADY (R189). -/
def steady (c : Nat) (s : State) : State :=
  setConv c (fun x => { x with dwellFrom := none, ramping := true }) (wrs s [(Obj.REVERSAL_STATE c, 0), (Obj.REVERSAL_HOLD_REASON c, 0)])

/-- The interlock at a reference mark (R189, R190) for target power `pt`: in STEADY nothing holds the power; in the other states the
result says that P_ac* goes to or stays at zero. In RIDE-THROUGH it is frozen, but for the reason it shows in HELD. -/
def interlock (c : Nat) (pt : Rat) (s : State) : State :=
  let want := wantedDir s c pt
  let st := rd s (Obj.REVERSAL_STATE c)
  if rd s (Obj.DC_ROLE c) = 2 then
    if want = rd s (Obj.DIRECTION c) then (if st = 0 then s else steady c s)
    else
      let r := reversalReason s c want
      if r = 0 then reverse c want s else wrs s [(Obj.REVERSAL_STATE c, 3), (Obj.REVERSAL_HOLD_REASON c, r)]
  else if station s = stRideThrough then
    (if st = 3 then wr s (Obj.REVERSAL_HOLD_REASON c) (reversalReason s c (1 - rd s (Obj.DIRECTION c))) else s)
  else if want = rd s (Obj.DIRECTION c) then (if st = 0 then s else steady c s)
  else match st with
    | 0 => wr s (Obj.REVERSAL_STATE c) 1
    | 1 =>
      let x := conv s c
      if x.pAc = 0 ∧ absRat x.set.p ≤ rdPu s (Obj.REVERSAL_ZERO_BAND c) then
        setConv c (fun x => { x with dwellFrom := some (nowNs s) }) (wr s (Obj.REVERSAL_STATE c) 2)
      else s
    | 3 =>
      let r := reversalReason s c want
      if r = 0 then reverse c want s else wr s (Obj.REVERSAL_HOLD_REASON c) r
    | _ => s

/-- What the end of a dwell does: a reversal if permitted, otherwise HELD (R189). -/
def endDwell (c : Nat) (s : State) : State :=
  let want := 1 - rd s (Obj.DIRECTION c)
  let r := reversalReason s c want
  if r = 0 then reverse c want s else wrs s [(Obj.REVERSAL_STATE c, 3), (Obj.REVERSAL_HOLD_REASON c, r)]

/-- REVERSAL_DWELL_END (R189): `REVERSAL_DWELL` passes from the start of the dwell. A ride-through breaks the dwell off (R190). -/
def execReversalDwellEnd (c : Nat) (s : State) : Host.Outcome State Fault Refusal :=
  .next (whenAlive .processing (fun s =>
    match (conv s c).dwellFrom with
    | some t =>
      if c < 2 ∧ rd s (Obj.REVERSAL_STATE c) = 2 ∧ isActive (station s) = true ∧ station s ≠ stRideThrough then
        endDwell c (runTo ((t + rd s (Obj.REVERSAL_DWELL c) * 1000000) * nsUnit) s)
      else s
    | none => s) s)

/-- A ride-through breaks off a dwell in progress, and the return to RUNNING starts it again (R190). -/
def holdDwell (dst c : Nat) (s : State) : State :=
  if rd s (Obj.REVERSAL_STATE c) ≠ 2 then s
  else if dst = stRideThrough then setConv c (fun x => { x with dwellFrom := none }) s
  else if dst = stRunning ∧ (conv s c).dwellFrom = none then setConv c (fun x => { x with dwellFrom := some (nowNs s) }) s
  else s

/-- P_ac* after the ramp, the frequency response, the direction and the interlock (R167, R168, R189). `ts` is the time since the last
reference mark. -/
def powerRefs (c : Nat) (ts : Rat) (s : State) : State :=
  let x := conv s c
  let rate := rdPu s (Obj.P_RAMP_RATE c) * ts
  let role2 := decide (rd s (Obj.DC_ROLE c) = 2)
  let ramped := moveToward x.pTarget (spP x) rate
  let vdc := dcVoltageOr s (tideNow s - 1) c
  let err := vdc - spVdc x
  let pdc := rdF s (Obj.KP_VDC c) * err + x.xDc
  let pt := if role2 then pdc + spBat x else ramped + (if x.mode = 0 then freqResponse s c x.set else 0)
  let s := setConv c (fun x => { x with pTarget := ramped }) s
  let s := interlock c pt s
  let st := rd s (Obj.REVERSAL_STATE c)
  let x := conv s c
  let hi := if rd s (Obj.DIRECTION c) = 0 then rdPu s (Obj.EBB_P_MAX c) else 0
  let lo := if rd s (Obj.DIRECTION c) = 0 then 0 else -(rdPu s (Obj.FLOOD_P_MAX c))
  let goal := clampRat lo hi pt
  let zeroRate := maxRat (rdPu s (Obj.P_RAMP_RATE c)) (rdPu s (Obj.REVERSAL_RAMP c)) * ts
  let pac := if st ≠ 0 then (if role2 then 0 else moveToward x.pAc 0 zeroRate)
    else if x.ramping then moveToward x.pAc goal rate else goal
  let xdc := if role2 && decide (st = 0) then x.xDc + rdF s (Obj.KI_VDC c) * err * ts else x.xDc
  setConv c (fun x => { x with
    pAc := pac, xDc := xdc, pdcLoop := pdc, ramping := x.ramping && !(decide (st = 0) && decide (pac = goal)) }) s

/-- Q* target of `Q_MODE` (R167). -/
def qTarget (s : State) (c : Nat) : Rat :=
  let x := conv s c
  match rd s (Obj.Q_MODE c) with
  | 0 => spQ x
  | 1 => spQ x + (spV x - setV x.set) / rdPu s (Obj.Q_DROOP c)
  | _ =>
    let pf := spPf x
    absRat x.pAc * sqrtR (1 - pf * pf) / absRat pf * (if pf < 0 then -1 else 1)

/-- Q*, which moves at `P_RAMP_RATE` after a run or a change of mode until it reaches its target (R339, R174). -/
def reactiveRefs (c : Nat) (ts : Rat) (s : State) : State :=
  let x := conv s c
  let q := qTarget s c
  let q' := if x.qRamping then moveToward x.qStar q (rdPu s (Obj.P_RAMP_RATE c) * ts) else q
  setConv c (fun x => { x with qStar := q', qRamping := x.qRamping && !decide (q' = q) }) s

/-! ### Limits (R170, R140) -/

/-- Scale a pair to a magnitude. -/
def scaleTo (v : Rat × Rat) (m : Rat) : Rat × Rat :=
  let a := mag v.1 v.2
  if a ≤ m ∨ a = 0 then v else (v.1 * m / a, v.2 * m / a)

/-- A number with its magnitude limited. -/
def limitMag (x m : Rat) : Rat := clampRat (-m) m x

/-- The current limit of R170: `fault` gives the RIDE-THROUGH order. -/
def limitRefs (imax : Rat) (fault : Bool) (r : RefSet) : RefSet × Bool :=
  let n := mag r.np r.nq
  if mag r.ip r.iq + n ≤ imax then (r, false)
  else
    let keep := if fault then r.iq else r.ip
    let give := if fault then r.ip else r.iq
    let left := imax - n
    if absRat keep ≤ left then
      let g := limitMag give (sqrtR (left * left - keep * keep))
      ((if fault then { r with ip := g } else { r with iq := g }), true)
    else
      let neg := scaleTo (r.np, r.nq) (maxRat 0 (imax - absRat keep))
      let k := limitMag keep imax
      ((if fault then { r with ip := 0, iq := k, np := neg.1, nq := neg.2 }
        else { r with iq := 0, ip := k, np := neg.1, nq := neg.2 }), true)

/-- Any arm of a converter is limited (R112). -/
def anyLimited (s : State) (c : Nat) : Bool := (convArms c).any (fun a => bit (rd s Obj.ARM_HEADROOM) a)

/-- The back-off of one axis (R140): the part taken away, in [0, 1]. -/
def backOff (s : State) (c flag : Nat) (b : Rat) : Rat :=
  if anyLimited s c then
    if (convArms c).any (fun a => bit (rd s (Obj.HEADROOM_FLAGS a)) flag) then
      1 - (1 - b) * (1 - (rd s Obj.HEADROOM_BACKOFF : Rat) / 10000)
    else b
  else maxRat 0 (b - (rd s Obj.HEADROOM_RECOVER : Rat) / 10000)

/-- The back-off of both axes at a reference mark of the GRID item, in every active state. -/
def stepBackOff (c : Nat) (s : State) : State :=
  setConv c (fun x => { x with backP := backOff s c 2 x.backP, backQ := backOff s c 3 x.backQ }) s

/-- References with the back-off in force. -/
def backedOff (x : Converter) (r : RefSet) : RefSet := { r with ip := r.ip * (1 - x.backP), iq := r.iq * (1 - x.backQ) }

/-! ### References -/

/-- Currents of the grid-following mode (R169). -/
def followRefs (x : Converter) : RefSet :=
  let v := maxRat (setV x.set) (1 / 10)
  { RefSet.zero with ip := x.pAc / v, iq := x.qStar / v }

/-- Current the probe adds to the negative active axis (R187). -/
def probeCurrent (s : State) (c : Nat) : Rat :=
  let x := conv s c
  if x.probe = 0 then 0
  else
    let t := nowNs s - x.probeFrom
    let b := rd s (Obj.PROBE_BURST c) * 1000000
    if t < b then rdPu s (Obj.PROBE_CURRENT c) else if t < 2 * b then -(rdPu s (Obj.PROBE_CURRENT c)) else 0

/-- The swing equation of R171, in the form of R173 while the flag or a ride-through holds. -/
def swing (s : State) (c : Nat) (ts : Rat) (x : Converter) : Converter :=
  let h := rdF s (Obj.INERTIA_H c)
  let droop := rdPu s (Obj.F_DROOP c)
  let kf := if droop = 0 then 0 else 1 / droop
  let g := x.set
  let rhs := if rdBool s (Obj.FORMING_LIMITED c) || decide (station s = stRideThrough) then
      2 * h * rdF s (Obj.LIMIT_SYNC_GAIN c) * (g.omega - x.omegaV)
    else x.pAc - g.p - rdF s (Obj.DAMPING_D c) * (x.omegaV - g.omega) - kf * (x.omegaV - 1)
  let w := x.omegaV + rhs / (2 * h) * ts
  { x with omegaV := w, thetaV := wrapTurn (x.thetaV + w * ratedHz s * ts),
           eMag := spV x - rdF s (Obj.E_DROOP c) * (g.q - spQ x) }

/-- Currents of the virtual admittance (R172) on the axes at θ. -/
def formRefs (s : State) (c : Nat) (x : Converter) : RefSet :=
  let ev := fromAxes (x.eMag, 0) x.thetaV
  let vv := fromAxes (setV x.set, 0) x.set.theta
  let d : Rat × Rat := (ev.1 - vv.1, ev.2 - vv.2)
  let r := rdF s (Obj.VIRTUAL_R c)
  let xx := rdF s (Obj.VIRTUAL_X c)
  let z2 := r * r + xx * xx
  let i := toAxes ((d.1 * r + d.2 * xx) / z2, (d.2 * r - d.1 * xx) / z2) x.set.theta
  { RefSet.zero with ip := i.1, iq := i.2 }

/-- A reference mark without the limit of R173: the tenth in a row clears FORMING_LIMITED. -/
def formQuiet (c : Nat) (s : State) : State :=
  let n := (conv s c).unlimited + 1
  let s := if 10 ≤ n then wr s (Obj.FORMING_LIMITED c) 0 else s
  setConv c (fun x => { x with unlimited := n }) s

/-- The limit of a forming converter (R173) and its flag. -/
def formLimit (c : Nat) (r : RefSet) (s : State) : State × RefSet :=
  let imax := rdPu s (Obj.I_MAX c)
  if imax < mag r.ip r.iq then
    let i := scaleTo (r.ip, r.iq) imax
    (setConv c (fun x => { x with unlimited := 0 }) (wr s (Obj.FORMING_LIMITED c) 1), { r with ip := i.1, iq := i.2 })
  else (formQuiet c s, r)

/-- References of a ride-through before the limit (R176). -/
def faultWanted (s : State) (c : Nat) (vPre ipPre iqPre : Rat) (x : Converter) : RefSet :=
  { RefSet.zero with
    ip := ipPre, iq := iqPre + rdF s (Obj.K_POS c) * (vPre - setV x.set), np := 0,
    nq := -(rdF s (Obj.K_NEG c)) * mag x.set.np x.set.nq }

/-- References of a ride-through (R176) from v_pre and the pre-fault currents, with the back-off in force (R140), and whether the limit of
R170 acts. -/
def faultRefs (s : State) (c : Nat) (ts : Rat) (vPre ipPre iqPre : Rat) (x : Converter) : RefSet × Bool :=
  let imax := rdPu s (Obj.I_MAX c)
  let w := limitRefs imax true (faultWanted s c vPre ipPre iqPre x)
  let l := w.1
  let left := maxRat 0 (imax - mag l.np l.nq)
  let room := sqrtR (left * left - l.iq * l.iq)
  let r := backedOff x { l with ip := limitMag ipPre room }
  let ip := if dpcOn s c then x.refs.ip
    else if absRat x.refs.ip < absRat r.ip then moveToward x.refs.ip r.ip (rdF s (Obj.P_RECOVERY_RATE c) * ts) else r.ip
  ({ r with ip := ip }, w.2)

/-- Fraction of the ramp still to go (R196). -/
def rampFraction (s : State) : Rat :=
  match s.cl.rampFrom with
  | some t => maxRat 0 (1 - ((nowNs s - t : Nat) : Rat) / ((rd s Obj.RAMP_DOWN_TIME * 1000000 : Nat) : Rat))
  | none => 0

/-- References of RAMP-DOWN before the limit (R196), with the reactive injection of R176 on top under a ride-through condition while a
source is there. -/
def rampWanted (s : State) (c : Nat) (vPre : Rat) (x : Converter) : RefSet :=
  let k := rampFraction s
  let e := x.entry
  let base : RefSet := { e with ip := e.ip * k, iq := e.iq * k, np := e.np * k, nq := e.nq * k }
  if sync s c sfRt && !sync s c sfLost then
    { base with
      iq := base.iq + rdF s (Obj.K_POS c) * (vPre - setV x.set),
      nq := base.nq - rdF s (Obj.K_NEG c) * mag x.set.np x.set.nq }
  else base

/-- The references of RAMP-DOWN take effect: under the limit of R170 and the back-off of R140. -/
def rampRefs (c : Nat) (vPre : Rat) (s : State) : State :=
  let x := conv s c
  let l := limitRefs (rdPu s (Obj.I_MAX c)) false (rampWanted s c vPre x)
  setConv c (fun x => { x with refs := { backedOff x l.1 with pdc := x.refs.pdc, pbat := x.refs.pbat } })
    (setSync c sfLimited l.2 (formQuiet c s))

/-- The bumpless transfer of R174, at a reference mark in RUNNING without direct power control. -/
def modeTransfer (c : Nat) (s : State) : State :=
  let x := conv s c
  let want := rd s (Obj.GRID_MODE c)
  if station s ≠ stRunning ∨ dpcOn s c = true ∨ want = x.mode then s
  else
    let s := emit .gridModeChanged c (leBytes 1 c ++ leBytes 1 want) s
    if want = 1 then
      let i := fromAxes (x.refs.ip, x.refs.iq) x.set.theta
      let v := fromAxes (setV x.set, 0) x.set.theta
      let r := rdF s (Obj.VIRTUAL_R c)
      let xx := rdF s (Obj.VIRTUAL_X c)
      let e : Rat × Rat := (v.1 + r * i.1 - xx * i.2, v.2 + r * i.2 + xx * i.1)
      setConv c (fun x => { x with mode := 1, omegaV := x.set.omega, thetaV := wrapTurn (atan2T e.2 e.1), eMag := mag e.1 e.2 }) s
    else setConv c (fun x => { x with mode := 0, pAc := x.set.p, qStar := x.set.q, ramping := true, qRamping := true }) s

/-- Limit, flag and back-off of a set of references outside RIDE-THROUGH (R170, R140), and the rise limit that a ride-through leaves
behind (R176). -/
def finishRefs (c : Nat) (ts : Rat) (r : RefSet) (s : State) : State :=
  let x := conv s c
  let l := limitRefs (rdPu s (Obj.I_MAX c)) false { r with np := r.np + probeCurrent s c }
  let r := backedOff x l.1
  let step := rdF s (Obj.P_RECOVERY_RATE c) * ts
  let capped := x.rising && decide (absRat x.refs.ip + step < absRat r.ip)
  let ip' := if capped then moveToward x.refs.ip r.ip step else r.ip
  let out : RefSet := { r with ip := ip', pdc := x.refs.pdc, pbat := spBat x }
  setConv c (fun x => { x with refs := out, rising := x.rising && capped }) (setSync c sfLimited l.2 s)

/-- The state the outputs are computed for: the present one, or the active state that begins at the next tide start (R339). -/
def workState (s : State) : Nat :=
  if isActive (station s) then station s
  else
    let next := stateAhead s (tideNow s + 1)
    if isActive next then next else station s

/-- A reference mark of the GRID item that forms no references. -/
def idleMark (c : Nat) (s : State) : State := setSync c sfLimited false (formQuiet c s)

/-- References of the GRID item in RIDE-THROUGH (R176). -/
def rideMark (c : Nat) (ts : Rat) (s : State) : State :=
  let s := formQuiet c s
  let x := conv s c
  let x := if x.mode = 1 then swing s c ts x else x
  let r := faultRefs s c ts x.vPre x.ipPre x.iqPre x
  setConv c (fun _ => { x with refs := { r.1 with pdc := x.refs.pdc, pbat := spBat x }, rising := true }) (setSync c sfLimited r.2 s)

/-- References of the GRID item in RUNNING (R169, R171 to R173). -/
def runMark (c : Nat) (ts : Rat) (s : State) : State :=
  let x := conv s c
  if x.mode = 1 then
    let y := swing s c ts x
    let f := formLimit c (formRefs s c y) (setConv c (fun _ => y) s)
    finishRefs c ts f.2 f.1
  else finishRefs c ts (followRefs x) (formQuiet c s)

/-- The GRID item of converter `c` at a reference mark. In every active state it forms the powers of R167 and R168 and the back-off of
R140. At the mark of a change of mode the currents are those of the mark before, from which both modes start (R174). -/
def gridItem (c : Nat) (ts : Rat) (s : State) : State :=
  let st := workState s
  if st = stEnergised then
    wrs (idleMark c s) [(Obj.DIRECTION c, wantedDir s c (spP (conv s c))), (Obj.REVERSAL_STATE c, 0), (Obj.REVERSAL_HOLD_REASON c, 0)]
  else if isActive st = false then idleMark c s
  else
    let old := (conv s c).mode
    let s := stepBackOff c (reactiveRefs c ts (powerRefs c ts (modeTransfer c s)))
    if st = stRampDown then rampRefs c (conv s c).vPre s
    else if st = stRideThrough ∨ (st = stCoast ∧ sync s c sfRt = true) then rideMark c ts s
    else if (conv s c).mode ≠ old then setConv c (fun x => { x with refs := { x.refs with pbat := spBat x } }) (formQuiet c s)
    else runMark c ts s

/-! ### Energy (R138, R139) -/

/-- Energy of leaf `L` at `v` 0.1 V, pu. -/
def leafEnergy (s : State) (L v : Nat) : Rat :=
  let u := (v : Rat) / 10
  rdF s (Obj.KIND_CAPACITANCE (rd s (Obj.LEAF_KIND_CFG L))) * u * u / 2 / baseEnergy s

/-- A leaf that counts in capacity in the last ranking. -/
def leafCounts (s : State) (L : Nat) : Bool :=
  let r := rd s (Obj.LEAF_RANK_STATE L)
  decide (1 ≤ r) && decide (r ≤ 3)

/-- W of arm `a`. -/
def armEnergy (s : State) (a : Nat) : Rat :=
  sumRat (((armLeaves s a).filter (leafCounts s)).map (fun L => leafEnergy s L (leafOf s L).lastCap))

/-- Energy of the arm's configured leaves at `KIND_V_NOMINAL`. -/
def armNominal (s : State) (a : Nat) : Rat :=
  sumRat ((armLeaves s a).map (fun L => leafEnergy s L (rd s (Obj.KIND_V_NOMINAL a (rd s (Obj.LEAF_KIND_CFG L))))))

/-- Battery leaves of an arm. -/
def armBatteries (s : State) (a : Nat) : Nat :=
  ((armLeaves s a).filter (fun L => let k := rd s (Obj.LEAF_KIND_CFG L); k = 2 || k = 3)).length

/-- Change leg `g`. -/
def setLeg (g : Nat) (f : Leg → Leg) (s : State) : State := { s with legs := s.legs.modify g f }

/-- Leg `g`. -/
def legOf (s : State) (g : Nat) : Leg := getD' s.legs g Leg.zero

/-- Active gain cell of converter `c` (R146). -/
def cellOf (s : State) (c : Nat) : Nat := rd s Obj.SCHED_CELL_NOW / 256 ^ c % 256

/-- Gains of a cell: `KP_I`, `KI_I`, `KP_C`, `KI_C`, `KP_E`, `KI_E`, `K_BAL`, `K_FF`. -/
def cellGains (s : State) (k : Nat) : List Rat :=
  [rdF s (Obj.KP_I k), rdF s (Obj.KI_I k), rdF s (Obj.KP_C k), rdF s (Obj.KI_C k), rdF s (Obj.KP_E k), rdF s (Obj.KI_E k),
   rdF s (Obj.K_BAL k), rdF s (Obj.K_FF k)]

/-- Gain `i` of converter `c` in force. -/
def gainOf (s : State) (c i : Nat) : Rat :=
  let g := (conv s c).gains
  getD' (if g.isEmpty then cellGains s (cellOf s c) else g) i 0

/-- Gain `i` of the tide before. -/
def oldGainOf (s : State) (c i : Nat) : Rat :=
  let g := (conv s c).gainsOld
  if g.isEmpty then gainOf s c i else getD' g i 0

/-- Battery power of the arms of a converter (R139): shared by battery leaves; the shortfall of the last rankings goes to the other
battery arms when `DC_ROLE` is 0. -/
def batteryShares (c : Nat) (total : Rat) (s : State) : State :=
  let arms := convArms c
  let all := sumNat (arms.map (armBatteries s))
  let base (a : Nat) : Rat := if all = 0 then 0 else total * (armBatteries s a : Rat) / (all : Rat)
  let extra (a : Nat) : Rat :=
    if rd s (Obj.DC_ROLE c) ≠ 0 then 0
    else sumRat (arms.map (fun b =>
      let others := all - armBatteries s b
      if b = a ∨ others = 0 then 0
      else rdPu s (Obj.BATTERY_SHORTFALL b) * (armBatteries s a : Rat) / (others : Rat)))
  { s with cl := { s.cl with battery := arms.foldl (fun bs a => bs.set a (base a + extra a)) s.cl.battery } }

/-- The ENERGY item of converter `c` at a reference mark (R138, R139). -/
def energyItem (c : Nat) (ts : Rat) (s : State) : State :=
  if isActive (workState s) = false then s
  else
    let n := tideNow s - 1
    let arms := convArms c
    let ws := arms.map (armEnergy s)
    let wT := sumRat ws
    let x := conv s c
    let ref := rdInt 32 s (Obj.ENERGY_REF c)
    let want : Rat := if ref = 0 then sumRat (arms.map (armNominal s)) else (ref : Rat) / ((2 ^ 24 : Nat) : Rat)
    let err := want - wT
    let xE := x.xE + (oldGainOf s c 4 - gainOf s c 4) * err
    let pi := gainOf s c 4 * err + xE
    let role := rd s (Obj.DC_ROLE c)
    let short := sumRat (arms.map (fun a => rdPu s (Obj.BATTERY_SHORTFALL a)))
    let vdc := dcVoltageOr s n c
    let pdc : Rat := if role = 0 then 0 else if role = 1 then x.pAc - spBat x + pi + short else x.pdcLoop + pi + short
    let bal := gainOf s c 6
    let s := setConv c (fun x => { x with
      xE := xE + gainOf s c 5 * err * ts, energy := wT, refs := { x.refs with pdc := pdc, pbat := spBat x } }) s
    let s := batteryShares c (if role = 0 then spBat x + pi else spBat x) s
    (List.range 3).foldl (fun t p =>
      let u := getD' ws (2 * p) 0
      let l := getD' ws (2 * p + 1) 0
      let share : Rat := if vdc = 0 then 0 else pdc / (3 * vdc)
      let ic := share - bal * (u + l - wT / 3) + bal * (u - l) * cosT (x.set.thetaA + phiTurns p)
      setLeg (3 * c + p) (fun y => { y with icRef := ic, wSum := u + l, wDiff := u - l }) t) s

/-! ### The tide reference generator (R191, R193) -/

/-- Capture what has been published (R191). -/
def captureRefs (s : State) : State :=
  { s with convs := s.convs.map (fun x => { x with
             captured := x.refs, capturedV := (x.thetaV, x.omegaV, x.eMag), capturedPre := (x.vPre, x.ipPre) }),
           legs := s.legs.map (fun y => { y with icCaptured := y.icRef }),
           cl := { s.cl with batteryCaptured := s.cl.battery } }

/-- The generator publishes the currents `r` for converter `c`, with the captured DC side (R193). -/
def publishCoast (c : Nat) (r : RefSet) (s : State) : State :=
  setConv c (fun x => { x with refs := { r with pdc := x.captured.pdc, pbat := x.captured.pbat } }) s

/-- What the generator publishes for converter `c` in COAST (R193). The back-off of the last mark of the GRID item stands (R140; DEDUCED,
log entry 67). -/
def coastRefs (c : Nat) (ts : Rat) (s : State) : State :=
  let x := conv s c
  if sync s c sfRt then
    let r := faultRefs s c ts x.capturedPre.1 x.capturedPre.2 x.iqPre x
    publishCoast c r.1 (setSync c sfLimited r.2 (formQuiet c s))
  else if x.mode = 1 then
    let y := { x with thetaV := wrapTurn (x.thetaV + x.capturedV.2.1 * ratedHz s * ts), omegaV := x.capturedV.2.1,
                      eMag := x.capturedV.2.2 }
    let f := formLimit c (formRefs s c y) (setConv c (fun _ => y) s)
    publishCoast c (backedOff x f.2) (setSync c sfLimited false f.1)
  else publishCoast c x.captured (idleMark c s)

/-- The generator's reference mark: COAST, and RAMP-DOWN without the pairs (R193, R196). -/
def generatorMark (ts : Rat) (s : State) : State :=
  let s := (List.range 2).foldl (fun t c =>
    if station t = stCoast then coastRefs c ts t else rampRefs c (conv t c).capturedPre.1 t) s
  { s with legs := s.legs.map (fun y => { y with icRef := y.icCaptured }), cl := { s.cl with battery := s.cl.batteryCaptured } }

end Sys2Proof.Machine
end

