-- ==== Sys2Proof/Machine/LoopIsa.lean ====
section
/-! DEFINITION. The loop engine's instruction set for user programs (R151 to R156): images, binary32 arithmetic, one run, and its
inputs. -/

namespace Sys2Proof.Machine

/-! ### Binary32 with the rules of R152 -/

/-- A subnormal pattern becomes a zero of its sign. -/
def flushF (raw : Nat) : Nat := if bits raw 30 23 = 0 then raw % 2 ^ 32 - bits raw 30 0 else raw % 2 ^ 32

/-- Value of a pattern with subnormals flushed. -/
def valF (raw : Nat) : Rat := f32ToRat (flushF raw)

/-- A pattern is negative. -/
def negF (raw : Nat) : Bool := bit raw 31

/-- The pattern, with a NaN replaced by 0.0 and an infinity by the largest finite value of its sign; and whether it was replaced. -/
def tameF (raw : Nat) : Nat × Bool :=
  if bits raw 30 23 = 255 then
    if bits raw 22 0 = 0 then (f32MaxBits + (if negF raw then 2 ^ 31 else 0), true) else (0, true)
  else (flushF raw, false)

/-- An exact result rounded (R152): a zero takes the sign given; one too large is replaced. -/
def roundF (x : Rat) (zeroNeg : Bool) : Nat × Bool :=
  if x = 0 then (if zeroNeg then 2 ^ 31 else 0, false)
  else
    let big : Rat := ((2 ^ 128 - 2 ^ 103 : Nat) : Rat)
    (f32OfRat x, decide (big ≤ absRat x))

/-- Square root to well below half a unit in the last place: 200 fraction bits, and one more when inexact. -/
def sqrtF (x : Rat) : Rat :=
  let n := (x * ((2 ^ 400 : Nat) : Rat)).floor.toNat
  let r := Nat.sqrt n
  ((r : Rat) + (if r * r = n then 0 else 1 / 2)) / ((2 ^ 200 : Nat) : Rat)

/-- A zero with a negative sign. -/
def negZero (raw : Nat) : Bool := decide (valF raw = 0) && negF raw

/-- Sum. -/
def addF (a b : Nat) : Nat × Bool := roundF (valF a + valF b) (negZero a && negZero b)

/-- The pattern with its sign flipped. -/
def flipF (a : Nat) : Nat := if negF a then a % 2 ^ 31 else a % 2 ^ 31 + 2 ^ 31

/-- Product. -/
def mulF (a b : Nat) : Nat × Bool := roundF (valF a * valF b) (negF a != negF b)

/-- Two results in a row: replaced if either was. -/
def thenF (p : Nat × Bool) (f : Nat → Nat × Bool) : Nat × Bool :=
  let q := f p.1
  (q.1, p.2 || q.2)

/-- Operations of format A on binary32 (R153): destination before, operands, and the tide period. -/
def aluF (op d a b ts : Nat) : Nat × Bool :=
  match op with
  | 0x08 => addF a b
  | 0x09 => addF a (flipF b)
  | 0x0A => mulF a b
  | 0x0B => roundF (valF d + valF a * valF b) (negZero d && (valF a * valF b = 0 && (negF a != negF b)))
  | 0x0C => if valF b = 0 then (0, true) else roundF (valF a / valF b) (negF a != negF b)
  | 0x0D => (if valF b < valF a then flushF b else flushF a, false)
  | 0x0E => (if valF a < valF b then flushF b else flushF a, false)
  | 0x0F => (flushF a % 2 ^ 31, false)
  | 0x10 => (flipF (flushF a), false)
  | 0x11 => if valF a < 0 then (0, true) else roundF (sqrtF (valF a)) (negF a)
  | 0x12 =>
    let m := flushF b % 2 ^ 31
    (if f32ToRat m < valF a then m else if valF a < -(f32ToRat m) then flipF m else flushF a, false)
  | 0x13 => roundF (sinT (valF a) + clampRat (-(7 / 33554432)) (7 / 33554432) (Config.trigError op a)) false
  | 0x14 => roundF (cosT (valF a) + clampRat (-(7 / 33554432)) (7 / 33554432) (Config.trigError op a)) false
  | 0x15 => roundF (clampRat (-(16777215 / 33554432)) (1 / 2)
      (atan2T (valF a) (valF b) + clampRat (-(31 / 33554432)) (31 / 33554432) (Config.atanError a b))) false
  | 0x16 => thenF (mulF a ts) (fun p => addF d p)
  | 0x17 => thenF (thenF (addF a (flipF d)) (fun p => mulF b p)) (fun p => addF d p)
  | _ => (0, false)

/-! ### Images -/

/-- Fields of a program image (R156). -/
structure ProgImage where
  /-- instructions -/
  code : List Nat
  /-- constants -/
  consts : List Nat
  /-- data words -/
  data : Nat
  /-- engine -/
  engine : Nat
  deriving DecidableEq, Repr

/-- Words of a byte list. -/
def words32 : Nat → List Byte → List Nat
  | 0, _ => []
  | n + 1, bs => leNat (bs.take 4) :: words32 n (bs.drop 4)

/-- Parse `PROG_IMAGE`: header, lengths and check. -/
def parseProg (bs : List Byte) : Option ProgImage :=
  let n := leNat (slice bs 2 2)
  let c := leNat (slice bs 4 2)
  let d := leNat (slice bs 6 2)
  let e := leNat (slice bs 8 1)
  if bs.length ≠ 16 + 4 * n + 4 * c ∨ leNat (slice bs 0 2) ≠ 1 ∨ n = 0 ∨ 4096 < n ∨ 1024 < c ∨ 1024 < d ∨ 7 < e
  then none
  else if crc32c (bs.take 12 ++ List.replicate 4 0 ++ bs.drop 16) ≠ leNat (slice bs 12 4) then none
  else some { code := words32 n (bs.drop 16), consts := words32 c (bs.drop (16 + 4 * n)), data := d, engine := e }

/-- Fields of an instruction word. -/
def insOp (w : Nat) : Nat := bits w 31 26
/-- destination -/
def insD (w : Nat) : Nat := bits w 25 21
/-- first operand -/
def insA (w : Nat) : Nat := bits w 20 16
/-- second operand -/
def insB (w : Nat) : Nat := bits w 15 11
/-- 16-bit field -/
def insImm (w : Nat) : Nat := bits w 15 0

/-- Cycles of an opcode (R153); none when invalid. -/
def insCycles (op : Nat) : Option Nat :=
  match op with
  | 0x03 | 0x04 => some 2
  | 0x0C | 0x11 => some 8
  | 0x13 | 0x14 => some 6
  | 0x15 => some 10
  | 0x07 => none
  | _ => if op ≤ 0x1C then some 1 else none

/-- A word is a valid instruction of a program with the given sizes: a known opcode, zero where zero is due, indices in range. -/
def insValid (p : ProgImage) (w : Nat) : Bool :=
  let op := insOp w
  let imm := insImm w
  (insCycles op).isSome &&
  (if op = 0x01 then insA w = 0 && decide (imm < p.consts.length)
   else if op = 0x02 then insA w = 0 && decide (imm < 64)
   else if op = 0x03 then insA w = 0 && decide (imm < 256)
   else if op = 0x04 then insD w = 0 && decide (imm < 64)
   else if op = 0x05 then insA w = 0 && decide (imm < p.data)
   else if op = 0x06 then insD w = 0 && decide (imm < p.data)
   else if op = 0x1B then bits w 24 16 = 0 && decide (1 ≤ imm) && decide (imm ≤ 4095)
   else
     let zeroB := [0x00, 0x0F, 0x10, 0x11, 0x13, 0x14, 0x16, 0x1C].contains op && op ≠ 0x16
     bits w 10 0 = 0 && (!zeroB || insB w = 0) && (!([0x00, 0x1C].contains op) || (insD w = 0 && insA w = 0))
       && (!([0x16].contains op) || insB w = 0) && (!([0x18, 0x19].contains op) || insD w = 0))

/-- Position of the first END. -/
def endAt (code : List Nat) : Option Nat := code.findIdx? (fun w => insOp w = 0x1C)

/-- A program passes R154: valid words, no branch past END, an END. -/
def progValid (p : ProgImage) : Bool :=
  match endAt p.code with
  | none => false
  | some e =>
    p.code.all (insValid p)
      && (List.range (e + 1)).all (fun i =>
        let w := getD' p.code i 0
        insOp w ≠ 0x1B || decide (i + 1 + insImm w ≤ e))

/-- Worst case of a program in FAB cycles (R154). -/
def progWcet (p : ProgImage) : Nat :=
  let upTo := match endAt p.code with | some e => e + 1 | none => p.code.length
  32 + sumNat ((p.code.take upTo).map (fun w => (insCycles (insOp w)).getD 0))

/-! ### One run -/

/-- Registers, data and outputs during a run. -/
structure LoopRun where
  /-- V0 to V31 -/
  regs : List Nat
  /-- PF -/
  pf : Bool
  /-- data words -/
  data : List Nat
  /-- output slots -/
  out : List Nat
  /-- replacements so far -/
  numeric : Nat
  deriving DecidableEq, Repr

/-- Read a register; V0 reads 0.0. -/
def LoopRun.reg (r : LoopRun) (i : Nat) : Nat := if i = 0 then 0 else getD' r.regs i 0

/-- Write a result; V0 discards it. -/
def LoopRun.put (r : LoopRun) (i : Nat) (v : Nat × Bool) : LoopRun :=
  let t := tameF v.1
  let r := { r with numeric := r.numeric + b2n (v.2 || t.2) }
  if i = 0 then r else { r with regs := r.regs.set i t.1 }

/-- One instruction, branches and END apart. -/
def loopStep (consts params inputs : List Nat) (ts w : Nat) (r : LoopRun) : LoopRun :=
  let op := insOp w
  let d := insD w
  let a := r.reg (insA w)
  let b := r.reg (insB w)
  let imm := insImm w
  match op with
  | 0x00 => r
  | 0x01 => r.put d (getD' consts imm 0, false)
  | 0x02 => r.put d (getD' params imm 0, false)
  | 0x03 => r.put d (getD' inputs imm 0, false)
  | 0x04 => { r with out := r.out.set imm a }
  | 0x05 => r.put d (getD' r.data imm 0, false)
  | 0x06 => { r with data := r.data.set imm a }
  | 0x18 => { r with pf := decide (valF a < valF b) }
  | 0x19 => { r with pf := decide (valF b ≤ valF a) }
  | 0x1A => r.put d (if r.pf then a else b, false)
  | _ => r.put d (aluF op (r.reg d) a b ts)

/-- Run from the first instruction to END; `skip` instructions are still to be passed over by a branch. -/
def loopRun (consts params inputs : List Nat) (ts : Nat) : Nat → List Nat → LoopRun → LoopRun
  | _, [], r => r
  | skip + 1, _ :: rest, r => loopRun consts params inputs ts skip rest r
  | 0, w :: rest, r =>
    if insOp w = 0x1C then r
    else if insOp w = 0x1B then loopRun consts params inputs ts (if r.pf = bit w 25 then insImm w else 0) rest r
    else loopRun consts params inputs ts 0 rest (loopStep consts params inputs ts w r)

/-! ### Inputs (R155) -/

/-- Σ `CAP_VOLTAGE` of the arm's leaves that count, pu on V_dc. -/
def armCapSum (s : State) (a : Nat) : Rat :=
  ((sumNat (((armLeaves s a).filter (leafCounts s)).map (fun L => (leafOf s L).lastCap)) : Nat) : Rat) / 10 / baseVdc s

/-- Value of an input channel at the return deadline of tide `n`, raw binary32. A missing sample reads 0.0. -/
def inputChannel (s : State) (n ch : Nat) : Nat :=
  let x0 := (conv s 0).set
  if ch < 64 then (match sampleAt s n ch with | some raw => raw.toNat | none => 0)
  else if ch < 76 then f32OfRat ((armCurrent s n (ch - 64)).getD 0)
  else if ch < 88 then f32OfRat (armEnergy s (ch - 76))
  else if ch < 100 then f32OfRat (armCapSum s (ch - 88))
  else if 128 ≤ ch ∧ ch < 192 then getD' s.cl.hostIn (ch - 128) 0
  else match ch with
    | 100 => f32OfRat x0.theta
    | 101 => f32OfRat x0.vp
    | 102 => f32OfRat x0.vq
    | 103 => f32OfRat x0.np
    | 104 => f32OfRat x0.nq
    | 105 => f32OfRat x0.omega
    | 106 => f32OfRat ((dcVoltage s n 0).getD 0)
    | 107 => f32OfRat ((dcVoltage s n 1).getD 0)
    | 108 => f32OfRat (station s)
    | 109 => f32OfRat (tideSec s)
    | 110 => f32OfRat x0.p
    | 111 => f32OfRat x0.q
    | 112 => f32OfRat (conv s 1).set.p
    | 113 => f32OfRat (conv s 1).set.q
    | _ => 0

/-- User program `u`. -/
def userOf (s : State) (u : Nat) : UserProg := getD' s.cl.user u UserProg.off

/-- Change the cluster. -/
def setCl (f : Cluster → Cluster) (s : State) : State := { s with cl := f s.cl }

/-- Change user program `u`. -/
def setUser (u : Nat) (f : UserProg → UserProg) (s : State) : State := setCl (fun c => { c with user := c.user.modify u f }) s

/-- What a run leaves, from the data memory `data` and the slots `out` (R151, R152). -/
def runProg (s : State) (n u : Nat) (p : ProgImage) : LoopRun :=
  let x := userOf s u
  let start : LoopRun :=
    { regs := (List.range 32).map (fun i => (tameF (Config.loopRegister n u i)).1), pf := decide (Config.loopRegister n u 32 % 2 = 1),
      data := x.data ++ List.replicate (1024 - x.data.length) 0, out := x.out, numeric := 0 }
  let inputs := (List.range 256).map (inputChannel s n)
  let params := (List.range 64).map (fun k => rd s (Obj.LOOP_PARAM u k))
  loopRun p.consts params inputs (f32OfRat (tideSec s)) 0 p.code start

/-- Program `u` misses the demand mark of one tide: its slots hold, and at the second miss in a row it is MISSING (R151). -/
def progMiss (u : Nat) (s : State) : State :=
  let m := (userOf s u).missRun + 1
  let s := setUser u (fun x => { x with missRun := m }) (count s (Obj.PROG_MISSES u))
  if 2 ≤ m then wr s (Obj.PROG_STATE u) 2 else s

/-- Program `u` at the return deadline of tide `n` (R151): it runs, or with `late`, or left without an engine (R144), has not reached END
by the demand mark. -/
def userProgram (n : Nat) (late : List Nat) (u : Nat) (s : State) : State :=
  match (if rdBool s (Obj.PROG_ENABLE u) then parseProg (rdBlob s (Obj.PROG_IMAGE u)) else none) with
  | none => s
  | some p =>
    if late.contains u ∨ 8 ≤ getD' s.cl.progs u 0xFF then progMiss u s
    else
      let r := runProg s n u p
      let data := r.data.take p.data
      let s := setUser u (fun x => { x with
        data := data, next := (n, r.out, data) :: x.next.take 3, missRun := 0, numeric := x.numeric || decide (0 < r.numeric) }) s
      let s := countBy 64 s (Obj.PROG_RUNS u) 1
      countBy 32 (wr s (Obj.PROG_STATE u) 1) (Obj.PROG_NUMERIC u) r.numeric

/-- The slots of the runs on tide `n` take effect at its demand mark (R151), and their data words go into the checkpoint (R141). -/
def takeOutputs (n : Nat) (s : State) : State :=
  setCl (fun c => { c with user := c.user.map (fun x =>
    match x.next.find? (fun p => p.1 = n) with
    | some p => { x with out := p.2.1, kept := p.2.2, next := x.next.filter (fun q => decide (n < q.1)) }
    | none => x) }) s

/-- Program `u` starts from the checkpoint of the last demand mark on another engine (R141, R144): the runs that its failed engine had not
delivered are lost, each a miss of its tide. -/
def restoreProg (u : Nat) (s : State) : State :=
  let lost := (userOf s u).next.length
  (List.range lost).foldl (fun t _ => progMiss u t) (setUser u (fun x => { x with data := x.kept, next := [] }) s)

end Sys2Proof.Machine
end

