-- ==== Sys2Proof/Machine/Placing.lean ====
section
/-! DEFINITION. Placing the work on pairs and engines (R141 to R145), and the restart of the pairs (R192, R194, R195). Items 0 to 4
are GRID0, GRID1, ENERGY0, ENERGY1 and STATION. -/

namespace Sys2Proof.Machine

/-- No unit. -/
abbrev noUnit : Nat := 0xFF

/-- Pair or engine state codes of R159. -/
abbrev usActive : Nat := 1
/-- standby -/
abbrev usStandby : Nat := 2
/-- self-test -/
abbrev usSelfTest : Nat := 3
/-- retired -/
abbrev usRetired : Nat := 4
/-- restarting -/
abbrev usRestarting : Nat := 5

/-- A unit state in which it can serve. -/
def liveState (st : Nat) : Bool := st = usActive || st = usStandby

/-- Pair `p` is live. -/
def pairLive (s : State) (p : Nat) : Bool := decide (p < 4) && liveState (rd s (Obj.PAIR_STATE p))

/-- Engine `e` is live. -/
def engineLive (s : State) (e : Nat) : Bool := decide (e < 8) && liveState (rd s (Obj.ENGINE_STATE e))

/-- Item `i` is present (R141): those of a converter without arms are absent. -/
def itemPresent (s : State) (i : Nat) : Bool := if i = 4 then true else decide (i < 4) && convOn s (i % 2)

/-- Leg `g` is present. -/
def legPresent (s : State) (g : Nat) : Bool := decide (g < 6) && convOn s (g / 3)

/-- Unit that serves index `i` of a list. -/
def unitOf (xs : List Nat) (i : Nat) : Nat := getD' xs i noUnit

/-- Worst case of program `u`. -/
def progLoad (s : State) (u : Nat) : Nat := rd s (Obj.PROG_WCET u)

/-- CORE cycles of the items that pair `p` holds. -/
def pairLoad (s : State) (p : Nat) : Nat :=
  sumNat (((List.range 5).filter (fun i => itemPresent s i && unitOf s.cl.items i = p)).map Config.itemWcet)

/-- FAB cycles of the legs and programs that engine `e` holds. -/
def engineLoad (s : State) (e : Nat) : Nat :=
  sumNat (((List.range 6).filter (fun g => legPresent s g && unitOf s.cl.legs g = e)).map Config.legWcet)
    + sumNat (((List.range 8).filter (fun u => unitOf s.cl.progs u = e)).map (progLoad s))

/-- Pair window of R26 in CORE cycles, 0.95 × P at 1.6 cycles per ns. -/
def pairWindow (pNs : Nat) : Nat := pNs * 152 / 100

/-- Loop window of R26 in FAB cycles, 1.15 × P - 2.0 µs. -/
def loopWindow (pNs : Nat) : Nat := pNs * 115 / 100 - 2000

/-- The unit with the least load; ties go to the lower number. -/
def leastLoad : List (Nat × Nat) → Nat
  | [] => noUnit
  | (u, w) :: rest => if rest.all (fun x => decide (w ≤ x.2)) then u else leastLoad rest

/-- Target of item `i` (R142). -/
def itemTarget (s : State) (i : Nat) : Nat :=
  let cs := ((List.range 4).filter (fun p => pairLive s p && decide (p ≠ unitOf s.cl.items i))).map
    (fun p => (p, pairLoad s p + Config.itemWcet i))
  leastLoad (cs.filter (fun x => decide (x.2 ≤ pairWindow (periodNs s))))

/-- Engine with the least load after taking `w` cycles more, other than `own`. -/
def engineTarget (s : State) (own w : Nat) : Nat :=
  let cs := ((List.range 8).filter (fun e => engineLive s e && decide (e ≠ own))).map (fun e => (e, engineLoad s e + w))
  leastLoad (cs.filter (fun x => decide (x.2 ≤ loopWindow (periodNs s))))

/-- Target of leg `g`. -/
def legTarget (s : State) (g : Nat) : Nat := engineTarget s (unitOf s.cl.legs g) (Config.legWcet g)

/-- Publish targets, sums and the engines of the programs (R142). -/
def showPlaces (s : State) : State :=
  let items := (List.range 5).map (fun i => (Obj.ITEM_FAILOVER i, if itemPresent s i then itemTarget s i else noUnit))
  let legs := (List.range 6).map (fun g => (Obj.LEG_FAILOVER g, if legPresent s g then legTarget s g else noUnit))
  let pairs := (List.range 4).map (fun p => (Obj.PAIR_WCET p, pairLoad s p))
  let engines := (List.range 8).map (fun e => (Obj.ENGINE_WCET e, engineLoad s e))
  let progs := (List.range 8).map (fun u => (Obj.PROG_ENGINE_NOW u, unitOf s.cl.progs u))
  wrs s (items ++ legs ++ pairs ++ engines ++ progs)

/-- A live unit that takes work over is active. -/
def activatePair (p : Nat) (s : State) : State := if pairLive s p then wr s (Obj.PAIR_STATE p) usActive else s

/-- The same of an engine. -/
def activateEngine (e : Nat) (s : State) : State := if engineLive s e then wr s (Obj.ENGINE_STATE e) usActive else s

/-- The unit that a commit gives a piece of work: the configured one, where the configuration has changed or the work has no unit;
otherwise it stays where a failure has moved it, until `REBALANCE` (R143; DEDUCED, log entry 67). -/
def placeOf (want was now : Nat) : Nat := if want = was ∧ now ≠ noUnit then now else want

/-- Place every item and leg on its unit where that is live, else on a target, and the programs of the image likewise; programs start with
data words of 0.0 (R141, R143, R152). At a commit and at the load of a committed image. -/
def placeWork (s : State) : State :=
  let items := (List.range 5).map (fun i => rd s (Obj.ITEM_PAIR i))
  let legs := (List.range 6).map (fun g => rd s (Obj.LEG_ENGINE g))
  let s := setCl (fun c => { c with
    items := (List.range 5).map (fun i => placeOf (getD' items i noUnit) (getD' c.itemsCfg i noUnit) (unitOf c.items i)),
    legs := (List.range 6).map (fun g => placeOf (getD' legs g noUnit) (getD' c.legsCfg g noUnit) (unitOf c.legs g)),
    itemsCfg := items, legsCfg := legs,
    movedItems := [], movedLegs := [], refMiss := List.replicate 5 0, demandMiss := List.replicate 12 0 }) s
  let s := (List.range 8).foldl (fun t u =>
    match (if rdBool t (Obj.PROG_ENABLE u) then parseProg (rdBlob t (Obj.PROG_IMAGE u)) else none) with
    | some p =>
      setCl (fun c => { c with
          progs := c.progs.set u (placeOf p.engine (getD' c.progsCfg u noUnit) (unitOf c.progs u)), progsCfg := c.progsCfg.set u p.engine,
          user := c.user.modify u (fun x => { UserProg.off with out := x.out }) })
        (wr t (Obj.PROG_WCET u) (progWcet p))
    | none => setCl (fun c => { c with
          progs := c.progs.set u noUnit, progsCfg := c.progsCfg.set u noUnit, user := c.user.set u UserProg.off })
        (wrs t [(Obj.PROG_WCET u, 0), (Obj.PROG_STATE u, 0)])) s
  let s := (List.range 5).foldl (fun t i =>
    if pairLive t (unitOf t.cl.items i) then t else setCl (fun c => { c with items := c.items.set i (itemTarget t i) }) t) s
  let s := (List.range 6).foldl (fun t g =>
    if engineLive t (unitOf t.cl.legs g) then t else setCl (fun c => { c with legs := c.legs.set g (legTarget t g) }) t) s
  let s := (List.range 8).foldl (fun t u =>
    let e := unitOf t.cl.progs u
    if e = noUnit ∨ engineLive t e = true then t
    else setCl (fun c => { c with progs := c.progs.set u (engineTarget t e (progLoad t u)) }) t) s
  showPlaces s

/-! ### Failures (R143, R144) -/

/-- Move the items of pair `p` to their published targets. -/
def moveItems (p : Nat) (s : State) : State :=
  (List.range 5).foldl (fun t i =>
    if itemPresent t i && unitOf t.cl.items i = p then
      let q := rd t (Obj.ITEM_FAILOVER i)
      let dest := if pairLive t q && decide (q ≠ p) then q else noUnit
      activatePair dest (setCl (fun c => { c with
        items := c.items.set i dest, movedItems := c.movedItems ++ [(i, p)], refMiss := c.refMiss.set i 0 }) t)
    else t) s

/-- Tide of the first samples that an engine taking work over now computes: those of the next return deadline (R144). -/
def firstSamples (s : State) : Nat := match s.cl.latched.head? with | some e => e.tide + 1 | none => tideNow s

/-- Move the legs and programs of engine `e`; the programs go on from their checkpoints (R141, R144). -/
def moveLegs (e : Nat) (s : State) : State :=
  let first := firstSamples s
  let s := (List.range 6).foldl (fun t g =>
    if legPresent t g && unitOf t.cl.legs g = e then
      let q := rd t (Obj.LEG_FAILOVER g)
      let dest := if engineLive t q && decide (q ≠ e) then q else noUnit
      activateEngine dest (setCl (fun c => { c with
        legs := c.legs.set g dest, movedLegs := c.movedLegs ++ [(g, e, first)],
        demandMiss := (c.demandMiss.set (2 * g) 0).set (2 * g + 1) 0 }) t)
    else t) s
  (List.range 8).foldl (fun t u =>
    if unitOf t.cl.progs u = e then
      let dest := engineTarget t e (progLoad t u)
      activateEngine dest (setCl (fun c => { c with progs := c.progs.set u dest }) (restoreProg u t))
    else t) s

/-- A control pair fails (R143). In COAST no item moves (R145). -/
def failPair (p : Nat) (s : State) : State :=
  if pairLive s p || (decide (p < 4) && decide (rd s (Obj.PAIR_STATE p) = usRestarting)) then
    let s := emit .controlPairFault p (leBytes 1 p) (count s Obj.PAIR_FAULTS)
    let s := wr (countFault 0 srcPair p 1 s) (Obj.PAIR_STATE p) usSelfTest
    showPlaces (if station s = stCoast then s else moveItems p s)
  else s

/-- A loop engine fails (R144). -/
def failEngine (e : Nat) (s : State) : State :=
  if engineLive s e then
    let s := emit .loopEngineFault e (leBytes 1 e) (count s Obj.ENGINE_FAULTS)
    showPlaces (moveLegs e (wr (countFault 0 srcEngine e 1 s) (Obj.ENGINE_STATE e) usSelfTest))
  else s

/-- A lasting fault retires a pair until a core reset (R143, R263). -/
def retirePair (p : Nat) (s : State) : State :=
  if p < 4 then
    let live := pairLive s p
    let s := wr s (Obj.PAIR_STATE p) usRetired
    showPlaces (if live && decide (station s ≠ stCoast) then moveItems p s else s)
  else s

/-- A lasting fault retires an engine. -/
def retireEngine (e : Nat) (s : State) : State :=
  if e < 8 then
    let live := engineLive s e
    let s := wr s (Obj.ENGINE_STATE e) usRetired
    showPlaces (if live then moveLegs e s else s)
  else s

/-- LOCKSTEP_MISMATCH (R143). -/
def execLockstepMismatch (pair : Nat) (s : State) : Host.Outcome State Fault Refusal :=
  .next (whenAlive .processing (failPair pair) s)

/-- PAIR_SELF_TEST_END (R143, R144): the self-test of unit 0 to 3, a pair, or 4 to 11, engine unit - 4, ends; it has written the unit's
memory afresh (R79; DEDUCED, log entry 65). -/
def execPairSelfTestEnd (unit : Nat) (passed : Bool) (s : State) : Host.Outcome State Fault Refusal :=
  .next (whenAlive .processing (fun s =>
    let key := if unit < 4 then Obj.PAIR_STATE unit else Obj.ENGINE_STATE (unit - 4)
    let s' := if unit < 4 then healInst 11 unit s else healInst 12 (unit - 4) s
    if unit < 12 ∧ rd s key = usSelfTest then showPlaces (wr s' key (if passed then usStandby else usRetired)) else s) s)

/-- LOOP_ENGINE_FAULT (R144). -/
def execLoopEngineFault (engine : Nat) (s : State) : Host.Outcome State Fault Refusal :=
  .next (whenAlive .fabric (failEngine engine) s)

/-! ### Restart of the pairs (R145, R192, R194, R195) -/

/-- All four pairs take a pair reset; retired ones stay so until a core reset. -/
def restartPairs (s : State) : State :=
  let s := (List.range 4).foldl (fun t p =>
    if rd t (Obj.PAIR_STATE p) = usRetired then t else wr t (Obj.PAIR_STATE p) usRestarting) s
  setCl (fun c => { c with takeUp := false, serving := false, refMiss := List.replicate 5 0, movedItems := [] }) s

/-- Pair `p` is restarting (R192). -/
def restarting (s : State) (p : Nat) : Bool := rd s (Obj.PAIR_STATE p) = usRestarting

/-- An item has no live unit and no live target. While the pairs restart, one that comes back counts as live (DEDUCED, log entry 67). -/
def itemLost (s : State) (i : Nat) : Bool :=
  itemPresent s i &&
    (if s.cl.serving then decide (3 < unitOf s.cl.items i)
     else (List.range 4).all (fun p => !pairLive s p && !restarting s p))

/-- What the loss of item `i` does in the present state (R145); items 5 to 10 are LEG0 to LEG5. -/
def capacityLost (i : Nat) (s : State) : State :=
  let st := station s
  let s := emit .controlCapacityLost i (leBytes 1 i) s
  if 5 ≤ i then (if 4 ≤ st ∧ st ≤ 9 then schedule stBlocked causeCapacity 0 s else s)
  else if st = stRunning ∨ st = stRideThrough then schedule stCoast causeCapacity 0 s
  else if st = stCoast then s
  else if st = stRampDown then restartPairs (wr s Obj.TRG_STATE 2)
  else restartPairs s

/-- CONTROL_CAPACITY_LOST (R145): an item, 0 to 4, or leg, 5 to 10, is left with no live target. -/
def execControlCapacityLost (item : Nat) (s : State) : Host.Outcome State Fault Refusal :=
  .next (whenAlive .processing (fun s =>
    if (decide (item < 5) && itemLost s item)
        || (decide (5 ≤ item) && legPresent s (item - 5) && !engineLive s (unitOf s.cl.legs (item - 5))) then
      capacityLost item s
    else s) s)

/-- The restarted pairs are ready: an item whose unit is not live goes to its configured pair, else to a target (R194). They take up
their items at the next tide start once every item has a live unit. -/
def pairsReady (s : State) : State :=
  let s := (List.range 4).foldl (fun t p =>
    if rd t (Obj.PAIR_STATE p) = usRestarting then wr t (Obj.PAIR_STATE p) usActive else t) s
  let s := (List.range 5).foldl (fun t i =>
    if pairLive t (unitOf t.cl.items i) then t
    else
      let want := rd t (Obj.ITEM_PAIR i)
      setCl (fun c => { c with items := c.items.set i (if pairLive t want then want else itemTarget t i) }) t) s
  let all := (List.range 5).all (fun i => !itemPresent s i || pairLive s (unitOf s.cl.items i))
  showPlaces (setCl (fun c => { c with takeUp := all }) s)

/-- COAST_END (R194): the last of the restarted pairs is ready. -/
def execCoastEnd (s : State) : Host.Outcome State Fault Refusal :=
  .next (whenAlive .processing (fun s => if s.cl.serving then s else pairsReady s) s)

/-- An end of COAST through RAMP-DOWN: counted, with the cause of R196. -/
def coastOverrun (arg : Nat) (s : State) : State :=
  askRampDown causeCoastEnd arg (countFault 0 srcCoast 0 1 (count s Obj.COAST_OVERRUNS))

/-- COAST_LIMIT_EXPIRY (R194): `COAST_LIMIT` passes without the pairs publishing. -/
def execCoastLimitExpiry (s : State) : Host.Outcome State Fault Refusal :=
  .next (whenAlive .fabric (fun s =>
    match s.cl.coastFrom with
    | some t =>
      if station s = stCoast ∧ s.cl.coastDone = false then
        coastOverrun 2 (runTo ((t + rd s Obj.COAST_LIMIT * 1000000) * nsUnit) s)
      else s
    | none => s) s)

/-- ū of arm `a` as `MEAN_CAP_RATIO` shows it. -/
def armMean (s : State) (a : Nat) : Nat := rd s (Obj.MEAN_CAP_RATIO a)

/-- An arm's ū has left the band around its value at the start of COAST (R194). -/
def coastBandLeft (s : State) : Bool :=
  (List.range 12).any (fun a => armOn s a &&
    (let u0 := getD' s.cl.coastU a 0
     decide (u0 * rd s Obj.COAST_ENERGY_BAND < ((armMean s a : Int) - (u0 : Int)).natAbs * 10000)))

/-- The energy band is checked in COAST at each reference mark, while no end of it is scheduled. -/
def coastBandStep (s : State) : State :=
  if station s = stCoast ∧ coastBandLeft s = true ∧ s.sm.causes.any (fun c => c.cause = causeCoastEnd) = false then coastOverrun 3 s
  else s

/-- COAST begins at this tide start (R192). -/
def enterCoast (s : State) : State :=
  let s := restartPairs (count (emit .coreRestart noInst [] s) Obj.COASTS)
  setCl (fun c => { c with
    coastFrom := some (nowNs s), coastU := (List.range 12).map (armMean s), coastDone := false }) (wr s Obj.TRG_STATE 1)

/-- COAST ends at this tide start with the station going to `dst` (R194). -/
def leaveCoast (dst : Nat) (s : State) : State :=
  let from0 := s.cl.coastFrom.getD (nowNs s)
  let s := if dst = stRunning ∨ dst = stRideThrough then
      let tenths := (clampInt 0 65535 (divHalfEven ((nowNs s : Int) - (from0 : Int)) 100000)).toNat
      emit .coastEnded noInst (leBytes 2 tenths) (wrs s [(Obj.COAST_LAST, tenths), (Obj.TRG_STATE, 0)])
    else wr s Obj.TRG_STATE (if dst = stRampDown ∧ s.cl.serving = false then 2 else 0)
  setCl (fun c => { c with coastFrom := none, lastCoast := some (nowNs s), coastDone := false }) s

/-- RAMP-DOWN begins (R196). The ramp starts from the references at entry, which hold what the back-off has taken away (R140; DEDUCED, log
entry 67). -/
def enterRampDown (arg : Nat) (s : State) : State :=
  let s := wr (count s Obj.RAMP_DOWNS) Obj.RAMP_DOWN_CAUSE arg
  let s := if s.cl.serving then s else wr s Obj.TRG_STATE 2
  setCl (fun c => { c with rampFrom := some (nowNs s), calmFrom := none })
    { s with convs := s.convs.map (fun x => { x with entry := x.refs, backP := 0, backQ := 0 }) }

/-- The pairs take up their items at this tide start (R194), and items return to their configured units after a `REBALANCE` (R143). -/
def clusterTide (s : State) : State :=
  let s := if s.cl.takeUp then
      let s := setCl (fun c => { c with takeUp := false, serving := true }) s
      if station s = stRampDown then wr s Obj.TRG_STATE 0 else s
    else s
  let s := setCl (fun c => { c with movedItems := [], started := c.started && isActive (station s) }) s
  if s.cl.rebalance then
    let s := setCl (fun c => { c with rebalance := false }) s
    let s := (List.range 5).foldl (fun t i =>
      let p := rd t (Obj.ITEM_PAIR i)
      if pairLive t p then activatePair p (setCl (fun c => { c with items := c.items.set i p }) t) else t) s
    let s := (List.range 6).foldl (fun t g =>
      let e := rd t (Obj.LEG_ENGINE g)
      if engineLive t e then activateEngine e (setCl (fun c => { c with legs := c.legs.set g e }) t) else t) s
    let s := (List.range 8).foldl (fun t u =>
      match (if unitOf t.cl.progs u = noUnit then none else parseProg (rdBlob t (Obj.PROG_IMAGE u))) with
      | some p => if engineLive t p.engine then setCl (fun c => { c with progs := c.progs.set u p.engine }) t else t
      | none => t) s
    showPlaces s
  else s

/-- A write of 1 to `REBALANCE` (R143). -/
def writeRebalance (v : Nat) (s : State) : WriteResult :=
  if v = 1 then accept (setCl (fun c => { c with rebalance := true }) s) else refuse s abRange

/-- Every present item has a live unit, and the pairs serve (R334, check 0x06). -/
def itemsLive (s : State) : Bool :=
  s.cl.serving && (List.range 5).all (fun i => !itemPresent s i || pairLive s (unitOf s.cl.items i))
    && (List.range 6).all (fun g => !legPresent s g || engineLive s (unitOf s.cl.legs g))

/-- The guards of `CORE_RESTART` in RUNNING (R195, R263). -/
def restartAllowed (s : State) : Bool :=
  (List.range 2).all (fun c => !convOn s c || (!sync s c sfRt && !dpcOn s c && decide (rd s (Obj.REVERSAL_STATE c) = 0)))
    && (match s.cl.lastCoast with
        | some t => decide (t + rd s Obj.COAST_REARM * 1000000000 ≤ nowNs s)
        | none => true)
    && (List.range 4).all (pairLive s) && !s.cl.noCoast

/-- A write of 1 to `CORE_RESTART` (R195). -/
def writeCoreRestart (v : Nat) (s : State) : WriteResult :=
  let st := station s
  if v ≠ 1 then refuse s abRange
  else if st = stRunning then
    (if restartAllowed s then accept (schedule stCoast causeGrid 0 s) else refuse s abState)
  else if [stHeld, stReady, stEnergised, stBlocked].contains st then accept (restartPairs s)
  else refuse s abState

/-- A write of 1 to `RAMP_DOWN_REQUEST` (R196): in the states from which RAMP-DOWN is entered (R335). -/
def writeRampDown (v : Nat) (s : State) : WriteResult :=
  if v ≠ 1 then refuse s abRange
  else if [stRunning, stRideThrough, stCoast].contains (station s) then accept (askRampDown causeGrid 1 s)
  else refuse s abState

/-! ### Ramp-down (R197) -/

/-- The AC current of leg `g` in the samples of tide `n` is below 0.02 pu; a missing sample shows nothing. -/
def legCalm (s : State) (n g : Nat) : Bool :=
  match armCurrent s n (2 * g), armCurrent s n (2 * g + 1) with
  | some u, some l => decide (absRat (u - l) < 1 / 50)
  | _, _ => false

/-- How long the currents of a ramp-down have been below 0.02 pu, at the return deadline of tide `n` (R197). -/
def calmStep (n : Nat) (s : State) : State :=
  if station s ≠ stRampDown then s
  else
    let calm := (List.range 6).all (fun g => !legPresent s g || legCalm s n g)
    setCl (fun c => { c with calmFrom := if calm then some (c.calmFrom.getD (tideStartAt s n / nsUnit)) else none }) s

/-- A converter's current references are 0. -/
def refsZero (x : Converter) : Bool :=
  decide (x.refs.ip = 0) && decide (x.refs.iq = 0) && decide (x.refs.np = 0) && decide (x.refs.nq = 0)

/-- What R197 asks: the references are 0, and the currents have stayed below 0.02 pu for 1 ms. -/
def rampedDown (s : State) : Bool :=
  (List.range 2).all (fun c => !convOn s c || refsZero (conv s c))
    && (match s.cl.calmFrom with | some t => decide (t + 1000000 ≤ nowNs s) | none => false)

/-- RAMP_DOWN_COMPLETE (R197): the references have reached 0 and the currents have stayed below 0.02 pu for 1 ms. -/
def execRampDownComplete (s : State) : Host.Outcome State Fault Refusal :=
  .next (whenAlive .fabric (fun s =>
    if station s = stRampDown ∧ rampedDown s = true then schedule stBlocked causeRampEnd 0 s else s) s)

/-- RAMP_DOWN_GRACE_EXPIRY (R197). -/
def execRampDownGraceExpiry (s : State) : Host.Outcome State Fault Refusal :=
  .next (whenAlive .fabric (fun s =>
    match s.cl.rampFrom with
    | some t =>
      if station s = stRampDown then
        schedule stBlocked causeRampEnd 0 (emit .rampDownIncomplete noInst []
          (runTo ((t + (rd s Obj.RAMP_DOWN_TIME + rd s Obj.RAMP_DOWN_GRACE) * 1000000) * nsUnit) s))
      else s
    | none => s) s)

end Sys2Proof.Machine
end

