-- ==== Sys2Proof/Machine/Queues.lean ====
section
/-! DEFINITION. Queues: pool, messages and descriptors (R85, R86), host access (R87, R88), sequence numbers (R248), credits
(R90 to R93), acknowledgement and retransmission (R250, R252). -/

namespace Sys2Proof.Machine

/-- Queue of an ID. -/
def queueOf (s : State) (q : Nat) : Queue := Tbl.get (fun _ => Queue.empty) s.queues q

/-- Blocks a message of `len` bytes occupies (R85). -/
def msgBlocks (len : Nat) : Nat := (16 + len + 63) / 64

/-- Blocks a queue holds, a partial upward message included. -/
def Queue.blocks (q : Queue) : Nat :=
  sumNat (q.msgs.map (fun m => msgBlocks m.body.length)) + (match q.part with | some p => msgBlocks p.2.length | none => 0)


/-- Leaf of a queue ID. -/
def queueLeaf (q : Nat) : Nat := q / 16


/-- Blocks in use by the leaf-bound (true) or the host-bound queues. -/
def poolUsed (s : State) (down : Bool) : Nat :=
  sumNat (s.queues.map (fun p => if leafBound (queueClass p.1) = down then p.2.blocks else 0))

/-- `POOL_DOWN_FREE`, `POOL_UP_FREE` and `POOL_DOWN_LOW`. -/
def showPool (s : State) : State :=
  let share := rd s Obj.POOL_DOWN_SHARE
  let down := share - poolUsed s true
  let up := rd s Obj.POOL_BLOCKS - share - poolUsed s false
  wrs s [(Obj.POOL_DOWN_FREE, down), (Obj.POOL_UP_FREE, up), (Obj.POOL_DOWN_LOW, min down (rd s Obj.POOL_DOWN_LOW))]

/-- Change a queue. -/
def setQueue (q : Nat) (f : Queue → Queue) (s : State) : State :=
  showPool { s with queues := Tbl.modify (fun _ => Queue.empty) s.queues q f }

/-- Segments a message of `len` bytes travels in (R85). -/
def segCount (len : Nat) : Nat := max 1 ((len + 1015) / 1016)

/-- The head message that `QUEUE_PEEK` shows (R88): of a host-bound queue the oldest complete message, of a RETURNED leaf-bound
queue the oldest returned one. -/
def Queue.head (q : Queue) (cls : Nat) : Option Msg :=
  if leafBound cls then (if q.qstate = 3 then q.msgs.find? (fun m => m.back) else none) else q.msgs.head?


/-- The 32 descriptor bytes (R86). Block numbers are free values, below `POOL_BLOCKS`. The queue of a leaf absent on the code can be
selected, and its descriptor and peek answer as for an empty queue (DESIGN CHOICE, log entry 61). -/
def descriptorBytes (s : State) (id : Nat) : List Byte :=
  let q := queueOf s id
  let cls := queueClass id
  let blk (m : Option Msg) : Nat := match m with
    | some m => Config.poolBlock id m.seq % rd s Obj.POOL_BLOCKS
    | none => 0xFFFFFFFF
  let sent := if leafBound cls then q.sentSeq else match q.msgs.head? with | some m => m.seq | none => q.nextSeq
  let st := q.qstate + (if leafBound cls then 0 else 8) + (if q.waitsCredit cls then 16 else 0) + (if q.poisoned then 32 else 0)
    + (if q.creditBad then 64 else 0)
  leBytes 4 (blk q.msgs.head?) ++ leBytes 4 (blk q.msgs.getLast?) ++ leBytes 2 q.nextSeq ++ leBytes 2 sent ++ leBytes 2 q.ackedSeq
    ++ leBytes 2 q.creditLimit ++ leBytes 2 q.creditUsed ++ leBytes 2 q.msgs.length ++ leBytes 4 q.blocks
    ++ leBytes 1 (rd s (Obj.FOLD_EPOCH (queueLeaf id))) ++ leBytes 1 st ++ leBytes 2 0
    ++ leBytes 4 (match q.msgs.head? with | some m => m.tide | none => 0)

/-- `QUEUE_PEEK` of a queue (R88). -/
def peekBytes (s : State) (id : Nat) : List Byte :=
  let q := queueOf s id
  match q.head (queueClass id) with
  | some m =>
    let body := if m.lost then [] else m.body
    leBytes 4 id ++ leBytes 2 m.seq ++ leBytes 2 (b2n m.back + 2 * b2n m.lost) ++ leBytes 4 m.tide ++ leBytes 2 body.length
      ++ leBytes 2 0 ++ body
  | none => leBytes 4 id ++ leBytes 2 0 ++ leBytes 2 4 ++ leBytes 4 0 ++ leBytes 2 0 ++ leBytes 2 0



/-- Enqueue a message: it takes `NEXT_SEQ` (R87). -/
def enqueue (id : Nat) (body : List Byte) (s : State) : State :=
  let m : Msg := { seq := (queueOf s id).nextSeq, body := body, tide := tideNow s, lost := false, back := false }
  setQueue id (fun q => { q with msgs := q.msgs ++ [m], nextSeq := (q.nextSeq + 1) % 65536 }) s

/-- A message of `len` bytes fits its queue and the leaf-bound share (R87, R248). A payload above the 16,384 bytes of a message (R85)
does not fit either: R87 gives it no code, and "queue full" answers it (DESIGN CHOICE, log entry 61). -/
def postFits (s : State) (id len : Nat) : Bool :=
  let q := queueOf s id
  let n := msgBlocks len
  decide (q.blocks + n ≤ rd s (Obj.CLASS_CAPACITY (queueClass id))) && decide (n ≤ rd s Obj.POOL_DOWN_FREE)
    && decide (q.msgs.length < 32767) && decide (len ≤ 16384)

/-- The device posts a message of its own to a leaf-bound queue that is OPEN or HALTED and has room; none where it cannot. -/
def devicePost (id : Nat) (body : List Byte) (s : State) : Option State :=
  let q := queueOf s id
  if (q.qstate = 1 ∨ q.qstate = 2) ∧ postFits s id body.length = true then some (enqueue id body s) else none

/-- A post of a host session (R87), its checks in the order of the rule; class 1 payloads keep R232. `POSTS_REFUSED` counts the
refusals of R87's table and of R232, not those of the checks of R295 before them (DESIGN CHOICE, log entry 61). -/
def hostPost (role id seq : Nat) (body : List Byte) (s : State) : WriteResult :=
  let cls := queueClass id
  let q := queueOf s id
  let no (code : Nat) : WriteResult := refuse (count s Obj.POSTS_REFUSED) code
  if 262143 < id ∨ leafBound cls = false then no abRange
  else if leafCount s ≤ queueLeaf id then no abNoObject
  else if role < (if cls = 0 ∨ cls = 2 then 2 else 1) then no abAccess
  else if cls = 1 ∧ (body.length < 4 ∨ leNat (body.take 1) < 0x40) then no abRange
  else if q.qstate = 0 ∨ q.qstate = 3 then no abState
  else if behind seq q.nextSeq then accept s
  else if seq ≠ q.nextSeq then no abSequence
  else if postFits s id body.length = false then no abQueueFull
  else accept (countBy 64 (enqueue id body s) Obj.POSTS 1)

/-- A leaf is penned (R238). -/
def penned (s : State) (L : Nat) : Bool := bit (rd s (Obj.PROT_FLAGS L)) 6

/-- A leaf is retired (R239). -/
def retired (s : State) (L : Nat) : Bool := bit (rd s (Obj.PROT_FLAGS L)) 7

/-- QSTATE of a queue of the fold that has nothing returned: of a penned leaf outside readmission class 1 is OPEN and the others
CLOSED (R260). -/
def restState (s : State) (L cls : Nat) : Nat :=
  if penned s L ∧ (leafOf s L).readmit < 3 ∧ cls ≠ 1 then 0 else 1

/-- `QUEUE_CLEAR_RETURNED` (R88, R260). -/
def clearReturned (id : Nat) (s : State) : WriteResult :=
  if 262143 < id ∨ leafBound (queueClass id) = false then refuse s abRange
  else if leafCount s ≤ queueLeaf id then refuse s abNoObject
  else if (queueOf s id).qstate ≠ 3 then accept s
  else
    let L := queueLeaf id
    let keep := (queueOf s id).msgs.filter (fun m => !m.back)
    let st := if keep = [] then restState s L (queueClass id) else 1
    accept (setQueue id (fun q => { q with msgs := keep, qstate := st }) s)

/-- `QUEUE_RELEASE` (R88). A queue without a head judges the `SEQ` against `NEXT_SEQ`. -/
def queueRelease (id seq : Nat) (s : State) : WriteResult :=
  let q := queueOf s id
  let cls := queueClass id
  if 262143 < id then refuse s abRange
  else if leafCount s ≤ queueLeaf id then refuse s abNoObject
  else match q.head cls with
    | some m =>
      if seq = m.seq then
        let s := setQueue id (fun q => { q with msgs := q.msgs.filter (fun x => !(x.seq = m.seq && x.back = m.back)) }) s
        accept (if leafBound cls then s else observe 6 cls (tideNow s - m.tide) s)
      else if behind seq m.seq then accept s else refuse s abRange
    | none => if behind seq q.nextSeq then accept s else refuse s abRange

/-! ### Returning, acknowledging, retransmitting -/

/-- Return messages of a queue to the host that `p` selects: flagged, counted, and the queue becomes RETURNED (R257). -/
def returnWhere (id : Nat) (p : Msg → Bool) (s : State) : State :=
  let n := ((queueOf s id).msgs.filter (fun m => p m && !m.back)).length
  if n = 0 then s
  else
    let s := countBy 32 s Obj.RETURNED_MESSAGES n
    setQueue id (fun q => { q with msgs := q.msgs.map (fun m => if p m then { m with back := true } else m), qstate := 3 }) s

/-- Messages of a queue sent and not acknowledged: those before `SENT_SEQ`, or placed before (R252). -/
def Queue.unacked (q : Queue) : Bool :=
  q.msgs.any (fun m => !m.back && (behind m.seq q.highSeq || (m.seq = q.highSeq && decide (0 < q.highSeg))))

/-- A retransmission falls due: sending starts again after `ACKED_SEQ` (R252). A queue with nothing to resend is unchanged. -/
def retransmit (id : Nat) (s : State) : State :=
  if (queueOf s id).unacked then
    setQueue id (fun q => { q with sentSeq := (q.ackedSeq + 1) % 65536, seg := 0, retx := true }) s
  else s

/-- Leaf-bound queue IDs of a fold. -/
def downQueues (L : Nat) : List Nat := (List.range 8).map (fun c => L * 16 + c)

/-- Host-bound queue IDs of a fold. -/
def upQueues (L : Nat) : List Nat := (List.range 8).map (fun c => L * 16 + 8 + c)

/-- `SEQ` m is a or behind it: an ACK of value a reaches it. -/
def reached (m a : Nat) : Bool := decide (m = a) || behind m a

/-- A queue after an ACK of value a: the messages up to a have left it; a sending point that a retransmission had set behind them moves
past them, and with nothing left to resend the retransmission is over (R252). -/
def Queue.acked (q : Queue) (a : Nat) (close : Bool) : Queue :=
  let passed := reached q.sentSeq a
  let q := { q with msgs := q.msgs.filter (fun m => m.back || !reached m.seq a), ackedSeq := a,
                    sentSeq := if passed then (a + 1) % 65536 else q.sentSeq, seg := if passed then 0 else q.seg,
                    qstate := if close then 0 else q.qstate }
  { q with retx := q.retx && q.unacked }

/-- An ACK of value a takes effect (R252). Classes 0 and 2 to 7 of a penned leaf close once they hold nothing (R260). The ACK of a READMIT
ends step 1 of its readmission (R274). -/
def ackQueue (id a : Nat) (s : State) : State :=
  let q := queueOf s id
  if a = q.ackedSeq ∨ behind a q.ackedSeq = true then s
  else
    let gone := q.msgs.filter (fun m => !m.back && reached m.seq a)
    let s := gone.foldl (fun t m => observe 5 (queueClass id) (tideNow t - m.tide) t) s
    let L := queueLeaf id
    let x := leafOf s L
    let close := q.msgs.all (fun m => !m.back && reached m.seq a) && penned s L && x.penDone && decide (x.readmit < 3)
      && decide (queueClass id ≠ 1)
    let s := if queueClass id = 1 ∧ x.readmit = 1 ∧ reached x.readmitSeq a = true then
        setLeaf L (fun x => { x with readmitAcked := true }) s
      else s
    setQueue id (fun q => q.acked a close) s

/-- An ACK arrives (R252): beyond `SENT_SEQ` - 1 it is ignored and counted; otherwise it takes effect for frames of the next tide
(R93). -/
def ackArrives (id a : Nat) (s : State) : State :=
  let q := queueOf s id
  let now := q.ackNext.getD q.ackedSeq
  let last := (q.sentSeq + 65535) % 65536
  if a = now ∨ behind a now = true then s
  else if aheadOf 16 a last then count s Obj.ACK_INVALID
  else setQueue id (fun q => { q with ackNext := some a }) s

/-- A CREDIT record arrives (R92); it takes effect for frames of the next tide (R93). -/
def creditArrives (id limit : Nat) (s : State) : State :=
  let q := queueOf s id
  let now := q.creditNext.getD q.creditLimit
  let d (a b : Nat) : Nat := (a + 65536 - b % 65536) % 65536
  if d limit now < 32768 ∧ d limit q.creditUsed < 32768 then
    setQueue id (fun q => { q with creditNext := some limit, creditBad := false }) s
  else setQueue id (fun q => { q with creditBad := true }) (count s Obj.CREDIT_INVALID)

/-- At a tide start, the credit and ACK records of the previous tide take effect (R93). -/
def tideQueue (id : Nat) (s : State) : State :=
  let q := queueOf s id
  let s := match q.ackNext with | some a => ackQueue id a s | none => s
  if q.ackNext = none ∧ q.creditNext = none then s
  else setQueue id (fun q => { q with creditLimit := q.creditNext.getD q.creditLimit, creditNext := none, ackNext := none }) s

/-- The same for every queue that waits for it. -/
def tideQueues (s : State) : State := (s.queues.map (·.1)).foldl (fun t id => tideQueue id t) s

/-- RETX_TIMEOUT_EXPIRY (R252): `RETX_TIMEOUT` tides without the ACK of message `ACKED_SEQ` + 1. -/
def execRetxTimeoutExpiry (id : Nat) (s : State) : Host.Outcome State Fault Refusal :=
  .next (whenAlive .fabric (fun s => if leafBound (queueClass id) then retransmit id s else s) s)

/-- ACK_DELAY_EXPIRY (R95): an ACK owed to a leaf has waited `ACK_DELAY` tides; the leaf is a level A candidate. -/
def execAckDelayExpiry (L : Nat) (s : State) : Host.Outcome State Fault Refusal :=
  .next (whenAlive .fabric (fun s =>
    (upQueues L).foldl (fun t id => if (queueOf t id).ackOwed then setQueue id (fun q => { q with ackLate := true }) t else t) s) s)

end Sys2Proof.Machine
end

