-- ==== Sys2Proof/Machine/Folds.lean ====
section
/-! DEFINITION. Folds: link state (R280), epochs (R256 to R259), penning and retirement (R238, R239, R260), stray leaves (R269,
R270), and readmission (R272 to R274). -/

namespace Sys2Proof.Machine

/-- Leaf states of R108, as `LEAF_RANK_STATE` codes them. -/
abbrev rkEligible : Nat := 1
/-- FIXED -/
abbrev rkFixed : Nat := 2
/-- ADMITTING -/
abbrev rkAdmitting : Nat := 3
/-- EXCLUDED -/
abbrev rkExcluded : Nat := 4
/-- STRAY -/
abbrev rkStray : Nat := 5
/-- PENNED -/
abbrev rkPenned : Nat := 6
/-- KIND MISMATCH -/
abbrev rkMismatch : Nat := 7

/-- `LINK_STATE` of a leaf (R280). -/
def linkState (s : State) (L : Nat) : Nat :=
  let x := leafOf s L
  if leafOn s L = false then 0
  else if retired s L then 6
  else if penned s L then (if x.readmit = 0 then 4 else 5)
  else if x.stray then 3
  else if x.accepted then 2 else 1

/-- Bring `LINK_STATE` up to date. -/
def showLink (L : Nat) (s : State) : State := wr s (Obj.LINK_STATE L) (linkState s L)

/-- The value that follows an epoch: 1 follows 255, and 1 follows 0 (R256). -/
def nextEpoch (e : Nat) : Nat := if 255 ≤ e then 1 else e + 1

/-- Discard the partial upward message of a queue, counting its segments (R254, R257). -/
def dropPart (id : Nat) (s : State) : State :=
  let q := queueOf s id
  let n := q.partSegs + (match q.dup with | some p => p.2 | none => 0)
  if n = 0 then s
  else setQueue id (fun q => { q with part := none, partSegs := 0, dup := none }) (countBy 32 s Obj.UP_DISCARDED n)

/-- Discard every partial upward message of a leaf. -/
def dropParts (L : Nat) (s : State) : State := (upQueues L).foldl (fun t id => dropPart id t) s

/-- One leaf-bound queue at the opening of an epoch (R257): what it holds is returned, or it is HALTED. -/
def openDown (id : Nat) (s : State) : State :=
  let s := returnWhere id (fun _ => true) s
  let rest := restState s (queueLeaf id) (queueClass id)
  setQueue id (fun q =>
    { q with sentSeq := q.nextSeq, seg := 0, highSeq := q.nextSeq, highSeg := 0, ackedSeq := (q.nextSeq + 65535) % 65536, creditLimit := 0,
             creditUsed := 0, creditNext := none, ackNext := none, retx := false,
             qstate := if q.qstate = 3 then 3 else if rest = 0 then 0 else 2 }) s

/-- One host-bound queue at the opening of an epoch (R257). -/
def openUp (id : Nat) (s : State) : State :=
  setQueue id (fun q => { q with fresh := true, ackOwed := false, ackLate := false }) (dropPart id s)

/-- A new epoch opens for a fold (R256, R257). -/
def openEpoch (L : Nat) (announced : Option Nat) (s : State) : State :=
  let old := rd s (Obj.FOLD_EPOCH L)
  let e := if some (nextEpoch old) = announced then nextEpoch (nextEpoch old) else nextEpoch old
  let before := rd s Obj.RETURNED_MESSAGES
  let s := (downQueues L).foldl (fun t id => openDown id t) s
  let s := (upQueues L).foldl (fun t id => openUp id t) s
  let n := rd s Obj.RETURNED_MESSAGES - before
  let s := setLeaf L (fun x => { x with accepted := false, foldEnded := false, welcomeOwed := true, welcomeNew := true,
                                        welcomeFrames := [] })
    (wr (count s Obj.EPOCHS_OPENED) (Obj.FOLD_EPOCH L) e)
  showLink L (emit .foldEpochOpened L (leBytes 2 L ++ leBytes 1 old ++ leBytes 1 e ++ leBytes 4 n) s)

/-- A fold continues its epoch (R256): WELCOME again, retransmission due, HALTED queues OPEN. -/
def continueEpoch (L : Nat) (s : State) : State :=
  let s := (downQueues L).foldl (fun t id =>
    let t := retransmit id t
    if (queueOf t id).qstate = 2 then setQueue id (fun q => { q with qstate := 1 }) t else t) s
  showLink L (setLeaf L (fun x => { x with welcomeOwed := true, welcomeNew := false, welcomeFrames := [] }) s)

/-- The first record of the new epoch accepts it (R257, R259). -/
def acceptEpoch (L : Nat) (s : State) : State :=
  if (leafOf s L).accepted then s
  else
    let s := (downQueues L).foldl (fun t id =>
      if (queueOf t id).qstate = 2 then setQueue id (fun q => { q with qstate := restState t L (queueClass id) }) t else t) s
    let s := (upQueues L).foldl (fun t id => setQueue id (fun q => { q with qstate := 1 }) t) s
    showLink L (setLeaf L (fun x =>
      { x with accepted := true, welcomeOwed := if x.welcomeNew then false else x.welcomeOwed, welcomeNew := false }) s)

/-! ### Penning and retirement -/

/-- Set a bit of `PROT_FLAGS`. -/
def setProt (L i : Nat) (b : Bool) (s : State) : State := wr s (Obj.PROT_FLAGS L) (putBit (rd s (Obj.PROT_FLAGS L)) i b)

/-- Retire a leaf (R239): it is penned and stays so. -/
def retire (L : Nat) (s : State) : State :=
  if retired s L then s else showLink L (emit .leafRetired L (leBytes 2 L) (setProt L 7 true (setProt L 6 true s)))

/-- The penning of a fold completes (R260): what was never sent is returned, and classes 0 and 2 to 7 close once they hold
nothing. -/
def completePenning (L : Nat) (s : State) : State :=
  let s := setLeaf L (fun x => { x with penDone := true, bypassCmd := false }) s
  let s := (downQueues L).foldl (fun t id =>
    let q := queueOf t id
    let t := returnWhere id (fun m => !(behind m.seq q.highSeq || (m.seq = q.highSeq && decide (0 < q.highSeg)))) t
    if (queueOf t id).msgs = [] ∧ queueClass id ≠ 1 then setQueue id (fun q => { q with qstate := 0 }) t else t) s
  showLink L s

/-- Code of a service command message: opcode, token, arguments (R231). -/
def serviceMsg (L op : Nat) (args : List Byte) (s : State) : List Byte :=
  leBytes 1 op ++ leBytes 1 (Config.serviceToken L (queueOf s (L * 16 + 1)).nextSeq) ++ leBytes 2 0 ++ args

/-- The device posts a service command on class 1. -/
def postService (L op : Nat) (args : List Byte) (s : State) : Option State := devicePost (L * 16 + 1) (serviceMsg L op args s) s

/-- A running readmission ends with a status (R274, R276). -/
def endReadmit (L status : Nat) (s : State) : State :=
  if (leafOf s L).readmit = 0 then s
  else showLink L (setLeaf L (fun x => { x with readmit := 0 }) (wr s (Obj.READMIT_STATUS L) status))

/-- The PERMANENT_BYPASS of a penning is appended to class 1 (R238), in every state of the queue: a HALTED, RETURNED or CLOSED queue takes
the device's own command. It is owed until the queue and the leaf-bound share have room for it (R85). -/
def appendBypass (L : Nat) (s : State) : State :=
  let m := serviceMsg L 0x03 [] s
  if postFits s (L * 16 + 1) m.length then enqueue (L * 16 + 1) m (setLeaf L (fun x => { x with bypassOwed := false }) s)
  else setLeaf L (fun x => { x with bypassOwed := true }) s

/-- At each tide start the PERMANENT_BYPASS still owed to a penned leaf that shows no latched bypass is tried again. -/
def retryBypasses (s : State) : State :=
  (s.leaves.filter (fun p => p.2.bypassOwed)).foldl (fun t p =>
    if penned t p.1 && !bit (rd t (Obj.PROT_FLAGS p.1)) 3 then appendBypass p.1 t
    else setLeaf p.1 (fun x => { x with bypassOwed := false }) t) s

/-- Pen a leaf (R238): cause, reason of a cause 8, whether permanent bypass is commanded. A leaf already penned takes only the
new cause (R263); a readmission of it that was running ends (R276). -/
def penLeaf (L cause reason : Nat) (bypass : Bool) (s : State) : State :=
  let s := endReadmit L (if cause = 7 then 0x92 else 0x90) s
  if penned s L then wr s (Obj.PEN_CAUSE L) cause
  else
    let s := if cause = 8 then wr s (Obj.LINK_PEN_REASON L) reason else s
    let s := countBy 16 (wr (setProt L 6 true s) (Obj.PEN_CAUSE L) cause) (Obj.PENNINGS L) 1
    let s := setLeaf L (fun x => { x with admitting := false, penDone := false }) s
    let s := if rd s Obj.RETIRE_PENNINGS ≤ rd s (Obj.PENNINGS L) then retire L s else s
    let latched := bit (rd s (Obj.PROT_FLAGS L)) 3
    if bypass && !latched then showLink L (appendBypass L (setLeaf L (fun x => { x with bypassCmd := true }) s))
    else completePenning L s

/-- LEAF_PENNING (R238): the device pens a leaf for a listed cause. Causes 2 and 5 command permanent bypass. -/
def execLeafPenning (leaf cause reason : Nat) (s : State) : Host.Outcome State Fault Refusal :=
  .next (whenAlive .fabric (fun s => if leafOn s leaf then penLeaf leaf cause reason (cause = 2 || cause = 5) s else s) s)

/-- PENNING_COMPLETE (R238, R260): with no bypass commanded, or with BYPASS_LATCHED seen, the fold of the penned leaf is handled. -/
def execPenningComplete (leaf : Nat) (s : State) : Host.Outcome State Fault Refusal :=
  .next (whenAlive .fabric (fun s =>
    let x := leafOf s leaf
    if penned s leaf && !x.penDone && (!x.bypassCmd || bit (rd s (Obj.PROT_FLAGS leaf)) 3) then completePenning leaf s else s) s)

/-- BYPASS_ACK_TIMEOUT_EXPIRY (R238): the bypass was not confirmed; the leaf is retired and its penning completes. -/
def execBypassAckTimeoutExpiry (leaf : Nat) (s : State) : Host.Outcome State Fault Refusal :=
  .next (whenAlive .fabric (fun s =>
    if penned s leaf && (leafOf s leaf).bypassCmd && !bit (rd s (Obj.PROT_FLAGS leaf)) 3 then
      completePenning leaf (retire leaf (emit .permanentBypassNotConfirmed leaf (leBytes 2 leaf) s))
    else s) s)

/-! ### Stray leaves -/

/-- A leaf becomes STRAY (R269). -/
def becomeStray (L : Nat) (s : State) : State :=
  let s := setLeaf L (fun x => { x with stray := true, admitting := false }) s
  let s := countFault 0 srcStray L 1 (count (emit .leafStray L (leBytes 2 L) s) (Obj.STRAY_EPISODES L))
  let s := (downQueues L).foldl (fun t id =>
    if (queueOf t id).qstate = 1 then setQueue id (fun q => { q with qstate := 2 }) t else t) s
  showLink L s

/-- The fold lets a stray leaf return (R270): an accepted epoch, and no leaf-bound queue HALTED. -/
def foldOpen (s : State) (L : Nat) : Bool :=
  (leafOf s L).accepted && (downQueues L).all (fun id => decide ((queueOf s id).qstate ≠ 2))

/-- A stray leaf returns and enters readmission (R270, R126). -/
def leafReturns (L : Nat) (s : State) : State :=
  showLink L (emit .leafReturned L (leBytes 2 L)
    (setLeaf L (fun x => { x with stray := false, admitting := true, admitHold := 0 }) s))

/-- The fold's epoch ends without a new one: what remains in its leaf-bound queues is returned (R260). -/
def endEpoch (L : Nat) (s : State) : State :=
  (downQueues L).foldl (fun t id => returnWhere id (fun _ => true) t) (setLeaf L (fun x => { x with foldEnded := true }) s)

/-- The epoch an ANNOUNCE of the leaf named in the present tide. -/
def announcedNow (s : State) (L : Nat) : Option Nat :=
  match (leafOf s L).announced with
  | some (n, held) => if n = tideNow s then some held else none
  | none => none

/-- STRAY_PEN_TIME_EXPIRY (R269): a leaf still STRAY is penned with cause 8, reason 1, and its fold's epoch ends under R260. An ANNOUNCE
of the same tide opens a new epoch, whether it came before or comes after (R276). -/
def execStrayPenTimeExpiry (leaf : Nat) (s : State) : Host.Outcome State Fault Refusal :=
  .next (whenAlive .fabric (fun s =>
    if (leafOf s leaf).stray then
      let t := penLeaf leaf 8 1 false s
      match announcedNow s leaf with
      | some held => if held = rd t (Obj.FOLD_EPOCH leaf) then openEpoch leaf (some held) t else t
      | none => endEpoch leaf t
    else s) s)

/-- A message of the fold waits without credit (R95 level D). -/
def waitsForCredit (s : State) (L : Nat) : Bool := (downQueues L).any (fun id => (queueOf s id).waitsCredit (queueClass id))

/-- POLL_INTERVAL_EXPIRY (R95, R269): a message waits without credit, or the leaf is stray, or its fold awaits its first
ANNOUNCE; the leaf is due a poll. -/
def execPollIntervalExpiry (leaf : Nat) (s : State) : Host.Outcome State Fault Refusal :=
  .next (whenAlive .fabric (fun s =>
    let x := leafOf s leaf
    if leafOn s leaf && (waitsForCredit s leaf || x.stray || x.foldEnded || decide (rd s (Obj.FOLD_EPOCH leaf) = 0)) then
      setLeaf leaf (fun x => { x with pollDue := true }) s
    else s) s)

/-! ### Readmission -/

/-- The latest STATUS of a leaf shows a cause of exclusion (R272 check 4). -/
def statusBad (st : Nat) : Bool := bit st 11 || bit st 12 || bit st 10 || bit st 14

/-- Code of the first condition of R272 that fails, 0 when all hold. -/
def readmitCheck (s : State) (L : Nat) : Nat :=
  let x := leafOf s L
  if penned s L = false then 1
  else if retired s L then 2
  else if x.goodRun < 16 then 3
  else if statusBad x.statusNew then 4
  else if (downQueues L ++ upQueues L).any (fun id => (queueOf s id).qstate = 3) || !(queueOf s (L * 16 + 1)).msgs.isEmpty then 5
  else if station s = stSafe ∨ station s = stCoast ∨ bit (rd s Obj.BW_STATUS) 4 = true then 6
  else 0

/-- A write of 1 to `LEAF_READMIT` (R272, R274 step 1). -/
def leafReadmit (L : Nat) (s : State) : WriteResult :=
  let c := readmitCheck s L
  if c ≠ 0 then refuse (wr s (Obj.READMIT_STATUS L) c) abState
  else
    let seq := (queueOf s (L * 16 + 1)).nextSeq
    match postService L 0x05 (leBytes 2 L ++ leBytes 2 0) s with
    | none => refuse s abState
    | some s => accept (showLink L (setLeaf L (fun x => { x with readmit := 1, readmitSeq := seq, readmitAcked := false })
        (wr s (Obj.READMIT_STATUS L) 0x80)))

/-- READMIT_STEP (R274): the present step has its ending event, and the next begins: 1 the READMIT is acknowledged, 2 the
ANNOUNCE with epoch 0 has come and the new epoch opens, 3 the epoch is accepted and the leaf enters ADMITTING, 4 it is ELIGIBLE (R126). -/
def readmitStep (L : Nat) (s : State) : State :=
  let x := leafOf s L
  match x.readmit with
  | 1 => if x.readmitAcked then setLeaf L (fun x => { x with readmit := 2 }) s else s
  | 3 =>
    if x.accepted then
      let s := wr (setProt L 6 false s) (Obj.PEN_CAUSE L) 0
      let s := setLeaf L (fun x => { x with readmit := 4, admitting := true, admitHold := 0, penDone := false, stray := false,
                                            bypassOwed := false }) s
      let s := (downQueues L).foldl (fun t id =>
        if (queueOf t id).qstate = 0 then setQueue id (fun q => { q with qstate := 1 }) t else t) s
      showLink L (wr s (Obj.READMIT_STATUS L) 0x81)
    else s
  | 4 =>
    if x.admitting || decide (rd s (Obj.LEAF_RANK_STATE L) ≠ rkEligible) then s
    else
      let s := setLeaf L (fun x => { x with readmit := 0 }) (wr s (Obj.READMIT_STATUS L) 0x82)
      showLink L (emit .readmissionComplete L (leBytes 2 L) (count s Obj.READMISSIONS))
  | _ => s

/-- READMIT_STEP as a command. -/
def execReadmitStep (leaf : Nat) (s : State) : Host.Outcome State Fault Refusal :=
  .next (whenAlive .fabric (readmitStep leaf) s)

/-- READMIT_TIMEOUT_EXPIRY (R274): steps 1 to 3 have not finished; the leaf stays PENNED. -/
def execReadmitTimeoutExpiry (leaf : Nat) (s : State) : Host.Outcome State Fault Refusal :=
  .next (whenAlive .fabric (fun s =>
    let r := (leafOf s leaf).readmit
    if 1 ≤ r ∧ r ≤ 3 then endReadmit leaf 0x91 s else s) s)

/-- ADMIT_TIMEOUT_EXPIRY (R127): an ADMITTING leaf is penned again. -/
def execAdmitTimeoutExpiry (leaf : Nat) (s : State) : Host.Outcome State Fault Refusal :=
  .next (whenAlive .fabric (fun s =>
    if (leafOf s leaf).admitting then
      countFault 0 srcAdmit leaf 1 (emit .readmissionFailed leaf (leBytes 2 leaf) (penLeaf leaf 7 0 false s))
    else s) s)

/-! ### ANNOUNCE -/

/-- A readmission goes on from step 3 when a new epoch opens in step 1 or 2 (R274, R276). -/
def readmitOpened (L : Nat) (s : State) : State :=
  let r := (leafOf s L).readmit
  if r = 1 ∨ r = 2 then setLeaf L (fun x => { x with readmit := 3 }) s else s

/-- An ANNOUNCE of 32 bytes or more arrives (R55, R256, R271, R274). In step 1 or 2 of a readmission one that opens an epoch ends step 2:
with epoch 0 as R274 has it, with any other as R276 goes on at step 3 (DEDUCED, log entry 62). -/
def announce (L : Nat) (p : List Byte) (s : State) : State :=
  if p.length < 32 then s
  else
    let serial := leNat (slice p 4 8)
    let held := leNat (slice p 18 1)
    let x := leafOf s L
    let s := setLeaf L (fun x => { x with fwd := leNat (slice p 14 2), ret := leNat (slice p 16 2), serial := some serial,
                                          announced := some (tideNow s, held) }) s
    let isNew := match x.serial with | some n => decide (n ≠ serial) | none => false
    if isNew then penLeaf L 8 4 false (openEpoch L (some held) s)
    else if held = rd s (Obj.FOLD_EPOCH L) ∧ held ≠ 0 ∧ x.foldEnded = false then continueEpoch L s
    else readmitOpened L (openEpoch L (some held) s)

/-- A commit or a change of the drove leaves a leaf unconfigured: every message is returned, its queues close, and the epoch has ended, so
that an epoch must be accepted anew (R256, R259). -/
def closeFold (L : Nat) (s : State) : State :=
  let s := (downQueues L).foldl (fun t id => setQueue id (fun q => { q with qstate := 0 }) (returnWhere id (fun _ => true) t)) s
  let s := setLeaf L (fun x => { x with accepted := false, foldEnded := true, welcomeOwed := false }) s
  showLink L ((upQueues L).foldl (fun t id => setQueue id (fun q => { q with qstate := 0 }) t) s)

end Sys2Proof.Machine
end

