-- ==== Sys2Proof/Machine/Protection.lean ====
section
/-! DEFINITION. Leaf protection management: the protection snoop (R230), protection and test records (R229, R237), short circuits
(R233), gate supplies (R234, R240), service commands (R232), self-tests (R235), and the reactions of fault sources. -/

namespace Sys2Proof.Machine

/-- Bits of STATUS (R47) that mark a leaf out: BYPASS_LATCHED 14, GATE_UV 12, SC_TRIP 11, OVER_TEMP 10. -/
def snoopBits (st : Nat) : List (Nat × Bool) := [(0, bit st 11), (1, bit st 12), (2, bit st 10), (3, bit st 14)]

/-- "Bypass hold at risk" (R240). -/
def bypassAtRisk (L : Nat) (s : State) : State :=
  retire L (countFault 1 4 L 1 (emit .bypassHoldAtRisk L (leBytes 2 L) s))

/-- GATE_UV seen while BYPASS_LATCHED was set, its record naming supply 4 or not arriving: acted on once (R240). -/
def judgeHold (L : Nat) (s : State) : State :=
  if (leafOf s L).uvNamed = 2 ∧ (leafOf s L).uvHeld = true then
    bypassAtRisk L (setLeaf L (fun x => { x with uvNamed := 3 }) s)
  else s

/-- A GATE_UV that the snoop has not seen, or no longer sees, and whose records have all come, is forgotten. -/
def forgetUv (L : Nat) (s : State) : State :=
  if bit (rd s (Obj.PROT_FLAGS L)) 1 || !(leafOf s L).uvWait.isEmpty then s
  else setLeaf L (fun x => { x with uvNamed := 0, uvHeld := false }) s

/-- The supply of the oldest sighting that waits for its record is known: its record names it, or none came within 100 ms (4). A
sighting beside a latched bypass, whether GATE_UV still stands or not, is judged (R240). A record may come before any sighting. -/
def nameUv (L supply : Nat) (s : State) : State :=
  match (leafOf s L).uvWait with
  | held :: next :: rest =>
    -- a sighting older than the last one is judged by itself
    let s := setLeaf L (fun x => { x with uvWait := next :: rest }) s
    if held && decide (supply = 4) then bypassAtRisk L s else s
  | last =>
    let s := judgeHold L (setLeaf L (fun x =>
      { x with uvWait := [], uvNamed := if x.uvNamed = 3 then 3 else max x.uvNamed (if supply = 4 then 2 else 1),
               uvHeld := x.uvHeld || last.contains true }) s)
    if last = [] ∧ bit (rd s (Obj.PROT_FLAGS L)) 1 = false then s else forgetUv L s

/-- GATE_UV is seen while BYPASS_LATCHED is set: the sighting that stands is one beside a latched bypass (R240). -/
def holdSeen (L : Nat) (s : State) : State :=
  judgeHold L (setLeaf L (fun x =>
    { x with uvHeld := true, uvWait := if x.uvWait = [] then [] else x.uvWait.dropLast ++ [true] }) s)

/-- The first sighting of a bit of `PROT_FLAGS` (R230): its event, its count and what follows. -/
def firstSighting (L i : Nat) (s : State) : State :=
  match i with
  | 0 => countFault 1 0 L 1 (countBy 16 (emit .leafShortCircuit L (leBytes 2 L) s) (Obj.SC_EVENTS L) 1)
  | 1 => setLeaf L (fun x => { x with uvWait := if x.uvNamed = 0 then x.uvWait ++ [false] else x.uvWait, uvHeld := false })
      (emit .leafGateSupplyLow L (leBytes 2 L) s)
  | 2 => emit .leafOverTemperature L (leBytes 2 L) s
  | _ =>
    let s := emit .leafBypassLatched L (leBytes 2 L) s
    if (leafOf s L).bypassCmd then s else penLeaf L 6 0 false s

/-- The snoop looks at one STATUS word of a GOOD return (R230): flags as last seen, first sightings, the mark, and the supply of
a bypass that is latched (R240). -/
def snoop (L st : Nat) (s : State) : State :=
  let old := rd s (Obj.PROT_FLAGS L)
  let s := (snoopBits st).foldl (fun t p => setProt L p.1 p.2 t) s
  let s := (snoopBits st).foldl (fun t p => if p.2 && !bit old p.1 then firstSighting L p.1 t else t) s
  let s := setProt L 4 (statusBad st) s
  if bit st 12 && bit st 14 then holdSeen L s
  else if bit old 1 && !bit st 12 then forgetUv L s
  else s

/-- `UV_EVENTS` of a supply index, or of an unknown one (R234). -/
def countUv (L supply : Nat) (s : State) : State :=
  countBy 16 s (if supply ≤ 5 then Obj.UV_EVENTS L supply else Obj.UV_EVENTS_UNKNOWN L) 1

/-- A class 9 record of 16 bytes completes (R229, R233, R234, R240). A COMMAND_REFUSED of READMIT ends a readmission in step 1
(R274). A GATE_UV record may come before the frame that shows the bit. -/
def protRecord (L : Nat) (p : List Byte) (s : State) : State :=
  if p.length < 16 then s
  else
    let code := leNat (slice p 0 1)
    let src := leNat (slice p 1 1)
    if code = 0x02 then countBy 16 s (Obj.SC_RAMP_EVENTS L) 1
    else if code = 0x04 then
      nameUv L src (countFault 1 1 L 1 (countUv L src s))
    else if code = 0x05 then forgetUv L s
    else if code = 0x07 then countFault 1 2 L 1 (countBy 16 s (Obj.OT_EVENTS L) 1)
    else if code = 0x0A ∧ src = 0x05 ∧ (leafOf s L).readmit = 1 then endReadmit L 0x90 s
    else s

/-- A class 10 report completes (R237). -/
def testRecord (L : Nat) (p : List Byte) (s : State) : State :=
  if p.length ≠ 40 then s
  else
    let code := leNat (slice p 0 1)
    let s := setProt L 5 false (wr (wrBlob s (Obj.TEST_RESULT L) p) (Obj.TEST_STATUS L) code)
    if code = 1 then countFault 1 3 L 1 s else s

/-- UV_RECORD_TIMEOUT (R234): no GATE_UV record within 100 ms of its sighting. -/
def execUvRecordTimeout (leaf : Nat) (s : State) : Host.Outcome State Fault Refusal :=
  .next (whenAlive .fabric (fun s =>
    if (leafOf s leaf).uvWait = [] then s
    else nameUv leaf 4 (countFault 1 1 leaf 1 (countUv leaf 0xFF s))) s)

/-- TEST_TIMEOUT_EXPIRY (R237): no report within `TEST_TIMEOUT`. -/
def execTestTimeoutExpiry (leaf : Nat) (s : State) : Host.Outcome State Fault Refusal :=
  .next (whenAlive .fabric (fun s =>
    if bit (rd s (Obj.PROT_FLAGS leaf)) 5 then
      countFault 1 3 leaf 1 (setProt leaf 5 false (wr s (Obj.TEST_STATUS leaf) 0x21))
    else s) s)

/-- A Breakwater block is in force (R428). -/
def blockInForce (s : State) : Bool := bit (rd s Obj.BW_STATUS) 4

/-- An automatic clear that waits is posted once no block is in force and the arm's shepherd is Active or Watch (R233). -/
def tryScClear (L : Nat) (s : State) : State :=
  if 0 < (leafOf s L).scClears ∧ blockInForce s = false ∧ armOf s L < 12 ∧ 1 ≤ rd s (Obj.SHEPHERD_STATE (armOf s L)) then
    match postService L 0x02 [] s with
    | some t => setLeaf L (fun x => { x with scClears := x.scClears - 1 }) t
    | none => s
  else s

/-- SC_CLEAR_DELAY_EXPIRY (R233). -/
def execScClearDelayExpiry (leaf : Nat) (s : State) : Host.Outcome State Fault Refusal :=
  .next (whenAlive .fabric (fun s =>
    if 0 < (leafOf s leaf).scDelays then
      tryScClear leaf (setLeaf leaf (fun x => { x with scDelays := x.scDelays - 1, scClears := x.scClears + 1 }) s)
    else s) s)

/-- The clears that wait for their conditions are tried again at each tide start, every one of them. -/
def retryScClears (s : State) : State :=
  (s.leaves.filter (fun p => decide (0 < p.2.scClears))).foldl (fun t p =>
    (List.range p.2.scClears).foldl (fun u _ => tryScClear p.1 u) t) s

/-! ### Reactions of a fold (R238, R263) -/

/-- What the lasting faults of one fold ask for a leaf: the lowest cause, the lowest reason, whether to retire (R242, R276). -/
structure PenAsk where
  /-- leaf -/
  leaf : Nat
  /-- cause -/
  cause : Nat
  /-- reason -/
  reason : Nat
  /-- retire -/
  retire : Bool
  deriving DecidableEq, Repr

/-- The penning a lasting fault asks for, if its source pens (R238, R263). -/
def penAsk (s : State) (r : FoldResult) : Option PenAsk :=
  let re := rd s (faultObj r.family r.source 4)
  if r.lasting = false ∨ re = 0 ∨ (r.family = 0 ∧ r.source < srcStray) then none
  else
    let cr : Nat × Nat :=
      if r.family = 1 then (getD' [2, 3, 4, 5, 6] r.source 6, 0)
      else if r.source = srcStray then (8, 2)
      else if r.source = srcRetx then (8, 3)
      else (7, 0)
    some { leaf := r.inst, cause := cr.1, reason := cr.2, retire := decide (re = 2) }

/-- Join the asks of one leaf. -/
def joinAsk (a : PenAsk) : List PenAsk → List PenAsk
  | [] => [a]
  | b :: rest =>
    if a.leaf = b.leaf then
      { leaf := b.leaf, cause := min a.cause b.cause, reason := if a.cause = b.cause then min a.reason b.reason
          else if a.cause < b.cause then a.reason else b.reason, retire := a.retire || b.retire } :: rest
    else b :: joinAsk a rest

/-- Carry out one penning. -/
def doAsk (a : PenAsk) (s : State) : State :=
  let s := penLeaf a.leaf a.cause a.reason (a.cause = 2 || a.cause = 5) s
  if a.retire then retire a.leaf s else s

/-- The leaf side of a fold: pennings, and the automatic clears of upset short circuits (R233). -/
def leafReactions (rs : List FoldResult) (s : State) : State :=
  let asks := (rs.filterMap (penAsk s)).foldl (fun acc a => joinAsk a acc) []
  let s := asks.foldl (fun t a => doAsk a t) s
  let ups := rs.filter (fun r => r.family = 1 && r.source = 0 && !r.lasting
    && !rs.any (fun x => x.family = 1 && x.source = 0 && x.inst = r.inst && x.lasting))
  if rdBool s Obj.SC_AUTO_CLEAR then ups.foldl (fun t r => setLeaf r.inst (fun x => { x with scDelays := x.scDelays + 1 }) t) s else s

/-! ### Commands of `PROT_COMMAND` (R232) -/

/-- Class 1 of a leaf can take a command (R260). -/
def class1Open (s : State) (L : Nat) : Bool := decide ((queueOf s (L * 16 + 1)).qstate ≠ 3)

/-- Nominal capacitor voltage of a leaf's kind in its arm, 0.1 V. -/
def kindNominal (s : State) (L : Nat) : Nat := rd s (Obj.KIND_V_NOMINAL (armOf s L) (rd s (Obj.LEAF_KIND_CFG L)))

/-- Code of the first condition of R235 that fails, 0 when all hold. -/
def testCheck (s : State) (L : Nat) : Nat :=
  let x := leafOf s L
  let flags := rd s (Obj.PROT_FLAGS L)
  let running := ((leavesOf s (L / 128)).filter (fun m => bit (rd s (Obj.PROT_FLAGS m)) 5)).length
  if penned s L = false then 0x10
  else if x.bypassRun < 16 ∧ bit flags 3 = false then 0x11
  else if x.lastCap * 10000 < rd s Obj.TEST_V_MIN * kindNominal s L then 0x12
  else if bit x.statusNew 11 ∨ bit x.statusNew 12 then 0x14
  else if bit flags 5 ∨ rd s Obj.TEST_CONCURRENT ≤ running then 0x15
  else if blockInForce s then 0x16
  else 0

/-- Opcode 0x01: SELF_TEST with its test mask and apply byte (R231, R235). -/
def protSelfTest (L : Nat) (args : List Byte) (s : State) : WriteResult :=
  if args.length ≠ 2 then refuse s abLength
  else if class1Open s L = false then refuse s abState
  else
    let c := testCheck s L
    if c ≠ 0 then refuse (wr s (Obj.TEST_STATUS L) c) abState
    else match postService L 0x01 args s with
      | some s => accept (setProt L 5 true (wr s (Obj.TEST_STATUS L) 0xFF))
      | none => refuse s abState

/-- Opcode 0x02: SC_CLEAR, when SC_TRIP was last seen set. -/
def protScClear (L : Nat) (s : State) : WriteResult :=
  if class1Open s L = false ∨ bit (rd s (Obj.PROT_FLAGS L)) 0 = false then refuse s abState
  else match postService L 0x02 [] s with
    | some s => accept s
    | none => refuse s abState

/-- Opcode 0x03: pen with cause 1 and permanent bypass. -/
def protBypass (L : Nat) (s : State) : WriteResult :=
  if class1Open s L = false then refuse s abState else accept (penLeaf L 1 0 true s)

/-- Opcode 0x04: RELEASE_BYPASS, when the leaf is penned. -/
def protRelease (L : Nat) (s : State) : WriteResult :=
  if class1Open s L = false ∨ penned s L = false then refuse s abState
  else match postService L 0x04 [] s with
    | some s => accept s
    | none => refuse s abState

/-- Opcode 0x80: pen with cause 1, without bypass. -/
def protPen (L : Nat) (s : State) : WriteResult :=
  if class1Open s L = false then refuse s abState else accept (penLeaf L 1 0 false s)

/-- Opcode 0x81: clear retirement, only in HELD (R239). -/
def protClearRetired (L : Nat) (s : State) : WriteResult :=
  if class1Open s L = false ∨ station s ≠ stHeld then refuse s abState
  else
    let was := retired s L
    let s := wr (setProt L 7 false s) (Obj.PENNINGS L) 0
    accept (showLink L (if was then emit .leafRetirementCleared L (leBytes 2 L) s else s))

/-- A write of `PROT_COMMAND` by a session of a role (R232). -/
def protCommand (role L : Nat) (p : List Byte) (s : State) : WriteResult :=
  match p with
  | [] => refuse s abLength
  | op :: args =>
    let o := op.toNat
    let need := if o = 2 then 1 else 2
    if ([1, 2, 3, 4, 0x80, 0x81].contains o) = false then refuse s abRange
    else if role < need then refuse s abAccess
    else if o ≠ 1 ∧ args ≠ [] then refuse s abLength
    else match o with
      | 1 => protSelfTest L args s
      | 2 => protScClear L s
      | 3 => protBypass L s
      | 4 => protRelease L s
      | 0x80 => protPen L s
      | _ => protClearRetired L s

end Sys2Proof.Machine
end

