-- ==== Sys2Proof/Machine/MeterCopy.lean ====
section
/-! DEFINITION. The copy of the metering accumulators that the cove keeps (R383), and what a step of station time does to the metering
chain (R384). -/

namespace Sys2Proof.Machine

/-- Change the metering chain. -/
def setMeters (f : MeterChain → MeterChain) (s : State) : State := { s with meter := f s.meter }

/-- Meter `m`. -/
def meterOf (s : State) (m : Nat) : Meter := getD' s.meter.meters m Meter.reset

/-- Change meter `m`. -/
def setMeter (m : Nat) (f : Meter → Meter) (s : State) : State :=
  setMeters (fun c => { c with meters := c.meters.modify m f }) s

/-- Key of accumulator `a` of meter `m`. -/
def energyKey (m a : Nat) : Nat := Obj.ENERGY m a

/-- Set a bit of `METER_FLAGS`. -/
def setFlag (m i : Nat) (b : Bool) (s : State) : State := wr s (Obj.METER_FLAGS m) (putBit (rd s (Obj.METER_FLAGS m)) i b)

/-- Refresh the copy in the cove; a chain that has not metered since its start leaves it as it stands. -/
def refreshCopy (s : State) : State :=
  match s.meter.lastGrid with
  | none => s
  | some g =>
    let acc := (List.range 16).map (fun i =>
      (rd s (energyKey (i / 8) (i % 8)), getD' (meterOf s (i / 8)).rem (i % 8) 0))
    let copy : MeterCopy :=
      { acc := acc, flags := [0, 1].map (fun m => rd s (Obj.METER_FLAGS m)), gap := [0, 1].map (fun m => rd s (Obj.METER_GAP_TIME m)),
        stamp := g }
    setMeters (fun c => { c with copy := some copy }) s

/-- Station time has stepped: STEPPED, and the interval that spans the step is weighted by its true length; the voltages on their way to
the grid interface reach it next, each once (R384). -/
def meterStepped (s : State) : State :=
  let arrives (v : Nat × PocVolts) : Nat × PocVolts := (v.1, { v.2 with arrive := nowNs s })
  let s := { s with convs := s.convs.map (fun x => { x with flow := x.flow.map arrives }) }
  setMeters (fun c => { c with stepped := true, lastGrid := none, lastWindow := none,
                               meters := c.meters.map (fun x => { x with last := none, first := none, final := none, crossings := 0 }) })
    (setFlag 1 3 true (setFlag 0 3 true s))

end Sys2Proof.Machine
end

