-- ==== Sys2Proof/Machine/Time.lean ====
section
/-! DEFINITION. Station time: quality and error estimate (R347), the PTP slave (R348 to R352), the servo and its limits
(R353 to R355), loss, return and steps of time (R356 to R360), PPS (R361), the PLLs and the reference (R362 to R365) and
the clock outputs (R366). -/

namespace Sys2Proof.Machine

/-! ### Quality (R347) -/

/-- STATE of the quality: 0 UNKNOWN, 1 SET, 2 COVE, 3 ACQUIRING, 4 LOCKED, 5 HOLDOVER. -/
def timeState (s : State) : Nat := bits (rd s Obj.TIME_QUALITY) 15 12

/-- UNKNOWN -/
abbrev tsUnknown : Nat := 0
/-- SET -/
abbrev tsSet : Nat := 1
/-- COVE -/
abbrev tsCove : Nat := 2
/-- ACQUIRING -/
abbrev tsAcquiring : Nat := 3
/-- LOCKED -/
abbrev tsLocked : Nat := 4
/-- HOLDOVER -/
abbrev tsHoldover : Nat := 5

/-- STEP_PENDING. -/
def stepPending (s : State) : Bool := bit (rd s Obj.TIME_QUALITY) 9

/-- REF_FROZEN. -/
def refFrozen (s : State) : Bool := bit (rd s Obj.TIME_QUALITY) 8

/-- Replace a field of `TIME_QUALITY`. -/
def setQuality (lo w v : Nat) (s : State) : State := wr s Obj.TIME_QUALITY (putBits (rd s Obj.TIME_QUALITY) lo w v)

/-- Change the time record. -/
def setTime (f : TimeUnit → TimeUnit) (s : State) : State := { s with time := f s.time }

/-- Enter a STATE; a change counts in `TIME_STATE_CHANGES` (R349, R368).
COLD_STARTED clears once a master is acquired (R486). -/
def setTimeState (st : Nat) (s : State) : State :=
  let s := if st = 3 then wr s Obj.COVE_STATUS (clearBit (rd s Obj.COVE_STATUS) 6) else s
  if timeState s = st then s else setQuality 12 4 st (count s Obj.TIME_STATE_CHANGES)

/-- Seconds elapsed since instant `t`. -/
def secondsSince (s : State) (t : Nat) : Rat := ((s.time.acc - t : Nat) : Rat) / (secUnit : Rat)

/-- Drift in ppb over a time, as ns. -/
def driftNs (ppb : Nat) (sec : Rat) : Rat := (ppb : Rat) * sec

/-- Largest magnitude of a list. -/
def maxMagnitude (xs : List Rat) : Rat := xs.foldl (fun m x => maxRat m (absRat x)) 0

/-- The error estimate e of R347, ns. In DORMANT the holdover grows at `DORMANT_DRIFT` (R474), while REF is frozen at
`FREEZE_DRIFT`. -/
def errorEstimate (s : State) : Option Rat :=
  match timeState s with
  | 5 =>
    let ppb := if rd s Obj.POWER_STATE = 3 then rd s Obj.DORMANT_DRIFT
               else if refFrozen s then rd s Obj.FREEZE_DRIFT else rd s Obj.HOLDOVER_DRIFT
    s.time.err.map (fun e => e + driftNs ppb (secondsSince s s.time.errAt))
  | 4 => some (maxMagnitude (s.time.offsets.take 16) + (rd s Obj.PTP_ERROR_BUDGET : Nat))
  | 3 => some (maxMagnitude (s.time.offsets.take 1) + (rd s Obj.PTP_ERROR_BUDGET : Nat))
  | 2 => s.time.err.map (fun e => e + driftNs (rd s Obj.COVE_DRIFT) ((s.time.coveSpan : Rat) / (secUnit : Rat)))
  | 1 => if s.time.setBound = 255 then none else some ((2 ^ s.time.setBound : Nat) : Rat)
  | _ => none

/-- BOUND: the smallest b up to 62 with 2^b ≥ e, 0xFF when e is unknown (R347). -/
def boundOf (e : Option Rat) : Nat :=
  match e with
  | none => 0xFF
  | some x => ((List.range 63).find? (fun b => decide (x ≤ ((2 ^ b : Nat) : Rat)))).getD 0xFF

/-- In HOLDOVER the estimate so far becomes the base from which the drift that holds from now on counts (R347). -/
def rebaseError (s : State) : State :=
  let e := errorEstimate s
  if timeState s = tsHoldover then setTime (fun t => { t with err := e, errAt := t.acc }) s else s

/-- Bring BOUND, `HOLDOVER_TIME` and the tolerance events up to date (R347). -/
def refreshTime (s : State) : State :=
  let e := errorEstimate s
  let s := setQuality 0 8 (boundOf e) s
  let s := if timeState s = tsHoldover then
      wr s Obj.HOLDOVER_TIME ((s.time.acc - s.time.heldAt) / secUnit % 2 ^ 32) else s
  match e with
  | none => s
  | some x =>
    let beyond := decide ((rd s Obj.TIME_ALARM_BOUND : Rat) < x)
    if beyond && !s.time.alarm then emit .timeOutOfTolerance noInst [] (setTime (fun t => { t with alarm := true }) s)
    else if !beyond && s.time.alarm then
      emit .timeWithinTolerance noInst [] (setTime (fun t => { t with alarm := false }) s)
    else s

/-! ### Ports (R349, R350) -/

/-- Whether PTP runs on a port. -/
def ptpEnabled (s : State) (p : Nat) : Bool := decide (p < 3) && bit (rd s Obj.PTP_PORT_ENABLE) p

/-- The profile measures peer-to-peer delays (R348). -/
def peerDelay (s : State) : Bool := [1, 3, 4].contains (rd s Obj.PTP_PROFILE)

/-- Egress latency of a port, ns: the object, or the built-in figure of its mode (R350). -/
def egressNs (s : State) (p : Nat) : Rat :=
  let v := rd s (Obj.TS_EGRESS_LATENCY p)
  if v ≠ 0 then (v : Rat) / 10 else if rd s (Obj.PORT_MODE p) = 0 then 384 / 10 else 56

/-- Ingress latency of a port, ns (R350). -/
def ingressNs (s : State) (p : Nat) : Rat :=
  let v := rd s (Obj.TS_INGRESS_LATENCY p)
  if v ≠ 0 then (v : Rat) / 10 else if rd s (Obj.PORT_MODE p) = 0 then 512 / 10 else 112

/-- A time in 2⁻¹⁶ ns as ns. -/
def q16 (i : Int) : Rat := (i : Rat) / 65536

/-- Port record. -/
def ptpPort (s : State) (p : Nat) : PtpPort := getD' s.time.ports p PtpPort.idle

/-- Change a port record. -/
def setPort (p : Nat) (f : PtpPort → PtpPort) (s : State) : State :=
  setTime (fun t => { t with ports := t.ports.modify p f }) s

/-- `PTP_PORT_STATE` of every port: SLAVE 9 or UNCALIBRATED 8 on the active one, LISTENING 4 on the others enabled,
DISABLED 3 elsewhere (R349). -/
def showPorts (s : State) : State :=
  [0, 1, 2].foldl (fun t p =>
    let st := if !ptpEnabled t p then 3
      else if t.time.active.map (·.1) = some p then
        (if timeState t = tsLocked then 9 else 8)
      else 4
    wr t (Obj.PTP_PORT_STATE p) st) s

/-! ### Correcting station time (R353, R354) -/

/-- `SLEW_MAX` in ns per tide. -/
def slewMax (s : State) : Rat := (rd s Obj.SLEW_MAX : Rat) / 100

/-- The most by which a rate changes at a tide start in mode 1, ppb: 10 ppm (R365). -/
abbrev rateStep : Rat := 10000

/-- The most by which the slew changes from tide to tide, ns: a quarter of `SLEW_MAX` (R354), in mode 1 at most `rateStep` of the tide. -/
def slewStep (s : State) : Rat :=
  if rd s Obj.CORRECTION_MODE = 0 then slewMax s / 4 else minRat (slewMax s / 4) (rateStep * (periodNs s : Rat) / 1000000000)

/-- The slew of the next tide in the direction of the offset to remove, at most `smax`: a whole number of steps `q`, at most one step
more than before, from which the remainder can still be ramped down; or a last remainder below a step (R354 and its example). -/
def nextSlew (smax q prev left : Rat) : Rat :=
  let jprev := (prev / q).floor
  let levels := ((List.range (smax / q).floor.toNat).map (fun j => (j : Int) + 1)).reverse
  let fits (j : Int) : Bool := decide (j ≤ jprev + 1) && decide ((j : Rat) * q + q * ((j * (j - 1) / 2 : Int) : Rat) ≤ left)
  match levels.find? fits with
  | some j => clampRat (prev - q) (prev + q) ((j : Rat) * q)
  | none => clampRat (prev - q) (prev + q) (minRat left q)

/-- The slew correction at a tide start: station time gains `-c` for an offset still to be removed (R354). -/
def stepSlew (s : State) : State :=
  let left := s.time.slewLeft
  let prev := s.time.slewNow
  let dir : Rat := if left < 0 then -1 else if 0 < left then 1 else if 0 < prev then -1 else 1
  let q := slewStep s
  let m := nextSlew (slewMax s) q (maxRat 0 (-(prev * dir))) (absRat left)
  let c := clampRat (prev - q) (prev + q) (-(dir * m))
  let s := setTime (fun t => { t with slewLeft := t.slewLeft + c, slewNow := c }) s
  wrInt 32 s Obj.TIME_SLEW_NOW (roundHalfEven (c * 65536))

/-- The frequency in force moves toward the estimate by at most a quarter of `SLEW_MAX` per tide (R354), ppb; in mode 1 by what the
change of the slew from `c` leaves of `rateStep` (R365). -/
def stepFreq (c : Rat) (s : State) : State :=
  let ppb (ns : Rat) : Rat := ns * 1000000000 / (periodNs s : Rat)
  let quarter := ppb (slewMax s / 4)
  let lim := if rd s Obj.CORRECTION_MODE = 0 then quarter
    else minRat quarter (maxRat 0 (rateStep - absRat (ppb (s.time.slewNow - c))))
  let f := clampRat (s.time.freqNow - lim) (s.time.freqNow + lim) s.time.freq
  setTime (fun t => { t with freqNow := f }) s

/-- Nominal increment: 4 ns (R344). -/
abbrev nominalInc : Nat := 0x04000000

/-- The increment that realises a rate of `ppb`, within ±500 ppm (R344). -/
def incFor (ppb : Rat) : Nat :=
  (clampInt 0x03FF7CEE 0x04008312 (roundHalfEven ((nominalInc : Rat) * (1 + ppb / 1000000000)))).toNat

/-- Rate of the present tide in ppb: frequency plus slew spread over the tide. -/
def ratePpb (s : State) : Rat := s.time.freqNow + s.time.slewNow * 1000000000 / (periodNs s : Rat)

/-- The rate that a host servo's last write asks for, ppb. -/
def hostRate (s : State) : Rat :=
  if rd s Obj.CORRECTION_MODE = 0 then ((rd s Obj.TIME_INCREMENT : Rat) / (nominalInc : Rat) - 1) * 1000000000
  else (rdInt 32 s Obj.RATE_ADJUST : Rat) / 1000

/-- A host servo's rate takes effect: the slew it means becomes c(n) (R353, R354). -/
def takeRate (s : State) : State :=
  let c := (hostRate s - s.time.freqNow) * (periodNs s : Rat) / 1000000000
  wrInt 32 (setTime (fun t => { t with slewNow := c }) s) Obj.TIME_SLEW_NOW (roundHalfEven (c * 65536))

/-- The correction a tide start applies: the internal servo, and with either servo HOLDOVER (R356), writes `TIME_INCREMENT` in mode 0,
`RATE_ADJUST` in mode 1; what a host servo wrote takes effect. In mode 1 `TIME_INCREMENT` stays nominal, in mode 0 `RATE_ADJUST` is 0; a
new increment takes effect here (R344, R353). -/
def correctTime (s : State) : State :=
  let s := if rd s Obj.SERVO_SOURCE = 0 ∨ timeState s = tsHoldover then
      let s := stepFreq s.time.slewNow (stepSlew s)
      if rd s Obj.CORRECTION_MODE = 0 then wr s Obj.TIME_INCREMENT (incFor (ratePpb s))
      else wrInt 32 s Obj.RATE_ADJUST (clampInt (-500000000) 500000000 (roundHalfEven (ratePpb s * 1000)))
    else takeRate s
  let s := if rd s Obj.CORRECTION_MODE = 0 then wr s Obj.RATE_ADJUST 0 else wr s Obj.TIME_INCREMENT nominalInc
  setTime (fun t => { t with inc := rd s Obj.TIME_INCREMENT }) s

/-- A host-written rate keeps R354: the slew it means, and its change, stay within the limits. -/
def rateAllowed (s : State) (ppb : Rat) : Bool :=
  let c := (ppb - s.time.freqNow) * (periodNs s : Rat) / 1000000000
  decide (absRat c ≤ slewMax s) && decide (absRat (c - s.time.slewNow) ≤ slewMax s / 4)


/-! ### Loss and return of time (R355 to R358) -/

/-- Mean of a list, 0 when empty. -/
def meanRat (xs : List Rat) : Rat := if xs.length = 0 then 0 else sumRat xs / (xs.length : Rat)

/-- Mean frequency over the last `HOLDOVER_AVERAGE` seconds of LOCKED, or over all of it (R356). -/
def holdoverFreq (s : State) : Rat :=
  let span := rd s Obj.HOLDOVER_AVERAGE * secUnit
  let recent := s.time.freqHist.filter (fun p => decide (s.time.acc ≤ p.1 + span))
  if s.time.freqHist = [] then s.time.freq else if recent = [] then meanRat (s.time.freqHist.map (·.2))
  else meanRat (recent.map (·.2))

/-- STATE becomes HOLDOVER, with the mean frequency (R356). -/
def holdTime (s : State) : State :=
  let e := errorEstimate s
  let f := holdoverFreq s
  setTimeState tsHoldover
    (setTime (fun t => { t with err := e, errAt := t.acc, heldAt := t.acc, freq := f, slewLeft := 0, freqHist := [] }) s)

/-- Entry to HOLDOVER for want of a master: event, count, PORT 3, and the mean frequency (R356). -/
def enterHoldover (s : State) : State :=
  emit .timeHoldover noInst [] (count (setQuality 10 2 3 (holdTime s)) Obj.TIME_LOSSES)

/-- A step of station time is allowed now (R358). -/
def stepAllowed (s : State) : Bool :=
  let st := station s
  if st = stBoot ∨ st = stBlocked then true
  else if st = stHeld ∨ st = stReady ∨ st = stEnergised ∨ st = stSafe then
    (decide (timeState s ≤ 2) && rdBool s Obj.FIRST_STEP_AUTO) || s.time.permit
  else false

/-- Carry a step out on the counter (R359): set it to its present value − m, count, log, and start acquiring, or go to SET. -/
def stepTime (m : Int) (isSet : Bool) (s : State) : State :=
  let old := stimeNow s
  let target : Nat := ((s.time.acc : Int) - m * (nsUnit : Int)).toNat
  let s := setTime (fun t => { t with acc := target, stepDue := none, permit := false, restartTide := true,
                                      ppsAfterStep := true, slewLeft := 0, offsets := [], run := [], acquired := true,
                                      decided := !isSet }) s
  let s := setTime (fun t => { t with ppsLast := if t.ppsLast = 0 then 0 else ((t.ppsLast : Int) - m * (nsUnit : Int)).toNat }) s
  let s := setQuality 9 1 0 s
  let s := wr s Obj.PENDING_OFFSET 0
  let s := count s Obj.TIME_STEPS
  let s := [0, 1, 2, 3].foldl (fun t o => wr t (Obj.CLKOUT_ALIGNED o) 0) s
  let s := logTimeStep (leBytes 8 (stimeSec old) ++ leBytes 4 (stimeNs old) ++ leBytes 8 (stimeSec (stimeNow s))
    ++ leBytes 4 (stimeNs (stimeNow s))) s
  refreshTime (setTimeState (if isSet then tsSet else tsAcquiring) (meterStepped s))

/-- Ask for a step: at once in BOOT, else at the next tide start (R359). A re-tide under way is waited for (R367). -/
def requestStep (m : Int) (isSet : Bool) (s : State) : State :=
  if station s = stBoot then stepTime m isSet s else setTime (fun t => { t with stepDue := some (m, isSet) }) s

/-- Remove m by slew: STATE becomes ACQUIRING (R357). -/
def startSlew (m : Rat) (s : State) : State :=
  let s := setQuality 9 1 0 (wr s Obj.PENDING_OFFSET 0)
  setTimeState tsAcquiring
    (setTime (fun t => { t with slewLeft := m, decided := true, acquired := true, below := 0, above := 0 }) s)

/-- One microsecond, ns. -/
abbrev oneMicro : Rat := 1000

/-- What the device does with m (R357, R353): slew below 1 µs, step where allowed, else wait or slew by `STEP_POLICY`. -/
def decideOffset (m : Rat) (s : State) : State :=
  let firstRate := rd s Obj.CORRECTION_MODE = 1 ∧ s.time.acquired = false
  if absRat m < oneMicro ∧ ¬ firstRate then startSlew m s
  else if stepAllowed s then requestStep (roundHalfEven m) false (setTime (fun t => { t with decided := true }) s)
  else if rd s Obj.STEP_POLICY = 1 ∧ ¬ firstRate then startSlew m s
  else
    let fresh := !stepPending s
    let s := wrInt 64 (setQuality 9 1 1 s) Obj.PENDING_OFFSET (roundHalfEven m)
    if fresh then emit .timeStepPending noInst (leBytes 8 (rd s Obj.PENDING_OFFSET)) s else s

/-- Extend the run of offsets that decides on a master; any offset outside 100 ns of the mean restarts it (R355). -/
def extendRun (xs : List Rat) (o : Rat) (need : Nat) : List Rat :=
  let ys := (xs ++ [o]).drop ((xs.length + 1) - need)
  let m := meanRat ys
  if ys.all (fun y => decide (absRat (y - m) ≤ 100)) then ys else [o]

/-- Seconds between Syncs of the active master. -/
def syncSeconds (s : State) : Rat := scale2 1 s.time.logSync

/-- A frequency beyond ±500 ppm is refused in mode 1: the event, HOLDOVER, and a fresh decision on the master (R365, R357). -/
def rateRefused (s : State) : State :=
  emit .stationClockOutOfRange noInst [] (setTime (fun t => { t with decided := false, run := [] }) (holdTime s))

/-- The internal servo on one offset (R353): proportional part to slew, integral part to the frequency. -/
def servo (o : Rat) (s : State) : State :=
  let want := s.time.freq - rdF s Obj.SERVO_KI * o / syncSeconds s
  if rd s Obj.SERVO_SOURCE ≠ 0 then s
  else if rd s Obj.CORRECTION_MODE = 1 ∧ 500000 < absRat want then rateRefused s
  else
    let f := clampRat (-500000) 500000 want
    let s := setTime (fun t => { t with freq := f, slewLeft := rdF s Obj.SERVO_KP * o }) s
    wrInt 32 s Obj.FREQ_OFFSET (clampInt (-(2 ^ 31)) (2 ^ 31 - 1) (roundHalfEven (f * 1000)))

/-- Lock decision on one offset (R355). -/
def lockDecision (o : Rat) (s : State) : State :=
  let n := rd s Obj.ACQUIRE_SAMPLES
  let thr : Rat := (rd s Obj.LOCK_THRESHOLD : Nat)
  let s := setTime (fun t => { t with
    below := if absRat o < thr then t.below + 1 else 0, above := if 4 * thr < absRat o then t.above + 1 else 0 }) s
  if timeState s = tsAcquiring ∧ n ≤ s.time.below then setTimeState tsLocked s
  else if timeState s = tsLocked ∧ n ≤ s.time.above then setTimeState tsAcquiring s
  else s

/-- A step of station time is decided and not yet carried out (R359). -/
def stepWaits (s : State) : Bool := s.time.stepDue.isSome || ((s.time.silence.map (fun q => q.stepBy.isSome)).getD false)

/-- One offset from the active master (R353, R355, R357). While a step is awaited the offsets move nothing. -/
def takeOffset (o : Rat) (s : State) : State :=
  let s := wrInt 64 s Obj.OFFSET_FROM_MASTER (roundHalfEven (o * 65536))
  let s := observe 7 0xFFFF (roundHalfEven (absRat o)).toNat s
  let need := rd s Obj.ACQUIRE_SAMPLES
  let s := setTime (fun t => { t with offsets := (o :: t.offsets).take 16, run := extendRun t.run o need,
                                      lastSync := t.acc }) s
  let s := if stepWaits s then s
    else if !s.time.decided || stepPending s then
      (if need ≤ s.time.run.length then decideOffset (meanRat s.time.run) s else s)
    else lockDecision o (servo o s)
  let s := if timeState s = tsLocked then
      setTime (fun t =>
        let f := if rd s Obj.SERVO_SOURCE = 0 then t.freq else ratePpb s
        let recent := ((t.acc, f) :: t.freqHist).filter (fun p => decide (t.acc ≤ p.1 + 3600 * secUnit))
        { t with freqHist := recent }) s
    else s
  refreshTime (showPorts s)

/-! ### Masters (R349) -/

/-- A foreign master is qualified (R349). A second Announce qualifies it, as the example of R367 shows. -/
def ForeignMaster.qualified (s : State) (m : ForeignMaster) : Bool :=
  ptpEnabled s m.port && decide (m.domain = rd s Obj.PTP_DOMAIN) && decide (m.clockClass ≤ rd s Obj.PTP_CLASS_LIMIT)
    && decide (2 ≤ m.announces) && !m.syncMissed && decide (m.steps < 255)

/-- The comparison of the BMCA, as the list of fields compared in order (smaller is better). -/
def ForeignMaster.rankKey (m : ForeignMaster) : List Nat :=
  [m.priority1, m.clockClass, m.accuracy, m.variance, m.priority2, m.gm, m.steps, m.clock, m.portNumber, m.port]

/-- Lexicographic order of number lists. -/
def lexLess : List Nat → List Nat → Bool
  | [], _ :: _ => true
  | _, [] => false
  | a :: as, b :: bs => decide (a < b) || (decide (a = b) && lexLess as bs)

/-- The best qualified master over all enabled ports (R349). -/
def bestMaster (s : State) : Option ForeignMaster :=
  (s.time.masters.filter (fun m => m.qualified s)).foldl (fun b m =>
    match b with
    | none => some m
    | some x => if lexLess m.rankKey x.rankKey then some m else some x) none

/-- The objects that describe the active master (R368); a change of its UTC offset raises the event (R345). -/
def showMaster (m : ForeignMaster) (s : State) : State :=
  let s := wrs s [(Obj.PTP_ACTIVE_PORT, m.port), (Obj.PTP_GM_IDENTITY, m.gm), (Obj.PTP_GM_CLASS, m.clockClass),
    (Obj.PTP_STEPS_REMOVED, m.steps)]
  let s := setQuality 10 2 m.port s
  if rd s Obj.UTC_OFFSET = ofSigned 16 m.utc then s
  else emit .utcOffsetChanged noInst (leBytes 2 (ofSigned 16 m.utc)) (wrInt 16 s Obj.UTC_OFFSET m.utc)

/-- Choose the active master again (R349, R356). -/
def chooseMaster (s : State) : State :=
  match bestMaster s with
  | some m =>
    let s := if s.time.active = some (m.port, m.clock) then s else
      setTime (fun t => { t with active := some (m.port, m.clock), decided := false, run := [], below := 0, above := 0 })
        (count s Obj.TIME_STATE_CHANGES)
    refreshTime (showPorts (showMaster m s))
  | none =>
    let had := s.time.active ≠ none
    let s := setTime (fun t => { t with active := none, decided := false, run := [] }) s
    let s := if had then count s Obj.TIME_STATE_CHANGES else s
    let s := wr s Obj.PTP_ACTIVE_PORT 0xFF
    let s := if had ∧ (timeState s = tsAcquiring ∨ timeState s = tsLocked) then enterHoldover s
      else setQuality 10 2 3 s
    refreshTime (showPorts s)

/-- Put an Announce into the list of foreign masters. -/
def hearAnnounce (p : Nat) (a : AnnounceMsg) (ms : List ForeignMaster) : List ForeignMaster :=
  let old := ms.find? (fun m => m.port = p ∧ m.clock = a.clock)
  let m : ForeignMaster :=
    { port := p, clock := a.clock, portNumber := a.portNumber, gm := a.gm, priority1 := a.priority1,
      clockClass := a.clockClass, accuracy := a.accuracy, variance := a.variance, priority2 := a.priority2,
      steps := a.steps, utc := a.utc, domain := a.domain, announces := (old.map (·.announces)).getD 0 + 1,
      syncMissed := (old.map (·.syncMissed)).getD false }
  m :: ms.filter (fun x => !(x.port = p ∧ x.clock = a.clock))

/-- Whether PTP can run: the timestamp units and the lookout cores are out of reset, and the port has link. -/
def ptpUp (s : State) (p : Nat) : Bool :=
  alive s .lookout && ptpEnabled s p && decide (rd s (Obj.PORT_LINK p) = 1)

/-- PTP_ANNOUNCE (R349): an Announce is fed to the BMCA. -/
def execPtpAnnounce (port : Nat) (m : AnnounceMsg) (s : State) : Host.Outcome State Fault Refusal :=
  .next (if ptpUp s port then
      chooseMaster (setTime (fun t => { t with masters := hearAnnounce port m t.masters }) s)
    else s)

/-- ANNOUNCE_RECEIPT_TIMEOUT (R349, R356): the master is no longer qualified. -/
def execAnnounceReceiptTimeout (port clock : Nat) (s : State) : Host.Outcome State Fault Refusal :=
  .next (whenAlive .lookout (fun s => chooseMaster
    (setTime (fun t => { t with masters := t.masters.filter (fun m => !(m.port = port ∧ m.clock = clock)) }) s)) s)

/-- SYNC_RECEIPT_TIMEOUT (R349): three Sync intervals without a Sync disqualify the master. -/
def execSyncReceiptTimeout (port clock : Nat) (s : State) : Host.Outcome State Fault Refusal :=
  .next (whenAlive .lookout (fun s => chooseMaster
    (setTime (fun t => { t with masters := t.masters.map (fun m =>
      if m.port = port ∧ m.clock = clock then { m with syncMissed := true } else m) }) s)) s)

/-- Receipt of a Sync on a port at its ball pins, ns. -/
def rxNs (s : State) (p : Nat) (rx : Int) : Rat := q16 rx - ingressNs s p

/-- delayAsymmetry of a port, ns (R350). -/
def asymmetryNs (s : State) (p : Nat) : Rat := (rdInt 32 s (Obj.PTP_ASYMMETRY p) : Rat) / 10

/-- PTP_SYNC (R349, R353): the Sync is counted, its master is qualified again, and from the active master an offset is
taken. -/
def execPtpSync (port : Nat) (m : SyncMsg) (s : State) : Host.Outcome State Fault Refusal :=
  .next (if ptpUp s port ∧ m.domain = rd s Obj.PTP_DOMAIN ∧ -4 ≤ m.logInterval ∧ m.logInterval ≤ 1 then
      let s := countBy 64 s (Obj.SYNC_RECEIVED port) 1
      let rx := rxNs s port m.rx
      let s := setPort port (fun p => { p with lastSync := some (q16 m.origin, rx) }) s
      let s := setTime (fun t => { t with masters := t.masters.map (fun x =>
        if x.port = port ∧ x.clock = m.clock then { x with syncMissed := false } else x) }) s
      let s := chooseMaster s
      if s.time.active = some (port, m.clock) then
        takeOffset (rx - q16 m.origin - (ptpPort s port).delay - asymmetryNs s port)
          (setTime (fun t => { t with logSync := m.logInterval }) s)
      else s
    else s)

/-! ### Transmit timestamps and delay exchanges (R348, R352) -/

/-- Entries of a transmit timestamp queue (R352). -/
abbrev tsQueueMax : Nat := 16

/-- `TS_QUEUE_DEPTH` and `TS_QUEUE_HIGH` of a port. -/
def showTsQueue (p : Nat) (s : State) : State :=
  let n := (ptpPort s p).queue.length
  raiseTo (wr s (Obj.TS_QUEUE_DEPTH p) n) (Obj.TS_QUEUE_HIGH p) n

/-- Identifier of an entry: domain, message type, sequenceId (R352). -/
def tsIdent (domain kind seqId : Nat) : Nat := domain % 256 * 2 ^ 24 + kind % 16 * 2 ^ 20 + seqId % 2 ^ 16

/-- The exchange whose timestamp was lost is abandoned (R352): that of a Delay_Req or Pdelay_Req of the port. -/
def abandonFor (ident : Nat) (p : PtpPort) : PtpPort :=
  if p.exchange = some (ident % 2 ^ 16) ∧ ident / 2 ^ 20 % 16 ≤ 2 then { p with exchange := none } else p

/-- Store a transmit timestamp (R352): an entry with the same identifier, or else the oldest of a full queue, is
overwritten and counted. -/
def storeTs (p ident : Nat) (txNs : Rat) (s : State) : State :=
  let t16 : Nat := (roundHalfEven (txNs * 65536)).toNat
  let e : TsEntry := { ident := ident,
                       stime := stimeMk (t16 / 65536 / 1000000000) (t16 / 65536 % 1000000000) (t16 % 65536) 0 }
  let q := (ptpPort s p).queue
  let s :=
    if q.any (fun x => x.ident = ident) then
      count (setPort p (fun x => { x with queue := x.queue.filter (fun y => y.ident ≠ ident) ++ [e] }) s)
        (Obj.TS_OVERFLOWS p)
    else if tsQueueMax ≤ q.length then
      count (setPort p (fun x => { abandonFor ((q.head?.map (·.ident)).getD 0) x with queue := x.queue.drop 1 ++ [e] }) s)
        (Obj.TS_OVERFLOWS p)
    else setPort p (fun x => { x with queue := x.queue ++ [e] }) s
  showTsQueue p s

/-- An entry's time in ns. -/
def TsEntry.ns (e : TsEntry) : Rat :=
  ((stimeSec e.stime * 1000000000 + stimeNs e.stime : Nat) : Rat) + ((stimeFrac e.stime : Nat) : Rat) / 65536

/-- Read and free the entry of an identifier (R352). -/
def readTs (p ident : Nat) (s : State) : Option Rat × State :=
  match (ptpPort s p).queue.find? (fun x => x.ident = ident) with
  | none => (none, s)
  | some e =>
    (some e.ns, showTsQueue p (setPort p (fun x => { x with queue := x.queue.filter (fun y => y.ident ≠ ident) }) s))

/-- Message type of the port's delay request: Pdelay_Req 2 in the peer-to-peer profiles, Delay_Req 1 otherwise (R348). -/
def delayReqKind (s : State) : Nat := if peerDelay s then 2 else 1

/-- PTP_DELAY_REQ_SEND (R348, R352): a Delay_Req or Pdelay_Req is due; when it is sent its transmit timestamp is stored. -/
def execPtpDelayReqSend (port : Nat) (sent : Bool) (stamp : Int) (s : State) : Host.Outcome State Fault Refusal :=
  .next (if alive s .lookout && ptpEnabled s port then
      let q := (ptpPort s port).nextSeq
      let s := setPort port (fun p => { p with exchange := some q, nextSeq := (q + 1) % 2 ^ 16 }) s
      if sent then
        storeTs port (tsIdent (rd s Obj.PTP_DOMAIN) (delayReqKind s) q) (q16 stamp + egressNs s port)
          (send (.ptp port (delayReqKind s) (vlanTag s port) q 0) s)
      else s
    else s)

/-- PTP_DELAY_RESPONSE (R348): the response completes the exchange, whose transmit timestamp is read from the queue. -/
def execPtpDelayResponse (port : Nat) (m : DelayMsg) (s : State) : Host.Outcome State Fault Refusal :=
  .next (if ptpUp s port && (ptpPort s port).exchange = some m.seqId then
      let (t, s) := readTs port (tsIdent (rd s Obj.PTP_DOMAIN) (delayReqKind s) m.seqId) s
      let s := setPort port (fun p => { p with exchange := none }) s
      match t with
      | none => s
      | some tx =>
        let delay : Option Rat :=
          if peerDelay s then
            some ((rxNs s port m.rx - tx - (q16 m.remoteTx - q16 m.remoteRx)) / 2)
          else (ptpPort s port).lastSync.map (fun p => (p.2 - tx + (q16 m.remoteRx - p.1)) / 2)
        match delay with
        | none => s
        | some d =>
          let s := setPort port (fun p => { p with delay := d }) s
          countBy 64 (wr s (Obj.MEAN_PATH_DELAY port) (clampInt 0 (2 ^ 32 - 1) (roundHalfEven (d * 10))).toNat)
            (Obj.DELAY_EXCHANGES port) 1
    else s)

/-- PDELAY_REQ_RECEIVED (R348): answered one-step with the turnaround in correctionField, or two-step with a
Pdelay_Resp_Follow_Up once the transmit timestamp has been stored and read. -/
def execPdelayReqReceived (port seqId domain : Nat) (rx tx : Int) (s : State) : Host.Outcome State Fault Refusal :=
  .next (if ptpUp s port && peerDelay s && domain = rd s Obj.PTP_DOMAIN then
      let turn := (q16 tx + egressNs s port) - rxNs s port rx
      if rdBool s Obj.PTP_TWO_STEP then
        let ident := tsIdent domain 3 seqId
        let s := storeTs port ident (q16 tx + egressNs s port) (send (.ptp port 3 (vlanTag s port) seqId 0) s)
        send (.ptp port 0xA (vlanTag s port) seqId turn) (readTs port ident s).2
      else send (.ptp port 3 (vlanTag s port) seqId turn) s
    else s)

/-- TS_ENTRY_STALE (R352): an entry unread for 100 ms is freed and counted. -/
def execTsEntryStale (port ident : Nat) (s : State) : Host.Outcome State Fault Refusal :=
  .next (whenAlive .lookout (fun s =>
    if (ptpPort s port).queue.any (fun x => x.ident = ident) then
      let s := setPort port (fun x => { abandonFor ident x with queue := x.queue.filter (fun y => y.ident ≠ ident) }) s
      showTsQueue port (count s (Obj.TS_STALE port))
    else s) s)

/-- DELAY_EXCHANGE_TIMEOUT (R352): the exchange of a port is abandoned; the last path delay stands. -/
def execDelayExchangeTimeout (port : Nat) (s : State) : Host.Outcome State Fault Refusal :=
  .next (whenAlive .lookout (setPort port (fun p => { p with exchange := none })) s)

/-! ### Steps and writes of station time -/

/-- Station time runs to the end of the last silent tide (R328, R359). -/
def toSilenceEnd (q : Silence) (s : State) : State := runTo (tideStartAt s (q.lastTide + 17)) s

/-- The end of the silence of a step: the counter is set back on one TIME edge (R359). A re-tide of the same silence follows. -/
def endStep (s : State) : State :=
  match s.time.silence with
  | some q =>
    match q.stepBy with
    | some m =>
      if q.lastTide ≤ tideNow s then
        let left : Option Silence := if q.retide then some { q with stepBy := none } else none
        stepTime m q.setWrite (setTime (fun t => { t with silence := left }) (toSilenceEnd q s))
      else s
    | none => s
  | none => s

/-- TIME_STEP (R359): the step decided is carried out on one TIME edge: at once in BOOT, else at the end of the silence of
the lanes. -/
def execTimeStep (s : State) : Host.Outcome State Fault Refusal :=
  .next (whenAlive .time (fun s =>
    match s.time.stepDue with
    | some (m, isSet) => if station s = stBoot then stepTime m isSet s else endStep s
    | none => endStep s) s)

/-- TIME_TOLERANCE_CHANGE (R347): the error estimate is compared with `TIME_ALARM_BOUND`. -/
def execTimeToleranceChange (s : State) : Host.Outcome State Fault Refusal :=
  .next (whenAlive .time refreshTime s)

/-- A write of `TIME_STEP_PERMIT` (R358): taken while STEP_PENDING is set in HELD, READY, ENERGISED or SAFE. -/
def writeStepPermit (s : State) : WriteResult :=
  let st := station s
  if stepPending s ∧ (st = stHeld ∨ st = stReady ∨ st = stEnergised ∨ st = stSafe) then
    accept (setTime (fun t => { t with permit := true }) s)
  else refuse s abState

/-- Station time of an STIME in 2⁻²⁴ ns. -/
def stimeAcc (v : Nat) : Nat := stimeSec v * secUnit + stimeNs v * nsUnit + stimeFrac v * 2 ^ 8

/-- The states in which R358 allows a step, with a write that counts as the permission (R360). -/
def stepState (s : State) : Bool := [stBoot, stHeld, stReady, stEnergised, stBlocked, stSafe].contains (station s)

/-- A write of `TIME_SET` (R360, R367): only in UNKNOWN, SET or COVE, in a state where a step is allowed, and with no master
qualified. -/
def writeTimeSet (v : Nat) (s : State) : WriteResult :=
  if 2 < timeState s ∨ s.time.active ≠ none ∨ stepState s = false then refuse s abState
  else
    let m : Int := ((s.time.acc : Int) - (stimeAcc v : Int)) / (nsUnit : Int)
    accept (requestStep m true (setTime (fun t => { t with setBound := stimeQuality v % 256, permit := true }) s))

/-- STATE lets a host servo write (R353). -/
def hostServo (s : State) : Bool :=
  decide (rd s Obj.SERVO_SOURCE = 1) && (decide (timeState s = tsAcquiring) || decide (timeState s = tsLocked))

/-- A write of `TIME_INCREMENT` (R344, R353): with `SERVO_SOURCE` 1 in mode 0, within R354. -/
def writeIncrement (v : Nat) (s : State) : WriteResult :=
  let ppb : Rat := ((v : Rat) / (nominalInc : Rat) - 1) * 1000000000
  if hostServo s = false ∨ rd s Obj.CORRECTION_MODE ≠ 0 then refuse s abState
  else if v < 0x03FF7CEE ∨ 0x04008312 < v ∨ rateAllowed s ppb = false then refuse s abRange
  else accept (wr s Obj.TIME_INCREMENT v)

/-- A write of `RATE_ADJUST` (R353, R365): with `SERVO_SOURCE` 1 in mode 1, within R354 and ±10 ppm per change. -/
def writeRate (v : Nat) (s : State) : WriteResult :=
  let ppb : Rat := (toSigned 32 v : Rat) / 1000
  if hostServo s = false ∨ rd s Obj.CORRECTION_MODE ≠ 1 then refuse s abState
  else if rateAllowed s ppb = false ∨ 10000 < absRat (ppb - ratePpb s) then refuse s abRange
  else accept (wr s Obj.RATE_ADJUST v)

/-! ### Time pulse output (R361) -/

/-- A squelch condition of `PPS_SQUELCH` holds. -/
def ppsSquelched (s : State) : Bool :=
  let early := decide (timeState s = tsUnknown) || decide (timeState s = tsSet)
  match rd s Obj.PPS_SQUELCH with
  | 0 => false
  | 1 => early
  | _ => early || (match errorEstimate s with
                   | none => true
                   | some e => decide ((rd s Obj.PPS_SQUELCH_BOUND : Rat) < e))

/-- The first instant at or after now that is a whole second + `PPS_OFFSET`. -/
def nextPps (s : State) : Nat :=
  let off : Int := rdInt 32 s Obj.PPS_OFFSET
  let o : Nat := (off % 1000000000).toNat * nsUnit
  let k := (s.time.acc + secUnit - o + secUnit - 1) / secUnit - 1
  k * secUnit + o

/-- PPS_SECOND (R361): at a whole second + `PPS_OFFSET`, PPS_OUT pulses unless squelched; after a step the first pulse keeps
2 × `PPS_WIDTH` from the last rising edge. -/
def execPpsSecond (s : State) : Host.Outcome State Fault Refusal :=
  .next (whenAlive .time (fun s =>
    let s := refreshTime (runTo (nextPps s) s)
    let w := rd s Obj.PPS_WIDTH * 1000 * nsUnit
    let near := s.time.ppsAfterStep && decide (0 < s.time.ppsLast) && decide (s.time.ppsLast ≤ s.time.acc) && decide (s.time.acc < s.time.ppsLast + 2 * w)
    if rdBool s Obj.PPS_ENABLE && !ppsSquelched s && !near then
      send (.pulse 0 0 (rd s Obj.PPS_WIDTH))
        (setTime (fun t => { t with ppsLast := t.acc, ppsAfterStep := false }) s)
    else s) s)

/-! ### PLLs and reference (R362 to R365) -/

/-- The five PLLs. -/
def allPlls : List Nat := [0, 1, 2, 3, 4]

/-- Every PLL is locked (R457). -/
def pllsLocked (s : State) : Bool := allPlls.all (fun k => decide (rd s (Obj.PLL_STATE k) = 2))

/-- Add the time frozen to `PLL_FROZEN_TIME`, and let every frozen PLL lock again (R364). -/
def unfreeze (s : State) : State :=
  let ms := (s.time.acc - s.time.frozenSince) / (1000000 * nsUnit)
  let s := allPlls.foldl (fun t k =>
    if rd t (Obj.PLL_STATE k) = 3 then wr (countBy 32 t (Obj.PLL_FROZEN_TIME k) ms) (Obj.PLL_STATE k) 2 else t) s
  setQuality 8 1 0 (rebaseError s)

/-- Freeze every locked PLL (R364). -/
def freeze (s : State) : State :=
  let s := rebaseError s
  let s := allPlls.foldl (fun t k =>
    if rd t (Obj.PLL_STATE k) = 2 then wr (count t (Obj.PLL_FREEZES k)) (Obj.PLL_STATE k) 3 else t) s
  setQuality 8 1 1 (setTime (fun t => { t with frozenSince := t.acc }) s)

/-- The lanes a PLL feeds: lane PLL 0 droves 0 to 63, lane PLL 1 droves 64 to 127 (R362). -/
def pllDroves (k : Nat) : List Nat :=
  if k = 2 then List.range 64 else if k = 3 then (List.range 64).map (· + 64) else []

/-- The next phase measured on these lanes is the new reference (R19). -/
def renewPhases (ds : List Nat) (s : State) : State :=
  let renew (d : Nat) (x : Drove) : Drove := if ds.contains d then { x with phaseRenew := true } else x
  { s with droves := Tbl.mapAll (fun _ => Drove.off) renew s.droves }

/-- Switch to a reference source: the PLLs leave their freeze, and the event is raised (R364). -/
def useRef (src : Nat) (s : State) : State :=
  let again := s.time.refDown || (rd s Obj.REF_IN_USE ≠ 0xFF && rd s Obj.REF_IN_USE ≠ src)
  let s := renewPhases (List.range 128) (unfreeze (wr s Obj.REF_IN_USE src))
  let s := setTime (fun t => { t with refDown := false }) s
  refreshTime (if again then emit .refRestored noInst (leBytes 1 src) s else s)

/-- REF_LOST (R364): a source is lost; when it is the one in use, the PLLs freeze, and the device falls back where it may. -/
def execRefLost (src : Nat) (s : State) : Host.Outcome State Fault Refusal :=
  .next (whenAlive .option (fun s =>
    if 2 ≤ src then s
    else
    let s := wr s Obj.REF_PRESENT (clearBit (rd s Obj.REF_PRESENT) src)
    if rd s Obj.REF_IN_USE ≠ src then s
    else
      let s := freeze s
      let s := emit .refLost noInst (leBytes 1 src) (count s Obj.REF_LOSSES)
      let s := setTime (fun t => { t with refDown := true }) s
      let other := 1 - src
      if rdBool s Obj.REF_FALLBACK && bit (rd s Obj.REF_PRESENT) other then useRef other s
      else refreshTime (wr s Obj.REF_IN_USE 0xFF)) s)

/-- REF_RESTORED (R364): a source is present; the device uses it when it is the selected one, or when none is in use. -/
def execRefRestored (src : Nat) (s : State) : Host.Outcome State Fault Refusal :=
  .next (if 2 ≤ src then s
    else
    let s := wr s Obj.REF_PRESENT (setBit (rd s Obj.REF_PRESENT) src)
    let use := rd s Obj.REF_IN_USE
    if use = src then s
    else if src = rd s Obj.REF_SELECT ∨ (use = 0xFF ∧ (rdBool s Obj.REF_FALLBACK = true ∨ s.time.refDown = false)) then
      useRef src s
    else s)

/-! ### Clock outputs (R366) -/

/-- CLKOUT_ALIGNMENT_STEP (R366): an aligning output takes one phase step, and shows when its edge falls within ±0.5 ns of
the second. -/
def execClkoutAlignmentStep (o : Nat) (delta : Int) (aligned : Bool) (s : State) : Host.Outcome State Fault Refusal :=
  .next (whenAlive .clock (fun s =>
    if o < 4 ∧ rdBool s (Obj.CLKOUT_ENABLE o) = true ∧ rdBool s (Obj.CLKOUT_ALIGN o) = true then
      let s := setTime (fun t => { t with clkPhase := t.clkPhase.modify o (fun p => p + clampInt (-1) 1 delta) }) s
      if aligned then wr s (Obj.CLKOUT_ALIGNED o) 1 else s
    else s) s)

end Sys2Proof.Machine
end

