-- ==== Sys2Proof/Machine/Configuration.lean ====
section
/-! DEFINITION. The configuration images: values of P objects in the draft, the committed image and the live machine (R319,
R322, R323), the image as bytes (R320, R321), and the bookkeeping of the draft (R322, R325). -/

namespace Sys2Proof.Machine

/-- Value of a numeric P object in an image. -/
def Image.get (im : Image) (key : Nat) : Nat := Tbl.get objDefault im.vals key

/-- Bytes of a DOMAIN or STR P object in an image. -/
def Image.getBlob (im : Image) (key : Nat) : List Byte := Tbl.get blobDefault im.blobs key

/-- Set a numeric P object in an image. -/
def Image.set (im : Image) (key v : Nat) : Image := { im with vals := Tbl.set objDefault im.vals key v }

/-- Set a DOMAIN or STR P object in an image. -/
def Image.setBlob (im : Image) (key : Nat) (v : List Byte) : Image :=
  { im with blobs := Tbl.set blobDefault im.blobs key v }

/-- The object at a key is a P object. -/
def isPersist (key : Nat) : Bool :=
  match findRow (keyIndex key) (keySub key) with
  | some r => r.persist
  | none => false

/-- Bytes are valid UTF-8: no overlong form, no surrogate, nothing above U+10FFFF (R6). -/
def utf8Ok : Nat → List Byte → Bool
  | 0, bs => bs.isEmpty
  | _ + 1, [] => true
  | n + 1, b :: rest =>
    let c := b.toNat
    let cont (i lo hi : Nat) : Bool := match rest[i]? with
      | some x => decide (lo ≤ x.toNat) && decide (x.toNat ≤ hi)
      | none => false
    if c < 0x80 then utf8Ok n rest
    else if 0xC2 ≤ c ∧ c ≤ 0xDF then cont 0 0x80 0xBF && utf8Ok n (rest.drop 1)
    else if 0xE0 ≤ c ∧ c ≤ 0xEF then
      cont 0 (if c = 0xE0 then 0xA0 else 0x80) (if c = 0xED then 0x9F else 0xBF) && cont 1 0x80 0xBF && utf8Ok n (rest.drop 2)
    else if 0xF0 ≤ c ∧ c ≤ 0xF4 then
      cont 0 (if c = 0xF0 then 0x90 else 0x80) (if c = 0xF4 then 0x8F else 0xBF) && cont 1 0x80 0xBF && cont 2 0x80 0xBF
        && utf8Ok n (rest.drop 3)
    else false

/-- Bytes padded with zeros to a multiple of 4. -/
def pad4 (bs : List Byte) : List Byte := bs ++ List.replicate ((4 - bs.length % 4) % 4) 0

/-- One record of an image (R321). -/
def recordBytes (key : Nat) (v : List Byte) : List Byte :=
  leBytes 2 (keyIndex key) ++ leBytes 1 (keySub key) ++ leBytes 1 0 ++ leBytes 4 v.length ++ pad4 v

/-- The bytes of a P object's value in an image. -/
def Image.valueBytes (im : Image) (key : Nat) : List Byte :=
  match findRow (keyIndex key) (keySub key) with
  | some r => if r.ty.variable then im.getBlob key else leBytes r.ty.size (im.get key)
  | none => []

/-- Keep two rising lists of keyed records in one rising order. -/
def mergeRecords : Nat → List (Nat × List Byte) → List (Nat × List Byte) → List (Nat × List Byte)
  | 0, xs, ys => xs ++ ys
  | _, [], ys => ys
  | _, xs, [] => xs
  | n + 1, x :: xs, y :: ys =>
    if y.1 < x.1 then y :: mergeRecords n (x :: xs) ys else x :: mergeRecords n xs (y :: ys)

/-- The records of an image on a code: one for every P object present, and the records kept for validation (R321). -/
def Image.records (im : Image) (code : Nat) : List (Nat × List Byte) :=
  let own := (persistKeys code).map (fun k => (k, im.valueBytes k))
  mergeRecords (own.length + im.extra.length) own im.extra

/-- Header of an image with a given check (R320). -/
def imageHeader (im : Image) (length records check : Nat) : List Byte :=
  leBytes 2 1 ++ leBytes 2 0 ++ leBytes 4 length ++ leBytes 4 im.generation ++ leBytes 2 im.dictionary ++ leBytes 1 im.code
    ++ leBytes 1 0 ++ leBytes 4 records ++ leBytes 4 im.seconds ++ leBytes 4 0 ++ leBytes 4 check

/-- `IMAGE_CHECK`: CRC-32C over the whole image with that field 0 (R320). -/
def Image.check (im : Image) (code : Nat) : Nat :=
  let rs := im.records code
  let body := rs.flatMap (fun r => recordBytes r.1 r.2)
  crc32c (imageHeader im (32 + body.length) rs.length 0 ++ body)

/-- The whole image as bytes (R320, R321). -/
def Image.bytes (im : Image) (code : Nat) : List Byte :=
  let rs := im.records code
  let body := rs.flatMap (fun r => recordBytes r.1 r.2)
  imageHeader im (32 + body.length) rs.length (im.check code) ++ body

/-- The draft as it stands, with the generation of its next commit and no seconds (R320). -/
def draftImage (s : State) : Image :=
  { s.cfg.draft with generation := (rd s Obj.COMMITTED_GENERATION + 1) % 2 ^ 32, dictionary := 1, code := optionCode s,
                     seconds := 0 }

/-- `DRAFT_CHECK`. -/
def draftCheck (s : State) : Nat := (draftImage s).check (optionCode s)

/-- Parse records from bytes: keys rise strictly, reserved and padding bytes are 0, and a value has
its type's length. Reserved bits of a value are ignored (R8). -/
def parseRecords (code : Nat) : Nat → Nat → List Byte → Image → Option (Nat × Image)
  | 0, _, _, _ => none
  | _ + 1, _, [], im => some (0, im)
  | n + 1, prev, bs, im =>
    let key := objKey (leNat (slice bs 0 2)) (leNat (slice bs 2 1))
    let len := leNat (slice bs 4 4)
    let v := slice bs 8 len
    let padded := len + (4 - len % 4) % 4
    if bs.length < 8 + padded ∨ key < prev ∨ leNat (slice bs 3 1) ≠ 0 ∨ slice bs 8 padded ≠ pad4 v then none
    else
      let im' := match presentRow code (keyIndex key) (keySub key) with
        | some r =>
          if r.persist then
            (if r.ty.variable then some (im.setBlob key (writtenBytes key v))
             else if len = r.ty.size then some (im.set key (writtenCode key (leNat v))) else none)
          else if !r.ty.variable && !(len = r.ty.size) then none
          else some { im with extra := im.extra ++ [(key, v)] }
        | none => some { im with extra := im.extra ++ [(key, v)] }
      match im' with
      | none => none
      | some im' => (parseRecords code n (key + 1) (bs.drop (8 + padded)) im').map (fun p => (p.1 + 1, p.2))

/-- Parse a whole image written to `CONFIG_DRAFT` (R321); none where it is refused with "value out of range". -/
def parseImage (code : Nat) (bs : List Byte) : Option Image :=
  let field (o n : Nat) : Nat := leNat (slice bs o n)
  let im : Image := { Image.factory with generation := field 8 4, dictionary := field 12 2, code := field 14 1,
                                         seconds := field 20 4 }
  if bs.length < 32 ∨ 524288 < bs.length ∨ field 0 2 ≠ 1 ∨ field 2 2 ≠ 0 ∨ field 4 4 ≠ bs.length ∨ field 12 2 ≠ 1
      ∨ 2 < field 14 1 ∨ field 15 1 ≠ 0 ∨ field 24 4 ≠ 0
      ∨ field 28 4 ≠ crc32c (bs.take 28 ++ leBytes 4 0 ++ bs.drop 32) then none
  else
    match parseRecords code (bs.length + 1) 0 (bs.drop 32) im with
    | some (n, out) => if n = field 16 4 then some out else none
    | none => none

/-- The values of two images differ. -/
def imagesDiffer (a b : Image) : Bool := !(a.vals == b.vals && a.blobs == b.blobs && a.extra == b.extra)

/-- The image the draft is compared with: the committed one, else the factory's. -/
def baseImage (s : State) : Image := s.cfg.committed.getD Image.factory

/-- A change of the draft: `DRAFT_GENERATION`, `LIVE_DIFFERS` and the validation status, which a running validation keeps at 0xFF
until its end (R322, R325). -/
def draftChanged (s : State) : State :=
  let s := wr s Obj.DRAFT_GENERATION ((rd s Obj.DRAFT_GENERATION + 1) % 2 ^ 32)
  let s := wr s Obj.LIVE_DIFFERS (b2n (imagesDiffer s.cfg.draft (baseImage s)))
  if s.cfg.validating then s else wr s Obj.VALIDATE_STATUS 0xFE

/-- Change the draft. -/
def setDraft (im : Image) (s : State) : State := draftChanged { s with cfg := { s.cfg with draft := im } }

/-- An accepted write of a numeric P object (R322): in HELD it changes the draft only; elsewhere the live value and the
draft. -/
def writeP (key v : Nat) (s : State) : State :=
  let s := setDraft (s.cfg.draft.set key v) s
  if station s = stHeld then s else wr s key v

/-- An accepted write of a DOMAIN or STR P object (R322). -/
def writePBlob (key : Nat) (v : List Byte) (s : State) : State :=
  let s := setDraft (s.cfg.draft.setBlob key v) s
  if station s = stHeld then s else wrBlob s key v

/-- Voltage of a cove input, mV: 0 the quick store, 1 the bulk store, 2 HVIN. What the plant gives is a free value of station time. -/
def coveMv (s : State) (input : Nat) : Nat := Config.coveMillivolts input s.time.acc % 2 ^ 16

/-- The cove ran from its stores at instant `t` (ON_STORE, R486): neither VKA nor HVIN supplied it. -/
def coveOnStore (t : Nat) : Bool := decide (Config.coveSupply t % 4 = 0)

/-- `COVE_STATUS` as it stands (R486): COLD_STARTED is stored; the crystal and the supplies are the plant's. -/
def coveStatus (s : State) : Nat :=
  bits (rd s Obj.COVE_STATUS) 6 6 * 2 ^ 6 + b2n (coveOnStore s.time.acc) * 2 ^ 5
    + Config.coveSupply s.time.acc / 4 % 2 * 2 ^ 4 + b2n (decide (3000 ≤ coveMv s 1)) * 2 ^ 3
    + b2n (decide (3000 ≤ coveMv s 0)) * 2 ^ 2 + Config.coveSupply s.time.acc % 4

/-- Code of an object as a read returns it: in HELD a P object reads its draft value (R322). -/
def readCode (s : State) (key : Nat) : Nat :=
  if station s = stHeld && isPersist key then s.cfg.draft.get key
  else if key = Obj.COVE_STATUS then coveStatus s
  else if key = Obj.COVE_QUICK_V then coveMv s 0
  else if key = Obj.COVE_BULK_V then coveMv s 1
  else if key = Obj.COVE_HVIN_V then coveMv s 2
  else rd s key

/-- Bytes of a stored DOMAIN or STR object as a read returns them. -/
def readStored (s : State) (key : Nat) : List Byte :=
  if station s = stHeld && isPersist key then s.cfg.draft.getBlob key else rdBlob s key

/-- Every live P value takes the value of an image (R326 step 3, R329). -/
def loadLive (im : Image) (s : State) : State :=
  let kept := s.regs.filter (fun p => !isPersist p.1)
  let keptB := s.blobs.filter (fun p => !isPersist p.1)
  { s with regs := im.vals.foldl (fun m p => Tbl.set objDefault m p.1 p.2) kept,
           blobs := im.blobs.foldl (fun m p => Tbl.set blobDefault m p.1 p.2) keptB }

/-- The tide objects that follow from the period (R22). -/
def showTideMarks (s : State) : State :=
  let p := periodNs s
  wrs s [(Obj.RETURN_DEADLINE, p * 85 / 100), (Obj.REFERENCE_MARK, p * 80 / 100), (Obj.DEMAND_MARK, 2 * p - 2000),
    (Obj.COMMAND_CUTOFF, 2 * p - 300)]

/-- Sum of the lengths of a map's entries (R300). -/
def mapBytes : Nat → List Byte → Nat
  | 0, _ => 0
  | n + 1, bs => if bs.length < 4 then 0 else leNat (bs.take 1) + mapBytes n (bs.drop 4)

/-- `IMAGE_SIZE` of the four maps (R317). -/
def showMapSizes (s : State) : State :=
  [0, 1, 2, 3].foldl (fun t m =>
    let bs := rdBlob t (Obj.IMAGE_MAP m)
    wr t (Obj.IMAGE_SIZE m) (mapBytes bs.length bs)) s

/-- The committed image takes effect on every live value and on what follows from it. -/
def applyCommitted (s : State) : State :=
  showMapSizes (showTideMarks (loadLive (baseImage s) { s with cfg := { s.cfg with applyDue := false } }))

/-- The valid slot with the later generation (R329): slot number, image, commits and time of the last commit. -/
def laterSlot (c : Configuration) : Option (Nat × Image × Nat × Nat) :=
  match c.slot0, c.slot1 with
  | .good a n t, .good b m u =>
    if aheadOf 32 b.generation a.generation then some (1, b, m, u) else some (0, a, n, t)
  | .good a n t, _ => some (0, a, n, t)
  | _, .good b m u => some (1, b, m, u)
  | _, _ => none

/-- The end of BOOT (R329): the later valid slot becomes the committed image and the draft; `HELD_REASON` is chosen: 5 to
restore, 1 when both slots are blank, 3 otherwise. -/
def bootLoad (s : State) : State :=
  match laterSlot s.cfg with
  | some (k, im, n, t) =>
    let s := { s with cfg := { s.cfg with committed := some im, draft := im, bootReason := 5 } }
    let s := wrs s [(Obj.COMMITTED_GENERATION, im.generation), (Obj.COMMITTED_CHECK, im.check (optionCode s)),
      (Obj.ACTIVE_SLOT, k), (Obj.COMMITS, n), (Obj.LAST_COMMIT_TIME, t)]
    applyCommitted s
  | none =>
    let blank := s.cfg.slot0 = .blank ∧ s.cfg.slot1 = .blank
    { s with cfg := { s.cfg with committed := none, draft := Image.factory, bootReason := if blank then 1 else 3 } }

/-- Drove objects of the draft that govern the lanes in HELD (R323). -/
def governsLane (key : Nat) : Bool :=
  decide (0x3400 ≤ keyIndex key) && decide (keyIndex key ≤ 0x347F) && [1, 2, 4].contains (keySub key)

end Sys2Proof.Machine
end

