-- ==== Sys2Proof/Machine/Reset.lean ====
section
/-! DEFINITION. Reset sources and reaches, the ordered release of the domains (R457 to R466), the option loader (R468, R469),
power states and the wake from DORMANT (R470 to R477), the cove (R478 to R481) and the die temperature events (R520). -/

namespace Sys2Proof.Machine

/-! ### Reaches and what they keep (R458, R465) -/

/-- Reaches: 1 CORE, 2 SYSTEM, 3 FULL; the first domain each holds, as a place of R457. -/
def reachFirst (reach : Nat) : Nat := if reach = 3 then 0 else if reach = 2 then 3 else 5

/-- Objects the cove or the non-volatile store keeps through every reset (R465, R479, R483, R484, R504, R343, R450). -/
def alwaysKept : List Nat :=
  [Obj.RESET_CAUSE, Obj.RESET_REACH_LAST, Obj.RESET_COUNT, Obj.LAST_RESET_TIME, Obj.LOG_NEXT_SEQ, Obj.TIME_EPOCH_NOW,
   Obj.LOG_ID, Obj.ALARMS_UNACKED, Obj.KEYS_SET, Obj.CONFIRMED_CHECK, Obj.COMMITS, Obj.LAST_COMMIT_TIME,
   Obj.COVE_STATUS, Obj.COVE_ON_STORE_TIME, Obj.COVE_COLD_STARTS,
   Obj.COVE_ENDURANCE]

/-- Objects of the PLLs, the reference and the clock outputs that a CORE or SYSTEM reset leaves as they are (R465): all but the counters of
R368, which every core reset clears. -/
def clockKept (ix sub : Nat) : Bool :=
  decide (0x2020 ≤ ix) && decide (ix ≤ 0x20FF)
    && !(decide (ix ≤ 0x2024) && [2, 3, 4].contains sub) && !(decide (ix = 0x2026) && decide (sub = 5))

/-- An object keeps its value through a reset of the reach (R465). -/
def keptBy (reach key : Nat) : Bool :=
  let ix := keyIndex key
  let sub := keySub key
  alwaysKept.contains key
    -- stored PLL searches; RETIRED and PENNINGS of every leaf (their own objects) survive every reset
    || (decide (0x2020 ≤ ix) && decide (ix ≤ 0x2024) && decide (sub = 6))
    || (decide (0x4000 ≤ ix) && (decide (key % 256 = Obj.PENNINGS 0 % 256)))
    -- Breakwater, the PLLs, the reference, the clock outputs and the option view: FULL only
    || (decide (reach ≤ 2) && ((decide (0x2400 ≤ ix) && decide (ix ≤ 0x24FF)) || clockKept ix sub
        || ix = 0x2101 || ix = 0x1000 || (decide (0x2820 ≤ ix) && decide (ix ≤ 0x2838))))
    -- the station time counter, the tide generator and PPS: SYSTEM and FULL
    || (decide (reach = 1) && ((ix = 0x2000 && [2, 3].contains sub) || (ix = 0x2010 && decide (sub ≤ 8)) || ix = 0x2009))

/-- Byte objects kept through every reset: the role keys and the cove's source counts. -/
def keptBlob (key : Nat) : Bool := decide (keyIndex key = 0x1106) || key = Obj.RESET_SOURCE_COUNTS

/-- A slot that was being written or verified when the reset came holds no valid image (R326, R341). -/
def abortCommit (c : Configuration) (active : Nat) : Configuration :=
  let c' := { Configuration.reset with slot0 := c.slot0, slot1 := c.slot1 }
  if c.commitStep = 1 ∨ c.commitStep = 2 then
    (if active = 0 then { c' with slot1 := .bad } else { c' with slot0 := .bad })
  else c'

/-- Station time and PTP through a CORE reset: the counter keeps running, the lookout cores forget their masters, and a
synchronised STATE becomes HOLDOVER (R356, R465). -/
def keepTime (s : State) : TimeUnit :=
  { TimeUnit.reset with
    acc := s.time.acc, inc := s.time.inc, err := errorEstimate s, errAt := s.time.acc, alarm := s.time.alarm,
    heldAt := if timeState s = tsHoldover then s.time.heldAt else s.time.acc,
    freq := holdoverFreq s, freqNow := s.time.freqNow, setBound := s.time.setBound, refDown := s.time.refDown,
    frozenSince := s.time.frozenSince, restartTide := s.time.restartTide, clkPhase := s.time.clkPhase,
    ppsLast := s.time.ppsLast, acquired := s.time.acquired }

/-- The cove takes over station time (R360, R480). -/
def handToCove (s : State) : State :=
  if s.cove.alive && alive s .time then
    { s with cove := { s.cove with
      time := s.time.acc, quality := rd s Obj.TIME_QUALITY, err := errorEstimate s, since := s.time.acc } }
  else s

/-- `PROT_FLAGS` of a retired leaf (R239). -/
def retiredFlags (p : Nat × Nat) : Bool :=
  decide (0x4000 ≤ keyIndex p.1) && decide (p.1 % 256 = Obj.PROT_FLAGS 0 % 256) && bit p.2 7

/-- Object values through a reset of the reach: those kept, and of `PROT_FLAGS` the RETIRED bit alone, with which the leaf stays penned
(R239, R465). -/
def keepRegs (reach : Nat) (regs : List (Nat × Nat)) : List (Nat × Nat) :=
  (regs.filter retiredFlags).foldl (fun m p => Tbl.set objDefault m p.1 0xC0) (regs.filter (fun p => keptBy reach p.1))

/-- Local I/O through a reset: the levels at pins and comparators, which are the plant's, stay; the comparators with what they have
recorded, and an array calibration, through a CORE reset, which does not reach the analogue die. -/
def keepPins (reach : Nat) (x : LocalIo) : LocalIo :=
  let cmps := if reach ≤ 2 then x.cmps else x.cmps.map (fun c => { c with blank := false, lastEvent := none })
  { LocalIo.reset with gpio := x.gpio, cmps := cmps, selfMask := if reach = 1 then x.selfMask else 0 }

/-- Breakwater through a FULL reset: cleared, with the contacts at its pins as they stand. -/
def clearBreakwater (b : Breakwater) : Breakwater :=
  { Breakwater.reset with pairs := b.pairs.map (fun x => { SafePair.closed with a := x.a, b := x.b }) }

/-- Bytes of a memory that a reset of the reach keeps: region 11 through CORE, Breakwater's own memory (region 19) through CORE and
SYSTEM. -/
def keptByte (reach key : Nat) : Bool :=
  (reach = 1 && decide (11 * 2 ^ 32 ≤ key) && decide (key < 12 * 2 ^ 32)) || (decide (reach ≤ 2) && decide (19 * 2 ^ 32 ≤ key))

/-- Fields a reset reaches take their reset values; what R465 keeps stays. -/
def clearFor (reach : Nat) (s0 : State) : State :=
  let s := if 2 ≤ reach then handToCove s0 else s0
  let s := if reach = 1 ∧ (timeState s = tsAcquiring ∨ timeState s = tsLocked) then
      setQuality 10 2 3 (setQuality 12 4 tsHoldover s) else s
  { State.reset with
    regs := keepRegs reach s.regs
    blobs := s.blobs.filter (fun p => keptBlob p.1)
    time := if reach = 1 then keepTime s0 else { TimeUnit.reset with refDown := s.time.refDown, clkPhase := s.time.clkPhase }
    cove := s.cove
    rp := s.rp
    cfg := abortCommit s.cfg (rd s Obj.ACTIVE_SLOT)
    log := { s.log with alarms := s.log.alarms }
    bw := if reach = 3 then clearBreakwater s.bw else s.bw
    mem := s.mem.filter (fun c => keptByte reach c.1)
    poison := s.poison.filter (fun w => keptByte reach w.key)
    meter := { MeterChain.reset with copy := s.meter.copy }
    lio := keepPins reach s.lio
    draws := s.draws
    transfers := s.transfers
    outbox := s.outbox
    pending := s.pending }

/-- Bits of `RESET_CAUSE` (R485). -/
abbrev rcPorn : Nat := 1
/-- SUPPLY -/
abbrev rcSupply : Nat := 2
/-- PARITY_FULL -/
abbrev rcParityFull : Nat := 3
/-- SRSTN -/
abbrev rcSrstn : Nat := 4
/-- PARITY_TIME -/
abbrev rcParityTime : Nat := 5
/-- MEMORY -/
abbrev rcMemory : Nat := 6
/-- PARITY_CORE -/
abbrev rcParityCore : Nat := 7
/-- WATCHDOG -/
abbrev rcWatchdog : Nat := 8
/-- HOST -/
abbrev rcHost : Nat := 9

/-- A PLL starts: from its stored search when that is valid and the die is within 40 °C of it, else with a full search
(R363). -/
def startPll (s : State) (k : Nat) : State :=
  let t := getD' s.rp.dieTemp 0 0
  let t0 := getD' s.cove.pllTemp k 0
  let stored := rdBool s (Obj.PLL_STORED_VALID k) && decide ((t - t0).natAbs ≤ 4000)
  wr s (Obj.PLL_STATE k) (if stored then 4 else 1)

/-- A source becomes active with its reach (R459, R461): every domain it reaches returns to reset. In DORMANT it also wakes the device
(R475): the PLLs, which only a FULL reset reaches, start again. -/
def resetFrom (src reach : Nat) (s : State) : State :=
  let calibrating := decide (s.lio.calMask ≠ 0)
  let asleep := decide (rd s Obj.POWER_STATE = 3)
  let s := clearFor reach s
  let s := if calibrating then wr s Obj.SAR_CAL_STATUS 0x13 else s
  let s := if asleep && decide (reach < 3) then allPlls.foldl startPll s else s
  let rp := s.rp
  { s with rp := { ResetPower.reset with
      released := min rp.released (reachFirst reach)
      storeReady := false
      sources := setBit rp.sources src
      reach := (src, reachFirst reach) :: rp.reach.filter (fun p => p.1 ≠ src)
      seen := setBit rp.seen src
      widest := max rp.widest reach
      refMissing := rp.refMissing
      bootStart := s.time.acc
      coveLost := rp.coveLost
      dieTemp := rp.dieTemp
      tempAlarm := rp.tempAlarm } }

/-- FAULTN is driven low (R467). -/
def faultnLow (s : State) : Bool :=
  decide (s.rp.released < 10) || decide (rd s Obj.OPTION_STATUS = 2) || rdBool s Obj.POWER_FAULT
    || bit (rd s Obj.COVE_STATUS) 6

/-- PORN_LOW (R459): a FULL reset is held. -/
def execPornLow (s : State) : Host.Outcome State Fault Refusal := .next (resetFrom rcPorn 3 s)

/-- SRSTN_LOW (R459): a SYSTEM reset is held. -/
def execSrstnLow (s : State) : Host.Outcome State Fault Refusal := .next (resetFrom rcSrstn 2 s)

/-- SUPPLY_MONITOR_TRIP (R459, R509): one of the seven monitored rails lies below its threshold, and a FULL reset is held. -/
def execSupplyMonitorTrip (rail : Nat) (s : State) : Host.Outcome State Fault Refusal :=
  .next (if rail < 7 then resetFrom rcSupply 3 s else s)

/-- CRITICAL_STATE_PARITY (R459): the reach follows from the domain, by its place in R457. -/
def execCriticalStateParity (domain : Nat) (s : State) : Host.Outcome State Fault Refusal :=
  .next (if domain ≤ 1 then resetFrom rcParityFull 3 s
    else if domain = 3 then resetFrom rcParityTime 2 s
    else if 5 ≤ domain ∧ domain ≤ 9 then resetFrom rcParityCore 1 s
    else s)

/-- LOOKOUT_WATCHDOG_EXPIRY (R459): a CORE reset; halted lookout cores pause the watchdog (R502). -/
def execLookoutWatchdogExpiry (s : State) : Host.Outcome State Fault Refusal :=
  .next (whenAlive .lookout (fun s =>
    if rd s Obj.DEBUG_HALTED % 4 ≠ 0 then s else resetFrom rcWatchdog 1 s) s)

/-- RESET_SOURCE_RELEASED (R461): a source ends. -/
def execResetSourceReleased (src : Nat) (s : State) : Host.Outcome State Fault Refusal :=
  .next { s with rp := { s.rp with sources := clearBit s.rp.sources src,
                                   reach := s.rp.reach.filter (fun p => p.1 ≠ src) } }

/-! ### Release (R462 to R464, R466) -/

/-- The domain last released is ready (R457): the loader has finished, every PLL is locked, the shared store is
initialised. -/
def lastReady (s : State) : Bool :=
  match s.rp.released with
  | 1 => decide (rd s Obj.OPTION_STATUS ≠ 0)
  | 2 => pllsLocked s
  | 6 => s.rp.storeReady
  | _ => true

/-- No active source reaches the next domain. -/
def nextFree (s : State) : Bool := s.rp.reach.all (fun p => decide (s.rp.released < p.2))

/-- Station time from the cove at the release of TIME (R346, R360): COVE with its error, or UNKNOWN after a cold start. -/
def loadTime (s : State) : State :=
  let known := s.cove.alive && decide (bits s.cove.quality 15 12 ≠ 0)
  let span := s.cove.time - s.cove.since
  let s := if s.cove.alive && coveOnStore s.cove.since then
      wr s Obj.COVE_ON_STORE_TIME (span / secUnit % 2 ^ 32) else s
  let s := { s with time := { s.time with
    acc := if s.cove.alive then s.cove.time else 0
    coveSpan := span
    err := if known then s.cove.err.map (· + 61036) else none
    errAt := if s.cove.alive then s.cove.time else 0
    restartTide := true } }
  let s := wr s Obj.TIME_QUALITY 0x0CFF
  refreshTime (if known then setQuality 12 4 tsCove s else s)

/-- Add 1 to the count of every source bit in `RESET_SOURCE_COUNTS` (R466). -/
def bumpSources (seen : Nat) (bs : List Byte) : List Byte :=
  (List.range 10).flatMap (fun i =>
    leBytes 4 (satAdd (2 ^ 32 - 1) (leNat (slice bs (4 * i) 4)) (b2n (seen.testBit i))))

/-- The end of a reset, at the release of PROCESSING (R464, R466). -/
def finishReset (s : State) : State :=
  let cause := s.rp.seen + (if s.rp.refMissing then 2 ^ 11 else 0) + (if s.rp.coveLost then 2 ^ 12 else 0)
  let reach := s.rp.widest
  let s := wrs s [(Obj.RESET_CAUSE, cause), (Obj.RESET_REACH_LAST, reach), (Obj.LAST_RESET_TIME, stimeNow s),
    (Obj.BOOT_TIME, (s.time.acc - s.rp.bootStart) / (1000 * nsUnit) % 2 ^ 32)]
  let s := count s Obj.RESET_COUNT
  let s := wrBlob s Obj.RESET_SOURCE_COUNTS (bumpSources s.rp.seen (rdBlob s Obj.RESET_SOURCE_COUNTS))
  let s := { s with rp := { s.rp with seen := 0, widest := 0, refMissing := false, coveLost := false } }
  emit .deviceReset noInst (leBytes 4 cause ++ leBytes 1 reach) s

/-- STORE_INIT_DONE (R462): the shared store holds zeros with valid check bits. -/
def execStoreInitDone (s : State) : Host.Outcome State Fault Refusal :=
  .next (whenAlive .fabric (fun s => { s with rp := { s.rp with storeReady := true } }) s)

/-- OPTION_LOAD_DONE (R468, R469): the loader fills the option view, or after three failed reads the smallest view with
OPTION_FAULT. -/
def execOptionLoadDone (view : OptionView) (s : State) : Host.Outcome State Fault Refusal :=
  .next (whenAlive .option (fun s =>
    let s := wrs s [(Obj.OPTION_LOAD_TIME, view.us % 2 ^ 32), (Obj.OPTION_CORRECTED, view.corrected % 2 ^ 16)]
    if view.good then
      wrs s [(Obj.OPTION_STATUS, 1), (Obj.OPTION_CODE, view.code % 3), (Obj.OPTION_UNITS, view.units % 8),
        (Obj.OPTION_DROVES, codeDroves (view.code % 3))]
    else wrs s [(Obj.OPTION_STATUS, 2), (Obj.OPTION_CODE, 2), (Obj.OPTION_UNITS, 4), (Obj.OPTION_DROVES, 64)]) s)

/-- PLL_LOCK_LOSS (R362): counted; the PLL searches again. -/
def execPllLockLoss (pll : Nat) (s : State) : Host.Outcome State Fault Refusal :=
  .next (whenAlive .clock (fun s =>
    if pll < 5 then startPll (count s (Obj.PLL_LOCK_LOSSES pll)) pll else s) s)

/-! ### Power states (R470 to R476) -/

/-- Station time of the earliest known event that bounds a power state, 0 when one has passed (R473). -/
def nextEvents (s : State) (st : Nat) : List Nat :=
  let dispatch := if rd s Obj.NEXT_DISPATCH = 0 then [] else [stimeAcc (rd s Obj.NEXT_DISPATCH)]
  let sync := if s.time.active ≠ none then
      [s.time.lastSync + (roundHalfEven (syncSeconds s * (secUnit : Rat))).toNat] else []
  let cyc := rd s Obj.IMAGE_CYCLE * 10000 * nsUnit
  let phase := rd s Obj.IMAGE_PHASE * nsUnit
  let mapped := [1, 2].any (fun m =>
    (List.range 16).any (fun k => sessOpen s k && decide (sessMaster s k = m))
      && (rdBlob s (Obj.IMAGE_MAP (2 * m - 2)) ≠ [] || rdBlob s (Obj.IMAGE_MAP (2 * m - 1)) ≠ []))
  let image := if mapped then [((s.time.acc - phase) / cyc + 1) * cyc + phase] else []
  if st = 2 then dispatch else dispatch ++ sync ++ image

/-- Δ of R473 in 2⁻²⁴ ns, none when nothing bounds the state. -/
def boundDelta (s : State) (st : Nat) : Option Nat :=
  (nextEvents s st).foldl (fun b e =>
    let d := e - s.time.acc
    match b with
    | none => some d
    | some x => some (min x d)) none

/-- Break-even times of R471, µs: NAP 2 ms, DORMANT 200 ms. -/
def breakEvenUs (st : Nat) : Nat := if st = 2 then 2000 else 200000

/-- Wake times of R471, µs. -/
def wakeUs (st : Nat) : Nat := if st = 2 then 150 else 12000

/-- Something runs or waits that keeps the device awake (R474): commit, validation, calibration, self-test of a leaf, a pair or an
engine, readmission, state request or pending step. -/
def deviceBusy (s : State) : Bool :=
  decide (s.cfg.commitStep ≠ 0) || s.cfg.validating || decide (rd s Obj.CAL_STATUS = 1) || decide (rd s Obj.SAR_CAL_STATUS = 0xFF)
    || (List.range 4).any (fun p => decide (rd s (Obj.PAIR_STATE p) = usSelfTest))
    || (List.range 8).any (fun e => decide (rd s (Obj.ENGINE_STATE e) = usSelfTest)) || decide (s.sm.request ≠ 0)
    || stepPending s || decide (s.time.stepDue ≠ none) || decide (s.time.silence ≠ none)
    || s.regs.any (fun p => decide (0x4000 ≤ keyIndex p.1)
        && ((decide (keySub p.1 = Obj.READMIT_STATUS 0 % 256) && decide (0x80 ≤ p.2) && decide (p.2 ≤ 0x81))
          || (decide (keySub p.1 = Obj.TEST_STATUS 0 % 256) && decide (p.2 = 0xFF))))

/-- Station states in which a power state may be entered (R471). -/
def powerStation (st station : Nat) : Bool :=
  if st = 2 then decide (station = stBlocked) || decide (station = stEnergised) else decide (station = stBlocked)

/-- The first condition of R474 that forbids power state `st`, 1 to 6; 0 none. NAP also needs `KEEPALIVE_CAPABLE` (R472). -/
def powerBlocker (s : State) (st : Nat) : Nat :=
  let guard := (breakEvenUs st + rd s Obj.WAKE_GUARD) * 1000 * nsUnit
  if rd s Obj.POWER_MAX_STATE < st ∨ (st = 2 ∧ rdBool s Obj.KEEPALIVE_CAPABLE = false) then 1
  else if powerStation st (station s) = false then 2
  else if ((boundDelta s st).map (fun d => decide (d < guard))).getD false then 3
  else if deviceBusy s then 4
  else if bit (rd s Obj.BW_STATUS) 18 then 5
  else if st = 3 ∧ timeState s ≠ tsLocked ∧ rd s Obj.PTP_PORT_ENABLE % 8 ≠ 0 then 6
  else 0

/-- Units of `UNIT_DOZE` on the device: every one dozes (R470). -/
abbrev allUnits : Nat := 2 ^ 27 - 1

/-- The deepest state the controller may take at a tide start (R474). -/
def powerChoice (s : State) : Nat :=
  if powerBlocker s 3 = 0 then 3 else if powerBlocker s 2 = 0 then 2 else 0

/-- Quiet tides that follow a change of the lane rate (R69). -/
abbrev quietTides : Nat := 16

/-- Set what the lanes change to, in how many tides, and the quiet tides left. -/
def setChange (goal tides quiet : Nat) (s : State) : State :=
  { s with rp := { s.rp with entering := (goal, tides), quiet := quiet } }

/-- The lanes stop and the device sleeps (R471, R474). -/
def enterDormant (s : State) : State :=
  let bound := (boundDelta s 3).map (s.time.acc + ·)
  let s := countBy 32 (wr (rebaseError s) Obj.POWER_STATE 3) Obj.DORMANT_ENTRIES 1
  let s := if timeState s = tsLocked ∨ timeState s = tsAcquiring then enterHoldover s else s
  let s := setTime (fun t => { t with active := none, decided := false, run := [] }) s
  let s := allPlls.foldl (fun t k => wr t (Obj.PLL_STATE k) 0) s
  let s := wrs s [(Obj.REF_PRESENT, 0), (Obj.REF_IN_USE, 0xFF)]
  handToCove { s with rp := { s.rp with coreRet := true, refOscEn := false, pgCore := false, wakeTries := 0, waking := false,
                                        wakeAt := bound } }

/-- The power state outside NAP and DORMANT: DOZE while every unit dozes (R470). -/
def showPower (s : State) : State :=
  if 2 ≤ rd s Obj.POWER_STATE then s
  else wr s Obj.POWER_STATE (if rd s Obj.UNIT_DOZE = allUnits then 1 else 0)

/-- The wake ends (R475, R476): the station clock and the lanes run again, at full rate. -/
def finishWake (st : Nat) (s : State) : State :=
  let s := rebaseError (setChange 0 0 0 s)
  let us := (s.time.acc - s.rp.wakeStart) / (1000 * nsUnit) % 2 ^ 32
  let late := decide (wakeUs st < us) || decide (s.rp.wakeTries ≠ 0)
  let s := wrs s [(Obj.LAST_WAKE_TIME, us), (Obj.POWER_STATE, 0), (Obj.POWER_FAULT, 0), (Obj.POWER_FAULT_CAUSE, 0)]
  let s := if late then count s Obj.WAKE_LATE else s
  renewPhases (List.range 128) { s with rp := { s.rp with waking := false, wakeTries := 0, fallback := false } }

/-- A wake starts (R475, R476). From NAP the lanes return to full rate by the sequence of R69, from the next tide start on. -/
def startWake (s : State) : State :=
  let st := rd s Obj.POWER_STATE
  if st = 2 then
    (if s.rp.entering.1 = 1 then s else { s with rp := { s.rp with wakeStart := s.time.acc, wakeTries := 0, entering := (1, 9) } })
  else if st = 3 ∧ s.rp.waking = false then
    { s with rp := { s.rp with waking := true, wakeStart := s.time.acc, coreRet := false, refOscEn := true } }
  else { s with rp := { s.rp with entering := (0, 0) } }

/-- What wakes the device at once from NAP or DORMANT (R475). -/
def wakeNow (s : State) : State := if 2 ≤ rd s Obj.POWER_STATE then startWake s else s

/-- What keeps NAP from lasting, apart from the event it ends for (R474): the conditions of the state no longer hold. -/
def napOver (s : State) : Bool :=
  decide (rd s Obj.POWER_MAX_STATE < 2) || !rdBool s Obj.KEEPALIVE_CAPABLE || !powerStation 2 (station s) || deviceBusy s
    || bit (rd s Obj.BW_STATUS) 18

/-- What the lanes are to change to at this tide start (R474): 2 the rate of NAP, 3 the sleep of DORMANT, 1 the full rate, 0 nothing. A
return once begun goes on. NAP ends as soon as it is over (DEDUCED from R474's "at each tide start", log entry 64). -/
def powerTarget (s : State) : Nat :=
  if rd s Obj.POWER_STATE = 2 then
    (if s.rp.entering.1 = 1 then 1 else if powerBlocker s 3 = 0 then 3 else if napOver s then 1 else 0)
  else powerChoice s

/-- Tides from the first announcement of a change to the change: 8, of a sleep one more, since its last tide still runs (R69, R70). -/
def changeTides (goal : Nat) : Nat := if goal = 3 then 9 else 8

/-- The change announced comes (R69, R70): NAP, DORMANT, or the full rate, which a wake ends after its quiet tides. -/
def makeChange (goal : Nat) (s : State) : State :=
  match goal with
  | 2 => countBy 32 (wr (setChange 0 0 quietTides s) Obj.POWER_STATE 2) Obj.NAP_ENTRIES 1
  | 1 => setChange 1 0 quietTides s
  | _ => enterDormant (setChange 0 0 0 s)

/-- The tide-start work of the power controller (R474): changes over 8 tides, their quiet tides, and `POWER_BLOCKER`. -/
def powerTide (s : State) : State :=
  let now := rd s Obj.POWER_STATE
  if now = 3 then s
  else if 0 < s.rp.quiet then
    let t := setChange s.rp.entering.1 s.rp.entering.2 (s.rp.quiet - 1) s
    if s.rp.quiet = 1 ∧ s.rp.entering = (1, 0) then finishWake 2 t else t
  else
    let goal := powerTarget s
    let deeper := if now = 2 then (if goal = 3 then 4 else 3) else if goal = 0 then 2 else goal + 1
    let s := wr s Obj.POWER_BLOCKER (if deeper ≤ 3 then powerBlocker s deeper else 0)
    if goal = 0 then setChange 0 0 0 s
    else if s.rp.entering.1 ≠ goal then setChange goal (changeTides goal) 0 (if goal = 1 then startWake s else s)
    else if 1 < s.rp.entering.2 then setChange goal (s.rp.entering.2 - 1) 0 s
    else makeChange goal s

/-- The PLLs relock once PG_CORE and REF have come (R476 steps 2 and 3). -/
def wakeProgress (s : State) : State :=
  if s.rp.waking && s.rp.pgCore && decide (rd s Obj.REF_PRESENT ≠ 0) then
    (if allPlls.all (fun k => decide (rd s (Obj.PLL_STATE k) = 0)) then allPlls.foldl startPll s
     else if pllsLocked s then finishWake 3 s else s)
  else s

/-- PLL_LOCK (R363): the lock and its duration are shown and the search stored. A wake from DORMANT goes on. -/
def execPllLock (pll us : Nat) (s : State) : Host.Outcome State Fault Refusal :=
  .next (whenAlive .clock (fun s =>
    if pll < 5 then
      let s := wrs s [(Obj.PLL_STATE pll, 2), (Obj.PLL_LAST_LOCK_TIME pll, us % 2 ^ 32), (Obj.PLL_STORED_VALID pll, 1)]
      let t := getD' s.rp.dieTemp 0 0
      wakeProgress (renewPhases (pllDroves pll) { s with cove := { s.cove with pllTemp := s.cove.pllTemp.set pll t } })
    else s) s)

/-- PG_CORE_REPORT (R476): the core regulator reports PG_CORE. -/
def execPgCoreReport (s : State) : Host.Outcome State Fault Refusal :=
  .next (if s.rp.waking then wakeProgress { s with rp := { s.rp with pgCore := true } }
    else { s with rp := { s.rp with pgCore := !s.rp.coreRet } })

/-- Instant at which the controller begins to wake, the wake time and `WAKE_GUARD` ahead of the event that the state ends for (R474):
none outside NAP and DORMANT and where no event bounds the state. -/
def wakeInstant (s : State) : Option Nat :=
  let st := rd s Obj.POWER_STATE
  let event := if st = 2 then (boundDelta s 2).map (s.time.acc + ·) else if st = 3 then s.rp.wakeAt else none
  event.map (· - (wakeUs st + rd s Obj.WAKE_GUARD) * 1000 * nsUnit)

/-- SCHEDULED_WAKE (R474): station time runs to that instant, and the wake begins. -/
def execScheduledWake (s : State) : Host.Outcome State Fault Refusal :=
  .next (match wakeInstant s with | some i => startWake (runTo i s) | none => s)

/-- WAKE_EVENT (R475): a Breakwater demand, a host signal, a GPIO edge, a reset source or a write wakes the device at once. -/
def execWakeEvent (why : Nat) (s : State) : Host.Outcome State Fault Refusal :=
  .next (if why < 5 then startWake s else s)

/-- WAKE_ATTEMPT_TIMEOUT (R476): an attempt fails; after 10 ms in retention the next one has begun. After the third POWER_FAULT is set
and the fallback service starts. -/
def execWakeAttemptTimeout (pgLate refLate : Bool) (s : State) : Host.Outcome State Fault Refusal :=
  .next (if s.rp.waking && (pgLate || refLate) then
      let n := s.rp.wakeTries + 1
      let s := { s with rp := { s.rp with wakeTries := n, pgCore := false } }
      if n < 3 then runTo (s.time.acc + 10000000 * nsUnit) s
      else
        let s := { s with rp := { s.rp with waking := false, coreRet := true, refOscEn := false, fallback := true } }
        wrs (count s Obj.WAKE_FAILURES) [(Obj.POWER_FAULT, 1), (Obj.POWER_FAULT_CAUSE, b2n pgLate + 2 * b2n refLate)]
    else s)

/-- A write of 1 to `POWER_RETRY` (R476): three more attempts. -/
def writePowerRetry (s : State) : WriteResult :=
  if rdBool s Obj.POWER_FAULT = false then refuse s abState
  else accept { s with rp := { s.rp with waking := true, wakeTries := 0, wakeStart := s.time.acc, coreRet := false,
                                         refOscEn := true } }

/-- HOST_PORT_LINK_CHANGE (R314, R475): `PORT_LINK` follows the link, and in DORMANT a detected signal wakes the device. -/
def execHostPortLinkChange (port : Nat) (up : Bool) (s : State) : Host.Outcome State Fault Refusal :=
  .next (whenAlive .lookout (fun s =>
    if 3 ≤ port then s
    else
      let s := wr s (Obj.PORT_LINK port) (b2n up)
      if up && decide (rd s Obj.POWER_STATE = 3) then wakeNow s else s) s)

/-! ### The cove (R478 to R481) -/

/-- `COVE_ENDURANCE`, s: the charge of the bulk store above 1.6 V over the draw at the die temperature (R480). The draw
between the temperatures the manual names is a free value. -/
def coveEndurance (s : State) : Nat :=
  let i := Config.coveDrawUa (getD' s.rp.dieTemp 1 2500)
  if i = 0 then 0 else ((coveMv s 1 - 1600) * rd s Obj.COVE_BULK_F) / i % 2 ^ 32

/-- AUX_POWER_WARNING (R480): the pending events reach the tail, the energy copy is written, and time goes to the cove. -/
def execAuxPowerWarning (s : State) : Host.Outcome State Fault Refusal :=
  .next (
    let s := if alive s .lookout then commitAll (s.log.intake.length + s.log.dropped.length) s else s
    let s := handToCove s
    let s := if alive s .processing && s.cove.alive then refreshCopy s else s
    wr s Obj.COVE_ENDURANCE (coveEndurance s))

/-- The cove's contents are lost (R481). -/
def loseCove (s : State) : State :=
  let s := { s with cove := { Cove.reset with alive := false }, log := { s.log with tail := [], alarms := [] },
                    meter := { s.meter with copy := none } }
  let s := wrs s [(Obj.RESET_CAUSE, 0), (Obj.RESET_REACH_LAST, 3), (Obj.RESET_COUNT, 0), (Obj.LAST_RESET_TIME, 0), (Obj.LOG_NEXT_SEQ, 0), (Obj.TIME_EPOCH_NOW, 0),
    (Obj.ALARMS_UNACKED, 0), (Obj.COVE_ON_STORE_TIME, 0)]
  let s := allPlls.foldl (fun t k => wr t (Obj.PLL_STORED_VALID k) 0) s
  wrBlob s Obj.RESET_SOURCE_COUNTS []

/-- COVE_STORES_EXHAUSTED (R481): every store fell below 1.60 V; the cove stops and its contents are lost. -/
def execCoveStoresExhausted (s : State) : Host.Outcome State Fault Refusal := .next (loseCove s)

/-- COVE_COLD_START (R481, R490): cleared contents, COLD_STARTED, a fresh `LOG_ID`, station time at 0 s and unknown. -/
def execCoveColdStart (s : State) : Host.Outcome State Fault Refusal :=
  .next (
    let s := loseCove s
    let (ident, s) := drawBytes 4 s
    let s := wrs s [(Obj.LOG_ID, leNat ident), (Obj.COVE_STATUS, setBit (rd s Obj.COVE_STATUS) 6),
      (Obj.RESET_CAUSE, 2 ^ 12)]
    let s := count s Obj.COVE_COLD_STARTS
    { s with cove := { s.cove with alive := true }, rp := { s.rp with coveLost := true },
             log := { s.log with cold := true, ring := [] } })

/-- COVE_SECOND_RESYNC (R479): at a whole second the KEEP counter takes the time of TIME. -/
def execCoveSecondResync (s : State) : Host.Outcome State Fault Refusal :=
  .next (whenAlive .time (fun s =>
    let s := runTo ((s.time.acc + secUnit - 1) / secUnit * secUnit) s
    if s.cove.alive then { s with cove := { s.cove with time := s.time.acc } } else s) s)

/-- JUNCTION_TEMPERATURE_CHANGE (R520): a die sensor reads a temperature, in 0.01 °C; events at 145 °C, above 155 °C, and once
both have fallen below 140 °C. -/
def execJunctionTemperatureChange (die : Nat) (t : Int) (s : State) : Host.Outcome State Fault Refusal :=
  .next (
    let s := { s with rp := { s.rp with dieTemp := s.rp.dieTemp.set die t } }
    let hot := s.rp.dieTemp.any (fun x => decide (14500 ≤ x))
    let veryHot := s.rp.dieTemp.any (fun x => decide (15500 < x))
    let cool := s.rp.dieTemp.all (fun x => decide (x < 14000))
    let level (n : Nat) (s : State) : State := { s with rp := { s.rp with tempAlarm := n } }
    let s := if hot && decide (s.rp.tempAlarm = 0) then emit .junctionTemperatureHigh die [] (level 1 s) else s
    if veryHot && decide (s.rp.tempAlarm < 2) then emit .junctionTemperatureVeryHigh die [] (level 2 s)
    else if cool && decide (0 < s.rp.tempAlarm) then emit .junctionTemperatureNormal die [] (level 0 s)
    else s)

/-- A write of `DEVICE_RESET` (R460): codes 1 and 2 from an engineer in HELD, READY, BLOCKED or SAFE, code 3 from a safety
session in HELD or SAFE; the reset follows the response. -/
def writeDeviceReset (k v : Nat) (s : State) : WriteResult :=
  let st := station s
  let safety := decide (sessRole s k = 3)
  if safety && decide (v ≠ 3) then refuse s abAccess
  else if !safety && decide (v = 3) then refuse s abState
  else if v ≠ 3 ∧ [stHeld, stReady, stBlocked, stSafe].contains st = false then refuse s abState
  else if v = 3 ∧ [stHeld, stSafe].contains st = false then refuse s abState
  else accept { s with rp := { s.rp with resetDue := v } }

/-- Apply a `DEVICE_RESET` once its response has gone (R459, R460). -/
def applyReset (s : State) : State :=
  if s.rp.resetDue = 0 then s
  else resetFrom rcHost s.rp.resetDue { s with rp := { s.rp with resetDue := 0 } }

end Sys2Proof.Machine
end

