-- ==== Sys2Proof/Machine/Links.lean ====
section
/-! DEFINITION. Drove links: lane state, check values and tide frames (R44, R57, R58), their return (R264), slow records (R51,
R52), leaf delays (R61), round-trip measurement (R63), bridges (R66, R67), path faults and rejoin (R68, R265 to R268). -/

namespace Sys2Proof.Machine

/-! ### Turn plan and lane state -/

/-- `TURN_PLAN` of a drove. -/
def turnPlan (s : State) (d : Nat) : Nat := rd s (Obj.TURN_PLAN d)

/-- `TURN_AT` of the own frame; 0xFF when the lane carries IDLE and TRAIN sets only. -/
def ownTurn (s : State) (d : Nat) : Nat := bits (turnPlan s d) 15 8

/-- `TURN_AT` of the bridged frame; 0xFF when there is none. -/
def bridgedTurn (s : State) (d : Nat) : Nat := bits (turnPlan s d) 23 16

/-- Replace bits of `TURN_PLAN`. -/
def setPlan (d lo w v : Nat) (s : State) : State := wr s (Obj.TURN_PLAN d) (putBits (turnPlan s d) lo w v)

/-- Positions served by neither path: ORPHANS, with the event once (R266). -/
def setOrphans (d : Nat) (s : State) : State :=
  if bit (turnPlan s d) 1 then s else emit .leavesOrphaned d (leBytes 1 d) (setPlan d 1 1 1 s)

/-- The pair of a drove is enabled: `BRIDGE_ENABLE` on both, both in service (R66). -/
def pairOn (s : State) (d : Nat) : Bool :=
  let p := partner d
  droveOn s d && droveOn s p && rdBool s (Obj.BRIDGE_ENABLE d) && rdBool s (Obj.BRIDGE_ENABLE p)

/-- The lanes are silent in tide `n`: a re-tide or step silence (R328, R359), or DORMANT (R471). -/
def silentIn (s : State) (n : Nat) : Bool :=
  (match s.time.silence with
    | some q => decide (q.lastTide < n) || decide (tideStartAt s (q.lastTide + 1) ≤ s.time.acc)
    | none => false) || decide (rd s Obj.POWER_STATE = 3)

/-- The lanes run at the keep-alive rate (R69). -/
def keepAlive (s : State) : Bool := decide (rd s Obj.POWER_STATE = 2)

/-- `TURN_AT` of a drove's bridged frame from the next tide start on. -/
def bridgeDue (s : State) (d : Nat) : Nat :=
  match (droveOf s d).planDue with | some (_, br) => br | none => bridgedTurn s d

/-- `LANE_STATE` (R71). A plan decided at a return deadline shows at once. -/
def laneState (s : State) (d : Nat) : Nat :=
  let x := droveOf s d
  if droveOn s d = false then 0
  else if silentIn s (tideNow s) then 6
  else if keepAlive s then 5
  else if x.faulted then (if bridgeDue s d = 0xFF then 7 else 3)
  else if pairOn s d && (droveOf s (partner d)).faulted && bridgeDue s (partner d) ≠ 0xFF then 4
  else if x.locked && !x.training then 2 else 1

/-- Bring `LANE_STATE` up to date. -/
def showLane (d : Nat) (s : State) : State := wr s (Obj.LANE_STATE d) (laneState s d)

/-- A lane carries frames both ways. -/
def laneUp (s : State) (d : Nat) : Bool := [2, 3, 4].contains (laneState s d)

/-- The lane is faulted in a way that still runs its near leaves. -/
def planDefault (s : State) (d : Nat) : Nat :=
  if droveOn s d && decide (0 < rd s (Obj.DROVE_LEAVES d)) then rd s (Obj.DROVE_LEAVES d) - 1 else 0xFF

/-! ### Check values (R57, R58) -/

/-- The check value of a drove's parameters over bytes. -/
def droveCheck (s : State) (d : Nat) (bs : List Byte) : Nat :=
  crc (rd s (Obj.CHECK_WIDTH d)) (rd s (Obj.CHECK_POLY d)) (rd s (Obj.CHECK_INIT d)) (rdBool s (Obj.CHECK_INVERT d))
    (rdBool s (Obj.CHECK_REFLECT d)) bs

/-- A frame with its check value appended. -/
def withCheck (s : State) (d : Nat) (bs : List Byte) : List Byte := bs ++ leBytes 4 (droveCheck s d bs)

/-- Verdict on a received frame: 0 GOOD, 1 STOMPED, 2 BAD. -/
def verdict (s : State) (d : Nat) (bs : List Byte) : Nat :=
  let n := bs.length - 4
  let got := leNat (bs.drop n)
  let want := droveCheck s d (bs.take n)
  if bs.length < 4 then 2
  else if got = want then 0
  else if got = want ^^^ (2 ^ rd s (Obj.CHECK_WIDTH d) - 1) then 1 else 2

/-- Count a frame that is not GOOD: its counter, the fault source, the performance counter. A bridged frame counts at its own drove, whose
check it carries (DESIGN CHOICE, log entry 61). -/
def countVerdict (d v : Nat) (s : State) : State :=
  if v = 0 then s
  else pmcEvent 0x0D d 1 (countFault 0 srcLaneCheck d 1 (count s (if v = 1 then Obj.FRAMES_STOMPED d else Obj.FRAMES_BAD d)))

/-! ### Tide frames out (R44 to R46) -/

/-- Key of a command slot. -/
def slotKey (n L : Nat) : Nat := n % 2 * leafMax + L

/-- Command slot of leaf `L` for tide `n`. -/
def slotOf (s : State) (n L : Nat) : CmdSlot := Tbl.get (fun _ => CmdSlot.block) s.slots (slotKey n L)

/-- Write a command slot; a poisoned one is healed by it (R79). -/
def setSlot (n L : Nat) (c : CmdSlot) (s : State) : State :=
  { s with slots := Tbl.set (fun _ => CmdSlot.block) s.slots (slotKey n L) c,
           slotPoison := s.slotPoison.filter (fun k => k ≠ slotKey n L) }

/-- The 16 bytes of a slot as launched. `force` replaces every `MODE` by 0x04 (R332). -/
def slotBytes (s : State) (n L : Nat) (force : Bool) : List Byte :=
  let c := if leafOn s L then slotOf s n L else CmdSlot.block
  let seq := if s.slotPoison.contains (slotKey n L) then n + 1 else n
  leBytes 1 (if force then 4 else c.mode) ++ leBytes 1 (seq % 256) ++ leBytes 2 c.edge ++ leBytes 2 c.setpoint
    ++ List.replicate 10 0xFF

/-- Every slot of a drove is a block command. -/
def allBlocked (s : State) (n d : Nat) : Bool :=
  (leavesOf s d).all (fun L => bit (slotOf s n L).mode 2)

/-- `LAUNCH_OFFSET` of a tide frame, 0.1 ns (R44): a bridged frame's START leaves the partner's lane 1.8 µs after that lane's own (R265). -/
def launchAt (d : Nat) (bridged : Bool) : Nat :=
  if bridged then 18000 + Config.launchOffset (partner d) else Config.launchOffset d

/-- The 32 header bytes of a tide frame (R44). -/
def tideHeader (s : State) (n d turn : Nat) (bridged blockAll : Bool) (kind : Nat) : List Byte :=
  leBytes 1 kind ++ leBytes 1 (b2n bridged + 2 * b2n blockAll) ++ leBytes 1 d ++ leBytes 1 turn ++ leBytes 8 n
    ++ leBytes 2 (rd s Obj.TIDE_PERIOD) ++ leBytes 2 (rd s Obj.APPLY_MARK) ++ leBytes 2 (launchAt d bridged) ++ leBytes 1 0xFF
    ++ leBytes 1 0 ++ leBytes 4 (tideStartAt s n / secUnit) ++ leBytes 8 0

/-- The tide frame of drove `d` in tide `n`: full form, or the keep-alive form of R69. -/
def tideFrame (s : State) (n d turn : Nat) (bridged force : Bool) : List Byte :=
  if keepAlive s then withCheck s d (tideHeader s n d turn bridged true 0x03)
  else
    withCheck s d (tideHeader s n d turn bridged (force || allBlocked s n d) 0x01
      ++ (List.range 128).flatMap (fun p => slotBytes s n (d * 128 + p) force))

/-- Codes of the ordered sets (R40). -/
abbrev osBlock : Nat := 0x01
/-- BLOCK_RELEASE -/
abbrev osRelease : Nat := 0x02
/-- TRAIN_A -/
abbrev osTrainA : Nat := 0x20
/-- TRAIN_B -/
abbrev osTrainB : Nat := 0x21
/-- LANE_RATE -/
abbrev osLaneRate : Nat := 0x40
/-- LANE_SLEEP -/
abbrev osLaneSleep : Nat := 0x41

/-- Bytes 2 to 7 of a BLOCK set. -/
def blockArg : Nat := leNat [0xC3, 0x3C, 0xC3, 0x3C, 0xC3, 0x3C]

/-- Bytes 2 to 7 of a BLOCK_RELEASE naming a tide. -/
def releaseArg (n : Nat) : Nat := n % 2 ^ 32 + leNat [0xA5, 0x5A] * 2 ^ 32

/-- Bytes 2 to 7 of TRAIN_A: width, polynomial, reflection and inversion. -/
def trainA (s : State) (d : Nat) : Nat :=
  rd s (Obj.CHECK_WIDTH d) + rd s (Obj.CHECK_POLY d) * 2 ^ 8 + (rd s (Obj.CHECK_REFLECT d) + 2 * rd s (Obj.CHECK_INVERT d)) * 2 ^ 40

/-- Bytes 2 to 7 of TRAIN_B as the device sends it: initial value, drove, position 0. In the bridged direction bit 7 is set, and the
position is that of the drove's last leaf, whose down port it reaches first (DEDUCED from R43, log entry 63). -/
def trainB (s : State) (d : Nat) (bridged : Bool) : Nat :=
  rd s (Obj.CHECK_INIT d) + (if bridged then (128 + d % 128) * 2 ^ 32 + (rd s (Obj.DROVE_LEAVES d) - 1) * 2 ^ 40 else d % 128 * 2 ^ 32)

/-- Send an ordered set on a lane. -/
def sendSet (d kind arg : Nat) (s : State) : State := send (.orderedSet d kind arg) s

/-- The TRAIN sets of drove `d` on a lane (R40, R56). -/
def sendTrain (lane d : Nat) (bridged : Bool) (s : State) : State :=
  sendSet lane osTrainB (trainB s d bridged) (sendSet lane osTrainA (trainA s d) s)

/-- The ordered sets that follow a lane's own tide frame: the TRAIN sets, and the announcement of a rate change or a sleep in each of
the 8 tides before it (R56, R69, R70): of keep-alive (2) or full rate (1) from tide n + k on, of a sleep (3) after tide n + k - 1. -/
def sendTrains (n d : Nat) (s : State) : State :=
  let s := sendTrain d d false s
  let s := match s.time.silence with
    | some q => if n ≤ q.lastTide then sendSet d osLaneSleep (q.lastTide % 2 ^ 32) s else s
    | none => s
  let k := s.rp.entering.2
  match s.rp.entering.1 with
  | 2 => if 1 ≤ k then sendSet d osLaneRate ((n + k) % 2 ^ 32 + 2 ^ 32 + 16 * 2 ^ 40) s else s
  | 1 => if 1 ≤ k then sendSet d osLaneRate ((n + k) % 2 ^ 32 + 16 * 2 ^ 40) s else s
  | 3 => if 2 ≤ k then sendSet d osLaneSleep ((n + k - 1) % 2 ^ 32) s else s
  | _ => s

/-- A poisoned slot launched in tide `n`: the record's POISONED bit, `SLOT_POISON_SKIPS` and the sequencer's source (R79). -/
def notePoison (n L : Nat) (s : State) : State :=
  if s.slotPoison.contains (slotKey n L) then
    countFault 0 srcSequencer (L / 1024) 1 (count (setTideBits n L (setBit (tideBits s n L) trPoisoned) s) Obj.SLOT_POISON_SKIPS)
  else s

/-- The frame of the partner that lane `d` carries right after its own (R68), with the TRAIN sets of that drove. -/
def launchBridged (n : Nat) (force : Bool) (d : Nat) (s : State) : State :=
  let p := partner d
  let br := bridgedTurn s p
  if br = 0xFF ∨ pairOn s d = false then s
  else
    sendTrain d p true
      (setDrove p (fun x => { x with launchedBr := true }) (send (.tideFrame d (tideFrame s n p br true force)) s))

/-- What lane `d` sends at the start of tide `n` (R44, R56, R68, R33): its own tide frame, the ordered sets, and the partner's frame. In
the quiet tides of a rate change it sends nothing (R69). -/
def launchDrove (n : Nat) (force : Bool) (d : Nat) (s : State) : State :=
  if droveOn s d = false ∨ silentIn s n = true ∨ 0 < s.rp.quiet then s
  else
    let own := ownTurn s d
    let s := (leavesOf s d).foldl (fun t L => notePoison n L t) s
    let s := if own = 0xFF then s
      else setDrove d (fun x => { x with launched := true }) (send (.tideFrame d (tideFrame s n d own false force)) s)
    launchBridged n force d (sendTrains n d s)

/-- Forget the returns of the previous tide of `p` ns. A slack-water frame still out is awaited for another tide after it was counted
lost. -/
def Drove.newTide (p : Nat) (x : Drove) : Drove :=
  let fly := (x.flying.filter (fun f => !(f.lost && decide (f.due = 0)))).map (fun (f : Flight) => { f with due := f.due - p })
  { x with launched := false, launchedBr := false, own := .none, bridged := .none, pollSent := false, slackUsed := 0,
           slackFrames := 0, flying := fly }

/-- A plan or a rejoin decided at a return deadline takes effect at the tide start (R68, R267, R268). -/
def applyPlan (d : Nat) (s : State) : State :=
  let x := droveOf s d
  let s := if x.rejoinDue then
      let s := setPlan d 16 8 0xFF (setPlan d 8 8 (planDefault s d) s)
      setDrove d (fun x => { x with rejoinDue := false, rejoinAsk := false, rejoinTides := 2, rejoinBad := 0, fails := 0,
                                    short := none, planDue := none, trial := 0, loopSum := 0, loopCount := 0, loopTides := 0 }) s
    else match x.planDue with
      | some (own, br) =>
        setDrove d (fun x => { x with planDue := none, fails := 0, short := none }) (setPlan d 16 8 br (setPlan d 8 8 own s))
      | none => s
  -- a drove enabled or resized in HELD runs its whole length from the next tide start (R323)
  let s := if (droveOf s d).faulted = false ∧ ownTurn s d ≠ planDefault s d then setPlan d 8 8 (planDefault s d) s else s
  showLane d s

/-- The tide records and ring entries of tide `n` begin: every slot missing until it returns (R74, R76). -/
def beginRecords (n : Nat) (s : State) : State :=
  let lo := n % 64 * leafMax
  let s := { s with tideRec := s.tideRec.filter (fun p => decide (p.1 < lo) || decide (lo + leafMax ≤ p.1))
                    begun := n % 64 :: s.begun.filter (fun m => m ≠ n % 64)
                    mem := s.mem.filter (fun c => decide (c.1 < ringKey n 0) || decide (ringKey n 0 + 163840 ≤ c.1)) }
  (allLeaves s).foldl (fun t L =>
    setRing n L missingBytes (setTideBits n L (1 + 4 * b2n (t.repeated.contains L)) t)) s

/-- The link sequencers at the start of tide `n`. -/
def launchAll (n : Nat) (force : Bool) (s : State) : State :=
  let ask (_ : Nat) (x : Leaf) : Leaf := { x with statusAt := x.statusNew, served := false }
  let s := { s with droves := Tbl.mapAll (fun _ => Drove.off) (fun _ x => x.newTide (periodNs s)) s.droves
                    leaves := Tbl.mapAll (fun _ => Leaf.unknown) ask s.leaves }
  let s := (drovesOn s).foldl (fun t d => applyPlan d t) s
  let s := beginRecords n s
  let s := (drovesOn s).foldl (fun t d => launchDrove n force d t) s
  { s with repeated := [] }

/-! ### Leaf delays (R61, R67) -/

/-- L(k) from the latest slow record latched on the normal path, 0.1 ns. -/
def loopTime (s : State) (L : Nat) : Option Nat := (leafOf s L).loopNormal

/-- Σ of f(i) - r(i) over the positions below `k`. -/
def latencySkew (s : State) (d k : Nat) : Int :=
  sumInt ((List.range k).map (fun i => ((leafOf s (d * 128 + i)).fwd : Int) - ((leafOf s (d * 128 + i)).ret : Int)))

/-- Σ of f(i) over positions `lo` to `hi - 1`. -/
def sumFwd (s : State) (d lo hi : Nat) : Int :=
  sumInt ((List.range (hi - lo)).map (fun i => ((leafOf s (d * 128 + lo + i)).fwd : Int)))

/-- Σ of f(i) + r(i) over a drove. -/
def sumBoth (s : State) (d : Nat) : Int :=
  sumInt ((leavesOf s d).map (fun L => ((leafOf s L).fwd : Int) + ((leafOf s L).ret : Int)))

/-- Normal-path outbound delay D(k), 0.1 ns; none before T_loop and L(k) are known. Its half, like the average T_loop, is rounded to
nearest, ties to even (DESIGN CHOICE, log entry 61). -/
def normalDelay (s : State) (d k : Nat) : Option Int :=
  match (droveOf s d).tloop, loopTime s (d * 128 + k) with
  | some t, some l =>
    some (divHalfEven ((t : Int) - (l : Int) + latencySkew s d k) 2 + rdInt 16 s (Obj.LEAF_DELAY_TRIM d k))
  | _, _ => none

/-- Bridged-path outbound delay of position `k`, from the partner's measurements, the bridge loop and the drove's own leaves. -/
def bridgedDelay (s : State) (d k : Nat) : Option Int :=
  let p := partner d
  let np := rd s (Obj.DROVE_LEAVES p)
  let n := rd s (Obj.DROVE_LEAVES d)
  if pairOn s d = false ∨ np = 0 ∨ n = 0 ∨ rd s (Obj.BRIDGE_LOOP d) = 0xFFFF then none
  else match normalDelay s p (np - 1), normalDelay s d (n - 1), normalDelay s d k with
    | some dp, some dn, some dk =>
      some (dp + ((leafOf s (p * 128 + np - 1)).fwd : Int) + divHalfEven (rd s (Obj.BRIDGE_LOOP d) : Int) 2
        + (dn - dk - sumFwd s d k (n - 1)) + sumFwd s d (k + 1) n)
    | _, _, _ => none

/-- The two delays a WELCOME carries (R55). -/
def welcomeDelays (s : State) (L : Nat) : Nat × Nat :=
  let d := L / 128
  let k := L % 128
  let a := match normalDelay s d k with | some v => v.toNat | none => Config.earlyDelay L
  let b := match bridgedDelay s d k with
    | some v => match (leafOf s L).loopBridged with
      | some l => if 32 ≤ (leafOf s L).bridgeTides then Config.refinedBridge L v.toNat l else v.toNat
      | none => v.toNat
    | none => 0xFFFFFFFF
  (a % 2 ^ 32, b % 2 ^ 32)

/-- Two delays differ by more than 0.5 ns. -/
def delayMoved (a b : Nat) : Bool := decide (a + 5 < b) || decide (b + 5 < a)

/-- A WELCOME is owed when a delay has moved by more than 0.5 ns since the last one (R55). -/
def judgeDelay (L : Nat) (s : State) : State :=
  match (leafOf s L).welcomeSent with
  | some (a, b) =>
    let w := welcomeDelays s L
    if delayMoved a w.1 || delayMoved b w.2 then setLeaf L (fun x => { x with welcomeOwed := true, welcomeFrames := [] }) s else s
  | none => s

/-- `BRIDGE_ROUND_TRIP` and `BRIDGE_OUTBOUND_PASSAGE` of a drove (R67), 0.1 ns; 0 without a bridge or before its parts are known. -/
def showBridge (d : Nat) (s : State) : State :=
  let p := partner d
  let n := rd s (Obj.DROVE_LEAVES d)
  let np := rd s (Obj.DROVE_LEAVES p)
  let v : Nat × Nat :=
    if pairOn s d = false ∨ n = 0 ∨ np = 0 ∨ rd s (Obj.BRIDGE_LOOP d) = 0xFFFF then (0, 0)
    else match (droveOf s p).tloop, normalDelay s p (np - 1), normalDelay s d (n - 1), normalDelay s d 0 with
      | some tp, some dp, some dn, some d0 =>
        let inter := dn - d0 - sumFwd s d 0 (n - 1)
        let launch : Int := Config.launchOffset p
        ((18000 + launch + (tp : Int) + sumBoth s d + (rd s (Obj.BRIDGE_LOOP d) : Int) + 2 * inter + (Config.gatherLatency d : Int)
            + 16704).toNat,
          (18000 + launch + dp + ((leafOf s (p * 128 + np - 1)).fwd : Int) + sumFwd s d 0 n
            + divHalfEven (rd s (Obj.BRIDGE_LOOP d) : Int) 2 + inter + 16704).toNat)
      | _, _, _, _ => (0, 0)
  wrs s [(Obj.BRIDGE_ROUND_TRIP d, v.1), (Obj.BRIDGE_OUTBOUND_PASSAGE d, v.2)]

/-- T_LOOP_AVERAGE (R61, R55): a new average once 1,024 tides have passed, rounded to nearest, ties to even (DESIGN CHOICE, log entry 61);
delays are judged again. -/
def execTLoopAverage (d : Nat) (s : State) : Host.Outcome State Fault Refusal :=
  .next (whenAlive .fabric (fun s =>
    let x := droveOf s d
    if x.loopCount = 0 ∨ x.loopTides < 1024 then s
    else
      let t := (divHalfEven (x.loopSum : Int) x.loopCount).toNat
      let s := setDrove d (fun x => { x with tloop := some t, loopSum := 0, loopCount := 0, loopTides := 0 }) s
      let s := showBridge (partner d) (showBridge d s)
      (leavesOf s d).foldl (fun t L => judgeDelay L t) s) s)

/-! ### Round-trip measurement (R63, R19) -/

/-- A measurement of a drove begins: `RT_MEASURE` reads 1. -/
def startMeasure (d : Nat) (s : State) : State :=
  setDrove d (fun x => { x with measure := some 0, measWant := false, measMax := 0, measTurn := none, measBad := false })
    (wr s (Obj.RT_MEASURE d) 1)

/-- Something makes a running measurement fail. -/
def spoilMeasure (d : Nat) (s : State) : State :=
  match (droveOf s d).measure with
  | some _ => setDrove d (fun x => { x with measBad := true }) s
  | none => s

/-- A drove can be measured: its lane holds lock and its configured leaves all returned their latest slot. -/
def measurable (s : State) (d : Nat) : Bool :=
  (droveOf s d).locked && !(leavesOf s d).isEmpty && (leavesOf s d).all (fun L => decide (0 < (leafOf s L).goodRun))

/-- A measurement of a drove is to be made: it begins now where the drove can be measured, else at the first return deadline in HELD
at which it can (DEDUCED from R63 and R323: a drove whose leaves change cannot return their slots at the write). -/
def wantMeasure (d : Nat) (s : State) : State :=
  if measurable s d then startMeasure d s else setDrove d (fun x => { x with measWant := true }) s

/-- Entry to HELD measures every enabled drove (R63). -/
def measureAll (s : State) : State := (drovesOn s).foldl (fun t d => wantMeasure d t) s

/-- `MIN_PERIOD` (R22, R27): 0 until every drove in service has been measured. -/
def showMinPeriod (s : State) : State :=
  let rts := (drovesOn s).map (fun d => rd s (Obj.ROUND_TRIP d))
  wr s Obj.MIN_PERIOD (if rts.any (fun r => r = 0) then 0 else (maxNat rts + 849) / 850)

/-- Measured round trips leave the objects of a drove (R323). -/
def clearMeasure (d : Nat) (s : State) : State :=
  showMinPeriod (setDrove d (fun x => { x with measure := none, measWant := false })
    (wrs s [(Obj.RT_MEASURE d, 0), (Obj.ROUND_TRIP d, 0), (Obj.OUTBOUND_PASSAGE d, 0), (Obj.EARLIEST_TELEMETRY d, 0)]))

/-- Code block of a tide frame, counted from START, that carries frame byte `o`; a block takes 6.4 ns. -/
def blockOfByte (o : Nat) : Nat := if o < 7 then 0 else 1 + (o - 7) / 8

/-- The earliest instant at which any leaf's slot bytes 6 to 15 reach it on the second pass, 0.1 ns (DEDUCED from R59 and R61: the
arrival of the second-pass START at the leaf plus the code blocks before slot byte 6). -/
def earliestTelemetry (s : State) (d : Nat) : Nat :=
  let ts := (leavesOf s d).filterMap (fun L =>
    match normalDelay s d (L % 128), loopTime s L with
    | some dk, some l => some (Config.launchOffset d + dk.toNat + l + 64 * blockOfByte (32 + 16 * (L % 128) + 6))
    | _, _ => none)
  match ts with
  | [] => 0
  | t :: rest => rest.foldl min t

/-- Two phases in 1/64 cycle differ by more than 8/64. -/
def phaseDrift (a b : Nat) : Bool :=
  let x := (a + 64 - b % 64) % 64
  decide (8 < min x (64 - x))

/-- The drift event of a lane (R19). -/
def driftEvent (d : Nat) (s : State) : State := countFault 0 srcLanePhase d 1 (emit .laneTidePhaseDrift d (leBytes 1 d) s)

/-- Tides a measurement lasts (R63). -/
abbrev measureTides : Nat := 4096

/-- The phase of a lane measured now becomes its reference (R19); where it is the first after a renewing event and differs by more than
8/64 from the old reference, the drift event is raised. -/
def takePhase (d p : Nat) (s : State) : State :=
  let x := droveOf s d
  let far := match x.phaseRef with | some r => phaseDrift p r | none => false
  let s := if x.phaseRenew && far then driftEvent d s else s
  setDrove d (fun x => { x with phaseRef := some p, phaseRenew := false }) (wr s (Obj.LANE_TIDE_PHASE d) p)

/-- The results of a measurement (R63, R19, R67). -/
def measured (d phase : Nat) (s : State) : State :=
  let x := droveOf s d
  let last := d * 128 + (rd s (Obj.DROVE_LEAVES d) - 1)
  let out := Config.launchOffset d + (welcomeDelays s last).1 + (leafOf s last).fwd + 16704
  let s := wrs s [(Obj.RT_MEASURE d, 2), (Obj.ROUND_TRIP d, x.measMax), (Obj.OUTBOUND_PASSAGE d, out),
    (Obj.EARLIEST_TELEMETRY d, earliestTelemetry s d)]
  showMinPeriod (showBridge (partner d) (showBridge d (takePhase d (phase % 64) s)))

/-- RT_MEASUREMENT_END (R63, R19): the results after 4,096 tides, or a failure that keeps the previous values. -/
def execRtMeasurementEnd (d phase : Nat) (s : State) : Host.Outcome State Fault Refusal :=
  .next (whenAlive .fabric (fun s =>
    let x := droveOf s d
    match x.measure with
    | none => s
    | some n =>
      let t := setDrove d (fun x => { x with measure := none }) s
      if x.measBad || decide (station s ≠ stHeld) then wr t (Obj.RT_MEASURE d) 3
      else if n < measureTides then s
      else if x.measMax = 0 then wr t (Obj.RT_MEASURE d) 3
      else measured d phase t) s)

/-- LANE_PHASE_CHECK (R19): once a second the present phase is compared with the reference; after a renewing event it becomes the
reference, with the drift event only where it differs by more than 8/64 from the old one. -/
def execLanePhaseCheck (d phase : Nat) (s : State) : Host.Outcome State Fault Refusal :=
  .next (whenAlive .link (fun s =>
    let x := droveOf s d
    let p := phase % 64
    match x.phaseRef with
    | none => s
    | some r => if x.phaseRenew then takePhase d p s else if phaseDrift p r then driftEvent d s else s) s)

/-- RT_MARGIN_SECOND (R65): the smallest return margin of the second, with the event below 200 ns. -/
def execRtMarginSecond (d : Nat) (s : State) : Host.Outcome State Fault Refusal :=
  .next (whenAlive .fabric (fun s =>
    match (droveOf s d).margin with
    | none => s
    | some m =>
      let s := setDrove d (fun x => { x with margin := none }) (wrInt 32 s (Obj.RT_MARGIN d) m)
      if m < 200 then emit .droveReturnMarginLow d (leBytes 1 d ++ leBytes 4 (ofSigned 32 m)) s else s) s)

/-- The last leaf of a drove has not reported `BRIDGE_LOOP` for 10 s (R66). -/
def bridgeSilent (s : State) (d : Nat) : Bool := decide ((droveOf s d).bridgeSeen + 10 * secUnit ≤ s.time.acc)

/-- BRIDGE_UNAVAILABLE_TIMEOUT (R66): neither last leaf of a pair has reported `BRIDGE_LOOP` for 10 s. -/
def execBridgeUnavailableTimeout (pair : Nat) (s : State) : Host.Outcome State Fault Refusal :=
  .next (whenAlive .fabric (fun s =>
    if pairOn s (2 * pair) && bridgeSilent s (2 * pair) && bridgeSilent s (2 * pair + 1) then
      emit .tailBridgeUnavailable (2 * pair) (leBytes 1 (2 * pair)) s
    else s) s)

/-! ### Lanes (R36, R38) -/

/-- LANE_LOCK_LOSS (R36): counted in `LOCK_LOSSES` and in LANE_PATH; a running measurement fails. -/
def execLaneLockLoss (d : Nat) (s : State) : Host.Outcome State Fault Refusal :=
  .next (whenAlive .link (fun s =>
    if d < droveCount s then
      let s := setDrove d (fun x => { x with locked := false, training := true }) (spoilMeasure d s)
      showLane d (countFault 0 srcLanePath d 1 (count s (Obj.LOCK_LOSSES d)))
    else s) s)

/-- LANE_BLOCK_LOCK_GAINED (R36): the lane leaves training. -/
def execLaneBlockLockGained (d : Nat) (s : State) : Host.Outcome State Fault Refusal :=
  .next (whenAlive .link (fun s =>
    if d < droveCount s then showLane d (setDrove d (fun x => { x with locked := true, training := false }) s) else s) s)

/-! ### Path faults and rejoin -/

/-- What a path fault does to the queues of a drove (R252, R254): a retransmission falls due for every queue that placed a segment in tide
`last` or the one before it. -/
def faultQueues (d last : Nat) (s : State) : State :=
  (leavesOf s d).foldl (fun t L =>
    let t := dropParts L t
    (downQueues L).foldl (fun u id =>
      match (queueOf u id).placed with
      | some n => if last ≤ n + 1 then retransmit id u else u
      | none => u) t) s

/-- The partner returns full frames: its latest return that was neither BAD nor STOMPED was one. -/
def partnerFull (s : State) (d : Nat) : Bool :=
  let p := partner d
  pairOn s d && !(droveOf s p).faulted && (match (droveOf s p).own with
    | .good t => decide (t = planDefault s p)
    | .bad => (droveOf s p).full
    | .none => false)

/-- A path fault is declared on a drove (R68, R265); `j` is the last short turn, `last` the last tide before the declaration. -/
def pathFault (d : Nat) (j : Option Nat) (last : Nat) (s : State) : State :=
  let own := j.getD 0xFF
  let br := if partnerFull s d then (match j with | some v => v + 1 | none => 0) else 0xFF
  let s := count (emit .lanePathFault d (leBytes 1 d ++ leBytes 1 own) s) Obj.PATH_FAULTS
  let s := faultQueues d last (countFault 0 srcLanePath d 1 s)
  let s := setDrove d (fun x => { x with faulted := true, trial := 0, planDue := some (own, br), fails := 0, short := none,
                                         rejoinDue := false, rejoinAsk := false }) s
  let s := if br = 0xFF then setOrphans d s else s
  -- a drove that this one carried loses its bridged service (R276)
  let p := partner d
  let s := if (droveOf s p).faulted ∧ bridgeDue s p ≠ 0xFF then
      let own := match (droveOf s p).planDue with | some (o, _) => o | none => ownTurn s p
      setOrphans p (setDrove p (fun x => { x with planDue := some (own, 0xFF) }) s)
    else s
  showLane p (showLane d s)

/-- Judge the own frame of a drove at the return deadline (R68, R265). -/
def judgeOwn (d : Nat) (s : State) : State :=
  let x := droveOf s d
  if x.launched = false then s
  else
    let fail (short : Option Nat) : State :=
      let j := match short with | some v => some v | none => x.short
      if 1 ≤ x.fails then
        (if x.trial = 1 then
          -- the trial of R265 ends: back to IDLE and TRAIN sets, no new path fault
          setDrove d (fun x => { x with trial := 2, planDue := some (0xFF, bridgedTurn s d), fails := 0, short := none }) s
        else
          let s := if 0 < x.rejoinTides then
              let n := min 255 (bits (turnPlan s d) 31 24 + 1)
              let s := count (emit .laneRejoinFailed d (leBytes 1 d) (setPlan d 24 8 n s)) Obj.REJOIN_FAILS
              let s := if rd s Obj.REJOIN_TRIES ≤ n then setPlan d 0 1 1 s else s
              setDrove d (fun x => { x with rejoinTides := 0 }) s
            else s
          pathFault d j (tideNow s) s)
      else setDrove d (fun x => { x with fails := 1, short := short }) s
    match x.own with
    | .bad => s
    | .none => setDrove d (fun x => { x with full := false }) (fail none)
    | .good t =>
      let full := decide (t = planDefault s d)
      setDrove d (fun x => { x with full := full })
        (if t < ownTurn s d then fail (some t) else setDrove d (fun x => { x with fails := 0, short := none }) s)

/-- Judge the bridged frame of a drove (R265, R266). -/
def judgeBridged (d : Nat) (s : State) : State :=
  let x := droveOf s d
  if x.launchedBr = false then s
  else match x.bridged with
    | .good b =>
      let s := if bridgedTurn s d < b then setOrphans d s else s
      if ownTurn s d = 0xFF ∧ 0 < b ∧ x.trial = 0 then
        setDrove d (fun x => { x with trial := 1, planDue := some (b - 1, bridgedTurn s d) }) s
      else s
    | _ => s

/-- Missing frames of a drove at the return deadline (R24, R275): counted, and a running measurement fails. -/
def countMissing (d : Nat) (s : State) : State :=
  let x := droveOf s d
  let n := b2n (x.launched && decide (x.own = .none)) + b2n (x.launchedBr && decide (x.bridged = .none))
  if n = 0 then s else spoilMeasure d (countBy 32 s (Obj.FRAMES_MISSING d) n)

/-- A measurement under way and the average of T_loop count the tide; a measurement that is wanted begins once the drove can be
measured. -/
def stepMeasure (d : Nat) (s : State) : State :=
  let s := setDrove d (fun x => { x with loopTides := x.loopTides + 1 }) s
  match (droveOf s d).measure with
  | some n => setDrove d (fun x => { x with measure := some (n + 1) }) s
  | none => if (droveOf s d).measWant && decide (station s = stHeld) && measurable s d then startMeasure d s else s

/-- The links at the return deadline. -/
def judgeLanes (s : State) : State :=
  (drovesOn s).foldl (fun t d => stepMeasure d (judgeBridged d (judgeOwn d (countMissing d t)))) s

/-- Station time since which a leaf's slow records have shown a link, at least `REJOIN_HOLD` ago. -/
def heldSince (s : State) (t : Option Nat) : Bool :=
  match t with
  | some a => decide (a + rd s Obj.REJOIN_HOLD * 1000000 * nsUnit ≤ s.time.acc)
  | none => false

/-- No slow record of a leaf accepted in the last `REJOIN_HOLD` has shown its up link missing; a leaf that reports nothing has shown
nothing. -/
def upHeld (s : State) (L : Nat) : Bool := (leafOf s L).upLost.isNone || heldSince s (leafOf s L).upLost

/-- The conditions of R267. The lane of a drove with no turning leaf must hold lock instead (DEDUCED). -/
def rejoinReady (s : State) (d : Nat) : Bool :=
  let x := droveOf s d
  let own := ownTurn s d
  x.faulted && ((rdBool s Obj.REJOIN_AUTO && !bit (turnPlan s d) 0) || x.rejoinAsk)
    && (if own = 0xFF then x.locked
        else heldSince s (leafOf s (d * 128 + own)).downSince && upHeld s (d * 128 + own + 1))
    && !blockInForce s && !keepAlive s && !silentIn s (tideNow s)

/-- LANE_REJOIN (R267): the conditions hold at a return deadline; the full frame goes out again from the next tide start. -/
def execLaneRejoin (d : Nat) (s : State) : Host.Outcome State Fault Refusal :=
  .next (whenAlive .fabric (fun s =>
    if droveOn s d && rejoinReady s d then setDrove d (fun x => { x with rejoinDue := true, faulted := false }) s else s) s)

/-- The rejoin of a drove is confirmed at its first full GOOD return (R268). -/
def confirmRejoin (d turn : Nat) (s : State) : State :=
  if 0 < (droveOf s d).rejoinTides ∧ turn = planDefault s d then
    let s := setPlan d 24 8 0 (setPlan d 1 1 0 s)
    emit .laneRejoined d (leBytes 1 d) (count (setDrove d (fun x => { x with rejoinTides := 0, trial := 0 }) s) Obj.REJOINS)
  else s

/-- A write of `REJOIN_REQUEST` (R267): it also clears REJOIN_HELD. -/
def rejoinRequest (d : Nat) (s : State) : WriteResult :=
  if droveCount s ≤ d then refuse s abRange
  else accept (setPlan d 0 1 0 (setDrove d (fun x => { x with rejoinAsk := true }) s))

/-! ### Tide frames back (R58, R264) -/

/-- One slot of a GOOD frame: stored, snooped, its STATUS kept (R74, R75, R95, R230). -/
def takeSlot (n L : Nat) (bs : List Byte) (bridged : Bool) (s : State) : State :=
  let st := slotWord bs 3
  if st = 0xFFFF ∨ leafOn s L = false then s
  else
    let s := setLeaf L (fun x => { x with statusNew := st, bridgeTides := if bridged then x.bridgeTides + 1 else 0,
                                          loopBridged := if bridged then x.loopBridged else none }) s
    let v := tideBits s n L
    let s := if bit st 7 then setTideBits n L (setBit (setBit v trMissing) trStale) s
      else setRing n L bs (setTideBits n L (clearBit v trMissing) s)
    snoop L st s

/-- The slots of a GOOD frame in its turning range: positions 0 to `TURN_AT` of an own frame, `TURN_AT` to N - 1 of a bridged one. -/
def takeSlots (n : Nat) (r : TideReturn) (s : State) : State :=
  let hi := rd s (Obj.DROVE_LEAVES r.d)
  let lo := if r.bridged then bridgedTurn s r.d else 0
  let top := if r.bridged then hi else min hi (ownTurn s r.d + 1)
  (List.range (top - lo)).foldl (fun t i =>
    takeSlot n (r.d * 128 + lo + i) (slice r.bytes (32 + 16 * (lo + i) + 6) 10) r.bridged t) s

/-- A GOOD tide frame (R58). -/
def goodFrame (n : Nat) (r : TideReturn) (s : State) : State :=
  let turn := leNat (slice r.bytes 18 1)
  let full := decide (leNat (slice r.bytes 0 1) = 1)
  let d := r.d
  let s := countBy 64 s (Obj.FRAMES_GOOD d) 1
  let s := if r.bridged then setDrove d (fun x => { x with bridged := .good turn }) s
    else
      let s := setDrove d (fun x =>
        { x with own := .good turn
                 measMax := max x.measMax r.arrive
                 measBad := x.measBad || (match x.measTurn with | some t => decide (t ≠ turn) | none => false)
                 measTurn := match x.measTurn with | some t => some t | none => some turn
                 loopSum := if full && decide (turn = planDefault s d) then x.loopSum + r.loop else x.loopSum
                 loopCount := if full && decide (turn = planDefault s d) then x.loopCount + 1 else x.loopCount }) s
      confirmRejoin d turn (wr s (Obj.TURN_POSITION d) turn)
  if full then takeSlots n r s else s

/-- The arrival of a returned tide frame: its histogram (R500) and its margin to the return deadline, negative past it (R65). The arrival
is rounded down to whole ns (DESIGN CHOICE, log entry 61). -/
def noteArrival (d arrive : Nat) (s : State) : State :=
  let m : Int := (rd s Obj.RETURN_DEADLINE : Int) - ((arrive / 10 : Nat) : Int)
  setDrove d (fun x => { x with margin := some (match x.margin with | some y => min y m | none => m) }) (observe 0 d (arrive / 10) s)

/-- The receiver of a lane has met `n` invalid code blocks (R39). -/
def noteInvalid (d n : Nat) (s : State) : State :=
  if n = 0 ∨ droveOn s d = false then s else setDrove d (fun x => { x with invalid := x.invalid + n }) s

/-- TIDE_FRAME_RETURN (R58, R264): a frame that comes back after the return deadline is discarded whole; only its margin counts. -/
def execTideFrameReturn (ret : TideReturn) (s : State) : Host.Outcome State Fault Refusal :=
  .next (whenAlive .fabric (fun s =>
    let d := ret.d
    let x := droveOf s d
    let due := if ret.bridged then x.launchedBr else x.launched
    let s := noteInvalid (if ret.bridged then partner d else d) ret.invalid s
    if droveOn s d = false ∨ due = false then s
    else
      let late := decide (rd s Obj.RETURN_DEADLINE * 10 < ret.arrive)
      let s := noteArrival d ret.arrive s
      let v := verdict s d ret.bytes
      if late then s
      else
        let s := countVerdict d v s
        if v = 0 then goodFrame (tideNow s) ret s
        else if ret.bridged then setDrove d (fun x => { x with bridged := .bad }) s
        else setDrove d (fun x => { x with own := .bad }) s) s)

/-! ### Slow records (R51, R52, R66) -/

/-- What an accepted slow record brings (R52, R61, R66, R267). -/
def takeSlow (n L : Nat) (bs : List Byte) (s : State) : State :=
  let ps := leNat (slice bs 58 1)
  let since (old : Option Nat) (on : Bool) : Option Nat := if on then some (old.getD s.time.acc) else none
  let loop := leNat (slice bs 48 4)
  let s := setLeaf L (fun x =>
    { x with slow := ((n - n % 32, bs) :: x.slow).take 4, slowGap := false,
             loopNormal := if x.slowBridged then x.loopNormal else some loop,
             loopBridged := if x.slowBridged then some loop else x.loopBridged,
             upLost := if bit ps 0 then x.upLost else some s.time.acc, downSince := since x.downSince (bit ps 1) }) s
  let d := L / 128
  if L % 128 + 1 = rd s (Obj.DROVE_LEAVES d) then
    let v := leNat (slice bs 52 2)
    let s := if v = 0xFFFF then s else setDrove d (fun x => { x with bridgeSeen := s.time.acc }) s
    showBridge d (wr s (Obj.BRIDGE_LOOP d) v)
  else s

/-- The slow word of tide `n` joins a leaf's assembly; after 32 tides the record is accepted or a gap is marked (R52). -/
def stepSlow (n L : Nat) (s : State) : State :=
  let i := n % 32
  let x := leafOf s L
  let ws := if i = 0 then [] else x.slowWords
  let ok := (if i = 0 then true else x.slowOk) && !slotMissing s n L
  let ws := if ok then ws ++ [slotWord (ringBytes s n L) 4] else ws
  let s := setLeaf L (fun x => { x with slowWords := ws, slowOk := ok,
                                        slowBridged := if i = 0 then decide (0 < x.bridgeTides) else x.slowBridged }) s
  let s := if i = 0 then healInst 3 L s else s
  if i ≠ 31 then s
  else
    let bs := ws.flatMap (leBytes 2)
    if ok && decide (bs.length = 64) && decide (crc 16 0x1021 0xFFFF false false (bs.take 62) = leNat (bs.drop 62)) then takeSlow n L bs s
    else setLeaf L (fun x => { x with slowGap := true }) s

/-- The telemetry of a leaf is released at the return deadline (R24): its runs of missing and returned slots. -/
def releaseSlot (n L : Nat) (s : State) : State :=
  if slotMissing s n L then setLeaf L (fun x => { x with missRun := x.missRun + 1, goodRun := 0 }) s
  else
    let bs := ringBytes s n L
    let lv := bits (slotWord bs 3) 3 2
    setLeaf L (fun x => { x with missRun := 0, goodRun := x.goodRun + 1, lastCap := slotWord bs 0,
                                 bypassRun := if lv = 0 then x.bypassRun + 1 else 0 }) s

/-- The telemetry of tide `n` is released (R24). -/
def releaseTelemetry (n : Nat) (s : State) : State := (allLeaves s).foldl (fun t L => stepSlow n L (releaseSlot n L t)) s

end Sys2Proof.Machine
end

