-- ==== Sys2Proof/Machine/Shepherd.lean ====
section
/-! DEFINITION. The shepherds (R102 to R133): demand, headroom, leaf states, the key, order and set, the fine edge, hybrid arms,
and the command slots they write. Ranking quantities are PU24 codes; capacitor voltages are codes of 0.1 V. -/

namespace Sys2Proof.Machine

/-! ### PU24 arithmetic of R113 -/

/-- One in PU24. -/
def puOne : Int := 2 ^ 24

/-- Product, rounded to nearest, ties to even. -/
def puMul (a b : Int) : Int := pu24Sat (divHalfEven (a * b) (2 ^ 24))

/-- Quotient of R113: 0 ÷ 0 is 0, anything else over 0 the largest value of its sign. -/
def puDiv (a b : Int) : Int :=
  if b = 0 then (if a = 0 then 0 else if 0 < a then pu24Max else pu24Min)
  else pu24Sat (roundHalfEven ((a : Rat) * ((2 ^ 24 : Nat) : Rat) / (b : Rat)))

/-- A rational as a PU24 code. -/
def puOf (x : Rat) : Int := pu24Sat (roundHalfEven (x * ((2 ^ 24 : Nat) : Rat)))

/-- Saturated sum. -/
def puAdd (a b : Int) : Int := pu24Sat (a + b)

/-- Mean of PU24 codes, rounded; 0 when there are none. The sum itself is exact (DEDUCED: a PU24 sum of 640 leaves near 1 pu would
always saturate). -/
def puMean (xs : List Int) : Int := if xs.isEmpty then 0 else pu24Sat (divHalfEven (sumInt xs) xs.length)

/-- A setting in 0.01 % as PU24. -/
def puBasis (v : Nat) : Int := puOf ((v : Rat) / 10000)

/-! ### Leaves -/

/-- Levels: 0 bypass, 1 positive, 2 negative, 3 blocked. -/
abbrev lvBlocked : Nat := 3

/-- A leaf in a ranking. -/
structure RankLeaf where
  /-- leaf ID -/
  id : Nat
  /-- state -/
  st : Nat
  /-- kind -/
  kind : Nat
  /-- `CAP_VOLTAGE`, 0.1 V -/
  cap : Nat
  /-- u, PU24 -/
  u : Int
  /-- state of charge, 0.01 %, where there is a term -/
  soc : Option Nat
  /-- `TEMP_SWITCH`, where there is a record -/
  ts : Option Int
  /-- `TEMP_PORT`, where there is a sensor and a record -/
  tport : Option Int
  /-- `PORT_VOLTAGE` of S(n), 0.1 V -/
  pv : Nat
  /-- level_prev -/
  prev : Nat
  /-- key, PU24 -/
  key : Int
  /-- outside the hard band -/
  hard : Bool
  /-- admission: -1 below the window, 0 inside, 1 above -/
  side : Int
  deriving DecidableEq, Repr

/-- The leaf counts in capacity (R108). -/
def RankLeaf.counts (x : RankLeaf) : Bool := decide (1 ≤ x.st) && decide (x.st ≤ 3)

/-- ELIGIBLE or FIXED. -/
def RankLeaf.settled (x : RankLeaf) : Bool := x.st = rkEligible || x.st = rkFixed

/-- Full-bridge kinds. -/
def fullBridge (kind : Nat) : Bool := kind = 1 || kind = 3

/-- Battery kinds. -/
def batteryKind (kind : Nat) : Bool := kind = 2 || kind = 3

/-- The slots of tide `n` and the three before it are all missing (R108). -/
def missedFour (s : State) (n L : Nat) : Bool := (List.range 4).all (fun k => decide (k ≤ n) && slotMissing s (n - k) L)

/-- `LEAF_KIND` of the latest accepted slow record. -/
def slowKind (s : State) (L : Nat) : Option Nat := (slowOf s L).map (fun bs => leNat (slice bs 38 1))

/-- STATUS of S(n) shows a cause of exclusion; SELF_BLOCK is none while a Breakwater block is in force (R108). -/
def statusExcludes (s : State) (n L : Nat) : Bool :=
  bit (rd s (Obj.PROT_FLAGS L)) 4 ||
  (!slotMissing s n L &&
    (let st := slotWord (ringBytes s n L) 3
     statusBad st || (bit st 15 && !blockInForce s)))

/-- State of a leaf at the demand mark (R108), its stray bookkeeping already done. -/
def rankState (s : State) (n L : Nat) : Nat :=
  if penned s L then rkPenned
  else if (leafOf s L).stray then rkStray
  else if (match slowKind s L with | some k => decide (k ≠ rd s (Obj.LEAF_KIND_CFG L)) | none => false) then rkMismatch
  else if statusExcludes s n L then rkExcluded
  else if slotMissing s n L then rkFixed
  else if (leafOf s L).admitting then rkAdmitting
  else rkEligible

/-- STRAY is entered and left at every demand mark (R108, R270). -/
def strayStep (n L : Nat) (s : State) : State :=
  if penned s L then s
  else if (leafOf s L).stray then
    if !slotMissing s n L && foldOpen s L then leafReturns L s else s
  else if missedFour s n L then becomeStray L s else s

/-- A leaf as the ranking of tide `n` sees it. -/
def rankLeaf (s : State) (n a L : Nat) : RankLeaf :=
  let kind := rd s (Obj.LEAF_KIND_CFG L)
  let gone := slotMissing s n L
  let bs := ringBytes s n L
  let cap := if gone then (leafOf s L).lastCap else slotWord bs 0
  let slow := slowOf s L
  let soc : Option Nat := match slow with
    | some r => if slowField r 40 = 0xFFFF then none else some (slowField r 40)
    | none => none
  let tp : Option Int := match slow with
    | some r => if slowField r 36 = 0x8000 then none else some (toSigned 16 (slowField r 36))
    | none => none
  { id := L, st := rankState s n L, kind := kind, cap := cap,
    u := puDiv cap (rd s (Obj.KIND_V_NOMINAL a kind)), soc := soc, ts := slow.map (fun r => toSigned 16 (slowField r 32)),
    tport := tp, pv := if gone then 0 else slotWord bs 1, prev := (leafOf s L).levelPrev, key := 0, hard := false, side := 0 }

/-! ### Demand and headroom -/

/-- What the user programs add to component `comp` of arm `a` (R151): demand terms of programs that are running, each within
±`USER_TERM_LIMIT`, in PU24. -/
def userTerm (s : State) (a comp : Nat) : Int :=
  let lim := rdInt 32 s Obj.USER_TERM_LIMIT
  sumInt ((List.range 8).flatMap (fun u =>
    if rd s (Obj.PROG_STATE u) ≠ 1 then []
    else
      let bind := rdBlob s (Obj.PROG_BIND u)
      let out := (getD' s.cl.user u UserProg.off).out
      (List.range 64).filterMap (fun k =>
        let e := slice bind (4 * k) 4
        if leNat (slice e 0 1) = 1 ∧ leNat (slice e 1 1) = a ∧ leNat (slice e 2 1) = comp ∧ e.length = 4 then
          some (clampInt (-(lim.natAbs : Int)) (lim.natAbs : Int) (puOf (f32ToRat (getD' out k 0))))
        else none)))

/-- A demand in 0.1 V, with the user terms. -/
structure Parts where
  /-- `V_DC` -/
  vdc : Rat
  /-- `V_P`, `V_Q`, `V_CIRC` -/
  ac : List Rat
  deriving DecidableEq, Repr

/-- Sum of the parts. -/
def Parts.total (p : Parts) : Rat := p.vdc + sumRat p.ac

/-- The demand record as voltages on the rated DC voltage (R110), user terms added first (R151). -/
def demandParts (s : State) (a : Nat) (d : Demand) : Parts :=
  let v (comp : Nat) (x : Int) : Rat := ((puAdd x (userTerm s a comp) : Int) : Rat) / ((2 ^ 24 : Nat) : Rat) * baseVdc s * 10
  { vdc := v 0 d.vdc, ac := [v 1 d.vp, v 2 d.vq, v 3 d.vcirc] }

/-- Reduce one part toward zero by what the excess needs (R111): parts, excess, flags. -/
def giveUp (sg : Rat) (acc : Parts × Rat × Nat) (i : Nat) : Parts × Rat × Nat :=
  let comp := getD' acc.1.ac i 0
  let give := minRat acc.2.1 (maxRat 0 (sg * comp))
  if give = 0 then acc
  else ({ acc.1 with ac := acc.1.ac.set i (comp - sg * give) }, acc.2.1 - give, setBit acc.2.2 (2 + i))

/-- The headroom limiter of R111: the reduced parts and the flags of R132. -/
def limitParts (order : List Nat) (vmin vmax : Rat) (p : Parts) : Parts × Nat :=
  let v := p.total
  if vmax < v ∨ v < vmin then
    let sg : Rat := if vmax < v then 1 else -1
    let excess := if vmax < v then v - vmax else vmin - v
    let r := order.foldl (giveUp sg) (p, excess, if vmax < v then 1 else 2)
    if 0 < r.2.1 then ({ r.1 with vdc := r.1.vdc - sg * r.2.1 }, setBit r.2.2 5) else (r.1, r.2.2)
  else (p, 0)

/-- Order in which the parts are given up (R111). -/
def limitOrder (s : State) (a st : Nat) : List Nat :=
  if st = stRideThrough ∨ rd s (Obj.HEADROOM_PRIORITY a) = 1 then [0, 2, 1] else [1, 2, 0]

/-- The demand the ranking of tide `n` uses (R105): the record written for `n + 2`, else, or after an uncorrectable error in the record
or the shepherd's memory (R79, R129), the last accepted; and whether it was delivered. -/
def demandFor (s : State) (a n : Nat) : Demand × Bool :=
  let sh := getD' s.shepherds a Shepherd.idle
  if sh.written.tide = (n + 2) % 2 ^ 32 ∧ sh.lost = false then (sh.written, true) else (sh.accepted, false)

/-! ### Key and order -/

/-- Key and hard band of an ELIGIBLE leaf (R113, R114). -/
def rankKey (s : State) (a : Nat) (dir : Int) (target : Nat) (ubar : Int) (sbar : Option Int) (x : RankLeaf) : RankLeaf :=
  if x.st ≠ rkEligible then x
  else
    let dv := puDiv (puAdd ubar (-x.u)) ubar
    if puBasis (rd s (Obj.HARD_BAND a)) < dv.natAbs then
      let sv := puAdd (dir * dv) 0
      { x with hard := true, key := if 0 < sv then puAdd sv puOne else puAdd sv (-puOne) }
    else
      let w (k : Nat) : Int := (k : Int) * 2 ^ 16
      let ds : Int := match sbar, x.soc with
        | some m, some c => puAdd m (-(puOf ((c : Rat) / 10000)))
        | _, _ => 0
      let heat : Int := match x.ts with
        | some t => puOf (maxRat 0 (((t - rdInt 16 s (Obj.T_KNEE a) : Int) : Rat)) / 10000)
        | none => 0
      let base := puAdd (dir * puAdd (puMul (w (rd s (Obj.W_VOLTAGE a))) dv) (puMul (w (rd s (Obj.W_SOC a))) ds))
        (-(puMul (w (rd s (Obj.W_THERMAL a))) heat))
      { x with key := if x.prev = target then puAdd base (puBasis (rd s (Obj.TOL_BAND a))) else base }

/-- `x` ranks before `y` (R115): higher key first, ties to the lower leaf ID. -/
def RankLeaf.before (x y : RankLeaf) : Bool := decide (y.key < x.key) || (x.key = y.key && decide (x.id < y.id))

/-- Put a leaf in its place. -/
def insertRank (x : RankLeaf) : List RankLeaf → List RankLeaf
  | [] => [x]
  | y :: rest => if x.before y then x :: y :: rest else y :: insertRank x rest

/-- The ELIGIBLE leaves by descending key. -/
def sortRank (xs : List RankLeaf) : List RankLeaf := xs.foldr insertRank []

/-- The order of R115 over the leaves that are ranked. -/
def rankOrder (target : Nat) (heads : List Nat) (xs : List RankLeaf) : List RankLeaf :=
  let fixed := xs.filter (fun x => x.st = rkFixed)
  let adm := xs.filter (fun x => x.st = rkAdmitting)
  fixed.filter (fun x => x.prev = target) ++ adm.filter (fun x => heads.contains x.id)
    ++ sortRank (xs.filter (fun x => x.st = rkEligible)) ++ adm.filter (fun x => !heads.contains x.id)
    ++ fixed.filter (fun x => x.prev ≠ target)

/-- How many leaves of the order fit within `lim` 0.1 V (R116). -/
def coarseCount (lim : Rat) : List RankLeaf → Nat → Nat
  | [], _ => 0
  | x :: rest, sum => if ((sum + x.cap : Nat) : Rat) ≤ lim then 1 + coarseCount lim rest (sum + x.cap) else 0

/-- A leaf whose change is never deferred (R117, R126). -/
def RankLeaf.mandatory (x : RankLeaf) : Bool := x.hard || x.st = rkAdmitting

/-- Deferred changes: those with a recent transition first, then as the list has them (R117). -/
def pickDeferred (recent : RankLeaf → Bool) (k : Nat) (xs : List RankLeaf) : List Nat :=
  ((xs.filter recent ++ xs.filter (fun x => !recent x)).take k).map (·.id)

/-- What R117 decides: the leaves inserted and how many swaps were deferred. -/
structure SetChoice where
  /-- leaf IDs of the set -/
  ids : List Nat
  /-- deferred swaps -/
  deferred : Nat
  deriving DecidableEq, Repr

/-- The set of R117. FIXED leaves keep their level and take part in no change. -/
def chooseSet (target budget : Nat) (recent : RankLeaf → Bool) (order : List RankLeaf) (k : Nat) : SetChoice :=
  let ideal := ((order.take k).filter (fun x => x.st ≠ rkFixed))
  let moved := order.filter (fun x => x.st ≠ rkFixed)
  let idealIds := ideal.map (·.id)
  let adds := ideal.filter (fun x => x.prev ≠ target)
  let rems := moved.filter (fun x => x.prev = target && !idealIds.contains x.id)
  let net := ((adds.length : Int) - (rems.length : Int)).natAbs
  let swaps := min adds.length rems.length
  let nmA := adds.filter (fun x => !x.mandatory)
  let nmR := rems.filter (fun x => !x.mandatory)
  let d := min (swaps - (budget - net) / 2) (min nmA.length nmR.length)
  let offA := pickDeferred recent d nmA.reverse
  let keepR := pickDeferred recent d nmR
  { ids := (order.filter (fun x =>
      if x.st = rkFixed then x.prev = target
      else if idealIds.contains x.id then !offA.contains x.id else keepR.contains x.id)).map (·.id),
    deferred := d }

/-! ### Fine edge (R120 to R122) -/

/-- Outcome of the fine edge: the leaf, its level, its offset in ns, the new residual in 0.1 V·ns, whether a clamp dropped some. -/
structure EdgeChoice where
  /-- edge leaf -/
  leaf : Option Nat
  /-- level commanded -/
  level : Nat
  /-- `EDGE_OFFSET` -/
  offset : Nat
  /-- residual -/
  residual : Rat
  /-- RESIDUAL_DROPPED -/
  dropped : Bool
  deriving DecidableEq, Repr

/-- Nearest reachable inserted time to `tau` (R121): the time that needs no transition wins a tie. -/
def nearestTime (prevIn : Bool) (P E : Nat) (tau : Rat) : Rat :=
  if prevIn then
    let b := clampRat 0 (E : Rat) tau
    if absRat (b - tau) < absRat ((P : Rat) - tau) then b else P
  else
    let b := clampRat (((P - E : Nat) : Rat)) (P : Rat) tau
    if absRat (b - tau) < absRat tau then b else 0

/-- The inserted time wanted of a leaf, clipped to [0, P] (R121). -/
def wantedTime (r : Rat) (P cap : Nat) : Rat :=
  if cap = 0 then (if 0 < r then P else 0) else clampRat 0 P (r / (cap : Rat))

/-- Leaves the edge may use: outside the set, not FIXED, not ADMITTING, not at the opposite polarity (R108, R119, R126). -/
def edgeLeaves (target : Nat) (set : List Nat) (order : List RankLeaf) : List RankLeaf :=
  order.filter (fun x => !set.contains x.id && x.st = rkEligible && x.prev ≠ 3 - target)

/-- The edge of R121 on a chosen leaf. -/
def edgeOn (target P E : Nat) (r lim : Rat) (x : RankLeaf) : EdgeChoice :=
  let tau := wantedTime r P x.cap
  let y := nearestTime (x.prev = target) P E tau
  let res : Nat × Nat × Nat :=  -- level, offset, inserted time
    if x.prev = target then
      if y = P then (target, 0, P) else (0, (roundHalfEven y).toNat, (roundHalfEven y).toNat)
    else if y = 0 then (0, 0, 0)
    else (target, (roundHalfEven ((P : Rat) - y)).toNat, P - (roundHalfEven ((P : Rat) - y)).toNat)
  let left := r - (x.cap : Rat) * (res.2.2 : Rat)
  { leaf := some x.id, level := res.1, offset := res.2.1, residual := clampRat (-lim) lim left,
    dropped := decide (lim < absRat left) }

/-- The fine edge (R121): the first examined leaf whose reachable times contain the wanted one within 1 ns, else the first. -/
def fineEdge (target P E search : Nat) (r lim : Rat) (set : List Nat) (order : List RankLeaf) : EdgeChoice :=
  let xs := (edgeLeaves target set order).take search
  let good := xs.find? (fun x =>
    let tau := wantedTime r P x.cap
    decide (absRat (nearestTime (x.prev = target) P E tau - tau) ≤ 1))
  match good, xs.head? with
  | some x, _ => edgeOn target P E r lim x
  | none, some x => edgeOn target P E r lim x
  | none, none =>
    { leaf := none, level := 0, offset := 0, residual := clampRat (-lim) lim r, dropped := decide (lim < absRat r) }

/-- Rounding to the nearest level instead (R122). -/
def coarseEdge (target P : Nat) (r : Rat) (set : List Nat) (order : List RankLeaf) : EdgeChoice :=
  match (edgeLeaves target set order).head? with
  | some x =>
    if (x.cap : Rat) * (P : Rat) / 2 ≤ r then { leaf := some x.id, level := target, offset := 0, residual := 0, dropped := false }
    else { leaf := none, level := 0, offset := 0, residual := 0, dropped := false }
  | none => { leaf := none, level := 0, offset := 0, residual := 0, dropped := false }

/-! ### Battery ports (R123, R124) -/

/-- Share factor f(i). -/
def shareFactor (g : Nat) (sg : Rat) (sbar : Option Rat) (x : RankLeaf) : Rat :=
  match sbar, x.soc with
  | some m, some c => clampRat 0 2 (1 + (g : Rat) / 256 * sg * ((c : Rat) - m) / 10000)
  | _, _ => 1

/-- Derating of a port by its temperature (R124). -/
def portDerate (t0 : Int) (x : RankLeaf) : Rat :=
  match x.tport with
  | some t => clampRat 0 1 (((t0 + 1500 - t : Int) : Rat) / 1500)
  | none => 1

/-- Power limits of a port in W at its voltage: charging and discharging. -/
def portLimits (s : State) (a : Nat) (x : RankLeaf) : Rat × Rat :=
  let k := portDerate (rdInt 16 s (Obj.PORT_DERATE_T a)) x * ((x.pv : Rat) / 10) / 20
  ((rd s (Obj.PORT_I_CHARGE_MAX a) : Rat) * k, (rd s (Obj.PORT_I_DISCHARGE_MAX a) : Rat) * k)

/-- Powers of the battery leaves of an arm in W, one redistribution included, and the power that stays unplaced (R123, R124). A
leaf with `PORT_VOLTAGE` below 10.0 V or a FIXED slot takes no power. -/
def batteryPowers (s : State) (a : Nat) (b : Rat) (sbar : Option Rat) (xs : List RankLeaf) : List (Nat × Rat) × Rat :=
  let ns := xs.filter (fun x => batteryKind x.kind && x.settled)
  if ns.isEmpty then ([], b)
  else
    let sg : Rat := if b < 0 then -1 else 1
    let f (x : RankLeaf) : Rat := shareFactor (rd s (Obj.SOC_SHARE_GAIN a)) sg sbar x
    let base := b / (ns.length : Rat)
    let able := ns.filter (fun x => decide (100 ≤ x.pv) && x.st = rkEligible)
    let clamp (x : RankLeaf) (p : Rat) : Rat := clampRat (-(portLimits s a x).1) (portLimits s a x).2 p
    let first := able.map (fun x => (x, clamp x (base * f x)))
    let gone := sumRat (able.map (fun x => base * f x - clamp x (base * f x)))
    let free := able.filter (fun x => clamp x (base * f x) = base * f x)
    let fsum := sumRat (free.map f)
    let final := first.map (fun p =>
      if p.2 = base * f p.1 ∧ fsum ≠ 0 then (p.1.id, clamp p.1 (p.2 + gone * f p.1 / fsum)) else (p.1.id, p.2))
    (final, b - sumRat (final.map (·.2)))

/-- `SETPOINT` of a battery leaf, 0.05 A per LSB. -/
def batteryRef (p : Rat) (pv : Nat) : Int :=
  if pv = 0 then 0 else clampInt (-32768) 32767 (roundHalfEven (p / ((pv : Rat) / 10) * 20))

/-! ### The ranking -/

/-- Everything one ranking decides. -/
structure Ranking where
  /-- every configured leaf of the arm -/
  leaves : List RankLeaf
  /-- order of R115, then the leaves that count but are not ranked -/
  order : List RankLeaf
  /-- ū -/
  ubar : Int
  /-- s̄, 0.01 % -/
  sbar : Option Rat
  /-- dir -/
  dir : Int
  /-- `HEADROOM_FLAGS` -/
  flags : Nat
  /-- target polarity -/
  target : Nat
  /-- leaves of the set -/
  set : List Nat
  /-- deferred swaps -/
  deferred : Nat
  /-- edge -/
  edge : EdgeChoice
  /-- battery powers, W -/
  battery : List (Nat × Rat)
  /-- unplaced power, W -/
  shortfall : Rat
  /-- Σ `CAP_VOLTAGE` of the leaves that count, 0.1 V -/
  capSum : Nat
  deriving DecidableEq, Repr

/-- Which way the arm current moves the leaves of the target polarity (R107). `CURRENT_DEADBAND` is an unsigned PU24. -/
def rankDir (s : State) (a n target : Nat) (d : Demand) (old : Int) : Int :=
  let cur : Option Rat := if bit d.flags 2 then some ((d.forecast : Rat) / ((2 ^ 24 : Nat) : Rat)) else armCurrent s n a
  match cur with
  | none => old
  | some i => if absRat i * ((2 ^ 24 : Nat) : Rat) < (rd s (Obj.CURRENT_DEADBAND a) : Rat) then old
              else (if 0 ≤ i then 1 else -1) * (if target = 1 then 1 else -1)

/-- Side of an ADMITTING leaf's admission window (R126). -/
def admitSide (s : State) (a : Nat) (ubar : Int) (x : RankLeaf) : RankLeaf :=
  let w : Int := rd s (Obj.ADMIT_WINDOW a)
  { x with side := if x.u * 10000 < ubar * (10000 - w) then -1 else if ubar * (10000 + w) < x.u * 10000 then 1 else 0 }

/-- The ranking of arm `a` on the samples of tide `n` for tide `n + 2`, under station state `st`; `active` decides whether a set
is formed (R103, R110 to R124). -/
def rank (s : State) (a n st : Nat) (active : Bool) (d : Demand) : Ranking :=
  let sh := getD' s.shepherds a Shepherd.idle
  let xs := (armLeaves s a).map (rankLeaf s n a)
  let cnt := xs.filter RankLeaf.counts
  let ef := cnt.filter RankLeaf.settled
  let ubar := puMean (ef.map (·.u))
  let socs := (ef.filter (fun x => batteryKind x.kind)).filterMap (·.soc)
  let sbar : Option Rat := if socs.isEmpty then none else some (((sumNat socs : Nat) : Rat) / (socs.length : Rat))
  let keep : Rat := ((10000 - rd s (Obj.HEADROOM_MARGIN a) : Nat) : Rat) / 10000
  let capSum := sumNat (cnt.map (·.cap))
  let vmax := keep * (capSum : Rat)
  let vmin := if bit d.flags 1 then -(keep * ((sumNat ((cnt.filter (fun x => fullBridge x.kind)).map (·.cap)) : Nat) : Rat)) else 0
  let lim := limitParts (limitOrder s a st) vmin vmax (demandParts s a d)
  let v := lim.1.total
  let target := if 0 ≤ v then 1 else 2
  let dir := rankDir s a n target d sh.dir
  let xs := xs.map (admitSide s a ubar)
  let xs := xs.map (rankKey s a dir target ubar (sbar.map (fun m => puOf (m / 10000))))
  let cnt := xs.filter RankLeaf.counts
  let ranked := cnt.filter (fun x => target = 1 || fullBridge x.kind)
  let heads := ((ranked.filter (fun x => x.st = rkAdmitting && x.side = -dir)).take (rd s (Obj.ADMIT_MAX a))).map (·.id)
  let order := rankOrder target heads ranked
  let rest := cnt.filter (fun x => !(target = 1 || fullBridge x.kind))
  let base : Ranking :=
    { leaves := xs, order := order ++ rest, ubar := ubar, sbar := sbar, dir := dir, flags := lim.2, target := target, set := [],
      deferred := 0, edge := { leaf := none, level := 0, offset := 0, residual := 0, dropped := false }, battery := [],
      shortfall := 0, capSum := capSum }
  if active = false then base
  else
    let P := periodNs s
    let q0 := absRat v * (P : Rat) + sh.residual
    let q := clampRat 0 (maxRat vmax (-vmin) * (P : Rat)) q0
    let k := coarseCount (q / (P : Rat)) order 0
    let dwell := rd s (Obj.LEAF_DWELL a)
    let recent (x : RankLeaf) : Bool :=
      let lt := (leafOf s x.id).lastTrans
      decide (0 < lt) && decide (n + 2 ≤ lt + dwell)
    let ch := chooseSet target (rd s (Obj.SWITCH_BUDGET a)) recent order k
    let held := sumNat ((order.filter (fun x => ch.ids.contains x.id)).map (·.cap))
    let r := q - (held : Rat) * (P : Rat)
    let clampTo := (ubar : Rat) / ((2 ^ 24 : Nat) : Rat) * (rd s (Obj.KIND_V_NOMINAL a 0) : Rat) * (P : Rat) / 2
    let E := P - rd s Obj.APPLY_MARK - rd s (Obj.EDGE_GUARD a)
    let search := rd s (Obj.EDGE_SEARCH a)
    let edge := if bit d.flags 0 && decide (0 < search) then fineEdge target P E search r clampTo ch.ids order
      else coarseEdge target P r ch.ids order
    let bat := batteryPowers s a ((d.battery : Rat) / ((2 ^ 24 : Nat) : Rat) * basePower s) sbar xs
    { base with
      flags := if decide (q ≠ q0) || edge.dropped then setBit lim.2 6 else lim.2, set := ch.ids, deferred := ch.deferred,
      edge := edge, battery := bat.1, shortfall := bat.2 }

/-! ### Commands and reports -/

/-- Level and offset commanded to a leaf in Active (R108, R115, R119, R121). -/
def levelFor (r : Ranking) (x : RankLeaf) : Nat × Nat :=
  if r.edge.leaf = some x.id then (r.edge.level, r.edge.offset)
  else if r.set.contains x.id then (r.target, 0)
  else if x.st = rkFixed ∧ x.prev = lvBlocked ∧ (r.target = 1 ∨ fullBridge x.kind = true) then (lvBlocked, 0)
  else (0, 0)

/-- Switching events between two levels; bypass and blocked are one level here (R118). -/
def switchEvents (a b : Nat) : Nat :=
  let f (x : Nat) : Nat := if x = 3 then 0 else x
  if f a = f b then 0 else if f a ≠ 0 ∧ f b ≠ 0 then 2 else 1

/-- `MODE` bits of a level. -/
def levelMode (lv : Nat) : Nat := if lv = lvBlocked then 4 else lv

/-- The solar tracker's value for leaf `L` in the ranking on the samples of tide `n`: one decided on a later tide has not been delivered
in time (R205). -/
def solarRef (n L : Nat) (s : State) : Nat :=
  let x := Tbl.get (fun _ => SolarLeaf.reset) s.solar.leaves L
  if x.refTide ≤ n then rd s (Obj.PV_V_REF L) else x.refOld

/-- The command slot of a leaf in Active, for tide `m`: the level, and the setpoint of its kind (R102, R123). -/
def activeSlot (m : Nat) (s : State) (r : Ranking) (x : RankLeaf) : CmdSlot :=
  let lv := levelFor r x
  if batteryKind x.kind then
    let p : Rat := ((r.battery.find? (fun q => q.1 = x.id)).map (·.2)).getD 0
    { mode := levelMode lv.1 + 0x10, edge := lv.2, setpoint := ofSigned 16 (batteryRef p x.pv) }
  else if x.kind = 4 then { mode := levelMode lv.1 + 0x20, edge := lv.2, setpoint := solarRef (m - 2) x.id s % 65536 }
  else { mode := levelMode lv.1, edge := lv.2, setpoint := 0 }

/-- Level a ranking commands a leaf: in Watch every slot is a block (R103). -/
def levelOf (active : Bool) (r : Ranking) (x : RankLeaf) : Nat := if active then (levelFor r x).1 else lvBlocked

/-- Switching events the shepherd commands a leaf with a ranking (R118). -/
def eventsOf (active : Bool) (r : Ranking) (x : RankLeaf) : Nat := switchEvents x.prev (levelOf active r x)

/-- Write the slot of one leaf for tide `m` and what its objects show (R102, R113, R118, R133). -/
def commandLeaf (m : Nat) (active : Bool) (r : Ranking) (s : State) (x : RankLeaf) : State :=
  let slot := if active then activeSlot m s r x else CmdSlot.block
  let lv := levelOf active r x
  let ev := eventsOf active r x
  let s := setSlot m x.id slot s
  let s := if x.st = rkEligible then wr s (Obj.LEAF_KEY x.id) (ofSigned 32 x.key) else s
  let s := wr (wr s (Obj.LEAF_RANK_STATE x.id) x.st) (Obj.LEAF_MODE_SENT x.id) slot.mode
  let s := if active && batteryKind x.kind then wr s (Obj.LEAF_PORT_REF x.id) slot.setpoint else s
  let s := if ev = 0 then s else countBy 32 s (Obj.LEAF_EVENTS x.id) ev
  let hold := if x.st = rkAdmitting ∧ x.side = 0 then (leafOf s x.id).admitHold + 1 else 0
  let need := rd s (Obj.ADMIT_HOLD (armOf s x.id))
  setLeaf x.id (fun y => { y with
    levelPrev := lv, lastTrans := if ev = 0 then y.lastTrans else m,
    admitHold := if y.admitting then hold else y.admitHold, admitting := y.admitting && decide (hold < need) }) s

/-- A leaf enters or leaves KIND MISMATCH (R108). -/
def noteKind (s : State) (x : RankLeaf) : State :=
  let now := decide (x.st = rkMismatch)
  let was := (leafOf s x.id).kindBad
  if now = was then s
  else
    let s := setLeaf x.id (fun y => { y with kindBad := now }) s
    if now then emit .leafKindMismatch x.id (leBytes 2 x.id) s else s

/-- `RANK_REPORT` (R130). -/
def rankReport (s : State) (a m : Nat) (r : Ranking) : List Byte :=
  leBytes 8 m ++ leBytes 1 a ++ leBytes 1 (ofSigned 8 r.dir) ++ leBytes 1 r.flags ++ leBytes 1 0 ++ leBytes 2 r.order.length
    ++ leBytes 2 0
    ++ r.order.flatMap (fun x => leBytes 2 x.id ++ leBytes 1 (rd s (Obj.LEAF_MODE_SENT x.id)) ++ leBytes 1 x.st)

/-- Change shepherd `a`. -/
def setShepherd (a : Nat) (f : Shepherd → Shepherd) (s : State) : State := { s with shepherds := s.shepherds.modify a f }

/-- The part of the available solar power that the arm accepts (R125). -/
def solarPart (s : State) (a : Nat) (r : Ranking) : Rat :=
  let us := puMean ((r.leaves.filter (fun x => x.kind = 4 && x.st = rkEligible)).map (·.u))
  let e := puDiv (puAdd us (-r.ubar)) r.ubar
  let b := puBasis (rd s (Obj.SOLAR_SURPLUS_BAND a))
  if bit r.flags 1 && r.target = 1 && r.dir = 1 then 0
  else if e ≤ b then 1
  else if e < 2 * b then ((2 * b - e : Int) : Rat) / ((b : Int) : Rat)
  else 0

/-- The acceptance of R125, pu. -/
def solarAcceptance (s : State) (a : Nat) (r : Ranking) : Rat := rdPu s (Obj.SOLAR_AVAILABLE a) * solarPart s a r

/-- The headroom accounting of R112, in every tide that is ranked. -/
def headroomStep (a : Nat) (ranks : Bool) (flags : Nat) (s : State) : State :=
  let was := (getD' s.shepherds a Shepherd.idle).limited
  let now := ranks && decide (flags % 64 ≠ 0)
  let s := wr s Obj.ARM_HEADROOM (putBit (rd s Obj.ARM_HEADROOM) a now)
  let s := if now then countBy 64 s (Obj.HEADROOM_TIDES a) 1 else s
  let s := if now && !was then countFault 0 srcHeadroom a 1 (count s (Obj.HEADROOM_EPISODES a)) else s
  setShepherd a (fun x => { x with limited := now }) s

/-- The capacity floor of R128: once per fall. -/
def floorStep (a : Nat) (r : Ranking) (s : State) : State :=
  let sum := sumNat ((r.leaves.filter RankLeaf.settled).map (fun x => rd s (Obj.KIND_V_NOMINAL a x.kind)))
  let now := decide (0 < rd s (Obj.ARM_V_FLOOR a)) && decide (sum < rd s (Obj.ARM_V_FLOOR a))
  let was := (getD' s.shepherds a Shepherd.idle).below
  let s := setShepherd a (fun x => { x with below := now }) s
  if now && !was then countFault 0 srcCapacity a 1 (emit .armCapacityLow a (leBytes 1 a) s) else s

/-- Largest and smallest of a list of codes. -/
def spread (xs : List Int) : Int := match xs with
  | [] => 0
  | x :: rest => rest.foldl max x - rest.foldl min x

/-- What the arm's objects show after a ranking (R131). -/
def showRanking (a m : Nat) (active : Bool) (r : Ranking) (s : State) : State :=
  let el := r.leaves.filter (fun x => x.st = rkEligible)
  let at' (lv : Nat) : Nat := if active then (r.leaves.filter (fun x => (levelFor r x).1 = lv)).length else 0
  let sat (n : Nat) (x : Int) : Nat := (clampInt 0 ((2 ^ n : Nat) - 1) x).toNat
  let s := wrs s [(Obj.ELIGIBLE a, el.length), (Obj.ELIGIBLE_VOLTAGE a, r.capSum % 2 ^ 32), (Obj.INSERTED_POS a, at' 1),
    (Obj.INSERTED_NEG a, at' 2), (Obj.EDGE_LEAF a, r.edge.leaf.getD 0xFFFF), (Obj.EDGE_OFFSET_LAST a, r.edge.offset),
    (Obj.FINE_RESIDUAL a, ofSigned 32 (clampInt (-(2 ^ 31)) (2 ^ 31 - 1) (roundHalfEven (r.edge.residual / 10)))),
    (Obj.MEAN_CAP_RATIO a, sat 16 (divHalfEven r.ubar 512)),
    (Obj.CAP_SPREAD a, sat 16 (roundHalfEven (((puDiv (spread (el.map (·.u))) r.ubar : Int) : Rat) * 10000 / ((2 ^ 24 : Nat) : Rat)))),
    (Obj.MEAN_SOC a, match r.sbar with | some m => sat 16 (roundHalfEven m) | none => 0xFFFF),
    (Obj.HEADROOM_FLAGS a, r.flags), (Obj.ADMITTING a, min 255 (r.leaves.filter (fun x => x.st = rkAdmitting)).length),
    (Obj.RANK_TIDE a, m)]
  let s := wrPu (wrPu s (Obj.SOLAR_ACCEPT a) (solarAcceptance s a r)) (Obj.BATTERY_SHORTFALL a) (r.shortfall / basePower s)
  let s := setShepherd a (fun x => { x with accepts := decide (0 < solarPart s a r) }) s
  let s := countBy 64 s (Obj.SWAPS_DEFERRED a) r.deferred
  wrBlob s (Obj.RANK_REPORT a) (rankReport s a m r)

/-- `SWITCH_RATE` once a second (R118), at the first demand mark of a new second: the events of the leaves that count in capacity, over
their number, tide by tide. -/
def switchRate (a : Nat) (s : State) : State :=
  let t := tideNow s
  if tideStartAt s t / secUnit = tideStartAt s (t - 1) / secUnit then s
  else
    let sh := getD' s.shepherds a Shepherd.idle
    let rate : Rat := if sh.leafTides = 0 then 0
      else 100 * (sh.switched : Rat) * 1000000000 / (periodNs s : Rat) / (sh.leafTides : Rat)
    setShepherd a (fun x => { x with switched := 0, leafTides := 0 })
      (wr s (Obj.SWITCH_RATE a) (clampInt 0 (2 ^ 32 - 1) (roundHalfEven rate)).toNat)

/-- Mode of the shepherds for a station state (R32, R103): 0 idle, 1 watch, 2 active. -/
def shepherdMode (st : Nat) : Nat :=
  if isActive st then 2 else if [stReady, stCharging, stEnergised, stBlocked].contains st then 1 else 0

/-- An idle shepherd blocks one leaf in tide `m`: an event of a leaf that was inserted (R118). -/
def blockLeaf (m : Nat) (s : State) (L : Nat) : State :=
  let ev := switchEvents (leafOf s L).levelPrev lvBlocked
  let s := wr (setSlot m L CmdSlot.block s) (Obj.LEAF_MODE_SENT L) 4
  let s := if ev = 0 then s else countBy 32 s (Obj.LEAF_EVENTS L) ev
  setLeaf L (fun x => { x with levelPrev := lvBlocked, lastTrans := if ev = 0 then x.lastTrans else m }) s

/-- Count the switching events of arm `a` in one tide (R118). -/
def countEvents (a ev : Nat) (s : State) : State := pmcEvent 0x10 a ev (countBy 64 s (Obj.SWITCH_EVENTS a) ev)

/-- An idle shepherd writes every slot as a block command (R103). -/
def idleArm (a m : Nat) (s : State) : State :=
  let ev := sumNat ((armLeaves s a).map (fun L => switchEvents (leafOf s L).levelPrev lvBlocked))
  let s := countEvents a ev ((armLeaves s a).foldl (blockLeaf m) s)
  let s := wrs s [(Obj.INSERTED_POS a, 0), (Obj.INSERTED_NEG a, 0), (Obj.EDGE_LEAF a, 0xFFFF), (Obj.EDGE_OFFSET_LAST a, 0),
    (Obj.FINE_RESIDUAL a, 0), (Obj.HEADROOM_FLAGS a, 0)]
  setShepherd a (fun x => { x with residual := 0, lost := false }) (headroomStep a false 0 s)

/-- The engine that failed while it computed leg `g` on the samples of tide `n`, which the engine that took the leg over does not compute
(R144). -/
def movedFrom (s : State) (n g : Nat) : Option Nat :=
  (s.cl.movedLegs.find? (fun p => decide (p.1 = g) && decide (n < p.2.2))).map (·.2.1)

/-- A missed demand of an arm for the samples of tide `n` (R25, R105): counted in Active, where demands are due. Of a leg that moved, it
is the failed engine's (R144). -/
def missedDemand (n a : Nat) (s : State) : State :=
  let e := (movedFrom s n (a / 2)).getD (getD' s.cl.legs (a / 2) 0xFF)
  let s := count s Obj.DEMAND_MISSES
  if e < 8 then countFault 0 srcEngine e 1 s else s

/-- Rank arm `a` at the demand mark on the samples of tide `n` (R102 to R130). -/
def shepherdArm (n st a : Nat) (s : State) : State :=
  let s := switchRate a s
  if armOn s a = false then wr s (Obj.SHEPHERD_STATE a) 0
  else
    let mode := shepherdMode st
    let s := wr (healInst 14 a s) (Obj.SHEPHERD_STATE a) mode
    if mode = 0 then idleArm a (n + 2) s
    else
      let active := decide (mode = 2)
      let d := demandFor s a n
      let s := if active && !d.2 then missedDemand n a s else s
      let s := setShepherd a (fun x => { x with accepted := d.1, lost := false }) s
      let r := rank s a n st active d.1
      let cnt := r.leaves.filter RankLeaf.counts
      let s := r.leaves.foldl noteKind s
      let s := r.leaves.foldl (commandLeaf (n + 2) active r) s
      let s := countEvents a (sumNat (r.leaves.map (eventsOf active r))) s
      let s := setShepherd a (fun x => { x with
        dir := r.dir, residual := r.edge.residual, switched := x.switched + sumNat (cnt.map (eventsOf active r)),
        leafTides := x.leafTides + cnt.length }) s
      showRanking a (n + 2) active r (floorStep a r (headroomStep a true r.flags s))

/-- The shepherds at the demand mark of the samples of tide `n` (R103): stray leaves first, then every arm. Under a Breakwater block,
and after keep-alive or sleep, every level_prev is blocked (R113). -/
def shepherdAll (n : Nat) (s : State) : State :=
  let st := stateAhead s (n + 2)
  let blocked (_ : Nat) (x : Leaf) : Leaf := { x with levelPrev := lvBlocked }
  let s := if blockInForce s || keepAlive s || silentIn s (n + 1) then
      { s with leaves := Tbl.mapAll (fun _ => Leaf.unknown) blocked s.leaves } else s
  let s := (allLeaves s).foldl (fun t L => strayStep n L t) s
  (List.range 12).foldl (fun t a => shepherdArm n st a t) s

end Sys2Proof.Machine
end

