-- ==== Sys2Proof/Machine/Loops.lean ====
section
/-! DEFINITION. The loop engines: gain scheduling (R146, R147), what they take at the return deadline (R23), the current, circulating
and direct-power laws, and the demand records they write (R136, R137, R140, R182 to R184, R339). -/

namespace Sys2Proof.Machine

/-! ### Gain scheduling -/

/-- Value of a schedule axis (R146). -/
def axisValue (s : State) (n c code : Nat) : Rat :=
  let g := (conv s c).set
  match code with
  | 0 => absRat g.ip
  | 1 => absRat g.iq
  | 2 => mag g.vp g.vq
  | 3 => rdPu s (Obj.SCR_EST c)
  | 4 => meanOf (((convArms c).filter (armOn s)).map (fun a => (armMean s a : Rat) / 32768))
  | 5 => dcVoltageOr s n c
  | _ => g.omega

/-- One tide of `ts` s of the first-order filter with time constant 1 ms (R146): the share of the way that it goes in a tide depends on
the tide in time constants; the spec does not say how the filter is made discrete (log entry 6). -/
def firstOrder (ts old x : Rat) : Rat := old + Config.filterShare (ts * 1000) * (x - old)

/-- One step of a bin: past a breakpoint by more than the hysteresis, by one bin (R146). -/
def binStep (br : List Rat) (hyst y : Rat) (b : Nat) : Nat :=
  if b < 3 ∧ getD' br b 0 + hyst < y then b + 1
  else if 0 < b ∧ y < getD' br (b - 1) 0 - hyst then b - 1
  else b

/-- A gain moves one tide of the blend nearer its new value. -/
def blendStep (left : Nat) (old new : List Rat) : List Rat :=
  if left ≤ 1 then new else List.zipWith (fun a b => a + (b - a) / (left : Rat)) old new

/-- The scheduler of converter `c` at the return deadline of tide `n`. -/
def scheduleGains (n c : Nat) (s : State) : State :=
  let ts := tideSec s
  let x := conv s c
  let ax := firstOrder ts x.axes.1 (axisValue s n c (rd s Obj.SCHED_AXIS_X))
  let ay := firstOrder ts x.axes.2 (axisValue s n c (rd s Obj.SCHED_AXIS_Y))
  let k := cellOf s c
  let hyst := rdPu s Obj.SCHED_HYST
  let bx := binStep ((List.range 3).map (fun i => rdPu s (Obj.BREAK_X i))) hyst ax (k % 4)
  let bY := binStep ((List.range 3).map (fun i => rdPu s (Obj.BREAK_Y i))) hyst ay (k / 4)
  let k' := 4 * bY + bx
  let now := if x.gains.isEmpty then cellGains s k else x.gains
  let changed := decide (k' ≠ k)
  let span := rd s Obj.SCHED_BLEND
  let next := if changed then (if span = 0 then cellGains s k' else now)
    else if x.blend = 0 then cellGains s k else blendStep x.blend now (cellGains s k)
  let left := if changed then span else x.blend - 1
  let s := setConv c (fun x => { x with axes := (ax, ay), gainsOld := now, gains := next, blend := left }) s
  if changed then count (wr s Obj.SCHED_CELL_NOW (putBits (rd s Obj.SCHED_CELL_NOW) (8 * c) 8 k')) Obj.SCHED_CHANGES else s

/-- What the engines take at the return deadline of tide `n`. -/
def latchInputs (n : Nat) (s : State) : State :=
  let e : EngineInputs :=
    { tide := n, sets := s.convs.map (·.set), refs := s.convs.map (·.refs), ic := s.legs.map (·.icRef), battery := s.cl.battery,
      gains := [0, 1].map (fun c => (List.range 8).map (gainOf s c)),
      gainsOld := [0, 1].map (fun c => (List.range 8).map (oldGainOf s c)),
      sectors := [0, 1].map (fun c => rd s (Obj.SECTOR_NOW c)) }
  setCl (fun c => { c with latched := e :: c.latched.take 2 }) s

/-- The inputs taken for tide `n`; those of the present moment when none were (a run that starts before the first deadline). -/
def inputsFor (s : State) (n : Nat) : Option EngineInputs := s.cl.latched.find? (fun e => e.tide = n)

/-! ### Start of the outputs (R339) -/

/-- Integrators and references start at 0; a forming converter starts on the measured grid. -/
def startRun (s : State) : State :=
  if s.cl.started then s
  else
    let s := { s with
      legs := s.legs.map (fun y => { y with xp := 0, xq := 0, xnp := 0, xnq := 0, xc := 0, icRef := 0, pred := none })
      convs := (List.range 2).map (fun c =>
        let x := conv s c
        { x with pAc := 0, qStar := 0, pTarget := 0, xDc := 0, pdcLoop := 0, ramping := true, qRamping := true, rising := false,
                 refs := RefSet.zero, backP := 0, backQ := 0, mode := rd s (Obj.GRID_MODE c), thetaV := x.set.theta,
                 omegaV := x.set.omega, eMag := setV x.set, errRun := 0, rtFrom := none, dwellFrom := none }) }
    let zero (e : EngineInputs) : EngineInputs :=
      { e with refs := e.refs.map (fun _ => RefSet.zero), ic := e.ic.map (fun _ => 0), battery := e.battery.map (fun _ => 0) }
    setCl (fun c => { c with started := true, latched := c.latched.map zero, battery := List.replicate 12 0 }) s

/-! ### The laws of one converter -/

/-- l_eq in per unit. -/
def lEq (s : State) : Rat :=
  2 * piR * ratedHz s * (rdF s Obj.ARM_INDUCTANCE / 2 + rdF s Obj.TRANSFORMER_L) / baseImpedance s

/-- One axis pair of R137: emf references before the integrators step, and the errors. -/
structure AxisLaw where
  /-- e_p without x_p -/
  fp : Rat
  /-- e_q without x_q -/
  fq : Rat
  /-- err_p -/
  errP : Rat
  /-- err_q -/
  errQ : Rat
  deriving DecidableEq, Repr

/-- R137 for one sequence: voltages, references and currents. -/
def axisLaw (kff kp w leq : Rat) (v i' i : Rat × Rat) : AxisLaw :=
  let ep := i'.1 - i.1
  let eq := i'.2 - i.2
  { fp := kff * v.1 + w * leq * i.2 + kp * ep, fq := kff * v.2 - w * leq * i.1 + kp * eq, errP := ep, errQ := eq }

/-- The laws of both sequences of converter `c` on the inputs of a tide. -/
def convLaws (s : State) (c : Nat) (e : EngineInputs) : AxisLaw × AxisLaw :=
  let g := getD' e.sets c GridSet.zero
  let r := getD' e.refs c RefSet.zero
  let k := getD' e.gains c []
  let kff := getD' k 7 0
  let kp := getD' k 0 0
  (axisLaw kff kp g.omega (lEq s) (g.vp, g.vq) (r.ip, r.iq) (g.ip, g.iq),
   axisLaw kff kp g.omega (lEq s) (g.np, g.nq) (r.np, r.nq) (g.inp, g.inq))

/-- An integrator step that a limited axis holds when it would raise the magnitude of its output (R140). -/
def heldStep (held : Bool) (out x step : Rat) : Rat := if held && decide (absRat out < absRat (out + step)) then x else x + step

/-- A flag of `HEADROOM_FLAGS` of either arm of leg `g`. -/
def legFlag (s : State) (g i : Nat) : Bool :=
  bit (rd s (Obj.HEADROOM_FLAGS (2 * g))) i || bit (rd s (Obj.HEADROOM_FLAGS (2 * g + 1))) i

/-- The integrators of leg `g` are rebased for a change of gain (R147), those of the current loops not under direct power control. -/
def rebaseLeg (n g : Nat) (e : EngineInputs) (s : State) : State :=
  let c := g / 3
  let k := getD' e.gains c []
  let old := getD' e.gainsOld c []
  let l := convLaws s c e
  let d := if dpcOn s c then 0 else getD' old 0 0 - getD' k 0 0
  let errC := getD' e.ic g 0 - legCirc s n g
  setLeg g (fun y => { y with
    xp := y.xp + d * l.1.errP, xq := y.xq + d * l.1.errQ, xnp := y.xnp + d * l.2.errP, xnq := y.xnq + d * l.2.errQ,
    xc := y.xc + (getD' old 2 0 - getD' k 2 0) * errC }) s

/-- The loops of leg `g` on the samples of tide `n` (R137, R140), its integrators rebased: the outputs are formed, and the integrators
step, those of the current loops not under direct power control. -/
def legLaws (n g : Nat) (e : EngineInputs) (s : State) : State :=
  let c := g / 3
  let ts := tideSec s
  let k := getD' e.gains c []
  let l := convLaws s c e
  let y := legOf s g
  let ki := getD' k 1 0
  let step (held : Bool) (out x err : Rat) : Rat := if dpcOn s c then x else heldStep held out x (ki * err * ts)
  let ic := legCirc s n g
  let errC := getD' e.ic g 0 - ic
  let uc := getD' k 2 0 * errC + y.xc
  let hp := legFlag s g 2
  let hq := legFlag s g 3
  setLeg g (fun y => { y with
    ep := l.1.fp + y.xp, eq := l.1.fq + y.xq, uc := uc, ic := ic,
    xp := step hp (l.1.fp + y.xp) y.xp l.1.errP, xq := step hq (l.1.fq + y.xq) y.xq l.1.errQ,
    xnp := step hp (l.2.fp + y.xnp) y.xnp l.2.errP, xnq := step hq (l.2.fq + y.xnq) y.xnq l.2.errQ,
    xc := heldStep (legFlag s g 4) uc y.xc (getD' k 3 0 * errC * ts) }) s

/-- The negative-sequence emf of leg `g`, projected onto the positive-sequence axes at `th` (R136). `y` is the leg with its integrators
rebased and not yet stepped. -/
def negEmf (l : AxisLaw) (y : Leg) (th : Rat) : Rat × Rat :=
  let v := fromAxes (l.fp + y.xnp, l.fq + y.xnq) th
  toAxes (v.1, -v.2) th

/-! ### Direct power control (R182, R183) -/

/-- Vector table of R182: S_P, S_Q and the sector. -/
def dpcTable (sp sq : Int) (sec : Nat) : Nat :=
  let row := if sp = 1 then (if sq = 1 then [6, 1, 1, 2, 2, 3, 3, 4, 4, 5, 5, 6] else [2, 2, 3, 3, 4, 4, 5, 5, 6, 6, 1, 1])
    else (if sq = 1 then [5, 5, 6, 6, 1, 1, 2, 2, 3, 3, 4, 4] else [3, 4, 4, 5, 5, 6, 6, 1, 1, 2, 2, 3])
  getD' row sec 1

/-- A two-level decision. -/
def decision (band err : Rat) (first : Bool) (old : Int) : Int :=
  if first then (if err < 0 then -1 else 1) else if band < err then 1 else if err < -band then -1 else old

/-- The decisions, the vector and the emf of converter `c` on the inputs of a tide. -/
def dpcStep (c : Nat) (e : EngineInputs) (s : State) : State :=
  let g := getD' e.sets c GridSet.zero
  let r := getD' e.refs c RefSet.zero
  let v := mag g.vp g.vq
  let x := conv s c
  let first := decide (x.vector = 0)
  let sp := decision (rdPu s (Obj.DPC_BAND_P c)) (v * r.ip - g.p) first x.sP
  let sq := decision (rdPu s (Obj.DPC_BAND_Q c)) (v * r.iq - g.q) first x.sQ
  let k := dpcTable sp sq (getD' e.sectors c 0)
  let sc := sinCosT (((k - 1 : Nat) : Rat) / 6)
  let st := rdPu s (Obj.DPC_STEP c)
  setConv c (fun x => { x with sP := sp, sQ := sq, vector := k, emfA := g.va + st * sc.2, emfB := g.vb + st * sc.1 }) s

/-- Direct power control ends at this tide start (R184): the integrators are rebased so that the emf references equal the last emf. -/
def dpcFinish (c : Nat) (s : State) : State :=
  if (conv s c).dpcEnd = false then s
  else
    let s := setConv c (fun x => { x with dpcEnd := false }) s
    if dpcOn s c = false then s
    else
      let x := conv s c
      let e : EngineInputs :=
        { tide := 0, sets := s.convs.map (·.set), refs := s.convs.map (·.refs), ic := [], battery := [],
          gains := [0, 1].map (fun c => (List.range 8).map (gainOf s c)), gainsOld := [], sectors := [] }
      let l := convLaws s c e
      let a := toAxes (x.emfA, x.emfB) x.set.theta
      let s := (convLegs c).foldl (fun t g => setLeg g (fun y => { y with
        xp := a.1 - l.1.fp, xq := a.2 - l.1.fq, xnp := -l.2.fp, xnq := -l.2.fq }) t) s
      suspendShift c (wr (setSync c sfDpc false s) (Obj.DPC_ACTIVE c) 0)

/-! ### The demand records (R136, R183) -/

/-- Phase component at angle `th` of axes `x`. -/
def axesPhase (x : Rat × Rat) (th : Rat) : Rat :=
  let sc := sinCosT th
  x.1 * sc.2 + x.2 * sc.1

/-- The arm holds full-bridge leaves. -/
def armFull (s : State) (a : Nat) : Bool := (armLeaves s a).any (fun L => fullBridge (rd s (Obj.LEAF_KIND_CFG L)))

/-- i*_ac of phase `p` at the apply mark of tide n + 2. -/
def forecastAc (s : State) (g : GridSet) (r : RefSet) (p : Nat) : Rat :=
  let th := g.thetaA - g.omega * ratedHz s * tideSec s / 2
  let neg := fromAxes (r.np, r.nq) th
  axesPhase (r.ip, r.iq) (th + phiTurns p) + phaseOf (neg.1, -neg.2) p

/-- The demand record of an arm of leg `g` for the samples of tide `n`: `y` is the leg as its integrators stood, `sg` +1 for the upper
arm and -1 for the lower. -/
def demandRecord (s : State) (n g : Nat) (e : EngineInputs) (neg : Rat × Rat) (upper : Bool) : Demand :=
  let c := g / 3
  let p := g % 3
  let a := if upper then 2 * g else 2 * g + 1
  let sg : Rat := if upper then -1 else 1
  let gs := getD' e.sets c GridSet.zero
  let r := getD' e.refs c RefSet.zero
  let y := legOf s g
  let x := conv s c
  let k := baseAc s / baseVdc s
  let sc := sinCosT (gs.thetaA + phiTurns p)
  let dpc := dpcOn s c
  let vp := if dpc then phaseOf (x.emfA, x.emfB) p else (y.ep + neg.1) * sc.2
  let vq := if dpc then 0 else (y.eq + neg.2) * sc.1
  let fc := getD' e.ic g 0 - sg * forecastAc s gs r p / 2
  { vdc := puOf (dcVoltageOr s n c / 2), vp := puOf (sg * vp * k), vq := puOf (sg * vq * k), vcirc := puOf (-(y.uc * k)),
    forecast := puOf fc, battery := puOf (getD' e.battery a 0), tide := (n + 2) % 2 ^ 32,
    flags := 4 + (if rdBool s Obj.NEG_ENABLE && armFull s a then 2 else 0) + b2n (rdBool s Obj.FINE_EDGE_ENABLE) }

/-- Count tides with a current error above `DPC_ENTRY_ERR` (R181). -/
def noteError (c : Nat) (e : EngineInputs) (s : State) : State :=
  let l := (convLaws s c e).1
  let lim := rdPu s (Obj.DPC_ENTRY_ERR c)
  let beyond := decide (lim < absRat l.errP) || decide (lim < absRat l.errQ)
  setConv c (fun x => { x with errRun := if beyond then x.errRun + 1 else 0 }) s

/-- The loops of leg `g` run and its records are written, but for the arms whose demand misses the mark (R136, R144). -/
def legDemand (n : Nat) (e : EngineInputs) (missed : List Nat) (g : Nat) (s : State) : State :=
  let arms := [2 * g, 2 * g + 1]
  if legPresent s g = false ∨ engineLive s (unitOf s.cl.legs g) = false ∨ arms.all (fun a => missed.contains a) = true then s
  else
    let s := rebaseLeg n g e s
    let neg := negEmf (convLaws s (g / 3) e).2 (legOf s g) (getD' e.sets (g / 3) GridSet.zero).thetaA
    let s := legLaws n g e s
    arms.foldl (fun t a =>
      if missed.contains a then t
      else setShepherd a (fun x => { x with written := demandRecord t n g e neg (a = 2 * g) }) (healTideArea 2 (fun b => b = a) t)) s

/-- The demand mark of the samples of tide `n`: the engines have delivered (R103, R136). `missed` are the arms not delivered. -/
def loopDemands (n : Nat) (missed : List Nat) (s : State) : State :=
  match inputsFor s n with
  | none => s
  | some e =>
    let s := [0, 1].foldl (fun t c =>
      if convOn t c then (if dpcOn t c then dpcStep c e (noteError c e t) else noteError c e t) else t) s
    (List.range 6).foldl (fun t g => legDemand n e missed g t) s

/-- Consecutive missed demand marks of each arm at the mark of the samples of tide `n`; at the second its engine fails (R144), unless the
debug port holds it halted (R502). A demand that was the failed engine's counts against no other. -/
def demandMisses (n : Nat) (missed : List Nat) (s : State) : State :=
  (List.range 12).foldl (fun t a =>
    if legPresent t (a / 2) = false ∨ (movedFrom t n (a / 2)).isSome = true then t
    else
      let k := if missed.contains a then getD' t.cl.demandMiss a 0 + 1 else 0
      let t := setCl (fun c => { c with demandMiss := c.demandMiss.set a k }) t
      if 2 ≤ k ∧ bit (rd t Obj.DEBUG_HALTED) (6 + unitOf t.cl.legs (a / 2)) = false then failEngine (unitOf t.cl.legs (a / 2)) t
      else t) s

/-! ### Pre-charge (R337, R340) -/

/-- Duty of the pre-charge pair from the sample of S(n); with the sample missing the duty is held. -/
def preCharge (n : Nat) (s : State) : State :=
  if station s ≠ stCharging then s
  else match sampleVal s n (rd s Obj.PRECHARGE_SENSOR) with
    | none => s
    | some i =>
      let err := rdF s Obj.PRECHARGE_I_REF - i
      let x := clampRat 0 1 (s.sm.chargeX + rdF s Obj.PRECHARGE_KI * err * tideSec s)
      { s with sm := { s.sm with chargeX := x, chargeDuty := clampRat 0 1 (rdF s Obj.PRECHARGE_KP * err + x) } }

/-- Every enabled arm is charged, and none is spread too far (R334, R337). -/
def charged (s : State) : Bool :=
  (List.range 12).all (fun a => !armOn s a ||
    (decide (rd s Obj.CHARGE_TARGET * 32768 ≤ armMean s a * 10000) && decide (rd s (Obj.CAP_SPREAD a) ≤ rd s Obj.CHARGE_SPREAD_MAX)))

/-- Every enabled arm is discharged (R340). -/
def discharged (s : State) : Bool :=
  (List.range 12).all (fun a => !armOn s a || decide (armMean s a * 10000 ≤ rd s Obj.DISCHARGED_LEVEL * 32768))

/-- The charge completes at the first return deadline at which the arms are charged. -/
def chargeStep (s : State) : State :=
  if station s = stCharging ∧ charged s = true ∧ s.sm.causes.any (fun c => c.target = stEnergised) = false then
    schedule stEnergised causeRequest 0 s
  else s

/-- A pending DISCHARGE completes at the first return deadline at which the arms are discharged. -/
def dischargeStep (s : State) : State :=
  if s.sm.request = 6 ∧ discharged s = true ∧ s.sm.causes.any (fun c => c.cause = causeDischarged) = false then
    schedule stReady causeDischarged 0 s
  else s

end Sys2Proof.Machine
end

