-- ==== Sys2Proof/Machine/Metering.lean ====
section
/-! DEFINITION. The metering chain (R369 to R392): channels, elements, accumulators, snapshots, pulses and offset calibration. -/

namespace Sys2Proof.Machine

/-- Grid interval, ns. -/
abbrev gridNs : Nat := 62500

/-- Window of R378, ns. -/
abbrev windowNs : Nat := 200000000

/-- Channel `c`. -/
def chanOf (s : State) (c : Nat) : MeterChannel := getD' s.meter.chans c MeterChannel.reset

/-- Change channel `c`. -/
def setChan (c : Nat) (f : MeterChannel → MeterChannel) (s : State) : State :=
  setMeters (fun x => { x with chans := x.chans.modify c f }) s

/-- Channels present (R369). -/
def chanCount (s : State) : Nat := if optionCode s = 0 then 40 else 32

/-- A bit of `CH_STATUS` (R391). -/
def chanBit (s : State) (c i : Nat) : Bool := bit (rd s (Obj.CH_STATUS c)) i

/-- Set a bit of `CH_STATUS`. -/
def setChanBit (c i : Nat) (b : Bool) (s : State) : State := wr s (Obj.CH_STATUS c) (putBit (rd s (Obj.CH_STATUS c)) i b)

/-- FAULT or DEAD. -/
def chanBad (s : State) (c : Nat) : Bool := chanBit s c 0 || chanBit s c 1

/-- The channel is an on-package current channel, which has two paths. -/
def twoPaths (c : Nat) : Bool := decide (36 ≤ c) && decide (c < 40)

/-- The channel restarts: its samples are missing over the settling interval (R376). -/
def restartChan (s : State) (c : Nat) : State :=
  let integrated := twoPaths c && rdBool s (Obj.CH_INTEGRATOR c)
  let s := setChanBit c 3 false (setChanBit c 2 false s)
  setChan c (fun x => { MeterChannel.reset with settle := if integrated then 32000 else 320, coef := x.coef }) s

/-! ### Clock monitoring (R370) -/

/-- The metering chain or the sensor port uses bitstream input `c`. -/
def inputUsed (s : State) (c : Nat) : Bool :=
  decide (c < 32) && (rdBool s (Obj.CH_ENABLE c) || bit (rd s Obj.SENSE_ENABLE) (32 + c))

/-- CHANNEL_CLOCK_CHECK (R370): the clocks of the second that has ended, and whether the data has changed. -/
def execChannelClockCheck (ch count : Nat) (moving : Bool) (s : State) : Host.Outcome State Fault Refusal :=
  .next (whenAlive .analogue (fun s =>
    if inputUsed s ch then
      let nominal := 16000 * rd s (Obj.BS_DECIMATION ch)
      let off := ((count : Int) - (nominal : Int)).natAbs
      let s := setChanBit ch 0 (decide (nominal * 200 < off * 1000000)) s
      if moving then setChanBit ch 1 false s else s
    else s) s)

/-- CHANNEL_CLOCK_MISSING (R370): no clock edge for 2 µs. -/
def execChannelClockMissing (ch : Nat) (s : State) : Host.Outcome State Fault Refusal :=
  .next (whenAlive .analogue (fun s => if inputUsed s ch then setChanBit ch 0 true s else s) s)

/-- CHANNEL_DATA_STUCK (R370): the data has held one value for 64 clocks. -/
def execChannelDataStuck (ch : Nat) (s : State) : Host.Outcome State Fault Refusal :=
  .next (whenAlive .analogue (fun s => if inputUsed s ch then setChanBit ch 1 true s else s) s)

/-! ### One grid sample of a channel (R372, R373, R375, R376) -/

/-- A reading as a fraction of its path's full scale. -/
def readingOf (x : Int) : Rat := (x : Rat) / ((2 ^ 31 : Nat) : Rat)

/-- Path of the sample under automatic range: uses ×16 now, ×16 from the next sample, samples below 1/32, changed. -/
def rangeStep (hold : Nat) (on : Bool) (low : Nat) (r : MeterReading) : Bool × Bool × Nat × Bool :=
  if on then
    if r.sat16 = true ∨ (7 / 8 : Rat) < absRat (readingOf r.x16) then (false, false, 0, true) else (true, true, 0, false)
  else
    let n := if absRat (readingOf r.x1) < 1 / 32 then low + 1 else 0
    if hold ≤ n then (false, true, 0, true) else (false, false, n, false)

/-- Choose the path: whether ×16 gives this sample. -/
def choosePath (c : Nat) (r : MeterReading) (s : State) : State × Bool :=
  if twoPaths c = false then (s, false)
  else match rd s (Obj.CH_RANGE c) with
    | 1 => (setChanBit c 3 false s, false)
    | 2 => (setChanBit c 3 true s, true)
    | _ =>
      let x := rangeStep (rd s Obj.RANGE_HOLD) (chanBit s c 3) (chanOf s c).low r
      let s := setChan c (fun y => { y with low := x.2.2.1 }) (setChanBit c 3 x.2.1 s)
      (if x.2.2.2 then count s Obj.RANGE_SWITCHES else s, x.1)

/-- The corrected fraction of full scale of a reading (R375); coefficients in force: offset, gain, and those of the ×16 path. -/
def correctReading (corr : Bool) (coef : List Rat) (x16 : Bool) (r : MeterReading) : Rat :=
  let o := if corr then getD' coef (if x16 then 2 else 0) 0 else 0
  let g := if corr then getD' coef (if x16 then 3 else 1) 1 else 1
  if x16 then (readingOf r.x16 - o) * g / 16 else (readingOf r.x1 - o) * g

/-- A channel's sample at the grid instant `g`: primary value, none when missing. -/
def chanSample (g c : Nat) (rs : List MeterReading) (acc : State × List (Option Rat)) : State × List (Option Rat) :=
  let s := acc.1
  if rdBool s (Obj.CH_ENABLE c) = false ∨ chanCount s ≤ c then (s, acc.2 ++ [none])
  else match rs.find? (fun r => r.ch = c) with
    | none => (setChan c (fun x => { x with settle := x.settle - 1 }) s, acc.2 ++ [none])
    | some r =>
      let p := choosePath c r s
      let sat := if p.2 then r.sat16 else r.sat1
      let s := if sat then setChan c (fun x => { x with sat := true }) (setChanBit c 2 true p.1) else p.1
      let x := chanOf s c
      let s := setChan c (fun x => { x with settle := x.settle - 1 }) s
      if chanBad s c = true ∨ 0 < x.settle then (s, acc.2 ++ [none])
      else
        let f := correctReading (bit s.meter.corr 0) x.coef p.2 r
        let f := if twoPaths c && rdBool s (Obj.CH_INTEGRATOR c) then Config.meterIntegral c g f else f
        let v := f * rdF s (Obj.CH_FULL_SCALE c)
        (setChan c (fun x => { x with sumSq := x.sumSq + v * v, count := x.count + 1 }) s, acc.2 ++ [some v])

/-- Calibration sums of channel `c`: raw readings whatever path is in use (R386, R389). -/
def calSample (rs : List MeterReading) (vals : List (Option Rat)) (s : State) (c : Nat) : State :=
  if s.meter.calHalf = 0 ∨ bit s.meter.calMask c = false then s
  else match rs.find? (fun r => r.ch = c), getD' vals c none with
    | some r, some _ =>
      let sat := r.sat1 || (twoPaths c && r.sat16)
      let a := readingOf r.x1
      let b := readingOf r.x16
      let s := if sat && s.meter.calMissing.all (fun m => decide (c ≤ m)) then setMeters (fun x => { x with calMissing := some c }) s else s
      setChan c (fun x => { x with
        cal := [getD' x.cal 0 0 + a, getD' x.cal 1 0 + a * a, getD' x.cal 2 0 + b, getD' x.cal 3 0 + b * b, getD' x.cal 4 0 + 1] }) s
    | _, _ => if s.meter.calMissing.all (fun m => decide (c ≤ m)) then setMeters (fun x => { x with calMissing := some c }) s else s

/-! ### Accumulation (R379, R381, R385) -/

/-- The pulse outputs that follow an accumulator take its energy `e`, in LSB (R385). -/
def feedPulses (m a : Nat) (e : Rat) (s : State) : State :=
  (List.range 4).foldl (fun t k =>
    let src := rd t (Obj.PULSE_SOURCE k)
    if rdBool t (Obj.PULSE_ENABLE k) && decide (bits src 2 0 = a) && decide (bits src 4 4 = m) then
      let p := getD' t.meter.pulses k { rem := 0, last := none }
      let x := p.rem + e / 1000000 / rdF t (Obj.METER_RATIO m) * (rd t (Obj.PULSE_CONSTANT k) : Rat)
      let due := x.floor.toNat
      let all := rd t (Obj.PULSE_BACKLOG k) + due
      let t := setMeters (fun c => { c with pulses := c.pulses.set k { p with rem := x - (due : Rat) } }) t
      countBy 32 (wr t (Obj.PULSE_BACKLOG k) (min 65535 all)) (Obj.PULSE_OVERRUNS k) (all - 65535)
    else t) s

/-- Add an energy of `e` LSB to accumulator `a` of meter `m`: to 2⁻³² of an LSB, wrapping with WRAPPED set (R379, R381). -/
def addEnergy (m a : Nat) (e : Rat) (s : State) : State :=
  let inc := (roundHalfEven (e * ((2 ^ 32 : Nat) : Rat))).toNat
  let sum := rd s (energyKey m a) * 2 ^ 32 + getD' (meterOf s m).rem a 0 + inc
  let s := setMeter m (fun x => { x with rem := x.rem.set a (sum % 2 ^ 32) }) (wr s (energyKey m a) (sum / 2 ^ 32 % 2 ^ 64))
  let s := if 2 ^ 96 ≤ sum then setFlag m (8 + a) true s else s
  feedPulses m a e s

/-- Watt-seconds in LSB of 1 mWh. -/
def lsbOf (ws : Rat) : Rat := ws * 10 / 36

/-- The accumulators the signs select take `p` and `q` over `sec` seconds (R379). -/
def addPower (m : Nat) (p q sec : Rat) (s : State) : State :=
  let s := if 0 < p then addEnergy m 0 (lsbOf (p * sec)) s else if p < 0 then addEnergy m 1 (lsbOf (-p * sec)) s else s
  if 0 < q then addEnergy m (if 0 ≤ p then 2 else 3) (lsbOf (q * sec)) s
  else if q < 0 then addEnergy m (if 0 ≤ p then 5 else 4) (lsbOf (-q * sec)) s
  else s

/-- The meter is accumulating: enabled, from HELD onward, in HELD with the coefficients of a committed image (R32, R379). An image has
passed validation before it is the committed one, and its coefficients with it (DEDUCED, log entry 67). -/
def metering (s : State) (m : Nat) : Bool :=
  rdBool s (Obj.METER_ENABLE m) && (decide (stHeld < station s) || (station s = stHeld && s.cfg.valid))

/-- Element `e` at a grid sample: its p and q, none when a sample is missing (R376, R378). -/
def elementPower (s : State) (g e : Nat) (vals : List (Option Rat)) : Option (Rat × Rat × Rat × Rat) :=
  let vc := rd s (Obj.EL_V_CHANNEL e)
  let ic := rd s (Obj.EL_I_CHANNEL e)
  match getD' vals vc none, getD' vals ic none with
  | some v, some i =>
    let corr := bit s.meter.corr 0
    let k := (getD' s.meter.els e Element.reset).coef
    let full := rdF s (Obj.CH_FULL_SCALE vc) * rdF s (Obj.CH_FULL_SCALE ic) / 2
    let c (j : Nat) (d : Rat) : Rat := if corr then getD' k j d else d
    some (v, i, v * i * c 0 1 - c 1 0 * full, Config.meterShift e g v * i * c 2 1 - c 3 0 * full)
  | _, _ => none

/-- Element `e` adds to its window; a missing sample counts in its meter. -/
def elementSample (g : Nat) (vals : List (Option Rat)) (acc : State × Rat × Rat) (e : Nat) : State × Rat × Rat :=
  let s := acc.1
  match elementPower s g e vals with
  | some (v, i, p, q) =>
    let s := setMeters (fun c => { c with els := c.els.modify e (fun x => { x with
      v2 := x.v2 + v * v, i2 := x.i2 + i * i, p := x.p + p, q := x.q + q, n := x.n + 1 }) }) s
    (s, acc.2.1 + p, acc.2.2 + q)
  | none => (setFlag (e / 3) 1 true (countBy 64 s (Obj.MISSING_SAMPLES (e / 3)) 1), acc.2)

/-- Zero crossings of element 3m's voltage (R378), placed by straight lines between samples. -/
def crossing (m g : Nat) (v : Rat) (s : State) : State :=
  setMeter m (fun x =>
    let x := { x with last := some (v, g) }
    match (meterOf s m).last with
    | some (u, h) =>
      if u < 0 ∧ 0 ≤ v ∧ h < g then
        let at' : Rat := (h : Rat) + ((g - h : Nat) : Rat) * (-u) / (v - u)
        { x with first := some (x.first.getD at'), final := some at', crossings := x.crossings + 1 }
      else x
    | none => x) s

/-- Meter `m` at a grid sample. -/
def meterSample (g : Nat) (sec : Rat) (vals : List (Option Rat)) (s : State) (m : Nat) : State :=
  let on := metering s m
  let s := setFlag m 0 on s
  if on = false then s
  else
    let s := match getD' vals (rd s (Obj.EL_V_CHANNEL (3 * m))) none with
      | some v => crossing m g v s
      | none => setMeter m (fun x => { x with last := none }) s
    let r := [3 * m, 3 * m + 1, 3 * m + 2].foldl (elementSample g vals) (s, 0, 0)
    addPower m r.2.1 r.2.2 sec r.1

/-! ### Presets and snapshots (R381, R382) -/

/-- Presets due at this boundary. -/
def applyPresets (s : State) (m : Nat) : State :=
  let ps := (meterOf s m).presets
  ps.foldl (fun t p =>
    let old := rd t (energyKey m p.1)
    let t := setMeter m (fun x => { x with rem := x.rem.set p.1 0 }) (wr t (energyKey m p.1) p.2)
    let t := setFlag m (16 + p.1) false t
    let t := (List.range 4).foldl (fun u k =>
      let src := rd u (Obj.PULSE_SOURCE k)
      if bits src 2 0 = p.1 ∧ bits src 4 4 = m then
        wr (setMeters (fun c => { c with pulses := c.pulses.modify k (fun y => { y with rem := 0 }) }) u) (Obj.PULSE_BACKLOG k) 0
      else u) t
    emit .energyPreset m (leBytes 1 p.1 ++ leBytes 8 old ++ leBytes 8 p.2) t) (setMeter m (fun x => { x with presets := [] }) s)

/-- The 160 bytes of a snapshot. -/
def snapshotBytes (s : State) (g count cause : Nat) : List Byte :=
  leBytes 16 (stimeAt s (g * nsUnit)) ++ leBytes 4 count ++ leBytes 1 cause ++ leBytes 3 0
    ++ (List.range 16).flatMap (fun i => leBytes 8 (rd s (energyKey (i / 8) (i % 8))))
    ++ leBytes 4 (rd s (Obj.METER_FLAGS 0)) ++ leBytes 4 (rd s (Obj.METER_FLAGS 1))

/-- A snapshot due at the boundary `g`: an interval one wins over a trigger. -/
def takeSnapshot (g : Nat) (s : State) : State :=
  let mins := rd s Obj.SNAPSHOT_INTERVAL
  let interval := decide (0 < mins) && decide (g % (mins * 60000000000) = 0)
  if interval || s.meter.snap then
    let n := satAdd (2 ^ 32 - 1) (rd s Obj.SNAPSHOT_COUNT) 1
    let bs := snapshotBytes s g n (if interval then 2 else 1)
    let s := wrBlob (wr s Obj.SNAPSHOT_COUNT n) Obj.SNAPSHOT bs
    let s := setMeters (fun c => { c with snap := false }) s
    if interval then
      emit .meteringIntervalClosed noInst (leBytes 4 n)
        (setMeters (fun c => { c with history := (c.history ++ [bs]).drop (c.history.length + 1 - 96) }) s)
    else s
  else s

/-- What follows the energy of a boundary: presets, then snapshots (R381). -/
def finishBoundary (g : Nat) (s : State) : State := takeSnapshot g ([0, 1].foldl applyPresets s)

/-- The first boundary after a start: the gap counts (R383). -/
def countGap (g : Nat) (s : State) : State :=
  if s.meter.resumed = false then s
  else
    let s := setMeters (fun c => { c with resumed := false }) s
    match s.meter.copy with
    | none => s
    | some k =>
      let sec := (divHalfEven ((g : Int) - (k.stamp : Int)) 1000000000).toNat
      [0, 1].foldl (fun t m => setFlag m 1 true (countBy 32 t (Obj.METER_GAP_TIME m) sec)) s

/-- The grid instant the next sample belongs to. -/
def nextGrid (s : State) : Nat :=
  let up := (nowNs s + gridNs - 1) / gridNs * gridNs
  match s.meter.lastGrid with
  | some g => max up (g + gridNs)
  | none => up

/-- The three voltage channels of `METER_VOLTAGE_BASE` give converter `c` a sample of the grid instant `g`, when their front end is one of
its sources; it arrives at the fixed latency of the front end (R161, R374). -/
def feedGrid (g : Nat) (vals : List (Option Rat)) (s : State) (c : Nat) : State :=
  let b := rd s (Obj.METER_VOLTAGE_BASE c)
  let src := if b < 32 then 1 else 0
  if rd s (Obj.VOLTAGE_SOURCE c) ≠ src ∧ rd s (Obj.VOLTAGE_SOURCE_ALT c) ≠ src then s
  else
    let v (k : Nat) : Option Rat := getD' vals (b + k) none
    let mv (k : Nat) : Rat := (v k).getD 0 * 1000
    let m : PocVolts :=
      { va := mv 0, vb := mv 1, vc := mv 2, ns := g, arrive := g + (if src = 1 then 600000 else 400000),
        good := (v 0).isSome && (v 1).isSome && (v 2).isSome }
    setConv c (fun x => { x with flow := x.flow ++ [(src, m)] }) s

/-- GRID_SAMPLE (R374 to R381): `readings` of the channels at the next grid instant; `span` is the true length in ns of an interval
that spans a step of station time, measured on the DSP's own clock (R384). The grid interface takes the samples that have reached it
by then. While the debug port halts the DSP, every sample is missing (R502). -/
def execGridSample (readings : List MeterReading) (span : Nat) (s : State) : Host.Outcome State Fault Refusal :=
  .next (whenAlive .processing (fun s =>
    let readings := if bit (rd s Obj.DEBUG_HALTED) 30 then [] else readings
    let g := nextGrid s
    let s := countGap g (whenAlive .fabric (fun t => deliverVolts 1 (deliverVolts 0 t)) (runTo (g * nsUnit) s))
    let sec : Rat := if s.meter.stepped then (span : Rat) / 1000000000 else 1 / 16000
    let r := (List.range 40).foldl (fun acc c => chanSample g c readings acc) (s, [])
    let s := (List.range 40).foldl (calSample readings r.2) r.1
    let s := [0, 1].foldl (feedGrid g r.2) ([0, 1].foldl (meterSample g sec r.2) s)
    let s := setMeters (fun c => { c with lastGrid := some g, stepped := false }) s
    if g % windowNs = 0 then s else finishBoundary g s) s)

/-! ### Window boundaries (R375, R378, R383) -/

/-- Quantities of element `e` over its window, and their sum S. -/
def publishElement (s : State) (e : Nat) : State :=
  let x := getD' s.meter.els e Element.reset
  let n : Rat := x.n
  let mean (v : Rat) : Rat := if x.n = 0 then 0 else v / n
  let v := sqrtR (mean x.v2)
  let i := sqrtR (mean x.i2)
  let p := mean x.p
  let va := v * i
  let s := wrF (wrF (wrF (wrF (wrF s (Obj.EL_V_RMS e) v) (Obj.EL_I_RMS e) i) (Obj.EL_P e) p) (Obj.EL_Q e) (mean x.q)) (Obj.EL_S e) va
  let s := wrF s (Obj.EL_PF e) (if va = 0 then 0 else p / va)
  setMeters (fun c => { c with els := c.els.modify e (fun x => { Element.reset with coef := x.coef }) }) s

/-- Apparent power of element `e` over its window. -/
def elementS (s : State) (e : Nat) : Rat :=
  let x := getD' s.meter.els e Element.reset
  if x.n = 0 then 0 else sqrtR (x.v2 / (x.n : Rat)) * sqrtR (x.i2 / (x.n : Rat))

/-- Mean active or reactive power of element `e` over its window. -/
def elementMean (s : State) (e : Nat) (f : Element → Rat) : Rat :=
  let x := getD' s.meter.els e Element.reset
  if x.n = 0 then 0 else f x / (x.n : Rat)

/-- Quantities of meter `m` at the window boundary `g`, and the window's apparent energy. -/
def publishMeter (g : Nat) (s : State) (m : Nat) : State :=
  let es := [3 * m, 3 * m + 1, 3 * m + 2]
  let p := sumRat (es.map (fun e => elementMean s e (·.p)))
  let q := sumRat (es.map (fun e => elementMean s e (·.q)))
  let va := sumRat (es.map (elementS s))
  let x := meterOf s m
  let f : Nat := match x.first, x.final with
    | some a, some b => if a < b then f32OfRat (((x.crossings - 1 : Nat) : Rat) * 1000000000 / (b - a)) else Config.noFrequency m g
    | _, _ => Config.noFrequency m g
  let s := es.foldl publishElement (wrF (wrF (wrF s (Obj.METER_P m) p) (Obj.METER_Q m) q) (Obj.METER_S m) va)
  let s := setMeter m (fun x => { x with first := none, final := none, crossings := 0 }) (wr s (Obj.METER_FREQUENCY m) (f % 2 ^ 32))
  if metering s m then addEnergy m (if 0 ≤ p then 6 else 7) (lsbOf (va / 5)) s else s

/-- `CH_RMS` and SATURATED of a channel's window. -/
def publishChan (s : State) (c : Nat) : State :=
  if chanCount s ≤ c then s
  else
    let x := chanOf s c
    let s := wrF s (Obj.CH_RMS c) (if x.count = 0 then 0 else sqrtR (x.sumSq / (x.count : Rat)))
    setChan c (fun x => { x with sumSq := 0, count := 0, sat := false }) (setChanBit c 2 x.sat s)

/-- Coefficients take effect (R375). -/
def loadCoefficients (s : State) : State :=
  setMeters (fun x => { x with
    corr := rd s Obj.METER_CORRECTION
    chans := (List.range 40).map (fun c => { (chanOf s c) with
      coef := [rdF s (Obj.CH_OFFSET c), rdF s (Obj.CH_GAIN c), rdF s (Obj.CH_OFFSET_X16 c), rdF s (Obj.CH_GAIN_X16 c)] })
    els := (List.range 6).map (fun e => { (getD' s.meter.els e Element.reset) with
      coef := [rdF s (Obj.EL_P_GAIN e), rdF s (Obj.EL_P_OFFSET e), rdF s (Obj.EL_Q_GAIN e), rdF s (Obj.EL_Q_OFFSET e)] }) }) s

/-- METER_WINDOW_BOUNDARY (R375, R378, R379, R383): at the boundary of a 200 ms window whose grid sample has been taken. -/
def execMeterWindowBoundary (s : State) : Host.Outcome State Fault Refusal :=
  .next (whenAlive .processing (fun s =>
    match s.meter.lastGrid with
    | some g =>
      if g % windowNs ≠ 0 ∨ s.meter.lastWindow = some g then s
      else
        let s := [0, 1].foldl (publishMeter g) s
        let s := (List.range 40).foldl publishChan s
        refreshCopy (setMeters (fun c => { c with lastWindow := some g }) (finishBoundary g (loadCoefficients s)))
    | none => s) s)

/-! ### Pulses (R385) -/

/-- PULSE_EMIT (R385): a due pulse is emitted, at least 2 × `PULSE_WIDTH` after the one before. -/
def execPulseEmit (n : Nat) (s : State) : Host.Outcome State Fault Refusal :=
  .next (whenAlive .processing (fun s =>
    let p := getD' s.meter.pulses n { rem := 0, last := none }
    let free := match p.last with
      | some t => decide (t + 2 * rd s (Obj.PULSE_WIDTH n) * 10000 ≤ nowNs s)
      | none => true
    if decide (n < 4) && rdBool s (Obj.PULSE_ENABLE n) && decide (0 < rd s (Obj.PULSE_BACKLOG n)) && free then
      let s := wr s (Obj.PULSE_BACKLOG n) (rd s (Obj.PULSE_BACKLOG n) - 1)
      let s := setMeters (fun c => { c with pulses := c.pulses.set n { p with last := some (nowNs s) } }) s
      send (.pulse 0 n (rd s (Obj.PULSE_WIDTH n))) (countBy 64 s (Obj.PULSE_COUNT n) 1)
    else s) s)

/-! ### Offset calibration (R386, R387) -/

/-- Channels named by a mask. -/
def maskChans (m : Nat) : List Nat := (List.range 40).filter (fun c => bit m c)

/-- A calibration ends with an outcome, of a failure at channel `c`. -/
def calFinish (code c : Nat) (s : State) : State :=
  let s := (maskChans s.meter.calMask).foldl (fun t i => setChanBit i 4 false t) s
  let s := if code = 0 then s else setChanBit c 5 true s
  setMeters (fun x => { x with calHalf := 0, calMask := 0, calMissing := none })
    (wrs s [(Obj.CAL_STATUS, code), (Obj.CAL_FAILED_CHANNEL, if code = 0 then 0xFF else c)])

/-- A write of `CAL_CHANNELS` (R386). -/
def writeCal (v : Nat) (s : State) : WriteResult :=
  if s.meter.calHalf ≠ 0 then refuse s abState
  else if 2 ^ chanCount s ≤ v then refuse s abRange
  else
    match (maskChans v).find? (fun c => !rdBool s (Obj.CH_ENABLE c) || chanBad s c) with
    | some c => accept (setChanBit c 5 true (wrs s [(Obj.CAL_STATUS, 0x12), (Obj.CAL_FAILED_CHANNEL, c)]))
    | none =>
      let s := (maskChans v).foldl (fun t c => setChan c (fun x => { x with cal := [0, 0, 0, 0, 0], calBad := 0 })
        (setChanBit c 5 false (setChanBit c 4 true t))) s
      accept (setMeters (fun x => { x with calHalf := 1, calMask := v, calMissing := none }) (wr s Obj.CAL_STATUS 1))

/-- What one path's sums fail: bit 0 the RMS, bit 1 the mean. `scale` is the path's full scale over that of ×1. -/
def calPath (limit n sum sq scale : Rat) : Nat :=
  if n = 0 then 0
  else
    let m := sum / n
    let var := sq / n - m * m
    (if limit * limit ≤ var * scale * scale then 1 else 0) + (if 1 / 100 < absRat m then 2 else 0)

/-- What the half that has ended fails on channel `c`. -/
def calCheck (s : State) (c : Nat) : Nat :=
  let x := (chanOf s c).cal
  let n := getD' x 4 0
  let lim := rdF s Obj.CAL_ZERO_LIMIT
  let a := calPath lim n (getD' x 0 0) (getD' x 1 0) 1
  if twoPaths c then a ||| calPath lim n (getD' x 2 0) (getD' x 3 0) (1 / 16) else a

/-- The outcome of a calibration: R387 in its order, each with the lowest channel concerned. -/
def calOutcome (s : State) : Nat × Nat :=
  let cs := maskChans s.meter.calMask
  match cs.find? (fun c => bit (chanOf s c).calBad 0), cs.find? (fun c => bit (chanOf s c).calBad 1), s.meter.calMissing with
  | some c, _, _ => (0x10, c)
  | none, some c, _ => (0x11, c)
  | none, none, some c => (0x13, c)
  | none, none, none => (0, 0)

/-- CAL_HALF_END (R386): a half of the calibration ends; with the second the offsets are replaced, or the calibration fails. -/
def execCalHalfEnd (s : State) : Host.Outcome State Fault Refusal :=
  .next (whenAlive .processing (fun s =>
    if s.meter.calHalf = 0 then s
    else
      let cs := maskChans s.meter.calMask
      let s := cs.foldl (fun t c =>
        let t := if getD' (chanOf t c).cal 4 0 = 0 ∧ t.meter.calMissing.all (fun m => decide (c ≤ m)) = true then
            setMeters (fun x => { x with calMissing := some c }) t else t
        let bad := calCheck t c
        setChan c (fun x => { x with calBad := x.calBad ||| bad }) t) s
      if s.meter.calHalf = 1 then
        setMeters (fun x => { x with calHalf := 2 }) (cs.foldl (fun t c => setChan c (fun x => { x with cal := [0, 0, 0, 0, 0] }) t) s)
      else
        let r := calOutcome s
        if r.1 ≠ 0 then calFinish r.1 r.2 s
        else
          let s := cs.foldl (fun t c =>
            let x := (chanOf t c).cal
            let n := getD' x 4 1
            let t := writeP (Obj.CH_OFFSET c) (f32OfRat (getD' x 0 0 / n)) t
            if twoPaths c then writeP (Obj.CH_OFFSET_X16 c) (f32OfRat (getD' x 2 0 / n)) t else t) s
          calFinish 0 0 (count s Obj.CALIBRATIONS)) s)

/-- A commit that changes a named channel, or a restart of the chain, aborts a calibration (R387). -/
def calAbort (c : Nat) (s : State) : State := if s.meter.calHalf = 0 then s else calFinish 0x14 c s

/-! ### Start, commits and memory errors (R383, R388, R389) -/

/-- The accumulators at the end of BOOT: resumed from the copy, or invalid from 0 after a cove cold start (R383). -/
def meterResume (s : State) : State :=
  match s.meter.copy with
  | some k =>
    let s := (List.range 16).foldl (fun t i =>
      let x := getD' k.acc i (0, 0)
      setMeter (i / 8) (fun y => { y with rem := y.rem.set (i % 8) x.2 }) (wr t (energyKey (i / 8) (i % 8)) x.1)) s
    let s := [0, 1].foldl (fun t m =>
      let f := getD' k.flags m 0
      wrs t [(Obj.METER_FLAGS m, setBit (f &&& 0xFFFF04) 4), (Obj.METER_GAP_TIME m, getD' k.gap m 0)]) s
    setMeters (fun c => { c with resumed := true }) s
  | none =>
    [0, 1].foldl (fun t m =>
      let t := wr t (Obj.METER_FLAGS m) (rd t (Obj.METER_FLAGS m) ||| 0xFF0004)
      emit .energyInvalid m (leBytes 1 m) t) s

/-- Settings whose change restarts a channel (R389). -/
def chanKeys (c : Nat) : List Nat := [Obj.BS_DECIMATION c, Obj.CH_KIND c, Obj.CH_INTEGRATOR c, Obj.CH_ENABLE c]

/-- The P objects of a channel (R390). -/
def chanSettings (c : Nat) : List Nat := (List.range 11).map (fun i => objKey (0x2A10 + c) (i + 1))

/-- Channels whose keys of R389 a commit changes restart, and a calibration of a channel it changes at all is aborted (R387). -/
def meterCommit (old s : State) : State :=
  let cs := List.range (chanCount s)
  let changed (ks : List Nat) : Bool := ks.any (fun k => decide (rd old k ≠ rd s k))
  let anew := cs.filter (fun c => changed (chanKeys c))
  let s := match cs.find? (fun c => bit s.meter.calMask c && changed (chanSettings c)) with | some c => calAbort c s | none => s
  anew.foldl restartChan s

/-- The chain restarts every channel (R388). -/
def restartChain (s : State) : State :=
  let low := ((maskChans s.meter.calMask).head?).getD 0
  let s := (List.range 40).foldl restartChan (calAbort low s)
  emit .meteringChainRestarted noInst [] (count (loadCoefficients s) Obj.CHAIN_RESTARTS)

/-- Both copies of an accumulator are lost: it restarts from 0, INVALID (R388). -/
def loseAccumulator (m a : Nat) (s : State) : State :=
  let s := setMeter m (fun x => { x with rem := x.rem.set a 0 }) (wr s (energyKey m a) 0)
  emit .energyInvalid m (leBytes 1 m) (setFlag m (16 + a) true s)

/-- A snapshot is lost: its cause byte reads 0xFF (R388). Entry 0 is `SNAPSHOT`, entry n + 1 the history's n-th. -/
def loseSnapshot (entry : Nat) (s : State) : State :=
  let bad (bs : List Byte) : List Byte := bs.set 20 0xFF
  match entry with
  | 0 => wrBlob s Obj.SNAPSHOT (bad (rdBlob s Obj.SNAPSHOT))
  | n + 1 => setMeters (fun c => { c with history := c.history.modify n bad }) s

/-- A write of 1 to `SNAPSHOT_TRIGGER` (R381). -/
def writeSnapshot (v : Nat) (s : State) : WriteResult :=
  if v = 1 then accept (setMeters (fun c => { c with snap := true }) s) else refuse s abRange

/-- A write of `ENERGY_PRESET` (R382): due at the next grid boundary. -/
def writePreset (m : Nat) (bs : List Byte) (s : State) : WriteResult :=
  if bs.length ≠ 16 then refuse s abLength
  else
    let a := leNat (slice bs 0 1)
    if 7 < a then refuse s abRange
    else accept (setMeter m (fun x => { x with presets := x.presets ++ [(a, leNat (slice bs 8 8))] }) s)

/-- A write of `METER_FLAGS_CLEAR` (R390). -/
def writeFlagsClear (m v : Nat) (s : State) : WriteResult :=
  accept (wr s (Obj.METER_FLAGS m) (clearMask (rd s (Obj.METER_FLAGS m)) (v &&& 0xFF0E)))

end Sys2Proof.Machine
end

