-- ==== Sys2Proof/Machine/LocalIo.lean ====
section
/-! DEFINITION. Local I/O: sensor samples and SAR converters (R393 to R402), PWM pairs (R407 to R412), general-purpose pins (R413) and
the management bus (R414 to R419). The comparators are in the Breakwater file, whose fast paths they feed. -/

namespace Sys2Proof.Machine

/-- Change the local I/O. -/
def setLio (f : LocalIo → LocalIo) (s : State) : State := { s with lio := f s.lio }

/-- Classes of pins in `Out.pin`: general-purpose. -/
abbrev pinGpio : Nat := 1
/-- PWM_A -/
abbrev pinPwmA : Nat := 2
/-- PWM_B -/
abbrev pinPwmB : Nat := 3
/-- trip outputs, 2 × channel + output -/
abbrev pinTrip : Nat := 4
/-- BLOCK_OUT -/
abbrev pinBlockOut : Nat := 5

/-! ### SAR converters (R396 to R401) -/

/-- Converter `k` calibrates and takes no scan. -/
def sarBusy (s : State) (k : Nat) : Bool := bit (s.lio.calMask ||| s.lio.selfMask) k

/-- The background scan of converter `k` runs (R398). -/
def sarBackground (s : State) (k : Nat) : Bool :=
  rdBool s (Obj.SAR_CONTINUOUS k) && decide (rd s (Obj.SAR_BG_MASK k) ≠ 0) && !sarBusy s k

/-- `SAR_STATUS` bits 0 and 3 (R425). -/
def showSar (s : State) : State :=
  (List.range 4).foldl (fun t k =>
    wr t (Obj.SAR_STATUS k) (putBit (putBit (rd t (Obj.SAR_STATUS k)) 0 (sarBackground t k)) 3 (bit t.lio.calMask k))) s

/-- A result completes into the data register while an earlier one stands untaken (R398). -/
def sarOverrun (k : Nat) (s : State) : State :=
  wr (count s (Obj.SAR_OVERRUNS k)) (Obj.SAR_STATUS k) (setBit (rd s (Obj.SAR_STATUS k)) 1)

/-- A result stands in the data register. -/
def sarResult (k i code : Nat) (taken : Bool) (s : State) : State :=
  let s := if getD' s.lio.full k false then sarOverrun k s else s
  setLio (fun x => { x with full := x.full.set k (!taken) }) (wr s (Obj.SAR_DATA k) (code % 65536 + (i % 8) * 65536))

/-- Input whose turn it is in the background scan of converter `k`: the next set one in ascending order, wrapping to the lowest
(R398). -/
def sarTurn (s : State) (k : Nat) : Option Nat :=
  ((List.range 8).map (fun j => (getD' s.lio.bgNext k 0 + j) % 8)).find? (bit (rd s (Obj.SAR_BG_MASK k)))

/-- SAR_BACKGROUND_CONVERSION (R398): the conversion of the input whose turn it is completes, and the capture engine takes its
result (`taken`) or leaves it standing. -/
def execSarBackgroundConversion (conv input code : Nat) (taken : Bool) (s : State) : Host.Outcome State Fault Refusal :=
  .next (whenAlive .analogue (fun s =>
    if decide (conv < 4) && sarBackground s conv && sarTurn s conv == some input then
      let s := setLio (fun x => { x with bgNext := x.bgNext.set conv ((input + 1) % 8) }) (sarResult conv input code taken s)
      if taken then wr s (Obj.SAR_VALUE conv input) (code % 65536) else s
    else s) s)

/-- Station states in which a SAR calibration may run (R400). -/
def sarCalState (s : State) : Bool := [stHeld, stReady, stBlocked, stSafe].contains (station s)

/-- Converters of a mask. -/
def sarConvs (m : Nat) : List Nat := (List.range 4).filter (fun k => bit m k)

/-- A write of `SAR_CAL` (R400). -/
def writeSarCal (v : Nat) (s : State) : WriteResult :=
  if 15 < v then refuse s abRange
  else if s.lio.calMask ≠ 0 ∨ sarCalState s = false then refuse s abState
  else if v = 0 then accept s
  else accept (showSar (wr (setLio (fun x => { x with calMask := v }) s) Obj.SAR_CAL_STATUS 0xFF))

/-- A calibration ends (R401). -/
def sarCalFinish (status input : Nat) (s : State) : State :=
  let s := wr s Obj.SAR_CAL_STATUS status
  let s := if status = 0 then count s Obj.SAR_CALIBRATIONS else wr s Obj.SAR_CAL_FAILED input
  showSar (setLio (fun x => { x with calMask := 0 }) s)

/-- A calibration is aborted when the station has left the states of R400 (R401). -/
def sarCalCheck (s : State) : State :=
  if s.lio.calMask ≠ 0 ∧ sarCalState s = false then
    sarCalFinish 0x13 (8 * ((sarConvs s.lio.calMask).head?).getD 0) s
  else s

/-- The array calibration of a converter failed (R399). -/
def sarArrayFailed (s : State) (k : Nat) : State :=
  emit .sarSelfCalFailed k (leBytes 1 k) (wr s (Obj.SAR_STATUS k) (setBit (rd s (Obj.SAR_STATUS k)) 2))

/-- Mean of the 1,024 conversions of step 3, to the nearest code. -/
def sarOffset (r : SarReading) : Int := divHalfEven r.sum2 1024

/-- The input was at ground over both runs (R400 steps 2 and 3). -/
def sarGrounded (r : SarReading) (lim : Nat) : Bool :=
  decide (r.sum1 ≤ lim * 256) && decide (r.spread1 ≤ 4 * lim) && decide (r.sum2 ≤ lim * 1024) && decide (r.spread2 ≤ 4 * lim)

/-- SAR_CAL_END (R400, R401): converters whose array calibration failed, and what was measured of the inputs. -/
def execSarCalEnd (failed : Nat) (readings : List SarReading) (s : State) : Host.Outcome State Fault Refusal :=
  .next (whenAlive .analogue (fun s =>
    if s.lio.calMask = 0 then s
    else
      let ks := sarConvs s.lio.calMask
      let bad := ks.filter (fun k => bit failed k)
      let s := bad.foldl sarArrayFailed s
      let lim := rd s Obj.SAR_CAL_ZERO_LIMIT
      let reading (w : Nat) : SarReading :=
        (readings.find? (fun r => r.input = w)).getD { input := w, sum1 := 0, spread1 := 0, sum2 := 0, spread2 := 0 }
      let rs := (ks.flatMap (fun k => (List.range 8).map (fun i => 8 * k + i))).map reading
      match bad.head?, rs.find? (fun r => !sarGrounded r lim), rs.find? (fun r => decide (512 < (sarOffset r).natAbs)) with
      | some k, _, _ => sarCalFinish 0x12 (8 * k) s
      | none, some r, _ => sarCalFinish 0x10 r.input s
      | none, none, some r => sarCalFinish 0x11 r.input s
      | none, none, none =>
        sarCalFinish 0 0 (rs.foldl (fun t r => writeP (Obj.SAR_INPUT_OFFSET (r.input / 8) (r.input % 8)) (ofSigned 16 (sarOffset r)) t) s))
    s)

/-- Every converter calibrates its array at the end of a reset that reaches the analogue die (R399). -/
def sarSelfCal (s : State) : State := showSar (setLio (fun x => { x with selfMask := 15 }) s)

/-- SAR_SELF_CAL_END (R399): the array calibration of a converter ends. -/
def execSarSelfCalEnd (conv : Nat) (passed : Bool) (s : State) : Host.Outcome State Fault Refusal :=
  .next (whenAlive .analogue (fun s =>
    if bit s.lio.selfMask conv then
      let s := setLio (fun x => { x with selfMask := clearBit x.selfMask conv }) s
      showSar (if passed then s else sarArrayFailed s conv)
    else s) s)

/-! ### Sensor samples (R393 to R395, R402) -/

/-- F32 of a sample's code (R394). -/
def senseRaw (s : State) (w : Nat) (code : Int) : Nat :=
  f32OfRat (rdF s (Obj.SENSE_GAIN w) * ((code : Rat) - rdF s (Obj.SENSE_OFFSET w)))

/-- Store sample `w` of tide `n`: its word and the raw code R150 looks at; none when missing. -/
def putSample (n w : Nat) (raw : Option Int) (code : Int) (s : State) : State :=
  let s := setLio (fun x => { x with codes := x.codes.set w raw }) s
  setSample n w (raw.map (fun _ => ((senseRaw s w code : Nat) : Int))) s

/-- A SAR sample of the tide scan (R397). An enabled sample without a code lost its result to an overrun (R398). -/
def scanSample (n : Nat) (codes : List (Nat × Int)) (s : State) (w : Nat) : State :=
  let k := w / 8
  if bit (rd s Obj.SENSE_ENABLE) w = false ∨ sarBusy s k = true then putSample n w none 0 s
  else match codes.find? (fun p => p.1 = w) with
    | none => putSample n w none 0 (sarOverrun k s)
    | some p =>
      let raw := clampInt 0 65535 p.2
      let code := clampInt 0 65535 (raw - rdInt 16 s (Obj.SAR_INPUT_OFFSET k (w % 8)))
      putSample n w (some raw) code (sarResult k (w % 8) raw.toNat true s)

/-- The tide scan at the start of tide `n` (R397); bitstream samples are missing until their decimators deliver. -/
def tideScan (n : Nat) (codes : List (Nat × Int)) (s : State) : State :=
  let s := (List.range 32).foldl (scanSample n codes) s
  (List.range 32).foldl (fun t i => putSample n (32 + i) none 0 t) s

/-- The samples of the tide that ends: `SENSE_VALUE` and `SENSE_MISSING` (R394). -/
def showSense (n : Nat) (s : State) : State :=
  let s := (List.range 64).foldl (fun t w =>
    wr t (Obj.SENSE_VALUE w) (match sampleAt t n w with | some raw => raw.toNat | none => 0x7FC00000)) s
  wr s Obj.SENSE_MISSING ((List.range 64).foldl (fun m w => putBit m w (sampleAt s n w).isNone) 0)

/-- A second of station time begins with the present tide. -/
def secondTide (s : State) : Bool :=
  decide (tideStartAt s (tideNow s) / secUnit ≠ (tideStartAt s (tideNow s) - periodNs s * nsUnit) / secUnit)

/-- The mean of `SENSE_DELAY` over the second that has ended (R402). -/
def showSenseDelay (s : State) : State :=
  if secondTide s then
    let s := (List.range 32).foldl (fun t i =>
      let d := getD' t.lio.delays i (0, 0)
      if d.2 = 0 then t else wrInt 32 t (Obj.SENSE_DELAY i) (divHalfEven d.1 d.2)) s
    setLio (fun x => { x with delays := List.replicate 32 (0, 0) }) s
  else s

/-- SENSOR_DECIMATOR_OUTPUT (R402): the output used as the sample of this tide; `outputs` have completed since the one before, and
`delay` is the tide start minus its effective instant, ns. -/
def execSensorDecimatorOutput (input : Nat) (code : Int) (outputs : Nat) (delay : Int) (s : State) :
    Host.Outcome State Fault Refusal :=
  .next (whenAlive .fabric (fun s =>
    if 32 ≤ input ∨ bit (rd s Obj.SENSE_ENABLE) (32 + input) = false then s
    else if chanBad s input then setLio (fun x => { x with settle := x.settle.set input 3 }) s
    else
      let left := getD' s.lio.settle input 3
      let s := setLio (fun x => { x with settle := x.settle.set input (left - outputs),
                                         delays := x.delays.modify input (fun d => (d.1 + delay, d.2 + 1)) }) s
      if left = 0 ∨ left < outputs then
        let c := clampInt (-32768) 32767 code
        putSample (tideNow s) (32 + input) (some c) c s
      else s) s)

/-! ### PWM (R407 to R412) -/

/-- Pair `q`. -/
def pwmOf (s : State) (q : Nat) : PwmPair := getD' s.lio.pwms q { driven := false, duty := 0, compare := 0, next := 0 }

/-- Change it. -/
def setPwm (q : Nat) (f : PwmPair → PwmPair) (s : State) : State := setLio (fun x => { x with pwms := x.pwms.modify q f }) s

/-- The output slot of a user program that drives pair `q`: program and slot (R156). -/
def pwmSlot (s : State) (q : Nat) : Option (Nat × Nat) :=
  ((List.range 8).flatMap (fun u =>
    if rdBool s (Obj.PROG_ENABLE u) then
      let bind := rdBlob s (Obj.PROG_BIND u)
      (List.range 64).filterMap (fun k =>
        let e := slice bind (4 * k) 4
        if e.length = 4 ∧ leNat (slice e 0 1) = 2 ∧ leNat (slice e 1 1) = q then some (u, k) else none)
    else [])).head?

/-- The pair is named in `PRECHARGE_PWM`. -/
def isPrecharge (s : State) (q : Nat) : Bool := decide (rd s Obj.PRECHARGE_PWM = q)

/-- The duty comes from the object (R410). -/
def dutyFromObject (s : State) (q : Nat) : Bool := !isPrecharge s q && (pwmSlot s q).isNone

/-- At the demand mark: the duties that the next period takes from the pre-charge loop and from user programs (R151, R410). -/
def takeDuties (s : State) : State :=
  (List.range 12).foldl (fun t q =>
    if isPrecharge t q then setPwm q (fun x => { x with next := t.sm.chargeDuty }) t
    else match pwmSlot t q with
      | some (u, k) => setPwm q (fun x => { x with next := clampRat 0 1 (f32ToRat (getD' (userOf t u).out k 0)) }) t
      | none => t) s

/-- Duty that pair `q` takes at a valley. -/
def pwmDuty (s : State) (q : Nat) : Rat := if dutyFromObject s q then rdF s (Obj.PWM_DUTY q) else (pwmOf s q).next

/-- The station state permits the pair's role (R411). -/
def pwmPermitted (s : State) (q : Nat) : Bool :=
  let st := station s
  if isPrecharge s q then decide (st = stCharging)
  else if rd s (Obj.PWM_ROLE q) = 1 then decide (st = stEnergised) || isActive st || decide (st = stBlocked)
  else isActive st

/-- `PWM_STATUS` (R426). -/
def showPwm (s : State) (q : Nat) : State :=
  let on := rdBool s (Obj.PWM_ENABLE q)
  let v := bits (rd s (Obj.PWM_STATUS q)) 3 3 * 8
  wr s (Obj.PWM_STATUS q) (putBit (putBit (putBit v 2 (on && !pwmPermitted s q)) 1 (pwmOf s q).driven) 0
    (!isPrecharge s q && (pwmSlot s q).isSome))

/-- Both outputs of a pair go inactive (R411). -/
def pwmOff (q : Nat) (s : State) : State :=
  let pol := rd s (Obj.PWM_POLARITY q)
  send (.pin pinPwmB q (bit pol 1)) (send (.pin pinPwmA q (bit pol 0)) (setPwm q (fun x => { x with driven := false }) s))

/-- Pairs that may no longer be driven stop, at the tide start of a state change or at once when disabled (R411). -/
def pwmStates (s : State) : State :=
  (List.range 12).foldl (fun t q =>
    showPwm (if (pwmOf t q).driven && !(rdBool t (Obj.PWM_ENABLE q) && pwmPermitted t q) then pwmOff q t else t) q) s

/-- Compare value in 1/32 counts (R407). -/
def pwmCompare (period : Nat) (d : Rat) : Nat := (roundHalfEven (clampRat 0 1 d * (period : Rat) * 32)).toNat

/-- The period as it is taken (R408): compare value in 1/32 counts, and whether the pulse was suppressed. -/
def pwmPeriod (period rise fall minPulse : Nat) (d : Rat) : Nat × Bool :=
  let c := pwmCompare period d
  let dead : Int := (rise : Int) - (fall : Int)
  let lim : Int := 32 * (minPulse : Int)
  if 0 < c ∧ 2 * (c : Int) - dead < lim then (0, true)
  else if c < 32 * period ∧ 2 * (32 * (period : Int) - (c : Int)) - dead < lim then (32 * period, true)
  else (c, false)

/-- A pair takes its duty at a valley and starts a period (R407 to R412). `correction` is the change of the period that ends, in
counts, that puts the valley on the tide start. -/
def pwmValley (q correction : Nat) (s : State) : State :=
  let s := if rdBool s (Obj.PWM_SYNC q) && decide (8 < correction) then count s (Obj.PWM_RESYNCS q) else s
  if rdBool s (Obj.PWM_ENABLE q) then
    let d := pwmDuty s q
    let r := pwmPeriod (rd s (Obj.PWM_PERIOD q)) (rd s (Obj.PWM_DELAY_RISE q)) (rd s (Obj.PWM_DELAY_FALL q))
      (rd s (Obj.PWM_MIN_PULSE q)) d
    let on := pwmPermitted s q
    let s := setPwm q (fun x => { x with duty := d, compare := r.1, driven := on }) s
    showPwm (if on && r.2 then count s (Obj.PWM_SUPPRESSED q) else s) q
  else s

/-- A write of `PWM_DUTY` (R410). -/
def writeDuty (q v : Nat) (s : State) : WriteResult :=
  if dutyFromObject s q then accept (wr s (Obj.PWM_DUTY q) v) else refuse s abState

/-- DELAY_LINE_CALIBRATION (R409): the replica matched 32 taps to one cycle, or it did not. -/
def execDelayLineCalibration (matched : Bool) (s : State) : Host.Outcome State Fault Refusal :=
  .next (whenAlive .localIo (fun s =>
    let s := (List.range 12).foldl (fun t q => wr t (Obj.PWM_STATUS q) (putBit (rd t (Obj.PWM_STATUS q)) 3 (!matched))) s
    let s := if !matched && !s.lio.uncal then emit .pwmDelayUncalibrated noInst [] s else s
    setLio (fun x => { x with uncal := !matched }) s) s)

/-! ### GPIO (R413) -/

/-- Drive the output pins named in a mask to their bits of `GPIO_OUT`. -/
def drivePins (mask : Nat) (s : State) : State :=
  (bitsSet 32 (mask &&& s.lio.gpioOut)).foldl (fun t i => send (.pin pinGpio i (bit (rd t Obj.GPIO_OUT) i)) t) s

/-- Pins named in `GPIO_DIRECTION` become outputs; a pin that was an input drives its stored bit. -/
def gpioDirections (s : State) : State :=
  let old := s.lio.gpioOut
  let dir := rd s Obj.GPIO_DIRECTION
  drivePins (clearMask dir old) (setLio (fun x => { x with gpioOut := dir }) s)

/-- The end of BOOT (R413): each output drives its bit of `GPIO_OUT_INIT`. -/
def gpioBoot (s : State) : State :=
  gpioDirections (wr s Obj.GPIO_OUT (rd s Obj.GPIO_OUT_INIT &&& rd s Obj.GPIO_DIRECTION))

/-- A write of `GPIO_OUT`. -/
def writeGpio (v : Nat) (s : State) : WriteResult := accept (drivePins (2 ^ 32 - 1) (wr s Obj.GPIO_OUT v))

/-- GPIO_EDGE (R413): a pin's debounced level changes. An enabled edge also wakes the device (R475). -/
def execGpioEdge (pin : Nat) (level : Bool) (s : State) : Host.Outcome State Fault Refusal :=
  .next (
    if 32 ≤ pin ∨ bit s.lio.gpio pin = level then s
    else
      let s := setLio (fun x => { x with gpio := putBit x.gpio pin level }) s
      whenAlive .localIo (fun s =>
        let s := wr s Obj.GPIO_IN (putBit (rd s Obj.GPIO_IN) pin level)
        if bit (rd s (if level then Obj.GPIO_EVENT_RISE else Obj.GPIO_EVENT_FALL)) pin then
          wakeNow (emit .gpioEdge pin (leBytes 1 pin ++ leBytes 1 (b2n level)) (count s Obj.GPIO_EVENTS))
        else s) s)

/-! ### Management bus (R414 to R419) -/

/-- Bits of `MBUS_STATUS` (R427). -/
abbrev mbStuck : Nat := 0
/-- BUSY -/
abbrev mbBusy : Nat := 1
/-- RECOVERING -/
abbrev mbRecovering : Nat := 2

/-- MBUS_STUCK. -/
def busStuck (s : State) : Bool := bit (rd s Obj.MBUS_STATUS) mbStuck

/-- Set a bit of `MBUS_STATUS`. -/
def setBus (i : Nat) (b : Bool) (s : State) : State := wr s Obj.MBUS_STATUS (putBit (rd s Obj.MBUS_STATUS) i b)

/-- Place of a transaction in the order of R414. -/
def BusJob.rank : BusJob → Nat
  | .eeprom => 0
  | .host => 1
  | .regulator _ => 2
  | .transceiver _ => 3
  | .txDisable _ _ => 3

/-- The transaction to run next: the first of the least rank. -/
def nextJob : List BusJob → Option BusJob
  | [] => none
  | j :: rest =>
    match nextJob rest with
    | none => some j
    | some k => if k.rank < j.rank then some k else some j

/-- Add a transaction unless it already waits. -/
def addJob (j : BusJob) (s : State) : State :=
  if s.lio.jobs.contains j then s else setLio (fun x => { x with jobs := x.jobs ++ [j] }) s

/-- Open channel `ch` of switch `sw`, or close it with 0 (R417). -/
def busSwitch (sw mask : Nat) (s : State) : State := send (.mbus (rd s (Obj.XCVR_SWITCH_ADDR sw)) (leBytes 1 mask) 0) s

/-- What a transaction puts on the bus. -/
def runJob (j : BusJob) (s : State) : State :=
  match j with
  | .eeprom => send (.mbus 0x54 [] 0) s
  | .host =>
    let bs := s.lio.request.getD []
    let sw := leNat (slice bs 1 1)
    let s := if sw < 16 then busSwitch sw (2 ^ leNat (slice bs 2 1)) s else s
    send (.mbus (leNat (slice bs 0 1)) (slice bs 8 (leNat (slice bs 4 2))) (leNat (slice bs 6 2))) s
  | .regulator r =>
    let a := rd s (Obj.PMBUS_ADDRESS r)
    let cmds := (if ((getD' s.lio.regs r { body := [], mode := none, status := 0 }).mode).isNone then [0x20] else [])
      ++ [0x8B, 0x8C, 0x8D, 0x79]
    cmds.foldl (fun t c => send (.mbus a (leBytes 1 c) (if c = 0x20 then 1 else 2)) t) s
  | .transceiver d =>
    send (.mbus 0x51 (leBytes 1 110) 1) (send (.mbus 0x51 (leBytes 1 96) 10) (send (.mbus 0x50 [] 0) (busSwitch (d / 8) (2 ^ (d % 8)) s)))
  | .txDisable d off => send (.mbus 0x51 (leBytes 1 110 ++ leBytes 1 (if off then 64 else 0)) 0) (busSwitch (d / 8) (2 ^ (d % 8)) s)

/-- Start the next transaction when the bus is free (R414). -/
def startBus (s : State) : State :=
  if s.lio.job.isSome ∨ busStuck s = true ∨ bit (rd s Obj.MBUS_STATUS) mbRecovering = true then s
  else match nextJob s.lio.jobs with
    | none => setBus mbBusy false s
    | some j =>
      runJob j (setBus mbBusy true (setLio (fun x => { x with job := some j, jobs := x.jobs.erase j,
                                                              retries := rd s Obj.MBUS_RETRIES }) s))

/-- Bytes of `MBUS_RESULT` (R419). -/
def busResult (status : Nat) (data : List Byte) : List Byte :=
  leBytes 1 status ++ leBytes 1 0 ++ leBytes 2 data.length ++ data

/-- The 11-bit linear format of PMBus. -/
def linear11 (w : Nat) : Rat := scale2 ((toSigned 11 w : Int) : Rat) (toSigned 5 (bits w 15 11))

/-- VOUT as VOUT_MODE names its linear format (R418). -/
def decodeVout (mode w : Nat) : Nat :=
  if bits mode 7 5 = 0 then f32OfRat (scale2 (w : Rat) (toSigned 5 (bits mode 4 0))) else Config.otherVout mode w % 2 ^ 32

/-- A regulator answered: VOUT_MODE, VOUT, IOUT, temperature and STATUS_WORD. -/
def regulatorDone (r : Nat) (data : List Byte) (s : State) : State :=
  let old := getD' s.lio.regs r { body := [], mode := none, status := 0 }
  let mode := old.mode.getD (leNat (slice data 0 1))
  let st := leNat (slice data 7 2)
  let body := leBytes 4 (decodeVout mode (leNat (slice data 1 2))) ++ leBytes 4 (f32OfRat (linear11 (leNat (slice data 3 2))))
    ++ leBytes 4 (f32OfRat (linear11 (leNat (slice data 5 2)))) ++ leBytes 2 st ++ leBytes 1 1 ++ leBytes 1 0
  let s := setLio (fun x => { x with regs := x.regs.set r { body := body, mode := some mode, status := st } }) s
  if old.status = 0 ∧ st ≠ 0 then emit .regulatorFault r (leBytes 1 r ++ leBytes 2 st) s else s

/-- A poll of a regulator failed: it does not respond, or its last poll had a PEC error. -/
def regulatorFailed (r outcome : Nat) (s : State) : State :=
  setLio (fun x => { x with regs := x.regs.modify r (fun y =>
    { y with body := y.body.take 14 ++ leBytes 1 (if outcome = 5 then 3 else 0) ++ y.body.drop 15 }) }) s

/-- What is known of a transceiver. -/
def xcvrOf (s : State) (d : Nat) : Xcvr :=
  ((s.lio.xcvrs.find? (fun p => p.1 = d)).map (·.2)).getD { presence := 0xFF, body := List.replicate 11 0, polled := 0 }

/-- Change it. -/
def setXcvr (d : Nat) (x : Xcvr) (s : State) : State :=
  setLio (fun l => { l with xcvrs := l.xcvrs.filter (fun p => p.1 ≠ d) ++ [(d, x)] }) s

/-- Big-endian words of SFF-8472 as the table's little-endian ones. -/
def swapWords : Nat → List Byte → List Byte
  | 0, _ => []
  | n + 1, bs => slice bs 1 1 ++ slice bs 0 1 ++ swapWords n (bs.drop 2)

/-- A transceiver answered: byte 110, then bytes 96 to 105 (R417). -/
def xcvrDone (d : Nat) (data : List Byte) (s : State) : State :=
  let st := leNat (slice data 0 1)
  let was := leNat (slice (xcvrOf s d).body 0 1)
  let s := setXcvr d { presence := 1, body := leBytes 1 st ++ padTo 10 (swapWords 5 (slice data 1 10)), polled := s.time.acc } s
  if bit st 1 && !bit was 1 then emit .transceiverLossOfSignal d (leBytes 1 d) s else s

/-- It did not acknowledge: absent; the event is raised when an enabled drove's transceiver stops acknowledging. -/
def xcvrAbsent (d : Nat) (s : State) : State :=
  let x := xcvrOf s d
  let s := setXcvr d { x with presence := 0 } s
  if x.presence = 1 ∧ droveOn s d = true then emit .transceiverAbsent d (leBytes 1 d) s else s

/-- The running transaction has ended for good: outcome 0 done, 2 address NACK, 3 data NACK, 4 stretch timeout, 5 PEC error, 6 lost bit. -/
def finishJob (j : BusJob) (outcome : Nat) (data : List Byte) (s : State) : State :=
  match j with
  | .eeprom => s
  | .host =>
    let bs := s.lio.request.getD []
    let sw := leNat (slice bs 1 1)
    let s := if sw < 16 then busSwitch sw 0 s else s
    wrBlob (setLio (fun x => { x with request := none }) s) Obj.MBUS_RESULT
      (busResult (if outcome = 6 then 3 else outcome) (if outcome = 0 then data.take (leNat (slice bs 6 2)) else []))
  | .regulator r => if outcome = 0 then regulatorDone r data s else regulatorFailed r outcome s
  | .transceiver d =>
    let s := busSwitch (d / 8) 0 s
    if outcome = 0 then xcvrDone d data s else if outcome = 2 then xcvrAbsent d s else s
  | .txDisable d _ => busSwitch (d / 8) 0 s

/-- MBUS_TRANSACTION_END (R414): the running transaction reaches its stop. A data NACK, a PEC error or a lost bit is tried again; a
stretch that exceeds `MBUS_STRETCH_MAX` calls for recovery (R416). -/
def execMbusTransactionEnd (outcome : Nat) (data : List Byte) (s : State) : Host.Outcome State Fault Refusal :=
  .next (whenAlive .localIo (fun s =>
    match s.lio.job with
    | none => s
    | some j =>
      let s := if outcome = 0 then s else count s Obj.MBUS_ERRORS
      if (outcome = 3 ∨ outcome = 5 ∨ outcome = 6) ∧ 0 < s.lio.retries then
        runJob j (setLio (fun x => { x with retries := x.retries - 1 }) s)
      else
        let s := finishJob j outcome data (setLio (fun x => { x with job := none }) s)
        let s := setBus mbBusy false s
        if outcome = 4 then setBus mbRecovering true s else startBus s) s)

/-- XCVR_POLL (R417): every enabled drove's transceiver is to be polled. -/
def execXcvrPoll (s : State) : Host.Outcome State Fault Refusal :=
  .next (whenAlive .localIo (fun s =>
    if busStuck s ∨ rd s Obj.XCVR_POLL = 0 then s else startBus ((drovesOn s).foldl (fun t d => addJob (.transceiver d) t) s)) s)

/-- PMBUS_POLL (R418): every regulator is to be polled. -/
def execPmbusPoll (s : State) : Host.Outcome State Fault Refusal :=
  .next (whenAlive .localIo (fun s =>
    if busStuck s ∨ rd s Obj.PMBUS_POLL = 0 then s
    else startBus ((List.range 8).foldl (fun t r => if rd t (Obj.PMBUS_ADDRESS r) = 0xFF then t else addJob (.regulator r) t) s)) s)

/-- A write to `MBUS_REQUEST` (R419). -/
def writeBusRequest (bs : List Byte) (s : State) : WriteResult :=
  let target := leNat (slice bs 0 1)
  let sw := leNat (slice bs 1 1)
  let w := leNat (slice bs 4 2)
  if bs.length < 8 ∨ bs.length ≠ 8 + w then refuse s abLength
  else if 256 < w ∨ 256 < leNat (slice bs 6 2) ∨ (16 ≤ sw ∧ sw ≠ 0xFF) ∨ (sw < 16 ∧ 8 ≤ leNat (slice bs 2 1)) ∨ target = 0x54
      ∨ (List.range 16).any (fun i => rd s (Obj.XCVR_SWITCH_ADDR i) = target) = true then refuse s abRange
  else if s.lio.request.isSome then refuse s abState
  else if busStuck s then refuse s abDevice
  else accept (startBus (addJob .host (wrBlob (setLio (fun x => { x with request := some bs }) s) Obj.MBUS_RESULT (busResult 1 []))))

/-- Recovery begins at the end of a reset that reaches local I/O (R416). -/
def startRecovery (s : State) : State := setBus mbRecovering true s

/-- A recovery ends with the bus free, or stuck (R416). -/
def endRecovery (freed : Bool) (s : State) : State :=
  let s := setBus mbRecovering false s
  if freed then
    let s := if busStuck s then emit .mbusRecovered noInst [] (setBus mbStuck false s) else s
    startBus s
  else emit .mbusStuck noInst [] (count (setBus mbStuck true s) Obj.MBUS_STUCK_COUNT)

/-- Entry of `XCVR_TABLE` (R417); the age of a transceiver not yet polled is a free value. -/
def xcvrBytes (s : State) (d : Nat) : List Byte :=
  let x := xcvrOf s d
  let age := if x.presence = 0xFF ∨ x.polled = 0 then Config.unpolledAge d else (s.time.acc - x.polled) / (1000000 * nsUnit)
  leBytes 1 x.presence ++ padTo 11 x.body ++ leBytes 4 (min age (2 ^ 32 - 1))

/-- `XCVR_TABLE`. -/
def xcvrTable (s : State) : List Byte := (List.range 128).flatMap (xcvrBytes s)

/-- `PMBUS_TABLE` (R418). -/
def pmbusTable (s : State) : List Byte := s.lio.regs.flatMap (fun r => padTo 16 r.body)

/-! ### Commit (R389, R402, R411, R417) -/

/-- What a commit changes in the local I/O: enabled or changed bitstream inputs settle afresh, pairs stop or show their state, the
background scans follow, pins change direction, and the transceivers' soft TX disable is written. -/
def lioCommit (old s : State) : State :=
  let fresh (i : Nat) : Bool := (bit (rd s Obj.SENSE_ENABLE) (32 + i) && !bit (rd old Obj.SENSE_ENABLE) (32 + i))
    || decide (rd old (Obj.SENSE_DECIMATION i) ≠ rd s (Obj.SENSE_DECIMATION i))
  let s := setLio (fun x => { x with settle := (List.range 32).map (fun i => if fresh i then 3 else getD' x.settle i 3) }) s
  let s := gpioDirections (showSar (pwmStates s))
  startBus ((List.range (droveCount s)).foldl (fun t d => addJob (.txDisable d (!droveOn t d)) t) s)

end Sys2Proof.Machine
end

