-- ==== Sys2Proof/Machine/Breakwater.lean ====
section
/-! DEFINITION. The Breakwater safety unit: causes and demands (R428 to R431), dual-contact inputs (R432 to R435), trip outputs (R436 to
R438), block broadcast and release (R439 to R441), the window comparators and the fast paths (R403 to R406, R442 to R444), the tide
heartbeat (R445), diagnostics, channel faults and degraded mode (R446 to R448), reset, parameters and self-test (R449 to R451). Demand
kinds: 1 BLOCK, 2 TRIP, 3 INHIBIT. -/

namespace Sys2Proof.Machine

/-- Change Breakwater. -/
def setBw (f : Breakwater → Breakwater) (s : State) : State := { s with bw := f s.bw }

/-- Input pair `i`. -/
def pairOf (s : State) (i : Nat) : SafePair := getD' s.bw.pairs i SafePair.closed

/-- Change it. -/
def setPair (i : Nat) (f : SafePair → SafePair) (s : State) : State := setBw (fun b => { b with pairs := b.pairs.modify i f }) s

/-- Function of pair `i` (R432). -/
def pairFunction (s : State) (i : Nat) : Nat := rd s (Obj.SIN_FUNCTION i)

/-- Contact A of pair `i` is healthy. -/
def contactA (s : State) (i : Nat) : Bool := (pairOf s i).a

/-- Contact B is healthy (R432). -/
def contactB (s : State) (i : Nat) : Bool := if rd s (Obj.SIN_MODE i) = 1 then !(pairOf s i).b else (pairOf s i).b

/-- The pair is healthy. -/
def pairHealthy (s : State) (i : Nat) : Bool := contactA s i && contactB s i

/-! ### Causes and demands (R428 to R431) -/

/-- Demand that channel A holds for pair `i`: its latch, its inhibit, or the pair's function after a discrepancy fault. -/
def pairDemandA (s : State) (i : Nat) : Nat :=
  let x := pairOf s i
  let f := pairFunction s i
  if f = 3 then (if x.disc || !pairHealthy s i then 3 else 0)
  else max x.latchA (if x.disc && (decide (f = 1) || decide (f = 2)) then f else 0)

/-- Demand the channels hold for pair `i`. -/
def pairDemand (s : State) (i : Nat) : Nat := max (pairDemandA s i) (pairOf s i).latchB

/-- `SAFETY_DEMAND` 3 holds INHIBIT while it stands. -/
def hostDemand (s : State) : Nat := if s.bw.host ≠ 0 then s.bw.host else if rd s Obj.SAFETY_DEMAND = 3 then 3 else 0

/-- Demand of each cause: pairs 0 to 15, arm overcurrent, DC overvoltage, heartbeat, host, echo, fast path, channel fault and block
line, degraded time expired, power-up. -/
def demandGroups (s : State) : List Nat :=
  (List.range 16).map (pairDemand s) ++ [max s.bw.aocA s.bw.aocB, max s.bw.dcovA s.bw.dcovB, s.bw.heartbeat, hostDemand s, s.bw.echo,
    s.bw.fast, max s.bw.channel s.bw.lines, s.bw.expired, b2n s.bw.powerUp]

/-- A demand blocks. -/
def blocks (k : Nat) : Bool := decide (k = 1) || decide (k = 2)

/-- Channel A holds a BLOCK or TRIP. -/
def channelA (s : State) : Bool :=
  (List.range 16).any (fun i => blocks (pairDemandA s i))
    || [s.bw.aocA, s.bw.dcovA, s.bw.heartbeat, s.bw.host, s.bw.echo, s.bw.fast, s.bw.lines].any blocks
    || (blocks s.bw.channel && !s.bw.faultA) || (blocks s.bw.expired && !s.bw.faultA)

/-- Channel B holds a BLOCK or TRIP. -/
def channelB (s : State) : Bool :=
  s.bw.pairs.any (fun x => blocks x.latchB) || [s.bw.aocB, s.bw.dcovB].any blocks || s.bw.powerUp
    || (blocks s.bw.channel && s.bw.faultA) || (blocks s.bw.expired && s.bw.faultA)

/-- A cause holds BLOCK or TRIP. -/
def blockHeld (s : State) : Bool := (demandGroups s).any blocks

/-- A TRIP demand is in force. -/
def tripInForce (s : State) : Bool := (demandGroups s).contains 2

/-- The BLOCK sets go on: a cause holds BLOCK or TRIP, or the release has not begun (R42, R441). -/
def blockGoes (s : State) : Bool := blockHeld s || (s.bw.blockSent && s.bw.release.isNone)

/-- A BLOCK demand is in force: a cause holds it, or its release has not ended (R428). In SAFE the demand ends with its causes, and the
release follows the transition out of SAFE (R449). -/
def blockDemand (s : State) : Bool :=
  blockHeld s || s.bw.release.isSome || (s.bw.blockSent && decide (station s ≠ stSafe))

/-- INHIBIT is in force. -/
def inhibitInForce (s : State) : Bool :=
  (demandGroups s).contains 3 || decide (rd s Obj.SAFETY_DEMAND = 3) || decide (s.bw.fast = 1) || bit (rd s Obj.BW_STATUS) 19 || !s.bw.passed || s.bw.degraded

/-- `DEMAND_CAUSES` (R456). -/
def demandCauses (s : State) : Nat :=
  let b := s.bw
  let on := [(List.range 16).any (fun i => decide (pairDemand s i ≠ 0)), decide (hostDemand s ≠ 0), decide (max b.aocA b.aocB ≠ 0),
    decide (max b.dcovA b.dcovB ≠ 0), decide (b.heartbeat ≠ 0), decide (b.echo ≠ 0), decide (b.fast ≠ 0),
    decide (max b.channel b.lines ≠ 0), decide (b.expired ≠ 0), bit (rd s Obj.BW_STATUS) 19, !b.passed, b.powerUp, b.degraded]
  (List.range 13).foldl (fun m i => putBit m i (getD' on i false)) 0

/-- `SIN_STATE` of pair `i` (R454). -/
def pairState (s : State) (i : Nat) : Nat :=
  let x := pairOf s i
  b2n (contactA s i) + 2 * b2n (contactB s i) + 4 * b2n (decide (pairDemand s i ≠ 0)) + 8 * b2n x.disc + 16 * b2n x.press.isSome

/-- The channels energise their outputs (R436). -/
def outputsAllowed (s : State) : Bool :=
  decide (stReady ≤ station s) && decide (station s ≤ stBlocked) && !tripInForce s && s.bw.passed && s.bw.released

/-- Drive the four trip outputs; once they fall, a new `TRIP_RELEASE` is needed (R436). -/
def driveOutputs (s : State) : State :=
  let old := s.bw.outputs
  let on := outputsAllowed s
  let new := [on && !s.bw.fallenA, on && !s.bw.fallenA, on && !s.bw.fallenB, on && !s.bw.fallenB]
  let s := (List.range 4).foldl (fun t o =>
    if getD' old o false = getD' new o false then t else send (.pin pinTrip o (getD' new o false)) t) s
  setBw (fun b => { b with outputs := new, released := if old.any id && !on then false else b.released,
                           pulseNext := if old.any id then b.pulseNext else 0 }) s

/-- `TRIP_STATE` of the outputs. -/
def showOutputs (s : State) : State :=
  (List.range 4).foldl (fun t o =>
    wr t (Obj.TRIP_STATE o) (b2n (getD' t.bw.outputs o false) + 2 * b2n (getD' t.bw.readback o false) + 4 * b2n (getD' t.bw.outFault o false)))
    s

/-- Bits of `BW_STATUS` whose change is notified (R455). -/
def notifiedBits (v : Nat) : List Nat := [bits v 7 4, bits v 14 12, bits v 19 19]

/-- Bring the objects of Breakwater up to date, drive the outputs, and notify (R436, R455, R456). A pending DISCHARGE
lapses when a demand arises (R333). -/
def showBw (s : State) : State :=
  let s := driveOutputs s
  let old := rd s Obj.BW_STATUS
  let on := [channelA s, channelB s, false, false, blockDemand s, tripInForce s, inhibitInForce s, s.bw.outputs.all id,
    s.bw.release.isSome, false, false, false, s.bw.faultA, s.bw.faultB, s.bw.degraded, bit old 15,
    s.bw.pairs.any (fun x => x.disc), decide (s.bw.fast ≠ 0), bit old 18, bit old 19]
  let v := (List.range 20).foldl (fun m i => putBit m i (getD' on i false)) 0
  let s := wrs s [(Obj.BW_STATUS, v), (Obj.DEMAND_CAUSES, demandCauses s)]
  let s := (List.range 16).foldl (fun t i => wr t (Obj.SIN_STATE i) (pairState t i)) (showOutputs s)
  let s := if s.sm.request = 6 ∧ demandInForce s = true then lapseRequest s else s
  if notifiedBits old = notifiedBits v then s else notifyAll 0x06 (stimeNow s) (leBytes 4 v) s

/-! ### Block broadcast and release (R439 to R441) -/

/-- A BLOCK set on one lane; the first of a demand starts the echo check of a lane in service (R42, R440). -/
def blockSet (d : Nat) (s : State) : State :=
  let s := sendSet d osBlock blockArg s
  if (droveOf s d).blockFirst then s
  else setDrove d (fun x => { x with blockFirst := true, echoFrom := if laneUp s d then some s.time.acc else none }) s

/-- A BLOCK set on every enabled lane whose transmitter runs (R42). -/
def blockSets (s : State) : State :=
  if alive s .link = false ∨ silentIn s (tideNow s) = true then s
  else
    let ds := drovesOn s
    let s := ds.foldl (fun t d => blockSet d t) s
    if ds.isEmpty then s else setBw (fun b => { b with blockSent := true }) s

/-- Echoes are awaited afresh. -/
def forgetEchoes (s : State) : State :=
  let forget (_ : Nat) (x : Drove) : Drove := { x with blockFirst := false, echoFrom := none }
  { s with droves := Tbl.mapAll (fun _ => Drove.off) forget s.droves }

/-- A BLOCK_RELEASE naming tide `n` on every enabled lane (R42). -/
def releaseSets (n : Nat) (s : State) : State :=
  if alive s .link = false ∨ silentIn s (tideNow s) = true then s
  else (drovesOn s).foldl (fun t d => sendSet d osRelease (releaseArg n) t) s

/-- The station follows the demand in force (R428, R335). -/
def demandStation (s : State) : State :=
  let st := station s
  let s := if tripInForce s && decide (stHeld ≤ st) && decide (st ≤ stRampDown) then schedule stSafe causeBreakwater 0 s else s
  if blockHeld s && decide (stCharging ≤ st) && decide (st ≤ stRampDown) then schedule stBlocked causeBreakwater 0 s else s

/-- Demand `new` of a cause is raised, or raised further, from `old`. -/
def demandRises (old new : Nat) : Bool := blocks new && (!blocks old || decide (old < new))

/-- A new BLOCK or TRIP demand: it is counted and recorded, a release under way stops, the block request goes to every lane, and the
station follows (R428, R429, R439, R441). `inst` is the comparator, if one raised it (R442). -/
def carryOut (n inst : Nat) (s : State) : State :=
  let fresh := s.bw.release.isSome || !s.bw.blockSent
  let s := setBw (fun b => { b with release := none, blockSent := b.blockSent || b.release.isSome }) (countBy 32 s Obj.DEMANDS n)
  let s := blockSets (if fresh then forgetEchoes s else s)
  demandStation (emit .breakwaterDemand inst (leBytes 4 (demandCauses s)) s)

/-- Change the causes by `f`, and carry out what has been raised; a cause that arises also wakes the device (R475). -/
def bwActs (inst : Nat) (f : State → State) (s : State) : State :=
  let old := demandGroups s
  let s := f s
  let new := demandGroups s
  let n := ((old.zip new).filter (fun p => demandRises p.1 p.2)).length
  let s := (List.range 16).foldl (fun t i =>
    if getD' old i 0 = 0 ∧ getD' new i 0 ≠ 0 then count t (Obj.SIN_DEMANDS i) else t) s
  let s := if (old.zip new).any (fun p => decide (p.2 ≠ p.1 ∧ p.2 ≠ 0)) then wakeNow s else s
  showBw (if n = 0 then s else carryOut n inst s)

/-- The same without a comparator. -/
def bwAct (f : State → State) (s : State) : State := bwActs noInst f s

/-- A release begins in the present tide (R441). -/
def releaseBegins (s : State) : Bool :=
  !blockHeld s && decide (station s ≠ stSafe) && decide (stHeld ≤ station s) && s.bw.blockSent && s.bw.release.isNone

/-- BLOCK_RELEASE (R441): at a tide start with no demand, after a BLOCK set, the release begins. -/
def execBlockRelease (s : State) : Host.Outcome State Fault Refusal :=
  .next (whenAlive .safety (fun s =>
    if releaseBegins s then
      let n := tideNow s
      showBw (releaseSets (n + 4) (forgetEchoes (setBw (fun b => { b with release := some n, blockSent := false }) s)))
    else s) s)

/-- PERIODIC_RELEASE (R441): every 1,024 tides without a demand. -/
def execPeriodicRelease (s : State) : Host.Outcome State Fault Refusal :=
  .next (whenAlive .safety (fun s => if blockGoes s || s.bw.release.isSome then s else releaseSets (tideNow s + 4) s) s)

/-- BLOCK_SET_REPEAT (R42): every 64 code blocks while a block demand holds. -/
def execBlockSetRepeat (s : State) : Host.Outcome State Fault Refusal :=
  .next (whenAlive .safety (fun s => if blockGoes s then blockSets s else s) s)

/-- Drove `d` has not echoed within `ECHO_LIMIT` (R440). -/
def echoMissed (d : Nat) (s : State) : State :=
  let s := setDrove d (fun x => { x with echoFrom := none }) s
  let s := count (wr s Obj.BW_STATUS (setBit (rd s Obj.BW_STATUS) 15)) Obj.ECHO_MISSES
  let s := emit .blockEchoMissing d (leBytes 1 d) s
  bwAct (fun s => if rd s Obj.ECHO_REACTION = 1 then setBw (fun b => { b with echo := 2 }) s else s) s

/-- BLOCK_ECHO_ARRIVAL (R41, R440): the echo of a lane's first BLOCK set, after `interval` (0.1 ns). One that comes later than
`ECHO_LIMIT` has been missed. -/
def execBlockEchoArrival (d interval : Nat) (s : State) : Host.Outcome State Fault Refusal :=
  .next (whenAlive .safety (fun s =>
    if (droveOf s d).echoFrom.isNone then s
    else
      let s := wr s (Obj.BLOCK_ECHO_TIME d) (interval % 2 ^ 32)
      if rd s Obj.ECHO_LIMIT * 10000 < interval then echoMissed d s else setDrove d (fun x => { x with echoFrom := none }) s) s)

/-- ECHO_LIMIT_EXPIRY (R440): a lane has not echoed within `ECHO_LIMIT`. -/
def execEchoLimitExpiry (d : Nat) (s : State) : Host.Outcome State Fault Refusal :=
  .next (whenAlive .safety (fun s =>
    match (droveOf s d).echoFrom with
    | none => s
    | some t => echoMissed d (runTo (t + rd s Obj.ECHO_LIMIT * 1000 * nsUnit) s)) s)

/-! ### Channel faults and degraded mode (R446 to R448) -/

/-- A fault code belongs to channel A. -/
def codeOfA (code : Nat) : Bool := decide (1 ≤ code) && decide (code ≤ 7)

/-- A fault code belongs to channel B. -/
def codeOfB (code : Nat) : Bool := decide (0x11 ≤ code) && decide (code ≤ 0x16)

/-- The healthy channel raises TRIP. -/
def channelTrip (s : State) : State := setBw (fun b => { b with channel := 2, degraded := false }) s

/-- What a channel fault leads to (R447). `second`: the other channel was already faulted. -/
def faultReaction (fallen second : Bool) (s : State) : State :=
  if fallen || second then channelTrip s
  else if isActive (station s) && decide (0 < rd s Obj.DEGRADED_TIME) then
    let s := setBw (fun b => { b with degraded := true }) (count s Obj.DEGRADED_ENTRIES)
    emit .breakwaterDegraded noInst [] (wr s Obj.DEGRADED_REMAINING (60 * rd s Obj.DEGRADED_TIME))
  else channelTrip s

/-- A Breakwater channel fault (R447). A channel that is already faulted records the new code and reacts no further. -/
def channelFault (code : Nat) (fallen : Bool) (s : State) : State :=
  let a := codeOfA code
  if !a && !codeOfB code then s
  else
    let was := if a then s.bw.faultA else s.bw.faultB
    let second := if a then s.bw.faultB else s.bw.faultA
    let s := wr (count s Obj.CHANNEL_FAULTS) Obj.FAULT_DETAIL code
    let s := emit .breakwaterChannelFault noInst (leBytes 1 code) s
    bwAct (fun s =>
      let s := setBw (fun b => if a then { b with faultA := true, fallenA := b.fallenA || fallen }
                               else { b with faultB := true, fallenB := b.fallenB || fallen }) s
      if was && !fallen then s else faultReaction fallen second s) s

/-- A block request that a lane does not show (R439). -/
def lineFault (s : State) : State :=
  bwAct (fun s => setBw (fun b => { b with lines := 2 }) s) (wr s Obj.FAULT_DETAIL 0x20)

/-- CHANNEL_FAULT (R447): a fault is found; `fallen` says that the channel's outputs have fallen. -/
def execChannelFault (code : Nat) (fallen : Bool) (s : State) : Host.Outcome State Fault Refusal :=
  .next (whenAlive .safety (channelFault code fallen) s)

/-- A disagreement of 1 ms (R446): counted; the third within 10 s is a fault of channel B. -/
def disagreement (s : State) : State :=
  let s := count s Obj.CHANNEL_DISAGREE
  let recent := (s.bw.disagrees.filter (fun t => decide (s.time.acc < t + 10 * secUnit))) ++ [s.time.acc]
  let s := setBw (fun b => { b with disagrees := recent }) s
  if 3 ≤ recent.length then channelFault 0x12 false s else s

/-- CHANNEL_DIAGNOSTIC_CHECK (R446): the diagnostic that reports `code` has run, and has found its fault (`bad`) or not. -/
def execChannelDiagnosticCheck (code : Nat) (bad : Bool) (s : State) : Host.Outcome State Fault Refusal :=
  .next (whenAlive .safety (fun s =>
    if bad = false then s
    else if code = 0x02 ∧ s.time.refDown = true then s
    else if code = 0x12 then disagreement s
    else if code = 0x20 then lineFault s
    else channelFault code false s) s)

/-- ALIVE_MONITOR_EXPIRY (R446, R436): channel A's loop has stopped; its outputs fall, and channel B acts. -/
def execAliveMonitorExpiry (s : State) : Host.Outcome State Fault Refusal := .next (whenAlive .safety (channelFault 0x04 true) s)

/-- DEGRADED_TIME_EXPIRY (R448): the time on one channel is over. -/
def execDegradedTimeExpiry (s : State) : Host.Outcome State Fault Refusal :=
  .next (whenAlive .safety (fun s =>
    if s.bw.degraded then
      let s := emit .degradedTimeExpired noInst [] (wr s Obj.DEGRADED_REMAINING 0)
      bwAct (fun s => setBw (fun b => { b with expired := 2 }) (channelTrip s)) s
    else s) s)

/-- BREAKWATER_DEMAND (R428, R439): the cause with bit `cause` of R456 arises in a channel and is carried out by both; the lanes
`dead` do not show their block request. -/
def execBreakwaterDemand (cause : Nat) (dead : List Nat) (s : State) : Host.Outcome State Fault Refusal :=
  .next (whenAlive .safety (fun s =>
    let s := bwAct (fun s =>
      match cause with
      | 2 => let k := 1 + rd s Obj.AOC_REACTION
        setBw (fun b => { b with aocB := max b.aocB k, aocA := if k = 2 then 2 else b.aocA }) s
      | 3 => let k := 1 + rd s Obj.DCOV_REACTION
        setBw (fun b => { b with dcovA := max b.dcovA k, dcovB := max b.dcovB k }) s
      | 4 => setBw (fun b => { b with heartbeat := 1 }) s
      | 5 => setBw (fun b => { b with echo := 2 }) s
      | 6 => setBw (fun b => { b with fast := if b.fast = 1 then 1 else 3 }) s
      | 7 => setBw (fun b => { b with channel := 2 }) s
      | 8 => setBw (fun b => { b with expired := 2 }) s
      | 11 => setBw (fun b => { b with powerUp := true }) s
      | _ => s) s
    if blockHeld s && dead.any (fun d => droveOn s d) then lineFault s else s) s)

/-! ### Dual-contact inputs (R432 to R435) -/

/-- Follow the contacts of a pair from their health before to what they are now (R433 to R435). -/
def followPair (i : Nat) (oldA oldB glitch : Bool) (s : State) : State :=
  let na := contactA s i
  let nb := contactB s i
  let f := pairFunction s i
  let lim := rd s (Obj.SIN_DISCREPANCY i) * 1000000 * nsUnit
  let now := s.time.acc
  let k := if (f = 1 ∨ f = 2) ∧ ¬ (na = true ∧ nb = true) then f else 0
  setPair i (fun x =>
    let x := { x with latchB := max x.latchB k, latchA := if glitch then x.latchA else max x.latchA k }
    if na ≠ nb then { x with since := if oldA = oldB ∨ x.since.isNone then some now else x.since }
    else if na = false then
      { x with since := none, bothOpen := true, press := none,
               pressed := match x.press with | some t => some (now - t) | none => x.pressed }
    else
      let within := match x.since with | some t => decide (now ≤ t + lim) | none => true
      let clears := x.disc && x.bothOpen && within
      let disc := x.disc && !clears
      { x with since := none, bothOpen := false, disc := disc,
               press := if decide (f = 4) && x.bothOpen && within && !disc then some now else x.press }) s

/-- SAFETY_INPUT_CHANGE (R433 to R435): the contacts of a pair take new levels. With `glitch` a contact was healthy again before channel
A's third sample. -/
def execSafetyInputChange (pair : Nat) (a b glitch : Bool) (s : State) : Host.Outcome State Fault Refusal :=
  .next (
    if 16 ≤ pair then s
    else
      let oa := contactA s pair
      let ob := contactB s pair
      let level := setPair pair (fun x => { x with a := a, b := b })
      if alive s .safety then bwAct (fun s => followPair pair oa ob glitch (level s)) s else level s)

/-- SIN_DISCREPANCY_EXPIRY (R434): the other contact has not followed in time. -/
def execSinDiscrepancyExpiry (pair : Nat) (s : State) : Host.Outcome State Fault Refusal :=
  .next (whenAlive .safety (fun s =>
    match (pairOf s pair).since with
    | none => s
    | some t =>
      let s := runTo (t + rd s (Obj.SIN_DISCREPANCY pair) * 1000000 * nsUnit) s
      let s := emit .safetyInputDiscrepancy pair (leBytes 1 pair) (count s (Obj.SIN_FAULTS pair))
      bwAct (setPair pair (fun x => { x with disc := true, bothOpen := false, since := none, press := none })) s) s)

/-! ### Reset, parameters and self-test (R449 to R451) -/

/-- A comparator with a bit of `CMP_ROUTE` set is outside. -/
def routedOutside (s : State) (r : Nat) : Bool :=
  (List.range 24).any (fun c => rdBool s (Obj.CMP_ENABLE c) && bit (rd s (Obj.CMP_ROUTE c)) r && bit (rd s Obj.CMP_RAW) c)

/-- Every latched cause whose condition is absent clears (R449). -/
def clearLatches (s : State) : State :=
  let healthy := (List.range 16).map (pairHealthy s)
  let aoc := routedOutside s 0
  let dcov := routedOutside s 1
  let v := rd s Obj.SAFETY_DEMAND
  setBw (fun b => { b with
    pairs := (b.pairs.zip healthy).map (fun p => if p.2 then { p.1 with latchA := 0, latchB := 0 } else p.1)
    aocA := if aoc then b.aocA else 0
    aocB := if aoc then b.aocB else 0
    dcovA := if dcov then b.dcovA else 0
    dcovB := if dcov then b.dcovB else 0
    heartbeat := 0
    host := if v = 1 ∨ v = 2 then v else 0
    echo := 0
    lines := 0
    expired := 0
    powerUp := b.powerUp && !b.passed }) s

/-- A Breakwater reset within 100 ms of the previous one is refused (R449). -/
def resetTooSoon (s : State) : Bool :=
  match s.bw.lastReset with | some t => decide (s.time.acc < t + 100000000 * nsUnit) | none => false

/-- A Breakwater reset (R449). -/
def bwReset (s : State) : State :=
  let s := bwAct clearLatches (wr s Obj.BW_STATUS (clearBit (rd s Obj.BW_STATUS) 15))
  let s := setBw (fun b => { b with lastReset := some s.time.acc }) (count s Obj.RESETS)
  emit .breakwaterReset noInst (leBytes 4 (demandCauses s)) s

/-- RESET_PRESS (R435): a press of a reset pair that lasted 0.1 s to 5 s acts as a reset. -/
def execResetPress (pair : Nat) (s : State) : Host.Outcome State Fault Refusal :=
  .next (whenAlive .safety (fun s =>
    let x := pairOf s pair
    match x.pressed with
    | none => s
    | some t =>
      let s := setPair pair (fun x => { x with pressed := none }) s
      if pairFunction s pair = 4 ∧ x.disc = false ∧ 100000000 * nsUnit ≤ t ∧ t ≤ 5 * secUnit ∧ resetTooSoon s = false then bwReset s
      else s) s)

/-- A write of `SAFETY_SESSION_RESET` (R449). -/
def writeSessionReset (v : Nat) (s : State) : WriteResult :=
  if v ≠ 1 then refuse s abRange else if resetTooSoon s then refuse s abState else accept (bwReset s)

/-- A write of `SAFETY_RESET` (R449). -/
def writeSafetyReset (v : Nat) (s : State) : WriteResult :=
  if rdBool s Obj.HOST_RESET_ALLOWED = false then refuse s abAccess else writeSessionReset v s

/-- A write of `TRIP_RELEASE` (R436). -/
def writeTripRelease (v : Nat) (s : State) : WriteResult :=
  if v ≠ 1 then refuse s abRange
  else if tripInForce s then refuse s abSafety
  else if [stOff, stBoot, stHeld, stSafe].contains (station s) then refuse s abState
  else accept (showBw (setBw (fun b => { b with released := true }) s))

/-- A write of `SAFETY_DEMAND` (R431, R453). -/
def writeSafetyDemand (v : Nat) (s : State) : WriteResult :=
  if 3 < v then refuse s abRange
  else accept (bwAct (fun s =>
    setBw (fun b => { b with host := if v = 1 ∨ v = 2 then max b.host v else b.host }) (wr s Obj.SAFETY_DEMAND v)) s)

/-- The self-test starts (R451). -/
def startSelfTest (s : State) : State :=
  showBw (setBw (fun b => { b with passed := false })
    (wrs s [(Obj.SELFTEST_STATUS, 0xFF), (Obj.BW_STATUS, setBit (rd s Obj.BW_STATUS) 18)]))

/-- A write of `SAFETY_SELFTEST` (R451). -/
def writeSelfTest (v : Nat) (s : State) : WriteResult :=
  if v ≠ 1 then refuse s abRange
  else if station s ≠ stHeld ∧ station s ≠ stSafe then refuse s abState
  else accept (startSelfTest s)

/-- Records of the RWS P objects of an image, and their check (R450). -/
def paramCheck (im : Image) (code : Nat) : Nat :=
  crc32c ((rwsKeys code).flatMap (fun k => recordBytes k (im.valueBytes k)))

/-- Compare the committed parameters with those confirmed (R450). -/
def showConfirm (s : State) : State :=
  let c := paramCheck (baseImage s) (optionCode s)
  let s := wr s Obj.SAFETY_PARAM_CHECK c
  showBw (wr s Obj.BW_STATUS (putBit (rd s Obj.BW_STATUS) 19 (decide (c ≠ rd s Obj.CONFIRMED_CHECK))))

/-- A write of `SAFETY_CONFIRM` (R450). -/
def writeConfirm (v : Nat) (s : State) : WriteResult :=
  if v ≠ rd s Obj.SAFETY_PARAM_CHECK then refuse s abRange
  else
    let s := wrs s [(Obj.CONFIRMED_CHECK, v), (Obj.BW_STATUS, clearBit (rd s Obj.BW_STATUS) 19)]
    accept (showBw (emit .safetyParametersConfirmed noInst (leBytes 4 v) s))

/-- BREAKWATER_SELFTEST_END (R451): the self-test ends with 0, or with the code of its first failure. A pass clears the self-test cause,
the channel faults and the fast-path faults, and the power-up latches where no cause is present. -/
def execBreakwaterSelftestEnd (code : Nat) (s : State) : Host.Outcome State Fault Refusal :=
  .next (whenAlive .safety (fun s =>
    if bit (rd s Obj.BW_STATUS) 18 = false then s
    else
      let s := wrs s [(Obj.SELFTEST_STATUS, code % 256), (Obj.BW_STATUS, clearBit (rd s Obj.BW_STATUS) 18)]
      if code = 0 then
        let s := wrs s [(Obj.FAST_TEST_RESULT, 0), (Obj.STANDIN_STATE, 0), (Obj.STANDIN_FOR, 0xFFFF)]
        let s := setBw (fun b => { b with
          passed := true, faultA := false, faultB := false, fallenA := false, fallenB := false, channel := 0, degraded := false,
          outFault := [false, false, false, false], fast := 0, failedCmp := [], standIn := [0, 0], skips := 0, skipped := false }) s
        let others := ((demandGroups s).take 24).any blocks
        showBw (setBw (fun b => { b with powerUp := b.powerUp && others }) s)
      else if code = 0x20 then lineFault s
      else channelFault code false s) s)

/-! ### Trip outputs (R437) -/

/-- `FAULT_DETAIL` of output A0, A1, B0, B1. -/
def outputCode (o : Nat) : Nat := getD' [0x05, 0x06, 0x15, 0x16] o 0

/-- The readback of an output fails. -/
def readbackFault (o : Nat) (s : State) : State :=
  let s := setBw (fun b => { b with outFault := b.outFault.set o true }) (count s Obj.TRIP_PULSE_FAULTS)
  channelFault (outputCode o) false (showOutputs s)

/-- Outputs in the order of their test pulses: A0, B0, A1, B1 (R437). -/
def pulseOrder : List Nat := [0, 2, 1, 3]

/-- The energised output whose turn it is. -/
def pulseTurn (b : Breakwater) : Option Nat :=
  ((List.range 4).map (fun j => getD' pulseOrder ((b.pulseNext + j) % 4) 0)).find? (fun o => getD' b.outputs o false)

/-- TEST_PULSE (R437): the energised output whose turn it is is switched off for `TEST_PULSE_WIDTH`; `ok` says that its readback
followed. -/
def execTestPulse (output : Nat) (ok : Bool) (s : State) : Host.Outcome State Fault Refusal :=
  .next (whenAlive .safety (fun s =>
    if pulseTurn s.bw = some output then
      let s := setBw (fun b => { b with pulseNext := (getD' pulseOrder output 0 + 1) % 4 }) s
      let s := send (.pulse pinTrip output (rd s Obj.TEST_PULSE_WIDTH)) s
      if ok then s else readbackFault output s
    else s) s)

/-- TRIP_READBACK_CHANGE (R437): a readback pin changes level; while its output is de-energised it must read low. -/
def execTripReadbackChange (output : Nat) (level : Bool) (s : State) : Host.Outcome State Fault Refusal :=
  .next (
    if 4 ≤ output then s
    else
      let s := setBw (fun b => { b with readback := b.readback.set output level }) s
      whenAlive .safety (fun s =>
        if level && !getD' s.bw.outputs output false then readbackFault output s else showOutputs s) s)

/-! ### Comparators and the fast paths (R403 to R406, R442 to R444) -/

/-- Comparator `c`. -/
def cmpOf (s : State) (c : Nat) : Comparator := getD' s.lio.cmps c { raw := false, blank := false, lastEvent := none }

/-- Change it. -/
def setCmp (c : Nat) (f : Comparator → Comparator) (s : State) : State := setLio (fun x => { x with cmps := x.cmps.modify c f }) s

/-- "comparator window left", at most once per second (R405). -/
def cmpEvent (c : Nat) (s : State) : State :=
  let soon := match (cmpOf s c).lastEvent with | some t => decide (s.time.acc < t + secUnit) | none => false
  if bit (rd s (Obj.CMP_ROUTE c)) 2 && !soon then
    emit .comparatorWindowLeft c (leBytes 1 c) (setCmp c (fun x => { x with lastEvent := some s.time.acc }) s)
  else s

/-- The fast paths take the output of comparator `c` (R442). -/
def fastPaths (c : Nat) (s : State) : State :=
  let route := rd s (Obj.CMP_ROUTE c)
  if alive s .safety = false ∨ (bit route 0 = false ∧ bit route 1 = false) then s
  else bwActs c (fun s =>
    let ka := 1 + rd s Obj.AOC_REACTION
    let kd := 1 + rd s Obj.DCOV_REACTION
    let s := if bit route 0 then setBw (fun b => { b with aocB := max b.aocB ka, aocA := if ka = 2 then 2 else b.aocA }) s else s
    if bit route 1 then setBw (fun b => { b with dcovA := max b.dcovA kd, dcovB := max b.dcovB kd }) s else s) s

/-- The output after blanking becomes outside or inside (R404, R405). -/
def cmpOutput (c : Nat) (outside : Bool) (s : State) : State :=
  let was := bit (rd s Obj.CMP_RAW) c
  let s := wr s Obj.CMP_RAW (putBit (rd s Obj.CMP_RAW) c outside)
  if outside && !was then
    let s := if bit (rd s Obj.CMP_FLAGS) c then s
      else cmpEvent c (count (wr s Obj.CMP_FLAGS (setBit (rd s Obj.CMP_FLAGS) c)) Obj.CMP_LATCHES)
    fastPaths c s
  else s

/-- COMPARATOR_CHANGE (R403, R404): the comparator's output changes; during blanking it waits for the end of the interval. -/
def execComparatorChange (c : Nat) (outside : Bool) (s : State) : Host.Outcome State Fault Refusal :=
  .next (
    if 24 ≤ c then s
    else
      let s := setCmp c (fun x => { x with raw := outside }) s
      whenAlive .safety (fun s =>
        if rdBool s (Obj.CMP_ENABLE c) = false ∨ (cmpOf s c).blank = true then s else cmpOutput c outside s) s)

/-- BLANKING_START (R404): the comparator's blanking source starts an interval, or starts it again. -/
def execBlankingStart (c : Nat) (s : State) : Host.Outcome State Fault Refusal :=
  .next (whenAlive .safety (fun s =>
    if rd s (Obj.CMP_BLANK_SOURCE c) ≠ 0 ∧ rdBool s (Obj.CMP_ENABLE c) = true ∧ 0 < rd s (Obj.CMP_BLANK_TIME c) then
      setCmp c (fun x => { x with blank := true }) s
    else s) s)

/-- BLANKING_END (R404): the output passes again as it stands. -/
def execBlankingEnd (c : Nat) (outside : Bool) (s : State) : Host.Outcome State Fault Refusal :=
  .next (whenAlive .safety (fun s =>
    if (cmpOf s c).blank then
      let s := setCmp c (fun x => { x with blank := false, raw := outside }) s
      if rdBool s (Obj.CMP_ENABLE c) then cmpOutput c outside s else s
    else s) s)

/-- Flags clear where the output is inside (R405). -/
def clearFlags (mask : Nat) (s : State) : State :=
  wr s Obj.CMP_FLAGS (clearMask (rd s Obj.CMP_FLAGS) (clearMask mask (mask &&& rd s Obj.CMP_RAW)))

/-- A write of `CMP_CLEAR` (R405): the bits of comparators with clear mode 0. -/
def writeCmpClear (v : Nat) (s : State) : WriteResult :=
  let mask := (List.range 24).foldl (fun m c => putBit m c (bit v c && decide (rd s (Obj.CMP_CLEAR_MODE c) = 0))) 0
  accept (clearFlags mask s)

/-- Flags of comparators with clear mode 1 clear at a tide start. -/
def cmpTide (s : State) : State :=
  clearFlags ((List.range 24).foldl (fun m c => putBit m c (decide (rd s (Obj.CMP_CLEAR_MODE c) = 1))) 0) s

/-- Flags of comparators with clear mode 2 clear at a period start of their pair. -/
def cmpPeriod (q : Nat) (s : State) : State :=
  clearFlags ((List.range 24).foldl (fun m c => putBit m c (decide (rd s (Obj.CMP_CLEAR_MODE c) = 2)
    && decide (rd s (Obj.CMP_BLANK_SOURCE c) = 2) && decide (rd s (Obj.CMP_BLANK_ARG c) = q))) 0) s

/-- PWM_VALLEY (R407, R405): pair `q` stands at a valley. -/
def execPwmValley (q correction : Nat) (s : State) : Host.Outcome State Fault Refusal :=
  .next (whenAlive .localIo (fun s => if q < 12 then cmpPeriod q (pwmValley q correction s) else s) s)

/-- A free stand-in. -/
def freeStandIn (s : State) : Option Nat := s.bw.standIn.findIdx? (fun x => x = 0)

/-- The stand-in that substitutes for comparator `c`. -/
def substitute (s : State) (c : Nat) : Option Nat := ((s.bw.failedCmp.find? (fun p => p.1 = c)).map (·.2)).getD none

/-- `STANDIN_STATE`, `STANDIN_FOR` and `FAST_TEST_RESULT`. -/
def showStandIns (s : State) : State :=
  let st := (getD' s.bw.standIn 0 0) + 4 * (getD' s.bw.standIn 1 0)
  let who (j : Nat) : Nat := ((s.bw.failedCmp.find? (fun p => p.2 = some j)).map (·.1)).getD 0xFF
  let m := s.bw.failedCmp.foldl (fun m p => setBit m p.1) 0
  wrs s [(Obj.STANDIN_STATE, st), (Obj.STANDIN_FOR, who 0 + 256 * who 1), (Obj.FAST_TEST_RESULT, m)]

/-- Demand of the fast-path diagnostics (R444): BLOCK and INHIBIT after skips in three periods or with no substitute left, else INHIBIT
while a comparator has failed. -/
def fastDemand (b : Breakwater) : Nat :=
  if 3 ≤ b.skips ∨ b.failedCmp.any (fun p => p.2.isNone) = true then 1 else if b.failedCmp.isEmpty then 0 else 3

/-- Judge the fast paths afresh. -/
def judgeFast (f : Breakwater → Breakwater) (s : State) : State :=
  showStandIns (bwAct (setBw (fun b => let b := f b; { b with fast := fastDemand b })) s)

/-- A new test period begins when the tests start again from a lower comparator. -/
def testPeriod (c : Nat) (b : Breakwater) : Breakwater :=
  match b.lastTest with
  | some l => if c ≤ l then { b with lastTest := some c, skips := if b.skipped then b.skips else 0, skipped := false }
              else { b with lastTest := some c }
  | none => { b with lastTest := some c }

/-- Failed comparators without `c`, and its stand-in free again. -/
def passCmp (c : Nat) (b : Breakwater) : Breakwater :=
  match (b.failedCmp.find? (fun p => p.1 = c)).map (·.2) with
  | none => { b with skips := 0 }
  | some j => { b with skips := 0, failedCmp := b.failedCmp.filter (fun p => p.1 ≠ c),
                       standIn := match j with | some i => b.standIn.set i 0 | none => b.standIn }

/-- Comparator `c` failed: the stand-in that tested it substitutes. -/
def failCmp (c j : Nat) (b : Breakwater) : Breakwater :=
  { b with standIn := b.standIn.set j 2, failedCmp := ((b.failedCmp.filter (fun p => p.1 ≠ c)) ++ [(c, some j)]).mergeSort (fun x y => decide (x.1 ≤ y.1)) }

/-- Stand-in `j` fails: what it stood for takes another free one. -/
def failStandIn (j : Nat) (b : Breakwater) : Breakwater :=
  let b := { b with standIn := b.standIn.set j 3 }
  match b.failedCmp.find? (fun p => p.2 = some j) with
  | none => b
  | some p =>
    let rest := b.failedCmp.filter (fun q => q.1 ≠ p.1)
    match b.standIn.findIdx? (fun x => x = 0) with
    | some i => { b with standIn := b.standIn.set i 2, failedCmp := (rest ++ [(p.1, some i)]).mergeSort (fun x y => decide (x.1 ≤ y.1)) }
    | none => { b with failedCmp := (rest ++ [(p.1, none)]).mergeSort (fun x y => decide (x.1 ≤ y.1)) }

/-- FAST_PATH_TEST (R443, R444): the test of comparator `c` has ended: 0 passed, 1 failed, 2 deferred or abandoned, as it is while
the pin stands outside. `c` 24 and 25 are the own tests of the stand-ins that have not failed. Without a free stand-in the test is
skipped. -/
def execFastPathTest (c result : Nat) (s : State) : Host.Outcome State Fault Refusal :=
  .next (whenAlive .safety (fun s =>
    if c < 24 then
      if bits (rd s (Obj.CMP_ROUTE c)) 1 0 = 0 ∨ rdBool s (Obj.CMP_ENABLE c) = false then s
      else
        let s := setBw (testPeriod c) s
        match (match substitute s c with | some j => some j | none => freeStandIn s) with
        | none => judgeFast (fun b => if b.skipped then b else { b with skips := b.skips + 1, skipped := true }) s
        | some j =>
          if (cmpOf s c).raw then s
          else if result = 0 then judgeFast (passCmp c) (countBy 64 s Obj.FAST_TESTS 1)
          else if result = 1 then
            let s := count (countBy 64 s Obj.FAST_TESTS 1) Obj.FAST_TEST_FAILS
            judgeFast (failCmp c j) (emit .fastPathTestFailed c (leBytes 1 c) s)
          else s
    else if c < 26 ∧ result < 2 ∧ getD' s.bw.standIn (c - 24) 3 ≠ 3 then
      let s := countBy 64 s Obj.FAST_TESTS 1
      if result = 1 then judgeFast (failStandIn (c - 24)) s else s
    else s) s)

/-! ### Tide heartbeat (R445) -/

/-- The word channel A expects next: k tides after the last good one, within ±0.15 × P of its instant. -/
def wordGood (s : State) (tide mask code : Nat) : Bool :=
  let arms := (List.range 12).all (fun a => !armOn s a || bit mask a)
  let shape := arms && decide (code = 0xA)
  match s.bw.lastGood with
  | none => shape
  | some (t, at0) =>
    let k := s.bw.misses + 1
    let p := periodNs s * nsUnit
    let want := at0 + k * p
    let off := max s.time.acc want - min s.time.acc want
    shape && decide (tide % 65536 = (t + k) % 65536) && decide (off * 100 ≤ 15 * p)

/-- A heartbeat word reaches channel A (R445). -/
def heartbeatWord (tide mask code : Nat) (s : State) : State :=
  if alive s .safety = false then s
  else if isActive (station s) = false then setBw (fun b => { b with lastGood := none, misses := 0 }) s
  else if wordGood s tide mask code then setBw (fun b => { b with lastGood := some (tide, s.time.acc), misses := 0 }) s
  else s

/-- HEARTBEAT_WINDOW_CLOSE (R445): a window closes without a good word. -/
def execHeartbeatWindowClose (s : State) : Host.Outcome State Fault Refusal :=
  .next (whenAlive .safety (fun s =>
    if s.bw.lastGood.isNone ∨ isActive (station s) = false then s
    else
      let m := s.bw.misses + 1
      if m < rd s Obj.HEARTBEAT_MISSES then setBw (fun b => { b with misses := m }) s
      else
        let s := emit .tideHeartbeatLost noInst [] (count s Obj.HEARTBEAT_LOSSES)
        bwAct (setBw (fun b => { b with lastGood := none, misses := 0, heartbeat := 1 })) s) s)

/-! ### Tide starts, commits and releases of the domain -/

/-- What Breakwater does at a tide start, after the station's transition (R441, R445, R448). -/
def bwTide (s : State) : State :=
  if alive s .safety = false then s
  else
    let n := tideNow s
    let active := isActive (station s)
    let s := if active then s else setBw (fun b => { b with lastGood := none, misses := 0 }) s
    let s := if s.bw.degraded && !active then bwAct channelTrip s
      else if s.bw.degraded && secondTide s then wr s Obj.DEGRADED_REMAINING (rd s Obj.DEGRADED_REMAINING - 1) else s
    let s := match s.bw.release with
      | some d => if d + 4 ≤ n then setBw (fun b => { b with release := none }) s else releaseSets (d + 4) s
      | none => s
    showBw (demandStation s)

/-- New tide numbers: a release under way begins again (R328, R441). -/
def bwRenumber (s : State) : State :=
  if s.bw.release.isSome then setBw (fun b => { b with release := none, blockSent := true }) s else s

/-- A commit (R406, R450, R453): pairs and comparators take their new settings, and the parameters are checked. -/
def bwCommit (s : State) : State :=
  let s := (List.range 24).foldl (fun t c =>
    if rdBool t (Obj.CMP_ENABLE c) then (if (cmpOf t c).blank then t else cmpOutput c (cmpOf t c).raw t)
    else wr (setCmp c (fun x => { x with blank := false }) t) Obj.CMP_RAW (clearBit (rd t Obj.CMP_RAW) c)) s
  let s := bwAct (fun s => (List.range 16).foldl (fun t i => followPair i (contactA t i) (contactB t i) false t) s) s
  showConfirm s

end Sys2Proof.Machine
end

