-- ==== Sys2Proof/Machine/Solar.lean ====
section
/-! DEFINITION. The solar tracking unit (R203 to R223). Voltages are in 0.1 V, powers in 0.005 W, steps in 0.01 % of Voc. -/

namespace Sys2Proof.Machine

/-- Tracking states of R223. -/
abbrev mpOff : Nat := 0
/-- PAUSED -/
abbrev mpPaused : Nat := 1
/-- SHED -/
abbrev mpShed : Nat := 2
/-- OPEN-CIRCUIT -/
abbrev mpOpen : Nat := 3
/-- DARK -/
abbrev mpDark : Nat := 4
/-- SCANNING -/
abbrev mpScanning : Nat := 5
/-- SENTINEL -/
abbrev mpSentinel : Nat := 6
/-- CURTAILED -/
abbrev mpCurtailed : Nat := 7
/-- TRACKING -/
abbrev mpTracking : Nat := 8

/-- OPEN (R203). -/
abbrev pvOpen : Nat := 0x7FFF

/-- Solar leaf `L`. -/
def solarOf (s : State) (L : Nat) : SolarLeaf := Tbl.get (fun _ => SolarLeaf.reset) s.solar.leaves L

/-- Change solar leaf `L`. -/
def setSolar (L : Nat) (f : SolarLeaf → SolarLeaf) (s : State) : State :=
  { s with solar := { s.solar with leaves := Tbl.modify (fun _ => SolarLeaf.reset) s.solar.leaves L f } }

/-- Change the unit. -/
def setUnit (f : SolarUnit → SolarUnit) (s : State) : State := { s with solar := f s.solar }

/-- The unit is present (R3). -/
def solarFitted (s : State) : Bool := optionCode s = 0

/-- Solar leaves of arm `a`, ascending. -/
def solarLeaves (s : State) (a : Nat) : List Nat := (armLeaves s a).filter (fun L => rd s (Obj.LEAF_KIND_CFG L) = 4)

/-- `L` is a configured solar leaf. -/
def isSolar (s : State) (L : Nat) : Bool := solarFitted s && leafOn s L && rd s (Obj.LEAF_KIND_CFG L) = 4

/-- A duration of `v` 0.1 ms in whole tides, rounded up (R206). -/
def solarTides (s : State) (v : Nat) : Nat := (v * 100000 + periodNs s - 1) / periodNs s

/-- T_m. -/
def pandoTides (s : State) : Nat := solarTides s (rd s Obj.MPPT_PERIOD)

/-- A setting in 0.01 % of a value. -/
def partOf (v : Nat) (x : Rat) : Rat := (v : Rat) * x / 10000

/-- Rounded to 0.1 V, to nearest, ties to even. -/
def roundV (x : Rat) : Rat := (roundHalfEven x : Rat)

/-- Half a length in tides, rounded up. -/
def halfOf (n : Nat) : Nat := (n + 1) / 2

/-! ### Objects -/

/-- What the leaf's objects show, and the value delivered to the shepherd (R207, R223). The value delivered before the present return
deadline is kept: a demand mark of an earlier tide still uses it (R205). -/
def deliver (L : Nat) (s : State) : State :=
  let n := s.solar.tide
  let s := if (solarOf s L).refTide = n then s
    else setSolar L (fun y => { y with refTide := n, refOld := rd s (Obj.PV_V_REF L) }) s
  let x := solarOf s L
  let u (w : Nat) (v : Rat) : Nat := (clampInt 0 ((2 ^ w : Nat) - 1) (roundHalfEven v)).toNat
  wrs s [(Obj.MPPT_STATE L, x.state), (Obj.PV_V_REF L, if mpScanning ≤ x.state then min 32766 (u 16 x.vref) else pvOpen),
    (Obj.PV_VOC L, min 32767 (u 16 x.voc) + (if x.estimated then 32768 else 0)), (Obj.PV_V_MPP L, u 16 x.vMpp),
    (Obj.PV_P_MPP L, u 32 (x.pMpp / 200)), (Obj.PV_P_WINDOW L, u 32 (x.pWin / 200)), (Obj.PV_STEP L, u 16 x.step)]

/-! ### Samples and windows (R204, R206) -/

/-- `PORT_VOLTAGE` and power of S(n); none when the sample is not valid. -/
def solarSample (s : State) (n L : Nat) : Option (Nat × Int) :=
  if tideBits s n L &&& 11 ≠ 0 ∨ slotMissing s n L = true then none
  else
    let bs := ringBytes s n L
    some (slotWord bs 1, (slotWord bs 1 : Int) * toSigned 16 (slotWord bs 2))

/-- Length of the activity under way, the tides it measures over, and the place of tide `n` in it. -/
def solarSpan (s : State) (n L : Nat) (x : SolarLeaf) : Nat × Nat × Nat :=
  let phase (t : Nat) : Nat := match s.solar.origin with
    | some m => (n - m) % max 1 t
    | none => (n + t - L % max 1 t) % max 1 t
  match x.vocRun, x.scan with
  | some t, _ => (solarTides s (rd s Obj.VOC_TIME), halfOf (solarTides s (rd s Obj.VOC_TIME)), t)
  | none, some _ => (solarTides s (rd s Obj.SCAN_DWELL), halfOf (solarTides s (rd s Obj.SCAN_DWELL)), x.dwell)
  | none, none =>
    if x.state = mpCurtailed then
      let t := solarTides s (rd s Obj.CURTAIL_PERIOD)
      (t, halfOf t, phase t)
    else (pandoTides s, solarTides s (rd s Obj.MPPT_WINDOW), phase (pandoTides s))

/-- Take S(n) into the window under way; the place of the tide is left in `tides`, counted from 1. -/
def gatherSolar (n L : Nat) (s : State) : State :=
  let x := solarOf s L
  let sp := solarSpan s n L x
  let fresh := decide (sp.2.2 = 0)
  let onPoint := x.vocRun.isNone && x.scan.isSome
  let x : SolarLeaf := if fresh then { x with sumP := 0, sumV := 0, valid := 0 } else x
  let x : SolarLeaf := match (if sp.1 ≤ sp.2.2 + sp.2.1 then solarSample s n L else none) with
    | some m => { x with sumP := x.sumP + (m.2 : Rat), sumV := x.sumV + (m.1 : Rat), valid := x.valid + 1 }
    | none => x
  setSolar L (fun _ => { x with
    tides := sp.2.2 + 1, vocRun := x.vocRun.map (· + 1),
    dwell := if onPoint then x.dwell + 1 else x.dwell,
    seen := if onPoint && (solarSample s n L).isSome then x.seen + 1 else x.seen }) s

/-- The window that has ended holds enough valid tides. -/
def windowGood (x : SolarLeaf) (window : Nat) : Bool := decide (0 < x.valid) && decide (window ≤ 2 * x.valid)

/-- Mean power of the window. -/
def windowP (x : SolarLeaf) : Rat := x.sumP / (x.valid : Rat)

/-- Mean voltage of the window. -/
def windowV (x : SolarLeaf) : Rat := x.sumV / (x.valid : Rat)

/-! ### Perturb and observe (R210) -/

/-- P&O starts at a reference (R209, R210). -/
def startPando (s : State) (v : Rat) (x : SolarLeaf) : SolarLeaf :=
  { x with vref := roundV v, dir := -1, run := 0, pPrev := none, older := none, step := (rd s Obj.STEP_INIT : Rat), sumP := 0, sumV := 0,
           valid := 0 }

/-- V_MPP and P_MPP: the better of the last two windows. -/
def noteMpp (p : Rat) (x : SolarLeaf) : SolarLeaf :=
  let best := match x.older with
    | some o => if p < o.2 then o else (x.vref, p)
    | none => (x.vref, p)
  { x with pWin := p, vMpp := best.1, pMpp := best.2, older := some (x.vref, p), sentinelWin := x.state = mpSentinel || x.sentinelWin }

/-- One update of R210 with window power `p`; the first period makes no step. -/
def pando (s : State) (p : Rat) (x : SolarLeaf) : SolarLeaf × Bool :=
  match x.pPrev with
  | none => ({ noteMpp p x with pPrev := some p }, false)
  | some q =>
    let x := noteMpp p x
    let dp := p - q
    let band := partOf (rd s Obj.DP_BAND) p
    let x : SolarLeaf := if band < dp then
        let run := x.run + 1
        { x with run := run, step := if 2 ≤ run then minRat (2 * x.step) (rd s Obj.STEP_MAX : Rat) else x.step }
      else { x with dir := -x.dir, run := 0, step := maxRat (x.step / 2) (rd s Obj.STEP_MIN : Rat) }
    let v := x.vref + (x.dir : Rat) * x.step * x.voc / 10000
    ({ x with vref := roundV (clampRat (partOf (rd s Obj.V_LOW) x.voc) (partOf (rd s Obj.V_HIGH) x.voc) v), pPrev := some p }, true)

/-- The end of a P&O period of leaf `L` (R207 to R210). -/
def pandoEnd (L : Nat) (s : State) : State :=
  let x := solarOf s L
  let window := solarTides s (rd s Obj.MPPT_WINDOW)
  if windowGood x window = false then count s Obj.MPPT_HOLDS
  else if x.state = mpTracking ∨ x.state = mpSentinel then
    let r := pando s (windowP x) x
    let s := setSolar L (fun _ => r.1) s
    if r.2 then countBy 64 s Obj.MPPT_STEPS 1 else s
  else if x.state = mpPaused ∨ x.state = mpDark ∨ x.state = mpShed then
    let v := windowV x
    let bright := decide ((rd s Obj.PV_VOC_MIN : Rat) * 11 / 10 ≤ v)
    setSolar L (fun x => { x with
      pWin := windowP x, voc := v, vocKnown := true, estimated := false, brightRun := if bright then x.brightRun + 1 else 0 }) s
  else s

/-! ### Arms (R214, R215) -/

/-- The arm is curtailed. -/
def curtailed (s : State) (a : Nat) : Bool := rdBool s (Obj.SOLAR_CURTAILED a)

/-- Sentinels of arm `a`. -/
def sentinelsOf (s : State) (a : Nat) : List Nat := getD' s.solar.sentinels a []

/-- ρ_a. -/
def solarRho (s : State) (a : Nat) : Rat :=
  let xs := ((sentinelsOf s a).map (solarOf s)).filter (fun x => x.state = mpSentinel && x.sentinelWin)
  let den := sumRat (xs.map (·.sentinelP))
  if den = 0 then 1 else sumRat (xs.map (·.pWin)) / den

/-- Contribution of a leaf to A_a. -/
def solarShare (rho : Rat) (x : SolarLeaf) : Rat :=
  if x.state = mpTracking ∨ x.state = mpSentinel then x.pWin
  else if x.state = mpScanning then x.pBefore
  else if x.state = mpCurtailed then x.pMpp * rho
  else if x.state = mpShed then x.held
  else 0

/-- Power in 0.005 W as pu of rated power. -/
def solarPu (s : State) (p : Rat) : Rat := p / 200 / basePower s

/-- A_a, in 0.005 W. -/
def solarAvail (s : State) (a : Nat) : Rat := sumRat ((solarLeaves s a).map (fun L => solarShare (solarRho s a) (solarOf s L)))

/-- `SOLAR_P_LIMIT` of the converter of arm `a`, pu. -/
def solarLimit (s : State) (a : Nat) : Rat := rdPu s (if a / 6 = 0 then Obj.SOLAR_P_LIMIT_C0 else Obj.SOLAR_P_LIMIT_C1)

/-- C_a, pu (R215). -/
def solarTarget (s : State) (a : Nat) : Rat :=
  let lim := solarLimit s a
  let sum := sumRat ((convArms (a / 6)).map (fun b => rdPu s (Obj.SOLAR_AVAILABLE b)))
  let share := if sum = 0 then lim else lim * rdPu s (Obj.SOLAR_AVAILABLE a) / sum
  minRat (rdPu s (Obj.SOLAR_ACCEPT a)) share

/-- Publish A_a, the power delivered and ρ_a of arm `a` at S(n). -/
def publishSolar (n a : Nat) (s : State) : State :=
  let now := sumInt ((solarLeaves s a).filterMap (fun L => (solarSample s n L).map (·.2)))
  wrs s [(Obj.SOLAR_AVAILABLE a, pu24OfRat (solarPu s (solarAvail s a))), (Obj.SOLAR_DELIVERED a, pu24OfRat (solarPu s (now : Rat))),
    (Obj.SOLAR_RHO a, (clampInt 0 65535 (roundHalfEven (solarRho s a * 32768))).toNat)]

/-- How many leaves of arm `a` are DARK and SCANNING (R222). -/
def showCounts (a : Nat) (s : State) : State :=
  let n (st : Nat) : Nat := ((solarLeaves s a).filter (fun L => (solarOf s L).state = st)).length
  wrs s [(Obj.SOLAR_DARK a, min 0xFFFF (n mpDark)), (Obj.SOLAR_SCANNING a, min 0xFF (n mpScanning))]

/-- What leaf `L` shows after its state may have changed. -/
def present (L : Nat) (s : State) : State := showCounts (armOf s L) (deliver L s)

/-- What the leaves of arm `a` show. -/
def presentArm (a : Nat) (s : State) : State := showCounts a ((solarLeaves s a).foldl (fun t L => deliver L t) s)

/-! ### Scans (R211 to R213) -/

/-- A scan is abandoned: the reference returns to v_before. -/
def abandonScan (L : Nat) (s : State) : State :=
  match (solarOf s L).scan with
  | none => s
  | some _ =>
    count (setSolar L (fun x => { x with
      scan := none, vocRun := none, best := none, vref := x.vBefore, due := false, scanBase := .abandoned (nowNs s),
      sumP := 0, sumV := 0, valid := 0 }) s)
      Obj.SCANS_ABANDONED

/-- A scan begins (R212). -/
def startScan (L : Nat) (s : State) : State :=
  let s := setSolar L (fun x => { x with
    vBefore := x.vref, pBefore := x.pWin, scan := some 0, vocRun := some 0, best := none, due := false, delayed := false,
    scanBase := .began (nowNs s), dwell := 0, seen := 0, sumP := 0, sumV := 0, valid := 0, state := mpOpen }) s
  deliver L (wr s (Obj.LAST_SCAN L) (tideNow s))

/-- Instant at which the next scan of leaf `L` becomes due, ns; none where nothing has set it (R211, R213). -/
def scanInstant (s : State) (L : Nat) : Option Nat :=
  let sec : Nat := 1000000000
  match (solarOf s L).scanBase with
  | .never => none
  | .entered t => some (t + L % 600 * rd s Obj.SCAN_INTERVAL * sec / 600)
  | .began t => some (t + rd s Obj.SCAN_INTERVAL * sec)
  | .abandoned t => some (t + 60 * sec)

/-- `x` became due before `y`: in an earlier tide, or in the same tide with the lower leaf ID. -/
def dueBefore (s : State) (x y : Nat) : Bool :=
  let a := (solarOf s x).dueAt / periodNs s
  let b := (solarOf s y).dueAt / periodNs s
  decide (a < b) || (decide (a = b) && decide (x < y))

/-- The first due leaf of a list. -/
def firstDue (s : State) : List Nat → Option Nat
  | [] => none
  | L :: rest => match firstDue s rest with
    | none => some L
    | some m => if dueBefore s m L then some m else some L

/-- Start due scans of arm `a` while there is room (R211). -/
def startScans (a : Nat) : Nat → State → State
  | 0, s => s
  | fuel + 1, s =>
    let ls := solarLeaves s a
    let busy := (ls.filter (fun L => (solarOf s L).scan.isSome)).length
    if curtailed s a = true ∨ rd s Obj.SCAN_INTERVAL = 0 ∨ rd s Obj.SCAN_CONCURRENT ≤ busy then s
    else match firstDue s (ls.filter (fun L => (solarOf s L).due && (solarOf s L).state = mpTracking)) with
      | none => s
      | some L => startScans a fuel (startScan L s)

/-- The scan of leaf `L` becomes due at instant `t`; a wait is counted once. -/
def scanDue (L t : Nat) (s : State) : State :=
  let s := setSolar L (fun x => { x with due := true, delayed := false, dueAt := t }) s
  let s := presentArm (armOf s L) (startScans (armOf s L) 64 s)
  if (solarOf s L).due then count (setSolar L (fun x => { x with delayed := true }) s) Obj.SCANS_DELAYED else s

/-- SCAN_DUE (R211): station time reaches the instant at which the leaf's scan is due. -/
def execScanDue (leaf : Nat) (s : State) : Host.Outcome State Fault Refusal :=
  .next (whenAlive .fabric (fun s =>
    match scanInstant s leaf with
    | some t =>
      if isSolar s leaf && decide (rd s Obj.SCAN_INTERVAL ≠ 0) && !(solarOf s leaf).due && (solarOf s leaf).scan.isNone then
        scanDue leaf t (runTo (t * nsUnit) s)
      else s
    | none => s) s)

/-- Reference of scan point `j` (R212). -/
def scanPoint (s : State) (voc : Rat) (j : Nat) : Rat :=
  let hi : Rat := rd s Obj.SCAN_HIGH
  let lo : Rat := rd s Obj.SCAN_LOW
  roundV ((hi - (j : Rat) * (hi - lo) / ((rd s Obj.SCAN_POINTS - 1 : Nat) : Rat)) * voc / 10000)

/-- A scan ends with its best point (R212). -/
def endScan (L : Nat) (s : State) : State :=
  let x := solarOf s L
  let b := x.best.getD (x.vBefore, 0)
  let moves := decide (x.pBefore * (1 + (rd s Obj.SCAN_GAIN_MIN : Rat) / 10000) < b.2)
  let gain : Nat := if x.pBefore = 0 then Config.scanGain L (tideNow s) % 65536
    else ofSigned 16 (clampInt (-32768) 32767 (roundHalfEven ((b.2 / x.pBefore - 1) * 10000)))
  let s := wr (count s Obj.SCANS) (Obj.SCAN_GAIN L) gain
  let s := if moves then count s Obj.SCAN_MOVES else s
  setSolar L (fun x => { x with
    scan := none, best := none, vref := if moves then b.1 else x.vBefore, step := (rd s Obj.STEP_INIT : Rat), run := 0,
    pPrev := some (if moves then b.2 else x.pBefore), sumP := 0, sumV := 0, valid := 0 }) s

/-- Power of a scan point whose dwell of `len` tides is over: 0 W with fewer than half valid tides. The mean over a last half without a
valid tide is a free value (log 69). -/
def scanPower (L len : Nat) (x : SolarLeaf) (s : State) : Rat :=
  if 2 * x.seen < len then 0 else if x.valid = 0 then Config.scanPower L (tideNow s) else windowP x

/-- SCAN_POINT_END (R212): the dwell of the present point is over. -/
def execScanPointEnd (leaf : Nat) (s : State) : Host.Outcome State Fault Refusal :=
  .next (whenAlive .fabric (fun s =>
    let x := solarOf s leaf
    let len := solarTides s (rd s Obj.SCAN_DWELL)
    match x.scan with
    | some j =>
      if isSolar s leaf = false ∨ x.vocRun.isSome = true ∨ x.dwell < len then s
      else
        let p := scanPower leaf len x s
        let best := match x.best with
          | some b => if b.2 < p then (x.vref, p) else b
          | none => (x.vref, p)
        let s := setSolar leaf (fun x => { x with
          best := some best, dwell := 0, seen := 0, sumP := 0, sumV := 0, valid := 0 }) s
        present leaf (if j + 1 < rd s Obj.SCAN_POINTS then
            setSolar leaf (fun x => { x with scan := some (j + 1), vref := scanPoint s x.voc (j + 1) }) s
          else endScan leaf s)
    | none => s) s)

/-! ### Tracking states (R207) -/

/-- `LEAF_RANK_STATE` puts the leaf OFF. -/
def rankedOff (s : State) (L : Nat) : Bool := [rkPenned, rkStray, rkExcluded, rkMismatch].contains (rd s (Obj.LEAF_RANK_STATE L))


/-- The arm sheds: its target C_a is 0, and not only because no power has been available so far (DEDUCED, log 48: a C_a that is 0 only
through A_a = 0 could never become positive). -/
def sheds (s : State) (a : Nat) : Bool :=
  decide (rdPu s (Obj.SOLAR_TARGET a) ≤ 0)
    && (decide (0 < rdPu s (Obj.SOLAR_AVAILABLE a)) || decide (solarLimit s a ≤ 0) || !(getD' s.shepherds a Shepherd.idle).accepts)

/-- The leaf counts as DARK. -/
def isDark (s : State) (x : SolarLeaf) : Bool :=
  if x.state = mpDark then decide (x.brightRun < 10) else x.vocKnown && decide (x.voc < (rd s Obj.PV_VOC_MIN : Rat))

/-- The first matching row of R207. -/
def solarRow (s : State) (a L : Nat) (x : SolarLeaf) : Nat :=
  if rankedOff s L then mpOff
  else if rd s (Obj.SHEPHERD_STATE a) ≠ 2 then mpPaused
  else if sheds s a then mpShed
  else if x.vocRun.isSome then mpOpen
  else if isDark s x then mpDark
  else if x.scan.isSome then mpScanning
  else if curtailed s a && (sentinelsOf s a).contains L then mpSentinel
  else if curtailed s a || x.leaving then mpCurtailed
  else mpTracking

/-- A scan that the arm's curtailment or a higher row ends is abandoned (R213); a measurement does not outlast such a row. -/
def dropScan (L row : Nat) (s : State) : State :=
  let a := armOf s L
  let s := if row < mpOpen ∨ row = mpDark ∨ curtailed s a = true then abandonScan L s else s
  if row < mpOpen then setSolar L (fun x => { x with vocRun := none }) s else s

/-- Entering TRACKING sets what the leaf's first scan is counted from (R211). -/
def noteTracking (s : State) (x : SolarLeaf) : SolarLeaf :=
  { x with scanBase := match x.scanBase with
      | .never | .entered _ => .entered (nowNs s)
      | b => b }

/-- The state is re-evaluated at a return deadline, with what entering it does (R208, R209, R216, R218, R219); `rho` is the ρ_a just
published. A leaf that comes from SHED without ever having had a window has no P_MPP to be curtailed to: it is measured like one
that comes from OFF (DEDUCED, log 69). -/
def solarState (a L : Nat) (rho : Rat) (s : State) : State :=
  let s := dropScan L (solarRow s a L (solarOf s L)) s
  let x := solarOf s L
  let old := x.state
  let row := solarRow s a L x
  let put (f : SolarLeaf → SolarLeaf) : State := setSolar L f s
  if row = old then s
  else if row < mpOpen then
    put (fun x => { x with
      state := row, leaving := false, held := if row = mpShed then solarShare rho x else x.held,
      sumP := 0, sumV := 0, valid := 0 })
  else if row = mpDark then
    put (fun x => { startPando s 0 x with state := mpDark, brightRun := 0, leaving := false })
  else if row = mpOpen then put (fun x => { x with state := mpOpen })
  else if old = mpOff ∨ old = mpDark ∨ (old = mpPaused ∧ x.vocKnown = false) ∨ (old = mpShed ∧ x.pMpp = 0) then
    put (fun x => { x with state := mpOpen, vocRun := some 0, sumP := 0, sumV := 0, valid := 0 })
  else if old = mpPaused then
    put (fun x =>
      let y := startPando s (partOf (rd s Obj.V_START) x.voc) x
      { (if row = mpTracking then noteTracking s y else y) with state := row })
  else if old = mpShed then
    put (fun x => { x with state := mpCurtailed, vref := roundV (partOf (rd s Obj.V_HIGH) x.voc), steps := [], leaving := !curtailed s a,
                           sumP := 0, sumV := 0, valid := 0 })
  else if row = mpCurtailed then
    put (fun x => { x with state := row, steps := [], sumP := 0, sumV := 0, valid := 0 })
  else put (fun x => { (if row = mpTracking then noteTracking s x else x) with state := row, sumP := 0, sumV := 0, valid := 0 })

/-! ### Open-circuit measurement (R208) -/

/-- The open-circuit measurement of leaf `L` is over: Voc is the mean of the last half. The state is re-evaluated, so that the scan's first
point or the P&O reference goes out at once. A measurement without enough valid tides is made again. -/
def vocEnd (L : Nat) (s : State) : State :=
  let x := solarOf s L
  let len := solarTides s (rd s Obj.VOC_TIME)
  match x.vocRun with
  | none => s
  | some t =>
    if t < len then s
    else if windowGood x (halfOf len) = false then
      count (setSolar L (fun x => { x with vocRun := some 0, sumP := 0, sumV := 0, valid := 0 }) s) Obj.MPPT_HOLDS
    else
      let v := windowV x
      let x : SolarLeaf := { x with voc := v, vocKnown := true, estimated := false, vocRun := none, sumP := 0, sumV := 0, valid := 0 }
      let y : SolarLeaf := if x.scan.isSome then { x with dwell := 0, seen := 0, vref := roundV (partOf (rd s Obj.SCAN_HIGH) v) }
        else startPando s (partOf (rd s Obj.V_START) v) x
      let a := armOf s L
      present L (solarState a L (solarRho s a) (setSolar L (fun _ => y) s))

/-- VOC_MEASUREMENT_END (R208). -/
def execVocMeasurementEnd (leaf : Nat) (s : State) : Host.Outcome State Fault Refusal :=
  .next (whenAlive .fabric (fun s => if isSolar s leaf then vocEnd leaf s else s) s)

/-! ### Curtailment (R216 to R218) -/

/-- The first `k` of `xs` in ascending order after `last`, going round. -/
def nextInOrder (k : Nat) (last : Option Nat) (xs : List Nat) : List Nat :=
  let m := match last with | some l => l + 1 | none => 0
  (xs.filter (fun L => decide (m ≤ L)) ++ xs.filter (fun L => decide (L < m))).take k

/-- Leaves become sentinels of arm `a`. -/
def makeSentinels (a : Nat) (xs : List Nat) (s : State) : State :=
  let s := xs.foldl (fun t L => setSolar L (fun x => { x with
    sentinelP := x.pMpp, sentinelWin := false, state := mpSentinel, pPrev := if x.state = mpTracking then x.pPrev else none,
    dir := if x.state = mpTracking then x.dir else -1, run := if x.state = mpTracking then x.run else 0,
    sumP := 0, sumV := 0, valid := 0 }) t) s
  setUnit (fun u => { u with
    sentinels := u.sentinels.modify a (· ++ xs),
    lastSentinel := match xs.getLast? with | some l => u.lastSentinel.set a (some l) | none => u.lastSentinel }) s

/-- The arm becomes curtailed (R216). -/
def enterCurtailed (a : Nat) (s : State) : State :=
  let s := wr (setUnit (fun u => { u with sentinels := u.sentinels.set a [], exitRun := u.exitRun.set a 0 }) s) (Obj.SOLAR_CURTAILED a) 1
  let tracking := (solarLeaves s a).filter (fun L => (solarOf s L).state = mpTracking)
  let s := makeSentinels a (nextInOrder (rd s Obj.SENTINELS) (getD' s.solar.lastSentinel a none) tracking) s
  (solarLeaves s a).foldl (fun t L => setSolar L (fun x => { x with leaving := false }) t) s

/-- The arm leaves curtailment: its CURTAILED leaves keep their loop until they reach V_MPP. -/
def exitCurtailed (a : Nat) (s : State) : State :=
  let s := wr s (Obj.SOLAR_CURTAILED a) 0
  let s := (solarLeaves s a).foldl (fun t L => setSolar L (fun x => { x with leaving := x.state = mpCurtailed || x.leaving }) t) s
  setUnit (fun u => { u with sentinels := u.sentinels.set a [], exitRun := u.exitRun.set a 0 }) s

/-- Entry and exit of curtailment at a return deadline. -/
def curtailArm (a : Nat) (s : State) : State :=
  let av := rdPu s (Obj.SOLAR_AVAILABLE a)
  let c := rdPu s (Obj.SOLAR_TARGET a)
  if curtailed s a then
    let n := if av ≤ c then getD' s.solar.exitRun a 0 + 1 else 0
    let s := setUnit (fun u => { u with exitRun := u.exitRun.set a n }) s
    if 10 * solarTides s (rd s Obj.CURTAIL_PERIOD) ≤ n then exitCurtailed a s else s
  else if c < av * (1 - (rd s Obj.CURTAIL_BAND : Rat) / 10000) then enterCurtailed a s
  else s

/-- A sentinel that has gone OFF or DARK is replaced by the next leaf in order; none remain in SHED or PAUSED. -/
def replaceSentinels (a : Nat) (s : State) : State :=
  let gone := (sentinelsOf s a).filter (fun L => (solarOf s L).state ≠ mpSentinel)
  if gone.isEmpty then s
  else
    let lost := (gone.filter (fun L => let st := (solarOf s L).state; st = mpOff || st = mpDark)).length
    let s := setUnit (fun u => { u with sentinels := u.sentinels.modify a (fun xs => xs.filter (fun L => !gone.contains L)) }) s
    let free := (solarLeaves s a).filter (fun L => (solarOf s L).state = mpCurtailed)
    makeSentinels a (nextInOrder lost (getD' s.solar.lastSentinel a none) free) s

/-- SENTINEL_ROTATE_EXPIRY (R216): the sentinels are released and the next ones chosen. -/
def execSentinelRotateExpiry (arm : Nat) (s : State) : Host.Outcome State Fault Refusal :=
  .next (whenAlive .fabric (fun s =>
    if solarFitted s && decide (arm < 12) && curtailed s arm then
      let s := (sentinelsOf s arm).foldl (fun t L => setSolar L (fun x =>
        if x.state = mpSentinel then { x with state := mpCurtailed, steps := [], sumP := 0, sumV := 0, valid := 0 } else x) t) s
      let s := setUnit (fun u => { u with sentinels := u.sentinels.set arm [] }) s
      let free := (solarLeaves s arm).filter (fun L => (solarOf s L).state = mpCurtailed)
      let s := makeSentinels arm (nextInOrder (rd s Obj.SENTINELS) (getD' s.solar.lastSentinel arm none) free) s
      presentArm arm s
    else s) s)

/-- Target of a CURTAILED leaf in 0.005 W (R216, R217). -/
def curtailTarget (s : State) (a : Nat) (x : SolarLeaf) : Rat :=
  if x.leaving then x.pMpp * solarRho s a
  else
    let c := rdPu s (Obj.SOLAR_TARGET a) * basePower s * 200
    let sent := sumRat (((sentinelsOf s a).map (solarOf s)).map (·.pWin))
    let sum := sumRat (((solarLeaves s a).map (solarOf s)).filter (fun y => y.state = mpCurtailed) |>.map (·.pMpp))
    if sum = 0 then 0 else maxRat 0 ((c - sent) * x.pMpp / sum)

/-- The move of a step: (p - p_t) ÷ |s| within the step limit; a slope of 0 gives the limit. -/
def curtailMove (lim slope d : Rat) : Rat :=
  if slope = 0 then (if d < 0 then -lim else lim) else clampRat (-lim) lim (d / absRat slope)

/-- One step of the curtailment loop (R217). -/
def curtailStep (a L : Nat) (s : State) : State :=
  let x := solarOf s L
  let p := windowP x
  let pt := curtailTarget s a x
  let here := (x.vref, p)
  let slope : Rat := match x.steps with
    | o :: _ => if x.vMpp ≤ o.1 ∧ x.vMpp ≤ x.vref ∧ x.voc / 1000 ≤ absRat (x.vref - o.1) then (p - o.2) / (x.vref - o.1)
        else if x.voc = x.vref then 0 else -p / (x.voc - x.vref)
    | [] => if x.voc = x.vref then 0 else -p / (x.voc - x.vref)
  let moves := decide (partOf (rd s Obj.CURTAIL_BAND) pt < absRat (p - pt))
  let v := if moves then
      roundV (clampRat x.vMpp (partOf (rd s Obj.V_HIGH) x.voc) (x.vref + curtailMove (partOf (rd s Obj.STEP_MAX) x.voc) slope (p - pt)))
    else x.vref
  let done := x.leaving && decide (v ≤ x.vMpp)
  let y : SolarLeaf := { x with pWin := p, vref := v, steps := [here], sumP := 0, sumV := 0, valid := 0, tides := 0 }
  let y : SolarLeaf := if done then noteTracking s { y with leaving := false, state := mpTracking, step := (rd s Obj.STEP_INIT : Rat),
                                                            run := 0, dir := -1, pPrev := none } else y
  deliver L (setSolar L (fun _ => y) s)

/-- CURTAIL_STEP (R217): the leaf's curtailment period has ended. -/
def execCurtailStep (leaf : Nat) (s : State) : Host.Outcome State Fault Refusal :=
  .next (whenAlive .fabric (fun s =>
    let x := solarOf s leaf
    let len := solarTides s (rd s Obj.CURTAIL_PERIOD)
    if isSolar s leaf && decide (x.state = mpCurtailed) && decide (len ≤ x.tides) then
      (if windowGood x (halfOf len) then curtailStep (armOf s leaf) leaf s else count s Obj.MPPT_HOLDS)
    else s) s)

/-- SCAN_ABANDON (R213): the arm is curtailed, or the leaf's state goes to a row above SCANNING. -/
def execScanAbandon (leaf : Nat) (s : State) : Host.Outcome State Fault Refusal :=
  .next (whenAlive .fabric (fun s =>
    let a := armOf s leaf
    let row := solarRow s a leaf (solarOf s leaf)
    if isSolar s leaf && (curtailed s a || decide (row < mpOpen) || decide (row = mpDark)) then present leaf (abandonScan leaf s) else s) s)

/-- A write of 1 to `SCAN_ABORT` (R213). -/
def writeScanAbort (v : Nat) (s : State) : WriteResult :=
  if v = 1 then
    accept ((List.range 12).foldl (fun t a => (solarLeaves t a).foldl (fun u L => abandonScan L u) t) s)
  else refuse s abRange

/-! ### The tide -/

/-- The unit at the return deadline of tide `n` (R205): windows, arms, states, scans, values. -/
def solarTide (n : Nat) (s : State) : State :=
  if solarFitted s = false then s
  else
    let arms := List.range 12
    let s := setUnit (fun u => { u with tide := n }) s
    let s := arms.foldl (fun t a => (solarLeaves t a).foldl (fun u L =>
      let u := gatherSolar n L u
      let x := solarOf u L
      let pandos := x.vocRun.isNone && x.scan.isNone && x.state ≠ mpCurtailed
      if pandos && decide (x.tides = pandoTides u) then pandoEnd L u else u) t) s
    let s := arms.foldl (fun t a => publishSolar n a t) s
    let s := arms.foldl (fun t a => curtailArm a (wrPu t (Obj.SOLAR_TARGET a) (solarTarget t a))) s
    let s := arms.foldl (fun t a => (solarLeaves t a).foldl (fun u L => solarState a L (solarRho t a) u) t) s
    let s := arms.foldl (fun t a => startScans a 64 (replaceSentinels a t)) s
    arms.foldl (fun t a => presentArm a t) s

/-- The leaf's present `PORT_VOLTAGE`: that of its latest valid sample the ring holds, and else the reference it stands at. -/
def portVoltage (s : State) (L : Nat) : Rat :=
  let back := (List.range 64).filterMap (fun k => if k ≤ s.solar.tide then solarSample s (s.solar.tide - k) L else none)
  match back with
  | m :: _ => (m.1 : Rat)
  | [] => (solarOf s L).vref

/-- An uncorrectable error in the unit's memory that holds leaf `L` (R219). -/
def solarUpset (L : Nat) (s : State) : State :=
  if isSolar s L = false then s
  else
    let v := portVoltage s L
    present L (setSolar L (fun x => { startPando s v x with
      voc := v * 10000 / (rd s Obj.V_START : Rat), vocKnown := true, estimated := true, scan := none, vocRun := none, due := true,
      delayed := false, dueAt := nowNs s }) s)

/-- A commit that changes the tide period restarts the periods of the leaves, from the first tide of the new period (R219). -/
def solarCommit (old s : State) : State := if periodNs old = periodNs s then s else setUnit (fun u => { u with restart := true }) s

/-- The tide numbers start afresh with tide `n`: windows restart, and the periods after a change of the tide period. -/
def solarRenumber (n : Nat) (s : State) : State :=
  let again (_ : Nat) (x : SolarLeaf) : SolarLeaf := { x with sumP := 0, sumV := 0, valid := 0, tides := 0, refTide := 0 }
  setUnit (fun u => { u with
    leaves := Tbl.mapAll (fun _ => SolarLeaf.reset) again u.leaves, tide := 0, restart := false,
    origin := if u.restart then some n else u.origin }) s

end Sys2Proof.Machine
end

