-- ==== Sys2Proof/Machine/Token.lean ====
section
/-! DEFINITION. The command token and contradictory orders (R305 to R308), and sessions: opening, authentication, ending
(R289 to R294). -/

namespace Sys2Proof.Machine

/-- Record of master m for its cycle: 1 A, 2 B, 3 the service master, who has no images but whose refused writes are remembered
(R308). -/
def masterImages (s : State) (m : Nat) : MasterImages :=
  if m = 0 then MasterImages.empty else getD' s.images (m - 1) MasterImages.empty

/-- Change the record of master m. -/
def setMaster (m : Nat) (f : MasterImages → MasterImages) (s : State) : State :=
  if m = 0 then s else { s with images := s.images.modify (m - 1) f }

/-- Reasons of "token changed" (R298): request. -/
abbrev trRequest : Nat := 1
/-- release -/
abbrev trRelease : Nat := 2
/-- timeout -/
abbrev trTimeout : Nat := 3
/-- forced -/
abbrev trForced : Nat := 4
/-- session replaced -/
abbrev trReplaced : Nat := 5

/-- The token passes to `new` (0: it becomes free): counted, told to both masters; the new holder's output images apply from
the next cycle on (R306). -/
def passToken (new reason : Nat) (s : State) : State :=
  let old := rd s Obj.TOKEN_HOLDER
  let s := count (wr s Obj.TOKEN_HOLDER new) Obj.TOKEN_TRANSFERS
  let s := setMaster new (fun x => { x with applyFrom := rd s Obj.IMAGE_CYCLE_NOW + 1 }) s
  let body := leBytes 1 old ++ leBytes 1 new ++ leBytes 1 reason ++ leBytes 1 0
  notifyMaster 2 0x04 body (notifyMaster 1 0x04 body s)

/-- A session of master `m` is open. -/
def masterOpen (s : State) (m : Nat) : Bool := allSessions.any (fun k => sessOpen s k && decide (sessMaster s k = m))

/-- The holder falls silent or its session ends: the token is free, or passes at once to the other master (R306). -/
def loseToken (s : State) : State :=
  let h := rd s Obj.TOKEN_HOLDER
  if h = 0 then s
  else
    let s := emit .commandTokenLost noInst (leBytes 1 h) s
    let other := 3 - h
    if rdBool s Obj.TOKEN_AUTO_TAKE && masterOpen s other then passToken other trTimeout s else passToken 0 trTimeout s

/-- The two values of a conflict told to both masters, counted, and raised as an event (R308). -/
def conflict (key refused hv rv : Nat) (s : State) : State :=
  let body := leBytes 2 (keyIndex key) ++ leBytes 1 (keySub key) ++ leBytes 1 refused
    ++ leBytes 8 (rd s Obj.IMAGE_CYCLE_NOW) ++ leBytes 8 hv ++ leBytes 8 rv
  let s := setMaster refused (fun x => { x with conflict := true }) (count s Obj.TOKEN_CONFLICTS)
  let s := emit .commandConflict noInst (body.take 12) s
  notifyMaster 2 0x03 body (notifyMaster 1 0x03 body s)

/-- What master `m` last wrote to an object in the present cycle. -/
def wroteThisCycle (s : State) (m key : Nat) : Option Nat :=
  ((masterImages s m).wrote.find? (fun p => p.1 = key)).map (·.2)

/-- Refused writes remembered per cycle (R308). -/
abbrev rememberMax : Nat := 64

/-- A governed write refused (R308): a conflict when the holder wrote another value in this cycle, else remembered. -/
def refuseGoverned (m key raw : Nat) (s : State) : State × Nat :=
  let s := count s Obj.TOKEN_REFUSALS
  match wroteThisCycle s (rd s Obj.TOKEN_HOLDER) key with
  | some hv => if rd s Obj.TOKEN_HOLDER ≠ 0 ∧ hv ≠ raw then (conflict key m hv raw s, abConflict) else (s, abToken)
  | none =>
    if sumNat (s.images.map (fun x => x.remembered.length)) < rememberMax then
      (setMaster m (fun x => { x with remembered := x.remembered ++ [(key, raw)] }) s, abToken)
    else (s, abToken)

/-- Differing entries of a non-holder's image that raise a conflict (R308). -/
abbrev shadowMax : Nat := 8

/-- One entry of the unapplied image of master `m` meets the holder's value of this cycle (R308): the first 8 that differ raise a
conflict. -/
def shadowEntry (m key hv v : Nat) (s : State) : State :=
  if hv ≠ v ∧ (masterImages s m).shadowHits < shadowMax then
    conflict key m hv v (setMaster m (fun x => { x with shadowHits := x.shadowHits + 1 }) s)
  else s

/-- A write of the holder meets what master `o` was refused of the object in this cycle, and its unapplied image (R308). -/
def meetRefused (key raw o : Nat) (s : State) : State :=
  let hits := (masterImages s o).remembered.filter (fun p => p.1 = key && p.2 ≠ raw)
  let ghosts := (masterImages s o).shadow.filter (fun p => p.1 = key)
  let s := setMaster o (fun x => { x with remembered := x.remembered.filter (fun p => p.1 ≠ key),
                                          shadow := x.shadow.filter (fun p => p.1 ≠ key) }) s
  let s := hits.foldl (fun t p => conflict key o raw p.2 t) s
  ghosts.foldl (fun t p => shadowEntry o key raw p.2 t) s

/-- A write of the holder is noted for the cycle, and compared with the refused ones remembered and with the other master's
unapplied image (R308). -/
def noteHolderWrite (m key raw : Nat) (s : State) : State :=
  let s := setMaster m (fun x => { x with wrote := (key, raw) :: x.wrote.filter (fun p => p.1 ≠ key) }) s
  if m = 0 ∨ 2 < m then s else meetRefused key raw 3 (meetRefused key raw (3 - m) s)

/-! ### Sessions -/

/-- `SESSIONS_OPEN`: sessions open or being installed (R315). -/
def showSessions (s : State) : State :=
  wr s Obj.SESSIONS_OPEN ((allSessions.filter (fun k => sessOpen s k)).length)

/-- Objects of a free session (R316). -/
def clearSessionObjects (k : Nat) (s : State) : State :=
  wrs s [(Obj.SESSION_STATE k, 0), (Obj.SESSION_MASTER k, 0), (Obj.SESSION_ROLE k, 0), (Obj.SESSION_PORT k, 0xFF),
    (Obj.SESSION_ADDRESS k, 0), (Obj.SESSION_UDP k, 0), (Obj.NOTIFY_MASK k, 0x7F), (Obj.SESSION_REQUESTS k, 0),
    (Obj.NOTIFY_DROPPED k, 0)]

/-- Free session `k`: its identifier and key stay known for the answer of R297. An open transfer ends with it (R293). -/
def freeSession (k : Nat) (s : State) : State :=
  let x := sess s k
  let ended := if x.ks = [] then x.ended else (x.ident, x.ks) :: x.ended.take 15
  showSessions (setSess (clearSessionObjects k s) k (fun _ => { Session.free with ended := ended }))

/-- Reasons of "session closing" (R298): evicted. -/
abbrev scEvicted : Nat := 1
/-- replaced -/
abbrev scReplaced : Nat := 2
/-- timeout -/
abbrev scTimeout : Nat := 3
/-- keys changed -/
abbrev scKeys : Nat := 4

/-- Session `k` ends (R293); with a reason it is told first. A token its master holds is lost unless the session is
replaced. -/
def endSession (k : Nat) (reason : Option Nat) (s : State) : State :=
  let m := sessMaster s k
  let s := match reason with
    | some r => notifySession k 0x07 (stimeNow s) (leBytes 1 r ++ leBytes 3 0) s
    | none => s
  let s := freeSession k s
  if m ≠ 0 ∧ m = rd s Obj.TOKEN_HOLDER ∧ reason ≠ some scReplaced then loseToken s else s

/-- The host ports run: the lookout cores are out of reset, the port is in service, and the device is not dormant, or only
HSVC serves in the fallback service (R314, R471, R477). -/
def hostUp (s : State) (port : Nat) : Bool :=
  alive s .lookout && decide (port < 3) && rdBool s (Obj.PORT_ENABLE port)
    && (decide (rd s Obj.POWER_STATE ≠ 3) || (s.rp.fallback && decide (port = 2)))

/-- Ten seconds, in 2⁻²⁴ ns. -/
def tenSeconds : Nat := 10 * secUnit

/-- SESSION_OPEN of an address is ignored for 10 s after 5 failures within 10 s (R290): each failure that is the fifth within 10 s keeps
it blocked for its own 10 s. -/
def addressBlocked (s : State) (addr : Nat) : Bool :=
  let ts := (s.authFails.filter (fun p => p.1 = addr)).map (·.2)
  (ts.zip (ts.drop 4)).any (fun p => decide (p.1 ≤ p.2 + tenSeconds) && decide (s.time.acc < p.1 + tenSeconds))

/-- An authentication failure (R290). -/
def authFailed (addr : Nat) (s : State) : State :=
  let s := count s Obj.AUTH_FAILURES
  { s with authFails := ((addr, s.time.acc) :: s.authFails).take 256 }

/-- The combination of master, role and port is one R289 allows. -/
def openAllowed (master role port : Nat) : Bool :=
  match master with
  | 0 => decide (role = 0) || decide (role = 3)
  | 1 | 2 => (decide (role = 1) || decide (role = 2)) && decide (port ≤ 1)
  | 3 => (decide (role = 1) || decide (role = 2)) && decide (port = 2)
  | _ => false

/-- Key of a role: viewer, operator, engineer, safety are sub-indices 1 to 4 of `ROLE_KEY` (R315). -/
def roleKey (s : State) (role : Nat) : List Byte := rdBlob s (Obj.ROLE_KEY role)

/-- The engineer key is unset: the device offers the installation session (R294). -/
def installing (s : State) : Bool := !bit (rd s Obj.KEYS_SET) 2

/-- The first free session number. -/
def freeSlot (s : State) : Option Nat := allSessions.find? (fun k => decide (rd s (Obj.SESSION_STATE k) = 0))

/-- A nonzero identifier from a random number, not one in use. -/
def pickIdent (s : State) (r : Nat) : Nat :=
  ((List.range 17).map (fun i => (r + i) % (2 ^ 32 - 1) + 1)).find?
    (fun i => s.sessions.all (fun x => decide (x.ident ≠ i))) |>.getD 1

/-- A frame that arrives at a port is counted (R314). -/
def countIn (port : Nat) (s : State) : State := countBy 64 s (Obj.FRAMES_IN port) 1

/-- A frame dropped is counted in the port's `FRAMES_DROPPED` (R282, R284). -/
def countDropped (port : Nat) (s : State) : State := count s (Obj.FRAMES_DROPPED port)

/-- Send a response; an abort code is counted in `ABORTS_SENT` (R296). -/
def respond (net : NetAddr) (ks : List Byte) (r : ObjFrame) (s : State) : State :=
  let s := if r.status = 0 then s else count s Obj.ABORTS_SENT
  sendFrame net (rd s Obj.PCP_OBJECT) ks r s

/-- A frame has the form its service needs (R284): version, no RESPONSE flag, payload length, and the tag or none. -/
def frameForm (f : ObjFrame) (tagLen : Nat) : Bool :=
  decide (f.version = 1) && decide (f.flags % 2 = 0) && decide (f.payload.length ≤ 1024) && decide (f.tag.length = tagLen)

/-- A valid frame of session `k` says where the session is reached (R289). -/
def notePlace (k : Nat) (net : NetAddr) (s : State) : State :=
  wrs s [(Obj.SESSION_PORT k, net.port), (Obj.SESSION_ADDRESS k, net.addr), (Obj.SESSION_UDP k, net.udp)]

/-- SESSION_OPEN (R289, R290): a half-open session with a device nonce, or a refusal. -/
def execSessionOpen (net : NetAddr) (f : ObjFrame) (s : State) : Host.Outcome State Fault Refusal :=
  .next (if hostUp s net.port = false then s
    else
    let s := countIn net.port s
    if addressed s net = false ∨ frameForm f 0 = false ∨ f.payload.length ≠ 20 then countDropped net.port s
    else if addressBlocked s net.addr then s
    else
      let master := leNat (slice f.payload 0 1)
      let role := leNat (slice f.payload 1 1)
      if openAllowed master role net.port = false ∨ (s.rp.fallback = true ∧ master ≠ 0 ∧ master ≠ 3) then
        respond net [] (responseFrame f 0 0 abAccess false []) s
      else match freeSlot s with
        | none => respond net [] (responseFrame f 0 0 abResource false []) s
        | some k =>
          let (nd, s) := drawBytes 16 s
          let (r, s) := drawBytes 4 s
          let ident := pickIdent s (leNat r)
          let s := setSess s k (fun x => { Session.free with ident := ident, nh := slice f.payload 4 16, nd := nd,
                                                             ended := x.ended })
          let s := notePlace k net (wrs s [(Obj.SESSION_STATE k, 1), (Obj.SESSION_MASTER k, master), (Obj.SESSION_ROLE k, role)])
          respond net [] (responseFrame f ident 0 0 false nd) s)

/-- The session of an identifier in a given set of states. -/
def findSession (s : State) (ident : Nat) (states : List Nat) : Option Nat :=
  allSessions.find? (fun k => decide (ident ≠ 0) && decide ((sess s k).ident = ident)
    && states.contains (rd s (Obj.SESSION_STATE k)))

/-- The proof the host must send (R290). -/
def openProof (key : List Byte) (x : Session) (master role : Nat) : List Byte :=
  hmac key (asciiBytes "OPEN" ++ x.nh ++ x.nd ++ leBytes 4 x.ident ++ leBytes 1 master ++ leBytes 1 role)

/-- Older sessions that a new one closes: those of the same master 1 to 3, or an older safety session (R289). -/
def olderSessions (s : State) (k master role : Nat) : List Nat :=
  allSessions.filter (fun j => decide (j ≠ k) && sessOpen s j && decide (sessMaster s j = master)
    && (decide (master ≠ 0) || (decide (role = 3) && decide (sessRole s j = 3))))

/-- Session `k` is established with a key, in state 2 open or 3 installation; the older one of its master closes, and a token
it held passes on (R289, R306). -/
def establish (k : Nat) (ks : List Byte) (st : Nat) (s : State) : State :=
  let master := sessMaster s k
  let olds := olderSessions s k master (sessRole s k)
  let s := olds.foldl (fun t j => endSession j (some scReplaced) t) s
  let s := wr (setSess s k (fun x => { x with ks := ks })) (Obj.SESSION_STATE k) st
  let s := showSessions s
  if olds ≠ [] ∧ master ≠ 0 ∧ master = rd s Obj.TOKEN_HOLDER then passToken master trReplaced s else s

/-- SESSION_AUTH (R290, R294): the right proof opens the session and derives Ks; a wrong one discards it. While the engineer
key is unset, 32 zero bytes open the installation session of master 3 and role engineer. -/
def execSessionAuth (net : NetAddr) (f : ObjFrame) (s : State) : Host.Outcome State Fault Refusal :=
  .next (if hostUp s net.port = false then s
    else
    let s := countIn net.port s
    if addressed s net = false ∨ frameForm f 0 = false ∨ f.payload.length ≠ 32 then countDropped net.port s
    else match findSession s f.session [1] with
      | none => s
      | some k =>
        let x := sess s k
        let master := sessMaster s k
        let role := sessRole s k
        let key := roleKey s role
        let install := installing s && decide (master = 3) && decide (role = 2) && decide (net.port = 2)
          && decide (f.payload = List.replicate 32 0)
        if install then
          respond net [] (responseFrame f x.ident 0 0 false (List.replicate 32 0)) (establish k [] 3 (notePlace k net s))
        else if key ≠ [] ∧ f.payload = openProof key x master role then
          let proof := hmac key (asciiBytes "DEVC" ++ x.nd ++ x.nh ++ leBytes 4 x.ident)
          let ks := hmac key (asciiBytes "SESS" ++ x.nh ++ x.nd ++ leBytes 4 x.ident)
          respond net [] (responseFrame f x.ident 0 0 false proof) (establish k ks 2 (notePlace k net s))
        else
          respond net [] (responseFrame f x.ident 0 abAuth false []) (freeSession k (authFailed net.addr s)))

/-- HALF_OPEN_TIMEOUT (R290): a half-open session not completed within 1 s is discarded. -/
def execHalfOpenTimeout (k : Nat) (s : State) : Host.Outcome State Fault Refusal :=
  .next (whenAlive .lookout (fun s => if rd s (Obj.SESSION_STATE k) = 1 ∧ k < 16 then freeSession k s else s) s)

/-- SESSION_TIMEOUT_EXPIRY (R293): no valid frame for `SESSION_TIMEOUT`; the session ends. -/
def execSessionTimeoutExpiry (k : Nat) (s : State) : Host.Outcome State Fault Refusal :=
  .next (whenAlive .lookout (fun s => if sessOpen s k then endSession k (some scTimeout) s else s) s)

/-- TOKEN_TIMEOUT_EXPIRY (R306): the holder has been silent for `TOKEN_TIMEOUT`. -/
def execTokenTimeoutExpiry (s : State) : Host.Outcome State Fault Refusal := .next (whenAlive .lookout loseToken s)

/-- NOTIFY (R298): a notification goes to each session whose mask enables its type. -/
def execNotify (kind : Nat) (body : List Byte) (s : State) : Host.Outcome State Fault Refusal :=
  .next (whenAlive .lookout (fun s => notifyAll kind (stimeNow s) body s) s)

/-- NOTIFY_RETRY_EXPIRY (R299): the session's unacknowledged notifications are sent again. -/
def execNotifyRetryExpiry (k : Nat) (s : State) : Host.Outcome State Fault Refusal :=
  .next (whenAlive .lookout (fun s =>
    if sessOpen s k then
      ((sess s k).notes.filter (fun n => n.seq ≠ 0)).foldl (fun t n =>
        sendFrame (sessNet t k) (rd t Obj.PCP_NOTIFY) (sess t k).ks (notifyFrame (sess t k).ident n) t) s
    else s) s)

/-- FRAME_DROPPED (R282): an unsupported or malformed frame is dropped and counted. -/
def execFrameDropped (port : Nat) (s : State) : Host.Outcome State Fault Refusal :=
  .next (if hostUp s port then countDropped port (countIn port s) else s)

/-- ARP_ICMP_REQUEST (R282): an ARP request for the port's own address (kind 0) is answered with its MAC address, an ICMP echo
request of up to 64 bytes (kind 1) with its data. Without a gateway the device answers within its subnet only; `target` is the
address asked for, or the sender's. -/
def execArpIcmpRequest (port kind target : Nat) (data : List Byte) (s : State) : Host.Outcome State Fault Refusal :=
  .next (if hostUp s port = false then s
    else
    let s := countIn port s
    let own := rd s (Obj.IP_ADDRESS port)
    if kind = 0 then
      (if target = own then countBy 64 (send (.netReply port 0 (vlanTag s port) (leBytes 6 (rd s (Obj.MAC_ADDRESS port)))) s)
        (Obj.FRAMES_OUT port) 1 else s)
    else if kind = 1 ∧ data.length ≤ 64 then
      (if reachable s port target then countBy 64 (send (.netReply port 1 (vlanTag s port) data) s) (Obj.FRAMES_OUT port) 1 else s)
    else countDropped port s)

/-- A write of `TOKEN_REQUEST` (R306, R315). -/
def writeTokenRequest (k v : Nat) (s : State) : WriteResult :=
  let m := sessMaster s k
  if m ≠ 1 ∧ m ≠ 2 then refuse s abAccess
  else if v = m then
    let h := rd s Obj.TOKEN_HOLDER
    if h = 0 then accept (passToken m trRequest s)
    else if h = m then accept s
    else refuse (notifyMaster h 0x05 (leBytes 1 m ++ leBytes 3 0) s) abToken
  else if v = m + 0x80 then
    if sessRole s k ≠ 2 then refuse s abAccess
    else accept (emit .commandTokenForced noInst (leBytes 1 m)
      (if rd s Obj.TOKEN_HOLDER = m then s else passToken m trForced s))
  else if v = 3 - m ∨ v = 3 - m + 0x80 then refuse s abAccess
  else refuse s abRange

/-- A write of `TOKEN_RELEASE` (R306, R315): from the holder only. -/
def writeTokenRelease (k : Nat) (s : State) : WriteResult :=
  let m := sessMaster s k
  if m ≠ 0 ∧ m ≤ 2 ∧ m = rd s Obj.TOKEN_HOLDER then accept (passToken 0 trRelease s) else refuse s abAccess

/-- A role key takes its new value (R294): carried in the clear in the installation session, else XORed with
HMAC(Ks, "KEYS" ‖ SEQ). Once the engineer key is set, an open installation session closes. -/
def writeRoleKey (k seq which : Nat) (v : List Byte) (s : State) : WriteResult :=
  let x := sess s k
  let key := if x.ks = [] then v
             else List.zipWith (· ^^^ ·) v (hmac x.ks (asciiBytes "KEYS" ++ leBytes 4 seq))
  let s := wrBlob s (Obj.ROLE_KEY which) key
  accept (wr s Obj.KEYS_SET (setBit (rd s Obj.KEYS_SET) which))

/-- Close an installation session once the engineer key is set (R294). -/
def closeInstallation (s : State) : State :=
  if installing s then s
  else allSessions.foldl (fun t k =>
    if rd t (Obj.SESSION_STATE k) = 3 then endSession k (some scKeys) t else t) s

end Sys2Proof.Machine
end

