-- ==== Sys2Proof/Machine/Trace.lean ====
section
/-! DEFINITION. The trace (R157, R158): what its channels record, arming, triggering, and `TRACE_DATA`. -/

namespace Sys2Proof.Machine

/-- Trace states of R159. -/
abbrev trIdle : Nat := 0
/-- arming -/
abbrev trArming : Nat := 1
/-- armed -/
abbrev trArmed : Nat := 2
/-- filling -/
abbrev trFilling : Nat := 3
/-- done -/
abbrev trDone : Nat := 4

/-- Kind of a channel's source. -/
def traceKind (s : State) (ch : Nat) : Nat := bits (rd s (Obj.TRACE_SOURCE ch)) 31 24

/-- Enabled channels, ascending. -/
def traceChannels (s : State) : List Nat := (List.range 64).filter (fun ch => traceKind s ch ≠ 0)

/-- Samples per channel. -/
def traceDepth (s : State) : Nat := 2097152 / (traceChannels s).length

/-- `TRACE_DEPTH` follows the settings. -/
def showTrace (s : State) : State := wr s Obj.TRACE_DEPTH (traceDepth s)

/-- Samples a channel holds before the trigger. -/
def tracePre (s : State) : Nat := traceDepth s * rd s Obj.TRACE_PRETRIGGER / 100

/-- Loop variable `i` of leg `g` (R157). -/
def loopVariable (s : State) (g i : Nat) : Rat :=
  let c := g / 3
  let x := conv s c
  let y := legOf s g
  match i with
  | 0 => x.set.ip
  | 1 => x.set.iq
  | 2 => x.refs.ip
  | 3 => x.refs.iq
  | 4 => y.ic
  | 5 => y.icRef
  | 6 => y.ep
  | 7 => y.eq
  | 8 => y.uc
  | 9 => y.wSum
  | 10 => y.wDiff
  | 11 => y.rSum
  | 12 => y.rDiff
  | 13 => (cellOf s c : Rat)
  | _ => 0

/-- Component `i` of the demand of arm `a`, pu. -/
def demandComponent (s : State) (a i : Nat) : Rat :=
  let d := (getD' s.shepherds a Shepherd.idle).written
  (((match i with | 0 => d.vdc | 1 => d.vp | 2 => d.vq | _ => d.vcirc) : Int) : Rat) / ((2 ^ 24 : Nat) : Rat)

/-- Value of channel `ch` for tide `n`, raw binary32. -/
def traceValue (s : State) (n ch : Nat) : Nat :=
  let src := rd s (Obj.TRACE_SOURCE ch)
  let unit := bits src 23 16
  let i := bits src 15 0
  match traceKind s ch with
  | 1 => inputChannel s n i
  | 2 => getD' (userOf s unit).out i 0
  | 3 => f32OfRat (loopVariable s unit i)
  | _ => f32OfRat (demandComponent s unit i)

/-- Samples of a channel after the trigger tide. -/
def tracePost (s : State) (ch : Nat) : Nat :=
  ((getD' s.trace.chans ch []).filter (fun p => decide (rd s Obj.TRACE_TRIGGER_TIDE < p.1))).length

/-- Channel `ch` is filled. -/
def traceFull (s : State) (ch : Nat) : Bool := decide (traceDepth s - tracePre s ≤ tracePost s ch)

/-- Channel `ch` takes its sample of tide `n`: while arming and armed the newest of the depth, while filling the rest of it. -/
def traceTake (n : Nat) (s : State) (ch : Nat) : State :=
  if n % max 1 (rd s (Obj.TRACE_DECIMATION ch)) ≠ 0 then s
  else if rd s Obj.TRACE_STATE = trFilling ∧ traceFull s ch = true then s
  else
    let v := traceValue s n ch
    { s with trace := { s.trace with chans := s.trace.chans.modify ch (fun xs => ((n, v) :: xs).take (traceDepth s)) } }

/-- The channels for which `p` holds take their samples of tide `n`. -/
def traceTide (p : Nat → Bool) (n : Nat) (s : State) : State :=
  let st := rd s Obj.TRACE_STATE
  if st = trArming ∨ st = trArmed ∨ st = trFilling then
    let s := ((traceChannels s).filter p).foldl (traceTake n) s
    if rd s Obj.TRACE_STATE = trFilling ∧ (traceChannels s).all (traceFull s) = true then wr s Obj.TRACE_STATE trDone else s
  else s

/-- At the return deadline of tide `n` the input channels are recorded (R155). -/
def traceInputs (n : Nat) (s : State) : State := traceTide (fun ch => traceKind s ch = 1) n s

/-- At its demand mark the other channels are. -/
def traceLoops (n : Nat) (s : State) : State := traceTide (fun ch => traceKind s ch ≠ 1) n s

/-- The trigger (R158): the tide is recorded and the rest of the depth fills. -/
def traceFire (s : State) : State := wrs s [(Obj.TRACE_TRIGGER_TIDE, tideNow s), (Obj.TRACE_STATE, trFilling)]

/-- The last two values of the trigger channel: newest first. -/
def traceLastTwo (s : State) : Option (Rat × Rat) :=
  match getD' s.trace.chans (rd s Obj.TRACE_TRIGGER_CHANNEL) [] with
  | a :: b :: _ => some (f32ToRat a.2, f32ToRat b.2)
  | _ => none

/-- The condition of `TRACE_TRIGGER_KIND`, `code` being the event code of kind 3. -/
def traceCondition (s : State) (code : Nat) : Bool :=
  let level := rdF s Obj.TRACE_TRIGGER_LEVEL
  match rd s Obj.TRACE_TRIGGER_KIND with
  | 1 => (match traceLastTwo s with | some (a, b) => decide (b < level) && decide (level ≤ a) | none => false)
  | 2 => (match traceLastTwo s with | some (a, b) => decide (level < b) && decide (a ≤ level) | none => false)
  | 3 => decide (level = (code : Rat))
  | 4 => decide (level = (station s : Rat))
  | _ => false

/-- TRACE_TRIGGER (R158). -/
def execTraceTrigger (code : Nat) (s : State) : Host.Outcome State Fault Refusal :=
  .next (whenAlive .fabric (fun s => if rd s Obj.TRACE_STATE = trArmed ∧ traceCondition s code = true then traceFire s else s) s)

/-- TRACE_ARMED (R158): every channel holds its pretrigger share. -/
def execTraceArmed (s : State) : Host.Outcome State Fault Refusal :=
  .next (whenAlive .fabric (fun s =>
    if rd s Obj.TRACE_STATE = trArming
        ∧ (traceChannels s).all (fun ch => decide (tracePre s ≤ (getD' s.trace.chans ch []).length)) = true then
      wr s Obj.TRACE_STATE trArmed
    else s) s)

/-- A write of `TRACE_CONTROL` (R158): 1 arms from IDLE or DONE, 2 triggers an armed manual trace, 0 stops. -/
def writeTraceControl (v : Nat) (s : State) : WriteResult :=
  let st := rd s Obj.TRACE_STATE
  if 2 < v then refuse s abRange
  else
    let s := wr s Obj.TRACE_CONTROL v
    if v = 0 then accept (wr s Obj.TRACE_STATE trIdle)
    else if v = 1 then
      (if st = trIdle ∨ st = trDone then accept (wr { s with trace := TraceUnit.empty } Obj.TRACE_STATE trArming) else accept s)
    else if st = trArmed ∧ rd s Obj.TRACE_TRIGGER_KIND = 0 then accept (traceFire s)
    else accept s

/-- Settings of the trace can be written only in IDLE and DONE (R157). -/
def traceWritable (s : State) : Bool := rd s Obj.TRACE_STATE = trIdle || rd s Obj.TRACE_STATE = trDone

/-- Bytes of one channel's block. -/
def traceBlock (s : State) (ch : Nat) : List Byte :=
  let xs := (getD' s.trace.chans ch []).reverse
  let first := match xs with | p :: _ => p.1 | [] => 0
  leBytes 1 ch ++ leBytes 1 0 ++ leBytes 2 (rd s (Obj.TRACE_DECIMATION ch)) ++ leBytes 4 (first % 2 ^ 32)
    ++ xs.flatMap (fun p => leBytes 4 (if s.trace.bad.contains (ch, p.1) then 0x7FC00000 else p.2))

/-- `TRACE_DATA` (R158). -/
def traceBytes (s : State) : List Byte :=
  let chs := traceChannels s
  let olds := chs.filterMap (fun ch => ((getD' s.trace.chans ch []).getLast?).map (·.1))
  let oldest := match olds with | x :: rest => rest.foldl min x | [] => 0
  let bad := (s.trace.bad.filter (fun b => chs.contains b.1 && (getD' s.trace.chans b.1 []).any (fun p => p.1 = b.2))).length
  leBytes 8 (rd s Obj.TRACE_TRIGGER_TIDE) ++ leBytes 8 oldest ++ leBytes 4 (traceDepth s) ++ leBytes 1 chs.length ++ leBytes 3 0
    ++ leBytes 4 bad ++ leBytes 4 0 ++ chs.flatMap (traceBlock s)

end Sys2Proof.Machine
end

