-- ==== Sys2Proof/Machine/Integrity.lean ====
section
/-! DEFINITION. Integrity of the memories: corrected and uncorrectable errors with the reaction of each region (R77 to R79), the
scrubber (R78), and what the bank arbiter counts and shows (R82, R84). -/

namespace Sys2Proof.Machine

/-! ### Poisoned words (R79) -/

/-- What a poisoned word holds has not been written afresh: its slot is still poisoned, its message or record still stands, its draft is
still damaged, its trace sample still marked. The words of the other memories are healed by what writes them. -/
def Poison.stands (s : State) (w : Poison) : Bool :=
  match w.region with
  | 1 => decide (w.kind ≠ 0) || s.slotPoison.contains (slotKey w.detail w.inst)
  | 5 => (queueOf s w.inst).msgs.any (fun m => m.seq = w.detail)
  | 7 => s.log.ring.any (fun r => r.seq = w.detail)
  | 8 => decide (w.kind ≠ 0) || s.cfg.draftDamaged
  | 13 => s.trace.bad.contains (w.inst, w.detail)
  | _ => true

/-- Word of a memory, by region and byte address. -/
def wordKey (region addr : Nat) : Nat := memKey region (addr / 8 * 8)

/-- The word at an address is poisoned. -/
def poisoned (s : State) (region addr : Nat) : Bool := s.poison.any (fun p => decide (p.key = wordKey region addr) && p.stands s)

/-- `POISONED_WORDS`: words of the shared store now poisoned. -/
def poisonedWords (s : State) : Nat := (s.poison.filter (fun p => decide (p.region < 9) && p.stands s)).length

/-- Words written afresh leave the list. -/
def sweepPoison (s : State) : State := { s with poison := s.poison.filter (fun p => p.stands s) }

/-- The word of an error is poisoned. -/
def poisonWord (e : MemError) (s : State) : State :=
  let s := sweepPoison s
  if poisoned s e.region e.addr then s
  else { s with poison := { key := wordKey e.region e.addr, region := e.region, kind := e.kind, inst := e.inst, detail := e.detail }
                            :: s.poison }

/-! ### Reports -/

/-- A memory with byte parity (R73). -/
def parityRegion (region : Nat) : Bool := region = 13 || region = 18

/-- An uncorrectable error is counted, and its address and region recorded (R79). -/
def reportError (region addr : Nat) (s : State) : State :=
  wrs (count s (if parityRegion region then Obj.PARITY_ERRORS else Obj.ECC_UNCORRECTED))
    [(Obj.LAST_ERROR_ADDRESS, addr % 2 ^ 32), (Obj.LAST_ERROR_REGION, region)]

/-- A corrected error (R78): counted, and its word written back. -/
def correctedError (s : State) : State := pmcEvent 0x12 0xFFFF 1 (countBy 64 s Obj.ECC_CORRECTED 1)

/-! ### Reactions -/

/-- A missed reference of an arm (R25): its converter keeps the reference set of the tide before, and the pair that holds the
converter's GRID item is counted. -/
def missedReference (a : Nat) (s : State) : State :=
  let c := a / 6
  let old := ((s.cl.latched.head?).map (fun x => getD' x.refs c RefSet.zero)).getD RefSet.zero
  let p := getD' s.cl.items c 0xFF
  let s := count (setConv c (fun x => { x with refs := old }) s) Obj.REFERENCE_MISSES
  if p < 4 then countFault 0 srcPair p 1 s else s

/-- Region 1 (R79): a command slot, a reference set, a demand, a sensor sample. -/
def tideAreaError (e : MemError) (s : State) : State :=
  match e.kind with
  | 0 => { s with slotPoison := slotKey e.detail e.inst :: s.slotPoison.filter (fun k => k ≠ slotKey e.detail e.inst) }
  | 1 => if e.inst < 12 then missedReference e.inst s else s
  | 2 => setShepherd e.inst (fun x => { x with lost := true }) s
  | _ => if e.inst < 64 then { s with samples := Tbl.set (fun _ => none) s.samples (e.detail % 64 * 64 + e.inst) none } else s

/-- Region 3 (R79): the record under assembly, or an accepted one, is discarded and a gap marked. -/
def slowError (e : MemError) (s : State) : State :=
  setLeaf e.inst (fun x =>
    if e.addr < 16384 * 64 then { x with slowOk := false, slowGap := true }
    else { x with slow := x.slow.filter (fun p => p.1 ≠ e.detail), slowGap := true }) s

/-- Region 4 (R79): the fold of the queue is halted, its leaf-bound messages are returned, and it restarts under a new epoch; a
readmission goes on from step 3 (R276). -/
def controlError (id : Nat) (s : State) : State :=
  readmitOpened (queueLeaf id) (openEpoch (queueLeaf id) none (setQueue id (fun q => { q with poisoned := true }) s))

/-- Region 5 (R79): a leaf-bound message and every later one of its queue are returned; a host-bound message stays with LOST. -/
def poolError (id seq : Nat) (down : Bool) (s : State) : State :=
  let s := setQueue id (fun q => { q with poisoned := true }) s
  if down then returnWhere id (fun m => m.seq = seq || aheadOf 16 m.seq seq) s
  else setQueue id (fun q => { q with msgs := q.msgs.map (fun m => if m.seq = seq then { m with lost := true } else m) }) s

/-- Region 6 (R79): the record is dropped and counted. -/
def subError (k counter : Nat) (s : State) : State :=
  if (subOf s k).ring.any (fun p => p.1 = counter) then
    dropSub k (setSub k (fun x => { x with ring := x.ring.filter (fun p => p.1 ≠ counter) }) s)
  else s

/-- Region 7 (R491): the record reads as lost and is counted. -/
def logError (seq : Nat) (s : State) : State :=
  if s.log.ring.any (fun r => r.seq = seq && !r.lost) then
    count { s with log := { s.log with ring := s.log.ring.map (fun r => if r.seq = seq then { r with lost := true } else r) } }
      Obj.LOG_LOST
  else s

/-- Region 14 (R79, R129): a missed demand of the arm; every level_prev is blocked and the residual cleared. -/
def shepherdError (a : Nat) (s : State) : State :=
  let s := (armLeaves s a).foldl (fun t L => setLeaf L (fun x => { x with levelPrev := lvBlocked }) t) s
  setShepherd a (fun x => { x with lost := true, residual := 0 }) s

/-- Region 17 (R388). One copy of an accumulator is rewritten from the other. -/
def meteringError (e : MemError) (s : State) : State :=
  match e.kind with
  | 0 => restartChain s
  | 1 => s
  | 2 => if e.inst < 16 then loseAccumulator (e.inst / 8) (e.inst % 8) s else s
  | _ => loseSnapshot e.inst s

/-- The reaction of an error's region (R79). -/
def regionReaction (e : MemError) (s : State) : State :=
  match e.region with
  | 1 => tideAreaError e s
  | 2 => setTideBits e.detail e.inst (setBit (setBit (tideBits s e.detail e.inst) trMissing) trPoisoned) s
  | 3 => slowError e s
  | 4 => controlError e.inst s
  | 5 => poolError e.inst e.detail (e.kind = 0) s
  | 6 => subError e.inst e.detail s
  | 7 => logError e.detail s
  | 8 => if e.kind = 0 then wr { s with cfg := { s.cfg with draftDamaged := true } } Obj.VALIDATE_STATUS 0xFE
         else resetFrom rcMemory 1 s
  | 9 | 10 | 16 => resetFrom rcMemory 1 s
  | 11 => failPair e.inst s
  | 12 => failEngine e.inst s
  | 13 => { s with trace := { s.trace with bad := (e.inst, e.detail) :: s.trace.bad } }
  | 14 => shepherdError e.inst s
  | 15 => solarUpset e.inst s
  | 17 => meteringError e s
  | 18 => if e.inst < 3 then countDropped e.inst s else s
  | 19 => channelFault 0x01 false s
  | _ => s

/-- Reset domain whose unit reads a region. -/
def regionDomain (region : Nat) : Domain :=
  if region = 19 then .safety else if region = 10 ∨ region = 18 then .lookout
  else if region = 9 then .link else if 11 ≤ region ∧ region ≤ 13 ∨ region = 17 then .processing else .fabric

/-- Regions whose reaction writes the word afresh: the queue's descriptor, the leaf's tracking, the metering state, the frame buffer
(DEDUCED, log entry 65). -/
def rewritten (region : Nat) : Bool := [4, 15, 17, 18].contains region

/-- An uncorrectable error: the word is poisoned, the error counted, and its region reacts. A later read, or a write of fewer than 8
bytes, of a poisoned word only reports again (R79). -/
def uncorrectable (e : MemError) (s : State) : State :=
  if e.region = 0 ∨ 19 < e.region then s
  else if e.again then (if poisoned s e.region e.addr then reportError e.region e.addr s else s)
  else
    let s := regionReaction e (poisonWord e (reportError e.region e.addr s))
    if rewritten e.region then heal (fun w => w.key = wordKey e.region e.addr) s else s

/-- ECC_CORRECTED_ERROR (R78). -/
def execEccCorrectedError (region _addr : Nat) (s : State) : Host.Outcome State Fault Refusal :=
  .next (whenAlive (regionDomain region) (fun s =>
    if region = 0 ∨ 19 < region ∨ parityRegion region = true then s else correctedError s) s)

/-- UNCORRECTABLE_ERROR (R79). -/
def execUncorrectableError (e : MemError) (s : State) : Host.Outcome State Fault Refusal :=
  .next (whenAlive (regionDomain e.region) (uncorrectable e) s)

/-- SCRUB_LINE (R78): the scrubber reads a line of the shared store, in which it finds nothing (0), a corrected error (1) or an
uncorrectable one (2), treated as a read would; the last line of a pass completes it. -/
def execScrubLine (region addr found : Nat) (spot : MemError) (last : Bool) (s : State) : Host.Outcome State Fault Refusal :=
  .next (whenAlive .fabric (fun s =>
    if region = 0 ∨ 8 < region then s
    else
      let s := if found = 1 then correctedError s
        else if found = 2 then uncorrectable { spot with region := region, addr := addr } s else s
      if last && alive s .fabric then count s Obj.SCRUB_PASSES else s) s)

/-- SCRUB_PERIOD_END (R78): a pass has not finished within `SCRUB_PERIOD`. -/
def execScrubPeriodEnd (s : State) : Host.Outcome State Fault Refusal :=
  .next (whenAlive .fabric (fun s => count s Obj.SCRUB_OVERRUNS) s)

/-! ### Bank arbiter -/

/-- ARB_PROMOTION (R82): a request of a bank has waited `ARB_AGE_LIMIT`. -/
def execArbPromotion (bank : Nat) (s : State) : Host.Outcome State Fault Refusal :=
  .next (whenAlive .fabric (fun s =>
    if bank < 64 then pmcEvent 0x06 bank 1 (countBy 64 s Obj.ARB_PROMOTIONS 1) else s) s)

/-- Reset domain of a requester of R80. -/
def requesterDomain (r : Nat) : Domain :=
  if r < 16 then .link
  else if r < 28 then .fabric
  else if r = 40 ∨ r = 41 ∨ r = 42 ∨ r = 46 ∨ r = 47 then .fabric
  else if r = 43 ∨ r = 44 then .lookout
  else .processing

/-! ### Units that doze (R31, R470) -/

/-- ns after the present tide start. -/
def intoTide (s : State) : Nat := (s.time.acc - tideStartAt s (tideNow s)) / nsUnit

/-- ns until the next demand mark. -/
def toDemandMark (s : State) : Nat :=
  let m := periodNs s - 2000
  if intoTide s ≤ m then m - intoTide s else m + periodNs s - intoTide s

/-- The shepherds take part in every tide of the station state (R32). -/
def shepherdsWork (s : State) : Bool := stReady ≤ station s && station s ≤ stBlocked

/-- A unit of `UNIT_DOZE` has no work, and its next stage mark or known request lies at least 20 µs ahead (R32, R470): pairs and loop
engines in the states that leave them idle, a shepherd between its ranking and a demand mark 20 µs off, a lookout core with nothing under
way, the metering DSP while no meter runs. Pairs, engines and the DSP that work do so in all of the tide (R23). -/
def mayDoze (s : State) (unit : Nat) : Bool :=
  let st := station s
  if unit < 4 then [stBoot, stHeld, stBlocked, stSafe].contains st
  else if unit < 12 then [stBoot, stReady, stSafe].contains st
  else if unit < 24 then !shepherdsWork s || (decide (20000 ≤ toDemandMark s) && decide (toDemandMark s + 1500 ≤ periodNs s))
  else if unit < 26 then !deviceBusy s
  else decide (unit = 26) && !metering s 0 && !metering s 1

/-- The units that doze now: a shepherd that works is awake from 2 µs before its mark on (R31). -/
def dozing (s : State) : Nat :=
  let v := rd s Obj.UNIT_DOZE
  if shepherdsWork s && decide (toDemandMark s < 2000) then putBits v 12 12 0 else v

/-- UNIT_DOZE (R470): a unit that may doze does, or it wakes. -/
def execUnitDoze (unit : Nat) (doze : Bool) (s : State) : Host.Outcome State Fault Refusal :=
  .next (whenAlive .processing (fun s =>
    if 27 ≤ unit ∨ (doze = true ∧ mayDoze s unit = false) then s
    else showPower (wr s Obj.UNIT_DOZE (putBit (dozing s) unit doze))) s)

/-- At a tide start the units that the station state gives work are awake (R31, R470). -/
def wakeUnits (s : State) : State :=
  let v := rd s Obj.UNIT_DOZE
  let v := (List.range 27).foldl (fun m u => if (u < 12 || 24 ≤ u) && !mayDoze s u then putBit m u false else m) v
  showPower (wr s Obj.UNIT_DOZE v)

/-- At a demand mark the shepherds that rank are awake. -/
def wakeShepherds (s : State) : State :=
  if shepherdsWork s then showPower (wr s Obj.UNIT_DOZE (putBits (rd s Obj.UNIT_DOZE) 12 12 0)) else s

/-! ### Masks (R84) -/

/-- Bit of `UNIT_DOZE` of a requester's unit, if it has one. -/
def requesterUnit (r : Nat) : Option Nat :=
  if r < 16 then none
  else if r < 28 then some (12 + (r - 16))
  else if r < 36 then some (4 + (r - 28))
  else if r < 40 then some (r - 36)
  else if r = 43 ∨ r = 44 then some (24 + (r - 43))
  else if r = 45 then some 26 else none

/-- The unit of a requester is in a reset of its own: a pair or an engine that has failed, or that restarts (R143, R144, R193). -/
def unitInReset (s : State) (r : Nat) : Bool :=
  if 28 ≤ r ∧ r < 36 then !engineLive s (r - 28)
  else if 36 ≤ r ∧ r < 40 then !pairLive s (r - 36)
  else false

/-- A requester is in reset or powered down. In DORMANT every one is (R471). -/
def requesterMasked (s : State) (r : Nat) : Bool :=
  !alive s (requesterDomain r) || decide (rd s Obj.POWER_STATE = 3) || unitInReset s r
    || (match requesterUnit r with | some u => bit (dozing s) u | none => false)

/-- `ARB_MASKED` (R84): requesters in reset or powered down. -/
def maskedRequesters (s : State) : Nat := sumNat ((List.range 48).map (fun r => if requesterMasked s r then 2 ^ r else 0))

end Sys2Proof.Machine
end

