-- ==== Sys2Proof/Machine/Validation.lean ====
section
/-! DEFINITION. Validation of an image (R324): its groups of checks in order, and the first failure found. Checks that need the
device's measurements read the state; every setting is read from the image that is judged. -/

namespace Sys2Proof.Machine

/-- A failed check: the object it names, and `VALIDATE_DETAIL`. -/
structure Failure where
  /-- key of the object -/
  key : Nat
  /-- drove, arm, leaf, program, converter or stream concerned -/
  detail : Nat
  deriving DecidableEq, Repr

/-- No detail. -/
abbrev noDetail : Nat := 0xFFFFFFFF

/-- A failure at `key` when `bad` holds. -/
def failIf (bad : Bool) (key detail : Nat) : List Failure := if bad then [{ key := key, detail := detail }] else []

/-- The failure a group reports: the least index, then sub-index (R324). -/
def leastFailure : List Failure → Option Failure
  | [] => none
  | f :: fs =>
    match leastFailure fs with
    | none => some f
    | some g => if g.key < f.key then some g else some f

/-! ### What the image sets -/

/-- A BOOL object of an image. -/
def Image.on (im : Image) (key : Nat) : Bool := decide (im.get key ≠ 0)

/-- An F32 object of an image. -/
def Image.f32 (im : Image) (key : Nat) : Rat := f32ToRat (im.get key)

/-- A PU24 object of an image. -/
def Image.pu (im : Image) (key : Nat) : Rat := pu24ToRat (im.get key)

/-- Tide period of an image, ns. -/
def Image.period (im : Image) : Nat := im.get Obj.TIDE_PERIOD * 100

/-- Droves an image enables on the code. -/
def Image.droves (im : Image) (code : Nat) : List Nat := (List.range (codeDroves code)).filter (fun d => im.on (Obj.DROVE_ENABLE d))

/-- Droves of arm `a`. -/
def Image.armDroves (im : Image) (code a : Nat) : List Nat := (im.droves code).filter (fun d => decide (im.get (Obj.DROVE_ARM d) = a))

/-- Arm `a` holds droves. -/
def Image.armOn (im : Image) (code a : Nat) : Bool := !(im.armDroves code a).isEmpty

/-- Converter `c` has arms that hold droves (R14). -/
def Image.convOn (im : Image) (code c : Nat) : Bool := (List.range 6).any (fun i => im.armOn code (6 * c + i))

/-- Converters whose objects validation looks at: in a one-converter station those of converter 1 are ignored (R160). -/
def Image.convs (im : Image) (code : Nat) : List Nat := if im.convOn code 1 then [0, 1] else [0]

/-! ### Group 0x01: form and single objects -/

/-- A numeric or byte value of an image fails its object's type, length or range (R6, R7). -/
def valueBad (im : Image) (code key : Nat) : Bool :=
  match presentRow code (keyIndex key) (keySub key) with
  | none => true
  | some r =>
    if !r.persist then true
    else match r.ty with
      | .str => decide (64 < (im.getBlob key).length) || !utf8Ok (im.getBlob key).length (im.getBlob key)
      | .domain =>
        let n := (im.getBlob key).length
        if keyIndex key / 4 = 0x1200 / 4 then decide (n % 4 ≠ 0) || decide (2048 < n)
        else if keySub key = 3 then decide (n ≠ 256)
        else false
      | _ => !valueOk r key (im.get key)

/-- Channel `c` of an image is an enabled one of a kind: 0 voltage, 1 current. -/
def chanIs (im : Image) (c kind : Nat) : Bool :=
  decide (c < 40) && im.on (Obj.CH_ENABLE c) && decide (im.get (Obj.CH_KIND c) = kind)

/-- Metering elements and voltage bases (R377). On-package channels on a code without them fall in group 0x02. DEDUCED: the voltage base
is asked of a converter that has droves, since R341's table has the factory draft pass group 0x01 (see log entry 20). -/
def meterFailures (im : Image) (code : Nat) : List Failure :=
  let absent (c : Nat) : Bool := decide (code ≠ 0) && decide (32 ≤ c) && decide (c < 40)
  let element (e : Nat) : List Failure :=
    let part (key kind : Nat) : List Failure :=
      let c := im.get key
      if absent c then []
      else failIf (if c = 0xFF then im.on (Obj.METER_ENABLE (e / 3)) else !chanIs im c kind) key noDetail
    part (Obj.EL_V_CHANNEL e) 0 ++ part (Obj.EL_I_CHANNEL e) 1
  let base (c : Nat) : List Failure :=
    let b := im.get (Obj.METER_VOLTAGE_BASE c)
    let one (src : Nat) : List Failure :=
      if (src = 0 ∧ code ≠ 0) ∨ 1 < src then []
      else
        let lo := if src = 0 then 32 else 0
        let hi := if src = 0 then 40 else 32
        failIf (decide (b < lo) || decide (hi < b + 3) || (List.range 3).any (fun i => !chanIs im (b + i) 0))
          (Obj.METER_VOLTAGE_BASE c) c
    one (im.get (Obj.VOLTAGE_SOURCE c)) ++ one (im.get (Obj.VOLTAGE_SOURCE_ALT c))
  (List.range 6).flatMap element ++ ((im.convs code).filter (im.convOn code)).flatMap base

/-- The drove, arm, leaf, program, converter or stream an object belongs to (R324). -/
def concerned (key : Nat) : Nat :=
  let ix := keyIndex key
  let sub := keySub key
  if 0x1140 ≤ ix ∧ ix ≤ 0x1147 then ix - 0x1140
  else if 0x3020 ≤ ix ∧ ix ≤ 0x302B then 0
  else if 0x3060 ≤ ix ∧ ix ≤ 0x306B then 1
  else if ix = 0x3104 ∧ 1 ≤ sub ∧ sub ≤ 4 then (sub - 1) % 2
  else if ix = 0x2816 ∧ 1 ≤ sub ∧ sub ≤ 12 then sub - 1
  else if ix = 0x2816 ∧ (sub = 13 ∨ sub = 14) then sub - 13
  else if 0x3140 ≤ ix ∧ ix ≤ 0x3147 then ix - 0x3140
  else if 0x3400 ≤ ix ∧ ix ≤ 0x347F then ix - 0x3400
  else if 0x3500 ≤ ix ∧ ix ≤ 0x350B then ix - 0x3500
  else if 0x4000 ≤ ix ∧ ix ≤ 0x7FFF then ix - 0x4000
  else noDetail

/-- Objects of converter 1 are ignored in a one-converter station (R160). -/
def ignored (im : Image) (code key : Nat) : Bool :=
  decide (0x3060 ≤ keyIndex key) && decide (keyIndex key ≤ 0x306B) && !im.convOn code 1

/-- Image form and object values: R321, R7, and the checks on single objects of R377 and R450. -/
def formFailures (im : Image) (code : Nat) : List Failure :=
  im.extra.flatMap (fun r => failIf true r.1 (concerned r.1))
    ++ im.vals.flatMap (fun p => failIf (valueBad im code p.1 && !ignored im code p.1) p.1 (concerned p.1))
    ++ im.blobs.flatMap (fun p => failIf (valueBad im code p.1) p.1 (concerned p.1))
    ++ (List.range 24).flatMap (fun c =>
      failIf (decide (bits (im.get (Obj.CMP_ROUTE c)) 1 0 ≠ 0) && !im.on (Obj.CMP_ENABLE c)) (Obj.CMP_ROUTE c) noDetail)
    ++ meterFailures im code

/-! ### Groups 0x02 to 0x04 -/

/-- Silicon (R4): solar kinds and on-package inputs on a code without them; every image while OPTION_FAULT is set (R469). -/
def siliconFailures (s : State) (im : Image) (code : Nat) : List Failure :=
  let pack (key : Nat) (detail : Nat) (bad : Nat → Bool) : List Failure := failIf (decide (code ≠ 0) && bad (im.get key)) key detail
  failIf (decide (rd s Obj.OPTION_STATUS = 2)) Obj.OPTION_STATUS noDetail
    ++ (im.vals.filter (fun p => decide (0x4000 ≤ keyIndex p.1) && decide (keySub p.1 = Obj.LEAF_KIND_CFG 0 % 256))).flatMap (fun p =>
      failIf (decide (code ≠ 0) && decide (p.2 = 4)) p.1 (keyIndex p.1 - 0x4000))
    ++ (im.convs code).flatMap (fun c =>
      pack (Obj.VOLTAGE_SOURCE c) c (fun v => v = 0) ++ pack (Obj.VOLTAGE_SOURCE_ALT c) c (fun v => v = 0))
    ++ (List.range 6).flatMap (fun e =>
      pack (Obj.EL_V_CHANNEL e) noDetail (fun v => decide (32 ≤ v) && decide (v < 40))
        ++ pack (Obj.EL_I_CHANNEL e) noDetail (fun v => decide (32 ≤ v) && decide (v < 40)))

/-- Topology (R14): at least one drove, every enabled drove in an arm, at most 16 droves in an arm. A disabled drove
belongs to no arm, whatever its `DROVE_ARM` says (DESIGN CHOICE, log entry 61). -/
def topologyFailures (im : Image) (code : Nat) : List Failure :=
  failIf (im.droves code).isEmpty (Obj.DROVE_ENABLE 0) noDetail
    ++ (im.droves code).flatMap (fun d => failIf (decide (11 < im.get (Obj.DROVE_ARM d))) (Obj.DROVE_ARM d) d)
    ++ (List.range 12).flatMap (fun a =>
      ((im.armDroves code a).drop 16).flatMap (fun d => failIf true (Obj.DROVE_ARM d) a))

/-- Plant and bases (R135): none is zero, negative or not finite. The objects of 0x3101 that the bases come from, and the plant
figures of 0x3102. -/
def plantFailures (im : Image) : List Failure :=
  ([Obj.RATED_POWER, Obj.RATED_AC_VOLTAGE, Obj.RATED_DC_VOLTAGE, Obj.RATED_FREQUENCY, Obj.TRANSFORMER_RATIO,
      Obj.ARM_INDUCTANCE, Obj.ARM_RESISTANCE, Obj.TRANSFORMER_L] ++ (List.range 5).map Obj.KIND_CAPACITANCE).flatMap (fun k =>
    failIf (!f32Finite (im.get k) || decide (im.f32 k ≤ 0)) k noDetail)

/-! ### Groups 0x05 to 0x07 -/

/-- A drove of an image has `BRIDGE_ENABLE` set. -/
def bridgeOn (im : Image) (d : Nat) : Bool := im.on (Obj.BRIDGE_ENABLE d)

/-- A drove of an image and its partner are an enabled bridge pair (R67). -/
def bridgePair (im : Image) (d : Nat) : Bool := bridgeOn im d && im.on (Obj.DROVE_ENABLE (partner d)) && bridgeOn im (partner d)

/-- The objects of a drove's check, in ascending sub-index (R58). -/
def checkKeys (d : Nat) : List Nat := [Obj.CHECK_WIDTH d, Obj.CHECK_POLY d, Obj.CHECK_INIT d, Obj.CHECK_INVERT d, Obj.CHECK_REFLECT d]

/-- Measurement (R27, R63, R66). -/
def measureFailures (s : State) (im : Image) (code : Nat) : List Failure :=
  (im.droves code).flatMap (fun d =>
    failIf (decide (rd s (Obj.ROUND_TRIP d) = 0) || decide (rd s (Obj.RT_MEASURE d) = 3)) (Obj.ROUND_TRIP d) d
      ++ failIf (bridgePair im d && decide (rd s (Obj.BRIDGE_LOOP d) = 0xFFFF)) (Obj.BRIDGE_LOOP d) d)

/-- Tide timing (R27, R28, R64, R67, R120, R440), and with R67 the bridge pairs whose checks differ (R58). Measured times are in 0.1 ns.
R58 puts its check into this group; which object it names is DEDUCED, log entry 59. -/
def timingFailures (s : State) (im : Image) (code : Nat) : List Failure :=
  let ds := im.droves code
  let p := im.period
  let mark := im.get Obj.APPLY_MARK
  let rt := maxNat (ds.map (fun d => rd s (Obj.ROUND_TRIP d)))
  let out := maxNat (ds.map (fun d => rd s (Obj.OUTBOUND_PASSAGE d)))
  let trips := maxNat (ds.flatMap (fun d => [rd s (Obj.ROUND_TRIP d), rd s (Obj.BRIDGE_ROUND_TRIP d)]))
  failIf (decide (im.get Obj.TIDE_PERIOD < (rt + 849) / 850)) Obj.TIDE_PERIOD noDetail
    ++ failIf (decide (mark * 10 < out + 2000) || decide (p < mark + 500)) Obj.APPLY_MARK noDetail
    ++ failIf (decide (p ≤ im.get Obj.TIDE_PHASE)) Obj.TIDE_PHASE noDetail
    ++ failIf (decide (im.get Obj.ECHO_LIMIT * 10000 < trips + 10000)) Obj.ECHO_LIMIT noDetail
    ++ ds.flatMap (fun d =>
      let q := partner d
      failIf (decide (rd s (Obj.EARLIEST_TELEMETRY d) < 1200)) (Obj.EARLIEST_TELEMETRY d) d
        ++ failIf (bridgeOn im d && !bridgePair im d) (Obj.BRIDGE_ENABLE d) d
        ++ ((checkKeys d).zip (checkKeys q)).flatMap (fun k => failIf (bridgePair im d && decide (im.get k.1 ≠ im.get k.2)) k.1 d)
        ++ failIf (bridgePair im d && decide (p * 850 < rd s (Obj.BRIDGE_ROUND_TRIP d) * 100)) (Obj.BRIDGE_ROUND_TRIP d) d
        ++ failIf (bridgePair im d && decide (mark * 10 < rd s (Obj.BRIDGE_OUTBOUND_PASSAGE d) + 2000))
          (Obj.BRIDGE_OUTBOUND_PASSAGE d) d)
    ++ (List.range 12).flatMap (fun a =>
      failIf (im.armOn code a && decide (p < mark + im.get (Obj.EDGE_GUARD a) + 100)) (Obj.EDGE_GUARD a) a)

/-- Arbitration (R81): requesters 0 to 27 hold class 0. -/
def arbFailures (im : Image) : List Failure :=
  (List.range 28).flatMap (fun r => failIf (decide (im.get (Obj.ARB_CLASS r) ≠ 0)) (Obj.ARB_CLASS r) noDetail)

/-! ### Groups 0x08 to 0x0A -/

/-- Work of an image: configured unit and worst case of each item, leg and program. -/
structure Load where
  /-- object that places it -/
  key : Nat
  /-- unit -/
  unit : Nat
  /-- worst case, cycles -/
  wcet : Nat
  /-- a failover target is required of it (R142 names items, of pairs and legs) -/
  item : Bool
  deriving DecidableEq, Repr

/-- Pair items of an image. -/
def pairLoads (im : Image) (code : Nat) : List Load :=
  ((List.range 5).filter (fun i => decide (i = 4) || im.convOn code (i % 2))).map (fun i =>
    { key := Obj.ITEM_PAIR i, unit := im.get (Obj.ITEM_PAIR i), wcet := Config.itemWcet i, item := true })

/-- Legs and programs of an image. -/
def engineLoads (im : Image) (code : Nat) : List Load :=
  ((List.range 6).filter (fun g => im.convOn code (g / 3))).map (fun g =>
    { key := Obj.LEG_ENGINE g, unit := im.get (Obj.LEG_ENGINE g), wcet := Config.legWcet g, item := true })
    ++ (List.range 8).filterMap (fun u =>
      if im.on (Obj.PROG_ENABLE u) then
        (parseProg (im.getBlob (Obj.PROG_IMAGE u))).map (fun p =>
          { key := Obj.PROG_IMAGE u, unit := p.engine, wcet := progWcet p, item := false })
      else none)

/-- Load of unit `u`. -/
def loadOf (ls : List Load) (u : Nat) : Nat := sumNat ((ls.filter (fun l => l.unit = u)).map (·.wcet))

/-- A live unit other than its own takes the work and still fits its window (R142). -/
def hasTarget (ls : List Load) (live : List Nat) (window : Nat) (l : Load) : Bool :=
  live.any (fun u => decide (u ≠ l.unit) && decide (loadOf ls u + l.wcet ≤ window))

/-- Windows and targets of one kind of unit. The failure of a window is named by the first work on the unit. -/
def budgetOf (ls : List Load) (units : Nat) (live : List Nat) (window : Nat) (required : Bool) : List Failure :=
  (List.range units).flatMap (fun u =>
    failIf (decide (window < loadOf ls u)) (((ls.find? (fun l => l.unit = u)).map (·.key)).getD 0) noDetail)
    ++ ls.flatMap (fun l => failIf (required && l.item && !hasTarget ls live window l) l.key noDetail)

/-- Compute budget (R26, R142). -/
def budgetFailures (s : State) (im : Image) (code : Nat) : List Failure :=
  let p := im.period
  let req := im.on Obj.FAILOVER_REQUIRED
  budgetOf (pairLoads im code) 4 ((List.range 4).filter (pairLive s)) (pairWindow p) req
    ++ budgetOf (engineLoads im code) 8 ((List.range 8).filter (engineLive s)) (loopWindow p) req

/-- Entry `i` of a program's bindings: kind, index, component (R156). -/
def bindEntry (bs : List Byte) (i : Nat) : Nat × Nat × Nat :=
  (leNat (slice bs (4 * i) 1), leNat (slice bs (4 * i + 1) 1), leNat (slice bs (4 * i + 2) 1))

/-- An entry keeps the ranges of R156. -/
def bindOk (e : Nat × Nat × Nat) : Bool :=
  match e.1 with
  | 0 | 4 => true
  | 1 => decide (e.2.1 < 12) && decide (e.2.2 < 4)
  | 2 => decide (e.2.1 < 12)
  | 3 => decide (e.2.1 < 64)
  | _ => false

/-- Where an entry goes; none for an unbound or trace-only slot. -/
def bindDest (e : Nat × Nat × Nat) : Option (Nat × Nat × Nat) :=
  match e.1 with
  | 1 => some (1, e.2.1, e.2.2)
  | 2 => some (2, e.2.1, 0)
  | 3 => some (3, e.2.1, 0)
  | _ => none

/-- Destinations of program `u` in slot order. -/
def progDests (im : Image) (u : Nat) : List (Nat × Nat × Nat) :=
  (List.range 64).filterMap (fun i => bindDest (bindEntry (im.getBlob (Obj.PROG_BIND u)) i))

/-- Loop programs (R154, R156): an enabled program must be valid, and so must any image that is written; no destination is bound
twice. -/
def progFailures (im : Image) : List Failure :=
  (List.range 8).flatMap (fun u =>
    let bs := im.getBlob (Obj.PROG_IMAGE u)
    let good := match parseProg bs with | some p => progValid p | none => false
    let mine := progDests im u
    let earlier := (List.range u).flatMap (progDests im)
    failIf ((im.on (Obj.PROG_ENABLE u) || !bs.isEmpty) && !good) (Obj.PROG_IMAGE u) u
      ++ failIf ((List.range 64).any (fun i => !bindOk (bindEntry (im.getBlob (Obj.PROG_BIND u)) i))
          || mine.any (fun d => decide (1 < mine.count d) || earlier.contains d)) (Obj.PROG_BIND u) u)

/-- Positions `k` from 1 to `n` − 1 whose value the pair (`k` − 1, `k`) refuses: the object that ends the pair is reported (DEDUCED,
log entry 59). -/
def badPairs (n : Nat) (bad : Nat → Nat → Bool) : List Nat := (List.range n).filter (fun k => decide (0 < k) && bad (k - 1) k)

/-- Ride-through curves and islanding timers of converter `c` (R178, R186). A curve is its first `LVRT_POINTS` or `HVRT_POINTS` points
(R177). -/
def curveFailures (im : Image) (c : Nat) : List Failure :=
  let stall : Rat := 1500 / (12 * im.f32 (Obj.F_MIN c) * im.f32 Obj.RATED_FREQUENCY)
  let lows := im.get (Obj.LVRT_POINTS c)
  let highs := im.get (Obj.HVRT_POINTS c)
  let falling (time : Nat → Nat) (n : Nat) : List Failure :=
    (badPairs n (fun j k => decide (im.get (time k) < im.get (time j)))).flatMap (fun k => failIf true (time k) c)
  falling (Obj.LVRT_TIME c) lows
    ++ failIf (decide (im.pu (Obj.LVRT_VOLTAGE c (lows - 1)) < im.pu (Obj.LVRT_ENTRY c))) (Obj.LVRT_VOLTAGE c (lows - 1)) c
    ++ falling (Obj.HVRT_TIME c) highs
    ++ failIf (decide (im.pu (Obj.HVRT_ENTRY c) < im.pu (Obj.HVRT_VOLTAGE c (highs - 1)))) (Obj.HVRT_VOLTAGE c (highs - 1)) c
    ++ failIf (decide ((im.get (Obj.STALL_TIME c) : Rat) ≤ stall)) (Obj.STALL_TIME c) c
    ++ failIf (decide (im.get (Obj.PROBE_PERIOD c) < 2 * im.get (Obj.PROBE_BURST c))) (Obj.PROBE_BURST c) c

/-- Solar settings (R220). -/
def solarFailures (im : Image) : List Failure :=
  let g := im.get
  failIf (decide (g Obj.MPPT_PERIOD < g Obj.MPPT_WINDOW + 5)) Obj.MPPT_PERIOD noDetail
    ++ [Obj.VOC_TIME, Obj.SCAN_DWELL, Obj.CURTAIL_PERIOD].flatMap (fun k => failIf (decide (g k < 10)) k noDetail)
    ++ failIf (decide (g Obj.STEP_INIT < g Obj.STEP_MIN)) Obj.STEP_MIN noDetail
    ++ failIf (decide (g Obj.STEP_MAX < g Obj.STEP_INIT)) Obj.STEP_INIT noDetail
    ++ failIf (decide (g Obj.V_HIGH ≤ g Obj.V_LOW)) Obj.V_LOW noDetail
    ++ failIf (decide (g Obj.SCAN_HIGH ≤ g Obj.SCAN_LOW)) Obj.SCAN_LOW noDetail
    ++ failIf (decide (g Obj.V_START < g Obj.V_LOW) || decide (g Obj.V_HIGH < g Obj.V_START)) Obj.V_START noDetail

/-- Tables and curves (R146, R178, R186, R220). -/
def tableFailures (im : Image) (code : Nat) : List Failure :=
  let axis (key : Nat → Nat) : List Failure :=
    (badPairs 3 (fun j k => decide (toSigned 32 (im.get (key k)) ≤ toSigned 32 (im.get (key j))))).flatMap (fun k => failIf true (key k) noDetail)
  axis Obj.BREAK_X ++ axis Obj.BREAK_Y
    ++ (im.convs code).flatMap (curveFailures im) ++ (if code = 0 then solarFailures im else [])

/-! ### Group 0x0B: host side -/

/-- Entries of a map: key and stated length. -/
def mapEntries : Nat → List Byte → List (Nat × Nat)
  | 0, _ => []
  | n + 1, bs =>
    if bs.length < 4 then []
    else (objKey (leNat (slice bs 2 2)) (leNat (slice bs 1 1)), leNat (bs.take 1)) :: mapEntries n (bs.drop 4)

/-- An entry of an output map is allowed: RW with a write role of operator or lower (R300). -/
def outputAllowed (r : ObjRow) : Bool := (r.acc == .rw) && ((r.role == .viewer) || (r.role == .operator))

/-- A map is refused (R300). -/
def mapBad (code : Nat) (output : Bool) (bs : List Byte) : Bool :=
  let es := mapEntries bs.length bs
  let entryBad (e : Nat × Nat) : Bool :=
    match presentRow code (keyIndex e.1) (keySub e.1) with
    | none => true
    | some r => r.ty.variable || decide (e.2 ≠ r.ty.size) || (output && !outputAllowed r)
  decide (4096 < sumNat (es.map (·.2))) || es.any entryBad
    || (output && es.any (fun e => decide (1 < (es.map (·.1)).count e.1)))

/-- Two addresses share a subnet: equal under the shorter of their masks. -/
def sameSubnet (im : Image) (p q : Nat) : Bool :=
  let m := im.get (Obj.IP_MASK p) &&& im.get (Obj.IP_MASK q)
  decide (im.get (Obj.IP_ADDRESS p) &&& m = im.get (Obj.IP_ADDRESS q) &&& m)

/-- Host side (R300, R314, R317, R318). -/
def hostFailures (im : Image) (code : Nat) : List Failure :=
  let port (p : Nat) : Bool := im.on (Obj.PORT_ENABLE p)
  let sv (t : Nat) : Bool := im.on (Obj.SV_ENABLE t)
  let same (t u : Nat) : Bool := decide (im.get (Obj.SV_APPID t) = im.get (Obj.SV_APPID u))
    && decide (im.getBlob (Obj.SV_ID t) = im.getBlob (Obj.SV_ID u))
  (List.range 3).flatMap (fun p =>
    failIf (port p && (List.range p).any (fun q => port q && sameSubnet im p q)) (Obj.IP_ADDRESS p) noDetail)
    ++ (List.range 8).flatMap (fun t =>
      failIf (sv t && (im.getBlob (Obj.SV_ID t)).isEmpty) (Obj.SV_ID t) t
        ++ failIf (sv t && (List.range t).any (fun u => sv u && same t u)) (Obj.SV_APPID t) t)
    ++ (List.range 4).flatMap (fun m =>
      failIf (mapBad code (m % 2 = 0) (im.getBlob (Obj.IMAGE_MAP m))) (Obj.IMAGE_MAP m) noDetail)
    ++ failIf (decide (im.get Obj.IMAGE_CYCLE * 10000 ≤ im.get Obj.IMAGE_PHASE)) Obj.IMAGE_PHASE noDetail
    ++ (im.convs code).flatMap (fun c =>
      failIf ((decide (im.get (Obj.VOLTAGE_SOURCE c) = 2) || decide (im.get (Obj.VOLTAGE_SOURCE_ALT c) = 2))
        && !sv (im.get (Obj.SV_STREAM c))) (Obj.SV_STREAM c) c)

/-! ### Group 0x0D: local I/O, outputs and sources -/

/-- Frequency of a clock source, Hz (R366). -/
def clockHz (src : Nat) : Rat := getD' [25000000, 5000000000, 250000000, 156250000, 156250000, 4000000000] src 25000000

/-- Highest frequency of an output format. -/
def formatHz (f : Nat) : Rat := if f = 1 then 400000000 else if f = 2 then 250000000 else 125000000

/-- Clock outputs (R366). -/
def clockFailures (im : Image) : List Failure :=
  (List.range 4).flatMap (fun o =>
    let src := im.get (Obj.CLKOUT_SOURCE o)
    let f := clockHz src / (im.get (Obj.CLKOUT_DIVIDER o) : Rat)
    failIf (im.on (Obj.CLKOUT_ENABLE o) && decide (formatHz (im.get (Obj.CLKOUT_FORMAT o)) < f)) (Obj.CLKOUT_DIVIDER o) noDetail
      ++ failIf (im.on (Obj.CLKOUT_ALIGN o) && (!(src = 1 || src = 2) || decide (f.den ≠ 1))) (Obj.CLKOUT_ALIGN o) noDetail)

/-- Lowest `SOURCE_LOSS_TIME` of a metering source, µs (R161). -/
def lossFloor (src : Nat) : Nat := if src = 0 then 500 else if src = 1 then 700 else 0

/-- Pulse outputs (R385): the rate at 1.5 times rated power keeps half a pulse of room. -/
def pulseFailures (im : Image) : List Failure :=
  (List.range 4).flatMap (fun k =>
    let m := bits (im.get (Obj.PULSE_SOURCE k)) 4 4
    let rate : Rat := 3 / 2 * im.f32 Obj.RATED_POWER / im.f32 (Obj.METER_RATIO m) / 1000 * (im.get (Obj.PULSE_CONSTANT k) : Rat) / 3600
    failIf (im.on (Obj.PULSE_ENABLE k) && decide (1 / (2 * (im.get (Obj.PULSE_WIDTH k) : Rat) / 100000) < rate))
      (Obj.PULSE_CONSTANT k) noDetail)

/-- A sample is enabled. -/
def sampleOn (im : Image) (v : Nat) : Bool := decide (v < 64) && bit (im.get Obj.SENSE_ENABLE) v

/-- Sensor samples (R395). -/
def sensorFailures (im : Image) (code : Nat) : List Failure :=
  let named (key detail : Nat) (needed : Bool) : List Failure :=
    let v := im.get key
    failIf (if v = 0xFF then needed else !sampleOn im v) key detail
  named Obj.PRECHARGE_SENSOR noDetail false
    ++ (List.range 12).flatMap (fun a => named (Obj.ARM_I_SENSOR a) a (im.armOn code a))
    ++ (List.range 2).flatMap (fun c => named (Obj.DC_V_SENSOR c) c (im.convOn code c))

/-- Comparators (R403, R405, R406). -/
def comparatorFailures (im : Image) : List Failure :=
  (List.range 24).flatMap (fun c =>
    let src := im.get (Obj.CMP_BLANK_SOURCE c)
    let arg := im.get (Obj.CMP_BLANK_ARG c)
    failIf (im.on (Obj.CMP_ENABLE c) && decide (im.get (Obj.CMP_LOWER c) ≠ 0)
        && decide (im.get (Obj.CMP_UPPER c) ≤ im.get (Obj.CMP_LOWER c))) (Obj.CMP_LOWER c) noDetail
      ++ failIf ((decide (src = 1) && decide (im.period ≤ arg)) || (decide (src = 2) && decide (11 < arg))) (Obj.CMP_BLANK_ARG c) noDetail
      ++ failIf (decide (im.get (Obj.CMP_CLEAR_MODE c) = 2) && decide (src ≠ 2)) (Obj.CMP_CLEAR_MODE c) noDetail)

/-- One of two lengths is a whole multiple, 1 to 64, of the other. -/
def wholeMultiple (a b : Nat) : Bool := decide (b ≠ 0) && decide (a % b = 0) && decide (1 ≤ a / b) && decide (a / b ≤ 64)

/-- PWM pairs (R408, R410 to R412). -/
def pwmFailures (im : Image) : List Failure :=
  let pre := im.get Obj.PRECHARGE_PWM
  failIf (decide (pre < 12) && decide (im.get (Obj.PWM_ROLE pre) = 1)) Obj.PRECHARGE_PWM noDetail
    ++ (List.range 8).flatMap (fun u => failIf ((progDests im u).contains (2, pre, 0)) (Obj.PROG_BIND u) u)
    ++ (List.range 12).flatMap (fun q =>
      let carrier := im.get (Obj.PWM_PERIOD q) * 5
      failIf (decide (im.get (Obj.PWM_DELAY_RISE q) < im.get (Obj.PWM_DELAY_FALL q))) (Obj.PWM_DELAY_RISE q) noDetail
        ++ failIf (im.on (Obj.PWM_ENABLE q) && im.on (Obj.PWM_SYNC q) && !wholeMultiple im.period carrier
            && !wholeMultiple carrier im.period) (Obj.PWM_SYNC q) noDetail)

/-- Addresses of the transceiver switches (R417). -/
def switchFailures (im : Image) : List Failure :=
  (List.range 16).flatMap (fun k =>
    let a := im.get (Obj.XCVR_SWITCH_ADDR k)
    failIf ([0x50, 0x51, 0x54].contains a || (List.range k).any (fun j => decide (im.get (Obj.XCVR_SWITCH_ADDR j) = a)))
      (Obj.XCVR_SWITCH_ADDR k) noDetail)

/-- Local I/O, outputs and sources. -/
def ioFailures (im : Image) (code : Nat) : List Failure :=
  (im.convs code).flatMap (fun c =>
    let limit := max (lossFloor (im.get (Obj.VOLTAGE_SOURCE c))) (lossFloor (im.get (Obj.VOLTAGE_SOURCE_ALT c)))
    failIf (decide (im.get (Obj.SOURCE_LOSS_TIME c) < limit)) (Obj.SOURCE_LOSS_TIME c) c)
    ++ clockFailures im
    ++ (List.range 36).flatMap (fun c => failIf (im.on (Obj.CH_INTEGRATOR c)) (Obj.CH_INTEGRATOR c) noDetail)
    ++ pulseFailures im ++ sensorFailures im code ++ comparatorFailures im ++ pwmFailures im ++ switchFailures im

/-! ### The verdict -/

/-- The groups in the order of R324, with their codes. -/
def validateGroups (s : State) (im : Image) (code : Nat) : List (Nat × List Failure) :=
  [(0x01, formFailures im code), (0x02, siliconFailures s im code), (0x03, topologyFailures im code), (0x04, plantFailures im),
   (0x05, measureFailures s im code), (0x06, timingFailures s im code), (0x07, arbFailures im), (0x08, budgetFailures s im code),
   (0x09, progFailures im), (0x0A, tableFailures im code), (0x0B, hostFailures im code), (0x0D, ioFailures im code),
   (0x0C, failIf s.cfg.draftDamaged 0 noDetail)]

/-- The first failure: code and failure. -/
def firstFailure : List (Nat × List Failure) → Option (Nat × Failure)
  | [] => none
  | (c, fs) :: rest =>
    match leastFailure fs with
    | some f => some (c, f)
    | none => firstFailure rest

/-- Validate an image on this device (R324): the code, and the object and detail of the first failure. -/
def validateImage (s : State) (im : Image) : Nat × Failure :=
  (firstFailure (validateGroups s im (optionCode s))).getD (0, { key := 0, detail := noDetail })

end Sys2Proof.Machine
end

