-- ==== Sys2Proof/Machine/StateRequests.lean ====
section
/-! DEFINITION. The requests of the station controller (R333, R334), validation (R324, R325), and the commit (R326 to R328) up to the
tide start at which the committed values take effect. -/

namespace Sys2Proof.Machine

/-! ### State requests (R333, R334) -/

/-- Station states in which a request is accepted (R333). -/
def requestStates (v : Nat) : List Nat :=
  match v with
  | 1 => [stReady, stBlocked]
  | 2 => [stReady]
  | 3 => [stEnergised, stBlocked]
  | 4 => [stRunning, stRideThrough, stCoast]
  | 5 => [stCharging, stEnergised, stRunning, stRideThrough, stCoast, stRampDown]
  | 6 => [stEnergised, stBlocked]
  | 7 => [stSafe]
  | _ => []

/-- Where a request leads, with the `HELD_REASON` or `RAMP_DOWN_CAUSE` that goes with it (R333); a DISCHARGE waits for the arms. -/
def requestTarget (s : State) (v : Nat) : Option (Nat × Nat) :=
  match v with
  | 1 => some (stHeld, 4)
  | 2 => some (stCharging, 0)
  | 3 => some (stRunning, 0)
  | 4 => some (stRampDown, 7)
  | 5 => some (stBlocked, 0)
  | 7 => some (if s.cfg.valid then (stBlocked, 0) else (stHeld, 2))
  | _ => none

/-- The requests R309 refuses while a Breakwater demand is in force (R333). -/
def requestUnsafe (s : State) (v : Nat) : Bool :=
  v = 2 || v = 3 || v = 6 || v = 7 || (v = 1 && decide (station s = stBlocked))

/-- The grid condition of RUN (R334, 0x05). -/
def gridReady (s : State) : Bool :=
  (convsOn s).all (fun c => sync s c sfLocked && !sync s c sfLost && !sync s c sfRt)

/-- Code of the first check of R334 that fails, 0 when all hold. A request that would leave SAFE fails the first check while debug
access is unlocked (R502). -/
def requestCheck (s : State) (v : Nat) : Nat :=
  if (requestStates v).contains (station s) = false ∨ (v = 7 ∧ rd s Obj.DEBUG_STATE ≠ 0) then 1
  else if s.sm.request ≠ 0 ∧ v ≠ 5 then 2
  else if s.cfg.commitStep ≠ 0 then 3
  else if v = 3 ∧ charged s = false then 4
  else if v = 3 ∧ gridReady s = false then 5
  else if v = 3 ∧ (itemsLive s = false ∨ (List.range 12).any (fun a => armOn s a && (getD' s.shepherds a Shepherd.idle).below) = true) then 6
  else if v = 2 ∧ 12 ≤ rd s Obj.PRECHARGE_PWM then 7
  else 0

/-- Request `v` is accepted: it is pending until the tide start at which it takes effect. -/
def takeRequest (v : Nat) (s : State) : State :=
  let s := lapseRequest s
  let s := wr { s with sm := { s.sm with request := v } } Obj.REQUEST_STATUS 0xFF
  match requestTarget s v with
  | some (dst, arg) => schedule dst causeRequest arg s
  | none => s

/-- A write of `STATE_REQUEST` by a session of a role (R333, R334). -/
def writeStateRequest (role v : Nat) (s : State) : WriteResult :=
  if v = 1 ∧ role < 2 then refuse s abAccess
  else
    let c := requestCheck s v
    if c = 0 then accept (takeRequest v s) else refuse (wr s Obj.REQUEST_STATUS c) abState

/-! ### Validation (R324, R325) -/

/-- A write of 1 to `VALIDATE` (R324): the draft as it stands is to be judged. -/
def writeValidate (s : State) : WriteResult :=
  accept (wr { s with cfg := { s.cfg with validating := true, judged := some (s.cfg.draft, rd s Obj.DRAFT_GENERATION) } }
    Obj.VALIDATE_STATUS 0xFF)

/-- Show the result of a validation of an image. -/
def showFailure (code : Nat) (f : Failure) (s : State) : State :=
  wrs s [(Obj.VALIDATE_STATUS, code), (Obj.VALIDATE_INDEX, keyIndex f.key), (Obj.VALIDATE_SUB, keySub f.key),
    (Obj.VALIDATE_DETAIL, f.detail)]

/-- The restored image has been judged (R329): the station goes to READY, or stays in HELD with reason 2. -/
def restoreEnd (code : Nat) (s : State) : State :=
  let s := { s with cfg := { s.cfg with restoring := false, valid := decide (code = 0) } }
  if code = 0 then schedule stReady causeCommit 0 s else wr s Obj.HELD_REASON 2

/-- A validation ends (R325): the judged generation and check are recorded, and a draft changed meanwhile is not validated. The
restored image is judged first. -/
def finishValidation (s : State) : State :=
  let code := optionCode s
  if s.cfg.restoring then
    let im := baseImage s
    let r := validateImage s im
    let s := wrs (showFailure r.1 r.2 s) [(Obj.VALIDATED_GENERATION, rd s Obj.DRAFT_GENERATION), (Obj.VALIDATED_CHECK, draftCheck s)]
    restoreEnd r.1 (if imagesDiffer s.cfg.draft im then wr s Obj.VALIDATE_STATUS 0xFE else s)
  else match s.cfg.judged with
    | none => s
    | some (im, gen) =>
      let r := validateImage s im
      let check := ({ draftImage s with vals := im.vals, blobs := im.blobs, extra := im.extra } : Image).check code
      let s := { s with cfg := { s.cfg with validating := false, judged := none } }
      let s := wrs (showFailure r.1 r.2 s) [(Obj.VALIDATED_GENERATION, gen), (Obj.VALIDATED_CHECK, check)]
      if rd s Obj.DRAFT_GENERATION = gen then s else wr s Obj.VALIDATE_STATUS 0xFE

/-- VALIDATION_COMPLETE (R324, R325, R329). -/
def execValidationComplete (s : State) : Host.Outcome State Fault Refusal := .next (whenAlive .lookout finishValidation s)

/-! ### Commit (R326) -/

/-- P objects in which two images differ. -/
def changedKeys (a b : Image) : List Nat :=
  let ks := a.vals.map (·.1) ++ b.vals.map (·.1) ++ a.blobs.map (·.1) ++ b.blobs.map (·.1)
  ks.filter (fun k => decide (a.get k ≠ b.get k) || decide (a.getBlob k ≠ b.getBlob k))

/-- The object at a key is RW. -/
def isRw (key : Nat) : Bool :=
  match findRow (keyIndex key) (keySub key) with
  | some r => r.acc == .rw
  | none => false

/-- A write of `CONFIG_COMMIT` (R326). -/
def writeCommit (v : Nat) (s : State) : WriteResult :=
  let no (code : Nat) : WriteResult := refuse (wr s Obj.COMMIT_STATUS code) abState
  if s.cfg.validating ∨ s.cfg.restoring ∨ s.cfg.commitStep ≠ 0 then refuse s abState
  else if rd s Obj.VALIDATE_STATUS ≠ 0 then no 0x10
  else if v ≠ rd s Obj.VALIDATED_CHECK then no 0x11
  else if station s ≠ stHeld ∧ (changedKeys s.cfg.draft (baseImage s)).all isRw = false then no 0x14
  else
    let s := { s with cfg := { s.cfg with commitStep := 1, commitHeld := decide (station s = stHeld) } }
    accept (startBus (addJob .eeprom (wrs s [(Obj.COMMIT_STATUS, 1), (Obj.COMMIT_PROGRESS, 0)])))

/-- The slot that is not active. -/
def spareSlot (s : State) : Nat := if rd s Obj.ACTIVE_SLOT = 0 then 1 else 0

/-- Set an EEPROM slot. -/
def setSlotImage (k : Nat) (x : Slot) (s : State) : State :=
  if k = 0 then { s with cfg := { s.cfg with slot0 := x } } else { s with cfg := { s.cfg with slot1 := x } }

/-- The EEPROM transaction of the commit leaves the bus (R414). -/
def endEeprom (s : State) : State :=
  let s := setLio (fun x => { x with jobs := x.jobs.filter (fun j => j ≠ .eeprom) }) s
  if s.lio.job = some .eeprom then startBus (setBus mbBusy false (setLio (fun x => { x with job := none }) s)) else s

/-- A commit fails in step 1 or 2 (R326): 0x13 when the bus is stuck, else 0x12. What the slot then holds fails its checks. -/
def commitFails (stuck : Bool) (s : State) : State :=
  let s := setSlotImage (spareSlot s) .bad (endEeprom s)
  wr { s with cfg := { s.cfg with commitStep := 0 } } Obj.COMMIT_STATUS (if stuck then 0x13 else 0x12)

/-- COMMIT_SLOT_WRITTEN (R326 step 1): the draft stands in the slot, or the writing failed. -/
def execCommitSlotWritten (ok stuck : Bool) (s : State) : Host.Outcome State Fault Refusal :=
  .next (whenAlive .lookout (fun s =>
    if s.cfg.commitStep ≠ 1 then s
    else if !ok || stuck then commitFails stuck s
    else wrs { s with cfg := { s.cfg with commitStep := 2 } } [(Obj.COMMIT_STATUS, 2), (Obj.COMMIT_PROGRESS, 100)]) s)

/-- The image a commit writes: the draft with its generation and the station seconds (R320). -/
def commitImage (s : State) : Image := { draftImage s with seconds := s.time.acc / secUnit % 2 ^ 32 }

/-- An EEPROM slot. -/
def slotAt (s : State) (k : Nat) : Slot := if k = 0 then s.cfg.slot0 else s.cfg.slot1

/-- The figures of a commit (R326 step 4, R343), as the slot it wrote holds them. -/
def showCommit (s : State) : State :=
  match slotAt s (spareSlot s) with
  | .good im n st => wrs s [(Obj.COMMITTED_GENERATION, im.generation), (Obj.COMMITTED_CHECK, im.check (optionCode s)),
      (Obj.ACTIVE_SLOT, spareSlot s), (Obj.COMMITS, n), (Obj.LAST_COMMIT_TIME, st)]
  | _ => s

/-- Step 4 (R326): the commit is done, and shows its figures. In HELD the station goes to READY at the next tide start, unless a BLOCK
or TRIP demand keeps it in HELD (R341). -/
def commitDone (s : State) : State :=
  let s := showCommit s
  let s := wr { s with cfg := { s.cfg with commitStep := 0, retideWait := none, retideGood := [] } } Obj.COMMIT_STATUS 4
  emit .configurationCommitted noInst (leBytes 4 (rd s Obj.COMMITTED_GENERATION) ++ leBytes 4 (rd s Obj.COMMITTED_CHECK)) s

/-- Objects of R328 whose change re-tides the lanes: the tide settings and the check objects of every drove. -/
def retideKey (key : Nat) : Bool :=
  [Obj.TIDE_PERIOD, Obj.APPLY_MARK, Obj.TIDE_PHASE].contains key
    || (decide (0x3400 ≤ keyIndex key) && decide (keyIndex key ≤ 0x347F) && decide (5 ≤ keySub key) && decide (keySub key ≤ 9))


/-- A step of station time that is decided, or pending and allowed (R358, R367). -/
def stepToMake (s : State) : Option (Int × Bool) :=
  match s.time.stepDue with
  | some x => some x
  | none => if stepPending s && stepAllowed s then some (rdInt 64 s Obj.PENDING_OFFSET, false) else none

/-- The silence of a re-tide (R328): it begins with the LANE_SLEEP sets of this tide, takes a step that is allowed and pending along
(R367), or joins the silence of a step already under way. -/
def joinSilence (s : State) : State :=
  match s.time.silence with
  | some q => setTime (fun t => { t with silence := some { q with retide := true } }) s
  | none =>
    let x : Silence := ⟨tideNow s + 7, true, (stepToMake s).map (·.1), ((stepToMake s).map (·.2)).getD false⟩
    setTime (fun t => { t with silence := some x, stepDue := none }) s

/-- The end of step 2 (R326): the slot holds the image, and the committed image takes the draft's content. A live commit is done at
once (R327); in HELD the values take effect at the next tide start, or through a re-tide, whose LANE_SLEEP sets begin in this tide
(R328), and the figures of the commit show with step 4. -/
def commitApply (s : State) : State :=
  let im := commitImage s
  let n := satAdd (2 ^ 32 - 1) (rd s Obj.COMMITS) 1
  let again := (changedKeys im (baseImage s)).any retideKey
  let s := setSlotImage (spareSlot s) (.good im n (stimeNow s)) (endEeprom s)
  let s := { s with cfg := { s.cfg with committed := some im, draft := { im with seconds := 0 }, valid := true } }
  let s := wr s Obj.LIVE_DIFFERS 0
  if s.cfg.commitHeld = false then commitDone s
  else
    let s := wr { s with cfg := { s.cfg with commitStep := 3 } } Obj.COMMIT_STATUS 3
    if again then joinSilence s
    else { s with cfg := { s.cfg with applyDue := true } }

/-- COMMIT_VERIFIED (R326 steps 2 and 3). -/
def execCommitVerified (ok stuck : Bool) (s : State) : Host.Outcome State Fault Refusal :=
  .next (whenAlive .lookout (fun s =>
    if s.cfg.commitStep ≠ 2 then s else if !ok || stuck then commitFails stuck s else commitApply s) s)

/-! ### Drove objects of the draft in HELD (R323) -/

/-- The lane of a drove that has left service: no fault, no frame of its own or over the partner (R71, R279). -/
def laneOff (d : Nat) (s : State) : State :=
  if droveOn s d then s
  else
    setPlan d 16 8 0xFF (setPlan d 8 8 0xFF
      (setDrove d (fun x => { x with faulted := false, trial := 0, planDue := none, rejoinDue := false, rejoinTides := 0 }) s))

/-- The three objects of drove `d` that govern its lane take their values of an image; where one changes, the measurement is cleared
and made again, and the folds of leaves no longer configured are closed (R259); the lane and the bridge show what they become (R71). A
leaf that leaves the configuration has no rank (R133). -/
def followDrove (im : Image) (d : Nat) (s : State) : State :=
  let keys := [Obj.DROVE_ENABLE d, Obj.DROVE_LEAVES d, Obj.BRIDGE_ENABLE d]
  if keys.all (fun k => decide (rd s k = im.get k)) then s
  else
    let before := leavesOf s d
    let was := droveOn s d
    let s := wrs s (keys.map (fun k => (k, im.get k)))
    let gone := before.filter (fun L => !(was && leafOn s L))
    let s := gone.foldl (fun t L => wr (closeFold L t) (Obj.LEAF_RANK_STATE L) 0) s
    let s := laneOff d (wantMeasure d (clearMeasure d s))
    showBridge (partner d) (showBridge d (showLane (partner d) (showLane d s)))

/-- Every drove follows an image. -/
def followDroves (im : Image) (s : State) : State := (List.range (droveCount s)).foldl (fun t d => followDrove im d t) s

/-- The three objects of drove `d` differ between two images. -/
def laneDiffers (a b : Image) (d : Nat) : Bool :=
  [Obj.DROVE_ENABLE d, Obj.DROVE_LEAVES d, Obj.BRIDGE_ENABLE d].any (fun k => decide (a.get k ≠ b.get k))

/-- The draft takes a whole new image (R321, R343): a write of `CONFIG_DRAFT`, or a `DRAFT_DISCARD`. In HELD the droves whose lane objects
change are measured again (R323). -/
def newDraft (im : Image) (s : State) : State :=
  let old := s.cfg.draft
  let s := setDraft im { s with cfg := { s.cfg with draftDamaged := false } }
  if station s = stHeld then
    (List.range (droveCount s)).foldl (fun t d => if laneDiffers old im d then wantMeasure d (clearMeasure d t) else t) s
  else s

/-- A write of `CONFIG_DRAFT` (R321). -/
def writeDraft (bs : List Byte) (s : State) : WriteResult :=
  match parseImage (optionCode s) bs with
  | some im => accept (newDraft im s)
  | none => refuse s abRange

/-- A write of `DRAFT_DISCARD` (R343): 1 the committed image, 2 the factory image. With no committed image, 1 is refused (DEDUCED:
there is nothing to copy). -/
def writeDiscard (v : Nat) (s : State) : WriteResult :=
  if v = 1 then (match s.cfg.committed with | some im => accept (newDraft im s) | none => refuse s abState)
  else accept (newDraft Image.factory s)

end Sys2Proof.Machine
end

