-- ==== Sys2Proof/Machine/Streams.lean ====
section
/-! DEFINITION. Sampled-value streams (R310, R311) and what they give the grid interface (R161). -/

namespace Sys2Proof.Machine

/-- States of `SV_STATE` (R311): no frames. -/
abbrev svNone : Nat := 1
/-- receiving without global synchronisation -/
abbrev svReceiving : Nat := 2
/-- valid -/
abbrev svValid : Nat := 3

/-- Streams in service. -/
def streamsOn (s : State) : List Nat := (List.range 8).filter (fun i => rdBool s (Obj.SV_ENABLE i))

/-- One ASDU fits stream `i`: svID, confRev, eight channels, and smpCnt below the rate (R310). -/
def asduFits (s : State) (i : Nat) (a : SvAsdu) : Bool :=
  decide (a.svId = rdBlob s (Obj.SV_ID i)) && decide (a.confRev = rd s (Obj.SV_CONF_REV i)) && decide (a.values.length = 8)
    && decide (a.quality.length = 8) && decide (a.smpCnt < rd s (Obj.SV_RATE i))

/-- A frame fits stream `i` (R310). -/
def frameFits (s : State) (i : Nat) (m : SvFrame) : Bool :=
  let mac := rd s (Obj.SV_DEST_MAC i)
  (decide (mac = 0) || decide (m.dest = mac)) && decide (m.appId = rd s (Obj.SV_APPID i)) && decide (1 ≤ m.asdus.length)
    && decide (m.asdus.length ≤ 8) && m.asdus.all (asduFits s i)

/-- The streams a frame is meant for: those with its APPID, and among them the one with its svID where there is one. -/
def streamsFor (s : State) (m : SvFrame) : List Nat :=
  let xs := (streamsOn s).filter (fun i => decide (rd s (Obj.SV_APPID i) = m.appId))
  let ident := (m.asdus.head?).map (fun a => a.svId)
  match xs.find? (fun i => decide (some (rdBlob s (Obj.SV_ID i)) = ident)) with
  | some i => [i]
  | none => xs

/-- The instant of a smpCnt of stream `i`, ns, in the second that brings it nearest to the present (R310). -/
def nearInstant (s : State) (i smpCnt : Nat) : Nat :=
  let off := smpCnt * 1000000000 / rd s (Obj.SV_RATE i)
  (nowNs s + 500000000 - off) / 1000000000 * 1000000000 + off

/-- The same smpCnt has arrived before, on either port: its instant is among those of the last second (R310). -/
def oldSample (s : State) (i : Nat) (a : SvAsdu) : Bool := s.svSeen.contains (i, nearInstant s i a.smpCnt)

/-- Sampling instant for converter `c` (R161): the latest second at which smpCnt, less `SV_DELAY`, is not in the future. -/
def sampleInstant (s : State) (i c smpCnt : Nat) : Nat :=
  let off := smpCnt * 1000000000 / rd s (Obj.SV_RATE i)
  let delay := rd s (Obj.SV_DELAY c)
  (nowNs s + delay - off) / 1000000000 * 1000000000 + off - delay

/-- One channel of an ASDU, in mV (R310: 10 mV per LSB), with its quality good (validity bits 00). -/
def channelOf (a : SvAsdu) (n : Nat) : Int × Bool := (10 * getD' a.values n 0, decide (getD' a.quality n 1 % 4 = 0))

/-- An ASDU as the point-of-connection sample of converter `c` (R161, R311). -/
def streamSample (s : State) (i c : Nat) (test : Bool) (a : SvAsdu) : PocSample :=
  let map := rd s (Obj.SV_PHASE_MAP i)
  let pa := channelOf a (bits map 3 0)
  let pb := channelOf a (bits map 7 4)
  let pc := channelOf a (bits map 11 8)
  { va := pa.1, vb := pb.1, vc := pc.1, ns := sampleInstant s i c a.smpCnt,
    good := pa.2 && pb.2 && pc.2 && !test && decide (a.smpSynch = 2) }

/-- Stream `i` is a source of converter `c`. -/
def streamFeeds (s : State) (i c : Nat) : Bool :=
  decide (rd s (Obj.SV_STREAM c) = i) && (decide (rd s (Obj.VOLTAGE_SOURCE c) = 2) || decide (rd s (Obj.VOLTAGE_SOURCE_ALT c) = 2))

/-- One ASDU of an accepted frame, unless it is a second copy. -/
def takeAsdu (i : Nat) (test : Bool) (a : SvAsdu) (s : State) : State :=
  if oldSample s i a then s
  else
  let seen := (i, nearInstant s i a.smpCnt) :: s.svSeen.filter (fun p => decide (nowNs s ≤ p.2 + 1000000000))
  let s := wrs { s with svSeen := seen } [(Obj.SV_LAST_SMPCNT i, a.smpCnt), (Obj.SV_SMPSYNCH i, a.smpSynch % 256)]
  let s := if a.smpSynch = 2 then wr s (Obj.SV_STATE i) svValid
    else if rd s (Obj.SV_STATE i) = svValid then s else wr s (Obj.SV_STATE i) svReceiving
  [0, 1].foldl (fun t c => if streamFeeds t i c then takeVoltage c 2 (voltsOf t (streamSample t i c test a)) t else t) s

/-- A frame that fits stream `i`: what has arrived before is discarded, the rest is taken in order. -/
def acceptFrame (i : Nat) (m : SvFrame) (s : State) : State :=
  if m.asdus.all (oldSample s i) then s
  else countBy 64 (m.asdus.foldl (fun t a => takeAsdu i m.test a t) s) (Obj.SV_FRAMES i) 1

/-- SV_FRAME (R310): accepted for its stream, or discarded and counted; on HSVC it is dropped (R281). -/
def execSvFrame (port : Nat) (m : SvFrame) (s : State) : Host.Outcome State Fault Refusal :=
  .next (if hostUp s port = false then s
    else
      let s := countIn port s
      if port = 2 ∨ vlanFits s port m.vlan = false then countDropped port s
      else (streamsFor s m).foldl (fun t i =>
        if frameFits t i m then acceptFrame i m t else count t (Obj.SV_DISCARDED i)) s)

/-- SV_STREAM_LOSS_TIMEOUT (R311): no valid sample of stream `st` for `SOURCE_LOSS_TIME`. While frames come without global
synchronisation the stream reads receiving, else no frames. -/
def execSvStreamLossTimeout (st : Nat) (s : State) : Host.Outcome State Fault Refusal :=
  .next (whenAlive .lookout (fun s =>
    if st < 8 ∧ rdBool s (Obj.SV_ENABLE st) = true then
      let coming := decide (rd s (Obj.SV_STATE st) = svValid) && decide (rd s (Obj.SV_SMPSYNCH st) ≠ 2)
      wr s (Obj.SV_STATE st) (if coming then svReceiving else svNone)
    else s) s)

/-- `SV_STATE` follows `SV_ENABLE` when settings take effect. -/
def showStreams (s : State) : State :=
  (List.range 8).foldl (fun t i =>
    if rdBool t (Obj.SV_ENABLE i) then (if rd t (Obj.SV_STATE i) = 0 then wr t (Obj.SV_STATE i) svNone else t)
    else wr t (Obj.SV_STATE i) 0) s

end Sys2Proof.Machine
end

