-- ==== Sys2Proof/Machine/Boot.lean ====
section
/-! DEFINITION. Settings taking effect (R326, R329), the release of the domains (R457, R462 to R464), the end of BOOT (R329, R335), the
recovery of the management bus (R416), the pre-charge timeout (R337), and the end of a re-tide (R328). -/

namespace Sys2Proof.Machine

/-! ### Settings take effect -/

/-- Settings of a fault source that clear its counts when they change (R261). -/
def sourceKeys (family source : Nat) : List Nat :=
  ((List.range 256).map (faultObj family source)).filter isPersist

/-- The counts of every source whose settings differ between two states are cleared (R261). -/
def clearSources (old s : State) : State :=
  let all : List (Nat × Nat) := (List.range 14).map (fun k => (0, k)) ++ (List.range 5).map (fun k => (1, k))
  all.foldl (fun t p => if (sourceKeys p.1 p.2).any (fun k => decide (rd old k ≠ rd s k)) then clearSource p.1 p.2 t else t) s

/-- The reference the new settings select is used when it is present (R364). -/
def selectRef (s : State) : State :=
  let want := rd s Obj.REF_SELECT
  if rd s Obj.REF_IN_USE ≠ 0xFF ∧ rd s Obj.REF_IN_USE ≠ want ∧ bit (rd s Obj.REF_PRESENT) want = true then useRef want s else s

/-- A clock output whose settings change is to be aligned afresh (R366). -/
def clkCommit (old s : State) : State :=
  [0, 1, 2, 3].foldl (fun t o =>
    if [Obj.CLKOUT_ENABLE o, Obj.CLKOUT_SOURCE o, Obj.CLKOUT_DIVIDER o, Obj.CLKOUT_ALIGN o].all (fun k => decide (rd old k = rd t k)) then t
    else wr t (Obj.CLKOUT_ALIGNED o) 0) s

/-- What follows from new live settings: `s` holds them, `old` the state before (R134, R142, R261, R349, R364, R389, R403 to R412,
R450). -/
def settingsApply (old s : State) : State :=
  let s := placeWork (showBases (showPool (clearSources old s)))
  let s := bwCommit (lioCommit old (meterCommit old (gridCommit old s)))
  clkCommit old (selectRef (chooseMaster (showStreams (showTrace s))))

/-- The committed image takes effect with all that follows from it (R326 step 3). -/
def takeCommitted (s : State) : State := solarCommit s (settingsApply s (applyCommitted s))

/-! ### The end of BOOT (R329, R335) -/

/-- `OWN_TURN_AT` of every drove as its values in force give it (R279). -/
def showPlans (s : State) : State :=
  (List.range (droveCount s)).foldl (fun t d => setPlan d 8 8 (planDefault t d) t) s

/-- The slots are read (R329, R415). A stuck bus cannot read them; the station then enters HELD with reason 3. A restored image sets the
tide, the turn plans, and `SCR_EST` at `SCR_DEFAULT`. -/
def bootRead (s : State) : State :=
  if busStuck s then
    { s with cfg := { s.cfg with committed := none, draft := Image.factory, bootReason := 3 } }
  else
    let old := s
    let s := bootLoad s
    let s := if s.cfg.bootReason = 5 then setTime (fun t => { t with restartTide := true }) s else s
    let s := showPlans (settingsApply old s)
    [0, 1].foldl (fun t c => wrPu t (Obj.SCR_EST c) (rdF t (Obj.SCR_DEFAULT c))) s

/-- BOOT_RESTORE (R329): at the end of BOOT the slots are read, once the bus has been recovered (R416). -/
def execBootRestore (s : State) : Host.Outcome State Fault Refusal :=
  .next (whenAlive .lookout (fun s =>
    if station s = stBoot ∧ bit (rd s Obj.MBUS_STATUS) mbRecovering = false ∧ s.sm.causes.any (fun c => c.target = stHeld) = false
    then bootRead s else s) s)

/-- What R335 asks before HELD: the loader has finished, the lookout cores run, the station-clock PLL is locked or frozen. -/
def bootReady (s : State) : Bool :=
  alive s .processing && decide (station s = stBoot) && decide (rd s Obj.OPTION_STATUS ≠ 0)
    && decide (2 ≤ rd s (Obj.PLL_STATE 4)) && decide (rd s (Obj.PLL_STATE 4) ≤ 3)
    && !bit (rd s Obj.MBUS_STATUS) mbRecovering && !s.sm.causes.any (fun c => c.target = stHeld)

/-- BOOT_COMPLETE (R335): the station goes to HELD at the next tide start, with the reason R329 chose; the energy accumulators resume
(R383), and GPIO outputs drive their initial levels (R413). -/
def execBootComplete (s : State) : Host.Outcome State Fault Refusal :=
  .next (
    if bootReady s then
      let s := if s.cfg.bootReason = 0 then bootRead s else s
      let s := showConfirm (gpioBoot (meterResume s))
      schedule stHeld causeReset s.cfg.bootReason s
    else s)

/-- The restore of R329 begins: the droves are measured, and the committed image is judged. -/
def startRestore (s : State) : State :=
  wr (measureAll { s with cfg := { s.cfg with restoring := true } }) Obj.VALIDATE_STATUS 0xFF

/-- MBUS_RECOVERY (R416, R415): the bus is free, or stuck. In HELD with reason 3 and no commit made, a bus that comes free lets the
device run R329 again. -/
def execMbusRecovery (freed : Bool) (s : State) : Host.Outcome State Fault Refusal :=
  .next (whenAlive .localIo (fun s =>
    let s := endRecovery freed s
    if freed = true ∧ alive s .lookout = true ∧ station s = stHeld ∧ rd s Obj.HELD_REASON = 3 ∧ s.cfg.committed = none
        ∧ s.cfg.commitStep = 0 then
      let s := bootRead s
      let s := wr s Obj.HELD_REASON s.cfg.bootReason
      if s.cfg.bootReason = 5 then startRestore s else s
    else s) s)

/-! ### Release of the domains (R462 to R464) -/

/-- What the release of domain `d`, 0 to 9 in the order of R457, starts (R464). -/
def onRelease (d : Nat) (s : State) : State :=
  match d with
  | 1 => allPlls.foldl startPll s
  | 2 => startSelfTest (showConfirm s)
  | 3 => loadTime s
  | 4 => sarSelfCal s
  | 5 => showPool s
  | 7 => startRecovery (wr s Obj.GPIO_IN s.lio.gpio)
  | 8 => logRestore s
  | 9 => finishReset s
  | _ => s

/-- DOMAIN_RELEASE (R462): the gap of the next domain ends, and the domain is released, unless a source still reaches it or the domain
before it is not ready. While REF is not present the count stands, and REF_MISSING is noted. -/
def execDomainRelease (s : State) : Host.Outcome State Fault Refusal :=
  .next (
    let d := s.rp.released
    if 10 ≤ d ∨ nextFree s = false ∨ lastReady s = false then s
    else if rd s Obj.REF_PRESENT = 0 then { s with rp := { s.rp with refMissing := true } }
    else
      let s := if d = reachFirst s.rp.widest then { s with rp := { s.rp with bootStart := s.time.acc } } else s
      onRelease d { s with rp := { s.rp with released := d + 1 } })

/-! ### Pre-charge timeout (R337) -/

/-- CHARGE_TIMEOUT_EXPIRY (R337): the charge is not complete in time; the station goes to BLOCKED. -/
def execChargeTimeoutExpiry (s : State) : Host.Outcome State Fault Refusal :=
  .next (whenAlive .lookout (fun s =>
    if station s = stCharging ∧ s.sm.causes.any (fun c => c.target = stEnergised) = false then
      schedule stBlocked causePreCharge 0 (emit .preChargeFailed noInst [] s)
    else s) s)

/-! ### Re-tide (R328) -/

/-- The silent tides of a re-tide are over: the new settings take effect, the tide restarts under them, and every drove awaits its GOOD
frames (R328 step 3). -/
def endRetide (s : State) : State :=
  match s.time.silence with
  | some q =>
    if q.retide = true ∧ q.stepBy.isNone = true ∧ q.lastTide ≤ tideNow s then
      let s := if s.time.restartTide then s else toSilenceEnd q s
      let s := takeCommitted (setTime (fun t => { t with silence := none, restartTide := true }) s)
      renewPhases (List.range 128) { s with cfg := { s.cfg with retideWait := some s.time.acc, retideGood := [] } }
    else s
  | none => s

/-- RETIDE_RESTART (R328): the 16 silent tides have passed, with any step made in the same silence (R367). -/
def execRetideRestart (s : State) : Host.Outcome State Fault Refusal :=
  .next (whenAlive .lookout (fun s => endRetide (endStep s)) s)

/-- Every enabled drove has returned 16 consecutive GOOD frames since the restart. -/
def retideReturned (s : State) : Bool :=
  (drovesOn s).all (fun d => decide (16 ≤ Tbl.get (fun _ => 0) s.cfg.retideGood d))

/-- Count the GOOD frames of this tide after a re-tide. -/
def countRetide (s : State) : State :=
  if s.cfg.retideWait.isNone then s
  else
    let good := (drovesOn s).foldl (fun m d =>
      let n := match (droveOf s d).own with | .good _ => Tbl.get (fun _ => 0) m d + 1 | _ => 0
      Tbl.set (fun _ => 0) m d n) s.cfg.retideGood
    { s with cfg := { s.cfg with retideGood := good } }

/-- RETIDE_READY (R328): 16 GOOD frames on every drove, or 100 ms. The commit ends at the tide start at which the station goes to READY;
a block demand keeps it in HELD (R341). -/
def execRetideReady (s : State) : Host.Outcome State Fault Refusal :=
  .next (whenAlive .lookout (fun s =>
    match s.cfg.retideWait with
    | some t =>
      if s.cfg.commitStep ≠ 3 then s
      else
        let s := if retideReturned s then s else runTo (t + 100000000 * nsUnit) s
        let s := { s with cfg := { s.cfg with commitStep := 4, retideWait := none } }
        if blockInForce s || tripInForce s then s else schedule stReady causeCommit 0 s
    | none => s) s)

end Sys2Proof.Machine
end

