-- ==== Sys2Proof/Machine/Plausibility.lean ====
section
/-! DEFINITION. Plausibility of the arm currents against the inserted voltages (R148, R149), and the checks of the sensors
themselves (R150). -/

namespace Sys2Proof.Machine

/-- Sign of a level in `LEVEL_NOW` or command coding: bypass and blocked insert nothing. -/
def levelSign (lv : Nat) : Int := if lv = 1 then 1 else if lv = 2 then -1 else 0

/-- Level of a command slot (R46). -/
def slotLevel (c : CmdSlot) : Nat := c.mode % 8

/-- Mean voltage leaf `L` inserts from S(n) to S(n + 1), V: its `LEVEL_NOW` until the command of tide `n` takes effect, that command
afterwards, at the `CAP_VOLTAGE` of S(n). -/
def leafInserted (s : State) (n L : Nat) : Rat :=
  let bs := ringBytes s n L
  let cmd := slotOf s n L
  let P := periodNs s
  let t := min P (rd s Obj.APPLY_MARK + cmd.edge)
  let before := levelSign (bits (slotWord bs 3) 3 2)
  let after := levelSign (slotLevel cmd)
  ((slotWord bs 0 : Nat) : Rat) / 10 * (((before * (t : Int) + after * ((P - t : Nat) : Int) : Int) : Rat) / (P : Rat))

/-- Mean inserted voltage of arm `a`, V. -/
def armInserted (s : State) (n a : Nat) : Rat := sumRat ((armLeaves s a).map (leafInserted s n))

/-- Measured sum and difference currents of leg `g` at S(n), A; none with a sensor sample missing. -/
def legMeasured (s : State) (n g : Nat) : Option (Rat × Rat) :=
  match sampleVal s n (rd s (Obj.ARM_I_SENSOR (2 * g))), sampleVal s n (rd s (Obj.ARM_I_SENSOR (2 * g + 1))) with
  | some u, some l => some (u + l, u - l)
  | _, _ => none

/-- A sensor of leg `g` is flagged (R150). -/
def legFlagged (s : State) (g : Nat) : Bool :=
  [rd s (Obj.ARM_I_SENSOR (2 * g)), rd s (Obj.ARM_I_SENSOR (2 * g + 1)), rd s (Obj.DC_V_SENSOR (g / 3))].any
    (fun w => decide (w < 64) && bit (rd s Obj.SENSOR_FLAGS) w)

/-- A slot of leg `g` is missing or stale in tide `n`. -/
def legSlotsBad (s : State) (n g : Nat) : Bool :=
  ((armLeaves s (2 * g)) ++ (armLeaves s (2 * g + 1))).any
    (fun L => slotMissing s n L || bit (tideBits s n L) trMissing || bit (tideBits s n L) trStale)

/-- The conditions at one sample under which leg `g` is not evaluated (R148). -/
def legSkips (s : State) (n g : Nat) : Bool :=
  !(rd s (Obj.SHEPHERD_STATE (2 * g)) = 2 && rd s (Obj.SHEPHERD_STATE (2 * g + 1)) = 2) || blockInForce s || legSlotsBad s n g
    || (legMeasured s n g).isNone || (dcVoltage s n (g / 3)).isNone || legFlagged s g

/-- Predicted sum and difference currents at S(n + 1), A (R148). -/
def legPredict (s : State) (n g : Nat) (i : Rat × Rat) : Rat × Rat :=
  let c := g / 3
  let ts := tideSec s
  let la := rdF s Obj.ARM_INDUCTANCE
  let lt := rdF s Obj.TRANSFORMER_L
  let ra := rdF s Obj.ARM_RESISTANCE
  let vdc := dcVoltageOr s n c * baseVdc s
  let vu := armInserted s n (2 * g)
  let vl := armInserted s n (2 * g + 1)
  let x := (conv s c).set
  let poc := phaseOf (x.va, x.vb) (g % 3) * baseAc s
  (i.1 + ts / la * (vdc - vu - vl - ra * i.1), i.2 + ts / (la + 2 * lt) * (vl - vu - 2 * poc - ra * i.2))

/-- The reaction of `PLAUS_REACTION` (R149). -/
def plausReact (s : State) : State :=
  match rd s Obj.PLAUS_REACTION with
  | 1 => askRampDown causePlausibility 4 s
  | 2 => askBlocked causePlausibility s
  | _ => s

/-- A plausibility fault of arm `a` (R149), whose residual has been above the threshold for `run` evaluated tides in a row. With the flag
set already it repeats at each further `PLAUS_TIDES` tides (DESIGN CHOICE, log entry 68), and raises no event. -/
def plausFault (a run : Nat) (s : State) : State :=
  let old := rd s Obj.PLAUS_FLAGS
  let faulty (t : State) : State := plausReact (countFault 0 srcPlausibility a 1 t)
  if run < rd s Obj.PLAUS_TIDES then s
  else if bit old a = false then faulty (emit .armCurrentImplausible a (leBytes 1 a) (wr s Obj.PLAUS_FLAGS (setBit old a)))
  else if run % rd s Obj.PLAUS_TIDES = 0 then faulty s
  else s

/-- The residuals of leg `g`, A on `BASE_CURRENT`, are judged. -/
def judgeLeg (g : Nat) (rs rd' : Rat) (s : State) : State :=
  let lim := rdPu s Obj.PLAUS_THRESHOLD
  let ru := absRat ((rs + rd') / 2)
  let rl := absRat ((rs - rd') / 2)
  let y := legOf s g
  let nu := if lim < ru then y.runU + 1 else 0
  let nl := if lim < rl then y.runL + 1 else 0
  let s := setLeg g (fun y => { y with rSum := rs, rDiff := rd', runU := nu, runL := nl }) s
  let top (a : Nat) (r : Rat) (s : State) : State :=
    setCl (fun c => { c with residual := c.residual.modify a (fun m => max m (pu24OfRat r)) }) s
  plausFault (2 * g + 1) nl (plausFault (2 * g) nu (top (2 * g + 1) rl (top (2 * g) ru s)))

/-- Leg `g` at the return deadline of tide `n`: the prediction made at the one before is held against the samples, and a new one is
made. -/
def plausLeg (n g : Nat) (s : State) : State :=
  if legPresent s g = false ∨ station s < stEnergised ∨ stBlocked < station s then setLeg g (fun y => { y with pred := none }) s
  else
    let skips := legSkips s n g
    let now := legMeasured s n g
    let s := match (legOf s g).pred, now, skips with
      | some p, some m, false => judgeLeg g ((m.1 - p.1) / baseCurrent s) ((m.2 - p.2) / baseCurrent s) s
      | _, _, _ => count s Obj.PLAUS_SKIPS
    match now, skips with
    | some m, false =>
      let q := legPredict s n g m
      setLeg g (fun y => { y with pred := some q }) s
    | _, _ => setLeg g (fun y => { y with pred := none }) s

/-- `PLAUS_RESIDUAL` takes the largest residual of the second that has ended. -/
def residualSecond (n : Nat) (s : State) : State :=
  if tideStartAt s n / secUnit = tideStartAt s (n - 1) / secUnit then s
  else
    setCl (fun c => { c with residual := List.replicate 12 0 })
      (wrs s ((List.range 12).map (fun a => (Obj.PLAUS_RESIDUAL a, getD' s.cl.residual a 0))))

/-! ### Sensor checks (R150) -/

/-- Arm whose plausibility counter a sensor counts in: the arm it measures, the first arm of the converter whose DC voltage it
measures, else arm 0 (the manual names the counter, not the instance). -/
def sensorArm (s : State) (w : Nat) : Nat :=
  match (List.range 12).find? (fun a => rd s (Obj.ARM_I_SENSOR a) = w) with
  | some a => a
  | none => if rd s (Obj.DC_V_SENSOR 1) = w ∧ rd s (Obj.DC_V_SENSOR 0) ≠ w then 6 else 0

/-- A raw code outside its converter's full scale (R396). -/
def outOfScale (w : Nat) (code : Int) : Bool :=
  if w < 32 then code = 0 || code = 65535 else code = -32768 || code = 32767

/-- Sensor sample `w` of a tide: its code, how long it has stood, and its flag. -/
def sensorCheck (s : State) (w : Nat) : State :=
  match getD' s.lio.codes w none with
  | none => s
  | some code =>
    let old := getD' s.cl.stuck w (0, 0)
    let run := if old.1 = code then old.2 + 1 else 0
    let s := setCl (fun c => { c with stuck := c.stuck.set w (code, run) }) s
    if outOfScale w code = true ∨ rd s Obj.STUCK_TIDES ≤ run then
      (if bit (rd s Obj.SENSOR_FLAGS) w then s
       else countFault 0 srcPlausibility (sensorArm s w) 1 (wr s Obj.SENSOR_FLAGS (setBit (rd s Obj.SENSOR_FLAGS) w)))
    else s

/-- Sum check of converter `c`: |Σ i_diff| over its legs. A new bit counts in every arm of the converter (R263). -/
def sumCheck (n : Nat) (s : State) (c : Nat) : State :=
  if convOn s c = false then s
  else
    let is := (convLegs c).map (legMeasured s n)
    if is.any (·.isNone) then s
    else
      let sum := absRat (sumRat (is.map (fun x => (x.getD (0, 0)).2))) / baseCurrent s
      let run := if rdPu s Obj.PLAUS_THRESHOLD < sum then getD' s.cl.sumRun c 0 + 1 else 0
      let s := setCl (fun x => { x with sumRun := x.sumRun.set c run }) s
      if run < rd s Obj.PLAUS_TIDES ∨ bit (rd s Obj.SUM_CHECK_FLAGS) c = true then s
      else (convArms c).foldl (fun t a => countFault 0 srcPlausibility a 1 t)
        (wr s Obj.SUM_CHECK_FLAGS (setBit (rd s Obj.SUM_CHECK_FLAGS) c))

/-- Plausibility at the return deadline of tide `n`: the sensors from HELD onward, the legs in the active states. -/
def plausibility (n : Nat) (s : State) : State :=
  if station s < stHeld then s
  else
    let s := (List.range 64).foldl sensorCheck s
    let s := [0, 1].foldl (sumCheck n) s
    residualSecond n ((List.range 6).foldl (fun t g => plausLeg n g t) s)

/-- A write of 1 to `PLAUS_CLEAR` (R149, R150). -/
def writePlausClear (v : Nat) (s : State) : WriteResult :=
  if v = 1 then accept (wrs s [(Obj.PLAUS_FLAGS, 0), (Obj.SENSOR_FLAGS, 0), (Obj.SUM_CHECK_FLAGS, 0)]) else refuse s abRange

end Sys2Proof.Machine
end

