-- ==== Sys2Proof/Machine/Reads.lean ====
section
/-! DEFINITION. What a read of an object returns (R6, R285): stored values, values the device computes at the read, and the reads that
have an effect (R398, R502). -/

namespace Sys2Proof.Machine

/-- Text of the ordering code (R1, R313). -/
def orderingText (code : Nat) : String :=
  match code with
  | 0 => "QSX-16384-FA"
  | 1 => "QSX-16384-G"
  | _ => "QSX-8192-G"

/-- The identity strings (R313); those fused or fixed by the build are constants of Config. -/
def identityText (s : State) (sub : Nat) : List Byte :=
  match sub with
  | 1 => asciiBytes "Quambe Microsystems"
  | 2 => asciiBytes "Sochesin 16K"
  | 3 => asciiBytes (orderingText (optionCode s))
  | 5 => Config.siliconStep
  | _ => Config.firmwareVersion

/-- `EVENT_CATALOGUE` (R494): the 16-byte header, then the 40-byte entries of the firmware build. -/
def catalogueBytes (s : State) : List Byte :=
  leBytes 2 Config.catalogueEntries.length ++ leBytes 2 (rd s Obj.DICTIONARY_VERSION) ++ leBytes 4 (rd s Obj.FIRMWARE_BUILD)
    ++ leBytes 8 0 ++ Config.catalogueEntries.flatMap (padTo 40)

/-- `LOG_DATA` (R492): up to 256 records from session `k`'s cursor, in order of `EVENT_SEQ`. -/
def logData (s : State) (k : Nat) : List Byte :=
  ((s.log.ring.filter (fun r => decide (rd s (Obj.LOG_CURSOR k) ≤ r.seq))).take 256).flatMap LogRecord.bytes

/-- Code of a numeric object as session `k` reads it: computed at the read, held per session, or stored. -/
def readNumber (s : State) (k key : Nat) : Nat :=
  if key = Obj.STATION_TIME then stimeNow s
  else if key = Obj.DRAFT_CHECK then draftCheck s
  else if key = Obj.ARB_MASKED then maskedRequesters s
  else if key = Obj.POISONED_WORDS then poisonedWords s
  else if key = Obj.UNIT_DOZE then dozing s
  else if key = Obj.QUEUE_SELECT then (sess s k).queueSelect
  else if key = 0x222200 ∧ optionCode s = 2 then 0x40
  else readCode s key

/-- Bytes of a STR or DOMAIN object as session `k` reads it. -/
def readBytes (s : State) (k key : Nat) : List Byte :=
  let ix := keyIndex key
  let sub := keySub key
  match ix, sub with
  | 0x1000, n => identityText s n
  | 0x1400, 1 => (draftImage s).bytes (optionCode s)
  | 0x1400, 2 => (match s.cfg.committed with | some im => im.bytes (optionCode s) | none => [])
  | 0x1800, 3 => logData s k
  | 0x1800, 11 => catalogueBytes s
  | 0x2100, 4 => padTo 40 (rdBlob s key)
  | 0x2250, 3 => pmcReadBytes s
  | 0x2250, 5 => s.pmc.ring.flatMap PmcSample.bytes
  | 0x2870, 10 => xcvrTable s
  | 0x2870, 13 => pmbusTable s
  | 0x2A00, 5 => padTo 160 (rdBlob s key)
  | 0x2A00, 10 => s.meter.history.flatMap id
  | 0x3160, 9 => traceBytes s
  | 0x3610, 2 => descriptorBytes s (sess s k).queueSelect
  | 0x3610, 3 => peekBytes s (sess s k).queueSelect
  | _, _ =>
    if 0x2200 ≤ ix ∧ ix ≤ 0x220D then faultCountsBytes s (ix - 0x2200)
    else if 0x2280 ≤ ix ∧ ix ≤ 0x2287 then (hist s (ix - 0x2280)).bytes
    else if 0x3620 ≤ ix ∧ ix ≤ 0x362F then (subOf s (ix - 0x3620)).ring.flatMap (·.2)
    else if 0x4000 ≤ ix ∧ sub = 0x4F then padTo 40 (rdBlob s key)
    else if 0x4000 ≤ ix ∧ sub = 0x50 then leafProtBytes s (ix - 0x4000)
    else if 0x4000 ≤ ix ∧ sub = 0x68 then leafLinkBytes s (ix - 0x4000)
    else readStored s key

/-- Value of an object as session `k` reads it. -/
def readValue (s : State) (k key : Nat) (r : ObjRow) : List Byte :=
  if r.ty.variable then readBytes s k key else leBytes r.ty.size (readNumber s k key)

/-- A read of `DEBUG_CHALLENGE` (R502) returns a fresh nonce; that of an engineer session in HELD or SAFE is outstanding. -/
def debugChallenge (k : Nat) (s : State) : State × List Byte :=
  let (nonce, s) := drawBytes 16 s
  let asks := decide (sessRole s k = 2) && (decide (station s = stHeld) || decide (station s = stSafe))
  (if asks then { s with dbg := { s.dbg with nonce := nonce } } else s, nonce)

/-- A read of `SAR_DATA` of converter `c` takes the register: it returns it and clears OVERRUN (R398). -/
def takeSarData (c : Nat) (s : State) : State × List Byte :=
  let v := leBytes 4 (rd s (Obj.SAR_DATA c))
  let s := wr s (Obj.SAR_STATUS c) (clearBit (rd s (Obj.SAR_STATUS c)) 1)
  (setLio (fun x => { x with full := x.full.set c false }) s, v)

/-- A read with its effect. -/
def readObject (k key : Nat) (r : ObjRow) (s : State) : State × List Byte :=
  if key = Obj.DEBUG_CHALLENGE then debugChallenge k s
  else if keySub key = 4 ∧ 0x2800 ≤ keyIndex key ∧ keyIndex key ≤ 0x2803 then takeSarData (keyIndex key - 0x2800) s
  else (s, readValue s k key r)

/-- Checks 3 and 4 of R295 for a read: the row, or the abort. -/
def readCheck (s : State) (ix sub : Nat) : ObjRow ⊕ Nat :=
  match presentRow (optionCode s) ix sub with
  | none => .inr abNoObject
  | some r => if r.acc = .wo then .inr abWriteOnly else .inl r

end Sys2Proof.Machine
end

