-- ==== Sys2Proof/Machine/Writes.lean ====
section
/-! DEFINITION. What a write of an object does: the checks of R295 that every write passes, then the object's own rule, and the value's
effect. -/

namespace Sys2Proof.Machine

/-! ### Check 5: roles (R292, R294, R316, R460, R492) -/

/-- The objects that belong to one session, and that session. -/
def ownSession (key : Nat) : Option Nat :=
  if 0x1110 ≤ keyIndex key ∧ keyIndex key ≤ 0x111F ∧ keySub key = 7 then some (keyIndex key - 0x1110)
  else if keyIndex key = 0x1801 ∧ 1 ≤ keySub key then some (keySub key - 1)
  else none

/-- Rank of a role among viewer, operator and engineer. -/
def Role.rank : Role → Nat
  | .viewer => 0
  | .operator => 1
  | .engineer => 2
  | .safety => 3

/-- What a safety session may write (R292). -/
def safetyMay (k key : Nat) (r : ObjRow) : Bool :=
  r.acc == .rws || key = Obj.ROLE_KEY 3 || key = Obj.DEVICE_RESET || key = Obj.NOTIFY_MASK k

/-- The role of session `k` permits a write of the object. The installation session writes every role key (R294). -/
def roleMay (s : State) (k key : Nat) (r : ObjRow) : Bool :=
  let role := sessRole s k
  let own := match ownSession key with | some j => decide (j = k) | none => true
  if role = 3 then safetyMay k key r
  else if r.acc = .rws then false
  else if key = Obj.ROLE_KEY 3 then decide (rd s (Obj.SESSION_STATE k) = 3)
  else own && decide (r.role.rank ≤ role)

/-! ### Check 6: the token (R305) -/

/-- Objects exempt from the token (R305). -/
def tokenExempt (key : Nat) : Bool :=
  let ix := keyIndex key
  (decide (0x1100 ≤ ix) && decide (ix ≤ 0x11FF)) || (decide (0x3620 ≤ ix) && decide (ix ≤ 0x362F))
    || (decide (0x3160 ≤ ix) && decide (ix ≤ 0x3162)) || key = Obj.QUEUE_SELECT || key = Obj.QUEUE_RELEASE
    || key = Obj.QUEUE_CLEAR_RETURNED || key = Obj.ALARM_ACK || ix = 0x1801

/-- A write of session `k` is governed by the token (R305). -/
def tokenGoverns (s : State) (k key : Nat) : Bool :=
  rd s Obj.TOKEN_MODE = 1 && [1, 2, 3].contains (sessMaster s k) && !tokenExempt key

/-- A governed write of session `k` is accepted (R305). -/
def tokenAccepts (s : State) (k : Nat) : Bool :=
  let h := rd s Obj.TOKEN_HOLDER
  decide (sessMaster s k = h) || (decide (sessMaster s k = 3) && (decide (h = 0) || decide (station s = stHeld)))

/-! ### Check 7: the state -/

/-- What the installation session may write (R294). -/
def installationMay (key : Nat) : Bool :=
  let ix := keyIndex key
  ix = 0x1106 || (decide (0x1100 ≤ ix) && decide (ix ≤ 0x1102)) || ix = 0x1104 || key = Obj.TOKEN_MODE

/-- A write that would change the draft (R322, R326, R343). -/
def changesDraft (key : Nat) (r : ObjRow) : Bool := r.persist || key = Obj.CONFIG_DRAFT || key = Obj.DRAFT_DISCARD

/-- The state permits a write (R9, R294, R326, R406, R477): RWH objects and the safety settings in HELD only. -/
def stateMay (s : State) (k key : Nat) (r : ObjRow) : Bool :=
  let held := decide (station s = stHeld)
  (if r.acc = .rwh ∨ (r.acc = .rws ∧ r.persist) then held else true)
    && (if rd s (Obj.SESSION_STATE k) = 3 then held && installationMay key else true)
    && !(changesDraft key r && decide (s.cfg.commitStep ≠ 0))
    && (!s.rp.fallback || key = Obj.POWER_RETRY || key = Obj.DEVICE_RESET)

/-! ### Check 8: safety (R309, R333) -/

/-- A write R309 forbids while a Breakwater demand is in force: it would leave BLOCKED or SAFE, start pre-charge, release a leaf from
its bypass, or readmit a leaf. -/
def safetyForbids (s : State) (key : Nat) (bs : List Byte) : Bool :=
  demandInForce s &&
    ((key = Obj.STATE_REQUEST && bs.length = 1 && requestUnsafe s (leNat bs))
      || (decide (0x4000 ≤ keyIndex key) && keySub key = 0x62 && bs.length = 1 && leNat bs = 1)
      || (decide (0x4000 ≤ keyIndex key) && keySub key = 0x40 && (bs.take 1).map BitVec.toNat == [4]))

/-! ### Checks 9 and 10: length and value -/

/-- The length a DOMAIN object's layout states (R6). -/
def domainLength (key n : Nat) : Bool :=
  let ix := keyIndex key
  if ix = 0x1106 then decide (n = 32)
  else if 0x1200 ≤ ix ∧ ix ≤ 0x1203 then decide (n % 4 = 0) && decide (n ≤ 2048)
  else if key = Obj.QUEUE_POST then decide (8 ≤ n)
  else if key = Obj.QUEUE_RELEASE then decide (n = 8)
  else if key = Obj.DEBUG_UNLOCK then decide (n = 32)
  else if 0x2A60 ≤ ix ∧ ix ≤ 0x2A61 then decide (n = 16)
  else if 0x3140 ≤ ix ∧ ix ≤ 0x3147 ∧ keySub key = 2 then decide (16 ≤ n)
  else if 0x3140 ≤ ix ∧ ix ≤ 0x3147 ∧ keySub key = 3 then decide (n = 256)
  else if 0x4000 ≤ ix then decide (1 ≤ n)
  else true

/-- The length fits (check 9). -/
def lengthOk (key : Nat) (r : ObjRow) (bs : List Byte) : Bool :=
  match r.ty with
  | .str => true
  | .domain => domainLength key bs.length
  | t => decide (bs.length = t.size)

/-- The value a write carries, as a number. -/
def writeRaw (key : Nat) (bs : List Byte) : Nat := writtenCode key (leNat bs)

/-- The value is one the object accepts (check 10). -/
def rangeOk (key : Nat) (r : ObjRow) (bs : List Byte) : Bool :=
  match r.ty with
  | .str => decide (bs.length ≤ 64 ∨ keyIndex key < 0x1140 ∨ 0x1147 < keyIndex key) && utf8Ok bs.length bs
  | .domain => true
  | _ => valueOk r key (writeRaw key bs)

/-! ### The checks in order (R295) -/

/-- Checks 7 to 10 of a write, 0 when all hold. -/
def lateChecks (s : State) (k key : Nat) (r : ObjRow) (bs : List Byte) : Nat :=
  if stateMay s k key r = false then abState
  else if safetyForbids s key bs then abSafety
  else if lengthOk key r bs = false then abLength
  else if rangeOk key r bs = false then abRange
  else 0

/-- Checks 3 to 10 of a write of session `k`, with what a refusal for the token leaves (R308). -/
def writeChecks (s : State) (k ix sub : Nat) (bs : List Byte) : WriteResult :=
  match presentRow (optionCode s) ix sub with
  | none => refuse s abNoObject
  | some r =>
    let key := objKey ix sub
    if r.acc = .ro then refuse s abReadOnly
    else if roleMay s k key r = false then refuse s abAccess
    else if tokenGoverns s k key && !tokenAccepts s k then refuseGoverned (sessMaster s k) key (writeRaw key bs) s
    else (s, lateChecks s k key r bs)

/-! ### Debug access (R502) -/

/-- The value that unlocks the debug port. -/
def unlockProof (s : State) : List Byte :=
  hmac (roleKey s 2) (asciiBytes "DBUG" ++ s.dbg.nonce ++ leBytes 8 (rd s Obj.SERIAL_NUMBER))

/-- A write of `DEBUG_UNLOCK`. A nonce is good for one right value. -/
def writeUnlock (bs : List Byte) (s : State) : WriteResult :=
  if station s ≠ stHeld ∧ station s ≠ stSafe then refuse s abState
  else if s.dbg.nonce = [] ∨ bs ≠ unlockProof s then refuse (count s Obj.AUTH_FAILURES) abRange
  else
    let s := wr { s with dbg := { s.dbg with nonce := [] } } Obj.DEBUG_STATE (if rd s Obj.DEBUG_HALTED = 0 then 1 else 2)
    accept (emit .debugEnabled noInst [] s)

/-- A write of 1 to `DEBUG_LOCK`. -/
def writeLock (s : State) : WriteResult :=
  accept (emit .debugDisabled noInst []
    (wrs { s with dbg := { s.dbg with nonce := [] } } [(Obj.DEBUG_HALTED, 0), (Obj.DEBUG_STATE, 0)]))

/-! ### Objects with a rule of their own -/

/-- A write of `ALARM_ACK` (R493). -/
def writeAlarmAck (v : Nat) (s : State) : WriteResult :=
  if rd s Obj.LOG_NEXT_SEQ < v then refuse s abRange
  else
    let left := s.log.alarms.filter (fun q => decide (v < q))
    accept (wr { s with log := { s.log with alarms := left } } Obj.ALARMS_UNACKED left.length)

/-- A write of `LOG_CURSOR` (R492). -/
def writeCursor (key v : Nat) (s : State) : WriteResult :=
  if rd s Obj.LOG_NEXT_SEQ < v then refuse s abRange else accept (wr s key v)

/-- A write of a setting of counter `c` by session `k` (R495 to R497, R501): a mode and a selection of different kinds are refused. -/
def writePmc (k c sub v : Nat) (s : State) : WriteResult :=
  let sel := if sub = 1 then v else rd s (Obj.PMC_EVENT c)
  let mode := if sub = 3 then v else rd s (Obj.PMC_MODE c)
  if (sub = 1 ∨ sub = 3) ∧ pmcModeFits sel mode = false then refuse s abRange
  else accept (wrs s [(objKey (0x2260 + c) sub, v), (Obj.PMC_OWNER c, k)])

/-- A write of a setting of histogram `h`, or of `HIST_CLEAR` (R500). -/
def writeHist (h sub v : Nat) (s : State) : WriteResult :=
  if sub = 8 then accept (histClear h s)
  else if sub ≠ 1 ∧ rdBool s (Obj.HIST_ENABLE h) = true then refuse s abState
  else accept (wr s (objKey (0x2280 + h) sub) v)

/-- A write of `SUB_ENABLE` (R100). -/
def writeSubEnable (n v : Nat) (s : State) : WriteResult :=
  if v = 0 then accept (setSub n (fun x => { x with window := none, ready := [] }) (wr s (Obj.SUB_ENABLE n) 0))
  else
    let on := (List.range 16).filter (fun j => decide (j = n) || rdBool s (Obj.SUB_ENABLE j))
    if 500000000 < sumRat (on.map (subRate s)) then refuse s abResource else accept (wr s (Obj.SUB_ENABLE n) 1)

/-- A write of a subscription object (R98 to R100): its settings only while it is disabled, its leaves within the code's range. -/
def writeSub (n sub v : Nat) (s : State) : WriteResult :=
  match sub with
  | 1 => writeSubEnable n v s
  | 8 => accept (subRelease n v s)
  | _ =>
    let first := if sub = 2 then v else rd s (Obj.SUB_FIRST_LEAF n)
    let cnt := if sub = 3 then v else rd s (Obj.SUB_LEAF_COUNT n)
    if rdBool s (Obj.SUB_ENABLE n) then refuse s abState
    else if (sub = 2 ∨ sub = 3) ∧ leafCount s < first + cnt then refuse s abRange
    else accept (wr s (objKey (0x3620 + n) sub) v)

/-- A write of a trace object (R157, R158). -/
def writeTrace (key v : Nat) (s : State) : WriteResult :=
  if key = Obj.TRACE_CONTROL then writeTraceControl v s
  else if traceWritable s then accept (showTrace (wr s key v)) else refuse s abState

/-- A write of `QUEUE_POST` by a session of a role (R87). -/
def writePost (role : Nat) (bs : List Byte) (s : State) : WriteResult :=
  hostPost role (leNat (slice bs 0 4)) (leNat (slice bs 4 2)) (bs.drop 8) s

/-- A write of a Breakwater object that is not P. -/
def writeBreakwater (sub v : Nat) (s : State) : WriteResult :=
  match sub with
  | 3 => writeSafetyDemand v s
  | 4 => writeSafetyReset v s
  | 5 => writeTripRelease v s
  | 6 => writeSelfTest v s
  | 8 => writeConfirm v s
  | _ => writeSessionReset v s

/-- A write of an object of 0x1100 to 0x11FF that is not P. -/
def writeHostSide (k seq key : Nat) (bs : List Byte) (s : State) : WriteResult :=
  let v := writeRaw key bs
  if keyIndex key = 0x1106 then writeRoleKey k seq (keySub key - 1) bs s
  else if key = Obj.SESSION_EVICT then
    accept (if sessOpen s v then endSession v (some scEvicted) s else if rd s (Obj.SESSION_STATE v) = 1 then freeSession v s else s)
  else if key = Obj.TOKEN_REQUEST then writeTokenRequest k v s
  else if key = Obj.TOKEN_RELEASE then writeTokenRelease k s
  else accept (wr s key v)

/-- A write of a configuration object that is not P (0x1400 to 0x1403). -/
def writeConfiguration (key : Nat) (bs : List Byte) (s : State) : WriteResult :=
  if key = Obj.CONFIG_DRAFT then writeDraft bs s
  else if key = Obj.VALIDATE then writeValidate s
  else if key = Obj.CONFIG_COMMIT then writeCommit (leNat bs) s
  else writeDiscard (leNat bs) s

/-- A write of a P object, with what else it does: in HELD a lane object clears its drove's measurement (R323), a source object
returns to the primary source (R162), `POWER_MAX_STATE` wakes the device (R475). -/
def writePersist (key : Nat) (r : ObjRow) (bs : List Byte) (s : State) : State :=
  let s := if r.ty.variable then writePBlob key (writtenBytes key bs) s else writeP key (writeRaw key bs) s
  if governsLane key then
    let d := keyIndex key - 0x3400
    wantMeasure d (clearMeasure d s)
  else if key = Obj.VOLTAGE_SOURCE 0 ∨ key = Obj.VOLTAGE_SOURCE_ALT 0 then primarySource 0 s
  else if key = Obj.VOLTAGE_SOURCE 1 ∨ key = Obj.VOLTAGE_SOURCE_ALT 1 then primarySource 1 s
  else if key = Obj.POWER_MAX_STATE then startWake s
  else s

/-- A write of a timebase object that is not P. A tide miss counter is cleared by a write of 0 (R22). -/
def writeTimebase (key v : Nat) (s : State) : WriteResult :=
  if key = Obj.TIME_INCREMENT then writeIncrement v s
  else if key = Obj.TIME_SET then writeTimeSet v s
  else if key = Obj.TIME_STEP_PERMIT then writeStepPermit s
  else if key = Obj.RATE_ADJUST then writeRate v s
  else accept (wr s key v)

/-- A write of a reset, power, recovery, counter or debug object that is not P (0x2100 to 0x22FF). -/
def writeSystem (k key : Nat) (bs : List Byte) (s : State) : WriteResult :=
  let v := leNat bs
  let ix := keyIndex key
  if key = Obj.DEVICE_RESET then writeDeviceReset k v s
  else if key = Obj.POWER_RETRY then writePowerRetry s
  else if key = Obj.REJOIN_REQUEST then rejoinRequest v s
  else if key = Obj.PMC_STATUS_CLEAR then accept (wr s Obj.PMC_STATUS (clearMask (rd s Obj.PMC_STATUS) v))
  else if key = Obj.PMC_SAMPLE_RELEASE then accept (pmcRelease v s)
  else if 0x2260 ≤ ix ∧ ix ≤ 0x227F then writePmc k (ix - 0x2260) (keySub key) v s
  else if 0x2280 ≤ ix ∧ ix ≤ 0x2287 then writeHist (ix - 0x2280) (keySub key) v s
  else if key = Obj.DEBUG_UNLOCK then writeUnlock bs s
  else if key = Obj.DEBUG_LOCK then writeLock s
  else accept (wr s key v)

/-- A write of a local I/O object that is not P (0x2800 to 0x28FF). -/
def writeLocalIo (key : Nat) (bs : List Byte) (s : State) : WriteResult :=
  let v := leNat bs
  let ix := keyIndex key
  if key = Obj.SAR_CAL then writeSarCal v s
  else if key = Obj.CMP_CLEAR then writeCmpClear v s
  else if 0x2840 ≤ ix ∧ ix ≤ 0x284B then writeDuty (ix - 0x2840) v s
  else if key = Obj.GPIO_OUT then writeGpio v s
  else writeBusRequest bs s

/-- A write of a metering object that is not P (0x2A00 to 0x2AFF). -/
def writeMetering (key : Nat) (bs : List Byte) (s : State) : WriteResult :=
  let v := leNat bs
  let m := keyIndex key - 0x2A60
  if key = Obj.SNAPSHOT_TRIGGER then writeSnapshot v s
  else if key = Obj.CAL_CHANNELS then writeCal v s
  else if keySub key = 0x10 then writeFlagsClear m v s
  else writePreset m bs s

/-- A write of a grid or control object that is not P (0x3000 to 0x32FF). -/
def writeControl (key v : Nat) (s : State) : WriteResult :=
  let ix := keyIndex key
  if key = Obj.CORE_RESTART then writeCoreRestart v s
  else if key = Obj.RAMP_DOWN_REQUEST then writeRampDown v s
  else if key = Obj.ISLAND_CLEAR 0 then accept (clearIslands 0 s)
  else if key = Obj.ISLAND_CLEAR 1 then accept (clearIslands 1 s)
  else if key = Obj.REBALANCE then writeRebalance v s
  else if key = Obj.PLAUS_CLEAR then writePlausClear v s
  else if 0x3160 ≤ ix ∧ ix ≤ 0x3162 then writeTrace key v s
  else if key = Obj.SCAN_ABORT then writeScanAbort v s
  else accept (wr s key v)

/-- A write of a drove, queue, subscription or leaf object that is not P (0x3400 on). `QUEUE_SELECT` takes any queue number, that of a
leaf absent on the code too (DESIGN CHOICE, log entry 61). -/
def writeFlock (k key : Nat) (bs : List Byte) (s : State) : WriteResult :=
  let v := leNat bs
  let ix := keyIndex key
  if ix ≤ 0x347F then accept (wantMeasure (ix - 0x3400) s)
  else if key = Obj.QUEUE_SELECT then accept (setSess s k (fun x => { x with queueSelect := v }))
  else if key = Obj.QUEUE_RELEASE then queueRelease (leNat (slice bs 0 4)) (leNat (slice bs 4 2)) s
  else if key = Obj.QUEUE_POST then writePost (sessRole s k) bs s
  else if key = Obj.QUEUE_CLEAR_RETURNED then clearReturned v s
  else if ix ≤ 0x362F then writeSub (ix - 0x3620) (keySub key) v s
  else if keySub key = 0x40 then protCommand (sessRole s k) (ix - 0x4000) bs s
  else leafReadmit (ix - 0x4000) s

/-- A write that has passed R295: the object's own rule and its effect (R287). -/
def applyWrite (k seq key : Nat) (r : ObjRow) (bs : List Byte) (s : State) : WriteResult :=
  let ix := keyIndex key
  if r.persist then accept (writePersist key r bs s)
  else if key = Obj.STATE_REQUEST then writeStateRequest (sessRole s k) (leNat bs) s
  else if 0x1100 ≤ ix ∧ ix ≤ 0x11FF then writeHostSide k seq key bs s
  else if ix < 0x1400 then accept (wr s key (leNat bs))
  else if ix ≤ 0x1403 then writeConfiguration key bs s
  else if key = Obj.ALARM_ACK then writeAlarmAck (leNat bs) s
  else if ix ≤ 0x18FF then writeCursor key (leNat bs) s
  else if ix ≤ 0x20FF then writeTimebase key (leNat bs) s
  else if ix ≤ 0x22FF then writeSystem k key bs s
  else if ix ≤ 0x24FF then writeBreakwater (keySub key) (leNat bs) s
  else if ix ≤ 0x28FF then writeLocalIo key bs s
  else if ix ≤ 0x2AFF then writeMetering key bs s
  else if ix ≤ 0x32FF then writeControl key (leNat bs) s
  else writeFlock k key bs s

/-- A WRITE, or the write of a BLOCK_WRITE_END, of session `k` (R295): the checks, the object's rule, and the note of a governed write
of the holder for the contradictory orders of R308. A governed object is noted by its value as a number. -/
def writeObject (k seq ix sub : Nat) (bs : List Byte) (s : State) : WriteResult :=
  let c := writeChecks s k ix sub bs
  if c.2 ≠ 0 then c
  else match presentRow (optionCode s) ix sub with
    | none => refuse s abNoObject
    | some r =>
      let key := objKey ix sub
      let m := sessMaster s k
      let note := tokenGoverns s k key && decide (m = rd s Obj.TOKEN_HOLDER)
      let w := applyWrite k seq key r bs s
      if w.2 = 0 ∧ note = true then accept (noteHolderWrite m key (writeRaw key bs) w.1) else w

end Sys2Proof.Machine
end

