-- ==== Sys2Proof/Machine/Images.lean ====
section
/-! DEFINITION. Process images (R300 to R304, R307, R308): assembly and application of output images, the comparison of the images of
the master without the token, and the start of a process-image cycle with its input images. -/

namespace Sys2Proof.Machine

/-! ### Maps (R300) -/

/-- Entries of map `i`: 0 output A, 1 input A, 2 output B, 3 input B. -/
def mapOf (s : State) (i : Nat) : List (Nat × Nat) :=
  let bs := rdBlob s (Obj.IMAGE_MAP i)
  mapEntries bs.length bs

/-- Output map of master `m`. -/
def outputMap (s : State) (m : Nat) : List (Nat × Nat) := mapOf s (2 * m - 2)

/-- Input map of master `m`. -/
def inputMap (s : State) (m : Nat) : List (Nat × Nat) := mapOf s (2 * m - 1)

/-- The open session of master `m`. -/
def masterSession (s : State) (m : Nat) : Option Nat :=
  allSessions.find? (fun k => sessOpen s k && decide (sessMaster s k = m))

/-! ### Output images (R301) -/

/-- The byte at an offset of an image under assembly. -/
def asmByte (parts : List (Nat × List Byte)) (i : Nat) : Option Byte :=
  (parts.find? (fun p => decide (p.1 ≤ i) && decide (i < p.1 + p.2.length))).bind (fun p => p.2[i - p.1]?)

/-- The bytes of an image, when every byte of the map size has arrived. -/
def asmBytes (size : Nat) (parts : List (Nat × List Byte)) : Option (List Byte) :=
  let bs := (List.range size).filterMap (asmByte parts)
  if bs.length = size then some bs else none

/-- The values of an image in map order. -/
def imageValues : List (Nat × Nat) → List Byte → List (Nat × List Byte)
  | [], _ => []
  | (key, n) :: rest, bs => (key, bs.take n) :: imageValues rest (bs.drop n)

/-- The complete image of master `m` for a cycle, as its values. -/
def imageOf (s : State) (m cycle : Nat) : Option (List (Nat × List Byte)) :=
  match (masterImages s m).asm.find? (fun a => a.cycle = cycle) with
  | some a => (asmBytes (rd s (Obj.IMAGE_SIZE (2 * m - 2))) a.parts).map (imageValues (outputMap s m))
  | none => none

/-- Write one entry of an output image (R301): checks 6 to 10 of R295 and the object's own rule; what fails is skipped and counted. -/
def imageEntry (k m : Nat) (note : Bool) (e : Nat × List Byte) (s : State) : State × Bool :=
  let no (s : State) : State × Bool := (count s Obj.IMAGE_REFUSED, false)
  match presentRow (optionCode s) (keyIndex e.1) (keySub e.1) with
  | none => no s
  | some r =>
    if lateChecks s k e.1 r e.2 ≠ 0 then no s
    else
      let w := applyWrite k 0 e.1 r e.2 s
      if w.2 ≠ 0 then no s else (if note then noteHolderWrite m e.1 (writeRaw e.1 e.2) w.1 else w.1, true)

/-- Write every entry; whether one was refused. -/
def imageEntries (k m : Nat) (note : Bool) : List (Nat × List Byte) → State → State × Bool
  | [], s => (s, false)
  | e :: rest, s =>
    let a := imageEntry k m note e s
    let b := imageEntries k m note rest a.1
    (b.1, !a.2 || b.2)

/-- An image that is not applied, of a master without the token: its entries meet what the holder has written in this cycle, and wait
for what it has not (R308). -/
def shadowImage (m : Nat) (es : List (Nat × List Byte)) (s : State) : State :=
  es.foldl (fun t e =>
    match wroteThisCycle t (rd t Obj.TOKEN_HOLDER) e.1 with
    | some hv => shadowEntry m e.1 hv (writeRaw e.1 e.2) t
    | none => setMaster m (fun x => { x with shadow := x.shadow ++ [(e.1, writeRaw e.1 e.2)] }) t) s

/-- The images of master `m` are applied (R305 to R307): with a token only the holder's, from the cycle after it took the token. -/
def imageApplies (s : State) (m cycle : Nat) : Bool :=
  rd s Obj.TOKEN_MODE = 0 || (decide (rd s Obj.TOKEN_HOLDER = m) && decide ((masterImages s m).applyFrom ≤ cycle))

/-- The image of master `m` for a cycle has become complete, on session `k` (R301, R303, R307). A holder's writes are noted for the
present cycle; those of the next cycle's image when that cycle starts. -/
def completeImage (k m cycle : Nat) (es : List (Nat × List Byte)) (s : State) : State :=
  let s := setMaster m (fun x => { x with complete := cycle :: x.complete, missed := 0, outputsMissing := false }) s
  let here := decide (cycle = rd s Obj.IMAGE_CYCLE_NOW)
  if imageApplies s m cycle then
    let r := imageEntries k m (here && decide (rd s Obj.TOKEN_MODE = 1)) es s
    let s := setMaster m (fun x => { x with
      applied := cycle :: x.applied, refused := if r.2 then cycle :: x.refused else x.refused }) r.1
    countBy 64 s Obj.IMAGES_OUT_APPLIED 1
  else if here && decide (rd s Obj.TOKEN_HOLDER ≠ m) then shadowImage m es s
  else s

/-- A fragment joins the image of its cycle (R301). -/
def addFragment (cycle offset : Nat) (bs : List Byte) : List ImageAsm → List ImageAsm
  | [] => [{ cycle := cycle, parts := [(offset, bs)] }]
  | a :: rest =>
    if a.cycle = cycle then { a with parts := (offset, bs) :: a.parts } :: rest else a :: addFragment cycle offset bs rest

/-- A fragment of an output image of master `m` (R301): late, of an image that is complete already, or one more of its cycle. -/
def takeFragment (k m : Nat) (payload : List Byte) (s : State) : State :=
  let cycle := leNat (slice payload 0 8)
  let now := rd s Obj.IMAGE_CYCLE_NOW
  if cycle ≠ now ∧ cycle ≠ now + 1 then count s Obj.IMAGE_LATE
  else if (masterImages s m).complete.contains cycle then s
  else
    let s := setMaster m (fun x => { x with asm := addFragment cycle (leNat (slice payload 16 2)) (payload.drop 24) x.asm }) s
    match imageOf s m cycle with
    | some es => completeImage k m cycle es s
    | none => s

/-- An IMAGE_OUT frame of session `k` (R301). A frame of another form than its head states is dropped; one that is taken is answered
with no payload (R285). -/
def takeImage (k : Nat) (net : NetAddr) (f : ObjFrame) (s : State) : State :=
  let x := sess s k
  if aheadOf 32 f.arg x.imageArg = false then s
  else
    let s := setSess s k (fun x => { x with imageArg := f.arg })
    let n := (f.payload.drop 24).length
    if f.payload.length < 24 ∨ n ≠ leNat (slice f.payload 18 2) ∨ 1000 < n then countDropped net.port s
    else respond net x.ks (responseFrame f x.ident 0 0 false []) (takeFragment k (sessMaster s k) f.payload s)

/-! ### Input images (R302) -/

/-- Mapped values of master `m` as they stand, for its session. -/
def mappedBytes (s : State) (m : Nat) : List Byte :=
  let k := (masterSession s m).getD 0
  (inputMap s m).flatMap (fun e => leBytes e.2 (readNumber s k e.1))

/-- Just after a reference mark, the mapped values of both masters are taken as one set (R302). -/
def takeSnapshots (s : State) : State :=
  [1, 2].foldl (fun t m =>
    if rdBlob t (Obj.IMAGE_MAP (2 * m - 1)) = [] then t
    else setMaster m (fun x => { x with snap := (tideNow s, mappedBytes s m) }) t) s

/-- `IMAGE_FLAGS` of master `m`, for the cycle that has ended. -/
def imageFlags (s : State) (m prev : Nat) : Nat :=
  let x := masterImages s m
  b2n (x.applied.contains prev) + 2 * b2n (x.refused.contains prev) + 4 * b2n x.conflict
    + 8 * b2n (decide (rd s Obj.TOKEN_HOLDER = m)) + 16 * b2n (demandInForce s) + 32 * b2n x.outputsMissing

/-- The head of an input image fragment. -/
def imageHead (s : State) (cycle tide offset len flags : Nat) : List Byte :=
  leBytes 8 cycle ++ leBytes 8 tide ++ leBytes 2 offset ++ leBytes 2 len ++ leBytes 1 (station s) ++ leBytes 1 (rd s Obj.TOKEN_HOLDER)
    ++ leBytes 2 flags

/-- Send the fragments of an input image to session `k`, each numbered by R291. -/
def sendFragments (k cycle tide flags : Nat) : Nat → Nat → List Byte → State → State
  | 0, _, _, s => s
  | n + 1, offset, bs, s =>
    if bs = [] then s
    else
      let part := bs.take 1000
      let x := sess s k
      let f : ObjFrame :=
        { version := 1, service := 0x31, flags := 0, session := x.ident, seq := x.outSeq, index := 0, sub := 0,
          arg := Config.imageInArg cycle, status := 0,
          payload := imageHead s cycle tide offset part.length flags ++ part, tag := [] }
      let s := setSess s k (fun x => { x with outSeq := x.outSeq + 1 })
      sendFragments k cycle tide flags n (offset + 1000) (bs.drop 1000) (sendFrame (sessNet s k) (rd s Obj.PCP_IMAGE) x.ks f s)

/-- The input image of master `m`, when its map is not empty and its session is open (R302). Before the first reference mark the
values are those of the cycle start. -/
def sendImage (prev m : Nat) (s : State) : State :=
  match masterSession s m with
  | none => s
  | some k =>
    if rdBlob s (Obj.IMAGE_MAP (2 * m - 1)) = [] ∨ (sessNet s k).port = 2 then s
    else
      let x := masterImages s m
      let bs := if x.snap.2 = [] then mappedBytes s m else x.snap.2
      let cycle := rd s Obj.IMAGE_CYCLE_NOW
      countBy 64 (sendFragments k cycle x.snap.1 (imageFlags s m prev) 5 0 bs s) Obj.IMAGES_IN_SENT 1

/-! ### The cycle -/

/-- The relevant masters of R303. -/
def relevantMasters (s : State) : List Nat :=
  if rd s Obj.TOKEN_MODE = 1 then [1, 2].filter (fun m => decide (rd s Obj.TOKEN_HOLDER = m))
  else [1, 2].filter (fun m => decide (rdBlob s (Obj.IMAGE_MAP (2 * m - 2)) ≠ []))

/-- Judge the cycle that has ended for a relevant master (R303): once the limit is reached the event is raised and counted. -/
def judgeImages (prev m : Nat) (s : State) : State :=
  if (masterImages s m).complete.contains prev then setMaster m (fun x => { x with missed := 0 }) s
  else
    let n := (masterImages s m).missed + 1
    let s := setMaster m (fun x => { x with missed := n }) s
    if rd s Obj.IMAGE_MISS_LIMIT ≤ n ∧ (masterImages s m).outputsMissing = false then
      emit .outputsMissing noInst (leBytes 1 m) (count (setMaster m (fun x => { x with outputsMissing := true }) s) Obj.IMAGE_MISSES)
    else s

/-- Slots of a user program's last run. -/
def lastSlots (x : UserProg) : List Nat :=
  match x.next with
  | p :: _ => p.2.1
  | [] => x.out

/-- `HOST_VALUE` takes the host values of the last runs (R156, R304). -/
def showHostValues (s : State) : State :=
  (List.range 8).foldl (fun t u =>
    if rdBool t (Obj.PROG_ENABLE u) then
      let bind := rdBlob t (Obj.PROG_BIND u)
      (List.range 64).foldl (fun t k =>
        let e := slice bind (4 * k) 4
        if e.length = 4 ∧ leNat (slice e 0 1) = 3 ∧ leNat (slice e 1 1) < 64 then
          wr t (Obj.HOST_VALUE (leNat (slice e 1 1))) (getD' (lastSlots (userOf t u)) k 0)
        else t) t
    else t) s

/-- What master `m` wrote and was refused in the past cycle is forgotten; images older than the present cycle are too. -/
def freshCycle (k : Nat) (x : MasterImages) : MasterImages :=
  { x with asm := x.asm.filter (fun a => decide (k ≤ a.cycle)), complete := x.complete.filter (fun c => decide (k ≤ c)),
           applied := x.applied.filter (fun c => decide (k ≤ c)), refused := x.refused.filter (fun c => decide (k ≤ c)),
           conflict := false, wrote := [], remembered := [], shadow := [], shadowHits := 0 }

/-- Images of the new cycle that came early join the comparison of R308: the holder's as its writes, the other's as a shadow. -/
def earlyImages (k : Nat) (s : State) : State :=
  let h := rd s Obj.TOKEN_HOLDER
  if rd s Obj.TOKEN_MODE = 0 ∨ h = 0 then s
  else
    let s := match (if (masterImages s h).applied.contains k then imageOf s h k else none) with
      | some es => es.foldl (fun t e => noteHolderWrite h e.1 (writeRaw e.1 e.2) t) s
      | none => s
    match imageOf s (3 - h) k with
    | some es => shadowImage (3 - h) es s
    | none => s

/-- The start of process-image cycle `k` (R300, R302 to R304). -/
def imageCycle (k : Nat) (s : State) : State :=
  let prev := rd s Obj.IMAGE_CYCLE_NOW
  let s := if prev = 0 then s else (relevantMasters s).foldl (fun t m => judgeImages prev m t) s
  let s := showHostValues (wr s Obj.IMAGE_CYCLE_NOW k)
  let s := sendImage prev 2 (sendImage prev 1 s)
  earlyImages k { s with images := s.images.map (freshCycle k) }

/-- IMAGE_CYCLE_START (R300): station time runs to the next start of a cycle. -/
def execImageCycleStart (s : State) : Host.Outcome State Fault Refusal :=
  .next (whenAlive .lookout (fun s =>
    let cyc := rd s Obj.IMAGE_CYCLE * 10000 * nsUnit
    let phase := rd s Obj.IMAGE_PHASE * nsUnit
    let k := (s.time.acc - phase) / cyc + 1
    imageCycle k (runTo (k * cyc + phase) s)) s)

end Sys2Proof.Machine
end

