-- ==== Sys2Proof/Machine/Jtag.lean ====
section
/-! DEFINITION. The JTAG port (R502): boundary-scan instructions, and the debug port behind it. -/

namespace Sys2Proof.Machine

/-- Bytes of a memory region (R72, R73). -/
def regionSize (region : Nat) : Nat :=
  getD' [0, 2 * 2 ^ 20, 10 * 2 ^ 20, 5 * 2 ^ 20, 10 * 2 ^ 20, 30 * 2 ^ 20, 4 * 2 ^ 20, 2 * 2 ^ 20, 2 ^ 20, 4 * 2 ^ 20, 4 * 2 ^ 20,
    8 * 2 ^ 20, 2 * 2 ^ 20, 8 * 2 ^ 20, 12 * 2 ^ 17, 2 ^ 20, 2 ^ 19, 2 ^ 20, 7 * 2 ^ 18, 2 ^ 18] region 0

/-- The debug port is unlocked. -/
def debugOpen (s : State) : Bool := decide (rd s Obj.DEBUG_STATE ≠ 0)

/-- A unit of `DEBUG_HALTED` is halted. -/
def halted (s : State) (unit : Nat) : Bool := bit (rd s Obj.DEBUG_HALTED) unit

/-- Halt a unit or let it run; `DEBUG_STATE` reads 2 while one is halted. -/
def setHalt (unit : Nat) (on : Bool) (s : State) : State :=
  if unit < 31 then
    let v := putBit (rd s Obj.DEBUG_HALTED) unit on
    wrs s [(Obj.DEBUG_HALTED, v), (Obj.DEBUG_STATE, if v = 0 then 1 else 2)]
  else s

/-- An address of the queue descriptors in region 4: queue and offset (R72, R86). -/
def descriptorAt (region addr : Nat) : Option (Nat × Nat) :=
  if region = 4 ∧ addr < 262144 * 32 then some (addr / 32, addr % 32) else none

/-- Write one byte of a descriptor: the fields that stand in the queue take the changed bytes. -/
def pokeDescriptor (id off : Nat) (v : Byte) (s : State) : State :=
  let bs := (descriptorBytes s id).set off v
  let w (o n : Nat) : Nat := leNat (slice bs o n)
  setQueue id (fun q => { q with
    nextSeq := w 8 2, sentSeq := if leafBound (queueClass id) then w 10 2 else q.sentSeq, ackedSeq := w 12 2,
    creditLimit := w 14 2, creditUsed := w 16 2, qstate := bits (w 25 1) 2 0, poisoned := bit (w 25 1) 5, creditBad := bit (w 25 1) 6 }) s

/-- The byte the debug port reads. Where the manual gives no layout it is a free value, until the port itself has written it. -/
def debugRead (s : State) (region addr : Nat) : Byte :=
  match descriptorAt region addr with
  | some (id, off) => getD' (descriptorBytes s id) off 0
  | none =>
    if region = 2 then ringByte s addr
    else if s.mem.any (fun c => c.1 = memKey region addr) then rdMem s (memKey region addr)
    else Config.debugByte region addr s.time.acc

/-- The byte the debug port writes. A write of part of a poisoned word is dropped and reported again (R79). -/
def debugWrite (region addr : Nat) (v : Byte) (s : State) : State :=
  if region = 8 then s
  else if poisoned s region addr then reportError region addr s
  else match descriptorAt region addr with
    | some (id, off) => pokeDescriptor id off v s
    | none =>
      let s := if region = 2 ∧ ringMissing s addr = true then setRing (addr / 163840) (addr % 163840 / 10) missingBytes s else s
      wrMem s (memKey region addr) v

/-- JTAG_ACCESS (R502). EXTEST and CLAMP load as BYPASS unless PORN is low; the debug port acts while it is unlocked, and reaches
neither region 19 nor an address that does not exist. -/
def execJtagAccess (acc : JtagOp) (s : State) : Host.Outcome State Fault Refusal :=
  match acc with
  | .load i =>
    let low := bit s.rp.sources rcPorn
    let i' := if i ≤ 2 ∨ (i ≤ 4 ∧ low = true) then i else 0
    .next { s with dbg := { s.dbg with instr := i' } }
  | .halt u => .next (if debugOpen s then setHalt u true s else s)
  | .resume u => .next (if debugOpen s then setHalt u false s else s)
  | .stepUnit _ => .next s
  | .readMem region addr =>
    if debugOpen s = false ∨ region = 19 then .next s
    else if regionSize region ≤ addr then .fault .noSuchAddress
    else
      let t := if poisoned s region addr then reportError region addr s else s
      .next (send (.tdo (debugRead s region addr)) t)
  | .writeMem region addr v =>
    if debugOpen s = false ∨ region = 19 then .next s
    else if regionSize region ≤ addr then .fault .noSuchAddress
    else .next (debugWrite region addr v s)

end Sys2Proof.Machine
end

