-- ==== Sys2Proof/Machine/Requests.lean ====
section
/-! DEFINITION. Requests of the object protocol: admission of a frame (R284, R291, R297), the order of a session's requests (R286), the
services of R285 with block transfers (R288), and notification acknowledgements (R299). -/

namespace Sys2Proof.Machine

/-- What a service answers: `ARG`, abort code or 0, LAST, payload. -/
structure Answer where
  /-- `ARG` -/
  arg : Nat
  /-- abort code, 0 for success -/
  status : Nat
  /-- LAST -/
  last : Bool
  /-- payload -/
  payload : List Byte
  deriving DecidableEq, Repr

/-- A plain answer with a status. -/
def Answer.plain (status : Nat) : Answer := { arg := 0, status := status, last := false, payload := [] }

/-! ### Reads and block transfers (R285, R288) -/

/-- Bytes a READ may return. -/
abbrev readMax : Nat := 1024

/-- Bytes a block read may return. -/
abbrev blockReadMax : Nat := 16 * 2 ^ 20

/-- Bytes a block write may carry. -/
abbrev blockWriteMax : Nat := 2 ^ 20

/-- READ of session `k`. A value too long is refused, and the read has no effect. -/
def serveRead (k : Nat) (f : ObjFrame) (s : State) : State × Answer :=
  match readCheck s f.index f.sub with
  | .inr code => (s, .plain code)
  | .inl r =>
    let t := readObject k (objKey f.index f.sub) r s
    if readMax < t.2.length then (s, .plain abTooLong)
    else (t.1, { arg := 0, status := 0, last := false, payload := t.2 })

/-- Transfers open in the sessions other than `k`. -/
def transfersOpen (s : State) (k : Nat) : Nat :=
  ((List.range 16).filter (fun j => decide (j ≠ k) && (sess s j).transfer.isSome)).length

/-- Open a transfer of session `k`; an older one of the session ends. -/
def openTransfer (k : Nat) (f : ObjFrame) (write : Bool) (total : Nat) (data : List Byte) (s : State) : State :=
  let x : Transfer := { ident := s.transfers, write := write, index := f.index, sub := f.sub, total := total, data := data }
  setSess { s with transfers := s.transfers % (2 ^ 32 - 1) + 1 } k (fun y => { y with transfer := some x })

/-- BLOCK_READ_START: the snapshot of the whole value. -/
def serveReadStart (k : Nat) (f : ObjFrame) (s : State) : State × Answer :=
  match readCheck s f.index f.sub with
  | .inr code => (s, .plain code)
  | .inl r =>
    if 8 ≤ transfersOpen s k then (s, .plain abResource)
    else
      let t := readObject k (objKey f.index f.sub) r s
      if blockReadMax < t.2.length then (s, .plain abResource)
      else
        (openTransfer k f false t.2.length t.2 t.1,
          { arg := t.2.length, status := 0, last := false, payload := leBytes 4 s.transfers })

/-- The open transfer that a payload names, of the kind asked for. -/
def namedTransfer (s : State) (k : Nat) (write : Bool) (bs : List Byte) : Option Transfer :=
  match (sess s k).transfer with
  | some x => if x.write = write ∧ x.ident = leNat (slice bs 0 4) then some x else none
  | none => none

/-- BLOCK_READ_SEGMENT: bytes of the snapshot from an offset. -/
def serveReadSegment (k : Nat) (f : ObjFrame) (s : State) : State × Answer :=
  if f.payload.length ≠ 4 then (s, .plain abLength)
  else match namedTransfer s k false f.payload with
    | none => (s, .plain abTransfer)
    | some x =>
      (s, { arg := 0, status := 0, last := decide (x.total ≤ f.arg + 1024), payload := slice x.data f.arg 1024 })

/-- BLOCK_WRITE_START: checks 3 to 5 of R295, and the limits of R288. -/
def serveWriteStart (k : Nat) (f : ObjFrame) (s : State) : State × Answer :=
  match presentRow (optionCode s) f.index f.sub with
  | none => (s, .plain abNoObject)
  | some r =>
    if r.acc = .ro then (s, .plain abReadOnly)
    else if roleMay s k (objKey f.index f.sub) r = false then (s, .plain abAccess)
    else if blockWriteMax < f.arg ∨ 8 ≤ transfersOpen s k then (s, .plain abResource)
    else
      (openTransfer k f true f.arg [] s, { arg := 0, status := 0, last := false, payload := leBytes 4 s.transfers })

/-- BLOCK_WRITE_SEGMENT: bytes at the next offset; anything else is out of order. -/
def serveWriteSegment (k : Nat) (f : ObjFrame) (s : State) : State × Answer :=
  if f.payload.length < 4 then (s, .plain abLength)
  else match namedTransfer s k true f.payload with
    | none => (s, .plain abTransfer)
    | some x =>
      let bs := f.payload.drop 4
      if f.arg ≠ x.data.length ∨ x.total < x.data.length + bs.length then (s, .plain abSegment)
      else (setSess s k (fun y => { y with transfer := some { x with data := x.data ++ bs } }), .plain 0)

/-- BLOCK_WRITE_END: length and CRC-32C, then the value as a WRITE. The transfer ends when the value is accepted (R296). -/
def serveWriteEnd (k : Nat) (f : ObjFrame) (s : State) : State × Answer :=
  if f.payload.length ≠ 8 then (s, .plain abLength)
  else match namedTransfer s k true f.payload with
    | none => (s, .plain abTransfer)
    | some x =>
      if x.data.length ≠ x.total ∨ crc32c x.data ≠ leNat (slice f.payload 4 4) then (s, .plain abTransferCheck)
      else
        let w := writeObject k f.seq x.index x.sub x.data s
        (if w.2 = 0 then setSess w.1 k (fun y => { y with transfer := none }) else w.1, .plain w.2)

/-! ### Execution (R285, R287, R477) -/

/-- Services the fallback service serves (R477). -/
def fallbackMay (service : Nat) : Bool := [0x03, 0x04, 0x10, 0x11].contains service

/-- The service of a request of session `k` (R285). -/
def serve (k : Nat) (f : ObjFrame) (s : State) : State × Answer :=
  if s.rp.fallback ∧ fallbackMay f.service = false then (s, .plain abState)
  else match f.service with
    | 0x03 => (s, .plain 0)
    | 0x04 => (s, .plain 0)
    | 0x10 => serveRead k f s
    | 0x11 =>
      let w := writeObject k f.seq f.index f.sub f.payload s
      (w.1, .plain w.2)
    | 0x12 => serveReadStart k f s
    | 0x13 => serveReadSegment k f s
    | 0x14 => serveWriteStart k f s
    | 0x15 => serveWriteSegment k f s
    | 0x16 => serveWriteEnd k f s
    | _ => (s, .plain abService)

/-- Responses a session keeps for repeats (R286). -/
abbrev repliesMax : Nat := 16

/-- Execute one request at its place in the order (R286, R287): the service, the recorded response, and what follows the response: the
session's end, the end of an installation session (R294), a reset (R460). -/
def executeRequest (k : Nat) (net : NetAddr) (f : ObjFrame) (s : State) : State :=
  let x := sess s k
  let s := setSess s k (fun y => { y with execd := f.seq })
  let s := pmcEvent 0x13 0xFFFF 1 (countBy 64 s (Obj.SESSION_REQUESTS k) 1)
  let t := serve k f s
  let r := responseFrame f x.ident t.2.arg t.2.status t.2.last t.2.payload
  let s := t.1
  let s := if (sess s k).ident = x.ident then
      setSess s k (fun y => { y with replies := ({ seq := f.seq, frame := r } :: y.replies).take repliesMax })
    else s
  let s := respond net x.ks r s
  let s := if f.service = 0x03 ∧ t.2.status = 0 then endSession k none s else s
  applyReset (closeInstallation s)

/-! ### Order (R286) -/

/-- Execute the held requests of session `k` that now follow in order. -/
def drainHeld (k : Nat) : Nat → State → State
  | 0, s => s
  | n + 1, s =>
    let x := sess s k
    match x.held.find? (fun h => h.frame.seq = x.execd + 1) with
    | none => s
    | some h =>
      let s := setSess s k (fun y => { y with held := y.held.filter (fun g => g.frame.seq ≠ h.frame.seq) })
      drainHeld k n (executeRequest k h.net h.frame s)

/-- A request of session `k` takes its place (R286): executed, held, answered again, or dropped. -/
def orderRequest (k : Nat) (net : NetAddr) (f : ObjFrame) (s : State) : State :=
  let x := sess s k
  let e := x.execd
  if f.seq = e + 1 then drainHeld k 16 (executeRequest k net f s)
  else if e + 2 ≤ f.seq ∧ f.seq ≤ e + 16 then
    (if x.held.any (fun h => h.frame.seq = f.seq) then s
     else setSess s k (fun y => { y with held := y.held ++ [{ net := net, frame := f, since := s.time.acc }] }))
  else if f.seq ≤ e ∧ e ≤ f.seq + 15 then
    (match x.replies.find? (fun r => r.seq = f.seq) with
     | some r => sendFrame net (rd s Obj.PCP_OBJECT) x.ks r.frame s
     | none => s)
  else count s Obj.SEQ_REJECTS

/-- NOTIFY_ACK (R299): notifications up to `ARG` are acknowledged, and the window moves on. -/
def takeAck (k : Nat) (f : ObjFrame) (s : State) : State :=
  pumpSession k (setSess s k (fun x => { x with notes := x.notes.filter (fun n => decide (n.seq = 0) || decide (f.arg < n.seq)) }))

/-- An admitted frame of session `k`. Process images and acknowledgements stand outside the order of requests; process images are not
allowed on HSVC, nor for a session that is not of master A or B (R281, R289). -/
def routeFrame (k : Nat) (net : NetAddr) (f : ObjFrame) (s : State) : State :=
  let no (code : Nat) : State := respond net (sess s k).ks (responseFrame f (sess s k).ident 0 code false []) s
  if f.service = 0x21 then takeAck k f s
  else if f.service = 0x30 then
    (if net.port = 2 then no abService
     else if s.rp.fallback then no abState
     else if sessMaster s k = 1 ∨ sessMaster s k = 2 then takeImage k net f s
     else no abAccess)
  else orderRequest k net f s

/-! ### Admission (R284, R291, R297) -/

/-- The key of a session that has just ended (R297). -/
def endedKey (s : State) (ident : Nat) : Option (List Byte) :=
  ((s.sessions.flatMap (fun x => x.ended)).find? (fun p => p.1 = ident)).map (·.2)

/-- A frame arrives (R284, R291, R297): its form, its session, its tag. A valid one names where the session is reached. -/
def takeFrame (net : NetAddr) (f : ObjFrame) (s : State) : State :=
  if hostUp s net.port = false then s
  else
    let s := countIn net.port s
    if addressed s net = false then countDropped net.port s
    else match findSession s f.session [2, 3] with
    | some k =>
      let x := sess s k
      if frameForm f (if x.ks = [] then 0 else 32) = false then countDropped net.port s
      else if f.tag ≠ frameTag x.ks f then count s Obj.BAD_TAGS
      else routeFrame k net f (notePlace k net s)
    | none =>
      if frameForm f 0 = false ∧ frameForm f 32 = false then countDropped net.port s
      else match endedKey s f.session with
        | some ks => if f.tag = frameTag ks f then respond net [] (responseFrame f f.session 0 abSession false []) s else s
        | none => s

/-- The service codes of R285 that a host sends after its session is open. -/
def hostService (c : Nat) : Bool := [0x03, 0x04, 0x10, 0x11, 0x12, 0x13, 0x14, 0x15, 0x16, 0x21, 0x30].contains c

/-- A frame of a command: the command's name gives its service, unless the frame carries a code that R285 does not list. -/
def asService (code : Nat) (f : ObjFrame) : ObjFrame := if hostService f.service then { f with service := code } else f

/-- SESSION_CLOSE (R285, R293). -/
def execSessionClose (net : NetAddr) (f : ObjFrame) (s : State) : Host.Outcome State Fault Refusal :=
  .next (takeFrame net (asService 0x03 f) s)

/-- KEEPALIVE (R285). -/
def execKeepalive (net : NetAddr) (f : ObjFrame) (s : State) : Host.Outcome State Fault Refusal :=
  .next (takeFrame net (asService 0x04 f) s)

/-- READ (R285). -/
def execRead (net : NetAddr) (f : ObjFrame) (s : State) : Host.Outcome State Fault Refusal :=
  .next (takeFrame net (asService 0x10 f) s)

/-- WRITE (R285). -/
def execWrite (net : NetAddr) (f : ObjFrame) (s : State) : Host.Outcome State Fault Refusal :=
  .next (takeFrame net (asService 0x11 f) s)

/-- BLOCK_READ_START (R288). -/
def execBlockReadStart (net : NetAddr) (f : ObjFrame) (s : State) : Host.Outcome State Fault Refusal :=
  .next (takeFrame net (asService 0x12 f) s)

/-- BLOCK_READ_SEGMENT (R288). -/
def execBlockReadSegment (net : NetAddr) (f : ObjFrame) (s : State) : Host.Outcome State Fault Refusal :=
  .next (takeFrame net (asService 0x13 f) s)

/-- BLOCK_WRITE_START (R288). -/
def execBlockWriteStart (net : NetAddr) (f : ObjFrame) (s : State) : Host.Outcome State Fault Refusal :=
  .next (takeFrame net (asService 0x14 f) s)

/-- BLOCK_WRITE_SEGMENT (R288). -/
def execBlockWriteSegment (net : NetAddr) (f : ObjFrame) (s : State) : Host.Outcome State Fault Refusal :=
  .next (takeFrame net (asService 0x15 f) s)

/-- BLOCK_WRITE_END (R288). -/
def execBlockWriteEnd (net : NetAddr) (f : ObjFrame) (s : State) : Host.Outcome State Fault Refusal :=
  .next (takeFrame net (asService 0x16 f) s)

/-- NOTIFY_ACK (R299). -/
def execNotifyAck (net : NetAddr) (f : ObjFrame) (s : State) : Host.Outcome State Fault Refusal :=
  .next (takeFrame net (asService 0x21 f) s)

/-- IMAGE_OUT (R301). -/
def execImageOut (net : NetAddr) (f : ObjFrame) (s : State) : Host.Outcome State Fault Refusal :=
  .next (takeFrame net (asService 0x30 f) s)

/-- TRANSFER_TIMEOUT_EXPIRY (R288): the open transfer of session `k` has made no progress for `TRANSFER_TIMEOUT`. -/
def execTransferTimeoutExpiry (k : Nat) (s : State) : Host.Outcome State Fault Refusal :=
  .next (whenAlive .lookout (fun s => setSess s k (fun x => { x with transfer := none })) s)

/-- How long a request is held for its gap to close, 100 ms in 2⁻²⁴ ns (R286). -/
def heldLimit : Nat := 100000000 * nsUnit

/-- HELD_REQUEST_EXPIRY (R286): station time runs until the oldest held request of session `k` has waited 100 ms; those that have
waited that long by then are dropped. -/
def execHeldRequestExpiry (k : Nat) (s : State) : Host.Outcome State Fault Refusal :=
  .next (whenAlive .lookout (fun s =>
    match (sess s k).held with
    | [] => s
    | h :: _ =>
      let s := runTo (h.since + heldLimit) s
      let keep := (sess s k).held.filter (fun g => decide (s.time.acc < g.since + heldLimit))
      setSess (countBy 32 s Obj.SEQ_REJECTS ((sess s k).held.length - keep.length)) k (fun x => { x with held := keep })) s)

end Sys2Proof.Machine
end

