-- ==== Sys2Proof/Machine/Named.lean ====
section
/-! DEFINITION. The named writes and reads of the command table: each is the WRITE or READ of one object by a session, taken at its place
in that session's order (R286, R287, R295). -/

namespace Sys2Proof.Machine

/-- The request of a session that a named command stands for: its next `SEQ`, its own address, the tag taken as good. -/
def namedFrame (s : State) (k service key : Nat) (bs : List Byte) : ObjFrame :=
  { version := 1, service := service, flags := 0, session := (sess s k).ident, seq := (sess s k).execd + 1, index := keyIndex key,
    sub := keySub key, arg := 0, status := 0, payload := bs, tag := [] }

/-- A named command of session `k`: it runs when the session is open and its port serves. -/
def namedRequest (k service key : Nat) (bs : List Byte) (s : State) : State :=
  let net := sessNet s k
  if hostUp s net.port && sessOpen s k then
    drainHeld k 16 (executeRequest k net (namedFrame s k service key bs) (countIn net.port s))
  else s

/-- Bytes of a number written to an object: as many as its type has (R6). -/
def namedBytes (key v : Nat) : List Byte :=
  match findRow (keyIndex key) (keySub key) with
  | some r => leBytes r.ty.size v
  | none => []

/-- The object of a named command; an instance that does not exist names an object that does not exist (R8). -/
def only (p : Prop) [Decidable p] (key : Nat) : Nat := if p then key else 0

/-- A named write of a number. -/
def namedWrite (k key v : Nat) (s : State) : State := namedRequest k 0x11 key (namedBytes key v) s

/-- TOKEN_REQUEST (R306): session `k` writes `TOKEN_REQUEST`. -/
def execTokenRequest (k v : Nat) (s : State) : Host.Outcome State Fault Refusal :=
  .next (namedWrite k Obj.TOKEN_REQUEST v s)

/-- TOKEN_FORCED (R306): session `k` writes a master code + 0x80 to `TOKEN_REQUEST`. -/
def execTokenForced (k v : Nat) (s : State) : Host.Outcome State Fault Refusal :=
  .next (namedWrite k Obj.TOKEN_REQUEST v s)

/-- TOKEN_RELEASE (R306): session `k` writes `TOKEN_RELEASE`. -/
def execTokenRelease (k v : Nat) (s : State) : Host.Outcome State Fault Refusal :=
  .next (namedWrite k Obj.TOKEN_RELEASE v s)

/-- SESSION_EVICT (R293): session `k` writes `SESSION_EVICT`. -/
def execSessionEvict (k v : Nat) (s : State) : Host.Outcome State Fault Refusal :=
  .next (namedWrite k Obj.SESSION_EVICT v s)

/-- ROLE_KEY_WRITE (R294): session `k` writes a role key as the frame carries it. -/
def execRoleKeyWrite (k which : Nat) (value : List Byte) (s : State) : Host.Outcome State Fault Refusal :=
  .next (namedRequest k 0x11 (only (which < 4) (Obj.ROLE_KEY which)) value s)

/-- QUEUE_POST (R87): session `k` writes `QUEUE_POST`. -/
def execQueuePost (k : Nat) (value : List Byte) (s : State) : Host.Outcome State Fault Refusal :=
  .next (namedRequest k 0x11 Obj.QUEUE_POST value s)

/-- QUEUE_SELECT (R88): session `k` writes `QUEUE_SELECT`. -/
def execQueueSelect (k v : Nat) (s : State) : Host.Outcome State Fault Refusal :=
  .next (namedWrite k Obj.QUEUE_SELECT v s)

/-- QUEUE_RELEASE (R88): session `k` writes `QUEUE_RELEASE`. -/
def execQueueRelease (k : Nat) (value : List Byte) (s : State) : Host.Outcome State Fault Refusal :=
  .next (namedRequest k 0x11 Obj.QUEUE_RELEASE value s)

/-- QUEUE_CLEAR_RETURNED (R88): session `k` writes `QUEUE_CLEAR_RETURNED`. -/
def execQueueClearReturned (k v : Nat) (s : State) : Host.Outcome State Fault Refusal :=
  .next (namedWrite k Obj.QUEUE_CLEAR_RETURNED v s)

/-- SUB_ENABLE (R100): session `k` enables or disables subscription `n`. -/
def execSubEnable (k n v : Nat) (s : State) : Host.Outcome State Fault Refusal :=
  .next (namedWrite k (only (n < 16) (Obj.SUB_ENABLE n)) v s)

/-- SUB_RELEASE (R99): session `k` releases records of subscription `n`. -/
def execSubRelease (k n v : Nat) (s : State) : Host.Outcome State Fault Refusal :=
  .next (namedWrite k (only (n < 16) (Obj.SUB_RELEASE n)) v s)

/-- MISS_COUNTER_CLEAR (R22): session `k` writes miss counter `which`: 0 reference, 1 demand, 2 cutoff. -/
def execMissCounterClear (k which v : Nat) (s : State) : Host.Outcome State Fault Refusal :=
  .next (namedWrite k (only (which < 3) (Obj.REFERENCE_MISSES + which)) v s)

/-- RT_MEASURE (R63): session `k` writes `RT_MEASURE` of drove `d`. -/
def execRtMeasure (k d v : Nat) (s : State) : Host.Outcome State Fault Refusal :=
  .next (namedWrite k (only (d < 128) (Obj.RT_MEASURE d)) v s)

/-- REBALANCE (R143): session `k` writes `REBALANCE`. -/
def execRebalance (k v : Nat) (s : State) : Host.Outcome State Fault Refusal :=
  .next (namedWrite k Obj.REBALANCE v s)

/-- PLAUS_CLEAR (R149): session `k` writes `PLAUS_CLEAR`. -/
def execPlausClear (k v : Nat) (s : State) : Host.Outcome State Fault Refusal :=
  .next (namedWrite k Obj.PLAUS_CLEAR v s)

/-- TRACE_ARM (R158): session `k` writes 1 to `TRACE_CONTROL`. -/
def execTraceArm (k : Nat) (s : State) : Host.Outcome State Fault Refusal :=
  .next (namedWrite k Obj.TRACE_CONTROL 1 s)

/-- TRACE_MANUAL_TRIGGER (R158): session `k` writes 2 to `TRACE_CONTROL`. -/
def execTraceManualTrigger (k : Nat) (s : State) : Host.Outcome State Fault Refusal :=
  .next (namedWrite k Obj.TRACE_CONTROL 2 s)

/-- TRACE_STOP (R158): session `k` writes 0 to `TRACE_CONTROL`. -/
def execTraceStop (k : Nat) (s : State) : Host.Outcome State Fault Refusal :=
  .next (namedWrite k Obj.TRACE_CONTROL 0 s)

/-- CORE_RESTART (R195): session `k` writes `CORE_RESTART`. -/
def execCoreRestart (k v : Nat) (s : State) : Host.Outcome State Fault Refusal :=
  .next (namedWrite k Obj.CORE_RESTART v s)

/-- RAMP_DOWN_REQUEST (R196): session `k` writes `RAMP_DOWN_REQUEST`. -/
def execRampDownRequest (k v : Nat) (s : State) : Host.Outcome State Fault Refusal :=
  .next (namedWrite k Obj.RAMP_DOWN_REQUEST v s)

/-- ISLAND_CLEAR (R186): session `k` writes `ISLAND_CLEAR` of converter `c`. -/
def execIslandClear (k c v : Nat) (s : State) : Host.Outcome State Fault Refusal :=
  .next (namedWrite k (only (c < 2) (Obj.ISLAND_CLEAR c)) v s)

/-- GRID_MODE_WRITE (R174): session `k` writes `GRID_MODE` of converter `c`. -/
def execGridModeWrite (k c v : Nat) (s : State) : Host.Outcome State Fault Refusal :=
  .next (namedWrite k (only (c < 2) (Obj.GRID_MODE c)) v s)

/-- SCAN_ABORT (R213): session `k` writes `SCAN_ABORT`. -/
def execScanAbort (k v : Nat) (s : State) : Host.Outcome State Fault Refusal :=
  .next (namedWrite k Obj.SCAN_ABORT v s)

/-- SELF_TEST_COMMAND (R235): session `k` writes opcode 0x01 to `PROT_COMMAND`. -/
def execSelfTestCommand (k leaf : Nat) (args : List Byte) (s : State) : Host.Outcome State Fault Refusal :=
  .next (namedRequest k 0x11 (only (leaf < 16384) (Obj.PROT_COMMAND leaf)) ((1 : Byte) :: args) s)

/-- SC_CLEAR_COMMAND (R232): session `k` writes opcode 0x02 to `PROT_COMMAND`. -/
def execScClearCommand (k leaf : Nat) (s : State) : Host.Outcome State Fault Refusal :=
  .next (namedRequest k 0x11 (only (leaf < 16384) (Obj.PROT_COMMAND leaf)) [(2 : Byte)] s)

/-- PERMANENT_BYPASS_COMMAND (R238): session `k` writes opcode 0x03 to `PROT_COMMAND`. -/
def execPermanentBypassCommand (k leaf : Nat) (s : State) : Host.Outcome State Fault Refusal :=
  .next (namedRequest k 0x11 (only (leaf < 16384) (Obj.PROT_COMMAND leaf)) [(3 : Byte)] s)

/-- RELEASE_BYPASS_COMMAND (R232): session `k` writes opcode 0x04 to `PROT_COMMAND`. -/
def execReleaseBypassCommand (k leaf : Nat) (s : State) : Host.Outcome State Fault Refusal :=
  .next (namedRequest k 0x11 (only (leaf < 16384) (Obj.PROT_COMMAND leaf)) [(4 : Byte)] s)

/-- PEN_WITHOUT_BYPASS_COMMAND (R238): session `k` writes opcode 0x80 to `PROT_COMMAND`. -/
def execPenWithoutBypassCommand (k leaf : Nat) (s : State) : Host.Outcome State Fault Refusal :=
  .next (namedRequest k 0x11 (only (leaf < 16384) (Obj.PROT_COMMAND leaf)) [(0x80 : Byte)] s)

/-- CLEAR_RETIREMENT_COMMAND (R239): session `k` writes opcode 0x81 to `PROT_COMMAND`. -/
def execClearRetirementCommand (k leaf : Nat) (s : State) : Host.Outcome State Fault Refusal :=
  .next (namedRequest k 0x11 (only (leaf < 16384) (Obj.PROT_COMMAND leaf)) [(0x81 : Byte)] s)

/-- LEAF_READMIT (R272): session `k` writes `LEAF_READMIT`. -/
def execLeafReadmit (k leaf v : Nat) (s : State) : Host.Outcome State Fault Refusal :=
  .next (namedWrite k (only (leaf < 16384) (Obj.LEAF_READMIT leaf)) v s)

/-- REJOIN_REQUEST (R267): session `k` writes `REJOIN_REQUEST`. -/
def execRejoinRequest (k v : Nat) (s : State) : Host.Outcome State Fault Refusal :=
  .next (namedWrite k Obj.REJOIN_REQUEST v s)

/-- VALIDATE (R324): session `k` writes `VALIDATE`. -/
def execValidate (k v : Nat) (s : State) : Host.Outcome State Fault Refusal :=
  .next (namedWrite k Obj.VALIDATE v s)

/-- CONFIG_COMMIT (R326): session `k` writes `CONFIG_COMMIT`. -/
def execConfigCommit (k v : Nat) (s : State) : Host.Outcome State Fault Refusal :=
  .next (namedWrite k Obj.CONFIG_COMMIT v s)

/-- DRAFT_FROM_COMMITTED (R330): session `k` writes 1 to `DRAFT_DISCARD`. -/
def execDraftFromCommitted (k : Nat) (s : State) : Host.Outcome State Fault Refusal :=
  .next (namedWrite k Obj.DRAFT_DISCARD 1 s)

/-- DRAFT_FROM_FACTORY (R330): session `k` writes 2 to `DRAFT_DISCARD`. -/
def execDraftFromFactory (k : Nat) (s : State) : Host.Outcome State Fault Refusal :=
  .next (namedWrite k Obj.DRAFT_DISCARD 2 s)

/-- HOLD (R333): session `k` requests HELD. -/
def execHold (k : Nat) (s : State) : Host.Outcome State Fault Refusal :=
  .next (namedWrite k Obj.STATE_REQUEST 1 s)

/-- CHARGE (R333): session `k` requests the pre-charge. -/
def execCharge (k : Nat) (s : State) : Host.Outcome State Fault Refusal :=
  .next (namedWrite k Obj.STATE_REQUEST 2 s)

/-- RUN (R339): session `k` requests RUNNING. -/
def execRun (k : Nat) (s : State) : Host.Outcome State Fault Refusal :=
  .next (namedWrite k Obj.STATE_REQUEST 3 s)

/-- STOP (R333): session `k` requests the ramp-down. -/
def execStop (k : Nat) (s : State) : Host.Outcome State Fault Refusal :=
  .next (namedWrite k Obj.STATE_REQUEST 4 s)

/-- BLOCK (R333): session `k` requests BLOCKED. -/
def execBlock (k : Nat) (s : State) : Host.Outcome State Fault Refusal :=
  .next (namedWrite k Obj.STATE_REQUEST 5 s)

/-- DISCHARGE (R340): session `k` requests READY, once the arms are discharged. -/
def execDischarge (k : Nat) (s : State) : Host.Outcome State Fault Refusal :=
  .next (namedWrite k Obj.STATE_REQUEST 6 s)

/-- SAFE_RESET (R333): session `k` requests to leave SAFE. -/
def execSafeReset (k : Nat) (s : State) : Host.Outcome State Fault Refusal :=
  .next (namedWrite k Obj.STATE_REQUEST 7 s)

/-- TIME_STEP_PERMIT (R358): session `k` writes `TIME_STEP_PERMIT`. -/
def execTimeStepPermit (k v : Nat) (s : State) : Host.Outcome State Fault Refusal :=
  .next (namedWrite k Obj.TIME_STEP_PERMIT v s)

/-- TIME_SET (R360): session `k` writes `TIME_SET`. -/
def execTimeSet (k v : Nat) (s : State) : Host.Outcome State Fault Refusal :=
  .next (namedWrite k Obj.TIME_SET v s)

/-- TIME_INCREMENT_WRITE (R353): session `k` writes `TIME_INCREMENT`. -/
def execTimeIncrementWrite (k v : Nat) (s : State) : Host.Outcome State Fault Refusal :=
  .next (namedWrite k Obj.TIME_INCREMENT v s)

/-- RATE_ADJUST_WRITE (R353): session `k` writes `RATE_ADJUST`. -/
def execRateAdjustWrite (k v : Nat) (s : State) : Host.Outcome State Fault Refusal :=
  .next (namedWrite k Obj.RATE_ADJUST v s)

/-- SNAPSHOT_TRIGGER (R381): session `k` writes `SNAPSHOT_TRIGGER`. -/
def execSnapshotTrigger (k v : Nat) (s : State) : Host.Outcome State Fault Refusal :=
  .next (namedWrite k Obj.SNAPSHOT_TRIGGER v s)

/-- ENERGY_PRESET (R382): session `k` writes `ENERGY_PRESET` of meter `m`. -/
def execEnergyPreset (k m : Nat) (value : List Byte) (s : State) : Host.Outcome State Fault Refusal :=
  .next (namedRequest k 0x11 (only (m < 2) (Obj.ENERGY_PRESET m)) value s)

/-- METER_FLAGS_CLEAR (R390): session `k` writes `METER_FLAGS_CLEAR` of meter `m`. -/
def execMeterFlagsClear (k m v : Nat) (s : State) : Host.Outcome State Fault Refusal :=
  .next (namedWrite k (only (m < 2) (Obj.METER_FLAGS_CLEAR m)) v s)

/-- CAL_CHANNELS (R386): session `k` writes `CAL_CHANNELS`. -/
def execCalChannels (k v : Nat) (s : State) : Host.Outcome State Fault Refusal :=
  .next (namedWrite k Obj.CAL_CHANNELS v s)

/-- SAR_DATA_READ (R398): session `k` reads `SAR_DATA` of a converter, which takes the register. -/
def execSarDataRead (k conv : Nat) (s : State) : Host.Outcome State Fault Refusal :=
  .next (namedRequest k 0x10 (only (conv < 4) (Obj.SAR_DATA conv)) [] s)

/-- SAR_CAL (R400): session `k` writes `SAR_CAL`. -/
def execSarCal (k v : Nat) (s : State) : Host.Outcome State Fault Refusal :=
  .next (namedWrite k Obj.SAR_CAL v s)

/-- CMP_CLEAR (R405): session `k` writes `CMP_CLEAR`. -/
def execCmpClear (k v : Nat) (s : State) : Host.Outcome State Fault Refusal :=
  .next (namedWrite k Obj.CMP_CLEAR v s)

/-- PWM_DUTY_WRITE (R410): session `k` writes `PWM_DUTY` of pair `q`. -/
def execPwmDutyWrite (k q v : Nat) (s : State) : Host.Outcome State Fault Refusal :=
  .next (namedWrite k (only (q < 12) (Obj.PWM_DUTY q)) v s)

/-- GPIO_OUT_WRITE (R413): session `k` writes `GPIO_OUT`. -/
def execGpioOutWrite (k v : Nat) (s : State) : Host.Outcome State Fault Refusal :=
  .next (namedWrite k Obj.GPIO_OUT v s)

/-- MBUS_REQUEST (R419): session `k` writes `MBUS_REQUEST`. -/
def execMbusRequest (k : Nat) (value : List Byte) (s : State) : Host.Outcome State Fault Refusal :=
  .next (namedRequest k 0x11 Obj.MBUS_REQUEST value s)

/-- SAFETY_RESET (R449): session `k` writes `SAFETY_RESET`. -/
def execSafetyReset (k v : Nat) (s : State) : Host.Outcome State Fault Refusal :=
  .next (namedWrite k Obj.SAFETY_RESET v s)

/-- SAFETY_SESSION_RESET (R449): safety session `k` writes `SAFETY_SESSION_RESET`. -/
def execSafetySessionReset (k v : Nat) (s : State) : Host.Outcome State Fault Refusal :=
  .next (namedWrite k Obj.SAFETY_SESSION_RESET v s)

/-- TRIP_RELEASE (R436): session `k` writes `TRIP_RELEASE`. -/
def execTripRelease (k v : Nat) (s : State) : Host.Outcome State Fault Refusal :=
  .next (namedWrite k Obj.TRIP_RELEASE v s)

/-- SAFETY_DEMAND (R431): safety session `k` writes `SAFETY_DEMAND`. -/
def execSafetyDemand (k v : Nat) (s : State) : Host.Outcome State Fault Refusal :=
  .next (namedWrite k Obj.SAFETY_DEMAND v s)

/-- SAFETY_SELFTEST (R451): safety session `k` writes `SAFETY_SELFTEST`. -/
def execSafetySelftest (k v : Nat) (s : State) : Host.Outcome State Fault Refusal :=
  .next (namedWrite k Obj.SAFETY_SELFTEST v s)

/-- SAFETY_CONFIRM (R450): safety session `k` writes `SAFETY_CONFIRM`. -/
def execSafetyConfirm (k v : Nat) (s : State) : Host.Outcome State Fault Refusal :=
  .next (namedWrite k Obj.SAFETY_CONFIRM v s)

/-- CORE_RESET (R460): session `k` writes 1 to `DEVICE_RESET`. -/
def execCoreReset (k : Nat) (s : State) : Host.Outcome State Fault Refusal :=
  .next (namedWrite k Obj.DEVICE_RESET 1 s)

/-- SYSTEM_RESET (R460): session `k` writes 2 to `DEVICE_RESET`. -/
def execSystemReset (k : Nat) (s : State) : Host.Outcome State Fault Refusal :=
  .next (namedWrite k Obj.DEVICE_RESET 2 s)

/-- FULL_RESET (R460): session `k` writes 3 to `DEVICE_RESET`. -/
def execFullReset (k : Nat) (s : State) : Host.Outcome State Fault Refusal :=
  .next (namedWrite k Obj.DEVICE_RESET 3 s)

/-- POWER_RETRY (R476): session `k` writes `POWER_RETRY`. -/
def execPowerRetry (k v : Nat) (s : State) : Host.Outcome State Fault Refusal :=
  .next (namedWrite k Obj.POWER_RETRY v s)

/-- POWER_MAX_STATE_WRITE (R475): session `k` writes `POWER_MAX_STATE`. -/
def execPowerMaxStateWrite (k v : Nat) (s : State) : Host.Outcome State Fault Refusal :=
  .next (namedWrite k Obj.POWER_MAX_STATE v s)

/-- NEXT_DISPATCH_WRITE (R473): session `k` writes `NEXT_DISPATCH`. -/
def execNextDispatchWrite (k v : Nat) (s : State) : Host.Outcome State Fault Refusal :=
  .next (namedWrite k Obj.NEXT_DISPATCH v s)

/-- LOG_CURSOR_WRITE (R492): session `k` writes its `LOG_CURSOR`. -/
def execLogCursorWrite (k v : Nat) (s : State) : Host.Outcome State Fault Refusal :=
  .next (namedWrite k (Obj.LOG_CURSOR k) v s)

/-- ALARM_ACK (R493): session `k` writes `ALARM_ACK`. -/
def execAlarmAck (k v : Nat) (s : State) : Host.Outcome State Fault Refusal :=
  .next (namedWrite k Obj.ALARM_ACK v s)

/-- PMC_SETTINGS_WRITE (R496): session `k` writes a setting of counter `c`. -/
def execPmcSettingsWrite (k c sub v : Nat) (s : State) : Host.Outcome State Fault Refusal :=
  .next (namedWrite k (only (c < 32 ∧ 1 ≤ sub ∧ sub ≤ 7 ∧ sub ≠ 5) (objKey (0x2260 + c) sub)) v s)

/-- PMC_VALUE_WRITE (R497): session `k` writes `PMC_VALUE` of counter `c`. -/
def execPmcValueWrite (k c v : Nat) (s : State) : Host.Outcome State Fault Refusal :=
  .next (namedWrite k (only (c < 32) (Obj.PMC_VALUE c)) v s)

/-- PMC_STATUS_CLEAR (R497): session `k` writes `PMC_STATUS_CLEAR`. -/
def execPmcStatusClear (k v : Nat) (s : State) : Host.Outcome State Fault Refusal :=
  .next (namedWrite k Obj.PMC_STATUS_CLEAR v s)

/-- PMC_FREEZE (R496): session `k` writes `PMC_FREEZE`. -/
def execPmcFreeze (k v : Nat) (s : State) : Host.Outcome State Fault Refusal :=
  .next (namedWrite k Obj.PMC_FREEZE v s)

/-- PMC_SAMPLE_RELEASE (R499): session `k` writes `PMC_SAMPLE_RELEASE`. -/
def execPmcSampleRelease (k v : Nat) (s : State) : Host.Outcome State Fault Refusal :=
  .next (namedWrite k Obj.PMC_SAMPLE_RELEASE v s)

/-- HIST_CLEAR (R500): session `k` writes `HIST_CLEAR` of histogram `h`. -/
def execHistClear (k h v : Nat) (s : State) : Host.Outcome State Fault Refusal :=
  .next (namedWrite k (only (h < 8) (Obj.HIST_CLEAR h)) v s)

/-- DEBUG_CHALLENGE (R502): session `k` reads `DEBUG_CHALLENGE`. -/
def execDebugChallenge (k : Nat) (s : State) : Host.Outcome State Fault Refusal :=
  .next (namedRequest k 0x10 Obj.DEBUG_CHALLENGE [] s)

/-- DEBUG_UNLOCK (R502): session `k` writes `DEBUG_UNLOCK`. -/
def execDebugUnlock (k : Nat) (mac : List Byte) (s : State) : Host.Outcome State Fault Refusal :=
  .next (namedRequest k 0x11 Obj.DEBUG_UNLOCK mac s)

/-- DEBUG_LOCK (R502): session `k` writes `DEBUG_LOCK`. -/
def execDebugLock (k v : Nat) (s : State) : Host.Outcome State Fault Refusal :=
  .next (namedWrite k Obj.DEBUG_LOCK v s)

end Sys2Proof.Machine
end

