-- ==== Sys2Proof/Machine/SlackWater.lean ====
section
/-! DEFINITION. Slack-water frames: their records (R53, R54), which leaf a frame serves and what it carries (R95 to R97), and what
a returned one brings (R89, R249, R254). -/

namespace Sys2Proof.Machine

/-! ### Records (R54) -/

/-- Payload bytes padded to a multiple of 8. -/
def padTo8 (bs : List Byte) : List Byte := bs ++ List.replicate ((8 - bs.length % 8) % 8) 0

/-- A record: type, class and flags, `SEQ`, epoch, payload. -/
def linkRecord (kind flags seq epoch : Nat) (body : List Byte) : List Byte :=
  leBytes 1 kind ++ leBytes 1 flags ++ leBytes 2 body.length ++ leBytes 2 seq ++ leBytes 1 epoch ++ [0] ++ padTo8 body

/-- The segment of queue `q` at its sending point: its message, whether it is the last, and its payload. -/
def Queue.nextSegment (q : Queue) : Option (Msg × Bool × List Byte) :=
  q.sending.map (fun m =>
    let i := q.sendSeg m
    (m, decide (i + 1 = segCount m.body.length), slice m.body (1016 * i) (min 1016 (m.body.length - 1016 * i))))


/-- A queue sends: OPEN, or RETURNED with messages left that were not returned. -/
def Queue.sends (q : Queue) : Bool := decide (q.qstate = 1) || decide (q.qstate = 3)

/-- A new segment of the queue could be placed: it is sendable from the tide after its enqueueing and holds credit (R87, R91). -/
def holdsCredit (s : State) (id : Nat) : Bool :=
  let q := queueOf s id
  q.sends && !q.repeating && (match q.nextSegment with
    | some (m, _, body) => decide (m.tide ≠ tideNow s) && decide (segCost body.length ≤ q.available)
    | none => false)

/-- Place the segment at the sending point of a queue (R90, R91, R250, R252). -/
def placeSegment (id : Nat) (s : State) : List Byte × State :=
  let q := queueOf s id
  match q.nextSegment with
  | none => ([], s)
  | some (m, last, body) =>
    let L := queueLeaf id
    let rep := q.repeating
    let i := q.sendSeg m
    let first := decide (i = 0)
    let s := if rep && q.retx then
        -- the first segment that a retransmission resends (R252)
        pmcEvent 0x0C (L / 128) 1 (countFault 0 srcRetx L 1
          (countBy 32 (countBy 64 s Obj.RETRANSMISSIONS 1) (Obj.LEAF_RETRANSMISSIONS L) 1))
      else s
    let flags := queueClass id + 16 * b2n first + 32 * b2n last + 64 * b2n rep
    let sent := if last then (m.seq + 1) % 65536 else m.seq
    let seg := if last then 0 else i + 1
    let s := setQueue id (fun q =>
      { q with sentSeq := sent, seg := seg, highSeq := if rep then q.highSeq else sent, highSeg := if rep then q.highSeg else seg,
               creditUsed := if rep then q.creditUsed else (q.creditUsed + segCost body.length) % 65536,
               retx := false, placed := some (tideNow s) }) s
    (linkRecord 1 flags m.seq (rd s (Obj.FOLD_EPOCH L)) body, s)

/-! ### Packing (R96) -/

/-- A container being packed: the bytes so far and the state with what has been placed. -/
abbrev Pack := List Byte × State

/-- Add a record if it fits. -/
def Pack.fits (room : Nat) (p : Pack) (len : Nat) : Bool := decide (p.1.length + 8 + (len + 7) / 8 * 8 ≤ room)

/-- ACK records, one per host-bound class that owes one. -/
def packAck (room : Nat) (p : Pack) (id : Nat) : Pack :=
  let q := queueOf p.2 id
  if q.ackOwed && p.fits room 0 then
    (p.1 ++ linkRecord 2 (queueClass id) q.ackedSeq (rd p.2 (Obj.FOLD_EPOCH (queueLeaf id))) [],
      setQueue id (fun q => { q with ackOwed := false, ackLate := false }) p.2)
  else p

/-- The WELCOME owed (R55). -/
def packWelcome (room L : Nat) (p : Pack) : Pack :=
  if (leafOf p.2 L).welcomeOwed && p.fits room 16 then
    let e := rd p.2 (Obj.FOLD_EPOCH L)
    let w := welcomeDelays p.2 L
    (p.1 ++ linkRecord 5 0 0 e (leBytes 1 e ++ leBytes 3 0 ++ leBytes 4 w.1 ++ leBytes 4 w.2 ++ leBytes 4 0),
      setLeaf L (fun x => { x with welcomeSent := some w }) p.2)
  else p

/-- Tide of the oldest message a queue has to repeat; none when it has none, or has been stopped for this container. -/
def repeatAge (s : State) (stopped : List Nat) (id : Nat) : Option (Nat × Nat) :=
  let q := queueOf s id
  if stopped.contains id || !q.sends || !q.repeating then none else (q.nextSegment).map (fun x => (x.1.tide, id))

/-- The queue whose repeat is oldest. -/
def oldestRepeat (s : State) (L : Nat) (stopped : List Nat) : Option Nat :=
  match (downQueues L).filterMap (repeatAge s stopped) with
  | [] => none
  | x :: xs => some (xs.foldl (fun a b => if b.1 < a.1 then b else a) x).2

/-- Repeated segments, oldest first. -/
def packRepeats (room L : Nat) : Nat → List Nat → Pack → List Nat × Pack
  | 0, stopped, p => (stopped, p)
  | fuel + 1, stopped, p =>
    match oldestRepeat p.2 L stopped with
    | none => (stopped, p)
    | some id =>
      let len := match (queueOf p.2 id).nextSegment with | some (_, _, b) => b.length | none => 0
      if p.fits room len then
        let r := placeSegment id p.2
        packRepeats room L fuel stopped (p.1 ++ r.1, r.2)
      else packRepeats room L fuel (id :: stopped) p

/-- New segments of one class, while they fit and hold credit. -/
def packNew (room id : Nat) : Nat → Pack → Pack
  | 0, p => p
  | fuel + 1, p =>
    let len := match (queueOf p.2 id).nextSegment with | some (_, _, b) => b.length | none => 0
    if holdsCredit p.2 id && p.fits room len then
      let r := placeSegment id p.2
      packNew room id fuel (p.1 ++ r.1, r.2)
    else p

/-- Everything a container of at most `room` bytes carries for leaf `L` (R96). A leaf in step 2 of a readmission gets no new
segments (R274). -/
def packContainer (s : State) (L room : Nat) : Pack :=
  let p := (upQueues L).foldl (packAck room) ([], s)
  let p := packWelcome room L p
  let r := packRepeats room L 300 [] p
  if (leafOf s L).readmit = 2 then r.2
  else ([1, 0, 3, 4, 5, 6, 7, 2].map (fun c => L * 16 + c)).foldl (fun p id => if r.1.contains id then p else packNew room id 300 p) r.2

/-! ### The choice of a leaf (R95, R97) -/

/-- UP_PENDING as the latest GOOD tide frame before the present tide showed it. -/
def upPending (s : State) (L : Nat) : Bool := bit (leafOf s L).statusAt 5

/-- Level of a leaf, 0 for A to 3 for D; none when it is no candidate. -/
def slackLevel (s : State) (L : Nat) : Option Nat :=
  let x := leafOf s L
  if x.welcomeOwed || (upQueues L).any (fun id => (queueOf s id).ackOwed && (queueOf s id).ackLate)
      || (downQueues L).any (fun id => (queueOf s id).sends && (queueOf s id).repeating) then some 0
  else if holdsCredit s (L * 16 + 1) then some 1
  else if upPending s L || (downQueues L).any (holdsCredit s) then some 2
  else if x.pollDue && !(droveOf s (L / 128)).pollSent then some 3
  else none

/-- A frame of `room` bytes could carry something for the leaf: a record that fits, a poll, or UP_PENDING. -/
def canServe (s : State) (L room lvl : Nat) : Bool := decide (lvl = 3) || upPending s L || !(packContainer s L room).1.isEmpty

/-- Candidates of positions `lo` to `hi - 1` of a drove, with their levels. -/
def candidatesIn (s : State) (d lo hi room : Nat) : List (Nat × Nat) :=
  ((leavesOf s d).filter (fun L => decide (lo ≤ L % 128) && decide (L % 128 < hi))).filterMap (fun L =>
    match slackLevel s L with
    | some lvl => if canServe s L room lvl then some (lvl, L) else none
    | none => none)

/-- Lane `d` carries frames of its partner. -/
def carriesPartner (s : State) (d : Nat) : Bool := pairOn s d && decide (bridgedTurn s (partner d) ≠ 0xFF)

/-- A leaf's slack water goes over the partner's lane. -/
def slackBridged (s : State) (L : Nat) : Bool :=
  carriesPartner s (partner (L / 128)) && (decide (ownTurn s (L / 128) = 0xFF) || decide (ownTurn s (L / 128) < L % 128))

/-- Candidates of lane `d`: of the drove's own positions, joined by those of the partner's that this lane carries (R97). A leaf served in
this tide is none while another leaf is a candidate at levels A to C. -/
def slackCandidates (s : State) (d room : Nat) : List (Nat × Nat) :=
  let p := partner d
  let own := if ownTurn s d = 0xFF then [] else candidatesIn s d 0 (ownTurn s d + 1) room
  let all := own ++ (if carriesPartner s d then candidatesIn s p (bridgedTurn s p) 128 room else [])
  all.filter (fun c => !((leafOf s c.2).served && all.any (fun o => decide (o.1 < 3) && decide (o.2 ≠ c.2))))

/-- The next position after the one last served at a level. -/
def nextAfter (last : Nat) : List Nat → Option Nat
  | [] => none
  | L :: rest =>
    let key (M : Nat) : Nat := (M % 128 + 255 - last) % 128
    some (rest.foldl (fun a b => if key b < key a then b else a) L)

/-- The leaf of drove `t` chosen among candidates of level `lvl`. -/
def chooseLeaf (s : State) (t lvl : Nat) (cs : List (Nat × Nat)) : Option Nat :=
  nextAfter (getD' (droveOf s t).lastServed lvl 127) ((cs.filter (fun c => decide (c.1 = lvl) && decide (c.2 / 128 = t))).map (·.2))

/-- ns after the tide start at which the slack water of lane `d` begins (R56). A lane that carries a bridged frame has a second window of
1,800 ns for it (DESIGN CHOICE, log entry 61). -/
def slackFrom (s : State) (d : Nat) : Nat := 1800 * (1 + b2n (carriesPartner s d))

/-- Code blocks of slack water in a tide of lane `d` (R56). -/
def slackBlocks (s : State) (d : Nat) : Nat := (periodNs s - slackFrom s d - 64) * 10 / 64

/-- Code blocks of slack water gone when a frame that `gap` blocks of IDLE and ordered sets precede starts: those used, or passed. -/
def slackGone (s : State) (d gap : Nat) : Nat :=
  let x := droveOf s d
  let passed := ((s.time.acc - markAt s (slackFrom s d)) * 10 / nsUnit + 63) / 64
  max (x.slackUsed + (if x.slackFrames = 0 then 0 else 2)) passed + gap

/-- BLOCK sets that the sequencer inserts among `n` blocks of a frame: one every 64 blocks while a block demand holds (R42, R56). -/
def insertedSets (s : State) (n : Nat) : Nat := if blockInForce s then (n + 63) / 64 else 0

/-- Blocks of a frame that fit among `b` code blocks with the BLOCK sets it has to take. -/
def frameBlocks (s : State) (b : Nat) : Nat := if blockInForce s then b - (b + 64) / 65 else b

/-- Container bytes the space left allows for the next frame, with `gap` blocks of IDLE and ordered sets before it. -/
def slackRoom (s : State) (d gap : Nat) : Nat := min 2048 ((frameBlocks s (slackBlocks s d - slackGone s d gap) - 3) * 8)

/-- The leaf the next frame on lane `d` serves, with its level: of the highest level that holds a candidate of either drove; at it
successive frames alternate when both droves have candidates (R97), the first going to the bridged drove (DESIGN CHOICE, log entry 61). -/
def slackChoice (s : State) (d room : Nat) : Option (Nat × Nat) :=
  let cs := slackCandidates s d room
  [0, 1, 2, 3].findSome? (fun lvl =>
    (match chooseLeaf s d lvl cs, chooseLeaf s (partner d) lvl cs with
      | some a, some b => if (droveOf s d).alternate then some a else some b
      | some a, none => some a
      | none, b => b).map (fun L => (lvl, L)))

/-- Container length (R96). -/
def containerLength (s : State) (down room : Nat) (up : Bool) : Nat :=
  let l := max 64 ((down + 7) / 8 * 8)
  min room (if up then max l (rd s Obj.UP_CONTAINER) else l)

/-- ns after the tide start by which a frame on lane `d` to leaf `L`, ended after `gone` blocks of slack water, should be back: the
measured round trip of its path later (DEDUCED, log entry 66). -/
def slackReturn (s : State) (d L gone : Nat) : Nat :=
  slackFrom s d + gone * 64 / 10 + rd s (if L / 128 = d then Obj.ROUND_TRIP d else Obj.BRIDGE_ROUND_TRIP (L / 128)) / 10

/-- Send a frame on lane `d` to leaf `L` at a level. -/
def sendSlack (d lvl L room gap : Nat) (s : State) : State :=
  let t := L / 128
  let bridged := decide (t ≠ d)
  let carried := (leafOf s L).welcomeOwed && Pack.fits room ((upQueues L).foldl (packAck room) ([], s)) 16
  let p := packContainer s L room
  let s := p.2
  let len := containerLength s p.1.length room (decide (lvl = 3) || upPending s L)
  let gone := slackGone s d gap + len / 8 + 3 + insertedSets s (len / 8 + 3)
  let turn := if bridged then bridgedTurn s t else ownTurn s d
  let seq := (droveOf s t).slackSeq
  let head := leBytes 1 2 ++ leBytes 1 (b2n bridged) ++ leBytes 1 t ++ leBytes 1 (L % 128) ++ leBytes 2 len ++ leBytes 2 seq
    ++ leBytes 2 p.1.length ++ leBytes 2 0 ++ leBytes 1 turn ++ leBytes 1 0xFF ++ leBytes 2 0
  let body := p.1 ++ List.replicate (len - p.1.length) 0
  let s := send (.slackFrame d (withCheck s t (head ++ body))) s
  let s := setDrove t (fun x =>
    { x with slackSeq := (x.slackSeq + 1) % 65536, lastServed := x.lastServed.set lvl (L % 128),
             pollSent := x.pollSent || decide (lvl = 3),
             flying := x.flying ++ [{ target := L % 128, seq := seq, due := slackReturn s d L gone, lost := false }] }) s
  let s := setDrove d (fun x => { x with slackUsed := gone, slackFrames := x.slackFrames + 1, alternate := bridged }) s
  let s := setLeaf L (fun x =>
    { x with served := true, pollDue := false, lastFrame := tideNow s,
             welcomeFrames := if carried then x.welcomeFrames ++ [seq] else x.welcomeFrames }) s
  pmcEvent 0x0A t len (pmcEvent 0x09 t 1 (countBy 64 s (Obj.SLACK_OUT_BYTES t) len))

/-- A lane carries slack water: not in a silence, in DORMANT, at the keep-alive rate, or in its quiet tides (R33, R69). -/
def slackOpen (s : State) (d : Nat) : Bool :=
  droveOn s d && !silentIn s (tideNow s) && !keepAlive s && decide (s.rp.quiet = 0)

/-- SLACK_WATER_FRAME_SEND (R95): the sequencer of lane `d` sends its next slack-water frame, if a candidate and 64 bytes of room
exist, not before the slack water of the tide begins (R56); `gap` code blocks of IDLE and ordered sets, beyond the two of R56, stand
before it. -/
def execSlackWaterFrameSend (d gap : Nat) (s : State) : Host.Outcome State Fault Refusal :=
  .next (whenAlive .fabric (fun s =>
    let room := slackRoom s d gap
    if slackOpen s d = false ∨ room < 64 then s
    else match slackChoice s d room with
      | some (lvl, L) => sendSlack d lvl L room gap (runTo (markAt s (slackFrom s d)) s)
      | none => s) s)

/-! ### Upward records -/

/-- A complete upward message enters its queue (R254, R89): records of classes 9 and 10 are also read by the device. -/
def storeUp (id seq : Nat) (body : List Byte) (s : State) : State :=
  let q := queueOf s id
  let cls := queueClass id
  let host := q.nextSeq
  let m : Msg := { seq := host, body := body, tide := tideNow s, lost := false, back := false }
  let s := setQueue id (fun q => { q with msgs := q.msgs ++ [m], nextSeq := (host + 1) % 65536, ackedSeq := seq, ackOwed := true,
                                          part := none, partSegs := 0, fresh := false }) s
  let s := if cls = 9 then protRecord (queueLeaf id) body s else if cls = 10 then testRecord (queueLeaf id) body s else s
  if q.msgs.isEmpty && bit (rd s Obj.QUEUE_NOTIFY_MASK) (cls - 8) then
    notifyAll 0x02 (stimeNow s) (leBytes 4 id ++ leBytes 2 host ++ leBytes 2 0) s
  else s

/-- A message of the expected link `SEQ` grows by a segment (R89, R254); a queue holds at most 32,767 messages (R248). -/
def growPart (id seq : Nat) (first last : Bool) (body : List Byte) (s : State) : State :=
  let q := queueOf s id
  let held := if first then [] else match q.part with | some p => p.2 | none => []
  let segs := if first then 1 else q.partSegs + 1
  let bs := held ++ body
  let s := setQueue id (fun q => { q with part := none, partSegs := 0 }) s
  let blocks := (queueOf s id).blocks + msgBlocks bs.length
  if rd s (Obj.CLASS_CAPACITY (queueClass id)) < blocks ∨ rd s Obj.POOL_UP_FREE < msgBlocks bs.length
      ∨ 32767 ≤ (queueOf s id).msgs.length then count s Obj.UP_REFUSED
  else if last then storeUp id seq bs s
  else setQueue id (fun q => { q with part := some (seq, bs), partSegs := segs, fresh := false, ackedSeq := (seq + 65535) % 65536 }) s

/-- A message behind the expected link `SEQ` comes in again; whole, it is discarded and its ACK is owed again (R254). -/
def growDup (id seq segs : Nat) (last : Bool) (s : State) : State :=
  if last then
    setQueue id (fun q => { q with dup := none, ackOwed := true })
      (count (count s Obj.UP_DUPLICATES) (Obj.LEAF_UP_DUPLICATES (queueLeaf id)))
  else setQueue id (fun q => { q with dup := some (seq, segs) }) s

/-- An upward segment (R254): FIRST starts or replaces the message of the expected link `SEQ`; a segment out of order discards
every partial message of the leaf. -/
def upSegment (id seq : Nat) (first last : Bool) (body : List Byte) (s : State) : State :=
  let q := queueOf s id
  let L := queueLeaf id
  let x := if q.fresh then seq else (q.ackedSeq + 1) % 65536
  if first then
    if seq = x then growPart id seq true last body (setQueue id (fun q => { q with dup := none }) s)
    else
      -- a FIRST that is not the expected one breaks the order of a message held
      let s := if q.part ≠ none ∨ q.dup ≠ none ∨ behind seq x = false then dropParts L s else s
      if behind seq x then growDup id seq 1 last s else s
  else match q.part, q.dup with
    | some p, _ => if p.1 = seq then growPart id seq false last body s else dropParts L s
    | none, some p => if p.1 = seq then growDup id seq (p.2 + 1) last s else dropParts L s
    | none, none => dropParts L s

/-- One upward record of leaf `L` whose verdict is GOOD (R92, R249, R252, R257). -/
def upRecord (L kind flags seq epoch : Nat) (body : List Byte) (s : State) : State :=
  let mine := rd s (Obj.FOLD_EPOCH L)
  let cls := flags % 16
  let id := L * 16 + cls
  if kind = 4 then
    let s := if epoch = mine ∧ mine ≠ 0 ∧ (leafOf s L).foldEnded = false then acceptEpoch L s else s
    announce L body s
  else if epoch ≠ mine then
    let s := count s Obj.EPOCH_MISMATCH
    if kind ≠ 3 then s
    else if 8 ≤ cls then count s Obj.CREDIT_INVALID
    else setQueue id (fun q => { q with creditBad := true }) (count s Obj.CREDIT_INVALID)
  else
    let s := if mine = 0 then s else acceptEpoch L s
    match kind with
    | 1 =>
      if leafBound cls then s
      else
        let s := if bit flags 6 then countFault 0 srcRetx L 1 s else s
        upSegment id seq (bit flags 4) (bit flags 5) body s
    | 2 => if leafBound cls then ackArrives id seq s else s
    | 3 => if leafBound cls then creditArrives id seq s else count s Obj.CREDIT_INVALID
    | _ => s

/-- A record of leaf `L` whose verdict is not GOOD: it is lost, and a CREDIT record among them is refused (R92). -/
def badRecord (L kind flags _seq _epoch : Nat) (_body : List Byte) (s : State) : State :=
  let cls := flags % 16
  if kind ≠ 3 then s
  else if 8 ≤ cls then count s Obj.CREDIT_INVALID
  else setQueue (L * 16 + cls) (fun q => { q with creditBad := true }) (count s Obj.CREDIT_INVALID)

/-- The records of a container, in order (R54). One whose LENGTH is above 1,016, or runs past the bytes used, ends the container (DESIGN
CHOICE, log entry 61). -/
def upRecords (f : Nat → Nat → Nat → Nat → List Byte → State → State) : Nat → List Byte → State → State
  | 0, _, s => s
  | fuel + 1, bs, s =>
    let kind := leNat (slice bs 0 1)
    let len := leNat (slice bs 2 2)
    if bs.length < 8 ∨ kind = 0 ∨ 1016 < len ∨ bs.length < 8 + len then s
    else
      let s := f kind (leNat (slice bs 1 1)) (leNat (slice bs 4 2)) (leNat (slice bs 6 1)) (slice bs 8 len) s
      upRecords f fuel (bs.drop (8 + (len + 7) / 8 * 8)) s

/-- Payload bytes used of a returned frame. -/
def usedBytes (bs : List Byte) : Nat := min (leNat (slice bs 10 2)) (leNat (slice bs 4 2))

/-- A GOOD slack-water frame (R55, R58): a WELCOME that it carried has arrived, and the upward records are processed. -/
def goodSlack (d L : Nat) (bs : List Byte) (s : State) : State :=
  let s := countBy 64 s (Obj.SLACK_IN_BYTES d) (usedBytes bs)
  let s := if (leafOf s L).welcomeFrames.contains (leNat (slice bs 6 2)) then
      setLeaf L (fun x => { x with welcomeOwed := false, welcomeFrames := [] }) s
    else s
  upRecords (upRecord L) 300 (slice bs 16 (usedBytes bs)) s

/-- SLACK_WATER_FRAME_RETURN (R53, R58, R254): on GOOD the upward records are processed; otherwise they are lost, and the partial
messages of the leaf are discarded. -/
def execSlackWaterFrameReturn (ret : SlackReturn) (s : State) : Host.Outcome State Fault Refusal :=
  .next (whenAlive .fabric (fun s =>
    let d := ret.d
    let L := d * 128 + ret.target
    let s := noteInvalid (if slackBridged s L then partner d else d) ret.invalid s
    if leafOn s L = false then s
    else
      let v := verdict s d ret.bytes
      let seq := leNat (slice ret.bytes 6 2)
      let s := setDrove d (fun x =>
        { x with flying := x.flying.eraseP (fun f => decide (f.target = ret.target) && (decide (v ≠ 0) || decide (f.seq = seq))) }) s
      if v ≠ 0 then dropParts L (upRecords (badRecord L) 300 (slice ret.bytes 16 (usedBytes ret.bytes)) (countVerdict d v s))
      else goodSlack d L ret.bytes s) s)

/-- At a return deadline the slack-water frames that should be back count as lost (R275): the partial messages of their leaves are
discarded. One that comes back after all is still taken. -/
def loseSlack (s : State) : State :=
  let gone (f : Flight) : Bool := !f.lost && decide (f.due ≤ rd s Obj.RETURN_DEADLINE)
  (drovesOn s).foldl (fun t d =>
    let lost := (droveOf t d).flying.filter gone
    if lost.isEmpty then t
    else
      setDrove d (fun x => { x with flying := x.flying.map (fun f => if gone f then { f with lost := true } else f) })
        (lost.foldl (fun u f => dropParts (d * 128 + f.target) u) t)) s

end Sys2Proof.Machine
end

