-- ==== Sys2Proof/Machine/Tide.lean ====
section
/-! DEFINITION. The marks of the tide: the tide start with its change of station state (R20, R23, R30, R332, R335, R261, R328), the
reference mark (R23, R25, R143), the return deadline (R24), the demand mark (R103) and the command cutoff (R25). -/

namespace Sys2Proof.Machine

/-! ### Numbering (R20, R328) -/

/-- First tide number, from `lo` on, whose start has not passed: each tide of R20 starts at the first TIME edge at or after its instant, so
the tide whose instant lies less than one edge back starts on the present edge. -/
def nextTide (s : State) (lo : Nat) : Nat :=
  let p := periodNs s * nsUnit
  max lo (if p = 0 then lo else (s.time.acc + p - s.time.inc - rd s Obj.TIDE_PHASE * nsUnit) / p)

/-- The tide numbers start afresh, under new settings or a new station time (R328, R359): what is kept by tide number belongs to the
old numbers, the period windows restart, and scheduled causes take effect at the first tide start that may take them. -/
def renumber (n : Nat) (s : State) : State :=
  let s := { s with tideRec := [], samples := [], slots := [], slotPoison := [], repeated := [] }
  let s := { s with subs := s.subs.map (fun (x : Subscription) => { x with window := none }) }
  let part (_ : Nat) (x : Leaf) : Leaf := { x with slowWords := [], slowOk := false }
  let s := { s with leaves := Tbl.mapAll (fun _ => Leaf.unknown) part s.leaves }
  let s := { s with legs := s.legs.map (fun (y : Leg) => { y with pred := none }) }
  let s := solarRenumber n s
  let late (c : Cause) : Cause := { c with due := n }
  let s := { s with sm := { s.sm with causes := s.sm.causes.map late } }
  let s := setTime (fun t => { t with restartTide := false })
    (setCl (fun c => { c with latched := [], movedLegs := c.movedLegs.map (fun p => (p.1, p.2.1, n)) }) s)
  bwRenumber (renewPhases (List.range 128) (beginRecords (n - 1) s))

/-- Tide `m` had no start: the lanes slept through it (R70), or station time ran past it. Its record marks every slot missing, a gap for
every subscription. -/
def skipTide (m : Nat) (s : State) : State := gatherSubs m (beginRecords m s)

/-- The tides between `old` and `n` are skipped; commands and records under assembly that belonged to them are gone. -/
def skipTides (old n : Nat) (s : State) : State :=
  if n ≤ old + 1 then s
  else
    let part (_ : Nat) (x : Leaf) : Leaf := { x with slowWords := [], slowOk := false }
    let s := { s with slots := [], slotPoison := [], repeated := [], samples := []
                      leaves := Tbl.mapAll (fun _ => Leaf.unknown) part s.leaves }
    (List.range (n - old - 1)).foldl (fun t i => skipTide (old + 1 + i) t) s

/-! ### Change of station state (R30, R332, R335) -/

/-- Direct power control ends with the active states. -/
def dropDpc (s : State) : State :=
  [0, 1].foldl (fun t c =>
    let t := setConv c (fun x => { x with dpcDue := false, dpcEnd := false }) t
    if dpcOn t c then suspendShift c (wr (setSync c sfDpc false t) (Obj.DPC_ACTIVE c) 0) else t) s

/-- What leaving a state does: COAST and RAMP-DOWN end, the vector shift method and the probe are suspended (R186), a dwell is broken off
or starts again (R190), measurements of HELD are spoiled, and direct power control ends with the active states. -/
def leaveState (src dst : Nat) (s : State) : State :=
  let s := if src = stCoast then leaveCoast dst s else s
  let s := if src = stRampDown then setCl (fun c => { c with rampFrom := none, calmFrom := none }) s else s
  let s := if src = stRideThrough then suspendShift 1 (suspendShift 0 s) else s
  let s := if src = stRunning then { s with convs := s.convs.map (fun x => { x with probe := 0 }) } else s
  let s := holdDwell dst 1 (holdDwell dst 0 s)
  let s := if src = stHeld then
      let s := followDroves (baseImage s) s
      (List.range (droveCount s)).foldl (fun t d => spoilMeasure d t) s
    else s
  if isActive src && !isActive dst then dropDpc s else s

/-- What entering a state does (R192, R196, R323, R329, R337, R338). -/
def enterState (dst arg : Nat) (s : State) : State :=
  if dst = stHeld then
    let s := followDroves s.cfg.draft s
    if arg = 5 then startRestore s else measureAll s
  else if dst = stCharging then { s with sm := { s.sm with chargeX := 0, chargeDuty := 0 } }
  else if dst = stEnergised then
    [0, 1].foldl (fun t c =>
      wrs t [(Obj.DIRECTION c, wantedDir t c (spP (conv t c))), (Obj.REVERSAL_STATE c, 0), (Obj.REVERSAL_HOLD_REASON c, 0)]) s
  else if dst = stCoast then enterCoast s
  else if dst = stRampDown then enterRampDown arg s
  else s

/-- A cause that carries out the pending request. -/
def Cause.ofRequest (c : Cause) : Bool := (c.cause = causeRequest && decide (c.target ≠ stEnergised)) || c.cause = causeDischarged

/-- The pending request after the decision of tide start `n` (R333, R335, R340): done, lapsed, or still waiting. -/
def settleRequest (n : Nat) (won : Option Cause) (before : List Cause) (s : State) : State :=
  if s.sm.request = 0 then s
  else if (won.map Cause.ofRequest).getD false then
    wr { s with sm := { s.sm with request := 0 } } Obj.REQUEST_STATUS 0
  else
    let mine := before.filter Cause.ofRequest
    let dueNow := mine.any (fun c => decide (c.due ≤ n)) && !tideStops s
    let illegal := won.isSome && (mine.any (fun c => !transitionLegal (station s) c.target) || s.sm.request = 6)
    if dueNow || illegal then lapseRequest s else s

/-- The station takes the winning cause of tide start `n`, if any (R198, R335). Causes that were due and did not win are gone, but for
requests that wait for a silence to end (R367). -/
def stationTide (n : Nat) (s : State) : State :=
  let before := s.sm.causes
  let won := winner (dueCauses s n)
  let waits (c : Cause) : Bool := decide (n < c.due) || (tideStops s && c.cause = causeRequest)
  let s := { s with sm := { s.sm with causes := before.filter waits } }
  let s := match won with
    | none => s
    | some c =>
      let src := station s
      enterState c.target c.arg (recordTransition c.target c.cause c.arg (leaveState src c.target s))
  settleRequest n won before s

/-! ### Faults of the previous tide (R261, R263) -/

/-- Reaction 1 of a station source to a lasting fault (R263). -/
def unitReaction (source inst : Nat) (s : State) : State :=
  if source = srcLaneCheck then pathFault inst none (tideNow s - 1) s
  else if source = srcLanePath then setPlan inst 0 1 1 s
  else if source = srcPair then retirePair inst s
  else if source = srcEngine then retireEngine inst s
  else if source = srcCoast then setCl (fun c => { c with noCoast := true }) s
  else s

/-- The reactions of the station sources other than the leaf sources (R263). -/
def stationReaction (s : State) (r : FoldResult) : State :=
  if r.lasting = false ∨ r.family ≠ 0 ∨ srcStray ≤ r.source then s
  else
    let re := rd s (Obj.FSRC_REACTION r.source)
    if re = 1 then unitReaction r.source r.inst s
    else if re = 3 then schedule stBlocked causeFaultSource 0 s
    else s

/-- The fold at a tide start with its reactions. -/
def foldTide (s : State) : State :=
  let f := foldFaults s
  leafReactions f.2 (f.2.foldl stationReaction f.1)

/-! ### Commit and step of time (R326, R328, R359) -/

/-- The committed values take effect at this tide start, and the commit is done; the station goes to READY at the next one, unless a
BLOCK or TRIP demand keeps it in HELD (R326, R341). -/
def commitTide (s : State) : State :=
  if s.cfg.applyDue then
    let s := commitDone (takeCommitted s)
    if blockInForce s || tripInForce s then s else schedule stReady causeCommit 0 s
  else s

/-- The end of a commit that has re-tided the lanes: step 4 is taken at the tide start at which the station goes to READY (R326). -/
def commitEnd (n : Nat) (s : State) : State :=
  if s.cfg.commitStep = 4 ∧ s.sm.causes.any (fun c => decide (c.cause = causeCommit) && decide (n < c.due)) = false then commitDone s
  else s

/-- A step that is decided begins with the LANE_SLEEP sets of this tide, in a state that allows it and outside a re-tide (R358, R359,
R367). -/
def stepTide (n : Nat) (s : State) : State :=
  match s.time.stepDue with
  | some (m, isSet) =>
    if s.time.silence.isNone = true ∧ s.cfg.retideWait.isNone = true ∧ stepState s = true then
      setTime (fun t => { t with silence := some ⟨n + 7, false, some m, isSet⟩, stepDue := none }) s
    else s
  | none => s

/-! ### TIDE_START (R20) -/

/-- The tide start on the counter: number, rate, quality (R20, R344, R354). -/
def beginTide (n : Nat) (s : State) : State :=
  let s := { s with sm := { s.sm with afterDemand := false } }
  pmcEvent 0x02 0xFFFF 1 (refreshTime (correctTime (wr s Obj.TIDE_NUMBER n)))

/-- The work of the units at the start of tide `n`: samples, commit, station state, faults, queues, power, launch. `fresh` says that the
numbers start afresh; `old` is the tide that ends. -/
def tideWork (old n : Nat) (fresh : Bool) (samples : List (Nat × Int)) (s : State) : State :=
  let s := healRing n (sweepPoison s)
  let s := if fresh then s else showSense old (skipTides old n s)
  let s := showSenseDelay (tideScan n samples s)
  let s := commitTide s
  let s := if station s = stHeld then followDroves s.cfg.draft s else s
  let was := station s
  let s := commitEnd n (stationTide n (keepRide (islandMode 1 (islandMode 0 s))))
  let force := decide (station s ≠ was) && (decide (station s = stBlocked) || decide (station s = stSafe))
  let s := clusterTide s
  let s := retryScClears (retryBypasses (tideQueues (foldTide s)))
  let s := wakeUnits (powerTide (stepTide n s))
  let s := [0, 1].foldl (fun t c => dpcFinish c (dpcBegin c t)) s
  let s := launchAll n force s
  bwTide (sarCalCheck (pwmStates (cmpTide s)))

/-- Station time runs to the start of the next tide, or of the tide that a re-tide or a step makes the next, and the tide begins. -/
def startTide (samples : List (Nat × Int)) (s : State) : State :=
  let s := endRetide (endStep s)
  let fresh := s.time.restartTide
  let old := tideNow s
  let n := if fresh then nextTide s 0 else nextTide s (old + 1)
  let s := runTo (tideStartAt s n) s
  let s := beginTide n (if fresh then renumber n s else s)
  whenAlive .lookout (tideWork old n fresh samples) s

/-- TIDE_START (R20): the next tide begins; `samples` are the codes of the SAR tide scan. In DORMANT no tide starts (R471). -/
def execTideStart (samples : List (Nat × Int)) (s : State) : Host.Outcome State Fault Refusal :=
  .next (whenAlive .time (fun s => if rd s Obj.POWER_STATE = 3 then s else startTide samples s) s)

/-! ### REFERENCE_MARK (R23) -/

/-- A debug port halt of pair `p` (R502). -/
def pairHalted (s : State) (p : Nat) : Bool := bit (rd s Obj.DEBUG_HALTED) (2 + p)

/-- Count a missed reference set of item `i`, on the pair `p` that missed (R25). Items 0 to 3 publish reference sets. -/
def countReferenceMiss (i p : Nat) (s : State) : State :=
  let s := if i < 4 then count s Obj.REFERENCE_MISSES else s
  if p < 4 then countFault 0 srcPair p 1 s else s

/-- Item `i` publishes at a reference mark that the items `missed` miss: it has a live unit and has not just moved (R143). -/
def publishes (s : State) (missed : List Nat) (i : Nat) : Bool :=
  !missed.contains i && pairLive s (unitOf s.cl.items i) && !s.cl.movedItems.any (fun p => p.1 = i)

/-- Item `i` at the reference mark: it publishes, or it has moved or missed, and the reference set of the previous mark stands (R25,
R143). In COAST no miss counts (R193). -/
def referenceItem (missed : List Nat) (i : Nat) (s : State) : State :=
  let run (n : Nat) (t : State) : State := setCl (fun c => { c with refMiss := c.refMiss.set i n }) t
  let due := isActive (workState s) && decide (station s ≠ stCoast)
  if itemPresent s i = false then s
  else match s.cl.movedItems.find? (fun p => p.1 = i) with
    | some p => if due then countReferenceMiss i p.2 s else s
    | none =>
      let p := unitOf s.cl.items i
      if missed.contains i || !pairLive s p then
        (if due then run (getD' s.cl.refMiss i 0 + 1) (countReferenceMiss i p s) else s)
      else
        let s := run 0 s
        if i < 2 then gridItem i (tideSec s) (healTideArea 1 (fun a => a / 6 = i) s)
        else if i < 4 then energyItem (i - 2) (tideSec s) s
        else s

/-- A pair fails on the second miss in a row of one item, unless the debug port holds it halted (R143, R502). -/
def failMissed (s : State) : State :=
  let bad := ((List.range 5).filter (fun i => decide (2 ≤ getD' s.cl.refMiss i 0))).map (fun i => unitOf s.cl.items i)
  (List.range 4).foldl (fun t p => if bad.contains p && !pairHalted t p then failPair p t else t) s

/-- The pairs publish at the reference mark; in COAST that ends it, once every item has published (R194). -/
def pairsMark (missed : List Nat) (s : State) : State :=
  let s := if isActive (workState s) then startRun s else s
  let whole := (List.range 5).all (fun i => !itemPresent s i || publishes s missed i)
  let s := (List.range 5).foldl (fun t i => referenceItem missed i t) s
  let s := if station s = stCoast ∧ s.cl.coastDone = false ∧ whole = true then
      let dst := if [0, 1].any (fun c => convOn s c && sync s c sfRt) then stRideThrough else stRunning
      schedule dst causeCoastEnd 0 (setCl (fun c => { c with coastDone := true }) s)
    else s
  failMissed s

/-- The setpoints in force from a reference mark on (R29): the host inputs and the grid setpoints as they stand. -/
def takeSetpoints (s : State) : State :=
  let s := setCl (fun c => { c with hostIn := (List.range 64).map (fun k => rd s (Obj.HOST_INPUT k)) }) s
  copySetpoints 1 (copySetpoints 0 s)

/-- The work of a reference mark: setpoints are taken (R29), the pairs or the generator publish, and the generator captures what was
published, but in COAST (R191). -/
def referenceWork (missed : List Nat) (s : State) : State :=
  let s := takeSetpoints s
  let s := if s.cl.serving then
      let s := pairsMark missed s
      if station s = stCoast then s else captureRefs s
    else if station s = stCoast ∨ station s = stRampDown then generatorMark (tideSec s) (healTideArea 1 (fun _ => true) s)
    else s
  takeSnapshots (coastBandStep s)

/-- REFERENCE_MARK (R23). `missed` are the items that do not publish in time. -/
def execReferenceMark (missed : List Nat) (s : State) : Host.Outcome State Fault Refusal :=
  .next (whenAlive .time (fun s =>
    whenAlive .processing (referenceWork missed) (runTo (markAt s (rd s Obj.REFERENCE_MARK)) s)) s)

/-! ### RETURN_DEADLINE (R24) -/

/-- The links and the telemetry at the return deadline of tide `n`: the lanes are judged and the telemetry is released (R24). -/
def releaseTide (n : Nat) (s : State) : State := loseSlack (gatherSubs n (countRetide (releaseTelemetry n (judgeLanes s))))

/-- The work of a return deadline: the telemetry of tide `n` is released, the lanes are judged, and the loop engines start. User programs
run in the states in which R32 has the engines all active. -/
def returnWork (n : Nat) (late : List Nat) (s : State) : State :=
  let s := calmStep n (latchInputs n (scheduleGains n 1 (scheduleGains n 0 (releaseTide n s))))
  let s := dischargeStep (chargeStep (preCharge n (plausibility n s)))
  let s := if isActive (station s) then (List.range 8).foldl (fun t u => userProgram n late u t) s else s
  solarTide n (traceInputs n s)

/-- RETURN_DEADLINE (R24). `late` are the user programs that do not reach END in time (R151). -/
def execReturnDeadline (late : List Nat) (s : State) : Host.Outcome State Fault Refusal :=
  .next (whenAlive .time (fun s =>
    whenAlive .processing (returnWork (tideNow s) late) (runTo (markAt s (rd s Obj.RETURN_DEADLINE)) s)) s)

/-! ### DEMAND_MARK (R103) -/

/-- The work of the demand mark that falls in tide t, of the samples of tide t - 1: the demands are delivered, but for the arms `missed`
and those of a leg that moved, and the shepherds rank for tide t + 1. -/
def demandWork (t : Nat) (missed : List Nat) (s : State) : State :=
  let n := t - 1
  let s := takeDuties (takeOutputs n s)
  let s := if isActive (stateAhead s (t + 1)) then
      let moved := (List.range 12).filter (fun a => (movedFrom s n (a / 2)).isSome)
      demandMisses n missed (loopDemands n (missed ++ moved) (startRun s))
    else s
  let s := shepherdAll n (wakeShepherds s)
  traceLoops n (setCl (fun c => { c with movedLegs := c.movedLegs.filter (fun p => decide (n + 1 < p.2.2)) }) s)

/-- DEMAND_MARK (R103): the mark that falls in tide t belongs to the samples of tide t - 1. -/
def execDemandMark (missed : List Nat) (s : State) : Host.Outcome State Fault Refusal :=
  .next (whenAlive .time (fun s =>
    let t := tideNow s
    let s := runTo (markAt s (periodNs s - 2000)) s
    let s := { s with sm := { s.sm with afterDemand := true } }
    if t = 0 then s else whenAlive .processing (demandWork t missed) s) s)

/-! ### COMMAND_CUTOFF (R25) -/

/-- A slot of tide `m` that was not written: the leaf's previous command goes out again (R25). -/
def repeatSlot (m L : Nat) (s : State) : State :=
  let c := slotOf s (m - 1) L
  let s := setLeaf L (fun x => { x with levelPrev := (let lv := c.mode % 8; if lv = 4 then lvBlocked else lv) }) (setSlot m L c s)
  countFault 0 srcSequencer (L / 1024) 1 (count { s with repeated := L :: s.repeated } Obj.CUTOFF_MISSES)

/-- The work of the command cutoff in tide t: the leaves `missed` have no slot of tide t + 1 written. -/
def cutoffWork (t : Nat) (missed : List Nat) (s : State) : State :=
  let ls := (allLeaves s).filter (fun L => missed.contains L)
  let s := ls.foldl (fun u L => repeatSlot (t + 1) L u) s
  let mask := (List.range 12).foldl (fun m a => putBit m a (armOn s a && !(armLeaves s a).any (fun L => ls.contains L))) 0
  heartbeatWord (t + 1) mask 0xA s

/-- COMMAND_CUTOFF (R25, R445): unwritten slots of the coming tide are repeated, and the heartbeat word goes to channel A. -/
def execCommandCutoff (missed : List Nat) (s : State) : Host.Outcome State Fault Refusal :=
  .next (whenAlive .time (fun s =>
    whenAlive .fabric (cutoffWork (tideNow s) missed) (runTo (markAt s (periodNs s - 300)) s)) s)

end Sys2Proof.Machine
end

