-- ==== Sys2Proof/Machine/Dispatch.lean ====
section
/-! DEFINITION. The dispatch: one arm per command, each a direct call of its meaning. -/

namespace Sys2Proof.Machine

def exec (i : Instr) (s : State) : Host.Outcome State Fault Refusal :=
  match i with
  | .tideStart samples => Sys2Proof.Machine.execTideStart samples s
  | .referenceMark missed => Sys2Proof.Machine.execReferenceMark missed s
  | .returnDeadline late => Sys2Proof.Machine.execReturnDeadline late s
  | .gridSetPublish => Sys2Proof.Machine.execGridSetPublish s
  | .demandMark missed => Sys2Proof.Machine.execDemandMark missed s
  | .commandCutoff missed => Sys2Proof.Machine.execCommandCutoff missed s
  | .tideFrameReturn ret => Sys2Proof.Machine.execTideFrameReturn ret s
  | .slackWaterFrameSend d gap => Sys2Proof.Machine.execSlackWaterFrameSend d gap s
  | .slackWaterFrameReturn ret => Sys2Proof.Machine.execSlackWaterFrameReturn ret s
  | .blockEchoArrival d interval => Sys2Proof.Machine.execBlockEchoArrival d interval s
  | .echoLimitExpiry d => Sys2Proof.Machine.execEchoLimitExpiry d s
  | .laneLockLoss d => Sys2Proof.Machine.execLaneLockLoss d s
  | .rtMeasurementEnd d phase => Sys2Proof.Machine.execRtMeasurementEnd d phase s
  | .lanePhaseCheck d phase => Sys2Proof.Machine.execLanePhaseCheck d phase s
  | .rtMarginSecond d => Sys2Proof.Machine.execRtMarginSecond d s
  | .tLoopAverage d => Sys2Proof.Machine.execTLoopAverage d s
  | .bridgeUnavailableTimeout pair => Sys2Proof.Machine.execBridgeUnavailableTimeout pair s
  | .laneRejoin d => Sys2Proof.Machine.execLaneRejoin d s
  | .strayPenTimeExpiry leaf => Sys2Proof.Machine.execStrayPenTimeExpiry leaf s
  | .retxTimeoutExpiry id => Sys2Proof.Machine.execRetxTimeoutExpiry id s
  | .ackDelayExpiry leaf => Sys2Proof.Machine.execAckDelayExpiry leaf s
  | .pollIntervalExpiry leaf => Sys2Proof.Machine.execPollIntervalExpiry leaf s
  | .admitTimeoutExpiry leaf => Sys2Proof.Machine.execAdmitTimeoutExpiry leaf s
  | .readmitTimeoutExpiry leaf => Sys2Proof.Machine.execReadmitTimeoutExpiry leaf s
  | .leafPenning leaf cause reason => Sys2Proof.Machine.execLeafPenning leaf cause reason s
  | .penningComplete leaf => Sys2Proof.Machine.execPenningComplete leaf s
  | .bypassAckTimeoutExpiry leaf => Sys2Proof.Machine.execBypassAckTimeoutExpiry leaf s
  | .scClearDelayExpiry leaf => Sys2Proof.Machine.execScClearDelayExpiry leaf s
  | .uvRecordTimeout leaf => Sys2Proof.Machine.execUvRecordTimeout leaf s
  | .testTimeoutExpiry leaf => Sys2Proof.Machine.execTestTimeoutExpiry leaf s
  | .faultWindowBoundary family source => Sys2Proof.Machine.execFaultWindowBoundary family source s
  | .subWindowRecord k late => Sys2Proof.Machine.execSubWindowRecord k late s
  | .scrubLine region addr found spot last => Sys2Proof.Machine.execScrubLine region addr found spot last s
  | .scrubPeriodEnd => Sys2Proof.Machine.execScrubPeriodEnd s
  | .eccCorrectedError region addr => Sys2Proof.Machine.execEccCorrectedError region addr s
  | .uncorrectableError spot => Sys2Proof.Machine.execUncorrectableError spot s
  | .arbPromotion bank => Sys2Proof.Machine.execArbPromotion bank s
  | .lockstepMismatch pair => Sys2Proof.Machine.execLockstepMismatch pair s
  | .pairSelfTestEnd unit passed => Sys2Proof.Machine.execPairSelfTestEnd unit passed s
  | .loopEngineFault engine => Sys2Proof.Machine.execLoopEngineFault engine s
  | .controlCapacityLost item => Sys2Proof.Machine.execControlCapacityLost item s
  | .traceTrigger code => Sys2Proof.Machine.execTraceTrigger code s
  | .traceArmed => Sys2Proof.Machine.execTraceArmed s
  | .voltageSample c src m => Sys2Proof.Machine.execVoltageSample c src m s
  | .sourceLossTimeout c => Sys2Proof.Machine.execSourceLossTimeout c s
  | .scrEstimate c => Sys2Proof.Machine.execScrEstimate c s
  | .rtConfirmExpiry c => Sys2Proof.Machine.execRtConfirmExpiry c s
  | .rtCurveCrossed c => Sys2Proof.Machine.execRtCurveCrossed c s
  | .rtExitHoldExpiry => Sys2Proof.Machine.execRtExitHoldExpiry s
  | .dpcEntry c => Sys2Proof.Machine.execDpcEntry c s
  | .dpcExitHoldExpiry c => Sys2Proof.Machine.execDpcExitHoldExpiry c s
  | .islandingDetected c how => Sys2Proof.Machine.execIslandingDetected c how s
  | .probePeriodStart c => Sys2Proof.Machine.execProbePeriodStart c s
  | .gridStall c => Sys2Proof.Machine.execGridStall c s
  | .reversalDwellEnd c => Sys2Proof.Machine.execReversalDwellEnd c s
  | .coastEnd => Sys2Proof.Machine.execCoastEnd s
  | .coastLimitExpiry => Sys2Proof.Machine.execCoastLimitExpiry s
  | .rampDownComplete => Sys2Proof.Machine.execRampDownComplete s
  | .rampDownGraceExpiry => Sys2Proof.Machine.execRampDownGraceExpiry s
  | .vocMeasurementEnd leaf => Sys2Proof.Machine.execVocMeasurementEnd leaf s
  | .scanDue leaf => Sys2Proof.Machine.execScanDue leaf s
  | .scanPointEnd leaf => Sys2Proof.Machine.execScanPointEnd leaf s
  | .scanAbandon leaf => Sys2Proof.Machine.execScanAbandon leaf s
  | .curtailStep leaf => Sys2Proof.Machine.execCurtailStep leaf s
  | .sentinelRotateExpiry arm => Sys2Proof.Machine.execSentinelRotateExpiry arm s
  | .chargeTimeoutExpiry => Sys2Proof.Machine.execChargeTimeoutExpiry s
  | .retideRestart => Sys2Proof.Machine.execRetideRestart s
  | .retideReady => Sys2Proof.Machine.execRetideReady s
  | .bootRestore => Sys2Proof.Machine.execBootRestore s
  | .validationComplete => Sys2Proof.Machine.execValidationComplete s
  | .commitSlotWritten ok stuck => Sys2Proof.Machine.execCommitSlotWritten ok stuck s
  | .commitVerified ok stuck => Sys2Proof.Machine.execCommitVerified ok stuck s
  | .sessionOpen net f => Sys2Proof.Machine.execSessionOpen net f s
  | .sessionAuth net f => Sys2Proof.Machine.execSessionAuth net f s
  | .sessionClose net f => Sys2Proof.Machine.execSessionClose net f s
  | .keepalive net f => Sys2Proof.Machine.execKeepalive net f s
  | .read net f => Sys2Proof.Machine.execRead net f s
  | .write net f => Sys2Proof.Machine.execWrite net f s
  | .blockReadStart net f => Sys2Proof.Machine.execBlockReadStart net f s
  | .blockReadSegment net f => Sys2Proof.Machine.execBlockReadSegment net f s
  | .blockWriteStart net f => Sys2Proof.Machine.execBlockWriteStart net f s
  | .blockWriteSegment net f => Sys2Proof.Machine.execBlockWriteSegment net f s
  | .blockWriteEnd net f => Sys2Proof.Machine.execBlockWriteEnd net f s
  | .transferTimeoutExpiry k => Sys2Proof.Machine.execTransferTimeoutExpiry k s
  | .heldRequestExpiry k => Sys2Proof.Machine.execHeldRequestExpiry k s
  | .halfOpenTimeout k => Sys2Proof.Machine.execHalfOpenTimeout k s
  | .sessionTimeoutExpiry k => Sys2Proof.Machine.execSessionTimeoutExpiry k s
  | .notifyAck net f => Sys2Proof.Machine.execNotifyAck net f s
  | .notifyRetryExpiry k => Sys2Proof.Machine.execNotifyRetryExpiry k s
  | .notify kind body => Sys2Proof.Machine.execNotify kind body s
  | .imageOut net f => Sys2Proof.Machine.execImageOut net f s
  | .imageCycleStart => Sys2Proof.Machine.execImageCycleStart s
  | .tokenRequest k v => Sys2Proof.Machine.execTokenRequest k v s
  | .tokenForced k v => Sys2Proof.Machine.execTokenForced k v s
  | .tokenRelease k v => Sys2Proof.Machine.execTokenRelease k v s
  | .tokenTimeoutExpiry => Sys2Proof.Machine.execTokenTimeoutExpiry s
  | .sessionEvict k v => Sys2Proof.Machine.execSessionEvict k v s
  | .roleKeyWrite k which value => Sys2Proof.Machine.execRoleKeyWrite k which value s
  | .svFrame port m => Sys2Proof.Machine.execSvFrame port m s
  | .frameDropped port => Sys2Proof.Machine.execFrameDropped port s
  | .arpIcmpRequest port kind target data => Sys2Proof.Machine.execArpIcmpRequest port kind target data s
  | .queuePost k value => Sys2Proof.Machine.execQueuePost k value s
  | .queueSelect k v => Sys2Proof.Machine.execQueueSelect k v s
  | .queueRelease k value => Sys2Proof.Machine.execQueueRelease k value s
  | .queueClearReturned k v => Sys2Proof.Machine.execQueueClearReturned k v s
  | .subEnable k n v => Sys2Proof.Machine.execSubEnable k n v s
  | .subRelease k n v => Sys2Proof.Machine.execSubRelease k n v s
  | .missCounterClear k which v => Sys2Proof.Machine.execMissCounterClear k which v s
  | .rtMeasure k d v => Sys2Proof.Machine.execRtMeasure k d v s
  | .rebalance k v => Sys2Proof.Machine.execRebalance k v s
  | .plausClear k v => Sys2Proof.Machine.execPlausClear k v s
  | .traceArm k => Sys2Proof.Machine.execTraceArm k s
  | .traceManualTrigger k => Sys2Proof.Machine.execTraceManualTrigger k s
  | .traceStop k => Sys2Proof.Machine.execTraceStop k s
  | .coreRestart k v => Sys2Proof.Machine.execCoreRestart k v s
  | .rampDownRequest k v => Sys2Proof.Machine.execRampDownRequest k v s
  | .islandClear k c v => Sys2Proof.Machine.execIslandClear k c v s
  | .gridModeWrite k c v => Sys2Proof.Machine.execGridModeWrite k c v s
  | .scanAbort k v => Sys2Proof.Machine.execScanAbort k v s
  | .selfTestCommand k leaf args => Sys2Proof.Machine.execSelfTestCommand k leaf args s
  | .scClearCommand k leaf => Sys2Proof.Machine.execScClearCommand k leaf s
  | .permanentBypassCommand k leaf => Sys2Proof.Machine.execPermanentBypassCommand k leaf s
  | .releaseBypassCommand k leaf => Sys2Proof.Machine.execReleaseBypassCommand k leaf s
  | .penWithoutBypassCommand k leaf => Sys2Proof.Machine.execPenWithoutBypassCommand k leaf s
  | .clearRetirementCommand k leaf => Sys2Proof.Machine.execClearRetirementCommand k leaf s
  | .leafReadmit k leaf v => Sys2Proof.Machine.execLeafReadmit k leaf v s
  | .readmitStep leaf => Sys2Proof.Machine.execReadmitStep leaf s
  | .rejoinRequest k v => Sys2Proof.Machine.execRejoinRequest k v s
  | .validate k v => Sys2Proof.Machine.execValidate k v s
  | .configCommit k v => Sys2Proof.Machine.execConfigCommit k v s
  | .draftFromCommitted k => Sys2Proof.Machine.execDraftFromCommitted k s
  | .draftFromFactory k => Sys2Proof.Machine.execDraftFromFactory k s
  | .hold k => Sys2Proof.Machine.execHold k s
  | .charge k => Sys2Proof.Machine.execCharge k s
  | .run k => Sys2Proof.Machine.execRun k s
  | .stop k => Sys2Proof.Machine.execStop k s
  | .block k => Sys2Proof.Machine.execBlock k s
  | .discharge k => Sys2Proof.Machine.execDischarge k s
  | .safeReset k => Sys2Proof.Machine.execSafeReset k s
  | .ptpSync port m => Sys2Proof.Machine.execPtpSync port m s
  | .ptpAnnounce port m => Sys2Proof.Machine.execPtpAnnounce port m s
  | .announceReceiptTimeout port clock => Sys2Proof.Machine.execAnnounceReceiptTimeout port clock s
  | .ptpDelayReqSend port sent stamp => Sys2Proof.Machine.execPtpDelayReqSend port sent stamp s
  | .ptpDelayResponse port m => Sys2Proof.Machine.execPtpDelayResponse port m s
  | .pdelayReqReceived port seqId domain rx tx => Sys2Proof.Machine.execPdelayReqReceived port seqId domain rx tx s
  | .tsEntryStale port ident => Sys2Proof.Machine.execTsEntryStale port ident s
  | .timeStep => Sys2Proof.Machine.execTimeStep s
  | .timeStepPermit k v => Sys2Proof.Machine.execTimeStepPermit k v s
  | .timeSet k v => Sys2Proof.Machine.execTimeSet k v s
  | .timeIncrementWrite k v => Sys2Proof.Machine.execTimeIncrementWrite k v s
  | .rateAdjustWrite k v => Sys2Proof.Machine.execRateAdjustWrite k v s
  | .ppsSecond => Sys2Proof.Machine.execPpsSecond s
  | .timeToleranceChange => Sys2Proof.Machine.execTimeToleranceChange s
  | .refLost src => Sys2Proof.Machine.execRefLost src s
  | .refRestored src => Sys2Proof.Machine.execRefRestored src s
  | .pllLock pll us => Sys2Proof.Machine.execPllLock pll us s
  | .gridSample readings span => Sys2Proof.Machine.execGridSample readings span s
  | .meterWindowBoundary => Sys2Proof.Machine.execMeterWindowBoundary s
  | .channelClockCheck ch count moving => Sys2Proof.Machine.execChannelClockCheck ch count moving s
  | .channelClockMissing ch => Sys2Proof.Machine.execChannelClockMissing ch s
  | .channelDataStuck ch => Sys2Proof.Machine.execChannelDataStuck ch s
  | .snapshotTrigger k v => Sys2Proof.Machine.execSnapshotTrigger k v s
  | .energyPreset k m value => Sys2Proof.Machine.execEnergyPreset k m value s
  | .meterFlagsClear k m v => Sys2Proof.Machine.execMeterFlagsClear k m v s
  | .pulseEmit n => Sys2Proof.Machine.execPulseEmit n s
  | .calChannels k v => Sys2Proof.Machine.execCalChannels k v s
  | .calHalfEnd => Sys2Proof.Machine.execCalHalfEnd s
  | .sarBackgroundConversion conv input code taken => Sys2Proof.Machine.execSarBackgroundConversion conv input code taken s
  | .sarDataRead k conv => Sys2Proof.Machine.execSarDataRead k conv s
  | .sarCal k v => Sys2Proof.Machine.execSarCal k v s
  | .sarCalEnd failed readings => Sys2Proof.Machine.execSarCalEnd failed readings s
  | .sarSelfCalEnd conv passed => Sys2Proof.Machine.execSarSelfCalEnd conv passed s
  | .sensorDecimatorOutput input code outputs delay => Sys2Proof.Machine.execSensorDecimatorOutput input code outputs delay s
  | .comparatorChange c outside => Sys2Proof.Machine.execComparatorChange c outside s
  | .blankingStart c => Sys2Proof.Machine.execBlankingStart c s
  | .blankingEnd c outside => Sys2Proof.Machine.execBlankingEnd c outside s
  | .cmpClear k v => Sys2Proof.Machine.execCmpClear k v s
  | .pwmValley q correction => Sys2Proof.Machine.execPwmValley q correction s
  | .pwmDutyWrite k q v => Sys2Proof.Machine.execPwmDutyWrite k q v s
  | .delayLineCalibration matched => Sys2Proof.Machine.execDelayLineCalibration matched s
  | .gpioOutWrite k v => Sys2Proof.Machine.execGpioOutWrite k v s
  | .gpioEdge pin level => Sys2Proof.Machine.execGpioEdge pin level s
  | .xcvrPoll => Sys2Proof.Machine.execXcvrPoll s
  | .pmbusPoll => Sys2Proof.Machine.execPmbusPoll s
  | .mbusRequest k value => Sys2Proof.Machine.execMbusRequest k value s
  | .mbusTransactionEnd outcome data => Sys2Proof.Machine.execMbusTransactionEnd outcome data s
  | .mbusRecovery freed => Sys2Proof.Machine.execMbusRecovery freed s
  | .safetyInputChange pair a b glitch => Sys2Proof.Machine.execSafetyInputChange pair a b glitch s
  | .sinDiscrepancyExpiry pair => Sys2Proof.Machine.execSinDiscrepancyExpiry pair s
  | .resetPress pair => Sys2Proof.Machine.execResetPress pair s
  | .breakwaterDemand cause dead => Sys2Proof.Machine.execBreakwaterDemand cause dead s
  | .blockSetRepeat => Sys2Proof.Machine.execBlockSetRepeat s
  | .blockRelease => Sys2Proof.Machine.execBlockRelease s
  | .periodicRelease => Sys2Proof.Machine.execPeriodicRelease s
  | .heartbeatWindowClose => Sys2Proof.Machine.execHeartbeatWindowClose s
  | .testPulse output ok => Sys2Proof.Machine.execTestPulse output ok s
  | .fastPathTest c result => Sys2Proof.Machine.execFastPathTest c result s
  | .channelDiagnosticCheck code bad => Sys2Proof.Machine.execChannelDiagnosticCheck code bad s
  | .channelFault code fallen => Sys2Proof.Machine.execChannelFault code fallen s
  | .aliveMonitorExpiry => Sys2Proof.Machine.execAliveMonitorExpiry s
  | .degradedTimeExpiry => Sys2Proof.Machine.execDegradedTimeExpiry s
  | .safetyReset k v => Sys2Proof.Machine.execSafetyReset k v s
  | .safetySessionReset k v => Sys2Proof.Machine.execSafetySessionReset k v s
  | .tripRelease k v => Sys2Proof.Machine.execTripRelease k v s
  | .safetyDemand k v => Sys2Proof.Machine.execSafetyDemand k v s
  | .safetySelftest k v => Sys2Proof.Machine.execSafetySelftest k v s
  | .breakwaterSelftestEnd code => Sys2Proof.Machine.execBreakwaterSelftestEnd code s
  | .safetyConfirm k v => Sys2Proof.Machine.execSafetyConfirm k v s
  | .pornLow => Sys2Proof.Machine.execPornLow s
  | .srstnLow => Sys2Proof.Machine.execSrstnLow s
  | .supplyMonitorTrip rail => Sys2Proof.Machine.execSupplyMonitorTrip rail s
  | .criticalStateParity domain => Sys2Proof.Machine.execCriticalStateParity domain s
  | .lookoutWatchdogExpiry => Sys2Proof.Machine.execLookoutWatchdogExpiry s
  | .coreReset k => Sys2Proof.Machine.execCoreReset k s
  | .systemReset k => Sys2Proof.Machine.execSystemReset k s
  | .fullReset k => Sys2Proof.Machine.execFullReset k s
  | .resetSourceReleased src => Sys2Proof.Machine.execResetSourceReleased src s
  | .domainRelease => Sys2Proof.Machine.execDomainRelease s
  | .optionLoadDone view => Sys2Proof.Machine.execOptionLoadDone view s
  | .storeInitDone => Sys2Proof.Machine.execStoreInitDone s
  | .bootComplete => Sys2Proof.Machine.execBootComplete s
  | .unitDoze unit doze => Sys2Proof.Machine.execUnitDoze unit doze s
  | .scheduledWake => Sys2Proof.Machine.execScheduledWake s
  | .wakeEvent why => Sys2Proof.Machine.execWakeEvent why s
  | .wakeAttemptTimeout pgLate refLate => Sys2Proof.Machine.execWakeAttemptTimeout pgLate refLate s
  | .powerRetry k v => Sys2Proof.Machine.execPowerRetry k v s
  | .powerMaxStateWrite k v => Sys2Proof.Machine.execPowerMaxStateWrite k v s
  | .nextDispatchWrite k v => Sys2Proof.Machine.execNextDispatchWrite k v s
  | .auxPowerWarning => Sys2Proof.Machine.execAuxPowerWarning s
  | .coveStoresExhausted => Sys2Proof.Machine.execCoveStoresExhausted s
  | .coveColdStart => Sys2Proof.Machine.execCoveColdStart s
  | .coveSecondResync => Sys2Proof.Machine.execCoveSecondResync s
  | .junctionTemperatureChange die t => Sys2Proof.Machine.execJunctionTemperatureChange die t s
  | .eventEmit rank num severity inst args => Sys2Proof.Machine.execEventEmit rank num severity inst args s
  | .eventCommit => Sys2Proof.Machine.execEventCommit s
  | .logCursorWrite k v => Sys2Proof.Machine.execLogCursorWrite k v s
  | .alarmAck k v => Sys2Proof.Machine.execAlarmAck k v s
  | .pmcOverflow c add wr clear => Sys2Proof.Machine.execPmcOverflow c add wr clear s
  | .pmcSampleCapture context => Sys2Proof.Machine.execPmcSampleCapture context s
  | .pmcSettingsWrite k c sub v => Sys2Proof.Machine.execPmcSettingsWrite k c sub v s
  | .pmcValueWrite k c v => Sys2Proof.Machine.execPmcValueWrite k c v s
  | .pmcStatusClear k v => Sys2Proof.Machine.execPmcStatusClear k v s
  | .pmcFreeze k v => Sys2Proof.Machine.execPmcFreeze k v s
  | .pmcSampleRelease k v => Sys2Proof.Machine.execPmcSampleRelease k v s
  | .histogramObservation h inst value => Sys2Proof.Machine.execHistogramObservation h inst value s
  | .histClear k h v => Sys2Proof.Machine.execHistClear k h v s
  | .debugChallenge k => Sys2Proof.Machine.execDebugChallenge k s
  | .debugUnlock k mac => Sys2Proof.Machine.execDebugUnlock k mac s
  | .debugLock k v => Sys2Proof.Machine.execDebugLock k v s
  | .laneBlockLockGained d => Sys2Proof.Machine.execLaneBlockLockGained d s
  | .hostPortLinkChange port up => Sys2Proof.Machine.execHostPortLinkChange port up s
  | .pllLockLoss pll => Sys2Proof.Machine.execPllLockLoss pll s
  | .syncReceiptTimeout port clock => Sys2Proof.Machine.execSyncReceiptTimeout port clock s
  | .delayExchangeTimeout port => Sys2Proof.Machine.execDelayExchangeTimeout port s
  | .pgCoreReport => Sys2Proof.Machine.execPgCoreReport s
  | .svStreamLossTimeout st => Sys2Proof.Machine.execSvStreamLossTimeout st s
  | .jtagAccess acc => Sys2Proof.Machine.execJtagAccess acc s
  | .clkoutAlignmentStep o delta aligned => Sys2Proof.Machine.execClkoutAlignmentStep o delta aligned s
  | .tripReadbackChange output level => Sys2Proof.Machine.execTripReadbackChange output level s

end Sys2Proof.Machine
end

