-- ==== Sys2Proof/Safety.lean ====
section
/-! DEFINITION. What a sound state of the block is: every sparse store of the state is in its one canonical form, so that equal contents
are equal data. Every step keeps it, from any state that has it. -/

namespace Sys2Proof.Machine

/-- Every sparse store is in canonical form: keys strictly rising, and no entry equal to what an unlisted key reads as. -/
structure State.Canonical (s : State) : Prop where
  /-- object values (R6) -/
  regs : Tbl.wf objDefault s.regs = true
  /-- object bytes (R6) -/
  blobs : Tbl.wf blobDefault s.blobs = true
  /-- drove lanes (R71) -/
  droves : Tbl.wf (fun _ => Drove.off) s.droves = true
  /-- leaves (R13) -/
  leaves : Tbl.wf (fun _ => Leaf.unknown) s.leaves = true
  /-- queues (R15) -/
  queues : Tbl.wf (fun _ => Queue.empty) s.queues = true
  /-- command slots (R72) -/
  slots : Tbl.wf (fun _ => CmdSlot.block) s.slots = true
  /-- tide records (R75) -/
  tideRec : Tbl.wf (fun _ => 1) s.tideRec = true
  /-- sensor samples (R75) -/
  samples : Tbl.wf (fun _ => none) s.samples = true
  /-- windowed fault counts (R261) -/
  faultCounts : Tbl.wf (fun _ => 0) s.faultCounts = true
  /-- memories (R72, R73) -/
  mem : Memory.wf s.mem
  /-- solar leaves (R203) -/
  solar : Tbl.wf (fun _ => SolarLeaf.reset) s.solar.leaves = true

end Sys2Proof.Machine
end

