-- ==== Sys2Proof/Certificates/Slice0/Obligations.lean ====
section
/-! DEFINITION. The statements made of the model, for the provers; each docstring names the rules of spec/ that its statement formalises. -/

namespace Sys2Proof.Claims

open Sys2Proof.Machine

/-- Command `c` completes on `s`, and `P` holds of the next state. -/
def Completes (c : Instr) (s : State) (P : State → Prop) : Prop := ∃ t, exec c s = .next t ∧ P t

/-- No object but those of `ks` differs. -/
def OnlyObjects (ks : List Nat) (s t : State) : Prop := ∀ j, j ∉ ks → rd t j = rd s j

/-- Nothing but the objects of `ks` differs: no other object, no memory, no record of any unit. -/
def OnlyRegs (ks : List Nat) (s t : State) : Prop := t = { s with regs := t.regs } ∧ OnlyObjects ks s t

/-- Nothing differs but the objects of `ks`, and what the delivery of an event changes: the log's intake, and `LOG_DROPPED` when the
intake is full. -/
def OnlyLogged (ks : List Nat) (s t : State) : Prop :=
  t = { s with regs := t.regs, log := t.log } ∧ OnlyObjects (Obj.LOG_DROPPED :: ks) s t

/-- Event `e` of an instance has been delivered, when the intake has room for it (R489, R491). -/
def Raised (e : Ev) (inst : Nat) (s t : State) : Prop :=
  s.log.intake.length < intakeMax →
    ∃ x, x ∈ t.log.intake ∧ x.code = e.code ∧ x.rank = e.rank ∧ x.severity = e.severity ∧ x.inst = inst

/-- The counter of `key`, of `w` bits, counts one and saturates. -/
def Counted (w key : Nat) (s t : State) : Prop := rd t key = satAdd (2 ^ w - 1) (rd s key) 1

/-- The state in which the service of session `k`'s next request runs: the frame and the request are counted, and the request has its
place in the order (R286). -/
abbrev booked (k : Nat) (s : State) : State :=
  let q := (sess s k).execd + 1
  pmcEvent 0x13 0xFFFF 1
    (countBy 64 (setSess (countIn (sessNet s k).port s) k (fun y => { y with execd := q })) (Obj.SESSION_REQUESTS k) 1)

/-- The next request of session `k` has its turn: its port runs and reaches the session's host (R282), it is open, no request of it
waits, no reset is due, no installation session is open, every session's port number is one byte, and no refused write or unapplied
image entry waits to be compared (R308). -/
abbrev Ready (k : Nat) (s : State) : Prop :=
  k < 16 ∧ k < s.sessions.length ∧ hostUp s (sessNet s k).port = true ∧ reachable s (sessNet s k).port (sessNet s k).addr = true
    ∧ rd s (Obj.SESSION_STATE k) = 2 ∧ (sess s k).held = []
    ∧ s.rp.resetDue = 0 ∧ (∀ j, j < 16 → rd s (Obj.SESSION_STATE j) ≠ 3) ∧ (∀ j, j < 16 → rd s (Obj.SESSION_PORT j) ≤ 255)
    ∧ ∀ m, m < 4 → (masterImages s m).remembered = [] ∧ (masterImages s m).shadow = []

/-- A write of `bs` to the object `key` by session `k` passes the checks 3 to 10 of R295. -/
abbrev Passes (k key : Nat) (bs : List Byte) (s : State) : Prop :=
  (writeChecks (booked k s) k (keyIndex key) (keySub key) bs).2 = 0

/-- Session `k` may write `bs` to the object `key`: it is its turn, and the checks pass. -/
abbrev MayWrite (k key : Nat) (bs : List Byte) (s : State) : Prop := Ready k s ∧ Passes k key bs s

/-- Session `k` may write the number `v` to the object `key`, in as many bytes as the object has. -/
abbrev MayWriteN (k key v : Nat) (s : State) : Prop := MayWrite k key (namedBytes key v) s

/-- The last thing sent is the response of session `k`'s next request, with status `code` (R285, R296). -/
def Answered (k code : Nat) (s t : State) : Prop :=
  ∃ pcp f rest, t.outbox = .datagram (sessNet s k) pcp f :: rest ∧ f.status = code ∧ f.seq = (sess s k).execd + 1

/-- The last thing sent is that response, with status 0 and the bytes `bs`. -/
def AnsweredWith (k : Nat) (bs : List Byte) (s t : State) : Prop :=
  ∃ pcp f rest, t.outbox = .datagram (sessNet s k) pcp f :: rest ∧ f.status = 0 ∧ f.seq = (sess s k).execd + 1 ∧ f.payload = bs

/-- A change of station state to `target` with a cause and its argument stands scheduled, with the tide R332 gives it. -/
def Scheduled (target cause arg : Nat) (s t : State) : Prop :=
  ({ target := target, cause := cause, due := dueTide s target, arg := arg } : Cause) ∈ t.sm.causes

/-- The objects a request changes beside its own effect: the port's frame counts, the session's requests, the counter block. -/
def hostKeys (k : Nat) (s : State) : List Nat :=
  Obj.FRAMES_IN (sessNet s k).port :: Obj.FRAMES_OUT (sessNet s k).port :: Obj.SESSION_REQUESTS k
    :: Obj.PMC_STATUS :: Obj.PMC_SAMPLES_LOST :: (List.range 32).map Obj.PMC_VALUE

/-- The request of session `k` is answered with status 0. Nothing differs from `u` but objects, session `k`, the counter block, what was
sent and the notes of the process-image cycle; and no object differs but those of `ks` and those every request changes. -/
def Done (k : Nat) (ks : List Nat) (u s t : State) : Prop :=
  Answered k 0 s t
    ∧ t = { u with regs := t.regs, sessions := t.sessions, pmc := t.pmc, outbox := t.outbox, images := t.images }
    ∧ (∀ j, j ≠ k → sess t j = sess s j)
    ∧ ∀ j, j ∉ ks → j ∉ hostKeys k s → rd t j = rd s j

/-- The objects a notification to any session may change. -/
def noteKeys (s : State) : List Nat :=
  (List.range 16).map (fun j => Obj.FRAMES_OUT (sessNet s j).port) ++ (List.range 16).map Obj.NOTIFY_DROPPED

/-- As `Done`, where the effect also notifies other sessions. -/
def Told (k : Nat) (ks : List Nat) (u s t : State) : Prop :=
  Answered k 0 s t
    ∧ t = { u with regs := t.regs, sessions := t.sessions, pmc := t.pmc, outbox := t.outbox, images := t.images }
    ∧ ∀ j, j ∉ ks → j ∉ hostKeys k s → j ∉ noteKeys s → rd t j = rd s j

/-- A port that runs has received a frame for the device's object port, untagged or of its VLAN, from a host it can answer (R282, R283,
R289). -/
abbrev Arrived (net : NetAddr) (s : State) : Prop :=
  hostUp s net.port = true ∧ addressed s net = true ∧ reachable s net.port net.addr = true

/-- A frame of session `k` has arrived at a port that runs, in the right form and with the right tag (R284, R291). -/
abbrev Heard (k : Nat) (net : NetAddr) (f : ObjFrame) (s : State) : Prop :=
  k < 16 ∧ k < s.sessions.length ∧ Arrived net s ∧ findSession s f.session [2, 3] = some k
    ∧ frameForm f (if (sess s k).ks = [] then 0 else 32) = true ∧ f.tag = frameTag (sess s k).ks f

/-- It is the session's next request, none waits, no reset is due and no installation session is open (R286). -/
abbrev InTurn (k : Nat) (f : ObjFrame) (s : State) : Prop :=
  f.seq = (sess s k).execd + 1 ∧ (sess s k).held = [] ∧ s.rp.resetDue = 0 ∧ ∀ j, j < 16 → rd s (Obj.SESSION_STATE j) ≠ 3

/-- The state in which a frame of session `k` is routed: counted, and the session's place on the network noted (R289). -/
abbrev reached (k : Nat) (net : NetAddr) (s : State) : State :=
  wrs (countIn net.port s) [(Obj.SESSION_PORT k, net.port), (Obj.SESSION_ADDRESS k, net.addr), (Obj.SESSION_UDP k, net.udp)]

/-- The state in which the service of a request frame of session `k` runs (R286). -/
abbrev taken (k : Nat) (net : NetAddr) (f : ObjFrame) (s : State) : State :=
  pmcEvent 0x13 0xFFFF 1
    (countBy 64 (setSess (reached k net s) k (fun y => { y with execd := f.seq })) (Obj.SESSION_REQUESTS k) 1)

/-- The last thing sent, to the host of `net` from the device's object port and in its VLAN, is the response of frame `f` under the key
`ks` (R283, R285, R291, R296). -/
def Replied (ks : List Byte) (net : NetAddr) (f : ObjFrame) (arg code : Nat) (payload : List Byte) (t : State) : Prop :=
  ∃ pcp g rest, t.outbox = .datagram (outward t net) pcp g :: rest ∧ g.service = f.service ∧ g.seq = f.seq ∧ g.arg = arg ∧ g.status = code
    ∧ g.payload = payload ∧ g.tag = frameTag ks g

/-- The objects a request frame of session `k` changes beside its own effect. -/
def frameKeys (k : Nat) (net : NetAddr) : List Nat :=
  Obj.FRAMES_IN net.port :: Obj.FRAMES_OUT net.port :: Obj.SESSION_PORT k :: Obj.SESSION_ADDRESS k :: Obj.SESSION_UDP k
    :: Obj.SESSION_REQUESTS k :: Obj.ABORTS_SENT :: Obj.PMC_STATUS :: Obj.PMC_SAMPLES_LOST :: (List.range 32).map Obj.PMC_VALUE

/-- The requests of R285 that name their session, each with its service code. -/
def requestRows (net : NetAddr) (f : ObjFrame) : List (Instr × Nat) :=
  [(.sessionClose net f, 0x03), (.keepalive net f, 0x04), (.read net f, 0x10), (.write net f, 0x11), (.blockReadStart net f, 0x12),
    (.blockReadSegment net f, 0x13), (.blockWriteStart net f, 0x14), (.blockWriteSegment net f, 0x15), (.blockWriteEnd net f, 0x16),
    (.notifyAck net f, 0x21), (.imageOut net f, 0x30)]

/-- The session `k` asked for the state change `v`, and no check of R334 fails. -/
abbrev MayRequest (k v : Nat) (s : State) : Prop :=
  MayWriteN k Obj.STATE_REQUEST v s ∧ (v = 1 → 2 ≤ sessRole s k) ∧ requestCheck (booked k s) v = 0

/-- The request `v` is pending and shown so (R333). -/
def Asked (k v : Nat) (s t : State) : Prop :=
  Done k [Obj.REQUEST_STATUS] { s with sm := t.sm } s t ∧ rd t Obj.REQUEST_STATUS = 0xFF ∧ t.sm.request = v

/-- Objects that show the block pool. -/
def poolKeys : List Nat := [Obj.POOL_DOWN_FREE, Obj.POOL_UP_FREE, Obj.POOL_DOWN_LOW]

/-- A message of `len` bytes can be posted by the device to queue `id` (R87). -/
abbrev Room (id len : Nat) (s : State) : Prop :=
  ((queueOf s id).qstate = 1 ∨ (queueOf s id).qstate = 2) ∧ postFits s id len = true

/-- A message stands at the end of queue `id`, numbered by `NEXT_SEQ`, which has moved on; no other queue differs (R87). -/
def Posted (id : Nat) (body : List Byte) (s t : State) : Prop :=
  queueOf t id = { queueOf s id with
    msgs := (queueOf s id).msgs ++ [{ seq := (queueOf s id).nextSeq, body := body, tide := tideNow s, lost := false, back := false }],
    nextSeq := ((queueOf s id).nextSeq + 1) % 65536 }
  ∧ ∀ j, j ≠ id → queueOf t j = queueOf s j

/-- A BLOCK demand shows in `BW_STATUS`, and from CHARGING to RAMP-DOWN the station has been asked to go to BLOCKED at the next tide
start (R428). -/
def BlockShown (s t : State) : Prop :=
  bit (rd t Obj.BW_STATUS) 4 = true
    ∧ (stCharging ≤ station s → station s ≤ stRampDown →
        ({ target := stBlocked, cause := causeBreakwater, due := tideNow s + 1, arg := 0 } : Cause) ∈ t.sm.causes)

/-- A TRIP demand shows in `BW_STATUS`, the four trip outputs are de-energised, and from HELD to RAMP-DOWN the station has been asked to
go to SAFE at the next tide start (R428, R436). -/
def TripShown (s t : State) : Prop :=
  bit (rd t Obj.BW_STATUS) 5 = true ∧ bit (rd t Obj.BW_STATUS) 4 = true ∧ t.bw.outputs = [false, false, false, false]
    ∧ (stHeld ≤ station s → station s ≤ stRampDown →
        ({ target := stSafe, cause := causeBreakwater, due := tideNow s + 1, arg := 0 } : Cause) ∈ t.sm.causes)

end Sys2Proof.Claims

open Sys2Proof Sys2Proof.Machine Sys2Proof.Claims

/-- For every command c, every list rest and every state s whose queue is c followed by rest, step s is exec c on s with rest as
its queue. Formalises spec/00_scope.md; spec/98_reader.md. -/
def Obligations.StepRunsFrontCommand : Prop :=
  ∀ (c : Instr) (rest : List Instr) (s : State), s.pending = c :: rest → step s = exec c { s with pending := rest }

/-- With an empty queue and the TIME domain running, a step answers a next state in which station time has gained one increment,
the queue is still empty and the memories, queues, droves and leaves are unchanged; with TIME held in reset and the cove
alive, the cove's counter gains 4 ns and station time stands. That a step with nothing to do lets one edge pass is DESIGN
CHOICE, log entry 2. Formalises spec/12_timebase.md (R344); spec/16_reset_and_power.md (R360). -/
def Obligations.EmptyQueuePassesOneTimeEdge : Prop :=
  (∀ s : State, s.pending = [] → alive s .time = true →
    ∃ t, step s = .next t ∧ t.time.acc = s.time.acc + s.time.inc ∧ t.pending = [] ∧ t.mem = s.mem ∧ t.queues = s.queues
      ∧ t.droves = s.droves ∧ t.leaves = s.leaves ∧ t.outbox = s.outbox)
  ∧ ∀ s : State, s.pending = [] → alive s .time = false → s.cove.alive = true →
    ∃ t, step s = .next t ∧ t.cove.time = s.cove.time + 4 * nsUnit ∧ t.time = s.time ∧ t.regs = s.regs ∧ t.pending = []

/-- For every state s in which the objects, the DOMAIN and STR objects, the droves, leaves, queues, command slots, tide records,
samples, fault counts, memories and solar leaves are each in their one canonical form: if a step answers a next state t, then
t has the same form, and t's queue is the tail of s's queue, so no command adds or drops a waiting command. Formalises
spec/03_flock_store.md (R72, R73); spec/10_object_dictionary.md (R5, R6). -/
def Obligations.StepKeepsCanonicalState : Prop :=
  ∀ s t : State, s.Canonical → step s = .next t → t.Canonical ∧ t.pending = s.pending.tail

/-- State.reset is canonical. In it the queue is empty, no reset domain is released, STATION_STATE reads BOOT, the draft and
committed images, the log, the queues, the memories and the outbox are empty, every session is free, and every object but
COVE_STATUS reads its Default. COVE_STATUS shows COLD_STARTED (R486): that the cove has cold-started before the first reset is
the model's choice, log entry 22. Formalises spec/11_configuration_and_states.md (R335); spec/16_reset_and_power.md (R462,
R465). -/
def Obligations.ResetStateIsCanonical : Prop :=
  State.reset.Canonical ∧ State.reset.pending = [] ∧ State.reset.rp.released = 0 ∧ station State.reset = stBoot
    ∧ State.reset.cfg.committed = none ∧ State.reset.log.ring = [] ∧ State.reset.queues = [] ∧ State.reset.mem = []
    ∧ State.reset.outbox = [] ∧ (∀ k, (sess State.reset k).ident = 0)
    ∧ rd State.reset Obj.COVE_STATUS = 0x40 ∧ ∀ j, j ≠ Obj.COVE_STATUS → rd State.reset j = objDefault j

/-- For every command and every state, exec answers a next state, or the command is a JTAG read or write of a memory address that
lies outside its region, made while the debug port is unlocked, and exec answers the fault noSuchAddress. No command is ever
refused. JTAG_ACCESS completes: a boundary-scan instruction is loaded, EXTEST and CLAMP as BYPASS unless PORN is low; unlocked, a
halt and a resume set and clear the unit's bit of DEBUG_HALTED, a read of an unpoisoned address of its region sends the byte, and
a write of a plain memory's unpoisoned byte leaves that byte there and changes nothing but memory; while the port is locked
every access but such a load changes nothing. Formalises spec/17_supervision.md (R502); spec/03_flock_store.md (R72, R74). -/
def Obligations.OnlyTheDebugPortStops : Prop :=
  (∀ (c : Instr) (s : State), (∃ t, exec c s = .next t)
    ∨ (exec c s = .fault .noSuchAddress ∧ debugOpen s = true
        ∧ ∃ region addr, regionSize region ≤ addr ∧ region ≠ 19
          ∧ (c = .jtagAccess (.readMem region addr) ∨ ∃ v, c = .jtagAccess (.writeMem region addr v))))
  ∧ (∀ (i : Nat) (s : State), Completes (.jtagAccess (.load i)) s fun t =>
      t = { s with dbg := { s.dbg with instr := if i ≤ 2 ∨ (i ≤ 4 ∧ bit s.rp.sources rcPorn = true) then i else 0 } })
  ∧ (∀ (u : Nat) (s : State), debugOpen s = true → u < 31 →
      (Completes (.jtagAccess (.halt u)) s fun t =>
        bit (rd t Obj.DEBUG_HALTED) u = true ∧ rd t Obj.DEBUG_STATE = 2 ∧ OnlyRegs [Obj.DEBUG_HALTED, Obj.DEBUG_STATE] s t)
      ∧ Completes (.jtagAccess (.resume u)) s fun t =>
        bit (rd t Obj.DEBUG_HALTED) u = false ∧ OnlyRegs [Obj.DEBUG_HALTED, Obj.DEBUG_STATE] s t)
  ∧ (∀ (region addr : Nat) (v : Byte) (s : State), s.Canonical → debugOpen s = true → region ≠ 19 → addr < regionSize region →
      poisoned s region addr = false →
      (Completes (.jtagAccess (.readMem region addr)) s fun t =>
        t = { s with outbox := .tdo (debugRead s region addr) :: s.outbox })
      ∧ (region ≠ 8 → region ≠ 2 → descriptorAt region addr = none → Completes (.jtagAccess (.writeMem region addr v)) s fun t =>
        rdMem t (memKey region addr) = v ∧ t = { s with mem := t.mem }))
  ∧ ∀ (acc : JtagOp) (s : State), debugOpen s = false → (∀ i, acc ≠ .load i) → exec (.jtagAccess acc) s = .next s

/-- For every target instant and every state with a nonzero increment: after running to the target, station time is at or after
it; it overshoots by less than one increment when the target lay ahead, and it stands when the target had passed. Running
changes only station time, the counter block, DOZE_TIME and the counters' objects. Formalises spec/01_architecture_and_tide.md
(R20); spec/12_timebase.md (R344). -/
def Obligations.TimeRunsToTheFirstEdge : Prop :=
  ∀ (target : Nat) (s : State), 0 < s.time.inc →
    target ≤ (runTo target s).time.acc
      ∧ (s.time.acc < target → (runTo target s).time.acc < target + s.time.inc)
      ∧ (target ≤ s.time.acc → (runTo target s).time.acc = s.time.acc)
      ∧ runTo target s = { s with time := (runTo target s).time, pmc := (runTo target s).pmc, regs := (runTo target s).regs }
      ∧ (∀ j, j ≠ Obj.DOZE_TIME → j ≠ Obj.PMC_STATUS → j ≠ Obj.PMC_SAMPLES_LOST → (∀ c, c < 32 → j ≠ Obj.PMC_VALUE c) →
          rd (runTo target s) j = rd s j)

/-- With TIME running, no silence under way and the device not in DORMANT, TIDE_START completes. Let n be the first tide, from the
present tide number plus one (from 0 when the numbers start afresh), on whose first TIME edge station time stands or that lies
ahead. There is a state b in which TIDE_NUMBER is n, station time is at or after the ideal start of tide n and less than an
increment past it when that lay ahead, and the queue is unchanged; the next state is b with the work of tide n done when the
lookout cores run, and b itself otherwise. That a tide start whose edge passed unseen is passed over is the model's reading.
Formalises spec/01_architecture_and_tide.md (R20, R23); spec/12_timebase.md (R344, R359). -/
def Obligations.TideStartBeginsTheNextTide : Prop :=
  ∀ (samples : List (Nat × Int)) (s : State), alive s .time = true → rd s Obj.POWER_STATE ≠ 3 → s.time.silence = none →
    0 < s.time.inc →
    let fresh := s.time.restartTide
    let n := if fresh then nextTide s 0 else nextTide s (tideNow s + 1)
    Completes (.tideStart samples) s fun t =>
      ∃ b, t = (if alive s .lookout then tideWork (tideNow s) n fresh samples b else b)
        ∧ rd b Obj.TIDE_NUMBER = n ∧ tideStartAt s n ≤ b.time.acc
        ∧ (s.time.acc < tideStartAt s n → b.time.acc < tideStartAt s n + s.time.inc)
        ∧ b.pending = s.pending

/-- With TIME and PROCESSING running, REFERENCE_MARK, RETURN_DEADLINE and DEMAND_MARK complete: station time runs to
REFERENCE_MARK, RETURN_DEADLINE and P - 2,000 ns after the ideal start of the present tide, and the mark's work is done on
that state; the demand mark notes that it has passed. GRID_SET_PUBLISH, with FABRIC running, runs time to 200 ns before the
return deadline and, from HELD on, takes the samples of the point of connection that have arrived by then and publishes the
grid sets of both converters for the present tide. Formalises
spec/01_architecture_and_tide.md (R20, R23, R24, R29); spec/06_grid_interface.md; spec/05_control_cluster.md. -/
def Obligations.MarksRunAtTheirInstants : Prop :=
  (∀ (missed : List Nat) (s : State), alive s .time = true → alive s .processing = true →
    Completes (.referenceMark missed) s fun t =>
      t = referenceWork missed (runTo (tideStartAt s (tideNow s) + rd s Obj.REFERENCE_MARK * nsUnit) s))
  ∧ (∀ (late : List Nat) (s : State), alive s .time = true → alive s .processing = true →
    Completes (.returnDeadline late) s fun t =>
      t = returnWork (tideNow s) late (runTo (tideStartAt s (tideNow s) + rd s Obj.RETURN_DEADLINE * nsUnit) s))
  ∧ (∀ (missed : List Nat) (s : State), alive s .time = true → alive s .processing = true → 0 < tideNow s →
    Completes (.demandMark missed) s fun t =>
      ∃ u, t = demandWork (tideNow s) missed u ∧ u.sm.afterDemand = true
        ∧ u.time = (runTo (tideStartAt s (tideNow s) + (periodNs s - 2000) * nsUnit) s).time)
  ∧ ∀ s : State, alive s .fabric = true → stHeld ≤ station s →
    Completes .gridSetPublish s fun t =>
      t = publishGrid (tideNow s) 1 (publishGrid (tideNow s) 0 (deliverVolts 1 (deliverVolts 0
        (runTo (tideStartAt s (tideNow s) + (rd s Obj.RETURN_DEADLINE - 200) * nsUnit) s))))

/-- Taking the setpoints at a reference mark copies the 64 HOST_INPUT objects and, for each converter, the setpoint objects as
they stand into the cluster; it changes no object, and an object written afterwards does not change the copy. Formalises
spec/01_architecture_and_tide.md (R29); spec/05_control_cluster.md (R155). -/
def Obligations.SetpointsHoldUntilTheReferenceMark : Prop :=
  ∀ (s : State) (key v : Nat),
    (takeSetpoints s).cl.hostIn = (List.range 64).map (fun k => rd s (Obj.HOST_INPUT k))
      ∧ (takeSetpoints s).regs = s.regs
      ∧ (wr (takeSetpoints s) key v).cl.hostIn = (takeSetpoints s).cl.hostIn
      ∧ (wr (takeSetpoints s) key v).convs = (takeSetpoints s).convs

/-- With TIME and FABRIC running and CUTOFF_MISSES within its 32 bits, COMMAND_CUTOFF completes. For every configured leaf whose
slot was missed, the command slot of the coming tide holds afterwards what the slot of the present tide holds; the slots of
every other leaf are unchanged; CUTOFF_MISSES rises by the number of those leaves, saturating, and the leaves are marked
repeated. Formalises spec/01_architecture_and_tide.md (R25). -/
def Obligations.CutoffRepeatsThePreviousCommand : Prop :=
  ∀ (missed : List Nat) (s : State), alive s .time = true → alive s .fabric = true → rd s Obj.CUTOFF_MISSES ≤ 2 ^ 32 - 1 →
    Completes (.commandCutoff missed) s fun t =>
      let ls := (allLeaves s).filter (fun L => missed.contains L)
      (∀ L, L ∈ ls → slotOf t (tideNow s + 1) L = slotOf s (tideNow s) L ∧ L ∈ t.repeated)
        ∧ (∀ L, L < leafMax → L ∉ ls → slotOf t (tideNow s + 1) L = slotOf s (tideNow s + 1) L)
        ∧ rd t Obj.CUTOFF_MISSES = satAdd (2 ^ 32 - 1) (rd s Obj.CUTOFF_MISSES) ls.length

/-- With FABRIC running, a TIDE_FRAME_RETURN on a drove in service whose frame was launched and that arrives by RETURN_DEADLINE
completes. A frame of verdict STOMPED counts in FRAMES_STOMPED and one of verdict BAD in FRAMES_BAD, the drove holds a bad
return of the own or of the bridged frame, and no memory changes. A frame of verdict GOOD leaves a state u in which FRAMES_GOOD
is counted, the drove holds a good return with the frame's turn, the memories and leaves are unchanged and, for an own frame,
TURN_POSITION shows the turn; the next state is u with the frame's slots taken when the frame is a full one, and u itself
otherwise. A frame after the deadline completes too: nothing but the droves' margins and counts of invalid blocks and the
histograms of arrivals changes. Formalises spec/02_drove_links.md (R57, R58, R65); spec/09_recovery_and_ordering.md (R264). -/
def Obligations.TideFrameReturnIsJudged : Prop :=
  (∀ (ret : TideReturn) (s : State), alive s .fabric = true → ret.d < 128 → droveOn s ret.d = true →
      (if ret.bridged then (droveOf s ret.d).launchedBr else (droveOf s ret.d).launched) = true →
      ret.arrive ≤ rd s Obj.RETURN_DEADLINE * 10 →
      (verdict s ret.d ret.bytes = 1 → Completes (.tideFrameReturn ret) s fun t =>
        Counted 32 (Obj.FRAMES_STOMPED ret.d) s t
          ∧ (if ret.bridged then (droveOf t ret.d).bridged else (droveOf t ret.d).own) = .bad ∧ t.mem = s.mem)
      ∧ (verdict s ret.d ret.bytes = 2 → Completes (.tideFrameReturn ret) s fun t =>
        Counted 32 (Obj.FRAMES_BAD ret.d) s t
          ∧ (if ret.bridged then (droveOf t ret.d).bridged else (droveOf t ret.d).own) = .bad ∧ t.mem = s.mem)
      ∧ (verdict s ret.d ret.bytes = 0 → Completes (.tideFrameReturn ret) s fun t =>
        let turn := leNat (slice ret.bytes 18 1)
        ∃ u, t = (if leNat (slice ret.bytes 0 1) = 1 then takeSlots (tideNow s) ret u else u)
          ∧ Counted 64 (Obj.FRAMES_GOOD ret.d) s u
          ∧ (if ret.bridged then (droveOf u ret.d).bridged else (droveOf u ret.d).own) = .good turn
          ∧ (ret.bridged = false → rd u (Obj.TURN_POSITION ret.d) = turn) ∧ u.mem = s.mem ∧ u.leaves = s.leaves))
  ∧ ∀ (ret : TideReturn) (s : State), rd s Obj.RETURN_DEADLINE * 10 < ret.arrive → Completes (.tideFrameReturn ret) s fun t =>
      (∀ d, droveOf t d = { droveOf s d with margin := (droveOf t d).margin, invalid := (droveOf t d).invalid })
        ∧ t = { s with droves := t.droves, hists := t.hists }

/-- With FABRIC running: SLACK_WATER_FRAME_SEND on a lane whose slack water is open (its drove is in service, the lane neither
silent nor at the keep-alive rate nor in the tides after a change of rate), with 64 bytes of room and a leaf chosen, completes:
a frame has been sent on that lane, the leaf is served in this tide and its poll is no longer due. SLACK_WATER_FRAME_RETURN of
a configured leaf completes: a frame that is not GOOD counts in FRAMES_STOMPED or FRAMES_BAD and changes no memory; a GOOD one
counts its container bytes in SLACK_IN_BYTES, and its records are processed on a state that differs from the present one in
no other object, no memory and no queue. Formalises spec/02_drove_links.md (R53, R58); spec/03_flock_store.md (R95, R96);
spec/09_recovery_and_ordering.md (R254). -/
def Obligations.SlackWaterFrames : Prop :=
  (∀ (d gap lvl L : Nat) (s : State), alive s .fabric = true → slackOpen s d = true →
    64 ≤ slackRoom s d gap → slackChoice s d (slackRoom s d gap) = some (lvl, L) →
    Completes (.slackWaterFrameSend d gap) s fun t =>
      (∃ bytes, Out.slackFrame d bytes ∈ t.outbox) ∧ (leafOf t L).served = true ∧ (leafOf t L).pollDue = false
        ∧ (leafOf t L).lastFrame = tideNow s)
  ∧ (∀ (ret : SlackReturn) (s : State), alive s .fabric = true → ret.d < 128 → leafOn s (ret.d * 128 + ret.target) = true →
    verdict s ret.d ret.bytes ≠ 0 →
    Completes (.slackWaterFrameReturn ret) s fun t =>
      Counted 32 (if verdict s ret.d ret.bytes = 1 then Obj.FRAMES_STOMPED ret.d else Obj.FRAMES_BAD ret.d) s t ∧ t.mem = s.mem)
  ∧ ∀ (ret : SlackReturn) (s : State), alive s .fabric = true → ret.d < 128 → leafOn s (ret.d * 128 + ret.target) = true →
    verdict s ret.d ret.bytes = 0 →
    let used := min (leNat (slice ret.bytes 10 2)) (leNat (slice ret.bytes 4 2))
    Completes (.slackWaterFrameReturn ret) s fun t =>
      ∃ u, t = upRecords (upRecord (ret.d * 128 + ret.target)) 300 (slice ret.bytes 16 used) u
        ∧ rd u (Obj.SLACK_IN_BYTES ret.d) = satAdd (2 ^ 64 - 1) (rd s (Obj.SLACK_IN_BYTES ret.d)) used
        ∧ OnlyObjects [Obj.SLACK_IN_BYTES ret.d] s u ∧ u.mem = s.mem ∧ u.queues = s.queues

/-- LANE_LOCK_LOSS of a drove on the device counts in LOCK_LOSSES, adds one LANE_PATH fault event, and leaves the lane unlocked
and training; LANE_BLOCK_LOCK_GAINED leaves it locked and not training; both change no object beside LANE_STATE (and
LOCK_LOSSES). LANE_PHASE_CHECK: with a reference not to be renewed and a difference of at most 8/64 nothing changes; a greater
difference raises "lane tide phase drift" and adds one LANE_PHASE fault event; a reference to be renewed is replaced by the
present phase, and a difference above 8/64 raises the same event then too. A lane without a reference is not compared.
RT_MEASUREMENT_END, after 4,096 tides, of an unspoilt measurement in HELD that took an arrival sets RT_MEASURE to 2, ROUND_TRIP
to the largest arrival and LANE_TIDE_PHASE to the measured phase, which becomes the lane's reference; a spoilt one sets
RT_MEASURE to 3 and no other object. RT_MARGIN_SECOND shows the second's smallest margin in RT_MARGIN and raises the event below
200 ns. T_LOOP_AVERAGE, after 1,024 tides, takes the mean of the loop times gathered, rounded to nearest, ties to even (the
rounding is the model's choice, log entry 61). BRIDGE_UNAVAILABLE_TIMEOUT of an enabled pair whose two last leaves have been
silent for 10 s raises its event and changes no other object than LOG_DROPPED. Formalises spec/02_drove_links.md (R36, R61,
R63, R65, R66, R71); spec/01_architecture_and_tide.md (R19). -/
def Obligations.LaneLockPhaseAndMeasurements : Prop :=
  ((∀ (d : Nat) (s : State), alive s .link = true → d < droveCount s → d < 128 →
     Completes (.laneLockLoss d) s fun t =>
       Counted 32 (Obj.LOCK_LOSSES d) s t ∧ (droveOf t d).locked = false ∧ (droveOf t d).training = true
         ∧ (∃ e, t.faultEvents = s.faultEvents ++ [e] ∧ e.family = 0 ∧ e.source = srcLanePath ∧ e.inst = d ∧ e.n = 1)
         ∧ t = { s with regs := t.regs, droves := t.droves, faultEvents := t.faultEvents }
         ∧ OnlyObjects [Obj.LOCK_LOSSES d, Obj.LANE_STATE d] s t)
   ∧ (∀ (d : Nat) (s : State), alive s .link = true → d < droveCount s →
     Completes (.laneBlockLockGained d) s fun t =>
       (droveOf t d).locked = true ∧ (droveOf t d).training = false ∧ t = { s with regs := t.regs, droves := t.droves }
         ∧ OnlyObjects [Obj.LANE_STATE d] s t)
   ∧ (∀ (d phase r : Nat) (s : State), alive s .link = true → (droveOf s d).phaseRef = some r → (droveOf s d).phaseRenew = false →
     (phaseDrift (phase % 64) r = false → exec (.lanePhaseCheck d phase) s = .next s)
     ∧ (phaseDrift (phase % 64) r = true → Completes (.lanePhaseCheck d phase) s fun t =>
         Raised .laneTidePhaseDrift d s t ∧ t = { s with regs := t.regs, log := t.log, faultEvents := t.faultEvents }
           ∧ (∃ e, t.faultEvents = s.faultEvents ++ [e] ∧ e.family = 0 ∧ e.source = srcLanePhase ∧ e.inst = d)
           ∧ OnlyObjects [Obj.LOG_DROPPED] s t))
   ∧ (∀ (d phase r : Nat) (s : State), alive s .link = true → (droveOf s d).phaseRef = some r → (droveOf s d).phaseRenew = true →
     Completes (.lanePhaseCheck d phase) s fun t =>
       (droveOf t d).phaseRef = some (phase % 64) ∧ (droveOf t d).phaseRenew = false ∧ rd t (Obj.LANE_TIDE_PHASE d) = phase % 64
         ∧ (phaseDrift (phase % 64) r = true → Raised .laneTidePhaseDrift d s t))
   ∧ ∀ (d phase : Nat) (s : State), (droveOf s d).phaseRef = none → exec (.lanePhaseCheck d phase) s = .next s)
  ∧ (∀ (d phase n : Nat) (s : State), alive s .fabric = true → d < 128 → (droveOf s d).measure = some n →
      ((droveOf s d).measBad = false → (droveOf s d).measMax ≠ 0 → station s = stHeld → measureTides ≤ n →
        Completes (.rtMeasurementEnd d phase) s fun t =>
          rd t (Obj.RT_MEASURE d) = 2 ∧ rd t (Obj.ROUND_TRIP d) = (droveOf s d).measMax ∧ rd t (Obj.LANE_TIDE_PHASE d) = phase % 64
            ∧ (droveOf t d).phaseRef = some (phase % 64) ∧ (droveOf t d).measure = none
            ∧ t = { s with regs := t.regs, droves := t.droves, log := t.log, faultEvents := t.faultEvents })
      ∧ ((droveOf s d).measBad = true → Completes (.rtMeasurementEnd d phase) s fun t =>
          rd t (Obj.RT_MEASURE d) = 3 ∧ (droveOf t d).measure = none ∧ OnlyObjects [Obj.RT_MEASURE d] s t
            ∧ t = { s with regs := t.regs, droves := t.droves }))
    ∧ (∀ (d : Nat) (m : Int) (s : State), alive s .fabric = true → (droveOf s d).margin = some m →
      Completes (.rtMarginSecond d) s fun t =>
        rd t (Obj.RT_MARGIN d) = ofSigned 32 m ∧ (droveOf t d).margin = none ∧ (m < 200 → Raised .droveReturnMarginLow d s t)
          ∧ t = { s with regs := t.regs, droves := t.droves, log := t.log }
          ∧ OnlyObjects [Obj.RT_MARGIN d, Obj.LOG_DROPPED] s t)
    ∧ (∀ (d : Nat) (s : State), alive s .fabric = true → (droveOf s d).loopCount ≠ 0 → 1024 ≤ (droveOf s d).loopTides →
      Completes (.tLoopAverage d) s fun t =>
        (droveOf t d).tloop = some (divHalfEven ((droveOf s d).loopSum : Int) (droveOf s d).loopCount).toNat
          ∧ (droveOf t d).loopSum = 0 ∧ (droveOf t d).loopCount = 0
          ∧ t = { s with regs := t.regs, droves := t.droves, leaves := t.leaves })
    ∧ ∀ (pair : Nat) (s : State), alive s .fabric = true → pairOn s (2 * pair) = true →
      bridgeSilent s (2 * pair) = true → bridgeSilent s (2 * pair + 1) = true →
      Completes (.bridgeUnavailableTimeout pair) s fun t => Raised .tailBridgeUnavailable (2 * pair) s t ∧ OnlyLogged [] s t

/-- RETX_TIMEOUT_EXPIRY of a leaf-bound queue with an unacknowledged message sets SENT_SEQ to the message after ACKED_SEQ, from its
first segment and as a resend, and changes no message, no other queue and no object but those that show the pool.
ACK_DELAY_EXPIRY marks every host-bound queue of the leaf that owes an ACK as late and changes no other queue.
POLL_INTERVAL_EXPIRY of a configured leaf that is stray makes its poll due, and LANE_REJOIN on a drove whose rejoin conditions
hold makes the rejoin due and ends the fault; these two change nothing else. Formalises spec/03_flock_store.md (R95);
spec/09_recovery_and_ordering.md (R252, R267). -/
def Obligations.QueueTimers : Prop :=
  (∀ (id : Nat) (s : State), alive s .fabric = true → leafBound (queueClass id) = true → (queueOf s id).unacked = true →
    Completes (.retxTimeoutExpiry id) s fun t =>
      queueOf t id = { queueOf s id with sentSeq := ((queueOf s id).ackedSeq + 1) % 65536, seg := 0, retx := true }
        ∧ (∀ j, j ≠ id → queueOf t j = queueOf s j)
        ∧ OnlyObjects [Obj.POOL_DOWN_FREE, Obj.POOL_UP_FREE, Obj.POOL_DOWN_LOW] s t
        ∧ t = { s with regs := t.regs, queues := t.queues })
  ∧ (∀ (L : Nat) (s : State), alive s .fabric = true →
    Completes (.ackDelayExpiry L) s fun t =>
      (∀ id, id ∈ upQueues L → (queueOf s id).ackOwed = true → (queueOf t id).ackLate = true)
        ∧ (∀ id, id ∉ upQueues L → queueOf t id = queueOf s id) ∧ t = { s with regs := t.regs, queues := t.queues })
  ∧ (∀ (leaf : Nat) (s : State), alive s .fabric = true → leafOn s leaf = true → (leafOf s leaf).stray = true →
    Completes (.pollIntervalExpiry leaf) s fun t =>
      leafOf t leaf = { leafOf s leaf with pollDue := true } ∧ t = { s with leaves := t.leaves }
        ∧ ∀ L, L ≠ leaf → leafOf t L = leafOf s L)
  ∧ ∀ (d : Nat) (s : State), alive s .fabric = true → droveOn s d = true → rejoinReady s d = true →
    Completes (.laneRejoin d) s fun t =>
      droveOf t d = { droveOf s d with rejoinDue := true, faulted := false } ∧ t = { s with droves := t.droves }
        ∧ ∀ e, e ≠ d → droveOf t e = droveOf s e

/-- With FABRIC running: LEAF_PENNING of a configured leaf, STRAY_PEN_TIME_EXPIRY of a stray leaf (cause 8, reason 1) and
ADMIT_TIMEOUT_EXPIRY of an admitting leaf (cause 7) complete, and afterwards PEN_CAUSE shows the cause and the PENNED bit of
PROT_FLAGS is set. A pen of cause 8 of a leaf not penned before shows its reason in LINK_PEN_REASON. The epoch of a leaf penned
for straying has ended, unless an ANNOUNCE of this tide still names the epoch, which then opens a new one. The failed admission
adds one event of its source. Formalises spec/08_leaf_protection.md (R238); spec/09_recovery_and_ordering.md (R269, R274,
R276); spec/04_shepherd_balancing.md (R127). -/
def Obligations.PenningsTakeTheirCause : Prop :=
  (∀ (leaf cause reason : Nat) (s : State), alive s .fabric = true → leafOn s leaf = true →
    Completes (.leafPenning leaf cause reason) s fun t =>
      rd t (Obj.PEN_CAUSE leaf) = cause ∧ penned t leaf = true
        ∧ (cause = 8 → penned s leaf = false → rd t (Obj.LINK_PEN_REASON leaf) = reason))
  ∧ (∀ (leaf : Nat) (s : State), alive s .fabric = true → (leafOf s leaf).stray = true →
    Completes (.strayPenTimeExpiry leaf) s fun t =>
      rd t (Obj.PEN_CAUSE leaf) = 8 ∧ penned t leaf = true
        ∧ (penned s leaf = false → rd t (Obj.LINK_PEN_REASON leaf) = 1)
        ∧ (announcedNow s leaf = none → (leafOf t leaf).foldEnded = true)
        ∧ (announcedNow s leaf = some (rd s (Obj.FOLD_EPOCH leaf)) →
            (leafOf t leaf).foldEnded = false ∧ rd t (Obj.FOLD_EPOCH leaf) ≠ rd s (Obj.FOLD_EPOCH leaf)))
  ∧ ∀ (leaf : Nat) (s : State), alive s .fabric = true → (leafOf s leaf).admitting = true →
    Completes (.admitTimeoutExpiry leaf) s fun t =>
      rd t (Obj.PEN_CAUSE leaf) = 7 ∧ penned t leaf = true
        ∧ ∃ e, t.faultEvents = s.faultEvents ++ [e] ∧ e.family = 0 ∧ e.source = srcAdmit ∧ e.inst = leaf

/-- PENNING_COMPLETE of a penned leaf with no bypass commanded completes the penning. BYPASS_ACK_TIMEOUT_EXPIRY of a penned leaf
whose commanded bypass was not seen raises "permanent bypass not confirmed", retires the leaf and completes its penning.
READMIT_TIMEOUT_EXPIRY in steps 1 to 3 sets READMIT_STATUS to 0x91 and ends the readmission. READMIT_STEP leaves step 1 once
the READMIT is acknowledged, clears the PENNED bit and starts ADMITTING in step 3 once the epoch is accepted, and ends step
4 with READMIT_STATUS 0x82, "readmission complete" and a count in READMISSIONS once the leaf is eligible again. Formalises
spec/08_leaf_protection.md (R238, R239); spec/09_recovery_and_ordering.md (R260, R274). -/
def Obligations.FoldTimers : Prop :=
  (∀ (leaf : Nat) (s : State), alive s .fabric = true → penned s leaf = true → (leafOf s leaf).penDone = false →
    (leafOf s leaf).bypassCmd = false →
    Completes (.penningComplete leaf) s fun t => (leafOf t leaf).penDone = true ∧ penned t leaf = true)
  ∧ (∀ (leaf : Nat) (s : State), alive s .fabric = true → penned s leaf = true → (leafOf s leaf).bypassCmd = true →
    bit (rd s (Obj.PROT_FLAGS leaf)) 3 = false →
    Completes (.bypassAckTimeoutExpiry leaf) s fun t =>
      (leafOf t leaf).penDone = true ∧ retired t leaf = true ∧ Raised .permanentBypassNotConfirmed leaf s t)
  ∧ (∀ (leaf : Nat) (s : State), alive s .fabric = true → 1 ≤ (leafOf s leaf).readmit → (leafOf s leaf).readmit ≤ 3 →
    Completes (.readmitTimeoutExpiry leaf) s fun t =>
      rd t (Obj.READMIT_STATUS leaf) = 0x91 ∧ (leafOf t leaf).readmit = 0
        ∧ OnlyObjects [Obj.READMIT_STATUS leaf, Obj.LINK_STATE leaf] s t ∧ t = { s with regs := t.regs, leaves := t.leaves })
  ∧ (∀ (leaf : Nat) (s : State), alive s .fabric = true → (leafOf s leaf).readmit = 1 →
    (leafOf s leaf).readmitAcked = true →
    Completes (.readmitStep leaf) s fun t => (leafOf t leaf).readmit = 2 ∧ t = { s with leaves := t.leaves })
  ∧ (∀ (leaf : Nat) (s : State), alive s .fabric = true → (leafOf s leaf).readmit = 3 → (leafOf s leaf).accepted = true →
    Completes (.readmitStep leaf) s fun t =>
      (leafOf t leaf).readmit = 4 ∧ (leafOf t leaf).admitting = true ∧ penned t leaf = false
        ∧ rd t (Obj.READMIT_STATUS leaf) = 0x81 ∧ rd t (Obj.PEN_CAUSE leaf) = 0)
  ∧ ∀ (leaf : Nat) (s : State), alive s .fabric = true → (leafOf s leaf).readmit = 4 → (leafOf s leaf).admitting = false →
    rd s (Obj.LEAF_RANK_STATE leaf) = rkEligible →
    Completes (.readmitStep leaf) s fun t =>
      (leafOf t leaf).readmit = 0 ∧ rd t (Obj.READMIT_STATUS leaf) = 0x82 ∧ Counted 32 Obj.READMISSIONS s t
        ∧ Raised .readmissionComplete leaf s t

/-- SC_CLEAR_DELAY_EXPIRY of a running delay ends that delay: it posts the clear when no block is in force, the arm's shepherd is
Active or Watch and class 1 has room; while a block is in force the clear waits. UV_RECORD_TIMEOUT of a
waiting sighting ends its wait, counts in UV_EVENTS_UNKNOWN and adds one event. TEST_TIMEOUT_EXPIRY of a running test sets
TEST_STATUS to 0x21, clears TEST_RUNNING and adds one event. FAULT_WINDOW_BOUNDARY lowers every count of its source above 0 by
one and leaves the counts of every other source as they are. Formalises spec/08_leaf_protection.md (R233, R234, R237);
spec/09_recovery_and_ordering.md (R261). -/
def Obligations.ProtectionTimers : Prop :=
  (∀ (leaf : Nat) (s : State), alive s .fabric = true → 0 < (leafOf s leaf).scDelays →
    (blockInForce s = true → Completes (.scClearDelayExpiry leaf) s fun t =>
      (leafOf t leaf).scDelays = (leafOf s leaf).scDelays - 1 ∧ (leafOf t leaf).scClears = (leafOf s leaf).scClears + 1
        ∧ t = { s with leaves := t.leaves })
    ∧ (blockInForce s = false → armOf s leaf < 12 → 1 ≤ rd s (Obj.SHEPHERD_STATE (armOf s leaf)) →
      (queueOf s (leaf * 16 + 1)).qstate = 1 → postFits s (leaf * 16 + 1) 4 = true →
      Completes (.scClearDelayExpiry leaf) s fun t =>
        (leafOf t leaf).scDelays = (leafOf s leaf).scDelays - 1 ∧ (leafOf t leaf).scClears = (leafOf s leaf).scClears
          ∧ (queueOf t (leaf * 16 + 1)).msgs.length = (queueOf s (leaf * 16 + 1)).msgs.length + 1))
  ∧ (∀ (leaf : Nat) (s : State), alive s .fabric = true → (leafOf s leaf).uvWait ≠ [] →
    Completes (.uvRecordTimeout leaf) s fun t =>
      Counted 16 (Obj.UV_EVENTS_UNKNOWN leaf) s t ∧ (leafOf t leaf).uvWait = (leafOf s leaf).uvWait.tail
        ∧ ∃ e, e ∈ t.faultEvents ∧ e.family = 1 ∧ e.source = 1 ∧ e.inst = leaf)
  ∧ (∀ (leaf : Nat) (s : State), alive s .fabric = true → bit (rd s (Obj.PROT_FLAGS leaf)) 5 = true →
    Completes (.testTimeoutExpiry leaf) s fun t =>
      rd t (Obj.TEST_STATUS leaf) = 0x21 ∧ bit (rd t (Obj.PROT_FLAGS leaf)) 5 = false
        ∧ (∃ e, t.faultEvents = s.faultEvents ++ [e] ∧ e.family = 1 ∧ e.source = 3 ∧ e.inst = leaf)
        ∧ OnlyObjects [Obj.TEST_STATUS leaf, Obj.PROT_FLAGS leaf] s t
        ∧ t = { s with regs := t.regs, faultEvents := t.faultEvents })
  ∧ ∀ (family source : Nat) (s : State), alive s .fabric = true → s.Canonical →
    Completes (.faultWindowBoundary family source) s fun t =>
      (∀ inst, inst < 65536 → faultCount t family source inst = faultCount s family source inst - 1)
        ∧ (∀ f k inst, inst < 65536 → k < 16 → source < 16 → (f ≠ family ∨ k ≠ source) → faultCount t f k inst = faultCount s f k inst)
        ∧ t = { s with faultCounts := t.faultCounts, faultLogged := t.faultLogged }

/-- SCRUB_LINE that finds nothing on the last line of a pass counts in SCRUB_PASSES only, one that finds a corrected error counts
in ECC_CORRECTED; SCRUB_PERIOD_END counts in SCRUB_OVERRUNS only; ECC_CORRECTED_ERROR of a memory with ECC counts in
ECC_CORRECTED; ARB_PROMOTION of a bank counts in ARB_PROMOTIONS. UNCORRECTABLE_ERROR of a region seen for the first time
poisons the word, counts, shows address and region, and the region reacts on that state, after which the word of a region whose
reaction writes it anew is whole again; a later report of a poisoned word only counts and shows again. SUB_WINDOW_RECORD takes
the oldest complete window: it appends the record when it fits and the window is not overwritten, and counts it in SUB_LOST when
it is late or the window is overwritten. Formalises spec/03_flock_store.md (R76, R77, R78, R79, R82, R98, R99). -/
def Obligations.StoreEvents : Prop :=
  (∀ (region addr : Nat) (spot : MemError) (s : State), alive s .fabric = true → 1 ≤ region → region ≤ 8 →
    (Completes (.scrubLine region addr 0 spot true) s fun t => Counted 32 Obj.SCRUB_PASSES s t ∧ OnlyRegs [Obj.SCRUB_PASSES] s t)
    ∧ Completes (.scrubLine region addr 1 spot false) s fun t =>
        Counted 64 Obj.ECC_CORRECTED s t ∧ t = { s with regs := t.regs, pmc := t.pmc })
  ∧ (∀ s : State, alive s .fabric = true →
    Completes .scrubPeriodEnd s fun t => Counted 32 Obj.SCRUB_OVERRUNS s t ∧ OnlyRegs [Obj.SCRUB_OVERRUNS] s t)
  ∧ (∀ (region addr : Nat) (s : State), 1 ≤ region → region ≤ 19 → parityRegion region = false → alive s (regionDomain region) = true →
    Completes (.eccCorrectedError region addr) s fun t =>
      Counted 64 Obj.ECC_CORRECTED s t ∧ t = { s with regs := t.regs, pmc := t.pmc })
  ∧ (∀ (bank : Nat) (s : State), alive s .fabric = true → bank < 64 →
    Completes (.arbPromotion bank) s fun t =>
      Counted 64 Obj.ARB_PROMOTIONS s t ∧ t = { s with regs := t.regs, pmc := t.pmc })
  ∧ (∀ (e : MemError) (s : State), 1 ≤ e.region → e.region ≤ 19 → alive s (regionDomain e.region) = true →
    (e.again = false →
      ∃ u, Counted 32 (if parityRegion e.region then Obj.PARITY_ERRORS else Obj.ECC_UNCORRECTED) s u
        ∧ rd u Obj.LAST_ERROR_ADDRESS = e.addr % 2 ^ 32 ∧ rd u Obj.LAST_ERROR_REGION = e.region
        ∧ u.poison.any (fun p => decide (p.key = wordKey e.region e.addr)) = true ∧ u.mem = s.mem
        ∧ exec (.uncorrectableError e) s = .next (if rewritten e.region then
            heal (fun w => w.key = wordKey e.region e.addr) (regionReaction e u) else regionReaction e u))
    ∧ (e.again = true → poisoned s e.region e.addr = true → Completes (.uncorrectableError e) s fun t =>
        Counted 32 (if parityRegion e.region then Obj.PARITY_ERRORS else Obj.ECC_UNCORRECTED) s t
          ∧ rd t Obj.LAST_ERROR_ADDRESS = e.addr % 2 ^ 32 ∧ rd t Obj.LAST_ERROR_REGION = e.region
          ∧ t = { s with regs := t.regs }))
  ∧ ∀ (k n : Nat) (xs : List SubLeaf) (rest : List (Nat × List SubLeaf)) (s : State), alive s .fabric = true →
    (subOf s k).ready = (n, xs) :: rest →
    (∀ late : Bool, late = true ∨ windowGone s k n = true → Completes (.subWindowRecord k late) s fun t =>
      Counted 32 (Obj.SUB_LOST k) s t ∧ (subOf t k).ready = rest ∧ (subOf t k).ring = (subOf s k).ring)
    ∧ (windowGone s k n = false → sumNat ((subOf s k).ring.map (fun p => p.2.length)) + (subRecord s k n xs).length ≤ subRingBytes →
      Completes (.subWindowRecord k false) s fun t =>
        (subOf t k).ring = (subOf s k).ring ++ [((subOf s k).counter, subRecord s k n xs)] ∧ (subOf t k).ready = rest
          ∧ (subOf t k).counter = ((subOf s k).counter + 1) % 65536 ∧ (subOf t k).lost = 0)

/-- LOCKSTEP_MISMATCH of a live pair and LOOP_ENGINE_FAULT of a live engine complete: the fault is counted, the event raised and
one event of the source added, the unit is in self-test, and no present item (outside COAST, where no item moves) and no
present leg or program stays on it. PAIR_SELF_TEST_END leaves a unit in self-test as standby when it passed and retired when
it failed, and changes nothing but objects and the words held poisoned. A fault of a pair that is neither live nor restarting,
or of an engine that is not live, changes nothing. Formalises spec/05_control_cluster.md (R143, R144, R145). -/
def Obligations.ControlUnitFailures : Prop :=
  (∀ (p : Nat) (s : State), alive s .processing = true → pairLive s p = true →
    Completes (.lockstepMismatch p) s fun t =>
      Counted 32 Obj.PAIR_FAULTS s t ∧ rd t (Obj.PAIR_STATE p) = usSelfTest ∧ Raised .controlPairFault p s t
        ∧ (∃ e, t.faultEvents = s.faultEvents ++ [e] ∧ e.family = 0 ∧ e.source = srcPair ∧ e.inst = p ∧ e.n = 1)
        ∧ (station s = stCoast → t.cl = s.cl)
        ∧ (station s ≠ stCoast → ∀ i, i < 5 → itemPresent t i = true → unitOf t.cl.items i ≠ p)
        ∧ t = { s with regs := t.regs, log := t.log, faultEvents := t.faultEvents, cl := t.cl })
  ∧ (∀ (e : Nat) (s : State), alive s .fabric = true → engineLive s e = true →
    Completes (.loopEngineFault e) s fun t =>
      Counted 32 Obj.ENGINE_FAULTS s t ∧ rd t (Obj.ENGINE_STATE e) = usSelfTest ∧ Raised .loopEngineFault e s t
        ∧ (∃ x, t.faultEvents = s.faultEvents ++ [x] ∧ x.family = 0 ∧ x.source = srcEngine ∧ x.inst = e ∧ x.n = 1)
        ∧ (∀ g, legPresent t g = true → unitOf t.cl.legs g ≠ e) ∧ (∀ u, u < 8 → unitOf t.cl.progs u ≠ e)
        ∧ t = { s with regs := t.regs, log := t.log, faultEvents := t.faultEvents, cl := t.cl })
  ∧ (∀ (unit : Nat) (passed : Bool) (s : State), alive s .processing = true → unit < 12 →
    let key := if unit < 4 then Obj.PAIR_STATE unit else Obj.ENGINE_STATE (unit - 4)
    rd s key = usSelfTest → Completes (.pairSelfTestEnd unit passed) s fun t =>
      rd t key = (if passed then usStandby else usRetired) ∧ t = { s with regs := t.regs, poison := t.poison })
  ∧ (∀ (p : Nat) (s : State), pairLive s p = false → rd s (Obj.PAIR_STATE p) ≠ usRestarting →
    exec (.lockstepMismatch p) s = .next s)
  ∧ ∀ (e : Nat) (s : State), engineLive s e = false → exec (.loopEngineFault e) s = .next s

/-- CONTROL_CAPACITY_LOST of a lost item or leg raises its event; in RUNNING or RIDE-THROUGH the loss of an item schedules COAST
with cause 6, in COAST it does nothing more, in RAMP-DOWN it sets TRG_STATE to 2 and restarts every pair that is not retired,
and the loss of a leg in the states CHARGING to RAMP-DOWN schedules BLOCKED with cause 6. COAST_END returns every restarting
pair to service, to take its items up at the next tide start when every present item has a live unit. COAST_LIMIT_EXPIRY in a
coast not yet over counts in COAST_OVERRUNS and adds one event, at or after the limit's instant. RAMP_DOWN_COMPLETE in RAMP-DOWN
with every reference at 0 and the legs' currents below 0.02 pu for 1 ms schedules BLOCKED with cause 10 and changes nothing
else. RAMP_DOWN_GRACE_EXPIRY in RAMP-DOWN runs station time to at least the ramp's start plus RAMP_DOWN_TIME plus
RAMP_DOWN_GRACE, raises "ramp-down incomplete" and schedules BLOCKED with cause 10. In any other state neither of these two
changes anything. Formalises spec/05_control_cluster.md (R145); spec/06_grid_interface.md (R192, R194, R196, R197);
spec/11_configuration_and_states.md (R332, R335). -/
def Obligations.CapacityLossCoastAndRampDown : Prop :=
  ((∀ (i : Nat) (s : State), alive s .processing = true → i < 5 → itemLost s i = true →
     (station s = stRunning ∨ station s = stRideThrough → Completes (.controlCapacityLost i) s fun t =>
       Scheduled stCoast causeCapacity 0 s t ∧ Raised .controlCapacityLost i s t ∧ OnlyObjects [Obj.LOG_DROPPED] s t
         ∧ t = { s with regs := t.regs, log := t.log, sm := t.sm })
     ∧ (station s = stCoast → Completes (.controlCapacityLost i) s fun t => Raised .controlCapacityLost i s t ∧ OnlyLogged [] s t)
     ∧ (station s = stRampDown → Completes (.controlCapacityLost i) s fun t =>
         rd t Obj.TRG_STATE = 2 ∧ t.cl.serving = false ∧ Raised .controlCapacityLost i s t ∧ t.sm = s.sm
           ∧ ∀ p, p < 4 → rd t (Obj.PAIR_STATE p) = if rd s (Obj.PAIR_STATE p) = usRetired then usRetired else usRestarting))
   ∧ (∀ (i : Nat) (s : State), alive s .processing = true → 5 ≤ i → legPresent s (i - 5) = true →
     engineLive s (unitOf s.cl.legs (i - 5)) = false → stCharging ≤ station s → station s ≤ stRampDown →
     Completes (.controlCapacityLost i) s fun t =>
       Scheduled stBlocked causeCapacity 0 s t ∧ Raised .controlCapacityLost i s t ∧ OnlyObjects [Obj.LOG_DROPPED] s t
         ∧ t = { s with regs := t.regs, log := t.log, sm := t.sm })
   ∧ (∀ s : State, alive s .processing = true → s.cl.serving = false →
     Completes .coastEnd s fun t =>
       (∀ p, p < 4 → rd t (Obj.PAIR_STATE p) = if rd s (Obj.PAIR_STATE p) = usRestarting then usActive else rd s (Obj.PAIR_STATE p))
         ∧ (t.cl.takeUp = true ↔ ∀ i, i < 5 → itemPresent t i = true → pairLive t (unitOf t.cl.items i) = true)
         ∧ t.cl.serving = false ∧ t = { s with regs := t.regs, cl := t.cl })
   ∧ ∀ (s : State) (t0 : Nat), alive s .fabric = true → s.cl.coastFrom = some t0 → station s = stCoast → s.cl.coastDone = false →
     0 < s.time.inc →
     Completes .coastLimitExpiry s fun t =>
       Counted 32 Obj.COAST_OVERRUNS s t ∧ (t0 + rd s Obj.COAST_LIMIT * 1000000) * nsUnit ≤ t.time.acc
         ∧ ∃ e, t.faultEvents = s.faultEvents ++ [e] ∧ e.family = 0 ∧ e.source = srcCoast ∧ e.n = 1)
  ∧ (∀ s : State, alive s .fabric = true → station s = stRampDown → rampedDown s = true →
      Completes .rampDownComplete s fun t =>
        t = { s with sm := t.sm } ∧ t.sm = { s.sm with causes := t.sm.causes }
          ∧ t.sm.causes = s.sm.causes ++ [{ target := stBlocked, cause := causeRampEnd, due := tideNow s + 1, arg := 0 }])
    ∧ (∀ (s : State) (t0 : Nat), alive s .fabric = true → station s = stRampDown → s.cl.rampFrom = some t0 → 0 < s.time.inc →
      Completes .rampDownGraceExpiry s fun t =>
        Scheduled stBlocked causeRampEnd 0 s t ∧ Raised .rampDownIncomplete noInst s t
          ∧ (t0 + (rd s Obj.RAMP_DOWN_TIME + rd s Obj.RAMP_DOWN_GRACE) * 1000000) * nsUnit ≤ t.time.acc
          ∧ t = { s with regs := t.regs, log := t.log, sm := t.sm, time := t.time, pmc := t.pmc })
    ∧ ∀ s : State, station s ≠ stRampDown →
        exec .rampDownComplete s = .next s ∧ exec .rampDownGraceExpiry s = .next s

/-- TRACE_TRIGGER of an ARMED trace whose trigger condition holds records the tide number in TRACE_TRIGGER_TIDE and sets
TRACE_STATE to FILLING, and nothing else; in every other state of the trace it changes nothing. TRACE_ARMED of an ARMING trace
whose channels all hold the pretrigger share sets TRACE_STATE to ARMED, and nothing else; while one channel holds less it
changes nothing. Formalises spec/05_control_cluster.md (R158). -/
def Obligations.TraceTriggerAndArming : Prop :=
  (∀ (code : Nat) (s : State), alive s .fabric = true → rd s Obj.TRACE_STATE = trArmed → traceCondition s code = true →
    Completes (.traceTrigger code) s fun t =>
      rd t Obj.TRACE_TRIGGER_TIDE = tideNow s ∧ rd t Obj.TRACE_STATE = trFilling
        ∧ OnlyRegs [Obj.TRACE_TRIGGER_TIDE, Obj.TRACE_STATE] s t)
  ∧ (∀ (code : Nat) (s : State), rd s Obj.TRACE_STATE ≠ trArmed → exec (.traceTrigger code) s = .next s)
  ∧ (∀ s : State, alive s .fabric = true → rd s Obj.TRACE_STATE = trArming →
      (∀ ch, ch ∈ traceChannels s → tracePre s ≤ (getD' s.trace.chans ch []).length) →
      Completes .traceArmed s fun t => rd t Obj.TRACE_STATE = trArmed ∧ OnlyRegs [Obj.TRACE_STATE] s t)
  ∧ ∀ (s : State) (ch : Nat), ch ∈ traceChannels s → (getD' s.trace.chans ch []).length < tracePre s →
      exec .traceArmed s = .next s

/-- A VOLTAGE_SAMPLE of bad quality, or older than SOURCE_LOSS_TIME, or taken before the station is HELD changes nothing. A valid
sample of a source that is not the one to use is noted as seen and changes no object. A valid sample of the source in use
completes: SOURCE_IN_USE shows that source and "voltage source changed" is raised when another source was in use before, the
sample's instant is the converter's stamp, its alpha and beta voltages are the Clarke transform of the per-unit phase voltages,
RIDE-THROUGH CONDITION in SYNC_FLAGS shows whether v+ or v- is outside its entry threshold, and VECTOR ABSENT whether the vector
is below STALL_V_MIN; no object but the source in use, SYNC_FLAGS, the sector and its count, PROBE_Z and LOG_DROPPED changes.
Formalises spec/06_grid_interface.md (R161, R162, R163, R175, R180). -/
def Obligations.VoltageSamples : Prop :=
  (∀ (c src : Nat) (m : PocSample) (s : State),
    (m.good = false ∨ m.ns + lossNs s c < nowNs s ∨ station s < stHeld) → exec (.voltageSample c src m) s = .next s)
  ∧ (∀ (c src : Nat) (m : PocSample) (s : State), alive s .fabric = true → c < 2 → src < 3 → c < s.convs.length →
    src < (conv s c).seen.length → stHeld ≤ station s → m.good = true → nowNs s ≤ m.ns + lossNs s c → takesSource s c src = false →
    Completes (.voltageSample c src m) s fun t =>
      getD' (conv t c).seen src none = some m.ns ∧ conv t c = { conv s c with seen := (conv t c).seen }
        ∧ t = { s with convs := t.convs })
  ∧ ∀ (c src : Nat) (m : PocSample) (s : State), alive s .fabric = true → c < 2 → src < 3 → c < s.convs.length →
    src < (conv s c).seen.length → stHeld ≤ station s → m.good = true → nowNs s ≤ m.ns + lossNs s c → takesSource s c src = true →
    Completes (.voltageSample c src m) s fun t =>
      let k := rdF s Obj.TRANSFORMER_RATIO * baseAc s * 1000
      rd t (Obj.SOURCE_IN_USE c) = src ∧ (conv t c).stamp = some m.ns ∧ getD' (conv t c).seen src none = some m.ns
        ∧ ((conv t c).va, (conv t c).vb) = clarke ((m.va : Rat) / k) ((m.vb : Rat) / k) ((m.vc : Rat) / k)
        ∧ sync t c sfRt = rtPresent t c (conv t c)
        ∧ sync t c sfAbsent = decide (mag (conv t c).va (conv t c).vb < rdPu t (Obj.STALL_V_MIN c))
        ∧ (rd s (Obj.SOURCE_IN_USE c) ≠ src → rd s (Obj.SOURCE_IN_USE c) ≠ 0xFF → Raised .voltageSourceChanged c s t)
        ∧ t = { s with regs := t.regs, convs := t.convs, log := t.log, cl := t.cl }
        ∧ OnlyObjects [Obj.SOURCE_IN_USE c, Obj.SYNC_FLAGS c, Obj.SECTOR_NOW c, Obj.SECTOR_TRANSITIONS c, Obj.PROBE_Z c,
            Obj.LOG_DROPPED] s t

/-- SOURCE_LOSS_TIMEOUT of an interface from HELD onward whose source in use is not valid: with a valid alternate source that one
is used from now on and "voltage source changed" is raised; without one, LOST is set and LOCKED cleared in SYNC_FLAGS,
"voltage source lost" is raised and one event of its source added, and in RUNNING, RIDE-THROUGH and COAST a ramp-down with
cause 6 of RAMP_DOWN_CAUSE is scheduled, or BLOCKED when direct power control is active. A source that is valid again changes
nothing, and neither does a loss already shown. Formalises spec/06_grid_interface.md (R162);
spec/11_configuration_and_states.md (R332). -/
def Obligations.VoltageSourceLoss : Prop :=
  (∀ (c : Nat) (s : State), alive s .fabric = true → c < 2 → stHeld ≤ station s → sourceValid s c (rd s (Obj.SOURCE_IN_USE c)) = false →
    let alt := rd s (Obj.VOLTAGE_SOURCE_ALT c)
    (alt < 3 → alt ≠ rd s (Obj.SOURCE_IN_USE c) → sourceValid s c alt = true →
      Completes (.sourceLossTimeout c) s fun t =>
        rd t (Obj.SOURCE_IN_USE c) = alt ∧ Raised .voltageSourceChanged c s t
          ∧ OnlyObjects [Obj.SOURCE_IN_USE c, Obj.SYNC_FLAGS c, Obj.LOG_DROPPED] s t
          ∧ t = { s with regs := t.regs, log := t.log, convs := t.convs })
    ∧ (¬(alt < 3 ∧ alt ≠ rd s (Obj.SOURCE_IN_USE c) ∧ sourceValid s c alt = true) → sync s c sfLost = false →
      Completes (.sourceLossTimeout c) s fun t =>
        sync t c sfLost = true ∧ sync t c sfLocked = false ∧ Raised .voltageSourceLost c s t
          ∧ (∃ e, t.faultEvents = s.faultEvents ++ [e] ∧ e.family = 0 ∧ e.source = srcVoltage ∧ e.inst = c ∧ e.n = 1)
          ∧ (dpcOn s c = true → isActive (station s) = true → Scheduled stBlocked causeGrid 0 s t)
          ∧ (dpcOn s c = false → station s = stRunning ∨ station s = stRideThrough ∨ station s = stCoast →
              Scheduled stRampDown causeGrid 6 s t)
          ∧ OnlyObjects [Obj.SYNC_FLAGS c, Obj.LOG_DROPPED] s t)
    ∧ (¬(alt < 3 ∧ alt ≠ rd s (Obj.SOURCE_IN_USE c) ∧ sourceValid s c alt = true) → sync s c sfLost = true →
      exec (.sourceLossTimeout c) s = .next s))
  ∧ ∀ (c : Nat) (s : State), sourceValid s c (rd s (Obj.SOURCE_IN_USE c)) = true → exec (.sourceLossTimeout c) s = .next s

/-- RT_CONFIRM_EXPIRY in RUNNING with the condition present counts in RT_ENTRIES, raises its event and schedules RIDE-THROUGH;
RT_EXIT_HOLD_EXPIRY in RIDE-THROUGH without the condition notes the hold as past and, with no direct power control and no such
change pending, schedules RUNNING, while direct power control lasts nothing else changes; RT_CURVE_CROSSED beyond a curve in an
active state counts in RT_BEYOND, raises its event and schedules BLOCKED. DPC_ENTRY on its condition makes direct power control
due, or schedules BLOCKED when the vector is absent or the source lost; DPC_EXIT_HOLD_EXPIRY makes its end due. Formalises
spec/06_grid_interface.md (R175, R177, R179, R181, R184, R198). -/
def Obligations.RideThroughAndDirectPower : Prop :=
  (∀ (c : Nat) (s : State), alive s .fabric = true → c < 2 → sync s c sfRt = true → station s = stRunning →
    stateAhead s (tideNow s + 1) ≠ stRideThrough →
    Completes (.rtConfirmExpiry c) s fun t =>
      Counted 32 (Obj.RT_ENTRIES c) s t ∧ Raised .rideThroughEntered c s t ∧ Scheduled stRideThrough causeGrid 0 s t
        ∧ OnlyObjects [Obj.RT_ENTRIES c, Obj.LOG_DROPPED] s t ∧ t = { s with regs := t.regs, log := t.log, sm := t.sm })
  ∧ (∀ (c : Nat) (s : State), alive s .fabric = true → c < 2 → beyondCurve s c = true →
    isActive (station s) = true →
    Completes (.rtCurveCrossed c) s fun t =>
      Counted 32 (Obj.RT_BEYOND c) s t ∧ Raised .rideThroughLimitCrossed c s t ∧ Scheduled stBlocked causeGrid 0 s t
        ∧ OnlyObjects [Obj.RT_BEYOND c, Obj.LOG_DROPPED] s t ∧ t = { s with regs := t.regs, log := t.log, sm := t.sm })
  ∧ (∀ s : State, alive s .fabric = true → station s = stRideThrough → (∀ c, c < 2 → sync s c sfRt = false) →
    ((∀ c, c < 2 → dpcOn s c = false ∧ (conv s c).dpcDue = false) → s.sm.causes.any Cause.endsRide = false →
      Completes .rtExitHoldExpiry s fun t =>
        Scheduled stRunning causeGrid 0 s t ∧ t = { s with sm := t.sm, cl := { s.cl with rtClear := true } })
    ∧ (∀ c, c < 2 → dpcOn s c = true → (conv s c).dpcEnd = false →
      exec .rtExitHoldExpiry s = .next { s with cl := { s.cl with rtClear := true } }))
  ∧ (∀ (c : Nat) (s : State), alive s .fabric = true → c < 2 → c < s.convs.length → rdBool s (Obj.DPC_ENABLE c) = true →
    dpcOn s c = false → dpcState s c = true → dpcCondition s c = true →
    (sync s c sfAbsent = false → sync s c sfLost = false → Completes (.dpcEntry c) s fun t =>
      conv t c = { conv s c with dpcDue := true } ∧ t = { s with convs := t.convs } ∧ ∀ d, d ≠ c → conv t d = conv s d)
    ∧ (sync s c sfAbsent = true ∨ sync s c sfLost = true → Completes (.dpcEntry c) s fun t =>
        Scheduled stBlocked causeGrid 0 s t ∧ t = { s with sm := t.sm }))
  ∧ ∀ (c : Nat) (s : State), alive s .fabric = true → c < 2 → c < s.convs.length → dpcOn s c = true →
    rdPu s (Obj.DPC_ENTRY_V c) + 1 / 20 < vPos (conv s c) → sync s c sfLocked = true →
    Completes (.dpcExitHoldExpiry c) s fun t =>
      conv t c = { conv s c with dpcEnd := true } ∧ t = { s with convs := t.convs, sm := t.sm }
        ∧ (station s ≠ stRideThrough → t.sm = s.sm) ∧ ∀ d, d ≠ c → conv t d = conv s d

/-- ISLANDING_DETECTED by an enabled method that finds its condition, from READY onward, not in SAFE, with the source not lost (a
stall, method 4, while direct power control is inactive), sets the method's bit of ISLAND_FLAGS. When no bit was set and the
station is active it also counts, raises the event and takes the reaction: ramp-down with cause 8 for 1, BLOCKED for 2,
grid-forming mode due at the next tide start for 3. When a bit was set already nothing else changes. GRID_STALL sets STALLED;
with direct power control active it raises its event and schedules BLOCKED, and so does ISLANDING_DETECTED of method 4.
PROBE_PERIOD_START in RUNNING with the probe enabled begins the bursts and changes no object but PROBE_Z. SCR_ESTIMATE from ten
100 ms means of the second that ended, with a slope that is not zero and a range of reactive power of at least 0.02 pu, moves
SCR_EST by a quarter of the difference to 1 over the slope, and changes nothing else; with fewer means or a smaller range
nothing changes. REVERSAL_DWELL_END of a running dwell in an active state other than RIDE-THROUGH runs station time to the
dwell's end; there it turns DIRECTION round, counts and raises its event and returns to STEADY when nothing forbids the
reversal, and otherwise shows HELD and the reason. Formalises spec/06_grid_interface.md (R166, R185, R186, R187, R188, R189). -/
def Obligations.IslandingStallProbeAndReversal : Prop :=
  ((∀ (c how : Nat) (s : State), alive s .fabric = true → c < 2 → c < s.convs.length → how < 5 → islandFound s c how = true →
     (how = 4 → dpcOn s c = false) → stReady ≤ station s → station s ≠ stSafe →
     sync s c sfLost = false → bit (rd s (Obj.ISLAND_ENABLE c)) how = true →
     (rd s (Obj.ISLAND_FLAGS c) = 0 → isActive (station s) = true → Completes (.islandingDetected c how) s fun t =>
       rd t (Obj.ISLAND_FLAGS c) = setBit 0 how ∧ Counted 32 (Obj.ISLAND_DETECTIONS c) s t ∧ Raised .islandingDetected c s t
         ∧ (rd s (Obj.ISLAND_REACTION c) = 1 → Scheduled stRampDown causeIslanding 5 s t)
         ∧ (rd s (Obj.ISLAND_REACTION c) = 2 → Scheduled stBlocked causeIslanding 0 s t)
         ∧ (rd s (Obj.ISLAND_REACTION c) = 3 → (conv t c).modeDue = true)
         ∧ OnlyObjects [Obj.ISLAND_FLAGS c, Obj.ISLAND_DETECTIONS c, Obj.LOG_DROPPED] s t)
     ∧ (rd s (Obj.ISLAND_FLAGS c) ≠ 0 ∨ isActive (station s) = false → Completes (.islandingDetected c how) s fun t =>
       rd t (Obj.ISLAND_FLAGS c) = setBit (rd s (Obj.ISLAND_FLAGS c)) how ∧ OnlyRegs [Obj.ISLAND_FLAGS c] s t))
   ∧ (∀ (c : Nat) (s : State), alive s .fabric = true → c < 2 → sync s c sfAbsent = false → stHeld ≤ station s → dpcOn s c = true →
     (Completes (.gridStall c) s fun t =>
       sync t c sfStalled = true ∧ Raised .gridVectorStalled c s t ∧ Scheduled stBlocked causeGrid 0 s t
         ∧ OnlyObjects [Obj.SYNC_FLAGS c, Obj.ISLAND_FLAGS c, Obj.LOG_DROPPED] s t)
     ∧ Completes (.islandingDetected c 4) s fun t =>
       Raised .gridVectorStalled c s t ∧ Scheduled stBlocked causeGrid 0 s t
         ∧ OnlyObjects [Obj.ISLAND_FLAGS c, Obj.LOG_DROPPED] s t)
   ∧ (∀ (c : Nat) (s : State), alive s .fabric = true → c < 2 → sync s c sfAbsent = false → stHeld ≤ station s → dpcOn s c = false →
     Completes (.gridStall c) s fun t =>
       sync t c sfStalled = true
         ∧ OnlyObjects [Obj.SYNC_FLAGS c, Obj.ISLAND_FLAGS c, Obj.ISLAND_DETECTIONS c, Obj.LOG_DROPPED] s t)
   ∧ (∀ (c : Nat) (s : State), alive s .fabric = true → c < 2 → c < s.convs.length → station s = stRunning →
     bit (rd s (Obj.ISLAND_ENABLE c)) 3 = true →
     Completes (.probePeriodStart c) s fun t =>
       (conv t c).probe = 1 ∧ (conv t c).probeFrom = nowNs s ∧ (conv t c).probeSum = (0, 0, 0) ∧ (conv t c).probeMinus = (0, 0, 0)
         ∧ t = { s with regs := t.regs, convs := t.convs } ∧ OnlyObjects [Obj.PROBE_Z c] s t)
   ∧ ∀ (c : Nat) (s : State), sync s c sfAbsent = true → exec (.gridStall c) s = .next s)
  ∧ (∀ (c : Nat) (s : State), alive s .fabric = true → c < 2 →
      let sec := nowNs s / 1000000000
      let ps := ((conv s c).buckets.filter (fun b => decide (b.index / 10 + 1 = sec) && decide (0 < b.nv) && decide (0 < b.nq))).map
        (fun b => (b.v / (b.nv : Rat), b.q / (b.nq : Rat)))
      (ps.length = 10 → 1 / 50 ≤ (scrFit ps).2 → (scrFit ps).1 ≠ 0 →
        Completes (.scrEstimate c) s fun t =>
          rd t (Obj.SCR_EST c) = pu24OfRat (rdPu s (Obj.SCR_EST c) + (1 / (scrFit ps).1 - rdPu s (Obj.SCR_EST c)) / 4)
            ∧ OnlyRegs [Obj.SCR_EST c] s t)
      ∧ (ps.length ≠ 10 ∨ (scrFit ps).2 < 1 / 50 → exec (.scrEstimate c) s = .next s))
    ∧ (∀ (c t0 : Nat) (s : State), alive s .processing = true → c < 2 → rd s (Obj.REVERSAL_STATE c) = 2 →
      (conv s c).dwellFrom = some t0 → isActive (station s) = true → station s ≠ stRideThrough →
      let u := runTo ((t0 + rd s (Obj.REVERSAL_DWELL c) * 1000000) * nsUnit) s
      (reversalReason u c (1 - rd s (Obj.DIRECTION c)) = 0 → Completes (.reversalDwellEnd c) s fun t =>
        rd t (Obj.DIRECTION c) = 1 - rd s (Obj.DIRECTION c) ∧ rd t (Obj.REVERSAL_STATE c) = 0 ∧ rd t (Obj.REVERSAL_HOLD_REASON c) = 0
          ∧ Counted 32 (Obj.REVERSALS c) u t ∧ Raised .powerReversal c u t
          ∧ OnlyObjects [Obj.DIRECTION c, Obj.REVERSAL_STATE c, Obj.REVERSAL_HOLD_REASON c, Obj.REVERSALS c, Obj.LOG_DROPPED] u t
          ∧ t = { u with regs := t.regs, log := t.log, convs := t.convs })
      ∧ (reversalReason u c (1 - rd s (Obj.DIRECTION c)) ≠ 0 → Completes (.reversalDwellEnd c) s fun t =>
        rd t (Obj.REVERSAL_STATE c) = 3 ∧ rd t (Obj.REVERSAL_HOLD_REASON c) = reversalReason u c (1 - rd s (Obj.DIRECTION c))
          ∧ OnlyRegs [Obj.REVERSAL_STATE c, Obj.REVERSAL_HOLD_REASON c] u t))
    ∧ ∀ (c : Nat) (s : State), isActive (station s) = false ∨ station s = stRideThrough → exec (.reversalDwellEnd c) s = .next s

/-- SCAN_DUE of a solar leaf with no scan due or running runs station time to the instant at which its scan is due. There, while
its arm is curtailed or already runs SCAN_CONCURRENT scans, the scan is due and the wait counts in SCANS_DELAYED; when there is
room, the leaf tracks and no other leaf of the arm is due, the scan begins with v_before and p_before taken and LAST_SCAN showing
the tide. SCAN_POINT_END of a completed dwell keeps the better point, where a dwell with fewer than half its tides valid counts
0 W (the power of a last half without a valid tide is a free value, log entry 69); before the last point the next reference is
set, and the last point counts in SCANS and ends the scan at the best reference when that gains more than SCAN_GAIN_MIN, else at
v_before. SCAN_ABANDON of a running scan in a curtailed arm counts in SCANS_ABANDONED and returns the reference to v_before.
VOC_MEASUREMENT_END of a completed measurement with enough valid tides sets Voc to the window's mean; without a scan, and unless
the leaf is then DARK, P&O starts at V_START of it, with direction -1 and step STEP_INIT, and in a scan that goes on the first
reference is SCAN_HIGH of it; without enough valid tides MPPT_HOLDS counts and the measurement is made
again. CURTAIL_STEP with too few valid tides counts in MPPT_HOLDS and changes nothing else; otherwise it takes the window's
power, and a leaf that is not leaving curtailment and lies within CURTAIL_BAND of its target keeps its reference.
SENTINEL_ROTATE_EXPIRY of a curtailed arm releases the sentinels and chooses at most SENTINELS leaves, all of which are then
SENTINEL, while a released one not chosen again is CURTAILED. Formalises spec/07_solar_tracking.md (R208, R210, R211, R212,
R213, R216, R217). -/
def Obligations.SolarScansMeasurementAndCurtailment : Prop :=
  ((∀ (L t0 : Nat) (s : State), alive s .fabric = true → isSolar s L = true → rd s Obj.SCAN_INTERVAL ≠ 0 → (solarOf s L).due = false →
     (solarOf s L).scan = none → scanInstant s L = some t0 →
     let a := armOf s L
     let busy := ((solarLeaves s a).filter (fun M => (solarOf s M).scan.isSome)).length
     let u := runTo (t0 * nsUnit) s
     (curtailed s a = true ∨ rd s Obj.SCAN_CONCURRENT ≤ busy → Completes (.scanDue L) s fun t =>
       (solarOf t L).due = true ∧ (solarOf t L).delayed = true ∧ (solarOf t L).dueAt = t0 ∧ (solarOf t L).scan = none
         ∧ Counted 32 Obj.SCANS_DELAYED s t ∧ t = { u with regs := t.regs, solar := t.solar })
     ∧ (curtailed s a = false → busy < rd s Obj.SCAN_CONCURRENT → L ∈ solarLeaves s a → (solarOf s L).state = mpTracking →
       (∀ M, M ∈ solarLeaves s a → (solarOf s M).due = false) → Completes (.scanDue L) s fun t =>
         (solarOf t L).scan = some 0 ∧ (solarOf t L).vocRun = some 0 ∧ (solarOf t L).due = false ∧ (solarOf t L).state = mpOpen
           ∧ (solarOf t L).vBefore = (solarOf s L).vref ∧ (solarOf t L).pBefore = (solarOf s L).pWin
           ∧ rd t (Obj.LAST_SCAN L) = tideNow s ∧ t = { u with regs := t.regs, solar := t.solar }))
   ∧ (∀ (L j : Nat) (s : State), alive s .fabric = true → isSolar s L = true → (solarOf s L).scan = some j →
     (solarOf s L).vocRun = none → solarTides s (rd s Obj.SCAN_DWELL) ≤ (solarOf s L).dwell →
     let x := solarOf s L
     let p := scanPower L (solarTides s (rd s Obj.SCAN_DWELL)) x s
     let best := match x.best with | some b => if b.2 < p then (x.vref, p) else b | none => (x.vref, p)
     (j + 1 < rd s Obj.SCAN_POINTS → Completes (.scanPointEnd L) s fun t =>
       (solarOf t L).scan = some (j + 1) ∧ (solarOf t L).best = some best ∧ (solarOf t L).dwell = 0
         ∧ (solarOf t L).vref = scanPoint s x.voc (j + 1) ∧ t = { s with regs := t.regs, solar := t.solar })
     ∧ (rd s Obj.SCAN_POINTS ≤ j + 1 → Completes (.scanPointEnd L) s fun t =>
       (solarOf t L).scan = none ∧ Counted 32 Obj.SCANS s t
         ∧ (x.pBefore * (1 + (rd s Obj.SCAN_GAIN_MIN : Rat) / 10000) < best.2 →
             (solarOf t L).vref = best.1 ∧ (solarOf t L).pPrev = some best.2 ∧ Counted 32 Obj.SCAN_MOVES s t)
         ∧ (best.2 ≤ x.pBefore * (1 + (rd s Obj.SCAN_GAIN_MIN : Rat) / 10000) →
             (solarOf t L).vref = x.vBefore ∧ (solarOf t L).pPrev = some x.pBefore ∧ rd t Obj.SCAN_MOVES = rd s Obj.SCAN_MOVES)
         ∧ t = { s with regs := t.regs, solar := t.solar }))
   ∧ ∀ (L j : Nat) (s : State), alive s .fabric = true → isSolar s L = true → curtailed s (armOf s L) = true →
     (solarOf s L).scan = some j →
     Completes (.scanAbandon L) s fun t =>
       Counted 32 Obj.SCANS_ABANDONED s t ∧ (solarOf t L).scan = none ∧ (solarOf t L).vocRun = none
         ∧ (solarOf t L).vref = (solarOf s L).vBefore ∧ t = { s with regs := t.regs, solar := t.solar })
  ∧ (∀ (L n : Nat) (s : State), alive s .fabric = true → isSolar s L = true → (solarOf s L).vocRun = some n →
      solarTides s (rd s Obj.VOC_TIME) ≤ n → (solarOf s L).state = mpOpen →
      let x := solarOf s L
      let ok := windowGood x (halfOf (solarTides s (rd s Obj.VOC_TIME)))
      (ok = false → Completes (.vocMeasurementEnd L) s fun t =>
        Counted 32 Obj.MPPT_HOLDS s t ∧ (solarOf t L).vocRun = some 0 ∧ (solarOf t L).voc = x.voc
          ∧ OnlyRegs [Obj.MPPT_HOLDS] { s with solar := t.solar } t)
      ∧ (ok = true → Completes (.vocMeasurementEnd L) s fun t =>
        (solarOf t L).voc = windowV x ∧ (solarOf t L).vocKnown = true ∧ (solarOf t L).estimated = false ∧ (solarOf t L).vocRun = none
          ∧ (x.scan = none → (solarOf t L).state ≠ mpDark → (solarOf t L).vref = roundV (partOf (rd s Obj.V_START) (windowV x)) ∧ (solarOf t L).dir = -1
              ∧ (solarOf t L).step = (rd s Obj.STEP_INIT : Rat) ∧ (solarOf t L).pPrev = none)
          ∧ (∀ j, x.scan = some j → (solarOf t L).state = mpScanning → (solarOf t L).vref = roundV (partOf (rd s Obj.SCAN_HIGH) (windowV x)) ∧ (solarOf t L).dwell = 0
              ∧ (solarOf t L).scan = some j)
          ∧ t = { s with regs := t.regs, solar := t.solar }))
    ∧ (∀ (L : Nat) (s : State), alive s .fabric = true → isSolar s L = true → (solarOf s L).state = mpCurtailed →
      solarTides s (rd s Obj.CURTAIL_PERIOD) ≤ (solarOf s L).tides →
      let x := solarOf s L
      let ok := windowGood x (halfOf (solarTides s (rd s Obj.CURTAIL_PERIOD)))
      let target := curtailTarget s (armOf s L) x
      (ok = false → Completes (.curtailStep L) s fun t => Counted 32 Obj.MPPT_HOLDS s t ∧ OnlyRegs [Obj.MPPT_HOLDS] s t)
      ∧ (ok = true → Completes (.curtailStep L) s fun t =>
        (solarOf t L).pWin = windowP x ∧ (solarOf t L).steps = [(x.vref, windowP x)]
          ∧ (absRat (windowP x - target) ≤ partOf (rd s Obj.CURTAIL_BAND) target → (solarOf t L).vref = x.vref)
          ∧ (x.leaving = false → (solarOf t L).state = mpCurtailed)
          ∧ (x.leaving = true → (solarOf t L).vref ≤ x.vMpp → (solarOf t L).state = mpTracking ∧ (solarOf t L).leaving = false)
          ∧ t = { s with regs := t.regs, solar := t.solar }))
    ∧ ∀ (a : Nat) (s : State), alive s .fabric = true → solarFitted s = true → a < 12 → a < s.solar.sentinels.length →
      curtailed s a = true →
      Completes (.sentinelRotateExpiry a) s fun t =>
        (sentinelsOf t a).length ≤ rd s Obj.SENTINELS ∧ (∀ L, L ∈ sentinelsOf t a → (solarOf t L).state = mpSentinel)
          ∧ (∀ L, L ∈ sentinelsOf t a → L ∈ solarLeaves s a)
          ∧ (∀ L, L ∈ sentinelsOf s a → L ∉ sentinelsOf t a → (solarOf s L).state = mpSentinel → (solarOf t L).state = mpCurtailed)
          ∧ t = { s with regs := t.regs, solar := t.solar }

/-- COMMIT_SLOT_WRITTEN with success moves the commit to step 2; a failure of either step sets COMMIT_STATUS to 0x12, or 0x13 on a
stuck bus, ends the commit and keeps the committed image and the draft. After COMMIT_VERIFIED with success the committed image is
the draft's, and the written slot holds it with the next count; a live commit ends at once with COMMIT_STATUS 4, that slot
active, and COMMITS one higher; one made in HELD goes to step 3, with ACTIVE_SLOT and COMMITS as before, where a change of the
tide or check settings begins a re-tide and any other change takes effect at the next tide start. RETIDE_READY with every drove back ends the commit: READY is scheduled unless a BLOCK or TRIP demand is in
force. Formalises spec/11_configuration_and_states.md (R326, R327, R328, R329, R341). -/
def Obligations.CommitSteps : Prop :=
  (∀ s : State, alive s .lookout = true → s.cfg.commitStep = 1 →
    Completes (.commitSlotWritten true false) s fun t =>
      t.cfg = { s.cfg with commitStep := 2 } ∧ rd t Obj.COMMIT_STATUS = 2 ∧ rd t Obj.COMMIT_PROGRESS = 100
        ∧ OnlyRegs [Obj.COMMIT_STATUS, Obj.COMMIT_PROGRESS] { s with cfg := t.cfg } t)
  ∧ (∀ (stuck : Bool) (s : State), alive s .lookout = true →
    (s.cfg.commitStep = 1 → Completes (.commitSlotWritten false stuck) s fun t =>
      rd t Obj.COMMIT_STATUS = (if stuck then 0x13 else 0x12) ∧ t.cfg.commitStep = 0 ∧ t.cfg.committed = s.cfg.committed
        ∧ t.cfg.draft = s.cfg.draft ∧ rd t Obj.ACTIVE_SLOT = rd s Obj.ACTIVE_SLOT)
    ∧ (s.cfg.commitStep = 2 → Completes (.commitVerified false stuck) s fun t =>
      rd t Obj.COMMIT_STATUS = (if stuck then 0x13 else 0x12) ∧ t.cfg.commitStep = 0 ∧ t.cfg.committed = s.cfg.committed
        ∧ t.cfg.draft = s.cfg.draft ∧ rd t Obj.ACTIVE_SLOT = rd s Obj.ACTIVE_SLOT))
  ∧ (∀ s : State, alive s .lookout = true → s.cfg.commitStep = 2 →
    Completes (.commitVerified true false) s fun t =>
      t.cfg.committed = some (commitImage s) ∧ t.cfg.draft = { commitImage s with seconds := 0 }
        ∧ slotAt t (spareSlot s) = .good (commitImage s) (satAdd (2 ^ 32 - 1) (rd s Obj.COMMITS) 1) (stimeNow s)
        ∧ (s.cfg.commitHeld = false → rd t Obj.COMMIT_STATUS = 4 ∧ t.cfg.commitStep = 0 ∧ Raised .configurationCommitted noInst s t
            ∧ Counted 32 Obj.COMMITS s t ∧ rd t Obj.ACTIVE_SLOT = spareSlot s
            ∧ rd t Obj.COMMITTED_GENERATION = (commitImage s).generation)
        ∧ (s.cfg.commitHeld = true → rd t Obj.COMMIT_STATUS = 3 ∧ t.cfg.commitStep = 3 ∧ rd t Obj.COMMITS = rd s Obj.COMMITS
            ∧ rd t Obj.ACTIVE_SLOT = rd s Obj.ACTIVE_SLOT
            ∧ if (changedKeys (commitImage s) (baseImage s)).any retideKey then ∃ q, t.time.silence = some q ∧ q.retide = true
              else t.cfg.applyDue = true))
  ∧ ∀ (s : State) (t0 : Nat), alive s .lookout = true → s.cfg.retideWait = some t0 → s.cfg.commitStep = 3 →
    (retideReturned s = true → Completes .retideReady s fun t =>
      t.cfg = { s.cfg with commitStep := 4, retideWait := none } ∧ t = { s with cfg := t.cfg, sm := t.sm }
        ∧ (blockInForce s = false → tripInForce s = false → Scheduled stReady causeCommit 0 s t)
        ∧ (blockInForce s = true ∨ tripInForce s = true → t.sm = s.sm))
    ∧ (retideReturned s = false → 0 < s.time.inc → Completes .retideReady s fun t =>
      t0 + 100000000 * nsUnit ≤ t.time.acc ∧ t.cfg = { s.cfg with commitStep := 4, retideWait := none })

/-- VALIDATION_COMPLETE of a validation under way shows the rules' first failure, or 0, in VALIDATE_STATUS, INDEX, SUB and DETAIL,
records the judged generation and the check of the judged image, and shows 0xFE when the draft has changed since; nothing but
objects and the validation's own record changes. A restored image that passes schedules READY; one that fails leaves the
station in HELD with reason 2. With no validation under way nothing changes. Formalises spec/11_configuration_and_states.md
(R324, R325, R329). -/
def Obligations.ValidationResults : Prop :=
  (∀ (s : State) (im : Image) (gen : Nat), alive s .lookout = true → s.cfg.restoring = false → s.cfg.judged = some (im, gen) →
    Completes .validationComplete s fun t =>
      rd t Obj.VALIDATE_STATUS = (if rd s Obj.DRAFT_GENERATION = gen then (validateImage s im).1 else 0xFE)
        ∧ rd t Obj.VALIDATE_INDEX = keyIndex (validateImage s im).2.key ∧ rd t Obj.VALIDATE_SUB = keySub (validateImage s im).2.key
        ∧ rd t Obj.VALIDATE_DETAIL = (validateImage s im).2.detail ∧ rd t Obj.VALIDATED_GENERATION = gen
        ∧ rd t Obj.VALIDATED_CHECK =
            ({ draftImage s with vals := im.vals, blobs := im.blobs, extra := im.extra } : Image).check (optionCode s)
        ∧ t.cfg = { s.cfg with validating := false, judged := none }
        ∧ OnlyRegs [Obj.VALIDATE_STATUS, Obj.VALIDATE_INDEX, Obj.VALIDATE_SUB, Obj.VALIDATE_DETAIL, Obj.VALIDATED_GENERATION,
            Obj.VALIDATED_CHECK] { s with cfg := t.cfg } t)
  ∧ (∀ s : State, alive s .lookout = true → s.cfg.restoring = true → Completes .validationComplete s fun t =>
      if (validateImage s (baseImage s)).1 = 0 then
        Scheduled stReady causeCommit 0 s t ∧ t.cfg = { s.cfg with restoring := false, valid := true }
          ∧ rd t Obj.HELD_REASON = rd s Obj.HELD_REASON
      else rd t Obj.HELD_REASON = 2 ∧ t.sm = s.sm ∧ t.cfg = { s.cfg with restoring := false, valid := false })
  ∧ ∀ s : State, s.cfg.restoring = false → s.cfg.judged = none → exec .validationComplete s = .next s

/-- BOOT_RESTORE in BOOT with a stuck bus leaves no committed image, the factory draft and reason 3, and changes nothing else;
with the bus free the settings that take effect are those of the later valid slot, reason 5, or, without a valid slot, no
image is committed; the turn plans of the droves are shown and SCR_EST takes SCR_DEFAULT. BOOT_COMPLETE of a device that is
ready schedules HELD with the reset's cause and the reason found. RETIDE_RESTART after the last silent tide lets the committed
settings take effect with the tide restarting, and every drove awaits its frames from that instant. CHARGE_TIMEOUT_EXPIRY in
CHARGING with no change to ENERGISED pending raises its event and schedules BLOCKED with cause 11. Formalises spec/11_configuration_and_states.md (R328, R329, R335, R337); spec/16_reset_and_power.md
(R462). -/
def Obligations.BootAndRetide : Prop :=
  (∀ s : State, alive s .lookout = true → station s = stBoot → bit (rd s Obj.MBUS_STATUS) mbRecovering = false →
    (∀ c, c ∈ s.sm.causes → c.target ≠ stHeld) →
    (busStuck s = true → Completes .bootRestore s fun t =>
      t = { s with cfg := { s.cfg with committed := none, draft := Image.factory, bootReason := 3 } })
    ∧ (busStuck s = false → ∃ u v,
        (∀ k im n t0, laterSlot s.cfg = some (k, im, n, t0) → u.cfg.committed = some im ∧ u.cfg.draft = im ∧ u.cfg.bootReason = 5
            ∧ u.time.restartTide = true)
          ∧ (laterSlot s.cfg = none → u.cfg.committed = none ∧ u.cfg.draft = Image.factory ∧ u.cfg.bootReason ≠ 5 ∧ u.regs = s.regs)
          ∧ v = showPlans (settingsApply s u) ∧ Completes .bootRestore s fun t =>
            (∀ c, c < 2 → rd t (Obj.SCR_EST c) = pu24OfRat (rdF v (Obj.SCR_DEFAULT c)))
              ∧ OnlyRegs [Obj.SCR_EST 0, Obj.SCR_EST 1] v t))
  ∧ (∀ s : State, bootReady s = true → s.cfg.bootReason ≠ 0 →
    Completes .bootComplete s fun t =>
      ∃ c, c ∈ t.sm.causes ∧ c.target = stHeld ∧ c.cause = causeReset ∧ c.arg = s.cfg.bootReason)
  ∧ (∀ s : State, bootReady s = false → exec .bootComplete s = .next s)
  ∧ (∀ (s : State) (q : Silence), alive s .lookout = true → s.time.silence = some q → q.retide = true → q.stepBy = none →
    q.lastTide ≤ tideNow s → 0 < s.time.inc →
    ∃ u, u.time.silence = none ∧ u.time.restartTide = true
      ∧ (s.time.restartTide = false → tideStartAt s (q.lastTide + 17) ≤ u.time.acc)
      ∧ Completes .retideRestart s fun t =>
        t.cfg.retideWait = some t.time.acc ∧ t.cfg.retideGood = [] ∧ t.regs = (takeCommitted u).regs ∧ t.time = (takeCommitted u).time)
  ∧ ∀ s : State, alive s .lookout = true → station s = stCharging → (∀ c, c ∈ s.sm.causes → c.target ≠ stEnergised) →
    Completes .chargeTimeoutExpiry s fun t =>
      Scheduled stBlocked causePreCharge 0 s t ∧ Raised .preChargeFailed noInst s t ∧ OnlyObjects [Obj.LOG_DROPPED] s t
        ∧ t = { s with regs := t.regs, log := t.log, sm := t.sm }

/-- With SAFETY running: a demand of the heartbeat cause that did not stand blocks, and one of the echo cause trips; both count in
DEMANDS and raise "Breakwater demand"; a lane that does not show its block request makes the block lines trip.
HEARTBEAT_WINDOW_CLOSE counts a miss, and at HEARTBEAT_MISSES counts a loss, raises its event and blocks. A channel whose
alive monitor expires is faulted and fallen and trips. A first channel fault in an active state with DEGRADED_TIME above 0
enters degraded mode, otherwise it trips. DEGRADED_TIME_EXPIRY trips. A diagnostic that found nothing changes nothing, and one
that found a fault of channel A, other than by the clock check (0x02), completes as CHANNEL_FAULT of the same code does: the
fault is counted and shown, and channel A is faulted. In every trip the four outputs are de-energised. Formalises
spec/15_breakwater_safety.md (R428, R429, R436, R440, R445, R446, R447, R448). -/
def Obligations.BreakwaterCauses : Prop :=
  (∀ s : State, alive s .safety = true →
    (s.bw.heartbeat = 0 → Completes (.breakwaterDemand 4 []) s fun t =>
      t.bw.heartbeat = 1 ∧ BlockShown s t ∧ Counted 32 Obj.DEMANDS s t ∧ Raised .breakwaterDemand noInst s t)
    ∧ (s.bw.echo = 0 → Completes (.breakwaterDemand 5 []) s fun t =>
      t.bw.echo = 2 ∧ TripShown s t ∧ Counted 32 Obj.DEMANDS s t ∧ Raised .breakwaterDemand noInst s t)
    ∧ (∀ d, droveOn s d = true → s.bw.heartbeat = 0 → s.bw.lines = 0 → s.bw.channel = 0 →
      Completes (.breakwaterDemand 4 [d]) s fun t =>
      t.bw.lines = 2 ∧ rd t Obj.FAULT_DETAIL = 0x20 ∧ TripShown s t))
  ∧ (∀ s : State, alive s .safety = true → s.bw.lastGood ≠ none → isActive (station s) = true →
    (s.bw.misses + 1 < rd s Obj.HEARTBEAT_MISSES → Completes .heartbeatWindowClose s fun t =>
      t = { s with bw := { s.bw with misses := s.bw.misses + 1 } })
    ∧ (rd s Obj.HEARTBEAT_MISSES ≤ s.bw.misses + 1 → s.bw.heartbeat = 0 → Completes .heartbeatWindowClose s fun t =>
      Counted 32 Obj.HEARTBEAT_LOSSES s t ∧ Raised .tideHeartbeatLost noInst s t ∧ t.bw.heartbeat = 1 ∧ t.bw.lastGood = none
        ∧ BlockShown s t))
  ∧ (∀ s : State, alive s .safety = true → s.bw.channel = 0 → s.bw.lines = 0 →
    Completes .aliveMonitorExpiry s fun t =>
      t.bw.faultA = true ∧ t.bw.fallenA = true ∧ rd t Obj.FAULT_DETAIL = 0x04 ∧ Counted 32 Obj.CHANNEL_FAULTS s t
        ∧ Raised .breakwaterChannelFault noInst s t ∧ TripShown s t)
  ∧ (∀ (code : Nat) (s : State), alive s .safety = true → codeOfA code = true → s.bw.faultA = false → s.bw.faultB = false →
    (isActive (station s) = true → 0 < rd s Obj.DEGRADED_TIME → Completes (.channelFault code false) s fun t =>
      t.bw.faultA = true ∧ t.bw.degraded = true ∧ rd t Obj.FAULT_DETAIL = code ∧ Counted 32 Obj.CHANNEL_FAULTS s t
        ∧ Counted 32 Obj.DEGRADED_ENTRIES s t ∧ rd t Obj.DEGRADED_REMAINING = 60 * rd s Obj.DEGRADED_TIME
        ∧ bit (rd t Obj.BW_STATUS) 12 = true ∧ bit (rd t Obj.BW_STATUS) 14 = true)
    ∧ (isActive (station s) = false ∨ rd s Obj.DEGRADED_TIME = 0 → s.bw.channel = 0 → s.bw.lines = 0 →
      Completes (.channelFault code false) s fun t =>
      t.bw.faultA = true ∧ rd t Obj.FAULT_DETAIL = code ∧ Counted 32 Obj.CHANNEL_FAULTS s t ∧ TripShown s t))
  ∧ (∀ s : State, alive s .safety = true → s.bw.degraded = true → s.bw.expired = 0 →
    Completes .degradedTimeExpiry s fun t =>
      rd t Obj.DEGRADED_REMAINING = 0 ∧ t.bw.degraded = false ∧ Raised .degradedTimeExpired noInst s t ∧ TripShown s t)
  ∧ (∀ (code : Nat) (s : State), exec (.channelDiagnosticCheck code false) s = .next s)
  ∧ ∀ (code : Nat) (s : State), alive s .safety = true → codeOfA code = true → code ≠ 0x02 →
      Completes (.channelDiagnosticCheck code true) s fun t =>
        exec (.channelFault code false) s = .next t ∧ t.bw.faultA = true ∧ rd t Obj.FAULT_DETAIL = code
          ∧ Counted 32 Obj.CHANNEL_FAULTS s t

/-- BLOCK_SET_REPEAT while a block goes on sends a BLOCK set on every enabled lane, and sends nothing otherwise. BLOCK_RELEASE
once no demand holds begins the release in the present tide: it sends BLOCK_RELEASE naming the fourth tide on every enabled
lane, shows the release in BW_STATUS, and the block stays in force. PERIODIC_RELEASE without a demand only sends the sets.
BLOCK_ECHO_ARRIVAL of an awaited echo within ECHO_LIMIT shows its interval and ends the wait; one that comes later is shown and
missed all the same. ECHO_LIMIT_EXPIRY counts in ECHO_MISSES, raises
its event, sets ECHO_MISSING, and with ECHO_REACTION 1 trips. Formalises spec/15_breakwater_safety.md (R439, R440, R441);
spec/02_drove_links.md (R41, R42). -/
def Obligations.BlockBroadcast : Prop :=
  (∀ s : State, alive s .safety = true → alive s .link = true → silentIn s (tideNow s) = false → blockGoes s = true →
    Completes .blockSetRepeat s fun t =>
      (∀ d, d ∈ drovesOn s → Out.orderedSet d osBlock blockArg ∈ t.outbox) ∧ (drovesOn s ≠ [] → t.bw.blockSent = true)
        ∧ t = { s with outbox := t.outbox, bw := t.bw, droves := t.droves })
  ∧ (∀ s : State, blockGoes s = false → exec .blockSetRepeat s = .next s)
  ∧ (∀ s : State, alive s .safety = true → alive s .link = true → silentIn s (tideNow s) = false → releaseBegins s = true →
    Completes .blockRelease s fun t =>
      (∀ d, d ∈ drovesOn s → Out.orderedSet d osRelease (releaseArg (tideNow s + 4)) ∈ t.outbox)
        ∧ t.bw.release = some (tideNow s) ∧ t.bw.blockSent = false ∧ bit (rd t Obj.BW_STATUS) 8 = true
        ∧ bit (rd t Obj.BW_STATUS) 4 = true)
  ∧ (∀ s : State, alive s .safety = true → alive s .link = true → silentIn s (tideNow s) = false → blockGoes s = false →
    s.bw.release = none → Completes .periodicRelease s fun t =>
      (∀ d, d ∈ drovesOn s → Out.orderedSet d osRelease (releaseArg (tideNow s + 4)) ∈ t.outbox) ∧ t = { s with outbox := t.outbox })
  ∧ (∀ (d interval t0 : Nat) (s : State), alive s .safety = true → (droveOf s d).echoFrom = some t0 →
    (interval ≤ rd s Obj.ECHO_LIMIT * 10000 → Completes (.blockEchoArrival d interval) s fun t =>
      rd t (Obj.BLOCK_ECHO_TIME d) = interval % 2 ^ 32 ∧ (droveOf t d).echoFrom = none
        ∧ OnlyRegs [Obj.BLOCK_ECHO_TIME d] { s with droves := t.droves } t ∧ ∀ e, e ≠ d → droveOf t e = droveOf s e)
    ∧ (d < 128 → rd s Obj.ECHO_LIMIT * 10000 < interval → Completes (.blockEchoArrival d interval) s fun t =>
      rd t (Obj.BLOCK_ECHO_TIME d) = interval % 2 ^ 32 ∧ Counted 32 Obj.ECHO_MISSES s t ∧ Raised .blockEchoMissing d s t
        ∧ (rd s Obj.ECHO_REACTION = 1 → s.bw.echo = 0 → TripShown s t)))
  ∧ ∀ (d t0 : Nat) (s : State), alive s .safety = true → (droveOf s d).echoFrom = some t0 → 0 < s.time.inc →
    Completes (.echoLimitExpiry d) s fun t =>
      Counted 32 Obj.ECHO_MISSES s t ∧ Raised .blockEchoMissing d s t ∧ bit (rd t Obj.BW_STATUS) 15 = true
        ∧ t0 + rd s Obj.ECHO_LIMIT * 1000 * nsUnit ≤ t.time.acc
        ∧ (rd s Obj.ECHO_REACTION = 1 → s.bw.echo = 0 → TripShown s t)

/-- SAFETY_INPUT_CHANGE with SAFETY running: when a contact of a pair of function BLOCK or TRIP without a demand is not healthy,
both channels latch the function (channel A not, when it was a glitch), SIN_DEMANDS counts and the station blocks or trips; an
unhealthy pair of function INHIBIT shows INHIBIT in force. With SAFETY in reset only the levels change, and a pair that does
not exist changes nothing. SIN_DISCREPANCY_EXPIRY of a running discrepancy counts in SIN_FAULTS, raises its event and marks
the pair; a pair of function TRIP without a demand trips. RESET_PRESS of a reset pair pressed for 0.1 s to 5 s, not within 100
ms of the last reset, counts in RESETS and clears the heartbeat, echo, line and degraded causes; a shorter or longer press, or
one of a pair of another function, is forgotten and does nothing. Formalises spec/15_breakwater_safety.md (R432, R433, R434, R435, R449). -/
def Obligations.SafetyInputPairs : Prop :=
  (∀ (i : Nat) (a b glitch : Bool) (s : State), alive s .safety = true → i < 16 → i < s.bw.pairs.length →
    ¬(a = true ∧ (if rd s (Obj.SIN_MODE i) = 1 then !b else b) = true) →
    ((pairFunction s i = 1 ∨ pairFunction s i = 2) → pairDemand s i = 0 → Completes (.safetyInputChange i a b glitch) s fun t =>
      (pairOf t i).latchB = pairFunction s i ∧ (pairOf t i).latchA = (if glitch then 0 else pairFunction s i)
        ∧ Counted 32 (Obj.SIN_DEMANDS i) s t ∧ Counted 32 Obj.DEMANDS s t ∧ BlockShown s t
        ∧ (pairFunction s i = 2 → TripShown s t))
    ∧ (pairFunction s i = 3 → Completes (.safetyInputChange i a b glitch) s fun t => bit (rd t Obj.BW_STATUS) 6 = true))
  ∧ (∀ (i : Nat) (a b glitch : Bool) (s : State), alive s .safety = false → i < 16 →
    Completes (.safetyInputChange i a b glitch) s fun t =>
      t = { s with bw := { s.bw with pairs := s.bw.pairs.modify i (fun x => { x with a := a, b := b }) } })
  ∧ (∀ (i : Nat) (a b glitch : Bool) (s : State), 16 ≤ i → exec (.safetyInputChange i a b glitch) s = .next s)
  ∧ (∀ (i t0 : Nat) (s : State), alive s .safety = true → i < 16 → i < s.bw.pairs.length → (pairOf s i).since = some t0 → 0 < s.time.inc →
    Completes (.sinDiscrepancyExpiry i) s fun t =>
      Counted 32 (Obj.SIN_FAULTS i) s t ∧ Raised .safetyInputDiscrepancy i s t ∧ (pairOf t i).disc = true ∧ (pairOf t i).since = none
        ∧ t0 + rd s (Obj.SIN_DISCREPANCY i) * 1000000 * nsUnit ≤ t.time.acc
        ∧ (pairFunction s i = 2 → pairDemand s i = 0 → TripShown s t))
  ∧ ∀ (i t0 : Nat) (s : State), alive s .safety = true → i < s.bw.pairs.length → (pairOf s i).pressed = some t0 →
    (pairFunction s i = 4 → (pairOf s i).disc = false → 100000000 * nsUnit ≤ t0 → t0 ≤ 5 * secUnit → resetTooSoon s = false →
      Completes (.resetPress i) s fun t =>
        Counted 32 Obj.RESETS s t ∧ Raised .breakwaterReset noInst s t ∧ t.bw.lastReset = some s.time.acc ∧ t.bw.heartbeat = 0
          ∧ t.bw.echo = 0 ∧ t.bw.lines = 0 ∧ t.bw.expired = 0 ∧ bit (rd t Obj.BW_STATUS) 15 = false)
    ∧ (t0 < 100000000 * nsUnit ∨ 5 * secUnit < t0 ∨ pairFunction s i ≠ 4 → Completes (.resetPress i) s fun t =>
        (pairOf t i).pressed = none ∧ t = { s with bw := { s.bw with pairs := t.bw.pairs } })

/-- COMPARATOR_CHANGE of an enabled comparator that is not blanked: to outside, CMP_RAW and CMP_FLAGS show it, a new flag counts
in CMP_LATCHES, and with route bit 0 and no overcurrent demand standing the station blocks; to inside, only CMP_RAW changes. A
disabled or blanked comparator changes no object. BLANKING_START begins an interval and changes no object; BLANKING_END passes
the output as it stands. FAST_PATH_TEST of a routed and enabled comparator whose pin is inside, with a free stand-in: a pass counts in FAST_TESTS;
a failure also counts in FAST_TEST_FAILS, raises its event, shows the comparator in FAST_TEST_RESULT and INHIBIT in force.
Formalises spec/14_local_io.md (R403, R404, R405); spec/15_breakwater_safety.md (R442, R443, R444). -/
def Obligations.ComparatorsAndFastPath : Prop :=
  (∀ (c : Nat) (outside : Bool) (s : State), alive s .safety = true → c < 24 →
    (rdBool s (Obj.CMP_ENABLE c) = false ∨ (cmpOf s c).blank = true → Completes (.comparatorChange c outside) s fun t =>
      t = { s with lio := t.lio })
    ∧ (rdBool s (Obj.CMP_ENABLE c) = true → (cmpOf s c).blank = false →
      (outside = true → bit (rd s Obj.CMP_RAW) c = false → Completes (.comparatorChange c outside) s fun t =>
        bit (rd t Obj.CMP_RAW) c = true ∧ bit (rd t Obj.CMP_FLAGS) c = true
          ∧ (bit (rd s Obj.CMP_FLAGS) c = false → Counted 32 Obj.CMP_LATCHES s t)
          ∧ (bit (rd s Obj.CMP_FLAGS) c = true → rd t Obj.CMP_LATCHES = rd s Obj.CMP_LATCHES)
          ∧ (bit (rd s (Obj.CMP_ROUTE c)) 0 = true → rd s Obj.AOC_REACTION ≤ 1 → s.bw.aocA = 0 → s.bw.aocB = 0 → BlockShown s t))
      ∧ (outside = false → Completes (.comparatorChange c outside) s fun t =>
        bit (rd t Obj.CMP_RAW) c = false ∧ OnlyRegs [Obj.CMP_RAW] { s with lio := t.lio } t)))
  ∧ (∀ (c : Nat) (s : State), alive s .safety = true → c < s.lio.cmps.length → rd s (Obj.CMP_BLANK_SOURCE c) ≠ 0 →
    rdBool s (Obj.CMP_ENABLE c) = true → 0 < rd s (Obj.CMP_BLANK_TIME c) →
    Completes (.blankingStart c) s fun t => (cmpOf t c).blank = true ∧ t = { s with lio := t.lio })
  ∧ (∀ (c : Nat) (outside : Bool) (s : State), alive s .safety = true → c < 24 → c < s.lio.cmps.length → (cmpOf s c).blank = true →
    Completes (.blankingEnd c outside) s fun t =>
      (cmpOf t c).blank = false ∧ (cmpOf t c).raw = outside
        ∧ (rdBool s (Obj.CMP_ENABLE c) = true → bit (rd t Obj.CMP_RAW) c = outside))
  ∧ ∀ (c j : Nat) (s : State), alive s .safety = true → c < 24 → bits (rd s (Obj.CMP_ROUTE c)) 1 0 ≠ 0 →
    rdBool s (Obj.CMP_ENABLE c) = true → (cmpOf s c).raw = false → substitute s c = none → freeStandIn s = some j →
    (Completes (.fastPathTest c 0) s fun t =>
      Counted 64 Obj.FAST_TESTS s t ∧ rd t Obj.FAST_TEST_FAILS = rd s Obj.FAST_TEST_FAILS)
    ∧ Completes (.fastPathTest c 1) s fun t =>
      Counted 64 Obj.FAST_TESTS s t ∧ Counted 32 Obj.FAST_TEST_FAILS s t ∧ Raised .fastPathTestFailed c s t
        ∧ bit (rd t Obj.FAST_TEST_RESULT) c = true ∧ bit (rd t Obj.BW_STATUS) 6 = true ∧ bit (rd t Obj.BW_STATUS) 17 = true

/-- TEST_PULSE of the energised output whose turn it is and whose readback followed sends the pulse, gives the turn to the next
energised output in the order A0, B0, A1, B1 and changes nothing else; when it did not follow,
TRIP_PULSE_FAULTS counts and the output's channel is faulted with the output's code in FAULT_DETAIL. TRIP_READBACK_CHANGE to
high of a de-energised output is the same fault; any other change only shows in TRIP_STATE. BREAKWATER_SELFTEST_END of a
running self-test with 0 sets SELFTEST_STATUS to 0, passes the self-test and clears the channel faults and the fast-path
faults; with a code of channel A it is a channel fault. With no self-test running it changes nothing. Formalises
spec/15_breakwater_safety.md (R436, R437, R451). -/
def Obligations.TripOutputsAndSelfTest : Prop :=
  (∀ (o : Nat) (s : State), alive s .safety = true → pulseTurn s.bw = some o →
    (Completes (.testPulse o true) s fun t =>
      t = { s with bw := { s.bw with pulseNext := (getD' pulseOrder o 0 + 1) % 4 },
                   outbox := .pulse pinTrip o (rd s Obj.TEST_PULSE_WIDTH) :: s.outbox }
        ∧ (∀ e, e ∈ pulseOrder → getD' s.bw.outputs e false = true → pulseTurn t.bw ≠ some o ∨ e = o))
    ∧ Completes (.testPulse o false) s fun t =>
      Counted 32 Obj.TRIP_PULSE_FAULTS s t ∧ Counted 32 Obj.CHANNEL_FAULTS s t ∧ rd t Obj.FAULT_DETAIL = outputCode o
        ∧ (if o < 2 then t.bw.faultA else t.bw.faultB) = true)
  ∧ (∀ (o : Nat) (level : Bool) (s : State), alive s .safety = true → o < 4 →
    (level = true → getD' s.bw.outputs o false = false → Completes (.tripReadbackChange o level) s fun t =>
      Counted 32 Obj.TRIP_PULSE_FAULTS s t ∧ Counted 32 Obj.CHANNEL_FAULTS s t ∧ rd t Obj.FAULT_DETAIL = outputCode o
        ∧ (if o < 2 then t.bw.faultA else t.bw.faultB) = true)
    ∧ (level = false ∨ getD' s.bw.outputs o false = true → Completes (.tripReadbackChange o level) s fun t =>
      t.bw = { s.bw with readback := s.bw.readback.set o level } ∧ t = { s with regs := t.regs, bw := t.bw }
        ∧ OnlyObjects [Obj.TRIP_STATE 0, Obj.TRIP_STATE 1, Obj.TRIP_STATE 2, Obj.TRIP_STATE 3] s t))
  ∧ (∀ s : State, alive s .safety = true → bit (rd s Obj.BW_STATUS) 18 = true →
    (Completes (.breakwaterSelftestEnd 0) s fun t =>
      rd t Obj.SELFTEST_STATUS = 0 ∧ bit (rd t Obj.BW_STATUS) 18 = false ∧ t.bw.passed = true ∧ t.bw.faultA = false
        ∧ t.bw.faultB = false ∧ t.bw.channel = 0 ∧ t.bw.degraded = false ∧ t.bw.fast = 0 ∧ rd t Obj.FAST_TEST_RESULT = 0
        ∧ bit (rd t Obj.BW_STATUS) 12 = false ∧ bit (rd t Obj.BW_STATUS) 13 = false)
    ∧ ∀ code, codeOfA code = true → Completes (.breakwaterSelftestEnd code) s fun t =>
      rd t Obj.SELFTEST_STATUS = code ∧ t.bw.faultA = true ∧ rd t Obj.FAULT_DETAIL = code ∧ Counted 32 Obj.CHANNEL_FAULTS s t)
  ∧ ∀ (code : Nat) (s : State), bit (rd s Obj.BW_STATUS) 18 = false → exec (.breakwaterSelftestEnd code) s = .next s

/-- PTP_ANNOUNCE on a port that is up enters the master in the list, and the active master is the best qualified one of the new
list. PTP_SYNC of the only and active master counts in SYNC_RECEIVED, keeps its times as the port's last Sync, shows receipt
minus origin minus mean path delay minus asymmetry as OFFSET_FROM_MASTER, and the offset is taken on that state; a Sync of
another domain changes nothing. When the only master's Announces or Syncs stop in ACQUIRING or LOCKED, no port is active,
STATE is HOLDOVER, TIME_LOSSES counts and "time holdover" is raised. PTP_DELAY_REQ_SEND that is sent begins an exchange with
the port's next sequenceId, sends the request and stores a transmit timestamp under it; one that is not sent stores none.
PTP_DELAY_RESPONSE of the exchange under way frees its entry and, measuring peer to peer, shows half of what remains of its
times in MEAN_PATH_DELAY and counts in DELAY_EXCHANGES; without a stored timestamp it only ends the exchange.
PDELAY_REQ_RECEIVED is answered with the turnaround time, one-step in one message and two-step in two. TS_ENTRY_STALE frees
the entry and counts in TS_STALE. DELAY_EXCHANGE_TIMEOUT ends the exchange and changes nothing else. Formalises
spec/12_timebase.md (R348, R349, R352, R353, R356). -/
def Obligations.PtpMastersAndDelays : Prop :=
  ((∀ (port : Nat) (m : AnnounceMsg) (s : State), ptpUp s port = true →
     let ms := hearAnnounce port m s.time.masters
     Completes (.ptpAnnounce port m) s fun t =>
       t.time.masters = ms
         ∧ t.time.active = (bestMaster { s with time := { s.time with masters := ms } }).map (fun x => (x.port, x.clock)))
   ∧ (∀ (port : Nat) (m : SyncMsg) (x : ForeignMaster) (s : State), ptpUp s port = true → port < s.time.ports.length →
     m.domain = rd s Obj.PTP_DOMAIN → -4 ≤ m.logInterval → m.logInterval ≤ 1 → s.time.masters = [x] → x.port = port → x.clock = m.clock →
     x.qualified s = true → s.time.active = some (port, m.clock) →
     let o := rxNs s port m.rx - q16 m.origin - (ptpPort s port).delay - asymmetryNs s port
     Completes (.ptpSync port m) s fun t =>
       rd t Obj.OFFSET_FROM_MASTER = ofSigned 64 (roundHalfEven (o * 65536))
         ∧ ∃ u, t = takeOffset o u ∧ Counted 64 (Obj.SYNC_RECEIVED port) s u
           ∧ (ptpPort u port).lastSync = some (q16 m.origin, rxNs s port m.rx)
           ∧ u.time.active = some (port, m.clock) ∧ u.time.logSync = m.logInterval ∧ u.time.acc = s.time.acc)
   ∧ (∀ (port : Nat) (m : SyncMsg) (s : State), m.domain ≠ rd s Obj.PTP_DOMAIN → exec (.ptpSync port m) s = .next s)
   ∧ ∀ (port : Nat) (x : ForeignMaster) (s : State), alive s .lookout = true → s.time.masters = [x] → x.port = port →
     s.time.active ≠ none → timeState s = tsAcquiring ∨ timeState s = tsLocked →
     (Completes (.announceReceiptTimeout port x.clock) s fun t =>
       t.time.masters = [] ∧ t.time.active = none ∧ rd t Obj.PTP_ACTIVE_PORT = 0xFF ∧ timeState t = tsHoldover
         ∧ Counted 32 Obj.TIME_LOSSES s t ∧ Raised .timeHoldover noInst s t)
     ∧ Completes (.syncReceiptTimeout port x.clock) s fun t =>
       t.time.active = none ∧ rd t Obj.PTP_ACTIVE_PORT = 0xFF ∧ timeState t = tsHoldover ∧ Counted 32 Obj.TIME_LOSSES s t
         ∧ Raised .timeHoldover noInst s t)
  ∧ (∀ (port : Nat) (stamp : Int) (s : State), alive s .lookout = true → ptpEnabled s port = true → port < s.time.ports.length →
      let q := (ptpPort s port).nextSeq
      (Completes (.ptpDelayReqSend port false stamp) s fun t =>
        ptpPort t port = { ptpPort s port with exchange := some q, nextSeq := (q + 1) % 2 ^ 16 } ∧ t = { s with time := t.time })
      ∧ ((ptpPort s port).queue.length < tsQueueMax →
        (∀ e, e ∈ (ptpPort s port).queue → e.ident ≠ tsIdent (rd s Obj.PTP_DOMAIN) (delayReqKind s) q) →
        Completes (.ptpDelayReqSend port true stamp) s fun t =>
          (ptpPort t port).exchange = some q ∧ (ptpPort t port).nextSeq = (q + 1) % 2 ^ 16
            ∧ (∃ e, (ptpPort t port).queue = (ptpPort s port).queue ++ [e]
                ∧ e.ident = tsIdent (rd s Obj.PTP_DOMAIN) (delayReqKind s) q)
            ∧ rd t (Obj.TS_QUEUE_DEPTH port) = (ptpPort s port).queue.length + 1
            ∧ t.outbox = .ptp port (delayReqKind s) (vlanTag s port) q 0 :: s.outbox
            ∧ OnlyObjects [Obj.TS_QUEUE_DEPTH port, Obj.TS_QUEUE_HIGH port] s t))
    ∧ (∀ (port : Nat) (m : DelayMsg) (s : State), ptpUp s port = true → port < s.time.ports.length →
      (ptpPort s port).exchange = some m.seqId →
      let ident := tsIdent (rd s Obj.PTP_DOMAIN) (delayReqKind s) m.seqId
      (∀ e, peerDelay s = true → (ptpPort s port).queue.find? (fun x => x.ident = ident) = some e →
        let d := (rxNs s port m.rx - e.ns - (q16 m.remoteTx - q16 m.remoteRx)) / 2
        Completes (.ptpDelayResponse port m) s fun t =>
          (ptpPort t port).exchange = none ∧ (ptpPort t port).delay = d ∧ (∀ x, x ∈ (ptpPort t port).queue → x.ident ≠ ident)
            ∧ rd t (Obj.MEAN_PATH_DELAY port) = (clampInt 0 (2 ^ 32 - 1) (roundHalfEven (d * 10))).toNat
            ∧ Counted 64 (Obj.DELAY_EXCHANGES port) s t)
      ∧ ((∀ x, x ∈ (ptpPort s port).queue → x.ident ≠ ident) → Completes (.ptpDelayResponse port m) s fun t =>
          ptpPort t port = { ptpPort s port with exchange := none } ∧ t = { s with time := t.time }))
    ∧ (∀ (port seqId domain : Nat) (rx tx : Int) (s : State), ptpUp s port = true → peerDelay s = true → domain = rd s Obj.PTP_DOMAIN →
      let turn := (q16 tx + egressNs s port) - rxNs s port rx
      (rdBool s Obj.PTP_TWO_STEP = false → Completes (.pdelayReqReceived port seqId domain rx tx) s fun t =>
        t = { s with outbox := .ptp port 3 (vlanTag s port) seqId turn :: s.outbox })
      ∧ (rdBool s Obj.PTP_TWO_STEP = true → Completes (.pdelayReqReceived port seqId domain rx tx) s fun t =>
        t.outbox = .ptp port 0xA (vlanTag s port) seqId turn :: .ptp port 3 (vlanTag s port) seqId 0 :: s.outbox))
    ∧ (∀ (port : Nat) (e : TsEntry) (s : State), alive s .lookout = true → port < s.time.ports.length → e ∈ (ptpPort s port).queue →
      Completes (.tsEntryStale port e.ident) s fun t =>
        Counted 32 (Obj.TS_STALE port) s t ∧ (∀ x, x ∈ (ptpPort t port).queue → x.ident ≠ e.ident)
          ∧ rd t (Obj.TS_QUEUE_DEPTH port) = (ptpPort t port).queue.length)
    ∧ ∀ (port : Nat) (s : State), alive s .lookout = true → port < s.time.ports.length →
      Completes (.delayExchangeTimeout port) s fun t =>
        ptpPort t port = { ptpPort s port with exchange := none } ∧ t = { s with time := t.time }

/-- TIME_STEP in BOOT sets station time to its value minus the offset, counts in TIME_STEPS, clears PENDING_OFFSET and the
alignment of the clock outputs, moves TIME_EPOCH_NOW on by one and leaves STATE ACQUIRING, or SET for a write; elsewhere it
does so at the end of the lanes' silence, and with no step decided it changes nothing. TIME_TOLERANCE_CHANGE shows the bound
of the error estimate and raises "time out of tolerance" when the estimate passes TIME_ALARM_BOUND, and "time within
tolerance" when it returns. PPS_SECOND runs to the next whole second plus PPS_OFFSET and pulses when enabled and not
squelched; disabled it sends nothing. Formalises spec/12_timebase.md (R347, R359, R361). -/
def Obligations.StepsToleranceAndPps : Prop :=
  (∀ (m : Int) (isSet : Bool) (s : State), alive s .time = true → station s = stBoot → s.time.stepDue = some (m, isSet) →
    Completes .timeStep s fun t =>
      t.time.acc = ((s.time.acc : Int) - m * (nsUnit : Int)).toNat ∧ t.time.stepDue = none ∧ t.time.restartTide = true
        ∧ Counted 32 Obj.TIME_STEPS s t ∧ rd t Obj.PENDING_OFFSET = 0 ∧ timeState t = (if isSet then tsSet else tsAcquiring)
        ∧ rd t Obj.TIME_EPOCH_NOW = (rd s Obj.TIME_EPOCH_NOW + 1) % 2 ^ 16 ∧ ∀ o, o < 4 → rd t (Obj.CLKOUT_ALIGNED o) = 0)
  ∧ (∀ (m : Int) (q : Silence) (s : State), alive s .time = true → station s ≠ stBoot → s.time.silence = some q → q.stepBy = some m →
    q.lastTide ≤ tideNow s → 0 < s.time.inc →
    ∃ u : State, tideStartAt s (q.lastTide + 17) ≤ u.time.acc ∧ Completes .timeStep s fun t =>
      t.time.acc = ((u.time.acc : Int) - m * (nsUnit : Int)).toNat ∧ t.time.stepDue = none ∧ t.time.restartTide = true
        ∧ Counted 32 Obj.TIME_STEPS s t ∧ rd t Obj.PENDING_OFFSET = 0
        ∧ timeState t = (if q.setWrite then tsSet else tsAcquiring)
        ∧ rd t Obj.TIME_EPOCH_NOW = (rd s Obj.TIME_EPOCH_NOW + 1) % 2 ^ 16 ∧ ∀ o, o < 4 → rd t (Obj.CLKOUT_ALIGNED o) = 0)
  ∧ (∀ s : State, s.time.stepDue = none → s.time.silence = none → exec .timeStep s = .next s)
  ∧ (∀ (e : Rat) (s : State), alive s .time = true → errorEstimate s = some e →
    ((rd s Obj.TIME_ALARM_BOUND : Rat) < e → s.time.alarm = false → Completes .timeToleranceChange s fun t =>
      bits (rd t Obj.TIME_QUALITY) 7 0 = boundOf (some e) ∧ t.time.alarm = true ∧ Raised .timeOutOfTolerance noInst s t)
    ∧ (e ≤ (rd s Obj.TIME_ALARM_BOUND : Rat) → s.time.alarm = true → Completes .timeToleranceChange s fun t =>
      bits (rd t Obj.TIME_QUALITY) 7 0 = boundOf (some e) ∧ t.time.alarm = false ∧ Raised .timeWithinTolerance noInst s t)
    ∧ (decide ((rd s Obj.TIME_ALARM_BOUND : Rat) < e) = s.time.alarm → Completes .timeToleranceChange s fun t =>
      bits (rd t Obj.TIME_QUALITY) 7 0 = boundOf (some e) ∧ OnlyRegs [Obj.TIME_QUALITY, Obj.HOLDOVER_TIME] s t))
  ∧ ∀ s : State, alive s .time = true → 0 < s.time.inc →
    (rdBool s Obj.PPS_ENABLE = true → rd s Obj.PPS_SQUELCH = 0 → s.time.ppsAfterStep = false → Completes .ppsSecond s fun t =>
      t.outbox = .pulse 0 0 (rd s Obj.PPS_WIDTH) :: s.outbox ∧ nextPps s ≤ t.time.acc ∧ t.time.ppsLast = t.time.acc)
    ∧ (rdBool s Obj.PPS_ENABLE = false → Completes .ppsSecond s fun t => t.outbox = s.outbox ∧ nextPps s ≤ t.time.acc)

/-- REF_LOST of the source in use without a fallback freezes every locked PLL, counts in REF_LOSSES, raises its event and leaves
no reference in use; of another source it only clears its bit of REF_PRESENT. REF_RESTORED of the selected source, lost
before, thaws every frozen PLL and uses it. PLL_LOCK shows LOCKED, its time and a stored setting, and the phase reference of
every lane it feeds is to be renewed; PLL_LOCK_LOSS counts and starts the PLL again. CLKOUT_ALIGNMENT_STEP moves the phase by at most one step and
shows ALIGNED once the edge is within bounds; an output that does not align is not changed. Formalises spec/12_timebase.md
(R362, R363, R364, R366). -/
def Obligations.ReferenceAndClocks : Prop :=
  (∀ (src : Nat) (s : State), alive s .option = true → src < 2 →
    (rd s Obj.REF_IN_USE ≠ src → Completes (.refLost src) s fun t =>
      rd t Obj.REF_PRESENT = clearBit (rd s Obj.REF_PRESENT) src ∧ OnlyRegs [Obj.REF_PRESENT] s t)
    ∧ (rd s Obj.REF_IN_USE = src → rdBool s Obj.REF_FALLBACK = false → Completes (.refLost src) s fun t =>
      rd t Obj.REF_IN_USE = 0xFF ∧ Counted 32 Obj.REF_LOSSES s t ∧ Raised .refLost noInst s t ∧ t.time.refDown = true
        ∧ refFrozen t = true
        ∧ ∀ k, k < 5 → rd t (Obj.PLL_STATE k) = if rd s (Obj.PLL_STATE k) = 2 then 3 else rd s (Obj.PLL_STATE k)))
  ∧ (∀ (src : Nat) (s : State), src < 2 → rd s Obj.REF_SELECT = src → rd s Obj.REF_IN_USE = 0xFF → s.time.refDown = true →
    Completes (.refRestored src) s fun t =>
      rd t Obj.REF_PRESENT = setBit (rd s Obj.REF_PRESENT) src ∧ rd t Obj.REF_IN_USE = src ∧ t.time.refDown = false
        ∧ refFrozen t = false ∧ Raised .refRestored noInst s t
        ∧ ∀ k, k < 5 → rd t (Obj.PLL_STATE k) = if rd s (Obj.PLL_STATE k) = 3 then 2 else rd s (Obj.PLL_STATE k))
  ∧ (∀ (k us : Nat) (s : State), alive s .clock = true → k < 5 → s.rp.waking = false →
    Completes (.pllLock k us) s fun t =>
      rd t (Obj.PLL_STATE k) = 2 ∧ rd t (Obj.PLL_LAST_LOCK_TIME k) = us % 2 ^ 32 ∧ rd t (Obj.PLL_STORED_VALID k) = 1
        ∧ (∀ d, d ∈ pllDroves k → (droveOf s d).phaseRef ≠ none → (droveOf t d).phaseRenew = true)
        ∧ OnlyRegs [Obj.PLL_STATE k, Obj.PLL_LAST_LOCK_TIME k, Obj.PLL_STORED_VALID k] { s with cove := t.cove, droves := t.droves } t)
  ∧ (∀ (k : Nat) (s : State), alive s .clock = true → k < 5 →
    Completes (.pllLockLoss k) s fun t =>
      Counted 32 (Obj.PLL_LOCK_LOSSES k) s t ∧ (rd t (Obj.PLL_STATE k) = 1 ∨ rd t (Obj.PLL_STATE k) = 4)
        ∧ OnlyRegs [Obj.PLL_LOCK_LOSSES k, Obj.PLL_STATE k] s t)
  ∧ (∀ (o : Nat) (delta : Int) (s : State), alive s .clock = true → o < 4 → rdBool s (Obj.CLKOUT_ENABLE o) = true →
    rdBool s (Obj.CLKOUT_ALIGN o) = true →
    (Completes (.clkoutAlignmentStep o delta true) s fun t =>
      rd t (Obj.CLKOUT_ALIGNED o) = 1 ∧ t.time.clkPhase = s.time.clkPhase.modify o (fun p => p + clampInt (-1) 1 delta)
        ∧ OnlyObjects [Obj.CLKOUT_ALIGNED o] s t)
    ∧ Completes (.clkoutAlignmentStep o delta false) s fun t =>
      t = { s with time := { s.time with clkPhase := s.time.clkPhase.modify o (fun p => p + clampInt (-1) 1 delta) } })
  ∧ ∀ (o : Nat) (delta : Int) (aligned : Bool) (s : State), rdBool s (Obj.CLKOUT_ALIGN o) = false →
      exec (.clkoutAlignmentStep o delta aligned) s = .next s

/-- CHANNEL_CLOCK_CHECK of a used input shows FAULT when the count is more than 200 ppm from nominal and clears DEAD when the data
moved; CHANNEL_CLOCK_MISSING sets FAULT and CHANNEL_DATA_STUCK sets DEAD, nothing else; inputs that are not used do not
change. GRID_SAMPLE runs to the next grid instant and takes it as the last one. Adding energy to an accumulator adds modulo
2^96 in units of 2^-32 LSB, sets its WRAPPED flag when the sum passes 2^64 LSB, and leaves the other accumulators alone.
METER_WINDOW_BOUNDARY at a window's grid instant publishes the sums of the elements' mean active and reactive power;
elsewhere, or a second time, it changes nothing. PULSE_EMIT of an enabled output with a backlog, at least two pulse widths
after its last pulse, sends one pulse, lowers PULSE_BACKLOG by one and counts in PULSE_COUNT; with no backlog it changes
nothing. CAL_HALF_END of the first half begins the second and changes no object; that of the second ends the calibration:
CAL_STATUS 0 with CALIBRATIONS counted, or one of the outcomes 0x10, 0x11 and 0x13 with CALIBRATIONS as it was. With no
calibration under way it changes nothing. Formalises spec/13_metering.md (R370, R374, R378, R379, R381, R383, R385, R386,
R387). -/
def Obligations.MeterChannelsWindowsPulsesAndCalibration : Prop :=
  ((∀ (c n : Nat) (moving : Bool) (s : State), alive s .analogue = true → inputUsed s c = true →
     (Completes (.channelClockCheck c n moving) s fun t =>
       let nominal := 16000 * rd s (Obj.BS_DECIMATION c)
       chanBit t c 0 = decide (nominal * 200 < ((n : Int) - (nominal : Int)).natAbs * 1000000)
         ∧ chanBit t c 1 = (!moving && chanBit s c 1) ∧ OnlyRegs [Obj.CH_STATUS c] s t)
     ∧ (Completes (.channelClockMissing c) s fun t =>
       chanBit t c 0 = true ∧ rd t (Obj.CH_STATUS c) = putBit (rd s (Obj.CH_STATUS c)) 0 true ∧ OnlyRegs [Obj.CH_STATUS c] s t)
     ∧ Completes (.channelDataStuck c) s fun t =>
       chanBit t c 1 = true ∧ rd t (Obj.CH_STATUS c) = putBit (rd s (Obj.CH_STATUS c)) 1 true ∧ OnlyRegs [Obj.CH_STATUS c] s t)
   ∧ (∀ (c n : Nat) (moving : Bool) (s : State), inputUsed s c = false →
       exec (.channelClockCheck c n moving) s = .next s ∧ exec (.channelClockMissing c) s = .next s
         ∧ exec (.channelDataStuck c) s = .next s)
   ∧ (∀ (rs : List MeterReading) (span : Nat) (s : State), alive s .processing = true → 0 < s.time.inc →
     Completes (.gridSample rs span) s fun t =>
       t.meter.lastGrid = some (nextGrid s) ∧ nextGrid s * nsUnit ≤ t.time.acc ∧ t.meter.stepped = false)
   ∧ (∀ (m a : Nat) (e : Rat) (s : State), m < 2 → a < 8 → m < s.meter.meters.length → a < (meterOf s m).rem.length →
     let sum := rd s (energyKey m a) * 2 ^ 32 + getD' (meterOf s m).rem a 0 + (roundHalfEven (e * ((2 ^ 32 : Nat) : Rat))).toNat
     let t := addEnergy m a e s
     rd t (energyKey m a) * 2 ^ 32 + getD' (meterOf t m).rem a 0 = sum % 2 ^ 96
       ∧ bit (rd t (Obj.METER_FLAGS m)) (8 + a) = (decide (2 ^ 96 ≤ sum) || bit (rd s (Obj.METER_FLAGS m)) (8 + a))
       ∧ ∀ m' a', m' < 2 → a' < 8 → (m' ≠ m ∨ a' ≠ a) → rd t (energyKey m' a') = rd s (energyKey m' a'))
   ∧ (∀ (g : Nat) (s : State), alive s .processing = true → s.meter.lastGrid = some g → g % windowNs = 0 → s.meter.lastWindow ≠ some g →
     Completes .meterWindowBoundary s fun t =>
       t.meter.lastWindow = some g
         ∧ ∀ m, m < 2 →
           rd t (Obj.METER_P m) = f32OfRat (sumRat ([3 * m, 3 * m + 1, 3 * m + 2].map (fun e => elementMean s e (·.p))))
             ∧ rd t (Obj.METER_Q m) = f32OfRat (sumRat ([3 * m, 3 * m + 1, 3 * m + 2].map (fun e => elementMean s e (·.q)))))
   ∧ ∀ (g : Nat) (s : State), s.meter.lastGrid = some g → (g % windowNs ≠ 0 ∨ s.meter.lastWindow = some g) →
       exec .meterWindowBoundary s = .next s)
  ∧ (∀ (n : Nat) (s : State), alive s .processing = true → n < 4 → rdBool s (Obj.PULSE_ENABLE n) = true → 0 < rd s (Obj.PULSE_BACKLOG n) →
      (∀ t0, (getD' s.meter.pulses n { rem := 0, last := none }).last = some t0 → t0 + 2 * rd s (Obj.PULSE_WIDTH n) * 10000 ≤ nowNs s) →
      Completes (.pulseEmit n) s fun t =>
        rd t (Obj.PULSE_BACKLOG n) = rd s (Obj.PULSE_BACKLOG n) - 1 ∧ Counted 64 (Obj.PULSE_COUNT n) s t
          ∧ t.outbox = .pulse 0 n (rd s (Obj.PULSE_WIDTH n)) :: s.outbox
          ∧ OnlyObjects [Obj.PULSE_BACKLOG n, Obj.PULSE_COUNT n] s t)
    ∧ (∀ (n : Nat) (s : State), rd s (Obj.PULSE_BACKLOG n) = 0 → exec (.pulseEmit n) s = .next s)
    ∧ (∀ s : State, s.meter.calHalf = 0 → exec .calHalfEnd s = .next s)
    ∧ (∀ s : State, alive s .processing = true → s.meter.calHalf = 1 →
      Completes .calHalfEnd s fun t => t.meter.calHalf = 2 ∧ t.meter.calMask = s.meter.calMask ∧ t = { s with meter := t.meter })
    ∧ ∀ s : State, alive s .processing = true → 2 ≤ s.meter.calHalf →
      Completes .calHalfEnd s fun t =>
        t.meter.calHalf = 0 ∧ t.meter.calMask = 0
          ∧ ((rd t Obj.CAL_STATUS = 0 ∧ rd t Obj.CAL_FAILED_CHANNEL = 0xFF ∧ Counted 32 Obj.CALIBRATIONS s t)
            ∨ (rd t Obj.CAL_STATUS ∈ [0x10, 0x11, 0x13] ∧ rd t Obj.CALIBRATIONS = rd s Obj.CALIBRATIONS
                ∧ t.cfg = s.cfg ∧ ∀ c, c < 40 → rd t (Obj.CH_OFFSET c) = rd s (Obj.CH_OFFSET c)))

/-- SAR_BACKGROUND_CONVERSION of the input whose turn it is, a selected one, stands in SAR_DATA with its input number, and the scan
goes on after that input; a taken result also shows in SAR_VALUE, and one that completes on an untaken result counts in
SAR_OVERRUNS. SAR_CAL_END with a converter whose array failed shows 0x12
and the converter's first input; with every input at ground and every offset within 512 codes it shows 0 and counts in
SAR_CALIBRATIONS; the calibration is over in both. SAR_SELF_CAL_END ends the converter's self-calibration; one that failed
shows in SAR_STATUS and raises its event. SENSOR_DECIMATOR_OUTPUT of a bad input only restarts its settling; a settled one
becomes the sample of the tide. Formalises spec/14_local_io.md (R394, R398, R399, R400, R401, R402). -/
def Obligations.SarAndSensors : Prop :=
  (∀ (k i code : Nat) (taken : Bool) (s : State), alive s .analogue = true → k < 4 → sarBackground s k = true →
    sarTurn s k = some i →
    Completes (.sarBackgroundConversion k i code taken) s fun t =>
      rd t (Obj.SAR_DATA k) = code % 65536 + i * 65536 ∧ (taken = true → rd t (Obj.SAR_VALUE k i) = code % 65536)
        ∧ (getD' s.lio.full k false = true → Counted 32 (Obj.SAR_OVERRUNS k) s t)
        ∧ (getD' s.lio.full k false = false → rd t (Obj.SAR_OVERRUNS k) = rd s (Obj.SAR_OVERRUNS k))
        ∧ t.lio = { s.lio with full := s.lio.full.set k (!taken), bgNext := s.lio.bgNext.set k ((i + 1) % 8) })
  ∧ (∀ (k i : Nat) (s : State), sarTurn s k = some i → i < 8 ∧ bit (rd s (Obj.SAR_BG_MASK k)) i = true)
  ∧ (∀ (failed : Nat) (rs : List SarReading) (s : State), s.lio.calMask = 0 → exec (.sarCalEnd failed rs) s = .next s)
  ∧ (∀ (failed k : Nat) (rs : List SarReading) (s : State), alive s .analogue = true → s.lio.calMask ≠ 0 →
    ((sarConvs s.lio.calMask).filter (fun k => bit failed k)).head? = some k →
    Completes (.sarCalEnd failed rs) s fun t =>
      rd t Obj.SAR_CAL_STATUS = 0x12 ∧ rd t Obj.SAR_CAL_FAILED = 8 * k ∧ t.lio.calMask = 0
        ∧ rd t Obj.SAR_CALIBRATIONS = rd s Obj.SAR_CALIBRATIONS ∧ t.cfg = s.cfg)
  ∧ (∀ (rs : List SarReading) (s : State), alive s .analogue = true → s.lio.calMask ≠ 0 →
    (∀ w, w < 32 → ∃ r, rs.find? (fun r => r.input = w) = some r ∧ sarGrounded r (rd s Obj.SAR_CAL_ZERO_LIMIT) = true
      ∧ (sarOffset r).natAbs ≤ 512) →
    Completes (.sarCalEnd 0 rs) s fun t =>
      rd t Obj.SAR_CAL_STATUS = 0 ∧ Counted 32 Obj.SAR_CALIBRATIONS s t ∧ t.lio.calMask = 0)
  ∧ (∀ (k : Nat) (s : State), alive s .analogue = true → k < 4 → bit s.lio.selfMask k = true →
    (Completes (.sarSelfCalEnd k true) s fun t => bit t.lio.selfMask k = false ∧ t.log = s.log)
    ∧ Completes (.sarSelfCalEnd k false) s fun t =>
      bit t.lio.selfMask k = false ∧ bit (rd t (Obj.SAR_STATUS k)) 2 = true ∧ Raised .sarSelfCalFailed k s t)
  ∧ ∀ (i outputs : Nat) (code delay : Int) (s : State), alive s .fabric = true → i < 32 → bit (rd s Obj.SENSE_ENABLE) (32 + i) = true →
    (chanBad s i = true → Completes (.sensorDecimatorOutput i code outputs delay) s fun t =>
      t = { s with lio := { s.lio with settle := s.lio.settle.set i 3 } })
    ∧ (chanBad s i = false → (getD' s.lio.settle i 3 = 0 ∨ getD' s.lio.settle i 3 < outputs) →
      Completes (.sensorDecimatorOutput i code outputs delay) s fun t =>
        sampleAt t (tideNow s) (32 + i) = some ((senseRaw s (32 + i) (clampInt (-32768) 32767 code) : Nat) : Int) ∧ t.regs = s.regs)

/-- PWM_VALLEY of an enabled pair takes the duty, forms the compare value and suppression of R408 and drives the pair exactly when
its role is permitted; a suppressed pulse of a driven pair counts; one of a disabled pair changes no pair.
DELAY_LINE_CALIBRATION shows in bit 3 of every PWM_STATUS, and the first mismatch raises its event. GPIO_EDGE to a new level
shows in GPIO_IN, and where that edge is enabled counts in GPIO_EVENTS, raises its event and in DORMANT begins a wake; an edge to the level already
there changes nothing. Formalises spec/14_local_io.md (R407, R408, R409, R410, R411, R413). -/
def Obligations.PwmAndPins : Prop :=
  (∀ (q corr : Nat) (s : State), alive s .localIo = true → q < 12 → q < s.lio.pwms.length → rdBool s (Obj.PWM_ENABLE q) = true →
    let r := pwmPeriod (rd s (Obj.PWM_PERIOD q)) (rd s (Obj.PWM_DELAY_RISE q)) (rd s (Obj.PWM_DELAY_FALL q)) (rd s (Obj.PWM_MIN_PULSE q))
      (pwmDuty s q)
    Completes (.pwmValley q corr) s fun t =>
      (pwmOf t q).duty = pwmDuty s q ∧ (pwmOf t q).compare = r.1 ∧ (pwmOf t q).driven = pwmPermitted s q
        ∧ bit (rd t (Obj.PWM_STATUS q)) 1 = pwmPermitted s q
        ∧ (pwmPermitted s q = true → r.2 = true → Counted 32 (Obj.PWM_SUPPRESSED q) s t)
        ∧ (∀ p, p ≠ q → pwmOf t p = pwmOf s p) ∧ t = { s with regs := t.regs, lio := t.lio })
  ∧ (∀ (q corr : Nat) (s : State), alive s .localIo = true → q < 12 → rdBool s (Obj.PWM_ENABLE q) = false →
    Completes (.pwmValley q corr) s fun t => OnlyRegs [Obj.PWM_RESYNCS q, Obj.CMP_FLAGS] s t)
  ∧ (∀ (matched : Bool) (s : State), alive s .localIo = true →
    Completes (.delayLineCalibration matched) s fun t =>
      (∀ q, q < 12 → bit (rd t (Obj.PWM_STATUS q)) 3 = !matched) ∧ t.lio = { s.lio with uncal := !matched }
        ∧ (matched = false → s.lio.uncal = false → Raised .pwmDelayUncalibrated noInst s t)
        ∧ (matched = true → t.log = s.log))
  ∧ (∀ (pin : Nat) (level : Bool) (s : State), alive s .localIo = true → pin < 32 → bit s.lio.gpio pin = !level →
    let on := bit (rd s (if level then Obj.GPIO_EVENT_RISE else Obj.GPIO_EVENT_FALL)) pin
    Completes (.gpioEdge pin level) s fun t =>
      bit (rd t Obj.GPIO_IN) pin = level ∧ bit t.lio.gpio pin = level
        ∧ (on = true → Counted 32 Obj.GPIO_EVENTS s t ∧ Raised .gpioEdge pin s t
            ∧ (rd s Obj.POWER_STATE = 3 → t.rp.waking = true))
        ∧ (on = false → OnlyRegs [Obj.GPIO_IN] { s with lio := t.lio } t))
  ∧ ∀ (pin : Nat) (level : Bool) (s : State), bit s.lio.gpio pin = level → exec (.gpioEdge pin level) s = .next s

/-- XCVR_POLL and PMBUS_POLL queue a transaction for every enabled drove and every addressed regulator while another runs, and do
nothing on a stuck bus or at interval 0. MBUS_TRANSACTION_END: a data NACK, PEC error or lost bit with retries left counts in
MBUS_ERRORS and runs the transaction again; a stretch timeout ends it and sets RECOVERING; a host transaction that is done
shows its data in MBUS_RESULT. MBUS_RECOVERY that frees a stuck bus clears MBUS_STUCK and raises "management bus recovered";
one that does not sets MBUS_STUCK, counts and raises "management bus stuck"; RECOVERING clears in both. Formalises
spec/14_local_io.md (R414, R416, R417, R418, R419). -/
def Obligations.ManagementBus : Prop :=
  (∀ (j : BusJob) (s : State), alive s .localIo = true → busStuck s = false → s.lio.job = some j →
    (rd s Obj.XCVR_POLL ≠ 0 → Completes .xcvrPoll s fun t =>
      (∀ d, d ∈ drovesOn s → BusJob.transceiver d ∈ t.lio.jobs) ∧ t.lio.job = some j ∧ t = { s with lio := t.lio })
    ∧ (rd s Obj.PMBUS_POLL ≠ 0 → Completes .pmbusPoll s fun t =>
      (∀ r, r < 8 → rd s (Obj.PMBUS_ADDRESS r) ≠ 0xFF → BusJob.regulator r ∈ t.lio.jobs) ∧ t.lio.job = some j
        ∧ t = { s with lio := t.lio }))
  ∧ (∀ s : State, (busStuck s = true ∨ rd s Obj.XCVR_POLL = 0 → exec .xcvrPoll s = .next s)
      ∧ (busStuck s = true ∨ rd s Obj.PMBUS_POLL = 0 → exec .pmbusPoll s = .next s))
  ∧ (∀ (outcome : Nat) (data : List Byte) (s : State), s.lio.job = none → exec (.mbusTransactionEnd outcome data) s = .next s)
  ∧ (∀ (j : BusJob) (outcome : Nat) (data : List Byte) (s : State), alive s .localIo = true → s.lio.job = some j →
    outcome = 3 ∨ outcome = 5 ∨ outcome = 6 → 0 < s.lio.retries →
    Completes (.mbusTransactionEnd outcome data) s fun t =>
      Counted 32 Obj.MBUS_ERRORS s t ∧ t.lio = { s.lio with retries := s.lio.retries - 1 }
        ∧ OnlyObjects [Obj.MBUS_ERRORS] s t ∧ t = { s with regs := t.regs, lio := t.lio, outbox := t.outbox }
        ∧ t.outbox = (runJob j s).outbox)
  ∧ (∀ (data : List Byte) (s : State), alive s .localIo = true →
    (∀ j, s.lio.job = some j → Completes (.mbusTransactionEnd 4 data) s fun t =>
      Counted 32 Obj.MBUS_ERRORS s t ∧ t.lio.job = none ∧ bit (rd t Obj.MBUS_STATUS) mbRecovering = true
        ∧ bit (rd t Obj.MBUS_STATUS) mbBusy = false)
    ∧ (∀ bs, s.lio.job = some .host → s.lio.request = some bs → s.lio.jobs = [] → Completes (.mbusTransactionEnd 0 data) s fun t =>
      rdBlob t Obj.MBUS_RESULT = busResult 0 (data.take (leNat (slice bs 6 2))) ∧ t.lio.request = none ∧ t.lio.job = none))
  ∧ ∀ s : State, alive s .localIo = true →
    (station s ≠ stHeld → busStuck s = true → Completes (.mbusRecovery true) s fun t =>
      busStuck t = false ∧ bit (rd t Obj.MBUS_STATUS) mbRecovering = false ∧ Raised .mbusRecovered noInst s t)
    ∧ Completes (.mbusRecovery false) s fun t =>
      busStuck t = true ∧ bit (rd t Obj.MBUS_STATUS) mbRecovering = false ∧ Counted 32 Obj.MBUS_STUCK_COUNT s t
        ∧ Raised .mbusStuck noInst s t

/-- Whatever the state: after PORN low no domain is out of reset; after SRSTN low the first three domains are as before and the
other seven are in reset; after a lookout watchdog expiry the first five are as before and the other five are in reset. The
unit resets of a pair and of an engine leave the reset controller as it was. Formalises R458. -/
def Obligations.ResetReachesAreNested : Prop :=
  (∀ s : State, Completes .pornLow s fun t => ∀ d : Domain, alive t d = false)
  ∧ (∀ s : State, Completes .srstnLow s fun t => ∀ d : Domain, alive t d = (alive s d && decide (d.place < 3)))
  ∧ (∀ s : State, alive s .lookout = true → rd s Obj.DEBUG_HALTED % 4 = 0 →
      Completes .lookoutWatchdogExpiry s fun t => ∀ d : Domain, alive t d = (alive s d && decide (d.place < 5)))
  ∧ ∀ (u : Nat) (s : State), (Completes (.lockstepMismatch u) s fun t => t.rp = s.rp)
      ∧ Completes (.loopEngineFault u) s fun t => t.rp = s.rp

/-- PORN_LOW and SUPPLY_MONITOR_TRIP of one of the seven rails hold a FULL reset, SRSTN_LOW a SYSTEM reset, CRITICAL_STATE_PARITY
the reach of its domain and LOOKOUT_WATCHDOG_EXPIRY a CORE reset: the source is active and will show in RESET_CAUSE. From a
canonical state the objects the cove and the store keep read as before, and every object that the reach does not keep reads
its Default, but for SAR_CAL_STATUS, TIME_QUALITY and the leaves' PROT_FLAGS. A watchdog paused by a halt resets nothing.
RESET_SOURCE_RELEASED ends its source and changes nothing else. Formalises spec/16_reset_and_power.md (R459, R461, R465);
spec/17_supervision.md (R502). -/
def Obligations.ResetSourcesAndWhatTheyKeep : Prop :=
  (∀ (c : Instr) (src reach : Nat) (s : State), s.Canonical →
    ((c = .pornLow ∧ src = rcPorn ∧ reach = 3) ∨ (∃ r, r < 7 ∧ c = .supplyMonitorTrip r ∧ src = rcSupply ∧ reach = 3)
      ∨ (c = .srstnLow ∧ src = rcSrstn ∧ reach = 2) ∨ (∃ d, d ≤ 1 ∧ c = .criticalStateParity d ∧ src = rcParityFull ∧ reach = 3)
      ∨ (c = .criticalStateParity 3 ∧ src = rcParityTime ∧ reach = 2)
      ∨ (∃ d, 5 ≤ d ∧ d ≤ 9 ∧ c = .criticalStateParity d ∧ src = rcParityCore ∧ reach = 1)
      ∨ (alive s .lookout = true ∧ rd s Obj.DEBUG_HALTED % 4 = 0 ∧ c = .lookoutWatchdogExpiry ∧ src = rcWatchdog ∧ reach = 1)) →
    Completes c s fun t =>
      t.rp.sources = setBit s.rp.sources src ∧ t.rp.seen = setBit s.rp.seen src ∧ t.rp.widest = max s.rp.widest reach
        ∧ t.rp.released = min s.rp.released (reachFirst reach) ∧ (src, reachFirst reach) ∈ t.rp.reach
        ∧ (∀ key, key ∈ alwaysKept → rd t key = rd s key)
        ∧ (∀ key, keptBy reach key = false → key ≠ Obj.SAR_CAL_STATUS → key ≠ Obj.TIME_QUALITY →
            ¬(0x4000 ≤ keyIndex key ∧ key % 256 = Obj.PROT_FLAGS 0 % 256) → rd t key = objDefault key)
        ∧ t.cfg.committed = none ∧ t.queues = [] ∧ t.outbox = s.outbox ∧ t.pending = s.pending)
  ∧ (∀ s : State, rd s Obj.DEBUG_HALTED % 4 ≠ 0 → exec .lookoutWatchdogExpiry s = .next s)
  ∧ (∀ (r : Nat) (s : State), 7 ≤ r → exec (.supplyMonitorTrip r) s = .next s)
  ∧ ∀ (src : Nat) (s : State), Completes (.resetSourceReleased src) s fun t =>
      (∀ p, p ∈ t.rp.reach → p.1 ≠ src ∧ p ∈ s.rp.reach) ∧ t.rp.sources = clearBit s.rp.sources src
        ∧ t = { s with rp := { s.rp with reach := t.rp.reach, sources := t.rp.sources } }

/-- DOMAIN_RELEASE does nothing while a source reaches the next domain, while the one before it is not ready, or when all ten run;
while REF is missing it notes that and releases nothing; otherwise it releases exactly the next domain. The release of TIME
loads station time from a cove that runs. The release of PROCESSING counts in RESET_COUNT, shows the widest reach in
RESET_REACH_LAST and raises "device reset". OPTION_LOAD_DONE fills the option view, or after failed reads shows OPTION_FAULT
and the smallest view. STORE_INIT_DONE marks the shared store ready. Formalises spec/16_reset_and_power.md (R462, R463, R464,
R466, R468, R469); spec/12_timebase.md (R360). -/
def Obligations.DomainsAreReleasedInOrder : Prop :=
  (∀ s : State, (10 ≤ s.rp.released ∨ nextFree s = false ∨ lastReady s = false) → exec .domainRelease s = .next s)
  ∧ (∀ s : State, s.rp.released < 10 → nextFree s = true → lastReady s = true →
    (rd s Obj.REF_PRESENT = 0 → Completes .domainRelease s fun t => t = { s with rp := { s.rp with refMissing := true } })
    ∧ (rd s Obj.REF_PRESENT ≠ 0 → Completes .domainRelease s fun t =>
      t.rp.released = s.rp.released + 1
        ∧ (s.rp.released = 3 → t.time.acc = if s.cove.alive then s.cove.time else 0)
        ∧ (s.rp.released = 9 → Counted 32 Obj.RESET_COUNT s t ∧ rd t Obj.RESET_REACH_LAST = s.rp.widest
            ∧ Raised .deviceReset noInst s t ∧ t.rp.seen = 0 ∧ t.rp.widest = 0)))
  ∧ (∀ (v : OptionView) (s : State), alive s .option = true →
    Completes (.optionLoadDone v) s fun t =>
      (v.good = true → rd t Obj.OPTION_STATUS = 1 ∧ rd t Obj.OPTION_CODE = v.code % 3 ∧ rd t Obj.OPTION_UNITS = v.units % 8
          ∧ rd t Obj.OPTION_DROVES = codeDroves (v.code % 3))
        ∧ (v.good = false → rd t Obj.OPTION_STATUS = 2 ∧ rd t Obj.OPTION_CODE = 2 ∧ rd t Obj.OPTION_UNITS = 4
            ∧ rd t Obj.OPTION_DROVES = 64)
        ∧ OnlyRegs [Obj.OPTION_LOAD_TIME, Obj.OPTION_CORRECTED, Obj.OPTION_STATUS, Obj.OPTION_CODE, Obj.OPTION_UNITS,
            Obj.OPTION_DROVES] s t)
  ∧ ∀ s : State, alive s .fabric = true →
      Completes .storeInitDone s fun t => t = { s with rp := { s.rp with storeReady := true } }

/-- UNIT_DOZE sets the bit of a unit that may doze now (it is idle, and its wake ends before its next work) and clears the bit of
any unit; outside NAP and DORMANT POWER_STATE is then DOZE exactly when every unit dozes. For a unit that may not doze, and for a
number without a unit, it changes nothing. A WAKE_EVENT of a cause that wakes: in NAP the change back to the full rate begins,
unless it has begun; in DORMANT a wake begins; elsewhere an entry into a sleep state ends; no object changes. SCHEDULED_WAKE in
NAP or DORMANT lets station time run to the wake time and WAKE_GUARD ahead of the event the state ends for, and the wake begins
there; outside them it changes nothing.
WAKE_ATTEMPT_TIMEOUT counts an attempt and lets 10 ms pass to the next, and at the third sets POWER_FAULT with its cause, counts in
WAKE_FAILURES and starts the fallback service. PG_CORE_REPORT in a wake with REF present starts every PLL. HOST_PORT_LINK_CHANGE outside DORMANT only shows in
PORT_LINK. Formalises spec/16_reset_and_power.md (R470, R475, R476); spec/02_drove_links.md (R69);
spec/10_object_dictionary.md (R314). -/
def Obligations.PowerStatesAndWaking : Prop :=
  (∀ (u : Nat) (doze : Bool) (s : State), alive s .processing = true → u < 27 → (doze = true → mayDoze s u = true) →
    Completes (.unitDoze u doze) s fun t =>
      bit (rd t Obj.UNIT_DOZE) u = doze
        ∧ (rd s Obj.POWER_STATE < 2 → (rd t Obj.POWER_STATE = 1 ↔ rd t Obj.UNIT_DOZE = allUnits) ∧ rd t Obj.POWER_STATE < 2)
        ∧ (2 ≤ rd s Obj.POWER_STATE → rd t Obj.POWER_STATE = rd s Obj.POWER_STATE)
        ∧ OnlyRegs [Obj.UNIT_DOZE, Obj.POWER_STATE] s t)
  ∧ (∀ (u : Nat) (s : State), 27 ≤ u ∨ mayDoze s u = false → exec (.unitDoze u true) s = .next s)
  ∧ (∀ (why : Nat) (s : State), why < 5 →
    (rd s Obj.POWER_STATE = 2 → s.rp.entering.1 ≠ 1 →
      let t : State := { s with rp := { s.rp with wakeStart := s.time.acc, wakeTries := 0, entering := (1, 9) } }
      exec (.wakeEvent why) s = .next t)
    ∧ (rd s Obj.POWER_STATE = 2 → s.rp.entering.1 = 1 → exec (.wakeEvent why) s = .next s)
    ∧ (rd s Obj.POWER_STATE = 3 → s.rp.waking = false →
      let t : State := { s with rp := { s.rp with waking := true, wakeStart := s.time.acc, coreRet := false, refOscEn := true } }
      exec (.wakeEvent why) s = .next t)
    ∧ (rd s Obj.POWER_STATE < 2 →
      let t : State := { s with rp := { s.rp with entering := (0, 0) } }
      exec (.wakeEvent why) s = .next t))
  ∧ (∀ s : State, rd s Obj.POWER_STATE < 2 → exec .scheduledWake s = .next s)
  ∧ (∀ (i why : Nat) (s : State), wakeInstant s = some i → 0 < s.time.inc → why < 5 →
    Completes .scheduledWake s fun t =>
      exec (.wakeEvent why) (runTo i s) = .next t ∧ i ≤ t.time.acc
        ∧ (rd s Obj.POWER_STATE = 2 → t.rp.entering.1 = 1) ∧ (rd s Obj.POWER_STATE = 3 → t.rp.waking = true))
  ∧ (∀ (why : Nat) (s : State), 5 ≤ why → exec (.wakeEvent why) s = .next s)
  ∧ (∀ (pg ref : Bool) (s : State), s.rp.waking = true → (pg || ref) = true →
    (s.rp.wakeTries < 2 → Completes (.wakeAttemptTimeout pg ref) s fun t =>
      t = runTo (s.time.acc + 10000000 * nsUnit) { s with rp := { s.rp with wakeTries := s.rp.wakeTries + 1, pgCore := false } })
    ∧ (2 ≤ s.rp.wakeTries → Completes (.wakeAttemptTimeout pg ref) s fun t =>
      rd t Obj.POWER_FAULT = 1 ∧ rd t Obj.POWER_FAULT_CAUSE = b2n pg + 2 * b2n ref ∧ Counted 32 Obj.WAKE_FAILURES s t
        ∧ t.rp.fallback = true ∧ t.rp.waking = false
        ∧ OnlyRegs [Obj.POWER_FAULT, Obj.POWER_FAULT_CAUSE, Obj.WAKE_FAILURES] { s with rp := t.rp } t))
  ∧ (∀ s : State, s.rp.waking = true → rd s Obj.REF_PRESENT ≠ 0 → (∀ k, k < 5 → rd s (Obj.PLL_STATE k) = 0) →
    Completes .pgCoreReport s fun t =>
      t.rp.pgCore = true ∧ (∀ k, k < 5 → rd t (Obj.PLL_STATE k) = 1 ∨ rd t (Obj.PLL_STATE k) = 4)
        ∧ OnlyRegs [Obj.PLL_STATE 0, Obj.PLL_STATE 1, Obj.PLL_STATE 2, Obj.PLL_STATE 3, Obj.PLL_STATE 4] { s with rp := t.rp } t)
  ∧ ∀ (port : Nat) (up : Bool) (s : State), alive s .lookout = true → port < 3 → rd s Obj.POWER_STATE ≠ 3 →
    Completes (.hostPortLinkChange port up) s fun t =>
      rd t (Obj.PORT_LINK port) = b2n up ∧ OnlyRegs [Obj.PORT_LINK port] s t

/-- AUX_POWER_WARNING shows COVE_ENDURANCE and hands station time to a running cove. COVE_STORES_EXHAUSTED stops the cove and
loses its contents: the tail, the unacknowledged alarms, the energy copy, RESET_CAUSE and RESET_COUNT. COVE_COLD_START starts
it again with COLD_STARTED set, COVE_COLD_STARTS counted, COVE_LOST in RESET_CAUSE, an empty log and a LOG_ID from the random
source. COVE_SECOND_RESYNC runs to the whole second and gives a running cove its time. JUNCTION_TEMPERATURE_CHANGE of a die to
145 °C or more with no alarm raises the high event, and the fall of all below 140 °C the normal one. Formalises
spec/16_reset_and_power.md (R479, R480, R481); spec/17_supervision.md (R490); spec/18_electrical_and_package.md (R520). -/
def Obligations.CoveAndJunction : Prop :=
  (∀ s : State, Completes .auxPowerWarning s fun t =>
    rd t Obj.COVE_ENDURANCE = coveEndurance s ∧ (s.cove.alive = true → alive s .time = true → t.cove.time = s.time.acc))
  ∧ (∀ s : State, Completes .coveStoresExhausted s fun t =>
    t.cove.alive = false ∧ t.log.tail = [] ∧ t.log.alarms = [] ∧ t.meter.copy = none ∧ rd t Obj.RESET_CAUSE = 0
      ∧ rd t Obj.RESET_COUNT = 0 ∧ rd t Obj.LOG_NEXT_SEQ = 0 ∧ t.cfg = s.cfg ∧ t.mem = s.mem)
  ∧ (∀ s : State, Completes .coveColdStart s fun t =>
    t.cove.alive = true ∧ bit (rd t Obj.COVE_STATUS) 6 = true ∧ Counted 32 Obj.COVE_COLD_STARTS s t ∧ rd t Obj.RESET_CAUSE = 2 ^ 12
      ∧ t.log.ring = [] ∧ t.log.tail = [] ∧ rd t Obj.LOG_ID = leNat (leBytes 4 (Config.random s.draws)) ∧ t.draws = s.draws + 1)
  ∧ (∀ s : State, alive s .time = true → s.cove.alive = true → 0 < s.time.inc →
    Completes .coveSecondResync s fun t => t.cove.time = t.time.acc ∧ s.time.acc ≤ t.time.acc ∧
      (s.time.acc + secUnit - 1) / secUnit * secUnit ≤ t.time.acc)
  ∧ ∀ (die : Nat) (x : Int) (s : State), die < s.rp.dieTemp.length →
    (14500 ≤ x → x ≤ 15500 → s.rp.tempAlarm = 0 → (∀ y, y ∈ s.rp.dieTemp → y ≤ 15500) →
      Completes (.junctionTemperatureChange die x) s fun t =>
        Raised .junctionTemperatureHigh die s t ∧ t.rp.tempAlarm = 1 ∧ t.rp.dieTemp = s.rp.dieTemp.set die x ∧ OnlyLogged [] { s with rp := t.rp } t)
    ∧ (15500 < x → s.rp.tempAlarm = 1 → Completes (.junctionTemperatureChange die x) s fun t =>
        Raised .junctionTemperatureVeryHigh die s t ∧ t.rp.tempAlarm = 2)
    ∧ (0 < s.rp.tempAlarm → x < 14000 → (∀ y, y ∈ s.rp.dieTemp → y < 14000) → Completes (.junctionTemperatureChange die x) s fun t =>
        Raised .junctionTemperatureNormal die s t ∧ t.rp.tempAlarm = 0)

/-- SESSION_OPEN of an allowed combination takes the first free session, which becomes half-open with the host's nonce and a fresh
device nonce, answered without a tag; with no free session it is answered with the resource abort, and a combination R289 does
not allow with the access abort. SESSION_AUTH with the right proof opens the session under Ks and answers with the device's
proof under Ks; while the engineer key is unset, zero bytes on HSVC open the installation session; a wrong proof discards the
session, counts in AUTH_FAILURES and is answered with the authentication abort. KEEPALIVE is answered with status 0 and
changes no object but counts and the session's place on the network. SESSION_CLOSE is answered with status 0 and frees the session, which ends its
transfer. HALF_OPEN_TIMEOUT discards a half-open session, SESSION_TIMEOUT_EXPIRY ends an open one, and SESSION_EVICT by an
engineer ends the session it names and no other. Formalises spec/10_object_dictionary.md (R285, R289, R290, R291, R293, R294,
R306). -/
def Obligations.SessionsOpenAuthenticateAndEnd : Prop :=
  (∀ (net : NetAddr) (f : ObjFrame) (k : Nat) (s : State), Arrived net s → frameForm f 0 = true → f.payload.length = 20 →
    addressBlocked s net.addr = false → s.rp.fallback = false →
    openAllowed (leNat (slice f.payload 0 1)) (leNat (slice f.payload 1 1)) net.port = true → freeSlot s = some k → k < s.sessions.length →
    Completes (.sessionOpen net f) s fun t =>
      rd t (Obj.SESSION_STATE k) = 1 ∧ rd t (Obj.SESSION_MASTER k) = leNat (slice f.payload 0 1)
        ∧ rd t (Obj.SESSION_ROLE k) = leNat (slice f.payload 1 1) ∧ rd t (Obj.SESSION_PORT k) = net.port
        ∧ (sess t k).nh = slice f.payload 4 16 ∧ (sess t k).nd = leBytes 16 (Config.random s.draws) ∧ (sess t k).ks = []
        ∧ (∀ j, j ≠ k → sess t j = sess s j)
        ∧ Replied [] net f 0 0 (leBytes 16 (Config.random s.draws)) t)
  ∧ (∀ (net : NetAddr) (f : ObjFrame) (s : State), Arrived net s → frameForm f 0 = true → f.payload.length = 20 →
    addressBlocked s net.addr = false →
    openAllowed (leNat (slice f.payload 0 1)) (leNat (slice f.payload 1 1)) net.port = false →
    Completes (.sessionOpen net f) s fun t => t.sessions = s.sessions ∧ Replied [] net f 0 abAccess [] t)
  ∧ (∀ (net : NetAddr) (f : ObjFrame) (s : State), Arrived net s → frameForm f 0 = true → f.payload.length = 20 →
    addressBlocked s net.addr = false → s.rp.fallback = false →
    openAllowed (leNat (slice f.payload 0 1)) (leNat (slice f.payload 1 1)) net.port = true → freeSlot s = none →
    Completes (.sessionOpen net f) s fun t => t.sessions = s.sessions ∧ Replied [] net f 0 abResource [] t)
  ∧ (∀ (net : NetAddr) (f : ObjFrame) (k : Nat) (s : State), Arrived net s → frameForm f 0 = true → f.payload.length = 32 →
    findSession s f.session [1] = some k → k < s.sessions.length → (installing s = false ∨ f.payload ≠ List.replicate 32 0) →
    roleKey s (sessRole s k) ≠ [] → f.payload = openProof (roleKey s (sessRole s k)) (sess s k) (sessMaster s k) (sessRole s k) →
    olderSessions s k (sessMaster s k) (sessRole s k) = [] →
    let ks := hmac (roleKey s (sessRole s k)) (asciiBytes "SESS" ++ (sess s k).nh ++ (sess s k).nd ++ leBytes 4 (sess s k).ident)
    Completes (.sessionAuth net f) s fun t =>
      rd t (Obj.SESSION_STATE k) = 2 ∧ (sess t k).ks = ks
        ∧ Replied [] net f 0 0
            (hmac (roleKey s (sessRole s k)) (asciiBytes "DEVC" ++ (sess s k).nd ++ (sess s k).nh ++ leBytes 4 (sess s k).ident)) t)
  ∧ (∀ (net : NetAddr) (f : ObjFrame) (k : Nat) (s : State), Arrived net s → frameForm f 0 = true →
    f.payload = List.replicate 32 0 → net.port = 2 → findSession s f.session [1] = some k → k < s.sessions.length →
    installing s = true → sessMaster s k = 3 → sessRole s k = 2 → olderSessions s k 3 2 = [] →
    Completes (.sessionAuth net f) s fun t =>
      rd t (Obj.SESSION_STATE k) = 3 ∧ (sess t k).ks = [] ∧ Replied [] net f 0 0 (List.replicate 32 0) t)
  ∧ (∀ (net : NetAddr) (f : ObjFrame) (k : Nat) (s : State), Arrived net s → frameForm f 0 = true → f.payload.length = 32 →
    findSession s f.session [1] = some k → (installing s = false ∨ f.payload ≠ List.replicate 32 0) →
    f.payload ≠ openProof (roleKey s (sessRole s k)) (sess s k) (sessMaster s k) (sessRole s k) →
    Completes (.sessionAuth net f) s fun t =>
      rd t (Obj.SESSION_STATE k) = 0 ∧ Counted 32 Obj.AUTH_FAILURES s t ∧ Replied [] net f 0 abAuth [] t)
  ∧ (∀ (net : NetAddr) (f : ObjFrame) (k : Nat) (s : State), Heard k net f s → InTurn k f s → f.service = 0x04 →
    Completes (.keepalive net f) s fun t =>
      Replied (sess s k).ks net f 0 0 [] t ∧ (sess t k).execd = f.seq
        ∧ t = { s with regs := t.regs, sessions := t.sessions, pmc := t.pmc, outbox := t.outbox }
        ∧ ∀ j, j ∉ frameKeys k net → rd t j = rd s j)
  ∧ (∀ (net : NetAddr) (f : ObjFrame) (k : Nat) (s : State), Heard k net f s → InTurn k f s → f.service = 0x03 →
    Completes (.sessionClose net f) s fun t =>
      rd t (Obj.SESSION_STATE k) = 0 ∧ (sess t k).transfer = none ∧ (sess t k).ks = []
        ∧ ∃ pcp g, .datagram (outward t net) pcp g ∈ t.outbox ∧ g.service = 0x03 ∧ g.seq = f.seq ∧ g.status = 0)
  ∧ (∀ (k : Nat) (s : State), alive s .lookout = true → k < 16 → rd s (Obj.SESSION_STATE k) = 1 →
    Completes (.halfOpenTimeout k) s fun t =>
      rd t (Obj.SESSION_STATE k) = 0 ∧ (sess t k).ident = 0 ∧ (∀ j, j ≠ k → sess t j = sess s j)
        ∧ t = { s with regs := t.regs, sessions := t.sessions })
  ∧ (∀ (k : Nat) (s : State), alive s .lookout = true → sessOpen s k = true →
    Completes (.sessionTimeoutExpiry k) s fun t => rd t (Obj.SESSION_STATE k) = 0 ∧ (sess t k).ks = [] ∧ (sess t k).transfer = none)
  ∧ ∀ (k v : Nat) (s : State), MayWriteN k Obj.SESSION_EVICT v s → v < 16 →
    (rd s (Obj.SESSION_STATE v) = 1 ∨ rd s (Obj.SESSION_STATE v) = 2) →
    Completes (.sessionEvict k v) s fun t =>
      Answered k 0 s t ∧ rd t (Obj.SESSION_STATE v) = 0 ∧ (sess t v).transfer = none
        ∧ ∀ j, j < 16 → j ≠ v → rd t (Obj.SESSION_STATE j) = rd s (Obj.SESSION_STATE j)

/-- For each of the eleven commands that carry a frame naming its session, arriving well-formed at a port that runs with an
identifier that no session has: when the identifier is that of a session that has just ended and the tag is right under that
session's key, the answer is abort 0x0600_0002 with no tag; otherwise nothing is sent. Either way no session changes and no
object but the counts of frames. A SESSION_AUTH that names no half-open session is dropped too. Formalises R297. -/
def Obligations.RequestsForUnknownSessions : Prop :=
  ∀ (net : NetAddr) (f : ObjFrame) (c : Instr) (code : Nat) (s : State), (c, code) ∈ requestRows net f → f.service = code →
    hostUp s net.port = true → addressed s net = true → findSession s f.session [2, 3] = none →
    (frameForm f 0 = true ∨ frameForm f 32 = true) →
    (∀ ks, endedKey s f.session = some ks → f.tag = frameTag ks f → reachable s net.port net.addr = true →
      Completes c s fun t =>
        (∃ pcp g, t.outbox = .datagram (outward s net) pcp g :: s.outbox ∧ g.service = code ∧ g.seq = f.seq ∧ g.status = 0x06000002 ∧ g.tag = [])
          ∧ OnlyObjects [Obj.FRAMES_IN net.port, Obj.FRAMES_OUT net.port, Obj.ABORTS_SENT] s t
          ∧ t = { s with regs := t.regs, outbox := t.outbox })
    ∧ ((∀ ks, endedKey s f.session = some ks → f.tag ≠ frameTag ks f) →
      Completes c s fun t => OnlyRegs [Obj.FRAMES_IN net.port] s t)
    ∧ (f.payload.length = 32 → frameForm f 0 = true → findSession s f.session [1] = none →
      Completes (.sessionAuth net f) s fun t => OnlyRegs [Obj.FRAMES_IN net.port] s t)

/-- A next request in its session's turn is answered to the sender under the session's key. READ: the value of the object, or the
abort of R295 with no object changed but counts and the session's place. WRITE: status 0 with the object's own rule applied, or
the abort of the first check that fails with no object changed but counts and the session's place. BLOCK_READ_START: the length and the transfer's number, with the value
kept; BLOCK_READ_SEGMENT: up to 1,024 bytes from the offset; BLOCK_WRITE_START: a new transfer; BLOCK_WRITE_SEGMENT: the bytes
joined at the next offset; BLOCK_WRITE_END with the right length and CRC-32C: the value written, with the transfer ended once
it is accepted, and a wrong check refused. TRANSFER_TIMEOUT_EXPIRY ends the transfer. HELD_REQUEST_EXPIRY
runs station time until the oldest held request has waited 100 ms, drops those that have waited that long and counts each in
SEQ_REJECTS. FRAME_DROPPED counts the frame in and dropped, and so does each of the eleven requests
that name their session when its frame is for another UDP port or of another VLAN (that it counts there is the model's choice, log entry
70). An ARP request for the port's own address and a short ICMP echo of a reachable host are answered and counted. Formalises spec/10_object_dictionary.md (R282, R283, R285, R286, R287,
R288, R295, R296, R314). -/
def Obligations.ReadsWritesAndTransfers : Prop :=
  (∀ (net : NetAddr) (f : ObjFrame) (k : Nat) (r : ObjRow) (s : State), Heard k net f s → InTurn k f s → f.service = 0x10 →
    readCheck s f.index f.sub = .inl r →
    let x := readObject k (objKey f.index f.sub) r (taken k net f s)
    x.2.length ≤ 1024 →
    Completes (.read net f) s fun t =>
      Replied (sess s k).ks net f 0 0 x.2 t ∧ ∀ j, j ≠ Obj.FRAMES_OUT net.port → rd t j = rd x.1 j)
  ∧ (∀ (net : NetAddr) (f : ObjFrame) (k code : Nat) (s : State), Heard k net f s → InTurn k f s → f.service = 0x10 →
    readCheck s f.index f.sub = .inr code →
    Completes (.read net f) s fun t =>
      Replied (sess s k).ks net f 0 code [] t ∧ Counted 32 Obj.ABORTS_SENT s t
        ∧ (∀ j, j ∉ frameKeys k net → rd t j = rd s j)
        ∧ t = { s with regs := t.regs, sessions := t.sessions, pmc := t.pmc, outbox := t.outbox })
  ∧ (∀ (net : NetAddr) (f : ObjFrame) (k : Nat) (s : State), Heard k net f s → InTurn k f s → f.service = 0x11 →
    let w := writeObject k f.seq f.index f.sub f.payload (taken k net f s)
    w.2 = 0 → reachable w.1 net.port net.addr = true → w.1.rp.resetDue = 0 → (sess w.1 k).held = [] → (∀ j, j < 16 → rd w.1 (Obj.SESSION_STATE j) ≠ 3) →
    Completes (.write net f) s fun t =>
      Replied (sess s k).ks net f 0 0 [] t ∧ (∀ j, j ≠ Obj.FRAMES_OUT net.port → rd t j = rd w.1 j)
        ∧ t = { w.1 with regs := t.regs, sessions := t.sessions, outbox := t.outbox })
  ∧ (∀ (net : NetAddr) (f : ObjFrame) (k : Nat) (s : State), Heard k net f s → InTurn k f s → f.service = 0x11 →
    (tokenGoverns (taken k net f s) k (objKey f.index f.sub) = false ∨ tokenAccepts (taken k net f s) k = true) →
    let code := (writeChecks (taken k net f s) k f.index f.sub f.payload).2
    code ≠ 0 →
    Completes (.write net f) s fun t =>
      Replied (sess s k).ks net f 0 code [] t ∧ Counted 32 Obj.ABORTS_SENT s t
        ∧ (∀ j, j ∉ frameKeys k net → rd t j = rd s j)
        ∧ t = { s with regs := t.regs, sessions := t.sessions, pmc := t.pmc, outbox := t.outbox })
  ∧ (∀ (net : NetAddr) (f : ObjFrame) (k : Nat) (r : ObjRow) (s : State), Heard k net f s → InTurn k f s → f.service = 0x12 →
    s.rp.fallback = false → readCheck s f.index f.sub = .inl r → transfersOpen s k < 8 →
    let x := readObject k (objKey f.index f.sub) r (taken k net f s)
    x.2.length ≤ 2 ^ 24 →
    Completes (.blockReadStart net f) s fun t =>
      Replied (sess s k).ks net f x.2.length 0 (leBytes 4 s.transfers) t
        ∧ (sess t k).transfer =
            some { ident := s.transfers, write := false, index := f.index, sub := f.sub, total := x.2.length, data := x.2 })
  ∧ (∀ (net : NetAddr) (f : ObjFrame) (k : Nat) (x : Transfer) (s : State), Heard k net f s → InTurn k f s → f.service = 0x13 →
    s.rp.fallback = false → f.payload.length = 4 → namedTransfer s k false f.payload = some x →
    Completes (.blockReadSegment net f) s fun t =>
      Replied (sess s k).ks net f 0 0 (slice x.data f.arg 1024) t ∧ (sess t k).transfer = some x
        ∧ ∀ j, j ∉ frameKeys k net → rd t j = rd s j)
  ∧ (∀ (net : NetAddr) (f : ObjFrame) (k : Nat) (r : ObjRow) (s : State), Heard k net f s → InTurn k f s → f.service = 0x14 →
    s.rp.fallback = false → presentRow (optionCode s) f.index f.sub = some r → r.acc ≠ .ro →
    roleMay s k (objKey f.index f.sub) r = true → f.arg ≤ 2 ^ 20 → transfersOpen s k < 8 →
    Completes (.blockWriteStart net f) s fun t =>
      Replied (sess s k).ks net f 0 0 (leBytes 4 s.transfers) t
        ∧ (sess t k).transfer =
            some { ident := s.transfers, write := true, index := f.index, sub := f.sub, total := f.arg, data := [] }
        ∧ ∀ j, j ∉ frameKeys k net → rd t j = rd s j)
  ∧ (∀ (net : NetAddr) (f : ObjFrame) (k : Nat) (x : Transfer) (s : State), Heard k net f s → InTurn k f s → f.service = 0x15 →
    s.rp.fallback = false → 4 ≤ f.payload.length → namedTransfer s k true f.payload = some x → f.arg = x.data.length →
    x.data.length + (f.payload.length - 4) ≤ x.total →
    Completes (.blockWriteSegment net f) s fun t =>
      Replied (sess s k).ks net f 0 0 [] t ∧ (sess t k).transfer = some { x with data := x.data ++ f.payload.drop 4 }
        ∧ ∀ j, j ∉ frameKeys k net → rd t j = rd s j)
  ∧ (∀ (net : NetAddr) (f : ObjFrame) (k : Nat) (x : Transfer) (s : State), Heard k net f s → InTurn k f s → f.service = 0x16 →
    s.rp.fallback = false → f.payload.length = 8 → namedTransfer s k true f.payload = some x → x.data.length = x.total →
    crc32c x.data = leNat (slice f.payload 4 4) →
    let w := writeObject k f.seq x.index x.sub x.data (taken k net f s)
    w.2 = 0 → reachable w.1 net.port net.addr = true → w.1.rp.resetDue = 0 → (sess w.1 k).held = [] → (∀ j, j < 16 → rd w.1 (Obj.SESSION_STATE j) ≠ 3) →
    Completes (.blockWriteEnd net f) s fun t =>
      Replied (sess s k).ks net f 0 0 [] t ∧ (sess t k).transfer = none
        ∧ ∀ j, j ≠ Obj.FRAMES_OUT net.port → rd t j = rd w.1 j)
  ∧ (∀ (net : NetAddr) (f : ObjFrame) (k : Nat) (x : Transfer) (s : State), Heard k net f s → InTurn k f s → f.service = 0x16 →
    s.rp.fallback = false → f.payload.length = 8 → namedTransfer s k true f.payload = some x →
    (x.data.length ≠ x.total ∨ crc32c x.data ≠ leNat (slice f.payload 4 4)) →
    Completes (.blockWriteEnd net f) s fun t =>
      Replied (sess s k).ks net f 0 abTransferCheck [] t ∧ ∀ j, j ∉ frameKeys k net → rd t j = rd s j)
  ∧ (∀ (k : Nat) (s : State), alive s .lookout = true →
    Completes (.transferTimeoutExpiry k) s fun t =>
      (sess t k).transfer = none ∧ (∀ j, j ≠ k → sess t j = sess s j) ∧ t = { s with sessions := t.sessions })
  ∧ (∀ (k : Nat) (h : HeldRequest) (rest : List HeldRequest) (s : State), alive s .lookout = true → (sess s k).held = h :: rest →
    let u := runTo (h.since + heldLimit) s
    let late := (h :: rest).filter (fun g => decide (g.since + heldLimit ≤ u.time.acc))
    Completes (.heldRequestExpiry k) s fun t =>
      (sess t k).held = (h :: rest).filter (fun g => decide (u.time.acc < g.since + heldLimit))
        ∧ rd t Obj.SEQ_REJECTS = satAdd (2 ^ 32 - 1) (rd u Obj.SEQ_REJECTS) late.length
        ∧ OnlyObjects [Obj.SEQ_REJECTS] u t ∧ (∀ j, j ≠ k → sess t j = sess s j)
        ∧ t = { u with regs := t.regs, sessions := t.sessions })
  ∧ (∀ (port : Nat) (s : State), hostUp s port = true →
    Completes (.frameDropped port) s fun t =>
      Counted 64 (Obj.FRAMES_IN port) s t ∧ Counted 32 (Obj.FRAMES_DROPPED port) s t
        ∧ OnlyRegs [Obj.FRAMES_IN port, Obj.FRAMES_DROPPED port] s t)
  ∧ (∀ (net : NetAddr) (f : ObjFrame) (c : Instr) (code : Nat) (s : State), (c, code) ∈ requestRows net f → hostUp s net.port = true →
    addressed s net = false → Completes c s fun t =>
      Counted 32 (Obj.FRAMES_DROPPED net.port) s t ∧ OnlyRegs [Obj.FRAMES_IN net.port, Obj.FRAMES_DROPPED net.port] s t)
  ∧ (∀ (port : Nat) (data : List Byte) (s : State), hostUp s port = true →
    Completes (.arpIcmpRequest port 0 (rd s (Obj.IP_ADDRESS port)) data) s fun t =>
      t.outbox = .netReply port 0 (vlanTag s port) (leBytes 6 (rd s (Obj.MAC_ADDRESS port))) :: s.outbox
        ∧ Counted 64 (Obj.FRAMES_IN port) s t ∧ Counted 64 (Obj.FRAMES_OUT port) s t
        ∧ OnlyObjects [Obj.FRAMES_IN port, Obj.FRAMES_OUT port] s t ∧ t = { s with regs := t.regs, outbox := t.outbox })
  ∧ ∀ (port target : Nat) (data : List Byte) (s : State), hostUp s port = true → data.length ≤ 64 →
    reachable s port target = true →
    Completes (.arpIcmpRequest port 1 target data) s fun t =>
      t.outbox = .netReply port 1 (vlanTag s port) data :: s.outbox
        ∧ Counted 64 (Obj.FRAMES_IN port) s t ∧ Counted 64 (Obj.FRAMES_OUT port) s t
        ∧ OnlyObjects [Obj.FRAMES_IN port, Obj.FRAMES_OUT port] s t ∧ t = { s with regs := t.regs, outbox := t.outbox }

/-- NOTIFY puts the notification in every open session whose mask enables its type and that holds fewer than 64, and leaves the
sessions whose mask does not alone; a session that holds 64 counts it in NOTIFY_DROPPED. NOTIFY_ACK removes every sent
notification up to its number. NOTIFY_RETRY_EXPIRY sends each unacknowledged one again. TOKEN_REQUEST of master A or B for its
own code takes a free token and counts the transfer, changes nothing when it holds the token, and is refused with the token
abort when the other master holds it. TOKEN_FORCED by an engineer takes it from the other master with its event. TOKEN_RELEASE
by the holder frees it. TOKEN_TIMEOUT_EXPIRY frees a held token, or passes it to the other master when TOKEN_AUTO_TAKE is set
and that master has an open session; a free one stays free. Formalises spec/10_object_dictionary.md (R298, R299, R305, R306,
R315). -/
def Obligations.NotificationsAndTheToken : Prop :=
  (∀ (kind k : Nat) (body : List Byte) (s : State), alive s .lookout = true → k < 16 → k < s.sessions.length → sessOpen s k = true →
    bit (rd s (Obj.NOTIFY_MASK k)) (kind - 1) = true → (sess s k).notes.length < 64 →
    Completes (.notify kind body) s fun t =>
      (∃ n, n ∈ (sess t k).notes ∧ n.kind = kind ∧ n.body = body ∧ n.stime = stimeNow s)
        ∧ (sess t k).notes.length = (sess s k).notes.length + 1)
  ∧ (∀ (kind k : Nat) (body : List Byte) (s : State), alive s .lookout = true →
    (sessOpen s k = false ∨ bit (rd s (Obj.NOTIFY_MASK k)) (kind - 1) = false) →
    Completes (.notify kind body) s fun t => sess t k = sess s k)
  ∧ (∀ (kind k : Nat) (body : List Byte) (s : State), alive s .lookout = true → k < 16 → k < s.sessions.length → sessOpen s k = true →
    bit (rd s (Obj.NOTIFY_MASK k)) (kind - 1) = true → 64 ≤ (sess s k).notes.length →
    Completes (.notify kind body) s fun t => Counted 32 (Obj.NOTIFY_DROPPED k) s t ∧ (sess t k).overflow = true)
  ∧ (∀ (net : NetAddr) (f : ObjFrame) (k : Nat) (s : State), Heard k net f s → f.service = 0x21 → f.arg < (sess s k).outSeq →
    Completes (.notifyAck net f) s fun t =>
      (∀ n, n ∈ (sess t k).notes → n.seq = 0 ∨ f.arg < n.seq)
        ∧ ∀ n, n ∈ (sess s k).notes → f.arg < n.seq → n ∈ (sess t k).notes)
  ∧ (∀ (k : Nat) (s : State), alive s .lookout = true → sessOpen s k = true →
    reachable s (sessNet s k).port (sessNet s k).addr = true →
    Completes (.notifyRetryExpiry k) s fun t =>
      t.outbox.length = s.outbox.length + ((sess s k).notes.filter (fun n => n.seq ≠ 0)).length
        ∧ t = { s with regs := t.regs, outbox := t.outbox })
  ∧ (∀ (k m : Nat) (s : State), MayWriteN k Obj.TOKEN_REQUEST m s → sessMaster s k = m → (m = 1 ∨ m = 2) →
    (rd s Obj.TOKEN_HOLDER = 0 →
      Completes (.tokenRequest k m) s fun t =>
        Told k [Obj.TOKEN_HOLDER, Obj.TOKEN_TRANSFERS] s s t ∧ rd t Obj.TOKEN_HOLDER = m ∧ Counted 32 Obj.TOKEN_TRANSFERS s t)
    ∧ (rd s Obj.TOKEN_HOLDER = m → Completes (.tokenRequest k m) s fun t => Done k [] s s t)
    ∧ (rd s Obj.TOKEN_HOLDER = 3 - m → Completes (.tokenRequest k m) s fun t => Answered k abToken s t ∧ rd t Obj.TOKEN_HOLDER = 3 - m))
  ∧ (∀ (k m : Nat) (s : State), MayWriteN k Obj.TOKEN_REQUEST (m + 0x80) s → sessMaster s k = m → (m = 1 ∨ m = 2) → sessRole s k = 2 →
    rd s Obj.TOKEN_HOLDER ≠ m →
    Completes (.tokenForced k (m + 0x80)) s fun t =>
      Told k [Obj.TOKEN_HOLDER, Obj.TOKEN_TRANSFERS, Obj.LOG_DROPPED] { s with log := t.log } s t ∧ rd t Obj.TOKEN_HOLDER = m
        ∧ Counted 32 Obj.TOKEN_TRANSFERS s t ∧ Raised .commandTokenForced noInst s t)
  ∧ (∀ (k v : Nat) (s : State), MayWriteN k Obj.TOKEN_RELEASE v s → (sessMaster s k = 1 ∨ sessMaster s k = 2) →
    rd s Obj.TOKEN_HOLDER = sessMaster s k →
    Completes (.tokenRelease k v) s fun t =>
      Told k [Obj.TOKEN_HOLDER, Obj.TOKEN_TRANSFERS] s s t ∧ rd t Obj.TOKEN_HOLDER = 0 ∧ Counted 32 Obj.TOKEN_TRANSFERS s t)
  ∧ (∀ s : State, alive s .lookout = true → rd s Obj.TOKEN_HOLDER ≠ 0 →
    Completes .tokenTimeoutExpiry s fun t =>
      rd t Obj.TOKEN_HOLDER =
          (if rdBool s Obj.TOKEN_AUTO_TAKE && masterOpen s (3 - rd s Obj.TOKEN_HOLDER) then 3 - rd s Obj.TOKEN_HOLDER else 0)
        ∧ Counted 32 Obj.TOKEN_TRANSFERS s t ∧ Raised .commandTokenLost noInst s t)
  ∧ ∀ s : State, rd s Obj.TOKEN_HOLDER = 0 → exec .tokenTimeoutExpiry s = .next s

/-- An IMAGE_OUT fragment of master A or B for the present or the next cycle joins the image of its cycle; while bytes are missing
it is answered with no payload, and no object changes but counts and the session's place. A complete image of a master that may be applied, with one entry, GPIO_OUT, sets GPIO_OUT and is
counted; a complete image of a master that does not hold the token is not applied, and GPIO_OUT keeps its value. An image of
another cycle is counted in IMAGE_LATE and answered. IMAGE_CYCLE_START numbers the next cycle, and sends and counts the input image of
every master with a map and an open session that is not on HSVC, whoever holds the token. An SV frame that fits its stream and is
new counts in SV_FRAMES and sets the last smpCnt, and every smpCnt in it then counts as arrived; one that does not fit counts in SV_DISCARDED; on HSVC, or of another VLAN, it is
dropped and counted. SV_STREAM_LOSS_TIMEOUT
of a stream in service shows no frames, or receiving while frames come without global synchronisation. Formalises
spec/10_object_dictionary.md (R285, R300, R301, R302, R303, R305, R307, R310, R311). -/
def Obligations.ImagesAndStreams : Prop :=
  (∀ (net : NetAddr) (f : ObjFrame) (k m : Nat) (s : State), Heard k net f s → f.service = 0x30 → net.port ≠ 2 → s.rp.fallback = false →
    sessMaster s k = m → (m = 1 ∨ m = 2) → s.images.length = 3 → aheadOf 32 f.arg (sess s k).imageArg = true → 24 ≤ f.payload.length →
    (f.payload.drop 24).length = leNat (slice f.payload 18 2) → (f.payload.drop 24).length ≤ 1000 →
    let cycle := leNat (slice f.payload 0 8)
    let joined := setMaster m (fun x => { x with asm := addFragment cycle (leNat (slice f.payload 16 2)) (f.payload.drop 24) x.asm }) s
    (cycle = rd s Obj.IMAGE_CYCLE_NOW ∨ cycle = rd s Obj.IMAGE_CYCLE_NOW + 1) → (masterImages s m).complete.contains cycle = false →
    (imageOf joined m cycle = none →
      Completes (.imageOut net f) s fun t =>
        t.images = joined.images ∧ Replied (sess s k).ks net f 0 0 [] t ∧ ∀ j, j ∉ frameKeys k net → rd t j = rd s j)
    ∧ (∀ v, imageOf joined m cycle = some [(Obj.GPIO_OUT, v)] → v.length = 4 → rd s (Obj.SESSION_STATE k) = 2 → imageApplies s m cycle = true → (∀ j, j < 4 → (masterImages s j).remembered = [] ∧ (masterImages s j).shadow = []) →
        Completes (.imageOut net f) s fun t =>
          rd t Obj.GPIO_OUT = leNat v ∧ Counted 64 Obj.IMAGES_OUT_APPLIED s t ∧ (masterImages t m).applied.contains cycle = true
            ∧ (masterImages t m).complete.contains cycle = true)
    ∧ (∀ v, imageOf joined m cycle = some [(Obj.GPIO_OUT, v)] → imageApplies s m cycle = false →
        Completes (.imageOut net f) s fun t =>
          rd t Obj.GPIO_OUT = rd s Obj.GPIO_OUT ∧ rd t Obj.IMAGES_OUT_APPLIED = rd s Obj.IMAGES_OUT_APPLIED
            ∧ (masterImages t m).applied = (masterImages s m).applied ∧ (masterImages t m).complete.contains cycle = true))
  ∧ (∀ (net : NetAddr) (f : ObjFrame) (k : Nat) (s : State), Heard k net f s → f.service = 0x30 → net.port ≠ 2 → s.rp.fallback = false →
    (sessMaster s k = 1 ∨ sessMaster s k = 2) → aheadOf 32 f.arg (sess s k).imageArg = true → 24 ≤ f.payload.length →
    (f.payload.drop 24).length = leNat (slice f.payload 18 2) → (f.payload.drop 24).length ≤ 1000 →
    leNat (slice f.payload 0 8) ≠ rd s Obj.IMAGE_CYCLE_NOW → leNat (slice f.payload 0 8) ≠ rd s Obj.IMAGE_CYCLE_NOW + 1 →
    Completes (.imageOut net f) s fun t => Counted 32 Obj.IMAGE_LATE s t ∧ t.images = s.images
      ∧ Replied (sess s k).ks net f 0 0 [] t)
  ∧ (∀ s : State, alive s .lookout = true → 0 < s.time.inc → 0 < rd s Obj.IMAGE_CYCLE →
    rd s Obj.IMAGES_IN_SENT ≤ 2 ^ 64 - 1 →
    let cyc := rd s Obj.IMAGE_CYCLE * 10000 * nsUnit
    let phase := rd s Obj.IMAGE_PHASE * nsUnit
    let k := (s.time.acc - phase) / cyc + 1
    let sends (m : Nat) : Bool := match masterSession s m with | some j => decide ((sessNet s j).port ≠ 2) | none => false
    Completes .imageCycleStart s fun t =>
      rd t Obj.IMAGE_CYCLE_NOW = k ∧ k * cyc + phase ≤ t.time.acc
        ∧ rd t Obj.IMAGES_IN_SENT = satAdd (2 ^ 64 - 1) (satAdd (2 ^ 64 - 1) (rd s Obj.IMAGES_IN_SENT)
            (if sends 1 = true ∧ rdBlob s (Obj.IMAGE_MAP 1) ≠ [] then 1 else 0))
            (if sends 2 = true ∧ rdBlob s (Obj.IMAGE_MAP 3) ≠ [] then 1 else 0))
  ∧ (∀ (port i : Nat) (m : SvFrame) (s : State), hostUp s port = true → port ≠ 2 → vlanFits s port m.vlan = true → streamsFor s m = [i] →
    frameFits s i m = true →
    (∃ a, a ∈ m.asdus ∧ oldSample s i a = false) → (m.asdus.map (fun a => a.smpCnt)).Nodup → rd s (Obj.SV_RATE i) ≤ 15360 →
    (∀ c, c < 2 → streamFeeds s i c = false) →
    Completes (.svFrame port m) s fun t =>
      Counted 64 (Obj.SV_FRAMES i) s t ∧ Counted 64 (Obj.FRAMES_IN port) s t
        ∧ (∀ a, (m.asdus.filter (fun a => !oldSample s i a)).getLast? = some a → rd t (Obj.SV_LAST_SMPCNT i) = a.smpCnt)
        ∧ t = { s with regs := t.regs, svSeen := t.svSeen }
        ∧ (∀ a, a ∈ m.asdus → oldSample t i a = true)
        ∧ OnlyObjects [Obj.FRAMES_IN port, Obj.SV_FRAMES i, Obj.SV_LAST_SMPCNT i, Obj.SV_SMPSYNCH i, Obj.SV_STATE i] s t)
  ∧ (∀ (port i : Nat) (m : SvFrame) (s : State), hostUp s port = true → port ≠ 2 → vlanFits s port m.vlan = true → streamsFor s m = [i] →
    frameFits s i m = false →
    Completes (.svFrame port m) s fun t =>
      Counted 32 (Obj.SV_DISCARDED i) s t ∧ OnlyRegs [Obj.FRAMES_IN port, Obj.SV_DISCARDED i] s t)
  ∧ (∀ (port : Nat) (m : SvFrame) (s : State), hostUp s port = true → (port = 2 ∨ vlanFits s port m.vlan = false) →
    Completes (.svFrame port m) s fun t =>
      Counted 32 (Obj.FRAMES_DROPPED port) s t ∧ OnlyRegs [Obj.FRAMES_IN port, Obj.FRAMES_DROPPED port] s t)
  ∧ ∀ (st : Nat) (s : State), alive s .lookout = true → st < 8 → rdBool s (Obj.SV_ENABLE st) = true →
    Completes (.svStreamLossTimeout st) s fun t =>
      rd t (Obj.SV_STATE st) = (if rd s (Obj.SV_STATE st) = svValid ∧ rd s (Obj.SV_SMPSYNCH st) ≠ 2 then svReceiving else svNone)
        ∧ OnlyRegs [Obj.SV_STATE st] s t

/-- With the checks of R295 passed, each completes, is answered with status 0 and changes nothing else: ROLE_KEY takes the value
carried, undone with Ks and the request's number, and its bit of KEYS_SET; QUEUE_POST with the queue's next number, a queue
that is OPEN or HALTED and room appends the message and counts it; QUEUE_SELECT is held for the session; QUEUE_RELEASE of the
head removes it; QUEUE_CLEAR_RETURNED removes the returned messages; SUB_ENABLE 0 disables, 1 within the output rate enables;
SUB_RELEASE frees a record and those before it; a miss counter is cleared; RT_MEASURE starts the measurement of a drove that
can be measured and remembers it for one that cannot yet; REJOIN_REQUEST of a drove present is remembered and clears bit 0 of
TURN_PLAN. Formalises spec/01_architecture_and_tide.md (R22); spec/02_drove_links.md (R63); spec/03_flock_store.md (R87, R88,
R99, R100); spec/09_recovery_and_ordering.md (R260, R267); spec/10_object_dictionary.md (R294). -/
def Obligations.QueueStoreAndDroveWrites : Prop :=
  (∀ (k which : Nat) (value : List Byte) (s : State), which < 4 → MayWrite k (Obj.ROLE_KEY which) value s →
    Completes (.roleKeyWrite k which value) s fun t =>
      Done k [Obj.KEYS_SET] { s with blobs := t.blobs } s t ∧ (∀ j, j ≠ Obj.ROLE_KEY which → rdBlob t j = rdBlob s j)
        ∧ rdBlob t (Obj.ROLE_KEY which) = (if (sess s k).ks = [] then value
            else List.zipWith (· ^^^ ·) value (hmac (sess s k).ks (asciiBytes "KEYS" ++ leBytes 4 ((sess s k).execd + 1))))
        ∧ rd t Obj.KEYS_SET = setBit (rd s Obj.KEYS_SET) which)
  ∧ (∀ (k : Nat) (value : List Byte) (s : State), MayWrite k Obj.QUEUE_POST value s →
    let id := leNat (slice value 0 4)
    let body := value.drop 8
    id ≤ 262143 → leafBound (queueClass id) = true → queueLeaf id < leafCount s →
    (if queueClass id = 0 ∨ queueClass id = 2 then 2 else 1) ≤ sessRole s k →
    (queueClass id = 1 → 4 ≤ body.length ∧ 0x40 ≤ leNat (body.take 1)) →
    ((queueOf s id).qstate = 1 ∨ (queueOf s id).qstate = 2) → leNat (slice value 4 2) = (queueOf s id).nextSeq →
    postFits s id body.length = true →
    Completes (.queuePost k value) s fun t =>
      Done k (Obj.POSTS :: poolKeys) { s with queues := t.queues } s t ∧ Posted id body s t ∧ Counted 64 Obj.POSTS s t)
  ∧ (∀ (k v : Nat) (s : State), MayWriteN k Obj.QUEUE_SELECT v s → v ≤ 262143 →
    Completes (.queueSelect k v) s fun t => Done k [] s s t ∧ (sess t k).queueSelect = v)
  ∧ (∀ (k : Nat) (value : List Byte) (m : Msg) (s : State), MayWrite k Obj.QUEUE_RELEASE value s →
    let id := leNat (slice value 0 4)
    id ≤ 262143 → queueLeaf id < leafCount s → (queueOf s id).head (queueClass id) = some m → leNat (slice value 4 2) = m.seq →
    Completes (.queueRelease k value) s fun t =>
      Done k poolKeys { s with queues := t.queues, hists := t.hists } s t
        ∧ queueOf t id = { queueOf s id with msgs := (queueOf s id).msgs.filter (fun x => !(x.seq = m.seq && x.back = m.back)) }
        ∧ ∀ j, j ≠ id → queueOf t j = queueOf s j)
  ∧ (∀ (k id : Nat) (s : State), MayWriteN k Obj.QUEUE_CLEAR_RETURNED id s → id ≤ 262143 → leafBound (queueClass id) = true →
    queueLeaf id < leafCount s → (queueOf s id).qstate = 3 →
    Completes (.queueClearReturned k id) s fun t =>
      Done k poolKeys { s with queues := t.queues } s t
        ∧ (queueOf t id).msgs = (queueOf s id).msgs.filter (fun m => !m.back)
        ∧ (queueOf t id).qstate = (if (queueOf t id).msgs = [] then restState s (queueLeaf id) (queueClass id) else 1)
        ∧ ∀ j, j ≠ id → queueOf t j = queueOf s j)
  ∧ (∀ (k n : Nat) (s : State), n < 16 → MayWriteN k (Obj.SUB_ENABLE n) 0 s →
    Completes (.subEnable k n 0) s fun t =>
      Done k [Obj.SUB_ENABLE n] { s with subs := t.subs } s t ∧ rd t (Obj.SUB_ENABLE n) = 0
        ∧ (n < s.subs.length → (subOf t n).window = none ∧ (subOf t n).ring = (subOf s n).ring))
  ∧ (∀ (k n : Nat) (s : State), n < 16 → MayWriteN k (Obj.SUB_ENABLE n) 1 s →
    sumRat (((List.range 16).filter (fun j => decide (j = n) || rdBool s (Obj.SUB_ENABLE j))).map (subRate s)) ≤ 500000000 →
    Completes (.subEnable k n 1) s fun t => Done k [Obj.SUB_ENABLE n] s s t ∧ rd t (Obj.SUB_ENABLE n) = 1)
  ∧ (∀ (k n c : Nat) (s : State), n < 16 → MayWriteN k (Obj.SUB_RELEASE n) c s → c < 65536 →
    (subOf s n).ring.any (fun p => p.1 = c) = true →
    Completes (.subRelease k n c) s fun t =>
      Done k [] { s with subs := t.subs } s t
        ∧ (subOf t n).ring = ((subOf s n).ring.dropWhile (fun p => p.1 ≠ c)).drop 1 ∧ ∀ j, j ≠ n → subOf t j = subOf s j)
  ∧ (∀ (k which v : Nat) (s : State), which < 3 → MayWriteN k (Obj.REFERENCE_MISSES + which) v s →
    Completes (.missCounterClear k which v) s fun t =>
      Done k [Obj.REFERENCE_MISSES + which] s s t ∧ rd t (Obj.REFERENCE_MISSES + which) = 0)
  ∧ (∀ (k d v : Nat) (s : State), d < 128 → MayWriteN k (Obj.RT_MEASURE d) v s →
    (measurable s d = true →
      Completes (.rtMeasure k d v) s fun t =>
        Done k [Obj.RT_MEASURE d] { s with droves := t.droves } s t ∧ rd t (Obj.RT_MEASURE d) = 1 ∧ (droveOf t d).measure = some 0)
    ∧ (measurable s d = false →
      Completes (.rtMeasure k d v) s fun t => Done k [] { s with droves := t.droves } s t ∧ (droveOf t d).measWant = true))
  ∧ ∀ (k d : Nat) (s : State), MayWriteN k Obj.REJOIN_REQUEST d s → d < 128 → d < droveCount s →
    Completes (.rejoinRequest k d) s fun t =>
      Done k [Obj.TURN_PLAN d] { s with droves := t.droves } s t ∧ (droveOf t d).rejoinAsk = true
        ∧ bit (rd t (Obj.TURN_PLAN d)) 0 = false

/-- With the checks of R295 passed, each completes, is answered with status 0 and changes nothing else: REBALANCE asks for the
items to return; PLAUS_CLEAR zeroes the three flag objects; TRACE_ARM in IDLE or DONE empties the trace and arms it,
TRACE_MANUAL_TRIGGER of an armed manual trace fires it at the present tide, TRACE_STOP stops it; CORE_RESTART in RUNNING,
where R195 allows it, schedules COAST with cause 4, and in HELD, READY, ENERGISED or BLOCKED restarts every pair not retired;
RAMP_DOWN_REQUEST in RUNNING, RIDE-THROUGH or COAST schedules RAMP-DOWN with cause 4 and argument 1; ISLAND_CLEAR zeroes
ISLAND_FLAGS; GRID_MODE is written to the draft, and outside HELD to the live object too; SCAN_ABORT leaves no scan running.
Formalises spec/05_control_cluster.md (R143, R149, R150, R158); spec/06_grid_interface.md (R174, R186, R195, R196);
spec/07_solar_tracking.md (R213); spec/11_configuration_and_states.md (R322, R332). -/
def Obligations.ControlGridAndSolarWrites : Prop :=
  (∀ (k v : Nat) (s : State), MayWriteN k Obj.REBALANCE v s →
    Completes (.rebalance k v) s fun t =>
      Done k [] { s with cl := t.cl } s t ∧ t.cl = { s.cl with rebalance := true })
  ∧ (∀ (k v : Nat) (s : State), MayWriteN k Obj.PLAUS_CLEAR v s →
    Completes (.plausClear k v) s fun t =>
      Done k [Obj.PLAUS_FLAGS, Obj.SENSOR_FLAGS, Obj.SUM_CHECK_FLAGS] s s t ∧ rd t Obj.PLAUS_FLAGS = 0 ∧ rd t Obj.SENSOR_FLAGS = 0
        ∧ rd t Obj.SUM_CHECK_FLAGS = 0)
  ∧ (∀ (k : Nat) (s : State), MayWriteN k Obj.TRACE_CONTROL 1 s → (rd s Obj.TRACE_STATE = trIdle ∨ rd s Obj.TRACE_STATE = trDone) →
    Completes (.traceArm k) s fun t =>
      Done k [Obj.TRACE_CONTROL, Obj.TRACE_STATE] { s with trace := TraceUnit.empty } s t ∧ rd t Obj.TRACE_CONTROL = 1
        ∧ rd t Obj.TRACE_STATE = trArming)
  ∧ (∀ (k : Nat) (s : State), MayWriteN k Obj.TRACE_CONTROL 2 s → rd s Obj.TRACE_STATE = trArmed → rd s Obj.TRACE_TRIGGER_KIND = 0 →
    Completes (.traceManualTrigger k) s fun t =>
      Done k [Obj.TRACE_CONTROL, Obj.TRACE_STATE, Obj.TRACE_TRIGGER_TIDE] s s t ∧ rd t Obj.TRACE_STATE = trFilling
        ∧ rd t Obj.TRACE_TRIGGER_TIDE = tideNow s)
  ∧ (∀ (k : Nat) (s : State), MayWriteN k Obj.TRACE_CONTROL 0 s →
    Completes (.traceStop k) s fun t =>
      Done k [Obj.TRACE_CONTROL, Obj.TRACE_STATE] s s t ∧ rd t Obj.TRACE_CONTROL = 0 ∧ rd t Obj.TRACE_STATE = trIdle)
  ∧ (∀ (k v : Nat) (s : State), MayWriteN k Obj.CORE_RESTART v s →
    (station s = stRunning → restartAllowed (booked k s) = true →
      Completes (.coreRestart k v) s fun t => Done k [] { s with sm := t.sm } s t ∧ Scheduled stCoast causeGrid 0 s t)
    ∧ ([stHeld, stReady, stEnergised, stBlocked].contains (station s) = true →
      Completes (.coreRestart k v) s fun t =>
        Done k ((List.range 4).map Obj.PAIR_STATE) { s with cl := t.cl } s t
          ∧ ∀ p, p < 4 → rd t (Obj.PAIR_STATE p) =
              (if rd s (Obj.PAIR_STATE p) = usRetired then usRetired else usRestarting)))
  ∧ (∀ (k v : Nat) (s : State), MayWriteN k Obj.RAMP_DOWN_REQUEST v s →
    [stRunning, stRideThrough, stCoast].contains (station s) = true →
    Completes (.rampDownRequest k v) s fun t => Done k [] { s with sm := t.sm } s t ∧ Scheduled stRampDown causeGrid 1 s t)
  ∧ (∀ (k c v : Nat) (s : State), c < 2 → MayWriteN k (Obj.ISLAND_CLEAR c) v s →
    Completes (.islandClear k c v) s fun t => Done k [Obj.ISLAND_FLAGS c] s s t ∧ rd t (Obj.ISLAND_FLAGS c) = 0)
  ∧ (∀ (k c v : Nat) (s : State), c < 2 → v < 2 → MayWriteN k (Obj.GRID_MODE c) v s →
    Completes (.gridModeWrite k c v) s fun t =>
      Done k [Obj.GRID_MODE c, Obj.DRAFT_GENERATION, Obj.LIVE_DIFFERS, Obj.VALIDATE_STATUS] { s with cfg := t.cfg } s t
        ∧ t.cfg.draft = s.cfg.draft.set (Obj.GRID_MODE c) v
        ∧ rd t (Obj.GRID_MODE c) = (if station s = stHeld then rd s (Obj.GRID_MODE c) else v))
  ∧ ∀ (k v : Nat) (s : State), MayWriteN k Obj.SCAN_ABORT v s →
    Completes (.scanAbort k v) s fun t =>
      Done k [Obj.SCANS_ABANDONED] { s with solar := t.solar } s t
        ∧ ∀ a, a < 12 → ∀ L, L ∈ solarLeaves s a → (solarOf t L).scan = none

/-- With the checks of R295 passed and class 1 of the leaf not RETURNED, each completes and is answered with status 0. SELF_TEST
of a leaf that R235 admits posts the command, sets TEST_STATUS to 0xFF and TEST_RUNNING; SC_CLEAR of a leaf whose trip was
last seen and RELEASE_BYPASS of a penned leaf post their commands; the permanent bypass and the penning without it leave the
leaf PENNED with cause 1; CLEAR_RETIREMENT in HELD clears the RETIRED bit and PENNINGS, with its event when the
leaf was retired; LEAF_READMIT of a leaf that R272 admits posts the command, shows READMIT_STATUS 0x80 and starts step 1. The
commands that post change nothing beside the queue and the objects named. Formalises spec/08_leaf_protection.md (R231, R232,
R235, R238, R239); spec/09_recovery_and_ordering.md (R260, R272, R274). -/
def Obligations.LeafCommandWrites : Prop :=
  (∀ (k L : Nat) (args : List Byte) (s : State), L < 16384 → MayWrite k (Obj.PROT_COMMAND L) ((1 : Byte) :: args) s → 2 ≤ sessRole s k →
    args.length = 2 → testCheck (booked k s) L = 0 → Room (L * 16 + 1) 6 s →
    Completes (.selfTestCommand k L args) s fun t =>
      Done k (Obj.TEST_STATUS L :: Obj.PROT_FLAGS L :: poolKeys) { s with queues := t.queues } s t
        ∧ Posted (L * 16 + 1) (serviceMsg L 0x01 args s) s t ∧ rd t (Obj.TEST_STATUS L) = 0xFF ∧ bit (rd t (Obj.PROT_FLAGS L)) 5 = true)
  ∧ (∀ (k L : Nat) (s : State), L < 16384 → MayWrite k (Obj.PROT_COMMAND L) [(2 : Byte)] s → 1 ≤ sessRole s k →
    bit (rd s (Obj.PROT_FLAGS L)) 0 = true → Room (L * 16 + 1) 4 s →
    Completes (.scClearCommand k L) s fun t =>
      Done k poolKeys { s with queues := t.queues } s t ∧ Posted (L * 16 + 1) (serviceMsg L 0x02 [] s) s t)
  ∧ (∀ (k L : Nat) (s : State), L < 16384 → MayWrite k (Obj.PROT_COMMAND L) [(3 : Byte)] s → 2 ≤ sessRole s k →
    class1Open s L = true →
    Completes (.permanentBypassCommand k L) s fun t => Answered k 0 s t ∧ rd t (Obj.PEN_CAUSE L) = 1 ∧ penned t L = true)
  ∧ (∀ (k L : Nat) (s : State), L < 16384 → MayWrite k (Obj.PROT_COMMAND L) [(4 : Byte)] s → 2 ≤ sessRole s k →
    penned s L = true → Room (L * 16 + 1) 4 s →
    Completes (.releaseBypassCommand k L) s fun t =>
      Done k poolKeys { s with queues := t.queues } s t ∧ Posted (L * 16 + 1) (serviceMsg L 0x04 [] s) s t)
  ∧ (∀ (k L : Nat) (s : State), L < 16384 → MayWrite k (Obj.PROT_COMMAND L) [(0x80 : Byte)] s → 2 ≤ sessRole s k →
    class1Open s L = true →
    Completes (.penWithoutBypassCommand k L) s fun t => Answered k 0 s t ∧ rd t (Obj.PEN_CAUSE L) = 1 ∧ penned t L = true)
  ∧ (∀ (k L : Nat) (s : State), L < 16384 → MayWrite k (Obj.PROT_COMMAND L) [(0x81 : Byte)] s → 2 ≤ sessRole s k →
    class1Open s L = true → station s = stHeld →
    Completes (.clearRetirementCommand k L) s fun t =>
      Done k [Obj.PROT_FLAGS L, Obj.PENNINGS L, Obj.LINK_STATE L, Obj.LOG_DROPPED] { s with log := t.log } s t
        ∧ retired t L = false ∧ rd t (Obj.PENNINGS L) = 0 ∧ (retired s L = true → Raised .leafRetirementCleared L s t)
        ∧ (retired s L = false → t.log = s.log))
  ∧ ∀ (k L v : Nat) (s : State), L < 16384 → MayWriteN k (Obj.LEAF_READMIT L) v s → readmitCheck (booked k s) L = 0 →
    Room (L * 16 + 1) 8 s →
    Completes (.leafReadmit k L v) s fun t =>
      Done k (Obj.READMIT_STATUS L :: Obj.LINK_STATE L :: poolKeys) { s with queues := t.queues, leaves := t.leaves } s t
        ∧ Posted (L * 16 + 1) (serviceMsg L 0x05 (leBytes 2 L ++ leBytes 2 0) s) s t ∧ rd t (Obj.READMIT_STATUS L) = 0x80
        ∧ (leafOf t L).readmit = 1 ∧ (leafOf t L).readmitSeq = (queueOf s (L * 16 + 1)).nextSeq

/-- With the checks of R295 passed, each completes and is answered with status 0. VALIDATE shows 0xFF and judges the draft as it
stands. CONFIG_COMMIT of the validated check, with no validation or commit under way and in HELD or with RW objects changed
only, starts step 1. The draft takes the committed image, or the factory image. A state request that no check of R334 refuses
shows REQUEST_STATUS 0xFF and is pending: HOLD schedules HELD, CHARGE CHARGING, RUN RUNNING, STOP RAMP-DOWN with argument 7,
BLOCK BLOCKED, SAFE_RESET BLOCKED with a valid configuration and else HELD, all with cause 1, at the tide R332 gives;
DISCHARGE only waits. Formalises spec/11_configuration_and_states.md (R322, R324, R326, R332, R333, R334, R339, R340, R343). -/
def Obligations.ConfigurationAndStateRequests : Prop :=
  (∀ (k v : Nat) (s : State), MayWriteN k Obj.VALIDATE v s →
    Completes (.validate k v) s fun t =>
      Done k [Obj.VALIDATE_STATUS] { s with cfg := t.cfg } s t ∧ rd t Obj.VALIDATE_STATUS = 0xFF
        ∧ t.cfg = { s.cfg with validating := true, judged := some (s.cfg.draft, rd s Obj.DRAFT_GENERATION) })
  ∧ (∀ (k v : Nat) (s : State), MayWriteN k Obj.CONFIG_COMMIT v s → s.cfg.validating = false → s.cfg.restoring = false →
    s.cfg.commitStep = 0 → rd s Obj.VALIDATE_STATUS = 0 → v < 2 ^ 32 → v = rd s Obj.VALIDATED_CHECK →
    (station s = stHeld ∨ (changedKeys s.cfg.draft (baseImage s)).all isRw = true) →
    Completes (.configCommit k v) s fun t =>
      Done k [Obj.COMMIT_STATUS, Obj.COMMIT_PROGRESS, Obj.MBUS_STATUS] { s with cfg := t.cfg, lio := t.lio } s t
        ∧ rd t Obj.COMMIT_STATUS = 1 ∧ rd t Obj.COMMIT_PROGRESS = 0
        ∧ t.cfg = { s.cfg with commitStep := 1, commitHeld := decide (station s = stHeld) })
  ∧ (∀ (k : Nat) (im : Image) (s : State), MayWriteN k Obj.DRAFT_DISCARD 1 s → s.cfg.committed = some im →
    Completes (.draftFromCommitted k) s fun t => Answered k 0 s t ∧ t.cfg.draft = im ∧ t.cfg.committed = some im)
  ∧ (∀ (k : Nat) (s : State), MayWriteN k Obj.DRAFT_DISCARD 2 s →
    Completes (.draftFromFactory k) s fun t => Answered k 0 s t ∧ t.cfg.draft = Image.factory ∧ t.cfg.committed = s.cfg.committed)
  ∧ (∀ (k : Nat) (s : State),
    (MayRequest k 1 s → Completes (.hold k) s fun t => Asked k 1 s t ∧ Scheduled stHeld causeRequest 4 s t)
    ∧ (MayRequest k 2 s → Completes (.charge k) s fun t => Asked k 2 s t ∧ Scheduled stCharging causeRequest 0 s t)
    ∧ (MayRequest k 3 s → Completes (.run k) s fun t => Asked k 3 s t ∧ Scheduled stRunning causeRequest 0 s t)
    ∧ (MayRequest k 4 s → Completes (.stop k) s fun t => Asked k 4 s t ∧ Scheduled stRampDown causeRequest 7 s t)
    ∧ (MayRequest k 5 s → Completes (.block k) s fun t => Asked k 5 s t ∧ Scheduled stBlocked causeRequest 0 s t)
    ∧ (MayRequest k 6 s → Completes (.discharge k) s fun t => Asked k 6 s t)
    ∧ (MayRequest k 7 s → Completes (.safeReset k) s fun t =>
        Asked k 7 s t ∧ (if s.cfg.valid then Scheduled stBlocked causeRequest 0 s t else Scheduled stHeld causeRequest 2 s t)))
  ∧ ∀ (k v : Nat) (s : State), MayWriteN k Obj.STATE_REQUEST v s → v < 256 → (v = 1 → 2 ≤ sessRole s k) →
    requestCheck (booked k s) v ≠ 0 →
    ∀ c, c ∈ [(.hold k, 1), (.charge k, 2), (.run k, 3), (.stop k, 4), (.block k, 5), (.discharge k, 6), (.safeReset k, (7 : Nat))] →
      c.2 = v → Completes c.1 s fun t =>
        Answered k abState s t ∧ rd t Obj.REQUEST_STATUS = requestCheck (booked k s) v ∧ t.sm = s.sm

/-- With the checks of R295 passed, each completes and is answered with status 0. TIME_STEP_PERMIT permits a step that is pending
in HELD, READY, ENERGISED or SAFE. TIME_SET, in UNKNOWN, SET or COVE with no master and in a state that allows a step, makes
the step due at the next tide start with the bound it carries; in BOOT it steps at once. TIME_INCREMENT and RATE_ADJUST, with
a host servo in their mode and within R354, take the value, which the next tide start uses. SNAPSHOT_TRIGGER asks for a snapshot;
ENERGY_PRESET adds the preset to those due at the next boundary; METER_FLAGS_CLEAR clears the bits named among bits 15 to 8
and 3 to 1; CAL_CHANNELS of channels in service and healthy starts the calibration with CAL_STATUS 1, and of one that is not
shows 0x12 with that channel. Nothing else changes, but for the step in BOOT. Formalises spec/12_timebase.md (R344, R353,
R354, R358, R359, R360); spec/13_metering.md (R381, R382, R386, R390). -/
def Obligations.TimeAndMeteringWrites : Prop :=
  (∀ (k v : Nat) (s : State), MayWriteN k Obj.TIME_STEP_PERMIT v s → stepPending s = true →
    (station s = stHeld ∨ station s = stReady ∨ station s = stEnergised ∨ station s = stSafe) →
    Completes (.timeStepPermit k v) s fun t => Done k [] { s with time := { s.time with permit := true } } s t)
  ∧ (∀ (k v : Nat) (s : State), MayWriteN k Obj.TIME_SET v s → v < 2 ^ 128 → timeState s ≤ 2 → s.time.active = none → stepState s = true →
    (station s ≠ stBoot →
      Completes (.timeSet k v) s fun t =>
        Done k [] { s with time := { s.time with
          setBound := stimeQuality v % 256, permit := true,
          stepDue := some (((s.time.acc : Int) - (stimeAcc v : Int)) / (nsUnit : Int), true) } } s t)
    ∧ (station s = stBoot → Completes (.timeSet k v) s fun t =>
        Answered k 0 s t ∧ Counted 32 Obj.TIME_STEPS s t ∧ timeState t = tsSet
          ∧ t.time.acc = ((s.time.acc : Int) - ((s.time.acc : Int) - (stimeAcc v : Int)) / (nsUnit : Int) * (nsUnit : Int)).toNat))
  ∧ (∀ (k v : Nat) (s : State), MayWriteN k Obj.TIME_INCREMENT v s → hostServo s = true → rd s Obj.CORRECTION_MODE = 0 →
    0x03FF7CEE ≤ v → v ≤ 0x04008312 →
    let ppb : Rat := ((v : Rat) / (nominalInc : Rat) - 1) * 1000000000
    rateAllowed s ppb = true →
    Completes (.timeIncrementWrite k v) s fun t =>
      Done k [Obj.TIME_INCREMENT] s s t ∧ rd t Obj.TIME_INCREMENT = v)
  ∧ (∀ (k v : Nat) (s : State), MayWriteN k Obj.RATE_ADJUST v s → v < 2 ^ 32 → hostServo s = true → rd s Obj.CORRECTION_MODE = 1 →
    let ppb : Rat := (toSigned 32 v : Rat) / 1000
    rateAllowed s ppb = true → absRat (ppb - ratePpb s) ≤ 10000 →
    Completes (.rateAdjustWrite k v) s fun t =>
      Done k [Obj.RATE_ADJUST] s s t ∧ rd t Obj.RATE_ADJUST = v)
  ∧ (∀ (k v : Nat) (s : State), MayWriteN k Obj.SNAPSHOT_TRIGGER v s →
    Completes (.snapshotTrigger k v) s fun t => Done k [] { s with meter := { s.meter with snap := true } } s t)
  ∧ (∀ (k m : Nat) (value : List Byte) (s : State), m < 2 → m < s.meter.meters.length → MayWrite k (Obj.ENERGY_PRESET m) value s →
    leNat (slice value 0 1) ≤ 7 →
    Completes (.energyPreset k m value) s fun t =>
      Done k [] { s with meter := t.meter } s t
        ∧ (meterOf t m).presets = (meterOf s m).presets ++ [(leNat (slice value 0 1), leNat (slice value 8 8))]
        ∧ ∀ n, n ≠ m → meterOf t n = meterOf s n)
  ∧ (∀ (k m v : Nat) (s : State), m < 2 → v < 2 ^ 32 → MayWriteN k (Obj.METER_FLAGS_CLEAR m) v s →
    Completes (.meterFlagsClear k m v) s fun t =>
      Done k [Obj.METER_FLAGS m] s s t
        ∧ ∀ i, bit (rd t (Obj.METER_FLAGS m)) i = (bit (rd s (Obj.METER_FLAGS m)) i && !(bit v i && bit 0xFF0E i)))
  ∧ ∀ (k v : Nat) (s : State), MayWriteN k Obj.CAL_CHANNELS v s → v < 2 ^ chanCount s → s.meter.calHalf = 0 →
    ((maskChans v).find? (fun c => !rdBool s (Obj.CH_ENABLE c) || chanBad s c) = none →
      Completes (.calChannels k v) s fun t =>
        Done k (Obj.CAL_STATUS :: (List.range 40).map Obj.CH_STATUS) { s with meter := t.meter } s t
          ∧ rd t Obj.CAL_STATUS = 1 ∧ t.meter.calHalf = 1 ∧ t.meter.calMask = v)
    ∧ ∀ c, (maskChans v).find? (fun c => !rdBool s (Obj.CH_ENABLE c) || chanBad s c) = some c →
      Completes (.calChannels k v) s fun t =>
        Done k [Obj.CAL_STATUS, Obj.CAL_FAILED_CHANNEL, Obj.CH_STATUS c] s s t
          ∧ rd t Obj.CAL_STATUS = 0x12 ∧ rd t Obj.CAL_FAILED_CHANNEL = c ∧ bit (rd t (Obj.CH_STATUS c)) 5 = true

/-- Each completes and is answered with status 0. A read of SAR_DATA returns the register and clears OVERRUN; SAR_CAL in the
states of R400 with none running starts the converters named; CMP_CLEAR clears the flags named of comparators with clear mode
0 whose output is inside; PWM_DUTY takes a duty where the object governs it; GPIO_OUT takes the value; a well-formed
MBUS_REQUEST with none waiting and the bus not stuck is kept, and MBUS_RESULT shows it pending. SAFETY_RESET where allowed,
and SAFETY_SESSION_RESET, not within 100 ms of the previous one, count in RESETS, note the time and clear bit 15 of BW_STATUS;
TRIP_RELEASE with no TRIP in force, outside OFF, BOOT, HELD and SAFE and with the outputs fallen, releases them; SAFETY_DEMAND
is shown and latches BLOCK and TRIP; SAFETY_SELFTEST in HELD or SAFE starts the self-test; SAFETY_CONFIRM of the present check
confirms it with its event. Formalises spec/14_local_io.md (R398, R400, R405, R410, R413, R419); spec/15_breakwater_safety.md
(R431, R436, R449, R450, R451). -/
def Obligations.LocalIoAndSafetyWrites : Prop :=
  (∀ (k c : Nat) (s : State), c < 4 → Ready k s →
    Completes (.sarDataRead k c) s fun t =>
      AnsweredWith k (leBytes 4 (rd s (Obj.SAR_DATA c))) s t ∧ bit (rd t (Obj.SAR_STATUS c)) 1 = false
        ∧ Done k [Obj.SAR_STATUS c] { s with lio := { s.lio with full := s.lio.full.set c false } } s t)
  ∧ (∀ (k v : Nat) (s : State), MayWriteN k Obj.SAR_CAL v s → v ≤ 15 → s.lio.calMask = 0 → sarCalState s = true →
    (v ≠ 0 → Completes (.sarCal k v) s fun t =>
      Done k (Obj.SAR_CAL_STATUS :: (List.range 4).map Obj.SAR_STATUS) { s with lio := { s.lio with calMask := v } } s t
        ∧ rd t Obj.SAR_CAL_STATUS = 0xFF)
    ∧ (v = 0 → Completes (.sarCal k v) s fun t => Done k [] s s t))
  ∧ (∀ (k v : Nat) (s : State), MayWriteN k Obj.CMP_CLEAR v s → v < 2 ^ 32 →
    Completes (.cmpClear k v) s fun t =>
      Done k [Obj.CMP_FLAGS] s s t
        ∧ ∀ c, bit (rd t Obj.CMP_FLAGS) c = (bit (rd s Obj.CMP_FLAGS) c
            && !(decide (c < 24) && bit v c && decide (rd s (Obj.CMP_CLEAR_MODE c) = 0) && !bit (rd s Obj.CMP_RAW) c)))
  ∧ (∀ (k q v : Nat) (s : State), q < 12 → MayWriteN k (Obj.PWM_DUTY q) v s → v < 2 ^ 32 → dutyFromObject s q = true →
    Completes (.pwmDutyWrite k q v) s fun t => Done k [Obj.PWM_DUTY q] s s t ∧ rd t (Obj.PWM_DUTY q) = v)
  ∧ (∀ (k v : Nat) (s : State), MayWriteN k Obj.GPIO_OUT v s → v < 2 ^ 32 →
    Completes (.gpioOutWrite k v) s fun t => Done k [Obj.GPIO_OUT] s s t ∧ rd t Obj.GPIO_OUT = v)
  ∧ (∀ (k : Nat) (value : List Byte) (s : State), MayWrite k Obj.MBUS_REQUEST value s →
    let sw := leNat (slice value 1 1)
    let w := leNat (slice value 4 2)
    8 ≤ value.length → value.length = 8 + w → w ≤ 256 → leNat (slice value 6 2) ≤ 256 → (sw < 16 ∨ sw = 0xFF) →
    (sw < 16 → leNat (slice value 2 1) < 8) → leNat (slice value 0 1) ≠ 0x54 →
    (∀ i, i < 16 → rd s (Obj.XCVR_SWITCH_ADDR i) ≠ leNat (slice value 0 1)) → s.lio.request = none → busStuck s = false →
    Completes (.mbusRequest k value) s fun t =>
      Done k [Obj.MBUS_STATUS] { s with lio := t.lio, blobs := t.blobs } s t ∧ t.lio.request = some value
        ∧ rdBlob t Obj.MBUS_RESULT = busResult 1 [])
  ∧ (∀ (k v : Nat) (s : State), MayWriteN k Obj.SAFETY_RESET v s → rd s Obj.HOST_RESET_ALLOWED ≠ 0 → resetTooSoon s = false →
    Completes (.safetyReset k v) s fun t =>
      Answered k 0 s t ∧ Counted 32 Obj.RESETS s t ∧ t.bw.lastReset = some s.time.acc ∧ bit (rd t Obj.BW_STATUS) 15 = false)
  ∧ (∀ (k v : Nat) (s : State), MayWriteN k Obj.SAFETY_SESSION_RESET v s → resetTooSoon s = false →
    Completes (.safetySessionReset k v) s fun t =>
      Answered k 0 s t ∧ Counted 32 Obj.RESETS s t ∧ t.bw.lastReset = some s.time.acc ∧ bit (rd t Obj.BW_STATUS) 15 = false)
  ∧ (∀ (k v : Nat) (s : State), MayWriteN k Obj.TRIP_RELEASE v s → tripInForce s = false →
    [stOff, stBoot, stHeld, stSafe].contains (station s) = false → s.bw.outputs = [false, false, false, false] →
    Completes (.tripRelease k v) s fun t => Answered k 0 s t ∧ t.bw.released = true)
  ∧ (∀ (k v : Nat) (s : State), MayWriteN k Obj.SAFETY_DEMAND v s → v ≤ 3 →
    Completes (.safetyDemand k v) s fun t =>
      Answered k 0 s t ∧ rd t Obj.SAFETY_DEMAND = v ∧ t.bw.host = (if v = 1 ∨ v = 2 then max s.bw.host v else s.bw.host))
  ∧ (∀ (k v : Nat) (s : State), MayWriteN k Obj.SAFETY_SELFTEST v s → (station s = stHeld ∨ station s = stSafe) →
    Completes (.safetySelftest k v) s fun t =>
      Answered k 0 s t ∧ rd t Obj.SELFTEST_STATUS = 0xFF ∧ t.bw.passed = false ∧ bit (rd t Obj.BW_STATUS) 18 = true)
  ∧ ∀ (k v : Nat) (s : State), MayWriteN k Obj.SAFETY_CONFIRM v s → v < 2 ^ 32 → v = rd s Obj.SAFETY_PARAM_CHECK →
    Completes (.safetyConfirm k v) s fun t =>
      Answered k 0 s t ∧ rd t Obj.CONFIRMED_CHECK = v ∧ bit (rd t Obj.BW_STATUS) 19 = false
        ∧ Raised .safetyParametersConfirmed noInst s t

/-- Each completes and is answered with status 0. CORE_RESET and SYSTEM_RESET of a session that is not a safety session, in HELD,
READY, BLOCKED or SAFE, and FULL_RESET of a safety session in HELD or SAFE, make the host source active after the response and
return every domain of their reach to reset. POWER_RETRY while POWER_FAULT shows starts a new wake with its attempts afresh;
POWER_MAX_STATE is written to the draft, and awake it ends an entry into a sleep state; NEXT_DISPATCH is kept; LOG_CURSOR
within the log moves the session's cursor; ALARM_ACK within the log acknowledges the alarms up to it. A read of
DEBUG_CHALLENGE returns a fresh random nonce, outstanding only for an engineer in HELD or SAFE; DEBUG_UNLOCK there with the
right proof of an outstanding nonce opens the port with its event and uses the nonce up; DEBUG_LOCK closes it, lets every
halted unit go and raises its event. Formalises spec/16_reset_and_power.md (R459, R460, R473, R475, R476);
spec/17_supervision.md (R492, R493, R502). -/
def Obligations.ResetPowerAndDebugRequests : Prop :=
  (∀ (k : Nat) (s : State), MayWriteN k Obj.DEVICE_RESET 1 s → sessRole s k ≠ 3 →
    [stHeld, stReady, stBlocked, stSafe].contains (station s) = true →
    Completes (.coreReset k) s fun t => Answered k 0 s t ∧ bit t.rp.sources rcHost = true ∧ t.rp.released ≤ reachFirst 1)
  ∧ (∀ (k : Nat) (s : State), MayWriteN k Obj.DEVICE_RESET 2 s → sessRole s k ≠ 3 →
    [stHeld, stReady, stBlocked, stSafe].contains (station s) = true →
    Completes (.systemReset k) s fun t => Answered k 0 s t ∧ bit t.rp.sources rcHost = true ∧ t.rp.released ≤ reachFirst 2)
  ∧ (∀ (k : Nat) (s : State), MayWriteN k Obj.DEVICE_RESET 3 s → sessRole s k = 3 → (station s = stHeld ∨ station s = stSafe) →
    Completes (.fullReset k) s fun t => Answered k 0 s t ∧ bit t.rp.sources rcHost = true ∧ t.rp.released = 0)
  ∧ (∀ (k v : Nat) (s : State), MayWriteN k Obj.POWER_RETRY v s → rd s Obj.POWER_FAULT ≠ 0 →
    Completes (.powerRetry k v) s fun t =>
      Done k [] { s with rp := t.rp } s t ∧ t.rp.waking = true ∧ t.rp.wakeTries = 0 ∧ t.rp.wakeStart = s.time.acc)
  ∧ (∀ (k v : Nat) (s : State), v ≤ 3 → MayWriteN k Obj.POWER_MAX_STATE v s →
    Completes (.powerMaxStateWrite k v) s fun t =>
      Answered k 0 s t ∧ t.cfg.draft = s.cfg.draft.set Obj.POWER_MAX_STATE v
        ∧ (rd s Obj.POWER_STATE ≤ 1 → t.rp = { s.rp with entering := (0, 0) }))
  ∧ (∀ (k v : Nat) (s : State), v < 2 ^ 128 → MayWriteN k Obj.NEXT_DISPATCH v s →
    Completes (.nextDispatchWrite k v) s fun t => Done k [Obj.NEXT_DISPATCH] s s t ∧ rd t Obj.NEXT_DISPATCH = v)
  ∧ (∀ (k v : Nat) (s : State), v < 2 ^ 64 → MayWriteN k (Obj.LOG_CURSOR k) v s → v ≤ rd s Obj.LOG_NEXT_SEQ →
    Completes (.logCursorWrite k v) s fun t => Done k [Obj.LOG_CURSOR k] s s t ∧ rd t (Obj.LOG_CURSOR k) = v)
  ∧ (∀ (k v : Nat) (s : State), v < 2 ^ 64 → MayWriteN k Obj.ALARM_ACK v s → v ≤ rd s Obj.LOG_NEXT_SEQ →
    Completes (.alarmAck k v) s fun t =>
      Done k [Obj.ALARMS_UNACKED] { s with log := { s.log with alarms := s.log.alarms.filter (fun q => decide (v < q)) } } s t
        ∧ rd t Obj.ALARMS_UNACKED = (s.log.alarms.filter (fun q => decide (v < q))).length)
  ∧ (∀ (k : Nat) (s : State), Ready k s →
    let nonce := leBytes 16 (Config.random s.draws)
    Completes (.debugChallenge k) s fun t =>
      AnsweredWith k nonce s t ∧ t.draws = s.draws + 1
        ∧ t.dbg.nonce = (if sessRole s k = 2 ∧ (station s = stHeld ∨ station s = stSafe) then nonce else s.dbg.nonce)
        ∧ Done k [] { s with draws := t.draws, dbg := t.dbg } s t)
  ∧ (∀ (k : Nat) (mac : List Byte) (s : State), MayWrite k Obj.DEBUG_UNLOCK mac s → (station s = stHeld ∨ station s = stSafe) →
    s.dbg.nonce ≠ [] → mac = unlockProof s →
    Completes (.debugUnlock k mac) s fun t =>
      Done k [Obj.DEBUG_STATE, Obj.LOG_DROPPED] { s with dbg := { s.dbg with nonce := [] }, log := t.log } s t
        ∧ rd t Obj.DEBUG_STATE = (if rd s Obj.DEBUG_HALTED = 0 then 1 else 2) ∧ Raised .debugEnabled noInst s t)
  ∧ ∀ (k v : Nat) (s : State), MayWriteN k Obj.DEBUG_LOCK v s →
    Completes (.debugLock k v) s fun t =>
      Done k [Obj.DEBUG_STATE, Obj.DEBUG_HALTED, Obj.LOG_DROPPED] { s with dbg := { s.dbg with nonce := [] }, log := t.log } s t
        ∧ rd t Obj.DEBUG_STATE = 0 ∧ rd t Obj.DEBUG_HALTED = 0 ∧ Raised .debugDisabled noInst s t

/-- For every session and every state: the value of PMC_READ is the 32 counters, four bytes each in order, followed by PMC_STATUS,
all of one and the same state, and the value of PMC_VALUE of a counter is that counter of the state. A READ by a session in
its turn answers with the value of the state in which the service runs, as long as the value fits a READ. Formalises R498. -/
def Obligations.PerformanceCounterReadsAgree : Prop :=
  (∀ (s : State) (k : Nat) (r : ObjRow), presentRow (optionCode s) (keyIndex Obj.PMC_READ) (keySub Obj.PMC_READ) = some r →
    readValue s k Obj.PMC_READ r =
      (List.range 32).flatMap (fun c => leBytes 4 (rd s (Obj.PMC_VALUE c))) ++ leBytes 4 (rd s Obj.PMC_STATUS))
  ∧ (∀ (s : State) (k c : Nat) (r : ObjRow), c < 32 →
    presentRow (optionCode s) (keyIndex (Obj.PMC_VALUE c)) (keySub (Obj.PMC_VALUE c)) = some r →
    readValue s k (Obj.PMC_VALUE c) r = leBytes 4 (rd s (Obj.PMC_VALUE c)))
  ∧ ∀ (net : NetAddr) (f : ObjFrame) (k : Nat) (r : ObjRow) (s : State), Heard k net f s → InTurn k f s → f.service = 0x10 →
    (f.index = 0x2250 ∧ f.sub = 3 ∨ 0x2260 ≤ f.index ∧ f.index < 0x2280 ∧ f.sub = 5) → readCheck s f.index f.sub = .inl r →
    Completes (.read net f) s fun t =>
      Replied (sess s k).ks net f 0 0 (readValue (taken k net f s) k (objKey f.index f.sub) r) t

/-- EVENT_EMIT puts the event into the intake with room, and else counts it in LOG_DROPPED. EVENT_COMMIT of the least entry, due,
numbers it, takes it out of the intake and puts it last in the ring; with none due it changes nothing. PMC_OVERFLOW adds; an
overflow gives the low 32 bits, or the preload plus the excess, and sets the sticky bit; of a write on that edge the written
value stands and the bit stays set; a frozen counter adds nothing. PMC_SAMPLE_CAPTURE 4 to 15 cycles after the overflow
appends the record with its skid, earlier changes nothing, later counts it skipped. HISTOGRAM_OBSERVATION adds to an enabled
histogram of its instance. The writes of settings, values and the freeze take the value and note the owner; PMC_STATUS_CLEAR
clears the bits; PMC_SAMPLE_RELEASE frees the record and those before; HIST_CLEAR zeroes the histogram and stamps the time.
Formalises spec/17_supervision.md (R487, R489, R491, R493, R495, R496, R497, R499, R500, R501). -/
def Obligations.EventsCountersAndHistograms : Prop :=
  (∀ (rank num severity inst : Nat) (args : List Byte) (s : State), alive s .lookout = true →
    (s.log.intake.length < 512 →
      Completes (.eventEmit rank num severity inst args) s fun t =>
        t = { s with log := t.log }
          ∧ t.log = { s.log with intake := t.log.intake, order := s.log.order + 1 }
          ∧ ∃ e, t.log.intake = s.log.intake ++ [e] ∧ e.code = rank * 256 + num ∧ e.rank = rank ∧ e.severity = severity ∧ e.inst = inst
            ∧ e.stime = stimeNow s ∧ e.args = args.take 24)
    ∧ (512 ≤ s.log.intake.length →
      Completes (.eventEmit rank num severity inst args) s fun t =>
        Counted 32 Obj.LOG_DROPPED s t ∧ t.log.intake = s.log.intake ∧ OnlyObjects [Obj.LOG_DROPPED] s t))
  ∧ (∀ (e : IntakeEntry) (s : State), alive s .lookout = true → commitDue s = true → firstEntry s.log.intake = some e →
    s.log.dropped = [] →
    Completes .eventCommit s fun t =>
      t.log.intake = s.log.intake.erase e ∧ rd t Obj.LOG_NEXT_SEQ = rd s Obj.LOG_NEXT_SEQ + 1
        ∧ (e.severity = 3 → Counted 32 Obj.ALARMS_UNACKED s t)
        ∧ ∃ r, t.log.ring.getLast? = some r ∧ r.seq = rd s Obj.LOG_NEXT_SEQ ∧ r.ent.code = e.code ∧ r.ent.rank = e.rank
          ∧ r.ent.inst = e.inst ∧ r.ent.args = e.args ∧ r.lost = false)
  ∧ (∀ s : State, commitDue s = false → exec .eventCommit s = .next s)
  ∧ (∀ (c add : Nat) (s : State), c < 32 → alive s .fabric = true → rd s Obj.PMC_FREEZE = 0 → rd s (Obj.PMC_VALUE c) < 2 ^ 32 →
    (rd s (Obj.PMC_VALUE c) + add < 2 ^ 32 →
      Completes (.pmcOverflow c add none false) s fun t =>
        rd t (Obj.PMC_VALUE c) = rd s (Obj.PMC_VALUE c) + add ∧ OnlyRegs [Obj.PMC_VALUE c] s t)
    ∧ (2 ^ 32 ≤ rd s (Obj.PMC_VALUE c) + add → rd s (Obj.PMC_SAMPLE c) = 0 →
      Completes (.pmcOverflow c add none false) s fun t =>
        rd t (Obj.PMC_VALUE c) = (rd s (Obj.PMC_VALUE c) + add) % 2 ^ 32 ∧ bit (rd t Obj.PMC_STATUS) c = true
          ∧ OnlyRegs [Obj.PMC_VALUE c, Obj.PMC_STATUS] s t)
    ∧ (2 ^ 32 ≤ rd s (Obj.PMC_VALUE c) + add → rd s (Obj.PMC_SAMPLE c) ≠ 0 →
      rd s (Obj.PMC_VALUE c) + add + rd s (Obj.PMC_PRELOAD c) < 2 ^ 33 →
      s.pmc.waiting.any (fun r => r.counter = c) = false →
      Completes (.pmcOverflow c add none false) s fun t =>
        rd t (Obj.PMC_VALUE c) = rd s (Obj.PMC_PRELOAD c) + (rd s (Obj.PMC_VALUE c) + add - 2 ^ 32)
          ∧ bit (rd t Obj.PMC_STATUS) c = true ∧ t.pmc.waiting = s.pmc.waiting ++ [{ counter := c, edge := s.pmc.edge }])
    ∧ ∀ (w : Nat) (clear : Bool), 2 ^ 32 ≤ rd s (Obj.PMC_VALUE c) + add →
      Completes (.pmcOverflow c add (some w) clear) s fun t =>
        rd t (Obj.PMC_VALUE c) = w % 2 ^ 32 ∧ bit (rd t Obj.PMC_STATUS) c = true)
  ∧ (∀ (c add : Nat) (s : State), rd s Obj.PMC_FREEZE ≠ 0 → exec (.pmcOverflow c add none false) s = .next s)
  ∧ (∀ (context : Nat) (r : PmcRequest) (rest : List PmcRequest) (s : State), alive s .fabric = true → s.pmc.waiting = r :: rest →
    (4 ≤ s.pmc.edge - r.edge → s.pmc.edge - r.edge ≤ 15 → s.pmc.ring.length < 512 →
      Completes (.pmcSampleCapture context) s fun t =>
        t = { s with pmc := { s.pmc with waiting := rest, ring := t.pmc.ring, seq := (s.pmc.seq + 1) % 2 ^ 32 } }
          ∧ ∃ p, t.pmc.ring = s.pmc.ring ++ [p] ∧ p.counter = r.counter ∧ p.skid = s.pmc.edge - r.edge ∧ p.seq = s.pmc.seq
            ∧ p.context = (if hasContext (rd s (Obj.PMC_EVENT r.counter)) then context % 2 ^ 32 else 0)
            ∧ p.value = rd s (Obj.PMC_VALUE r.counter) ∧ p.tide = tideNow s)
    ∧ (s.pmc.edge - r.edge < 4 → exec (.pmcSampleCapture context) s = .next s)
    ∧ (15 < s.pmc.edge - r.edge →
      Completes (.pmcSampleCapture context) s fun t =>
        t = { s with regs := t.regs, pmc := { s.pmc with waiting := rest } } ∧ OnlyObjects [Obj.PMC_SAMPLES_LOST] s t
          ∧ bits (rd t Obj.PMC_SAMPLES_LOST) 31 0 = satAdd (2 ^ 32 - 1) (bits (rd s Obj.PMC_SAMPLES_LOST) 31 0) 1))
  ∧ (∀ (h inst value : Nat) (s : State), alive s .fabric = true → h < s.hists.length → rd s (Obj.HIST_ENABLE h) ≠ 0 →
    (rd s (Obj.HIST_INSTANCE h) = 0xFFFF ∨ rd s (Obj.HIST_INSTANCE h) = inst) →
    Completes (.histogramObservation h inst value) s fun t =>
      t = { s with hists := t.hists } ∧ (hist t h).count = ((hist s h).count + 1) % 2 ^ 64
        ∧ (hist t h).sum = ((hist s h).sum + value) % 2 ^ 64
        ∧ (value < rd s (Obj.HIST_BASE h) → (hist t h).under = satAdd (2 ^ 32 - 1) (hist s h).under 1)
        ∧ ∀ j, j ≠ h → hist t j = hist s j)
  ∧ (∀ (k c sub v : Nat) (s : State), c < 32 → 1 ≤ sub → sub ≤ 7 → sub ≠ 5 → MayWriteN k (objKey (0x2260 + c) sub) v s →
    let w := leNat (namedBytes (objKey (0x2260 + c) sub) v)
    ((sub = 1 ∨ sub = 3) →
      pmcModeFits (if sub = 1 then w else rd s (Obj.PMC_EVENT c)) (if sub = 3 then w else rd s (Obj.PMC_MODE c)) = true) →
    Completes (.pmcSettingsWrite k c sub v) s fun t =>
      Done k [objKey (0x2260 + c) sub, Obj.PMC_OWNER c] s s t ∧ rd t (objKey (0x2260 + c) sub) = w ∧ rd t (Obj.PMC_OWNER c) = k)
  ∧ (∀ (k c v : Nat) (s : State), c < 32 → v < 2 ^ 32 → MayWriteN k (Obj.PMC_VALUE c) v s →
    Completes (.pmcValueWrite k c v) s fun t =>
      Done k [Obj.PMC_OWNER c] s s t ∧ rd t (Obj.PMC_VALUE c) = v ∧ rd t (Obj.PMC_OWNER c) = k)
  ∧ (∀ (k v : Nat) (s : State), v < 2 ^ 32 → MayWriteN k Obj.PMC_STATUS_CLEAR v s →
    Completes (.pmcStatusClear k v) s fun t =>
      Done k [] s s t ∧ ∀ i, bit (rd t Obj.PMC_STATUS) i = (bit (rd (booked k s) Obj.PMC_STATUS) i && !bit v i))
  ∧ (∀ (k v : Nat) (s : State), v < 2 → MayWriteN k Obj.PMC_FREEZE v s →
    Completes (.pmcFreeze k v) s fun t => Done k [Obj.PMC_FREEZE] s s t ∧ rd t Obj.PMC_FREEZE = v)
  ∧ (∀ (k q : Nat) (s : State), q < 2 ^ 32 → MayWriteN k Obj.PMC_SAMPLE_RELEASE q s → s.pmc.ring.any (fun p => p.seq = q) = true →
    Completes (.pmcSampleRelease k q) s fun t =>
      Done k [] s s t ∧ t.pmc.ring = (s.pmc.ring.dropWhile (fun p => p.seq ≠ q)).drop 1)
  ∧ ∀ (k h v : Nat) (s : State), h < 8 → MayWriteN k (Obj.HIST_CLEAR h) v s →
    Completes (.histClear k h v) s fun t =>
      Done k [] { s with hists := s.hists.modify h (fun _ => Histogram.clear (stimeNow s)) } s t
end

