-- ==== Sys2Proof/Laws/Crypto.lean ====
section
/-! SUPPORT. How long the outputs of the hash functions are. -/

namespace Sys2Proof.Laws

open Sys2Proof.Machine

theorem shaRound_length (kw : Word32) (st : List Word32) (h : st.length = 8) : (shaRound st kw).length = 8 := by
  obtain _ | ⟨a, _ | ⟨b, _ | ⟨c, _ | ⟨d, _ | ⟨e, _ | ⟨f, _ | ⟨g, _ | ⟨i, _ | ⟨j, r⟩⟩⟩⟩⟩⟩⟩⟩⟩ := st <;> simp_all [shaRound]

theorem shaRounds_length (l : List Word32) (st : List Word32) (h : st.length = 8) : (l.foldl shaRound st).length = 8 := by
  induction l generalizing st with
  | nil => exact h
  | cons k l ih => exact ih _ (shaRound_length k st h)

theorem shaBlocks_length (n : Nat) (st : List Word32) (bs : List Byte) (h : st.length = 8) : (shaBlocks n st bs).length = 8 := by
  induction n generalizing st bs with
  | zero => exact h
  | succ n ih => exact ih _ _ (by simp [shaBlock, shaRounds_length _ _ h, h])

theorem leBytes_length (n v : Nat) : (leBytes n v).length = n := by
  induction n generalizing v with
  | zero => rfl
  | succ n ih => simp [leBytes, ih]

theorem beWords_length (l : List Word32) : (l.flatMap beWord).length = 4 * l.length := by
  induction l with
  | nil => rfl
  | cons a l ih => simp only [List.flatMap_cons, List.length_append, ih, beWord, List.length_reverse, leBytes_length, List.length_cons]; omega

/-- HMAC-SHA-256 gives 32 bytes. -/
theorem hmac_length (key msg : List Byte) : (hmac key msg).length = 32 := by
  simp only [hmac, sha256, beWords_length]; rw [shaBlocks_length _ _ _ rfl]

end Sys2Proof.Laws
end

