-- ==== Sys2Proof/Laws/State.lean ====
section
/-! SUPPORT. What each field of the state is after each of the named updates, true by unfolding: an update changes its own field and no
other. -/

namespace Sys2Proof.Laws

open Sys2Proof.Machine

variable (s : State)


/-! ### `wr` -/

@[simp] theorem wr_regs (key v : Nat) : (wr s key v).regs = Tbl.set objDefault s.regs key v := rfl
@[simp] theorem wr_blobs (key v : Nat) : (wr s key v).blobs = s.blobs := rfl
@[simp] theorem wr_time (key v : Nat) : (wr s key v).time = s.time := rfl
@[simp] theorem wr_cove (key v : Nat) : (wr s key v).cove = s.cove := rfl
@[simp] theorem wr_rp (key v : Nat) : (wr s key v).rp = s.rp := rfl
@[simp] theorem wr_cfg (key v : Nat) : (wr s key v).cfg = s.cfg := rfl
@[simp] theorem wr_sm (key v : Nat) : (wr s key v).sm = s.sm := rfl
@[simp] theorem wr_sessions (key v : Nat) : (wr s key v).sessions = s.sessions := rfl
@[simp] theorem wr_images (key v : Nat) : (wr s key v).images = s.images := rfl
@[simp] theorem wr_authFails (key v : Nat) : (wr s key v).authFails = s.authFails := rfl
@[simp] theorem wr_svSeen (key v : Nat) : (wr s key v).svSeen = s.svSeen := rfl
@[simp] theorem wr_log (key v : Nat) : (wr s key v).log = s.log := rfl
@[simp] theorem wr_pmc (key v : Nat) : (wr s key v).pmc = s.pmc := rfl
@[simp] theorem wr_hists (key v : Nat) : (wr s key v).hists = s.hists := rfl
@[simp] theorem wr_dbg (key v : Nat) : (wr s key v).dbg = s.dbg := rfl
@[simp] theorem wr_draws (key v : Nat) : (wr s key v).draws = s.draws := rfl
@[simp] theorem wr_transfers (key v : Nat) : (wr s key v).transfers = s.transfers := rfl
@[simp] theorem wr_droves (key v : Nat) : (wr s key v).droves = s.droves := rfl
@[simp] theorem wr_leaves (key v : Nat) : (wr s key v).leaves = s.leaves := rfl
@[simp] theorem wr_queues (key v : Nat) : (wr s key v).queues = s.queues := rfl
@[simp] theorem wr_slots (key v : Nat) : (wr s key v).slots = s.slots := rfl
@[simp] theorem wr_slotPoison (key v : Nat) : (wr s key v).slotPoison = s.slotPoison := rfl
@[simp] theorem wr_repeated (key v : Nat) : (wr s key v).repeated = s.repeated := rfl
@[simp] theorem wr_tideRec (key v : Nat) : (wr s key v).tideRec = s.tideRec := rfl
@[simp] theorem wr_begun (key v : Nat) : (wr s key v).begun = s.begun := rfl
@[simp] theorem wr_samples (key v : Nat) : (wr s key v).samples = s.samples := rfl
@[simp] theorem wr_mem (key v : Nat) : (wr s key v).mem = s.mem := rfl
@[simp] theorem wr_poison (key v : Nat) : (wr s key v).poison = s.poison := rfl
@[simp] theorem wr_shepherds (key v : Nat) : (wr s key v).shepherds = s.shepherds := rfl
@[simp] theorem wr_subs (key v : Nat) : (wr s key v).subs = s.subs := rfl
@[simp] theorem wr_faultCounts (key v : Nat) : (wr s key v).faultCounts = s.faultCounts := rfl
@[simp] theorem wr_faultEvents (key v : Nat) : (wr s key v).faultEvents = s.faultEvents := rfl
@[simp] theorem wr_faultLogged (key v : Nat) : (wr s key v).faultLogged = s.faultLogged := rfl
@[simp] theorem wr_bw (key v : Nat) : (wr s key v).bw = s.bw := rfl
@[simp] theorem wr_convs (key v : Nat) : (wr s key v).convs = s.convs := rfl
@[simp] theorem wr_legs (key v : Nat) : (wr s key v).legs = s.legs := rfl
@[simp] theorem wr_cl (key v : Nat) : (wr s key v).cl = s.cl := rfl
@[simp] theorem wr_trace (key v : Nat) : (wr s key v).trace = s.trace := rfl
@[simp] theorem wr_solar (key v : Nat) : (wr s key v).solar = s.solar := rfl
@[simp] theorem wr_meter (key v : Nat) : (wr s key v).meter = s.meter := rfl
@[simp] theorem wr_lio (key v : Nat) : (wr s key v).lio = s.lio := rfl
@[simp] theorem wr_outbox (key v : Nat) : (wr s key v).outbox = s.outbox := rfl
@[simp] theorem wr_pending (key v : Nat) : (wr s key v).pending = s.pending := rfl

/-! ### `wrBlob` -/

@[simp] theorem wrBlob_regs (key : Nat) (v : List Byte) : (wrBlob s key v).regs = s.regs := rfl
@[simp] theorem wrBlob_blobs (key : Nat) (v : List Byte) : (wrBlob s key v).blobs = Tbl.set blobDefault s.blobs key v := rfl
@[simp] theorem wrBlob_time (key : Nat) (v : List Byte) : (wrBlob s key v).time = s.time := rfl
@[simp] theorem wrBlob_cove (key : Nat) (v : List Byte) : (wrBlob s key v).cove = s.cove := rfl
@[simp] theorem wrBlob_rp (key : Nat) (v : List Byte) : (wrBlob s key v).rp = s.rp := rfl
@[simp] theorem wrBlob_cfg (key : Nat) (v : List Byte) : (wrBlob s key v).cfg = s.cfg := rfl
@[simp] theorem wrBlob_sm (key : Nat) (v : List Byte) : (wrBlob s key v).sm = s.sm := rfl
@[simp] theorem wrBlob_sessions (key : Nat) (v : List Byte) : (wrBlob s key v).sessions = s.sessions := rfl
@[simp] theorem wrBlob_images (key : Nat) (v : List Byte) : (wrBlob s key v).images = s.images := rfl
@[simp] theorem wrBlob_authFails (key : Nat) (v : List Byte) : (wrBlob s key v).authFails = s.authFails := rfl
@[simp] theorem wrBlob_svSeen (key : Nat) (v : List Byte) : (wrBlob s key v).svSeen = s.svSeen := rfl
@[simp] theorem wrBlob_log (key : Nat) (v : List Byte) : (wrBlob s key v).log = s.log := rfl
@[simp] theorem wrBlob_pmc (key : Nat) (v : List Byte) : (wrBlob s key v).pmc = s.pmc := rfl
@[simp] theorem wrBlob_hists (key : Nat) (v : List Byte) : (wrBlob s key v).hists = s.hists := rfl
@[simp] theorem wrBlob_dbg (key : Nat) (v : List Byte) : (wrBlob s key v).dbg = s.dbg := rfl
@[simp] theorem wrBlob_draws (key : Nat) (v : List Byte) : (wrBlob s key v).draws = s.draws := rfl
@[simp] theorem wrBlob_transfers (key : Nat) (v : List Byte) : (wrBlob s key v).transfers = s.transfers := rfl
@[simp] theorem wrBlob_droves (key : Nat) (v : List Byte) : (wrBlob s key v).droves = s.droves := rfl
@[simp] theorem wrBlob_leaves (key : Nat) (v : List Byte) : (wrBlob s key v).leaves = s.leaves := rfl
@[simp] theorem wrBlob_queues (key : Nat) (v : List Byte) : (wrBlob s key v).queues = s.queues := rfl
@[simp] theorem wrBlob_slots (key : Nat) (v : List Byte) : (wrBlob s key v).slots = s.slots := rfl
@[simp] theorem wrBlob_slotPoison (key : Nat) (v : List Byte) : (wrBlob s key v).slotPoison = s.slotPoison := rfl
@[simp] theorem wrBlob_repeated (key : Nat) (v : List Byte) : (wrBlob s key v).repeated = s.repeated := rfl
@[simp] theorem wrBlob_tideRec (key : Nat) (v : List Byte) : (wrBlob s key v).tideRec = s.tideRec := rfl
@[simp] theorem wrBlob_begun (key : Nat) (v : List Byte) : (wrBlob s key v).begun = s.begun := rfl
@[simp] theorem wrBlob_samples (key : Nat) (v : List Byte) : (wrBlob s key v).samples = s.samples := rfl
@[simp] theorem wrBlob_mem (key : Nat) (v : List Byte) : (wrBlob s key v).mem = s.mem := rfl
@[simp] theorem wrBlob_poison (key : Nat) (v : List Byte) : (wrBlob s key v).poison = s.poison := rfl
@[simp] theorem wrBlob_shepherds (key : Nat) (v : List Byte) : (wrBlob s key v).shepherds = s.shepherds := rfl
@[simp] theorem wrBlob_subs (key : Nat) (v : List Byte) : (wrBlob s key v).subs = s.subs := rfl
@[simp] theorem wrBlob_faultCounts (key : Nat) (v : List Byte) : (wrBlob s key v).faultCounts = s.faultCounts := rfl
@[simp] theorem wrBlob_faultEvents (key : Nat) (v : List Byte) : (wrBlob s key v).faultEvents = s.faultEvents := rfl
@[simp] theorem wrBlob_faultLogged (key : Nat) (v : List Byte) : (wrBlob s key v).faultLogged = s.faultLogged := rfl
@[simp] theorem wrBlob_bw (key : Nat) (v : List Byte) : (wrBlob s key v).bw = s.bw := rfl
@[simp] theorem wrBlob_convs (key : Nat) (v : List Byte) : (wrBlob s key v).convs = s.convs := rfl
@[simp] theorem wrBlob_legs (key : Nat) (v : List Byte) : (wrBlob s key v).legs = s.legs := rfl
@[simp] theorem wrBlob_cl (key : Nat) (v : List Byte) : (wrBlob s key v).cl = s.cl := rfl
@[simp] theorem wrBlob_trace (key : Nat) (v : List Byte) : (wrBlob s key v).trace = s.trace := rfl
@[simp] theorem wrBlob_solar (key : Nat) (v : List Byte) : (wrBlob s key v).solar = s.solar := rfl
@[simp] theorem wrBlob_meter (key : Nat) (v : List Byte) : (wrBlob s key v).meter = s.meter := rfl
@[simp] theorem wrBlob_lio (key : Nat) (v : List Byte) : (wrBlob s key v).lio = s.lio := rfl
@[simp] theorem wrBlob_outbox (key : Nat) (v : List Byte) : (wrBlob s key v).outbox = s.outbox := rfl
@[simp] theorem wrBlob_pending (key : Nat) (v : List Byte) : (wrBlob s key v).pending = s.pending := rfl
@[simp] theorem rd_wrBlob (key : Nat) (v : List Byte) (j : Nat) : rd (wrBlob s key v) j = rd s j := rfl

/-! ### `wrMem` -/

@[simp] theorem wrMem_regs (key : Nat) (v : Byte) : (wrMem s key v).regs = s.regs := rfl
@[simp] theorem wrMem_blobs (key : Nat) (v : Byte) : (wrMem s key v).blobs = s.blobs := rfl
@[simp] theorem wrMem_time (key : Nat) (v : Byte) : (wrMem s key v).time = s.time := rfl
@[simp] theorem wrMem_cove (key : Nat) (v : Byte) : (wrMem s key v).cove = s.cove := rfl
@[simp] theorem wrMem_rp (key : Nat) (v : Byte) : (wrMem s key v).rp = s.rp := rfl
@[simp] theorem wrMem_cfg (key : Nat) (v : Byte) : (wrMem s key v).cfg = s.cfg := rfl
@[simp] theorem wrMem_sm (key : Nat) (v : Byte) : (wrMem s key v).sm = s.sm := rfl
@[simp] theorem wrMem_sessions (key : Nat) (v : Byte) : (wrMem s key v).sessions = s.sessions := rfl
@[simp] theorem wrMem_images (key : Nat) (v : Byte) : (wrMem s key v).images = s.images := rfl
@[simp] theorem wrMem_authFails (key : Nat) (v : Byte) : (wrMem s key v).authFails = s.authFails := rfl
@[simp] theorem wrMem_svSeen (key : Nat) (v : Byte) : (wrMem s key v).svSeen = s.svSeen := rfl
@[simp] theorem wrMem_log (key : Nat) (v : Byte) : (wrMem s key v).log = s.log := rfl
@[simp] theorem wrMem_pmc (key : Nat) (v : Byte) : (wrMem s key v).pmc = s.pmc := rfl
@[simp] theorem wrMem_hists (key : Nat) (v : Byte) : (wrMem s key v).hists = s.hists := rfl
@[simp] theorem wrMem_dbg (key : Nat) (v : Byte) : (wrMem s key v).dbg = s.dbg := rfl
@[simp] theorem wrMem_draws (key : Nat) (v : Byte) : (wrMem s key v).draws = s.draws := rfl
@[simp] theorem wrMem_transfers (key : Nat) (v : Byte) : (wrMem s key v).transfers = s.transfers := rfl
@[simp] theorem wrMem_droves (key : Nat) (v : Byte) : (wrMem s key v).droves = s.droves := rfl
@[simp] theorem wrMem_leaves (key : Nat) (v : Byte) : (wrMem s key v).leaves = s.leaves := rfl
@[simp] theorem wrMem_queues (key : Nat) (v : Byte) : (wrMem s key v).queues = s.queues := rfl
@[simp] theorem wrMem_slots (key : Nat) (v : Byte) : (wrMem s key v).slots = s.slots := rfl
@[simp] theorem wrMem_slotPoison (key : Nat) (v : Byte) : (wrMem s key v).slotPoison = s.slotPoison := rfl
@[simp] theorem wrMem_repeated (key : Nat) (v : Byte) : (wrMem s key v).repeated = s.repeated := rfl
@[simp] theorem wrMem_tideRec (key : Nat) (v : Byte) : (wrMem s key v).tideRec = s.tideRec := rfl
@[simp] theorem wrMem_begun (key : Nat) (v : Byte) : (wrMem s key v).begun = s.begun := rfl
@[simp] theorem wrMem_samples (key : Nat) (v : Byte) : (wrMem s key v).samples = s.samples := rfl
@[simp] theorem wrMem_mem (key : Nat) (v : Byte) : (wrMem s key v).mem = Tbl.set memDefault s.mem key v := rfl
@[simp] theorem wrMem_poison (key : Nat) (v : Byte) : (wrMem s key v).poison = s.poison := rfl
@[simp] theorem wrMem_shepherds (key : Nat) (v : Byte) : (wrMem s key v).shepherds = s.shepherds := rfl
@[simp] theorem wrMem_subs (key : Nat) (v : Byte) : (wrMem s key v).subs = s.subs := rfl
@[simp] theorem wrMem_faultCounts (key : Nat) (v : Byte) : (wrMem s key v).faultCounts = s.faultCounts := rfl
@[simp] theorem wrMem_faultEvents (key : Nat) (v : Byte) : (wrMem s key v).faultEvents = s.faultEvents := rfl
@[simp] theorem wrMem_faultLogged (key : Nat) (v : Byte) : (wrMem s key v).faultLogged = s.faultLogged := rfl
@[simp] theorem wrMem_bw (key : Nat) (v : Byte) : (wrMem s key v).bw = s.bw := rfl
@[simp] theorem wrMem_convs (key : Nat) (v : Byte) : (wrMem s key v).convs = s.convs := rfl
@[simp] theorem wrMem_legs (key : Nat) (v : Byte) : (wrMem s key v).legs = s.legs := rfl
@[simp] theorem wrMem_cl (key : Nat) (v : Byte) : (wrMem s key v).cl = s.cl := rfl
@[simp] theorem wrMem_trace (key : Nat) (v : Byte) : (wrMem s key v).trace = s.trace := rfl
@[simp] theorem wrMem_solar (key : Nat) (v : Byte) : (wrMem s key v).solar = s.solar := rfl
@[simp] theorem wrMem_meter (key : Nat) (v : Byte) : (wrMem s key v).meter = s.meter := rfl
@[simp] theorem wrMem_lio (key : Nat) (v : Byte) : (wrMem s key v).lio = s.lio := rfl
@[simp] theorem wrMem_outbox (key : Nat) (v : Byte) : (wrMem s key v).outbox = s.outbox := rfl
@[simp] theorem wrMem_pending (key : Nat) (v : Byte) : (wrMem s key v).pending = s.pending := rfl
@[simp] theorem rd_wrMem (key : Nat) (v : Byte) (j : Nat) : rd (wrMem s key v) j = rd s j := rfl

/-! ### `send` -/

@[simp] theorem send_regs (o : Out) : (send o s).regs = s.regs := rfl
@[simp] theorem send_blobs (o : Out) : (send o s).blobs = s.blobs := rfl
@[simp] theorem send_time (o : Out) : (send o s).time = s.time := rfl
@[simp] theorem send_cove (o : Out) : (send o s).cove = s.cove := rfl
@[simp] theorem send_rp (o : Out) : (send o s).rp = s.rp := rfl
@[simp] theorem send_cfg (o : Out) : (send o s).cfg = s.cfg := rfl
@[simp] theorem send_sm (o : Out) : (send o s).sm = s.sm := rfl
@[simp] theorem send_sessions (o : Out) : (send o s).sessions = s.sessions := rfl
@[simp] theorem send_images (o : Out) : (send o s).images = s.images := rfl
@[simp] theorem send_authFails (o : Out) : (send o s).authFails = s.authFails := rfl
@[simp] theorem send_svSeen (o : Out) : (send o s).svSeen = s.svSeen := rfl
@[simp] theorem send_log (o : Out) : (send o s).log = s.log := rfl
@[simp] theorem send_pmc (o : Out) : (send o s).pmc = s.pmc := rfl
@[simp] theorem send_hists (o : Out) : (send o s).hists = s.hists := rfl
@[simp] theorem send_dbg (o : Out) : (send o s).dbg = s.dbg := rfl
@[simp] theorem send_draws (o : Out) : (send o s).draws = s.draws := rfl
@[simp] theorem send_transfers (o : Out) : (send o s).transfers = s.transfers := rfl
@[simp] theorem send_droves (o : Out) : (send o s).droves = s.droves := rfl
@[simp] theorem send_leaves (o : Out) : (send o s).leaves = s.leaves := rfl
@[simp] theorem send_queues (o : Out) : (send o s).queues = s.queues := rfl
@[simp] theorem send_slots (o : Out) : (send o s).slots = s.slots := rfl
@[simp] theorem send_slotPoison (o : Out) : (send o s).slotPoison = s.slotPoison := rfl
@[simp] theorem send_repeated (o : Out) : (send o s).repeated = s.repeated := rfl
@[simp] theorem send_tideRec (o : Out) : (send o s).tideRec = s.tideRec := rfl
@[simp] theorem send_begun (o : Out) : (send o s).begun = s.begun := rfl
@[simp] theorem send_samples (o : Out) : (send o s).samples = s.samples := rfl
@[simp] theorem send_mem (o : Out) : (send o s).mem = s.mem := rfl
@[simp] theorem send_poison (o : Out) : (send o s).poison = s.poison := rfl
@[simp] theorem send_shepherds (o : Out) : (send o s).shepherds = s.shepherds := rfl
@[simp] theorem send_subs (o : Out) : (send o s).subs = s.subs := rfl
@[simp] theorem send_faultCounts (o : Out) : (send o s).faultCounts = s.faultCounts := rfl
@[simp] theorem send_faultEvents (o : Out) : (send o s).faultEvents = s.faultEvents := rfl
@[simp] theorem send_faultLogged (o : Out) : (send o s).faultLogged = s.faultLogged := rfl
@[simp] theorem send_bw (o : Out) : (send o s).bw = s.bw := rfl
@[simp] theorem send_convs (o : Out) : (send o s).convs = s.convs := rfl
@[simp] theorem send_legs (o : Out) : (send o s).legs = s.legs := rfl
@[simp] theorem send_cl (o : Out) : (send o s).cl = s.cl := rfl
@[simp] theorem send_trace (o : Out) : (send o s).trace = s.trace := rfl
@[simp] theorem send_solar (o : Out) : (send o s).solar = s.solar := rfl
@[simp] theorem send_meter (o : Out) : (send o s).meter = s.meter := rfl
@[simp] theorem send_lio (o : Out) : (send o s).lio = s.lio := rfl
@[simp] theorem send_outbox (o : Out) : (send o s).outbox = o :: s.outbox := rfl
@[simp] theorem send_pending (o : Out) : (send o s).pending = s.pending := rfl
@[simp] theorem rd_send (o : Out) (j : Nat) : rd (send o s) j = rd s j := rfl

/-! ### `setSess` -/

@[simp] theorem setSess_regs (k : Nat) (f : Session → Session) : (setSess s k f).regs = s.regs := rfl
@[simp] theorem setSess_blobs (k : Nat) (f : Session → Session) : (setSess s k f).blobs = s.blobs := rfl
@[simp] theorem setSess_time (k : Nat) (f : Session → Session) : (setSess s k f).time = s.time := rfl
@[simp] theorem setSess_cove (k : Nat) (f : Session → Session) : (setSess s k f).cove = s.cove := rfl
@[simp] theorem setSess_rp (k : Nat) (f : Session → Session) : (setSess s k f).rp = s.rp := rfl
@[simp] theorem setSess_cfg (k : Nat) (f : Session → Session) : (setSess s k f).cfg = s.cfg := rfl
@[simp] theorem setSess_sm (k : Nat) (f : Session → Session) : (setSess s k f).sm = s.sm := rfl
@[simp] theorem setSess_sessions (k : Nat) (f : Session → Session) : (setSess s k f).sessions = s.sessions.modify k f := rfl
@[simp] theorem setSess_images (k : Nat) (f : Session → Session) : (setSess s k f).images = s.images := rfl
@[simp] theorem setSess_authFails (k : Nat) (f : Session → Session) : (setSess s k f).authFails = s.authFails := rfl
@[simp] theorem setSess_svSeen (k : Nat) (f : Session → Session) : (setSess s k f).svSeen = s.svSeen := rfl
@[simp] theorem setSess_log (k : Nat) (f : Session → Session) : (setSess s k f).log = s.log := rfl
@[simp] theorem setSess_pmc (k : Nat) (f : Session → Session) : (setSess s k f).pmc = s.pmc := rfl
@[simp] theorem setSess_hists (k : Nat) (f : Session → Session) : (setSess s k f).hists = s.hists := rfl
@[simp] theorem setSess_dbg (k : Nat) (f : Session → Session) : (setSess s k f).dbg = s.dbg := rfl
@[simp] theorem setSess_draws (k : Nat) (f : Session → Session) : (setSess s k f).draws = s.draws := rfl
@[simp] theorem setSess_transfers (k : Nat) (f : Session → Session) : (setSess s k f).transfers = s.transfers := rfl
@[simp] theorem setSess_droves (k : Nat) (f : Session → Session) : (setSess s k f).droves = s.droves := rfl
@[simp] theorem setSess_leaves (k : Nat) (f : Session → Session) : (setSess s k f).leaves = s.leaves := rfl
@[simp] theorem setSess_queues (k : Nat) (f : Session → Session) : (setSess s k f).queues = s.queues := rfl
@[simp] theorem setSess_slots (k : Nat) (f : Session → Session) : (setSess s k f).slots = s.slots := rfl
@[simp] theorem setSess_slotPoison (k : Nat) (f : Session → Session) : (setSess s k f).slotPoison = s.slotPoison := rfl
@[simp] theorem setSess_repeated (k : Nat) (f : Session → Session) : (setSess s k f).repeated = s.repeated := rfl
@[simp] theorem setSess_tideRec (k : Nat) (f : Session → Session) : (setSess s k f).tideRec = s.tideRec := rfl
@[simp] theorem setSess_begun (k : Nat) (f : Session → Session) : (setSess s k f).begun = s.begun := rfl
@[simp] theorem setSess_samples (k : Nat) (f : Session → Session) : (setSess s k f).samples = s.samples := rfl
@[simp] theorem setSess_mem (k : Nat) (f : Session → Session) : (setSess s k f).mem = s.mem := rfl
@[simp] theorem setSess_poison (k : Nat) (f : Session → Session) : (setSess s k f).poison = s.poison := rfl
@[simp] theorem setSess_shepherds (k : Nat) (f : Session → Session) : (setSess s k f).shepherds = s.shepherds := rfl
@[simp] theorem setSess_subs (k : Nat) (f : Session → Session) : (setSess s k f).subs = s.subs := rfl
@[simp] theorem setSess_faultCounts (k : Nat) (f : Session → Session) : (setSess s k f).faultCounts = s.faultCounts := rfl
@[simp] theorem setSess_faultEvents (k : Nat) (f : Session → Session) : (setSess s k f).faultEvents = s.faultEvents := rfl
@[simp] theorem setSess_faultLogged (k : Nat) (f : Session → Session) : (setSess s k f).faultLogged = s.faultLogged := rfl
@[simp] theorem setSess_bw (k : Nat) (f : Session → Session) : (setSess s k f).bw = s.bw := rfl
@[simp] theorem setSess_convs (k : Nat) (f : Session → Session) : (setSess s k f).convs = s.convs := rfl
@[simp] theorem setSess_legs (k : Nat) (f : Session → Session) : (setSess s k f).legs = s.legs := rfl
@[simp] theorem setSess_cl (k : Nat) (f : Session → Session) : (setSess s k f).cl = s.cl := rfl
@[simp] theorem setSess_trace (k : Nat) (f : Session → Session) : (setSess s k f).trace = s.trace := rfl
@[simp] theorem setSess_solar (k : Nat) (f : Session → Session) : (setSess s k f).solar = s.solar := rfl
@[simp] theorem setSess_meter (k : Nat) (f : Session → Session) : (setSess s k f).meter = s.meter := rfl
@[simp] theorem setSess_lio (k : Nat) (f : Session → Session) : (setSess s k f).lio = s.lio := rfl
@[simp] theorem setSess_outbox (k : Nat) (f : Session → Session) : (setSess s k f).outbox = s.outbox := rfl
@[simp] theorem setSess_pending (k : Nat) (f : Session → Session) : (setSess s k f).pending = s.pending := rfl
@[simp] theorem rd_setSess (k : Nat) (f : Session → Session) (j : Nat) : rd (setSess s k f) j = rd s j := rfl

/-! ### `setTime` -/

@[simp] theorem setTime_regs (f : TimeUnit → TimeUnit) : (setTime f s).regs = s.regs := rfl
@[simp] theorem setTime_blobs (f : TimeUnit → TimeUnit) : (setTime f s).blobs = s.blobs := rfl
@[simp] theorem setTime_time (f : TimeUnit → TimeUnit) : (setTime f s).time = f s.time := rfl
@[simp] theorem setTime_cove (f : TimeUnit → TimeUnit) : (setTime f s).cove = s.cove := rfl
@[simp] theorem setTime_rp (f : TimeUnit → TimeUnit) : (setTime f s).rp = s.rp := rfl
@[simp] theorem setTime_cfg (f : TimeUnit → TimeUnit) : (setTime f s).cfg = s.cfg := rfl
@[simp] theorem setTime_sm (f : TimeUnit → TimeUnit) : (setTime f s).sm = s.sm := rfl
@[simp] theorem setTime_sessions (f : TimeUnit → TimeUnit) : (setTime f s).sessions = s.sessions := rfl
@[simp] theorem setTime_images (f : TimeUnit → TimeUnit) : (setTime f s).images = s.images := rfl
@[simp] theorem setTime_authFails (f : TimeUnit → TimeUnit) : (setTime f s).authFails = s.authFails := rfl
@[simp] theorem setTime_svSeen (f : TimeUnit → TimeUnit) : (setTime f s).svSeen = s.svSeen := rfl
@[simp] theorem setTime_log (f : TimeUnit → TimeUnit) : (setTime f s).log = s.log := rfl
@[simp] theorem setTime_pmc (f : TimeUnit → TimeUnit) : (setTime f s).pmc = s.pmc := rfl
@[simp] theorem setTime_hists (f : TimeUnit → TimeUnit) : (setTime f s).hists = s.hists := rfl
@[simp] theorem setTime_dbg (f : TimeUnit → TimeUnit) : (setTime f s).dbg = s.dbg := rfl
@[simp] theorem setTime_draws (f : TimeUnit → TimeUnit) : (setTime f s).draws = s.draws := rfl
@[simp] theorem setTime_transfers (f : TimeUnit → TimeUnit) : (setTime f s).transfers = s.transfers := rfl
@[simp] theorem setTime_droves (f : TimeUnit → TimeUnit) : (setTime f s).droves = s.droves := rfl
@[simp] theorem setTime_leaves (f : TimeUnit → TimeUnit) : (setTime f s).leaves = s.leaves := rfl
@[simp] theorem setTime_queues (f : TimeUnit → TimeUnit) : (setTime f s).queues = s.queues := rfl
@[simp] theorem setTime_slots (f : TimeUnit → TimeUnit) : (setTime f s).slots = s.slots := rfl
@[simp] theorem setTime_slotPoison (f : TimeUnit → TimeUnit) : (setTime f s).slotPoison = s.slotPoison := rfl
@[simp] theorem setTime_repeated (f : TimeUnit → TimeUnit) : (setTime f s).repeated = s.repeated := rfl
@[simp] theorem setTime_tideRec (f : TimeUnit → TimeUnit) : (setTime f s).tideRec = s.tideRec := rfl
@[simp] theorem setTime_begun (f : TimeUnit → TimeUnit) : (setTime f s).begun = s.begun := rfl
@[simp] theorem setTime_samples (f : TimeUnit → TimeUnit) : (setTime f s).samples = s.samples := rfl
@[simp] theorem setTime_mem (f : TimeUnit → TimeUnit) : (setTime f s).mem = s.mem := rfl
@[simp] theorem setTime_poison (f : TimeUnit → TimeUnit) : (setTime f s).poison = s.poison := rfl
@[simp] theorem setTime_shepherds (f : TimeUnit → TimeUnit) : (setTime f s).shepherds = s.shepherds := rfl
@[simp] theorem setTime_subs (f : TimeUnit → TimeUnit) : (setTime f s).subs = s.subs := rfl
@[simp] theorem setTime_faultCounts (f : TimeUnit → TimeUnit) : (setTime f s).faultCounts = s.faultCounts := rfl
@[simp] theorem setTime_faultEvents (f : TimeUnit → TimeUnit) : (setTime f s).faultEvents = s.faultEvents := rfl
@[simp] theorem setTime_faultLogged (f : TimeUnit → TimeUnit) : (setTime f s).faultLogged = s.faultLogged := rfl
@[simp] theorem setTime_bw (f : TimeUnit → TimeUnit) : (setTime f s).bw = s.bw := rfl
@[simp] theorem setTime_convs (f : TimeUnit → TimeUnit) : (setTime f s).convs = s.convs := rfl
@[simp] theorem setTime_legs (f : TimeUnit → TimeUnit) : (setTime f s).legs = s.legs := rfl
@[simp] theorem setTime_cl (f : TimeUnit → TimeUnit) : (setTime f s).cl = s.cl := rfl
@[simp] theorem setTime_trace (f : TimeUnit → TimeUnit) : (setTime f s).trace = s.trace := rfl
@[simp] theorem setTime_solar (f : TimeUnit → TimeUnit) : (setTime f s).solar = s.solar := rfl
@[simp] theorem setTime_meter (f : TimeUnit → TimeUnit) : (setTime f s).meter = s.meter := rfl
@[simp] theorem setTime_lio (f : TimeUnit → TimeUnit) : (setTime f s).lio = s.lio := rfl
@[simp] theorem setTime_outbox (f : TimeUnit → TimeUnit) : (setTime f s).outbox = s.outbox := rfl
@[simp] theorem setTime_pending (f : TimeUnit → TimeUnit) : (setTime f s).pending = s.pending := rfl
@[simp] theorem rd_setTime (f : TimeUnit → TimeUnit) (j : Nat) : rd (setTime f s) j = rd s j := rfl

/-! ### `setCl` -/

@[simp] theorem setCl_regs (f : Cluster → Cluster) : (setCl f s).regs = s.regs := rfl
@[simp] theorem setCl_blobs (f : Cluster → Cluster) : (setCl f s).blobs = s.blobs := rfl
@[simp] theorem setCl_time (f : Cluster → Cluster) : (setCl f s).time = s.time := rfl
@[simp] theorem setCl_cove (f : Cluster → Cluster) : (setCl f s).cove = s.cove := rfl
@[simp] theorem setCl_rp (f : Cluster → Cluster) : (setCl f s).rp = s.rp := rfl
@[simp] theorem setCl_cfg (f : Cluster → Cluster) : (setCl f s).cfg = s.cfg := rfl
@[simp] theorem setCl_sm (f : Cluster → Cluster) : (setCl f s).sm = s.sm := rfl
@[simp] theorem setCl_sessions (f : Cluster → Cluster) : (setCl f s).sessions = s.sessions := rfl
@[simp] theorem setCl_images (f : Cluster → Cluster) : (setCl f s).images = s.images := rfl
@[simp] theorem setCl_authFails (f : Cluster → Cluster) : (setCl f s).authFails = s.authFails := rfl
@[simp] theorem setCl_svSeen (f : Cluster → Cluster) : (setCl f s).svSeen = s.svSeen := rfl
@[simp] theorem setCl_log (f : Cluster → Cluster) : (setCl f s).log = s.log := rfl
@[simp] theorem setCl_pmc (f : Cluster → Cluster) : (setCl f s).pmc = s.pmc := rfl
@[simp] theorem setCl_hists (f : Cluster → Cluster) : (setCl f s).hists = s.hists := rfl
@[simp] theorem setCl_dbg (f : Cluster → Cluster) : (setCl f s).dbg = s.dbg := rfl
@[simp] theorem setCl_draws (f : Cluster → Cluster) : (setCl f s).draws = s.draws := rfl
@[simp] theorem setCl_transfers (f : Cluster → Cluster) : (setCl f s).transfers = s.transfers := rfl
@[simp] theorem setCl_droves (f : Cluster → Cluster) : (setCl f s).droves = s.droves := rfl
@[simp] theorem setCl_leaves (f : Cluster → Cluster) : (setCl f s).leaves = s.leaves := rfl
@[simp] theorem setCl_queues (f : Cluster → Cluster) : (setCl f s).queues = s.queues := rfl
@[simp] theorem setCl_slots (f : Cluster → Cluster) : (setCl f s).slots = s.slots := rfl
@[simp] theorem setCl_slotPoison (f : Cluster → Cluster) : (setCl f s).slotPoison = s.slotPoison := rfl
@[simp] theorem setCl_repeated (f : Cluster → Cluster) : (setCl f s).repeated = s.repeated := rfl
@[simp] theorem setCl_tideRec (f : Cluster → Cluster) : (setCl f s).tideRec = s.tideRec := rfl
@[simp] theorem setCl_begun (f : Cluster → Cluster) : (setCl f s).begun = s.begun := rfl
@[simp] theorem setCl_samples (f : Cluster → Cluster) : (setCl f s).samples = s.samples := rfl
@[simp] theorem setCl_mem (f : Cluster → Cluster) : (setCl f s).mem = s.mem := rfl
@[simp] theorem setCl_poison (f : Cluster → Cluster) : (setCl f s).poison = s.poison := rfl
@[simp] theorem setCl_shepherds (f : Cluster → Cluster) : (setCl f s).shepherds = s.shepherds := rfl
@[simp] theorem setCl_subs (f : Cluster → Cluster) : (setCl f s).subs = s.subs := rfl
@[simp] theorem setCl_faultCounts (f : Cluster → Cluster) : (setCl f s).faultCounts = s.faultCounts := rfl
@[simp] theorem setCl_faultEvents (f : Cluster → Cluster) : (setCl f s).faultEvents = s.faultEvents := rfl
@[simp] theorem setCl_faultLogged (f : Cluster → Cluster) : (setCl f s).faultLogged = s.faultLogged := rfl
@[simp] theorem setCl_bw (f : Cluster → Cluster) : (setCl f s).bw = s.bw := rfl
@[simp] theorem setCl_convs (f : Cluster → Cluster) : (setCl f s).convs = s.convs := rfl
@[simp] theorem setCl_legs (f : Cluster → Cluster) : (setCl f s).legs = s.legs := rfl
@[simp] theorem setCl_cl (f : Cluster → Cluster) : (setCl f s).cl = f s.cl := rfl
@[simp] theorem setCl_trace (f : Cluster → Cluster) : (setCl f s).trace = s.trace := rfl
@[simp] theorem setCl_solar (f : Cluster → Cluster) : (setCl f s).solar = s.solar := rfl
@[simp] theorem setCl_meter (f : Cluster → Cluster) : (setCl f s).meter = s.meter := rfl
@[simp] theorem setCl_lio (f : Cluster → Cluster) : (setCl f s).lio = s.lio := rfl
@[simp] theorem setCl_outbox (f : Cluster → Cluster) : (setCl f s).outbox = s.outbox := rfl
@[simp] theorem setCl_pending (f : Cluster → Cluster) : (setCl f s).pending = s.pending := rfl
@[simp] theorem rd_setCl (f : Cluster → Cluster) (j : Nat) : rd (setCl f s) j = rd s j := rfl

/-! ### `setMeters` -/

@[simp] theorem setMeters_regs (f : MeterChain → MeterChain) : (setMeters f s).regs = s.regs := rfl
@[simp] theorem setMeters_blobs (f : MeterChain → MeterChain) : (setMeters f s).blobs = s.blobs := rfl
@[simp] theorem setMeters_time (f : MeterChain → MeterChain) : (setMeters f s).time = s.time := rfl
@[simp] theorem setMeters_cove (f : MeterChain → MeterChain) : (setMeters f s).cove = s.cove := rfl
@[simp] theorem setMeters_rp (f : MeterChain → MeterChain) : (setMeters f s).rp = s.rp := rfl
@[simp] theorem setMeters_cfg (f : MeterChain → MeterChain) : (setMeters f s).cfg = s.cfg := rfl
@[simp] theorem setMeters_sm (f : MeterChain → MeterChain) : (setMeters f s).sm = s.sm := rfl
@[simp] theorem setMeters_sessions (f : MeterChain → MeterChain) : (setMeters f s).sessions = s.sessions := rfl
@[simp] theorem setMeters_images (f : MeterChain → MeterChain) : (setMeters f s).images = s.images := rfl
@[simp] theorem setMeters_authFails (f : MeterChain → MeterChain) : (setMeters f s).authFails = s.authFails := rfl
@[simp] theorem setMeters_svSeen (f : MeterChain → MeterChain) : (setMeters f s).svSeen = s.svSeen := rfl
@[simp] theorem setMeters_log (f : MeterChain → MeterChain) : (setMeters f s).log = s.log := rfl
@[simp] theorem setMeters_pmc (f : MeterChain → MeterChain) : (setMeters f s).pmc = s.pmc := rfl
@[simp] theorem setMeters_hists (f : MeterChain → MeterChain) : (setMeters f s).hists = s.hists := rfl
@[simp] theorem setMeters_dbg (f : MeterChain → MeterChain) : (setMeters f s).dbg = s.dbg := rfl
@[simp] theorem setMeters_draws (f : MeterChain → MeterChain) : (setMeters f s).draws = s.draws := rfl
@[simp] theorem setMeters_transfers (f : MeterChain → MeterChain) : (setMeters f s).transfers = s.transfers := rfl
@[simp] theorem setMeters_droves (f : MeterChain → MeterChain) : (setMeters f s).droves = s.droves := rfl
@[simp] theorem setMeters_leaves (f : MeterChain → MeterChain) : (setMeters f s).leaves = s.leaves := rfl
@[simp] theorem setMeters_queues (f : MeterChain → MeterChain) : (setMeters f s).queues = s.queues := rfl
@[simp] theorem setMeters_slots (f : MeterChain → MeterChain) : (setMeters f s).slots = s.slots := rfl
@[simp] theorem setMeters_slotPoison (f : MeterChain → MeterChain) : (setMeters f s).slotPoison = s.slotPoison := rfl
@[simp] theorem setMeters_repeated (f : MeterChain → MeterChain) : (setMeters f s).repeated = s.repeated := rfl
@[simp] theorem setMeters_tideRec (f : MeterChain → MeterChain) : (setMeters f s).tideRec = s.tideRec := rfl
@[simp] theorem setMeters_begun (f : MeterChain → MeterChain) : (setMeters f s).begun = s.begun := rfl
@[simp] theorem setMeters_samples (f : MeterChain → MeterChain) : (setMeters f s).samples = s.samples := rfl
@[simp] theorem setMeters_mem (f : MeterChain → MeterChain) : (setMeters f s).mem = s.mem := rfl
@[simp] theorem setMeters_poison (f : MeterChain → MeterChain) : (setMeters f s).poison = s.poison := rfl
@[simp] theorem setMeters_shepherds (f : MeterChain → MeterChain) : (setMeters f s).shepherds = s.shepherds := rfl
@[simp] theorem setMeters_subs (f : MeterChain → MeterChain) : (setMeters f s).subs = s.subs := rfl
@[simp] theorem setMeters_faultCounts (f : MeterChain → MeterChain) : (setMeters f s).faultCounts = s.faultCounts := rfl
@[simp] theorem setMeters_faultEvents (f : MeterChain → MeterChain) : (setMeters f s).faultEvents = s.faultEvents := rfl
@[simp] theorem setMeters_faultLogged (f : MeterChain → MeterChain) : (setMeters f s).faultLogged = s.faultLogged := rfl
@[simp] theorem setMeters_bw (f : MeterChain → MeterChain) : (setMeters f s).bw = s.bw := rfl
@[simp] theorem setMeters_convs (f : MeterChain → MeterChain) : (setMeters f s).convs = s.convs := rfl
@[simp] theorem setMeters_legs (f : MeterChain → MeterChain) : (setMeters f s).legs = s.legs := rfl
@[simp] theorem setMeters_cl (f : MeterChain → MeterChain) : (setMeters f s).cl = s.cl := rfl
@[simp] theorem setMeters_trace (f : MeterChain → MeterChain) : (setMeters f s).trace = s.trace := rfl
@[simp] theorem setMeters_solar (f : MeterChain → MeterChain) : (setMeters f s).solar = s.solar := rfl
@[simp] theorem setMeters_meter (f : MeterChain → MeterChain) : (setMeters f s).meter = f s.meter := rfl
@[simp] theorem setMeters_lio (f : MeterChain → MeterChain) : (setMeters f s).lio = s.lio := rfl
@[simp] theorem setMeters_outbox (f : MeterChain → MeterChain) : (setMeters f s).outbox = s.outbox := rfl
@[simp] theorem setMeters_pending (f : MeterChain → MeterChain) : (setMeters f s).pending = s.pending := rfl
@[simp] theorem rd_setMeters (f : MeterChain → MeterChain) (j : Nat) : rd (setMeters f s) j = rd s j := rfl

/-! ### `setLio` -/

@[simp] theorem setLio_regs (f : LocalIo → LocalIo) : (setLio f s).regs = s.regs := rfl
@[simp] theorem setLio_blobs (f : LocalIo → LocalIo) : (setLio f s).blobs = s.blobs := rfl
@[simp] theorem setLio_time (f : LocalIo → LocalIo) : (setLio f s).time = s.time := rfl
@[simp] theorem setLio_cove (f : LocalIo → LocalIo) : (setLio f s).cove = s.cove := rfl
@[simp] theorem setLio_rp (f : LocalIo → LocalIo) : (setLio f s).rp = s.rp := rfl
@[simp] theorem setLio_cfg (f : LocalIo → LocalIo) : (setLio f s).cfg = s.cfg := rfl
@[simp] theorem setLio_sm (f : LocalIo → LocalIo) : (setLio f s).sm = s.sm := rfl
@[simp] theorem setLio_sessions (f : LocalIo → LocalIo) : (setLio f s).sessions = s.sessions := rfl
@[simp] theorem setLio_images (f : LocalIo → LocalIo) : (setLio f s).images = s.images := rfl
@[simp] theorem setLio_authFails (f : LocalIo → LocalIo) : (setLio f s).authFails = s.authFails := rfl
@[simp] theorem setLio_svSeen (f : LocalIo → LocalIo) : (setLio f s).svSeen = s.svSeen := rfl
@[simp] theorem setLio_log (f : LocalIo → LocalIo) : (setLio f s).log = s.log := rfl
@[simp] theorem setLio_pmc (f : LocalIo → LocalIo) : (setLio f s).pmc = s.pmc := rfl
@[simp] theorem setLio_hists (f : LocalIo → LocalIo) : (setLio f s).hists = s.hists := rfl
@[simp] theorem setLio_dbg (f : LocalIo → LocalIo) : (setLio f s).dbg = s.dbg := rfl
@[simp] theorem setLio_draws (f : LocalIo → LocalIo) : (setLio f s).draws = s.draws := rfl
@[simp] theorem setLio_transfers (f : LocalIo → LocalIo) : (setLio f s).transfers = s.transfers := rfl
@[simp] theorem setLio_droves (f : LocalIo → LocalIo) : (setLio f s).droves = s.droves := rfl
@[simp] theorem setLio_leaves (f : LocalIo → LocalIo) : (setLio f s).leaves = s.leaves := rfl
@[simp] theorem setLio_queues (f : LocalIo → LocalIo) : (setLio f s).queues = s.queues := rfl
@[simp] theorem setLio_slots (f : LocalIo → LocalIo) : (setLio f s).slots = s.slots := rfl
@[simp] theorem setLio_slotPoison (f : LocalIo → LocalIo) : (setLio f s).slotPoison = s.slotPoison := rfl
@[simp] theorem setLio_repeated (f : LocalIo → LocalIo) : (setLio f s).repeated = s.repeated := rfl
@[simp] theorem setLio_tideRec (f : LocalIo → LocalIo) : (setLio f s).tideRec = s.tideRec := rfl
@[simp] theorem setLio_begun (f : LocalIo → LocalIo) : (setLio f s).begun = s.begun := rfl
@[simp] theorem setLio_samples (f : LocalIo → LocalIo) : (setLio f s).samples = s.samples := rfl
@[simp] theorem setLio_mem (f : LocalIo → LocalIo) : (setLio f s).mem = s.mem := rfl
@[simp] theorem setLio_poison (f : LocalIo → LocalIo) : (setLio f s).poison = s.poison := rfl
@[simp] theorem setLio_shepherds (f : LocalIo → LocalIo) : (setLio f s).shepherds = s.shepherds := rfl
@[simp] theorem setLio_subs (f : LocalIo → LocalIo) : (setLio f s).subs = s.subs := rfl
@[simp] theorem setLio_faultCounts (f : LocalIo → LocalIo) : (setLio f s).faultCounts = s.faultCounts := rfl
@[simp] theorem setLio_faultEvents (f : LocalIo → LocalIo) : (setLio f s).faultEvents = s.faultEvents := rfl
@[simp] theorem setLio_faultLogged (f : LocalIo → LocalIo) : (setLio f s).faultLogged = s.faultLogged := rfl
@[simp] theorem setLio_bw (f : LocalIo → LocalIo) : (setLio f s).bw = s.bw := rfl
@[simp] theorem setLio_convs (f : LocalIo → LocalIo) : (setLio f s).convs = s.convs := rfl
@[simp] theorem setLio_legs (f : LocalIo → LocalIo) : (setLio f s).legs = s.legs := rfl
@[simp] theorem setLio_cl (f : LocalIo → LocalIo) : (setLio f s).cl = s.cl := rfl
@[simp] theorem setLio_trace (f : LocalIo → LocalIo) : (setLio f s).trace = s.trace := rfl
@[simp] theorem setLio_solar (f : LocalIo → LocalIo) : (setLio f s).solar = s.solar := rfl
@[simp] theorem setLio_meter (f : LocalIo → LocalIo) : (setLio f s).meter = s.meter := rfl
@[simp] theorem setLio_lio (f : LocalIo → LocalIo) : (setLio f s).lio = f s.lio := rfl
@[simp] theorem setLio_outbox (f : LocalIo → LocalIo) : (setLio f s).outbox = s.outbox := rfl
@[simp] theorem setLio_pending (f : LocalIo → LocalIo) : (setLio f s).pending = s.pending := rfl
@[simp] theorem rd_setLio (f : LocalIo → LocalIo) (j : Nat) : rd (setLio f s) j = rd s j := rfl

/-! ### `setBw` -/

@[simp] theorem setBw_regs (f : Breakwater → Breakwater) : (setBw f s).regs = s.regs := rfl
@[simp] theorem setBw_blobs (f : Breakwater → Breakwater) : (setBw f s).blobs = s.blobs := rfl
@[simp] theorem setBw_time (f : Breakwater → Breakwater) : (setBw f s).time = s.time := rfl
@[simp] theorem setBw_cove (f : Breakwater → Breakwater) : (setBw f s).cove = s.cove := rfl
@[simp] theorem setBw_rp (f : Breakwater → Breakwater) : (setBw f s).rp = s.rp := rfl
@[simp] theorem setBw_cfg (f : Breakwater → Breakwater) : (setBw f s).cfg = s.cfg := rfl
@[simp] theorem setBw_sm (f : Breakwater → Breakwater) : (setBw f s).sm = s.sm := rfl
@[simp] theorem setBw_sessions (f : Breakwater → Breakwater) : (setBw f s).sessions = s.sessions := rfl
@[simp] theorem setBw_images (f : Breakwater → Breakwater) : (setBw f s).images = s.images := rfl
@[simp] theorem setBw_authFails (f : Breakwater → Breakwater) : (setBw f s).authFails = s.authFails := rfl
@[simp] theorem setBw_svSeen (f : Breakwater → Breakwater) : (setBw f s).svSeen = s.svSeen := rfl
@[simp] theorem setBw_log (f : Breakwater → Breakwater) : (setBw f s).log = s.log := rfl
@[simp] theorem setBw_pmc (f : Breakwater → Breakwater) : (setBw f s).pmc = s.pmc := rfl
@[simp] theorem setBw_hists (f : Breakwater → Breakwater) : (setBw f s).hists = s.hists := rfl
@[simp] theorem setBw_dbg (f : Breakwater → Breakwater) : (setBw f s).dbg = s.dbg := rfl
@[simp] theorem setBw_draws (f : Breakwater → Breakwater) : (setBw f s).draws = s.draws := rfl
@[simp] theorem setBw_transfers (f : Breakwater → Breakwater) : (setBw f s).transfers = s.transfers := rfl
@[simp] theorem setBw_droves (f : Breakwater → Breakwater) : (setBw f s).droves = s.droves := rfl
@[simp] theorem setBw_leaves (f : Breakwater → Breakwater) : (setBw f s).leaves = s.leaves := rfl
@[simp] theorem setBw_queues (f : Breakwater → Breakwater) : (setBw f s).queues = s.queues := rfl
@[simp] theorem setBw_slots (f : Breakwater → Breakwater) : (setBw f s).slots = s.slots := rfl
@[simp] theorem setBw_slotPoison (f : Breakwater → Breakwater) : (setBw f s).slotPoison = s.slotPoison := rfl
@[simp] theorem setBw_repeated (f : Breakwater → Breakwater) : (setBw f s).repeated = s.repeated := rfl
@[simp] theorem setBw_tideRec (f : Breakwater → Breakwater) : (setBw f s).tideRec = s.tideRec := rfl
@[simp] theorem setBw_begun (f : Breakwater → Breakwater) : (setBw f s).begun = s.begun := rfl
@[simp] theorem setBw_samples (f : Breakwater → Breakwater) : (setBw f s).samples = s.samples := rfl
@[simp] theorem setBw_mem (f : Breakwater → Breakwater) : (setBw f s).mem = s.mem := rfl
@[simp] theorem setBw_poison (f : Breakwater → Breakwater) : (setBw f s).poison = s.poison := rfl
@[simp] theorem setBw_shepherds (f : Breakwater → Breakwater) : (setBw f s).shepherds = s.shepherds := rfl
@[simp] theorem setBw_subs (f : Breakwater → Breakwater) : (setBw f s).subs = s.subs := rfl
@[simp] theorem setBw_faultCounts (f : Breakwater → Breakwater) : (setBw f s).faultCounts = s.faultCounts := rfl
@[simp] theorem setBw_faultEvents (f : Breakwater → Breakwater) : (setBw f s).faultEvents = s.faultEvents := rfl
@[simp] theorem setBw_faultLogged (f : Breakwater → Breakwater) : (setBw f s).faultLogged = s.faultLogged := rfl
@[simp] theorem setBw_bw (f : Breakwater → Breakwater) : (setBw f s).bw = f s.bw := rfl
@[simp] theorem setBw_convs (f : Breakwater → Breakwater) : (setBw f s).convs = s.convs := rfl
@[simp] theorem setBw_legs (f : Breakwater → Breakwater) : (setBw f s).legs = s.legs := rfl
@[simp] theorem setBw_cl (f : Breakwater → Breakwater) : (setBw f s).cl = s.cl := rfl
@[simp] theorem setBw_trace (f : Breakwater → Breakwater) : (setBw f s).trace = s.trace := rfl
@[simp] theorem setBw_solar (f : Breakwater → Breakwater) : (setBw f s).solar = s.solar := rfl
@[simp] theorem setBw_meter (f : Breakwater → Breakwater) : (setBw f s).meter = s.meter := rfl
@[simp] theorem setBw_lio (f : Breakwater → Breakwater) : (setBw f s).lio = s.lio := rfl
@[simp] theorem setBw_outbox (f : Breakwater → Breakwater) : (setBw f s).outbox = s.outbox := rfl
@[simp] theorem setBw_pending (f : Breakwater → Breakwater) : (setBw f s).pending = s.pending := rfl
@[simp] theorem rd_setBw (f : Breakwater → Breakwater) (j : Nat) : rd (setBw f s) j = rd s j := rfl

/-! ### `setUnit` -/

@[simp] theorem setUnit_regs (f : SolarUnit → SolarUnit) : (setUnit f s).regs = s.regs := rfl
@[simp] theorem setUnit_blobs (f : SolarUnit → SolarUnit) : (setUnit f s).blobs = s.blobs := rfl
@[simp] theorem setUnit_time (f : SolarUnit → SolarUnit) : (setUnit f s).time = s.time := rfl
@[simp] theorem setUnit_cove (f : SolarUnit → SolarUnit) : (setUnit f s).cove = s.cove := rfl
@[simp] theorem setUnit_rp (f : SolarUnit → SolarUnit) : (setUnit f s).rp = s.rp := rfl
@[simp] theorem setUnit_cfg (f : SolarUnit → SolarUnit) : (setUnit f s).cfg = s.cfg := rfl
@[simp] theorem setUnit_sm (f : SolarUnit → SolarUnit) : (setUnit f s).sm = s.sm := rfl
@[simp] theorem setUnit_sessions (f : SolarUnit → SolarUnit) : (setUnit f s).sessions = s.sessions := rfl
@[simp] theorem setUnit_images (f : SolarUnit → SolarUnit) : (setUnit f s).images = s.images := rfl
@[simp] theorem setUnit_authFails (f : SolarUnit → SolarUnit) : (setUnit f s).authFails = s.authFails := rfl
@[simp] theorem setUnit_svSeen (f : SolarUnit → SolarUnit) : (setUnit f s).svSeen = s.svSeen := rfl
@[simp] theorem setUnit_log (f : SolarUnit → SolarUnit) : (setUnit f s).log = s.log := rfl
@[simp] theorem setUnit_pmc (f : SolarUnit → SolarUnit) : (setUnit f s).pmc = s.pmc := rfl
@[simp] theorem setUnit_hists (f : SolarUnit → SolarUnit) : (setUnit f s).hists = s.hists := rfl
@[simp] theorem setUnit_dbg (f : SolarUnit → SolarUnit) : (setUnit f s).dbg = s.dbg := rfl
@[simp] theorem setUnit_draws (f : SolarUnit → SolarUnit) : (setUnit f s).draws = s.draws := rfl
@[simp] theorem setUnit_transfers (f : SolarUnit → SolarUnit) : (setUnit f s).transfers = s.transfers := rfl
@[simp] theorem setUnit_droves (f : SolarUnit → SolarUnit) : (setUnit f s).droves = s.droves := rfl
@[simp] theorem setUnit_leaves (f : SolarUnit → SolarUnit) : (setUnit f s).leaves = s.leaves := rfl
@[simp] theorem setUnit_queues (f : SolarUnit → SolarUnit) : (setUnit f s).queues = s.queues := rfl
@[simp] theorem setUnit_slots (f : SolarUnit → SolarUnit) : (setUnit f s).slots = s.slots := rfl
@[simp] theorem setUnit_slotPoison (f : SolarUnit → SolarUnit) : (setUnit f s).slotPoison = s.slotPoison := rfl
@[simp] theorem setUnit_repeated (f : SolarUnit → SolarUnit) : (setUnit f s).repeated = s.repeated := rfl
@[simp] theorem setUnit_tideRec (f : SolarUnit → SolarUnit) : (setUnit f s).tideRec = s.tideRec := rfl
@[simp] theorem setUnit_begun (f : SolarUnit → SolarUnit) : (setUnit f s).begun = s.begun := rfl
@[simp] theorem setUnit_samples (f : SolarUnit → SolarUnit) : (setUnit f s).samples = s.samples := rfl
@[simp] theorem setUnit_mem (f : SolarUnit → SolarUnit) : (setUnit f s).mem = s.mem := rfl
@[simp] theorem setUnit_poison (f : SolarUnit → SolarUnit) : (setUnit f s).poison = s.poison := rfl
@[simp] theorem setUnit_shepherds (f : SolarUnit → SolarUnit) : (setUnit f s).shepherds = s.shepherds := rfl
@[simp] theorem setUnit_subs (f : SolarUnit → SolarUnit) : (setUnit f s).subs = s.subs := rfl
@[simp] theorem setUnit_faultCounts (f : SolarUnit → SolarUnit) : (setUnit f s).faultCounts = s.faultCounts := rfl
@[simp] theorem setUnit_faultEvents (f : SolarUnit → SolarUnit) : (setUnit f s).faultEvents = s.faultEvents := rfl
@[simp] theorem setUnit_faultLogged (f : SolarUnit → SolarUnit) : (setUnit f s).faultLogged = s.faultLogged := rfl
@[simp] theorem setUnit_bw (f : SolarUnit → SolarUnit) : (setUnit f s).bw = s.bw := rfl
@[simp] theorem setUnit_convs (f : SolarUnit → SolarUnit) : (setUnit f s).convs = s.convs := rfl
@[simp] theorem setUnit_legs (f : SolarUnit → SolarUnit) : (setUnit f s).legs = s.legs := rfl
@[simp] theorem setUnit_cl (f : SolarUnit → SolarUnit) : (setUnit f s).cl = s.cl := rfl
@[simp] theorem setUnit_trace (f : SolarUnit → SolarUnit) : (setUnit f s).trace = s.trace := rfl
@[simp] theorem setUnit_solar (f : SolarUnit → SolarUnit) : (setUnit f s).solar = f s.solar := rfl
@[simp] theorem setUnit_meter (f : SolarUnit → SolarUnit) : (setUnit f s).meter = s.meter := rfl
@[simp] theorem setUnit_lio (f : SolarUnit → SolarUnit) : (setUnit f s).lio = s.lio := rfl
@[simp] theorem setUnit_outbox (f : SolarUnit → SolarUnit) : (setUnit f s).outbox = s.outbox := rfl
@[simp] theorem setUnit_pending (f : SolarUnit → SolarUnit) : (setUnit f s).pending = s.pending := rfl
@[simp] theorem rd_setUnit (f : SolarUnit → SolarUnit) (j : Nat) : rd (setUnit f s) j = rd s j := rfl

/-! ### `setConv` -/

@[simp] theorem setConv_regs (c : Nat) (f : Converter → Converter) : (setConv c f s).regs = s.regs := rfl
@[simp] theorem setConv_blobs (c : Nat) (f : Converter → Converter) : (setConv c f s).blobs = s.blobs := rfl
@[simp] theorem setConv_time (c : Nat) (f : Converter → Converter) : (setConv c f s).time = s.time := rfl
@[simp] theorem setConv_cove (c : Nat) (f : Converter → Converter) : (setConv c f s).cove = s.cove := rfl
@[simp] theorem setConv_rp (c : Nat) (f : Converter → Converter) : (setConv c f s).rp = s.rp := rfl
@[simp] theorem setConv_cfg (c : Nat) (f : Converter → Converter) : (setConv c f s).cfg = s.cfg := rfl
@[simp] theorem setConv_sm (c : Nat) (f : Converter → Converter) : (setConv c f s).sm = s.sm := rfl
@[simp] theorem setConv_sessions (c : Nat) (f : Converter → Converter) : (setConv c f s).sessions = s.sessions := rfl
@[simp] theorem setConv_images (c : Nat) (f : Converter → Converter) : (setConv c f s).images = s.images := rfl
@[simp] theorem setConv_authFails (c : Nat) (f : Converter → Converter) : (setConv c f s).authFails = s.authFails := rfl
@[simp] theorem setConv_svSeen (c : Nat) (f : Converter → Converter) : (setConv c f s).svSeen = s.svSeen := rfl
@[simp] theorem setConv_log (c : Nat) (f : Converter → Converter) : (setConv c f s).log = s.log := rfl
@[simp] theorem setConv_pmc (c : Nat) (f : Converter → Converter) : (setConv c f s).pmc = s.pmc := rfl
@[simp] theorem setConv_hists (c : Nat) (f : Converter → Converter) : (setConv c f s).hists = s.hists := rfl
@[simp] theorem setConv_dbg (c : Nat) (f : Converter → Converter) : (setConv c f s).dbg = s.dbg := rfl
@[simp] theorem setConv_draws (c : Nat) (f : Converter → Converter) : (setConv c f s).draws = s.draws := rfl
@[simp] theorem setConv_transfers (c : Nat) (f : Converter → Converter) : (setConv c f s).transfers = s.transfers := rfl
@[simp] theorem setConv_droves (c : Nat) (f : Converter → Converter) : (setConv c f s).droves = s.droves := rfl
@[simp] theorem setConv_leaves (c : Nat) (f : Converter → Converter) : (setConv c f s).leaves = s.leaves := rfl
@[simp] theorem setConv_queues (c : Nat) (f : Converter → Converter) : (setConv c f s).queues = s.queues := rfl
@[simp] theorem setConv_slots (c : Nat) (f : Converter → Converter) : (setConv c f s).slots = s.slots := rfl
@[simp] theorem setConv_slotPoison (c : Nat) (f : Converter → Converter) : (setConv c f s).slotPoison = s.slotPoison := rfl
@[simp] theorem setConv_repeated (c : Nat) (f : Converter → Converter) : (setConv c f s).repeated = s.repeated := rfl
@[simp] theorem setConv_tideRec (c : Nat) (f : Converter → Converter) : (setConv c f s).tideRec = s.tideRec := rfl
@[simp] theorem setConv_begun (c : Nat) (f : Converter → Converter) : (setConv c f s).begun = s.begun := rfl
@[simp] theorem setConv_samples (c : Nat) (f : Converter → Converter) : (setConv c f s).samples = s.samples := rfl
@[simp] theorem setConv_mem (c : Nat) (f : Converter → Converter) : (setConv c f s).mem = s.mem := rfl
@[simp] theorem setConv_poison (c : Nat) (f : Converter → Converter) : (setConv c f s).poison = s.poison := rfl
@[simp] theorem setConv_shepherds (c : Nat) (f : Converter → Converter) : (setConv c f s).shepherds = s.shepherds := rfl
@[simp] theorem setConv_subs (c : Nat) (f : Converter → Converter) : (setConv c f s).subs = s.subs := rfl
@[simp] theorem setConv_faultCounts (c : Nat) (f : Converter → Converter) : (setConv c f s).faultCounts = s.faultCounts := rfl
@[simp] theorem setConv_faultEvents (c : Nat) (f : Converter → Converter) : (setConv c f s).faultEvents = s.faultEvents := rfl
@[simp] theorem setConv_faultLogged (c : Nat) (f : Converter → Converter) : (setConv c f s).faultLogged = s.faultLogged := rfl
@[simp] theorem setConv_bw (c : Nat) (f : Converter → Converter) : (setConv c f s).bw = s.bw := rfl
@[simp] theorem setConv_convs (c : Nat) (f : Converter → Converter) : (setConv c f s).convs = s.convs.modify c f := rfl
@[simp] theorem setConv_legs (c : Nat) (f : Converter → Converter) : (setConv c f s).legs = s.legs := rfl
@[simp] theorem setConv_cl (c : Nat) (f : Converter → Converter) : (setConv c f s).cl = s.cl := rfl
@[simp] theorem setConv_trace (c : Nat) (f : Converter → Converter) : (setConv c f s).trace = s.trace := rfl
@[simp] theorem setConv_solar (c : Nat) (f : Converter → Converter) : (setConv c f s).solar = s.solar := rfl
@[simp] theorem setConv_meter (c : Nat) (f : Converter → Converter) : (setConv c f s).meter = s.meter := rfl
@[simp] theorem setConv_lio (c : Nat) (f : Converter → Converter) : (setConv c f s).lio = s.lio := rfl
@[simp] theorem setConv_outbox (c : Nat) (f : Converter → Converter) : (setConv c f s).outbox = s.outbox := rfl
@[simp] theorem setConv_pending (c : Nat) (f : Converter → Converter) : (setConv c f s).pending = s.pending := rfl
@[simp] theorem rd_setConv (c : Nat) (f : Converter → Converter) (j : Nat) : rd (setConv c f s) j = rd s j := rfl

/-! ### `setLeg` -/

@[simp] theorem setLeg_regs (g : Nat) (f : Leg → Leg) : (setLeg g f s).regs = s.regs := rfl
@[simp] theorem setLeg_blobs (g : Nat) (f : Leg → Leg) : (setLeg g f s).blobs = s.blobs := rfl
@[simp] theorem setLeg_time (g : Nat) (f : Leg → Leg) : (setLeg g f s).time = s.time := rfl
@[simp] theorem setLeg_cove (g : Nat) (f : Leg → Leg) : (setLeg g f s).cove = s.cove := rfl
@[simp] theorem setLeg_rp (g : Nat) (f : Leg → Leg) : (setLeg g f s).rp = s.rp := rfl
@[simp] theorem setLeg_cfg (g : Nat) (f : Leg → Leg) : (setLeg g f s).cfg = s.cfg := rfl
@[simp] theorem setLeg_sm (g : Nat) (f : Leg → Leg) : (setLeg g f s).sm = s.sm := rfl
@[simp] theorem setLeg_sessions (g : Nat) (f : Leg → Leg) : (setLeg g f s).sessions = s.sessions := rfl
@[simp] theorem setLeg_images (g : Nat) (f : Leg → Leg) : (setLeg g f s).images = s.images := rfl
@[simp] theorem setLeg_authFails (g : Nat) (f : Leg → Leg) : (setLeg g f s).authFails = s.authFails := rfl
@[simp] theorem setLeg_svSeen (g : Nat) (f : Leg → Leg) : (setLeg g f s).svSeen = s.svSeen := rfl
@[simp] theorem setLeg_log (g : Nat) (f : Leg → Leg) : (setLeg g f s).log = s.log := rfl
@[simp] theorem setLeg_pmc (g : Nat) (f : Leg → Leg) : (setLeg g f s).pmc = s.pmc := rfl
@[simp] theorem setLeg_hists (g : Nat) (f : Leg → Leg) : (setLeg g f s).hists = s.hists := rfl
@[simp] theorem setLeg_dbg (g : Nat) (f : Leg → Leg) : (setLeg g f s).dbg = s.dbg := rfl
@[simp] theorem setLeg_draws (g : Nat) (f : Leg → Leg) : (setLeg g f s).draws = s.draws := rfl
@[simp] theorem setLeg_transfers (g : Nat) (f : Leg → Leg) : (setLeg g f s).transfers = s.transfers := rfl
@[simp] theorem setLeg_droves (g : Nat) (f : Leg → Leg) : (setLeg g f s).droves = s.droves := rfl
@[simp] theorem setLeg_leaves (g : Nat) (f : Leg → Leg) : (setLeg g f s).leaves = s.leaves := rfl
@[simp] theorem setLeg_queues (g : Nat) (f : Leg → Leg) : (setLeg g f s).queues = s.queues := rfl
@[simp] theorem setLeg_slots (g : Nat) (f : Leg → Leg) : (setLeg g f s).slots = s.slots := rfl
@[simp] theorem setLeg_slotPoison (g : Nat) (f : Leg → Leg) : (setLeg g f s).slotPoison = s.slotPoison := rfl
@[simp] theorem setLeg_repeated (g : Nat) (f : Leg → Leg) : (setLeg g f s).repeated = s.repeated := rfl
@[simp] theorem setLeg_tideRec (g : Nat) (f : Leg → Leg) : (setLeg g f s).tideRec = s.tideRec := rfl
@[simp] theorem setLeg_begun (g : Nat) (f : Leg → Leg) : (setLeg g f s).begun = s.begun := rfl
@[simp] theorem setLeg_samples (g : Nat) (f : Leg → Leg) : (setLeg g f s).samples = s.samples := rfl
@[simp] theorem setLeg_mem (g : Nat) (f : Leg → Leg) : (setLeg g f s).mem = s.mem := rfl
@[simp] theorem setLeg_poison (g : Nat) (f : Leg → Leg) : (setLeg g f s).poison = s.poison := rfl
@[simp] theorem setLeg_shepherds (g : Nat) (f : Leg → Leg) : (setLeg g f s).shepherds = s.shepherds := rfl
@[simp] theorem setLeg_subs (g : Nat) (f : Leg → Leg) : (setLeg g f s).subs = s.subs := rfl
@[simp] theorem setLeg_faultCounts (g : Nat) (f : Leg → Leg) : (setLeg g f s).faultCounts = s.faultCounts := rfl
@[simp] theorem setLeg_faultEvents (g : Nat) (f : Leg → Leg) : (setLeg g f s).faultEvents = s.faultEvents := rfl
@[simp] theorem setLeg_faultLogged (g : Nat) (f : Leg → Leg) : (setLeg g f s).faultLogged = s.faultLogged := rfl
@[simp] theorem setLeg_bw (g : Nat) (f : Leg → Leg) : (setLeg g f s).bw = s.bw := rfl
@[simp] theorem setLeg_convs (g : Nat) (f : Leg → Leg) : (setLeg g f s).convs = s.convs := rfl
@[simp] theorem setLeg_legs (g : Nat) (f : Leg → Leg) : (setLeg g f s).legs = s.legs.modify g f := rfl
@[simp] theorem setLeg_cl (g : Nat) (f : Leg → Leg) : (setLeg g f s).cl = s.cl := rfl
@[simp] theorem setLeg_trace (g : Nat) (f : Leg → Leg) : (setLeg g f s).trace = s.trace := rfl
@[simp] theorem setLeg_solar (g : Nat) (f : Leg → Leg) : (setLeg g f s).solar = s.solar := rfl
@[simp] theorem setLeg_meter (g : Nat) (f : Leg → Leg) : (setLeg g f s).meter = s.meter := rfl
@[simp] theorem setLeg_lio (g : Nat) (f : Leg → Leg) : (setLeg g f s).lio = s.lio := rfl
@[simp] theorem setLeg_outbox (g : Nat) (f : Leg → Leg) : (setLeg g f s).outbox = s.outbox := rfl
@[simp] theorem setLeg_pending (g : Nat) (f : Leg → Leg) : (setLeg g f s).pending = s.pending := rfl
@[simp] theorem rd_setLeg (g : Nat) (f : Leg → Leg) (j : Nat) : rd (setLeg g f s) j = rd s j := rfl

/-! ### `setShepherd` -/

@[simp] theorem setShepherd_regs (a : Nat) (f : Shepherd → Shepherd) : (setShepherd a f s).regs = s.regs := rfl
@[simp] theorem setShepherd_blobs (a : Nat) (f : Shepherd → Shepherd) : (setShepherd a f s).blobs = s.blobs := rfl
@[simp] theorem setShepherd_time (a : Nat) (f : Shepherd → Shepherd) : (setShepherd a f s).time = s.time := rfl
@[simp] theorem setShepherd_cove (a : Nat) (f : Shepherd → Shepherd) : (setShepherd a f s).cove = s.cove := rfl
@[simp] theorem setShepherd_rp (a : Nat) (f : Shepherd → Shepherd) : (setShepherd a f s).rp = s.rp := rfl
@[simp] theorem setShepherd_cfg (a : Nat) (f : Shepherd → Shepherd) : (setShepherd a f s).cfg = s.cfg := rfl
@[simp] theorem setShepherd_sm (a : Nat) (f : Shepherd → Shepherd) : (setShepherd a f s).sm = s.sm := rfl
@[simp] theorem setShepherd_sessions (a : Nat) (f : Shepherd → Shepherd) : (setShepherd a f s).sessions = s.sessions := rfl
@[simp] theorem setShepherd_images (a : Nat) (f : Shepherd → Shepherd) : (setShepherd a f s).images = s.images := rfl
@[simp] theorem setShepherd_authFails (a : Nat) (f : Shepherd → Shepherd) : (setShepherd a f s).authFails = s.authFails := rfl
@[simp] theorem setShepherd_svSeen (a : Nat) (f : Shepherd → Shepherd) : (setShepherd a f s).svSeen = s.svSeen := rfl
@[simp] theorem setShepherd_log (a : Nat) (f : Shepherd → Shepherd) : (setShepherd a f s).log = s.log := rfl
@[simp] theorem setShepherd_pmc (a : Nat) (f : Shepherd → Shepherd) : (setShepherd a f s).pmc = s.pmc := rfl
@[simp] theorem setShepherd_hists (a : Nat) (f : Shepherd → Shepherd) : (setShepherd a f s).hists = s.hists := rfl
@[simp] theorem setShepherd_dbg (a : Nat) (f : Shepherd → Shepherd) : (setShepherd a f s).dbg = s.dbg := rfl
@[simp] theorem setShepherd_draws (a : Nat) (f : Shepherd → Shepherd) : (setShepherd a f s).draws = s.draws := rfl
@[simp] theorem setShepherd_transfers (a : Nat) (f : Shepherd → Shepherd) : (setShepherd a f s).transfers = s.transfers := rfl
@[simp] theorem setShepherd_droves (a : Nat) (f : Shepherd → Shepherd) : (setShepherd a f s).droves = s.droves := rfl
@[simp] theorem setShepherd_leaves (a : Nat) (f : Shepherd → Shepherd) : (setShepherd a f s).leaves = s.leaves := rfl
@[simp] theorem setShepherd_queues (a : Nat) (f : Shepherd → Shepherd) : (setShepherd a f s).queues = s.queues := rfl
@[simp] theorem setShepherd_slots (a : Nat) (f : Shepherd → Shepherd) : (setShepherd a f s).slots = s.slots := rfl
@[simp] theorem setShepherd_slotPoison (a : Nat) (f : Shepherd → Shepherd) : (setShepherd a f s).slotPoison = s.slotPoison := rfl
@[simp] theorem setShepherd_repeated (a : Nat) (f : Shepherd → Shepherd) : (setShepherd a f s).repeated = s.repeated := rfl
@[simp] theorem setShepherd_tideRec (a : Nat) (f : Shepherd → Shepherd) : (setShepherd a f s).tideRec = s.tideRec := rfl
@[simp] theorem setShepherd_begun (a : Nat) (f : Shepherd → Shepherd) : (setShepherd a f s).begun = s.begun := rfl
@[simp] theorem setShepherd_samples (a : Nat) (f : Shepherd → Shepherd) : (setShepherd a f s).samples = s.samples := rfl
@[simp] theorem setShepherd_mem (a : Nat) (f : Shepherd → Shepherd) : (setShepherd a f s).mem = s.mem := rfl
@[simp] theorem setShepherd_poison (a : Nat) (f : Shepherd → Shepherd) : (setShepherd a f s).poison = s.poison := rfl
@[simp] theorem setShepherd_shepherds (a : Nat) (f : Shepherd → Shepherd) : (setShepherd a f s).shepherds = s.shepherds.modify a f := rfl
@[simp] theorem setShepherd_subs (a : Nat) (f : Shepherd → Shepherd) : (setShepherd a f s).subs = s.subs := rfl
@[simp] theorem setShepherd_faultCounts (a : Nat) (f : Shepherd → Shepherd) : (setShepherd a f s).faultCounts = s.faultCounts := rfl
@[simp] theorem setShepherd_faultEvents (a : Nat) (f : Shepherd → Shepherd) : (setShepherd a f s).faultEvents = s.faultEvents := rfl
@[simp] theorem setShepherd_faultLogged (a : Nat) (f : Shepherd → Shepherd) : (setShepherd a f s).faultLogged = s.faultLogged := rfl
@[simp] theorem setShepherd_bw (a : Nat) (f : Shepherd → Shepherd) : (setShepherd a f s).bw = s.bw := rfl
@[simp] theorem setShepherd_convs (a : Nat) (f : Shepherd → Shepherd) : (setShepherd a f s).convs = s.convs := rfl
@[simp] theorem setShepherd_legs (a : Nat) (f : Shepherd → Shepherd) : (setShepherd a f s).legs = s.legs := rfl
@[simp] theorem setShepherd_cl (a : Nat) (f : Shepherd → Shepherd) : (setShepherd a f s).cl = s.cl := rfl
@[simp] theorem setShepherd_trace (a : Nat) (f : Shepherd → Shepherd) : (setShepherd a f s).trace = s.trace := rfl
@[simp] theorem setShepherd_solar (a : Nat) (f : Shepherd → Shepherd) : (setShepherd a f s).solar = s.solar := rfl
@[simp] theorem setShepherd_meter (a : Nat) (f : Shepherd → Shepherd) : (setShepherd a f s).meter = s.meter := rfl
@[simp] theorem setShepherd_lio (a : Nat) (f : Shepherd → Shepherd) : (setShepherd a f s).lio = s.lio := rfl
@[simp] theorem setShepherd_outbox (a : Nat) (f : Shepherd → Shepherd) : (setShepherd a f s).outbox = s.outbox := rfl
@[simp] theorem setShepherd_pending (a : Nat) (f : Shepherd → Shepherd) : (setShepherd a f s).pending = s.pending := rfl
@[simp] theorem rd_setShepherd (a : Nat) (f : Shepherd → Shepherd) (j : Nat) : rd (setShepherd a f s) j = rd s j := rfl

/-! ### `setSub` -/

@[simp] theorem setSub_regs (k : Nat) (f : Subscription → Subscription) : (setSub k f s).regs = s.regs := rfl
@[simp] theorem setSub_blobs (k : Nat) (f : Subscription → Subscription) : (setSub k f s).blobs = s.blobs := rfl
@[simp] theorem setSub_time (k : Nat) (f : Subscription → Subscription) : (setSub k f s).time = s.time := rfl
@[simp] theorem setSub_cove (k : Nat) (f : Subscription → Subscription) : (setSub k f s).cove = s.cove := rfl
@[simp] theorem setSub_rp (k : Nat) (f : Subscription → Subscription) : (setSub k f s).rp = s.rp := rfl
@[simp] theorem setSub_cfg (k : Nat) (f : Subscription → Subscription) : (setSub k f s).cfg = s.cfg := rfl
@[simp] theorem setSub_sm (k : Nat) (f : Subscription → Subscription) : (setSub k f s).sm = s.sm := rfl
@[simp] theorem setSub_sessions (k : Nat) (f : Subscription → Subscription) : (setSub k f s).sessions = s.sessions := rfl
@[simp] theorem setSub_images (k : Nat) (f : Subscription → Subscription) : (setSub k f s).images = s.images := rfl
@[simp] theorem setSub_authFails (k : Nat) (f : Subscription → Subscription) : (setSub k f s).authFails = s.authFails := rfl
@[simp] theorem setSub_svSeen (k : Nat) (f : Subscription → Subscription) : (setSub k f s).svSeen = s.svSeen := rfl
@[simp] theorem setSub_log (k : Nat) (f : Subscription → Subscription) : (setSub k f s).log = s.log := rfl
@[simp] theorem setSub_pmc (k : Nat) (f : Subscription → Subscription) : (setSub k f s).pmc = s.pmc := rfl
@[simp] theorem setSub_hists (k : Nat) (f : Subscription → Subscription) : (setSub k f s).hists = s.hists := rfl
@[simp] theorem setSub_dbg (k : Nat) (f : Subscription → Subscription) : (setSub k f s).dbg = s.dbg := rfl
@[simp] theorem setSub_draws (k : Nat) (f : Subscription → Subscription) : (setSub k f s).draws = s.draws := rfl
@[simp] theorem setSub_transfers (k : Nat) (f : Subscription → Subscription) : (setSub k f s).transfers = s.transfers := rfl
@[simp] theorem setSub_droves (k : Nat) (f : Subscription → Subscription) : (setSub k f s).droves = s.droves := rfl
@[simp] theorem setSub_leaves (k : Nat) (f : Subscription → Subscription) : (setSub k f s).leaves = s.leaves := rfl
@[simp] theorem setSub_queues (k : Nat) (f : Subscription → Subscription) : (setSub k f s).queues = s.queues := rfl
@[simp] theorem setSub_slots (k : Nat) (f : Subscription → Subscription) : (setSub k f s).slots = s.slots := rfl
@[simp] theorem setSub_slotPoison (k : Nat) (f : Subscription → Subscription) : (setSub k f s).slotPoison = s.slotPoison := rfl
@[simp] theorem setSub_repeated (k : Nat) (f : Subscription → Subscription) : (setSub k f s).repeated = s.repeated := rfl
@[simp] theorem setSub_tideRec (k : Nat) (f : Subscription → Subscription) : (setSub k f s).tideRec = s.tideRec := rfl
@[simp] theorem setSub_begun (k : Nat) (f : Subscription → Subscription) : (setSub k f s).begun = s.begun := rfl
@[simp] theorem setSub_samples (k : Nat) (f : Subscription → Subscription) : (setSub k f s).samples = s.samples := rfl
@[simp] theorem setSub_mem (k : Nat) (f : Subscription → Subscription) : (setSub k f s).mem = s.mem := rfl
@[simp] theorem setSub_poison (k : Nat) (f : Subscription → Subscription) : (setSub k f s).poison = s.poison := rfl
@[simp] theorem setSub_shepherds (k : Nat) (f : Subscription → Subscription) : (setSub k f s).shepherds = s.shepherds := rfl
@[simp] theorem setSub_subs (k : Nat) (f : Subscription → Subscription) : (setSub k f s).subs = s.subs.modify k f := rfl
@[simp] theorem setSub_faultCounts (k : Nat) (f : Subscription → Subscription) : (setSub k f s).faultCounts = s.faultCounts := rfl
@[simp] theorem setSub_faultEvents (k : Nat) (f : Subscription → Subscription) : (setSub k f s).faultEvents = s.faultEvents := rfl
@[simp] theorem setSub_faultLogged (k : Nat) (f : Subscription → Subscription) : (setSub k f s).faultLogged = s.faultLogged := rfl
@[simp] theorem setSub_bw (k : Nat) (f : Subscription → Subscription) : (setSub k f s).bw = s.bw := rfl
@[simp] theorem setSub_convs (k : Nat) (f : Subscription → Subscription) : (setSub k f s).convs = s.convs := rfl
@[simp] theorem setSub_legs (k : Nat) (f : Subscription → Subscription) : (setSub k f s).legs = s.legs := rfl
@[simp] theorem setSub_cl (k : Nat) (f : Subscription → Subscription) : (setSub k f s).cl = s.cl := rfl
@[simp] theorem setSub_trace (k : Nat) (f : Subscription → Subscription) : (setSub k f s).trace = s.trace := rfl
@[simp] theorem setSub_solar (k : Nat) (f : Subscription → Subscription) : (setSub k f s).solar = s.solar := rfl
@[simp] theorem setSub_meter (k : Nat) (f : Subscription → Subscription) : (setSub k f s).meter = s.meter := rfl
@[simp] theorem setSub_lio (k : Nat) (f : Subscription → Subscription) : (setSub k f s).lio = s.lio := rfl
@[simp] theorem setSub_outbox (k : Nat) (f : Subscription → Subscription) : (setSub k f s).outbox = s.outbox := rfl
@[simp] theorem setSub_pending (k : Nat) (f : Subscription → Subscription) : (setSub k f s).pending = s.pending := rfl
@[simp] theorem rd_setSub (k : Nat) (f : Subscription → Subscription) (j : Nat) : rd (setSub k f s) j = rd s j := rfl

/-! ### `setLeaf` -/

@[simp] theorem setLeaf_regs (L : Nat) (f : Leaf → Leaf) : (setLeaf L f s).regs = s.regs := rfl
@[simp] theorem setLeaf_blobs (L : Nat) (f : Leaf → Leaf) : (setLeaf L f s).blobs = s.blobs := rfl
@[simp] theorem setLeaf_time (L : Nat) (f : Leaf → Leaf) : (setLeaf L f s).time = s.time := rfl
@[simp] theorem setLeaf_cove (L : Nat) (f : Leaf → Leaf) : (setLeaf L f s).cove = s.cove := rfl
@[simp] theorem setLeaf_rp (L : Nat) (f : Leaf → Leaf) : (setLeaf L f s).rp = s.rp := rfl
@[simp] theorem setLeaf_cfg (L : Nat) (f : Leaf → Leaf) : (setLeaf L f s).cfg = s.cfg := rfl
@[simp] theorem setLeaf_sm (L : Nat) (f : Leaf → Leaf) : (setLeaf L f s).sm = s.sm := rfl
@[simp] theorem setLeaf_sessions (L : Nat) (f : Leaf → Leaf) : (setLeaf L f s).sessions = s.sessions := rfl
@[simp] theorem setLeaf_images (L : Nat) (f : Leaf → Leaf) : (setLeaf L f s).images = s.images := rfl
@[simp] theorem setLeaf_authFails (L : Nat) (f : Leaf → Leaf) : (setLeaf L f s).authFails = s.authFails := rfl
@[simp] theorem setLeaf_svSeen (L : Nat) (f : Leaf → Leaf) : (setLeaf L f s).svSeen = s.svSeen := rfl
@[simp] theorem setLeaf_log (L : Nat) (f : Leaf → Leaf) : (setLeaf L f s).log = s.log := rfl
@[simp] theorem setLeaf_pmc (L : Nat) (f : Leaf → Leaf) : (setLeaf L f s).pmc = s.pmc := rfl
@[simp] theorem setLeaf_hists (L : Nat) (f : Leaf → Leaf) : (setLeaf L f s).hists = s.hists := rfl
@[simp] theorem setLeaf_dbg (L : Nat) (f : Leaf → Leaf) : (setLeaf L f s).dbg = s.dbg := rfl
@[simp] theorem setLeaf_draws (L : Nat) (f : Leaf → Leaf) : (setLeaf L f s).draws = s.draws := rfl
@[simp] theorem setLeaf_transfers (L : Nat) (f : Leaf → Leaf) : (setLeaf L f s).transfers = s.transfers := rfl
@[simp] theorem setLeaf_droves (L : Nat) (f : Leaf → Leaf) : (setLeaf L f s).droves = s.droves := rfl
@[simp] theorem setLeaf_queues (L : Nat) (f : Leaf → Leaf) : (setLeaf L f s).queues = s.queues := rfl
@[simp] theorem setLeaf_slots (L : Nat) (f : Leaf → Leaf) : (setLeaf L f s).slots = s.slots := rfl
@[simp] theorem setLeaf_slotPoison (L : Nat) (f : Leaf → Leaf) : (setLeaf L f s).slotPoison = s.slotPoison := rfl
@[simp] theorem setLeaf_repeated (L : Nat) (f : Leaf → Leaf) : (setLeaf L f s).repeated = s.repeated := rfl
@[simp] theorem setLeaf_tideRec (L : Nat) (f : Leaf → Leaf) : (setLeaf L f s).tideRec = s.tideRec := rfl
@[simp] theorem setLeaf_begun (L : Nat) (f : Leaf → Leaf) : (setLeaf L f s).begun = s.begun := rfl
@[simp] theorem setLeaf_samples (L : Nat) (f : Leaf → Leaf) : (setLeaf L f s).samples = s.samples := rfl
@[simp] theorem setLeaf_mem (L : Nat) (f : Leaf → Leaf) : (setLeaf L f s).mem = s.mem := rfl
@[simp] theorem setLeaf_poison (L : Nat) (f : Leaf → Leaf) : (setLeaf L f s).poison = s.poison := rfl
@[simp] theorem setLeaf_shepherds (L : Nat) (f : Leaf → Leaf) : (setLeaf L f s).shepherds = s.shepherds := rfl
@[simp] theorem setLeaf_subs (L : Nat) (f : Leaf → Leaf) : (setLeaf L f s).subs = s.subs := rfl
@[simp] theorem setLeaf_faultCounts (L : Nat) (f : Leaf → Leaf) : (setLeaf L f s).faultCounts = s.faultCounts := rfl
@[simp] theorem setLeaf_faultEvents (L : Nat) (f : Leaf → Leaf) : (setLeaf L f s).faultEvents = s.faultEvents := rfl
@[simp] theorem setLeaf_faultLogged (L : Nat) (f : Leaf → Leaf) : (setLeaf L f s).faultLogged = s.faultLogged := rfl
@[simp] theorem setLeaf_bw (L : Nat) (f : Leaf → Leaf) : (setLeaf L f s).bw = s.bw := rfl
@[simp] theorem setLeaf_convs (L : Nat) (f : Leaf → Leaf) : (setLeaf L f s).convs = s.convs := rfl
@[simp] theorem setLeaf_legs (L : Nat) (f : Leaf → Leaf) : (setLeaf L f s).legs = s.legs := rfl
@[simp] theorem setLeaf_cl (L : Nat) (f : Leaf → Leaf) : (setLeaf L f s).cl = s.cl := rfl
@[simp] theorem setLeaf_trace (L : Nat) (f : Leaf → Leaf) : (setLeaf L f s).trace = s.trace := rfl
@[simp] theorem setLeaf_solar (L : Nat) (f : Leaf → Leaf) : (setLeaf L f s).solar = s.solar := rfl
@[simp] theorem setLeaf_meter (L : Nat) (f : Leaf → Leaf) : (setLeaf L f s).meter = s.meter := rfl
@[simp] theorem setLeaf_lio (L : Nat) (f : Leaf → Leaf) : (setLeaf L f s).lio = s.lio := rfl
@[simp] theorem setLeaf_outbox (L : Nat) (f : Leaf → Leaf) : (setLeaf L f s).outbox = s.outbox := rfl
@[simp] theorem setLeaf_pending (L : Nat) (f : Leaf → Leaf) : (setLeaf L f s).pending = s.pending := rfl
@[simp] theorem rd_setLeaf (L : Nat) (f : Leaf → Leaf) (j : Nat) : rd (setLeaf L f s) j = rd s j := rfl

/-! ### `setDrove` -/

@[simp] theorem setDrove_regs (d : Nat) (f : Drove → Drove) : (setDrove d f s).regs = s.regs := rfl
@[simp] theorem setDrove_blobs (d : Nat) (f : Drove → Drove) : (setDrove d f s).blobs = s.blobs := rfl
@[simp] theorem setDrove_time (d : Nat) (f : Drove → Drove) : (setDrove d f s).time = s.time := rfl
@[simp] theorem setDrove_cove (d : Nat) (f : Drove → Drove) : (setDrove d f s).cove = s.cove := rfl
@[simp] theorem setDrove_rp (d : Nat) (f : Drove → Drove) : (setDrove d f s).rp = s.rp := rfl
@[simp] theorem setDrove_cfg (d : Nat) (f : Drove → Drove) : (setDrove d f s).cfg = s.cfg := rfl
@[simp] theorem setDrove_sm (d : Nat) (f : Drove → Drove) : (setDrove d f s).sm = s.sm := rfl
@[simp] theorem setDrove_sessions (d : Nat) (f : Drove → Drove) : (setDrove d f s).sessions = s.sessions := rfl
@[simp] theorem setDrove_images (d : Nat) (f : Drove → Drove) : (setDrove d f s).images = s.images := rfl
@[simp] theorem setDrove_authFails (d : Nat) (f : Drove → Drove) : (setDrove d f s).authFails = s.authFails := rfl
@[simp] theorem setDrove_svSeen (d : Nat) (f : Drove → Drove) : (setDrove d f s).svSeen = s.svSeen := rfl
@[simp] theorem setDrove_log (d : Nat) (f : Drove → Drove) : (setDrove d f s).log = s.log := rfl
@[simp] theorem setDrove_pmc (d : Nat) (f : Drove → Drove) : (setDrove d f s).pmc = s.pmc := rfl
@[simp] theorem setDrove_hists (d : Nat) (f : Drove → Drove) : (setDrove d f s).hists = s.hists := rfl
@[simp] theorem setDrove_dbg (d : Nat) (f : Drove → Drove) : (setDrove d f s).dbg = s.dbg := rfl
@[simp] theorem setDrove_draws (d : Nat) (f : Drove → Drove) : (setDrove d f s).draws = s.draws := rfl
@[simp] theorem setDrove_transfers (d : Nat) (f : Drove → Drove) : (setDrove d f s).transfers = s.transfers := rfl
@[simp] theorem setDrove_leaves (d : Nat) (f : Drove → Drove) : (setDrove d f s).leaves = s.leaves := rfl
@[simp] theorem setDrove_queues (d : Nat) (f : Drove → Drove) : (setDrove d f s).queues = s.queues := rfl
@[simp] theorem setDrove_slots (d : Nat) (f : Drove → Drove) : (setDrove d f s).slots = s.slots := rfl
@[simp] theorem setDrove_slotPoison (d : Nat) (f : Drove → Drove) : (setDrove d f s).slotPoison = s.slotPoison := rfl
@[simp] theorem setDrove_repeated (d : Nat) (f : Drove → Drove) : (setDrove d f s).repeated = s.repeated := rfl
@[simp] theorem setDrove_tideRec (d : Nat) (f : Drove → Drove) : (setDrove d f s).tideRec = s.tideRec := rfl
@[simp] theorem setDrove_begun (d : Nat) (f : Drove → Drove) : (setDrove d f s).begun = s.begun := rfl
@[simp] theorem setDrove_samples (d : Nat) (f : Drove → Drove) : (setDrove d f s).samples = s.samples := rfl
@[simp] theorem setDrove_mem (d : Nat) (f : Drove → Drove) : (setDrove d f s).mem = s.mem := rfl
@[simp] theorem setDrove_poison (d : Nat) (f : Drove → Drove) : (setDrove d f s).poison = s.poison := rfl
@[simp] theorem setDrove_shepherds (d : Nat) (f : Drove → Drove) : (setDrove d f s).shepherds = s.shepherds := rfl
@[simp] theorem setDrove_subs (d : Nat) (f : Drove → Drove) : (setDrove d f s).subs = s.subs := rfl
@[simp] theorem setDrove_faultCounts (d : Nat) (f : Drove → Drove) : (setDrove d f s).faultCounts = s.faultCounts := rfl
@[simp] theorem setDrove_faultEvents (d : Nat) (f : Drove → Drove) : (setDrove d f s).faultEvents = s.faultEvents := rfl
@[simp] theorem setDrove_faultLogged (d : Nat) (f : Drove → Drove) : (setDrove d f s).faultLogged = s.faultLogged := rfl
@[simp] theorem setDrove_bw (d : Nat) (f : Drove → Drove) : (setDrove d f s).bw = s.bw := rfl
@[simp] theorem setDrove_convs (d : Nat) (f : Drove → Drove) : (setDrove d f s).convs = s.convs := rfl
@[simp] theorem setDrove_legs (d : Nat) (f : Drove → Drove) : (setDrove d f s).legs = s.legs := rfl
@[simp] theorem setDrove_cl (d : Nat) (f : Drove → Drove) : (setDrove d f s).cl = s.cl := rfl
@[simp] theorem setDrove_trace (d : Nat) (f : Drove → Drove) : (setDrove d f s).trace = s.trace := rfl
@[simp] theorem setDrove_solar (d : Nat) (f : Drove → Drove) : (setDrove d f s).solar = s.solar := rfl
@[simp] theorem setDrove_meter (d : Nat) (f : Drove → Drove) : (setDrove d f s).meter = s.meter := rfl
@[simp] theorem setDrove_lio (d : Nat) (f : Drove → Drove) : (setDrove d f s).lio = s.lio := rfl
@[simp] theorem setDrove_outbox (d : Nat) (f : Drove → Drove) : (setDrove d f s).outbox = s.outbox := rfl
@[simp] theorem setDrove_pending (d : Nat) (f : Drove → Drove) : (setDrove d f s).pending = s.pending := rfl
@[simp] theorem rd_setDrove (d : Nat) (f : Drove → Drove) (j : Nat) : rd (setDrove d f s) j = rd s j := rfl

/-! ### `setQueue` -/

@[simp] theorem setQueue_blobs (q : Nat) (f : Queue → Queue) : (setQueue q f s).blobs = s.blobs := rfl
@[simp] theorem setQueue_time (q : Nat) (f : Queue → Queue) : (setQueue q f s).time = s.time := rfl
@[simp] theorem setQueue_cove (q : Nat) (f : Queue → Queue) : (setQueue q f s).cove = s.cove := rfl
@[simp] theorem setQueue_rp (q : Nat) (f : Queue → Queue) : (setQueue q f s).rp = s.rp := rfl
@[simp] theorem setQueue_cfg (q : Nat) (f : Queue → Queue) : (setQueue q f s).cfg = s.cfg := rfl
@[simp] theorem setQueue_sm (q : Nat) (f : Queue → Queue) : (setQueue q f s).sm = s.sm := rfl
@[simp] theorem setQueue_sessions (q : Nat) (f : Queue → Queue) : (setQueue q f s).sessions = s.sessions := rfl
@[simp] theorem setQueue_images (q : Nat) (f : Queue → Queue) : (setQueue q f s).images = s.images := rfl
@[simp] theorem setQueue_authFails (q : Nat) (f : Queue → Queue) : (setQueue q f s).authFails = s.authFails := rfl
@[simp] theorem setQueue_svSeen (q : Nat) (f : Queue → Queue) : (setQueue q f s).svSeen = s.svSeen := rfl
@[simp] theorem setQueue_log (q : Nat) (f : Queue → Queue) : (setQueue q f s).log = s.log := rfl
@[simp] theorem setQueue_pmc (q : Nat) (f : Queue → Queue) : (setQueue q f s).pmc = s.pmc := rfl
@[simp] theorem setQueue_hists (q : Nat) (f : Queue → Queue) : (setQueue q f s).hists = s.hists := rfl
@[simp] theorem setQueue_dbg (q : Nat) (f : Queue → Queue) : (setQueue q f s).dbg = s.dbg := rfl
@[simp] theorem setQueue_draws (q : Nat) (f : Queue → Queue) : (setQueue q f s).draws = s.draws := rfl
@[simp] theorem setQueue_transfers (q : Nat) (f : Queue → Queue) : (setQueue q f s).transfers = s.transfers := rfl
@[simp] theorem setQueue_droves (q : Nat) (f : Queue → Queue) : (setQueue q f s).droves = s.droves := rfl
@[simp] theorem setQueue_leaves (q : Nat) (f : Queue → Queue) : (setQueue q f s).leaves = s.leaves := rfl
@[simp] theorem setQueue_slots (q : Nat) (f : Queue → Queue) : (setQueue q f s).slots = s.slots := rfl
@[simp] theorem setQueue_slotPoison (q : Nat) (f : Queue → Queue) : (setQueue q f s).slotPoison = s.slotPoison := rfl
@[simp] theorem setQueue_repeated (q : Nat) (f : Queue → Queue) : (setQueue q f s).repeated = s.repeated := rfl
@[simp] theorem setQueue_tideRec (q : Nat) (f : Queue → Queue) : (setQueue q f s).tideRec = s.tideRec := rfl
@[simp] theorem setQueue_begun (q : Nat) (f : Queue → Queue) : (setQueue q f s).begun = s.begun := rfl
@[simp] theorem setQueue_samples (q : Nat) (f : Queue → Queue) : (setQueue q f s).samples = s.samples := rfl
@[simp] theorem setQueue_mem (q : Nat) (f : Queue → Queue) : (setQueue q f s).mem = s.mem := rfl
@[simp] theorem setQueue_poison (q : Nat) (f : Queue → Queue) : (setQueue q f s).poison = s.poison := rfl
@[simp] theorem setQueue_shepherds (q : Nat) (f : Queue → Queue) : (setQueue q f s).shepherds = s.shepherds := rfl
@[simp] theorem setQueue_subs (q : Nat) (f : Queue → Queue) : (setQueue q f s).subs = s.subs := rfl
@[simp] theorem setQueue_faultCounts (q : Nat) (f : Queue → Queue) : (setQueue q f s).faultCounts = s.faultCounts := rfl
@[simp] theorem setQueue_faultEvents (q : Nat) (f : Queue → Queue) : (setQueue q f s).faultEvents = s.faultEvents := rfl
@[simp] theorem setQueue_faultLogged (q : Nat) (f : Queue → Queue) : (setQueue q f s).faultLogged = s.faultLogged := rfl
@[simp] theorem setQueue_bw (q : Nat) (f : Queue → Queue) : (setQueue q f s).bw = s.bw := rfl
@[simp] theorem setQueue_convs (q : Nat) (f : Queue → Queue) : (setQueue q f s).convs = s.convs := rfl
@[simp] theorem setQueue_legs (q : Nat) (f : Queue → Queue) : (setQueue q f s).legs = s.legs := rfl
@[simp] theorem setQueue_cl (q : Nat) (f : Queue → Queue) : (setQueue q f s).cl = s.cl := rfl
@[simp] theorem setQueue_trace (q : Nat) (f : Queue → Queue) : (setQueue q f s).trace = s.trace := rfl
@[simp] theorem setQueue_solar (q : Nat) (f : Queue → Queue) : (setQueue q f s).solar = s.solar := rfl
@[simp] theorem setQueue_meter (q : Nat) (f : Queue → Queue) : (setQueue q f s).meter = s.meter := rfl
@[simp] theorem setQueue_lio (q : Nat) (f : Queue → Queue) : (setQueue q f s).lio = s.lio := rfl
@[simp] theorem setQueue_outbox (q : Nat) (f : Queue → Queue) : (setQueue q f s).outbox = s.outbox := rfl
@[simp] theorem setQueue_pending (q : Nat) (f : Queue → Queue) : (setQueue q f s).pending = s.pending := rfl

/-! ### `setFaultCount` -/

@[simp] theorem setFaultCount_regs (key v : Nat) : (setFaultCount key v s).regs = s.regs := rfl
@[simp] theorem setFaultCount_blobs (key v : Nat) : (setFaultCount key v s).blobs = s.blobs := rfl
@[simp] theorem setFaultCount_time (key v : Nat) : (setFaultCount key v s).time = s.time := rfl
@[simp] theorem setFaultCount_cove (key v : Nat) : (setFaultCount key v s).cove = s.cove := rfl
@[simp] theorem setFaultCount_rp (key v : Nat) : (setFaultCount key v s).rp = s.rp := rfl
@[simp] theorem setFaultCount_cfg (key v : Nat) : (setFaultCount key v s).cfg = s.cfg := rfl
@[simp] theorem setFaultCount_sm (key v : Nat) : (setFaultCount key v s).sm = s.sm := rfl
@[simp] theorem setFaultCount_sessions (key v : Nat) : (setFaultCount key v s).sessions = s.sessions := rfl
@[simp] theorem setFaultCount_images (key v : Nat) : (setFaultCount key v s).images = s.images := rfl
@[simp] theorem setFaultCount_authFails (key v : Nat) : (setFaultCount key v s).authFails = s.authFails := rfl
@[simp] theorem setFaultCount_svSeen (key v : Nat) : (setFaultCount key v s).svSeen = s.svSeen := rfl
@[simp] theorem setFaultCount_log (key v : Nat) : (setFaultCount key v s).log = s.log := rfl
@[simp] theorem setFaultCount_pmc (key v : Nat) : (setFaultCount key v s).pmc = s.pmc := rfl
@[simp] theorem setFaultCount_hists (key v : Nat) : (setFaultCount key v s).hists = s.hists := rfl
@[simp] theorem setFaultCount_dbg (key v : Nat) : (setFaultCount key v s).dbg = s.dbg := rfl
@[simp] theorem setFaultCount_draws (key v : Nat) : (setFaultCount key v s).draws = s.draws := rfl
@[simp] theorem setFaultCount_transfers (key v : Nat) : (setFaultCount key v s).transfers = s.transfers := rfl
@[simp] theorem setFaultCount_droves (key v : Nat) : (setFaultCount key v s).droves = s.droves := rfl
@[simp] theorem setFaultCount_leaves (key v : Nat) : (setFaultCount key v s).leaves = s.leaves := rfl
@[simp] theorem setFaultCount_queues (key v : Nat) : (setFaultCount key v s).queues = s.queues := rfl
@[simp] theorem setFaultCount_slots (key v : Nat) : (setFaultCount key v s).slots = s.slots := rfl
@[simp] theorem setFaultCount_slotPoison (key v : Nat) : (setFaultCount key v s).slotPoison = s.slotPoison := rfl
@[simp] theorem setFaultCount_repeated (key v : Nat) : (setFaultCount key v s).repeated = s.repeated := rfl
@[simp] theorem setFaultCount_tideRec (key v : Nat) : (setFaultCount key v s).tideRec = s.tideRec := rfl
@[simp] theorem setFaultCount_begun (key v : Nat) : (setFaultCount key v s).begun = s.begun := rfl
@[simp] theorem setFaultCount_samples (key v : Nat) : (setFaultCount key v s).samples = s.samples := rfl
@[simp] theorem setFaultCount_mem (key v : Nat) : (setFaultCount key v s).mem = s.mem := rfl
@[simp] theorem setFaultCount_poison (key v : Nat) : (setFaultCount key v s).poison = s.poison := rfl
@[simp] theorem setFaultCount_shepherds (key v : Nat) : (setFaultCount key v s).shepherds = s.shepherds := rfl
@[simp] theorem setFaultCount_subs (key v : Nat) : (setFaultCount key v s).subs = s.subs := rfl
@[simp] theorem setFaultCount_faultCounts (key v : Nat) : (setFaultCount key v s).faultCounts = Tbl.set (fun _ => 0) s.faultCounts key v := rfl
@[simp] theorem setFaultCount_faultEvents (key v : Nat) : (setFaultCount key v s).faultEvents = s.faultEvents := rfl
@[simp] theorem setFaultCount_faultLogged (key v : Nat) : (setFaultCount key v s).faultLogged = s.faultLogged := rfl
@[simp] theorem setFaultCount_bw (key v : Nat) : (setFaultCount key v s).bw = s.bw := rfl
@[simp] theorem setFaultCount_convs (key v : Nat) : (setFaultCount key v s).convs = s.convs := rfl
@[simp] theorem setFaultCount_legs (key v : Nat) : (setFaultCount key v s).legs = s.legs := rfl
@[simp] theorem setFaultCount_cl (key v : Nat) : (setFaultCount key v s).cl = s.cl := rfl
@[simp] theorem setFaultCount_trace (key v : Nat) : (setFaultCount key v s).trace = s.trace := rfl
@[simp] theorem setFaultCount_solar (key v : Nat) : (setFaultCount key v s).solar = s.solar := rfl
@[simp] theorem setFaultCount_meter (key v : Nat) : (setFaultCount key v s).meter = s.meter := rfl
@[simp] theorem setFaultCount_lio (key v : Nat) : (setFaultCount key v s).lio = s.lio := rfl
@[simp] theorem setFaultCount_outbox (key v : Nat) : (setFaultCount key v s).outbox = s.outbox := rfl
@[simp] theorem setFaultCount_pending (key v : Nat) : (setFaultCount key v s).pending = s.pending := rfl
@[simp] theorem rd_setFaultCount (key v : Nat) (j : Nat) : rd (setFaultCount key v s) j = rd s j := rfl

/-! ### `setTideBits` -/

@[simp] theorem setTideBits_regs (n L v : Nat) : (setTideBits n L v s).regs = s.regs := rfl
@[simp] theorem setTideBits_blobs (n L v : Nat) : (setTideBits n L v s).blobs = s.blobs := rfl
@[simp] theorem setTideBits_time (n L v : Nat) : (setTideBits n L v s).time = s.time := rfl
@[simp] theorem setTideBits_cove (n L v : Nat) : (setTideBits n L v s).cove = s.cove := rfl
@[simp] theorem setTideBits_rp (n L v : Nat) : (setTideBits n L v s).rp = s.rp := rfl
@[simp] theorem setTideBits_cfg (n L v : Nat) : (setTideBits n L v s).cfg = s.cfg := rfl
@[simp] theorem setTideBits_sm (n L v : Nat) : (setTideBits n L v s).sm = s.sm := rfl
@[simp] theorem setTideBits_sessions (n L v : Nat) : (setTideBits n L v s).sessions = s.sessions := rfl
@[simp] theorem setTideBits_images (n L v : Nat) : (setTideBits n L v s).images = s.images := rfl
@[simp] theorem setTideBits_authFails (n L v : Nat) : (setTideBits n L v s).authFails = s.authFails := rfl
@[simp] theorem setTideBits_svSeen (n L v : Nat) : (setTideBits n L v s).svSeen = s.svSeen := rfl
@[simp] theorem setTideBits_log (n L v : Nat) : (setTideBits n L v s).log = s.log := rfl
@[simp] theorem setTideBits_pmc (n L v : Nat) : (setTideBits n L v s).pmc = s.pmc := rfl
@[simp] theorem setTideBits_hists (n L v : Nat) : (setTideBits n L v s).hists = s.hists := rfl
@[simp] theorem setTideBits_dbg (n L v : Nat) : (setTideBits n L v s).dbg = s.dbg := rfl
@[simp] theorem setTideBits_draws (n L v : Nat) : (setTideBits n L v s).draws = s.draws := rfl
@[simp] theorem setTideBits_transfers (n L v : Nat) : (setTideBits n L v s).transfers = s.transfers := rfl
@[simp] theorem setTideBits_droves (n L v : Nat) : (setTideBits n L v s).droves = s.droves := rfl
@[simp] theorem setTideBits_leaves (n L v : Nat) : (setTideBits n L v s).leaves = s.leaves := rfl
@[simp] theorem setTideBits_queues (n L v : Nat) : (setTideBits n L v s).queues = s.queues := rfl
@[simp] theorem setTideBits_slots (n L v : Nat) : (setTideBits n L v s).slots = s.slots := rfl
@[simp] theorem setTideBits_slotPoison (n L v : Nat) : (setTideBits n L v s).slotPoison = s.slotPoison := rfl
@[simp] theorem setTideBits_repeated (n L v : Nat) : (setTideBits n L v s).repeated = s.repeated := rfl
@[simp] theorem setTideBits_tideRec (n L v : Nat) : (setTideBits n L v s).tideRec = Tbl.set (fun _ => 1) s.tideRec (recKey n L) v := rfl
@[simp] theorem setTideBits_begun (n L v : Nat) : (setTideBits n L v s).begun = s.begun := rfl
@[simp] theorem setTideBits_samples (n L v : Nat) : (setTideBits n L v s).samples = s.samples := rfl
@[simp] theorem setTideBits_mem (n L v : Nat) : (setTideBits n L v s).mem = s.mem := rfl
@[simp] theorem setTideBits_poison (n L v : Nat) : (setTideBits n L v s).poison = s.poison := rfl
@[simp] theorem setTideBits_shepherds (n L v : Nat) : (setTideBits n L v s).shepherds = s.shepherds := rfl
@[simp] theorem setTideBits_subs (n L v : Nat) : (setTideBits n L v s).subs = s.subs := rfl
@[simp] theorem setTideBits_faultCounts (n L v : Nat) : (setTideBits n L v s).faultCounts = s.faultCounts := rfl
@[simp] theorem setTideBits_faultEvents (n L v : Nat) : (setTideBits n L v s).faultEvents = s.faultEvents := rfl
@[simp] theorem setTideBits_faultLogged (n L v : Nat) : (setTideBits n L v s).faultLogged = s.faultLogged := rfl
@[simp] theorem setTideBits_bw (n L v : Nat) : (setTideBits n L v s).bw = s.bw := rfl
@[simp] theorem setTideBits_convs (n L v : Nat) : (setTideBits n L v s).convs = s.convs := rfl
@[simp] theorem setTideBits_legs (n L v : Nat) : (setTideBits n L v s).legs = s.legs := rfl
@[simp] theorem setTideBits_cl (n L v : Nat) : (setTideBits n L v s).cl = s.cl := rfl
@[simp] theorem setTideBits_trace (n L v : Nat) : (setTideBits n L v s).trace = s.trace := rfl
@[simp] theorem setTideBits_solar (n L v : Nat) : (setTideBits n L v s).solar = s.solar := rfl
@[simp] theorem setTideBits_meter (n L v : Nat) : (setTideBits n L v s).meter = s.meter := rfl
@[simp] theorem setTideBits_lio (n L v : Nat) : (setTideBits n L v s).lio = s.lio := rfl
@[simp] theorem setTideBits_outbox (n L v : Nat) : (setTideBits n L v s).outbox = s.outbox := rfl
@[simp] theorem setTideBits_pending (n L v : Nat) : (setTideBits n L v s).pending = s.pending := rfl
@[simp] theorem rd_setTideBits (n L v : Nat) (j : Nat) : rd (setTideBits n L v s) j = rd s j := rfl

end Sys2Proof.Laws
end

