-- ==== Sys2Proof/Laws/Table.lean ====
section
/-! SUPPORT. Laws of the sparse tables: a read after a write of the same key gives the value written, a write leaves every other key
alone, and every operation keeps the canonical form. -/

namespace Sys2Proof.Machine

variable {α : Type}

theorem Tbl.get_erase_same (d : Nat → α) (m : List (Nat × α)) (k : Nat) : Tbl.get d (Tbl.erase m k) k = d k := by
  induction m with
  | nil => rfl
  | cons p m ih =>
    by_cases h : p.1 = k
    · simpa [Tbl.erase, h] using ih
    · have h' : ¬ k = p.1 := fun e => h e.symm
      simpa [Tbl.erase, h, Tbl.get, h'] using ih

theorem Tbl.get_erase_other (d : Nat → α) (m : List (Nat × α)) {k j : Nat} (h : j ≠ k) :
    Tbl.get d (Tbl.erase m k) j = Tbl.get d m j := by
  induction m with
  | nil => rfl
  | cons p m ih =>
    obtain ⟨i, w⟩ := p
    by_cases hk : i = k
    · subst hk
      simpa [Tbl.erase, Tbl.get, h] using ih
    · by_cases hj : j = i
      · simp [Tbl.erase, hk, Tbl.get, hj]
      · simpa [Tbl.erase, hk, Tbl.get, hj] using ih

theorem Tbl.get_insert_other (d : Nat → α) (m : List (Nat × α)) {k j : Nat} (v : α) (h : j ≠ k) :
    Tbl.get d (Tbl.insert k v m) j = Tbl.get d m j := by
  induction m with
  | nil => simp [Tbl.insert, Tbl.get, h]
  | cons p m ih =>
    obtain ⟨i, w⟩ := p
    by_cases hk : k < i
    · simp [Tbl.insert, hk, Tbl.get, h]
    · simp only [Tbl.insert, hk, if_false, Tbl.get, ih]

theorem Tbl.get_insert_same (d : Nat → α) (m : List (Nat × α)) (k : Nat) (v : α) (h : ∀ p ∈ m, p.1 ≠ k) :
    Tbl.get d (Tbl.insert k v m) k = v := by
  induction m with
  | nil => simp [Tbl.insert, Tbl.get]
  | cons p m ih =>
    obtain ⟨i, w⟩ := p
    have hi : ¬ k = i := fun e => h (i, w) (by simp) e.symm
    by_cases hk : k < i
    · simp [Tbl.insert, hk, Tbl.get]
    · simp only [Tbl.insert, hk, if_false, Tbl.get, hi]
      exact ih fun q hq => h q (by simp [hq])

/-- A read of the key just written gives the value written. -/
@[simp] theorem Tbl.get_set_same [DecidableEq α] (d : Nat → α) (m : List (Nat × α)) (k : Nat) (v : α) :
    Tbl.get d (Tbl.set d m k v) k = v := by
  unfold Tbl.set
  split
  · next h => rw [h]; exact Tbl.get_erase_same d m k
  · exact Tbl.get_insert_same d _ k v (by simp [Tbl.erase])

/-- A write leaves every other key alone. -/
theorem Tbl.get_set_other [DecidableEq α] (d : Nat → α) (m : List (Nat × α)) {k j : Nat} (v : α) (h : j ≠ k) :
    Tbl.get d (Tbl.set d m k v) j = Tbl.get d m j := by
  unfold Tbl.set
  split
  · exact Tbl.get_erase_other d m h
  · rw [Tbl.get_insert_other d _ v h, Tbl.get_erase_other d m h]

/-- A read after a write, in one equation. -/
theorem Tbl.get_set [DecidableEq α] (d : Nat → α) (m : List (Nat × α)) (k j : Nat) (v : α) :
    Tbl.get d (Tbl.set d m k v) j = if j = k then v else Tbl.get d m j := by
  split
  · next h => rw [h, Tbl.get_set_same]
  · next h => exact Tbl.get_set_other d m v h

/-! ### The canonical form -/

/-- The canonical form, as a statement about the whole list: keys rise strictly, and no entry equals its default. -/
theorem Tbl.wf_iff [DecidableEq α] (d : Nat → α) (m : List (Nat × α)) :
    Tbl.wf d m = true ↔ m.Pairwise (fun p q => p.1 < q.1) ∧ ∀ p ∈ m, p.2 ≠ d p.1 := by
  induction m with
  | nil => simp [Tbl.wf]
  | cons p m ih =>
    obtain ⟨j, v⟩ := p
    simp only [Tbl.wf, Bool.and_eq_true, decide_eq_true_eq, ih, List.pairwise_cons, List.forall_mem_cons]
    constructor
    · rintro ⟨⟨hv, ha⟩, hp, hd⟩
      refine ⟨⟨?_, hp⟩, hv, hd⟩
      intro q hq
      cases m with
      | nil => simp at hq
      | cons r m =>
        have hr : j < r.1 := by simpa [Tbl.above] using ha
        rcases List.mem_cons.mp hq with rfl | hq
        · exact hr
        · exact lt_trans hr ((List.pairwise_cons.mp hp).1 q hq)
    · rintro ⟨⟨hlt, hp⟩, hv, hd⟩
      refine ⟨⟨hv, ?_⟩, hp, hd⟩
      cases m with
      | nil => rfl
      | cons r m => simpa [Tbl.above] using hlt r (by simp)

theorem Tbl.wf_filter [DecidableEq α] (d : Nat → α) {m : List (Nat × α)} (f : Nat × α → Bool) (h : Tbl.wf d m = true) :
    Tbl.wf d (m.filter f) = true := by
  rw [Tbl.wf_iff] at h ⊢
  exact ⟨h.1.filter f, fun p hp => h.2 p (List.mem_filter.mp hp).1⟩

/-- Filtering and changing entries keeps the form when no key changes and no entry becomes its default. -/
theorem Tbl.wf_filterMap [DecidableEq α] (d : Nat → α) {m : List (Nat × α)} (f : Nat × α → Option (Nat × α))
    (hf : ∀ p q, p ∈ m → f p = some q → q.1 = p.1 ∧ q.2 ≠ d q.1) (h : Tbl.wf d m = true) : Tbl.wf d (m.filterMap f) = true := by
  rw [Tbl.wf_iff] at h ⊢
  refine ⟨?_, fun q hq => ?_⟩
  · have hp : m.Pairwise (fun p q => p ∈ m → q ∈ m → p.1 < q.1) := h.1.imp fun h _ _ => h
    rw [List.pairwise_filterMap]
    refine (List.Pairwise.and_mem.mp h.1).imp ?_
    rintro p q ⟨hpm, hqm, hlt⟩ p' hp' q' hq'
    rw [(hf p p' hpm hp').1, (hf q q' hqm hq').1]
    exact hlt
  · obtain ⟨p, hpm, hp⟩ := List.mem_filterMap.mp hq
    exact (hf p q hpm hp).2

theorem Tbl.wf_mapAll [DecidableEq α] (d : Nat → α) {m : List (Nat × α)} (f : Nat → α → α) (h : Tbl.wf d m = true) :
    Tbl.wf d (Tbl.mapAll d f m) = true := by
  refine Tbl.wf_filterMap d _ ?_ h
  intro p q _ hpq
  split at hpq
  · cases hpq
  · next hne => cases hpq; exact ⟨rfl, hne⟩

theorem Tbl.mem_insert (m : List (Nat × α)) (k : Nat) (v : α) (p : Nat × α) :
    p ∈ Tbl.insert k v m → p = (k, v) ∨ p ∈ m := by
  induction m with
  | nil => simp [Tbl.insert]
  | cons q m ih =>
    obtain ⟨j, w⟩ := q
    unfold Tbl.insert
    split
    · simp
    · intro hp
      rcases List.mem_cons.mp hp with rfl | hp
      · simp
      · rcases ih hp with h | h
        · exact .inl h
        · exact .inr (by simp [h])

/-- A write keeps the canonical form. -/
theorem Tbl.wf_set [DecidableEq α] (d : Nat → α) {m : List (Nat × α)} (k : Nat) (v : α) (h : Tbl.wf d m = true) :
    Tbl.wf d (Tbl.set d m k v) = true := by
  have he : Tbl.wf d (Tbl.erase m k) = true := Tbl.wf_filter d _ h
  unfold Tbl.set
  split
  · exact he
  · next hv =>
    have hk : ∀ p ∈ Tbl.erase m k, p.1 ≠ k := by simp [Tbl.erase]
    rw [Tbl.wf_iff] at he ⊢
    generalize Tbl.erase m k = e at he hk
    refine ⟨?_, fun p hp => ?_⟩
    · induction e with
      | nil => simp [Tbl.insert]
      | cons q e ih =>
        obtain ⟨j, w⟩ := q
        obtain ⟨hlt, hp⟩ := List.pairwise_cons.mp he.1
        unfold Tbl.insert
        split
        · next hkj =>
          refine List.pairwise_cons.mpr ⟨?_, he.1⟩
          intro r hr
          rcases List.mem_cons.mp hr with rfl | hr
          · exact hkj
          · exact lt_trans hkj (hlt r hr)
        · next hkj =>
          have hj : j ≠ k := hk (j, w) (by simp)
          refine List.pairwise_cons.mpr ⟨?_, ih ⟨hp, fun r hr => he.2 r (by simp [hr])⟩ fun r hr => hk r (by simp [hr])⟩
          intro r hr
          rcases Tbl.mem_insert e k v r hr with rfl | hr
          · exact lt_of_le_of_ne (not_lt.mp hkj) hj
          · exact hlt r hr
    · rcases Tbl.mem_insert e k v p hp with rfl | hp
      · exact hv
      · exact he.2 p hp

theorem Tbl.wf_modify [DecidableEq α] (d : Nat → α) {m : List (Nat × α)} (k : Nat) (f : α → α) (h : Tbl.wf d m = true) :
    Tbl.wf d (Tbl.modify d m k f) = true := Tbl.wf_set d k _ h

end Sys2Proof.Machine
end

