-- ==== Sys2Proof/Laws/Objects.lean ====
section
/-! SUPPORT. Reading an object after the shared operations have written one: the last value written is read, and no other object
changes. -/

namespace Sys2Proof.Laws

open Sys2Proof.Machine

variable (s : State)

/-! ### Numeric objects -/

@[simp] theorem rd_wr_same (k v : Nat) : rd (wr s k v) k = v := Tbl.get_set_same _ _ _ _

theorem rd_wr_other {k j : Nat} (v : Nat) (h : j ≠ k) : rd (wr s k v) j = rd s j := Tbl.get_set_other _ _ _ h

theorem rd_wr (k j v : Nat) : rd (wr s k v) j = if j = k then v else rd s j := by
  by_cases h : j = k
  · subst h; simp
  · simp [rd_wr_other s v h, h]

@[simp] theorem wrs_nil : wrs s [] = s := rfl

@[simp] theorem wrs_cons (kv : Nat × Nat) (l : List (Nat × Nat)) : wrs s (kv :: l) = wrs (wr s kv.1 kv.2) l := rfl

/-- Several objects written: one that is not among them keeps its value. -/
theorem rd_wrs_other (l : List (Nat × Nat)) {j : Nat} (h : ∀ p ∈ l, p.1 ≠ j) : rd (wrs s l) j = rd s j := by
  induction l generalizing s with
  | nil => rfl
  | cons p l ih =>
    rw [wrs_cons, ih _ (fun q hq => h q (List.mem_cons_of_mem _ hq)),
      rd_wr_other s p.2 (fun e => h p List.mem_cons_self e.symm)]

/-- Several objects written change only the objects. -/
theorem wrs_regs (l : List (Nat × Nat)) : wrs s l = { s with regs := (wrs s l).regs } := by
  induction l generalizing s with
  | nil => rfl
  | cons p l ih => rw [wrs_cons, ih]; rfl

@[simp] theorem rdBlob_wrBlob_same (k : Nat) (v : List Byte) : rdBlob (wrBlob s k v) k = v := Tbl.get_set_same _ _ _ _

theorem rdBlob_wrBlob_other {k j : Nat} (v : List Byte) (h : j ≠ k) : rdBlob (wrBlob s k v) j = rdBlob s j :=
  Tbl.get_set_other _ _ _ h

/-! ### Counters -/

@[simp] theorem rd_countBy_same (w k n : Nat) : rd (countBy w s k n) k = satAdd (2 ^ w - 1) (rd s k) n := rd_wr_same _ _ _

theorem rd_countBy_other (w : Nat) {k j : Nat} (n : Nat) (h : j ≠ k) : rd (countBy w s k n) j = rd s j := rd_wr_other s _ h

@[simp] theorem rd_count_same (k : Nat) : rd (count s k) k = satAdd (2 ^ 32 - 1) (rd s k) 1 := rd_wr_same _ _ _

theorem rd_count_other {k j : Nat} (h : j ≠ k) : rd (count s k) j = rd s j := rd_wr_other s _ h

/-- A count changes only the objects. -/
theorem countBy_regs (w k n : Nat) : countBy w s k n = { s with regs := (countBy w s k n).regs } := rfl

/-! ### Events -/

/-- Delivering an event changes only the objects and the log. -/
theorem emitRaw_frame (code rank sev inst flags : Nat) (args : List Byte) :
    emitRaw code rank sev inst flags args s =
      { s with regs := (emitRaw code rank sev inst flags args s).regs, log := (emitRaw code rank sev inst flags args s).log } := by
  unfold emitRaw; split <;> rfl

/-- Delivering an event changes no object but `LOG_DROPPED`. -/
theorem rd_emitRaw_other (code rank sev inst flags : Nat) (args : List Byte) {j : Nat} (h : j ≠ Obj.LOG_DROPPED) :
    rd (emitRaw code rank sev inst flags args s) j = rd s j := by
  unfold emitRaw; split
  · exact rd_count_other s h
  · rfl

/-- The entry an event becomes in the intake. -/
def intakeEntry (code rank sev inst flags : Nat) (args : List Byte) (s : State) : IntakeEntry :=
  { code := code, rank := rank, severity := sev, inst := inst, stime := stimeNow s, at24 := s.time.acc,
    epoch := rd s Obj.TIME_EPOCH_NOW, flags := flags, args := args.take 24, order := s.log.order }

/-- With room in the intake, an event becomes its last entry, and no object changes. -/
theorem emitRaw_room (code rank sev inst flags : Nat) (args : List Byte) (h : s.log.intake.length < intakeMax) :
    emitRaw code rank sev inst flags args s =
      let l := { s.log with intake := s.log.intake ++ [intakeEntry code rank sev inst flags args s], order := s.log.order + 1 }
      { s with log := l } := by
  unfold emitRaw; rw [if_neg (by omega)]; rfl

theorem rd_emit_other (e : Ev) (inst : Nat) (args : List Byte) {j : Nat} (h : j ≠ Obj.LOG_DROPPED) :
    rd (emit e inst args s) j = rd s j := rd_emitRaw_other s _ _ _ _ _ _ h

theorem emit_frame (e : Ev) (inst : Nat) (args : List Byte) :
    emit e inst args s = { s with regs := (emit e inst args s).regs, log := (emit e inst args s).log } := emitRaw_frame s _ _ _ _ _ _

/-! ### Domains -/

theorem whenAlive_on {d : Domain} (f : State → State) {s : State} (h : alive s d = true) : whenAlive d f s = f s := by
  unfold whenAlive; rw [if_pos h]

theorem whenAlive_off {d : Domain} (f : State → State) {s : State} (h : alive s d = false) : whenAlive d f s = s := by
  unfold whenAlive; rw [if_neg (by simp [h])]

/-! ### Records of leaves and droves -/

@[simp] theorem leafOf_setLeaf_same (L : Nat) (f : Leaf → Leaf) : leafOf (setLeaf L f s) L = f (leafOf s L) := Tbl.get_set_same _ _ _ _

theorem leafOf_setLeaf_other {L M : Nat} (f : Leaf → Leaf) (h : M ≠ L) : leafOf (setLeaf L f s) M = leafOf s M :=
  Tbl.get_set_other _ _ _ h

@[simp] theorem droveOf_setDrove_same (d : Nat) (f : Drove → Drove) : droveOf (setDrove d f s) d = f (droveOf s d) :=
  Tbl.get_set_same _ _ _ _

theorem droveOf_setDrove_other {d e : Nat} (f : Drove → Drove) (h : e ≠ d) : droveOf (setDrove d f s) e = droveOf s e :=
  Tbl.get_set_other _ _ _ h

end Sys2Proof.Laws
end

