-- ==== Sys2Proof/Laws/Requests.lean ====
section
/-! SUPPORT. What a request of a session does around the object's own rule: what its booking changes, and what follows an accepted
write. -/

namespace Sys2Proof.Laws

open Sys2Proof.Machine Sys2Proof.Claims

variable (s : State)

/-- The objects a performance counter's addition may change. -/
def pmcKeys : List Nat := Obj.PMC_STATUS :: Obj.PMC_SAMPLES_LOST :: (List.range 32).map Obj.PMC_VALUE

theorem countSkips_regs (n : Nat) : countSkips n s = { s with regs := (countSkips n s).regs } := rfl

theorem pmcRequest_frame (c : Nat) : pmcRequest c s = { s with regs := (pmcRequest c s).regs, pmc := (pmcRequest c s).pmc } := by
  unfold pmcRequest; split <;> rfl

theorem rd_pmcRequest (c : Nat) {j : Nat} (h : j ≠ Obj.PMC_SAMPLES_LOST) : rd (pmcRequest c s) j = rd s j := by
  unfold pmcRequest; split
  · exact rd_wr_other s _ h
  · rfl

theorem pmcOverflowed_frame (c : Nat) :
    pmcOverflowed c s = { s with regs := (pmcOverflowed c s).regs, pmc := (pmcOverflowed c s).pmc } := by
  unfold pmcOverflowed; dsimp only; split
  · rw [pmcRequest_frame]; rfl
  · rfl

theorem rd_pmcOverflowed (c : Nat) {j : Nat} (h : j ≠ Obj.PMC_SAMPLES_LOST) (h' : j ≠ Obj.PMC_STATUS) :
    rd (pmcOverflowed c s) j = rd s j := by
  unfold pmcOverflowed; dsimp only; split
  · rw [rd_pmcRequest _ _ h, rd_wr_other s _ h']
  · rw [rd_wr_other s _ h']

theorem pmcAdd_frame (c n : Nat) : pmcAdd c n s = { s with regs := (pmcAdd c n s).regs, pmc := (pmcAdd c n s).pmc } := by
  unfold pmcAdd; dsimp only; split
  · rfl
  · split
    · rfl
    · split
      · unfold countSkips; dsimp only; rw [pmcOverflowed_frame]; rfl
      · rw [pmcOverflowed_frame]; rfl

theorem rd_pmcAdd {c : Nat} (n : Nat) (hc : c < 32) {j : Nat} (h : j ∉ pmcKeys) : rd (pmcAdd c n s) j = rd s j := by
  have h1 : j ≠ Obj.PMC_SAMPLES_LOST := fun e => h (by simp [pmcKeys, e])
  have h2 : j ≠ Obj.PMC_STATUS := fun e => h (by simp [pmcKeys, e])
  have h3 : j ≠ Obj.PMC_VALUE c := fun e => h (List.mem_cons_of_mem _ (List.mem_cons_of_mem _ (List.mem_map.2 ⟨c, by simpa using hc, e.symm⟩)))
  unfold pmcAdd; dsimp only; split
  · rfl
  · split
    · exact rd_wr_other s _ h3
    · split
      · unfold countSkips; dsimp only
        rw [rd_wr_other _ _ h1, rd_pmcOverflowed _ _ h1 h2, rd_wr_other s _ h3]
      · rw [rd_pmcOverflowed _ _ h1 h2, rd_wr_other s _ h3]

/-- An event counted changes the counter block only. -/
theorem pmcEvent_frame (sel inst n : Nat) :
    pmcEvent sel inst n s = { s with regs := (pmcEvent sel inst n s).regs, pmc := (pmcEvent sel inst n s).pmc } := by
  unfold pmcEvent
  generalize List.range 32 = l
  induction l generalizing s with
  | nil => rfl
  | cons c l ih =>
    rw [List.foldl_cons]; split
    · rw [ih, pmcAdd_frame]
    · exact ih s

/-- An event counted changes no object outside the counter block. -/
theorem rd_pmcEvent (sel inst n : Nat) {j : Nat} (h : j ∉ pmcKeys) : rd (pmcEvent sel inst n s) j = rd s j := by
  unfold pmcEvent
  have hl : ∀ c ∈ List.range 32, c < 32 := fun c hc => by simpa using hc
  revert hl
  generalize List.range 32 = l
  intro hl
  induction l generalizing s with
  | nil => rfl
  | cons c l ih =>
    rw [List.foldl_cons]; split
    · rw [ih _ (fun d hd => hl d (List.mem_cons_of_mem _ hd)), rd_pmcAdd s n (hl c List.mem_cons_self) h]
    · exact ih s (fun d hd => hl d (List.mem_cons_of_mem _ hd))

/-- What booking a request changes: the counts of frames, requests and events, and the session's place in its order. -/
theorem booked_frame (k : Nat) :
    booked k s = { s with regs := (booked k s).regs, sessions := (booked k s).sessions, pmc := (booked k s).pmc } := by
  have hs : ∀ x : State, (pmcEvent 0x13 0xFFFF 1 x).sessions = x.sessions := fun x => by rw [pmcEvent_frame]
  unfold booked; dsimp only
  refine (pmcEvent_frame _ _ _ _).trans ?_
  rw [hs]; rfl

theorem rd_booked (k : Nat) {j : Nat} (h : j ∉ pmcKeys) (h1 : j ≠ Obj.SESSION_REQUESTS k)
    (h2 : j ≠ Obj.FRAMES_IN (sessNet s k).port) : rd (booked k s) j = rd s j := by
  unfold booked; dsimp only
  rw [rd_pmcEvent _ _ _ _ h, rd_countBy_other _ _ _ h1]
  exact rd_countBy_other s _ _ h2

/-- No installation session is open, so none closes. -/
theorem closeInstallation_none (h : ∀ j, j < 16 → rd s (Obj.SESSION_STATE j) ≠ 3) : closeInstallation s = s := by
  unfold closeInstallation; split
  · rfl
  · have hl : ∀ c ∈ allSessions, c < 16 := fun c hc => by simpa [allSessions] using hc
    revert hl
    generalize allSessions = l
    intro hl
    induction l with
    | nil => rfl
    | cons c l ih =>
      rw [List.foldl_cons, if_neg (h c (hl c List.mem_cons_self))]
      exact ih (fun d hd => hl d (List.mem_cons_of_mem _ hd))

theorem applyReset_none (h : s.rp.resetDue = 0) : applyReset s = s := by unfold applyReset; rw [if_pos h]

theorem drainHeld_none (k n : Nat) (h : (sess s k).held = []) : drainHeld k n s = s := by
  cases n with
  | zero => rfl
  | succ n => unfold drainHeld; simp [h]

theorem held_setSess (k : Nat) (f : Session → Session) (hf : ∀ x, (f x).held = x.held) :
    (sess (setSess s k f) k).held = (sess s k).held := by
  unfold sess setSess getD'
  by_cases h : k < s.sessions.length <;> simp [h, hf]

/-- A change to a session's record changes no object, so neither what the device reaches nor what a frame of it bears. -/
theorem reachable_setSess (k p a : Nat) (f : Session → Session) : reachable (setSess s k f) p a = reachable s p a := rfl

theorem outward_setSess (k : Nat) (f : Session → Session) (net : NetAddr) : outward (setSess s k f) net = outward s net := rfl

/-- An accepted write of session `k`, after which the device still reaches its host: it is answered with status 0, and beside the
write's own effect only the record of the response and the count of frames sent change. -/
theorem named_accepted {k key : Nat} {bs : List Byte} {s w : State} (h : Ready k s)
    (hw : writeObject k ((sess s k).execd + 1) (keyIndex key) (keySub key) bs (booked k s) = (w, 0))
    (h3 : ∀ j, j < 16 → rd w (Obj.SESSION_STATE j) ≠ 3) (hr : w.rp.resetDue = 0) (hh : (sess w k).held = [])
    (hn : reachable w (sessNet s k).port (sessNet s k).addr = true) (ho : outward w (sessNet s k) = sessNet s k) :
    Answered k 0 s (namedRequest k 0x11 key bs s)
      ∧ namedRequest k 0x11 key bs s = { w with
          regs := (namedRequest k 0x11 key bs s).regs, sessions := (namedRequest k 0x11 key bs s).sessions,
          outbox := (namedRequest k 0x11 key bs s).outbox }
      ∧ ∀ j, j ≠ Obj.FRAMES_OUT (sessNet s k).port → rd (namedRequest k 0x11 key bs s) j = rd w j := by
  obtain ⟨hk, _, hup, _, hst, hheld, hno, _, _⟩ := h
  have hport : (sessNet s k).port < 3 := by unfold hostUp at hup; simp at hup; exact hup.1.1.2
  have hopen : sessOpen s k = true := by simp [sessOpen, hk, hst]
  have hserve : serve k (namedFrame s k 0x11 key bs) (booked k s) = (w, .plain 0) := by
    unfold serve
    rw [if_neg (by simp [fallbackMay, namedFrame])]
    show (_, Answer.plain _) = _
    simp only [namedFrame]
    rw [hw]
  have hx : sess (countIn (sessNet s k).port s) k = sess s k := rfl
  let r := responseFrame (namedFrame s k 0x11 key bs) (sess s k).ident 0 0 false []
  let u := if (sess w k).ident = (sess s k).ident then
      setSess w k (fun y => { y with replies := ({ seq := (sess s k).execd + 1, frame := r } :: y.replies).take repliesMax })
    else w
  have hgo : respond (sessNet s k) (sess s k).ks r u =
      send (.datagram (sessNet s k) (rd u Obj.PCP_OBJECT) { r with tag := frameTag (sess s k).ks r })
        (countBy 64 u (Obj.FRAMES_OUT (sessNet s k).port) 1) := by
    have hu : reachable u (sessNet s k).port (sessNet s k).addr = true ∧ outward u (sessNet s k) = sessNet s k := by
      simp only [u]; split
      · exact ⟨hn, ho⟩
      · exact ⟨hn, ho⟩
    unfold respond sendFrame
    dsimp only
    rw [if_pos (show r.status = 0 from rfl), if_pos hu.1, hu.2]
  have key1 : executeRequest k (sessNet s k) (namedFrame s k 0x11 key bs) (countIn (sessNet s k).port s) =
      send (.datagram (sessNet s k) (rd u Obj.PCP_OBJECT) { r with tag := frameTag (sess s k).ks r })
        (countBy 64 u (Obj.FRAMES_OUT (sessNet s k).port) 1) := by
    unfold executeRequest
    simp only [hx]
    have hb : pmcEvent 0x13 0xFFFF 1 (countBy 64 (setSess (countIn (sessNet s k).port s) k
        (fun y => { y with execd := (namedFrame s k 0x11 key bs).seq })) (Obj.SESSION_REQUESTS k) 1) = booked k s := rfl
    rw [hb, hserve]
    simp only [Answer.plain]
    rw [if_neg (by simp [namedFrame])]
    rw [← hgo, closeInstallation_none, applyReset_none]
    · rfl
    · show (respond (sessNet s k) (sess s k).ks r u).rp.resetDue = 0
      rw [hgo]
      show u.rp.resetDue = 0
      simp only [u]; split <;> exact hr
    · intro j hj
      have hne : Obj.SESSION_STATE j ≠ Obj.FRAMES_OUT (sessNet s k).port := by
        unfold Obj.SESSION_STATE Obj.FRAMES_OUT; omega
      show rd (respond (sessNet s k) (sess s k).ks r u) (Obj.SESSION_STATE j) ≠ 3
      rw [hgo, rd_send, rd_countBy_other _ _ _ hne]
      simp only [u]; split <;> exact h3 j hj
  have key2 : namedRequest k 0x11 key bs s =
      executeRequest k (sessNet s k) (namedFrame s k 0x11 key bs) (countIn (sessNet s k).port s) := by
    unfold namedRequest
    dsimp only
    rw [if_pos (by simp [hup, hopen])]
    apply drainHeld_none
    rw [key1]
    show (sess u k).held = []
    simp only [u]; split
    · refine (held_setSess w k _ ?_).trans hh
      intro x; rfl
    · exact hh
  rw [key2, key1]
  refine ⟨⟨_, _, _, rfl, rfl, rfl⟩, ?_, ?_⟩
  · simp only [u]; split <;> rfl
  · intro j hj
    rw [rd_send, rd_countBy_other _ _ _ hj]
    simp only [u]; split <;> rfl

end Sys2Proof.Laws
end

