-- ==== Sys2Proof/Laws/Steady.lean ====
section
/-! SUPPORT. What no operation breaks: the canonical form of the sparse stores, and the queue of waiting commands, which only the step
itself changes. One lemma per operation follows in the files Steady*.lean. -/

namespace Sys2Proof.Machine

/-- The stores are canonical and the waiting commands are `q`. -/
structure Steady (q : List Instr) (s : State) : Prop where
  /-- the stores -/
  canonical : s.Canonical
  /-- the queue -/
  pending : s.pending = q

variable {q : List Instr}

/-- What steadiness is about: the sparse stores and the queue. -/
def State.stores (s : State) :=
  ((s.regs, s.blobs, s.mem, s.droves, s.leaves, s.queues), (s.slots, s.tideRec, s.samples, s.faultCounts, s.solar.leaves), s.pending)

/-- A change of fields that are no sparse store. -/
theorem Steady.same {s t : State} (h : Steady q s)
    (e : t.stores = ((s.regs, s.blobs, s.mem, s.droves, s.leaves, s.queues),
      (s.slots, s.tideRec, s.samples, s.faultCounts, s.solar.leaves), s.pending)) : Steady q t := by
  simp only [State.stores, Prod.mk.injEq] at e
  obtain ⟨⟨h1, h2, h3, h4, h5, h6⟩, ⟨h7, h8, h9, h10, h11⟩, h12⟩ := e
  obtain ⟨c, p⟩ := h
  exact ⟨⟨h1 ▸ c.regs, h2 ▸ c.blobs, h4 ▸ c.droves, h5 ▸ c.leaves, h6 ▸ c.queues, h7 ▸ c.slots, h8 ▸ c.tideRec, h9 ▸ c.samples,
    h10 ▸ c.faultCounts, h3 ▸ c.mem, h11 ▸ c.solar⟩, h12.trans p⟩

theorem Steady.fst {β : Type} {p : State × β} {t : State} {b : β} (e : p = (t, b)) (h : Steady q p.1) : Steady q t := by
  subst e; exact h

theorem Steady.snd {β : Type} {p : β × State} {t : State} {b : β} (e : p = (b, t)) (h : Steady q p.2) : Steady q t := by
  subst e; exact h

theorem steady_pair1 {β : Type} {a : State} {b : β} (h : Steady q a) : Steady q (a, b).1 := h

theorem steady_pair2 {β : Type} {a : State} {b : β} (h : Steady q a) : Steady q (b, a).2 := h

theorem steady_ite {p : Prop} [Decidable p] {a b : State} (ha : Steady q a) (hb : Steady q b) : Steady q (if p then a else b) := by
  split <;> assumption

theorem steady_ite1 {β : Type} {p : Prop} [Decidable p] {a b : State × β} (ha : Steady q a.1) (hb : Steady q b.1) :
    Steady q (if p then a else b).1 := by
  split <;> assumption

theorem steady_ite2 {β : Type} {p : Prop} [Decidable p] {a b : β × State} (ha : Steady q a.2) (hb : Steady q b.2) :
    Steady q (if p then a else b).2 := by
  split <;> assumption

theorem steady_foldl {β : Type} {f : State → β → State} {l : List β} {s : State}
    (hf : ∀ t x, Steady q t → Steady q (f t x)) (h : Steady q s) : Steady q (l.foldl f s) := by
  induction l generalizing s with
  | nil => exact h
  | cons x l ih => exact ih (hf _ _ h)

theorem steady_foldl1 {β γ : Type} {f : State × γ → β → State × γ} {l : List β} {p : State × γ}
    (hf : ∀ t x, Steady q t.1 → Steady q (f t x).1) (h : Steady q p.1) : Steady q (l.foldl f p).1 := by
  induction l generalizing p with
  | nil => exact h
  | cons x l ih => exact ih (hf _ _ h)

theorem steady_foldl2 {β γ : Type} {f : γ × State → β → γ × State} {l : List β} {p : γ × State}
    (hf : ∀ t x, Steady q t.2 → Steady q (f t x).2) (h : Steady q p.2) : Steady q (l.foldl f p).2 := by
  induction l generalizing p with
  | nil => exact h
  | cons x l ih => exact ih (hf _ _ h)

/-- An outcome that is a next state keeps the stores and the queue. -/
def SteadyNext (q : List Instr) (o : Host.Outcome State Fault Refusal) : Prop := ∀ t, o = .next t → Steady q t

theorem steady_next {t : State} (h : Steady q t) : SteadyNext q (.next t) := by
  intro u hu
  cases hu
  exact h

end Sys2Proof.Machine
end

