-- ==== Sys2Proof/Laws/SteadyOps.lean ====
section
/-! SUPPORT. Every operation of Machine/Ops.lean keeps the stores canonical and the queue as it is. -/

namespace Sys2Proof.Machine

variable {q : List Instr}

theorem wr_steady {s key v} (h0 : Steady q s) : Steady q (wr s key v) :=
  ⟨{ h0.canonical with regs := Tbl.wf_set _ _ _ h0.canonical.regs }, h0.pending⟩

theorem wrs_steady {s kvs} (h0 : Steady q s) :
    Steady q (wrs s kvs) := by
  unfold wrs
  refine steady_foldl (fun t0 x1 h2 => ?_) ?_
  · exact wr_steady h2
  · exact h0

theorem wrBlob_steady {s key v} (h0 : Steady q s) : Steady q (wrBlob s key v) :=
  ⟨{ h0.canonical with blobs := Tbl.wf_set _ _ _ h0.canonical.blobs }, h0.pending⟩

theorem wrInt_steady {w s key i} (h1 : Steady q s) :
    Steady q (wrInt w s key i) := by
  unfold wrInt
  exact wr_steady h1

theorem wrPu_steady {s key x} (h0 : Steady q s) :
    Steady q (wrPu s key x) := by
  unfold wrPu
  exact wr_steady h0

theorem wrF_steady {s key x} (h0 : Steady q s) :
    Steady q (wrF s key x) := by
  unfold wrF
  exact wr_steady h0

theorem countBy_steady {w s key n} (h1 : Steady q s) :
    Steady q (countBy w s key n) := by
  unfold countBy
  exact wr_steady h1

theorem count_steady {s key} (h0 : Steady q s) :
    Steady q (count s key) := by
  unfold count
  exact countBy_steady h0

theorem raiseTo_steady {s key v} (h0 : Steady q s) :
    Steady q (raiseTo s key v) := by
  unfold raiseTo
  refine steady_ite ?_ ?_
  · exact wr_steady h0
  · exact h0

theorem whenAlive_steady {d f s} (hf1 : ∀ y0, Steady q y0 → Steady q (f y0)) (h2 : Steady q s) :
    Steady q (whenAlive d f s) := by
  unfold whenAlive
  refine steady_ite ?_ ?_
  · exact hf1 _ (h2)
  · exact h2

theorem send_steady {o s} (h1 : Steady q s) :
    Steady q (send o s) := by
  unfold send
  exact Steady.same h1 rfl

theorem drawBytes_steady {n s} (h1 : Steady q s) :
    Steady q (drawBytes n s).2 := by
  unfold drawBytes
  exact steady_pair2 (Steady.same h1 rfl)

theorem setSess_steady {s k f} (h0 : Steady q s) :
    Steady q (setSess s k f) := by
  unfold setSess
  exact Steady.same h0 rfl

end Sys2Proof.Machine
end

