-- ==== Sys2Proof/Laws/SteadyCycles.lean ====
section
/-! SUPPORT. Every operation of Machine/Cycles.lean keeps the stores canonical and the queue as it is. -/

namespace Sys2Proof.Machine

variable {q : List Instr}

theorem countSkips_steady {n s} (h1 : Steady q s) :
    Steady q (countSkips n s) := by
  unfold countSkips
  extract_lets v0
  try clear_value v0
  exact wr_steady h1

theorem countSkipped_steady {s} (h0 : Steady q s) :
    Steady q (countSkipped s) := by
  unfold countSkipped
  exact countSkips_steady h0

theorem countSampleDropped_steady {s} (h0 : Steady q s) :
    Steady q (countSampleDropped s) := by
  unfold countSampleDropped
  extract_lets v0
  try clear_value v0
  exact wr_steady h0

theorem pmcRequest_steady {c s} (h1 : Steady q s) :
    Steady q (pmcRequest c s) := by
  unfold pmcRequest
  refine steady_ite ?_ ?_
  · exact countSkipped_steady h1
  · exact Steady.same h1 rfl

theorem pmcOverflowed_steady {c s} (h1 : Steady q s) :
    Steady q (pmcOverflowed c s) := by
  unfold pmcOverflowed
  extract_lets v0
  have hv0 : Steady q v0 := wr_steady h1
  try clear_value v0
  refine steady_ite ?_ ?_
  · exact pmcRequest_steady hv0
  · exact hv0

theorem pmcAdd_steady {c n s} (h2 : Steady q s) :
    Steady q (pmcAdd c n s) := by
  unfold pmcAdd
  refine steady_ite ?_ ?_
  · exact h2
  · extract_lets v0 v1 v2 v3
    try clear_value v0
    try clear_value v1
    have hv2 : Steady q v2 := wr_steady h2
    try clear_value v2
    have hv3 : Steady q v3 := pmcOverflowed_steady hv2
    try clear_value v3
    refine steady_ite ?_ ?_
    · exact hv2
    · refine steady_ite ?_ ?_
      · exact countSkips_steady hv3
      · exact hv3

theorem pmcEvent_steady {sel inst n s} (h3 : Steady q s) :
    Steady q (pmcEvent sel inst n s) := by
  unfold pmcEvent
  refine steady_foldl (fun t0 x1 h2 => ?_) ?_
  · refine steady_ite ?_ ?_
    · exact pmcAdd_steady h2
    · exact h2
  · exact h3

theorem pmcCycles_steady {n s} (h1 : Steady q s) :
    Steady q (pmcCycles n s) := by
  unfold pmcCycles
  refine steady_ite ?_ ?_
  · exact h1
  · extract_lets v0 v1 v2 v3
    try clear_value v0
    have hv1 : Steady q v1 := Steady.same h1 rfl
    try clear_value v1
    have hv2 : Steady q v2 := by
      unfold v2
      refine steady_foldl (fun t4 x5 h6 => ?_) ?_
      · exact pmcAdd_steady h6
      · exact pmcEvent_steady hv1
    try clear_value v2
    try clear_value v3
    exact Steady.same hv2 rfl

theorem runEdges_steady {n s} (h1 : Steady q s) :
    Steady q (runEdges n s) := by
  unfold runEdges
  extract_lets v0 v1 v2 v3 v4
  try clear_value v0
  try clear_value v1
  have hv2 : Steady q v2 := Steady.same h1 rfl
  try clear_value v2
  try clear_value v3
  have hv4 : Steady q v4 := by
    refine steady_ite ?_ ?_
    · exact hv2
    · exact countBy_steady hv2
  try clear_value v4
  refine steady_ite ?_ ?_
  · exact pmcCycles_steady hv4
  · exact hv4

theorem runTo_steady {target s} (h1 : Steady q s) :
    Steady q (runTo target s) := by
  unfold runTo
  exact runEdges_steady h1

end Sys2Proof.Machine
end

