-- ==== Sys2Proof/Laws/SteadyFrames.lean ====
section
/-! SUPPORT. Every operation of Machine/Frames.lean keeps the stores canonical and the queue as it is. -/

namespace Sys2Proof.Machine

variable {q : List Instr}

theorem sendFrame_steady {dest pcp ks f s} (h4 : Steady q s) :
    Steady q (sendFrame dest pcp ks f s) := by
  unfold sendFrame
  refine steady_ite ?_ ?_
  · exact send_steady (countBy_steady h4)
  · exact h4

theorem pumpNotes_steady {k ns s} (h : Steady q s) : Steady q (pumpNotes k ns s) := by
  induction ns generalizing s with
  | nil => exact h
  | cons n rest ih =>
    unfold pumpNotes
    refine steady_ite (ih (setSess_steady h)) (steady_ite (ih (setSess_steady h)) ?_)
    exact ih (sendFrame_steady (setSess_steady h))

theorem pumpSession_steady {k s} (h1 : Steady q s) :
    Steady q (pumpSession k s) := by
  unfold pumpSession
  extract_lets v0
  try clear_value v0
  exact pumpNotes_steady (setSess_steady h1)

theorem notifySession_steady {k kind stime body s} (h4 : Steady q s) :
    Steady q (notifySession k kind stime body s) := by
  unfold notifySession
  refine steady_ite ?_ ?_
  · refine steady_ite ?_ ?_
    · exact setSess_steady (count_steady h4)
    · extract_lets v0
      try clear_value v0
      exact pumpSession_steady (setSess_steady h4)
  · exact h4

theorem notifyAll_steady {kind stime body s} (h3 : Steady q s) :
    Steady q (notifyAll kind stime body s) := by
  unfold notifyAll
  refine steady_foldl (fun t0 x1 h2 => ?_) ?_
  · exact notifySession_steady h2
  · exact h3

theorem notifyMaster_steady {m kind body s} (h3 : Steady q s) :
    Steady q (notifyMaster m kind body s) := by
  unfold notifyMaster
  refine steady_foldl (fun t0 x1 h2 => ?_) ?_
  · refine steady_ite ?_ ?_
    · exact notifySession_steady h2
    · exact h2
  · exact h3

end Sys2Proof.Machine
end

