-- ==== Sys2Proof/Laws/SteadyLog.lean ====
section
/-! SUPPORT. Every operation of Machine/Log.lean keeps the stores canonical and the queue as it is. -/

namespace Sys2Proof.Machine

variable {q : List Instr}

theorem emitRaw_steady {code rank severity inst flags args s} (h6 : Steady q s) :
    Steady q (emitRaw code rank severity inst flags args s) := by
  unfold emitRaw
  refine steady_ite ?_ ?_
  · extract_lets v0 v1
    have hv0 : Steady q v0 := count_steady h6
    try clear_value v0
    try clear_value v1
    exact Steady.same hv0 rfl
  · extract_lets v2 v3
    try clear_value v2
    try clear_value v3
    exact Steady.same h6 rfl

theorem emit_steady {e inst args s} (h3 : Steady q s) :
    Steady q (emit e inst args s) := by
  unfold emit
  exact emitRaw_steady h3

theorem commitRecord_steady {r s} (h1 : Steady q s) :
    Steady q (commitRecord r s) := by
  unfold commitRecord
  extract_lets v0 v1 v2 v3 v4 v5
  try clear_value v0
  try clear_value v1
  have hv2 : Steady q v2 := Steady.same h1 rfl
  try clear_value v2
  have hv3 : Steady q v3 := wr_steady hv2
  try clear_value v3
  have hv4 : Steady q v4 := wr_steady hv3
  try clear_value v4
  have hv5 : Steady q v5 := by
    refine steady_ite ?_ ?_
    · exact countBy_steady hv4
    · exact hv4
  try clear_value v5
  refine steady_ite ?_ ?_
  · exact notifyAll_steady hv5
  · exact hv5

theorem commitEntry_steady {e s} (h1 : Steady q s) :
    Steady q (commitEntry e s) := by
  unfold commitEntry
  split
  · extract_lets v4
    try clear_value v4
    exact commitRecord_steady h1

theorem enterDropped_steady {ds s} (h0 : Steady q s) : Steady q (enterDropped ds s) := by
  induction ds generalizing s with
  | nil => exact h0
  | cons d rest ih =>
    unfold enterDropped
    exact steady_ite h0 (ih (Steady.same h0 rfl))

theorem reportDropped_steady {s} (h0 : Steady q s) :
    Steady q (reportDropped s) := by
  unfold reportDropped
  exact enterDropped_steady h0

theorem commitFirst_steady {s} (h0 : Steady q s) :
    Steady q (commitFirst s) := by
  unfold commitFirst
  split
  · exact h0
  · exact reportDropped_steady (commitEntry_steady (Steady.same h0 rfl))

theorem commitAll_steady {n s} (h : Steady q s) : Steady q (commitAll n s) := by
  induction n generalizing s with
  | zero => exact h
  | succ n ih => exact ih (commitFirst_steady h)

theorem logTimeStep_steady {args s} (h1 : Steady q s) :
    Steady q (logTimeStep args s) := by
  unfold logTimeStep
  extract_lets v0 v1 v2 v3
  try clear_value v0
  have hv1 : Steady q v1 := by
    refine steady_ite ?_ ?_
    · exact emit_steady h1
    · exact h1
  try clear_value v1
  have hv2 : Steady q v2 := commitAll_steady hv1
  try clear_value v2
  have hv3 : Steady q v3 := by
    refine steady_ite ?_ ?_
    · exact hv2
    · exact commitFirst_steady (emit_steady hv2)
  try clear_value v3
  exact wr_steady hv3

theorem logRestore_steady {s} (h0 : Steady q s) :
    Steady q (logRestore s) := by
  unfold logRestore
  extract_lets v0 v1 v2 v3 v4 v5
  try clear_value v0
  try clear_value v1
  try clear_value v2
  have hv3 : Steady q v3 := Steady.same h0 rfl
  try clear_value v3
  have hv4 : Steady q v4 := wr_steady hv3
  try clear_value v4
  have hv5 : Steady q v5 := by
    unfold v5
    refine steady_foldl (fun t6 x7 h8 => ?_) ?_
    · exact wr_steady h8
    · exact hv4
  try clear_value v5
  exact commitEntry_steady hv5

theorem execEventEmit_steady {rank num severity inst args s} (h5 : Steady q s) :
    SteadyNext q (execEventEmit rank num severity inst args s) := by
  unfold execEventEmit
  refine steady_next ?_
  exact whenAlive_steady (fun t1 h0 => emitRaw_steady h0) h5

theorem execEventCommit_steady {s} (h0 : Steady q s) :
    SteadyNext q (execEventCommit s) := by
  unfold execEventCommit
  refine steady_next ?_
  refine whenAlive_steady (fun t1 h0 => ?_) h0
  · refine steady_ite ?_ ?_
    · exact commitFirst_steady h0
    · exact h0

end Sys2Proof.Machine
end

