-- ==== Sys2Proof/Laws/SteadyCounters.lean ====
section
/-! SUPPORT. Every operation of Machine/Counters.lean keeps the stores canonical and the queue as it is. -/

namespace Sys2Proof.Machine

variable {q : List Instr}

theorem pmcCapture_steady {context s} (h1 : Steady q s) :
    Steady q (pmcCapture context s) := by
  unfold pmcCapture
  split
  · exact h1
  · extract_lets v6 v7 v8 v9 v10
    try clear_value v6
    try clear_value v7
    have hv8 : Steady q v8 := Steady.same h1 rfl
    try clear_value v8
    try clear_value v9
    try clear_value v10
    refine steady_ite ?_ ?_
    · exact h1
    · refine steady_ite ?_ ?_
      · exact countSkipped_steady hv8
      · refine steady_ite ?_ ?_
        · exact countSampleDropped_steady hv8
        · exact Steady.same hv8 rfl

theorem pmcRelease_steady {q' s} (h1 : Steady q s) :
    Steady q (pmcRelease q' s) := by
  unfold pmcRelease
  refine steady_ite ?_ ?_
  · exact Steady.same h1 rfl
  · exact h1

theorem execPmcOverflow_steady {c add wr' clear s} (h4 : Steady q s) :
    SteadyNext q (execPmcOverflow c add wr' clear s) := by
  unfold execPmcOverflow
  refine steady_next ?_
  refine whenAlive_steady (fun t1 h0 => ?_) h4
  · extract_lets v2 v3 v4
    try clear_value v2
    try clear_value v3
    have hv4 : Steady q v4 := by
      refine steady_ite ?_ ?_
      · exact wr_steady h0
      · exact h0
    try clear_value v4
    split
    · refine steady_ite ?_ ?_
      · exact pmcOverflowed_steady (wr_steady hv4)
      · refine steady_ite ?_ ?_
        · exact wr_steady hv4
        · exact hv4
    · refine steady_ite ?_ ?_
      · exact pmcAdd_steady hv4
      · exact hv4

theorem execPmcSampleCapture_steady {context s} (h1 : Steady q s) :
    SteadyNext q (execPmcSampleCapture context s) := by
  unfold execPmcSampleCapture
  refine steady_next ?_
  exact whenAlive_steady (fun t1 h0 => pmcCapture_steady h0) h1

theorem observe_steady {src inst v s} (h3 : Steady q s) :
    Steady q (observe src inst v s) := by
  unfold observe
  refine steady_foldl (fun t0 x1 h2 => ?_) ?_
  · refine steady_ite ?_ ?_
    · exact Steady.same h2 rfl
    · exact h2
  · exact h3

theorem histClear_steady {h s} (h1 : Steady q s) :
    Steady q (histClear h s) := by
  unfold histClear
  exact Steady.same h1 rfl

theorem execHistogramObservation_steady {h inst value s} (h3 : Steady q s) :
    SteadyNext q (execHistogramObservation h inst value s) := by
  unfold execHistogramObservation
  refine steady_next ?_
  refine whenAlive_steady (fun t1 h0 => ?_) h3
  · refine steady_ite ?_ ?_
    · exact Steady.same h0 rfl
    · exact h0

theorem idle_steady {s} (h0 : Steady q s) :
    Steady q (idle s) := by
  unfold idle
  refine steady_ite ?_ ?_
  · exact runEdges_steady h0
  · refine steady_ite ?_ ?_
    · exact Steady.same h0 rfl
    · exact h0

end Sys2Proof.Machine
end

