-- ==== Sys2Proof/Laws/SteadyStation.lean ====
section
/-! SUPPORT. Every operation of Machine/Station.lean keeps the stores canonical and the queue as it is. -/

namespace Sys2Proof.Machine

variable {q : List Instr}

theorem schedule_steady {target cause arg s} (h3 : Steady q s) :
    Steady q (schedule target cause arg s) := by
  unfold schedule
  exact Steady.same h3 rfl

theorem lapseRequest_steady {s} (h0 : Steady q s) :
    Steady q (lapseRequest s) := by
  unfold lapseRequest
  refine steady_ite ?_ ?_
  · exact h0
  · exact wr_steady (Steady.same h0 rfl)

theorem recordTransition_steady {target cause arg s} (h3 : Steady q s) :
    Steady q (recordTransition target cause arg s) := by
  unfold recordTransition
  extract_lets v0 v1
  try clear_value v0
  have hv1 : Steady q v1 := wrs_steady h3
  try clear_value v1
  exact emit_steady (count_steady hv1)

end Sys2Proof.Machine
end

