-- ==== Sys2Proof/Laws/SteadyFaults.lean ====
section
/-! SUPPORT. Every operation of Machine/Faults.lean keeps the stores canonical and the queue as it is. -/

namespace Sys2Proof.Machine

variable {q : List Instr}

theorem setFaultCount_steady {key v s} (h2 : Steady q s) : Steady q (setFaultCount key v s) :=
  ⟨{ h2.canonical with faultCounts := Tbl.wf_set _ _ _ h2.canonical.faultCounts }, h2.pending⟩

theorem countFault_steady {family source inst n s} (h4 : Steady q s) :
    Steady q (countFault family source inst n s) := by
  unfold countFault
  refine steady_ite ?_ ?_
  · exact h4
  · extract_lets v0
    try clear_value v0
    exact Steady.same h4 rfl

theorem foldOne_steady {family source inst acc} (h : Steady q acc.1) : Steady q (foldOne family source inst acc).1 := by
  obtain ⟨s, rs⟩ := acc
  unfold foldOne
  dsimp only
  refine steady_ite1 ?_ (steady_ite1 (setFaultCount_steady h) ?_)
  · refine steady_ite (count_steady (setFaultCount_steady h)) ?_
    exact emit_steady (Steady.same (count_steady (setFaultCount_steady h)) rfl)
  · exact emit_steady (setFaultCount_steady (count_steady h))

theorem foldMany_steady {family source inst n acc} (h : Steady q acc.1) :
    Steady q (foldMany family source inst n acc).1 := by
  induction n generalizing acc with
  | zero => exact h
  | succ n ih => exact ih (foldOne_steady h)

theorem foldFaults_steady {s} (h0 : Steady q s) :
    Steady q (foldFaults s).1 := by
  unfold foldFaults
  extract_lets v0
  try clear_value v0
  refine steady_foldl1 (fun t1 x2 h3 => ?_) ?_
  · exact foldMany_steady h3
  · exact steady_pair1 (Steady.same h0 rfl)

theorem clearSource_steady {family source s} (h : Steady q s) : Steady q (clearSource family source s) :=
  ⟨{ h.canonical with faultCounts := Tbl.wf_filter _ _ h.canonical.faultCounts }, h.pending⟩

theorem leakSource_steady {family source s} (h : Steady q s) : Steady q (leakSource family source s) := by
  refine ⟨{ h.canonical with faultCounts := Tbl.wf_filterMap _ _ ?_ h.canonical.faultCounts }, h.pending⟩
  intro p p' hp hf
  have hne := ((Tbl.wf_iff _ _).mp h.canonical.faultCounts).2 p hp
  split at hf
  · split at hf
    · cases hf
    · cases hf
      exact ⟨rfl, by simp only; omega⟩
  · cases hf
    exact ⟨rfl, hne⟩

theorem execFaultWindowBoundary_steady {family source s} (h2 : Steady q s) :
    SteadyNext q (execFaultWindowBoundary family source s) := by
  unfold execFaultWindowBoundary
  refine steady_next ?_
  exact whenAlive_steady (fun t1 h0 => leakSource_steady h0) h2

end Sys2Proof.Machine
end

