-- ==== Sys2Proof/Laws/SteadyStore.lean ====
section
/-! SUPPORT. Every operation of Machine/Store.lean keeps the stores canonical and the queue as it is. -/

namespace Sys2Proof.Machine

variable {q : List Instr}

/-- A write of one byte keeps the canonical form of the memory. -/
theorem Memory.wf_set {m : List Host.Cell} (key : Nat) (v : Byte) (h : Memory.wf m) :
    Memory.wf (Tbl.set memDefault m key v) := Tbl.wf_set _ _ _ h

theorem wrMem_steady {s key v} (h0 : Steady q s) : Steady q (wrMem s key v) :=
  ⟨{ h0.canonical with mem := Memory.wf_set key v h0.canonical.mem }, h0.pending⟩

theorem wrMems_steady {s key bs} (h0 : Steady q s) : Steady q (wrMems s key bs) := by
  induction bs generalizing s key with
  | nil => exact h0
  | cons b bs ih => exact ih (wrMem_steady h0)

theorem setRing_steady {n L bs s} (h3 : Steady q s) :
    Steady q (setRing n L bs s) := by
  unfold setRing
  exact wrMems_steady h3

theorem setTideBits_steady {n L v s} (h3 : Steady q s) : Steady q (setTideBits n L v s) :=
  ⟨{ h3.canonical with tideRec := Tbl.wf_set _ _ _ h3.canonical.tideRec }, h3.pending⟩

theorem setSample_steady {n w v s} (h3 : Steady q s) : Steady q (setSample n w v s) :=
  ⟨{ h3.canonical with samples := Tbl.wf_set _ _ _ h3.canonical.samples }, h3.pending⟩

theorem heal_steady {p s} (h1 : Steady q s) :
    Steady q (heal p s) := by
  unfold heal
  exact Steady.same h1 rfl

theorem healInst_steady {region inst s} (h2 : Steady q s) :
    Steady q (healInst region inst s) := by
  unfold healInst
  exact heal_steady h2

theorem healTideArea_steady {kind p s} (h2 : Steady q s) :
    Steady q (healTideArea kind p s) := by
  unfold healTideArea
  exact heal_steady h2

theorem healRing_steady {n s} (h1 : Steady q s) :
    Steady q (healRing n s) := by
  unfold healRing
  exact heal_steady h1

theorem setLeaf_steady {L f s} (h2 : Steady q s) : Steady q (setLeaf L f s) :=
  ⟨{ h2.canonical with leaves := Tbl.wf_modify _ _ _ h2.canonical.leaves }, h2.pending⟩

theorem setDrove_steady {d f s} (h2 : Steady q s) : Steady q (setDrove d f s) :=
  ⟨{ h2.canonical with droves := Tbl.wf_modify _ _ _ h2.canonical.droves }, h2.pending⟩

theorem setSub_steady {k f s} (h2 : Steady q s) :
    Steady q (setSub k f s) := by
  unfold setSub
  exact Steady.same h2 rfl

theorem gatherSub_steady {n k s} (h2 : Steady q s) :
    Steady q (gatherSub n k s) := by
  unfold gatherSub
  refine steady_ite ?_ ?_
  · exact h2
  · extract_lets v0 v1 v2 v3 v4
    try clear_value v0
    try clear_value v1
    try clear_value v2
    try clear_value v3
    try clear_value v4
    split
    · exact h2
    · extract_lets v9
      try clear_value v9
      refine steady_ite ?_ ?_
      · exact setSub_steady h2
      · exact setSub_steady h2

theorem gatherSubs_steady {n s} (h1 : Steady q s) :
    Steady q (gatherSubs n s) := by
  unfold gatherSubs
  refine steady_foldl (fun t0 x1 h2 => ?_) ?_
  · exact gatherSub_steady h2
  · exact h1

theorem dropSub_steady {k s} (h1 : Steady q s) :
    Steady q (dropSub k s) := by
  unfold dropSub
  exact setSub_steady (count_steady h1)

theorem execSubWindowRecord_steady {k late s} (h2 : Steady q s) :
    SteadyNext q (execSubWindowRecord k late s) := by
  unfold execSubWindowRecord
  refine steady_next ?_
  refine whenAlive_steady (fun t1 h0 => ?_) h2
  · split
    · exact h0
    · extract_lets v9 v10 v11
      have hv9 : Steady q v9 := setSub_steady h0
      try clear_value v9
      try clear_value v10
      try clear_value v11
      refine steady_ite ?_ ?_
      · exact dropSub_steady hv9
      · exact pmcEvent_steady (setSub_steady (healInst_steady hv9))

theorem subRelease_steady {k c s} (h2 : Steady q s) :
    Steady q (subRelease k c s) := by
  unfold subRelease
  refine steady_ite ?_ ?_
  · exact setSub_steady h2
  · exact h2

end Sys2Proof.Machine
end

