-- ==== Sys2Proof/Laws/SteadyBases.lean ====
section
/-! SUPPORT. Every operation of Machine/Bases.lean keeps the stores canonical and the queue as it is. -/

namespace Sys2Proof.Machine

variable {q : List Instr}

theorem showBases_steady {s} (h0 : Steady q s) :
    Steady q (showBases s) := by
  unfold showBases
  exact wrF_steady (wrF_steady (wrF_steady (wrF_steady h0)))

end Sys2Proof.Machine
end

