-- ==== Sys2Proof/Laws/SteadyGrid.lean ====
section
/-! SUPPORT. Every operation of Machine/Grid.lean keeps the stores canonical and the queue as it is. -/

namespace Sys2Proof.Machine

variable {q : List Instr}

theorem setConv_steady {c f s} (h2 : Steady q s) :
    Steady q (setConv c f s) := by
  unfold setConv
  exact Steady.same h2 rfl

theorem setSync_steady {c i b s} (h3 : Steady q s) :
    Steady q (setSync c i b s) := by
  unfold setSync
  exact wr_steady h3

theorem useSource_steady {c src s} (h2 : Steady q s) :
    Steady q (useSource c src s) := by
  unfold useSource
  refine steady_ite ?_ ?_
  · exact h2
  · extract_lets v0
    have hv0 : Steady q v0 := setSync_steady (wr_steady h2)
    try clear_value v0
    exact setConv_steady hv0

theorem changeSource_steady {c alt s} (h2 : Steady q s) :
    Steady q (changeSource c alt s) := by
  unfold changeSource
  exact emit_steady (useSource_steady h2)

theorem trackSector_steady {c s} (h1 : Steady q s) :
    Steady q (trackSector c s) := by
  unfold trackSector
  extract_lets v0 v1 v2 v3 v4 v5 v6 v7
  try clear_value v0
  have hv1 : Steady q v1 := setSync_steady h1
  try clear_value v1
  try clear_value v2
  try clear_value v3
  try clear_value v4
  try clear_value v5
  have hv6 : Steady q v6 := setConv_steady hv1
  try clear_value v6
  have hv7 : Steady q v7 := wr_steady hv6
  try clear_value v7
  refine steady_ite ?_ ?_
  · exact h1
  · refine steady_ite ?_ ?_
    · exact setSync_steady (setSync_steady h1)
    · refine steady_ite ?_ ?_
      · exact hv6
      · refine steady_ite ?_ ?_
        · exact setSync_steady (countBy_steady hv7)
        · exact hv7

theorem trackRt_steady {c ns s} (h2 : Steady q s) :
    Steady q (trackRt c ns s) := by
  unfold trackRt
  extract_lets v0 v1 v2 v3 v4 v5
  try clear_value v0
  try clear_value v1
  have hv2 : Steady q v2 := setSync_steady h2
  try clear_value v2
  try clear_value v3
  have hv4 : Steady q v4 := Steady.same hv2 rfl
  try clear_value v4
  try clear_value v5
  refine steady_ite ?_ ?_
  · split
    · exact hv4
    · exact setConv_steady hv4
  · refine steady_ite ?_ ?_
    · exact hv2
    · exact setConv_steady hv2

theorem closeProbe_steady {c s} (h1 : Steady q s) :
    Steady q (closeProbe c s) := by
  unfold closeProbe
  extract_lets v0 v1 v2 v3
  try clear_value v0
  try clear_value v1
  try clear_value v2
  try clear_value v3
  refine steady_ite ?_ ?_
  · exact h1
  · refine steady_ite ?_ ?_
    · exact setConv_steady h1
    · exact setConv_steady (wrPu_steady h1)

theorem probeDone_steady {c ns s} (h2 : Steady q s) :
    Steady q (probeDone c ns s) := by
  unfold probeDone
  refine steady_ite ?_ ?_
  · exact closeProbe_steady h2
  · exact h2

theorem processSample_steady {c m s} (h2 : Steady q s) :
    Steady q (processSample c m s) := by
  unfold processSample
  extract_lets v0 v1 v2 v3 v4 v5 v6 v7 v8 v9 v10 v11 v12
  try clear_value v0
  try clear_value v1
  try clear_value v2
  try clear_value v3
  try clear_value v4
  try clear_value v5
  try clear_value v6
  try clear_value v7
  try clear_value v8
  have hv9 : Steady q v9 := setConv_steady h2
  try clear_value v9
  have hv10 : Steady q v10 := setSync_steady (setSync_steady hv9)
  try clear_value v10
  have hv11 : Steady q v11 := by
    refine steady_ite ?_ ?_
    · exact setSync_steady hv10
    · exact hv10
  try clear_value v11
  have hv12 : Steady q v12 := trackRt_steady (probeDone_steady (trackSector_steady hv11))
  try clear_value v12
  exact setConv_steady hv12

theorem takeVoltage_steady {c src m s} (h3 : Steady q s) :
    Steady q (takeVoltage c src m s) := by
  unfold takeVoltage
  refine steady_ite ?_ ?_
  · exact h3
  · refine steady_ite ?_ ?_
    · exact h3
    · extract_lets v0 v1 v2
      try clear_value v0
      try clear_value v1
      have hv2 : Steady q v2 := setConv_steady h3
      try clear_value v2
      refine steady_ite ?_ ?_
      · exact hv2
      · refine processSample_steady ?_
        · refine steady_ite ?_ ?_
          · exact useSource_steady hv2
          · exact changeSource_steady hv2

theorem execVoltageSample_steady {c src m s} (h3 : Steady q s) :
    SteadyNext q (execVoltageSample c src m s) := by
  unfold execVoltageSample
  refine steady_next ?_
  exact whenAlive_steady (fun t1 h0 => takeVoltage_steady h0) h3

theorem deliverVolts_steady {c s} (h1 : Steady q s) :
    Steady q (deliverVolts c s) := by
  unfold deliverVolts
  extract_lets v0 v1
  try clear_value v1
  refine steady_foldl (fun t2 x3 h4 => ?_) ?_
  · exact takeVoltage_steady h4
  · exact setConv_steady h1

theorem publishGrid_steady {n c s} (h2 : Steady q s) :
    Steady q (publishGrid n c s) := by
  unfold publishGrid
  extract_lets v0 v1 v2 v3 v4
  try clear_value v0
  try clear_value v1
  have hv3 : Steady q v3 := wrs_steady h2
  try clear_value v3
  have hv4 : Steady q v4 := by
    refine steady_ite ?_ ?_
    · exact hv3
    · exact wr_steady hv3
  try clear_value v4
  exact setConv_steady hv4

theorem execGridSetPublish_steady {s} (h0 : Steady q s) :
    SteadyNext q (execGridSetPublish s) := by
  unfold execGridSetPublish
  refine steady_next ?_
  refine whenAlive_steady (fun t1 h0 => ?_) h0
  · extract_lets v2
    have hv2 : Steady q v2 := runTo_steady h0
    try clear_value v2
    refine steady_ite ?_ ?_
    · exact hv2
    · exact publishGrid_steady (publishGrid_steady (deliverVolts_steady (deliverVolts_steady hv2)))

theorem askRampDown_steady {cause arg s} (h2 : Steady q s) :
    Steady q (askRampDown cause arg s) := by
  unfold askRampDown
  exact schedule_steady h2

theorem askBlocked_steady {cause s} (h1 : Steady q s) :
    Steady q (askBlocked cause s) := by
  unfold askBlocked
  exact schedule_steady h1

theorem sourceLostAction_steady {c s} (h1 : Steady q s) :
    Steady q (sourceLostAction c s) := by
  unfold sourceLostAction
  refine steady_ite ?_ ?_
  · exact askBlocked_steady h1
  · refine steady_ite ?_ ?_
    · exact askRampDown_steady h1
    · exact h1

theorem execSourceLossTimeout_steady {c s} (h1 : Steady q s) :
    SteadyNext q (execSourceLossTimeout c s) := by
  unfold execSourceLossTimeout
  refine steady_next ?_
  refine whenAlive_steady (fun t1 h0 => ?_) h1
  · extract_lets v2 v3 v4 v5
    try clear_value v2
    try clear_value v3
    have hv4 : Steady q v4 := setSync_steady (setSync_steady h0)
    try clear_value v4
    have hv5 : Steady q v5 := setConv_steady hv4
    try clear_value v5
    refine steady_ite ?_ ?_
    · exact h0
    · refine steady_ite ?_ ?_
      · exact changeSource_steady h0
      · refine steady_ite ?_ ?_
        · exact h0
        · exact sourceLostAction_steady (countFault_steady (emit_steady hv5))

theorem execScrEstimate_steady {c s} (h1 : Steady q s) :
    SteadyNext q (execScrEstimate c s) := by
  unfold execScrEstimate
  refine steady_next ?_
  refine whenAlive_steady (fun t1 h0 => ?_) h1
  · extract_lets v2 v3 v4 v5 v6
    try clear_value v2
    try clear_value v3
    try clear_value v4
    try clear_value v5
    try clear_value v6
    refine steady_ite ?_ ?_
    · exact h0
    · exact wrPu_steady h0

theorem execRtConfirmExpiry_steady {c s} (h1 : Steady q s) :
    SteadyNext q (execRtConfirmExpiry c s) := by
  unfold execRtConfirmExpiry
  refine steady_next ?_
  refine whenAlive_steady (fun t1 h0 => ?_) h1
  · refine steady_ite ?_ ?_
    · exact schedule_steady (count_steady (emit_steady h0))
    · exact h0

theorem execRtCurveCrossed_steady {c s} (h1 : Steady q s) :
    SteadyNext q (execRtCurveCrossed c s) := by
  unfold execRtCurveCrossed
  refine steady_next ?_
  refine whenAlive_steady (fun t1 h0 => ?_) h1
  · refine steady_ite ?_ ?_
    · exact askBlocked_steady (count_steady (emit_steady h0))
    · exact h0

theorem endRide_steady {s} (h0 : Steady q s) :
    Steady q (endRide s) := by
  unfold endRide
  refine steady_ite ?_ ?_
  · exact schedule_steady h0
  · exact h0

theorem execRtExitHoldExpiry_steady {s} (h0 : Steady q s) :
    SteadyNext q (execRtExitHoldExpiry s) := by
  unfold execRtExitHoldExpiry
  refine steady_next ?_
  refine whenAlive_steady (fun t1 h0 => ?_) h0
  · refine steady_ite ?_ ?_
    · exact endRide_steady (Steady.same h0 rfl)
    · exact h0

theorem keepRide_steady {s} (h0 : Steady q s) :
    Steady q (keepRide s) := by
  unfold keepRide
  refine steady_ite ?_ ?_
  · exact Steady.same h0 rfl
  · exact h0

theorem execDpcEntry_steady {c s} (h1 : Steady q s) :
    SteadyNext q (execDpcEntry c s) := by
  unfold execDpcEntry
  refine steady_next ?_
  refine whenAlive_steady (fun t1 h0 => ?_) h1
  · refine steady_ite ?_ ?_
    · refine steady_ite ?_ ?_
      · exact askBlocked_steady h0
      · exact setConv_steady h0
    · exact h0

theorem execDpcExitHoldExpiry_steady {c s} (h1 : Steady q s) :
    SteadyNext q (execDpcExitHoldExpiry c s) := by
  unfold execDpcExitHoldExpiry
  refine steady_next ?_
  refine whenAlive_steady (fun t1 h0 => ?_) h1
  · refine steady_ite ?_ ?_
    · exact endRide_steady (setConv_steady h0)
    · exact h0

theorem suspendShift_steady {c s} (h1 : Steady q s) :
    Steady q (suspendShift c s) := by
  unfold suspendShift
  exact setConv_steady h1

theorem islandReaction_steady {c s} (h1 : Steady q s) :
    Steady q (islandReaction c s) := by
  unfold islandReaction
  split
  · exact askRampDown_steady h1
  · exact askBlocked_steady h1
  · exact setConv_steady h1
  · exact h1

theorem islandMode_steady {c s} (h1 : Steady q s) :
    Steady q (islandMode c s) := by
  unfold islandMode
  refine steady_ite ?_ ?_
  · exact wr_steady (setConv_steady h1)
  · exact h1

theorem flagMethod_steady {c how s} (h2 : Steady q s) :
    Steady q (flagMethod c how s) := by
  unfold flagMethod
  refine steady_ite ?_ ?_
  · exact wr_steady h2
  · exact h2

theorem detectIsland_steady {c how s} (h2 : Steady q s) :
    Steady q (detectIsland c how s) := by
  unfold detectIsland
  refine steady_ite ?_ ?_
  · exact h2
  · extract_lets v0 v1
    try clear_value v0
    have hv1 : Steady q v1 := flagMethod_steady h2
    try clear_value v1
    refine steady_ite ?_ ?_
    · exact hv1
    · exact islandReaction_steady (count_steady (emit_steady hv1))

theorem stallFound_steady {c s} (h1 : Steady q s) :
    Steady q (stallFound c s) := by
  unfold stallFound
  refine steady_ite ?_ ?_
  · exact askBlocked_steady (emit_steady (flagMethod_steady h1))
  · exact detectIsland_steady h1

theorem execIslandingDetected_steady {c how s} (h2 : Steady q s) :
    SteadyNext q (execIslandingDetected c how s) := by
  unfold execIslandingDetected
  refine steady_next ?_
  refine whenAlive_steady (fun t1 h0 => ?_) h2
  · refine steady_ite ?_ ?_
    · refine steady_ite ?_ ?_
      · exact stallFound_steady h0
      · exact detectIsland_steady h0
    · exact h0

theorem execGridStall_steady {c s} (h1 : Steady q s) :
    SteadyNext q (execGridStall c s) := by
  unfold execGridStall
  refine steady_next ?_
  refine whenAlive_steady (fun t1 h0 => ?_) h1
  · refine steady_ite ?_ ?_
    · exact h0
    · exact stallFound_steady (setSync_steady h0)

theorem execProbePeriodStart_steady {c s} (h1 : Steady q s) :
    SteadyNext q (execProbePeriodStart c s) := by
  unfold execProbePeriodStart
  refine steady_next ?_
  refine whenAlive_steady (fun t1 h0 => ?_) h1
  · refine steady_ite ?_ ?_
    · exact setConv_steady (closeProbe_steady h0)
    · exact h0

theorem clearIslands_steady {c s} (h1 : Steady q s) :
    Steady q (clearIslands c s) := by
  unfold clearIslands
  exact wr_steady h1

theorem primarySource_steady {c s} (h1 : Steady q s) :
    Steady q (primarySource c s) := by
  unfold primarySource
  exact setSync_steady (wr_steady h1)

theorem gridCommit_steady {old s} (_h0 : Steady q old) (h1 : Steady q s) :
    Steady q (gridCommit old s) := by
  unfold gridCommit
  refine steady_foldl (fun t0 x1 h2 => ?_) ?_
  · extract_lets v3
    have hv3 : Steady q v3 := by
      refine steady_ite ?_ ?_
      · exact h2
      · exact primarySource_steady h2
    try clear_value v3
    refine steady_ite ?_ ?_
    · exact hv3
    · exact wrPu_steady hv3
  · exact h1

theorem dpcBegin_steady {c s} (h1 : Steady q s) :
    Steady q (dpcBegin c s) := by
  unfold dpcBegin
  refine steady_ite ?_ ?_
  · exact h1
  · extract_lets v0
    have hv0 : Steady q v0 := setConv_steady h1
    try clear_value v0
    refine steady_ite ?_ ?_
    · exact emit_steady (count_steady (wr_steady (setSync_steady hv0)))
    · exact hv0

end Sys2Proof.Machine
end

