-- ==== Sys2Proof/Laws/SteadyGridItems.lean ====
section
/-! SUPPORT. Every operation of Machine/GridItems.lean keeps the stores canonical and the queue as it is. -/

namespace Sys2Proof.Machine

variable {q : List Instr}

theorem copySetpoints_steady {c s} (h1 : Steady q s) :
    Steady q (copySetpoints c s) := by
  unfold copySetpoints
  exact setConv_steady h1

theorem reverse_steady {c dir s} (h2 : Steady q s) :
    Steady q (reverse c dir s) := by
  unfold reverse
  extract_lets v0 v1
  have hv0 : Steady q v0 := wrs_steady h2
  try clear_value v0
  have hv1 : Steady q v1 := emit_steady (count_steady hv0)
  try clear_value v1
  exact setConv_steady hv1

theorem steady_steady {c s} (h1 : Steady q s) :
    Steady q (steady c s) := by
  unfold steady
  exact setConv_steady (wrs_steady h1)

theorem interlock_steady {c pt s} (h2 : Steady q s) :
    Steady q (interlock c pt s) := by
  unfold interlock
  extract_lets v0 v1 v2 v3
  try clear_value v0
  try clear_value v1
  try clear_value v2
  try clear_value v3
  refine steady_ite ?_ ?_
  · refine steady_ite ?_ ?_
    · refine steady_ite ?_ ?_
      · exact h2
      · exact steady_steady h2
    · refine steady_ite ?_ ?_
      · exact reverse_steady h2
      · exact wrs_steady h2
  · refine steady_ite ?_ ?_
    · refine steady_ite ?_ ?_
      · exact wr_steady h2
      · exact h2
    · refine steady_ite ?_ ?_
      · refine steady_ite ?_ ?_
        · exact h2
        · exact steady_steady h2
      · split
        · exact wr_steady h2
        · refine steady_ite ?_ ?_
          · exact setConv_steady (wr_steady h2)
          · exact h2
        · refine steady_ite ?_ ?_
          · exact reverse_steady h2
          · exact wr_steady h2
        · exact h2

theorem endDwell_steady {c s} (h1 : Steady q s) :
    Steady q (endDwell c s) := by
  unfold endDwell
  extract_lets v0 v1
  try clear_value v0
  try clear_value v1
  refine steady_ite ?_ ?_
  · exact reverse_steady h1
  · exact wrs_steady h1

theorem execReversalDwellEnd_steady {c s} (h1 : Steady q s) :
    SteadyNext q (execReversalDwellEnd c s) := by
  unfold execReversalDwellEnd
  refine steady_next ?_
  refine whenAlive_steady (fun t1 h0 => ?_) h1
  · split
    · refine steady_ite ?_ ?_
      · exact endDwell_steady (runTo_steady h0)
      · exact h0
    · exact h0

theorem holdDwell_steady {dst c s} (h2 : Steady q s) :
    Steady q (holdDwell dst c s) := by
  unfold holdDwell
  refine steady_ite ?_ ?_
  · exact h2
  · refine steady_ite ?_ ?_
    · exact setConv_steady h2
    · refine steady_ite ?_ ?_
      · exact setConv_steady h2
      · exact h2

theorem powerRefs_steady {c ts s} (h2 : Steady q s) :
    Steady q (powerRefs c ts s) := by
  unfold powerRefs
  extract_lets v0 v1 v2 v3 v4 v5 v6 v7 v8 v9 v10 v11 v12 v13 v14 v15 v16 v17
  try clear_value v0
  try clear_value v1
  try clear_value v2
  try clear_value v3
  try clear_value v4
  try clear_value v5
  try clear_value v6
  try clear_value v7
  have hv8 : Steady q v8 := setConv_steady h2
  try clear_value v8
  have hv9 : Steady q v9 := interlock_steady hv8
  try clear_value v9
  try clear_value v10
  try clear_value v11
  try clear_value v12
  try clear_value v13
  try clear_value v14
  try clear_value v15
  try clear_value v16
  try clear_value v17
  exact setConv_steady hv9

theorem reactiveRefs_steady {c ts s} (h2 : Steady q s) :
    Steady q (reactiveRefs c ts s) := by
  unfold reactiveRefs
  extract_lets v0 v1 v2
  try clear_value v0
  try clear_value v1
  try clear_value v2
  exact setConv_steady h2

theorem stepBackOff_steady {c s} (h1 : Steady q s) :
    Steady q (stepBackOff c s) := by
  unfold stepBackOff
  exact setConv_steady h1

theorem formQuiet_steady {c s} (h1 : Steady q s) :
    Steady q (formQuiet c s) := by
  unfold formQuiet
  extract_lets v0 v1
  try clear_value v0
  have hv1 : Steady q v1 := by
    refine steady_ite ?_ ?_
    · exact wr_steady h1
    · exact h1
  try clear_value v1
  exact setConv_steady hv1

theorem formLimit_steady {c r s} (h2 : Steady q s) :
    Steady q (formLimit c r s).1 := by
  unfold formLimit
  extract_lets v0 v1
  try clear_value v0
  try clear_value v1
  refine steady_ite1 ?_ ?_
  · exact steady_pair1 (setConv_steady (wr_steady h2))
  · exact steady_pair1 (formQuiet_steady h2)

theorem rampRefs_steady {c vPre s} (h2 : Steady q s) :
    Steady q (rampRefs c vPre s) := by
  unfold rampRefs
  extract_lets v0 v1
  try clear_value v0
  try clear_value v1
  exact setConv_steady (setSync_steady (formQuiet_steady h2))

theorem modeTransfer_steady {c s} (h1 : Steady q s) :
    Steady q (modeTransfer c s) := by
  unfold modeTransfer
  extract_lets v0 v1 v2 v3 v4 v5 v6 v7
  try clear_value v0
  try clear_value v1
  have hv2 : Steady q v2 := emit_steady h1
  try clear_value v2
  try clear_value v3
  try clear_value v4
  try clear_value v5
  try clear_value v6
  try clear_value v7
  refine steady_ite ?_ ?_
  · exact h1
  · refine steady_ite ?_ ?_
    · exact setConv_steady hv2
    · exact setConv_steady hv2

theorem finishRefs_steady {c ts r s} (h3 : Steady q s) :
    Steady q (finishRefs c ts r s) := by
  unfold finishRefs
  extract_lets v0 v1 v2 v3 v4 v5 v6
  try clear_value v0
  try clear_value v1
  try clear_value v2
  try clear_value v3
  try clear_value v4
  try clear_value v5
  try clear_value v6
  exact setConv_steady (setSync_steady h3)

theorem idleMark_steady {c s} (h1 : Steady q s) :
    Steady q (idleMark c s) := by
  unfold idleMark
  exact setSync_steady (formQuiet_steady h1)

theorem rideMark_steady {c ts s} (h2 : Steady q s) :
    Steady q (rideMark c ts s) := by
  unfold rideMark
  extract_lets v0 v1 v2 v3 v4
  have hv0 : Steady q v0 := formQuiet_steady h2
  try clear_value v0
  try clear_value v1
  try clear_value v2
  try clear_value v3
  try clear_value v4
  exact setConv_steady (setSync_steady hv0)

theorem runMark_steady {c ts s} (h2 : Steady q s) :
    Steady q (runMark c ts s) := by
  unfold runMark
  extract_lets v0 v1 v2
  try clear_value v0
  try clear_value v1
  have hv2 : Steady q v2.1 := formLimit_steady (setConv_steady h2)
  try clear_value v2
  refine steady_ite ?_ ?_
  · exact finishRefs_steady hv2
  · exact finishRefs_steady (formQuiet_steady h2)

theorem gridItem_steady {c ts s} (h2 : Steady q s) :
    Steady q (gridItem c ts s) := by
  unfold gridItem
  extract_lets v0 v1 v2
  try clear_value v0
  try clear_value v1
  have hv2 : Steady q v2 := stepBackOff_steady (reactiveRefs_steady (powerRefs_steady (modeTransfer_steady h2)))
  try clear_value v2
  refine steady_ite ?_ ?_
  · exact wrs_steady (idleMark_steady h2)
  · refine steady_ite ?_ ?_
    · exact idleMark_steady h2
    · refine steady_ite ?_ ?_
      · exact rampRefs_steady hv2
      · refine steady_ite ?_ ?_
        · exact rideMark_steady hv2
        · refine steady_ite ?_ ?_
          · exact setConv_steady (formQuiet_steady hv2)
          · exact runMark_steady hv2

theorem setLeg_steady {g f s} (h2 : Steady q s) :
    Steady q (setLeg g f s) := by
  unfold setLeg
  exact Steady.same h2 rfl

theorem batteryShares_steady {c total s} (h2 : Steady q s) :
    Steady q (batteryShares c total s) := by
  unfold batteryShares
  extract_lets v0 v1 v2 v3 v4
  try clear_value v0
  try clear_value v1
  try clear_value v4
  exact Steady.same h2 rfl

theorem energyItem_steady {c ts s} (h2 : Steady q s) :
    Steady q (energyItem c ts s) := by
  unfold energyItem
  refine steady_ite ?_ ?_
  · exact h2
  · extract_lets v0 v1 v2 v3 v4 v5 v6 v7 v8 v9 v10 v11 v12 v13 v14 v15 v16 v17
    try clear_value v0
    try clear_value v1
    try clear_value v2
    try clear_value v3
    try clear_value v4
    try clear_value v5
    try clear_value v6
    try clear_value v7
    try clear_value v8
    try clear_value v9
    try clear_value v10
    try clear_value v11
    try clear_value v12
    try clear_value v13
    try clear_value v14
    have hv15 : Steady q v15 := setConv_steady h2
    try clear_value v15
    have hv16 : Steady q v16 := batteryShares_steady hv15
    try clear_value v16
    try clear_value v17
    refine steady_foldl (fun t18 x19 h20 => ?_) ?_
    · extract_lets v21 v22 v23
      try clear_value v21
      try clear_value v22
      try clear_value v23
      exact setLeg_steady h20
    · exact hv16

theorem captureRefs_steady {s} (h0 : Steady q s) :
    Steady q (captureRefs s) := by
  unfold captureRefs
  exact Steady.same h0 rfl

theorem publishCoast_steady {c r s} (h2 : Steady q s) :
    Steady q (publishCoast c r s) := by
  unfold publishCoast
  exact setConv_steady h2

theorem coastRefs_steady {c ts s} (h2 : Steady q s) :
    Steady q (coastRefs c ts s) := by
  unfold coastRefs
  extract_lets v0 v1 v2 v3
  try clear_value v0
  try clear_value v1
  try clear_value v2
  have hv3 : Steady q v3.1 := formLimit_steady (setConv_steady h2)
  try clear_value v3
  refine steady_ite ?_ ?_
  · exact publishCoast_steady (setSync_steady (formQuiet_steady h2))
  · refine steady_ite ?_ ?_
    · exact publishCoast_steady (setSync_steady hv3)
    · exact publishCoast_steady (idleMark_steady h2)

theorem generatorMark_steady {ts s} (h1 : Steady q s) :
    Steady q (generatorMark ts s) := by
  unfold generatorMark
  extract_lets v0 v1
  have hv0 : Steady q v0 := by
    unfold v0
    refine steady_foldl (fun t2 x3 h4 => ?_) ?_
    · refine steady_ite ?_ ?_
      · exact coastRefs_steady h4
      · exact rampRefs_steady h4
    · exact h1
  try clear_value v0
  try clear_value v1
  exact Steady.same hv0 rfl

end Sys2Proof.Machine
end

