-- ==== Sys2Proof/Laws/SteadyLoopIsa.lean ====
section
/-! SUPPORT. Every operation of Machine/LoopIsa.lean keeps the stores canonical and the queue as it is. -/

namespace Sys2Proof.Machine

variable {q : List Instr}

theorem setCl_steady {f s} (h1 : Steady q s) :
    Steady q (setCl f s) := by
  unfold setCl
  exact Steady.same h1 rfl

theorem setUser_steady {u f s} (h2 : Steady q s) :
    Steady q (setUser u f s) := by
  unfold setUser
  exact setCl_steady h2

theorem progMiss_steady {u s} (h1 : Steady q s) :
    Steady q (progMiss u s) := by
  unfold progMiss
  extract_lets v0 v1
  try clear_value v0
  have hv1 : Steady q v1 := setUser_steady (count_steady h1)
  try clear_value v1
  refine steady_ite ?_ ?_
  · exact wr_steady hv1
  · exact hv1

theorem userProgram_steady {n late u s} (h3 : Steady q s) :
    Steady q (userProgram n late u s) := by
  unfold userProgram
  split
  · exact h3
  · refine steady_ite ?_ ?_
    · exact progMiss_steady h3
    · extract_lets v5 v6 v7 v8
      try clear_value v5
      try clear_value v6
      have hv7 : Steady q v7 := setUser_steady h3
      try clear_value v7
      have hv8 : Steady q v8 := countBy_steady hv7
      try clear_value v8
      exact countBy_steady (wr_steady hv8)

theorem takeOutputs_steady {n s} (h1 : Steady q s) :
    Steady q (takeOutputs n s) := by
  unfold takeOutputs
  exact setCl_steady h1

theorem restoreProg_steady {u s} (h1 : Steady q s) :
    Steady q (restoreProg u s) := by
  unfold restoreProg
  extract_lets v0
  try clear_value v0
  refine steady_foldl (fun t1 x2 h3 => ?_) ?_
  · exact progMiss_steady h3
  · exact setUser_steady h1

end Sys2Proof.Machine
end

