-- ==== Sys2Proof/Laws/SteadyAborts.lean ====
section
/-! SUPPORT. Every operation of Machine/Aborts.lean keeps the stores canonical and the queue as it is. -/

namespace Sys2Proof.Machine

variable {q : List Instr}

theorem accept_steady {s} (h0 : Steady q s) :
    Steady q (accept s).1 := by
  unfold accept
  exact steady_pair1 (h0)

theorem refuse_steady {s code} (h0 : Steady q s) :
    Steady q (refuse s code).1 := by
  unfold refuse
  exact steady_pair1 (h0)

end Sys2Proof.Machine
end

