-- ==== Sys2Proof/Laws/SteadyPlacing.lean ====
section
/-! SUPPORT. Every operation of Machine/Placing.lean keeps the stores canonical and the queue as it is. -/

namespace Sys2Proof.Machine

variable {q : List Instr}

theorem showPlaces_steady {s} (h0 : Steady q s) :
    Steady q (showPlaces s) := by
  unfold showPlaces
  extract_lets v0 v1 v2 v3 v4
  try clear_value v0
  try clear_value v1
  try clear_value v2
  try clear_value v3
  try clear_value v4
  exact wrs_steady h0

theorem activatePair_steady {p s} (h1 : Steady q s) :
    Steady q (activatePair p s) := by
  unfold activatePair
  refine steady_ite ?_ ?_
  · exact wr_steady h1
  · exact h1

theorem activateEngine_steady {e s} (h1 : Steady q s) :
    Steady q (activateEngine e s) := by
  unfold activateEngine
  refine steady_ite ?_ ?_
  · exact wr_steady h1
  · exact h1

theorem placeWork_steady {s} (h0 : Steady q s) :
    Steady q (placeWork s) := by
  unfold placeWork
  extract_lets v0 v1 v2 v3 v4 v5 v6 v7
  try clear_value v0
  try clear_value v1
  have hv2 : Steady q v2 := setCl_steady h0
  try clear_value v2
  try clear_value v3
  have hv4 : Steady q v4 := by
    unfold v4
    refine steady_foldl (fun t8 x9 h10 => ?_) ?_
    · split
      · exact setCl_steady (wr_steady h10)
      · exact setCl_steady (wrs_steady h10)
    · exact hv2
  try clear_value v4
  have hv5 : Steady q v5 := by
    unfold v5
    refine steady_foldl (fun t16 x17 h18 => ?_) ?_
    · refine steady_ite ?_ ?_
      · exact h18
      · exact setCl_steady h18
    · exact hv4
  try clear_value v5
  have hv6 : Steady q v6 := by
    unfold v6
    refine steady_foldl (fun t19 x20 h21 => ?_) ?_
    · refine steady_ite ?_ ?_
      · exact h21
      · exact setCl_steady h21
    · exact hv5
  try clear_value v6
  have hv7 : Steady q v7 := by
    unfold v7
    refine steady_foldl (fun t22 x23 h24 => ?_) ?_
    · extract_lets v25
      try clear_value v25
      refine steady_ite ?_ ?_
      · exact h24
      · exact setCl_steady h24
    · exact hv6
  try clear_value v7
  exact showPlaces_steady hv7

theorem moveItems_steady {p s} (h1 : Steady q s) :
    Steady q (moveItems p s) := by
  unfold moveItems
  refine steady_foldl (fun t0 x1 h2 => ?_) ?_
  · refine steady_ite ?_ ?_
    · extract_lets v3 v4
      try clear_value v3
      try clear_value v4
      exact activatePair_steady (setCl_steady h2)
    · exact h2
  · exact h1

theorem moveLegs_steady {e s} (h1 : Steady q s) :
    Steady q (moveLegs e s) := by
  unfold moveLegs
  extract_lets v0 v1
  try clear_value v0
  have hv1 : Steady q v1 := by
    unfold v1
    refine steady_foldl (fun t2 x3 h4 => ?_) ?_
    · refine steady_ite ?_ ?_
      · extract_lets v5 v6
        try clear_value v5
        try clear_value v6
        exact activateEngine_steady (setCl_steady h4)
      · exact h4
    · exact h1
  try clear_value v1
  refine steady_foldl (fun t7 x8 h9 => ?_) ?_
  · refine steady_ite ?_ ?_
    · extract_lets v10
      try clear_value v10
      exact activateEngine_steady (setCl_steady (restoreProg_steady h9))
    · exact h9
  · exact hv1

theorem failPair_steady {p s} (h1 : Steady q s) :
    Steady q (failPair p s) := by
  unfold failPair
  refine steady_ite ?_ ?_
  · extract_lets v0 v1
    have hv0 : Steady q v0 := emit_steady (count_steady h1)
    try clear_value v0
    have hv1 : Steady q v1 := wr_steady (countFault_steady hv0)
    try clear_value v1
    refine showPlaces_steady ?_
    · refine steady_ite ?_ ?_
      · exact hv1
      · exact moveItems_steady hv1
  · exact h1

theorem failEngine_steady {e s} (h1 : Steady q s) :
    Steady q (failEngine e s) := by
  unfold failEngine
  refine steady_ite ?_ ?_
  · extract_lets v0
    have hv0 : Steady q v0 := emit_steady (count_steady h1)
    try clear_value v0
    exact showPlaces_steady (moveLegs_steady (wr_steady (countFault_steady hv0)))
  · exact h1

theorem retirePair_steady {p s} (h1 : Steady q s) :
    Steady q (retirePair p s) := by
  unfold retirePair
  refine steady_ite ?_ ?_
  · extract_lets v0 v1
    try clear_value v0
    have hv1 : Steady q v1 := wr_steady h1
    try clear_value v1
    refine showPlaces_steady ?_
    · refine steady_ite ?_ ?_
      · exact moveItems_steady hv1
      · exact hv1
  · exact h1

theorem retireEngine_steady {e s} (h1 : Steady q s) :
    Steady q (retireEngine e s) := by
  unfold retireEngine
  refine steady_ite ?_ ?_
  · extract_lets v0 v1
    try clear_value v0
    have hv1 : Steady q v1 := wr_steady h1
    try clear_value v1
    refine showPlaces_steady ?_
    · refine steady_ite ?_ ?_
      · exact moveLegs_steady hv1
      · exact hv1
  · exact h1

theorem execLockstepMismatch_steady {pair s} (h1 : Steady q s) :
    SteadyNext q (execLockstepMismatch pair s) := by
  unfold execLockstepMismatch
  refine steady_next ?_
  exact whenAlive_steady (fun t1 h0 => failPair_steady h0) h1

theorem execPairSelfTestEnd_steady {unit passed s} (h2 : Steady q s) :
    SteadyNext q (execPairSelfTestEnd unit passed s) := by
  unfold execPairSelfTestEnd
  refine steady_next ?_
  refine whenAlive_steady (fun t1 h0 => ?_) h2
  · extract_lets v2 v3
    try clear_value v2
    have hv3 : Steady q v3 := by
      refine steady_ite ?_ ?_
      · exact healInst_steady h0
      · exact healInst_steady h0
    try clear_value v3
    refine steady_ite ?_ ?_
    · exact showPlaces_steady (wr_steady hv3)
    · exact h0

theorem execLoopEngineFault_steady {engine s} (h1 : Steady q s) :
    SteadyNext q (execLoopEngineFault engine s) := by
  unfold execLoopEngineFault
  refine steady_next ?_
  exact whenAlive_steady (fun t1 h0 => failEngine_steady h0) h1

theorem restartPairs_steady {s} (h0 : Steady q s) :
    Steady q (restartPairs s) := by
  unfold restartPairs
  extract_lets v0
  have hv0 : Steady q v0 := by
    unfold v0
    refine steady_foldl (fun t1 x2 h3 => ?_) ?_
    · refine steady_ite ?_ ?_
      · exact h3
      · exact wr_steady h3
    · exact h0
  try clear_value v0
  exact setCl_steady hv0

theorem capacityLost_steady {i s} (h1 : Steady q s) :
    Steady q (capacityLost i s) := by
  unfold capacityLost
  extract_lets v0 v1
  try clear_value v0
  have hv1 : Steady q v1 := emit_steady h1
  try clear_value v1
  refine steady_ite ?_ ?_
  · refine steady_ite ?_ ?_
    · exact schedule_steady hv1
    · exact hv1
  · refine steady_ite ?_ ?_
    · exact schedule_steady hv1
    · refine steady_ite ?_ ?_
      · exact hv1
      · refine steady_ite ?_ ?_
        · exact restartPairs_steady (wr_steady hv1)
        · exact restartPairs_steady hv1

theorem execControlCapacityLost_steady {item s} (h1 : Steady q s) :
    SteadyNext q (execControlCapacityLost item s) := by
  unfold execControlCapacityLost
  refine steady_next ?_
  refine whenAlive_steady (fun t1 h0 => ?_) h1
  · refine steady_ite ?_ ?_
    · exact capacityLost_steady h0
    · exact h0

theorem pairsReady_steady {s} (h0 : Steady q s) :
    Steady q (pairsReady s) := by
  unfold pairsReady
  extract_lets v0 v1 v2
  have hv0 : Steady q v0 := by
    unfold v0
    refine steady_foldl (fun t3 x4 h5 => ?_) ?_
    · refine steady_ite ?_ ?_
      · exact wr_steady h5
      · exact h5
    · exact h0
  try clear_value v0
  have hv1 : Steady q v1 := by
    unfold v1
    refine steady_foldl (fun t6 x7 h8 => ?_) ?_
    · refine steady_ite ?_ ?_
      · exact h8
      · extract_lets v9
        try clear_value v9
        exact setCl_steady h8
    · exact hv0
  try clear_value v1
  try clear_value v2
  exact showPlaces_steady (setCl_steady hv1)

theorem execCoastEnd_steady {s} (h0 : Steady q s) :
    SteadyNext q (execCoastEnd s) := by
  unfold execCoastEnd
  refine steady_next ?_
  refine whenAlive_steady (fun t1 h0 => ?_) h0
  · refine steady_ite ?_ ?_
    · exact h0
    · exact pairsReady_steady h0

theorem coastOverrun_steady {arg s} (h1 : Steady q s) :
    Steady q (coastOverrun arg s) := by
  unfold coastOverrun
  exact askRampDown_steady (countFault_steady (count_steady h1))

theorem execCoastLimitExpiry_steady {s} (h0 : Steady q s) :
    SteadyNext q (execCoastLimitExpiry s) := by
  unfold execCoastLimitExpiry
  refine steady_next ?_
  refine whenAlive_steady (fun t1 h0 => ?_) h0
  · split
    · refine steady_ite ?_ ?_
      · exact coastOverrun_steady (runTo_steady h0)
      · exact h0
    · exact h0

theorem coastBandStep_steady {s} (h0 : Steady q s) :
    Steady q (coastBandStep s) := by
  unfold coastBandStep
  refine steady_ite ?_ ?_
  · exact coastOverrun_steady h0
  · exact h0

theorem enterCoast_steady {s} (h0 : Steady q s) :
    Steady q (enterCoast s) := by
  unfold enterCoast
  extract_lets v0
  have hv0 : Steady q v0 := restartPairs_steady (count_steady (emit_steady h0))
  try clear_value v0
  exact setCl_steady (wr_steady hv0)

theorem leaveCoast_steady {dst s} (h1 : Steady q s) :
    Steady q (leaveCoast dst s) := by
  unfold leaveCoast
  extract_lets v0 v1 v2
  try clear_value v0
  try clear_value v1
  have hv2 : Steady q v2 := by
    refine steady_ite ?_ ?_
    · exact emit_steady (wrs_steady h1)
    · exact wr_steady h1
  try clear_value v2
  exact setCl_steady hv2

theorem enterRampDown_steady {arg s} (h1 : Steady q s) :
    Steady q (enterRampDown arg s) := by
  unfold enterRampDown
  extract_lets v0 v1
  have hv0 : Steady q v0 := wr_steady (count_steady h1)
  try clear_value v0
  have hv1 : Steady q v1 := by
    refine steady_ite ?_ ?_
    · exact hv0
    · exact wr_steady hv0
  try clear_value v1
  exact setCl_steady (Steady.same hv1 rfl)

theorem clusterTide_steady {s} (h0 : Steady q s) :
    Steady q (clusterTide s) := by
  unfold clusterTide
  extract_lets v0 v1 v2 v3 v4 v5 v6
  have hv0 : Steady q v0 := setCl_steady h0
  try clear_value v0
  have hv1 : Steady q v1 := by
    refine steady_ite ?_ ?_
    · refine steady_ite ?_ ?_
      · exact wr_steady hv0
      · exact hv0
    · exact h0
  try clear_value v1
  have hv2 : Steady q v2 := setCl_steady hv1
  try clear_value v2
  have hv3 : Steady q v3 := setCl_steady hv2
  try clear_value v3
  have hv4 : Steady q v4 := by
    unfold v4
    refine steady_foldl (fun t7 x8 h9 => ?_) ?_
    · extract_lets v10
      try clear_value v10
      refine steady_ite ?_ ?_
      · exact activatePair_steady (setCl_steady h9)
      · exact h9
    · exact hv3
  try clear_value v4
  have hv5 : Steady q v5 := by
    unfold v5
    refine steady_foldl (fun t11 x12 h13 => ?_) ?_
    · extract_lets v14
      try clear_value v14
      refine steady_ite ?_ ?_
      · exact activateEngine_steady (setCl_steady h13)
      · exact h13
    · exact hv4
  try clear_value v5
  have hv6 : Steady q v6 := by
    unfold v6
    refine steady_foldl (fun t15 x16 h17 => ?_) ?_
    · split
      · refine steady_ite ?_ ?_
        · exact setCl_steady h17
        · exact h17
      · exact h17
    · exact hv5
  try clear_value v6
  refine steady_ite ?_ ?_
  · exact showPlaces_steady hv6
  · exact hv2

theorem writeRebalance_steady {v s} (h1 : Steady q s) :
    Steady q (writeRebalance v s).1 := by
  unfold writeRebalance
  refine steady_ite1 ?_ ?_
  · exact accept_steady (setCl_steady h1)
  · exact refuse_steady h1

theorem writeCoreRestart_steady {v s} (h1 : Steady q s) :
    Steady q (writeCoreRestart v s).1 := by
  unfold writeCoreRestart
  extract_lets v0
  try clear_value v0
  refine steady_ite1 ?_ ?_
  · exact refuse_steady h1
  · refine steady_ite1 ?_ ?_
    · refine steady_ite1 ?_ ?_
      · exact accept_steady (schedule_steady h1)
      · exact refuse_steady h1
    · refine steady_ite1 ?_ ?_
      · exact accept_steady (restartPairs_steady h1)
      · exact refuse_steady h1

theorem writeRampDown_steady {v s} (h1 : Steady q s) :
    Steady q (writeRampDown v s).1 := by
  unfold writeRampDown
  refine steady_ite1 ?_ ?_
  · exact refuse_steady h1
  · refine steady_ite1 ?_ ?_
    · exact accept_steady (askRampDown_steady h1)
    · exact refuse_steady h1

theorem calmStep_steady {n s} (h1 : Steady q s) :
    Steady q (calmStep n s) := by
  unfold calmStep
  refine steady_ite ?_ ?_
  · exact h1
  · extract_lets v0
    try clear_value v0
    exact setCl_steady h1

theorem execRampDownComplete_steady {s} (h0 : Steady q s) :
    SteadyNext q (execRampDownComplete s) := by
  unfold execRampDownComplete
  refine steady_next ?_
  refine whenAlive_steady (fun t1 h0 => ?_) h0
  · refine steady_ite ?_ ?_
    · exact schedule_steady h0
    · exact h0

theorem execRampDownGraceExpiry_steady {s} (h0 : Steady q s) :
    SteadyNext q (execRampDownGraceExpiry s) := by
  unfold execRampDownGraceExpiry
  refine steady_next ?_
  refine whenAlive_steady (fun t1 h0 => ?_) h0
  · split
    · refine steady_ite ?_ ?_
      · exact schedule_steady (emit_steady (runTo_steady h0))
      · exact h0
    · exact h0

end Sys2Proof.Machine
end

