-- ==== Sys2Proof/Laws/SteadyQueues.lean ====
section
/-! SUPPORT. Every operation of Machine/Queues.lean keeps the stores canonical and the queue as it is. -/

namespace Sys2Proof.Machine

variable {q : List Instr}

theorem showPool_steady {s} (h0 : Steady q s) :
    Steady q (showPool s) := by
  unfold showPool
  extract_lets v0 v1 v2
  try clear_value v0
  try clear_value v1
  try clear_value v2
  exact wrs_steady h0

theorem setQueue_steady {id f s} (h2 : Steady q s) : Steady q (setQueue id f s) := by
  unfold setQueue
  refine showPool_steady ?_
  exact ⟨{ h2.canonical with queues := Tbl.wf_modify _ _ _ h2.canonical.queues }, h2.pending⟩

theorem enqueue_steady {id body s} (h2 : Steady q s) :
    Steady q (enqueue id body s) := by
  unfold enqueue
  extract_lets v0
  try clear_value v0
  exact setQueue_steady h2

theorem devicePost_steady {id body s t} (h : Steady q s) (ht : devicePost id body s = some t) : Steady q t := by
  unfold devicePost at ht
  dsimp only at ht
  split at ht
  · cases ht
    exact enqueue_steady h
  · cases ht

theorem hostPost_steady {role id seq body s} (h4 : Steady q s) :
    Steady q (hostPost role id seq body s).1 := by
  unfold hostPost
  extract_lets v0 v1 v2
  try clear_value v0
  try clear_value v1
  refine steady_ite1 ?_ ?_
  · unfold v2
    exact refuse_steady (count_steady h4)
  · refine steady_ite1 ?_ ?_
    · unfold v2
      exact refuse_steady (count_steady h4)
    · refine steady_ite1 ?_ ?_
      · unfold v2
        exact refuse_steady (count_steady h4)
      · refine steady_ite1 ?_ ?_
        · unfold v2
          exact refuse_steady (count_steady h4)
        · refine steady_ite1 ?_ ?_
          · unfold v2
            exact refuse_steady (count_steady h4)
          · refine steady_ite1 ?_ ?_
            · exact accept_steady h4
            · refine steady_ite1 ?_ ?_
              · unfold v2
                exact refuse_steady (count_steady h4)
              · refine steady_ite1 ?_ ?_
                · unfold v2
                  exact refuse_steady (count_steady h4)
                · exact accept_steady (countBy_steady (enqueue_steady h4))

theorem clearReturned_steady {id s} (h1 : Steady q s) :
    Steady q (clearReturned id s).1 := by
  unfold clearReturned
  refine steady_ite1 ?_ ?_
  · exact refuse_steady h1
  · refine steady_ite1 ?_ ?_
    · exact refuse_steady h1
    · refine steady_ite1 ?_ ?_
      · exact accept_steady h1
      · extract_lets v0 v1 v2
        try clear_value v0
        try clear_value v1
        try clear_value v2
        exact accept_steady (setQueue_steady h1)

theorem queueRelease_steady {id seq s} (h2 : Steady q s) :
    Steady q (queueRelease id seq s).1 := by
  unfold queueRelease
  extract_lets v0 v1
  try clear_value v0
  try clear_value v1
  refine steady_ite1 ?_ ?_
  · exact refuse_steady h2
  · refine steady_ite1 ?_ ?_
    · exact refuse_steady h2
    · split
      · refine steady_ite1 ?_ ?_
        · extract_lets v5
          have hv5 : Steady q v5 := setQueue_steady h2
          try clear_value v5
          refine accept_steady ?_
          · refine steady_ite ?_ ?_
            · exact hv5
            · exact observe_steady hv5
        · refine steady_ite1 ?_ ?_
          · exact accept_steady h2
          · exact refuse_steady h2
      · refine steady_ite1 ?_ ?_
        · exact accept_steady h2
        · exact refuse_steady h2

theorem returnWhere_steady {id p s} (h2 : Steady q s) :
    Steady q (returnWhere id p s) := by
  unfold returnWhere
  extract_lets v0 v1
  try clear_value v0
  have hv1 : Steady q v1 := countBy_steady h2
  try clear_value v1
  refine steady_ite ?_ ?_
  · exact h2
  · exact setQueue_steady hv1

theorem retransmit_steady {id s} (h1 : Steady q s) :
    Steady q (retransmit id s) := by
  unfold retransmit
  refine steady_ite ?_ ?_
  · exact setQueue_steady h1
  · exact h1

theorem ackQueue_steady {id a s} (h2 : Steady q s) :
    Steady q (ackQueue id a s) := by
  unfold ackQueue
  extract_lets v0 v1 v2 v3 v4 v5 v6
  try clear_value v0
  try clear_value v1
  have hv2 : Steady q v2 := by
    unfold v2
    refine steady_foldl (fun t7 x8 h9 => ?_) ?_
    · exact observe_steady h9
    · exact h2
  try clear_value v2
  try clear_value v3
  try clear_value v4
  try clear_value v5
  have hv6 : Steady q v6 := by
    refine steady_ite ?_ ?_
    · exact setLeaf_steady hv2
    · exact hv2
  try clear_value v6
  refine steady_ite ?_ ?_
  · exact h2
  · exact setQueue_steady hv6

theorem ackArrives_steady {id a s} (h2 : Steady q s) :
    Steady q (ackArrives id a s) := by
  unfold ackArrives
  extract_lets v0 v1 v2
  try clear_value v0
  try clear_value v1
  try clear_value v2
  refine steady_ite ?_ ?_
  · exact h2
  · refine steady_ite ?_ ?_
    · exact count_steady h2
    · exact setQueue_steady h2

theorem creditArrives_steady {id limit s} (h2 : Steady q s) :
    Steady q (creditArrives id limit s) := by
  unfold creditArrives
  extract_lets v0 v1 v2
  try clear_value v0
  try clear_value v1
  refine steady_ite ?_ ?_
  · exact setQueue_steady h2
  · exact setQueue_steady (count_steady h2)

theorem tideQueue_steady {id s} (h1 : Steady q s) :
    Steady q (tideQueue id s) := by
  unfold tideQueue
  extract_lets v0 v1
  try clear_value v0
  have hv1 : Steady q v1 := by
    unfold v1
    split
    · exact ackQueue_steady h1
    · exact h1
  try clear_value v1
  refine steady_ite ?_ ?_
  · exact hv1
  · exact setQueue_steady hv1

theorem tideQueues_steady {s} (h0 : Steady q s) :
    Steady q (tideQueues s) := by
  unfold tideQueues
  refine steady_foldl (fun t0 x1 h2 => ?_) ?_
  · exact tideQueue_steady h2
  · exact h0

theorem execRetxTimeoutExpiry_steady {id s} (h1 : Steady q s) :
    SteadyNext q (execRetxTimeoutExpiry id s) := by
  unfold execRetxTimeoutExpiry
  refine steady_next ?_
  refine whenAlive_steady (fun t1 h0 => ?_) h1
  · refine steady_ite ?_ ?_
    · exact retransmit_steady h0
    · exact h0

theorem execAckDelayExpiry_steady {L s} (h1 : Steady q s) :
    SteadyNext q (execAckDelayExpiry L s) := by
  unfold execAckDelayExpiry
  refine steady_next ?_
  refine whenAlive_steady (fun t1 h0 => ?_) h1
  · refine steady_foldl (fun t2 x3 h4 => ?_) ?_
    · refine steady_ite ?_ ?_
      · exact setQueue_steady h4
      · exact h4
    · exact h0

end Sys2Proof.Machine
end

