-- ==== Sys2Proof/Laws/SteadyFolds.lean ====
section
/-! SUPPORT. Every operation of Machine/Folds.lean keeps the stores canonical and the queue as it is. -/

namespace Sys2Proof.Machine

variable {q : List Instr}

theorem showLink_steady {L s} (h1 : Steady q s) :
    Steady q (showLink L s) := by
  unfold showLink
  exact wr_steady h1

theorem dropPart_steady {id s} (h1 : Steady q s) :
    Steady q (dropPart id s) := by
  unfold dropPart
  extract_lets v0 v1
  try clear_value v0
  try clear_value v1
  refine steady_ite ?_ ?_
  · exact h1
  · exact setQueue_steady (countBy_steady h1)

theorem dropParts_steady {L s} (h1 : Steady q s) :
    Steady q (dropParts L s) := by
  unfold dropParts
  refine steady_foldl (fun t0 x1 h2 => ?_) ?_
  · exact dropPart_steady h2
  · exact h1

theorem openDown_steady {id s} (h1 : Steady q s) :
    Steady q (openDown id s) := by
  unfold openDown
  extract_lets v0 v1
  have hv0 : Steady q v0 := returnWhere_steady h1
  try clear_value v0
  try clear_value v1
  exact setQueue_steady hv0

theorem openUp_steady {id s} (h1 : Steady q s) :
    Steady q (openUp id s) := by
  unfold openUp
  exact setQueue_steady (dropPart_steady h1)

theorem openEpoch_steady {L announced s} (h2 : Steady q s) :
    Steady q (openEpoch L announced s) := by
  unfold openEpoch
  extract_lets v0 v1 v2 v3 v4 v5 v6
  try clear_value v0
  try clear_value v1
  try clear_value v2
  have hv3 : Steady q v3 := by
    unfold v3
    refine steady_foldl (fun t7 x8 h9 => ?_) ?_
    · exact openDown_steady h9
    · exact h2
  try clear_value v3
  have hv4 : Steady q v4 := by
    unfold v4
    refine steady_foldl (fun t10 x11 h12 => ?_) ?_
    · exact openUp_steady h12
    · exact hv3
  try clear_value v4
  try clear_value v5
  have hv6 : Steady q v6 := setLeaf_steady (wr_steady (count_steady hv4))
  try clear_value v6
  exact showLink_steady (emit_steady hv6)

theorem continueEpoch_steady {L s} (h1 : Steady q s) :
    Steady q (continueEpoch L s) := by
  unfold continueEpoch
  extract_lets v0
  have hv0 : Steady q v0 := by
    unfold v0
    refine steady_foldl (fun t1 x2 h3 => ?_) ?_
    · extract_lets v4
      have hv4 : Steady q v4 := retransmit_steady h3
      try clear_value v4
      refine steady_ite ?_ ?_
      · exact setQueue_steady hv4
      · exact hv4
    · exact h1
  try clear_value v0
  exact showLink_steady (setLeaf_steady hv0)

theorem acceptEpoch_steady {L s} (h1 : Steady q s) :
    Steady q (acceptEpoch L s) := by
  unfold acceptEpoch
  refine steady_ite ?_ ?_
  · exact h1
  · extract_lets v0 v1
    have hv0 : Steady q v0 := by
      unfold v0
      refine steady_foldl (fun t2 x3 h4 => ?_) ?_
      · refine steady_ite ?_ ?_
        · exact setQueue_steady h4
        · exact h4
      · exact h1
    try clear_value v0
    have hv1 : Steady q v1 := by
      unfold v1
      refine steady_foldl (fun t5 x6 h7 => ?_) ?_
      · exact setQueue_steady h7
      · exact hv0
    try clear_value v1
    exact showLink_steady (setLeaf_steady hv1)

theorem setProt_steady {L i b s} (h3 : Steady q s) :
    Steady q (setProt L i b s) := by
  unfold setProt
  exact wr_steady h3

theorem retire_steady {L s} (h1 : Steady q s) :
    Steady q (retire L s) := by
  unfold retire
  refine steady_ite ?_ ?_
  · exact h1
  · exact showLink_steady (emit_steady (setProt_steady (setProt_steady h1)))

theorem completePenning_steady {L s} (h1 : Steady q s) :
    Steady q (completePenning L s) := by
  unfold completePenning
  extract_lets v0 v1
  have hv0 : Steady q v0 := setLeaf_steady h1
  try clear_value v0
  have hv1 : Steady q v1 := by
    unfold v1
    refine steady_foldl (fun t2 x3 h4 => ?_) ?_
    · extract_lets v5 v6
      try clear_value v5
      have hv6 : Steady q v6 := returnWhere_steady h4
      try clear_value v6
      refine steady_ite ?_ ?_
      · exact setQueue_steady hv6
      · exact hv6
    · exact hv0
  try clear_value v1
  exact showLink_steady hv1

theorem postService_steady {L op args s t} (h : Steady q s) (ht : postService L op args s = some t) : Steady q t :=
  devicePost_steady h ht

theorem endReadmit_steady {L status s} (h2 : Steady q s) :
    Steady q (endReadmit L status s) := by
  unfold endReadmit
  refine steady_ite ?_ ?_
  · exact h2
  · exact showLink_steady (setLeaf_steady (wr_steady h2))

theorem appendBypass_steady {L s} (h1 : Steady q s) :
    Steady q (appendBypass L s) := by
  unfold appendBypass
  extract_lets v0
  try clear_value v0
  refine steady_ite ?_ ?_
  · exact enqueue_steady (setLeaf_steady h1)
  · exact setLeaf_steady h1

theorem retryBypasses_steady {s} (h0 : Steady q s) :
    Steady q (retryBypasses s) := by
  unfold retryBypasses
  refine steady_foldl (fun t0 x1 h2 => ?_) ?_
  · refine steady_ite ?_ ?_
    · exact appendBypass_steady h2
    · exact setLeaf_steady h2
  · exact h0

theorem penLeaf_steady {L cause reason bypass s} (h4 : Steady q s) :
    Steady q (penLeaf L cause reason bypass s) := by
  unfold penLeaf
  extract_lets v0 v1 v2 v3 v4 v5
  have hv0 : Steady q v0 := endReadmit_steady h4
  try clear_value v0
  have hv1 : Steady q v1 := by
    refine steady_ite ?_ ?_
    · exact wr_steady hv0
    · exact hv0
  try clear_value v1
  have hv2 : Steady q v2 := countBy_steady (wr_steady (setProt_steady hv1))
  try clear_value v2
  have hv3 : Steady q v3 := setLeaf_steady hv2
  try clear_value v3
  have hv4 : Steady q v4 := by
    refine steady_ite ?_ ?_
    · exact retire_steady hv3
    · exact hv3
  try clear_value v4
  try clear_value v5
  refine steady_ite ?_ ?_
  · exact wr_steady hv0
  · refine steady_ite ?_ ?_
    · exact showLink_steady (appendBypass_steady (setLeaf_steady hv4))
    · exact completePenning_steady hv4

theorem execLeafPenning_steady {leaf cause reason s} (h3 : Steady q s) :
    SteadyNext q (execLeafPenning leaf cause reason s) := by
  unfold execLeafPenning
  refine steady_next ?_
  refine whenAlive_steady (fun t1 h0 => ?_) h3
  · refine steady_ite ?_ ?_
    · exact penLeaf_steady h0
    · exact h0

theorem execPenningComplete_steady {leaf s} (h1 : Steady q s) :
    SteadyNext q (execPenningComplete leaf s) := by
  unfold execPenningComplete
  refine steady_next ?_
  refine whenAlive_steady (fun t1 h0 => ?_) h1
  · extract_lets v2
    try clear_value v2
    refine steady_ite ?_ ?_
    · exact completePenning_steady h0
    · exact h0

theorem execBypassAckTimeoutExpiry_steady {leaf s} (h1 : Steady q s) :
    SteadyNext q (execBypassAckTimeoutExpiry leaf s) := by
  unfold execBypassAckTimeoutExpiry
  refine steady_next ?_
  refine whenAlive_steady (fun t1 h0 => ?_) h1
  · refine steady_ite ?_ ?_
    · exact completePenning_steady (retire_steady (emit_steady h0))
    · exact h0

theorem becomeStray_steady {L s} (h1 : Steady q s) :
    Steady q (becomeStray L s) := by
  unfold becomeStray
  extract_lets v0 v1 v2
  have hv0 : Steady q v0 := setLeaf_steady h1
  try clear_value v0
  have hv1 : Steady q v1 := countFault_steady (count_steady (emit_steady hv0))
  try clear_value v1
  have hv2 : Steady q v2 := by
    unfold v2
    refine steady_foldl (fun t3 x4 h5 => ?_) ?_
    · refine steady_ite ?_ ?_
      · exact setQueue_steady h5
      · exact h5
    · exact hv1
  try clear_value v2
  exact showLink_steady hv2

theorem leafReturns_steady {L s} (h1 : Steady q s) :
    Steady q (leafReturns L s) := by
  unfold leafReturns
  exact showLink_steady (emit_steady (setLeaf_steady h1))

theorem endEpoch_steady {L s} (h1 : Steady q s) :
    Steady q (endEpoch L s) := by
  unfold endEpoch
  refine steady_foldl (fun t0 x1 h2 => ?_) ?_
  · exact returnWhere_steady h2
  · exact setLeaf_steady h1

theorem execStrayPenTimeExpiry_steady {leaf s} (h1 : Steady q s) :
    SteadyNext q (execStrayPenTimeExpiry leaf s) := by
  unfold execStrayPenTimeExpiry
  refine steady_next ?_
  refine whenAlive_steady (fun t1 h0 => ?_) h1
  · refine steady_ite ?_ ?_
    · extract_lets v2
      have hv2 : Steady q v2 := penLeaf_steady h0
      try clear_value v2
      split
      · refine steady_ite ?_ ?_
        · exact openEpoch_steady hv2
        · exact hv2
      · exact endEpoch_steady hv2
    · exact h0

theorem execPollIntervalExpiry_steady {leaf s} (h1 : Steady q s) :
    SteadyNext q (execPollIntervalExpiry leaf s) := by
  unfold execPollIntervalExpiry
  refine steady_next ?_
  refine whenAlive_steady (fun t1 h0 => ?_) h1
  · extract_lets v2
    try clear_value v2
    refine steady_ite ?_ ?_
    · exact setLeaf_steady h0
    · exact h0

theorem leafReadmit_steady {L s} (h1 : Steady q s) : Steady q (leafReadmit L s).1 := by
  unfold leafReadmit
  extract_lets v0 v1
  refine steady_ite1 (refuse_steady (wr_steady h1)) ?_
  split
  · exact refuse_steady h1
  · next t ht =>
    exact accept_steady (showLink_steady (setLeaf_steady (wr_steady (postService_steady h1 ht))))

theorem readmitStep_steady {L s} (h1 : Steady q s) :
    Steady q (readmitStep L s) := by
  unfold readmitStep
  extract_lets v0 v1 v2 v3 v4
  try clear_value v0
  have hv1 : Steady q v1 := wr_steady (setProt_steady h1)
  try clear_value v1
  have hv2 : Steady q v2 := setLeaf_steady hv1
  try clear_value v2
  have hv3 : Steady q v3 := by
    unfold v3
    refine steady_foldl (fun t5 x6 h7 => ?_) ?_
    · refine steady_ite ?_ ?_
      · exact setQueue_steady h7
      · exact h7
    · exact hv2
  try clear_value v3
  have hv4 : Steady q v4 := setLeaf_steady (wr_steady h1)
  try clear_value v4
  split
  · refine steady_ite ?_ ?_
    · exact setLeaf_steady h1
    · exact h1
  · refine steady_ite ?_ ?_
    · exact showLink_steady (wr_steady hv3)
    · exact h1
  · refine steady_ite ?_ ?_
    · exact h1
    · exact showLink_steady (emit_steady (count_steady hv4))
  · exact h1

theorem execReadmitStep_steady {leaf s} (h1 : Steady q s) :
    SteadyNext q (execReadmitStep leaf s) := by
  unfold execReadmitStep
  refine steady_next ?_
  exact whenAlive_steady (fun t1 h0 => readmitStep_steady h0) h1

theorem execReadmitTimeoutExpiry_steady {leaf s} (h1 : Steady q s) :
    SteadyNext q (execReadmitTimeoutExpiry leaf s) := by
  unfold execReadmitTimeoutExpiry
  refine steady_next ?_
  refine whenAlive_steady (fun t1 h0 => ?_) h1
  · extract_lets v2
    try clear_value v2
    refine steady_ite ?_ ?_
    · exact endReadmit_steady h0
    · exact h0

theorem execAdmitTimeoutExpiry_steady {leaf s} (h1 : Steady q s) :
    SteadyNext q (execAdmitTimeoutExpiry leaf s) := by
  unfold execAdmitTimeoutExpiry
  refine steady_next ?_
  refine whenAlive_steady (fun t1 h0 => ?_) h1
  · refine steady_ite ?_ ?_
    · exact countFault_steady (emit_steady (penLeaf_steady h0))
    · exact h0

theorem readmitOpened_steady {L s} (h1 : Steady q s) :
    Steady q (readmitOpened L s) := by
  unfold readmitOpened
  extract_lets v0
  try clear_value v0
  refine steady_ite ?_ ?_
  · exact setLeaf_steady h1
  · exact h1

theorem announce_steady {L p s} (h2 : Steady q s) :
    Steady q (announce L p s) := by
  unfold announce
  refine steady_ite ?_ ?_
  · exact h2
  · extract_lets v0 v1 v2 v3 v4
    try clear_value v0
    try clear_value v1
    try clear_value v2
    have hv3 : Steady q v3 := setLeaf_steady h2
    try clear_value v3
    try clear_value v4
    refine steady_ite ?_ ?_
    · exact penLeaf_steady (openEpoch_steady hv3)
    · refine steady_ite ?_ ?_
      · exact continueEpoch_steady hv3
      · exact readmitOpened_steady (openEpoch_steady hv3)

theorem closeFold_steady {L s} (h1 : Steady q s) :
    Steady q (closeFold L s) := by
  unfold closeFold
  extract_lets v0 v1
  have hv0 : Steady q v0 := by
    unfold v0
    refine steady_foldl (fun t2 x3 h4 => ?_) ?_
    · exact setQueue_steady (returnWhere_steady h4)
    · exact h1
  try clear_value v0
  have hv1 : Steady q v1 := setLeaf_steady hv0
  try clear_value v1
  refine showLink_steady ?_
  · refine steady_foldl (fun t5 x6 h7 => ?_) ?_
    · exact setQueue_steady h7
    · exact hv1

end Sys2Proof.Machine
end

