-- ==== Sys2Proof/Laws/SteadyProtection.lean ====
section
/-! SUPPORT. Every operation of Machine/Protection.lean keeps the stores canonical and the queue as it is. -/

namespace Sys2Proof.Machine

variable {q : List Instr}

theorem bypassAtRisk_steady {L s} (h1 : Steady q s) :
    Steady q (bypassAtRisk L s) := by
  unfold bypassAtRisk
  exact retire_steady (countFault_steady (emit_steady h1))

theorem judgeHold_steady {L s} (h1 : Steady q s) :
    Steady q (judgeHold L s) := by
  unfold judgeHold
  refine steady_ite ?_ ?_
  · exact bypassAtRisk_steady (setLeaf_steady h1)
  · exact h1

theorem forgetUv_steady {L s} (h1 : Steady q s) :
    Steady q (forgetUv L s) := by
  unfold forgetUv
  refine steady_ite ?_ ?_
  · exact h1
  · exact setLeaf_steady h1

theorem nameUv_steady {L supply s} (h2 : Steady q s) :
    Steady q (nameUv L supply s) := by
  unfold nameUv
  split
  · extract_lets v5
    have hv5 : Steady q v5 := setLeaf_steady h2
    try clear_value v5
    refine steady_ite ?_ ?_
    · exact bypassAtRisk_steady hv5
    · exact hv5
  · extract_lets v8
    have hv8 : Steady q v8 := judgeHold_steady (setLeaf_steady h2)
    try clear_value v8
    refine steady_ite ?_ ?_
    · exact hv8
    · exact forgetUv_steady hv8

theorem holdSeen_steady {L s} (h1 : Steady q s) :
    Steady q (holdSeen L s) := by
  unfold holdSeen
  exact judgeHold_steady (setLeaf_steady h1)

theorem firstSighting_steady {L i s} (h2 : Steady q s) :
    Steady q (firstSighting L i s) := by
  unfold firstSighting
  split
  · exact countFault_steady (countBy_steady (emit_steady h2))
  · exact setLeaf_steady (emit_steady h2)
  · exact emit_steady h2
  · extract_lets v7
    have hv7 : Steady q v7 := emit_steady h2
    try clear_value v7
    refine steady_ite ?_ ?_
    · exact hv7
    · exact penLeaf_steady hv7

theorem snoop_steady {L st s} (h2 : Steady q s) :
    Steady q (snoop L st s) := by
  unfold snoop
  extract_lets v0 v1 v2 v3
  try clear_value v0
  have hv1 : Steady q v1 := by
    unfold v1
    refine steady_foldl (fun t4 x5 h6 => ?_) ?_
    · exact setProt_steady h6
    · exact h2
  try clear_value v1
  have hv2 : Steady q v2 := by
    unfold v2
    refine steady_foldl (fun t7 x8 h9 => ?_) ?_
    · refine steady_ite ?_ ?_
      · exact firstSighting_steady h9
      · exact h9
    · exact hv1
  try clear_value v2
  have hv3 : Steady q v3 := setProt_steady hv2
  try clear_value v3
  refine steady_ite ?_ ?_
  · exact holdSeen_steady hv3
  · refine steady_ite ?_ ?_
    · exact forgetUv_steady hv3
    · exact hv3

theorem countUv_steady {L supply s} (h2 : Steady q s) :
    Steady q (countUv L supply s) := by
  unfold countUv
  exact countBy_steady h2

theorem protRecord_steady {L p s} (h2 : Steady q s) :
    Steady q (protRecord L p s) := by
  unfold protRecord
  refine steady_ite ?_ ?_
  · exact h2
  · extract_lets v0 v1
    try clear_value v0
    try clear_value v1
    refine steady_ite ?_ ?_
    · exact countBy_steady h2
    · refine steady_ite ?_ ?_
      · exact nameUv_steady (countFault_steady (countUv_steady h2))
      · refine steady_ite ?_ ?_
        · exact forgetUv_steady h2
        · refine steady_ite ?_ ?_
          · exact countFault_steady (countBy_steady h2)
          · refine steady_ite ?_ ?_
            · exact endReadmit_steady h2
            · exact h2

theorem testRecord_steady {L p s} (h2 : Steady q s) :
    Steady q (testRecord L p s) := by
  unfold testRecord
  refine steady_ite ?_ ?_
  · exact h2
  · extract_lets v0 v1
    try clear_value v0
    have hv1 : Steady q v1 := setProt_steady (wr_steady (wrBlob_steady h2))
    try clear_value v1
    refine steady_ite ?_ ?_
    · exact countFault_steady hv1
    · exact hv1

theorem execUvRecordTimeout_steady {leaf s} (h1 : Steady q s) :
    SteadyNext q (execUvRecordTimeout leaf s) := by
  unfold execUvRecordTimeout
  refine steady_next ?_
  refine whenAlive_steady (fun t1 h0 => ?_) h1
  · refine steady_ite ?_ ?_
    · exact h0
    · exact nameUv_steady (countFault_steady (countUv_steady h0))

theorem execTestTimeoutExpiry_steady {leaf s} (h1 : Steady q s) :
    SteadyNext q (execTestTimeoutExpiry leaf s) := by
  unfold execTestTimeoutExpiry
  refine steady_next ?_
  refine whenAlive_steady (fun t1 h0 => ?_) h1
  · refine steady_ite ?_ ?_
    · exact countFault_steady (setProt_steady (wr_steady h0))
    · exact h0

theorem tryScClear_steady {L s} (h1 : Steady q s) : Steady q (tryScClear L s) := by
  unfold tryScClear
  refine steady_ite ?_ h1
  split
  · next t ht => exact setLeaf_steady (postService_steady h1 ht)
  · exact h1

theorem execScClearDelayExpiry_steady {leaf s} (h1 : Steady q s) :
    SteadyNext q (execScClearDelayExpiry leaf s) := by
  unfold execScClearDelayExpiry
  refine steady_next ?_
  refine whenAlive_steady (fun t1 h0 => ?_) h1
  · refine steady_ite ?_ ?_
    · exact tryScClear_steady (setLeaf_steady h0)
    · exact h0

theorem retryScClears_steady {s} (h0 : Steady q s) :
    Steady q (retryScClears s) := by
  unfold retryScClears
  refine steady_foldl (fun t0 x1 h2 => ?_) ?_
  · refine steady_foldl (fun t3 x4 h5 => ?_) ?_
    · exact tryScClear_steady h5
    · exact h2
  · exact h0

theorem doAsk_steady {a s} (h1 : Steady q s) :
    Steady q (doAsk a s) := by
  unfold doAsk
  extract_lets v0
  have hv0 : Steady q v0 := penLeaf_steady h1
  try clear_value v0
  refine steady_ite ?_ ?_
  · exact retire_steady hv0
  · exact hv0

theorem leafReactions_steady {rs s} (h1 : Steady q s) :
    Steady q (leafReactions rs s) := by
  unfold leafReactions
  extract_lets v0 v1 v2
  try clear_value v0
  have hv1 : Steady q v1 := by
    unfold v1
    refine steady_foldl (fun t3 x4 h5 => ?_) ?_
    · exact doAsk_steady h5
    · exact h1
  try clear_value v1
  try clear_value v2
  refine steady_ite ?_ ?_
  · refine steady_foldl (fun t6 x7 h8 => ?_) ?_
    · exact setLeaf_steady h8
    · exact hv1
  · exact hv1

theorem protSelfTest_steady {L args s} (h2 : Steady q s) : Steady q (protSelfTest L args s).1 := by
  unfold protSelfTest
  refine steady_ite1 (refuse_steady h2) (steady_ite1 (refuse_steady h2) ?_)
  extract_lets c
  refine steady_ite1 (refuse_steady (wr_steady h2)) ?_
  split
  · next t ht => exact accept_steady (setProt_steady (wr_steady (postService_steady h2 ht)))
  · exact refuse_steady h2

theorem protScClear_steady {L s} (h1 : Steady q s) : Steady q (protScClear L s).1 := by
  unfold protScClear
  refine steady_ite1 (refuse_steady h1) ?_
  split
  · next t ht => exact accept_steady (postService_steady h1 ht)
  · exact refuse_steady h1

theorem protBypass_steady {L s} (h1 : Steady q s) :
    Steady q (protBypass L s).1 := by
  unfold protBypass
  refine steady_ite1 ?_ ?_
  · exact refuse_steady h1
  · exact accept_steady (penLeaf_steady h1)

theorem protRelease_steady {L s} (h1 : Steady q s) : Steady q (protRelease L s).1 := by
  unfold protRelease
  refine steady_ite1 (refuse_steady h1) ?_
  split
  · next t ht => exact accept_steady (postService_steady h1 ht)
  · exact refuse_steady h1

theorem protPen_steady {L s} (h1 : Steady q s) :
    Steady q (protPen L s).1 := by
  unfold protPen
  refine steady_ite1 ?_ ?_
  · exact refuse_steady h1
  · exact accept_steady (penLeaf_steady h1)

theorem protClearRetired_steady {L s} (h1 : Steady q s) :
    Steady q (protClearRetired L s).1 := by
  unfold protClearRetired
  refine steady_ite1 ?_ ?_
  · exact refuse_steady h1
  · extract_lets v0 v1
    try clear_value v0
    have hv1 : Steady q v1 := wr_steady (setProt_steady h1)
    try clear_value v1
    refine accept_steady ?_
    · refine showLink_steady ?_
      · refine steady_ite ?_ ?_
        · exact emit_steady hv1
        · exact hv1

theorem protCommand_steady {role L p s} (h3 : Steady q s) :
    Steady q (protCommand role L p s).1 := by
  unfold protCommand
  split
  · exact refuse_steady h3
  · extract_lets v4 v5
    try clear_value v4
    try clear_value v5
    refine steady_ite1 ?_ ?_
    · exact refuse_steady h3
    · refine steady_ite1 ?_ ?_
      · exact refuse_steady h3
      · refine steady_ite1 ?_ ?_
        · exact refuse_steady h3
        · split
          · exact protSelfTest_steady h3
          · exact protScClear_steady h3
          · exact protBypass_steady h3
          · exact protRelease_steady h3
          · exact protPen_steady h3
          · exact protClearRetired_steady h3

end Sys2Proof.Machine
end

