-- ==== Sys2Proof/Laws/SteadyMeterCopy.lean ====
section
/-! SUPPORT. Every operation of Machine/MeterCopy.lean keeps the stores canonical and the queue as it is. -/

namespace Sys2Proof.Machine

variable {q : List Instr}

theorem setMeters_steady {f s} (h1 : Steady q s) :
    Steady q (setMeters f s) := by
  unfold setMeters
  exact Steady.same h1 rfl

theorem setMeter_steady {m f s} (h2 : Steady q s) :
    Steady q (setMeter m f s) := by
  unfold setMeter
  exact setMeters_steady h2

theorem setFlag_steady {m i b s} (h3 : Steady q s) :
    Steady q (setFlag m i b s) := by
  unfold setFlag
  exact wr_steady h3

theorem refreshCopy_steady {s} (h0 : Steady q s) :
    Steady q (refreshCopy s) := by
  unfold refreshCopy
  split
  · exact h0
  · extract_lets v5 v6
    try clear_value v5
    try clear_value v6
    exact setMeters_steady h0

theorem meterStepped_steady {s} (h0 : Steady q s) :
    Steady q (meterStepped s) := by
  unfold meterStepped
  extract_lets v0 v1
  have hv1 : Steady q v1 := Steady.same h0 rfl
  try clear_value v1
  exact setMeters_steady (setFlag_steady (setFlag_steady hv1))

end Sys2Proof.Machine
end

