-- ==== Sys2Proof/Laws/SteadyTime.lean ====
section
/-! SUPPORT. Every operation of Machine/Time.lean keeps the stores canonical and the queue as it is. -/

namespace Sys2Proof.Machine

variable {q : List Instr}

theorem setQuality_steady {lo w v s} (h3 : Steady q s) :
    Steady q (setQuality lo w v s) := by
  unfold setQuality
  exact wr_steady h3

theorem setTime_steady {f s} (h1 : Steady q s) :
    Steady q (setTime f s) := by
  unfold setTime
  exact Steady.same h1 rfl

theorem setTimeState_steady {st s} (h1 : Steady q s) :
    Steady q (setTimeState st s) := by
  unfold setTimeState
  extract_lets v0
  have hv0 : Steady q v0 := by
    refine steady_ite ?_ ?_
    · exact wr_steady h1
    · exact h1
  try clear_value v0
  refine steady_ite ?_ ?_
  · exact hv0
  · exact setQuality_steady (count_steady hv0)

theorem rebaseError_steady {s} (h0 : Steady q s) :
    Steady q (rebaseError s) := by
  unfold rebaseError
  extract_lets v0
  try clear_value v0
  refine steady_ite ?_ ?_
  · exact setTime_steady h0
  · exact h0

theorem refreshTime_steady {s} (h0 : Steady q s) :
    Steady q (refreshTime s) := by
  unfold refreshTime
  extract_lets v0 v1 v2
  try clear_value v0
  have hv1 : Steady q v1 := setQuality_steady h0
  try clear_value v1
  have hv2 : Steady q v2 := by
    refine steady_ite ?_ ?_
    · exact wr_steady hv1
    · exact hv1
  try clear_value v2
  split
  · exact hv2
  · extract_lets v6
    try clear_value v6
    refine steady_ite ?_ ?_
    · exact emit_steady (setTime_steady hv2)
    · refine steady_ite ?_ ?_
      · exact emit_steady (setTime_steady hv2)
      · exact hv2

theorem setPort_steady {p f s} (h2 : Steady q s) :
    Steady q (setPort p f s) := by
  unfold setPort
  exact setTime_steady h2

theorem showPorts_steady {s} (h0 : Steady q s) :
    Steady q (showPorts s) := by
  unfold showPorts
  refine steady_foldl (fun t0 x1 h2 => ?_) ?_
  · extract_lets v3
    try clear_value v3
    exact wr_steady h2
  · exact h0

theorem stepSlew_steady {s} (h0 : Steady q s) :
    Steady q (stepSlew s) := by
  unfold stepSlew
  extract_lets v0 v1 v2 v3 v4 v5 v6
  try clear_value v0
  try clear_value v1
  try clear_value v2
  try clear_value v3
  try clear_value v4
  try clear_value v5
  have hv6 : Steady q v6 := setTime_steady h0
  try clear_value v6
  exact wrInt_steady hv6

theorem stepFreq_steady {c s} (h1 : Steady q s) :
    Steady q (stepFreq c s) := by
  unfold stepFreq
  extract_lets v0 v1 v2 v3
  try clear_value v1
  try clear_value v2
  try clear_value v3
  exact setTime_steady h1

theorem takeRate_steady {s} (h0 : Steady q s) :
    Steady q (takeRate s) := by
  unfold takeRate
  extract_lets v0
  try clear_value v0
  exact wrInt_steady (setTime_steady h0)

theorem correctTime_steady {s} (h0 : Steady q s) :
    Steady q (correctTime s) := by
  unfold correctTime
  extract_lets v0 v1 v2
  have hv0 : Steady q v0 := stepFreq_steady (stepSlew_steady h0)
  try clear_value v0
  have hv1 : Steady q v1 := by
    refine steady_ite ?_ ?_
    · refine steady_ite ?_ ?_
      · exact wr_steady hv0
      · exact wrInt_steady hv0
    · exact takeRate_steady h0
  try clear_value v1
  have hv2 : Steady q v2 := by
    refine steady_ite ?_ ?_
    · exact wr_steady hv1
    · exact wr_steady hv1
  try clear_value v2
  exact setTime_steady hv2

theorem holdTime_steady {s} (h0 : Steady q s) :
    Steady q (holdTime s) := by
  unfold holdTime
  extract_lets v0 v1
  try clear_value v0
  try clear_value v1
  exact setTimeState_steady (setTime_steady h0)

theorem enterHoldover_steady {s} (h0 : Steady q s) :
    Steady q (enterHoldover s) := by
  unfold enterHoldover
  exact emit_steady (count_steady (setQuality_steady (holdTime_steady h0)))

theorem stepTime_steady {m isSet s} (h2 : Steady q s) :
    Steady q (stepTime m isSet s) := by
  unfold stepTime
  extract_lets v0 v1 v2 v3 v4 v5 v6 v7 v8
  try clear_value v0
  try clear_value v1
  have hv2 : Steady q v2 := setTime_steady h2
  try clear_value v2
  have hv3 : Steady q v3 := setTime_steady hv2
  try clear_value v3
  have hv4 : Steady q v4 := setQuality_steady hv3
  try clear_value v4
  have hv5 : Steady q v5 := wr_steady hv4
  try clear_value v5
  have hv6 : Steady q v6 := count_steady hv5
  try clear_value v6
  have hv7 : Steady q v7 := by
    unfold v7
    refine steady_foldl (fun t9 x10 h11 => ?_) ?_
    · exact wr_steady h11
    · exact hv6
  try clear_value v7
  have hv8 : Steady q v8 := logTimeStep_steady hv7
  try clear_value v8
  exact refreshTime_steady (setTimeState_steady (meterStepped_steady hv8))

theorem requestStep_steady {m isSet s} (h2 : Steady q s) :
    Steady q (requestStep m isSet s) := by
  unfold requestStep
  refine steady_ite ?_ ?_
  · exact stepTime_steady h2
  · exact setTime_steady h2

theorem startSlew_steady {m s} (h1 : Steady q s) :
    Steady q (startSlew m s) := by
  unfold startSlew
  extract_lets v0
  have hv0 : Steady q v0 := setQuality_steady (wr_steady h1)
  try clear_value v0
  exact setTimeState_steady (setTime_steady hv0)

theorem decideOffset_steady {m s} (h1 : Steady q s) :
    Steady q (decideOffset m s) := by
  unfold decideOffset
  extract_lets v0 v1 v2
  try clear_value v0
  try clear_value v1
  have hv2 : Steady q v2 := wrInt_steady (setQuality_steady h1)
  try clear_value v2
  refine steady_ite ?_ ?_
  · exact startSlew_steady h1
  · refine steady_ite ?_ ?_
    · exact requestStep_steady (setTime_steady h1)
    · refine steady_ite ?_ ?_
      · exact startSlew_steady h1
      · refine steady_ite ?_ ?_
        · exact emit_steady hv2
        · exact hv2

theorem rateRefused_steady {s} (h0 : Steady q s) :
    Steady q (rateRefused s) := by
  unfold rateRefused
  exact emit_steady (setTime_steady (holdTime_steady h0))

theorem servo_steady {o s} (h1 : Steady q s) :
    Steady q (servo o s) := by
  unfold servo
  extract_lets v0 v1 v2
  try clear_value v0
  try clear_value v1
  have hv2 : Steady q v2 := setTime_steady h1
  try clear_value v2
  refine steady_ite ?_ ?_
  · exact h1
  · refine steady_ite ?_ ?_
    · exact rateRefused_steady h1
    · exact wrInt_steady hv2

theorem lockDecision_steady {o s} (h1 : Steady q s) :
    Steady q (lockDecision o s) := by
  unfold lockDecision
  extract_lets v0 v1 v2
  try clear_value v0
  try clear_value v1
  have hv2 : Steady q v2 := setTime_steady h1
  try clear_value v2
  refine steady_ite ?_ ?_
  · exact setTimeState_steady hv2
  · refine steady_ite ?_ ?_
    · exact setTimeState_steady hv2
    · exact hv2

theorem takeOffset_steady {o s} (h1 : Steady q s) :
    Steady q (takeOffset o s) := by
  unfold takeOffset
  extract_lets v0 v1 v2 v3 v4 v5
  have hv0 : Steady q v0 := wrInt_steady h1
  try clear_value v0
  have hv1 : Steady q v1 := observe_steady hv0
  try clear_value v1
  try clear_value v2
  have hv3 : Steady q v3 := setTime_steady hv1
  try clear_value v3
  have hv4 : Steady q v4 := by
    refine steady_ite ?_ ?_
    · exact hv3
    · refine steady_ite ?_ ?_
      · refine steady_ite ?_ ?_
        · exact decideOffset_steady hv3
        · exact hv3
      · exact lockDecision_steady (servo_steady hv3)
  try clear_value v4
  have hv5 : Steady q v5 := by
    refine steady_ite ?_ ?_
    · exact setTime_steady hv4
    · exact hv4
  try clear_value v5
  exact refreshTime_steady (showPorts_steady hv5)

theorem showMaster_steady {m s} (h1 : Steady q s) :
    Steady q (showMaster m s) := by
  unfold showMaster
  extract_lets v0 v1
  have hv0 : Steady q v0 := wrs_steady h1
  try clear_value v0
  have hv1 : Steady q v1 := setQuality_steady hv0
  try clear_value v1
  refine steady_ite ?_ ?_
  · exact hv1
  · exact emit_steady (wrInt_steady hv1)

theorem chooseMaster_steady {s} (h0 : Steady q s) :
    Steady q (chooseMaster s) := by
  unfold chooseMaster
  split
  · extract_lets v3
    have hv3 : Steady q v3 := by
      refine steady_ite ?_ ?_
      · exact h0
      · exact setTime_steady (count_steady h0)
    try clear_value v3
    exact refreshTime_steady (showPorts_steady (showMaster_steady hv3))
  · extract_lets v6 v7 v8 v9 v10
    try clear_value v6
    have hv7 : Steady q v7 := setTime_steady h0
    try clear_value v7
    have hv8 : Steady q v8 := by
      refine steady_ite ?_ ?_
      · exact count_steady hv7
      · exact hv7
    try clear_value v8
    have hv9 : Steady q v9 := wr_steady hv8
    try clear_value v9
    have hv10 : Steady q v10 := by
      refine steady_ite ?_ ?_
      · exact enterHoldover_steady hv9
      · exact setQuality_steady hv9
    try clear_value v10
    exact refreshTime_steady (showPorts_steady hv10)

theorem execPtpAnnounce_steady {port m s} (h2 : Steady q s) :
    SteadyNext q (execPtpAnnounce port m s) := by
  unfold execPtpAnnounce
  refine steady_next ?_
  refine steady_ite ?_ ?_
  · exact chooseMaster_steady (setTime_steady h2)
  · exact h2

theorem execAnnounceReceiptTimeout_steady {port clock s} (h2 : Steady q s) :
    SteadyNext q (execAnnounceReceiptTimeout port clock s) := by
  unfold execAnnounceReceiptTimeout
  refine steady_next ?_
  exact whenAlive_steady (fun t1 h0 => chooseMaster_steady (setTime_steady h0)) h2

theorem execSyncReceiptTimeout_steady {port clock s} (h2 : Steady q s) :
    SteadyNext q (execSyncReceiptTimeout port clock s) := by
  unfold execSyncReceiptTimeout
  refine steady_next ?_
  exact whenAlive_steady (fun t1 h0 => chooseMaster_steady (setTime_steady h0)) h2

theorem execPtpSync_steady {port m s} (h2 : Steady q s) :
    SteadyNext q (execPtpSync port m s) := by
  unfold execPtpSync
  refine steady_next ?_
  refine steady_ite ?_ ?_
  · extract_lets v0 v1 v2 v3 v4
    have hv0 : Steady q v0 := countBy_steady h2
    try clear_value v0
    try clear_value v1
    have hv2 : Steady q v2 := setPort_steady hv0
    try clear_value v2
    have hv3 : Steady q v3 := setTime_steady hv2
    try clear_value v3
    have hv4 : Steady q v4 := chooseMaster_steady hv3
    try clear_value v4
    refine steady_ite ?_ ?_
    · exact takeOffset_steady (setTime_steady hv4)
    · exact hv4
  · exact h2

theorem showTsQueue_steady {p s} (h1 : Steady q s) :
    Steady q (showTsQueue p s) := by
  unfold showTsQueue
  extract_lets v0
  try clear_value v0
  exact raiseTo_steady (wr_steady h1)

theorem storeTs_steady {p ident txNs s} (h3 : Steady q s) :
    Steady q (storeTs p ident txNs s) := by
  unfold storeTs
  extract_lets v0 v1 v2 v3
  try clear_value v0
  try clear_value v1
  try clear_value v2
  have hv3 : Steady q v3 := by
    refine steady_ite ?_ ?_
    · exact count_steady (setPort_steady h3)
    · refine steady_ite ?_ ?_
      · exact count_steady (setPort_steady h3)
      · exact setPort_steady h3
  try clear_value v3
  exact showTsQueue_steady hv3

theorem readTs_steady {p ident s} (h2 : Steady q s) :
    Steady q (readTs p ident s).2 := by
  unfold readTs
  split
  · exact steady_pair2 (h2)
  · exact steady_pair2 (showTsQueue_steady (setPort_steady h2))

theorem execPtpDelayReqSend_steady {port sent stamp s} (h3 : Steady q s) :
    SteadyNext q (execPtpDelayReqSend port sent stamp s) := by
  unfold execPtpDelayReqSend
  refine steady_next ?_
  refine steady_ite ?_ ?_
  · extract_lets v0 v1
    try clear_value v0
    have hv1 : Steady q v1 := setPort_steady h3
    try clear_value v1
    refine steady_ite ?_ ?_
    · exact storeTs_steady (send_steady hv1)
    · exact hv1
  · exact h3

theorem execPtpDelayResponse_steady {port m s} (h2 : Steady q s) : SteadyNext q (execPtpDelayResponse port m s) := by
  unfold execPtpDelayResponse
  refine steady_next (steady_ite ?_ h2)
  split
  · rename_i y0 y1 y2 y3
    have h4 := Steady.snd y3 (readTs_steady h2)
    extract_lets v5
    have hv5 : Steady q v5 := setPort_steady h4
    clear_value v5
    split
    · exact hv5
    · extract_lets v13
      clear_value v13
      split
      · exact hv5
      · exact countBy_steady (wr_steady (setPort_steady hv5))

theorem execPdelayReqReceived_steady {port seqId domain rx tx s} (h5 : Steady q s) :
    SteadyNext q (execPdelayReqReceived port seqId domain rx tx s) := by
  unfold execPdelayReqReceived
  refine steady_next ?_
  refine steady_ite ?_ ?_
  · extract_lets v0 v1 v2
    try clear_value v0
    try clear_value v1
    have hv2 : Steady q v2 := storeTs_steady (send_steady h5)
    try clear_value v2
    refine steady_ite ?_ ?_
    · exact send_steady (readTs_steady hv2)
    · exact send_steady h5
  · exact h5

theorem execTsEntryStale_steady {port ident s} (h2 : Steady q s) :
    SteadyNext q (execTsEntryStale port ident s) := by
  unfold execTsEntryStale
  refine steady_next ?_
  refine whenAlive_steady (fun t1 h0 => ?_) h2
  · refine steady_ite ?_ ?_
    · extract_lets v2
      have hv2 : Steady q v2 := setPort_steady h0
      try clear_value v2
      exact showTsQueue_steady (count_steady hv2)
    · exact h0

theorem execDelayExchangeTimeout_steady {port s} (h1 : Steady q s) :
    SteadyNext q (execDelayExchangeTimeout port s) := by
  unfold execDelayExchangeTimeout
  refine steady_next ?_
  exact whenAlive_steady (fun t1 h0 => setPort_steady h0) h1

theorem toSilenceEnd_steady {q' s} (h1 : Steady q s) :
    Steady q (toSilenceEnd q' s) := by
  unfold toSilenceEnd
  exact runTo_steady h1

theorem endStep_steady {s} (h0 : Steady q s) :
    Steady q (endStep s) := by
  unfold endStep
  split
  · split
    · refine steady_ite ?_ ?_
      · extract_lets v6
        try clear_value v6
        exact stepTime_steady (setTime_steady (toSilenceEnd_steady h0))
      · exact h0
    · exact h0
  · exact h0

theorem execTimeStep_steady {s} (h0 : Steady q s) :
    SteadyNext q (execTimeStep s) := by
  unfold execTimeStep
  refine steady_next ?_
  refine whenAlive_steady (fun t1 h0 => ?_) h0
  · split
    · refine steady_ite ?_ ?_
      · exact stepTime_steady h0
      · exact endStep_steady h0
    · exact endStep_steady h0

theorem execTimeToleranceChange_steady {s} (h0 : Steady q s) :
    SteadyNext q (execTimeToleranceChange s) := by
  unfold execTimeToleranceChange
  refine steady_next ?_
  exact whenAlive_steady (fun t1 h0 => refreshTime_steady h0) h0

theorem writeStepPermit_steady {s} (h0 : Steady q s) :
    Steady q (writeStepPermit s).1 := by
  unfold writeStepPermit
  extract_lets v0
  try clear_value v0
  refine steady_ite1 ?_ ?_
  · exact accept_steady (setTime_steady h0)
  · exact refuse_steady h0

theorem writeTimeSet_steady {v s} (h1 : Steady q s) :
    Steady q (writeTimeSet v s).1 := by
  unfold writeTimeSet
  refine steady_ite1 ?_ ?_
  · exact refuse_steady h1
  · extract_lets v0
    try clear_value v0
    exact accept_steady (requestStep_steady (setTime_steady h1))

theorem writeIncrement_steady {v s} (h1 : Steady q s) :
    Steady q (writeIncrement v s).1 := by
  unfold writeIncrement
  extract_lets v0
  try clear_value v0
  refine steady_ite1 ?_ ?_
  · exact refuse_steady h1
  · refine steady_ite1 ?_ ?_
    · exact refuse_steady h1
    · exact accept_steady (wr_steady h1)

theorem writeRate_steady {v s} (h1 : Steady q s) :
    Steady q (writeRate v s).1 := by
  unfold writeRate
  extract_lets v0
  try clear_value v0
  refine steady_ite1 ?_ ?_
  · exact refuse_steady h1
  · refine steady_ite1 ?_ ?_
    · exact refuse_steady h1
    · exact accept_steady (wr_steady h1)

theorem execPpsSecond_steady {s} (h0 : Steady q s) :
    SteadyNext q (execPpsSecond s) := by
  unfold execPpsSecond
  refine steady_next ?_
  refine whenAlive_steady (fun t1 h0 => ?_) h0
  · extract_lets v2 v3 v4
    have hv2 : Steady q v2 := refreshTime_steady (runTo_steady h0)
    try clear_value v2
    try clear_value v3
    try clear_value v4
    refine steady_ite ?_ ?_
    · exact send_steady (setTime_steady hv2)
    · exact hv2

theorem unfreeze_steady {s} (h0 : Steady q s) :
    Steady q (unfreeze s) := by
  unfold unfreeze
  extract_lets v0 v1
  try clear_value v0
  have hv1 : Steady q v1 := by
    unfold v1
    refine steady_foldl (fun t2 x3 h4 => ?_) ?_
    · refine steady_ite ?_ ?_
      · exact wr_steady (countBy_steady h4)
      · exact h4
    · exact h0
  try clear_value v1
  exact setQuality_steady (rebaseError_steady hv1)

theorem freeze_steady {s} (h0 : Steady q s) :
    Steady q (freeze s) := by
  unfold freeze
  extract_lets v0 v1
  have hv0 : Steady q v0 := rebaseError_steady h0
  try clear_value v0
  have hv1 : Steady q v1 := by
    unfold v1
    refine steady_foldl (fun t2 x3 h4 => ?_) ?_
    · refine steady_ite ?_ ?_
      · exact wr_steady (count_steady h4)
      · exact h4
    · exact hv0
  try clear_value v1
  exact setQuality_steady (setTime_steady hv1)

theorem renewPhases_steady {ds s} (h1 : Steady q s) : Steady q (renewPhases ds s) := by
  unfold renewPhases
  extract_lets renew
  exact ⟨{ h1.canonical with droves := Tbl.wf_mapAll _ _ h1.canonical.droves }, h1.pending⟩

theorem useRef_steady {src s} (h1 : Steady q s) :
    Steady q (useRef src s) := by
  unfold useRef
  extract_lets v0 v1 v2
  try clear_value v0
  have hv1 : Steady q v1 := renewPhases_steady (unfreeze_steady (wr_steady h1))
  try clear_value v1
  have hv2 : Steady q v2 := setTime_steady hv1
  try clear_value v2
  refine refreshTime_steady ?_
  · refine steady_ite ?_ ?_
    · exact emit_steady hv2
    · exact hv2

theorem execRefLost_steady {src s} (h1 : Steady q s) :
    SteadyNext q (execRefLost src s) := by
  unfold execRefLost
  refine steady_next ?_
  refine whenAlive_steady (fun t1 h0 => ?_) h1
  · refine steady_ite ?_ ?_
    · exact h0
    · extract_lets v2 v3 v4 v5 v6
      have hv2 : Steady q v2 := wr_steady h0
      try clear_value v2
      have hv3 : Steady q v3 := freeze_steady hv2
      try clear_value v3
      have hv4 : Steady q v4 := emit_steady (count_steady hv3)
      try clear_value v4
      have hv5 : Steady q v5 := setTime_steady hv4
      try clear_value v5
      try clear_value v6
      refine steady_ite ?_ ?_
      · exact hv2
      · refine steady_ite ?_ ?_
        · exact useRef_steady hv5
        · exact refreshTime_steady (wr_steady hv5)

theorem execRefRestored_steady {src s} (h1 : Steady q s) :
    SteadyNext q (execRefRestored src s) := by
  unfold execRefRestored
  refine steady_next ?_
  refine steady_ite ?_ ?_
  · exact h1
  · extract_lets v0 v1
    have hv0 : Steady q v0 := wr_steady h1
    try clear_value v0
    try clear_value v1
    refine steady_ite ?_ ?_
    · exact hv0
    · refine steady_ite ?_ ?_
      · exact useRef_steady hv0
      · exact hv0

theorem execClkoutAlignmentStep_steady {o delta aligned s} (h3 : Steady q s) :
    SteadyNext q (execClkoutAlignmentStep o delta aligned s) := by
  unfold execClkoutAlignmentStep
  refine steady_next ?_
  refine whenAlive_steady (fun t1 h0 => ?_) h3
  · refine steady_ite ?_ ?_
    · extract_lets v2
      have hv2 : Steady q v2 := setTime_steady h0
      try clear_value v2
      refine steady_ite ?_ ?_
      · exact wr_steady hv2
      · exact hv2
    · exact h0

end Sys2Proof.Machine
end

