-- ==== Sys2Proof/Laws/SteadyConfiguration.lean ====
section
/-! SUPPORT. Every operation of Machine/Configuration.lean keeps the stores canonical and the queue as it is. -/

namespace Sys2Proof.Machine

variable {q : List Instr}

theorem draftChanged_steady {s} (h0 : Steady q s) :
    Steady q (draftChanged s) := by
  unfold draftChanged
  extract_lets v0 v1
  have hv0 : Steady q v0 := wr_steady h0
  try clear_value v0
  have hv1 : Steady q v1 := wr_steady hv0
  try clear_value v1
  refine steady_ite ?_ ?_
  · exact hv1
  · exact wr_steady hv1

theorem setDraft_steady {im s} (h1 : Steady q s) :
    Steady q (setDraft im s) := by
  unfold setDraft
  exact draftChanged_steady (Steady.same h1 rfl)

theorem writeP_steady {key v s} (h2 : Steady q s) :
    Steady q (writeP key v s) := by
  unfold writeP
  extract_lets v0
  have hv0 : Steady q v0 := setDraft_steady h2
  try clear_value v0
  refine steady_ite ?_ ?_
  · exact hv0
  · exact wr_steady hv0

theorem writePBlob_steady {key v s} (h2 : Steady q s) :
    Steady q (writePBlob key v s) := by
  unfold writePBlob
  extract_lets v0
  have hv0 : Steady q v0 := setDraft_steady h2
  try clear_value v0
  refine steady_ite ?_ ?_
  · exact hv0
  · exact wrBlob_steady hv0

theorem foldl_set_wf {α β : Type} [DecidableEq α] {d : Nat → α} {l : List β} {f : β → Nat} {g : β → α} {m : List (Nat × α)}
    (h : Tbl.wf d m = true) : Tbl.wf d (l.foldl (fun m p => Tbl.set d m (f p) (g p)) m) = true := by
  induction l generalizing m with
  | nil => exact h
  | cons p l ih => exact ih (Tbl.wf_set _ _ _ h)

theorem loadLive_steady {im s} (h1 : Steady q s) : Steady q (loadLive im s) :=
  ⟨{ h1.canonical with
      regs := foldl_set_wf (Tbl.wf_filter _ _ h1.canonical.regs)
      blobs := foldl_set_wf (Tbl.wf_filter _ _ h1.canonical.blobs) }, h1.pending⟩

theorem showTideMarks_steady {s} (h0 : Steady q s) :
    Steady q (showTideMarks s) := by
  unfold showTideMarks
  extract_lets v0
  try clear_value v0
  exact wrs_steady h0

theorem showMapSizes_steady {s} (h0 : Steady q s) :
    Steady q (showMapSizes s) := by
  unfold showMapSizes
  refine steady_foldl (fun t0 x1 h2 => ?_) ?_
  · extract_lets v3
    try clear_value v3
    exact wr_steady h2
  · exact h0

theorem applyCommitted_steady {s} (h0 : Steady q s) :
    Steady q (applyCommitted s) := by
  unfold applyCommitted
  exact showMapSizes_steady (showTideMarks_steady (loadLive_steady (Steady.same h0 rfl)))

theorem bootLoad_steady {s} (h0 : Steady q s) :
    Steady q (bootLoad s) := by
  unfold bootLoad
  split
  · extract_lets v6 v7 v8
    try clear_value v6
    have hv7 : Steady q v7 := Steady.same h0 rfl
    try clear_value v7
    have hv8 : Steady q v8 := wrs_steady hv7
    try clear_value v8
    exact applyCommitted_steady hv8
  · extract_lets v11 v12
    try clear_value v11
    try clear_value v12
    exact Steady.same h0 rfl

end Sys2Proof.Machine
end

