-- ==== Sys2Proof/Laws/SteadyReset.lean ====
section
/-! SUPPORT. Every operation of Machine/Reset.lean keeps the stores canonical and the queue as it is. -/

namespace Sys2Proof.Machine

variable {q : List Instr}

theorem handToCove_steady {s} (h0 : Steady q s) :
    Steady q (handToCove s) := by
  unfold handToCove
  refine steady_ite ?_ ?_
  · exact Steady.same h0 rfl
  · exact h0

theorem clearFor_steady {reach s0} (h1 : Steady q s0) : Steady q (clearFor reach s0) := by
  unfold clearFor
  extract_lets v0 v1 v2 v3 v4 v5
  have hv0 : Steady q v0 := steady_ite (handToCove_steady h1) h1
  clear_value v0
  have hv1 : Steady q v1 := steady_ite (setQuality_steady (setQuality_steady hv0)) hv0
  clear_value v1
  refine ⟨⟨foldl_set_wf (Tbl.wf_filter _ _ hv1.canonical.regs), Tbl.wf_filter _ _ hv1.canonical.blobs, rfl, rfl, rfl, rfl,
    rfl, rfl, rfl, Tbl.wf_filter _ _ hv1.canonical.mem, rfl⟩, hv1.pending⟩

theorem startPll_steady {s k} (h0 : Steady q s) :
    Steady q (startPll s k) := by
  unfold startPll
  extract_lets v0 v1 v2
  try clear_value v0
  try clear_value v1
  try clear_value v2
  exact wr_steady h0

theorem resetFrom_steady {src reach s} (h2 : Steady q s) :
    Steady q (resetFrom src reach s) := by
  unfold resetFrom
  extract_lets v0 v1 v2 v3 v4 v5 v6
  try clear_value v0
  try clear_value v1
  have hv2 : Steady q v2 := clearFor_steady h2
  try clear_value v2
  have hv3 : Steady q v3 := by
    refine steady_ite ?_ ?_
    · exact wr_steady hv2
    · exact hv2
  try clear_value v3
  have hv4 : Steady q v4 := by
    refine steady_ite ?_ ?_
    · refine steady_foldl (fun t7 x8 h9 => ?_) ?_
      · exact startPll_steady h9
      · exact hv3
    · exact hv3
  try clear_value v4
  try clear_value v5
  try clear_value v6
  exact Steady.same hv4 rfl

theorem execPornLow_steady {s} (h0 : Steady q s) :
    SteadyNext q (execPornLow s) := by
  unfold execPornLow
  refine steady_next ?_
  exact resetFrom_steady h0

theorem execSrstnLow_steady {s} (h0 : Steady q s) :
    SteadyNext q (execSrstnLow s) := by
  unfold execSrstnLow
  refine steady_next ?_
  exact resetFrom_steady h0

theorem execSupplyMonitorTrip_steady {rail s} (h1 : Steady q s) :
    SteadyNext q (execSupplyMonitorTrip rail s) := by
  unfold execSupplyMonitorTrip
  refine steady_next ?_
  refine steady_ite ?_ ?_
  · exact resetFrom_steady h1
  · exact h1

theorem execCriticalStateParity_steady {domain s} (h1 : Steady q s) :
    SteadyNext q (execCriticalStateParity domain s) := by
  unfold execCriticalStateParity
  refine steady_next ?_
  refine steady_ite ?_ ?_
  · exact resetFrom_steady h1
  · refine steady_ite ?_ ?_
    · exact resetFrom_steady h1
    · refine steady_ite ?_ ?_
      · exact resetFrom_steady h1
      · exact h1

theorem execLookoutWatchdogExpiry_steady {s} (h0 : Steady q s) :
    SteadyNext q (execLookoutWatchdogExpiry s) := by
  unfold execLookoutWatchdogExpiry
  refine steady_next ?_
  refine whenAlive_steady (fun t1 h0 => ?_) h0
  · refine steady_ite ?_ ?_
    · exact h0
    · exact resetFrom_steady h0

theorem execResetSourceReleased_steady {src s} (h1 : Steady q s) :
    SteadyNext q (execResetSourceReleased src s) := by
  unfold execResetSourceReleased
  refine steady_next ?_
  exact Steady.same h1 rfl

theorem loadTime_steady {s} (h0 : Steady q s) :
    Steady q (loadTime s) := by
  unfold loadTime
  extract_lets v0 v1 v2 v3 v4 v5
  try clear_value v0
  try clear_value v1
  have hv2 : Steady q v2 := by
    refine steady_ite ?_ ?_
    · exact wr_steady h0
    · exact h0
  try clear_value v2
  try clear_value v3
  have hv4 : Steady q v4 := Steady.same hv2 rfl
  try clear_value v4
  have hv5 : Steady q v5 := wr_steady hv4
  try clear_value v5
  refine refreshTime_steady ?_
  · refine steady_ite ?_ ?_
    · exact setQuality_steady hv5
    · exact hv5

theorem finishReset_steady {s} (h0 : Steady q s) :
    Steady q (finishReset s) := by
  unfold finishReset
  extract_lets v0 v1 v2 v3 v4 v5 v6
  try clear_value v0
  try clear_value v1
  have hv2 : Steady q v2 := wrs_steady h0
  try clear_value v2
  have hv3 : Steady q v3 := count_steady hv2
  try clear_value v3
  have hv4 : Steady q v4 := wrBlob_steady hv3
  try clear_value v4
  try clear_value v5
  have hv6 : Steady q v6 := Steady.same hv4 rfl
  try clear_value v6
  exact emit_steady hv6

theorem execStoreInitDone_steady {s} (h0 : Steady q s) :
    SteadyNext q (execStoreInitDone s) := by
  unfold execStoreInitDone
  refine steady_next ?_
  exact whenAlive_steady (fun t1 h0 => Steady.same h0 rfl) h0

theorem execOptionLoadDone_steady {view s} (h1 : Steady q s) :
    SteadyNext q (execOptionLoadDone view s) := by
  unfold execOptionLoadDone
  refine steady_next ?_
  refine whenAlive_steady (fun t1 h0 => ?_) h1
  · extract_lets v2
    have hv2 : Steady q v2 := wrs_steady h0
    try clear_value v2
    refine steady_ite ?_ ?_
    · exact wrs_steady hv2
    · exact wrs_steady hv2

theorem execPllLockLoss_steady {pll s} (h1 : Steady q s) :
    SteadyNext q (execPllLockLoss pll s) := by
  unfold execPllLockLoss
  refine steady_next ?_
  refine whenAlive_steady (fun t1 h0 => ?_) h1
  · refine steady_ite ?_ ?_
    · exact startPll_steady (count_steady h0)
    · exact h0

theorem setChange_steady {goal tides quiet s} (h3 : Steady q s) :
    Steady q (setChange goal tides quiet s) := by
  unfold setChange
  exact Steady.same h3 rfl

theorem enterDormant_steady {s} (h0 : Steady q s) :
    Steady q (enterDormant s) := by
  unfold enterDormant
  extract_lets v0 v1 v2 v3 v4 v5 v6
  try clear_value v0
  have hv1 : Steady q v1 := countBy_steady (wr_steady (rebaseError_steady h0))
  try clear_value v1
  have hv2 : Steady q v2 := by
    refine steady_ite ?_ ?_
    · exact enterHoldover_steady hv1
    · exact hv1
  try clear_value v2
  have hv3 : Steady q v3 := setTime_steady hv2
  try clear_value v3
  have hv4 : Steady q v4 := by
    unfold v4
    refine steady_foldl (fun t7 x8 h9 => ?_) ?_
    · exact wr_steady h9
    · exact hv3
  try clear_value v4
  have hv5 : Steady q v5 := wrs_steady hv4
  try clear_value v5
  try clear_value v6
  exact handToCove_steady (Steady.same hv5 rfl)

theorem showPower_steady {s} (h0 : Steady q s) :
    Steady q (showPower s) := by
  unfold showPower
  refine steady_ite ?_ ?_
  · exact h0
  · exact wr_steady h0

theorem finishWake_steady {st s} (h1 : Steady q s) :
    Steady q (finishWake st s) := by
  unfold finishWake
  extract_lets v0 v1 v2 v3 v4 v5
  have hv0 : Steady q v0 := rebaseError_steady (setChange_steady h1)
  try clear_value v0
  try clear_value v1
  try clear_value v2
  have hv3 : Steady q v3 := wrs_steady hv0
  try clear_value v3
  have hv4 : Steady q v4 := by
    refine steady_ite ?_ ?_
    · exact count_steady hv3
    · exact hv3
  try clear_value v4
  try clear_value v5
  exact renewPhases_steady (Steady.same hv4 rfl)

theorem startWake_steady {s} (h0 : Steady q s) :
    Steady q (startWake s) := by
  unfold startWake
  extract_lets v0 v1
  try clear_value v0
  try clear_value v1
  refine steady_ite ?_ ?_
  · refine steady_ite ?_ ?_
    · exact h0
    · exact Steady.same h0 rfl
  · refine steady_ite ?_ ?_
    · exact Steady.same h0 rfl
    · exact Steady.same h0 rfl

theorem wakeNow_steady {s} (h0 : Steady q s) :
    Steady q (wakeNow s) := by
  unfold wakeNow
  refine steady_ite ?_ ?_
  · exact startWake_steady h0
  · exact h0

theorem makeChange_steady {goal s} (h1 : Steady q s) :
    Steady q (makeChange goal s) := by
  unfold makeChange
  split
  · exact countBy_steady (wr_steady (setChange_steady h1))
  · exact setChange_steady h1
  · exact enterDormant_steady (setChange_steady h1)

theorem powerTide_steady {s} (h0 : Steady q s) :
    Steady q (powerTide s) := by
  unfold powerTide
  extract_lets v0 v1 v2 v3 v4
  try clear_value v0
  have hv1 : Steady q v1 := setChange_steady h0
  try clear_value v1
  try clear_value v2
  try clear_value v3
  have hv4 : Steady q v4 := wr_steady h0
  try clear_value v4
  refine steady_ite ?_ ?_
  · exact h0
  · refine steady_ite ?_ ?_
    · refine steady_ite ?_ ?_
      · exact finishWake_steady hv1
      · exact hv1
    · refine steady_ite ?_ ?_
      · exact setChange_steady hv4
      · refine steady_ite ?_ ?_
        · refine setChange_steady ?_
          · refine steady_ite ?_ ?_
            · exact startWake_steady hv4
            · exact hv4
        · refine steady_ite ?_ ?_
          · exact setChange_steady hv4
          · exact makeChange_steady hv4

theorem wakeProgress_steady {s} (h0 : Steady q s) :
    Steady q (wakeProgress s) := by
  unfold wakeProgress
  refine steady_ite ?_ ?_
  · refine steady_ite ?_ ?_
    · refine steady_foldl (fun t0 x1 h2 => ?_) ?_
      · exact startPll_steady h2
      · exact h0
    · refine steady_ite ?_ ?_
      · exact finishWake_steady h0
      · exact h0
  · exact h0

theorem execPllLock_steady {pll us s} (h2 : Steady q s) :
    SteadyNext q (execPllLock pll us s) := by
  unfold execPllLock
  refine steady_next ?_
  refine whenAlive_steady (fun t1 h0 => ?_) h2
  · refine steady_ite ?_ ?_
    · extract_lets v2 v3 v4
      have hv2 : Steady q v2 := wrs_steady h0
      try clear_value v2
      try clear_value v3
      try clear_value v4
      exact wakeProgress_steady (renewPhases_steady (Steady.same hv2 rfl))
    · exact h0

theorem execPgCoreReport_steady {s} (h0 : Steady q s) :
    SteadyNext q (execPgCoreReport s) := by
  unfold execPgCoreReport
  refine steady_next ?_
  refine steady_ite ?_ ?_
  · exact wakeProgress_steady (Steady.same h0 rfl)
  · exact Steady.same h0 rfl

theorem execScheduledWake_steady {s} (h0 : Steady q s) :
    SteadyNext q (execScheduledWake s) := by
  unfold execScheduledWake
  refine steady_next ?_
  split
  · exact startWake_steady (runTo_steady h0)
  · exact h0

theorem execWakeEvent_steady {why s} (h1 : Steady q s) :
    SteadyNext q (execWakeEvent why s) := by
  unfold execWakeEvent
  refine steady_next ?_
  refine steady_ite ?_ ?_
  · exact startWake_steady h1
  · exact h1

theorem execWakeAttemptTimeout_steady {pgLate refLate s} (h2 : Steady q s) :
    SteadyNext q (execWakeAttemptTimeout pgLate refLate s) := by
  unfold execWakeAttemptTimeout
  refine steady_next ?_
  refine steady_ite ?_ ?_
  · extract_lets v0 v1 v2 v3 v4
    try clear_value v0
    try clear_value v1
    have hv2 : Steady q v2 := Steady.same h2 rfl
    try clear_value v2
    try clear_value v3
    have hv4 : Steady q v4 := Steady.same hv2 rfl
    try clear_value v4
    refine steady_ite ?_ ?_
    · exact runTo_steady hv2
    · exact wrs_steady (count_steady hv4)
  · exact h2

theorem writePowerRetry_steady {s} (h0 : Steady q s) :
    Steady q (writePowerRetry s).1 := by
  unfold writePowerRetry
  refine steady_ite1 ?_ ?_
  · exact refuse_steady h0
  · exact accept_steady (Steady.same h0 rfl)

theorem execHostPortLinkChange_steady {port up s} (h2 : Steady q s) :
    SteadyNext q (execHostPortLinkChange port up s) := by
  unfold execHostPortLinkChange
  refine steady_next ?_
  refine whenAlive_steady (fun t1 h0 => ?_) h2
  · refine steady_ite ?_ ?_
    · exact h0
    · extract_lets v2
      have hv2 : Steady q v2 := wr_steady h0
      try clear_value v2
      refine steady_ite ?_ ?_
      · exact wakeNow_steady hv2
      · exact hv2

theorem execAuxPowerWarning_steady {s} (h0 : Steady q s) :
    SteadyNext q (execAuxPowerWarning s) := by
  unfold execAuxPowerWarning
  refine steady_next ?_
  extract_lets v0 v1 v2
  have hv0 : Steady q v0 := by
    refine steady_ite ?_ ?_
    · exact commitAll_steady h0
    · exact h0
  try clear_value v0
  have hv1 : Steady q v1 := handToCove_steady hv0
  try clear_value v1
  have hv2 : Steady q v2 := by
    refine steady_ite ?_ ?_
    · exact refreshCopy_steady hv1
    · exact hv1
  try clear_value v2
  exact wr_steady hv2

theorem loseCove_steady {s} (h0 : Steady q s) :
    Steady q (loseCove s) := by
  unfold loseCove
  extract_lets v0 v1 v2 v3 v4 v5
  try clear_value v0
  try clear_value v1
  try clear_value v2
  have hv3 : Steady q v3 := Steady.same h0 rfl
  try clear_value v3
  have hv4 : Steady q v4 := wrs_steady hv3
  try clear_value v4
  have hv5 : Steady q v5 := by
    unfold v5
    refine steady_foldl (fun t6 x7 h8 => ?_) ?_
    · exact wr_steady h8
    · exact hv4
  try clear_value v5
  exact wrBlob_steady hv5

theorem execCoveStoresExhausted_steady {s} (h0 : Steady q s) :
    SteadyNext q (execCoveStoresExhausted s) := by
  unfold execCoveStoresExhausted
  refine steady_next ?_
  exact loseCove_steady h0

theorem execCoveColdStart_steady {s} (h0 : Steady q s) :
    SteadyNext q (execCoveColdStart s) := by
  unfold execCoveColdStart
  refine steady_next ?_
  extract_lets v0
  have hv0 : Steady q v0 := loseCove_steady h0
  try clear_value v0
  split
  · rename_i y1 y2 y3 y4
    have h5 := Steady.snd y4 (drawBytes_steady hv0)
    extract_lets v6 v7 v8 v9 v10
    have hv6 : Steady q v6 := wrs_steady h5
    try clear_value v6
    have hv7 : Steady q v7 := count_steady hv6
    try clear_value v7
    try clear_value v8
    try clear_value v9
    try clear_value v10
    exact Steady.same hv7 rfl

theorem execCoveSecondResync_steady {s} (h0 : Steady q s) :
    SteadyNext q (execCoveSecondResync s) := by
  unfold execCoveSecondResync
  refine steady_next ?_
  refine whenAlive_steady (fun t1 h0 => ?_) h0
  · extract_lets v2 v3
    have hv2 : Steady q v2 := runTo_steady h0
    try clear_value v2
    try clear_value v3
    refine steady_ite ?_ ?_
    · exact Steady.same hv2 rfl
    · exact hv2

theorem execJunctionTemperatureChange_steady {die t s} (h2 : Steady q s) :
    SteadyNext q (execJunctionTemperatureChange die t s) := by
  unfold execJunctionTemperatureChange
  refine steady_next ?_
  extract_lets v0 v1 v2 v3 v4 v5 v6
  try clear_value v0
  have hv1 : Steady q v1 := Steady.same h2 rfl
  try clear_value v1
  try clear_value v2
  try clear_value v3
  try clear_value v4
  have hv6 : Steady q v6 := by
    refine steady_ite ?_ ?_
    · refine emit_steady ?_
      · unfold v5
        exact Steady.same hv1 rfl
    · exact hv1
  try clear_value v6
  refine steady_ite ?_ ?_
  · refine emit_steady ?_
    · unfold v5
      exact Steady.same hv6 rfl
  · refine steady_ite ?_ ?_
    · refine emit_steady ?_
      · unfold v5
        exact Steady.same hv6 rfl
    · exact hv6

theorem writeDeviceReset_steady {k v s} (h2 : Steady q s) :
    Steady q (writeDeviceReset k v s).1 := by
  unfold writeDeviceReset
  extract_lets v0 v1 v2
  try clear_value v0
  try clear_value v1
  try clear_value v2
  refine steady_ite1 ?_ ?_
  · exact refuse_steady h2
  · refine steady_ite1 ?_ ?_
    · exact refuse_steady h2
    · refine steady_ite1 ?_ ?_
      · exact refuse_steady h2
      · refine steady_ite1 ?_ ?_
        · exact refuse_steady h2
        · exact accept_steady (Steady.same h2 rfl)

theorem applyReset_steady {s} (h0 : Steady q s) :
    Steady q (applyReset s) := by
  unfold applyReset
  refine steady_ite ?_ ?_
  · exact h0
  · exact resetFrom_steady (Steady.same h0 rfl)

end Sys2Proof.Machine
end

