-- ==== Sys2Proof/Laws/SteadyLinks.lean ====
section
/-! SUPPORT. Every operation of Machine/Links.lean keeps the stores canonical and the queue as it is. -/

namespace Sys2Proof.Machine

variable {q : List Instr}

theorem setPlan_steady {d lo w v s} (h4 : Steady q s) :
    Steady q (setPlan d lo w v s) := by
  unfold setPlan
  exact wr_steady h4

theorem setOrphans_steady {d s} (h1 : Steady q s) :
    Steady q (setOrphans d s) := by
  unfold setOrphans
  refine steady_ite ?_ ?_
  · exact h1
  · exact emit_steady (setPlan_steady h1)

theorem showLane_steady {d s} (h1 : Steady q s) :
    Steady q (showLane d s) := by
  unfold showLane
  exact wr_steady h1

theorem countVerdict_steady {d v s} (h2 : Steady q s) :
    Steady q (countVerdict d v s) := by
  unfold countVerdict
  refine steady_ite ?_ ?_
  · exact h2
  · exact pmcEvent_steady (countFault_steady (count_steady h2))

theorem setSlot_steady {n L c s} (h3 : Steady q s) : Steady q (setSlot n L c s) :=
  ⟨{ h3.canonical with slots := Tbl.wf_set _ _ _ h3.canonical.slots }, h3.pending⟩

theorem sendSet_steady {d kind arg s} (h3 : Steady q s) :
    Steady q (sendSet d kind arg s) := by
  unfold sendSet
  exact send_steady h3

theorem sendTrain_steady {lane d bridged s} (h3 : Steady q s) :
    Steady q (sendTrain lane d bridged s) := by
  unfold sendTrain
  exact sendSet_steady (sendSet_steady h3)

theorem sendTrains_steady {n d s} (h2 : Steady q s) :
    Steady q (sendTrains n d s) := by
  unfold sendTrains
  extract_lets v0 v1 v2
  have hv0 : Steady q v0 := sendTrain_steady h2
  try clear_value v0
  have hv1 : Steady q v1 := by
    unfold v1
    split
    · refine steady_ite ?_ ?_
      · exact sendSet_steady hv0
      · exact hv0
    · exact hv0
  try clear_value v1
  try clear_value v2
  split
  · refine steady_ite ?_ ?_
    · exact sendSet_steady hv1
    · exact hv1
  · refine steady_ite ?_ ?_
    · exact sendSet_steady hv1
    · exact hv1
  · refine steady_ite ?_ ?_
    · exact sendSet_steady hv1
    · exact hv1
  · exact hv1

theorem notePoison_steady {n L s} (h2 : Steady q s) :
    Steady q (notePoison n L s) := by
  unfold notePoison
  refine steady_ite ?_ ?_
  · exact countFault_steady (count_steady (setTideBits_steady h2))
  · exact h2

theorem launchBridged_steady {n force d s} (h3 : Steady q s) :
    Steady q (launchBridged n force d s) := by
  unfold launchBridged
  extract_lets v0 v1
  try clear_value v0
  try clear_value v1
  refine steady_ite ?_ ?_
  · exact h3
  · exact sendTrain_steady (setDrove_steady (send_steady h3))

theorem launchDrove_steady {n force d s} (h3 : Steady q s) :
    Steady q (launchDrove n force d s) := by
  unfold launchDrove
  refine steady_ite ?_ ?_
  · exact h3
  · extract_lets v0 v1 v2
    try clear_value v0
    have hv1 : Steady q v1 := by
      unfold v1
      refine steady_foldl (fun t3 x4 h5 => ?_) ?_
      · exact notePoison_steady h5
      · exact h3
    try clear_value v1
    have hv2 : Steady q v2 := by
      refine steady_ite ?_ ?_
      · exact hv1
      · exact setDrove_steady (send_steady hv1)
    try clear_value v2
    exact launchBridged_steady (sendTrains_steady hv2)

theorem applyPlan_steady {d s} (h1 : Steady q s) :
    Steady q (applyPlan d s) := by
  unfold applyPlan
  extract_lets v0 v1 v2 v3
  try clear_value v0
  have hv1 : Steady q v1 := setPlan_steady (setPlan_steady h1)
  try clear_value v1
  have hv2 : Steady q v2 := by
    refine steady_ite ?_ ?_
    · exact setDrove_steady hv1
    · split
      · exact setDrove_steady (setPlan_steady (setPlan_steady h1))
      · exact h1
  try clear_value v2
  have hv3 : Steady q v3 := by
    refine steady_ite ?_ ?_
    · exact setPlan_steady hv2
    · exact hv2
  try clear_value v3
  exact showLane_steady hv3

theorem beginRecords_steady {n s} (h1 : Steady q s) : Steady q (beginRecords n s) := by
  unfold beginRecords
  refine steady_foldl (fun t x h => setRing_steady (setTideBits_steady h)) ?_
  exact ⟨{ h1.canonical with
    tideRec := Tbl.wf_filter _ _ h1.canonical.tideRec, mem := Tbl.wf_filter _ _ h1.canonical.mem }, h1.pending⟩

theorem launchAll_steady {n force s} (h2 : Steady q s) : Steady q (launchAll n force s) := by
  unfold launchAll
  extract_lets ask v1 v2 v3 v4
  have hv1 : Steady q v1 :=
    ⟨{ h2.canonical with
        droves := Tbl.wf_mapAll (fun _ => Drove.off) (fun _ x => x.newTide (periodNs s)) h2.canonical.droves
        leaves := Tbl.wf_mapAll (fun _ => Leaf.unknown) ask h2.canonical.leaves }, h2.pending⟩
  clear_value v1
  have hv2 : Steady q v2 := steady_foldl (fun t x h => applyPlan_steady h) hv1
  clear_value v2
  have hv3 : Steady q v3 := beginRecords_steady hv2
  clear_value v3
  have hv4 : Steady q v4 := steady_foldl (fun t x h => launchDrove_steady h) hv3
  clear_value v4
  exact Steady.same hv4 rfl

theorem judgeDelay_steady {L s} (h1 : Steady q s) :
    Steady q (judgeDelay L s) := by
  unfold judgeDelay
  split
  · extract_lets v4
    try clear_value v4
    refine steady_ite ?_ ?_
    · exact setLeaf_steady h1
    · exact h1
  · exact h1

theorem showBridge_steady {d s} (h1 : Steady q s) :
    Steady q (showBridge d s) := by
  unfold showBridge
  extract_lets v0 v1 v2 v3 v4
  try clear_value v0
  try clear_value v1
  try clear_value v2
  try clear_value v3
  try clear_value v4
  exact wrs_steady h1

theorem execTLoopAverage_steady {d s} (h1 : Steady q s) :
    SteadyNext q (execTLoopAverage d s) := by
  unfold execTLoopAverage
  refine steady_next ?_
  refine whenAlive_steady (fun t1 h0 => ?_) h1
  · extract_lets v2 v3 v4 v5
    try clear_value v2
    try clear_value v3
    have hv4 : Steady q v4 := setDrove_steady h0
    try clear_value v4
    have hv5 : Steady q v5 := showBridge_steady (showBridge_steady hv4)
    try clear_value v5
    refine steady_ite ?_ ?_
    · exact h0
    · refine steady_foldl (fun t6 x7 h8 => ?_) ?_
      · exact judgeDelay_steady h8
      · exact hv5

theorem startMeasure_steady {d s} (h1 : Steady q s) :
    Steady q (startMeasure d s) := by
  unfold startMeasure
  exact setDrove_steady (wr_steady h1)

theorem spoilMeasure_steady {d s} (h1 : Steady q s) :
    Steady q (spoilMeasure d s) := by
  unfold spoilMeasure
  split
  · exact setDrove_steady h1
  · exact h1

theorem wantMeasure_steady {d s} (h1 : Steady q s) :
    Steady q (wantMeasure d s) := by
  unfold wantMeasure
  refine steady_ite ?_ ?_
  · exact startMeasure_steady h1
  · exact setDrove_steady h1

theorem measureAll_steady {s} (h0 : Steady q s) :
    Steady q (measureAll s) := by
  unfold measureAll
  refine steady_foldl (fun t0 x1 h2 => ?_) ?_
  · exact wantMeasure_steady h2
  · exact h0

theorem showMinPeriod_steady {s} (h0 : Steady q s) :
    Steady q (showMinPeriod s) := by
  unfold showMinPeriod
  extract_lets v0
  try clear_value v0
  exact wr_steady h0

theorem clearMeasure_steady {d s} (h1 : Steady q s) :
    Steady q (clearMeasure d s) := by
  unfold clearMeasure
  exact showMinPeriod_steady (setDrove_steady (wrs_steady h1))

theorem driftEvent_steady {d s} (h1 : Steady q s) :
    Steady q (driftEvent d s) := by
  unfold driftEvent
  exact countFault_steady (emit_steady h1)

theorem takePhase_steady {d p s} (h2 : Steady q s) :
    Steady q (takePhase d p s) := by
  unfold takePhase
  extract_lets v0 v1 v2
  try clear_value v0
  try clear_value v1
  have hv2 : Steady q v2 := by
    refine steady_ite ?_ ?_
    · exact driftEvent_steady h2
    · exact h2
  try clear_value v2
  exact setDrove_steady (wr_steady hv2)

theorem measured_steady {d phase s} (h2 : Steady q s) :
    Steady q (measured d phase s) := by
  unfold measured
  extract_lets v0 v1 v2 v3
  try clear_value v0
  try clear_value v1
  try clear_value v2
  have hv3 : Steady q v3 := wrs_steady h2
  try clear_value v3
  exact showMinPeriod_steady (showBridge_steady (showBridge_steady (takePhase_steady hv3)))

theorem execRtMeasurementEnd_steady {d phase s} (h2 : Steady q s) :
    SteadyNext q (execRtMeasurementEnd d phase s) := by
  unfold execRtMeasurementEnd
  refine steady_next ?_
  refine whenAlive_steady (fun t1 h0 => ?_) h2
  · extract_lets v2 v3
    try clear_value v2
    have hv3 : Steady q v3 := setDrove_steady h0
    try clear_value v3
    split
    · exact h0
    · refine steady_ite ?_ ?_
      · exact wr_steady hv3
      · refine steady_ite ?_ ?_
        · exact h0
        · refine steady_ite ?_ ?_
          · exact wr_steady hv3
          · exact measured_steady hv3

theorem execLanePhaseCheck_steady {d phase s} (h2 : Steady q s) :
    SteadyNext q (execLanePhaseCheck d phase s) := by
  unfold execLanePhaseCheck
  refine steady_next ?_
  refine whenAlive_steady (fun t1 h0 => ?_) h2
  · extract_lets v2 v3
    try clear_value v2
    try clear_value v3
    split
    · exact h0
    · refine steady_ite ?_ ?_
      · exact takePhase_steady h0
      · refine steady_ite ?_ ?_
        · exact driftEvent_steady h0
        · exact h0

theorem execRtMarginSecond_steady {d s} (h1 : Steady q s) :
    SteadyNext q (execRtMarginSecond d s) := by
  unfold execRtMarginSecond
  refine steady_next ?_
  refine whenAlive_steady (fun t1 h0 => ?_) h1
  · split
    · exact h0
    · extract_lets v7
      have hv7 : Steady q v7 := setDrove_steady (wrInt_steady h0)
      try clear_value v7
      refine steady_ite ?_ ?_
      · exact emit_steady hv7
      · exact hv7

theorem execBridgeUnavailableTimeout_steady {pair s} (h1 : Steady q s) :
    SteadyNext q (execBridgeUnavailableTimeout pair s) := by
  unfold execBridgeUnavailableTimeout
  refine steady_next ?_
  refine whenAlive_steady (fun t1 h0 => ?_) h1
  · refine steady_ite ?_ ?_
    · exact emit_steady h0
    · exact h0

theorem execLaneLockLoss_steady {d s} (h1 : Steady q s) :
    SteadyNext q (execLaneLockLoss d s) := by
  unfold execLaneLockLoss
  refine steady_next ?_
  refine whenAlive_steady (fun t1 h0 => ?_) h1
  · refine steady_ite ?_ ?_
    · extract_lets v2
      have hv2 : Steady q v2 := setDrove_steady (spoilMeasure_steady h0)
      try clear_value v2
      exact showLane_steady (countFault_steady (count_steady hv2))
    · exact h0

theorem execLaneBlockLockGained_steady {d s} (h1 : Steady q s) :
    SteadyNext q (execLaneBlockLockGained d s) := by
  unfold execLaneBlockLockGained
  refine steady_next ?_
  refine whenAlive_steady (fun t1 h0 => ?_) h1
  · refine steady_ite ?_ ?_
    · exact showLane_steady (setDrove_steady h0)
    · exact h0

theorem faultQueues_steady {d last s} (h2 : Steady q s) :
    Steady q (faultQueues d last s) := by
  unfold faultQueues
  refine steady_foldl (fun t0 x1 h2 => ?_) ?_
  · extract_lets v3
    have hv3 : Steady q v3 := dropParts_steady h2
    try clear_value v3
    refine steady_foldl (fun t4 x5 h6 => ?_) ?_
    · split
      · refine steady_ite ?_ ?_
        · exact retransmit_steady h6
        · exact h6
      · exact h6
    · exact hv3
  · exact h2

theorem pathFault_steady {d j last s} (h3 : Steady q s) :
    Steady q (pathFault d j last s) := by
  unfold pathFault
  extract_lets v0 v1 v2 v3 v4 v5 v6 v7 v8
  try clear_value v0
  try clear_value v1
  have hv2 : Steady q v2 := count_steady (emit_steady h3)
  try clear_value v2
  have hv3 : Steady q v3 := faultQueues_steady (countFault_steady hv2)
  try clear_value v3
  have hv4 : Steady q v4 := setDrove_steady hv3
  try clear_value v4
  have hv5 : Steady q v5 := by
    refine steady_ite ?_ ?_
    · exact setOrphans_steady hv4
    · exact hv4
  try clear_value v5
  try clear_value v6
  try clear_value v7
  have hv8 : Steady q v8 := by
    refine steady_ite ?_ ?_
    · exact setOrphans_steady (setDrove_steady hv5)
    · exact hv5
  try clear_value v8
  exact showLane_steady (showLane_steady hv8)

theorem judgeOwn_steady {d s} (h1 : Steady q s) :
    Steady q (judgeOwn d s) := by
  unfold judgeOwn
  extract_lets v0 v1 v2 v3 v4 v5
  try clear_value v0
  try clear_value v1
  have hv2 : Steady q v2 := count_steady (emit_steady (setPlan_steady h1))
  try clear_value v2
  have hv3 : Steady q v3 := by
    refine steady_ite ?_ ?_
    · exact setPlan_steady hv2
    · exact hv2
  try clear_value v3
  have hv4 : Steady q v4 := by
    refine steady_ite ?_ ?_
    · exact setDrove_steady hv3
    · exact h1
  try clear_value v4
  refine steady_ite ?_ ?_
  · exact h1
  · split
    · exact h1
    · refine setDrove_steady ?_
      · unfold v5
        extract_lets v10
        try clear_value v10
        refine steady_ite ?_ ?_
        · refine steady_ite ?_ ?_
          · exact setDrove_steady h1
          · exact pathFault_steady hv4
        · exact setDrove_steady h1
    · extract_lets v14
      try clear_value v14
      refine setDrove_steady ?_
      · refine steady_ite ?_ ?_
        · unfold v5
          extract_lets v15
          try clear_value v15
          refine steady_ite ?_ ?_
          · refine steady_ite ?_ ?_
            · exact setDrove_steady h1
            · exact pathFault_steady hv4
          · exact setDrove_steady h1
        · exact setDrove_steady h1

theorem judgeBridged_steady {d s} (h1 : Steady q s) :
    Steady q (judgeBridged d s) := by
  unfold judgeBridged
  extract_lets v0
  try clear_value v0
  refine steady_ite ?_ ?_
  · exact h1
  · split
    · extract_lets v4
      have hv4 : Steady q v4 := by
        refine steady_ite ?_ ?_
        · exact setOrphans_steady h1
        · exact h1
      try clear_value v4
      refine steady_ite ?_ ?_
      · exact setDrove_steady hv4
      · exact hv4
    · exact h1

theorem countMissing_steady {d s} (h1 : Steady q s) :
    Steady q (countMissing d s) := by
  unfold countMissing
  extract_lets v0 v1
  try clear_value v0
  try clear_value v1
  refine steady_ite ?_ ?_
  · exact h1
  · exact spoilMeasure_steady (countBy_steady h1)

theorem stepMeasure_steady {d s} (h1 : Steady q s) :
    Steady q (stepMeasure d s) := by
  unfold stepMeasure
  extract_lets v0
  have hv0 : Steady q v0 := setDrove_steady h1
  try clear_value v0
  split
  · exact setDrove_steady hv0
  · refine steady_ite ?_ ?_
    · exact startMeasure_steady hv0
    · exact hv0

theorem judgeLanes_steady {s} (h0 : Steady q s) :
    Steady q (judgeLanes s) := by
  unfold judgeLanes
  refine steady_foldl (fun t0 x1 h2 => ?_) ?_
  · exact stepMeasure_steady (judgeBridged_steady (judgeOwn_steady (countMissing_steady h2)))
  · exact h0

theorem execLaneRejoin_steady {d s} (h1 : Steady q s) :
    SteadyNext q (execLaneRejoin d s) := by
  unfold execLaneRejoin
  refine steady_next ?_
  refine whenAlive_steady (fun t1 h0 => ?_) h1
  · refine steady_ite ?_ ?_
    · exact setDrove_steady h0
    · exact h0

theorem confirmRejoin_steady {d turn s} (h2 : Steady q s) :
    Steady q (confirmRejoin d turn s) := by
  unfold confirmRejoin
  refine steady_ite ?_ ?_
  · extract_lets v0
    have hv0 : Steady q v0 := setPlan_steady (setPlan_steady h2)
    try clear_value v0
    exact emit_steady (count_steady (setDrove_steady hv0))
  · exact h2

theorem rejoinRequest_steady {d s} (h1 : Steady q s) :
    Steady q (rejoinRequest d s).1 := by
  unfold rejoinRequest
  refine steady_ite1 ?_ ?_
  · exact refuse_steady h1
  · exact accept_steady (setPlan_steady (setDrove_steady h1))

theorem takeSlot_steady {n L bs bridged s} (h4 : Steady q s) :
    Steady q (takeSlot n L bs bridged s) := by
  unfold takeSlot
  extract_lets v0 v1 v2 v3
  try clear_value v0
  have hv1 : Steady q v1 := setLeaf_steady h4
  try clear_value v1
  try clear_value v2
  have hv3 : Steady q v3 := by
    refine steady_ite ?_ ?_
    · exact setTideBits_steady hv1
    · exact setRing_steady (setTideBits_steady hv1)
  try clear_value v3
  refine steady_ite ?_ ?_
  · exact h4
  · exact snoop_steady hv3

theorem takeSlots_steady {n r s} (h2 : Steady q s) :
    Steady q (takeSlots n r s) := by
  unfold takeSlots
  extract_lets v0 v1 v2
  try clear_value v0
  try clear_value v1
  try clear_value v2
  refine steady_foldl (fun t3 x4 h5 => ?_) ?_
  · exact takeSlot_steady h5
  · exact h2

theorem goodFrame_steady {n r s} (h2 : Steady q s) :
    Steady q (goodFrame n r s) := by
  unfold goodFrame
  extract_lets v0 v1 v2 v3 v4 v5
  try clear_value v0
  try clear_value v1
  try clear_value v2
  have hv3 : Steady q v3 := countBy_steady h2
  try clear_value v3
  have hv4 : Steady q v4 := setDrove_steady hv3
  try clear_value v4
  have hv5 : Steady q v5 := by
    refine steady_ite ?_ ?_
    · exact setDrove_steady hv3
    · exact confirmRejoin_steady (wr_steady hv4)
  try clear_value v5
  refine steady_ite ?_ ?_
  · exact takeSlots_steady hv5
  · exact hv5

theorem noteArrival_steady {d arrive s} (h2 : Steady q s) :
    Steady q (noteArrival d arrive s) := by
  unfold noteArrival
  extract_lets v0
  try clear_value v0
  exact setDrove_steady (observe_steady h2)

theorem noteInvalid_steady {d n s} (h2 : Steady q s) :
    Steady q (noteInvalid d n s) := by
  unfold noteInvalid
  refine steady_ite ?_ ?_
  · exact h2
  · exact setDrove_steady h2

theorem execTideFrameReturn_steady {ret s} (h1 : Steady q s) :
    SteadyNext q (execTideFrameReturn ret s) := by
  unfold execTideFrameReturn
  refine steady_next ?_
  refine whenAlive_steady (fun t1 h0 => ?_) h1
  · extract_lets v2 v3 v4 v5 v6 v7 v8 v9
    try clear_value v2
    try clear_value v3
    try clear_value v4
    have hv5 : Steady q v5 := noteInvalid_steady h0
    try clear_value v5
    try clear_value v6
    have hv7 : Steady q v7 := noteArrival_steady hv5
    try clear_value v7
    try clear_value v8
    have hv9 : Steady q v9 := countVerdict_steady hv7
    try clear_value v9
    refine steady_ite ?_ ?_
    · exact hv5
    · refine steady_ite ?_ ?_
      · exact hv7
      · refine steady_ite ?_ ?_
        · exact goodFrame_steady hv9
        · refine steady_ite ?_ ?_
          · exact setDrove_steady hv9
          · exact setDrove_steady hv9

theorem takeSlow_steady {n L bs s} (h3 : Steady q s) :
    Steady q (takeSlow n L bs s) := by
  unfold takeSlow
  extract_lets v0 v1 v2 v3 v4 v5 v6
  try clear_value v0
  try clear_value v2
  have hv3 : Steady q v3 := setLeaf_steady h3
  try clear_value v3
  try clear_value v4
  try clear_value v5
  have hv6 : Steady q v6 := by
    refine steady_ite ?_ ?_
    · exact hv3
    · exact setDrove_steady hv3
  try clear_value v6
  refine steady_ite ?_ ?_
  · exact showBridge_steady (wr_steady hv6)
  · exact hv3

theorem stepSlow_steady {n L s} (h2 : Steady q s) :
    Steady q (stepSlow n L s) := by
  unfold stepSlow
  extract_lets v0 v1 v2 v3 v4 v5 v6 v7
  try clear_value v0
  try clear_value v1
  try clear_value v2
  try clear_value v3
  try clear_value v4
  have hv5 : Steady q v5 := setLeaf_steady h2
  try clear_value v5
  have hv6 : Steady q v6 := by
    refine steady_ite ?_ ?_
    · exact healInst_steady hv5
    · exact hv5
  try clear_value v6
  try clear_value v7
  refine steady_ite ?_ ?_
  · exact hv6
  · refine steady_ite ?_ ?_
    · exact takeSlow_steady hv6
    · exact setLeaf_steady hv6

theorem releaseSlot_steady {n L s} (h2 : Steady q s) :
    Steady q (releaseSlot n L s) := by
  unfold releaseSlot
  refine steady_ite ?_ ?_
  · exact setLeaf_steady h2
  · extract_lets v0 v1
    try clear_value v0
    try clear_value v1
    exact setLeaf_steady h2

theorem releaseTelemetry_steady {n s} (h1 : Steady q s) :
    Steady q (releaseTelemetry n s) := by
  unfold releaseTelemetry
  refine steady_foldl (fun t0 x1 h2 => ?_) ?_
  · exact stepSlow_steady (releaseSlot_steady h2)
  · exact h1

end Sys2Proof.Machine
end

