-- ==== Sys2Proof/Laws/SteadyShepherd.lean ====
section
/-! SUPPORT. Every operation of Machine/Shepherd.lean keeps the stores canonical and the queue as it is. -/

namespace Sys2Proof.Machine

variable {q : List Instr}

theorem strayStep_steady {n L s} (h2 : Steady q s) :
    Steady q (strayStep n L s) := by
  unfold strayStep
  refine steady_ite ?_ ?_
  · exact h2
  · refine steady_ite ?_ ?_
    · refine steady_ite ?_ ?_
      · exact leafReturns_steady h2
      · exact h2
    · refine steady_ite ?_ ?_
      · exact becomeStray_steady h2
      · exact h2

theorem commandLeaf_steady {m active r s x} (h3 : Steady q s) :
    Steady q (commandLeaf m active r s x) := by
  unfold commandLeaf
  extract_lets v0 v1 v2 v3 v4 v5 v6 v7 v8 v9
  try clear_value v0
  try clear_value v1
  try clear_value v2
  have hv3 : Steady q v3 := setSlot_steady h3
  try clear_value v3
  have hv4 : Steady q v4 := by
    refine steady_ite ?_ ?_
    · exact wr_steady hv3
    · exact hv3
  try clear_value v4
  have hv5 : Steady q v5 := wr_steady (wr_steady hv4)
  try clear_value v5
  have hv6 : Steady q v6 := by
    refine steady_ite ?_ ?_
    · exact wr_steady hv5
    · exact hv5
  try clear_value v6
  have hv7 : Steady q v7 := by
    refine steady_ite ?_ ?_
    · exact hv6
    · exact countBy_steady hv6
  try clear_value v7
  try clear_value v8
  try clear_value v9
  exact setLeaf_steady hv7

theorem noteKind_steady {s x} (h0 : Steady q s) :
    Steady q (noteKind s x) := by
  unfold noteKind
  extract_lets v0 v1 v2
  try clear_value v0
  try clear_value v1
  have hv2 : Steady q v2 := setLeaf_steady h0
  try clear_value v2
  refine steady_ite ?_ ?_
  · exact h0
  · refine steady_ite ?_ ?_
    · exact emit_steady hv2
    · exact hv2

theorem setShepherd_steady {a f s} (h2 : Steady q s) :
    Steady q (setShepherd a f s) := by
  unfold setShepherd
  exact Steady.same h2 rfl

theorem headroomStep_steady {a ranks flags s} (h3 : Steady q s) :
    Steady q (headroomStep a ranks flags s) := by
  unfold headroomStep
  extract_lets v0 v1 v2 v3 v4
  try clear_value v0
  try clear_value v1
  have hv2 : Steady q v2 := wr_steady h3
  try clear_value v2
  have hv3 : Steady q v3 := by
    refine steady_ite ?_ ?_
    · exact countBy_steady hv2
    · exact hv2
  try clear_value v3
  have hv4 : Steady q v4 := by
    refine steady_ite ?_ ?_
    · exact countFault_steady (count_steady hv3)
    · exact hv3
  try clear_value v4
  exact setShepherd_steady hv4

theorem floorStep_steady {a r s} (h2 : Steady q s) :
    Steady q (floorStep a r s) := by
  unfold floorStep
  extract_lets v0 v1 v2 v3
  try clear_value v0
  try clear_value v1
  try clear_value v2
  have hv3 : Steady q v3 := setShepherd_steady h2
  try clear_value v3
  refine steady_ite ?_ ?_
  · exact countFault_steady (emit_steady hv3)
  · exact hv3

theorem showRanking_steady {a m active r s} (h4 : Steady q s) :
    Steady q (showRanking a m active r s) := by
  unfold showRanking
  extract_lets v0 v1 v2 v3 v4 v5 v6
  try clear_value v0
  have hv3 : Steady q v3 := wrs_steady h4
  try clear_value v3
  have hv4 : Steady q v4 := wrPu_steady (wrPu_steady hv3)
  try clear_value v4
  have hv5 : Steady q v5 := setShepherd_steady hv4
  try clear_value v5
  have hv6 : Steady q v6 := countBy_steady hv5
  try clear_value v6
  exact wrBlob_steady hv6

theorem switchRate_steady {a s} (h1 : Steady q s) :
    Steady q (switchRate a s) := by
  unfold switchRate
  extract_lets v0 v1 v2
  try clear_value v0
  try clear_value v1
  try clear_value v2
  refine steady_ite ?_ ?_
  · exact h1
  · exact setShepherd_steady (wr_steady h1)

theorem blockLeaf_steady {m s L} (h1 : Steady q s) :
    Steady q (blockLeaf m s L) := by
  unfold blockLeaf
  extract_lets v0 v1 v2
  try clear_value v0
  have hv1 : Steady q v1 := wr_steady (setSlot_steady h1)
  try clear_value v1
  have hv2 : Steady q v2 := by
    refine steady_ite ?_ ?_
    · exact hv1
    · exact countBy_steady hv1
  try clear_value v2
  exact setLeaf_steady hv2

theorem countEvents_steady {a ev s} (h2 : Steady q s) :
    Steady q (countEvents a ev s) := by
  unfold countEvents
  exact pmcEvent_steady (countBy_steady h2)

theorem idleArm_steady {a m s} (h2 : Steady q s) :
    Steady q (idleArm a m s) := by
  unfold idleArm
  extract_lets v0 v1 v2
  try clear_value v0
  have hv1 : Steady q v1 := by
    refine countEvents_steady ?_
    · refine steady_foldl (fun t3 x4 h5 => ?_) ?_
      · exact blockLeaf_steady h5
      · exact h2
  try clear_value v1
  have hv2 : Steady q v2 := wrs_steady hv1
  try clear_value v2
  exact setShepherd_steady (headroomStep_steady hv2)

theorem missedDemand_steady {n a s} (h2 : Steady q s) :
    Steady q (missedDemand n a s) := by
  unfold missedDemand
  extract_lets v0 v1
  try clear_value v0
  have hv1 : Steady q v1 := count_steady h2
  try clear_value v1
  refine steady_ite ?_ ?_
  · exact countFault_steady hv1
  · exact hv1

theorem shepherdArm_steady {n st a s} (h3 : Steady q s) :
    Steady q (shepherdArm n st a s) := by
  unfold shepherdArm
  extract_lets v0 v1 v2 v3 v4 v5 v6 v7 v8 v9 v10 v11 v12
  have hv0 : Steady q v0 := switchRate_steady h3
  try clear_value v0
  try clear_value v1
  have hv2 : Steady q v2 := wr_steady (healInst_steady hv0)
  try clear_value v2
  try clear_value v3
  try clear_value v4
  have hv5 : Steady q v5 := by
    refine steady_ite ?_ ?_
    · exact missedDemand_steady hv2
    · exact hv2
  try clear_value v5
  have hv6 : Steady q v6 := setShepherd_steady hv5
  try clear_value v6
  try clear_value v7
  try clear_value v8
  have hv9 : Steady q v9 := by
    unfold v9
    refine steady_foldl (fun t13 x14 h15 => ?_) ?_
    · exact noteKind_steady h15
    · exact hv6
  try clear_value v9
  have hv10 : Steady q v10 := by
    unfold v10
    refine steady_foldl (fun t16 x17 h18 => ?_) ?_
    · exact commandLeaf_steady h18
    · exact hv9
  try clear_value v10
  have hv11 : Steady q v11 := countEvents_steady hv10
  try clear_value v11
  have hv12 : Steady q v12 := setShepherd_steady hv11
  try clear_value v12
  refine steady_ite ?_ ?_
  · exact wr_steady hv0
  · refine steady_ite ?_ ?_
    · exact idleArm_steady hv2
    · exact showRanking_steady (floorStep_steady (headroomStep_steady hv12))

theorem shepherdAll_steady {n s} (h1 : Steady q s) : Steady q (shepherdAll n s) := by
  unfold shepherdAll
  extract_lets st blocked v2 v3
  have hv2 : Steady q v2 :=
    steady_ite ⟨{ h1.canonical with leaves := Tbl.wf_mapAll (fun _ => Leaf.unknown) blocked h1.canonical.leaves }, h1.pending⟩ h1
  clear_value v2
  have hv3 : Steady q v3 := steady_foldl (fun t x h => strayStep_steady h) hv2
  clear_value v3
  exact steady_foldl (fun t x h => shepherdArm_steady h) hv3

end Sys2Proof.Machine
end

