-- ==== Sys2Proof/Laws/SteadyLoops.lean ====
section
/-! SUPPORT. Every operation of Machine/Loops.lean keeps the stores canonical and the queue as it is. -/

namespace Sys2Proof.Machine

variable {q : List Instr}

theorem scheduleGains_steady {n c s} (h2 : Steady q s) :
    Steady q (scheduleGains n c s) := by
  unfold scheduleGains
  extract_lets v0 v1 v2 v3 v4 v5 v6 v7 v8 v9 v10 v11 v12 v13 v14
  try clear_value v0
  try clear_value v1
  try clear_value v2
  try clear_value v3
  try clear_value v4
  try clear_value v5
  try clear_value v6
  try clear_value v7
  try clear_value v8
  try clear_value v9
  try clear_value v10
  try clear_value v11
  try clear_value v12
  try clear_value v13
  have hv14 : Steady q v14 := setConv_steady h2
  try clear_value v14
  refine steady_ite ?_ ?_
  · exact count_steady (wr_steady hv14)
  · exact hv14

theorem latchInputs_steady {n s} (h1 : Steady q s) :
    Steady q (latchInputs n s) := by
  unfold latchInputs
  extract_lets v0
  try clear_value v0
  exact setCl_steady h1

theorem startRun_steady {s} (h0 : Steady q s) :
    Steady q (startRun s) := by
  unfold startRun
  refine steady_ite ?_ ?_
  · exact h0
  · extract_lets v0 v1
    have hv0 : Steady q v0 := Steady.same h0 rfl
    try clear_value v0
    exact setCl_steady hv0

theorem rebaseLeg_steady {n g e s} (h3 : Steady q s) :
    Steady q (rebaseLeg n g e s) := by
  unfold rebaseLeg
  extract_lets v0 v1 v2 v3 v4 v5
  try clear_value v0
  try clear_value v1
  try clear_value v2
  try clear_value v3
  try clear_value v4
  try clear_value v5
  exact setLeg_steady h3

theorem legLaws_steady {n g e s} (h3 : Steady q s) :
    Steady q (legLaws n g e s) := by
  unfold legLaws
  extract_lets v0 v1 v2 v3 v4 v5 v6 v7 v8 v9 v10 v11
  try clear_value v0
  try clear_value v1
  try clear_value v2
  try clear_value v3
  try clear_value v4
  try clear_value v5
  try clear_value v7
  try clear_value v8
  try clear_value v9
  try clear_value v10
  try clear_value v11
  exact setLeg_steady h3

theorem dpcStep_steady {c e s} (h2 : Steady q s) :
    Steady q (dpcStep c e s) := by
  unfold dpcStep
  extract_lets v0 v1 v2 v3 v4 v5 v6 v7 v8 v9
  try clear_value v0
  try clear_value v1
  try clear_value v2
  try clear_value v3
  try clear_value v4
  try clear_value v5
  try clear_value v6
  try clear_value v7
  try clear_value v8
  try clear_value v9
  exact setConv_steady h2

theorem dpcFinish_steady {c s} (h1 : Steady q s) :
    Steady q (dpcFinish c s) := by
  unfold dpcFinish
  refine steady_ite ?_ ?_
  · exact h1
  · extract_lets v0 v1 v2 v3 v4 v5
    have hv0 : Steady q v0 := setConv_steady h1
    try clear_value v0
    try clear_value v1
    try clear_value v2
    try clear_value v3
    try clear_value v4
    have hv5 : Steady q v5 := by
      unfold v5
      refine steady_foldl (fun t6 x7 h8 => ?_) ?_
      · exact setLeg_steady h8
      · exact hv0
    try clear_value v5
    refine steady_ite ?_ ?_
    · exact hv0
    · exact suspendShift_steady (wr_steady (setSync_steady hv5))

theorem noteError_steady {c e s} (h2 : Steady q s) :
    Steady q (noteError c e s) := by
  unfold noteError
  extract_lets v0 v1 v2
  try clear_value v0
  try clear_value v1
  try clear_value v2
  exact setConv_steady h2

theorem legDemand_steady {n e missed g s} (h4 : Steady q s) :
    Steady q (legDemand n e missed g s) := by
  unfold legDemand
  extract_lets v0 v1 v2 v3
  try clear_value v0
  have hv1 : Steady q v1 := rebaseLeg_steady h4
  try clear_value v1
  try clear_value v2
  have hv3 : Steady q v3 := legLaws_steady hv1
  try clear_value v3
  refine steady_ite ?_ ?_
  · exact h4
  · refine steady_foldl (fun t4 x5 h6 => ?_) ?_
    · refine steady_ite ?_ ?_
      · exact h6
      · exact setShepherd_steady (healTideArea_steady h6)
    · exact hv3

theorem loopDemands_steady {n missed s} (h2 : Steady q s) :
    Steady q (loopDemands n missed s) := by
  unfold loopDemands
  split
  · exact h2
  · extract_lets v5
    have hv5 : Steady q v5 := by
      unfold v5
      refine steady_foldl (fun t6 x7 h8 => ?_) ?_
      · refine steady_ite ?_ ?_
        · refine steady_ite ?_ ?_
          · exact dpcStep_steady (noteError_steady h8)
          · exact noteError_steady h8
        · exact h8
      · exact h2
    try clear_value v5
    refine steady_foldl (fun t9 x10 h11 => ?_) ?_
    · exact legDemand_steady h11
    · exact hv5

theorem demandMisses_steady {n missed s} (h2 : Steady q s) :
    Steady q (demandMisses n missed s) := by
  unfold demandMisses
  refine steady_foldl (fun t0 x1 h2 => ?_) ?_
  · refine steady_ite ?_ ?_
    · exact h2
    · extract_lets v3 v4
      try clear_value v3
      have hv4 : Steady q v4 := setCl_steady h2
      try clear_value v4
      refine steady_ite ?_ ?_
      · exact failEngine_steady hv4
      · exact hv4
  · exact h2

theorem preCharge_steady {n s} (h1 : Steady q s) :
    Steady q (preCharge n s) := by
  unfold preCharge
  refine steady_ite ?_ ?_
  · exact h1
  · split
    · exact h1
    · extract_lets v5 v6 v7
      try clear_value v5
      try clear_value v6
      try clear_value v7
      exact Steady.same h1 rfl

theorem chargeStep_steady {s} (h0 : Steady q s) :
    Steady q (chargeStep s) := by
  unfold chargeStep
  refine steady_ite ?_ ?_
  · exact schedule_steady h0
  · exact h0

theorem dischargeStep_steady {s} (h0 : Steady q s) :
    Steady q (dischargeStep s) := by
  unfold dischargeStep
  refine steady_ite ?_ ?_
  · exact schedule_steady h0
  · exact h0

end Sys2Proof.Machine
end

