-- ==== Sys2Proof/Laws/SteadyMetering.lean ====
section
/-! SUPPORT. Every operation of Machine/Metering.lean keeps the stores canonical and the queue as it is. -/

namespace Sys2Proof.Machine

variable {q : List Instr}

theorem setChan_steady {c f s} (h2 : Steady q s) :
    Steady q (setChan c f s) := by
  unfold setChan
  exact setMeters_steady h2

theorem setChanBit_steady {c i b s} (h3 : Steady q s) :
    Steady q (setChanBit c i b s) := by
  unfold setChanBit
  exact wr_steady h3

theorem restartChan_steady {s c} (h0 : Steady q s) :
    Steady q (restartChan s c) := by
  unfold restartChan
  extract_lets v0 v1 v2
  try clear_value v0
  have hv1 : Steady q v1 := setChanBit_steady (setChanBit_steady h0)
  try clear_value v1
  try clear_value v2
  exact setChan_steady hv1

theorem execChannelClockCheck_steady {ch count moving s} (h3 : Steady q s) :
    SteadyNext q (execChannelClockCheck ch count moving s) := by
  unfold execChannelClockCheck
  refine steady_next ?_
  refine whenAlive_steady (fun t1 h0 => ?_) h3
  · refine steady_ite ?_ ?_
    · extract_lets v2 v3 v4
      try clear_value v2
      try clear_value v3
      have hv4 : Steady q v4 := setChanBit_steady h0
      try clear_value v4
      refine steady_ite ?_ ?_
      · exact setChanBit_steady hv4
      · exact hv4
    · exact h0

theorem execChannelClockMissing_steady {ch s} (h1 : Steady q s) :
    SteadyNext q (execChannelClockMissing ch s) := by
  unfold execChannelClockMissing
  refine steady_next ?_
  refine whenAlive_steady (fun t1 h0 => ?_) h1
  · refine steady_ite ?_ ?_
    · exact setChanBit_steady h0
    · exact h0

theorem execChannelDataStuck_steady {ch s} (h1 : Steady q s) :
    SteadyNext q (execChannelDataStuck ch s) := by
  unfold execChannelDataStuck
  refine steady_next ?_
  refine whenAlive_steady (fun t1 h0 => ?_) h1
  · refine steady_ite ?_ ?_
    · exact setChanBit_steady h0
    · exact h0

theorem choosePath_steady {c r s} (h2 : Steady q s) :
    Steady q (choosePath c r s).1 := by
  unfold choosePath
  refine steady_ite1 ?_ ?_
  · exact steady_pair1 (h2)
  · split
    · exact steady_pair1 (setChanBit_steady h2)
    · exact steady_pair1 (setChanBit_steady h2)
    · extract_lets v7 v8
      try clear_value v7
      have hv8 : Steady q v8 := setChan_steady (setChanBit_steady h2)
      try clear_value v8
      refine steady_pair1 ?_
      refine steady_ite ?_ ?_
      · exact count_steady hv8
      · exact hv8

theorem chanSample_steady {g c rs acc} (h3 : Steady q acc.1) :
    Steady q (chanSample g c rs acc).1 := by
  unfold chanSample
  extract_lets v0
  have hv0 : Steady q v0 := h3
  try clear_value v0
  refine steady_ite1 ?_ ?_
  · exact steady_pair1 (hv0)
  · split
    · exact steady_pair1 (setChan_steady hv0)
    · extract_lets v6 v7 v8 v9 v10 v11 v12 v13
      have hv6 : Steady q v6.1 := choosePath_steady hv0
      try clear_value v6
      try clear_value v7
      have hv8 : Steady q v8 := by
        refine steady_ite ?_ ?_
        · exact setChan_steady (setChanBit_steady hv6)
        · exact hv6
      try clear_value v8
      try clear_value v9
      have hv10 : Steady q v10 := setChan_steady hv8
      try clear_value v10
      try clear_value v11
      try clear_value v12
      try clear_value v13
      refine steady_ite1 ?_ ?_
      · exact steady_pair1 (hv10)
      · exact steady_pair1 (setChan_steady hv10)

theorem calSample_steady {rs vals s c} (h2 : Steady q s) :
    Steady q (calSample rs vals s c) := by
  unfold calSample
  refine steady_ite ?_ ?_
  · exact h2
  · split
    · extract_lets v6 v7 v8 v9
      try clear_value v6
      try clear_value v7
      try clear_value v8
      have hv9 : Steady q v9 := by
        refine steady_ite ?_ ?_
        · exact setMeters_steady h2
        · exact h2
      try clear_value v9
      exact setChan_steady hv9
    · refine steady_ite ?_ ?_
      · exact setMeters_steady h2
      · exact h2

theorem feedPulses_steady {m a e s} (h3 : Steady q s) :
    Steady q (feedPulses m a e s) := by
  unfold feedPulses
  refine steady_foldl (fun t0 x1 h2 => ?_) ?_
  · extract_lets v3 v4 v5 v6 v7 v8
    try clear_value v3
    try clear_value v4
    try clear_value v5
    try clear_value v6
    try clear_value v7
    have hv8 : Steady q v8 := setMeters_steady h2
    try clear_value v8
    refine steady_ite ?_ ?_
    · exact countBy_steady (wr_steady hv8)
    · exact h2
  · exact h3

theorem addEnergy_steady {m a e s} (h3 : Steady q s) :
    Steady q (addEnergy m a e s) := by
  unfold addEnergy
  extract_lets v0 v1 v2 v3
  try clear_value v0
  try clear_value v1
  have hv2 : Steady q v2 := setMeter_steady (wr_steady h3)
  try clear_value v2
  have hv3 : Steady q v3 := by
    refine steady_ite ?_ ?_
    · exact setFlag_steady hv2
    · exact hv2
  try clear_value v3
  exact feedPulses_steady hv3

theorem addPower_steady {m p q' sec s} (h4 : Steady q s) :
    Steady q (addPower m p q' sec s) := by
  unfold addPower
  extract_lets v0
  have hv0 : Steady q v0 := by
    refine steady_ite ?_ ?_
    · exact addEnergy_steady h4
    · refine steady_ite ?_ ?_
      · exact addEnergy_steady h4
      · exact h4
  try clear_value v0
  refine steady_ite ?_ ?_
  · exact addEnergy_steady hv0
  · refine steady_ite ?_ ?_
    · exact addEnergy_steady hv0
    · exact hv0

theorem elementSample_steady {g vals acc e} (h2 : Steady q acc.1) :
    Steady q (elementSample g vals acc e).1 := by
  unfold elementSample
  extract_lets v0
  have hv0 : Steady q v0 := h2
  try clear_value v0
  split
  · extract_lets v7
    have hv7 : Steady q v7 := setMeters_steady hv0
    try clear_value v7
    exact steady_pair1 (hv7)
  · exact steady_pair1 (setFlag_steady (countBy_steady hv0))

theorem crossing_steady {m g v s} (h3 : Steady q s) :
    Steady q (crossing m g v s) := by
  unfold crossing
  exact setMeter_steady h3

theorem meterSample_steady {g sec vals s m} (h3 : Steady q s) :
    Steady q (meterSample g sec vals s m) := by
  unfold meterSample
  extract_lets v0 v1 v2 v3
  try clear_value v0
  have hv1 : Steady q v1 := setFlag_steady h3
  try clear_value v1
  have hv2 : Steady q v2 := by
    unfold v2
    split
    · exact crossing_steady hv1
    · exact setMeter_steady hv1
  try clear_value v2
  have hv3 : Steady q v3.1 := by
    unfold v3
    refine steady_foldl1 (fun t9 x10 h11 => ?_) ?_
    · exact elementSample_steady h11
    · exact steady_pair1 (hv2)
  try clear_value v3
  refine steady_ite ?_ ?_
  · exact hv1
  · exact addPower_steady hv3

theorem applyPresets_steady {s m} (h0 : Steady q s) :
    Steady q (applyPresets s m) := by
  unfold applyPresets
  extract_lets v0
  try clear_value v0
  refine steady_foldl (fun t1 x2 h3 => ?_) ?_
  · extract_lets v4 v5 v6 v7
    try clear_value v4
    have hv5 : Steady q v5 := setMeter_steady (wr_steady h3)
    try clear_value v5
    have hv6 : Steady q v6 := setFlag_steady hv5
    try clear_value v6
    have hv7 : Steady q v7 := by
      unfold v7
      refine steady_foldl (fun t8 x9 h10 => ?_) ?_
      · extract_lets v11
        try clear_value v11
        refine steady_ite ?_ ?_
        · exact wr_steady (setMeters_steady h10)
        · exact h10
      · exact hv6
    try clear_value v7
    exact emit_steady hv7
  · exact setMeter_steady h0

theorem takeSnapshot_steady {g s} (h1 : Steady q s) :
    Steady q (takeSnapshot g s) := by
  unfold takeSnapshot
  extract_lets v0 v1 v2 v3 v4 v5
  try clear_value v0
  try clear_value v1
  try clear_value v2
  try clear_value v3
  have hv4 : Steady q v4 := wrBlob_steady (wr_steady h1)
  try clear_value v4
  have hv5 : Steady q v5 := setMeters_steady hv4
  try clear_value v5
  refine steady_ite ?_ ?_
  · refine steady_ite ?_ ?_
    · exact emit_steady (setMeters_steady hv5)
    · exact hv5
  · exact h1

theorem finishBoundary_steady {g s} (h1 : Steady q s) :
    Steady q (finishBoundary g s) := by
  unfold finishBoundary
  refine takeSnapshot_steady ?_
  · refine steady_foldl (fun t0 x1 h2 => ?_) ?_
    · exact applyPresets_steady h2
    · exact h1

theorem countGap_steady {g s} (h1 : Steady q s) :
    Steady q (countGap g s) := by
  unfold countGap
  refine steady_ite ?_ ?_
  · exact h1
  · extract_lets v0
    have hv0 : Steady q v0 := setMeters_steady h1
    try clear_value v0
    split
    · exact hv0
    · extract_lets v6
      try clear_value v6
      refine steady_foldl (fun t7 x8 h9 => ?_) ?_
      · exact setFlag_steady (countBy_steady h9)
      · exact hv0

theorem feedGrid_steady {g vals s c} (h2 : Steady q s) :
    Steady q (feedGrid g vals s c) := by
  unfold feedGrid
  extract_lets v0 v1 v2 v3 v4
  try clear_value v0
  try clear_value v1
  try clear_value v4
  refine steady_ite ?_ ?_
  · exact h2
  · exact setConv_steady h2

theorem execGridSample_steady {readings span s} (h2 : Steady q s) :
    SteadyNext q (execGridSample readings span s) := by
  unfold execGridSample
  refine steady_next ?_
  refine whenAlive_steady (fun t1 h0 => ?_) h2
  · extract_lets v2 v3 v4 v5 v6 v7 v8 v9
    try clear_value v2
    try clear_value v3
    have hv4 : Steady q v4 := countGap_steady (whenAlive_steady (fun t11 h10 => deliverVolts_steady (deliverVolts_steady h10)) (runTo_steady h0))
    try clear_value v4
    try clear_value v5
    have hv6 : Steady q v6.1 := by
      unfold v6
      refine steady_foldl1 (fun t12 x13 h14 => ?_) ?_
      · exact chanSample_steady h14
      · exact steady_pair1 (hv4)
    try clear_value v6
    have hv7 : Steady q v7 := by
      unfold v7
      refine steady_foldl (fun t15 x16 h17 => ?_) ?_
      · exact calSample_steady h17
      · exact hv6
    try clear_value v7
    have hv8 : Steady q v8 := by
      unfold v8
      refine steady_foldl (fun t21 x22 h23 => ?_) ?_
      · exact feedGrid_steady h23
      · refine steady_foldl (fun t18 x19 h20 => ?_) ?_
        · exact meterSample_steady h20
        · exact hv7
    try clear_value v8
    have hv9 : Steady q v9 := setMeters_steady hv8
    try clear_value v9
    refine steady_ite ?_ ?_
    · exact hv9
    · exact finishBoundary_steady hv9

theorem publishElement_steady {s e} (h0 : Steady q s) :
    Steady q (publishElement s e) := by
  unfold publishElement
  extract_lets v0 v1 v2 v3 v4 v5 v6 v7 v8 v9
  try clear_value v0
  try clear_value v1
  try clear_value v3
  try clear_value v4
  try clear_value v5
  try clear_value v6
  have hv7 : Steady q v7 := wrF_steady (wrF_steady (wrF_steady (wrF_steady (wrF_steady h0))))
  try clear_value v7
  have hv8 : Steady q v8 := wrF_steady hv7
  try clear_value v8
  try clear_value v9
  exact setMeters_steady hv8

theorem publishMeter_steady {g s m} (h1 : Steady q s) :
    Steady q (publishMeter g s m) := by
  unfold publishMeter
  extract_lets v0 v1 v2 v3 v4 v5 v6 v7
  try clear_value v0
  try clear_value v1
  try clear_value v2
  try clear_value v3
  try clear_value v4
  try clear_value v5
  have hv6 : Steady q v6 := by
    unfold v6
    refine steady_foldl (fun t8 x9 h10 => ?_) ?_
    · exact publishElement_steady h10
    · exact wrF_steady (wrF_steady (wrF_steady h1))
  try clear_value v6
  have hv7 : Steady q v7 := setMeter_steady (wr_steady hv6)
  try clear_value v7
  refine steady_ite ?_ ?_
  · exact addEnergy_steady hv7
  · exact hv7

theorem publishChan_steady {s c} (h0 : Steady q s) :
    Steady q (publishChan s c) := by
  unfold publishChan
  refine steady_ite ?_ ?_
  · exact h0
  · extract_lets v0 v1
    try clear_value v0
    have hv1 : Steady q v1 := wrF_steady h0
    try clear_value v1
    exact setChan_steady (setChanBit_steady hv1)

theorem loadCoefficients_steady {s} (h0 : Steady q s) :
    Steady q (loadCoefficients s) := by
  unfold loadCoefficients
  exact setMeters_steady h0

theorem execMeterWindowBoundary_steady {s} (h0 : Steady q s) :
    SteadyNext q (execMeterWindowBoundary s) := by
  unfold execMeterWindowBoundary
  refine steady_next ?_
  refine whenAlive_steady (fun t1 h0 => ?_) h0
  · split
    · refine steady_ite ?_ ?_
      · exact h0
      · extract_lets v5 v6
        have hv5 : Steady q v5 := by
          unfold v5
          refine steady_foldl (fun t7 x8 h9 => ?_) ?_
          · exact publishMeter_steady h9
          · exact h0
        try clear_value v5
        have hv6 : Steady q v6 := by
          unfold v6
          refine steady_foldl (fun t10 x11 h12 => ?_) ?_
          · exact publishChan_steady h12
          · exact hv5
        try clear_value v6
        exact refreshCopy_steady (setMeters_steady (finishBoundary_steady (loadCoefficients_steady hv6)))
    · exact h0

theorem execPulseEmit_steady {n s} (h1 : Steady q s) :
    SteadyNext q (execPulseEmit n s) := by
  unfold execPulseEmit
  refine steady_next ?_
  refine whenAlive_steady (fun t1 h0 => ?_) h1
  · extract_lets v2 v3 v4 v5
    try clear_value v2
    try clear_value v3
    have hv4 : Steady q v4 := wr_steady h0
    try clear_value v4
    have hv5 : Steady q v5 := setMeters_steady hv4
    try clear_value v5
    refine steady_ite ?_ ?_
    · exact send_steady (countBy_steady hv5)
    · exact h0

theorem calFinish_steady {code c s} (h2 : Steady q s) :
    Steady q (calFinish code c s) := by
  unfold calFinish
  extract_lets v0 v1
  have hv0 : Steady q v0 := by
    unfold v0
    refine steady_foldl (fun t2 x3 h4 => ?_) ?_
    · exact setChanBit_steady h4
    · exact h2
  try clear_value v0
  have hv1 : Steady q v1 := by
    refine steady_ite ?_ ?_
    · exact hv0
    · exact setChanBit_steady hv0
  try clear_value v1
  exact setMeters_steady (wrs_steady hv1)

theorem writeCal_steady {v s} (h1 : Steady q s) :
    Steady q (writeCal v s).1 := by
  unfold writeCal
  refine steady_ite1 ?_ ?_
  · exact refuse_steady h1
  · refine steady_ite1 ?_ ?_
    · exact refuse_steady h1
    · split
      · exact accept_steady (setChanBit_steady (wrs_steady h1))
      · extract_lets v5
        have hv5 : Steady q v5 := by
          unfold v5
          refine steady_foldl (fun t6 x7 h8 => ?_) ?_
          · exact setChan_steady (setChanBit_steady (setChanBit_steady h8))
          · exact h1
        try clear_value v5
        exact accept_steady (setMeters_steady (wr_steady hv5))

theorem execCalHalfEnd_steady {s} (h0 : Steady q s) :
    SteadyNext q (execCalHalfEnd s) := by
  unfold execCalHalfEnd
  refine steady_next ?_
  refine whenAlive_steady (fun t1 h0 => ?_) h0
  · refine steady_ite ?_ ?_
    · exact h0
    · extract_lets v2 v3 v4 v5
      try clear_value v2
      have hv3 : Steady q v3 := by
        unfold v3
        refine steady_foldl (fun t6 x7 h8 => ?_) ?_
        · extract_lets v9 v10
          have hv9 : Steady q v9 := by
            refine steady_ite ?_ ?_
            · exact setMeters_steady h8
            · exact h8
          try clear_value v9
          try clear_value v10
          exact setChan_steady hv9
        · exact h0
      try clear_value v3
      try clear_value v4
      have hv5 : Steady q v5 := by
        unfold v5
        refine steady_foldl (fun t11 x12 h13 => ?_) ?_
        · extract_lets v14 v15 v16
          try clear_value v14
          try clear_value v15
          have hv16 : Steady q v16 := writeP_steady h13
          try clear_value v16
          refine steady_ite ?_ ?_
          · exact writeP_steady hv16
          · exact hv16
        · exact hv3
      try clear_value v5
      refine steady_ite ?_ ?_
      · refine setMeters_steady ?_
        · refine steady_foldl (fun t17 x18 h19 => ?_) ?_
          · exact setChan_steady h19
          · exact hv3
      · refine steady_ite ?_ ?_
        · exact calFinish_steady hv3
        · exact calFinish_steady (count_steady hv5)

theorem calAbort_steady {c s} (h1 : Steady q s) :
    Steady q (calAbort c s) := by
  unfold calAbort
  refine steady_ite ?_ ?_
  · exact h1
  · exact calFinish_steady h1

theorem meterResume_steady {s} (h0 : Steady q s) :
    Steady q (meterResume s) := by
  unfold meterResume
  split
  · extract_lets v3 v4
    have hv3 : Steady q v3 := by
      unfold v3
      refine steady_foldl (fun t5 x6 h7 => ?_) ?_
      · extract_lets v8
        try clear_value v8
        exact setMeter_steady (wr_steady h7)
      · exact h0
    try clear_value v3
    have hv4 : Steady q v4 := by
      unfold v4
      refine steady_foldl (fun t9 x10 h11 => ?_) ?_
      · extract_lets v12
        try clear_value v12
        exact wrs_steady h11
      · exact hv3
    try clear_value v4
    exact setMeters_steady hv4
  · refine steady_foldl (fun t15 x16 h17 => ?_) ?_
    · extract_lets v18
      have hv18 : Steady q v18 := wr_steady h17
      try clear_value v18
      exact emit_steady hv18
    · exact h0

theorem meterCommit_steady {old s} (_h0 : Steady q old) (h1 : Steady q s) :
    Steady q (meterCommit old s) := by
  unfold meterCommit
  extract_lets v0 v1 v2 v3
  try clear_value v0
  try clear_value v2
  have hv3 : Steady q v3 := by
    unfold v3
    split
    · exact calAbort_steady h1
    · exact h1
  try clear_value v3
  refine steady_foldl (fun t9 x10 h11 => ?_) ?_
  · exact restartChan_steady h11
  · exact hv3

theorem restartChain_steady {s} (h0 : Steady q s) :
    Steady q (restartChain s) := by
  unfold restartChain
  extract_lets v0 v1
  try clear_value v0
  have hv1 : Steady q v1 := by
    unfold v1
    refine steady_foldl (fun t2 x3 h4 => ?_) ?_
    · exact restartChan_steady h4
    · exact calAbort_steady h0
  try clear_value v1
  exact emit_steady (count_steady (loadCoefficients_steady hv1))

theorem loseAccumulator_steady {m a s} (h2 : Steady q s) :
    Steady q (loseAccumulator m a s) := by
  unfold loseAccumulator
  extract_lets v0
  have hv0 : Steady q v0 := setMeter_steady (wr_steady h2)
  try clear_value v0
  exact emit_steady (setFlag_steady hv0)

theorem loseSnapshot_steady {entry s} (h1 : Steady q s) :
    Steady q (loseSnapshot entry s) := by
  unfold loseSnapshot
  extract_lets v0
  split
  · exact wrBlob_steady h1
  · exact setMeters_steady h1

theorem writeSnapshot_steady {v s} (h1 : Steady q s) :
    Steady q (writeSnapshot v s).1 := by
  unfold writeSnapshot
  refine steady_ite1 ?_ ?_
  · exact accept_steady (setMeters_steady h1)
  · exact refuse_steady h1

theorem writePreset_steady {m bs s} (h2 : Steady q s) :
    Steady q (writePreset m bs s).1 := by
  unfold writePreset
  refine steady_ite1 ?_ ?_
  · exact refuse_steady h2
  · extract_lets v0
    try clear_value v0
    refine steady_ite1 ?_ ?_
    · exact refuse_steady h2
    · exact accept_steady (setMeter_steady h2)

theorem writeFlagsClear_steady {m v s} (h2 : Steady q s) :
    Steady q (writeFlagsClear m v s).1 := by
  unfold writeFlagsClear
  exact accept_steady (wr_steady h2)

end Sys2Proof.Machine
end

