-- ==== Sys2Proof/Laws/SteadyLocalIo.lean ====
section
/-! SUPPORT. Every operation of Machine/LocalIo.lean keeps the stores canonical and the queue as it is. -/

namespace Sys2Proof.Machine

variable {q : List Instr}

theorem setLio_steady {f s} (h1 : Steady q s) :
    Steady q (setLio f s) := by
  unfold setLio
  exact Steady.same h1 rfl

theorem showSar_steady {s} (h0 : Steady q s) :
    Steady q (showSar s) := by
  unfold showSar
  refine steady_foldl (fun t0 x1 h2 => ?_) ?_
  · exact wr_steady h2
  · exact h0

theorem sarOverrun_steady {k s} (h1 : Steady q s) :
    Steady q (sarOverrun k s) := by
  unfold sarOverrun
  exact wr_steady (count_steady h1)

theorem sarResult_steady {k i code taken s} (h4 : Steady q s) :
    Steady q (sarResult k i code taken s) := by
  unfold sarResult
  extract_lets v0
  have hv0 : Steady q v0 := by
    refine steady_ite ?_ ?_
    · exact sarOverrun_steady h4
    · exact h4
  try clear_value v0
  exact setLio_steady (wr_steady hv0)

theorem execSarBackgroundConversion_steady {conv input code taken s} (h4 : Steady q s) :
    SteadyNext q (execSarBackgroundConversion conv input code taken s) := by
  unfold execSarBackgroundConversion
  refine steady_next ?_
  refine whenAlive_steady (fun t1 h0 => ?_) h4
  · refine steady_ite ?_ ?_
    · extract_lets v2
      have hv2 : Steady q v2 := setLio_steady (sarResult_steady h0)
      try clear_value v2
      refine steady_ite ?_ ?_
      · exact wr_steady hv2
      · exact hv2
    · exact h0

theorem writeSarCal_steady {v s} (h1 : Steady q s) :
    Steady q (writeSarCal v s).1 := by
  unfold writeSarCal
  refine steady_ite1 ?_ ?_
  · exact refuse_steady h1
  · refine steady_ite1 ?_ ?_
    · exact refuse_steady h1
    · refine steady_ite1 ?_ ?_
      · exact accept_steady h1
      · exact accept_steady (showSar_steady (wr_steady (setLio_steady h1)))

theorem sarCalFinish_steady {status input s} (h2 : Steady q s) :
    Steady q (sarCalFinish status input s) := by
  unfold sarCalFinish
  extract_lets v0 v1
  have hv0 : Steady q v0 := wr_steady h2
  try clear_value v0
  have hv1 : Steady q v1 := by
    refine steady_ite ?_ ?_
    · exact count_steady hv0
    · exact wr_steady hv0
  try clear_value v1
  exact showSar_steady (setLio_steady hv1)

theorem sarCalCheck_steady {s} (h0 : Steady q s) :
    Steady q (sarCalCheck s) := by
  unfold sarCalCheck
  refine steady_ite ?_ ?_
  · exact sarCalFinish_steady h0
  · exact h0

theorem sarArrayFailed_steady {s k} (h0 : Steady q s) :
    Steady q (sarArrayFailed s k) := by
  unfold sarArrayFailed
  exact emit_steady (wr_steady h0)

theorem execSarCalEnd_steady {failed readings s} (h2 : Steady q s) :
    SteadyNext q (execSarCalEnd failed readings s) := by
  unfold execSarCalEnd
  refine steady_next ?_
  refine whenAlive_steady (fun t1 h0 => ?_) h2
  · refine steady_ite ?_ ?_
    · exact h0
    · extract_lets v2 v3 v4 v5 v6 v7
      try clear_value v2
      try clear_value v3
      have hv4 : Steady q v4 := by
        unfold v4
        refine steady_foldl (fun t8 x9 h10 => ?_) ?_
        · exact sarArrayFailed_steady h10
        · exact h0
      try clear_value v4
      try clear_value v5
      try clear_value v7
      split
      · exact sarCalFinish_steady hv4
      · exact sarCalFinish_steady hv4
      · exact sarCalFinish_steady hv4
      · refine sarCalFinish_steady ?_
        · refine steady_foldl (fun t35 x36 h37 => ?_) ?_
          · exact writeP_steady h37
          · exact hv4

theorem sarSelfCal_steady {s} (h0 : Steady q s) :
    Steady q (sarSelfCal s) := by
  unfold sarSelfCal
  exact showSar_steady (setLio_steady h0)

theorem execSarSelfCalEnd_steady {conv passed s} (h2 : Steady q s) :
    SteadyNext q (execSarSelfCalEnd conv passed s) := by
  unfold execSarSelfCalEnd
  refine steady_next ?_
  refine whenAlive_steady (fun t1 h0 => ?_) h2
  · refine steady_ite ?_ ?_
    · extract_lets v2
      have hv2 : Steady q v2 := setLio_steady h0
      try clear_value v2
      refine showSar_steady ?_
      · refine steady_ite ?_ ?_
        · exact hv2
        · exact sarArrayFailed_steady hv2
    · exact h0

theorem putSample_steady {n w raw code s} (h4 : Steady q s) :
    Steady q (putSample n w raw code s) := by
  unfold putSample
  extract_lets v0
  have hv0 : Steady q v0 := setLio_steady h4
  try clear_value v0
  exact setSample_steady hv0

theorem scanSample_steady {n codes s w} (h2 : Steady q s) :
    Steady q (scanSample n codes s w) := by
  unfold scanSample
  extract_lets v0
  try clear_value v0
  refine steady_ite ?_ ?_
  · exact putSample_steady h2
  · split
    · exact putSample_steady (sarOverrun_steady h2)
    · extract_lets v6 v7
      try clear_value v6
      try clear_value v7
      exact putSample_steady (sarResult_steady h2)

theorem tideScan_steady {n codes s} (h2 : Steady q s) :
    Steady q (tideScan n codes s) := by
  unfold tideScan
  extract_lets v0
  have hv0 : Steady q v0 := by
    unfold v0
    refine steady_foldl (fun t1 x2 h3 => ?_) ?_
    · exact scanSample_steady h3
    · exact h2
  try clear_value v0
  refine steady_foldl (fun t4 x5 h6 => ?_) ?_
  · exact putSample_steady h6
  · exact hv0

theorem showSense_steady {n s} (h1 : Steady q s) :
    Steady q (showSense n s) := by
  unfold showSense
  extract_lets v0
  have hv0 : Steady q v0 := by
    unfold v0
    refine steady_foldl (fun t1 x2 h3 => ?_) ?_
    · exact wr_steady h3
    · exact h1
  try clear_value v0
  exact wr_steady hv0

theorem showSenseDelay_steady {s} (h0 : Steady q s) :
    Steady q (showSenseDelay s) := by
  unfold showSenseDelay
  refine steady_ite ?_ ?_
  · extract_lets v0
    have hv0 : Steady q v0 := by
      unfold v0
      refine steady_foldl (fun t1 x2 h3 => ?_) ?_
      · extract_lets v4
        try clear_value v4
        refine steady_ite ?_ ?_
        · exact h3
        · exact wrInt_steady h3
      · exact h0
    try clear_value v0
    exact setLio_steady hv0
  · exact h0

theorem execSensorDecimatorOutput_steady {input code outputs delay s} (h4 : Steady q s) :
    SteadyNext q (execSensorDecimatorOutput input code outputs delay s) := by
  unfold execSensorDecimatorOutput
  refine steady_next ?_
  refine whenAlive_steady (fun t1 h0 => ?_) h4
  · refine steady_ite ?_ ?_
    · exact h0
    · refine steady_ite ?_ ?_
      · exact setLio_steady h0
      · extract_lets v2 v3 v4
        try clear_value v2
        have hv3 : Steady q v3 := setLio_steady h0
        try clear_value v3
        try clear_value v4
        refine steady_ite ?_ ?_
        · exact putSample_steady hv3
        · exact hv3

theorem setPwm_steady {q' f s} (h2 : Steady q s) :
    Steady q (setPwm q' f s) := by
  unfold setPwm
  exact setLio_steady h2

theorem takeDuties_steady {s} (h0 : Steady q s) :
    Steady q (takeDuties s) := by
  unfold takeDuties
  refine steady_foldl (fun t0 x1 h2 => ?_) ?_
  · refine steady_ite ?_ ?_
    · exact setPwm_steady h2
    · split
      · exact setPwm_steady h2
      · exact h2
  · exact h0

theorem showPwm_steady {s q'} (h0 : Steady q s) :
    Steady q (showPwm s q') := by
  unfold showPwm
  extract_lets v0 v1
  try clear_value v0
  try clear_value v1
  exact wr_steady h0

theorem pwmOff_steady {q' s} (h1 : Steady q s) :
    Steady q (pwmOff q' s) := by
  unfold pwmOff
  extract_lets v0
  try clear_value v0
  exact send_steady (send_steady (setPwm_steady h1))

theorem pwmStates_steady {s} (h0 : Steady q s) :
    Steady q (pwmStates s) := by
  unfold pwmStates
  refine steady_foldl (fun t0 x1 h2 => ?_) ?_
  · refine showPwm_steady ?_
    · refine steady_ite ?_ ?_
      · exact pwmOff_steady h2
      · exact h2
  · exact h0

theorem pwmValley_steady {q' correction s} (h2 : Steady q s) :
    Steady q (pwmValley q' correction s) := by
  unfold pwmValley
  extract_lets v0 v1 v2 v3 v4
  have hv0 : Steady q v0 := by
    refine steady_ite ?_ ?_
    · exact count_steady h2
    · exact h2
  try clear_value v0
  try clear_value v1
  try clear_value v2
  try clear_value v3
  have hv4 : Steady q v4 := setPwm_steady hv0
  try clear_value v4
  refine steady_ite ?_ ?_
  · refine showPwm_steady ?_
    · refine steady_ite ?_ ?_
      · exact count_steady hv4
      · exact hv4
  · exact hv0

theorem writeDuty_steady {q' v s} (h2 : Steady q s) :
    Steady q (writeDuty q' v s).1 := by
  unfold writeDuty
  refine steady_ite1 ?_ ?_
  · exact accept_steady (wr_steady h2)
  · exact refuse_steady h2

theorem execDelayLineCalibration_steady {matched s} (h1 : Steady q s) :
    SteadyNext q (execDelayLineCalibration matched s) := by
  unfold execDelayLineCalibration
  refine steady_next ?_
  refine whenAlive_steady (fun t1 h0 => ?_) h1
  · extract_lets v2 v3
    have hv2 : Steady q v2 := by
      unfold v2
      refine steady_foldl (fun t4 x5 h6 => ?_) ?_
      · exact wr_steady h6
      · exact h0
    try clear_value v2
    have hv3 : Steady q v3 := by
      refine steady_ite ?_ ?_
      · exact emit_steady hv2
      · exact hv2
    try clear_value v3
    exact setLio_steady hv3

theorem drivePins_steady {mask s} (h1 : Steady q s) :
    Steady q (drivePins mask s) := by
  unfold drivePins
  refine steady_foldl (fun t0 x1 h2 => ?_) ?_
  · exact send_steady h2
  · exact h1

theorem gpioDirections_steady {s} (h0 : Steady q s) :
    Steady q (gpioDirections s) := by
  unfold gpioDirections
  extract_lets v0 v1
  try clear_value v0
  try clear_value v1
  exact drivePins_steady (setLio_steady h0)

theorem gpioBoot_steady {s} (h0 : Steady q s) :
    Steady q (gpioBoot s) := by
  unfold gpioBoot
  exact gpioDirections_steady (wr_steady h0)

theorem writeGpio_steady {v s} (h1 : Steady q s) :
    Steady q (writeGpio v s).1 := by
  unfold writeGpio
  exact accept_steady (drivePins_steady (wr_steady h1))

theorem execGpioEdge_steady {pin level s} (h2 : Steady q s) :
    SteadyNext q (execGpioEdge pin level s) := by
  unfold execGpioEdge
  refine steady_next ?_
  refine steady_ite ?_ ?_
  · exact h2
  · extract_lets v0
    have hv0 : Steady q v0 := setLio_steady h2
    try clear_value v0
    refine whenAlive_steady (fun t2 h1 => ?_) hv0
    · extract_lets v3
      have hv3 : Steady q v3 := wr_steady h1
      try clear_value v3
      refine steady_ite ?_ ?_
      · exact wakeNow_steady (emit_steady (count_steady hv3))
      · exact hv3

theorem setBus_steady {i b s} (h2 : Steady q s) :
    Steady q (setBus i b s) := by
  unfold setBus
  exact wr_steady h2

theorem addJob_steady {j s} (h1 : Steady q s) :
    Steady q (addJob j s) := by
  unfold addJob
  refine steady_ite ?_ ?_
  · exact h1
  · exact setLio_steady h1

theorem busSwitch_steady {sw mask s} (h2 : Steady q s) :
    Steady q (busSwitch sw mask s) := by
  unfold busSwitch
  exact send_steady h2

theorem runJob_steady {j s} (h1 : Steady q s) :
    Steady q (runJob j s) := by
  unfold runJob
  split
  · exact send_steady h1
  · extract_lets v2 v3 v4
    try clear_value v2
    try clear_value v3
    have hv4 : Steady q v4 := by
      refine steady_ite ?_ ?_
      · exact busSwitch_steady h1
      · exact h1
    try clear_value v4
    exact send_steady hv4
  · extract_lets v7 v8
    try clear_value v7
    try clear_value v8
    refine steady_foldl (fun t9 x10 h11 => ?_) ?_
    · exact send_steady h11
    · exact h1
  · exact send_steady (send_steady (send_steady (busSwitch_steady h1)))
  · exact send_steady (busSwitch_steady h1)

theorem startBus_steady {s} (h0 : Steady q s) :
    Steady q (startBus s) := by
  unfold startBus
  refine steady_ite ?_ ?_
  · exact h0
  · split
    · exact setBus_steady h0
    · exact runJob_steady (setBus_steady (setLio_steady h0))

theorem regulatorDone_steady {r data s} (h2 : Steady q s) :
    Steady q (regulatorDone r data s) := by
  unfold regulatorDone
  extract_lets v0 v1 v2 v3 v4
  try clear_value v0
  try clear_value v1
  try clear_value v2
  try clear_value v3
  have hv4 : Steady q v4 := setLio_steady h2
  try clear_value v4
  refine steady_ite ?_ ?_
  · exact emit_steady hv4
  · exact hv4

theorem regulatorFailed_steady {r outcome s} (h2 : Steady q s) :
    Steady q (regulatorFailed r outcome s) := by
  unfold regulatorFailed
  exact setLio_steady h2

theorem setXcvr_steady {d x s} (h2 : Steady q s) :
    Steady q (setXcvr d x s) := by
  unfold setXcvr
  exact setLio_steady h2

theorem xcvrDone_steady {d data s} (h2 : Steady q s) :
    Steady q (xcvrDone d data s) := by
  unfold xcvrDone
  extract_lets v0 v1 v2
  try clear_value v0
  try clear_value v1
  have hv2 : Steady q v2 := setXcvr_steady h2
  try clear_value v2
  refine steady_ite ?_ ?_
  · exact emit_steady hv2
  · exact hv2

theorem xcvrAbsent_steady {d s} (h1 : Steady q s) :
    Steady q (xcvrAbsent d s) := by
  unfold xcvrAbsent
  extract_lets v0 v1
  try clear_value v0
  have hv1 : Steady q v1 := setXcvr_steady h1
  try clear_value v1
  refine steady_ite ?_ ?_
  · exact emit_steady hv1
  · exact hv1

theorem finishJob_steady {j outcome data s} (h3 : Steady q s) :
    Steady q (finishJob j outcome data s) := by
  unfold finishJob
  split
  · exact h3
  · extract_lets v2 v3 v4
    try clear_value v2
    try clear_value v3
    have hv4 : Steady q v4 := by
      refine steady_ite ?_ ?_
      · exact busSwitch_steady h3
      · exact h3
    try clear_value v4
    exact wrBlob_steady (setLio_steady hv4)
  · refine steady_ite ?_ ?_
    · exact regulatorDone_steady h3
    · exact regulatorFailed_steady h3
  · extract_lets v9
    have hv9 : Steady q v9 := busSwitch_steady h3
    try clear_value v9
    refine steady_ite ?_ ?_
    · exact xcvrDone_steady hv9
    · refine steady_ite ?_ ?_
      · exact xcvrAbsent_steady hv9
      · exact hv9
  · exact busSwitch_steady h3

theorem execMbusTransactionEnd_steady {outcome data s} (h2 : Steady q s) :
    SteadyNext q (execMbusTransactionEnd outcome data s) := by
  unfold execMbusTransactionEnd
  refine steady_next ?_
  refine whenAlive_steady (fun t1 h0 => ?_) h2
  · split
    · exact h0
    · extract_lets v7 v8 v9
      have hv7 : Steady q v7 := by
        refine steady_ite ?_ ?_
        · exact h0
        · exact count_steady h0
      try clear_value v7
      have hv8 : Steady q v8 := finishJob_steady (setLio_steady hv7)
      try clear_value v8
      have hv9 : Steady q v9 := setBus_steady hv8
      try clear_value v9
      refine steady_ite ?_ ?_
      · exact runJob_steady (setLio_steady hv7)
      · refine steady_ite ?_ ?_
        · exact setBus_steady hv9
        · exact startBus_steady hv9

theorem execXcvrPoll_steady {s} (h0 : Steady q s) :
    SteadyNext q (execXcvrPoll s) := by
  unfold execXcvrPoll
  refine steady_next ?_
  refine whenAlive_steady (fun t1 h0 => ?_) h0
  · refine steady_ite ?_ ?_
    · exact h0
    · refine startBus_steady ?_
      · refine steady_foldl (fun t2 x3 h4 => ?_) ?_
        · exact addJob_steady h4
        · exact h0

theorem execPmbusPoll_steady {s} (h0 : Steady q s) :
    SteadyNext q (execPmbusPoll s) := by
  unfold execPmbusPoll
  refine steady_next ?_
  refine whenAlive_steady (fun t1 h0 => ?_) h0
  · refine steady_ite ?_ ?_
    · exact h0
    · refine startBus_steady ?_
      · refine steady_foldl (fun t2 x3 h4 => ?_) ?_
        · refine steady_ite ?_ ?_
          · exact h4
          · exact addJob_steady h4
        · exact h0

theorem writeBusRequest_steady {bs s} (h1 : Steady q s) :
    Steady q (writeBusRequest bs s).1 := by
  unfold writeBusRequest
  extract_lets v0 v1 v2
  try clear_value v0
  try clear_value v1
  try clear_value v2
  refine steady_ite1 ?_ ?_
  · exact refuse_steady h1
  · refine steady_ite1 ?_ ?_
    · exact refuse_steady h1
    · refine steady_ite1 ?_ ?_
      · exact refuse_steady h1
      · refine steady_ite1 ?_ ?_
        · exact refuse_steady h1
        · exact accept_steady (startBus_steady (addJob_steady (wrBlob_steady (setLio_steady h1))))

theorem startRecovery_steady {s} (h0 : Steady q s) :
    Steady q (startRecovery s) := by
  unfold startRecovery
  exact setBus_steady h0

theorem endRecovery_steady {freed s} (h1 : Steady q s) :
    Steady q (endRecovery freed s) := by
  unfold endRecovery
  extract_lets v0 v1
  have hv0 : Steady q v0 := setBus_steady h1
  try clear_value v0
  have hv1 : Steady q v1 := by
    refine steady_ite ?_ ?_
    · exact emit_steady (setBus_steady hv0)
    · exact hv0
  try clear_value v1
  refine steady_ite ?_ ?_
  · exact startBus_steady hv1
  · exact emit_steady (count_steady (setBus_steady hv0))

theorem lioCommit_steady {old s} (_h0 : Steady q old) (h1 : Steady q s) :
    Steady q (lioCommit old s) := by
  unfold lioCommit
  extract_lets v0 v1 v2
  have hv1 : Steady q v1 := setLio_steady h1
  try clear_value v1
  have hv2 : Steady q v2 := gpioDirections_steady (showSar_steady (pwmStates_steady hv1))
  try clear_value v2
  refine startBus_steady ?_
  · refine steady_foldl (fun t3 x4 h5 => ?_) ?_
    · exact addJob_steady h5
    · exact hv2

end Sys2Proof.Machine
end

