-- ==== Sys2Proof/Laws/SteadyBreakwater.lean ====
section
/-! SUPPORT. Every operation of Machine/Breakwater.lean keeps the stores canonical and the queue as it is. -/

namespace Sys2Proof.Machine

variable {q : List Instr}

theorem setBw_steady {f s} (h1 : Steady q s) :
    Steady q (setBw f s) := by
  unfold setBw
  exact Steady.same h1 rfl

theorem setPair_steady {i f s} (h2 : Steady q s) :
    Steady q (setPair i f s) := by
  unfold setPair
  exact setBw_steady h2

theorem driveOutputs_steady {s} (h0 : Steady q s) :
    Steady q (driveOutputs s) := by
  unfold driveOutputs
  extract_lets v0 v1 v2 v3
  try clear_value v0
  try clear_value v1
  try clear_value v2
  have hv3 : Steady q v3 := by
    unfold v3
    refine steady_foldl (fun t4 x5 h6 => ?_) ?_
    · refine steady_ite ?_ ?_
      · exact h6
      · exact send_steady h6
    · exact h0
  try clear_value v3
  exact setBw_steady hv3

theorem showOutputs_steady {s} (h0 : Steady q s) :
    Steady q (showOutputs s) := by
  unfold showOutputs
  refine steady_foldl (fun t0 x1 h2 => ?_) ?_
  · exact wr_steady h2
  · exact h0

theorem showBw_steady {s} (h0 : Steady q s) :
    Steady q (showBw s) := by
  unfold showBw
  extract_lets v0 v1 v2 v3 v4 v5 v6
  have hv0 : Steady q v0 := driveOutputs_steady h0
  try clear_value v0
  try clear_value v1
  try clear_value v2
  try clear_value v3
  have hv4 : Steady q v4 := wrs_steady hv0
  try clear_value v4
  have hv5 : Steady q v5 := by
    unfold v5
    refine steady_foldl (fun t7 x8 h9 => ?_) ?_
    · exact wr_steady h9
    · exact showOutputs_steady hv4
  try clear_value v5
  have hv6 : Steady q v6 := by
    refine steady_ite ?_ ?_
    · exact lapseRequest_steady hv5
    · exact hv5
  try clear_value v6
  refine steady_ite ?_ ?_
  · exact hv6
  · exact notifyAll_steady hv6

theorem blockSet_steady {d s} (h1 : Steady q s) :
    Steady q (blockSet d s) := by
  unfold blockSet
  extract_lets v0
  have hv0 : Steady q v0 := sendSet_steady h1
  try clear_value v0
  refine steady_ite ?_ ?_
  · exact hv0
  · exact setDrove_steady hv0

theorem blockSets_steady {s} (h0 : Steady q s) :
    Steady q (blockSets s) := by
  unfold blockSets
  refine steady_ite ?_ ?_
  · exact h0
  · extract_lets v0 v1
    try clear_value v0
    have hv1 : Steady q v1 := by
      unfold v1
      refine steady_foldl (fun t2 x3 h4 => ?_) ?_
      · exact blockSet_steady h4
      · exact h0
    try clear_value v1
    refine steady_ite ?_ ?_
    · exact hv1
    · exact setBw_steady hv1

theorem forgetEchoes_steady {s} (h0 : Steady q s) : Steady q (forgetEchoes s) := by
  unfold forgetEchoes
  extract_lets forget
  exact ⟨{ h0.canonical with droves := Tbl.wf_mapAll _ _ h0.canonical.droves }, h0.pending⟩

theorem releaseSets_steady {n s} (h1 : Steady q s) :
    Steady q (releaseSets n s) := by
  unfold releaseSets
  refine steady_ite ?_ ?_
  · exact h1
  · refine steady_foldl (fun t0 x1 h2 => ?_) ?_
    · exact sendSet_steady h2
    · exact h1

theorem demandStation_steady {s} (h0 : Steady q s) :
    Steady q (demandStation s) := by
  unfold demandStation
  extract_lets v0 v1
  try clear_value v0
  have hv1 : Steady q v1 := by
    refine steady_ite ?_ ?_
    · exact schedule_steady h0
    · exact h0
  try clear_value v1
  refine steady_ite ?_ ?_
  · exact schedule_steady hv1
  · exact hv1

theorem carryOut_steady {n inst s} (h2 : Steady q s) :
    Steady q (carryOut n inst s) := by
  unfold carryOut
  extract_lets v0 v1 v2
  try clear_value v0
  have hv1 : Steady q v1 := setBw_steady (countBy_steady h2)
  try clear_value v1
  have hv2 : Steady q v2 := by
    refine blockSets_steady ?_
    · refine steady_ite ?_ ?_
      · exact forgetEchoes_steady hv1
      · exact hv1
  try clear_value v2
  exact demandStation_steady (emit_steady hv2)

theorem bwActs_steady {inst f s} (hf1 : ∀ y0, Steady q y0 → Steady q (f y0)) (h2 : Steady q s) :
    Steady q (bwActs inst f s) := by
  unfold bwActs
  extract_lets v0 v1 v2 v3 v4 v5
  try clear_value v0
  have hv1 : Steady q v1 := by
    unfold v1
    exact hf1 _ (h2)
  try clear_value v1
  try clear_value v2
  try clear_value v3
  have hv4 : Steady q v4 := by
    unfold v4
    refine steady_foldl (fun t6 x7 h8 => ?_) ?_
    · refine steady_ite ?_ ?_
      · exact count_steady h8
      · exact h8
    · exact hv1
  try clear_value v4
  have hv5 : Steady q v5 := by
    refine steady_ite ?_ ?_
    · exact wakeNow_steady hv4
    · exact hv4
  try clear_value v5
  refine showBw_steady ?_
  · refine steady_ite ?_ ?_
    · exact hv5
    · exact carryOut_steady hv5

theorem bwAct_steady {f s} (hf0 : ∀ y0, Steady q y0 → Steady q (f y0)) (h1 : Steady q s) :
    Steady q (bwAct f s) := by
  unfold bwAct
  exact bwActs_steady (fun t1 h0 => hf0 _ (h0)) h1

theorem execBlockRelease_steady {s} (h0 : Steady q s) :
    SteadyNext q (execBlockRelease s) := by
  unfold execBlockRelease
  refine steady_next ?_
  refine whenAlive_steady (fun t1 h0 => ?_) h0
  · refine steady_ite ?_ ?_
    · extract_lets v2
      try clear_value v2
      exact showBw_steady (releaseSets_steady (forgetEchoes_steady (setBw_steady h0)))
    · exact h0

theorem execPeriodicRelease_steady {s} (h0 : Steady q s) :
    SteadyNext q (execPeriodicRelease s) := by
  unfold execPeriodicRelease
  refine steady_next ?_
  refine whenAlive_steady (fun t1 h0 => ?_) h0
  · refine steady_ite ?_ ?_
    · exact h0
    · exact releaseSets_steady h0

theorem execBlockSetRepeat_steady {s} (h0 : Steady q s) :
    SteadyNext q (execBlockSetRepeat s) := by
  unfold execBlockSetRepeat
  refine steady_next ?_
  refine whenAlive_steady (fun t1 h0 => ?_) h0
  · refine steady_ite ?_ ?_
    · exact blockSets_steady h0
    · exact h0

theorem echoMissed_steady {d s} (h1 : Steady q s) :
    Steady q (echoMissed d s) := by
  unfold echoMissed
  extract_lets v0 v1 v2
  have hv0 : Steady q v0 := setDrove_steady h1
  try clear_value v0
  have hv1 : Steady q v1 := count_steady (wr_steady hv0)
  try clear_value v1
  have hv2 : Steady q v2 := emit_steady hv1
  try clear_value v2
  refine bwAct_steady (fun t4 h3 => ?_) hv2
  · refine steady_ite ?_ ?_
    · exact setBw_steady h3
    · exact h3

theorem execBlockEchoArrival_steady {d interval s} (h2 : Steady q s) :
    SteadyNext q (execBlockEchoArrival d interval s) := by
  unfold execBlockEchoArrival
  refine steady_next ?_
  refine whenAlive_steady (fun t1 h0 => ?_) h2
  · refine steady_ite ?_ ?_
    · exact h0
    · extract_lets v2
      have hv2 : Steady q v2 := wr_steady h0
      try clear_value v2
      refine steady_ite ?_ ?_
      · exact echoMissed_steady hv2
      · exact setDrove_steady hv2

theorem execEchoLimitExpiry_steady {d s} (h1 : Steady q s) :
    SteadyNext q (execEchoLimitExpiry d s) := by
  unfold execEchoLimitExpiry
  refine steady_next ?_
  refine whenAlive_steady (fun t1 h0 => ?_) h1
  · split
    · exact h0
    · exact echoMissed_steady (runTo_steady h0)

theorem channelTrip_steady {s} (h0 : Steady q s) :
    Steady q (channelTrip s) := by
  unfold channelTrip
  exact setBw_steady h0

theorem faultReaction_steady {fallen second s} (h2 : Steady q s) :
    Steady q (faultReaction fallen second s) := by
  unfold faultReaction
  refine steady_ite ?_ ?_
  · exact channelTrip_steady h2
  · refine steady_ite ?_ ?_
    · extract_lets v0
      have hv0 : Steady q v0 := setBw_steady (count_steady h2)
      try clear_value v0
      exact emit_steady (wr_steady hv0)
    · exact channelTrip_steady h2

theorem channelFault_steady {code fallen s} (h2 : Steady q s) :
    Steady q (channelFault code fallen s) := by
  unfold channelFault
  extract_lets v0 v1 v2 v3 v4
  try clear_value v0
  try clear_value v1
  try clear_value v2
  have hv3 : Steady q v3 := wr_steady (count_steady h2)
  try clear_value v3
  have hv4 : Steady q v4 := emit_steady hv3
  try clear_value v4
  refine steady_ite ?_ ?_
  · exact h2
  · refine bwAct_steady (fun t6 h5 => ?_) hv4
    · extract_lets v7
      have hv7 : Steady q v7 := setBw_steady h5
      try clear_value v7
      refine steady_ite ?_ ?_
      · exact hv7
      · exact faultReaction_steady hv7

theorem lineFault_steady {s} (h0 : Steady q s) :
    Steady q (lineFault s) := by
  unfold lineFault
  exact bwAct_steady (fun t1 h0 => setBw_steady h0) (wr_steady h0)

theorem execChannelFault_steady {code fallen s} (h2 : Steady q s) :
    SteadyNext q (execChannelFault code fallen s) := by
  unfold execChannelFault
  refine steady_next ?_
  exact whenAlive_steady (fun t1 h0 => channelFault_steady h0) h2

theorem disagreement_steady {s} (h0 : Steady q s) :
    Steady q (disagreement s) := by
  unfold disagreement
  extract_lets v0 v1 v2
  have hv0 : Steady q v0 := count_steady h0
  try clear_value v0
  try clear_value v1
  have hv2 : Steady q v2 := setBw_steady hv0
  try clear_value v2
  refine steady_ite ?_ ?_
  · exact channelFault_steady hv2
  · exact hv2

theorem execChannelDiagnosticCheck_steady {code bad s} (h2 : Steady q s) :
    SteadyNext q (execChannelDiagnosticCheck code bad s) := by
  unfold execChannelDiagnosticCheck
  refine steady_next ?_
  refine whenAlive_steady (fun t1 h0 => ?_) h2
  · refine steady_ite ?_ ?_
    · exact h0
    · refine steady_ite ?_ ?_
      · exact h0
      · refine steady_ite ?_ ?_
        · exact disagreement_steady h0
        · refine steady_ite ?_ ?_
          · exact lineFault_steady h0
          · exact channelFault_steady h0

theorem execAliveMonitorExpiry_steady {s} (h0 : Steady q s) :
    SteadyNext q (execAliveMonitorExpiry s) := by
  unfold execAliveMonitorExpiry
  refine steady_next ?_
  exact whenAlive_steady (fun t1 h0 => channelFault_steady h0) h0

theorem execDegradedTimeExpiry_steady {s} (h0 : Steady q s) :
    SteadyNext q (execDegradedTimeExpiry s) := by
  unfold execDegradedTimeExpiry
  refine steady_next ?_
  refine whenAlive_steady (fun t1 h0 => ?_) h0
  · refine steady_ite ?_ ?_
    · extract_lets v2
      have hv2 : Steady q v2 := emit_steady (wr_steady h0)
      try clear_value v2
      exact bwAct_steady (fun t4 h3 => setBw_steady (channelTrip_steady h3)) hv2
    · exact h0

theorem execBreakwaterDemand_steady {cause dead s} (h2 : Steady q s) :
    SteadyNext q (execBreakwaterDemand cause dead s) := by
  unfold execBreakwaterDemand
  refine steady_next ?_
  refine whenAlive_steady (fun t1 h0 => ?_) h2
  · extract_lets v2
    have hv2 : Steady q v2 := by
      refine bwAct_steady (fun t4 h3 => ?_) h0
      · split
        · extract_lets v7
          try clear_value v7
          exact setBw_steady h3
        · extract_lets v10
          try clear_value v10
          exact setBw_steady h3
        · exact setBw_steady h3
        · exact setBw_steady h3
        · exact setBw_steady h3
        · exact setBw_steady h3
        · exact setBw_steady h3
        · exact setBw_steady h3
        · exact h3
    try clear_value v2
    refine steady_ite ?_ ?_
    · exact lineFault_steady hv2
    · exact hv2

theorem followPair_steady {i oldA oldB glitch s} (h4 : Steady q s) :
    Steady q (followPair i oldA oldB glitch s) := by
  unfold followPair
  extract_lets v0 v1 v2 v3 v4 v5
  try clear_value v0
  try clear_value v1
  try clear_value v2
  try clear_value v3
  try clear_value v4
  try clear_value v5
  exact setPair_steady h4

theorem execSafetyInputChange_steady {pair a b glitch s} (h4 : Steady q s) :
    SteadyNext q (execSafetyInputChange pair a b glitch s) := by
  unfold execSafetyInputChange
  refine steady_next ?_
  refine steady_ite ?_ ?_
  · exact h4
  · extract_lets v0 v1 v2
    try clear_value v0
    try clear_value v1
    refine steady_ite ?_ ?_
    · refine bwAct_steady (fun t4 h3 => ?_) h4
      · refine followPair_steady ?_
        · unfold v2
          exact setPair_steady h3
    · unfold v2
      exact setPair_steady h4

theorem execSinDiscrepancyExpiry_steady {pair s} (h1 : Steady q s) :
    SteadyNext q (execSinDiscrepancyExpiry pair s) := by
  unfold execSinDiscrepancyExpiry
  refine steady_next ?_
  refine whenAlive_steady (fun t1 h0 => ?_) h1
  · split
    · exact h0
    · extract_lets v7 v8
      have hv7 : Steady q v7 := runTo_steady h0
      try clear_value v7
      have hv8 : Steady q v8 := emit_steady (count_steady hv7)
      try clear_value v8
      exact bwAct_steady (fun t10 h9 => setPair_steady h9) hv8

theorem clearLatches_steady {s} (h0 : Steady q s) :
    Steady q (clearLatches s) := by
  unfold clearLatches
  extract_lets v0 v1 v2 v3
  try clear_value v0
  try clear_value v1
  try clear_value v2
  try clear_value v3
  exact setBw_steady h0

theorem bwReset_steady {s} (h0 : Steady q s) :
    Steady q (bwReset s) := by
  unfold bwReset
  extract_lets v0 v1
  have hv0 : Steady q v0 := bwAct_steady (fun t3 h2 => clearLatches_steady h2) (wr_steady h0)
  try clear_value v0
  have hv1 : Steady q v1 := setBw_steady (count_steady hv0)
  try clear_value v1
  exact emit_steady hv1

theorem execResetPress_steady {pair s} (h1 : Steady q s) :
    SteadyNext q (execResetPress pair s) := by
  unfold execResetPress
  refine steady_next ?_
  refine whenAlive_steady (fun t1 h0 => ?_) h1
  · extract_lets v2 v3
    try clear_value v2
    have hv3 : Steady q v3 := setPair_steady h0
    try clear_value v3
    split
    · exact h0
    · refine steady_ite ?_ ?_
      · exact bwReset_steady hv3
      · exact hv3

theorem writeSessionReset_steady {v s} (h1 : Steady q s) :
    Steady q (writeSessionReset v s).1 := by
  unfold writeSessionReset
  refine steady_ite1 ?_ ?_
  · exact refuse_steady h1
  · refine steady_ite1 ?_ ?_
    · exact refuse_steady h1
    · exact accept_steady (bwReset_steady h1)

theorem writeSafetyReset_steady {v s} (h1 : Steady q s) :
    Steady q (writeSafetyReset v s).1 := by
  unfold writeSafetyReset
  refine steady_ite1 ?_ ?_
  · exact refuse_steady h1
  · exact writeSessionReset_steady h1

theorem writeTripRelease_steady {v s} (h1 : Steady q s) :
    Steady q (writeTripRelease v s).1 := by
  unfold writeTripRelease
  refine steady_ite1 ?_ ?_
  · exact refuse_steady h1
  · refine steady_ite1 ?_ ?_
    · exact refuse_steady h1
    · refine steady_ite1 ?_ ?_
      · exact refuse_steady h1
      · exact accept_steady (showBw_steady (setBw_steady h1))

theorem writeSafetyDemand_steady {v s} (h1 : Steady q s) :
    Steady q (writeSafetyDemand v s).1 := by
  unfold writeSafetyDemand
  refine steady_ite1 ?_ ?_
  · exact refuse_steady h1
  · exact accept_steady (bwAct_steady (fun t1 h0 => setBw_steady (wr_steady h0)) h1)

theorem startSelfTest_steady {s} (h0 : Steady q s) :
    Steady q (startSelfTest s) := by
  unfold startSelfTest
  exact showBw_steady (setBw_steady (wrs_steady h0))

theorem writeSelfTest_steady {v s} (h1 : Steady q s) :
    Steady q (writeSelfTest v s).1 := by
  unfold writeSelfTest
  refine steady_ite1 ?_ ?_
  · exact refuse_steady h1
  · refine steady_ite1 ?_ ?_
    · exact refuse_steady h1
    · exact accept_steady (startSelfTest_steady h1)

theorem showConfirm_steady {s} (h0 : Steady q s) :
    Steady q (showConfirm s) := by
  unfold showConfirm
  extract_lets v0 v1
  try clear_value v0
  have hv1 : Steady q v1 := wr_steady h0
  try clear_value v1
  exact showBw_steady (wr_steady hv1)

theorem writeConfirm_steady {v s} (h1 : Steady q s) :
    Steady q (writeConfirm v s).1 := by
  unfold writeConfirm
  refine steady_ite1 ?_ ?_
  · exact refuse_steady h1
  · extract_lets v0
    have hv0 : Steady q v0 := wrs_steady h1
    try clear_value v0
    exact accept_steady (showBw_steady (emit_steady hv0))

theorem execBreakwaterSelftestEnd_steady {code s} (h1 : Steady q s) :
    SteadyNext q (execBreakwaterSelftestEnd code s) := by
  unfold execBreakwaterSelftestEnd
  refine steady_next ?_
  refine whenAlive_steady (fun t1 h0 => ?_) h1
  · refine steady_ite ?_ ?_
    · exact h0
    · extract_lets v2 v3 v4 v5
      have hv2 : Steady q v2 := wrs_steady h0
      try clear_value v2
      have hv3 : Steady q v3 := wrs_steady hv2
      try clear_value v3
      have hv4 : Steady q v4 := setBw_steady hv3
      try clear_value v4
      try clear_value v5
      refine steady_ite ?_ ?_
      · exact showBw_steady (setBw_steady hv4)
      · refine steady_ite ?_ ?_
        · exact lineFault_steady hv2
        · exact channelFault_steady hv2

theorem readbackFault_steady {o s} (h1 : Steady q s) :
    Steady q (readbackFault o s) := by
  unfold readbackFault
  extract_lets v0
  have hv0 : Steady q v0 := setBw_steady (count_steady h1)
  try clear_value v0
  exact channelFault_steady (showOutputs_steady hv0)

theorem execTestPulse_steady {output ok s} (h2 : Steady q s) :
    SteadyNext q (execTestPulse output ok s) := by
  unfold execTestPulse
  refine steady_next ?_
  refine whenAlive_steady (fun t1 h0 => ?_) h2
  · refine steady_ite ?_ ?_
    · extract_lets v2 v3
      have hv2 : Steady q v2 := setBw_steady h0
      try clear_value v2
      have hv3 : Steady q v3 := send_steady hv2
      try clear_value v3
      refine steady_ite ?_ ?_
      · exact hv3
      · exact readbackFault_steady hv3
    · exact h0

theorem execTripReadbackChange_steady {output level s} (h2 : Steady q s) :
    SteadyNext q (execTripReadbackChange output level s) := by
  unfold execTripReadbackChange
  refine steady_next ?_
  refine steady_ite ?_ ?_
  · exact h2
  · extract_lets v0
    have hv0 : Steady q v0 := setBw_steady h2
    try clear_value v0
    refine whenAlive_steady (fun t2 h1 => ?_) hv0
    · refine steady_ite ?_ ?_
      · exact readbackFault_steady h1
      · exact showOutputs_steady h1

theorem setCmp_steady {c f s} (h2 : Steady q s) :
    Steady q (setCmp c f s) := by
  unfold setCmp
  exact setLio_steady h2

theorem cmpEvent_steady {c s} (h1 : Steady q s) :
    Steady q (cmpEvent c s) := by
  unfold cmpEvent
  extract_lets v0
  try clear_value v0
  refine steady_ite ?_ ?_
  · exact emit_steady (setCmp_steady h1)
  · exact h1

theorem fastPaths_steady {c s} (h1 : Steady q s) :
    Steady q (fastPaths c s) := by
  unfold fastPaths
  extract_lets v0
  try clear_value v0
  refine steady_ite ?_ ?_
  · exact h1
  · refine bwActs_steady (fun t2 h1 => ?_) h1
    · extract_lets v3 v4 v5
      try clear_value v3
      try clear_value v4
      have hv5 : Steady q v5 := by
        refine steady_ite ?_ ?_
        · exact setBw_steady h1
        · exact h1
      try clear_value v5
      refine steady_ite ?_ ?_
      · exact setBw_steady hv5
      · exact hv5

theorem cmpOutput_steady {c outside s} (h2 : Steady q s) :
    Steady q (cmpOutput c outside s) := by
  unfold cmpOutput
  extract_lets v0 v1 v2
  try clear_value v0
  have hv1 : Steady q v1 := wr_steady h2
  try clear_value v1
  have hv2 : Steady q v2 := by
    refine steady_ite ?_ ?_
    · exact hv1
    · exact cmpEvent_steady (count_steady (wr_steady hv1))
  try clear_value v2
  refine steady_ite ?_ ?_
  · exact fastPaths_steady hv2
  · exact hv1

theorem execComparatorChange_steady {c outside s} (h2 : Steady q s) :
    SteadyNext q (execComparatorChange c outside s) := by
  unfold execComparatorChange
  refine steady_next ?_
  refine steady_ite ?_ ?_
  · exact h2
  · extract_lets v0
    have hv0 : Steady q v0 := setCmp_steady h2
    try clear_value v0
    refine whenAlive_steady (fun t2 h1 => ?_) hv0
    · refine steady_ite ?_ ?_
      · exact h1
      · exact cmpOutput_steady h1

theorem execBlankingStart_steady {c s} (h1 : Steady q s) :
    SteadyNext q (execBlankingStart c s) := by
  unfold execBlankingStart
  refine steady_next ?_
  refine whenAlive_steady (fun t1 h0 => ?_) h1
  · refine steady_ite ?_ ?_
    · exact setCmp_steady h0
    · exact h0

theorem execBlankingEnd_steady {c outside s} (h2 : Steady q s) :
    SteadyNext q (execBlankingEnd c outside s) := by
  unfold execBlankingEnd
  refine steady_next ?_
  refine whenAlive_steady (fun t1 h0 => ?_) h2
  · refine steady_ite ?_ ?_
    · extract_lets v2
      have hv2 : Steady q v2 := setCmp_steady h0
      try clear_value v2
      refine steady_ite ?_ ?_
      · exact cmpOutput_steady hv2
      · exact hv2
    · exact h0

theorem clearFlags_steady {mask s} (h1 : Steady q s) :
    Steady q (clearFlags mask s) := by
  unfold clearFlags
  exact wr_steady h1

theorem writeCmpClear_steady {v s} (h1 : Steady q s) :
    Steady q (writeCmpClear v s).1 := by
  unfold writeCmpClear
  extract_lets v0
  try clear_value v0
  exact accept_steady (clearFlags_steady h1)

theorem cmpTide_steady {s} (h0 : Steady q s) :
    Steady q (cmpTide s) := by
  unfold cmpTide
  exact clearFlags_steady h0

theorem cmpPeriod_steady {q' s} (h1 : Steady q s) :
    Steady q (cmpPeriod q' s) := by
  unfold cmpPeriod
  exact clearFlags_steady h1

theorem execPwmValley_steady {q' correction s} (h2 : Steady q s) :
    SteadyNext q (execPwmValley q' correction s) := by
  unfold execPwmValley
  refine steady_next ?_
  refine whenAlive_steady (fun t1 h0 => ?_) h2
  · refine steady_ite ?_ ?_
    · exact cmpPeriod_steady (pwmValley_steady h0)
    · exact h0

theorem showStandIns_steady {s} (h0 : Steady q s) :
    Steady q (showStandIns s) := by
  unfold showStandIns
  extract_lets v0 v1 v2
  try clear_value v0
  try clear_value v2
  exact wrs_steady h0

theorem judgeFast_steady {f s} (h1 : Steady q s) :
    Steady q (judgeFast f s) := by
  unfold judgeFast
  exact showStandIns_steady (bwAct_steady (fun t1 h0 => setBw_steady h0) h1)

theorem execFastPathTest_steady {c result s} (h2 : Steady q s) :
    SteadyNext q (execFastPathTest c result s) := by
  unfold execFastPathTest
  refine steady_next ?_
  refine whenAlive_steady (fun t1 h0 => ?_) h2
  · refine steady_ite ?_ ?_
    · refine steady_ite ?_ ?_
      · exact h0
      · extract_lets v2 v3
        have hv2 : Steady q v2 := setBw_steady h0
        try clear_value v2
        have hv3 : Steady q v3 := count_steady (countBy_steady hv2)
        try clear_value v3
        split
        · exact judgeFast_steady hv2
        · refine steady_ite ?_ ?_
          · exact hv2
          · refine steady_ite ?_ ?_
            · exact judgeFast_steady (countBy_steady hv2)
            · refine steady_ite ?_ ?_
              · exact judgeFast_steady (emit_steady hv3)
              · exact hv2
    · refine steady_ite ?_ ?_
      · extract_lets v9
        have hv9 : Steady q v9 := countBy_steady h0
        try clear_value v9
        refine steady_ite ?_ ?_
        · exact judgeFast_steady hv9
        · exact hv9
      · exact h0

theorem heartbeatWord_steady {tide mask code s} (h3 : Steady q s) :
    Steady q (heartbeatWord tide mask code s) := by
  unfold heartbeatWord
  refine steady_ite ?_ ?_
  · exact h3
  · refine steady_ite ?_ ?_
    · exact setBw_steady h3
    · refine steady_ite ?_ ?_
      · exact setBw_steady h3
      · exact h3

theorem execHeartbeatWindowClose_steady {s} (h0 : Steady q s) :
    SteadyNext q (execHeartbeatWindowClose s) := by
  unfold execHeartbeatWindowClose
  refine steady_next ?_
  refine whenAlive_steady (fun t1 h0 => ?_) h0
  · refine steady_ite ?_ ?_
    · exact h0
    · extract_lets v2 v3
      try clear_value v2
      have hv3 : Steady q v3 := emit_steady (count_steady h0)
      try clear_value v3
      refine steady_ite ?_ ?_
      · exact setBw_steady h0
      · exact bwAct_steady (fun t5 h4 => setBw_steady h4) hv3

theorem bwTide_steady {s} (h0 : Steady q s) :
    Steady q (bwTide s) := by
  unfold bwTide
  refine steady_ite ?_ ?_
  · exact h0
  · extract_lets v0 v1 v2 v3 v4
    try clear_value v0
    try clear_value v1
    have hv2 : Steady q v2 := by
      refine steady_ite ?_ ?_
      · exact h0
      · exact setBw_steady h0
    try clear_value v2
    have hv3 : Steady q v3 := by
      refine steady_ite ?_ ?_
      · exact bwAct_steady (fun t6 h5 => channelTrip_steady h5) hv2
      · refine steady_ite ?_ ?_
        · exact wr_steady hv2
        · exact hv2
    try clear_value v3
    have hv4 : Steady q v4 := by
      unfold v4
      split
      · refine steady_ite ?_ ?_
        · exact setBw_steady hv3
        · exact releaseSets_steady hv3
      · exact hv3
    try clear_value v4
    exact showBw_steady (demandStation_steady hv4)

theorem bwRenumber_steady {s} (h0 : Steady q s) :
    Steady q (bwRenumber s) := by
  unfold bwRenumber
  refine steady_ite ?_ ?_
  · exact setBw_steady h0
  · exact h0

theorem bwCommit_steady {s} (h0 : Steady q s) :
    Steady q (bwCommit s) := by
  unfold bwCommit
  extract_lets v0 v1
  have hv0 : Steady q v0 := by
    unfold v0
    refine steady_foldl (fun t2 x3 h4 => ?_) ?_
    · refine steady_ite ?_ ?_
      · refine steady_ite ?_ ?_
        · exact h4
        · exact cmpOutput_steady h4
      · exact wr_steady (setCmp_steady h4)
    · exact h0
  try clear_value v0
  have hv1 : Steady q v1 := by
    refine bwAct_steady (fun t6 h5 => ?_) hv0
    · refine steady_foldl (fun t7 x8 h9 => ?_) ?_
      · exact followPair_steady h9
      · exact h5
  try clear_value v1
  exact showConfirm_steady hv1

end Sys2Proof.Machine
end

