-- ==== Sys2Proof/Laws/SteadySolar.lean ====
section
/-! SUPPORT. Every operation of Machine/Solar.lean keeps the stores canonical and the queue as it is. -/

namespace Sys2Proof.Machine

variable {q : List Instr}

theorem setSolar_steady {L f s} (h2 : Steady q s) : Steady q (setSolar L f s) :=
  ⟨{ h2.canonical with solar := Tbl.wf_modify _ _ _ h2.canonical.solar }, h2.pending⟩

/-- A change of the solar unit beside its leaves. -/
theorem setUnit_steady {f s} (h1 : Steady q s) (hf : ∀ u, (f u).leaves = u.leaves := by intro u; rfl) :
    Steady q (setUnit f s) :=
  Steady.same h1 (by simp only [State.stores, setUnit, hf])

theorem deliver_steady {L s} (h1 : Steady q s) :
    Steady q (deliver L s) := by
  unfold deliver
  extract_lets v0 v1 v2 v3
  try clear_value v0
  have hv1 : Steady q v1 := by
    refine steady_ite ?_ ?_
    · exact h1
    · exact setSolar_steady h1
  try clear_value v1
  try clear_value v2
  exact wrs_steady hv1

theorem gatherSolar_steady {n L s} (h2 : Steady q s) :
    Steady q (gatherSolar n L s) := by
  unfold gatherSolar
  extract_lets v0 v1 v2 v3 v4 v5
  try clear_value v0
  try clear_value v1
  try clear_value v2
  try clear_value v3
  try clear_value v4
  try clear_value v5
  exact setSolar_steady h2

theorem pandoEnd_steady {L s} (h1 : Steady q s) :
    Steady q (pandoEnd L s) := by
  unfold pandoEnd
  extract_lets v0 v1 v2 v3 v4 v5
  try clear_value v0
  try clear_value v1
  try clear_value v2
  have hv3 : Steady q v3 := setSolar_steady h1
  try clear_value v3
  try clear_value v4
  try clear_value v5
  refine steady_ite ?_ ?_
  · exact count_steady h1
  · refine steady_ite ?_ ?_
    · refine steady_ite ?_ ?_
      · exact countBy_steady hv3
      · exact hv3
    · refine steady_ite ?_ ?_
      · exact setSolar_steady h1
      · exact h1

theorem publishSolar_steady {n a s} (h2 : Steady q s) :
    Steady q (publishSolar n a s) := by
  unfold publishSolar
  extract_lets v0
  try clear_value v0
  exact wrs_steady h2

theorem showCounts_steady {a s} (h1 : Steady q s) :
    Steady q (showCounts a s) := by
  unfold showCounts
  extract_lets v0
  exact wrs_steady h1

theorem present_steady {L s} (h1 : Steady q s) :
    Steady q (present L s) := by
  unfold present
  exact showCounts_steady (deliver_steady h1)

theorem presentArm_steady {a s} (h1 : Steady q s) :
    Steady q (presentArm a s) := by
  unfold presentArm
  refine showCounts_steady ?_
  · refine steady_foldl (fun t0 x1 h2 => ?_) ?_
    · exact deliver_steady h2
    · exact h1

theorem abandonScan_steady {L s} (h1 : Steady q s) :
    Steady q (abandonScan L s) := by
  unfold abandonScan
  split
  · exact h1
  · exact count_steady (setSolar_steady h1)

theorem startScan_steady {L s} (h1 : Steady q s) :
    Steady q (startScan L s) := by
  unfold startScan
  extract_lets v0
  have hv0 : Steady q v0 := setSolar_steady h1
  try clear_value v0
  exact deliver_steady (wr_steady hv0)

theorem startScans_steady {a n s} (h : Steady q s) : Steady q (startScans a n s) := by
  induction n generalizing s with
  | zero => exact h
  | succ n ih =>
    unfold startScans
    extract_lets ls busy
    refine steady_ite h ?_
    split
    · exact h
    · exact ih (startScan_steady h)

theorem scanDue_steady {L t s} (h2 : Steady q s) :
    Steady q (scanDue L t s) := by
  unfold scanDue
  extract_lets v0 v1
  have hv0 : Steady q v0 := setSolar_steady h2
  try clear_value v0
  have hv1 : Steady q v1 := presentArm_steady (startScans_steady hv0)
  try clear_value v1
  refine steady_ite ?_ ?_
  · exact count_steady (setSolar_steady hv1)
  · exact hv1

theorem execScanDue_steady {leaf s} (h1 : Steady q s) :
    SteadyNext q (execScanDue leaf s) := by
  unfold execScanDue
  refine steady_next ?_
  refine whenAlive_steady (fun t1 h0 => ?_) h1
  · split
    · refine steady_ite ?_ ?_
      · exact scanDue_steady (runTo_steady h0)
      · exact h0
    · exact h0

theorem endScan_steady {L s} (h1 : Steady q s) :
    Steady q (endScan L s) := by
  unfold endScan
  extract_lets v0 v1 v2 v3 v4 v5
  try clear_value v0
  try clear_value v1
  try clear_value v2
  try clear_value v3
  have hv4 : Steady q v4 := wr_steady (count_steady h1)
  try clear_value v4
  have hv5 : Steady q v5 := by
    refine steady_ite ?_ ?_
    · exact count_steady hv4
    · exact hv4
  try clear_value v5
  exact setSolar_steady hv5

theorem execScanPointEnd_steady {leaf s} (h1 : Steady q s) :
    SteadyNext q (execScanPointEnd leaf s) := by
  unfold execScanPointEnd
  refine steady_next ?_
  refine whenAlive_steady (fun t1 h0 => ?_) h1
  · extract_lets v2 v3 v4 v5 v6
    try clear_value v2
    try clear_value v3
    try clear_value v4
    try clear_value v5
    have hv6 : Steady q v6 := setSolar_steady h0
    try clear_value v6
    split
    · refine steady_ite ?_ ?_
      · exact h0
      · refine present_steady ?_
        · refine steady_ite ?_ ?_
          · exact setSolar_steady hv6
          · exact endScan_steady hv6
    · exact h0

theorem dropScan_steady {L row s} (h2 : Steady q s) :
    Steady q (dropScan L row s) := by
  unfold dropScan
  extract_lets v0 v1
  try clear_value v0
  have hv1 : Steady q v1 := by
    refine steady_ite ?_ ?_
    · exact abandonScan_steady h2
    · exact h2
  try clear_value v1
  refine steady_ite ?_ ?_
  · exact setSolar_steady hv1
  · exact hv1

theorem solarState_steady {a L rho s} (h3 : Steady q s) :
    Steady q (solarState a L rho s) := by
  unfold solarState
  extract_lets v0 v1 v2 v3 v4
  have hv0 : Steady q v0 := dropScan_steady h3
  try clear_value v0
  try clear_value v1
  try clear_value v2
  try clear_value v3
  refine steady_ite ?_ ?_
  · exact hv0
  · refine steady_ite ?_ ?_
    · unfold v4
      exact setSolar_steady hv0
    · refine steady_ite ?_ ?_
      · unfold v4
        exact setSolar_steady hv0
      · refine steady_ite ?_ ?_
        · unfold v4
          exact setSolar_steady hv0
        · refine steady_ite ?_ ?_
          · unfold v4
            exact setSolar_steady hv0
          · refine steady_ite ?_ ?_
            · unfold v4
              exact setSolar_steady hv0
            · refine steady_ite ?_ ?_
              · unfold v4
                exact setSolar_steady hv0
              · refine steady_ite ?_ ?_
                · unfold v4
                  exact setSolar_steady hv0
                · unfold v4
                  exact setSolar_steady hv0

theorem vocEnd_steady {L s} (h1 : Steady q s) :
    Steady q (vocEnd L s) := by
  unfold vocEnd
  extract_lets v0 v1 v2 v3 v4 v5
  try clear_value v0
  try clear_value v1
  try clear_value v2
  try clear_value v3
  try clear_value v4
  try clear_value v5
  split
  · exact h1
  · refine steady_ite ?_ ?_
    · exact h1
    · refine steady_ite ?_ ?_
      · exact count_steady (setSolar_steady h1)
      · exact present_steady (solarState_steady (setSolar_steady h1))

theorem execVocMeasurementEnd_steady {leaf s} (h1 : Steady q s) :
    SteadyNext q (execVocMeasurementEnd leaf s) := by
  unfold execVocMeasurementEnd
  refine steady_next ?_
  refine whenAlive_steady (fun t1 h0 => ?_) h1
  · refine steady_ite ?_ ?_
    · exact vocEnd_steady h0
    · exact h0

theorem makeSentinels_steady {a xs s} (h2 : Steady q s) :
    Steady q (makeSentinels a xs s) := by
  unfold makeSentinels
  extract_lets v0
  have hv0 : Steady q v0 := by
    unfold v0
    refine steady_foldl (fun t1 x2 h3 => ?_) ?_
    · exact setSolar_steady h3
    · exact h2
  try clear_value v0
  exact setUnit_steady hv0

theorem enterCurtailed_steady {a s} (h1 : Steady q s) :
    Steady q (enterCurtailed a s) := by
  unfold enterCurtailed
  extract_lets v0 v1 v2
  have hv0 : Steady q v0 := wr_steady (setUnit_steady h1)
  try clear_value v0
  try clear_value v1
  have hv2 : Steady q v2 := makeSentinels_steady hv0
  try clear_value v2
  refine steady_foldl (fun t3 x4 h5 => ?_) ?_
  · exact setSolar_steady h5
  · exact hv2

theorem exitCurtailed_steady {a s} (h1 : Steady q s) :
    Steady q (exitCurtailed a s) := by
  unfold exitCurtailed
  extract_lets v0 v1
  have hv0 : Steady q v0 := wr_steady h1
  try clear_value v0
  have hv1 : Steady q v1 := by
    unfold v1
    refine steady_foldl (fun t2 x3 h4 => ?_) ?_
    · exact setSolar_steady h4
    · exact hv0
  try clear_value v1
  exact setUnit_steady hv1

theorem curtailArm_steady {a s} (h1 : Steady q s) :
    Steady q (curtailArm a s) := by
  unfold curtailArm
  extract_lets v0 v1 v2 v3
  try clear_value v0
  try clear_value v1
  try clear_value v2
  have hv3 : Steady q v3 := setUnit_steady h1
  try clear_value v3
  refine steady_ite ?_ ?_
  · refine steady_ite ?_ ?_
    · exact exitCurtailed_steady hv3
    · exact hv3
  · refine steady_ite ?_ ?_
    · exact enterCurtailed_steady h1
    · exact h1

theorem replaceSentinels_steady {a s} (h1 : Steady q s) :
    Steady q (replaceSentinels a s) := by
  unfold replaceSentinels
  extract_lets v0 v1 v2 v3
  try clear_value v0
  try clear_value v1
  have hv2 : Steady q v2 := setUnit_steady h1
  try clear_value v2
  try clear_value v3
  refine steady_ite ?_ ?_
  · exact h1
  · exact makeSentinels_steady hv2

theorem execSentinelRotateExpiry_steady {arm s} (h1 : Steady q s) :
    SteadyNext q (execSentinelRotateExpiry arm s) := by
  unfold execSentinelRotateExpiry
  refine steady_next ?_
  refine whenAlive_steady (fun t1 h0 => ?_) h1
  · refine steady_ite ?_ ?_
    · extract_lets v2 v3 v4 v5
      have hv2 : Steady q v2 := by
        unfold v2
        refine steady_foldl (fun t6 x7 h8 => ?_) ?_
        · exact setSolar_steady h8
        · exact h0
      try clear_value v2
      have hv3 : Steady q v3 := setUnit_steady hv2
      try clear_value v3
      try clear_value v4
      have hv5 : Steady q v5 := makeSentinels_steady hv3
      try clear_value v5
      exact presentArm_steady hv5
    · exact h0

theorem curtailStep_steady {a L s} (h2 : Steady q s) :
    Steady q (curtailStep a L s) := by
  unfold curtailStep
  extract_lets v0 v1 v2 v3 v4 v5 v6 v7 v8 v9
  try clear_value v0
  try clear_value v1
  try clear_value v2
  try clear_value v3
  try clear_value v4
  try clear_value v5
  try clear_value v6
  try clear_value v7
  try clear_value v8
  try clear_value v9
  exact deliver_steady (setSolar_steady h2)

theorem execCurtailStep_steady {leaf s} (h1 : Steady q s) :
    SteadyNext q (execCurtailStep leaf s) := by
  unfold execCurtailStep
  refine steady_next ?_
  refine whenAlive_steady (fun t1 h0 => ?_) h1
  · extract_lets v2 v3
    try clear_value v2
    try clear_value v3
    refine steady_ite ?_ ?_
    · refine steady_ite ?_ ?_
      · exact curtailStep_steady h0
      · exact count_steady h0
    · exact h0

theorem execScanAbandon_steady {leaf s} (h1 : Steady q s) :
    SteadyNext q (execScanAbandon leaf s) := by
  unfold execScanAbandon
  refine steady_next ?_
  refine whenAlive_steady (fun t1 h0 => ?_) h1
  · extract_lets v2 v3
    try clear_value v2
    try clear_value v3
    refine steady_ite ?_ ?_
    · exact present_steady (abandonScan_steady h0)
    · exact h0

theorem writeScanAbort_steady {v s} (h1 : Steady q s) :
    Steady q (writeScanAbort v s).1 := by
  unfold writeScanAbort
  refine steady_ite1 ?_ ?_
  · refine accept_steady ?_
    · refine steady_foldl (fun t0 x1 h2 => ?_) ?_
      · refine steady_foldl (fun t3 x4 h5 => ?_) ?_
        · exact abandonScan_steady h5
        · exact h2
      · exact h1
  · exact refuse_steady h1

theorem solarTide_steady {n s} (h1 : Steady q s) :
    Steady q (solarTide n s) := by
  unfold solarTide
  refine steady_ite ?_ ?_
  · exact h1
  · extract_lets v0 v1 v2 v3 v4 v5 v6
    try clear_value v0
    have hv1 : Steady q v1 := setUnit_steady h1
    try clear_value v1
    have hv2 : Steady q v2 := by
      unfold v2
      refine steady_foldl (fun t7 x8 h9 => ?_) ?_
      · refine steady_foldl (fun t10 x11 h12 => ?_) ?_
        · extract_lets v13 v14 v15
          have hv13 : Steady q v13 := gatherSolar_steady h12
          try clear_value v13
          try clear_value v14
          try clear_value v15
          refine steady_ite ?_ ?_
          · exact pandoEnd_steady hv13
          · exact hv13
        · exact h9
      · exact hv1
    try clear_value v2
    have hv3 : Steady q v3 := by
      unfold v3
      refine steady_foldl (fun t16 x17 h18 => ?_) ?_
      · exact publishSolar_steady h18
      · exact hv2
    try clear_value v3
    have hv4 : Steady q v4 := by
      unfold v4
      refine steady_foldl (fun t19 x20 h21 => ?_) ?_
      · exact curtailArm_steady (wrPu_steady h21)
      · exact hv3
    try clear_value v4
    have hv5 : Steady q v5 := by
      unfold v5
      refine steady_foldl (fun t22 x23 h24 => ?_) ?_
      · refine steady_foldl (fun t25 x26 h27 => ?_) ?_
        · exact solarState_steady h27
        · exact h24
      · exact hv4
    try clear_value v5
    have hv6 : Steady q v6 := by
      unfold v6
      refine steady_foldl (fun t28 x29 h30 => ?_) ?_
      · exact startScans_steady (replaceSentinels_steady h30)
      · exact hv5
    try clear_value v6
    refine steady_foldl (fun t31 x32 h33 => ?_) ?_
    · exact presentArm_steady h33
    · exact hv6

theorem solarUpset_steady {L s} (h1 : Steady q s) :
    Steady q (solarUpset L s) := by
  unfold solarUpset
  refine steady_ite ?_ ?_
  · exact h1
  · extract_lets v0
    try clear_value v0
    exact present_steady (setSolar_steady h1)

theorem solarCommit_steady {old s} (_h0 : Steady q old) (h1 : Steady q s) :
    Steady q (solarCommit old s) := by
  unfold solarCommit
  refine steady_ite ?_ ?_
  · exact h1
  · exact setUnit_steady h1

theorem solarRenumber_steady {n s} (h1 : Steady q s) : Steady q (solarRenumber n s) := by
  unfold solarRenumber
  extract_lets v0
  exact ⟨{ h1.canonical with solar := Tbl.wf_mapAll (fun _ => SolarLeaf.reset) v0 h1.canonical.solar }, h1.pending⟩

end Sys2Proof.Machine
end

