-- ==== Sys2Proof/Laws/SteadyTrace.lean ====
section
/-! SUPPORT. Every operation of Machine/Trace.lean keeps the stores canonical and the queue as it is. -/

namespace Sys2Proof.Machine

variable {q : List Instr}

theorem showTrace_steady {s} (h0 : Steady q s) :
    Steady q (showTrace s) := by
  unfold showTrace
  exact wr_steady h0

theorem traceTake_steady {n s ch} (h1 : Steady q s) :
    Steady q (traceTake n s ch) := by
  unfold traceTake
  refine steady_ite ?_ ?_
  · exact h1
  · refine steady_ite ?_ ?_
    · exact h1
    · extract_lets v0 v1
      try clear_value v0
      try clear_value v1
      exact Steady.same h1 rfl

theorem traceTide_steady {p n s} (h2 : Steady q s) :
    Steady q (traceTide p n s) := by
  unfold traceTide
  extract_lets v0 v1
  try clear_value v0
  have hv1 : Steady q v1 := by
    unfold v1
    refine steady_foldl (fun t2 x3 h4 => ?_) ?_
    · exact traceTake_steady h4
    · exact h2
  try clear_value v1
  refine steady_ite ?_ ?_
  · refine steady_ite ?_ ?_
    · exact wr_steady hv1
    · exact hv1
  · exact h2

theorem traceInputs_steady {n s} (h1 : Steady q s) :
    Steady q (traceInputs n s) := by
  unfold traceInputs
  exact traceTide_steady h1

theorem traceLoops_steady {n s} (h1 : Steady q s) :
    Steady q (traceLoops n s) := by
  unfold traceLoops
  exact traceTide_steady h1

theorem traceFire_steady {s} (h0 : Steady q s) :
    Steady q (traceFire s) := by
  unfold traceFire
  exact wrs_steady h0

theorem execTraceTrigger_steady {code s} (h1 : Steady q s) :
    SteadyNext q (execTraceTrigger code s) := by
  unfold execTraceTrigger
  refine steady_next ?_
  refine whenAlive_steady (fun t1 h0 => ?_) h1
  · refine steady_ite ?_ ?_
    · exact traceFire_steady h0
    · exact h0

theorem execTraceArmed_steady {s} (h0 : Steady q s) :
    SteadyNext q (execTraceArmed s) := by
  unfold execTraceArmed
  refine steady_next ?_
  refine whenAlive_steady (fun t1 h0 => ?_) h0
  · refine steady_ite ?_ ?_
    · exact wr_steady h0
    · exact h0

theorem writeTraceControl_steady {v s} (h1 : Steady q s) :
    Steady q (writeTraceControl v s).1 := by
  unfold writeTraceControl
  extract_lets v0 v1
  try clear_value v0
  have hv1 : Steady q v1 := wr_steady h1
  try clear_value v1
  refine steady_ite1 ?_ ?_
  · exact refuse_steady h1
  · refine steady_ite1 ?_ ?_
    · exact accept_steady (wr_steady hv1)
    · refine steady_ite1 ?_ ?_
      · refine steady_ite1 ?_ ?_
        · exact accept_steady (wr_steady (Steady.same hv1 rfl))
        · exact accept_steady hv1
      · refine steady_ite1 ?_ ?_
        · exact accept_steady (traceFire_steady hv1)
        · exact accept_steady hv1

end Sys2Proof.Machine
end

