-- ==== Sys2Proof/Laws/SteadyToken.lean ====
section
/-! SUPPORT. Every operation of Machine/Token.lean keeps the stores canonical and the queue as it is. -/

namespace Sys2Proof.Machine

variable {q : List Instr}

theorem setMaster_steady {m f s} (h2 : Steady q s) :
    Steady q (setMaster m f s) := by
  unfold setMaster
  refine steady_ite ?_ ?_
  · exact h2
  · exact Steady.same h2 rfl

theorem passToken_steady {new reason s} (h2 : Steady q s) :
    Steady q (passToken new reason s) := by
  unfold passToken
  extract_lets v0 v1 v2 v3
  try clear_value v0
  have hv1 : Steady q v1 := count_steady (wr_steady h2)
  try clear_value v1
  have hv2 : Steady q v2 := setMaster_steady hv1
  try clear_value v2
  try clear_value v3
  exact notifyMaster_steady (notifyMaster_steady hv2)

theorem loseToken_steady {s} (h0 : Steady q s) :
    Steady q (loseToken s) := by
  unfold loseToken
  extract_lets v0 v1 v2
  try clear_value v0
  have hv1 : Steady q v1 := emit_steady h0
  try clear_value v1
  try clear_value v2
  refine steady_ite ?_ ?_
  · exact h0
  · refine steady_ite ?_ ?_
    · exact passToken_steady hv1
    · exact passToken_steady hv1

theorem conflict_steady {key refused hv rv s} (h4 : Steady q s) :
    Steady q (conflict key refused hv rv s) := by
  unfold conflict
  extract_lets v0 v1 v2
  try clear_value v0
  have hv1 : Steady q v1 := setMaster_steady (count_steady h4)
  try clear_value v1
  have hv2 : Steady q v2 := emit_steady hv1
  try clear_value v2
  exact notifyMaster_steady (notifyMaster_steady hv2)

theorem refuseGoverned_steady {m key raw s} (h3 : Steady q s) :
    Steady q (refuseGoverned m key raw s).1 := by
  unfold refuseGoverned
  extract_lets v0
  have hv0 : Steady q v0 := count_steady h3
  try clear_value v0
  split
  · refine steady_ite1 ?_ ?_
    · exact steady_pair1 (conflict_steady hv0)
    · exact steady_pair1 (hv0)
  · refine steady_ite1 ?_ ?_
    · exact steady_pair1 (setMaster_steady hv0)
    · exact steady_pair1 (hv0)

theorem shadowEntry_steady {m key hv v s} (h4 : Steady q s) :
    Steady q (shadowEntry m key hv v s) := by
  unfold shadowEntry
  refine steady_ite ?_ ?_
  · exact conflict_steady (setMaster_steady h4)
  · exact h4

theorem meetRefused_steady {key raw o s} (h3 : Steady q s) :
    Steady q (meetRefused key raw o s) := by
  unfold meetRefused
  extract_lets v0 v1 v2 v3
  try clear_value v0
  try clear_value v1
  have hv2 : Steady q v2 := setMaster_steady h3
  try clear_value v2
  have hv3 : Steady q v3 := by
    unfold v3
    refine steady_foldl (fun t4 x5 h6 => ?_) ?_
    · exact conflict_steady h6
    · exact hv2
  try clear_value v3
  refine steady_foldl (fun t7 x8 h9 => ?_) ?_
  · exact shadowEntry_steady h9
  · exact hv3

theorem noteHolderWrite_steady {m key raw s} (h3 : Steady q s) :
    Steady q (noteHolderWrite m key raw s) := by
  unfold noteHolderWrite
  extract_lets v0
  have hv0 : Steady q v0 := setMaster_steady h3
  try clear_value v0
  refine steady_ite ?_ ?_
  · exact hv0
  · exact meetRefused_steady (meetRefused_steady hv0)

theorem showSessions_steady {s} (h0 : Steady q s) :
    Steady q (showSessions s) := by
  unfold showSessions
  exact wr_steady h0

theorem clearSessionObjects_steady {k s} (h1 : Steady q s) :
    Steady q (clearSessionObjects k s) := by
  unfold clearSessionObjects
  exact wrs_steady h1

theorem freeSession_steady {k s} (h1 : Steady q s) :
    Steady q (freeSession k s) := by
  unfold freeSession
  extract_lets v0 v1 v2
  try clear_value v0
  try clear_value v1
  try clear_value v2
  exact showSessions_steady (setSess_steady (clearSessionObjects_steady h1))

theorem endSession_steady {k reason s} (h2 : Steady q s) :
    Steady q (endSession k reason s) := by
  unfold endSession
  extract_lets v0 v1 v2
  try clear_value v0
  have hv1 : Steady q v1 := by
    unfold v1
    split
    · exact notifySession_steady h2
    · exact h2
  try clear_value v1
  have hv2 : Steady q v2 := freeSession_steady hv1
  try clear_value v2
  refine steady_ite ?_ ?_
  · exact loseToken_steady hv2
  · exact hv2

theorem authFailed_steady {addr s} (h1 : Steady q s) :
    Steady q (authFailed addr s) := by
  unfold authFailed
  extract_lets v0
  have hv0 : Steady q v0 := count_steady h1
  try clear_value v0
  exact Steady.same hv0 rfl

theorem countIn_steady {port s} (h1 : Steady q s) :
    Steady q (countIn port s) := by
  unfold countIn
  exact countBy_steady h1

theorem countDropped_steady {port s} (h1 : Steady q s) :
    Steady q (countDropped port s) := by
  unfold countDropped
  exact count_steady h1

theorem respond_steady {net ks r s} (h3 : Steady q s) :
    Steady q (respond net ks r s) := by
  unfold respond
  extract_lets v0
  have hv0 : Steady q v0 := by
    refine steady_ite ?_ ?_
    · exact h3
    · exact count_steady h3
  try clear_value v0
  exact sendFrame_steady hv0

theorem notePlace_steady {k net s} (h2 : Steady q s) :
    Steady q (notePlace k net s) := by
  unfold notePlace
  exact wrs_steady h2

theorem execSessionOpen_steady {net f s} (h2 : Steady q s) :
    SteadyNext q (execSessionOpen net f s) := by
  unfold execSessionOpen
  refine steady_next ?_
  refine steady_ite ?_ ?_
  · exact h2
  · extract_lets v0 v1 v2 v3
    have hv0 : Steady q v0 := countIn_steady h2
    try clear_value v0
    try clear_value v1
    try clear_value v2
    try clear_value v3
    refine steady_ite ?_ ?_
    · exact countDropped_steady hv0
    · refine steady_ite ?_ ?_
      · exact hv0
      · refine steady_ite ?_ ?_
        · exact respond_steady hv0
        · split
          · exact respond_steady hv0
          · split
            · rename_i y9 y10 y11 y12
              have h13 := Steady.snd y12 (drawBytes_steady hv0)
              split
              · rename_i y14 y15 y16 y17
                have h18 := Steady.snd y17 (drawBytes_steady h13)
                extract_lets v19 v20 v21
                try clear_value v19
                have hv20 : Steady q v20 := setSess_steady h18
                try clear_value v20
                have hv21 : Steady q v21 := notePlace_steady (wrs_steady hv20)
                try clear_value v21
                exact respond_steady hv21

theorem establish_steady {k ks st s} (h3 : Steady q s) :
    Steady q (establish k ks st s) := by
  unfold establish
  extract_lets v0 v1 v2 v3 v4
  try clear_value v0
  try clear_value v1
  have hv2 : Steady q v2 := by
    unfold v2
    refine steady_foldl (fun t5 x6 h7 => ?_) ?_
    · exact endSession_steady h7
    · exact h3
  try clear_value v2
  have hv3 : Steady q v3 := wr_steady (setSess_steady hv2)
  try clear_value v3
  have hv4 : Steady q v4 := showSessions_steady hv3
  try clear_value v4
  refine steady_ite ?_ ?_
  · exact passToken_steady hv4
  · exact hv4

theorem execSessionAuth_steady {net f s} (h2 : Steady q s) :
    SteadyNext q (execSessionAuth net f s) := by
  unfold execSessionAuth
  refine steady_next ?_
  refine steady_ite ?_ ?_
  · exact h2
  · extract_lets v0
    have hv0 : Steady q v0 := countIn_steady h2
    try clear_value v0
    refine steady_ite ?_ ?_
    · exact countDropped_steady hv0
    · split
      · exact hv0
      · extract_lets v6 v7 v8 v9 v10 v11 v12
        try clear_value v6
        try clear_value v7
        try clear_value v8
        try clear_value v9
        try clear_value v10
        try clear_value v11
        try clear_value v12
        refine steady_ite ?_ ?_
        · exact respond_steady (establish_steady (notePlace_steady hv0))
        · refine steady_ite ?_ ?_
          · exact respond_steady (establish_steady (notePlace_steady hv0))
          · exact respond_steady (freeSession_steady (authFailed_steady hv0))

theorem execHalfOpenTimeout_steady {k s} (h1 : Steady q s) :
    SteadyNext q (execHalfOpenTimeout k s) := by
  unfold execHalfOpenTimeout
  refine steady_next ?_
  refine whenAlive_steady (fun t1 h0 => ?_) h1
  · refine steady_ite ?_ ?_
    · exact freeSession_steady h0
    · exact h0

theorem execSessionTimeoutExpiry_steady {k s} (h1 : Steady q s) :
    SteadyNext q (execSessionTimeoutExpiry k s) := by
  unfold execSessionTimeoutExpiry
  refine steady_next ?_
  refine whenAlive_steady (fun t1 h0 => ?_) h1
  · refine steady_ite ?_ ?_
    · exact endSession_steady h0
    · exact h0

theorem execTokenTimeoutExpiry_steady {s} (h0 : Steady q s) :
    SteadyNext q (execTokenTimeoutExpiry s) := by
  unfold execTokenTimeoutExpiry
  refine steady_next ?_
  exact whenAlive_steady (fun t1 h0 => loseToken_steady h0) h0

theorem execNotify_steady {kind body s} (h2 : Steady q s) :
    SteadyNext q (execNotify kind body s) := by
  unfold execNotify
  refine steady_next ?_
  exact whenAlive_steady (fun t1 h0 => notifyAll_steady h0) h2

theorem execNotifyRetryExpiry_steady {k s} (h1 : Steady q s) :
    SteadyNext q (execNotifyRetryExpiry k s) := by
  unfold execNotifyRetryExpiry
  refine steady_next ?_
  refine whenAlive_steady (fun t1 h0 => ?_) h1
  · refine steady_ite ?_ ?_
    · refine steady_foldl (fun t2 x3 h4 => ?_) ?_
      · exact sendFrame_steady h4
      · exact h0
    · exact h0

theorem execFrameDropped_steady {port s} (h1 : Steady q s) :
    SteadyNext q (execFrameDropped port s) := by
  unfold execFrameDropped
  refine steady_next ?_
  refine steady_ite ?_ ?_
  · exact countDropped_steady (countIn_steady h1)
  · exact h1

theorem execArpIcmpRequest_steady {port kind target data s} (h4 : Steady q s) :
    SteadyNext q (execArpIcmpRequest port kind target data s) := by
  unfold execArpIcmpRequest
  refine steady_next ?_
  refine steady_ite ?_ ?_
  · exact h4
  · extract_lets v0 v1
    have hv0 : Steady q v0 := countIn_steady h4
    try clear_value v0
    try clear_value v1
    refine steady_ite ?_ ?_
    · refine steady_ite ?_ ?_
      · exact countBy_steady (send_steady hv0)
      · exact hv0
    · refine steady_ite ?_ ?_
      · refine steady_ite ?_ ?_
        · exact countBy_steady (send_steady hv0)
        · exact hv0
      · exact countDropped_steady hv0

theorem writeTokenRequest_steady {k v s} (h2 : Steady q s) :
    Steady q (writeTokenRequest k v s).1 := by
  unfold writeTokenRequest
  extract_lets v0 v1
  try clear_value v0
  try clear_value v1
  refine steady_ite1 ?_ ?_
  · exact refuse_steady h2
  · refine steady_ite1 ?_ ?_
    · refine steady_ite1 ?_ ?_
      · exact accept_steady (passToken_steady h2)
      · refine steady_ite1 ?_ ?_
        · exact accept_steady h2
        · exact refuse_steady (notifyMaster_steady h2)
    · refine steady_ite1 ?_ ?_
      · refine steady_ite1 ?_ ?_
        · exact refuse_steady h2
        · refine accept_steady ?_
          · refine emit_steady ?_
            · refine steady_ite ?_ ?_
              · exact h2
              · exact passToken_steady h2
      · refine steady_ite1 ?_ ?_
        · exact refuse_steady h2
        · exact refuse_steady h2

theorem writeTokenRelease_steady {k s} (h1 : Steady q s) :
    Steady q (writeTokenRelease k s).1 := by
  unfold writeTokenRelease
  extract_lets v0
  try clear_value v0
  refine steady_ite1 ?_ ?_
  · exact accept_steady (passToken_steady h1)
  · exact refuse_steady h1

theorem writeRoleKey_steady {k seq which v s} (h4 : Steady q s) :
    Steady q (writeRoleKey k seq which v s).1 := by
  unfold writeRoleKey
  extract_lets v0 v1 v2
  try clear_value v0
  try clear_value v1
  have hv2 : Steady q v2 := wrBlob_steady h4
  try clear_value v2
  exact accept_steady (wr_steady hv2)

theorem closeInstallation_steady {s} (h0 : Steady q s) :
    Steady q (closeInstallation s) := by
  unfold closeInstallation
  refine steady_ite ?_ ?_
  · exact h0
  · refine steady_foldl (fun t0 x1 h2 => ?_) ?_
    · refine steady_ite ?_ ?_
      · exact endSession_steady h2
      · exact h2
    · exact h0

end Sys2Proof.Machine
end

