-- ==== Sys2Proof/Laws/SteadyIntegrity.lean ====
section
/-! SUPPORT. Every operation of Machine/Integrity.lean keeps the stores canonical and the queue as it is. -/

namespace Sys2Proof.Machine

variable {q : List Instr}

theorem sweepPoison_steady {s} (h0 : Steady q s) :
    Steady q (sweepPoison s) := by
  unfold sweepPoison
  exact Steady.same h0 rfl

theorem poisonWord_steady {e s} (h1 : Steady q s) :
    Steady q (poisonWord e s) := by
  unfold poisonWord
  extract_lets v0
  have hv0 : Steady q v0 := sweepPoison_steady h1
  try clear_value v0
  refine steady_ite ?_ ?_
  · exact hv0
  · exact Steady.same hv0 rfl

theorem reportError_steady {region addr s} (h2 : Steady q s) :
    Steady q (reportError region addr s) := by
  unfold reportError
  exact wrs_steady (count_steady h2)

theorem correctedError_steady {s} (h0 : Steady q s) :
    Steady q (correctedError s) := by
  unfold correctedError
  exact pmcEvent_steady (countBy_steady h0)

theorem missedReference_steady {a s} (h1 : Steady q s) :
    Steady q (missedReference a s) := by
  unfold missedReference
  extract_lets v0 v1 v2 v3
  try clear_value v0
  try clear_value v1
  try clear_value v2
  have hv3 : Steady q v3 := count_steady (setConv_steady h1)
  try clear_value v3
  refine steady_ite ?_ ?_
  · exact countFault_steady hv3
  · exact hv3

theorem tideAreaError_steady {e s} (h1 : Steady q s) : Steady q (tideAreaError e s) := by
  unfold tideAreaError
  split
  · exact Steady.same h1 rfl
  · exact steady_ite (missedReference_steady h1) h1
  · exact setShepherd_steady h1
  · refine steady_ite ?_ h1
    have hs := Tbl.wf_set (fun _ => none) (e.detail % 64 * 64 + e.inst) none h1.canonical.samples
    exact ⟨{ h1.canonical with samples := hs }, h1.pending⟩

theorem slowError_steady {e s} (h1 : Steady q s) :
    Steady q (slowError e s) := by
  unfold slowError
  exact setLeaf_steady h1

theorem controlError_steady {id s} (h1 : Steady q s) :
    Steady q (controlError id s) := by
  unfold controlError
  exact readmitOpened_steady (openEpoch_steady (setQueue_steady h1))

theorem poolError_steady {id seq down s} (h3 : Steady q s) :
    Steady q (poolError id seq down s) := by
  unfold poolError
  extract_lets v0
  have hv0 : Steady q v0 := setQueue_steady h3
  try clear_value v0
  refine steady_ite ?_ ?_
  · exact returnWhere_steady hv0
  · exact setQueue_steady hv0

theorem subError_steady {k counter s} (h2 : Steady q s) :
    Steady q (subError k counter s) := by
  unfold subError
  refine steady_ite ?_ ?_
  · exact dropSub_steady (setSub_steady h2)
  · exact h2

theorem logError_steady {seq s} (h1 : Steady q s) :
    Steady q (logError seq s) := by
  unfold logError
  refine steady_ite ?_ ?_
  · exact count_steady (Steady.same h1 rfl)
  · exact h1

theorem shepherdError_steady {a s} (h1 : Steady q s) :
    Steady q (shepherdError a s) := by
  unfold shepherdError
  extract_lets v0
  have hv0 : Steady q v0 := by
    unfold v0
    refine steady_foldl (fun t1 x2 h3 => ?_) ?_
    · exact setLeaf_steady h3
    · exact h1
  try clear_value v0
  exact setShepherd_steady hv0

theorem meteringError_steady {e s} (h1 : Steady q s) :
    Steady q (meteringError e s) := by
  unfold meteringError
  split
  · exact restartChain_steady h1
  · exact h1
  · refine steady_ite ?_ ?_
    · exact loseAccumulator_steady h1
    · exact h1
  · exact loseSnapshot_steady h1

theorem regionReaction_steady {e s} (h1 : Steady q s) :
    Steady q (regionReaction e s) := by
  unfold regionReaction
  split
  · exact tideAreaError_steady h1
  · exact setTideBits_steady h1
  · exact slowError_steady h1
  · exact controlError_steady h1
  · exact poolError_steady h1
  · exact subError_steady h1
  · exact logError_steady h1
  · refine steady_ite ?_ ?_
    · exact wr_steady (Steady.same h1 rfl)
    · exact resetFrom_steady h1
  · exact resetFrom_steady h1
  · exact resetFrom_steady h1
  · exact resetFrom_steady h1
  · exact failPair_steady h1
  · exact failEngine_steady h1
  · exact Steady.same h1 rfl
  · exact shepherdError_steady h1
  · exact solarUpset_steady h1
  · exact meteringError_steady h1
  · refine steady_ite ?_ ?_
    · exact countDropped_steady h1
    · exact h1
  · exact channelFault_steady h1
  · exact h1

theorem uncorrectable_steady {e s} (h1 : Steady q s) :
    Steady q (uncorrectable e s) := by
  unfold uncorrectable
  refine steady_ite ?_ ?_
  · exact h1
  · refine steady_ite ?_ ?_
    · refine steady_ite ?_ ?_
      · exact reportError_steady h1
      · exact h1
    · extract_lets v0
      have hv0 : Steady q v0 := regionReaction_steady (poisonWord_steady (reportError_steady h1))
      try clear_value v0
      refine steady_ite ?_ ?_
      · exact heal_steady hv0
      · exact hv0

theorem execEccCorrectedError_steady {region a1 s} (h2 : Steady q s) :
    SteadyNext q (execEccCorrectedError region a1 s) := by
  unfold execEccCorrectedError
  refine steady_next ?_
  refine whenAlive_steady (fun t1 h0 => ?_) h2
  · refine steady_ite ?_ ?_
    · exact h0
    · exact correctedError_steady h0

theorem execUncorrectableError_steady {e s} (h1 : Steady q s) :
    SteadyNext q (execUncorrectableError e s) := by
  unfold execUncorrectableError
  refine steady_next ?_
  exact whenAlive_steady (fun t1 h0 => uncorrectable_steady h0) h1

theorem execScrubLine_steady {region addr found spot last s} (h5 : Steady q s) :
    SteadyNext q (execScrubLine region addr found spot last s) := by
  unfold execScrubLine
  refine steady_next ?_
  refine whenAlive_steady (fun t1 h0 => ?_) h5
  · refine steady_ite ?_ ?_
    · exact h0
    · extract_lets v2
      have hv2 : Steady q v2 := by
        refine steady_ite ?_ ?_
        · exact correctedError_steady h0
        · refine steady_ite ?_ ?_
          · exact uncorrectable_steady h0
          · exact h0
      try clear_value v2
      refine steady_ite ?_ ?_
      · exact count_steady hv2
      · exact hv2

theorem execScrubPeriodEnd_steady {s} (h0 : Steady q s) :
    SteadyNext q (execScrubPeriodEnd s) := by
  unfold execScrubPeriodEnd
  refine steady_next ?_
  exact whenAlive_steady (fun t1 h0 => count_steady h0) h0

theorem execArbPromotion_steady {bank s} (h1 : Steady q s) :
    SteadyNext q (execArbPromotion bank s) := by
  unfold execArbPromotion
  refine steady_next ?_
  refine whenAlive_steady (fun t1 h0 => ?_) h1
  · refine steady_ite ?_ ?_
    · exact pmcEvent_steady (countBy_steady h0)
    · exact h0

theorem execUnitDoze_steady {unit doze s} (h2 : Steady q s) :
    SteadyNext q (execUnitDoze unit doze s) := by
  unfold execUnitDoze
  refine steady_next ?_
  refine whenAlive_steady (fun t1 h0 => ?_) h2
  · refine steady_ite ?_ ?_
    · exact h0
    · exact showPower_steady (wr_steady h0)

theorem wakeUnits_steady {s} (h0 : Steady q s) :
    Steady q (wakeUnits s) := by
  unfold wakeUnits
  extract_lets v0 v1
  try clear_value v0
  try clear_value v1
  exact showPower_steady (wr_steady h0)

theorem wakeShepherds_steady {s} (h0 : Steady q s) :
    Steady q (wakeShepherds s) := by
  unfold wakeShepherds
  refine steady_ite ?_ ?_
  · exact showPower_steady (wr_steady h0)
  · exact h0

end Sys2Proof.Machine
end

