-- ==== Sys2Proof/Laws/SteadyStateRequests.lean ====
section
/-! SUPPORT. Every operation of Machine/StateRequests.lean keeps the stores canonical and the queue as it is. -/

namespace Sys2Proof.Machine

variable {q : List Instr}

theorem takeRequest_steady {v s} (h1 : Steady q s) :
    Steady q (takeRequest v s) := by
  unfold takeRequest
  extract_lets v0 v1 v2
  have hv0 : Steady q v0 := lapseRequest_steady h1
  try clear_value v0
  try clear_value v1
  have hv2 : Steady q v2 := wr_steady (Steady.same hv0 rfl)
  try clear_value v2
  split
  · exact schedule_steady hv2
  · exact hv2

theorem writeStateRequest_steady {role v s} (h2 : Steady q s) :
    Steady q (writeStateRequest role v s).1 := by
  unfold writeStateRequest
  refine steady_ite1 ?_ ?_
  · exact refuse_steady h2
  · extract_lets v0
    try clear_value v0
    refine steady_ite1 ?_ ?_
    · exact accept_steady (takeRequest_steady h2)
    · exact refuse_steady (wr_steady h2)

theorem writeValidate_steady {s} (h0 : Steady q s) :
    Steady q (writeValidate s).1 := by
  unfold writeValidate
  exact accept_steady (wr_steady (Steady.same h0 rfl))

theorem showFailure_steady {code f s} (h2 : Steady q s) :
    Steady q (showFailure code f s) := by
  unfold showFailure
  exact wrs_steady h2

theorem restoreEnd_steady {code s} (h1 : Steady q s) :
    Steady q (restoreEnd code s) := by
  unfold restoreEnd
  extract_lets v0 v1
  try clear_value v0
  have hv1 : Steady q v1 := Steady.same h1 rfl
  try clear_value v1
  refine steady_ite ?_ ?_
  · exact schedule_steady hv1
  · exact wr_steady hv1

theorem finishValidation_steady {s} (h0 : Steady q s) :
    Steady q (finishValidation s) := by
  unfold finishValidation
  extract_lets v0 v1 v2 v3 v4 v5 v6
  try clear_value v0
  try clear_value v1
  try clear_value v2
  have hv3 : Steady q v3 := wrs_steady (showFailure_steady h0)
  try clear_value v3
  try clear_value v4
  try clear_value v5
  have hv6 : Steady q v6 := Steady.same h0 rfl
  try clear_value v6
  refine steady_ite ?_ ?_
  · refine restoreEnd_steady ?_
    · refine steady_ite ?_ ?_
      · exact wr_steady hv3
      · exact hv3
  · split
    · exact h0
    · extract_lets v13 v14 v15
      try clear_value v13
      try clear_value v14
      have hv15 : Steady q v15 := wrs_steady (showFailure_steady hv6)
      try clear_value v15
      refine steady_ite ?_ ?_
      · exact hv15
      · exact wr_steady hv15

theorem execValidationComplete_steady {s} (h0 : Steady q s) :
    SteadyNext q (execValidationComplete s) := by
  unfold execValidationComplete
  refine steady_next ?_
  exact whenAlive_steady (fun t1 h0 => finishValidation_steady h0) h0

theorem writeCommit_steady {v s} (h1 : Steady q s) :
    Steady q (writeCommit v s).1 := by
  unfold writeCommit
  extract_lets v0 v1 v2
  try clear_value v1
  have hv2 : Steady q v2 := Steady.same h1 rfl
  try clear_value v2
  refine steady_ite1 ?_ ?_
  · exact refuse_steady h1
  · refine steady_ite1 ?_ ?_
    · unfold v0
      exact refuse_steady (wr_steady h1)
    · refine steady_ite1 ?_ ?_
      · unfold v0
        exact refuse_steady (wr_steady h1)
      · refine steady_ite1 ?_ ?_
        · unfold v0
          exact refuse_steady (wr_steady h1)
        · exact accept_steady (startBus_steady (addJob_steady (wrs_steady hv2)))

theorem setSlotImage_steady {k x s} (h2 : Steady q s) :
    Steady q (setSlotImage k x s) := by
  unfold setSlotImage
  refine steady_ite ?_ ?_
  · exact Steady.same h2 rfl
  · exact Steady.same h2 rfl

theorem endEeprom_steady {s} (h0 : Steady q s) :
    Steady q (endEeprom s) := by
  unfold endEeprom
  extract_lets v0
  have hv0 : Steady q v0 := setLio_steady h0
  try clear_value v0
  refine steady_ite ?_ ?_
  · exact startBus_steady (setBus_steady (setLio_steady hv0))
  · exact hv0

theorem commitFails_steady {stuck s} (h1 : Steady q s) :
    Steady q (commitFails stuck s) := by
  unfold commitFails
  extract_lets v0 v1
  have hv0 : Steady q v0 := setSlotImage_steady (endEeprom_steady h1)
  try clear_value v0
  try clear_value v1
  exact wr_steady (Steady.same hv0 rfl)

theorem execCommitSlotWritten_steady {ok stuck s} (h2 : Steady q s) :
    SteadyNext q (execCommitSlotWritten ok stuck s) := by
  unfold execCommitSlotWritten
  refine steady_next ?_
  refine whenAlive_steady (fun t1 h0 => ?_) h2
  · refine steady_ite ?_ ?_
    · exact h0
    · refine steady_ite ?_ ?_
      · exact commitFails_steady h0
      · exact wrs_steady (Steady.same h0 rfl)

theorem showCommit_steady {s} (h0 : Steady q s) :
    Steady q (showCommit s) := by
  unfold showCommit
  split
  · exact wrs_steady h0
  · exact h0

theorem commitDone_steady {s} (h0 : Steady q s) :
    Steady q (commitDone s) := by
  unfold commitDone
  extract_lets v0 v1 v2
  have hv0 : Steady q v0 := showCommit_steady h0
  try clear_value v0
  try clear_value v1
  have hv2 : Steady q v2 := wr_steady (Steady.same hv0 rfl)
  try clear_value v2
  exact emit_steady hv2

theorem joinSilence_steady {s} (h0 : Steady q s) :
    Steady q (joinSilence s) := by
  unfold joinSilence
  split
  · exact setTime_steady h0
  · extract_lets v5
    try clear_value v5
    exact setTime_steady h0

theorem commitApply_steady {s} (h0 : Steady q s) :
    Steady q (commitApply s) := by
  unfold commitApply
  extract_lets v0 v1 v2 v3 v4 v5 v6 v7 v8 v9
  try clear_value v0
  try clear_value v1
  try clear_value v2
  have hv3 : Steady q v3 := setSlotImage_steady (endEeprom_steady h0)
  try clear_value v3
  try clear_value v4
  have hv5 : Steady q v5 := Steady.same hv3 rfl
  try clear_value v5
  have hv6 : Steady q v6 := wr_steady hv5
  try clear_value v6
  try clear_value v7
  have hv8 : Steady q v8 := wr_steady (Steady.same hv6 rfl)
  try clear_value v8
  try clear_value v9
  refine steady_ite ?_ ?_
  · exact commitDone_steady hv6
  · refine steady_ite ?_ ?_
    · exact joinSilence_steady hv8
    · exact Steady.same hv8 rfl

theorem execCommitVerified_steady {ok stuck s} (h2 : Steady q s) :
    SteadyNext q (execCommitVerified ok stuck s) := by
  unfold execCommitVerified
  refine steady_next ?_
  refine whenAlive_steady (fun t1 h0 => ?_) h2
  · refine steady_ite ?_ ?_
    · exact h0
    · refine steady_ite ?_ ?_
      · exact commitFails_steady h0
      · exact commitApply_steady h0

theorem laneOff_steady {d s} (h1 : Steady q s) :
    Steady q (laneOff d s) := by
  unfold laneOff
  refine steady_ite ?_ ?_
  · exact h1
  · exact setPlan_steady (setPlan_steady (setDrove_steady h1))

theorem followDrove_steady {im d s} (h2 : Steady q s) :
    Steady q (followDrove im d s) := by
  unfold followDrove
  extract_lets v0 v1 v2 v3 v4 v5 v6
  try clear_value v0
  try clear_value v1
  try clear_value v2
  have hv3 : Steady q v3 := wrs_steady h2
  try clear_value v3
  try clear_value v4
  have hv5 : Steady q v5 := by
    unfold v5
    refine steady_foldl (fun t7 x8 h9 => ?_) ?_
    · exact wr_steady (closeFold_steady h9)
    · exact hv3
  try clear_value v5
  have hv6 : Steady q v6 := laneOff_steady (wantMeasure_steady (clearMeasure_steady hv5))
  try clear_value v6
  refine steady_ite ?_ ?_
  · exact h2
  · exact showBridge_steady (showBridge_steady (showLane_steady (showLane_steady hv6)))

theorem followDroves_steady {im s} (h1 : Steady q s) :
    Steady q (followDroves im s) := by
  unfold followDroves
  refine steady_foldl (fun t0 x1 h2 => ?_) ?_
  · exact followDrove_steady h2
  · exact h1

theorem newDraft_steady {im s} (h1 : Steady q s) :
    Steady q (newDraft im s) := by
  unfold newDraft
  extract_lets v0 v1 v2
  try clear_value v0
  try clear_value v1
  have hv2 : Steady q v2 := setDraft_steady (Steady.same h1 rfl)
  try clear_value v2
  refine steady_ite ?_ ?_
  · refine steady_foldl (fun t3 x4 h5 => ?_) ?_
    · refine steady_ite ?_ ?_
      · exact wantMeasure_steady (clearMeasure_steady h5)
      · exact h5
    · exact hv2
  · exact hv2

theorem writeDraft_steady {bs s} (h1 : Steady q s) :
    Steady q (writeDraft bs s).1 := by
  unfold writeDraft
  split
  · exact accept_steady (newDraft_steady h1)
  · exact refuse_steady h1

theorem writeDiscard_steady {v s} (h1 : Steady q s) :
    Steady q (writeDiscard v s).1 := by
  unfold writeDiscard
  refine steady_ite1 ?_ ?_
  · split
    · exact accept_steady (newDraft_steady h1)
    · exact refuse_steady h1
  · exact accept_steady (newDraft_steady h1)

end Sys2Proof.Machine
end

