-- ==== Sys2Proof/Laws/SteadyStreams.lean ====
section
/-! SUPPORT. Every operation of Machine/Streams.lean keeps the stores canonical and the queue as it is. -/

namespace Sys2Proof.Machine

variable {q : List Instr}

theorem takeAsdu_steady {i test a s} (h3 : Steady q s) :
    Steady q (takeAsdu i test a s) := by
  unfold takeAsdu
  refine steady_ite ?_ ?_
  · exact h3
  · extract_lets v0 v1 v2
    try clear_value v0
    have hv1 : Steady q v1 := wrs_steady (Steady.same h3 rfl)
    try clear_value v1
    have hv2 : Steady q v2 := by
      refine steady_ite ?_ ?_
      · exact wr_steady hv1
      · refine steady_ite ?_ ?_
        · exact hv1
        · exact wr_steady hv1
    try clear_value v2
    refine steady_foldl (fun t3 x4 h5 => ?_) ?_
    · refine steady_ite ?_ ?_
      · exact takeVoltage_steady h5
      · exact h5
    · exact hv2

theorem acceptFrame_steady {i m s} (h2 : Steady q s) :
    Steady q (acceptFrame i m s) := by
  unfold acceptFrame
  refine steady_ite ?_ ?_
  · exact h2
  · refine countBy_steady ?_
    · refine steady_foldl (fun t0 x1 h2 => ?_) ?_
      · exact takeAsdu_steady h2
      · exact h2

theorem execSvFrame_steady {port m s} (h2 : Steady q s) :
    SteadyNext q (execSvFrame port m s) := by
  unfold execSvFrame
  refine steady_next ?_
  refine steady_ite ?_ ?_
  · exact h2
  · extract_lets v0
    have hv0 : Steady q v0 := countIn_steady h2
    try clear_value v0
    refine steady_ite ?_ ?_
    · exact countDropped_steady hv0
    · refine steady_foldl (fun t1 x2 h3 => ?_) ?_
      · refine steady_ite ?_ ?_
        · exact acceptFrame_steady h3
        · exact count_steady h3
      · exact hv0

theorem execSvStreamLossTimeout_steady {st s} (h1 : Steady q s) :
    SteadyNext q (execSvStreamLossTimeout st s) := by
  unfold execSvStreamLossTimeout
  refine steady_next ?_
  refine whenAlive_steady (fun t1 h0 => ?_) h1
  · refine steady_ite ?_ ?_
    · extract_lets v2
      try clear_value v2
      exact wr_steady h0
    · exact h0

theorem showStreams_steady {s} (h0 : Steady q s) :
    Steady q (showStreams s) := by
  unfold showStreams
  refine steady_foldl (fun t0 x1 h2 => ?_) ?_
  · refine steady_ite ?_ ?_
    · refine steady_ite ?_ ?_
      · exact wr_steady h2
      · exact h2
    · exact wr_steady h2
  · exact h0

end Sys2Proof.Machine
end

