-- ==== Sys2Proof/Laws/SteadyBoot.lean ====
section
/-! SUPPORT. Every operation of Machine/Boot.lean keeps the stores canonical and the queue as it is. -/

namespace Sys2Proof.Machine

variable {q : List Instr}

theorem clearSources_steady {old s} (_h0 : Steady q old) (h1 : Steady q s) :
    Steady q (clearSources old s) := by
  unfold clearSources
  extract_lets v0
  try clear_value v0
  refine steady_foldl (fun t1 x2 h3 => ?_) ?_
  · refine steady_ite ?_ ?_
    · exact clearSource_steady h3
    · exact h3
  · exact h1

theorem selectRef_steady {s} (h0 : Steady q s) :
    Steady q (selectRef s) := by
  unfold selectRef
  extract_lets v0
  try clear_value v0
  refine steady_ite ?_ ?_
  · exact useRef_steady h0
  · exact h0

theorem clkCommit_steady {old s} (_h0 : Steady q old) (h1 : Steady q s) :
    Steady q (clkCommit old s) := by
  unfold clkCommit
  refine steady_foldl (fun t0 x1 h2 => ?_) ?_
  · refine steady_ite ?_ ?_
    · exact h2
    · exact wr_steady h2
  · exact h1

theorem settingsApply_steady {old s} (h0 : Steady q old) (h1 : Steady q s) :
    Steady q (settingsApply old s) := by
  unfold settingsApply
  extract_lets v0 v1
  have hv0 : Steady q v0 := placeWork_steady (showBases_steady (showPool_steady (clearSources_steady h0 h1)))
  try clear_value v0
  have hv1 : Steady q v1 := bwCommit_steady (lioCommit_steady h0 (meterCommit_steady h0 (gridCommit_steady h0 hv0)))
  try clear_value v1
  exact clkCommit_steady h0 (selectRef_steady (chooseMaster_steady (showStreams_steady (showTrace_steady hv1))))

theorem takeCommitted_steady {s} (h0 : Steady q s) :
    Steady q (takeCommitted s) := by
  unfold takeCommitted
  exact solarCommit_steady h0 (settingsApply_steady h0 (applyCommitted_steady h0))

theorem showPlans_steady {s} (h0 : Steady q s) :
    Steady q (showPlans s) := by
  unfold showPlans
  refine steady_foldl (fun t0 x1 h2 => ?_) ?_
  · exact setPlan_steady h2
  · exact h0

theorem bootRead_steady {s} (h0 : Steady q s) :
    Steady q (bootRead s) := by
  unfold bootRead
  refine steady_ite ?_ ?_
  · exact Steady.same h0 rfl
  · extract_lets v0 v1 v2 v3
    have hv0 : Steady q v0 := h0
    try clear_value v0
    have hv1 : Steady q v1 := bootLoad_steady h0
    try clear_value v1
    have hv2 : Steady q v2 := by
      refine steady_ite ?_ ?_
      · exact setTime_steady hv1
      · exact hv1
    try clear_value v2
    have hv3 : Steady q v3 := showPlans_steady (settingsApply_steady hv0 hv2)
    try clear_value v3
    refine steady_foldl (fun t4 x5 h6 => ?_) ?_
    · exact wrPu_steady h6
    · exact hv3

theorem execBootRestore_steady {s} (h0 : Steady q s) :
    SteadyNext q (execBootRestore s) := by
  unfold execBootRestore
  refine steady_next ?_
  refine whenAlive_steady (fun t1 h0 => ?_) h0
  · refine steady_ite ?_ ?_
    · exact bootRead_steady h0
    · exact h0

theorem execBootComplete_steady {s} (h0 : Steady q s) :
    SteadyNext q (execBootComplete s) := by
  unfold execBootComplete
  refine steady_next ?_
  refine steady_ite ?_ ?_
  · extract_lets v0 v1
    have hv0 : Steady q v0 := by
      refine steady_ite ?_ ?_
      · exact bootRead_steady h0
      · exact h0
    try clear_value v0
    have hv1 : Steady q v1 := showConfirm_steady (gpioBoot_steady (meterResume_steady hv0))
    try clear_value v1
    exact schedule_steady hv1
  · exact h0

theorem startRestore_steady {s} (h0 : Steady q s) :
    Steady q (startRestore s) := by
  unfold startRestore
  exact wr_steady (measureAll_steady (Steady.same h0 rfl))

theorem execMbusRecovery_steady {freed s} (h1 : Steady q s) :
    SteadyNext q (execMbusRecovery freed s) := by
  unfold execMbusRecovery
  refine steady_next ?_
  refine whenAlive_steady (fun t1 h0 => ?_) h1
  · extract_lets v2 v3 v4
    have hv2 : Steady q v2 := endRecovery_steady h0
    try clear_value v2
    have hv3 : Steady q v3 := bootRead_steady hv2
    try clear_value v3
    have hv4 : Steady q v4 := wr_steady hv3
    try clear_value v4
    refine steady_ite ?_ ?_
    · refine steady_ite ?_ ?_
      · exact startRestore_steady hv4
      · exact hv4
    · exact hv2

theorem onRelease_steady {d s} (h1 : Steady q s) :
    Steady q (onRelease d s) := by
  unfold onRelease
  split
  · refine steady_foldl (fun t1 x2 h3 => ?_) ?_
    · exact startPll_steady h3
    · exact h1
  · exact startSelfTest_steady (showConfirm_steady h1)
  · exact loadTime_steady h1
  · exact sarSelfCal_steady h1
  · exact showPool_steady h1
  · exact startRecovery_steady (wr_steady h1)
  · exact logRestore_steady h1
  · exact finishReset_steady h1
  · exact h1

theorem execDomainRelease_steady {s} (h0 : Steady q s) :
    SteadyNext q (execDomainRelease s) := by
  unfold execDomainRelease
  refine steady_next ?_
  extract_lets v0 v1 v2 v3
  try clear_value v0
  try clear_value v1
  have hv2 : Steady q v2 := by
    refine steady_ite ?_ ?_
    · exact Steady.same h0 rfl
    · exact h0
  try clear_value v2
  try clear_value v3
  refine steady_ite ?_ ?_
  · exact h0
  · refine steady_ite ?_ ?_
    · exact Steady.same h0 rfl
    · exact onRelease_steady (Steady.same hv2 rfl)

theorem execChargeTimeoutExpiry_steady {s} (h0 : Steady q s) :
    SteadyNext q (execChargeTimeoutExpiry s) := by
  unfold execChargeTimeoutExpiry
  refine steady_next ?_
  refine whenAlive_steady (fun t1 h0 => ?_) h0
  · refine steady_ite ?_ ?_
    · exact schedule_steady (emit_steady h0)
    · exact h0

theorem endRetide_steady {s} (h0 : Steady q s) :
    Steady q (endRetide s) := by
  unfold endRetide
  split
  · refine steady_ite ?_ ?_
    · extract_lets v3 v4 v5
      have hv3 : Steady q v3 := by
        refine steady_ite ?_ ?_
        · exact h0
        · exact toSilenceEnd_steady h0
      try clear_value v3
      have hv4 : Steady q v4 := takeCommitted_steady (setTime_steady hv3)
      try clear_value v4
      try clear_value v5
      exact renewPhases_steady (Steady.same hv4 rfl)
    · exact h0
  · exact h0

theorem execRetideRestart_steady {s} (h0 : Steady q s) :
    SteadyNext q (execRetideRestart s) := by
  unfold execRetideRestart
  refine steady_next ?_
  exact whenAlive_steady (fun t1 h0 => endRetide_steady (endStep_steady h0)) h0

theorem countRetide_steady {s} (h0 : Steady q s) :
    Steady q (countRetide s) := by
  unfold countRetide
  refine steady_ite ?_ ?_
  · exact h0
  · extract_lets v0 v1
    try clear_value v0
    try clear_value v1
    exact Steady.same h0 rfl

theorem execRetideReady_steady {s} (h0 : Steady q s) :
    SteadyNext q (execRetideReady s) := by
  unfold execRetideReady
  refine steady_next ?_
  refine whenAlive_steady (fun t1 h0 => ?_) h0
  · split
    · refine steady_ite ?_ ?_
      · exact h0
      · extract_lets v5 v6 v7
        have hv5 : Steady q v5 := by
          refine steady_ite ?_ ?_
          · exact h0
          · exact runTo_steady h0
        try clear_value v5
        try clear_value v6
        have hv7 : Steady q v7 := Steady.same hv5 rfl
        try clear_value v7
        refine steady_ite ?_ ?_
        · exact hv7
        · exact schedule_steady hv7
    · exact h0

end Sys2Proof.Machine
end

