-- ==== Sys2Proof/Laws/SteadyPlausibility.lean ====
section
/-! SUPPORT. Every operation of Machine/Plausibility.lean keeps the stores canonical and the queue as it is. -/

namespace Sys2Proof.Machine

variable {q : List Instr}

theorem plausReact_steady {s} (h0 : Steady q s) :
    Steady q (plausReact s) := by
  unfold plausReact
  split
  · exact askRampDown_steady h0
  · exact askBlocked_steady h0
  · exact h0

theorem plausFault_steady {a run s} (h2 : Steady q s) :
    Steady q (plausFault a run s) := by
  unfold plausFault
  extract_lets v0 v1
  try clear_value v0
  refine steady_ite ?_ ?_
  · exact h2
  · refine steady_ite ?_ ?_
    · unfold v1
      exact plausReact_steady (countFault_steady (emit_steady (wr_steady h2)))
    · refine steady_ite ?_ ?_
      · unfold v1
        exact plausReact_steady (countFault_steady h2)
      · exact h2

theorem judgeLeg_steady {g rs rd' s} (h3 : Steady q s) : Steady q (judgeLeg g rs rd' s) := by
  unfold judgeLeg
  extract_lets v0 v1 v2 v3 v4 v5 v6 top
  have hv6 : Steady q v6 := setLeg_steady h3
  have ht : ∀ a r t, Steady q t → Steady q (top a r t) := fun a r t h => setCl_steady h
  exact plausFault_steady (plausFault_steady (ht _ _ _ (ht _ _ _ hv6)))

theorem plausLeg_steady {n g s} (h2 : Steady q s) :
    Steady q (plausLeg n g s) := by
  unfold plausLeg
  refine steady_ite ?_ ?_
  · exact setLeg_steady h2
  · extract_lets v0 v1 v2
    try clear_value v0
    try clear_value v1
    have hv2 : Steady q v2 := by
      unfold v2
      split
      · exact judgeLeg_steady h2
      · exact count_steady h2
    try clear_value v2
    split
    · extract_lets v18
      try clear_value v18
      exact setLeg_steady hv2
    · exact setLeg_steady hv2

theorem residualSecond_steady {n s} (h1 : Steady q s) :
    Steady q (residualSecond n s) := by
  unfold residualSecond
  refine steady_ite ?_ ?_
  · exact h1
  · exact setCl_steady (wrs_steady h1)

theorem sensorCheck_steady {s w} (h0 : Steady q s) :
    Steady q (sensorCheck s w) := by
  unfold sensorCheck
  split
  · exact h0
  · extract_lets v5 v6 v7
    try clear_value v5
    try clear_value v6
    have hv7 : Steady q v7 := setCl_steady h0
    try clear_value v7
    refine steady_ite ?_ ?_
    · refine steady_ite ?_ ?_
      · exact hv7
      · exact countFault_steady (wr_steady hv7)
    · exact hv7

theorem sumCheck_steady {n s c} (h1 : Steady q s) :
    Steady q (sumCheck n s c) := by
  unfold sumCheck
  refine steady_ite ?_ ?_
  · exact h1
  · extract_lets v0 v1 v2 v3
    try clear_value v0
    try clear_value v1
    try clear_value v2
    have hv3 : Steady q v3 := setCl_steady h1
    try clear_value v3
    refine steady_ite ?_ ?_
    · exact h1
    · refine steady_ite ?_ ?_
      · exact hv3
      · refine steady_foldl (fun t4 x5 h6 => ?_) ?_
        · exact countFault_steady h6
        · exact wr_steady hv3

theorem plausibility_steady {n s} (h1 : Steady q s) :
    Steady q (plausibility n s) := by
  unfold plausibility
  refine steady_ite ?_ ?_
  · exact h1
  · extract_lets v0 v1
    have hv0 : Steady q v0 := by
      unfold v0
      refine steady_foldl (fun t2 x3 h4 => ?_) ?_
      · exact sensorCheck_steady h4
      · exact h1
    try clear_value v0
    have hv1 : Steady q v1 := by
      unfold v1
      refine steady_foldl (fun t5 x6 h7 => ?_) ?_
      · exact sumCheck_steady h7
      · exact hv0
    try clear_value v1
    refine residualSecond_steady ?_
    · refine steady_foldl (fun t8 x9 h10 => ?_) ?_
      · exact plausLeg_steady h10
      · exact hv1

theorem writePlausClear_steady {v s} (h1 : Steady q s) :
    Steady q (writePlausClear v s).1 := by
  unfold writePlausClear
  refine steady_ite1 ?_ ?_
  · exact accept_steady (wrs_steady h1)
  · exact refuse_steady h1

end Sys2Proof.Machine
end

