-- ==== Sys2Proof/Laws/SteadyReads.lean ====
section
/-! SUPPORT. Every operation of Machine/Reads.lean keeps the stores canonical and the queue as it is. -/

namespace Sys2Proof.Machine

variable {q : List Instr}

theorem debugChallenge_steady {k s} (h1 : Steady q s) :
    Steady q (debugChallenge k s).1 := by
  unfold debugChallenge
  split
  · rename_i y0 y1 y2 y3
    have h4 := Steady.snd y3 (drawBytes_steady h1)
    extract_lets v5 v6
    try clear_value v5
    try clear_value v6
    refine steady_pair1 ?_
    refine steady_ite ?_ ?_
    · exact Steady.same h4 rfl
    · exact h4

theorem takeSarData_steady {c s} (h1 : Steady q s) :
    Steady q (takeSarData c s).1 := by
  unfold takeSarData
  extract_lets v0 v1
  try clear_value v0
  have hv1 : Steady q v1 := wr_steady h1
  try clear_value v1
  exact steady_pair1 (setLio_steady hv1)

theorem readObject_steady {k key r s} (h3 : Steady q s) :
    Steady q (readObject k key r s).1 := by
  unfold readObject
  refine steady_ite1 ?_ ?_
  · exact debugChallenge_steady h3
  · refine steady_ite1 ?_ ?_
    · exact takeSarData_steady h3
    · exact steady_pair1 (h3)

end Sys2Proof.Machine
end

