-- ==== Sys2Proof/Laws/SteadyWrites.lean ====
section
/-! SUPPORT. Every operation of Machine/Writes.lean keeps the stores canonical and the queue as it is. -/

namespace Sys2Proof.Machine

variable {q : List Instr}

theorem writeChecks_steady {s k ix sub bs} (h0 : Steady q s) :
    Steady q (writeChecks s k ix sub bs).1 := by
  unfold writeChecks
  split
  · exact refuse_steady h0
  · extract_lets v5
    try clear_value v5
    refine steady_ite1 ?_ ?_
    · exact refuse_steady h0
    · refine steady_ite1 ?_ ?_
      · exact refuse_steady h0
      · refine steady_ite1 ?_ ?_
        · exact refuseGoverned_steady h0
        · exact steady_pair1 (h0)

theorem writeUnlock_steady {bs s} (h1 : Steady q s) :
    Steady q (writeUnlock bs s).1 := by
  unfold writeUnlock
  refine steady_ite1 ?_ ?_
  · exact refuse_steady h1
  · refine steady_ite1 ?_ ?_
    · exact refuse_steady (count_steady h1)
    · extract_lets v0 v1
      try clear_value v0
      have hv1 : Steady q v1 := wr_steady (Steady.same h1 rfl)
      try clear_value v1
      exact accept_steady (emit_steady hv1)

theorem writeLock_steady {s} (h0 : Steady q s) :
    Steady q (writeLock s).1 := by
  unfold writeLock
  exact accept_steady (emit_steady (wrs_steady (Steady.same h0 rfl)))

theorem writeAlarmAck_steady {v s} (h1 : Steady q s) :
    Steady q (writeAlarmAck v s).1 := by
  unfold writeAlarmAck
  refine steady_ite1 ?_ ?_
  · exact refuse_steady h1
  · extract_lets v0 v1
    try clear_value v0
    try clear_value v1
    exact accept_steady (wr_steady (Steady.same h1 rfl))

theorem writeCursor_steady {key v s} (h2 : Steady q s) :
    Steady q (writeCursor key v s).1 := by
  unfold writeCursor
  refine steady_ite1 ?_ ?_
  · exact refuse_steady h2
  · exact accept_steady (wr_steady h2)

theorem writePmc_steady {k c sub v s} (h4 : Steady q s) :
    Steady q (writePmc k c sub v s).1 := by
  unfold writePmc
  extract_lets v0 v1
  try clear_value v0
  try clear_value v1
  refine steady_ite1 ?_ ?_
  · exact refuse_steady h4
  · exact accept_steady (wrs_steady h4)

theorem writeHist_steady {h sub v s} (h3 : Steady q s) :
    Steady q (writeHist h sub v s).1 := by
  unfold writeHist
  refine steady_ite1 ?_ ?_
  · exact accept_steady (histClear_steady h3)
  · refine steady_ite1 ?_ ?_
    · exact refuse_steady h3
    · exact accept_steady (wr_steady h3)

theorem writeSubEnable_steady {n v s} (h2 : Steady q s) :
    Steady q (writeSubEnable n v s).1 := by
  unfold writeSubEnable
  refine steady_ite1 ?_ ?_
  · exact accept_steady (setSub_steady (wr_steady h2))
  · extract_lets v0
    try clear_value v0
    refine steady_ite1 ?_ ?_
    · exact refuse_steady h2
    · exact accept_steady (wr_steady h2)

theorem writeSub_steady {n sub v s} (h3 : Steady q s) :
    Steady q (writeSub n sub v s).1 := by
  unfold writeSub
  split
  · exact writeSubEnable_steady h3
  · exact accept_steady (subRelease_steady h3)
  · extract_lets v5 v6
    try clear_value v5
    try clear_value v6
    refine steady_ite1 ?_ ?_
    · exact refuse_steady h3
    · refine steady_ite1 ?_ ?_
      · exact refuse_steady h3
      · exact accept_steady (wr_steady h3)

theorem writeTrace_steady {key v s} (h2 : Steady q s) :
    Steady q (writeTrace key v s).1 := by
  unfold writeTrace
  refine steady_ite1 ?_ ?_
  · exact writeTraceControl_steady h2
  · refine steady_ite1 ?_ ?_
    · exact accept_steady (showTrace_steady (wr_steady h2))
    · exact refuse_steady h2

theorem writePost_steady {role bs s} (h2 : Steady q s) :
    Steady q (writePost role bs s).1 := by
  unfold writePost
  exact hostPost_steady h2

theorem writeBreakwater_steady {sub v s} (h2 : Steady q s) :
    Steady q (writeBreakwater sub v s).1 := by
  unfold writeBreakwater
  split
  · exact writeSafetyDemand_steady h2
  · exact writeSafetyReset_steady h2
  · exact writeTripRelease_steady h2
  · exact writeSelfTest_steady h2
  · exact writeConfirm_steady h2
  · exact writeSessionReset_steady h2

theorem writeHostSide_steady {k seq key bs s} (h4 : Steady q s) :
    Steady q (writeHostSide k seq key bs s).1 := by
  unfold writeHostSide
  extract_lets v0
  try clear_value v0
  refine steady_ite1 ?_ ?_
  · exact writeRoleKey_steady h4
  · refine steady_ite1 ?_ ?_
    · refine accept_steady ?_
      · refine steady_ite ?_ ?_
        · exact endSession_steady h4
        · refine steady_ite ?_ ?_
          · exact freeSession_steady h4
          · exact h4
    · refine steady_ite1 ?_ ?_
      · exact writeTokenRequest_steady h4
      · refine steady_ite1 ?_ ?_
        · exact writeTokenRelease_steady h4
        · exact accept_steady (wr_steady h4)

theorem writeConfiguration_steady {key bs s} (h2 : Steady q s) :
    Steady q (writeConfiguration key bs s).1 := by
  unfold writeConfiguration
  refine steady_ite1 ?_ ?_
  · exact writeDraft_steady h2
  · refine steady_ite1 ?_ ?_
    · exact writeValidate_steady h2
    · refine steady_ite1 ?_ ?_
      · exact writeCommit_steady h2
      · exact writeDiscard_steady h2

theorem writePersist_steady {key r bs s} (h3 : Steady q s) :
    Steady q (writePersist key r bs s) := by
  unfold writePersist
  extract_lets v0 v1
  have hv0 : Steady q v0 := by
    refine steady_ite ?_ ?_
    · exact writePBlob_steady h3
    · exact writeP_steady h3
  try clear_value v0
  try clear_value v1
  refine steady_ite ?_ ?_
  · exact wantMeasure_steady (clearMeasure_steady hv0)
  · refine steady_ite ?_ ?_
    · exact primarySource_steady hv0
    · refine steady_ite ?_ ?_
      · exact primarySource_steady hv0
      · refine steady_ite ?_ ?_
        · exact startWake_steady hv0
        · exact hv0

theorem writeTimebase_steady {key v s} (h2 : Steady q s) :
    Steady q (writeTimebase key v s).1 := by
  unfold writeTimebase
  refine steady_ite1 ?_ ?_
  · exact writeIncrement_steady h2
  · refine steady_ite1 ?_ ?_
    · exact writeTimeSet_steady h2
    · refine steady_ite1 ?_ ?_
      · exact writeStepPermit_steady h2
      · refine steady_ite1 ?_ ?_
        · exact writeRate_steady h2
        · exact accept_steady (wr_steady h2)

theorem writeSystem_steady {k key bs s} (h3 : Steady q s) :
    Steady q (writeSystem k key bs s).1 := by
  unfold writeSystem
  extract_lets v0 v1
  try clear_value v0
  try clear_value v1
  refine steady_ite1 ?_ ?_
  · exact writeDeviceReset_steady h3
  · refine steady_ite1 ?_ ?_
    · exact writePowerRetry_steady h3
    · refine steady_ite1 ?_ ?_
      · exact rejoinRequest_steady h3
      · refine steady_ite1 ?_ ?_
        · exact accept_steady (wr_steady h3)
        · refine steady_ite1 ?_ ?_
          · exact accept_steady (pmcRelease_steady h3)
          · refine steady_ite1 ?_ ?_
            · exact writePmc_steady h3
            · refine steady_ite1 ?_ ?_
              · exact writeHist_steady h3
              · refine steady_ite1 ?_ ?_
                · exact writeUnlock_steady h3
                · refine steady_ite1 ?_ ?_
                  · exact writeLock_steady h3
                  · exact accept_steady (wr_steady h3)

theorem writeLocalIo_steady {key bs s} (h2 : Steady q s) :
    Steady q (writeLocalIo key bs s).1 := by
  unfold writeLocalIo
  extract_lets v0 v1
  try clear_value v0
  try clear_value v1
  refine steady_ite1 ?_ ?_
  · exact writeSarCal_steady h2
  · refine steady_ite1 ?_ ?_
    · exact writeCmpClear_steady h2
    · refine steady_ite1 ?_ ?_
      · exact writeDuty_steady h2
      · refine steady_ite1 ?_ ?_
        · exact writeGpio_steady h2
        · exact writeBusRequest_steady h2

theorem writeMetering_steady {key bs s} (h2 : Steady q s) :
    Steady q (writeMetering key bs s).1 := by
  unfold writeMetering
  extract_lets v0 v1
  try clear_value v0
  try clear_value v1
  refine steady_ite1 ?_ ?_
  · exact writeSnapshot_steady h2
  · refine steady_ite1 ?_ ?_
    · exact writeCal_steady h2
    · refine steady_ite1 ?_ ?_
      · exact writeFlagsClear_steady h2
      · exact writePreset_steady h2

theorem writeControl_steady {key v s} (h2 : Steady q s) :
    Steady q (writeControl key v s).1 := by
  unfold writeControl
  extract_lets v0
  try clear_value v0
  refine steady_ite1 ?_ ?_
  · exact writeCoreRestart_steady h2
  · refine steady_ite1 ?_ ?_
    · exact writeRampDown_steady h2
    · refine steady_ite1 ?_ ?_
      · exact accept_steady (clearIslands_steady h2)
      · refine steady_ite1 ?_ ?_
        · exact accept_steady (clearIslands_steady h2)
        · refine steady_ite1 ?_ ?_
          · exact writeRebalance_steady h2
          · refine steady_ite1 ?_ ?_
            · exact writePlausClear_steady h2
            · refine steady_ite1 ?_ ?_
              · exact writeTrace_steady h2
              · refine steady_ite1 ?_ ?_
                · exact writeScanAbort_steady h2
                · exact accept_steady (wr_steady h2)

theorem writeFlock_steady {k key bs s} (h3 : Steady q s) :
    Steady q (writeFlock k key bs s).1 := by
  unfold writeFlock
  extract_lets v0 v1
  try clear_value v0
  try clear_value v1
  refine steady_ite1 ?_ ?_
  · exact accept_steady (wantMeasure_steady h3)
  · refine steady_ite1 ?_ ?_
    · exact accept_steady (setSess_steady h3)
    · refine steady_ite1 ?_ ?_
      · exact queueRelease_steady h3
      · refine steady_ite1 ?_ ?_
        · exact writePost_steady h3
        · refine steady_ite1 ?_ ?_
          · exact clearReturned_steady h3
          · refine steady_ite1 ?_ ?_
            · exact writeSub_steady h3
            · refine steady_ite1 ?_ ?_
              · exact protCommand_steady h3
              · exact leafReadmit_steady h3

theorem applyWrite_steady {k seq key r bs s} (h5 : Steady q s) :
    Steady q (applyWrite k seq key r bs s).1 := by
  unfold applyWrite
  extract_lets v0
  try clear_value v0
  refine steady_ite1 ?_ ?_
  · exact accept_steady (writePersist_steady h5)
  · refine steady_ite1 ?_ ?_
    · exact writeStateRequest_steady h5
    · refine steady_ite1 ?_ ?_
      · exact writeHostSide_steady h5
      · refine steady_ite1 ?_ ?_
        · exact accept_steady (wr_steady h5)
        · refine steady_ite1 ?_ ?_
          · exact writeConfiguration_steady h5
          · refine steady_ite1 ?_ ?_
            · exact writeAlarmAck_steady h5
            · refine steady_ite1 ?_ ?_
              · exact writeCursor_steady h5
              · refine steady_ite1 ?_ ?_
                · exact writeTimebase_steady h5
                · refine steady_ite1 ?_ ?_
                  · exact writeSystem_steady h5
                  · refine steady_ite1 ?_ ?_
                    · exact writeBreakwater_steady h5
                    · refine steady_ite1 ?_ ?_
                      · exact writeLocalIo_steady h5
                      · refine steady_ite1 ?_ ?_
                        · exact writeMetering_steady h5
                        · refine steady_ite1 ?_ ?_
                          · exact writeControl_steady h5
                          · exact writeFlock_steady h5

theorem writeObject_steady {k seq ix sub bs s} (h5 : Steady q s) :
    Steady q (writeObject k seq ix sub bs s).1 := by
  unfold writeObject
  extract_lets v0 v1 v2 v3
  have hv0 : Steady q v0.1 := writeChecks_steady h5
  try clear_value v0
  try clear_value v1
  try clear_value v2
  try clear_value v3
  refine steady_ite1 ?_ ?_
  · exact hv0
  · split
    · exact refuse_steady h5
    · extract_lets v9
      have hv9 : Steady q v9.1 := applyWrite_steady h5
      try clear_value v9
      refine steady_ite1 ?_ ?_
      · exact accept_steady (noteHolderWrite_steady hv9)
      · exact hv9

end Sys2Proof.Machine
end

