-- ==== Sys2Proof/Laws/SteadyImages.lean ====
section
/-! SUPPORT. Every operation of Machine/Images.lean keeps the stores canonical and the queue as it is. -/

namespace Sys2Proof.Machine

variable {q : List Instr}

theorem imageEntry_steady {k m note e s} (h4 : Steady q s) :
    Steady q (imageEntry k m note e s).1 := by
  unfold imageEntry
  extract_lets v0
  split
  · unfold v0
    exact steady_pair1 (count_steady h4)
  · refine steady_ite1 ?_ ?_
    · unfold v0
      exact steady_pair1 (count_steady h4)
    · extract_lets v6
      have hv6 : Steady q v6.1 := applyWrite_steady h4
      try clear_value v6
      refine steady_ite1 ?_ ?_
      · unfold v0
        exact steady_pair1 (count_steady h4)
      · refine steady_pair1 ?_
        refine steady_ite ?_ ?_
        · exact noteHolderWrite_steady hv6
        · exact hv6

theorem imageEntries_steady {k m note es s} (h : Steady q s) : Steady q (imageEntries k m note es s).1 := by
  induction es generalizing s with
  | nil => exact h
  | cons e rest ih => exact ih (imageEntry_steady h)

theorem shadowImage_steady {m es s} (h2 : Steady q s) :
    Steady q (shadowImage m es s) := by
  unfold shadowImage
  refine steady_foldl (fun t0 x1 h2 => ?_) ?_
  · split
    · exact shadowEntry_steady h2
    · exact setMaster_steady h2
  · exact h2

theorem completeImage_steady {k m cycle es s} (h4 : Steady q s) :
    Steady q (completeImage k m cycle es s) := by
  unfold completeImage
  extract_lets v0 v1 v2 v3
  have hv0 : Steady q v0 := setMaster_steady h4
  try clear_value v0
  try clear_value v1
  have hv2 : Steady q v2.1 := imageEntries_steady hv0
  try clear_value v2
  have hv3 : Steady q v3 := setMaster_steady hv2
  try clear_value v3
  refine steady_ite ?_ ?_
  · exact countBy_steady hv3
  · refine steady_ite ?_ ?_
    · exact shadowImage_steady hv0
    · exact hv0

theorem takeFragment_steady {k m payload s} (h3 : Steady q s) :
    Steady q (takeFragment k m payload s) := by
  unfold takeFragment
  extract_lets v0 v1 v2
  try clear_value v0
  try clear_value v1
  have hv2 : Steady q v2 := setMaster_steady h3
  try clear_value v2
  refine steady_ite ?_ ?_
  · exact count_steady h3
  · refine steady_ite ?_ ?_
    · exact h3
    · split
      · exact completeImage_steady hv2
      · exact hv2

theorem takeImage_steady {k net f s} (h3 : Steady q s) :
    Steady q (takeImage k net f s) := by
  unfold takeImage
  extract_lets v0 v1 v2
  try clear_value v0
  have hv1 : Steady q v1 := setSess_steady h3
  try clear_value v1
  try clear_value v2
  refine steady_ite ?_ ?_
  · exact h3
  · refine steady_ite ?_ ?_
    · exact countDropped_steady hv1
    · exact respond_steady (takeFragment_steady hv1)

theorem takeSnapshots_steady {s} (h0 : Steady q s) :
    Steady q (takeSnapshots s) := by
  unfold takeSnapshots
  refine steady_foldl (fun t0 x1 h2 => ?_) ?_
  · refine steady_ite ?_ ?_
    · exact h2
    · exact setMaster_steady h2
  · exact h0

theorem sendFragments_steady {k cycle tide flags n off bs s} (h : Steady q s) :
    Steady q (sendFragments k cycle tide flags n off bs s) := by
  induction n generalizing off bs s with
  | zero => exact h
  | succ n ih =>
    unfold sendFragments
    exact steady_ite h (ih (sendFrame_steady (setSess_steady h)))

theorem sendImage_steady {prev m s} (h2 : Steady q s) :
    Steady q (sendImage prev m s) := by
  unfold sendImage
  split
  · exact h2
  · refine steady_ite ?_ ?_
    · exact h2
    · extract_lets v5 v6 v7
      try clear_value v5
      try clear_value v6
      try clear_value v7
      exact countBy_steady (sendFragments_steady h2)

theorem judgeImages_steady {prev m s} (h2 : Steady q s) :
    Steady q (judgeImages prev m s) := by
  unfold judgeImages
  refine steady_ite ?_ ?_
  · exact setMaster_steady h2
  · extract_lets v0 v1
    try clear_value v0
    have hv1 : Steady q v1 := setMaster_steady h2
    try clear_value v1
    refine steady_ite ?_ ?_
    · exact emit_steady (count_steady (setMaster_steady hv1))
    · exact hv1

theorem showHostValues_steady {s} (h0 : Steady q s) :
    Steady q (showHostValues s) := by
  unfold showHostValues
  refine steady_foldl (fun t0 x1 h2 => ?_) ?_
  · refine steady_ite ?_ ?_
    · extract_lets v3
      try clear_value v3
      refine steady_foldl (fun t4 x5 h6 => ?_) ?_
      · extract_lets v7
        try clear_value v7
        refine steady_ite ?_ ?_
        · exact wr_steady h6
        · exact h6
      · exact h2
    · exact h2
  · exact h0

theorem earlyImages_steady {k s} (h1 : Steady q s) :
    Steady q (earlyImages k s) := by
  unfold earlyImages
  extract_lets v0 v1
  try clear_value v0
  have hv1 : Steady q v1 := by
    unfold v1
    split
    · refine steady_foldl (fun t5 x6 h7 => ?_) ?_
      · exact noteHolderWrite_steady h7
      · exact h1
    · exact h1
  try clear_value v1
  refine steady_ite ?_ ?_
  · exact h1
  · split
    · exact shadowImage_steady hv1
    · exact hv1

theorem imageCycle_steady {k s} (h1 : Steady q s) :
    Steady q (imageCycle k s) := by
  unfold imageCycle
  extract_lets v0 v1 v2 v3
  try clear_value v0
  have hv1 : Steady q v1 := by
    refine steady_ite ?_ ?_
    · exact h1
    · refine steady_foldl (fun t4 x5 h6 => ?_) ?_
      · exact judgeImages_steady h6
      · exact h1
  try clear_value v1
  have hv2 : Steady q v2 := showHostValues_steady (wr_steady hv1)
  try clear_value v2
  have hv3 : Steady q v3 := sendImage_steady (sendImage_steady hv2)
  try clear_value v3
  exact earlyImages_steady (Steady.same hv3 rfl)

theorem execImageCycleStart_steady {s} (h0 : Steady q s) :
    SteadyNext q (execImageCycleStart s) := by
  unfold execImageCycleStart
  refine steady_next ?_
  refine whenAlive_steady (fun t1 h0 => ?_) h0
  · extract_lets v2 v3 v4
    try clear_value v2
    try clear_value v3
    try clear_value v4
    exact imageCycle_steady (runTo_steady h0)

end Sys2Proof.Machine
end

