-- ==== Sys2Proof/Laws/SteadyJtag.lean ====
section
/-! SUPPORT. Every operation of Machine/Jtag.lean keeps the stores canonical and the queue as it is. -/

namespace Sys2Proof.Machine

variable {q : List Instr}

theorem setHalt_steady {unit on s} (h2 : Steady q s) :
    Steady q (setHalt unit on s) := by
  unfold setHalt
  refine steady_ite ?_ ?_
  · extract_lets v0
    try clear_value v0
    exact wrs_steady h2
  · exact h2

theorem pokeDescriptor_steady {id off v s} (h3 : Steady q s) :
    Steady q (pokeDescriptor id off v s) := by
  unfold pokeDescriptor
  extract_lets v0 v1
  try clear_value v0
  exact setQueue_steady h3

theorem debugWrite_steady {region addr v s} (h3 : Steady q s) :
    Steady q (debugWrite region addr v s) := by
  unfold debugWrite
  refine steady_ite ?_ ?_
  · exact h3
  · refine steady_ite ?_ ?_
    · exact reportError_steady h3
    · split
      · exact pokeDescriptor_steady h3
      · extract_lets v6
        have hv6 : Steady q v6 := by
          refine steady_ite ?_ ?_
          · exact setRing_steady h3
          · exact h3
        try clear_value v6
        exact wrMem_steady hv6

theorem execJtagAccess_steady {acc s} (h : Steady q s) : SteadyNext q (execJtagAccess acc s) := by
  unfold execJtagAccess
  split
  · exact steady_next (Steady.same h rfl)
  · exact steady_next (steady_ite (setHalt_steady h) h)
  · exact steady_next (steady_ite (setHalt_steady h) h)
  · exact steady_next h
  · split
    · exact steady_next h
    · split
      · intro t ht; cases ht
      · exact steady_next (send_steady (steady_ite (reportError_steady h) h))
  · split
    · exact steady_next h
    · split
      · intro t ht; cases ht
      · exact steady_next (debugWrite_steady h)

end Sys2Proof.Machine
end

