-- ==== Sys2Proof/Laws/SteadyRequests.lean ====
section
/-! SUPPORT. Every operation of Machine/Requests.lean keeps the stores canonical and the queue as it is. -/

namespace Sys2Proof.Machine

variable {q : List Instr}

theorem serveRead_steady {k f s} (h2 : Steady q s) :
    Steady q (serveRead k f s).1 := by
  unfold serveRead
  split
  · exact steady_pair1 (h2)
  · extract_lets v6
    have hv6 : Steady q v6.1 := readObject_steady h2
    try clear_value v6
    refine steady_ite1 ?_ ?_
    · exact steady_pair1 (h2)
    · exact steady_pair1 (hv6)

theorem openTransfer_steady {k f write total data s} (h5 : Steady q s) :
    Steady q (openTransfer k f write total data s) := by
  unfold openTransfer
  extract_lets v0
  try clear_value v0
  exact setSess_steady (Steady.same h5 rfl)

theorem serveReadStart_steady {k f s} (h2 : Steady q s) :
    Steady q (serveReadStart k f s).1 := by
  unfold serveReadStart
  split
  · exact steady_pair1 (h2)
  · refine steady_ite1 ?_ ?_
    · exact steady_pair1 (h2)
    · extract_lets v6
      have hv6 : Steady q v6.1 := readObject_steady h2
      try clear_value v6
      refine steady_ite1 ?_ ?_
      · exact steady_pair1 (h2)
      · exact steady_pair1 (openTransfer_steady hv6)

theorem serveReadSegment_steady {k f s} (h2 : Steady q s) :
    Steady q (serveReadSegment k f s).1 := by
  unfold serveReadSegment
  refine steady_ite1 ?_ ?_
  · exact steady_pair1 (h2)
  · split
    · exact steady_pair1 (h2)
    · exact steady_pair1 (h2)

theorem serveWriteStart_steady {k f s} (h2 : Steady q s) :
    Steady q (serveWriteStart k f s).1 := by
  unfold serveWriteStart
  split
  · exact steady_pair1 (h2)
  · refine steady_ite1 ?_ ?_
    · exact steady_pair1 (h2)
    · refine steady_ite1 ?_ ?_
      · exact steady_pair1 (h2)
      · refine steady_ite1 ?_ ?_
        · exact steady_pair1 (h2)
        · exact steady_pair1 (openTransfer_steady h2)

theorem serveWriteSegment_steady {k f s} (h2 : Steady q s) :
    Steady q (serveWriteSegment k f s).1 := by
  unfold serveWriteSegment
  refine steady_ite1 ?_ ?_
  · exact steady_pair1 (h2)
  · split
    · exact steady_pair1 (h2)
    · extract_lets v5
      try clear_value v5
      refine steady_ite1 ?_ ?_
      · exact steady_pair1 (h2)
      · exact steady_pair1 (setSess_steady h2)

theorem serveWriteEnd_steady {k f s} (h2 : Steady q s) :
    Steady q (serveWriteEnd k f s).1 := by
  unfold serveWriteEnd
  refine steady_ite1 ?_ ?_
  · exact steady_pair1 (h2)
  · split
    · exact steady_pair1 (h2)
    · refine steady_ite1 ?_ ?_
      · exact steady_pair1 (h2)
      · extract_lets v5
        have hv5 : Steady q v5.1 := writeObject_steady h2
        try clear_value v5
        refine steady_pair1 ?_
        refine steady_ite ?_ ?_
        · exact setSess_steady hv5
        · exact hv5

theorem serve_steady {k f s} (h2 : Steady q s) :
    Steady q (serve k f s).1 := by
  unfold serve
  refine steady_ite1 ?_ ?_
  · exact steady_pair1 (h2)
  · split
    · exact steady_pair1 (h2)
    · exact steady_pair1 (h2)
    · exact serveRead_steady h2
    · extract_lets v8
      have hv8 : Steady q v8.1 := writeObject_steady h2
      try clear_value v8
      exact steady_pair1 (hv8)
    · exact serveReadStart_steady h2
    · exact serveReadSegment_steady h2
    · exact serveWriteStart_steady h2
    · exact serveWriteSegment_steady h2
    · exact serveWriteEnd_steady h2
    · exact steady_pair1 (h2)

theorem executeRequest_steady {k net f s} (h3 : Steady q s) :
    Steady q (executeRequest k net f s) := by
  unfold executeRequest
  extract_lets v0 v1 v2 v3 v4 v5 v6 v7 v8
  try clear_value v0
  have hv1 : Steady q v1 := setSess_steady h3
  try clear_value v1
  have hv2 : Steady q v2 := pmcEvent_steady (countBy_steady hv1)
  try clear_value v2
  have hv3 : Steady q v3.1 := serve_steady hv2
  try clear_value v3
  try clear_value v4
  have hv5 : Steady q v5 := hv3
  try clear_value v5
  have hv6 : Steady q v6 := by
    refine steady_ite ?_ ?_
    · exact setSess_steady hv5
    · exact hv5
  try clear_value v6
  have hv7 : Steady q v7 := respond_steady hv6
  try clear_value v7
  have hv8 : Steady q v8 := by
    refine steady_ite ?_ ?_
    · exact endSession_steady hv7
    · exact hv7
  try clear_value v8
  exact applyReset_steady (closeInstallation_steady hv8)

theorem drainHeld_steady {k n s} (h : Steady q s) : Steady q (drainHeld k n s) := by
  induction n generalizing s with
  | zero => exact h
  | succ n ih =>
    unfold drainHeld
    extract_lets x
    split
    · exact h
    · exact ih (executeRequest_steady (setSess_steady h))

theorem orderRequest_steady {k net f s} (h3 : Steady q s) :
    Steady q (orderRequest k net f s) := by
  unfold orderRequest
  extract_lets v0 v1
  try clear_value v0
  try clear_value v1
  refine steady_ite ?_ ?_
  · exact drainHeld_steady (executeRequest_steady h3)
  · refine steady_ite ?_ ?_
    · refine steady_ite ?_ ?_
      · exact h3
      · exact setSess_steady h3
    · refine steady_ite ?_ ?_
      · split
        · exact sendFrame_steady h3
        · exact h3
      · exact count_steady h3

theorem takeAck_steady {k f s} (h2 : Steady q s) :
    Steady q (takeAck k f s) := by
  unfold takeAck
  exact pumpSession_steady (setSess_steady h2)

theorem routeFrame_steady {k net f s} (h3 : Steady q s) :
    Steady q (routeFrame k net f s) := by
  unfold routeFrame
  extract_lets v0
  refine steady_ite ?_ ?_
  · exact takeAck_steady h3
  · refine steady_ite ?_ ?_
    · refine steady_ite ?_ ?_
      · unfold v0
        exact respond_steady h3
      · refine steady_ite ?_ ?_
        · unfold v0
          exact respond_steady h3
        · refine steady_ite ?_ ?_
          · exact takeImage_steady h3
          · unfold v0
            exact respond_steady h3
    · exact orderRequest_steady h3

theorem takeFrame_steady {net f s} (h2 : Steady q s) :
    Steady q (takeFrame net f s) := by
  unfold takeFrame
  refine steady_ite ?_ ?_
  · exact h2
  · extract_lets v0
    have hv0 : Steady q v0 := countIn_steady h2
    try clear_value v0
    refine steady_ite ?_ ?_
    · exact countDropped_steady hv0
    · split
      · extract_lets v4
        try clear_value v4
        refine steady_ite ?_ ?_
        · exact countDropped_steady hv0
        · refine steady_ite ?_ ?_
          · exact count_steady hv0
          · exact routeFrame_steady (notePlace_steady hv0)
      · refine steady_ite ?_ ?_
        · exact countDropped_steady hv0
        · split
          · refine steady_ite ?_ ?_
            · exact respond_steady hv0
            · exact hv0
          · exact hv0

theorem execSessionClose_steady {net f s} (h2 : Steady q s) :
    SteadyNext q (execSessionClose net f s) := by
  unfold execSessionClose
  refine steady_next ?_
  exact takeFrame_steady h2

theorem execKeepalive_steady {net f s} (h2 : Steady q s) :
    SteadyNext q (execKeepalive net f s) := by
  unfold execKeepalive
  refine steady_next ?_
  exact takeFrame_steady h2

theorem execRead_steady {net f s} (h2 : Steady q s) :
    SteadyNext q (execRead net f s) := by
  unfold execRead
  refine steady_next ?_
  exact takeFrame_steady h2

theorem execWrite_steady {net f s} (h2 : Steady q s) :
    SteadyNext q (execWrite net f s) := by
  unfold execWrite
  refine steady_next ?_
  exact takeFrame_steady h2

theorem execBlockReadStart_steady {net f s} (h2 : Steady q s) :
    SteadyNext q (execBlockReadStart net f s) := by
  unfold execBlockReadStart
  refine steady_next ?_
  exact takeFrame_steady h2

theorem execBlockReadSegment_steady {net f s} (h2 : Steady q s) :
    SteadyNext q (execBlockReadSegment net f s) := by
  unfold execBlockReadSegment
  refine steady_next ?_
  exact takeFrame_steady h2

theorem execBlockWriteStart_steady {net f s} (h2 : Steady q s) :
    SteadyNext q (execBlockWriteStart net f s) := by
  unfold execBlockWriteStart
  refine steady_next ?_
  exact takeFrame_steady h2

theorem execBlockWriteSegment_steady {net f s} (h2 : Steady q s) :
    SteadyNext q (execBlockWriteSegment net f s) := by
  unfold execBlockWriteSegment
  refine steady_next ?_
  exact takeFrame_steady h2

theorem execBlockWriteEnd_steady {net f s} (h2 : Steady q s) :
    SteadyNext q (execBlockWriteEnd net f s) := by
  unfold execBlockWriteEnd
  refine steady_next ?_
  exact takeFrame_steady h2

theorem execNotifyAck_steady {net f s} (h2 : Steady q s) :
    SteadyNext q (execNotifyAck net f s) := by
  unfold execNotifyAck
  refine steady_next ?_
  exact takeFrame_steady h2

theorem execImageOut_steady {net f s} (h2 : Steady q s) :
    SteadyNext q (execImageOut net f s) := by
  unfold execImageOut
  refine steady_next ?_
  exact takeFrame_steady h2

theorem execTransferTimeoutExpiry_steady {k s} (h1 : Steady q s) :
    SteadyNext q (execTransferTimeoutExpiry k s) := by
  unfold execTransferTimeoutExpiry
  refine steady_next ?_
  exact whenAlive_steady (fun t1 h0 => setSess_steady h0) h1

theorem execHeldRequestExpiry_steady {k s} (h1 : Steady q s) :
    SteadyNext q (execHeldRequestExpiry k s) := by
  unfold execHeldRequestExpiry
  refine steady_next ?_
  refine whenAlive_steady (fun t1 h0 => ?_) h1
  · split
    · exact h0
    · extract_lets v8 v9
      have hv8 : Steady q v8 := runTo_steady h0
      try clear_value v8
      try clear_value v9
      exact setSess_steady (countBy_steady hv8)

end Sys2Proof.Machine
end

