-- ==== Sys2Proof/Laws/SteadyNamed.lean ====
section
/-! SUPPORT. Every operation of Machine/Named.lean keeps the stores canonical and the queue as it is. -/

namespace Sys2Proof.Machine

variable {q : List Instr}

theorem namedRequest_steady {k service key bs s} (h4 : Steady q s) :
    Steady q (namedRequest k service key bs s) := by
  unfold namedRequest
  extract_lets v0
  try clear_value v0
  refine steady_ite ?_ ?_
  · exact drainHeld_steady (executeRequest_steady (countIn_steady h4))
  · exact h4

theorem namedWrite_steady {k key v s} (h3 : Steady q s) :
    Steady q (namedWrite k key v s) := by
  unfold namedWrite
  exact namedRequest_steady h3

theorem execTokenRequest_steady {k v s} (h2 : Steady q s) :
    SteadyNext q (execTokenRequest k v s) := by
  unfold execTokenRequest
  refine steady_next ?_
  exact namedWrite_steady h2

theorem execTokenForced_steady {k v s} (h2 : Steady q s) :
    SteadyNext q (execTokenForced k v s) := by
  unfold execTokenForced
  refine steady_next ?_
  exact namedWrite_steady h2

theorem execTokenRelease_steady {k v s} (h2 : Steady q s) :
    SteadyNext q (execTokenRelease k v s) := by
  unfold execTokenRelease
  refine steady_next ?_
  exact namedWrite_steady h2

theorem execSessionEvict_steady {k v s} (h2 : Steady q s) :
    SteadyNext q (execSessionEvict k v s) := by
  unfold execSessionEvict
  refine steady_next ?_
  exact namedWrite_steady h2

theorem execRoleKeyWrite_steady {k which value s} (h3 : Steady q s) :
    SteadyNext q (execRoleKeyWrite k which value s) := by
  unfold execRoleKeyWrite
  refine steady_next ?_
  exact namedRequest_steady h3

theorem execQueuePost_steady {k value s} (h2 : Steady q s) :
    SteadyNext q (execQueuePost k value s) := by
  unfold execQueuePost
  refine steady_next ?_
  exact namedRequest_steady h2

theorem execQueueSelect_steady {k v s} (h2 : Steady q s) :
    SteadyNext q (execQueueSelect k v s) := by
  unfold execQueueSelect
  refine steady_next ?_
  exact namedWrite_steady h2

theorem execQueueRelease_steady {k value s} (h2 : Steady q s) :
    SteadyNext q (execQueueRelease k value s) := by
  unfold execQueueRelease
  refine steady_next ?_
  exact namedRequest_steady h2

theorem execQueueClearReturned_steady {k v s} (h2 : Steady q s) :
    SteadyNext q (execQueueClearReturned k v s) := by
  unfold execQueueClearReturned
  refine steady_next ?_
  exact namedWrite_steady h2

theorem execSubEnable_steady {k n v s} (h3 : Steady q s) :
    SteadyNext q (execSubEnable k n v s) := by
  unfold execSubEnable
  refine steady_next ?_
  exact namedWrite_steady h3

theorem execSubRelease_steady {k n v s} (h3 : Steady q s) :
    SteadyNext q (execSubRelease k n v s) := by
  unfold execSubRelease
  refine steady_next ?_
  exact namedWrite_steady h3

theorem execMissCounterClear_steady {k which v s} (h3 : Steady q s) :
    SteadyNext q (execMissCounterClear k which v s) := by
  unfold execMissCounterClear
  refine steady_next ?_
  exact namedWrite_steady h3

theorem execRtMeasure_steady {k d v s} (h3 : Steady q s) :
    SteadyNext q (execRtMeasure k d v s) := by
  unfold execRtMeasure
  refine steady_next ?_
  exact namedWrite_steady h3

theorem execRebalance_steady {k v s} (h2 : Steady q s) :
    SteadyNext q (execRebalance k v s) := by
  unfold execRebalance
  refine steady_next ?_
  exact namedWrite_steady h2

theorem execPlausClear_steady {k v s} (h2 : Steady q s) :
    SteadyNext q (execPlausClear k v s) := by
  unfold execPlausClear
  refine steady_next ?_
  exact namedWrite_steady h2

theorem execTraceArm_steady {k s} (h1 : Steady q s) :
    SteadyNext q (execTraceArm k s) := by
  unfold execTraceArm
  refine steady_next ?_
  exact namedWrite_steady h1

theorem execTraceManualTrigger_steady {k s} (h1 : Steady q s) :
    SteadyNext q (execTraceManualTrigger k s) := by
  unfold execTraceManualTrigger
  refine steady_next ?_
  exact namedWrite_steady h1

theorem execTraceStop_steady {k s} (h1 : Steady q s) :
    SteadyNext q (execTraceStop k s) := by
  unfold execTraceStop
  refine steady_next ?_
  exact namedWrite_steady h1

theorem execCoreRestart_steady {k v s} (h2 : Steady q s) :
    SteadyNext q (execCoreRestart k v s) := by
  unfold execCoreRestart
  refine steady_next ?_
  exact namedWrite_steady h2

theorem execRampDownRequest_steady {k v s} (h2 : Steady q s) :
    SteadyNext q (execRampDownRequest k v s) := by
  unfold execRampDownRequest
  refine steady_next ?_
  exact namedWrite_steady h2

theorem execIslandClear_steady {k c v s} (h3 : Steady q s) :
    SteadyNext q (execIslandClear k c v s) := by
  unfold execIslandClear
  refine steady_next ?_
  exact namedWrite_steady h3

theorem execGridModeWrite_steady {k c v s} (h3 : Steady q s) :
    SteadyNext q (execGridModeWrite k c v s) := by
  unfold execGridModeWrite
  refine steady_next ?_
  exact namedWrite_steady h3

theorem execScanAbort_steady {k v s} (h2 : Steady q s) :
    SteadyNext q (execScanAbort k v s) := by
  unfold execScanAbort
  refine steady_next ?_
  exact namedWrite_steady h2

theorem execSelfTestCommand_steady {k leaf args s} (h3 : Steady q s) :
    SteadyNext q (execSelfTestCommand k leaf args s) := by
  unfold execSelfTestCommand
  refine steady_next ?_
  exact namedRequest_steady h3

theorem execScClearCommand_steady {k leaf s} (h2 : Steady q s) :
    SteadyNext q (execScClearCommand k leaf s) := by
  unfold execScClearCommand
  refine steady_next ?_
  exact namedRequest_steady h2

theorem execPermanentBypassCommand_steady {k leaf s} (h2 : Steady q s) :
    SteadyNext q (execPermanentBypassCommand k leaf s) := by
  unfold execPermanentBypassCommand
  refine steady_next ?_
  exact namedRequest_steady h2

theorem execReleaseBypassCommand_steady {k leaf s} (h2 : Steady q s) :
    SteadyNext q (execReleaseBypassCommand k leaf s) := by
  unfold execReleaseBypassCommand
  refine steady_next ?_
  exact namedRequest_steady h2

theorem execPenWithoutBypassCommand_steady {k leaf s} (h2 : Steady q s) :
    SteadyNext q (execPenWithoutBypassCommand k leaf s) := by
  unfold execPenWithoutBypassCommand
  refine steady_next ?_
  exact namedRequest_steady h2

theorem execClearRetirementCommand_steady {k leaf s} (h2 : Steady q s) :
    SteadyNext q (execClearRetirementCommand k leaf s) := by
  unfold execClearRetirementCommand
  refine steady_next ?_
  exact namedRequest_steady h2

theorem execLeafReadmit_steady {k leaf v s} (h3 : Steady q s) :
    SteadyNext q (execLeafReadmit k leaf v s) := by
  unfold execLeafReadmit
  refine steady_next ?_
  exact namedWrite_steady h3

theorem execRejoinRequest_steady {k v s} (h2 : Steady q s) :
    SteadyNext q (execRejoinRequest k v s) := by
  unfold execRejoinRequest
  refine steady_next ?_
  exact namedWrite_steady h2

theorem execValidate_steady {k v s} (h2 : Steady q s) :
    SteadyNext q (execValidate k v s) := by
  unfold execValidate
  refine steady_next ?_
  exact namedWrite_steady h2

theorem execConfigCommit_steady {k v s} (h2 : Steady q s) :
    SteadyNext q (execConfigCommit k v s) := by
  unfold execConfigCommit
  refine steady_next ?_
  exact namedWrite_steady h2

theorem execDraftFromCommitted_steady {k s} (h1 : Steady q s) :
    SteadyNext q (execDraftFromCommitted k s) := by
  unfold execDraftFromCommitted
  refine steady_next ?_
  exact namedWrite_steady h1

theorem execDraftFromFactory_steady {k s} (h1 : Steady q s) :
    SteadyNext q (execDraftFromFactory k s) := by
  unfold execDraftFromFactory
  refine steady_next ?_
  exact namedWrite_steady h1

theorem execHold_steady {k s} (h1 : Steady q s) :
    SteadyNext q (execHold k s) := by
  unfold execHold
  refine steady_next ?_
  exact namedWrite_steady h1

theorem execCharge_steady {k s} (h1 : Steady q s) :
    SteadyNext q (execCharge k s) := by
  unfold execCharge
  refine steady_next ?_
  exact namedWrite_steady h1

theorem execRun_steady {k s} (h1 : Steady q s) :
    SteadyNext q (execRun k s) := by
  unfold execRun
  refine steady_next ?_
  exact namedWrite_steady h1

theorem execStop_steady {k s} (h1 : Steady q s) :
    SteadyNext q (execStop k s) := by
  unfold execStop
  refine steady_next ?_
  exact namedWrite_steady h1

theorem execBlock_steady {k s} (h1 : Steady q s) :
    SteadyNext q (execBlock k s) := by
  unfold execBlock
  refine steady_next ?_
  exact namedWrite_steady h1

theorem execDischarge_steady {k s} (h1 : Steady q s) :
    SteadyNext q (execDischarge k s) := by
  unfold execDischarge
  refine steady_next ?_
  exact namedWrite_steady h1

theorem execSafeReset_steady {k s} (h1 : Steady q s) :
    SteadyNext q (execSafeReset k s) := by
  unfold execSafeReset
  refine steady_next ?_
  exact namedWrite_steady h1

theorem execTimeStepPermit_steady {k v s} (h2 : Steady q s) :
    SteadyNext q (execTimeStepPermit k v s) := by
  unfold execTimeStepPermit
  refine steady_next ?_
  exact namedWrite_steady h2

theorem execTimeSet_steady {k v s} (h2 : Steady q s) :
    SteadyNext q (execTimeSet k v s) := by
  unfold execTimeSet
  refine steady_next ?_
  exact namedWrite_steady h2

theorem execTimeIncrementWrite_steady {k v s} (h2 : Steady q s) :
    SteadyNext q (execTimeIncrementWrite k v s) := by
  unfold execTimeIncrementWrite
  refine steady_next ?_
  exact namedWrite_steady h2

theorem execRateAdjustWrite_steady {k v s} (h2 : Steady q s) :
    SteadyNext q (execRateAdjustWrite k v s) := by
  unfold execRateAdjustWrite
  refine steady_next ?_
  exact namedWrite_steady h2

theorem execSnapshotTrigger_steady {k v s} (h2 : Steady q s) :
    SteadyNext q (execSnapshotTrigger k v s) := by
  unfold execSnapshotTrigger
  refine steady_next ?_
  exact namedWrite_steady h2

theorem execEnergyPreset_steady {k m value s} (h3 : Steady q s) :
    SteadyNext q (execEnergyPreset k m value s) := by
  unfold execEnergyPreset
  refine steady_next ?_
  exact namedRequest_steady h3

theorem execMeterFlagsClear_steady {k m v s} (h3 : Steady q s) :
    SteadyNext q (execMeterFlagsClear k m v s) := by
  unfold execMeterFlagsClear
  refine steady_next ?_
  exact namedWrite_steady h3

theorem execCalChannels_steady {k v s} (h2 : Steady q s) :
    SteadyNext q (execCalChannels k v s) := by
  unfold execCalChannels
  refine steady_next ?_
  exact namedWrite_steady h2

theorem execSarDataRead_steady {k conv s} (h2 : Steady q s) :
    SteadyNext q (execSarDataRead k conv s) := by
  unfold execSarDataRead
  refine steady_next ?_
  exact namedRequest_steady h2

theorem execSarCal_steady {k v s} (h2 : Steady q s) :
    SteadyNext q (execSarCal k v s) := by
  unfold execSarCal
  refine steady_next ?_
  exact namedWrite_steady h2

theorem execCmpClear_steady {k v s} (h2 : Steady q s) :
    SteadyNext q (execCmpClear k v s) := by
  unfold execCmpClear
  refine steady_next ?_
  exact namedWrite_steady h2

theorem execPwmDutyWrite_steady {k q' v s} (h3 : Steady q s) :
    SteadyNext q (execPwmDutyWrite k q' v s) := by
  unfold execPwmDutyWrite
  refine steady_next ?_
  exact namedWrite_steady h3

theorem execGpioOutWrite_steady {k v s} (h2 : Steady q s) :
    SteadyNext q (execGpioOutWrite k v s) := by
  unfold execGpioOutWrite
  refine steady_next ?_
  exact namedWrite_steady h2

theorem execMbusRequest_steady {k value s} (h2 : Steady q s) :
    SteadyNext q (execMbusRequest k value s) := by
  unfold execMbusRequest
  refine steady_next ?_
  exact namedRequest_steady h2

theorem execSafetyReset_steady {k v s} (h2 : Steady q s) :
    SteadyNext q (execSafetyReset k v s) := by
  unfold execSafetyReset
  refine steady_next ?_
  exact namedWrite_steady h2

theorem execSafetySessionReset_steady {k v s} (h2 : Steady q s) :
    SteadyNext q (execSafetySessionReset k v s) := by
  unfold execSafetySessionReset
  refine steady_next ?_
  exact namedWrite_steady h2

theorem execTripRelease_steady {k v s} (h2 : Steady q s) :
    SteadyNext q (execTripRelease k v s) := by
  unfold execTripRelease
  refine steady_next ?_
  exact namedWrite_steady h2

theorem execSafetyDemand_steady {k v s} (h2 : Steady q s) :
    SteadyNext q (execSafetyDemand k v s) := by
  unfold execSafetyDemand
  refine steady_next ?_
  exact namedWrite_steady h2

theorem execSafetySelftest_steady {k v s} (h2 : Steady q s) :
    SteadyNext q (execSafetySelftest k v s) := by
  unfold execSafetySelftest
  refine steady_next ?_
  exact namedWrite_steady h2

theorem execSafetyConfirm_steady {k v s} (h2 : Steady q s) :
    SteadyNext q (execSafetyConfirm k v s) := by
  unfold execSafetyConfirm
  refine steady_next ?_
  exact namedWrite_steady h2

theorem execCoreReset_steady {k s} (h1 : Steady q s) :
    SteadyNext q (execCoreReset k s) := by
  unfold execCoreReset
  refine steady_next ?_
  exact namedWrite_steady h1

theorem execSystemReset_steady {k s} (h1 : Steady q s) :
    SteadyNext q (execSystemReset k s) := by
  unfold execSystemReset
  refine steady_next ?_
  exact namedWrite_steady h1

theorem execFullReset_steady {k s} (h1 : Steady q s) :
    SteadyNext q (execFullReset k s) := by
  unfold execFullReset
  refine steady_next ?_
  exact namedWrite_steady h1

theorem execPowerRetry_steady {k v s} (h2 : Steady q s) :
    SteadyNext q (execPowerRetry k v s) := by
  unfold execPowerRetry
  refine steady_next ?_
  exact namedWrite_steady h2

theorem execPowerMaxStateWrite_steady {k v s} (h2 : Steady q s) :
    SteadyNext q (execPowerMaxStateWrite k v s) := by
  unfold execPowerMaxStateWrite
  refine steady_next ?_
  exact namedWrite_steady h2

theorem execNextDispatchWrite_steady {k v s} (h2 : Steady q s) :
    SteadyNext q (execNextDispatchWrite k v s) := by
  unfold execNextDispatchWrite
  refine steady_next ?_
  exact namedWrite_steady h2

theorem execLogCursorWrite_steady {k v s} (h2 : Steady q s) :
    SteadyNext q (execLogCursorWrite k v s) := by
  unfold execLogCursorWrite
  refine steady_next ?_
  exact namedWrite_steady h2

theorem execAlarmAck_steady {k v s} (h2 : Steady q s) :
    SteadyNext q (execAlarmAck k v s) := by
  unfold execAlarmAck
  refine steady_next ?_
  exact namedWrite_steady h2

theorem execPmcSettingsWrite_steady {k c sub v s} (h4 : Steady q s) :
    SteadyNext q (execPmcSettingsWrite k c sub v s) := by
  unfold execPmcSettingsWrite
  refine steady_next ?_
  exact namedWrite_steady h4

theorem execPmcValueWrite_steady {k c v s} (h3 : Steady q s) :
    SteadyNext q (execPmcValueWrite k c v s) := by
  unfold execPmcValueWrite
  refine steady_next ?_
  exact namedWrite_steady h3

theorem execPmcStatusClear_steady {k v s} (h2 : Steady q s) :
    SteadyNext q (execPmcStatusClear k v s) := by
  unfold execPmcStatusClear
  refine steady_next ?_
  exact namedWrite_steady h2

theorem execPmcFreeze_steady {k v s} (h2 : Steady q s) :
    SteadyNext q (execPmcFreeze k v s) := by
  unfold execPmcFreeze
  refine steady_next ?_
  exact namedWrite_steady h2

theorem execPmcSampleRelease_steady {k v s} (h2 : Steady q s) :
    SteadyNext q (execPmcSampleRelease k v s) := by
  unfold execPmcSampleRelease
  refine steady_next ?_
  exact namedWrite_steady h2

theorem execHistClear_steady {k h v s} (h3 : Steady q s) :
    SteadyNext q (execHistClear k h v s) := by
  unfold execHistClear
  refine steady_next ?_
  exact namedWrite_steady h3

theorem execDebugChallenge_steady {k s} (h1 : Steady q s) :
    SteadyNext q (execDebugChallenge k s) := by
  unfold execDebugChallenge
  refine steady_next ?_
  exact namedRequest_steady h1

theorem execDebugUnlock_steady {k mac s} (h2 : Steady q s) :
    SteadyNext q (execDebugUnlock k mac s) := by
  unfold execDebugUnlock
  refine steady_next ?_
  exact namedRequest_steady h2

theorem execDebugLock_steady {k v s} (h2 : Steady q s) :
    SteadyNext q (execDebugLock k v s) := by
  unfold execDebugLock
  refine steady_next ?_
  exact namedWrite_steady h2

end Sys2Proof.Machine
end

