-- ==== Sys2Proof/Laws/SteadySlackWater.lean ====
section
/-! SUPPORT. Every operation of Machine/SlackWater.lean keeps the stores canonical and the queue as it is. -/

namespace Sys2Proof.Machine

variable {q : List Instr}

theorem placeSegment_steady {id s} (h1 : Steady q s) :
    Steady q (placeSegment id s).2 := by
  unfold placeSegment
  extract_lets v0 v1 v2 v3
  try clear_value v0
  try clear_value v1
  try clear_value v2
  have hv3 : Steady q v3 := by
    refine steady_ite ?_ ?_
    · exact pmcEvent_steady (countFault_steady (countBy_steady (countBy_steady h1)))
    · exact h1
  try clear_value v3
  split
  · exact steady_pair2 (h1)
  · extract_lets v11 v12 v13 v14 v15 v16
    try clear_value v11
    try clear_value v12
    try clear_value v13
    try clear_value v14
    try clear_value v15
    have hv16 : Steady q v16 := setQueue_steady hv3
    try clear_value v16
    exact steady_pair2 (hv16)

theorem packAck_steady {room p id} (h1 : Steady q p.2) :
    Steady q (packAck room p id).2 := by
  unfold packAck
  extract_lets v0
  try clear_value v0
  refine steady_ite2 ?_ ?_
  · exact steady_pair2 (setQueue_steady h1)
  · exact h1

theorem packWelcome_steady {room L p} (h2 : Steady q p.2) :
    Steady q (packWelcome room L p).2 := by
  unfold packWelcome
  refine steady_ite2 ?_ ?_
  · extract_lets v0 v1
    try clear_value v0
    try clear_value v1
    exact steady_pair2 (setLeaf_steady h2)
  · exact h2

theorem packRepeats_steady {room L n stopped p} (h : Steady q p.2) : Steady q (packRepeats room L n stopped p).2.2 := by
  induction n generalizing stopped p with
  | zero => exact h
  | succ n ih =>
    unfold packRepeats
    split
    · exact h
    · next id _ =>
      extract_lets len
      clear_value len
      split
      · exact ih (p := (p.1 ++ (placeSegment id p.2).1, (placeSegment id p.2).2)) (placeSegment_steady h)
      · exact ih h

theorem packNew_steady {room id n p} (h : Steady q p.2) : Steady q (packNew room id n p).2 := by
  induction n generalizing p with
  | zero => exact h
  | succ n ih =>
    unfold packNew
    exact steady_ite2 (ih (placeSegment_steady h)) h

theorem packContainer_steady {s L room} (h0 : Steady q s) : Steady q (packContainer s L room).2 := by
  unfold packContainer
  extract_lets v0 v1 v2
  have hv0 : Steady q v0.2 := steady_foldl2 (fun t x h => packAck_steady h) h0
  clear_value v0
  have hv1 : Steady q v1.2 := packWelcome_steady hv0
  clear_value v1
  have hv2 : Steady q v2.2.2 := packRepeats_steady hv1
  clear_value v2
  refine steady_ite2 hv2 (steady_foldl2 (fun t x h => ?_) hv2)
  exact steady_ite2 h (packNew_steady h)

theorem sendSlack_steady {d lvl L room gap s} (h5 : Steady q s) :
    Steady q (sendSlack d lvl L room gap s) := by
  unfold sendSlack
  extract_lets v0 v1 v2 v3 v4 v5 v6 v7 v8 v9 v10 v11 v12 v13 v14
  try clear_value v0
  try clear_value v1
  try clear_value v2
  have hv3 : Steady q v3.2 := packContainer_steady h5
  try clear_value v3
  have hv4 : Steady q v4 := hv3
  try clear_value v4
  try clear_value v5
  try clear_value v6
  try clear_value v7
  try clear_value v8
  try clear_value v9
  try clear_value v10
  have hv11 : Steady q v11 := send_steady hv4
  try clear_value v11
  have hv12 : Steady q v12 := setDrove_steady hv11
  try clear_value v12
  have hv13 : Steady q v13 := setDrove_steady hv12
  try clear_value v13
  have hv14 : Steady q v14 := setLeaf_steady hv13
  try clear_value v14
  exact pmcEvent_steady (pmcEvent_steady (countBy_steady hv14))

theorem execSlackWaterFrameSend_steady {d gap s} (h2 : Steady q s) :
    SteadyNext q (execSlackWaterFrameSend d gap s) := by
  unfold execSlackWaterFrameSend
  refine steady_next ?_
  refine whenAlive_steady (fun t1 h0 => ?_) h2
  · extract_lets v2
    try clear_value v2
    refine steady_ite ?_ ?_
    · exact h0
    · split
      · exact sendSlack_steady (runTo_steady h0)
      · exact h0

theorem storeUp_steady {id seq body s} (h3 : Steady q s) :
    Steady q (storeUp id seq body s) := by
  unfold storeUp
  extract_lets v0 v1 v2 v3 v4 v5
  try clear_value v0
  try clear_value v1
  try clear_value v2
  try clear_value v3
  have hv4 : Steady q v4 := setQueue_steady h3
  try clear_value v4
  have hv5 : Steady q v5 := by
    refine steady_ite ?_ ?_
    · exact protRecord_steady hv4
    · refine steady_ite ?_ ?_
      · exact testRecord_steady hv4
      · exact hv4
  try clear_value v5
  refine steady_ite ?_ ?_
  · exact notifyAll_steady hv5
  · exact hv5

theorem growPart_steady {id seq first last body s} (h5 : Steady q s) :
    Steady q (growPart id seq first last body s) := by
  unfold growPart
  extract_lets v0 v1 v2 v3 v4 v5
  try clear_value v0
  try clear_value v1
  try clear_value v2
  try clear_value v3
  have hv4 : Steady q v4 := setQueue_steady h5
  try clear_value v4
  try clear_value v5
  refine steady_ite ?_ ?_
  · exact count_steady hv4
  · refine steady_ite ?_ ?_
    · exact storeUp_steady hv4
    · exact setQueue_steady hv4

theorem growDup_steady {id seq segs last s} (h4 : Steady q s) :
    Steady q (growDup id seq segs last s) := by
  unfold growDup
  refine steady_ite ?_ ?_
  · exact setQueue_steady (count_steady (count_steady h4))
  · exact setQueue_steady h4

theorem upSegment_steady {id seq first last body s} (h5 : Steady q s) :
    Steady q (upSegment id seq first last body s) := by
  unfold upSegment
  extract_lets v0 v1 v2 v3
  try clear_value v0
  try clear_value v1
  try clear_value v2
  have hv3 : Steady q v3 := by
    refine steady_ite ?_ ?_
    · exact dropParts_steady h5
    · exact h5
  try clear_value v3
  refine steady_ite ?_ ?_
  · refine steady_ite ?_ ?_
    · exact growPart_steady (setQueue_steady h5)
    · refine steady_ite ?_ ?_
      · exact growDup_steady hv3
      · exact hv3
  · split
    · refine steady_ite ?_ ?_
      · exact growPart_steady h5
      · exact dropParts_steady h5
    · refine steady_ite ?_ ?_
      · exact growDup_steady h5
      · exact dropParts_steady h5
    · exact dropParts_steady h5

theorem upRecord_steady {L kind flags seq epoch body s} (h6 : Steady q s) :
    Steady q (upRecord L kind flags seq epoch body s) := by
  unfold upRecord
  extract_lets v0 v1 v2 v3 v4 v5 v6
  try clear_value v0
  try clear_value v1
  try clear_value v2
  have hv3 : Steady q v3 := by
    refine steady_ite ?_ ?_
    · exact acceptEpoch_steady h6
    · exact h6
  try clear_value v3
  have hv4 : Steady q v4 := count_steady h6
  try clear_value v4
  have hv5 : Steady q v5 := by
    refine steady_ite ?_ ?_
    · exact h6
    · exact acceptEpoch_steady h6
  try clear_value v5
  have hv6 : Steady q v6 := by
    refine steady_ite ?_ ?_
    · exact countFault_steady hv5
    · exact hv5
  try clear_value v6
  refine steady_ite ?_ ?_
  · exact announce_steady hv3
  · refine steady_ite ?_ ?_
    · refine steady_ite ?_ ?_
      · exact hv4
      · refine steady_ite ?_ ?_
        · exact count_steady hv4
        · exact setQueue_steady (count_steady hv4)
    · split
      · refine steady_ite ?_ ?_
        · exact hv5
        · exact upSegment_steady hv6
      · refine steady_ite ?_ ?_
        · exact ackArrives_steady hv5
        · exact hv5
      · refine steady_ite ?_ ?_
        · exact creditArrives_steady hv5
        · exact count_steady hv5
      · exact hv5

theorem badRecord_steady {L kind flags a3 a4 a5 s} (h6 : Steady q s) :
    Steady q (badRecord L kind flags a3 a4 a5 s) := by
  unfold badRecord
  extract_lets v0
  try clear_value v0
  refine steady_ite ?_ ?_
  · exact h6
  · refine steady_ite ?_ ?_
    · exact count_steady h6
    · exact setQueue_steady (count_steady h6)

theorem upRecords_steady {f n bs s} (hf : ∀ a b c d e t, Steady q t → Steady q (f a b c d e t)) (h : Steady q s) :
    Steady q (upRecords f n bs s) := by
  induction n generalizing bs s with
  | zero => exact h
  | succ n ih =>
    unfold upRecords
    exact steady_ite h (ih (hf _ _ _ _ _ _ h))

theorem goodSlack_steady {d L bs s} (h3 : Steady q s) :
    Steady q (goodSlack d L bs s) := by
  unfold goodSlack
  extract_lets v0 v1
  have hv0 : Steady q v0 := countBy_steady h3
  try clear_value v0
  have hv1 : Steady q v1 := by
    refine steady_ite ?_ ?_
    · exact setLeaf_steady hv0
    · exact hv0
  try clear_value v1
  exact upRecords_steady (fun x2 x3 x4 x5 x6 t8 h7 => upRecord_steady h7) hv1

theorem execSlackWaterFrameReturn_steady {ret s} (h1 : Steady q s) :
    SteadyNext q (execSlackWaterFrameReturn ret s) := by
  unfold execSlackWaterFrameReturn
  refine steady_next ?_
  refine whenAlive_steady (fun t1 h0 => ?_) h1
  · extract_lets v2 v3 v4 v5 v6 v7
    try clear_value v2
    try clear_value v3
    have hv4 : Steady q v4 := noteInvalid_steady h0
    try clear_value v4
    try clear_value v5
    try clear_value v6
    have hv7 : Steady q v7 := setDrove_steady hv4
    try clear_value v7
    refine steady_ite ?_ ?_
    · exact hv4
    · refine steady_ite ?_ ?_
      · exact dropParts_steady (upRecords_steady (fun x8 x9 x10 x11 x12 t14 h13 => badRecord_steady h13) (countVerdict_steady hv7))
      · exact goodSlack_steady hv7

theorem loseSlack_steady {s} (h0 : Steady q s) :
    Steady q (loseSlack s) := by
  unfold loseSlack
  extract_lets v0
  refine steady_foldl (fun t1 x2 h3 => ?_) ?_
  · extract_lets v4
    try clear_value v4
    refine steady_ite ?_ ?_
    · exact h3
    · refine setDrove_steady ?_
      · refine steady_foldl (fun t5 x6 h7 => ?_) ?_
        · exact dropParts_steady h7
        · exact h3
  · exact h0

end Sys2Proof.Machine
end

