-- ==== Sys2Proof/Laws/SteadyTide.lean ====
section
/-! SUPPORT. Every operation of Machine/Tide.lean keeps the stores canonical and the queue as it is. -/

namespace Sys2Proof.Machine

variable {q : List Instr}

theorem renumber_steady {n s} (h1 : Steady q s) : Steady q (renumber n s) := by
  unfold renumber
  extract_lets v0 v1 v2 v3 v4 v5 v6 v7 v8 v9
  have hv0 : Steady q v0 := ⟨{ h1.canonical with slots := rfl, tideRec := rfl, samples := rfl }, h1.pending⟩
  clear_value v0
  have hv1 : Steady q v1 := Steady.same hv0 rfl
  clear_value v1
  have hv3 : Steady q v3 := ⟨{ hv1.canonical with leaves := Tbl.wf_mapAll (fun _ => Leaf.unknown) v2 hv1.canonical.leaves }, hv1.pending⟩
  clear_value v3
  have hv4 : Steady q v4 := Steady.same hv3 rfl
  clear_value v4
  have hv5 : Steady q v5 := solarRenumber_steady hv4
  clear_value v5
  have hv8 : Steady q v8 := Steady.same hv5 rfl
  clear_value v8
  have hv9 : Steady q v9 := setTime_steady (setCl_steady hv8)
  clear_value v9
  exact bwRenumber_steady (renewPhases_steady (beginRecords_steady hv9))

theorem skipTide_steady {m s} (h1 : Steady q s) :
    Steady q (skipTide m s) := by
  unfold skipTide
  exact gatherSubs_steady (beginRecords_steady h1)

theorem skipTides_steady {old n s} (h2 : Steady q s) : Steady q (skipTides old n s) := by
  unfold skipTides
  refine steady_ite h2 ?_
  extract_lets part v1
  have hv1 : Steady q v1 :=
    ⟨{ h2.canonical with
        slots := rfl, samples := rfl
        leaves := Tbl.wf_mapAll (fun _ => Leaf.unknown) part h2.canonical.leaves }, h2.pending⟩
  clear_value v1
  exact steady_foldl (fun t x h => skipTide_steady h) hv1

theorem dropDpc_steady {s} (h0 : Steady q s) :
    Steady q (dropDpc s) := by
  unfold dropDpc
  refine steady_foldl (fun t0 x1 h2 => ?_) ?_
  · extract_lets v3
    have hv3 : Steady q v3 := setConv_steady h2
    try clear_value v3
    refine steady_ite ?_ ?_
    · exact suspendShift_steady (wr_steady (setSync_steady hv3))
    · exact hv3
  · exact h0

theorem leaveState_steady {src dst s} (h2 : Steady q s) :
    Steady q (leaveState src dst s) := by
  unfold leaveState
  extract_lets v0 v1 v2 v3 v4 v5 v6
  have hv0 : Steady q v0 := by
    refine steady_ite ?_ ?_
    · exact leaveCoast_steady h2
    · exact h2
  try clear_value v0
  have hv1 : Steady q v1 := by
    refine steady_ite ?_ ?_
    · exact setCl_steady hv0
    · exact hv0
  try clear_value v1
  have hv2 : Steady q v2 := by
    refine steady_ite ?_ ?_
    · exact suspendShift_steady (suspendShift_steady hv1)
    · exact hv1
  try clear_value v2
  have hv3 : Steady q v3 := by
    refine steady_ite ?_ ?_
    · exact Steady.same hv2 rfl
    · exact hv2
  try clear_value v3
  have hv4 : Steady q v4 := holdDwell_steady (holdDwell_steady hv3)
  try clear_value v4
  have hv5 : Steady q v5 := followDroves_steady hv4
  try clear_value v5
  have hv6 : Steady q v6 := by
    refine steady_ite ?_ ?_
    · refine steady_foldl (fun t7 x8 h9 => ?_) ?_
      · exact spoilMeasure_steady h9
      · exact hv5
    · exact hv4
  try clear_value v6
  refine steady_ite ?_ ?_
  · exact dropDpc_steady hv6
  · exact hv6

theorem enterState_steady {dst arg s} (h2 : Steady q s) :
    Steady q (enterState dst arg s) := by
  unfold enterState
  refine steady_ite ?_ ?_
  · extract_lets v0
    have hv0 : Steady q v0 := followDroves_steady h2
    try clear_value v0
    refine steady_ite ?_ ?_
    · exact startRestore_steady hv0
    · exact measureAll_steady hv0
  · refine steady_ite ?_ ?_
    · exact Steady.same h2 rfl
    · refine steady_ite ?_ ?_
      · refine steady_foldl (fun t1 x2 h3 => ?_) ?_
        · exact wrs_steady h3
        · exact h2
      · refine steady_ite ?_ ?_
        · exact enterCoast_steady h2
        · refine steady_ite ?_ ?_
          · exact enterRampDown_steady h2
          · exact h2

theorem settleRequest_steady {n won before s} (h3 : Steady q s) :
    Steady q (settleRequest n won before s) := by
  unfold settleRequest
  refine steady_ite ?_ ?_
  · exact h3
  · refine steady_ite ?_ ?_
    · exact wr_steady (Steady.same h3 rfl)
    · extract_lets v0 v1 v2
      try clear_value v0
      try clear_value v1
      try clear_value v2
      refine steady_ite ?_ ?_
      · exact lapseRequest_steady h3
      · exact h3

theorem stationTide_steady {n s} (h1 : Steady q s) :
    Steady q (stationTide n s) := by
  unfold stationTide
  extract_lets v0 v1 v2 v3 v4 v5 v6
  try clear_value v0
  try clear_value v1
  try clear_value v3
  have hv4 : Steady q v4 := Steady.same h1 rfl
  try clear_value v4
  try clear_value v5
  have hv6 : Steady q v6 := by
    unfold v6
    split
    · exact hv4
    · exact enterState_steady (recordTransition_steady (leaveState_steady hv4))
  try clear_value v6
  exact settleRequest_steady hv6

theorem unitReaction_steady {source inst s} (h2 : Steady q s) :
    Steady q (unitReaction source inst s) := by
  unfold unitReaction
  refine steady_ite ?_ ?_
  · exact pathFault_steady h2
  · refine steady_ite ?_ ?_
    · exact setPlan_steady h2
    · refine steady_ite ?_ ?_
      · exact retirePair_steady h2
      · refine steady_ite ?_ ?_
        · exact retireEngine_steady h2
        · refine steady_ite ?_ ?_
          · exact setCl_steady h2
          · exact h2

theorem stationReaction_steady {s r} (h0 : Steady q s) :
    Steady q (stationReaction s r) := by
  unfold stationReaction
  refine steady_ite ?_ ?_
  · exact h0
  · extract_lets v0
    try clear_value v0
    refine steady_ite ?_ ?_
    · exact unitReaction_steady h0
    · refine steady_ite ?_ ?_
      · exact schedule_steady h0
      · exact h0

theorem foldTide_steady {s} (h0 : Steady q s) :
    Steady q (foldTide s) := by
  unfold foldTide
  extract_lets v0
  have hv0 : Steady q v0.1 := foldFaults_steady h0
  try clear_value v0
  refine leafReactions_steady ?_
  · refine steady_foldl (fun t1 x2 h3 => ?_) ?_
    · exact stationReaction_steady h3
    · exact hv0

theorem commitTide_steady {s} (h0 : Steady q s) :
    Steady q (commitTide s) := by
  unfold commitTide
  refine steady_ite ?_ ?_
  · extract_lets v0
    have hv0 : Steady q v0 := commitDone_steady (takeCommitted_steady h0)
    try clear_value v0
    refine steady_ite ?_ ?_
    · exact hv0
    · exact schedule_steady hv0
  · exact h0

theorem commitEnd_steady {n s} (h1 : Steady q s) :
    Steady q (commitEnd n s) := by
  unfold commitEnd
  refine steady_ite ?_ ?_
  · exact commitDone_steady h1
  · exact h1

theorem stepTide_steady {n s} (h1 : Steady q s) :
    Steady q (stepTide n s) := by
  unfold stepTide
  split
  · refine steady_ite ?_ ?_
    · exact setTime_steady h1
    · exact h1
  · exact h1

theorem beginTide_steady {n s} (h1 : Steady q s) :
    Steady q (beginTide n s) := by
  unfold beginTide
  extract_lets v0 v1
  try clear_value v0
  have hv1 : Steady q v1 := Steady.same h1 rfl
  try clear_value v1
  exact pmcEvent_steady (refreshTime_steady (correctTime_steady (wr_steady hv1)))

theorem tideWork_steady {old n fresh samples s} (h4 : Steady q s) :
    Steady q (tideWork old n fresh samples s) := by
  unfold tideWork
  extract_lets v0 v1 v2 v3 v4 v5 v6 v7 v8 v9 v10 v11 v12
  have hv0 : Steady q v0 := healRing_steady (sweepPoison_steady h4)
  try clear_value v0
  have hv1 : Steady q v1 := by
    refine steady_ite ?_ ?_
    · exact hv0
    · exact showSense_steady (skipTides_steady hv0)
  try clear_value v1
  have hv2 : Steady q v2 := showSenseDelay_steady (tideScan_steady hv1)
  try clear_value v2
  have hv3 : Steady q v3 := commitTide_steady hv2
  try clear_value v3
  have hv4 : Steady q v4 := by
    refine steady_ite ?_ ?_
    · exact followDroves_steady hv3
    · exact hv3
  try clear_value v4
  try clear_value v5
  have hv6 : Steady q v6 := commitEnd_steady (stationTide_steady (keepRide_steady (islandMode_steady (islandMode_steady hv4))))
  try clear_value v6
  try clear_value v7
  have hv8 : Steady q v8 := clusterTide_steady hv6
  try clear_value v8
  have hv9 : Steady q v9 := retryScClears_steady (retryBypasses_steady (tideQueues_steady (foldTide_steady hv8)))
  try clear_value v9
  have hv10 : Steady q v10 := wakeUnits_steady (powerTide_steady (stepTide_steady hv9))
  try clear_value v10
  have hv11 : Steady q v11 := by
    unfold v11
    refine steady_foldl (fun t13 x14 h15 => ?_) ?_
    · exact dpcFinish_steady (dpcBegin_steady h15)
    · exact hv10
  try clear_value v11
  have hv12 : Steady q v12 := launchAll_steady hv11
  try clear_value v12
  exact bwTide_steady (sarCalCheck_steady (pwmStates_steady (cmpTide_steady hv12)))

theorem startTide_steady {samples s} (h1 : Steady q s) :
    Steady q (startTide samples s) := by
  unfold startTide
  extract_lets v0 v1 v2 v3 v4 v5
  have hv0 : Steady q v0 := endRetide_steady (endStep_steady h1)
  try clear_value v0
  try clear_value v1
  try clear_value v2
  try clear_value v3
  have hv4 : Steady q v4 := runTo_steady hv0
  try clear_value v4
  have hv5 : Steady q v5 := by
    refine beginTide_steady ?_
    · refine steady_ite ?_ ?_
      · exact renumber_steady hv4
      · exact hv4
  try clear_value v5
  exact whenAlive_steady (fun t7 h6 => tideWork_steady h6) hv5

theorem execTideStart_steady {samples s} (h1 : Steady q s) :
    SteadyNext q (execTideStart samples s) := by
  unfold execTideStart
  refine steady_next ?_
  refine whenAlive_steady (fun t1 h0 => ?_) h1
  · refine steady_ite ?_ ?_
    · exact h0
    · exact startTide_steady h0

theorem countReferenceMiss_steady {i p s} (h2 : Steady q s) :
    Steady q (countReferenceMiss i p s) := by
  unfold countReferenceMiss
  extract_lets v0
  have hv0 : Steady q v0 := by
    refine steady_ite ?_ ?_
    · exact count_steady h2
    · exact h2
  try clear_value v0
  refine steady_ite ?_ ?_
  · exact countFault_steady hv0
  · exact hv0

theorem referenceItem_steady {missed i s} (h2 : Steady q s) :
    Steady q (referenceItem missed i s) := by
  unfold referenceItem
  extract_lets v0 v1 v2 v3
  try clear_value v1
  try clear_value v2
  have hv3 : Steady q v3 := by
    unfold v3
    unfold v0
    exact setCl_steady h2
  try clear_value v3
  refine steady_ite ?_ ?_
  · exact h2
  · split
    · refine steady_ite ?_ ?_
      · exact countReferenceMiss_steady h2
      · exact h2
    · refine steady_ite ?_ ?_
      · refine steady_ite ?_ ?_
        · unfold v0
          exact setCl_steady (countReferenceMiss_steady h2)
        · exact h2
      · refine steady_ite ?_ ?_
        · exact gridItem_steady (healTideArea_steady hv3)
        · refine steady_ite ?_ ?_
          · exact energyItem_steady hv3
          · exact hv3

theorem failMissed_steady {s} (h0 : Steady q s) :
    Steady q (failMissed s) := by
  unfold failMissed
  extract_lets v0
  try clear_value v0
  refine steady_foldl (fun t1 x2 h3 => ?_) ?_
  · refine steady_ite ?_ ?_
    · exact failPair_steady h3
    · exact h3
  · exact h0

theorem pairsMark_steady {missed s} (h1 : Steady q s) :
    Steady q (pairsMark missed s) := by
  unfold pairsMark
  extract_lets v0 v1 v2 v3 v4
  have hv0 : Steady q v0 := by
    refine steady_ite ?_ ?_
    · exact startRun_steady h1
    · exact h1
  try clear_value v0
  try clear_value v1
  have hv2 : Steady q v2 := by
    unfold v2
    refine steady_foldl (fun t5 x6 h7 => ?_) ?_
    · exact referenceItem_steady h7
    · exact hv0
  try clear_value v2
  try clear_value v3
  have hv4 : Steady q v4 := by
    refine steady_ite ?_ ?_
    · exact schedule_steady (setCl_steady hv2)
    · exact hv2
  try clear_value v4
  exact failMissed_steady hv4

theorem takeSetpoints_steady {s} (h0 : Steady q s) :
    Steady q (takeSetpoints s) := by
  unfold takeSetpoints
  extract_lets v0
  have hv0 : Steady q v0 := setCl_steady h0
  try clear_value v0
  exact copySetpoints_steady (copySetpoints_steady hv0)

theorem referenceWork_steady {missed s} (h1 : Steady q s) :
    Steady q (referenceWork missed s) := by
  unfold referenceWork
  extract_lets v0 v1 v2
  have hv0 : Steady q v0 := takeSetpoints_steady h1
  try clear_value v0
  have hv1 : Steady q v1 := pairsMark_steady hv0
  try clear_value v1
  have hv2 : Steady q v2 := by
    refine steady_ite ?_ ?_
    · refine steady_ite ?_ ?_
      · exact hv1
      · exact captureRefs_steady hv1
    · refine steady_ite ?_ ?_
      · exact generatorMark_steady (healTideArea_steady hv0)
      · exact hv0
  try clear_value v2
  exact takeSnapshots_steady (coastBandStep_steady hv2)

theorem execReferenceMark_steady {missed s} (h1 : Steady q s) :
    SteadyNext q (execReferenceMark missed s) := by
  unfold execReferenceMark
  refine steady_next ?_
  exact whenAlive_steady (fun t1 h0 => whenAlive_steady (fun t3 h2 => referenceWork_steady h2) (runTo_steady h0)) h1

theorem releaseTide_steady {n s} (h1 : Steady q s) :
    Steady q (releaseTide n s) := by
  unfold releaseTide
  exact loseSlack_steady (gatherSubs_steady (countRetide_steady (releaseTelemetry_steady (judgeLanes_steady h1))))

theorem returnWork_steady {n late s} (h2 : Steady q s) :
    Steady q (returnWork n late s) := by
  unfold returnWork
  extract_lets v0 v1 v2
  have hv0 : Steady q v0 := calmStep_steady (latchInputs_steady (scheduleGains_steady (scheduleGains_steady (releaseTide_steady h2))))
  try clear_value v0
  have hv1 : Steady q v1 := dischargeStep_steady (chargeStep_steady (preCharge_steady (plausibility_steady hv0)))
  try clear_value v1
  have hv2 : Steady q v2 := by
    refine steady_ite ?_ ?_
    · refine steady_foldl (fun t3 x4 h5 => ?_) ?_
      · exact userProgram_steady h5
      · exact hv1
    · exact hv1
  try clear_value v2
  exact solarTide_steady (traceInputs_steady hv2)

theorem execReturnDeadline_steady {late s} (h1 : Steady q s) :
    SteadyNext q (execReturnDeadline late s) := by
  unfold execReturnDeadline
  refine steady_next ?_
  exact whenAlive_steady (fun t1 h0 => whenAlive_steady (fun t3 h2 => returnWork_steady h2) (runTo_steady h0)) h1

theorem demandWork_steady {t missed s} (h2 : Steady q s) :
    Steady q (demandWork t missed s) := by
  unfold demandWork
  extract_lets v0 v1 v2 v3 v4
  try clear_value v0
  have hv1 : Steady q v1 := takeDuties_steady (takeOutputs_steady h2)
  try clear_value v1
  try clear_value v2
  have hv3 : Steady q v3 := by
    refine steady_ite ?_ ?_
    · exact demandMisses_steady (loopDemands_steady (startRun_steady hv1))
    · exact hv1
  try clear_value v3
  have hv4 : Steady q v4 := shepherdAll_steady (wakeShepherds_steady hv3)
  try clear_value v4
  exact traceLoops_steady (setCl_steady hv4)

theorem execDemandMark_steady {missed s} (h1 : Steady q s) :
    SteadyNext q (execDemandMark missed s) := by
  unfold execDemandMark
  refine steady_next ?_
  refine whenAlive_steady (fun t1 h0 => ?_) h1
  · extract_lets v2 v3 v4 v5
    try clear_value v2
    have hv3 : Steady q v3 := runTo_steady h0
    try clear_value v3
    try clear_value v4
    have hv5 : Steady q v5 := Steady.same hv3 rfl
    try clear_value v5
    refine steady_ite ?_ ?_
    · exact hv5
    · exact whenAlive_steady (fun t7 h6 => demandWork_steady h6) hv5

theorem repeatSlot_steady {m L s} (h2 : Steady q s) :
    Steady q (repeatSlot m L s) := by
  unfold repeatSlot
  extract_lets v0 v1 v2
  try clear_value v0
  try clear_value v1
  have hv2 : Steady q v2 := setLeaf_steady (setSlot_steady h2)
  try clear_value v2
  exact countFault_steady (count_steady (Steady.same hv2 rfl))

theorem cutoffWork_steady {t missed s} (h2 : Steady q s) :
    Steady q (cutoffWork t missed s) := by
  unfold cutoffWork
  extract_lets v0 v1 v2
  try clear_value v0
  have hv1 : Steady q v1 := by
    unfold v1
    refine steady_foldl (fun t3 x4 h5 => ?_) ?_
    · exact repeatSlot_steady h5
    · exact h2
  try clear_value v1
  try clear_value v2
  exact heartbeatWord_steady hv1

theorem execCommandCutoff_steady {missed s} (h1 : Steady q s) :
    SteadyNext q (execCommandCutoff missed s) := by
  unfold execCommandCutoff
  refine steady_next ?_
  exact whenAlive_steady (fun t1 h0 => whenAlive_steady (fun t3 h2 => cutoffWork_steady h2) (runTo_steady h0)) h1

end Sys2Proof.Machine
end

