-- ==== Sys2Proof/WellFormed.lean ====
section
/-! DEFINITION. Which commands are well formed: every operand that names one of the block's parts lies in the range the spec gives that
part. The value of a write is no operand of this kind: the block judges it itself (R7, R295). The meanings take ill-formed commands too:
they act on nothing, or answer as for an object that does not exist. -/

namespace Sys2Proof

/-- A datagram as R284 lays it out: field widths, at most 1,024 payload bytes, and a tag of 32 bytes or none. -/
def frameOk (f : ObjFrame) : Bool :=
  f.version < 256 && f.service < 256 && f.flags < 65536 && f.session < 2 ^ 32 && f.seq < 2 ^ 32 && f.index < 65536 && f.sub < 256
    && f.arg < 2 ^ 32 && f.status < 2 ^ 32 && f.payload.length ≤ 1024 && (f.tag.length = 32 || f.tag.length = 0)

/-- A returned frame names a drove (R13). -/
def TideReturn.ok (r : TideReturn) : Bool := r.d < 128

/-- A returned slack-water frame names a drove and a position (R13). -/
def SlackReturn.ok (r : SlackReturn) : Bool := r.d < 128 && r.target < 128

/-- The place of an error names a memory of R72 or R73. -/
def MemError.ok (e : MemError) : Bool := 1 ≤ e.region && e.region ≤ 19

/-- A JTAG operation names a unit of `DEBUG_HALTED` or an instruction of R502. -/
def JtagOp.ok : JtagOp → Bool
  | .load i => i < 5
  | .halt u => u < 31
  | .resume u => u < 31
  | .stepUnit u => u < 31
  | .readMem _ _ => true
  | .writeMem _ _ _ => true

/-- The command is well formed. -/
def Instr.wellFormed : Instr → Bool
  | .tideStart samples => samples.all (fun p => p.1 < 64)
  | .referenceMark missed => missed.all (· < 4)
  | .returnDeadline late => late.all (· < 16384)
  | .gridSetPublish => true
  | .demandMark missed => missed.all (· < 12)
  | .commandCutoff missed => missed.all (· < 16384)
  | .tideFrameReturn ret => ret.ok
  | .slackWaterFrameSend d _ => d < 128
  | .slackWaterFrameReturn ret => ret.ok
  | .blockEchoArrival d _ => d < 128
  | .echoLimitExpiry d => d < 128
  | .laneLockLoss d => d < 128
  | .rtMeasurementEnd d _ => d < 128
  | .lanePhaseCheck d _ => d < 128
  | .rtMarginSecond d => d < 128
  | .tLoopAverage d => d < 128
  | .bridgeUnavailableTimeout pair => pair < 64
  | .laneRejoin d => d < 128
  | .strayPenTimeExpiry leaf => leaf < 16384
  | .retxTimeoutExpiry id => id < 262144
  | .ackDelayExpiry leaf => leaf < 16384
  | .pollIntervalExpiry leaf => leaf < 16384
  | .admitTimeoutExpiry leaf => leaf < 16384
  | .readmitTimeoutExpiry leaf => leaf < 16384
  | .leafPenning leaf _ _ => leaf < 16384
  | .penningComplete leaf => leaf < 16384
  | .bypassAckTimeoutExpiry leaf => leaf < 16384
  | .scClearDelayExpiry leaf => leaf < 16384
  | .uvRecordTimeout leaf => leaf < 16384
  | .testTimeoutExpiry leaf => leaf < 16384
  | .faultWindowBoundary family source => family < 2 && source < (if family = 0 then 14 else 5)
  | .subWindowRecord k _ => k < 16
  | .scrubLine region _ found spot _ => 1 ≤ region && region ≤ 8 && found < 3 && spot.ok
  | .scrubPeriodEnd => true
  | .eccCorrectedError region _ => 1 ≤ region && region ≤ 19
  | .uncorrectableError spot => spot.ok
  | .arbPromotion bank => bank < 64
  | .lockstepMismatch pair => pair < 4
  | .pairSelfTestEnd unit _ => unit < 12
  | .loopEngineFault engine => engine < 8
  | .controlCapacityLost _ => true
  | .traceTrigger _ => true
  | .traceArmed => true
  | .voltageSample c src _ => c < 2 && src < 3
  | .sourceLossTimeout c => c < 2
  | .scrEstimate c => c < 2
  | .rtConfirmExpiry c => c < 2
  | .rtCurveCrossed c => c < 2
  | .rtExitHoldExpiry => true
  | .dpcEntry c => c < 2
  | .dpcExitHoldExpiry c => c < 2
  | .islandingDetected c _ => c < 2
  | .probePeriodStart c => c < 2
  | .gridStall c => c < 2
  | .reversalDwellEnd c => c < 2
  | .coastEnd => true
  | .coastLimitExpiry => true
  | .rampDownComplete => true
  | .rampDownGraceExpiry => true
  | .vocMeasurementEnd leaf => leaf < 16384
  | .scanDue leaf => leaf < 16384
  | .scanPointEnd leaf => leaf < 16384
  | .scanAbandon leaf => leaf < 16384
  | .curtailStep leaf => leaf < 16384
  | .sentinelRotateExpiry arm => arm < 12
  | .chargeTimeoutExpiry => true
  | .retideRestart => true
  | .retideReady => true
  | .bootRestore => true
  | .validationComplete => true
  | .commitSlotWritten _ _ => true
  | .commitVerified _ _ => true
  | .sessionOpen net f => net.port < 3 && frameOk f
  | .sessionAuth net f => net.port < 3 && frameOk f
  | .sessionClose net f => net.port < 3 && frameOk f
  | .keepalive net f => net.port < 3 && frameOk f
  | .read net f => net.port < 3 && frameOk f
  | .write net f => net.port < 3 && frameOk f
  | .blockReadStart net f => net.port < 3 && frameOk f
  | .blockReadSegment net f => net.port < 3 && frameOk f
  | .blockWriteStart net f => net.port < 3 && frameOk f
  | .blockWriteSegment net f => net.port < 3 && frameOk f
  | .blockWriteEnd net f => net.port < 3 && frameOk f
  | .transferTimeoutExpiry k => k < 16
  | .heldRequestExpiry k => k < 16
  | .halfOpenTimeout k => k < 16
  | .sessionTimeoutExpiry k => k < 16
  | .notifyAck net f => net.port < 3 && frameOk f
  | .notifyRetryExpiry k => k < 16
  | .notify kind _ => 1 ≤ kind && kind ≤ 7
  | .imageOut net f => net.port < 3 && frameOk f
  | .imageCycleStart => true
  | .tokenRequest k _ => k < 16
  | .tokenForced k _ => k < 16
  | .tokenRelease k _ => k < 16
  | .tokenTimeoutExpiry => true
  | .sessionEvict k _ => k < 16
  | .roleKeyWrite k which value => k < 16 && which < 4 && value.length ≤ 32
  | .svFrame port m => port < 3 && m.asdus ≠ []
  | .frameDropped port => port < 3
  | .arpIcmpRequest port _ _ _ => port < 3
  | .queuePost k _ => k < 16
  | .queueSelect k _ => k < 16
  | .queueRelease k _ => k < 16
  | .queueClearReturned k _ => k < 16
  | .subEnable k n _ => k < 16 && n < 16
  | .subRelease k n _ => k < 16 && n < 16
  | .missCounterClear k which _ => k < 16 && which < 3
  | .rtMeasure k d _ => k < 16 && d < 128
  | .rebalance k _ => k < 16
  | .plausClear k _ => k < 16
  | .traceArm k => k < 16
  | .traceManualTrigger k => k < 16
  | .traceStop k => k < 16
  | .coreRestart k _ => k < 16
  | .rampDownRequest k _ => k < 16
  | .islandClear k c _ => k < 16 && c < 2
  | .gridModeWrite k c _ => k < 16 && c < 2
  | .scanAbort k _ => k < 16
  | .selfTestCommand k leaf _ => k < 16 && leaf < 16384
  | .scClearCommand k leaf => k < 16 && leaf < 16384
  | .permanentBypassCommand k leaf => k < 16 && leaf < 16384
  | .releaseBypassCommand k leaf => k < 16 && leaf < 16384
  | .penWithoutBypassCommand k leaf => k < 16 && leaf < 16384
  | .clearRetirementCommand k leaf => k < 16 && leaf < 16384
  | .leafReadmit k leaf _ => k < 16 && leaf < 16384
  | .readmitStep leaf => leaf < 16384
  | .rejoinRequest k _ => k < 16
  | .validate k _ => k < 16
  | .configCommit k _ => k < 16
  | .draftFromCommitted k => k < 16
  | .draftFromFactory k => k < 16
  | .hold k => k < 16
  | .charge k => k < 16
  | .run k => k < 16
  | .stop k => k < 16
  | .block k => k < 16
  | .discharge k => k < 16
  | .safeReset k => k < 16
  | .ptpSync port _ => port < 3
  | .ptpAnnounce port _ => port < 3
  | .announceReceiptTimeout port _ => port < 3
  | .ptpDelayReqSend port _ _ => port < 3
  | .ptpDelayResponse port _ => port < 3
  | .pdelayReqReceived port _ _ _ _ => port < 3
  | .tsEntryStale port _ => port < 3
  | .timeStep => true
  | .timeStepPermit k _ => k < 16
  | .timeSet k _ => k < 16
  | .timeIncrementWrite k _ => k < 16
  | .rateAdjustWrite k _ => k < 16
  | .ppsSecond => true
  | .timeToleranceChange => true
  | .refLost src => src < 2
  | .refRestored src => src < 2
  | .pllLock pll _ => pll < 5
  | .gridSample readings _ => readings.all (fun r => r.ch < 40)
  | .meterWindowBoundary => true
  | .channelClockCheck ch _ _ => ch < 40
  | .channelClockMissing ch => ch < 40
  | .channelDataStuck ch => ch < 40
  | .snapshotTrigger k _ => k < 16
  | .energyPreset k m _ => k < 16 && m < 2
  | .meterFlagsClear k m _ => k < 16 && m < 2
  | .pulseEmit n => n < 4
  | .calChannels k _ => k < 16
  | .calHalfEnd => true
  | .sarBackgroundConversion conv input _ _ => conv < 4 && input < 8
  | .sarDataRead k conv => k < 16 && conv < 4
  | .sarCal k _ => k < 16
  | .sarCalEnd _ readings => readings.all (fun r => r.input < 32)
  | .sarSelfCalEnd conv _ => conv < 4
  | .sensorDecimatorOutput input _ _ _ => input < 32
  | .comparatorChange c _ => c < 24
  | .blankingStart c => c < 24
  | .blankingEnd c _ => c < 24
  | .cmpClear k _ => k < 16
  | .pwmValley q _ => q < 12
  | .pwmDutyWrite k q _ => k < 16 && q < 12
  | .delayLineCalibration _ => true
  | .gpioOutWrite k _ => k < 16
  | .gpioEdge pin _ => pin < 32
  | .xcvrPoll => true
  | .pmbusPoll => true
  | .mbusRequest k _ => k < 16
  | .mbusTransactionEnd outcome _ => outcome ≤ 6
  | .mbusRecovery _ => true
  | .safetyInputChange pair _ _ _ => pair < 16
  | .sinDiscrepancyExpiry pair => pair < 16
  | .resetPress pair => pair < 16
  | .breakwaterDemand _ _ => true
  | .blockSetRepeat => true
  | .blockRelease => true
  | .periodicRelease => true
  | .heartbeatWindowClose => true
  | .testPulse output _ => output < 4
  | .fastPathTest c _ => c < 26
  | .channelDiagnosticCheck _ _ => true
  | .channelFault _ _ => true
  | .aliveMonitorExpiry => true
  | .degradedTimeExpiry => true
  | .safetyReset k _ => k < 16
  | .safetySessionReset k _ => k < 16
  | .tripRelease k _ => k < 16
  | .safetyDemand k _ => k < 16
  | .safetySelftest k _ => k < 16
  | .breakwaterSelftestEnd _ => true
  | .safetyConfirm k _ => k < 16
  | .pornLow => true
  | .srstnLow => true
  | .supplyMonitorTrip rail => rail < 7
  | .criticalStateParity domain => domain < 10
  | .lookoutWatchdogExpiry => true
  | .coreReset k => k < 16
  | .systemReset k => k < 16
  | .fullReset k => k < 16
  | .resetSourceReleased src => 1 ≤ src && src ≤ 9
  | .domainRelease => true
  | .optionLoadDone view => view.code < 3 && view.units < 8
  | .storeInitDone => true
  | .bootComplete => true
  | .unitDoze unit _ => unit < 27
  | .scheduledWake => true
  | .wakeEvent why => why < 5
  | .wakeAttemptTimeout _ _ => true
  | .powerRetry k _ => k < 16
  | .powerMaxStateWrite k _ => k < 16
  | .nextDispatchWrite k _ => k < 16
  | .auxPowerWarning => true
  | .coveStoresExhausted => true
  | .coveColdStart => true
  | .coveSecondResync => true
  | .junctionTemperatureChange die _ => die < 2
  | .eventEmit _ _ severity _ args => severity < 4 && args.length ≤ 32
  | .eventCommit => true
  | .logCursorWrite k _ => k < 16
  | .alarmAck k _ => k < 16
  | .pmcOverflow c _ _ _ => c < 32
  | .pmcSampleCapture _ => true
  | .pmcSettingsWrite k c sub _ => k < 16 && c < 32 && 1 ≤ sub && sub ≤ 7 && sub ≠ 5
  | .pmcValueWrite k c _ => k < 16 && c < 32
  | .pmcStatusClear k _ => k < 16
  | .pmcFreeze k _ => k < 16
  | .pmcSampleRelease k _ => k < 16
  | .histogramObservation h _ _ => h < 8
  | .histClear k h _ => k < 16 && h < 8
  | .debugChallenge k => k < 16
  | .debugUnlock k _ => k < 16
  | .debugLock k _ => k < 16
  | .laneBlockLockGained d => d < 128
  | .hostPortLinkChange port _ => port < 3
  | .pllLockLoss pll => pll < 5
  | .syncReceiptTimeout port _ => port < 3
  | .delayExchangeTimeout port => port < 3
  | .pgCoreReport => true
  | .svStreamLossTimeout st => st < 8
  | .jtagAccess acc => acc.ok
  | .clkoutAlignmentStep o _ _ => o < 4
  | .tripReadbackChange output _ => output < 4

end Sys2Proof
end

