-- ==== Sys2Proof/Tests/Slice0.lean ====
section
/-! SUPPORT. The model's own tests: an ill-formed command for each check of `Instr.wellFormed`, the worked examples of the spec, and for
every statement a state and operands that meet its hypotheses, clause by clause. -/

namespace Sys2Proof.Tests

open Sys2Proof Sys2Proof.Machine Sys2Proof.Claims Sys2Proof.Laws

set_option Elab.async false

/-! ### States -/

/-- The `IMAGE_MAP` entry of `GPIO_OUT`. -/
def gpioEntry : List Byte := [4, 2, 0x60, 0x28]

/-- A row of no object. -/
def anyRow : ObjRow := { name := "", base := 0, count := 0, stride := 1, lo := 0, hi := 0, ty := .u32, acc := .rw, persist := false, byIndex := false, dflt := [0], range := .any, role := .operator, fitted := .core }

/-- The machine with every reset domain released, and some objects set. -/
def up (kvs : List (Nat × Nat)) : State :=
  wrs { State.reset with rp := { State.reset.rp with released := 10 } } kvs

/-- The machine with every reset domain released. -/
def upNow : State := up []

/-- The machine in a station state. -/
def inState (st : Nat) (kvs : List (Nat × Nat)) : State := up ((Obj.STATION_STATE, st) :: kvs)

/-- Drove 0 in service on arm 0 with four leaves. -/
def flock (kvs : List (Nat × Nat)) : State :=
  up ([(Obj.DROVE_ENABLE 0, 1), (Obj.DROVE_LEAVES 0, 4), (Obj.DROVE_ARM 0, 0)] ++ kvs)

/-- With leaf 0 changed. -/
def withLeaf (f : Leaf → Leaf) (s : State) : State := setLeaf 0 f s

/-- With drove 0 changed. -/
def withDrove (f : Drove → Drove) (s : State) : State := setDrove 0 f s

/-- With queue 1, class 1 of leaf 0, open and changed, and room in the pool. -/
def withQueue (f : Queue → Queue) (s : State) : State :=
  wr { s with queues := [(1, f { Queue.empty with qstate := 1 })] } Obj.POOL_DOWN_FREE 1000

/-- With converter 0 changed. -/
def withConv (f : Converter → Converter) (s : State) : State := { s with convs := s.convs.modify 0 f }

/-- With solar leaf 0 changed, on a flock whose leaf 0 is solar. -/
def sunny (f : SolarLeaf → SolarLeaf) (kvs : List (Nat × Nat)) : State :=
  setSolar 0 f (flock ((Obj.LEAF_KIND_CFG 0, 4) :: kvs))

/-- A body followed by the check a drove asks for. -/
def checked (s : State) (d : Nat) (body : List Byte) : List Byte := body ++ leBytes 4 (droveCheck s d body)

/-- The same body with every bit of the check inverted. -/
def inverted (s : State) (d : Nat) (body : List Byte) : List Byte :=
  body ++ leBytes 4 (droveCheck s d body ^^^ (2 ^ rd s (Obj.CHECK_WIDTH d) - 1))

/-- Session 0 open at HSVC with identifier 7, for a role and a master, and some objects set. -/
def host (role master : Nat) (kvs : List (Nat × Nat)) : State :=
  let s := up []
  wrs { s with sessions := s.sessions.modify 0 (fun x => { x with ident := 7, outSeq := 1 }) }
    ([(Obj.SESSION_STATE 0, 2), (Obj.SESSION_ROLE 0, role), (Obj.SESSION_MASTER 0, master), (Obj.SESSION_PORT 0, 2),
      (Obj.SESSION_ADDRESS 0, 0xC0A8FE14)] ++ kvs)

/-- The host of a device in HELD. -/
def heldHost (role master : Nat) (kvs : List (Nat × Nat)) : State := host role master ((Obj.STATION_STATE, stHeld) :: kvs)

/-- With session 0 changed. -/
def withSess (f : Session → Session) (s : State) : State := setSess s 0 f

/-- Where session 0 is reached. -/
def hsvc : NetAddr := { port := 2, addr := 0xC0A8FE14, udp := 9, own := 40100, vlan := none }

/-- The same at Ethernet port 0. -/
def lan : NetAddr := { hsvc with port := 0, addr := 0xC0A80A14 }

/-- A frame of session 7, numbered 1. -/
def frame (service key arg : Nat) (payload : List Byte) : ObjFrame :=
  { version := 1, service := service, flags := 0, session := 7, seq := 1, index := keyIndex key, sub := keySub key, arg := arg,
    status := 0, payload := payload, tag := [] }

/-- Port 0 with a link and PTP. -/
def ptp (kvs : List (Nat × Nat)) : State := up ([(Obj.PTP_PORT_ENABLE, 1), (Obj.PORT_LINK 0, 1), (Obj.PTP_DOMAIN, 0)] ++ kvs)

/-- A qualified master on port 0. -/
def ptpMaster : ForeignMaster :=
  { port := 0, clock := 5, portNumber := 1, gm := 5, priority1 := 1, clockClass := 6, accuracy := 0x20, variance := 0, priority2 := 1,
    steps := 0, utc := 37, domain := 0, announces := 2, syncMissed := false }

/-- An announcement of it. -/
def ptpAnnounce : AnnounceMsg :=
  { clock := 5, portNumber := 1, domain := 0, gm := 5, priority1 := 1, clockClass := 6, accuracy := 0x20, variance := 0, priority2 := 1,
    steps := 0, utc := 37 }

/-- A session of master A at Ethernet port 0, whose output map is GPIO_OUT, in cycle 4. -/
def imager (kvs : List (Nat × Nat)) : State :=
  let s := host 2 1 ([(Obj.SESSION_PORT 0, 0), (Obj.SESSION_ADDRESS 0, 0xC0A80A14), (Obj.IMAGE_CYCLE_NOW, 4), (Obj.IMAGE_SIZE 0, 4)] ++ kvs)
  wrBlob s (Obj.IMAGE_MAP 0) gpioEntry

/-- An image frame of cycle `cycle` with data from offset 0. -/
def imageFrame (cycle : Nat) (bs : List Byte) : ObjFrame :=
  { frame 0x30 0 1 (leBytes 8 cycle ++ leBytes 8 0 ++ leBytes 2 0 ++ leBytes 2 bs.length ++ leBytes 4 0 ++ bs) with arg := 1 }

/-- A stream in service. -/
def streamed (kvs : List (Nat × Nat)) : State :=
  wrBlob (up ([(Obj.SV_ENABLE 7, 1), (Obj.SV_APPID 7, 0x4000), (Obj.SV_RATE 7, 4000), (Obj.SV_CONF_REV 7, 1)] ++ kvs)) (Obj.SV_ID 7) [65]

/-- A sampled-value frame with one ASDU of that stream. -/
def svFrameOf (n : Nat) : SvFrame :=
  { dest := 0, vlan := none, appId := 0x4000, test := false,
    asdus := [{ svId := [65], confRev := 1, smpCnt := n, smpSynch := 2, values := List.replicate 8 0, quality := List.replicate 8 0 }] }

/-- The row of an object. -/
def rowOf (key : Nat) : ObjRow := (findRow (keyIndex key) (keySub key)).getD anyRow

/-- A host beside drove 0 in service with four leaves. -/
def leafHost (kvs : List (Nat × Nat)) : State := host 2 3 ([(Obj.DROVE_ENABLE 0, 1), (Obj.DROVE_LEAVES 0, 4)] ++ kvs)

/-- An engineer's session in HELD with an outstanding nonce. -/
def unlocking : State := { heldHost 2 3 [] with dbg := { nonce := [1], instr := 0 } }

/-- An event of severity 3. -/
def anEvent : IntakeEntry :=
  { code := 0x405, rank := 4, severity := 3, inst := 6, stime := 0, at24 := 0, epoch := 0, flags := 0, args := [1], order := 0 }

/-- An image that passes every check on a device with drove 0 measured: drove 0 in arm 0, a metered voltage, and its sensors. -/
def goodImage : Image :=
  { Image.factory with vals := [(Obj.CH_ENABLE 0, 1), (Obj.CH_ENABLE 1, 1), (Obj.CH_ENABLE 2, 1), (Obj.DROVE_ENABLE 0, 1),
    (Obj.DROVE_ARM 0, 0), (Obj.PRECHARGE_SENSOR, 3), (Obj.ARM_I_SENSOR 0, 4), (Obj.DC_V_SENSOR 0, 5), (Obj.SENSE_ENABLE, 63)] }

/-! ### Ill-formed commands -/

/-- A datagram address on port 0. -/
def goodNet : NetAddr := ⟨0, 0, 0, 0, none⟩

/-- A well-formed frame. -/
def okFrame : ObjFrame := ⟨1, 0x10, 0, 0, 0, 0, 0, 0, 0, [], []⟩

/-- A frame whose payload is one byte too long. -/
def badFrame : ObjFrame := { okFrame with payload := List.replicate 1025 0 }

/-- The place of an error in region 1. -/
def goodSpot : MemError := ⟨1, 0, 0, 0, 0, false⟩

/-- Each check of a frame refuses (R284). -/
theorem test_ill_formed_frames :
    frameOk okFrame = true ∧
    [{ okFrame with version := 256 }, { okFrame with service := 256 }, { okFrame with flags := 65536 },
      { okFrame with session := 2 ^ 32 }, { okFrame with seq := 2 ^ 32 }, { okFrame with index := 65536 },
      { okFrame with sub := 256 }, { okFrame with arg := 2 ^ 32 }, { okFrame with status := 2 ^ 32 }, badFrame,
      { okFrame with tag := [0] }].all (fun f => !frameOk f) = true := by decide +kernel

/-- Each check of a JTAG operation refuses (R502). -/
theorem test_ill_formed_jtag :
    ([.load 5, .halt 31, .resume 31, .stepUnit 31] : List JtagOp).all (fun o => !o.ok) = true := by decide +kernel

/-- Commands that fail one check each of `Instr.wellFormed`, part 1. -/
theorem test_ill_formed_1 :
    ([
      .tideStart [(64, 0)], .referenceMark [4], .returnDeadline [16384], .demandMark [12], .commandCutoff [16384],
      .tideFrameReturn ⟨128, false, [], 0, 0, 0⟩, .slackWaterFrameSend 128 0, .slackWaterFrameReturn ⟨0, 128, [], 0⟩,
      .blockEchoArrival 128 0, .echoLimitExpiry 128, .laneLockLoss 128, .rtMeasurementEnd 128 0, .lanePhaseCheck 128 0,
      .rtMarginSecond 128, .tLoopAverage 128, .bridgeUnavailableTimeout 64, .laneRejoin 128, .strayPenTimeExpiry 16384,
      .retxTimeoutExpiry 262144, .ackDelayExpiry 16384, .pollIntervalExpiry 16384, .admitTimeoutExpiry 16384,
      .readmitTimeoutExpiry 16384, .leafPenning 16384 0 0, .penningComplete 16384, .bypassAckTimeoutExpiry 16384,
      .scClearDelayExpiry 16384, .uvRecordTimeout 16384, .testTimeoutExpiry 16384, .faultWindowBoundary 2 0,
      .faultWindowBoundary 0 14, .subWindowRecord 16 false] : List Instr).all (fun c => !c.wellFormed) = true := by decide +kernel

/-- Commands that fail one check each of `Instr.wellFormed`, part 2. -/
theorem test_ill_formed_2 :
    ([
      .scrubLine 0 0 0 goodSpot false, .scrubLine 9 0 0 goodSpot false, .scrubLine 1 0 3 goodSpot false,
      .scrubLine 1 0 0 ⟨20, 0, 0, 0, 0, false⟩ false, .eccCorrectedError 0 0, .eccCorrectedError 20 0,
      .uncorrectableError ⟨20, 0, 0, 0, 0, false⟩, .arbPromotion 64, .lockstepMismatch 4, .pairSelfTestEnd 12 false,
      .loopEngineFault 8, .voltageSample 2 1 ⟨0, 0, 0, 0, true⟩, .voltageSample 0 3 ⟨0, 0, 0, 0, true⟩, .sourceLossTimeout 2,
      .scrEstimate 2, .rtConfirmExpiry 2, .rtCurveCrossed 2, .dpcEntry 2, .dpcExitHoldExpiry 2, .islandingDetected 2 0,
      .probePeriodStart 2, .gridStall 2, .reversalDwellEnd 2, .vocMeasurementEnd 16384, .scanDue 16384, .scanPointEnd 16384,
      .scanAbandon 16384, .curtailStep 16384, .sentinelRotateExpiry 12, .sessionOpen ⟨3, 0, 0, 0, none⟩ okFrame,
      .sessionOpen goodNet badFrame, .sessionAuth ⟨3, 0, 0, 0, none⟩ okFrame] : List Instr).all (fun c => !c.wellFormed) = true := by decide +kernel

/-- Commands that fail one check each of `Instr.wellFormed`, part 3. -/
theorem test_ill_formed_3 :
    ([
      .sessionAuth goodNet badFrame, .sessionClose ⟨3, 0, 0, 0, none⟩ okFrame, .sessionClose goodNet badFrame,
      .keepalive ⟨3, 0, 0, 0, none⟩ okFrame, .keepalive goodNet badFrame, .read ⟨3, 0, 0, 0, none⟩ okFrame, .read goodNet badFrame,
      .write ⟨3, 0, 0, 0, none⟩ okFrame, .write goodNet badFrame, .blockReadStart ⟨3, 0, 0, 0, none⟩ okFrame,
      .blockReadStart goodNet badFrame, .blockReadSegment ⟨3, 0, 0, 0, none⟩ okFrame, .blockReadSegment goodNet badFrame,
      .blockWriteStart ⟨3, 0, 0, 0, none⟩ okFrame, .blockWriteStart goodNet badFrame,
      .blockWriteSegment ⟨3, 0, 0, 0, none⟩ okFrame, .blockWriteSegment goodNet badFrame,
      .blockWriteEnd ⟨3, 0, 0, 0, none⟩ okFrame, .blockWriteEnd goodNet badFrame, .transferTimeoutExpiry 16, .heldRequestExpiry 16,
      .halfOpenTimeout 16, .sessionTimeoutExpiry 16, .notifyAck ⟨3, 0, 0, 0, none⟩ okFrame, .notifyAck goodNet badFrame,
      .notifyRetryExpiry 16, .notify 0 [], .notify 8 [], .imageOut ⟨3, 0, 0, 0, none⟩ okFrame, .imageOut goodNet badFrame,
      .tokenRequest 16 0, .tokenForced 16 0] : List Instr).all (fun c => !c.wellFormed) = true := by decide +kernel

/-- Commands that fail one check each of `Instr.wellFormed`, part 4. -/
theorem test_ill_formed_4 :
    ([
      .tokenRelease 16 0, .sessionEvict 16 0, .roleKeyWrite 16 0 [], .roleKeyWrite 0 4 [], .roleKeyWrite 0 0 (List.replicate 33 0),
      .svFrame 3 ⟨none, 0, 0, false, [⟨[], 0, 0, 0, [], []⟩]⟩, .svFrame 0 ⟨none, 0, 0, false, []⟩, .frameDropped 3,
      .arpIcmpRequest 3 1 0 [], .queuePost 16 [], .queueSelect 16 0, .queueRelease 16 [], .queueClearReturned 16 0,
      .subEnable 16 0 0, .subEnable 0 16 0, .subRelease 16 0 0, .subRelease 0 16 0, .missCounterClear 16 0 0,
      .missCounterClear 0 3 0, .rtMeasure 16 0 0, .rtMeasure 0 128 0, .rebalance 16 0, .plausClear 16 0, .traceArm 16,
      .traceManualTrigger 16, .traceStop 16, .coreRestart 16 0, .rampDownRequest 16 0, .islandClear 16 0 0, .islandClear 0 2 0,
      .gridModeWrite 16 0 0, .gridModeWrite 0 2 0] : List Instr).all (fun c => !c.wellFormed) = true := by decide +kernel

/-- Commands that fail one check each of `Instr.wellFormed`, part 5. -/
theorem test_ill_formed_5 :
    ([
      .scanAbort 16 0, .selfTestCommand 16 0 [], .selfTestCommand 0 16384 [], .scClearCommand 16 0, .scClearCommand 0 16384,
      .permanentBypassCommand 16 0, .permanentBypassCommand 0 16384, .releaseBypassCommand 16 0, .releaseBypassCommand 0 16384,
      .penWithoutBypassCommand 16 0, .penWithoutBypassCommand 0 16384, .clearRetirementCommand 16 0,
      .clearRetirementCommand 0 16384, .leafReadmit 16 0 0, .leafReadmit 0 16384 0, .readmitStep 16384, .rejoinRequest 16 0,
      .validate 16 0, .configCommit 16 0, .draftFromCommitted 16, .draftFromFactory 16, .hold 16, .charge 16, .run 16, .stop 16,
      .block 16, .discharge 16, .safeReset 16, .ptpSync 3 ⟨0, 0, 0, 0, 0⟩, .ptpAnnounce 3 ⟨0, 0, 0, 0, 0, 0, 0, 0, 0, 0, 0⟩,
      .announceReceiptTimeout 3 0, .ptpDelayReqSend 3 false 0] : List Instr).all (fun c => !c.wellFormed) = true := by decide +kernel

/-- Commands that fail one check each of `Instr.wellFormed`, part 6. -/
theorem test_ill_formed_6 :
    ([
      .ptpDelayResponse 3 ⟨0, 0, 0, 0⟩, .pdelayReqReceived 3 0 0 0 0, .tsEntryStale 3 0, .timeStepPermit 16 0, .timeSet 16 0,
      .timeIncrementWrite 16 0, .rateAdjustWrite 16 0, .refLost 2, .refRestored 2, .pllLock 5 0,
      .gridSample [⟨40, 0, 0, false, false⟩] 0, .channelClockCheck 40 0 false, .channelClockMissing 40, .channelDataStuck 40,
      .snapshotTrigger 16 0, .energyPreset 16 0 [], .energyPreset 0 2 [], .meterFlagsClear 16 0 0, .meterFlagsClear 0 2 0,
      .pulseEmit 4, .calChannels 16 0, .sarBackgroundConversion 4 0 0 false, .sarBackgroundConversion 0 8 0 false,
      .sarDataRead 16 0, .sarDataRead 0 4, .sarCal 16 0, .sarCalEnd 0 [⟨32, 0, 0, 0, 0⟩], .sarSelfCalEnd 4 false,
      .sensorDecimatorOutput 32 0 0 0, .comparatorChange 24 false, .blankingStart 24, .blankingEnd 24 false] : List Instr).all (fun c => !c.wellFormed) = true := by decide +kernel

/-- Commands that fail one check each of `Instr.wellFormed`, part 7. -/
theorem test_ill_formed_7 :
    ([
      .cmpClear 16 0, .pwmValley 12 0, .pwmDutyWrite 16 0 0, .pwmDutyWrite 0 12 0, .gpioOutWrite 16 0, .gpioEdge 32 false,
      .mbusRequest 16 [], .mbusTransactionEnd 7 [], .safetyInputChange 16 false false false, .sinDiscrepancyExpiry 16,
      .resetPress 16, .testPulse 4 false, .fastPathTest 26 0, .safetyReset 16 0, .safetySessionReset 16 0, .tripRelease 16 0,
      .safetyDemand 16 0, .safetySelftest 16 0, .safetyConfirm 16 0, .supplyMonitorTrip 7, .criticalStateParity 10, .coreReset 16,
      .systemReset 16, .fullReset 16, .resetSourceReleased 0, .resetSourceReleased 10, .optionLoadDone ⟨true, 3, 0, 0, 0, 0⟩,
      .optionLoadDone ⟨true, 0, 8, 0, 0, 0⟩, .unitDoze 27 false, .wakeEvent 5, .powerRetry 16 0, .powerMaxStateWrite 16 0] : List Instr).all (fun c => !c.wellFormed) = true := by decide +kernel

/-- Commands that fail one check each of `Instr.wellFormed`, part 8. -/
theorem test_ill_formed_8 :
    ([
      .nextDispatchWrite 16 0, .junctionTemperatureChange 2 0, .eventEmit 0 0 4 0 [], .eventEmit 0 0 0 0 (List.replicate 33 0),
      .logCursorWrite 16 0, .alarmAck 16 0, .pmcOverflow 32 0 none false, .pmcSettingsWrite 16 0 1 0, .pmcSettingsWrite 0 32 1 0,
      .pmcSettingsWrite 0 0 0 0, .pmcSettingsWrite 0 0 8 0, .pmcSettingsWrite 0 0 5 0, .pmcValueWrite 16 0 0,
      .pmcValueWrite 0 32 0, .pmcStatusClear 16 0, .pmcFreeze 16 0, .pmcSampleRelease 16 0, .histogramObservation 8 0 0,
      .histClear 16 0 0, .histClear 0 8 0, .debugChallenge 16, .debugUnlock 16 [], .debugLock 16 0, .laneBlockLockGained 128,
      .hostPortLinkChange 3 false, .pllLockLoss 5, .syncReceiptTimeout 3 0, .delayExchangeTimeout 3, .svStreamLossTimeout 8,
      .jtagAccess (.load 5), .clkoutAlignmentStep 4 0 false, .tripReadbackChange 4 false] : List Instr).all (fun c => !c.wellFormed) = true := by decide +kernel

/-! ### Worked examples of the spec -/

/-- Leaf 9,901 of the scope chapter: its index, its drove and its queues (R13, R15). -/
theorem test_names_of_leaf_9901 :
    keyIndex (Obj.LINK_STATE 9901) = 0x66AD ∧ keyIndex (Obj.DROVE_ENABLE 77) = 0x344D ∧ queueLeaf 158425 = 9901 ∧ queueClass 158425 = 9 := by
  decide

/-- A drove measured at 6.662 µs gives a shortest period of 79, and the loop and pair windows of the example follow (R26, R27). -/
theorem test_short_cabled_station :
    rd (showMinPeriod (flock [(Obj.ROUND_TRIP 0, 66620)])) Obj.MIN_PERIOD = 79 ∧ loopWindow 7900 = 7085 ∧ pairWindow 7900 = 12008 := by
  decide +kernel

/-- Segments of 1,016 and 936 bytes cost 16 and 15 units (R90). -/
theorem test_segment_cost : segCost 1016 = 16 ∧ segCost 936 = 15 := by decide

/-- CREDIT 32 is taken across the wrap; CREDIT 40 behind 48 is ignored and counted (R94). -/
theorem test_credit_wraps :
    (queueOf (creditArrives 1 32 (withQueue (fun q => { q with creditLimit := 65504, creditUsed := 65504 }) (flock []))) 1).creditNext = some 32
    ∧ rd (creditArrives 1 40 (withQueue (fun q => { q with creditLimit := 48, creditUsed := 47 }) (flock []))) Obj.CREDIT_INVALID = 1 := by
  decide +kernel

/-- Kind, capacitor voltage, state of charge, level before, port voltage and switch temperature of the twelve leaves of R130's arm. -/
def armRows : List (Nat × Nat × Nat × Nat × Nat × Nat) :=
  [(0, 18120, 0xFFFF, 1, 0, 4000), (0, 17880, 0xFFFF, 0, 0, 4000), (0, 18050, 0xFFFF, 1, 0, 4000), (0, 17790, 0xFFFF, 0, 0, 7800),
   (0, 18210, 0xFFFF, 1, 0, 4000), (0, 17960, 0xFFFF, 0, 0, 4000), (2, 18000, 5700, 1, 11040, 4000), (2, 17940, 5500, 0, 10980, 4000),
   (2, 18080, 5300, 1, 10900, 4000), (2, 17900, 5600, 0, 11010, 4000), (4, 18160, 0xFFFF, 0, 12400, 4000),
   (4, 17990, 0xFFFF, 1, 12365, 4000)]

/-- Leaf `L` with one row's samples of tide 1,000. -/
def armLeaf (L : Nat) (r : Nat × Nat × Nat × Nat × Nat × Nat) (s : State) : State :=
  let slow := List.replicate 32 0 ++ leBytes 2 r.2.2.2.2.2 ++ leBytes 2 0 ++ leBytes 2 0x8000 ++ leBytes 2 r.1 ++ leBytes 2 r.2.2.1
  setLeaf L (fun x => { x with levelPrev := r.2.2.2.1, slow := [(990, slow)] })
    (setRing 1000 L (leBytes 2 r.2.1 ++ leBytes 2 r.2.2.2.2.1 ++ List.replicate 6 0)
      (setTideBits 1000 L 0 (wr s (Obj.LEAF_KIND_CFG L) r.1)))

/-- The hybrid test arm on drove 5. -/
def testArm : State :=
  armRows.zipIdx.foldl (fun t p => armLeaf (640 + p.2) p.1 t)
    (up [(Obj.DROVE_ENABLE 5, 1), (Obj.DROVE_LEAVES 5, 12), (Obj.DROVE_ARM 5, 0), (Obj.SWITCH_BUDGET 0, 4),
      (Obj.PV_V_REF 650, 12400), (Obj.PV_V_REF 651, 12365), (Obj.RATED_DC_VOLTAGE, f32OfRat 21600)])

/-- Its demand: 13,720 V in four parts, and 80 kW of discharge. -/
def testDemand : Demand :=
  { vdc := puOf (1 / 2), vp := puOf (2300 / 21600), vq := puOf (500 / 21600), vcirc := puOf (120 / 21600), forecast := 2 ^ 20,
    battery := puOf (80000 / 1000000000), tide := 1002, flags := 5 }

/-- Its ranking. -/
def testRanking : Ranking := rank testArm 0 1000 stRunning true testDemand

/-- The order, the set with one deferred swap, and the edge on 649 (R115, R117, R121). -/
theorem test_arm_order_set_and_edge :
    testRanking.order.map (·.id) = [648, 651, 642, 641, 646, 647, 649, 640, 645, 643, 644, 650]
    ∧ testRanking.set = [648, 651, 642, 641, 646, 647, 640] ∧ testRanking.deferred = 1
    ∧ testRanking.edge.leaf = some 649 ∧ testRanking.edge.offset = 3777 := by decide +kernel

/-- The commands of the twelve leaves: MODE, `EDGE_OFFSET` and `SETPOINT` (R102, R123). -/
theorem test_arm_commands :
    testRanking.leaves.map (fun x => let c := activeSlot 1002 testArm testRanking x; (c.mode, c.edge, c.setpoint)) =
      [(0x01, 0, 0), (0x01, 0, 0), (0x01, 0, 0), (0x00, 0, 0), (0x00, 0, 0), (0x00, 0, 0), (0x11, 0, 375), (0x11, 0, 362),
        (0x11, 0, 350), (0x11, 3777, 369), (0x20, 0, 12400), (0x21, 0, 12365)] := by decide +kernel

/-- The chopper duty program of R156. -/
def chopper : ProgImage :=
  { code := [0x0C20006A, 0x14400000, 0x04600000, 0x5C411800, 0x18020000, 0x04800001, 0x24A22000, 0x04C00002, 0x28A53000, 0x38A50000,
      0x04E00003, 0x34A53800, 0x10050000, 0x70000000], consts := [0x3E4CCCCD, 0x3F866666, 0x41A00000, 0x3F800000], data := 1, engine := 6 }

/-- It is valid and takes 48 FAB cycles at worst. -/
theorem test_chopper_worst_case : progValid chopper = true ∧ progWcet chopper = 48 := by decide +kernel

/-- One run of it from a filter state, at a DC voltage of 1.12 pu: the new filter state and the duty, in units of 10⁻⁵ and 10⁻⁴. -/
def chopRun (state : Nat) : Nat × Int × Int :=
  let r := loopRun chopper.consts [] ((List.replicate 256 0).set 106 (f32OfRat (112 / 100))) (f32OfRat (1 / 100000)) 0 chopper.code
    { regs := List.replicate 32 0, pf := false, data := [state], out := List.replicate 64 0, numeric := 0 }
  (getD' r.data 0 0, (f32ToRat (getD' r.data 0 0) * 100000).floor, (f32ToRat (getD' r.out 0 0) * 10000).floor)

/-- The filter state reads 1.024, 1.0432 and 1.05856, and the duty 0.0, 0.0 and 0.1712. -/
theorem test_chopper_runs :
    (chopRun 0x3F800000).2 = (102400, 0) ∧ (chopRun (chopRun 0x3F800000).1).2 = (104320, 0)
    ∧ (chopRun (chopRun (chopRun 0x3F800000).1).1).2 = (105856, 1712) := by decide +kernel

/-- A duty of 0.1712 compares at 10,957 / 32 counts; one below 0.16 leaves too short a pulse (R411, R412). -/
theorem test_pwm_compare :
    pwmPeriod 2000 25600 6400 40 (1712 / 10000) = (10957, false) ∧ pwmPeriod 2000 25600 6400 40 (1599 / 10000) = (0, true) := by
  decide +kernel

/-- 800 MW exported and 150 Mvar absorbed over one grid sample (R379). -/
theorem test_energy_of_a_sample :
    rd (addPower 0 800000000 (-150000000) (1 / 16000) (up [])) (energyKey 0 0) = 13888
    ∧ rd (addPower 0 800000000 (-150000000) (1 / 16000) (up [])) (energyKey 0 5) = 2604 := by decide +kernel

/-- Counter 4 of R499: the overflow takes the preload, and a clear of its bit on the same edge leaves the bit set. -/
theorem test_pmc_overflow_meets_a_clear :
    ∃ t, exec (.pmcOverflow 4 1 none true) (up [(Obj.PMC_SAMPLE 4, 1), (Obj.PMC_PRELOAD 4, 0xFFFFFC18), (Obj.PMC_VALUE 4, 0xFFFFFFFF),
        (Obj.PMC_STATUS, 16)]) = .next t ∧ rd t (Obj.PMC_VALUE 4) = 0xFFFFFC18 ∧ rd t Obj.PMC_STATUS = 16 := ⟨_, rfl, by decide +kernel⟩

/-- An overflow and a write of 0 on one edge: the counter takes 0 and the bit is set (R499). -/
theorem test_pmc_overflow_meets_a_write :
    ∃ t, exec (.pmcOverflow 4 1 (some 0) false) (up [(Obj.PMC_SAMPLE 4, 1), (Obj.PMC_VALUE 4, 0xFFFFFFFF)]) = .next t
      ∧ rd t (Obj.PMC_VALUE 4) = 0 ∧ rd t Obj.PMC_STATUS = 16 := ⟨_, rfl, by decide +kernel⟩

/-- A factory draft fails with code 0x03, because no drove is enabled (R341). -/
theorem test_factory_draft_fails_topology :
    (validateImage (up []) Image.factory).1 = 0x03 ∧ (validateImage (up []) Image.factory).2.key = Obj.DROVE_ENABLE 0 := by
  decide +kernel

/-- The published check value of CRC-32C over "123456789" (R289). -/
theorem test_crc32c_check_value : crc32c [0x31, 0x32, 0x33, 0x34, 0x35, 0x36, 0x37, 0x38, 0x39] = 0xE3069283 := by decide +kernel

/-- A step takes the front command and leaves the rest of the queue. -/
theorem test_step_takes_the_front :
    ∃ t, step { up [] with pending := [.scrubLine 1 0 0 ⟨1, 0, 0, 0, 0, false⟩ false, .pwmValley 0 0] } = .next t
      ∧ t.pending = [.pwmValley 0 0] := ⟨_, rfl, by decide +kernel⟩

/-! ### Witnesses -/

/-- The unlock request of that engineer passes its checks, whatever its 32 bytes are. -/
theorem unlock_passes (mac : List Byte) (h : mac.length = 32) : Passes 0 Obj.DEBUG_UNLOCK mac unlocking := by
  have h1 : presentRow (optionCode (booked 0 unlocking)) (keyIndex Obj.DEBUG_UNLOCK) (keySub Obj.DEBUG_UNLOCK) = some (rowOf Obj.DEBUG_UNLOCK) := by decide +kernel
  have h2 : (rowOf Obj.DEBUG_UNLOCK).acc ≠ .ro := by decide +kernel
  have h3 : roleMay (booked 0 unlocking) 0 Obj.DEBUG_UNLOCK (rowOf Obj.DEBUG_UNLOCK) = true := by decide +kernel
  have h4 : tokenGoverns (booked 0 unlocking) 0 Obj.DEBUG_UNLOCK = false := by decide +kernel
  have h5 : stateMay (booked 0 unlocking) 0 Obj.DEBUG_UNLOCK (rowOf Obj.DEBUG_UNLOCK) = true := by decide +kernel
  have hk : objKey (keyIndex Obj.DEBUG_UNLOCK) (keySub Obj.DEBUG_UNLOCK) = Obj.DEBUG_UNLOCK := by decide
  have h6 : safetyForbids (booked 0 unlocking) Obj.DEBUG_UNLOCK mac = false := by
    simp [safetyForbids, show decide (0x4000 ≤ keyIndex Obj.DEBUG_UNLOCK) = false by decide, show Obj.DEBUG_UNLOCK ≠ Obj.STATE_REQUEST by decide]
  have h7 : (rowOf Obj.DEBUG_UNLOCK).ty = .domain := by decide +kernel
  have h8 : domainLength Obj.DEBUG_UNLOCK mac.length = true := by rw [h]; decide
  simp [Passes, writeChecks, h1, h2, h3, hk, h4, lateChecks, h5, h6, lengthOk, rangeOk, h7, h8]

/-- States and operands that meet the hypotheses of `StepRunsFrontCommand`, clause by clause. -/
theorem witness_StepRunsFrontCommand :
    ∃ c : Instr, ∃ rest : List Instr, ∃ s : State, s.pending = c :: rest :=
  ⟨.hold 0, [], { up [] with pending := [.hold 0] }, by decide +kernel⟩

/-- States and operands that meet the hypotheses of `EmptyQueuePassesOneTimeEdge`, clause by clause. -/
theorem witness_EmptyQueuePassesOneTimeEdge :
    (∃ s : State, s.pending = [] ∧ alive s .time = true)
    ∧ ∃ s : State, s.pending = [] ∧ alive s .time = false ∧ s.cove.alive = true :=
  ⟨⟨up [], by decide +kernel⟩,
    ⟨{ State.reset with cove := { State.reset.cove with alive := true } }, by decide +kernel⟩⟩

/-- States and operands that meet the hypotheses of `StepKeepsCanonicalState`, clause by clause. -/
theorem witness_StepKeepsCanonicalState :
    ∃ s : State, ∃ t : State, s.Canonical ∧ step s = .next t :=
  ⟨State.reset, idle State.reset, by constructor <;> decide +kernel, rfl⟩

/-- States and operands that meet the hypotheses of `ResetStateIsCanonical`, clause by clause. -/
theorem witness_ResetStateIsCanonical :
    ∃ j, j ≠ Obj.COVE_STATUS :=
  ⟨0, by decide +kernel⟩

/-- States and operands that meet the hypotheses of `OnlyTheDebugPortStops`, clause by clause. -/
theorem witness_OnlyTheDebugPortStops :
    (∃ u : Nat, ∃ s : State, debugOpen s = true ∧ u < 31)
    ∧ (∃ region : Nat, ∃ addr : Nat, ∃ _v : Byte, ∃ s : State, s.Canonical ∧ debugOpen s = true ∧ region ≠ 19 ∧ addr < regionSize
      region ∧ poisoned s region addr = false)
    ∧ (∃ region : Nat, ∃ addr : Nat, ∃ _v : Byte, ∃ s : State, s.Canonical ∧ debugOpen s = true ∧ region ≠ 19 ∧ addr < regionSize
      region ∧ poisoned s region addr = false ∧ region ≠ 8 ∧ region ≠ 2 ∧ descriptorAt region addr = none)
    ∧ ∃ acc : JtagOp, ∃ s : State, debugOpen s = false ∧ (∀ i, acc ≠ .load i) :=
  ⟨⟨30, up [(Obj.DEBUG_STATE, 1)], by decide +kernel⟩,
    ⟨8, 9, 5, up [(Obj.DEBUG_STATE, 1)], by constructor <;> decide +kernel, by decide +kernel⟩,
    ⟨18, 9, 5, up [(Obj.DEBUG_STATE, 1)], by constructor <;> decide +kernel, by decide +kernel⟩,
    ⟨.halt 0, up [], by decide +kernel, fun i h => by cases h⟩⟩

/-- States and operands that meet the hypotheses of `TimeRunsToTheFirstEdge`, clause by clause. -/
theorem witness_TimeRunsToTheFirstEdge :
    (∃ _target : Nat, ∃ s : State, 0 < s.time.inc)
    ∧ (∃ target : Nat, ∃ s : State, 0 < s.time.inc ∧ s.time.acc < target)
    ∧ (∃ target : Nat, ∃ s : State, 0 < s.time.inc ∧ target ≤ s.time.acc)
    ∧ ∃ _target : Nat, ∃ s : State, 0 < s.time.inc ∧ ∃ j, j ≠ Obj.DOZE_TIME ∧ j ≠ Obj.PMC_STATUS ∧ j ≠ Obj.PMC_SAMPLES_LOST ∧ (∀ c, c <
      32 → j ≠ Obj.PMC_VALUE c) :=
  ⟨⟨5, up [], by decide +kernel⟩,
    ⟨5, up [], by decide +kernel⟩,
    ⟨0, up [], by decide +kernel⟩,
    ⟨5, up [], by decide +kernel, 0, by decide +kernel⟩⟩

/-- States and operands that meet the hypotheses of `TideStartBeginsTheNextTide`, clause by clause. -/
theorem witness_TideStartBeginsTheNextTide :
    ∃ _samples : List (Nat × Int), ∃ s : State, alive s .time = true ∧ rd s Obj.POWER_STATE ≠ 3 ∧ s.time.silence = none ∧ 0 <
      s.time.inc :=
  ⟨[], up [], by decide +kernel⟩

/-- States and operands that meet the hypotheses of `MarksRunAtTheirInstants`, clause by clause. -/
theorem witness_MarksRunAtTheirInstants :
    (∃ _missed : List Nat, ∃ s : State, alive s .time = true ∧ alive s .processing = true)
    ∧ (∃ _late : List Nat, ∃ s : State, alive s .time = true ∧ alive s .processing = true)
    ∧ (∃ _missed : List Nat, ∃ s : State, alive s .time = true ∧ alive s .processing = true ∧ 0 < tideNow s)
    ∧ ∃ s : State, alive s .fabric = true ∧ stHeld ≤ station s :=
  ⟨⟨[], up [], by decide +kernel⟩,
    ⟨[], up [], by decide +kernel⟩,
    ⟨[], up [(Obj.TIDE_NUMBER, 1)], by decide +kernel⟩,
    ⟨inState stHeld [], by decide +kernel⟩⟩

/-- States and operands that meet the hypotheses of `CutoffRepeatsThePreviousCommand`, clause by clause. -/
theorem witness_CutoffRepeatsThePreviousCommand :
    ∃ _missed : List Nat, ∃ s : State, alive s .time = true ∧ alive s .fabric = true ∧ rd s Obj.CUTOFF_MISSES ≤ 2 ^ 32 - 1 :=
  ⟨[0], flock [], by decide +kernel⟩

/-- States and operands that meet the hypotheses of `TideFrameReturnIsJudged`, clause by clause. -/
theorem witness_TideFrameReturnIsJudged :
    (∃ ret : TideReturn, ∃ s : State, alive s .fabric = true ∧ ret.d < 128 ∧ droveOn s ret.d = true ∧ (if ret.bridged then (droveOf s
      ret.d).launchedBr else (droveOf s ret.d).launched) = true ∧ ret.arrive ≤ rd s Obj.RETURN_DEADLINE * 10 ∧ verdict s ret.d
      ret.bytes = 1)
    ∧ (∃ ret : TideReturn, ∃ s : State, alive s .fabric = true ∧ ret.d < 128 ∧ droveOn s ret.d = true ∧ (if ret.bridged then (droveOf s
      ret.d).launchedBr else (droveOf s ret.d).launched) = true ∧ ret.arrive ≤ rd s Obj.RETURN_DEADLINE * 10 ∧ verdict s ret.d
      ret.bytes = 2)
    ∧ (∃ ret : TideReturn, ∃ s : State, alive s .fabric = true ∧ ret.d < 128 ∧ droveOn s ret.d = true ∧ (if ret.bridged then (droveOf s
      ret.d).launchedBr else (droveOf s ret.d).launched) = true ∧ ret.arrive ≤ rd s Obj.RETURN_DEADLINE * 10 ∧ verdict s ret.d
      ret.bytes = 0)
    ∧ ∃ ret : TideReturn, ∃ s : State, rd s Obj.RETURN_DEADLINE * 10 < ret.arrive :=
  ⟨⟨{ d := 0, bridged := false, bytes := inverted (flock []) 0 (List.replicate 16 0), arrive := 0, loop := 0 }, withDrove (fun x =>
      { x with launched := true }) (flock []), by decide +kernel⟩,
    ⟨{ d := 0, bridged := true, bytes := [0], arrive := 0, loop := 0 }, withDrove (fun x => { x with launchedBr := true }) (flock []),
      by decide +kernel⟩,
    ⟨{ d := 0, bridged := false, bytes := checked (flock []) 0 (List.replicate 24 0), arrive := 0, loop := 0 }, withDrove (fun x =>
      { x with launched := true }) (flock []), by decide +kernel⟩,
    ⟨{ d := 0, bridged := false, bytes := [0], arrive := 1000000000, loop := 0 }, flock [], by decide +kernel⟩⟩

/-- States and operands that meet the hypotheses of `SlackWaterFrames`, clause by clause. -/
theorem witness_SlackWaterFrames :
    (∃ d : Nat, ∃ gap : Nat, ∃ lvl : Nat, ∃ L : Nat, ∃ s : State, alive s .fabric = true ∧ slackOpen s d = true ∧ 64 ≤ slackRoom s d
      gap ∧ slackChoice s d (slackRoom s d gap) = some (lvl, L))
    ∧ (∃ ret : SlackReturn, ∃ s : State, alive s .fabric = true ∧ ret.d < 128 ∧ leafOn s (ret.d * 128 + ret.target) = true ∧ verdict s
      ret.d ret.bytes ≠ 0)
    ∧ ∃ ret : SlackReturn, ∃ s : State, alive s .fabric = true ∧ ret.d < 128 ∧ leafOn s (ret.d * 128 + ret.target) = true ∧ verdict s
      ret.d ret.bytes = 0 :=
  ⟨⟨0, 0, 3, 0, withLeaf (fun x => { x with pollDue := true }) (flock [(Obj.TURN_PLAN 0, 0x03FF)]), by decide +kernel⟩,
    ⟨{ d := 0, target := 0, bytes := [0] }, flock [], by decide +kernel⟩,
    ⟨{ d := 0, target := 0, bytes := checked (flock []) 0 (List.replicate 24 0) }, flock [], by decide +kernel⟩⟩

/-- States and operands that meet the hypotheses of `LaneLockPhaseAndMeasurements`, clause by clause. -/
theorem witness_LaneLockPhaseAndMeasurements :
    (∃ d : Nat, ∃ s : State, alive s .link = true ∧ d < droveCount s ∧ d < 128)
    ∧ (∃ d : Nat, ∃ s : State, alive s .link = true ∧ d < droveCount s)
    ∧ (∃ d : Nat, ∃ phase : Nat, ∃ r : Nat, ∃ s : State, alive s .link = true ∧ (droveOf s d).phaseRef = some r ∧ (droveOf s
      d).phaseRenew = false ∧ phaseDrift (phase % 64) r = false)
    ∧ (∃ d : Nat, ∃ phase : Nat, ∃ r : Nat, ∃ s : State, alive s .link = true ∧ (droveOf s d).phaseRef = some r ∧ (droveOf s
      d).phaseRenew = false ∧ phaseDrift (phase % 64) r = true)
    ∧ (∃ d : Nat, ∃ _phase : Nat, ∃ r : Nat, ∃ s : State, alive s .link = true ∧ (droveOf s d).phaseRef = some r ∧ (droveOf s
      d).phaseRenew = true)
    ∧ (∃ d : Nat, ∃ _phase : Nat, ∃ s : State, (droveOf s d).phaseRef = none)
    ∧ (∃ d : Nat, ∃ _phase : Nat, ∃ n : Nat, ∃ s : State, alive s .fabric = true ∧ d < 128 ∧ (droveOf s d).measure = some n ∧ (droveOf
      s d).measBad = false ∧ (droveOf s d).measMax ≠ 0 ∧ station s = stHeld ∧ measureTides ≤ n)
    ∧ (∃ d : Nat, ∃ _phase : Nat, ∃ n : Nat, ∃ s : State, alive s .fabric = true ∧ d < 128 ∧ (droveOf s d).measure = some n ∧ (droveOf
      s d).measBad = true)
    ∧ (∃ d : Nat, ∃ m : Int, ∃ s : State, alive s .fabric = true ∧ (droveOf s d).margin = some m)
    ∧ (∃ d : Nat, ∃ s : State, alive s .fabric = true ∧ (droveOf s d).loopCount ≠ 0 ∧ 1024 ≤ (droveOf s d).loopTides)
    ∧ ∃ pair : Nat, ∃ s : State, alive s .fabric = true ∧ pairOn s (2 * pair) = true ∧ bridgeSilent s (2 * pair) = true ∧ bridgeSilent
      s (2 * pair + 1) = true :=
  ⟨⟨0, up [], by decide +kernel⟩,
    ⟨63, up [], by decide +kernel⟩,
    ⟨0, 70, 0, withDrove (fun x => { x with phaseRef := some 0, phaseRenew := false }) (flock []), by decide +kernel⟩,
    ⟨0, 32, 0, withDrove (fun x => { x with phaseRef := some 0, phaseRenew := false }) (flock []), by decide +kernel⟩,
    ⟨0, 32, 0, withDrove (fun x => { x with phaseRef := some 0, phaseRenew := true }) (flock []), by decide +kernel⟩,
    ⟨0, 3, up [], by decide +kernel⟩,
    ⟨0, 3, 4096, withDrove (fun x => { x with measure := some 4096, measMax := 1, measBad := false }) (flock [(Obj.STATION_STATE,
      stHeld)]), by decide +kernel⟩,
    ⟨0, 3, 0, withDrove (fun x => { x with measure := some 0, measBad := true }) (flock []), by decide +kernel⟩,
    ⟨0, 5, withDrove (fun x => { x with margin := some 5 }) (flock []), by decide +kernel⟩,
    ⟨0, withDrove (fun x => { x with loopCount := 1, loopTides := 1024, loopSum := 4 }) (flock []), by decide +kernel⟩,
    ⟨0, (let s := flock [(Obj.BRIDGE_ENABLE 0, 1), (Obj.BRIDGE_ENABLE 1, 1), (Obj.DROVE_ENABLE 1, 1), (Obj.DROVE_LEAVES 1, 1)];
      { s with time := { s.time with acc := 10 * secUnit } }), by decide +kernel⟩⟩

/-- States and operands that meet the hypotheses of `QueueTimers`, clause by clause. -/
theorem witness_QueueTimers :
    (∃ id : Nat, ∃ s : State, alive s .fabric = true ∧ leafBound (queueClass id) = true ∧ (queueOf s id).unacked = true)
    ∧ (∃ _L : Nat, ∃ s : State, alive s .fabric = true)
    ∧ (∃ leaf : Nat, ∃ s : State, alive s .fabric = true ∧ leafOn s leaf = true ∧ (leafOf s leaf).stray = true)
    ∧ ∃ d : Nat, ∃ s : State, alive s .fabric = true ∧ droveOn s d = true ∧ rejoinReady s d = true :=
  ⟨⟨1, withQueue (fun q =>
      { q with msgs := [{ seq := 0, body := [], tide := 0, lost := false, back := false }], highSeq := 1, nextSeq := 1 }) (flock []),
      by decide +kernel⟩,
    ⟨0, flock [], by decide +kernel⟩,
    ⟨0, withLeaf (fun x => { x with stray := true }) (flock []), by decide +kernel⟩,
    ⟨0, withDrove (fun x => { x with faulted := true, rejoinAsk := true, locked := true }) (flock [(Obj.TURN_PLAN 0, 0xFFFFFFFF),
      (Obj.BW_STATUS, 0)]), by decide +kernel⟩⟩

/-- States and operands that meet the hypotheses of `PenningsTakeTheirCause`, clause by clause. -/
theorem witness_PenningsTakeTheirCause :
    (∃ leaf : Nat, ∃ _cause : Nat, ∃ _reason : Nat, ∃ s : State, alive s .fabric = true ∧ leafOn s leaf = true)
    ∧ (∃ leaf : Nat, ∃ s : State, alive s .fabric = true ∧ (leafOf s leaf).stray = true)
    ∧ ∃ leaf : Nat, ∃ s : State, alive s .fabric = true ∧ (leafOf s leaf).admitting = true :=
  ⟨⟨0, 8, 1, flock [], by decide +kernel⟩,
    ⟨0, withLeaf (fun x => { x with stray := true }) (flock []), by decide +kernel⟩,
    ⟨0, withLeaf (fun x => { x with admitting := true }) (flock []), by decide +kernel⟩⟩

/-- States and operands that meet the hypotheses of `FoldTimers`, clause by clause. -/
theorem witness_FoldTimers :
    (∃ leaf : Nat, ∃ s : State, alive s .fabric = true ∧ penned s leaf = true ∧ (leafOf s leaf).penDone = false ∧ (leafOf s
      leaf).bypassCmd = false)
    ∧ (∃ leaf : Nat, ∃ s : State, alive s .fabric = true ∧ penned s leaf = true ∧ (leafOf s leaf).bypassCmd = true ∧ bit (rd s
      (Obj.PROT_FLAGS leaf)) 3 = false)
    ∧ (∃ leaf : Nat, ∃ s : State, alive s .fabric = true ∧ 1 ≤ (leafOf s leaf).readmit ∧ (leafOf s leaf).readmit ≤ 3)
    ∧ (∃ leaf : Nat, ∃ s : State, alive s .fabric = true ∧ (leafOf s leaf).readmit = 1 ∧ (leafOf s leaf).readmitAcked = true)
    ∧ (∃ leaf : Nat, ∃ s : State, alive s .fabric = true ∧ (leafOf s leaf).readmit = 3 ∧ (leafOf s leaf).accepted = true)
    ∧ ∃ leaf : Nat, ∃ s : State, alive s .fabric = true ∧ (leafOf s leaf).readmit = 4 ∧ (leafOf s leaf).admitting = false ∧ rd s
      (Obj.LEAF_RANK_STATE leaf) = rkEligible :=
  ⟨⟨0, flock [(Obj.PROT_FLAGS 0, 64)], by decide +kernel⟩,
    ⟨0, withLeaf (fun x => { x with bypassCmd := true }) (flock [(Obj.PROT_FLAGS 0, 64)]), by decide +kernel⟩,
    ⟨0, withLeaf (fun x => { x with readmit := 3 }) (flock [(Obj.PROT_FLAGS 0, 64)]), by decide +kernel⟩,
    ⟨0, withLeaf (fun x => { x with readmit := 1, readmitAcked := true }) (flock [(Obj.PROT_FLAGS 0, 64)]), by decide +kernel⟩,
    ⟨0, withLeaf (fun x => { x with readmit := 3, accepted := true }) (flock [(Obj.PROT_FLAGS 0, 64)]), by decide +kernel⟩,
    ⟨0, withLeaf (fun x => { x with readmit := 4, admitting := false }) (flock [(Obj.LEAF_RANK_STATE 0, rkEligible)]),
      by decide +kernel⟩⟩

/-- States and operands that meet the hypotheses of `ProtectionTimers`, clause by clause. -/
theorem witness_ProtectionTimers :
    (∃ leaf : Nat, ∃ s : State, alive s .fabric = true ∧ 0 < (leafOf s leaf).scDelays ∧ blockInForce s = true)
    ∧ (∃ leaf : Nat, ∃ s : State, alive s .fabric = true ∧ 0 < (leafOf s leaf).scDelays ∧ blockInForce s = false ∧ armOf s leaf < 12 ∧
      1 ≤ rd s (Obj.SHEPHERD_STATE (armOf s leaf)) ∧ (queueOf s (leaf * 16 + 1)).qstate = 1 ∧ postFits s (leaf * 16 + 1) 4 = true)
    ∧ (∃ leaf : Nat, ∃ s : State, alive s .fabric = true ∧ (leafOf s leaf).uvWait ≠ [])
    ∧ (∃ leaf : Nat, ∃ s : State, alive s .fabric = true ∧ bit (rd s (Obj.PROT_FLAGS leaf)) 5 = true)
    ∧ ∃ _family : Nat, ∃ _source : Nat, ∃ s : State, alive s .fabric = true ∧ s.Canonical :=
  ⟨⟨0, withLeaf (fun x => { x with scDelays := 1 }) (flock [(Obj.BW_STATUS, 16)]), by decide +kernel⟩,
    ⟨0, withLeaf (fun x => { x with scDelays := 1 }) (withQueue id (flock [(Obj.SHEPHERD_STATE 0, 1), (Obj.BW_STATUS, 0)])),
      by decide +kernel⟩,
    ⟨0, withLeaf (fun x => { x with uvWait := [0] }) (flock []), by decide +kernel⟩,
    ⟨0, flock [(Obj.PROT_FLAGS 0, 32)], by decide +kernel⟩,
    ⟨0, 0, up [], by decide +kernel, by constructor <;> decide +kernel⟩⟩

/-- States and operands that meet the hypotheses of `StoreEvents`, clause by clause. -/
theorem witness_StoreEvents :
    (∃ region : Nat, ∃ _addr : Nat, ∃ _spot : MemError, ∃ s : State, alive s .fabric = true ∧ 1 ≤ region ∧ region ≤ 8)
    ∧ (∃ s : State, alive s .fabric = true)
    ∧ (∃ region : Nat, ∃ _addr : Nat, ∃ s : State, 1 ≤ region ∧ region ≤ 19 ∧ parityRegion region = false ∧ alive s (regionDomain
      region) = true)
    ∧ (∃ bank : Nat, ∃ s : State, alive s .fabric = true ∧ bank < 64)
    ∧ (∃ e : MemError, ∃ s : State, 1 ≤ e.region ∧ e.region ≤ 19 ∧ alive s (regionDomain e.region) = true ∧ e.again = false)
    ∧ (∃ e : MemError, ∃ s : State, 1 ≤ e.region ∧ e.region ≤ 19 ∧ alive s (regionDomain e.region) = true ∧ e.again = true ∧ poisoned s
      e.region e.addr = true)
    ∧ (∃ k : Nat, ∃ n : Nat, ∃ xs : List SubLeaf, ∃ rest : List (Nat × List SubLeaf), ∃ s : State, alive s .fabric = true ∧ (subOf s
      k).ready = (n, xs) :: rest ∧ ∃ late : Bool, (late = true ∨ windowGone s k n = true))
    ∧ ∃ k : Nat, ∃ n : Nat, ∃ xs : List SubLeaf, ∃ rest : List (Nat × List SubLeaf), ∃ s : State, alive s .fabric = true ∧ (subOf s
      k).ready = (n, xs) :: rest ∧ windowGone s k n = false ∧ (sumNat ((subOf s k).ring.map (fun p => p.2.length)) + (subRecord s k n
      xs).length ≤ subRingBytes) :=
  ⟨⟨8, 0, { region := 1, addr := 0, kind := 0, inst := 0, detail := 0, again := false }, up [], by decide +kernel⟩,
    ⟨up [], by decide +kernel⟩,
    ⟨19, 0, up [], by decide +kernel⟩,
    ⟨63, up [], by decide +kernel⟩,
    ⟨{ region := 19, addr := 0, kind := 0, inst := 0, detail := 0, again := false }, up [], by decide +kernel⟩,
    ⟨{ region := 2, addr := 0, kind := 0, inst := 0, detail := 0, again := true },
      { up [] with poison := [{ key := wordKey 2 0, region := 2, kind := 0, inst := 0, detail := 0 }] }, by decide +kernel⟩,
    ⟨0, 1, [], [], { up [] with subs := (up []).subs.modify 0 (fun x => { x with ready := [(1, [])] }) },
      by refine ⟨?_, ?_, true, ?_⟩ <;> decide +kernel⟩,
    ⟨0, 1, [], [], { up [] with subs := (up []).subs.modify 0 (fun x => { x with ready := [(1, [])] }) }, by decide +kernel⟩⟩

/-- States and operands that meet the hypotheses of `ControlUnitFailures`, clause by clause. -/
theorem witness_ControlUnitFailures :
    (∃ p : Nat, ∃ s : State, alive s .processing = true ∧ pairLive s p = true)
    ∧ (∃ e : Nat, ∃ s : State, alive s .fabric = true ∧ engineLive s e = true)
    ∧ (∃ unit : Nat, ∃ _passed : Bool, ∃ s : State, alive s .processing = true ∧ unit < 12 ∧
      let key := if unit < 4 then Obj.PAIR_STATE unit else Obj.ENGINE_STATE (unit - 4); rd s key = usSelfTest)
    ∧ (∃ p : Nat, ∃ s : State, pairLive s p = false ∧ rd s (Obj.PAIR_STATE p) ≠ usRestarting)
    ∧ ∃ e : Nat, ∃ s : State, engineLive s e = false :=
  ⟨⟨0, up [(Obj.PAIR_STATE 0, usActive)], by decide +kernel⟩,
    ⟨7, up [(Obj.ENGINE_STATE 7, usStandby)], by decide +kernel⟩,
    ⟨11, true, up [(Obj.ENGINE_STATE 7, usSelfTest)], by refine ⟨?_, ?_, ?_⟩ <;> decide +kernel⟩,
    ⟨3, up [(Obj.PAIR_STATE 3, usRetired)], by decide +kernel⟩,
    ⟨8, up [], by decide +kernel⟩⟩

/-- States and operands that meet the hypotheses of `CapacityLossCoastAndRampDown`, clause by clause. -/
theorem witness_CapacityLossCoastAndRampDown :
    (∃ i : Nat, ∃ s : State, alive s .processing = true ∧ i < 5 ∧ itemLost s i = true ∧ (station s = stRunning ∨ station s =
      stRideThrough))
    ∧ (∃ i : Nat, ∃ s : State, alive s .processing = true ∧ i < 5 ∧ itemLost s i = true ∧ station s = stCoast)
    ∧ (∃ i : Nat, ∃ s : State, alive s .processing = true ∧ i < 5 ∧ itemLost s i = true ∧ station s = stRampDown)
    ∧ (∃ i : Nat, ∃ s : State, alive s .processing = true ∧ 5 ≤ i ∧ legPresent s (i - 5) = true ∧ engineLive s (unitOf s.cl.legs (i -
      5)) = false ∧ stCharging ≤ station s ∧ station s ≤ stRampDown)
    ∧ (∃ s : State, alive s .processing = true ∧ s.cl.serving = false)
    ∧ (∃ s : State, ∃ t0 : Nat, alive s .fabric = true ∧ s.cl.coastFrom = some t0 ∧ station s = stCoast ∧ s.cl.coastDone = false ∧ 0 <
      s.time.inc)
    ∧ (∃ s : State, alive s .fabric = true ∧ station s = stRampDown ∧ rampedDown s = true)
    ∧ (∃ s : State, ∃ t0 : Nat, alive s .fabric = true ∧ station s = stRampDown ∧ s.cl.rampFrom = some t0 ∧ 0 < s.time.inc)
    ∧ ∃ s : State, station s ≠ stRampDown :=
  ⟨⟨0,
      { inState stRunning [(Obj.DROVE_ENABLE 0, 1), (Obj.DROVE_LEAVES 0, 4), (Obj.DROVE_ARM 0, 0)] with cl := { (up []).cl with serving := true, items := List.replicate 5 noUnit } },
      by decide +kernel⟩,
    ⟨4, { inState stCoast [] with cl := { (up []).cl with serving := true, items := List.replicate 5 noUnit } }, by decide +kernel⟩,
    ⟨4, { inState stRampDown [] with cl := { (up []).cl with serving := true, items := List.replicate 5 noUnit } }, by decide +kernel⟩,
    ⟨5,
      { inState stRunning [(Obj.DROVE_ENABLE 0, 1), (Obj.DROVE_LEAVES 0, 4), (Obj.DROVE_ARM 0, 0)] with cl := { (up []).cl with legs := List.replicate 6 noUnit } },
      by decide +kernel⟩,
    ⟨{ inState stRunning [] with cl := { (up []).cl with serving := false } }, by decide +kernel⟩,
    ⟨{ inState stCoast [] with cl := { (up []).cl with coastFrom := some 0 } }, 0, by decide +kernel⟩,
    ⟨{ inState stRampDown [] with cl := { (up []).cl with calmFrom := some 0 }, time := { (up []).time with acc := 1000000 * nsUnit } },
      by decide +kernel⟩,
    ⟨{ inState stRampDown [] with cl := { (up []).cl with rampFrom := some 0 } }, 0, by decide +kernel⟩,
    ⟨inState stRunning [], by decide +kernel⟩⟩

/-- States and operands that meet the hypotheses of `TraceTriggerAndArming`, clause by clause. -/
theorem witness_TraceTriggerAndArming :
    (∃ code : Nat, ∃ s : State, alive s .fabric = true ∧ rd s Obj.TRACE_STATE = trArmed ∧ traceCondition s code = true)
    ∧ (∃ _code : Nat, ∃ s : State, rd s Obj.TRACE_STATE ≠ trArmed)
    ∧ (∃ s : State, alive s .fabric = true ∧ rd s Obj.TRACE_STATE = trArming ∧ (∀ ch, ch ∈ traceChannels s → tracePre s ≤ (getD'
      s.trace.chans ch []).length))
    ∧ ∃ s : State, ∃ ch : Nat, ch ∈ traceChannels s ∧ (getD' s.trace.chans ch []).length < tracePre s :=
  ⟨⟨0, up [(Obj.TRACE_STATE, trArmed), (Obj.TRACE_TRIGGER_KIND, 3)], by decide +kernel⟩,
    ⟨0, up [(Obj.TRACE_STATE, trArming)], by decide +kernel⟩,
    ⟨up [(Obj.TRACE_STATE, trArming)], by decide +kernel⟩,
    ⟨up [(Obj.TRACE_STATE, trArming), (Obj.TRACE_SOURCE 0, 2 ^ 24), (Obj.TRACE_PRETRIGGER, 50)], 0, by decide +kernel⟩⟩

/-- States and operands that meet the hypotheses of `VoltageSamples`, clause by clause. -/
theorem witness_VoltageSamples :
    (∃ c : Nat, ∃ _src : Nat, ∃ m : PocSample, ∃ s : State, (m.good = false ∨ m.ns + lossNs s c < nowNs s ∨ station s < stHeld))
    ∧ (∃ c : Nat, ∃ src : Nat, ∃ m : PocSample, ∃ s : State, alive s .fabric = true ∧ c < 2 ∧ src < 3 ∧ c < s.convs.length ∧ src <
      (conv s c).seen.length ∧ stHeld ≤ station s ∧ m.good = true ∧ nowNs s ≤ m.ns + lossNs s c ∧ takesSource s c src = false)
    ∧ ∃ c : Nat, ∃ src : Nat, ∃ m : PocSample, ∃ s : State, alive s .fabric = true ∧ c < 2 ∧ src < 3 ∧ c < s.convs.length ∧ src < (conv
      s c).seen.length ∧ stHeld ≤ station s ∧ m.good = true ∧ nowNs s ≤ m.ns + lossNs s c ∧ takesSource s c src = true :=
  ⟨⟨0, 0, { va := 0, vb := 0, vc := 0, ns := 0, good := false }, inState stHeld [], by decide +kernel⟩,
    ⟨0, 1, { va := 0, vb := 0, vc := 0, ns := 0, good := true }, inState stHeld [(Obj.SOURCE_IN_USE 0, 0)], by decide +kernel⟩,
    ⟨1, 2, { va := 0, vb := 0, vc := 0, ns := 0, good := true }, inState stHeld [(Obj.SOURCE_IN_USE 1, 2)], by decide +kernel⟩⟩

/-- States and operands that meet the hypotheses of `VoltageSourceLoss`, clause by clause. -/
theorem witness_VoltageSourceLoss :
    (∃ c : Nat, ∃ s : State, alive s .fabric = true ∧ c < 2 ∧ stHeld ≤ station s ∧ sourceValid s c (rd s (Obj.SOURCE_IN_USE c)) = false
      ∧ let alt := rd s (Obj.VOLTAGE_SOURCE_ALT c); alt < 3 ∧ alt ≠ rd s (Obj.SOURCE_IN_USE c) ∧ sourceValid s c alt = true)
    ∧ (∃ c : Nat, ∃ s : State, alive s .fabric = true ∧ c < 2 ∧ stHeld ≤ station s ∧ sourceValid s c (rd s (Obj.SOURCE_IN_USE c)) =
      false ∧ let alt := rd s (Obj.VOLTAGE_SOURCE_ALT c); (¬(alt < 3 ∧ alt ≠ rd s (Obj.SOURCE_IN_USE c) ∧ sourceValid s c alt = true))
      ∧ sync s c sfLost = false)
    ∧ (∃ c : Nat, ∃ s : State, alive s .fabric = true ∧ c < 2 ∧ stHeld ≤ station s ∧ sourceValid s c (rd s (Obj.SOURCE_IN_USE c)) =
      false ∧ let alt := rd s (Obj.VOLTAGE_SOURCE_ALT c); (¬(alt < 3 ∧ alt ≠ rd s (Obj.SOURCE_IN_USE c) ∧ sourceValid s c alt = true))
      ∧ sync s c sfLost = true)
    ∧ ∃ c : Nat, ∃ s : State, sourceValid s c (rd s (Obj.SOURCE_IN_USE c)) = true :=
  ⟨⟨0, withConv (fun x => { x with seen := [none, some 0, none] }) (inState stHeld [(Obj.SOURCE_IN_USE 0, 0), (Obj.VOLTAGE_SOURCE_ALT
      0, 1)]), by refine ⟨?_, ?_, ?_, ?_, ?_⟩ <;> decide +kernel⟩,
    ⟨0, inState stHeld [(Obj.SOURCE_IN_USE 0, 0), (Obj.VOLTAGE_SOURCE_ALT 0, 3)], by refine ⟨?_, ?_, ?_, ?_, ?_⟩ <;> decide +kernel⟩,
    ⟨0, inState stHeld [(Obj.SOURCE_IN_USE 0, 0), (Obj.VOLTAGE_SOURCE_ALT 0, 0), (Obj.SYNC_FLAGS 0, 64)],
      by refine ⟨?_, ?_, ?_, ?_, ?_⟩ <;> decide +kernel⟩,
    ⟨0, withConv (fun x => { x with seen := [some 0, none, none] }) (inState stHeld [(Obj.SOURCE_IN_USE 0, 0)]), by decide +kernel⟩⟩

/-- States and operands that meet the hypotheses of `RideThroughAndDirectPower`, clause by clause. -/
theorem witness_RideThroughAndDirectPower :
    (∃ c : Nat, ∃ s : State, alive s .fabric = true ∧ c < 2 ∧ sync s c sfRt = true ∧ station s = stRunning ∧ stateAhead s (tideNow s +
      1) ≠ stRideThrough)
    ∧ (∃ c : Nat, ∃ s : State, alive s .fabric = true ∧ c < 2 ∧ beyondCurve s c = true ∧ isActive (station s) = true)
    ∧ (∃ s : State, alive s .fabric = true ∧ station s = stRideThrough ∧ (∀ c, c < 2 → sync s c sfRt = false) ∧ (∀ c, c < 2 → dpcOn s c
      = false ∧ (conv s c).dpcDue = false) ∧ s.sm.causes.any Cause.endsRide = false)
    ∧ (∃ s : State, alive s .fabric = true ∧ station s = stRideThrough ∧ (∀ c, c < 2 → sync s c sfRt = false) ∧ ∃ c, c < 2 ∧ dpcOn s c
      = true ∧ (conv s c).dpcEnd = false)
    ∧ (∃ c : Nat, ∃ s : State, alive s .fabric = true ∧ c < 2 ∧ c < s.convs.length ∧ rdBool s (Obj.DPC_ENABLE c) = true ∧ dpcOn s c =
      false ∧ dpcState s c = true ∧ dpcCondition s c = true ∧ sync s c sfAbsent = false ∧ sync s c sfLost = false)
    ∧ (∃ c : Nat, ∃ s : State, alive s .fabric = true ∧ c < 2 ∧ c < s.convs.length ∧ rdBool s (Obj.DPC_ENABLE c) = true ∧ dpcOn s c =
      false ∧ dpcState s c = true ∧ dpcCondition s c = true ∧ (sync s c sfAbsent = true ∨ sync s c sfLost = true))
    ∧ ∃ c : Nat, ∃ s : State, alive s .fabric = true ∧ c < 2 ∧ c < s.convs.length ∧ dpcOn s c = true ∧ rdPu s (Obj.DPC_ENTRY_V c) + 1 /
      20 < vPos (conv s c) ∧ sync s c sfLocked = true :=
  ⟨⟨0, inState stRunning [(Obj.SYNC_FLAGS 0, 4)], by decide +kernel⟩,
    ⟨0, withConv (fun x => { x with rtFrom := some 0, stamp := some 0 }) (inState stRideThrough [(Obj.LVRT_POINTS 0, 1),
      (Obj.LVRT_VOLTAGE 0 0, 16384)]), by decide +kernel⟩,
    ⟨inState stRideThrough [], by decide +kernel⟩,
    ⟨inState stRideThrough [(Obj.DPC_ACTIVE 1, 1)], by refine ⟨?_, ?_, ?_, 1, ?_⟩ <;> decide +kernel⟩,
    ⟨0, inState stRideThrough [(Obj.DPC_ENABLE 0, 1)], by decide +kernel⟩,
    ⟨1, inState stRideThrough [(Obj.DPC_ENABLE 1, 1), (Obj.SYNC_FLAGS 1, 64)], by decide +kernel⟩,
    ⟨0, withConv (fun x => { x with vpa := 2 }) (inState stRideThrough [(Obj.SYNC_FLAGS 0, 9), (Obj.DPC_ACTIVE 0, 1)]),
      by decide +kernel⟩⟩

/-- States and operands that meet the hypotheses of `IslandingStallProbeAndReversal`, clause by clause. -/
theorem witness_IslandingStallProbeAndReversal :
    (∃ c : Nat, ∃ how : Nat, ∃ s : State, alive s .fabric = true ∧ c < 2 ∧ c < s.convs.length ∧ how < 5 ∧ islandFound s c how = true ∧
      (how = 4 → dpcOn s c = false) ∧ stReady ≤ station s ∧ station s ≠ stSafe ∧ sync s c sfLost = false ∧ bit (rd s (Obj.ISLAND_ENABLE
      c)) how = true ∧ rd s (Obj.ISLAND_FLAGS c) = 0 ∧ isActive (station s) = true)
    ∧ (∃ c : Nat, ∃ how : Nat, ∃ s : State, alive s .fabric = true ∧ c < 2 ∧ c < s.convs.length ∧ how < 5 ∧ islandFound s c how = true
      ∧ (how = 4 → dpcOn s c = false) ∧ stReady ≤ station s ∧ station s ≠ stSafe ∧ sync s c sfLost = false ∧ bit (rd s
      (Obj.ISLAND_ENABLE c)) how = true ∧ (rd s (Obj.ISLAND_FLAGS c) ≠ 0 ∨ isActive (station s) = false))
    ∧ (∃ c : Nat, ∃ s : State, alive s .fabric = true ∧ c < 2 ∧ sync s c sfAbsent = false ∧ stHeld ≤ station s ∧ dpcOn s c = true)
    ∧ (∃ c : Nat, ∃ s : State, alive s .fabric = true ∧ c < 2 ∧ sync s c sfAbsent = false ∧ stHeld ≤ station s ∧ dpcOn s c = false)
    ∧ (∃ c : Nat, ∃ s : State, alive s .fabric = true ∧ c < 2 ∧ c < s.convs.length ∧ station s = stRunning ∧ bit (rd s
      (Obj.ISLAND_ENABLE c)) 3 = true)
    ∧ (∃ c : Nat, ∃ s : State, sync s c sfAbsent = true)
    ∧ (∃ c : Nat, ∃ s : State, alive s .fabric = true ∧ c < 2 ∧ let sec := nowNs s / 1000000000;
      let ps := ((conv s c).buckets.filter (fun b => decide (b.index / 10 + 1 = sec) && decide (0 < b.nv) && decide (0 < b.nq))).map (fun b => (b.v / (b.nv : Rat), b.q / (b.nq : Rat)));
      ps.length = 10 ∧ 1 / 50 ≤ (scrFit ps).2 ∧ (scrFit ps).1 ≠ 0)
    ∧ (∃ c : Nat, ∃ s : State, alive s .fabric = true ∧ c < 2 ∧ let sec := nowNs s / 1000000000;
      let ps := ((conv s c).buckets.filter (fun b => decide (b.index / 10 + 1 = sec) && decide (0 < b.nv) && decide (0 < b.nq))).map (fun b => (b.v / (b.nv : Rat), b.q / (b.nq : Rat)));
      (ps.length ≠ 10 ∨ (scrFit ps).2 < 1 / 50))
    ∧ (∃ c : Nat, ∃ t0 : Nat, ∃ s : State, alive s .processing = true ∧ c < 2 ∧ rd s (Obj.REVERSAL_STATE c) = 2 ∧ (conv s c).dwellFrom
      = some t0 ∧ isActive (station s) = true ∧ station s ≠ stRideThrough ∧
      let u := runTo ((t0 + rd s (Obj.REVERSAL_DWELL c) * 1000000) * nsUnit) s; reversalReason u c (1 - rd s (Obj.DIRECTION c)) = 0)
    ∧ (∃ c : Nat, ∃ t0 : Nat, ∃ s : State, alive s .processing = true ∧ c < 2 ∧ rd s (Obj.REVERSAL_STATE c) = 2 ∧ (conv s c).dwellFrom
      = some t0 ∧ isActive (station s) = true ∧ station s ≠ stRideThrough ∧
      let u := runTo ((t0 + rd s (Obj.REVERSAL_DWELL c) * 1000000) * nsUnit) s; reversalReason u c (1 - rd s (Obj.DIRECTION c)) ≠ 0)
    ∧ ∃ _c : Nat, ∃ s : State, (isActive (station s) = false ∨ station s = stRideThrough) :=
  ⟨⟨0, 4, inState stRunning [(Obj.ISLAND_ENABLE 0, 16)], by decide +kernel⟩,
    ⟨0, 4, inState stRunning [(Obj.ISLAND_ENABLE 0, 16), (Obj.ISLAND_FLAGS 0, 1)], by decide +kernel⟩,
    ⟨0, inState stHeld [(Obj.SYNC_FLAGS 0, 8), (Obj.DPC_ACTIVE 0, 1)], by decide +kernel⟩,
    ⟨0, inState stHeld [], by decide +kernel⟩,
    ⟨1, inState stRunning [(Obj.ISLAND_ENABLE 1, 8)], by decide +kernel⟩,
    ⟨0, inState stRunning [(Obj.SYNC_FLAGS 0, 32)], by decide +kernel⟩,
    ⟨0, withConv (fun x =>
      { x with buckets := (List.range 10).map (fun i => { index := i, v := (i : Nat), nv := 1, q := (i : Nat), nq := 1 }) })
      { up [] with time := { (up []).time with acc := 1000000000 * nsUnit } }, by refine ⟨?_, ?_, ?_⟩ <;> decide +kernel⟩,
    ⟨0, up [], by refine ⟨?_, ?_, ?_⟩ <;> decide +kernel⟩,
    ⟨0, 0, withConv (fun x => { x with dwellFrom := some 0 }) (inState stRunning [(Obj.REVERSAL_STATE 0, 2), (Obj.REVERSAL_PERMIT 0,
      3)]), by refine ⟨?_, ?_, ?_, ?_, ?_, ?_, ?_⟩ <;> decide +kernel⟩,
    ⟨1, 0,
      { inState stRunning [(Obj.REVERSAL_STATE 1, 2), (Obj.REVERSAL_PERMIT 1, 0)] with convs := (up []).convs.modify 1 (fun x => { x with dwellFrom := some 0 }) },
      by refine ⟨?_, ?_, ?_, ?_, ?_, ?_, ?_⟩ <;> decide +kernel⟩,
    ⟨0, inState stHeld [], by decide +kernel⟩⟩

/-- States and operands that meet the hypotheses of `SolarScansMeasurementAndCurtailment`, clause by clause. -/
theorem witness_SolarScansMeasurementAndCurtailment :
    (∃ L : Nat, ∃ t0 : Nat, ∃ s : State, alive s .fabric = true ∧ isSolar s L = true ∧ rd s Obj.SCAN_INTERVAL ≠ 0 ∧ (solarOf s L).due =
      false ∧ (solarOf s L).scan = none ∧ scanInstant s L = some t0 ∧ let a := armOf s L;
      let busy := ((solarLeaves s a).filter (fun M => (solarOf s M).scan.isSome)).length; (curtailed s a = true ∨ rd s
      Obj.SCAN_CONCURRENT ≤ busy))
    ∧ (∃ L : Nat, ∃ t0 : Nat, ∃ s : State, alive s .fabric = true ∧ isSolar s L = true ∧ rd s Obj.SCAN_INTERVAL ≠ 0 ∧ (solarOf s L).due
      = false ∧ (solarOf s L).scan = none ∧ scanInstant s L = some t0 ∧ let a := armOf s L;
      let busy := ((solarLeaves s a).filter (fun M => (solarOf s M).scan.isSome)).length; curtailed s a = false ∧ busy < rd s
      Obj.SCAN_CONCURRENT ∧ L ∈ solarLeaves s a ∧ (solarOf s L).state = mpTracking ∧ (∀ M, M ∈ solarLeaves s a → (solarOf s M).due =
      false))
    ∧ (∃ L : Nat, ∃ j : Nat, ∃ s : State, alive s .fabric = true ∧ isSolar s L = true ∧ (solarOf s L).scan = some j ∧ (solarOf s
      L).vocRun = none ∧ solarTides s (rd s Obj.SCAN_DWELL) ≤ (solarOf s L).dwell ∧ j + 1 < rd s Obj.SCAN_POINTS)
    ∧ (∃ L : Nat, ∃ j : Nat, ∃ s : State, alive s .fabric = true ∧ isSolar s L = true ∧ (solarOf s L).scan = some j ∧ (solarOf s
      L).vocRun = none ∧ solarTides s (rd s Obj.SCAN_DWELL) ≤ (solarOf s L).dwell ∧ rd s Obj.SCAN_POINTS ≤ j + 1)
    ∧ (∃ L : Nat, ∃ j : Nat, ∃ s : State, alive s .fabric = true ∧ isSolar s L = true ∧ curtailed s (armOf s L) = true ∧ (solarOf s
      L).scan = some j)
    ∧ (∃ L : Nat, ∃ n : Nat, ∃ s : State, alive s .fabric = true ∧ isSolar s L = true ∧ (solarOf s L).vocRun = some n ∧ solarTides s
      (rd s Obj.VOC_TIME) ≤ n ∧ (solarOf s L).state = mpOpen ∧ let x := solarOf s L;
      let ok := windowGood x (halfOf (solarTides s (rd s Obj.VOC_TIME))); ok = false)
    ∧ (∃ L : Nat, ∃ n : Nat, ∃ s : State, alive s .fabric = true ∧ isSolar s L = true ∧ (solarOf s L).vocRun = some n ∧ solarTides s
      (rd s Obj.VOC_TIME) ≤ n ∧ (solarOf s L).state = mpOpen ∧ let x := solarOf s L;
      let ok := windowGood x (halfOf (solarTides s (rd s Obj.VOC_TIME))); ok = true)
    ∧ (∃ L : Nat, ∃ s : State, alive s .fabric = true ∧ isSolar s L = true ∧ (solarOf s L).state = mpCurtailed ∧ solarTides s (rd s
      Obj.CURTAIL_PERIOD) ≤ (solarOf s L).tides ∧ let x := solarOf s L;
      let ok := windowGood x (halfOf (solarTides s (rd s Obj.CURTAIL_PERIOD))); ok = false)
    ∧ (∃ L : Nat, ∃ s : State, alive s .fabric = true ∧ isSolar s L = true ∧ (solarOf s L).state = mpCurtailed ∧ solarTides s (rd s
      Obj.CURTAIL_PERIOD) ≤ (solarOf s L).tides ∧ let x := solarOf s L;
      let ok := windowGood x (halfOf (solarTides s (rd s Obj.CURTAIL_PERIOD))); ok = true)
    ∧ ∃ a : Nat, ∃ s : State, alive s .fabric = true ∧ solarFitted s = true ∧ a < 12 ∧ a < s.solar.sentinels.length ∧ curtailed s a =
      true :=
  ⟨⟨0, 0, sunny (fun x => { x with scanBase := ScanBase.entered 0 }) [(Obj.SOLAR_CURTAILED 0, 1), (Obj.SCAN_INTERVAL, 1)],
      by refine ⟨?_, ?_, ?_, ?_, ?_, ?_, ?_⟩ <;> decide +kernel⟩,
    ⟨0, 0, sunny (fun x => { x with state := mpTracking, scanBase := ScanBase.entered 0 }) [(Obj.SCAN_INTERVAL, 1),
      (Obj.SCAN_CONCURRENT, 1)], by refine ⟨?_, ?_, ?_, ?_, ?_, ?_, ?_⟩ <;> decide +kernel⟩,
    ⟨0, 0, sunny (fun x => { x with scan := some 0, dwell := 1000000 }) [], by refine ⟨?_, ?_, ?_, ?_, ?_, ?_⟩ <;> decide +kernel⟩,
    ⟨0, 1000, sunny (fun x => { x with scan := some 1000, dwell := 1000000 }) [],
      by refine ⟨?_, ?_, ?_, ?_, ?_, ?_⟩ <;> decide +kernel⟩,
    ⟨0, 3, sunny (fun x => { x with scan := some 3 }) [(Obj.SOLAR_CURTAILED 0, 1)], by decide +kernel⟩,
    ⟨0, 1000000, sunny (fun x => { x with state := mpOpen, vocRun := some 1000000, valid := 0 }) [],
      by refine ⟨?_, ?_, ?_, ?_, ?_, ?_⟩ <;> decide +kernel⟩,
    ⟨0, 1000000, sunny (fun x => { x with state := mpOpen, vocRun := some 1000000, valid := 1000000 }) [],
      by refine ⟨?_, ?_, ?_, ?_, ?_, ?_⟩ <;> decide +kernel⟩,
    ⟨0, sunny (fun x => { x with state := mpCurtailed, tides := 1000000, valid := 0 }) [],
      by refine ⟨?_, ?_, ?_, ?_, ?_⟩ <;> decide +kernel⟩,
    ⟨0, sunny (fun x => { x with state := mpCurtailed, tides := 1000000, valid := 1000000 }) [],
      by refine ⟨?_, ?_, ?_, ?_, ?_⟩ <;> decide +kernel⟩,
    ⟨0, up [(Obj.SOLAR_CURTAILED 0, 1)], by decide +kernel⟩⟩

/-- States and operands that meet the hypotheses of `CommitSteps`, clause by clause. -/
theorem witness_CommitSteps :
    (∃ s : State, alive s .lookout = true ∧ s.cfg.commitStep = 1)
    ∧ (∃ _stuck : Bool, ∃ s : State, alive s .lookout = true ∧ s.cfg.commitStep = 1)
    ∧ (∃ _stuck : Bool, ∃ s : State, alive s .lookout = true ∧ s.cfg.commitStep = 2)
    ∧ (∃ s : State, alive s .lookout = true ∧ s.cfg.commitStep = 2)
    ∧ (∃ s : State, ∃ t0 : Nat, alive s .lookout = true ∧ s.cfg.retideWait = some t0 ∧ s.cfg.commitStep = 3 ∧ retideReturned s = true)
    ∧ ∃ s : State, ∃ t0 : Nat, alive s .lookout = true ∧ s.cfg.retideWait = some t0 ∧ s.cfg.commitStep = 3 ∧ retideReturned s = false ∧
      0 < s.time.inc :=
  ⟨⟨{ up [] with cfg := { (up []).cfg with commitStep := 1 } }, by decide +kernel⟩,
    ⟨true, { up [] with cfg := { (up []).cfg with commitStep := 1 } }, by decide +kernel⟩,
    ⟨false, { up [] with cfg := { (up []).cfg with commitStep := 2 } }, by decide +kernel⟩,
    ⟨{ up [] with cfg := { (up []).cfg with commitStep := 2 } }, by decide +kernel⟩,
    ⟨{ up [] with cfg := { (up []).cfg with commitStep := 3, retideWait := some 0 } }, 0, by decide +kernel⟩,
    ⟨{ flock [] with cfg := { (up []).cfg with commitStep := 3, retideWait := some 0 } }, 0, by decide +kernel⟩⟩

/-- States and operands that meet the hypotheses of `ValidationResults`, clause by clause. -/
theorem witness_ValidationResults :
    (∃ s : State, ∃ im : Image, ∃ gen : Nat, alive s .lookout = true ∧ s.cfg.restoring = false ∧ s.cfg.judged = some (im, gen))
    ∧ (∃ s : State, alive s .lookout = true ∧ s.cfg.restoring = true)
    ∧ ∃ s : State, s.cfg.restoring = false ∧ s.cfg.judged = none :=
  ⟨⟨{ up [] with cfg := { (up []).cfg with judged := some (Image.factory, 0), validating := true } }, Image.factory, 0,
      by decide +kernel⟩,
    ⟨(let s := up [(Obj.ROUND_TRIP 0, 1000), (Obj.EARLIEST_TELEMETRY 0, 2000)];
      { s with cfg := { s.cfg with restoring := true, committed := some goodImage } }), by decide +kernel⟩,
    ⟨up [], by decide +kernel⟩⟩

/-- States and operands that meet the hypotheses of `BootAndRetide`, clause by clause. -/
theorem witness_BootAndRetide :
    (∃ s : State, alive s .lookout = true ∧ station s = stBoot ∧ bit (rd s Obj.MBUS_STATUS) mbRecovering = false ∧ (∀ c, c ∈
      s.sm.causes → c.target ≠ stHeld) ∧ busStuck s = true)
    ∧ (∃ s : State, alive s .lookout = true ∧ station s = stBoot ∧ bit (rd s Obj.MBUS_STATUS) mbRecovering = false ∧ (∀ c, c ∈
      s.sm.causes → c.target ≠ stHeld) ∧ busStuck s = false)
    ∧ (∃ s : State, bootReady s = true ∧ s.cfg.bootReason ≠ 0)
    ∧ (∃ s : State, bootReady s = false)
    ∧ (∃ s : State, ∃ q : Silence, alive s .lookout = true ∧ s.time.silence = some q ∧ q.retide = true ∧ q.stepBy = none ∧ q.lastTide ≤
      tideNow s ∧ 0 < s.time.inc)
    ∧ ∃ s : State, alive s .lookout = true ∧ station s = stCharging ∧ (∀ c, c ∈ s.sm.causes → c.target ≠ stEnergised) :=
  ⟨⟨inState stBoot [(Obj.MBUS_STATUS, 2 ^ mbStuck)], by decide +kernel⟩,
    ⟨inState stBoot [], by decide +kernel⟩,
    ⟨{ inState stBoot [(Obj.OPTION_STATUS, 1), (Obj.PLL_STATE 4, 2)] with cfg := { (up []).cfg with bootReason := 1 } },
      by decide +kernel⟩,
    ⟨inState stHeld [], by decide +kernel⟩,
    ⟨{ up [] with time := { (up []).time with silence := some ⟨0, true, none, false⟩, restartTide := false } }, ⟨0, true, none, false⟩,
      by decide +kernel⟩,
    ⟨inState stCharging [], by decide +kernel⟩⟩

/-- States and operands that meet the hypotheses of `BreakwaterCauses`, clause by clause. -/
theorem witness_BreakwaterCauses :
    (∃ s : State, alive s .safety = true ∧ s.bw.heartbeat = 0)
    ∧ (∃ s : State, alive s .safety = true ∧ s.bw.echo = 0)
    ∧ (∃ s : State, alive s .safety = true ∧ ∃ d, droveOn s d = true ∧ s.bw.heartbeat = 0 ∧ s.bw.lines = 0 ∧ s.bw.channel = 0)
    ∧ (∃ s : State, alive s .safety = true ∧ s.bw.lastGood ≠ none ∧ isActive (station s) = true ∧ s.bw.misses + 1 < rd s
      Obj.HEARTBEAT_MISSES)
    ∧ (∃ s : State, alive s .safety = true ∧ s.bw.lastGood ≠ none ∧ isActive (station s) = true ∧ rd s Obj.HEARTBEAT_MISSES ≤
      s.bw.misses + 1 ∧ s.bw.heartbeat = 0)
    ∧ (∃ s : State, alive s .safety = true ∧ s.bw.channel = 0 ∧ s.bw.lines = 0)
    ∧ (∃ code : Nat, ∃ s : State, alive s .safety = true ∧ codeOfA code = true ∧ s.bw.faultA = false ∧ s.bw.faultB = false ∧ isActive
      (station s) = true ∧ 0 < rd s Obj.DEGRADED_TIME)
    ∧ (∃ code : Nat, ∃ s : State, alive s .safety = true ∧ codeOfA code = true ∧ s.bw.faultA = false ∧ s.bw.faultB = false ∧ (isActive
      (station s) = false ∨ rd s Obj.DEGRADED_TIME = 0) ∧ s.bw.channel = 0 ∧ s.bw.lines = 0)
    ∧ (∃ s : State, alive s .safety = true ∧ s.bw.degraded = true ∧ s.bw.expired = 0)
    ∧ ∃ code : Nat, ∃ s : State, alive s .safety = true ∧ codeOfA code = true ∧ code ≠ 0x02 :=
  ⟨⟨up [], by decide +kernel⟩,
    ⟨up [], by decide +kernel⟩,
    ⟨flock [], by decide +kernel, 0, by decide +kernel⟩,
    ⟨{ inState stRunning [(Obj.HEARTBEAT_MISSES, 3)] with bw := { (up []).bw with lastGood := some (0, 0), misses := 0 } },
      by decide +kernel⟩,
    ⟨{ inState stRunning [(Obj.HEARTBEAT_MISSES, 3)] with bw := { (up []).bw with lastGood := some (0, 0), misses := 2 } },
      by decide +kernel⟩,
    ⟨up [], by decide +kernel⟩,
    ⟨7, inState stRunning [(Obj.DEGRADED_TIME, 1)], by decide +kernel⟩,
    ⟨1, inState stHeld [], by decide +kernel⟩,
    ⟨{ up [] with bw := { (up []).bw with degraded := true } }, by decide +kernel⟩,
    ⟨3, up [], by decide +kernel⟩⟩

/-- States and operands that meet the hypotheses of `BlockBroadcast`, clause by clause. -/
theorem witness_BlockBroadcast :
    (∃ s : State, alive s .safety = true ∧ alive s .link = true ∧ silentIn s (tideNow s) = false ∧ blockGoes s = true)
    ∧ (∃ s : State, blockGoes s = false)
    ∧ (∃ s : State, alive s .safety = true ∧ alive s .link = true ∧ silentIn s (tideNow s) = false ∧ releaseBegins s = true)
    ∧ (∃ s : State, alive s .safety = true ∧ alive s .link = true ∧ silentIn s (tideNow s) = false ∧ blockGoes s = false ∧ s.bw.release
      = none)
    ∧ (∃ d : Nat, ∃ interval : Nat, ∃ t0 : Nat, ∃ s : State, alive s .safety = true ∧ (droveOf s d).echoFrom = some t0 ∧ interval ≤ rd s
      Obj.ECHO_LIMIT * 10000)
    ∧ (∃ d : Nat, ∃ interval : Nat, ∃ t0 : Nat, ∃ s : State, alive s .safety = true ∧ (droveOf s d).echoFrom = some t0 ∧ d < 128 ∧ rd s
      Obj.ECHO_LIMIT * 10000 < interval)
    ∧ ∃ d : Nat, ∃ t0 : Nat, ∃ s : State, alive s .safety = true ∧ (droveOf s d).echoFrom = some t0 ∧ 0 < s.time.inc :=
  ⟨⟨{ up [] with bw := { (up []).bw with blockSent := true, release := none } }, by decide +kernel⟩,
    ⟨{ up [] with bw := { Breakwater.reset with powerUp := false } }, by decide +kernel⟩,
    ⟨{ inState stHeld [] with bw := { Breakwater.reset with powerUp := false, blockSent := true } }, by decide +kernel⟩,
    ⟨{ inState stHeld [] with bw := { Breakwater.reset with powerUp := false } }, by decide +kernel⟩,
    ⟨0, 200000, 0, withDrove (fun x => { x with echoFrom := some 0 }) (flock []), by decide +kernel⟩,
    ⟨0, 200001, 0, withDrove (fun x => { x with echoFrom := some 0 }) (flock []), by decide +kernel⟩,
    ⟨0, 0, withDrove (fun x => { x with echoFrom := some 0 }) (flock []), by decide +kernel⟩⟩

/-- States and operands that meet the hypotheses of `SafetyInputPairs`, clause by clause. -/
theorem witness_SafetyInputPairs :
    (∃ i : Nat, ∃ a : Bool, ∃ b : Bool, ∃ _glitch : Bool, ∃ s : State, alive s .safety = true ∧ i < 16 ∧ i < s.bw.pairs.length ∧ (¬(a =
      true ∧ (if rd s (Obj.SIN_MODE i) = 1 then !b else b) = true)) ∧ (pairFunction s i = 1 ∨ pairFunction s i = 2) ∧ pairDemand s i =
      0)
    ∧ (∃ i : Nat, ∃ a : Bool, ∃ b : Bool, ∃ _glitch : Bool, ∃ s : State, alive s .safety = true ∧ i < 16 ∧ i < s.bw.pairs.length ∧ (¬(a
      = true ∧ (if rd s (Obj.SIN_MODE i) = 1 then !b else b) = true)) ∧ pairFunction s i = 3)
    ∧ (∃ i : Nat, ∃ _a : Bool, ∃ _b : Bool, ∃ _glitch : Bool, ∃ s : State, alive s .safety = false ∧ i < 16)
    ∧ (∃ i : Nat, ∃ _a : Bool, ∃ _b : Bool, ∃ _glitch : Bool, ∃ _s : State, 16 ≤ i)
    ∧ (∃ i : Nat, ∃ t0 : Nat, ∃ s : State, alive s .safety = true ∧ i < 16 ∧ i < s.bw.pairs.length ∧ (pairOf s i).since = some t0 ∧ 0 <
      s.time.inc)
    ∧ (∃ i : Nat, ∃ t0 : Nat, ∃ s : State, alive s .safety = true ∧ i < s.bw.pairs.length ∧ (pairOf s i).pressed = some t0 ∧
      pairFunction s i = 4 ∧ (pairOf s i).disc = false ∧ 100000000 * nsUnit ≤ t0 ∧ t0 ≤ 5 * secUnit ∧ resetTooSoon s = false)
    ∧ ∃ i : Nat, ∃ t0 : Nat, ∃ s : State, alive s .safety = true ∧ i < s.bw.pairs.length ∧ (pairOf s i).pressed = some t0 ∧ (t0 <
      100000000 * nsUnit ∨ 5 * secUnit < t0 ∨ pairFunction s i ≠ 4) :=
  ⟨⟨15, false, true, false, up [(Obj.SIN_FUNCTION 15, 1)], by decide +kernel⟩,
    ⟨0, false, false, false, up [(Obj.SIN_FUNCTION 0, 3)], by decide +kernel⟩,
    ⟨0, true, true, false, State.reset, by decide +kernel⟩,
    ⟨16, true, true, false, up [], by decide +kernel⟩,
    ⟨0, 0, { up [] with bw := { (up []).bw with pairs := (up []).bw.pairs.modify 0 (fun p => { p with since := some 0 }) } },
      by decide +kernel⟩,
    ⟨0, 100000000 * nsUnit,
      { up [(Obj.SIN_FUNCTION 0, 4)] with bw := { (up []).bw with pairs := (up []).bw.pairs.modify 0 (fun p => { p with pressed := some (100000000 * nsUnit) }) } },
      by decide +kernel⟩,
    ⟨0, 5 * secUnit + 1,
      { up [(Obj.SIN_FUNCTION 0, 4)] with bw := { (up []).bw with pairs := (up []).bw.pairs.modify 0 (fun p => { p with pressed := some (5 * secUnit + 1) }) } },
      by decide +kernel⟩⟩

/-- States and operands that meet the hypotheses of `ComparatorsAndFastPath`, clause by clause. -/
theorem witness_ComparatorsAndFastPath :
    (∃ c : Nat, ∃ _outside : Bool, ∃ s : State, alive s .safety = true ∧ c < 24 ∧ (rdBool s (Obj.CMP_ENABLE c) = false ∨ (cmpOf s
      c).blank = true))
    ∧ (∃ c : Nat, ∃ outside : Bool, ∃ s : State, alive s .safety = true ∧ c < 24 ∧ rdBool s (Obj.CMP_ENABLE c) = true ∧ (cmpOf s
      c).blank = false ∧ outside = true ∧ bit (rd s Obj.CMP_RAW) c = false)
    ∧ (∃ c : Nat, ∃ outside : Bool, ∃ s : State, alive s .safety = true ∧ c < 24 ∧ rdBool s (Obj.CMP_ENABLE c) = true ∧ (cmpOf s
      c).blank = false ∧ outside = false)
    ∧ (∃ c : Nat, ∃ s : State, alive s .safety = true ∧ c < s.lio.cmps.length ∧ rd s (Obj.CMP_BLANK_SOURCE c) ≠ 0 ∧ rdBool s
      (Obj.CMP_ENABLE c) = true ∧ 0 < rd s (Obj.CMP_BLANK_TIME c))
    ∧ (∃ c : Nat, ∃ _outside : Bool, ∃ s : State, alive s .safety = true ∧ c < 24 ∧ c < s.lio.cmps.length ∧ (cmpOf s c).blank = true)
    ∧ ∃ c : Nat, ∃ j : Nat, ∃ s : State, alive s .safety = true ∧ c < 24 ∧ bits (rd s (Obj.CMP_ROUTE c)) 1 0 ≠ 0 ∧ rdBool s
      (Obj.CMP_ENABLE c) = true ∧ (cmpOf s c).raw = false ∧ substitute s c = none ∧ freeStandIn s = some j :=
  ⟨⟨23, true, up [(Obj.CMP_ENABLE 23, 0)], by decide +kernel⟩,
    ⟨0, true, up [(Obj.CMP_ENABLE 0, 1)], by decide +kernel⟩,
    ⟨23, false, up [(Obj.CMP_ENABLE 23, 1)], by decide +kernel⟩,
    ⟨0, up [(Obj.CMP_ENABLE 0, 1), (Obj.CMP_BLANK_SOURCE 0, 1), (Obj.CMP_BLANK_TIME 0, 1)], by decide +kernel⟩,
    ⟨0, true,
      { up [(Obj.CMP_ENABLE 0, 1)] with lio := { (up []).lio with cmps := (up []).lio.cmps.modify 0 (fun x => { x with blank := true }) } },
      by decide +kernel⟩,
    ⟨0, 0, up [(Obj.CMP_ENABLE 0, 1), (Obj.CMP_ROUTE 0, 1)], by decide +kernel⟩⟩

/-- States and operands that meet the hypotheses of `TripOutputsAndSelfTest`, clause by clause. -/
theorem witness_TripOutputsAndSelfTest :
    (∃ o : Nat, ∃ s : State, alive s .safety = true ∧ pulseTurn s.bw = some o)
    ∧ (∃ o : Nat, ∃ level : Bool, ∃ s : State, alive s .safety = true ∧ o < 4 ∧ level = true ∧ getD' s.bw.outputs o false = false)
    ∧ (∃ o : Nat, ∃ level : Bool, ∃ s : State, alive s .safety = true ∧ o < 4 ∧ (level = false ∨ getD' s.bw.outputs o false = true))
    ∧ (∃ s : State, alive s .safety = true ∧ bit (rd s Obj.BW_STATUS) 18 = true)
    ∧ (∃ s : State, alive s .safety = true ∧ bit (rd s Obj.BW_STATUS) 18 = true ∧ ∃ code, codeOfA code = true)
    ∧ ∃ _code : Nat, ∃ s : State, bit (rd s Obj.BW_STATUS) 18 = false :=
  ⟨⟨3, { up [] with bw := { (up []).bw with outputs := [true, true, true, true], pulseNext := 3 } }, by decide +kernel⟩,
    ⟨0, true, { up [] with bw := { (up []).bw with outputs := [false, false, false, false] } }, by decide +kernel⟩,
    ⟨3, true, { up [] with bw := { (up []).bw with outputs := [true, true, true, true] } }, by decide +kernel⟩,
    ⟨up [(Obj.BW_STATUS, 2 ^ 18)], by decide +kernel⟩,
    ⟨up [(Obj.BW_STATUS, 2 ^ 18)], by refine ⟨?_, ?_, 7, ?_⟩ <;> decide +kernel⟩,
    ⟨1, up [(Obj.BW_STATUS, 0)], by decide +kernel⟩⟩

/-- States and operands that meet the hypotheses of `PtpMastersAndDelays`, clause by clause. -/
theorem witness_PtpMastersAndDelays :
    (∃ port : Nat, ∃ _m : AnnounceMsg, ∃ s : State, ptpUp s port = true)
    ∧ (∃ port : Nat, ∃ m : SyncMsg, ∃ x : ForeignMaster, ∃ s : State, ptpUp s port = true ∧ port < s.time.ports.length ∧ m.domain = rd
      s Obj.PTP_DOMAIN ∧ -4 ≤ m.logInterval ∧ m.logInterval ≤ 1 ∧ s.time.masters = [x] ∧ x.port = port ∧ x.clock = m.clock ∧
      x.qualified s = true ∧ s.time.active = some (port, m.clock))
    ∧ (∃ _port : Nat, ∃ m : SyncMsg, ∃ s : State, m.domain ≠ rd s Obj.PTP_DOMAIN)
    ∧ (∃ port : Nat, ∃ x : ForeignMaster, ∃ s : State, alive s .lookout = true ∧ s.time.masters = [x] ∧ x.port = port ∧ s.time.active ≠
      none ∧ (timeState s = tsAcquiring ∨ timeState s = tsLocked))
    ∧ (∃ port : Nat, ∃ _stamp : Int, ∃ s : State, alive s .lookout = true ∧ ptpEnabled s port = true ∧ port < s.time.ports.length)
    ∧ (∃ port : Nat, ∃ _stamp : Int, ∃ s : State, alive s .lookout = true ∧ ptpEnabled s port = true ∧ port < s.time.ports.length ∧
      let q := (ptpPort s port).nextSeq; (ptpPort s port).queue.length < tsQueueMax ∧ (∀ e, e ∈ (ptpPort s port).queue → e.ident ≠
      tsIdent (rd s Obj.PTP_DOMAIN) (delayReqKind s) q))
    ∧ (∃ port : Nat, ∃ m : DelayMsg, ∃ s : State, ptpUp s port = true ∧ port < s.time.ports.length ∧ (ptpPort s port).exchange = some
      m.seqId ∧ let ident := tsIdent (rd s Obj.PTP_DOMAIN) (delayReqKind s) m.seqId; ∃ e, peerDelay s = true ∧ ((ptpPort s
      port).queue.find? (fun x => x.ident = ident) = some e))
    ∧ (∃ port : Nat, ∃ m : DelayMsg, ∃ s : State, ptpUp s port = true ∧ port < s.time.ports.length ∧ (ptpPort s port).exchange = some
      m.seqId ∧ let ident := tsIdent (rd s Obj.PTP_DOMAIN) (delayReqKind s) m.seqId; (∀ x, x ∈ (ptpPort s port).queue → x.ident ≠
      ident))
    ∧ (∃ port : Nat, ∃ _seqId : Nat, ∃ domain : Nat, ∃ _rx : Int, ∃ _tx : Int, ∃ s : State, ptpUp s port = true ∧ peerDelay s = true ∧
      domain = rd s Obj.PTP_DOMAIN ∧ rdBool s Obj.PTP_TWO_STEP = false)
    ∧ (∃ port : Nat, ∃ _seqId : Nat, ∃ domain : Nat, ∃ _rx : Int, ∃ _tx : Int, ∃ s : State, ptpUp s port = true ∧ peerDelay s = true ∧
      domain = rd s Obj.PTP_DOMAIN ∧ rdBool s Obj.PTP_TWO_STEP = true)
    ∧ (∃ port : Nat, ∃ e : TsEntry, ∃ s : State, alive s .lookout = true ∧ port < s.time.ports.length ∧ e ∈ (ptpPort s port).queue)
    ∧ ∃ port : Nat, ∃ s : State, alive s .lookout = true ∧ port < s.time.ports.length :=
  ⟨⟨0, ptpAnnounce, ptp [], by decide +kernel⟩,
    ⟨0, { clock := 5, domain := 0, logInterval := 1, origin := 0, rx := 0 }, ptpMaster,
      { ptp [] with time := { (ptp []).time with masters := [ptpMaster], active := some (0, 5) } }, by decide +kernel⟩,
    ⟨0, { clock := 5, domain := 9, logInterval := 1, origin := 0, rx := 0 }, ptp [], by decide +kernel⟩,
    ⟨0, ptpMaster,
      { ptp [(Obj.TIME_QUALITY, 3 * 4096)] with time := { (ptp []).time with masters := [ptpMaster], active := some (0, 5) } },
      by decide +kernel⟩,
    ⟨0, 0, ptp [], by decide +kernel⟩,
    ⟨0, 0, ptp [], by refine ⟨?_, ?_, ?_, ?_⟩ <;> decide +kernel⟩,
    ⟨0, { seqId := 3, remoteRx := 0, remoteTx := 0, rx := 0 },
      { ptp [(Obj.PTP_PROFILE, 1)] with time := { (ptp []).time with ports := (ptp []).time.ports.modify 0 (fun p => { p with exchange := some 3, queue := [{ ident := tsIdent 0 (delayReqKind (ptp [(Obj.PTP_PROFILE, 1)])) 3, stime := 0 }] }) } },
      by refine ⟨?_, ?_, ?_, { ident := tsIdent 0 (delayReqKind (ptp [(Obj.PTP_PROFILE, 1)])) 3, stime := 0 }, ?_⟩ <;> decide +kernel⟩,
    ⟨0, { seqId := 3, remoteRx := 0, remoteTx := 0, rx := 0 },
      { ptp [] with time := { (ptp []).time with ports := (ptp []).time.ports.modify 0 (fun p => { p with exchange := some 3 }) } },
      by refine ⟨?_, ?_, ?_, ?_⟩ <;> decide +kernel⟩,
    ⟨0, 3, 0, 0, 0, ptp [(Obj.PTP_PROFILE, 1), (Obj.PTP_TWO_STEP, 0)], by refine ⟨?_, ?_, ?_, ?_⟩ <;> decide +kernel⟩,
    ⟨0, 3, 0, 0, 0, ptp [(Obj.PTP_PROFILE, 1), (Obj.PTP_TWO_STEP, 1)], by refine ⟨?_, ?_, ?_, ?_⟩ <;> decide +kernel⟩,
    ⟨0, { ident := 1, stime := 0 },
      { ptp [] with time := { (ptp []).time with ports := (ptp []).time.ports.modify 0 (fun p => { p with queue := [{ ident := 1, stime := 0 }] }) } },
      by decide +kernel⟩,
    ⟨0, ptp [], by decide +kernel⟩⟩

/-- States and operands that meet the hypotheses of `StepsToleranceAndPps`, clause by clause. -/
theorem witness_StepsToleranceAndPps :
    (∃ m : Int, ∃ isSet : Bool, ∃ s : State, alive s .time = true ∧ station s = stBoot ∧ s.time.stepDue = some (m, isSet))
    ∧ (∃ m : Int, ∃ q : Silence, ∃ s : State, alive s .time = true ∧ station s ≠ stBoot ∧ s.time.silence = some q ∧ q.stepBy = some m ∧
      q.lastTide ≤ tideNow s ∧ 0 < s.time.inc)
    ∧ (∃ s : State, s.time.stepDue = none ∧ s.time.silence = none)
    ∧ (∃ e : Rat, ∃ s : State, alive s .time = true ∧ errorEstimate s = some e ∧ (rd s Obj.TIME_ALARM_BOUND : Rat) < e ∧ s.time.alarm =
      false)
    ∧ (∃ e : Rat, ∃ s : State, alive s .time = true ∧ errorEstimate s = some e ∧ e ≤ (rd s Obj.TIME_ALARM_BOUND : Rat) ∧ s.time.alarm =
      true)
    ∧ (∃ e : Rat, ∃ s : State, alive s .time = true ∧ errorEstimate s = some e ∧ decide ((rd s Obj.TIME_ALARM_BOUND : Rat) < e) =
      s.time.alarm)
    ∧ (∃ s : State, alive s .time = true ∧ 0 < s.time.inc ∧ rdBool s Obj.PPS_ENABLE = true ∧ rd s Obj.PPS_SQUELCH = 0 ∧
      s.time.ppsAfterStep = false)
    ∧ ∃ s : State, alive s .time = true ∧ 0 < s.time.inc ∧ rdBool s Obj.PPS_ENABLE = false :=
  ⟨⟨5, false, { inState stBoot [] with time := { (up []).time with stepDue := some (5, false) } }, by decide +kernel⟩,
    ⟨5, ⟨0, false, some 5, false⟩, { inState stHeld [] with time := { (up []).time with silence := some ⟨0, false, some 5, false⟩ } },
      by decide +kernel⟩,
    ⟨up [], by decide +kernel⟩,
    ⟨2 ^ 40, { up [(Obj.TIME_QUALITY, 4096)] with time := { (up []).time with setBound := 40, alarm := false } }, by decide +kernel⟩,
    ⟨1, { up [(Obj.TIME_QUALITY, 4096)] with time := { (up []).time with setBound := 0, alarm := true } }, by decide +kernel⟩,
    ⟨1, { up [(Obj.TIME_QUALITY, 4096)] with time := { (up []).time with setBound := 0, alarm := false } }, by decide +kernel⟩,
    ⟨{ up [(Obj.PPS_ENABLE, 1), (Obj.PPS_SQUELCH, 0)] with time := { (up []).time with ppsAfterStep := false } }, by decide +kernel⟩,
    ⟨up [(Obj.PPS_ENABLE, 0)], by decide +kernel⟩⟩

/-- States and operands that meet the hypotheses of `ReferenceAndClocks`, clause by clause. -/
theorem witness_ReferenceAndClocks :
    (∃ src : Nat, ∃ s : State, alive s .option = true ∧ src < 2 ∧ rd s Obj.REF_IN_USE ≠ src)
    ∧ (∃ src : Nat, ∃ s : State, alive s .option = true ∧ src < 2 ∧ rd s Obj.REF_IN_USE = src ∧ rdBool s Obj.REF_FALLBACK = false)
    ∧ (∃ src : Nat, ∃ s : State, src < 2 ∧ rd s Obj.REF_SELECT = src ∧ rd s Obj.REF_IN_USE = 0xFF ∧ s.time.refDown = true)
    ∧ (∃ k : Nat, ∃ _us : Nat, ∃ s : State, alive s .clock = true ∧ k < 5 ∧ s.rp.waking = false)
    ∧ (∃ k : Nat, ∃ s : State, alive s .clock = true ∧ k < 5)
    ∧ (∃ o : Nat, ∃ _delta : Int, ∃ s : State, alive s .clock = true ∧ o < 4 ∧ rdBool s (Obj.CLKOUT_ENABLE o) = true ∧ rdBool s
      (Obj.CLKOUT_ALIGN o) = true)
    ∧ ∃ o : Nat, ∃ _delta : Int, ∃ _aligned : Bool, ∃ s : State, rdBool s (Obj.CLKOUT_ALIGN o) = false :=
  ⟨⟨0, up [(Obj.REF_IN_USE, 1)], by decide +kernel⟩,
    ⟨1, up [(Obj.REF_IN_USE, 1), (Obj.REF_FALLBACK, 0)], by decide +kernel⟩,
    ⟨1, { up [(Obj.REF_SELECT, 1), (Obj.REF_IN_USE, 0xFF)] with time := { (up []).time with refDown := true } }, by decide +kernel⟩,
    ⟨4, 100, up [], by decide +kernel⟩,
    ⟨0, up [], by decide +kernel⟩,
    ⟨3, 7, up [(Obj.CLKOUT_ENABLE 3, 1), (Obj.CLKOUT_ALIGN 3, 1)], by decide +kernel⟩,
    ⟨0, 7, true, up [(Obj.CLKOUT_ALIGN 0, 0)], by decide +kernel⟩⟩

/-- States and operands that meet the hypotheses of `MeterChannelsWindowsPulsesAndCalibration`, clause by clause. -/
theorem witness_MeterChannelsWindowsPulsesAndCalibration :
    (∃ c : Nat, ∃ _n : Nat, ∃ _moving : Bool, ∃ s : State, alive s .analogue = true ∧ inputUsed s c = true)
    ∧ (∃ c : Nat, ∃ _n : Nat, ∃ _moving : Bool, ∃ s : State, inputUsed s c = false)
    ∧ (∃ _rs : List MeterReading, ∃ _span : Nat, ∃ s : State, alive s .processing = true ∧ 0 < s.time.inc)
    ∧ (∃ m : Nat, ∃ a : Nat, ∃ _e : Rat, ∃ s : State, m < 2 ∧ a < 8 ∧ m < s.meter.meters.length ∧ a < (meterOf s m).rem.length)
    ∧ (∃ m : Nat, ∃ a : Nat, ∃ _e : Rat, ∃ s : State, m < 2 ∧ a < 8 ∧ m < s.meter.meters.length ∧ a < (meterOf s m).rem.length ∧ ∃ m',
      ∃ a', m' < 2 ∧ a' < 8 ∧ (m' ≠ m ∨ a' ≠ a))
    ∧ (∃ g : Nat, ∃ s : State, alive s .processing = true ∧ s.meter.lastGrid = some g ∧ g % windowNs = 0 ∧ s.meter.lastWindow ≠ some g)
    ∧ (∃ g : Nat, ∃ s : State, s.meter.lastGrid = some g ∧ (g % windowNs ≠ 0 ∨ s.meter.lastWindow = some g))
    ∧ (∃ n : Nat, ∃ s : State, alive s .processing = true ∧ n < 4 ∧ rdBool s (Obj.PULSE_ENABLE n) = true ∧ 0 < rd s (Obj.PULSE_BACKLOG
      n) ∧ (∀ t0, (getD' s.meter.pulses n { rem := 0, last := none }).last = some t0 → t0 + 2 * rd s (Obj.PULSE_WIDTH n) * 10000 ≤
      nowNs s))
    ∧ (∃ n : Nat, ∃ s : State, rd s (Obj.PULSE_BACKLOG n) = 0)
    ∧ (∃ s : State, s.meter.calHalf = 0)
    ∧ (∃ s : State, alive s .processing = true ∧ s.meter.calHalf = 1)
    ∧ ∃ s : State, alive s .processing = true ∧ 2 ≤ s.meter.calHalf :=
  ⟨⟨31, 3, false, up [(Obj.CH_ENABLE 31, 1)], by decide +kernel⟩,
    ⟨32, 3, false, up [], by decide +kernel⟩,
    ⟨[], 1, up [], by decide +kernel⟩,
    ⟨1, 7, 5, up [], by decide +kernel⟩,
    ⟨1, 7, 5, up [], by refine ⟨?_, ?_, ?_, ?_, 0, 7, ?_⟩ <;> decide +kernel⟩,
    ⟨0, { up [] with meter := { (up []).meter with lastGrid := some 0 } }, by decide +kernel⟩,
    ⟨1, { up [] with meter := { (up []).meter with lastGrid := some 1 } }, by decide +kernel⟩,
    ⟨3, up [(Obj.PULSE_ENABLE 3, 1), (Obj.PULSE_BACKLOG 3, 1)], by decide +kernel, by decide +kernel, by decide +kernel,
      by decide +kernel,
      (by intro t0 h; rw [show (getD' (up [(Obj.PULSE_ENABLE 3, 1), (Obj.PULSE_BACKLOG 3, 1)]).meter.pulses 3 ⟨0, none⟩).last = none from by decide +kernel] at h; cases h)⟩,
    ⟨0, up [], by decide +kernel⟩,
    ⟨up [], by decide +kernel⟩,
    ⟨{ up [] with meter := { (up []).meter with calHalf := 1 } }, by decide +kernel⟩,
    ⟨{ up [] with meter := { (up []).meter with calHalf := 2 } }, by decide +kernel⟩⟩

/-- States and operands that meet the hypotheses of `SarAndSensors`, clause by clause. -/
theorem witness_SarAndSensors :
    (∃ k : Nat, ∃ i : Nat, ∃ _code : Nat, ∃ _taken : Bool, ∃ s : State, alive s .analogue = true ∧ k < 4 ∧ sarBackground s k =
      true ∧ sarTurn s k = some i)
    ∧ (∃ k : Nat, ∃ i : Nat, ∃ s : State, sarTurn s k = some i)
    ∧ (∃ _failed : Nat, ∃ _rs : List SarReading, ∃ s : State, s.lio.calMask = 0)
    ∧ (∃ failed : Nat, ∃ k : Nat, ∃ _rs : List SarReading, ∃ s : State, alive s .analogue = true ∧ s.lio.calMask ≠ 0 ∧ (((sarConvs
      s.lio.calMask).filter (fun k => bit failed k)).head? = some k))
    ∧ (∃ rs : List SarReading, ∃ s : State, alive s .analogue = true ∧ s.lio.calMask ≠ 0 ∧ (∀ w, w < 32 → ∃ r, rs.find? (fun r =>
      r.input = w) = some r ∧ sarGrounded r (rd s Obj.SAR_CAL_ZERO_LIMIT) = true ∧ (sarOffset r).natAbs ≤ 512))
    ∧ (∃ k : Nat, ∃ s : State, alive s .analogue = true ∧ k < 4 ∧ bit s.lio.selfMask k = true)
    ∧ (∃ i : Nat, ∃ _outputs : Nat, ∃ _code : Int, ∃ _delay : Int, ∃ s : State, alive s .fabric = true ∧ i < 32 ∧ bit (rd s
      Obj.SENSE_ENABLE) (32 + i) = true ∧ chanBad s i = true)
    ∧ ∃ i : Nat, ∃ outputs : Nat, ∃ _code : Int, ∃ _delay : Int, ∃ s : State, alive s .fabric = true ∧ i < 32 ∧ bit (rd s
      Obj.SENSE_ENABLE) (32 + i) = true ∧ chanBad s i = false ∧ (getD' s.lio.settle i 3 = 0 ∨ getD' s.lio.settle i 3 < outputs) :=
  ⟨⟨3, 7, 100, false, up [(Obj.SAR_CONTINUOUS 3, 1), (Obj.SAR_BG_MASK 3, 128)], by decide +kernel⟩,
    ⟨3, 7, up [(Obj.SAR_BG_MASK 3, 128)], by decide +kernel⟩,
    ⟨0, [], up [], by decide +kernel⟩,
    ⟨8, 3, [], { up [] with lio := { (up []).lio with calMask := 8 } }, by decide +kernel⟩,
    ⟨(List.range 32).map (fun w => { input := w, sum1 := 0, spread1 := 0, sum2 := 0, spread2 := 0 }),
      { up [] with lio := { (up []).lio with calMask := 8 } }, by decide +kernel⟩,
    ⟨3, { up [] with lio := { (up []).lio with selfMask := 8 } }, by decide +kernel⟩,
    ⟨31, 0, 5, 0, up [(Obj.SENSE_ENABLE, 2 ^ 63), (Obj.CH_STATUS 31, 1)], by decide +kernel⟩,
    ⟨0, 9, 5, 0, up [(Obj.SENSE_ENABLE, 2 ^ 32)], by decide +kernel⟩⟩

/-- States and operands that meet the hypotheses of `PwmAndPins`, clause by clause. -/
theorem witness_PwmAndPins :
    (∃ q : Nat, ∃ _corr : Nat, ∃ s : State, alive s .localIo = true ∧ q < 12 ∧ q < s.lio.pwms.length ∧ rdBool s (Obj.PWM_ENABLE q) =
      true)
    ∧ (∃ q : Nat, ∃ _corr : Nat, ∃ s : State, alive s .localIo = true ∧ q < 12 ∧ rdBool s (Obj.PWM_ENABLE q) = false)
    ∧ (∃ _matched : Bool, ∃ s : State, alive s .localIo = true)
    ∧ (∃ pin : Nat, ∃ level : Bool, ∃ s : State, alive s .localIo = true ∧ pin < 32 ∧ bit s.lio.gpio pin = !level)
    ∧ ∃ pin : Nat, ∃ level : Bool, ∃ s : State, bit s.lio.gpio pin = level :=
  ⟨⟨11, 0, up [(Obj.PWM_ENABLE 11, 1)], by decide +kernel⟩,
    ⟨0, 0, up [(Obj.PWM_ENABLE 0, 0)], by decide +kernel⟩,
    ⟨true, up [], by decide +kernel⟩,
    ⟨31, true, up [], by decide +kernel⟩,
    ⟨31, false, up [], by decide +kernel⟩⟩

/-- States and operands that meet the hypotheses of `ManagementBus`, clause by clause. -/
theorem witness_ManagementBus :
    (∃ j : BusJob, ∃ s : State, alive s .localIo = true ∧ busStuck s = false ∧ s.lio.job = some j ∧ rd s Obj.XCVR_POLL ≠ 0)
    ∧ (∃ j : BusJob, ∃ s : State, alive s .localIo = true ∧ busStuck s = false ∧ s.lio.job = some j ∧ rd s Obj.PMBUS_POLL ≠ 0)
    ∧ (∃ s : State, (busStuck s = true ∨ rd s Obj.XCVR_POLL = 0))
    ∧ (∃ s : State, (busStuck s = true ∨ rd s Obj.PMBUS_POLL = 0))
    ∧ (∃ _outcome : Nat, ∃ _data : List Byte, ∃ s : State, s.lio.job = none)
    ∧ (∃ j : BusJob, ∃ outcome : Nat, ∃ _data : List Byte, ∃ s : State, alive s .localIo = true ∧ s.lio.job = some j ∧ (outcome = 3 ∨
      outcome = 5 ∨ outcome = 6) ∧ 0 < s.lio.retries)
    ∧ (∃ _data : List Byte, ∃ s : State, alive s .localIo = true ∧ ∃ j : BusJob, s.lio.job = some j)
    ∧ (∃ _data : List Byte, ∃ s : State, alive s .localIo = true ∧ ∃ bs : List Byte, s.lio.job = some .host ∧ s.lio.request = some bs ∧
      s.lio.jobs = [])
    ∧ (∃ s : State, alive s .localIo = true ∧ station s ≠ stHeld ∧ busStuck s = true)
    ∧ ∃ s : State, alive s .localIo = true :=
  ⟨⟨.host, { up [(Obj.XCVR_POLL, 1)] with lio := { (up []).lio with job := some .host } }, by decide +kernel⟩,
    ⟨.host, { up [(Obj.PMBUS_POLL, 1)] with lio := { (up []).lio with job := some .host } }, by decide +kernel⟩,
    ⟨up [(Obj.XCVR_POLL, 0)], by decide +kernel⟩,
    ⟨up [(Obj.MBUS_STATUS, 2 ^ mbStuck)], by decide +kernel⟩,
    ⟨0, [], up [], by decide +kernel⟩,
    ⟨.host, 3, [], { up [] with lio := { (up []).lio with job := some .host, retries := 1 } }, by decide +kernel⟩,
    ⟨[], { up [] with lio := { (up []).lio with job := some .host } }, by decide +kernel, .host, by decide +kernel⟩,
    ⟨[], { up [] with lio := { (up []).lio with job := some .host, request := some [], jobs := [] } }, by decide +kernel, [],
      by decide +kernel⟩,
    ⟨inState stReady [(Obj.MBUS_STATUS, 2 ^ mbStuck)], by decide +kernel⟩,
    ⟨up [], by decide +kernel⟩⟩

/-- States and operands that meet the hypotheses of `ResetReachesAreNested`, clause by clause. -/
theorem witness_ResetReachesAreNested :
    ∃ s : State, alive s .lookout = true ∧ rd s Obj.DEBUG_HALTED % 4 = 0 :=
  ⟨up [], by decide +kernel⟩

/-- States and operands that meet the hypotheses of `ResetSourcesAndWhatTheyKeep`, clause by clause. -/
theorem witness_ResetSourcesAndWhatTheyKeep :
    (∃ c : Instr, ∃ src : Nat, ∃ reach : Nat, ∃ s : State, s.Canonical ∧ ((c = .pornLow ∧ src = rcPorn ∧ reach = 3) ∨ (∃ r, r < 7 ∧ c =
      .supplyMonitorTrip r ∧ src = rcSupply ∧ reach = 3) ∨ (c = .srstnLow ∧ src = rcSrstn ∧ reach = 2) ∨ (∃ d, d ≤ 1 ∧ c =
      .criticalStateParity d ∧ src = rcParityFull ∧ reach = 3) ∨ (c = .criticalStateParity 3 ∧ src = rcParityTime ∧ reach = 2) ∨ (∃ d,
      5 ≤ d ∧ d ≤ 9 ∧ c = .criticalStateParity d ∧ src = rcParityCore ∧ reach = 1) ∨ (alive s .lookout = true ∧ rd s Obj.DEBUG_HALTED %
      4 = 0 ∧ c = .lookoutWatchdogExpiry ∧ src = rcWatchdog ∧ reach = 1)))
    ∧ (∃ s : State, rd s Obj.DEBUG_HALTED % 4 ≠ 0)
    ∧ ∃ r : Nat, ∃ _s : State, 7 ≤ r :=
  ⟨⟨.pornLow, rcPorn, 3, State.reset, by constructor <;> decide +kernel, .inl ⟨rfl, rfl, rfl⟩⟩,
    ⟨up [(Obj.DEBUG_HALTED, 1)], by decide +kernel⟩,
    ⟨7, up [], by decide +kernel⟩⟩

/-- States and operands that meet the hypotheses of `DomainsAreReleasedInOrder`, clause by clause. -/
theorem witness_DomainsAreReleasedInOrder :
    (∃ s : State, (10 ≤ s.rp.released ∨ nextFree s = false ∨ lastReady s = false))
    ∧ (∃ s : State, s.rp.released < 10 ∧ nextFree s = true ∧ lastReady s = true ∧ rd s Obj.REF_PRESENT = 0)
    ∧ (∃ s : State, s.rp.released < 10 ∧ nextFree s = true ∧ lastReady s = true ∧ rd s Obj.REF_PRESENT ≠ 0)
    ∧ (∃ _v : OptionView, ∃ s : State, alive s .option = true)
    ∧ ∃ s : State, alive s .fabric = true :=
  ⟨⟨up [], by decide +kernel⟩,
    ⟨{ State.reset with rp := { State.reset.rp with released := 0 }, regs := (wr State.reset Obj.REF_PRESENT 0).regs },
      by decide +kernel⟩,
    ⟨wr State.reset Obj.REF_PRESENT 1, by decide +kernel⟩,
    ⟨{ good := true, code := 0, units := 0, droves := 128, corrected := 0, us := 1 }, up [], by decide +kernel⟩,
    ⟨up [], by decide +kernel⟩⟩

/-- States and operands that meet the hypotheses of `PowerStatesAndWaking`, clause by clause. -/
theorem witness_PowerStatesAndWaking :
    (∃ u : Nat, ∃ doze : Bool, ∃ s : State, alive s .processing = true ∧ u < 27 ∧ (doze = true → mayDoze s u = true))
    ∧ (∃ u : Nat, ∃ s : State, (27 ≤ u ∨ mayDoze s u = false))
    ∧ (∃ why : Nat, ∃ s : State, why < 5 ∧ rd s Obj.POWER_STATE = 2 ∧ s.rp.entering.1 ≠ 1)
    ∧ (∃ why : Nat, ∃ s : State, why < 5 ∧ rd s Obj.POWER_STATE = 2 ∧ s.rp.entering.1 = 1)
    ∧ (∃ why : Nat, ∃ s : State, why < 5 ∧ rd s Obj.POWER_STATE = 3 ∧ s.rp.waking = false)
    ∧ (∃ why : Nat, ∃ s : State, why < 5 ∧ rd s Obj.POWER_STATE < 2)
    ∧ (∃ s : State, rd s Obj.POWER_STATE < 2)
    ∧ (∃ i : Nat, ∃ why : Nat, ∃ s : State, wakeInstant s = some i ∧ 0 < s.time.inc ∧ why < 5 ∧ rd s Obj.POWER_STATE = 2)
    ∧ (∃ i : Nat, ∃ why : Nat, ∃ s : State, wakeInstant s = some i ∧ 0 < s.time.inc ∧ why < 5 ∧ rd s Obj.POWER_STATE = 3)
    ∧ (∃ why : Nat, ∃ _s : State, 5 ≤ why)
    ∧ (∃ pg : Bool, ∃ ref : Bool, ∃ s : State, s.rp.waking = true ∧ (pg || ref) = true ∧ s.rp.wakeTries < 2)
    ∧ (∃ pg : Bool, ∃ ref : Bool, ∃ s : State, s.rp.waking = true ∧ (pg || ref) = true ∧ 2 ≤ s.rp.wakeTries)
    ∧ (∃ s : State, s.rp.waking = true ∧ rd s Obj.REF_PRESENT ≠ 0 ∧ (∀ k, k < 5 → rd s (Obj.PLL_STATE k) = 0))
    ∧ ∃ port : Nat, ∃ _up : Bool, ∃ s : State, alive s .lookout = true ∧ port < 3 ∧ rd s Obj.POWER_STATE ≠ 3 :=
  ⟨⟨26, true, up [], by decide +kernel⟩,
    ⟨27, up [], by decide +kernel⟩,
    ⟨4, up [(Obj.POWER_STATE, 2)], by decide +kernel⟩,
    ⟨4, { up [(Obj.POWER_STATE, 2)] with rp := { (up []).rp with entering := (1, 9) } }, by decide +kernel⟩,
    ⟨4, up [(Obj.POWER_STATE, 3)], by decide +kernel⟩,
    ⟨4, up [(Obj.POWER_STATE, 1)], by decide +kernel⟩,
    ⟨up [(Obj.POWER_STATE, 1)], by decide +kernel⟩,
    ⟨(wakeInstant (up [(Obj.POWER_STATE, 2), (Obj.NEXT_DISPATCH, 1)])).getD 0, 4, up [(Obj.POWER_STATE, 2), (Obj.NEXT_DISPATCH, 1)],
      by decide +kernel⟩,
    ⟨0, 4, { up [(Obj.POWER_STATE, 3)] with rp := { (up []).rp with wakeAt := some 0 } }, by decide +kernel⟩,
    ⟨5, up [], by decide +kernel⟩,
    ⟨true, false, { up [(Obj.POWER_STATE, 3)] with rp := { (up []).rp with waking := true, wakeTries := 1 } }, by decide +kernel⟩,
    ⟨true, false, { up [(Obj.POWER_STATE, 3)] with rp := { (up []).rp with waking := true, wakeTries := 2 } }, by decide +kernel⟩,
    ⟨{ up ([(Obj.POWER_STATE, 3), (Obj.REF_PRESENT, 1)] ++ (List.range 5).map (fun k => (Obj.PLL_STATE k, 0))) with rp := { (up []).rp with waking := true } },
      by decide +kernel⟩,
    ⟨2, true, upNow, by decide +kernel⟩⟩

/-- States and operands that meet the hypotheses of `CoveAndJunction`, clause by clause. -/
theorem witness_CoveAndJunction :
    (∃ s : State, alive s .time = true ∧ s.cove.alive = true ∧ 0 < s.time.inc)
    ∧ (∃ die : Nat, ∃ x : Int, ∃ s : State, die < s.rp.dieTemp.length ∧ 14500 ≤ x ∧ x ≤ 15500 ∧ s.rp.tempAlarm = 0 ∧ (∀ y, y ∈
      s.rp.dieTemp → y ≤ 15500))
    ∧ (∃ die : Nat, ∃ x : Int, ∃ s : State, die < s.rp.dieTemp.length ∧ 15500 < x ∧ s.rp.tempAlarm = 1)
    ∧ ∃ die : Nat, ∃ x : Int, ∃ s : State, die < s.rp.dieTemp.length ∧ 0 < s.rp.tempAlarm ∧ x < 14000 ∧ (∀ y, y ∈ s.rp.dieTemp → y <
      14000) :=
  ⟨⟨{ up [] with cove := { (up []).cove with alive := true } }, by decide +kernel⟩,
    ⟨0, 15500, up [], by decide +kernel⟩,
    ⟨0, 15501, { up [] with rp := { (up []).rp with tempAlarm := 1 } }, by decide +kernel⟩,
    ⟨0, 13999, { up [] with rp := { (up []).rp with tempAlarm := 1 } }, by decide +kernel⟩⟩

/-- States and operands that meet the hypotheses of `SessionsOpenAuthenticateAndEnd`, clause by clause. -/
theorem witness_SessionsOpenAuthenticateAndEnd :
    (∃ net : NetAddr, ∃ f : ObjFrame, ∃ k : Nat, ∃ s : State, Arrived net s ∧ frameForm f 0 = true ∧ f.payload.length = 20 ∧
      addressBlocked s net.addr = false ∧ s.rp.fallback = false ∧ openAllowed (leNat (slice f.payload 0 1)) (leNat (slice f.payload 1
      1)) net.port = true ∧ freeSlot s = some k ∧ k < s.sessions.length)
    ∧ (∃ net : NetAddr, ∃ f : ObjFrame, ∃ s : State, Arrived net s ∧ frameForm f 0 = true ∧ f.payload.length = 20 ∧ addressBlocked s
      net.addr = false ∧ openAllowed (leNat (slice f.payload 0 1)) (leNat (slice f.payload 1 1)) net.port = false)
    ∧ (∃ net : NetAddr, ∃ f : ObjFrame, ∃ s : State, Arrived net s ∧ frameForm f 0 = true ∧ f.payload.length = 20 ∧ addressBlocked s
      net.addr = false ∧ s.rp.fallback = false ∧ openAllowed (leNat (slice f.payload 0 1)) (leNat (slice f.payload 1 1)) net.port =
      true ∧ freeSlot s = none)
    ∧ (∃ net : NetAddr, ∃ f : ObjFrame, ∃ k : Nat, ∃ s : State, Arrived net s ∧ frameForm f 0 = true ∧ f.payload.length = 32 ∧
      findSession s f.session [1] = some k ∧ k < s.sessions.length ∧ (installing s = false ∨ f.payload ≠ List.replicate 32 0) ∧ roleKey
      s (sessRole s k) ≠ [] ∧ f.payload = openProof (roleKey s (sessRole s k)) (sess s k) (sessMaster s k) (sessRole s k) ∧
      olderSessions s k (sessMaster s k) (sessRole s k) = [])
    ∧ (∃ net : NetAddr, ∃ f : ObjFrame, ∃ k : Nat, ∃ s : State, Arrived net s ∧ frameForm f 0 = true ∧ f.payload = List.replicate 32 0
      ∧ net.port = 2 ∧ findSession s f.session [1] = some k ∧ k < s.sessions.length ∧ installing s = true ∧ sessMaster s k = 3 ∧
      sessRole s k = 2 ∧ olderSessions s k 3 2 = [])
    ∧ (∃ net : NetAddr, ∃ f : ObjFrame, ∃ k : Nat, ∃ s : State, Arrived net s ∧ frameForm f 0 = true ∧ f.payload.length = 32 ∧
      findSession s f.session [1] = some k ∧ (installing s = false ∨ f.payload ≠ List.replicate 32 0) ∧ f.payload ≠ openProof (roleKey
      s (sessRole s k)) (sess s k) (sessMaster s k) (sessRole s k))
    ∧ (∃ net : NetAddr, ∃ f : ObjFrame, ∃ k : Nat, ∃ s : State, Heard k net f s ∧ InTurn k f s ∧ f.service = 0x04)
    ∧ (∃ net : NetAddr, ∃ f : ObjFrame, ∃ k : Nat, ∃ s : State, Heard k net f s ∧ InTurn k f s ∧ f.service = 0x03)
    ∧ (∃ k : Nat, ∃ s : State, alive s .lookout = true ∧ k < 16 ∧ rd s (Obj.SESSION_STATE k) = 1)
    ∧ (∃ k : Nat, ∃ s : State, alive s .lookout = true ∧ sessOpen s k = true)
    ∧ ∃ k : Nat, ∃ v : Nat, ∃ s : State, MayWriteN k Obj.SESSION_EVICT v s ∧ v < 16 ∧ (rd s (Obj.SESSION_STATE v) = 1 ∨ rd s
      (Obj.SESSION_STATE v) = 2) :=
  ⟨⟨hsvc, frame 0x01 0 0 (List.replicate 20 0), 0, up [], by decide +kernel⟩,
    ⟨hsvc, frame 0x01 0 0 ((1 : Byte) :: List.replicate 19 0), up [], by decide +kernel⟩,
    ⟨hsvc, frame 0x01 0 0 (List.replicate 20 0), up ((List.range 16).map (fun k => (Obj.SESSION_STATE k, 2))), by decide +kernel⟩,
    ⟨hsvc, frame 0x02 0 0 (openProof [1] { Session.free with ident := 7 } 0 0), 0, wrBlob (wr (host 0 0 [(Obj.KEYS_SET, 4)])
      (Obj.SESSION_STATE 0) 1) (Obj.ROLE_KEY 0) [1], by decide +kernel⟩,
    ⟨hsvc, frame 0x02 0 0 (List.replicate 32 0), 0, wr (host 2 3 []) (Obj.SESSION_STATE 0) 1, by decide +kernel⟩,
    ⟨hsvc, frame 0x02 0 0 (List.replicate 32 1), 0, wr (host 0 0 [(Obj.KEYS_SET, 4)]) (Obj.SESSION_STATE 0) 1, by decide +kernel⟩,
    ⟨hsvc, frame 0x04 0 0 [], 0, host 0 0 [], by decide +kernel⟩,
    ⟨hsvc, frame 0x03 0 0 [], 0, host 0 0 [], by decide +kernel⟩,
    ⟨15, up [(Obj.SESSION_STATE 15, 1)], by decide +kernel⟩,
    ⟨15, up [(Obj.SESSION_STATE 15, 2)], by decide +kernel⟩,
    ⟨0, 15, host 2 3 [(Obj.SESSION_STATE 15, 1)], by decide +kernel⟩⟩

/-- States and operands that meet the hypotheses of `RequestsForUnknownSessions`, clause by clause. -/
theorem witness_RequestsForUnknownSessions :
    (∃ net : NetAddr, ∃ f : ObjFrame, ∃ c : Instr, ∃ code : Nat, ∃ s : State, (c, code) ∈ requestRows net f ∧ f.service = code ∧ hostUp
      s net.port = true ∧ addressed s net = true ∧ findSession s f.session [2, 3] = none ∧ (frameForm f 0 = true ∨ frameForm f 32 =
      true) ∧ ∃ ks : List Byte, endedKey s f.session = some ks ∧ f.tag = frameTag ks f ∧ reachable s net.port net.addr = true)
    ∧ (∃ net : NetAddr, ∃ f : ObjFrame, ∃ c : Instr, ∃ code : Nat, ∃ s : State, (c, code) ∈ requestRows net f ∧ f.service = code ∧
      hostUp s net.port = true ∧ addressed s net = true ∧ findSession s f.session [2, 3] = none ∧ (frameForm f 0 = true ∨ frameForm f
      32 = true) ∧ (∀ ks, endedKey s f.session = some ks → f.tag ≠ frameTag ks f))
    ∧ ∃ net : NetAddr, ∃ f : ObjFrame, ∃ c : Instr, ∃ code : Nat, ∃ s : State, (c, code) ∈ requestRows net f ∧ f.service = code ∧
      hostUp s net.port = true ∧ addressed s net = true ∧ findSession s f.session [2, 3] = none ∧ (frameForm f 0 = true ∨ frameForm f
      32 = true) ∧ f.payload.length = 32 ∧ frameForm f 0 = true ∧ findSession s f.session [1] = none :=
  ⟨⟨hsvc, frame 0x10 0 0 [], .read hsvc (frame 0x10 0 0 []), 0x10, withSess (fun x => { x with ended := [(7, [])] }) (up []),
      by refine ⟨?_, ?_, ?_, ?_, ?_, ?_, [], ?_⟩ <;> decide +kernel⟩,
    ⟨hsvc, frame 0x30 0 0 [], .imageOut hsvc (frame 0x30 0 0 []), 0x30, up [], by decide +kernel, by decide +kernel, by decide +kernel,
      by decide +kernel, by decide +kernel, by decide +kernel,
      fun ks h => absurd h (by rw [show endedKey _ _ = none from by decide +kernel]; exact nofun)⟩,
    ⟨hsvc, frame 0x03 0 0 (List.replicate 32 0), .sessionClose hsvc (frame 0x03 0 0 (List.replicate 32 0)), 0x03, up [],
      by decide +kernel⟩⟩

/-- States and operands that meet the hypotheses of `ReadsWritesAndTransfers`, clause by clause. -/
theorem witness_ReadsWritesAndTransfers :
    (∃ net : NetAddr, ∃ f : ObjFrame, ∃ k : Nat, ∃ r : ObjRow, ∃ s : State, Heard k net f s ∧ InTurn k f s ∧ f.service = 0x10 ∧
      readCheck s f.index f.sub = .inl r ∧ let x := readObject k (objKey f.index f.sub) r (taken k net f s); x.2.length ≤ 1024)
    ∧ (∃ net : NetAddr, ∃ f : ObjFrame, ∃ k : Nat, ∃ code : Nat, ∃ s : State, Heard k net f s ∧ InTurn k f s ∧ f.service = 0x10 ∧
      readCheck s f.index f.sub = .inr code)
    ∧ (∃ net : NetAddr, ∃ f : ObjFrame, ∃ k : Nat, ∃ s : State, Heard k net f s ∧ InTurn k f s ∧ f.service = 0x11 ∧
      let w := writeObject k f.seq f.index f.sub f.payload (taken k net f s); w.2 = 0 ∧ reachable w.1 net.port net.addr = true ∧
      w.1.rp.resetDue = 0 ∧ (sess w.1 k).held = [] ∧ (∀ j, j < 16 → rd w.1 (Obj.SESSION_STATE j) ≠ 3))
    ∧ (∃ net : NetAddr, ∃ f : ObjFrame, ∃ k : Nat, ∃ s : State, Heard k net f s ∧ InTurn k f s ∧ f.service = 0x11 ∧ (tokenGoverns
      (taken k net f s) k (objKey f.index f.sub) = false ∨ tokenAccepts (taken k net f s) k = true) ∧
      let code := (writeChecks (taken k net f s) k f.index f.sub f.payload).2; code ≠ 0)
    ∧ (∃ net : NetAddr, ∃ f : ObjFrame, ∃ k : Nat, ∃ r : ObjRow, ∃ s : State, Heard k net f s ∧ InTurn k f s ∧ f.service = 0x12 ∧
      s.rp.fallback = false ∧ readCheck s f.index f.sub = .inl r ∧ transfersOpen s k < 8 ∧
      let x := readObject k (objKey f.index f.sub) r (taken k net f s); x.2.length ≤ 2 ^ 24)
    ∧ (∃ net : NetAddr, ∃ f : ObjFrame, ∃ k : Nat, ∃ x : Transfer, ∃ s : State, Heard k net f s ∧ InTurn k f s ∧ f.service = 0x13 ∧
      s.rp.fallback = false ∧ f.payload.length = 4 ∧ namedTransfer s k false f.payload = some x)
    ∧ (∃ net : NetAddr, ∃ f : ObjFrame, ∃ k : Nat, ∃ r : ObjRow, ∃ s : State, Heard k net f s ∧ InTurn k f s ∧ f.service = 0x14 ∧
      s.rp.fallback = false ∧ presentRow (optionCode s) f.index f.sub = some r ∧ r.acc ≠ .ro ∧ roleMay s k (objKey f.index f.sub) r =
      true ∧ f.arg ≤ 2 ^ 20 ∧ transfersOpen s k < 8)
    ∧ (∃ net : NetAddr, ∃ f : ObjFrame, ∃ k : Nat, ∃ x : Transfer, ∃ s : State, Heard k net f s ∧ InTurn k f s ∧ f.service = 0x15 ∧
      s.rp.fallback = false ∧ 4 ≤ f.payload.length ∧ namedTransfer s k true f.payload = some x ∧ f.arg = x.data.length ∧ x.data.length
      + (f.payload.length - 4) ≤ x.total)
    ∧ (∃ net : NetAddr, ∃ f : ObjFrame, ∃ k : Nat, ∃ x : Transfer, ∃ s : State, Heard k net f s ∧ InTurn k f s ∧ f.service = 0x16 ∧
      s.rp.fallback = false ∧ f.payload.length = 8 ∧ namedTransfer s k true f.payload = some x ∧ x.data.length = x.total ∧ crc32c
      x.data = leNat (slice f.payload 4 4) ∧ let w := writeObject k f.seq x.index x.sub x.data (taken k net f s); w.2 = 0 ∧ reachable
      w.1 net.port net.addr = true ∧ w.1.rp.resetDue = 0 ∧ (sess w.1 k).held = [] ∧ (∀ j, j < 16 → rd w.1 (Obj.SESSION_STATE j) ≠ 3))
    ∧ (∃ net : NetAddr, ∃ f : ObjFrame, ∃ k : Nat, ∃ x : Transfer, ∃ s : State, Heard k net f s ∧ InTurn k f s ∧ f.service = 0x16 ∧
      s.rp.fallback = false ∧ f.payload.length = 8 ∧ namedTransfer s k true f.payload = some x ∧ (x.data.length ≠ x.total ∨ crc32c
      x.data ≠ leNat (slice f.payload 4 4)))
    ∧ (∃ _k : Nat, ∃ s : State, alive s .lookout = true)
    ∧ (∃ k : Nat, ∃ h : HeldRequest, ∃ rest : List HeldRequest, ∃ s : State, alive s .lookout = true ∧ (sess s k).held = h :: rest)
    ∧ (∃ port : Nat, ∃ s : State, hostUp s port = true)
    ∧ (∃ net : NetAddr, ∃ f : ObjFrame, ∃ c : Instr, ∃ code : Nat, ∃ s : State, (c, code) ∈ requestRows net f ∧ hostUp s net.port =
      true ∧ addressed s net = false)
    ∧ (∃ port : Nat, ∃ _data : List Byte, ∃ s : State, hostUp s port = true)
    ∧ ∃ port : Nat, ∃ target : Nat, ∃ data : List Byte, ∃ s : State, hostUp s port = true ∧ data.length ≤ 64 ∧ reachable s port target
      = true :=
  ⟨⟨hsvc, frame 0x10 Obj.GPIO_OUT 0 [], 0, rowOf Obj.GPIO_OUT, host 0 0 [], by refine ⟨?_, ?_, ?_, ?_, ?_⟩ <;> decide +kernel⟩,
    ⟨hsvc, frame 0x10 Obj.REBALANCE 0 [], 0, abWriteOnly, host 0 0 [], by decide +kernel⟩,
    ⟨hsvc, frame 0x11 Obj.GPIO_OUT 0 [1, 0, 0, 0], 0, host 1 3 [], by refine ⟨?_, ?_, ?_, ?_⟩ <;> decide +kernel⟩,
    ⟨hsvc, frame 0x11 Obj.GPIO_OUT 0 [1], 0, host 1 3 [], by refine ⟨?_, ?_, ?_, ?_, ?_⟩ <;> decide +kernel⟩,
    ⟨hsvc, frame 0x12 Obj.GPIO_OUT 0 [], 0, rowOf Obj.GPIO_OUT, host 0 0 [], by refine ⟨?_, ?_, ?_, ?_, ?_, ?_, ?_⟩ <;> decide +kernel⟩,
    ⟨hsvc, frame 0x13 Obj.GPIO_OUT 0 [1, 0, 0, 0], 0,
      { ident := 1, write := false, index := 0x2860, sub := 2, total := 4, data := [1, 0, 0, 0] }, withSess (fun x =>
      { x with transfer := some { ident := 1, write := false, index := 0x2860, sub := 2, total := 4, data := [1, 0, 0, 0] } }) (host 0
      0 []), by decide +kernel⟩,
    ⟨hsvc, frame 0x14 Obj.GPIO_OUT 4 [], 0, rowOf Obj.GPIO_OUT, host 1 3 [], by decide +kernel⟩,
    ⟨hsvc, frame 0x15 Obj.GPIO_OUT 0 [1, 0, 0, 0, 9, 0, 0, 0], 0,
      { ident := 1, write := true, index := 0x2860, sub := 2, total := 4, data := [] }, withSess (fun x =>
      { x with transfer := some { ident := 1, write := true, index := 0x2860, sub := 2, total := 4, data := [] } }) (host 1 3 []),
      by decide +kernel⟩,
    ⟨hsvc, frame 0x16 Obj.GPIO_OUT 0 ([1, 0, 0, 0] ++ leBytes 4 (crc32c [9, 0, 0, 0])), 0,
      { ident := 1, write := true, index := 0x2860, sub := 2, total := 4, data := [9, 0, 0, 0] }, withSess (fun x =>
      { x with transfer := some { ident := 1, write := true, index := 0x2860, sub := 2, total := 4, data := [9, 0, 0, 0] } }) (host 1 3
      []), by decide +kernel, by decide +kernel, by decide +kernel, by decide +kernel, by decide +kernel, by decide +kernel,
      by refine ⟨?_, ?_, ?_⟩ <;> decide +kernel⟩,
    ⟨hsvc, frame 0x16 Obj.GPIO_OUT 0 [1, 0, 0, 0, 0, 0, 0, 0], 0,
      { ident := 1, write := true, index := 0x2860, sub := 2, total := 4, data := [9] }, withSess (fun x =>
      { x with transfer := some { ident := 1, write := true, index := 0x2860, sub := 2, total := 4, data := [9] } }) (host 1 3 []),
      by decide +kernel⟩,
    ⟨0, up [], by decide +kernel⟩,
    ⟨0, { net := hsvc, frame := frame 0x10 0 0 [], since := 0 }, [],
      withSess (fun x => { x with held := [{ net := hsvc, frame := frame 0x10 0 0 [], since := 0 }] }) (host 0 0 []), by decide +kernel⟩,
    ⟨2, up [], by decide +kernel⟩,
    ⟨{ hsvc with own := 9 }, frame 0x10 0 0 [], .read { hsvc with own := 9 } (frame 0x10 0 0 []), 0x10, host 0 0 [], by decide +kernel⟩,
    ⟨2, [], up [], by decide +kernel⟩,
    ⟨2, 0, [], up [(Obj.IP_GATEWAY 2, 1)], by decide +kernel⟩⟩

/-- States and operands that meet the hypotheses of `NotificationsAndTheToken`, clause by clause. -/
theorem witness_NotificationsAndTheToken :
    (∃ kind : Nat, ∃ k : Nat, ∃ _body : List Byte, ∃ s : State, alive s .lookout = true ∧ k < 16 ∧ k < s.sessions.length ∧ sessOpen s k
      = true ∧ bit (rd s (Obj.NOTIFY_MASK k)) (kind - 1) = true ∧ (sess s k).notes.length < 64)
    ∧ (∃ kind : Nat, ∃ k : Nat, ∃ _body : List Byte, ∃ s : State, alive s .lookout = true ∧ (sessOpen s k = false ∨ bit (rd s
      (Obj.NOTIFY_MASK k)) (kind - 1) = false))
    ∧ (∃ kind : Nat, ∃ k : Nat, ∃ _body : List Byte, ∃ s : State, alive s .lookout = true ∧ k < 16 ∧ k < s.sessions.length ∧ sessOpen s
      k = true ∧ bit (rd s (Obj.NOTIFY_MASK k)) (kind - 1) = true ∧ 64 ≤ (sess s k).notes.length)
    ∧ (∃ net : NetAddr, ∃ f : ObjFrame, ∃ k : Nat, ∃ s : State, Heard k net f s ∧ f.service = 0x21 ∧ f.arg < (sess s k).outSeq)
    ∧ (∃ k : Nat, ∃ s : State, alive s .lookout = true ∧ sessOpen s k = true ∧ reachable s (sessNet s k).port (sessNet s k).addr =
      true)
    ∧ (∃ k : Nat, ∃ m : Nat, ∃ s : State, MayWriteN k Obj.TOKEN_REQUEST m s ∧ sessMaster s k = m ∧ (m = 1 ∨ m = 2) ∧ rd s
      Obj.TOKEN_HOLDER = 0)
    ∧ (∃ k : Nat, ∃ m : Nat, ∃ s : State, MayWriteN k Obj.TOKEN_REQUEST m s ∧ sessMaster s k = m ∧ (m = 1 ∨ m = 2) ∧ rd s
      Obj.TOKEN_HOLDER = m)
    ∧ (∃ k : Nat, ∃ m : Nat, ∃ s : State, MayWriteN k Obj.TOKEN_REQUEST m s ∧ sessMaster s k = m ∧ (m = 1 ∨ m = 2) ∧ rd s
      Obj.TOKEN_HOLDER = 3 - m)
    ∧ (∃ k : Nat, ∃ m : Nat, ∃ s : State, MayWriteN k Obj.TOKEN_REQUEST (m + 0x80) s ∧ sessMaster s k = m ∧ (m = 1 ∨ m = 2) ∧ sessRole
      s k = 2 ∧ rd s Obj.TOKEN_HOLDER ≠ m)
    ∧ (∃ k : Nat, ∃ v : Nat, ∃ s : State, MayWriteN k Obj.TOKEN_RELEASE v s ∧ (sessMaster s k = 1 ∨ sessMaster s k = 2) ∧ rd s
      Obj.TOKEN_HOLDER = sessMaster s k)
    ∧ (∃ s : State, alive s .lookout = true ∧ rd s Obj.TOKEN_HOLDER ≠ 0)
    ∧ ∃ s : State, rd s Obj.TOKEN_HOLDER = 0 :=
  ⟨⟨1, 0, [5], host 0 0 [], by decide +kernel⟩,
    ⟨1, 1, [5], host 0 0 [], by decide +kernel⟩,
    ⟨7, 0, [5], withSess (fun x => { x with notes := List.replicate 64 { seq := 0, kind := 1, flags := 0, stime := 0, body := [] } })
      (host 0 0 []), by decide +kernel⟩,
    ⟨hsvc, frame 0x21 0 0 [], 0, withSess (fun x =>
      { x with outSeq := 2, notes := [{ seq := 1, kind := 1, flags := 0, stime := 0, body := [] }] }) (host 0 0 []), by decide +kernel⟩,
    ⟨0, withSess (fun x => { x with notes := [{ seq := 1, kind := 1, flags := 0, stime := 0, body := [] }] }) (host 0 0 []),
      by decide +kernel⟩,
    ⟨0, 2, host 2 2 [(Obj.SESSION_PORT 0, 1), (Obj.SESSION_ADDRESS 0, 0xC0A80B14)], by decide +kernel⟩,
    ⟨0, 1, host 2 1 [(Obj.SESSION_PORT 0, 1), (Obj.SESSION_ADDRESS 0, 0xC0A80B14), (Obj.TOKEN_HOLDER, 1)], by decide +kernel⟩,
    ⟨0, 1, host 2 1 [(Obj.SESSION_PORT 0, 1), (Obj.SESSION_ADDRESS 0, 0xC0A80B14), (Obj.TOKEN_HOLDER, 2)], by decide +kernel⟩,
    ⟨0, 1, host 2 1 [(Obj.SESSION_PORT 0, 1), (Obj.SESSION_ADDRESS 0, 0xC0A80B14), (Obj.TOKEN_HOLDER, 2)], by decide +kernel⟩,
    ⟨0, 1, host 2 2 [(Obj.SESSION_PORT 0, 1), (Obj.SESSION_ADDRESS 0, 0xC0A80B14), (Obj.TOKEN_HOLDER, 2)], by decide +kernel⟩,
    ⟨up [(Obj.TOKEN_HOLDER, 1)], by decide +kernel⟩,
    ⟨up [], by decide +kernel⟩⟩

/-- States and operands that meet the hypotheses of `ImagesAndStreams`, clause by clause. -/
theorem witness_ImagesAndStreams :
    (∃ net : NetAddr, ∃ f : ObjFrame, ∃ k : Nat, ∃ m : Nat, ∃ s : State, Heard k net f s ∧ f.service = 0x30 ∧ net.port ≠ 2 ∧
      s.rp.fallback = false ∧ sessMaster s k = m ∧ (m = 1 ∨ m = 2) ∧ s.images.length = 3 ∧ aheadOf 32 f.arg (sess s k).imageArg = true
      ∧ 24 ≤ f.payload.length ∧ (f.payload.drop 24).length = leNat (slice f.payload 18 2) ∧ (f.payload.drop 24).length ≤ 1000 ∧
      let cycle := leNat (slice f.payload 0 8);
      let joined := setMaster m (fun x => { x with asm := addFragment cycle (leNat (slice f.payload 16 2)) (f.payload.drop 24) x.asm }) s;
      (cycle = rd s Obj.IMAGE_CYCLE_NOW ∨ cycle = rd s Obj.IMAGE_CYCLE_NOW + 1) ∧ (masterImages s m).complete.contains cycle = false ∧
      imageOf joined m cycle = none)
    ∧ (∃ net : NetAddr, ∃ f : ObjFrame, ∃ k : Nat, ∃ m : Nat, ∃ s : State, Heard k net f s ∧ f.service = 0x30 ∧ net.port ≠ 2 ∧
      s.rp.fallback = false ∧ sessMaster s k = m ∧ (m = 1 ∨ m = 2) ∧ s.images.length = 3 ∧ aheadOf 32 f.arg (sess s k).imageArg = true
      ∧ 24 ≤ f.payload.length ∧ (f.payload.drop 24).length = leNat (slice f.payload 18 2) ∧ (f.payload.drop 24).length ≤ 1000 ∧
      let cycle := leNat (slice f.payload 0 8);
      let joined := setMaster m (fun x => { x with asm := addFragment cycle (leNat (slice f.payload 16 2)) (f.payload.drop 24) x.asm }) s;
      (cycle = rd s Obj.IMAGE_CYCLE_NOW ∨ cycle = rd s Obj.IMAGE_CYCLE_NOW + 1) ∧ (masterImages s m).complete.contains cycle = false ∧
      ∃ v : List Byte, imageOf joined m cycle = some [(Obj.GPIO_OUT, v)] ∧ v.length = 4 ∧ rd s (Obj.SESSION_STATE k) = 2 ∧ imageApplies
      s m cycle = true ∧ (∀ j, j < 4 → (masterImages s j).remembered = [] ∧ (masterImages s j).shadow = []))
    ∧ (∃ net : NetAddr, ∃ f : ObjFrame, ∃ k : Nat, ∃ m : Nat, ∃ s : State, Heard k net f s ∧ f.service = 0x30 ∧ net.port ≠ 2 ∧
      s.rp.fallback = false ∧ sessMaster s k = m ∧ (m = 1 ∨ m = 2) ∧ s.images.length = 3 ∧ aheadOf 32 f.arg (sess s k).imageArg = true
      ∧ 24 ≤ f.payload.length ∧ (f.payload.drop 24).length = leNat (slice f.payload 18 2) ∧ (f.payload.drop 24).length ≤ 1000 ∧
      let cycle := leNat (slice f.payload 0 8);
      let joined := setMaster m (fun x => { x with asm := addFragment cycle (leNat (slice f.payload 16 2)) (f.payload.drop 24) x.asm }) s;
      (cycle = rd s Obj.IMAGE_CYCLE_NOW ∨ cycle = rd s Obj.IMAGE_CYCLE_NOW + 1) ∧ (masterImages s m).complete.contains cycle = false ∧
      ∃ v : List Byte, imageOf joined m cycle = some [(Obj.GPIO_OUT, v)] ∧ imageApplies s m cycle = false)
    ∧ (∃ net : NetAddr, ∃ f : ObjFrame, ∃ k : Nat, ∃ s : State, Heard k net f s ∧ f.service = 0x30 ∧ net.port ≠ 2 ∧ s.rp.fallback =
      false ∧ (sessMaster s k = 1 ∨ sessMaster s k = 2) ∧ aheadOf 32 f.arg (sess s k).imageArg = true ∧ 24 ≤ f.payload.length ∧
      (f.payload.drop 24).length = leNat (slice f.payload 18 2) ∧ (f.payload.drop 24).length ≤ 1000 ∧ leNat (slice f.payload 0 8) ≠ rd
      s Obj.IMAGE_CYCLE_NOW ∧ leNat (slice f.payload 0 8) ≠ rd s Obj.IMAGE_CYCLE_NOW + 1)
    ∧ (∃ s : State, alive s .lookout = true ∧ 0 < s.time.inc ∧ 0 < rd s Obj.IMAGE_CYCLE ∧ rd s Obj.IMAGES_IN_SENT ≤ 2 ^ 64 - 1)
    ∧ (∃ port : Nat, ∃ i : Nat, ∃ m : SvFrame, ∃ s : State, hostUp s port = true ∧ port ≠ 2 ∧ vlanFits s port m.vlan = true ∧
      streamsFor s m = [i] ∧ frameFits s i m = true ∧ (∃ a, a ∈ m.asdus ∧ oldSample s i a = false) ∧ (m.asdus.map (fun a => a.smpCnt)).Nodup ∧
      rd s (Obj.SV_RATE i) ≤ 15360 ∧ (∀ c, c < 2 → streamFeeds s i c = false))
    ∧ (∃ port : Nat, ∃ i : Nat, ∃ m : SvFrame, ∃ s : State, hostUp s port = true ∧ port ≠ 2 ∧ vlanFits s port m.vlan = true ∧
      streamsFor s m = [i] ∧ frameFits s i m = false)
    ∧ (∃ port : Nat, ∃ m : SvFrame, ∃ s : State, hostUp s port = true ∧ (port = 2 ∨ vlanFits s port m.vlan = false))
    ∧ ∃ st : Nat, ∃ s : State, alive s .lookout = true ∧ st < 8 ∧ rdBool s (Obj.SV_ENABLE st) = true :=
  ⟨⟨lan, imageFrame 5 [9, 0, 0], 0, 1, imager [], by decide +kernel, by decide +kernel, by decide +kernel, by decide +kernel,
      by decide +kernel, by decide +kernel, by refine ⟨?_, ?_, ?_, ?_, ?_, ?_⟩ <;> decide +kernel⟩,
    ⟨lan, imageFrame 4 [9, 0, 0, 0], 0, 1, imager [], by decide +kernel, by decide +kernel, by decide +kernel, by decide +kernel,
      by decide +kernel, by decide +kernel, by refine ⟨?_, ?_, ?_, ?_, ?_, ?_, ?_, [9, 0, 0, 0], ?_⟩ <;> decide +kernel⟩,
    ⟨lan, imageFrame 4 [9, 0, 0, 0], 0, 1, imager [(Obj.TOKEN_MODE, 1), (Obj.TOKEN_HOLDER, 2)], by decide +kernel, by decide +kernel,
      by decide +kernel, by decide +kernel, by decide +kernel, by decide +kernel,
      by refine ⟨?_, ?_, ?_, ?_, ?_, ?_, ?_, [9, 0, 0, 0], ?_⟩ <;> decide +kernel⟩,
    ⟨lan, imageFrame 6 [9, 0, 0, 0], 0, imager [], by decide +kernel⟩,
    ⟨up [(Obj.IMAGE_CYCLE, 1)], by decide +kernel⟩,
    ⟨1, 7, svFrameOf 3, streamed [], by decide +kernel⟩,
    ⟨0, 7, svFrameOf 4000, streamed [], by decide +kernel⟩,
    ⟨0, { svFrameOf 3 with vlan := some 9 }, streamed [], by decide +kernel⟩,
    ⟨7, streamed [], by decide +kernel⟩⟩

/-- States and operands that meet the hypotheses of `QueueStoreAndDroveWrites`, clause by clause. -/
theorem witness_QueueStoreAndDroveWrites :
    (∃ k : Nat, ∃ which : Nat, ∃ value : List Byte, ∃ s : State, which < 4 ∧ MayWrite k (Obj.ROLE_KEY which) value s)
    ∧ (∃ k : Nat, ∃ value : List Byte, ∃ s : State, MayWrite k Obj.QUEUE_POST value s ∧ let id := leNat (slice value 0 4);
      let body := value.drop 8; id ≤ 262143 ∧ leafBound (queueClass id) = true ∧ queueLeaf id < leafCount s ∧ ((if queueClass id = 0 ∨
      queueClass id = 2 then 2 else 1) ≤ sessRole s k) ∧ (queueClass id = 1 → 4 ≤ body.length ∧ 0x40 ≤ leNat (body.take 1)) ∧ ((queueOf
      s id).qstate = 1 ∨ (queueOf s id).qstate = 2) ∧ leNat (slice value 4 2) = (queueOf s id).nextSeq ∧ postFits s id body.length =
      true)
    ∧ (∃ k : Nat, ∃ v : Nat, ∃ s : State, MayWriteN k Obj.QUEUE_SELECT v s ∧ v ≤ 262143)
    ∧ (∃ k : Nat, ∃ value : List Byte, ∃ m : Msg, ∃ s : State, MayWrite k Obj.QUEUE_RELEASE value s ∧
      let id := leNat (slice value 0 4); id ≤ 262143 ∧ queueLeaf id < leafCount s ∧ (queueOf s id).head (queueClass id) = some m ∧
      leNat (slice value 4 2) = m.seq)
    ∧ (∃ k : Nat, ∃ id : Nat, ∃ s : State, MayWriteN k Obj.QUEUE_CLEAR_RETURNED id s ∧ id ≤ 262143 ∧ leafBound (queueClass id) = true ∧
      queueLeaf id < leafCount s ∧ (queueOf s id).qstate = 3)
    ∧ (∃ k : Nat, ∃ n : Nat, ∃ s : State, n < 16 ∧ MayWriteN k (Obj.SUB_ENABLE n) 0 s)
    ∧ (∃ k : Nat, ∃ n : Nat, ∃ s : State, n < 16 ∧ MayWriteN k (Obj.SUB_ENABLE n) 1 s ∧ (sumRat (((List.range 16).filter (fun j =>
      decide (j = n) || rdBool s (Obj.SUB_ENABLE j))).map (subRate s)) ≤ 500000000))
    ∧ (∃ k : Nat, ∃ n : Nat, ∃ c : Nat, ∃ s : State, n < 16 ∧ MayWriteN k (Obj.SUB_RELEASE n) c s ∧ c < 65536 ∧ ((subOf s n).ring.any
      (fun p => p.1 = c) = true))
    ∧ (∃ k : Nat, ∃ which : Nat, ∃ v : Nat, ∃ s : State, which < 3 ∧ MayWriteN k (Obj.REFERENCE_MISSES + which) v s)
    ∧ (∃ k : Nat, ∃ d : Nat, ∃ v : Nat, ∃ s : State, d < 128 ∧ MayWriteN k (Obj.RT_MEASURE d) v s ∧ measurable s d = true)
    ∧ (∃ k : Nat, ∃ d : Nat, ∃ v : Nat, ∃ s : State, d < 128 ∧ MayWriteN k (Obj.RT_MEASURE d) v s ∧ measurable s d = false)
    ∧ ∃ k : Nat, ∃ d : Nat, ∃ s : State, MayWriteN k Obj.REJOIN_REQUEST d s ∧ d < 128 ∧ d < droveCount s :=
  ⟨⟨0, 3, List.replicate 32 5, heldHost 3 0 [], by decide +kernel⟩,
    ⟨0, leBytes 4 1 ++ leBytes 4 0 ++ [0x40, 0, 0, 0], withQueue id (host 1 3 []), by decide +kernel, by decide +kernel⟩,
    ⟨0, 262143, host 0 0 [], by decide +kernel⟩,
    ⟨0, leBytes 4 9 ++ leBytes 4 0, { seq := 0, body := [], tide := 0, lost := false, back := false },
      { host 1 3 [] with queues := [(9, { Queue.empty with qstate := 1, nextSeq := 1, msgs := [{ seq := 0, body := [], tide := 0, lost := false, back := false }] })] },
      by decide +kernel, by decide +kernel⟩,
    ⟨0, 1, withQueue (fun q => { q with qstate := 3 }) (host 1 3 []), by decide +kernel⟩,
    ⟨0, 15, host 1 3 [(Obj.SUB_ENABLE 15, 1)], by decide +kernel⟩,
    ⟨0, 15, host 1 3 [], by decide +kernel⟩,
    ⟨0, 15, 65535, { host 1 3 [] with subs := (up []).subs.modify 15 (fun x => { x with ring := [(65535, [1])] }) }, by decide +kernel⟩,
    ⟨0, 2, 0, host 2 3 [(Obj.CUTOFF_MISSES, 5)], by decide +kernel⟩,
    ⟨0, 0, 1, withLeaf (fun x => { x with goodRun := 1 }) (withDrove (fun x => { x with locked := true }) (heldHost 2 3
      [(Obj.DROVE_ENABLE 0, 1), (Obj.DROVE_LEAVES 0, 1)])), by decide +kernel⟩,
    ⟨0, 127, 1, heldHost 2 3 [], by decide +kernel⟩,
    ⟨0, 127, host 2 3 [(Obj.TURN_PLAN 127, 1)], by decide +kernel⟩⟩

/-- States and operands that meet the hypotheses of `ControlGridAndSolarWrites`, clause by clause. -/
theorem witness_ControlGridAndSolarWrites :
    (∃ k : Nat, ∃ v : Nat, ∃ s : State, MayWriteN k Obj.REBALANCE v s)
    ∧ (∃ k : Nat, ∃ v : Nat, ∃ s : State, MayWriteN k Obj.PLAUS_CLEAR v s)
    ∧ (∃ k : Nat, ∃ s : State, MayWriteN k Obj.TRACE_CONTROL 1 s ∧ (rd s Obj.TRACE_STATE = trIdle ∨ rd s Obj.TRACE_STATE = trDone))
    ∧ (∃ k : Nat, ∃ s : State, MayWriteN k Obj.TRACE_CONTROL 2 s ∧ rd s Obj.TRACE_STATE = trArmed ∧ rd s Obj.TRACE_TRIGGER_KIND = 0)
    ∧ (∃ k : Nat, ∃ s : State, MayWriteN k Obj.TRACE_CONTROL 0 s)
    ∧ (∃ k : Nat, ∃ v : Nat, ∃ s : State, MayWriteN k Obj.CORE_RESTART v s ∧ station s = stRunning ∧ restartAllowed (booked k s) =
      true)
    ∧ (∃ k : Nat, ∃ v : Nat, ∃ s : State, MayWriteN k Obj.CORE_RESTART v s ∧ [stHeld, stReady, stEnergised, stBlocked].contains
      (station s) = true)
    ∧ (∃ k : Nat, ∃ v : Nat, ∃ s : State, MayWriteN k Obj.RAMP_DOWN_REQUEST v s ∧ [stRunning, stRideThrough, stCoast].contains (station
      s) = true)
    ∧ (∃ k : Nat, ∃ c : Nat, ∃ v : Nat, ∃ s : State, c < 2 ∧ MayWriteN k (Obj.ISLAND_CLEAR c) v s)
    ∧ (∃ k : Nat, ∃ c : Nat, ∃ v : Nat, ∃ s : State, c < 2 ∧ v < 2 ∧ MayWriteN k (Obj.GRID_MODE c) v s)
    ∧ ∃ k : Nat, ∃ v : Nat, ∃ s : State, MayWriteN k Obj.SCAN_ABORT v s :=
  ⟨⟨0, 1, host 2 3 [], by decide +kernel⟩,
    ⟨0, 1, host 1 3 [], by decide +kernel⟩,
    ⟨0, host 1 3 [(Obj.TRACE_STATE, trDone)], by decide +kernel⟩,
    ⟨0, host 1 3 [(Obj.TRACE_STATE, trArmed), (Obj.TRACE_TRIGGER_KIND, 0)], by decide +kernel⟩,
    ⟨0, host 1 3 [(Obj.TRACE_STATE, trFilling)], by decide +kernel⟩,
    ⟨0, 1, host 2 3 ((Obj.STATION_STATE, stRunning) :: (List.range 4).map (fun p => (Obj.PAIR_STATE p, usActive))), by decide +kernel⟩,
    ⟨0, 1, host 2 3 [(Obj.STATION_STATE, stBlocked)], by decide +kernel⟩,
    ⟨0, 1, host 1 3 [(Obj.STATION_STATE, stCoast)], by decide +kernel⟩,
    ⟨0, 1, 1, host 1 3 [(Obj.ISLAND_FLAGS 1, 3)], by decide +kernel⟩,
    ⟨0, 1, 1, host 2 3 [(Obj.STATION_STATE, stRunning)], by decide +kernel⟩,
    ⟨0, 1, host 1 3 [], by decide +kernel⟩⟩

/-- States and operands that meet the hypotheses of `LeafCommandWrites`, clause by clause. -/
theorem witness_LeafCommandWrites :
    (∃ k : Nat, ∃ L : Nat, ∃ args : List Byte, ∃ s : State, L < 16384 ∧ MayWrite k (Obj.PROT_COMMAND L) ((1 : Byte) :: args) s ∧ 2 ≤
      sessRole s k ∧ args.length = 2 ∧ testCheck (booked k s) L = 0 ∧ Room (L * 16 + 1) 6 s)
    ∧ (∃ k : Nat, ∃ L : Nat, ∃ s : State, L < 16384 ∧ MayWrite k (Obj.PROT_COMMAND L) [(2 : Byte)] s ∧ 1 ≤ sessRole s k ∧ bit (rd s
      (Obj.PROT_FLAGS L)) 0 = true ∧ Room (L * 16 + 1) 4 s)
    ∧ (∃ k : Nat, ∃ L : Nat, ∃ s : State, L < 16384 ∧ MayWrite k (Obj.PROT_COMMAND L) [(3 : Byte)] s ∧ 2 ≤ sessRole s k ∧ class1Open s
      L = true)
    ∧ (∃ k : Nat, ∃ L : Nat, ∃ s : State, L < 16384 ∧ MayWrite k (Obj.PROT_COMMAND L) [(4 : Byte)] s ∧ 2 ≤ sessRole s k ∧ penned s L =
      true ∧ Room (L * 16 + 1) 4 s)
    ∧ (∃ k : Nat, ∃ L : Nat, ∃ s : State, L < 16384 ∧ MayWrite k (Obj.PROT_COMMAND L) [(0x80 : Byte)] s ∧ 2 ≤ sessRole s k ∧ class1Open
      s L = true)
    ∧ (∃ k : Nat, ∃ L : Nat, ∃ s : State, L < 16384 ∧ MayWrite k (Obj.PROT_COMMAND L) [(0x81 : Byte)] s ∧ 2 ≤ sessRole s k ∧ class1Open
      s L = true ∧ station s = stHeld)
    ∧ ∃ k : Nat, ∃ L : Nat, ∃ v : Nat, ∃ s : State, L < 16384 ∧ MayWriteN k (Obj.LEAF_READMIT L) v s ∧ readmitCheck (booked k s) L = 0
      ∧ Room (L * 16 + 1) 8 s :=
  ⟨⟨0, 0, [1, 0], withLeaf (fun x => { x with bypassRun := 16 }) (withQueue id (leafHost [(Obj.PROT_FLAGS 0, 64), (Obj.BW_STATUS, 0),
      (Obj.TEST_V_MIN, 0)])), by decide +kernel⟩,
    ⟨0, 0, withQueue id (leafHost [(Obj.PROT_FLAGS 0, 1)]), by decide +kernel⟩,
    ⟨0, 0, withQueue id (leafHost []), by decide +kernel⟩,
    ⟨0, 0, withQueue id (leafHost [(Obj.PROT_FLAGS 0, 64), (Obj.BW_STATUS, 0)]), by decide +kernel⟩,
    ⟨0, 0, withQueue id (leafHost []), by decide +kernel⟩,
    ⟨0, 0, leafHost [(Obj.STATION_STATE, stHeld), (Obj.PROT_FLAGS 0, 0xC0)], by decide +kernel⟩,
    ⟨0, 0, 1, withLeaf (fun x => { x with goodRun := 16, statusNew := 0 }) (withQueue id (leafHost [(Obj.PROT_FLAGS 0, 64),
      (Obj.BW_STATUS, 0)])), by decide +kernel⟩⟩

/-- States and operands that meet the hypotheses of `ConfigurationAndStateRequests`, clause by clause. -/
theorem witness_ConfigurationAndStateRequests :
    (∃ k : Nat, ∃ v : Nat, ∃ s : State, MayWriteN k Obj.VALIDATE v s)
    ∧ (∃ k : Nat, ∃ v : Nat, ∃ s : State, MayWriteN k Obj.CONFIG_COMMIT v s ∧ s.cfg.validating = false ∧ s.cfg.restoring = false ∧
      s.cfg.commitStep = 0 ∧ rd s Obj.VALIDATE_STATUS = 0 ∧ v < 2 ^ 32 ∧ v = rd s Obj.VALIDATED_CHECK ∧ (station s = stHeld ∨
      (changedKeys s.cfg.draft (baseImage s)).all isRw = true))
    ∧ (∃ k : Nat, ∃ im : Image, ∃ s : State, MayWriteN k Obj.DRAFT_DISCARD 1 s ∧ s.cfg.committed = some im)
    ∧ (∃ k : Nat, ∃ s : State, MayWriteN k Obj.DRAFT_DISCARD 2 s)
    ∧ (∃ k : Nat, ∃ s : State, MayRequest k 1 s)
    ∧ (∃ k : Nat, ∃ s : State, MayRequest k 2 s)
    ∧ (∃ k : Nat, ∃ s : State, MayRequest k 3 s)
    ∧ (∃ k : Nat, ∃ s : State, MayRequest k 4 s)
    ∧ (∃ k : Nat, ∃ s : State, MayRequest k 5 s)
    ∧ (∃ k : Nat, ∃ s : State, MayRequest k 6 s)
    ∧ (∃ k : Nat, ∃ s : State, MayRequest k 7 s)
    ∧ ∃ k : Nat, ∃ v : Nat, ∃ s : State, MayWriteN k Obj.STATE_REQUEST v s ∧ v < 256 ∧ (v = 1 → 2 ≤ sessRole s k) ∧ requestCheck
      (booked k s) v ≠ 0 ∧ ∃ c : Instr × Nat, c ∈ [(.hold k, 1), (.charge k, 2), (.run k, 3), (.stop k, 4), (.block k, 5), (.discharge
      k, 6), (.safeReset k, (7 : Nat))] ∧ c.2 = v :=
  ⟨⟨0, 1, heldHost 2 3 [], by decide +kernel⟩,
    ⟨0, 5, heldHost 2 3 [(Obj.VALIDATE_STATUS, 0), (Obj.VALIDATED_CHECK, 5)], by decide +kernel⟩,
    ⟨0, Image.factory, { heldHost 2 3 [] with cfg := { (up []).cfg with committed := some Image.factory } }, by decide +kernel⟩,
    ⟨0, heldHost 2 3 [], by decide +kernel⟩,
    ⟨0, host 2 3 [(Obj.STATION_STATE, stReady)], by decide +kernel⟩,
    ⟨0, host 2 3 [(Obj.STATION_STATE, stReady), (Obj.BW_STATUS, 0), (Obj.PRECHARGE_PWM, 0)], by decide +kernel⟩,
    ⟨0, { host 2 3 [(Obj.STATION_STATE, stEnergised), (Obj.BW_STATUS, 0)] with cl := { (up []).cl with serving := true } },
      by decide +kernel⟩,
    ⟨0, host 1 3 [(Obj.STATION_STATE, stCoast)], by decide +kernel⟩,
    ⟨0, host 1 3 [(Obj.STATION_STATE, stRampDown)], by decide +kernel⟩,
    ⟨0, host 1 3 [(Obj.STATION_STATE, stBlocked), (Obj.BW_STATUS, 0)], by decide +kernel⟩,
    ⟨0, host 1 3 [(Obj.STATION_STATE, stSafe), (Obj.BW_STATUS, 0)], by decide +kernel⟩,
    ⟨0, 7, host 2 3 [(Obj.STATION_STATE, stHeld), (Obj.BW_STATUS, 0)],
      by refine ⟨?_, ?_, ?_, ?_, (.safeReset 0, 7), ?_⟩ <;> decide +kernel⟩⟩

/-- States and operands that meet the hypotheses of `TimeAndMeteringWrites`, clause by clause. -/
theorem witness_TimeAndMeteringWrites :
    (∃ k : Nat, ∃ v : Nat, ∃ s : State, MayWriteN k Obj.TIME_STEP_PERMIT v s ∧ stepPending s = true ∧ (station s = stHeld ∨ station s =
      stReady ∨ station s = stEnergised ∨ station s = stSafe))
    ∧ (∃ k : Nat, ∃ v : Nat, ∃ s : State, MayWriteN k Obj.TIME_SET v s ∧ v < 2 ^ 128 ∧ timeState s ≤ 2 ∧ s.time.active = none ∧
      stepState s = true ∧ station s ≠ stBoot)
    ∧ (∃ k : Nat, ∃ v : Nat, ∃ s : State, MayWriteN k Obj.TIME_SET v s ∧ v < 2 ^ 128 ∧ timeState s ≤ 2 ∧ s.time.active = none ∧
      stepState s = true ∧ station s = stBoot)
    ∧ (∃ k : Nat, ∃ v : Nat, ∃ s : State, MayWriteN k Obj.TIME_INCREMENT v s ∧ hostServo s = true ∧ rd s Obj.CORRECTION_MODE = 0 ∧
      0x03FF7CEE ≤ v ∧ v ≤ 0x04008312 ∧ let ppb : Rat := ((v : Rat) / (nominalInc : Rat) - 1) * 1000000000; rateAllowed s ppb = true)
    ∧ (∃ k : Nat, ∃ v : Nat, ∃ s : State, MayWriteN k Obj.RATE_ADJUST v s ∧ v < 2 ^ 32 ∧ hostServo s = true ∧ rd s Obj.CORRECTION_MODE
      = 1 ∧ let ppb : Rat := (toSigned 32 v : Rat) / 1000; rateAllowed s ppb = true ∧ absRat (ppb - ratePpb s) ≤ 10000)
    ∧ (∃ k : Nat, ∃ v : Nat, ∃ s : State, MayWriteN k Obj.SNAPSHOT_TRIGGER v s)
    ∧ (∃ k : Nat, ∃ m : Nat, ∃ value : List Byte, ∃ s : State, m < 2 ∧ m < s.meter.meters.length ∧ MayWrite k (Obj.ENERGY_PRESET m)
      value s ∧ leNat (slice value 0 1) ≤ 7)
    ∧ (∃ k : Nat, ∃ m : Nat, ∃ v : Nat, ∃ s : State, m < 2 ∧ v < 2 ^ 32 ∧ MayWriteN k (Obj.METER_FLAGS_CLEAR m) v s)
    ∧ (∃ k : Nat, ∃ v : Nat, ∃ s : State, MayWriteN k Obj.CAL_CHANNELS v s ∧ v < 2 ^ chanCount s ∧ s.meter.calHalf = 0 ∧ ((maskChans
      v).find? (fun c => !rdBool s (Obj.CH_ENABLE c) || chanBad s c) = none))
    ∧ ∃ k : Nat, ∃ v : Nat, ∃ s : State, MayWriteN k Obj.CAL_CHANNELS v s ∧ v < 2 ^ chanCount s ∧ s.meter.calHalf = 0 ∧ ∃ c,
      ((maskChans v).find? (fun c => !rdBool s (Obj.CH_ENABLE c) || chanBad s c) = some c) :=
  ⟨⟨0, 1, host 2 3 [(Obj.STATION_STATE, stSafe), (Obj.TIME_QUALITY, 512)], by decide +kernel⟩,
    ⟨0, 0, heldHost 2 3 [], by decide +kernel⟩,
    ⟨0, 0, host 2 3 [(Obj.STATION_STATE, stBoot)], by decide +kernel⟩,
    ⟨0, 0x04000000, heldHost 2 3 [(Obj.SERVO_SOURCE, 1), (Obj.TIME_QUALITY, 3 * 4096), (Obj.CORRECTION_MODE, 0)],
      by refine ⟨?_, ?_, ?_, ?_, ?_, ?_⟩ <;> decide +kernel⟩,
    ⟨0, 1, heldHost 2 3 [(Obj.SERVO_SOURCE, 1), (Obj.TIME_QUALITY, 4 * 4096), (Obj.CORRECTION_MODE, 1)],
      by refine ⟨?_, ?_, ?_, ?_, ?_⟩ <;> decide +kernel⟩,
    ⟨0, 1, host 0 0 [], by decide +kernel⟩,
    ⟨0, 1, [7, 0, 0, 0, 0, 0, 0, 0, 5, 0, 0, 0, 0, 0, 0, 0], host 2 3 [], by decide +kernel⟩,
    ⟨0, 1, 0xFFFFFFFF, host 1 3 [(Obj.METER_FLAGS 1, 0xFFFF)], by decide +kernel⟩,
    ⟨0, 0, heldHost 2 3 [], by decide +kernel⟩,
    ⟨0, 1, heldHost 2 3 [(Obj.CH_ENABLE 0, 0)], by refine ⟨?_, ?_, ?_, 0, ?_⟩ <;> decide +kernel⟩⟩

/-- States and operands that meet the hypotheses of `LocalIoAndSafetyWrites`, clause by clause. -/
theorem witness_LocalIoAndSafetyWrites :
    (∃ k : Nat, ∃ c : Nat, ∃ s : State, c < 4 ∧ Ready k s)
    ∧ (∃ k : Nat, ∃ v : Nat, ∃ s : State, MayWriteN k Obj.SAR_CAL v s ∧ v ≤ 15 ∧ s.lio.calMask = 0 ∧ sarCalState s = true ∧ v ≠ 0)
    ∧ (∃ k : Nat, ∃ v : Nat, ∃ s : State, MayWriteN k Obj.SAR_CAL v s ∧ v ≤ 15 ∧ s.lio.calMask = 0 ∧ sarCalState s = true ∧ v = 0)
    ∧ (∃ k : Nat, ∃ v : Nat, ∃ s : State, MayWriteN k Obj.CMP_CLEAR v s ∧ v < 2 ^ 32)
    ∧ (∃ k : Nat, ∃ q : Nat, ∃ v : Nat, ∃ s : State, q < 12 ∧ MayWriteN k (Obj.PWM_DUTY q) v s ∧ v < 2 ^ 32 ∧ dutyFromObject s q =
      true)
    ∧ (∃ k : Nat, ∃ v : Nat, ∃ s : State, MayWriteN k Obj.GPIO_OUT v s ∧ v < 2 ^ 32)
    ∧ (∃ k : Nat, ∃ value : List Byte, ∃ s : State, MayWrite k Obj.MBUS_REQUEST value s ∧ let sw := leNat (slice value 1 1);
      let w := leNat (slice value 4 2); 8 ≤ value.length ∧ value.length = 8 + w ∧ w ≤ 256 ∧ leNat (slice value 6 2) ≤ 256 ∧ (sw < 16 ∨
      sw = 0xFF) ∧ (sw < 16 → leNat (slice value 2 1) < 8) ∧ leNat (slice value 0 1) ≠ 0x54 ∧ (∀ i, i < 16 → rd s (Obj.XCVR_SWITCH_ADDR
      i) ≠ leNat (slice value 0 1)) ∧ s.lio.request = none ∧ busStuck s = false)
    ∧ (∃ k : Nat, ∃ v : Nat, ∃ s : State, MayWriteN k Obj.SAFETY_RESET v s ∧ rd s Obj.HOST_RESET_ALLOWED ≠ 0 ∧ resetTooSoon s = false)
    ∧ (∃ k : Nat, ∃ v : Nat, ∃ s : State, MayWriteN k Obj.SAFETY_SESSION_RESET v s ∧ resetTooSoon s = false)
    ∧ (∃ k : Nat, ∃ v : Nat, ∃ s : State, MayWriteN k Obj.TRIP_RELEASE v s ∧ tripInForce s = false ∧ [stOff, stBoot, stHeld,
      stSafe].contains (station s) = false ∧ s.bw.outputs = [false, false, false, false])
    ∧ (∃ k : Nat, ∃ v : Nat, ∃ s : State, MayWriteN k Obj.SAFETY_DEMAND v s ∧ v ≤ 3)
    ∧ (∃ k : Nat, ∃ v : Nat, ∃ s : State, MayWriteN k Obj.SAFETY_SELFTEST v s ∧ (station s = stHeld ∨ station s = stSafe))
    ∧ ∃ k : Nat, ∃ v : Nat, ∃ s : State, MayWriteN k Obj.SAFETY_CONFIRM v s ∧ v < 2 ^ 32 ∧ v = rd s Obj.SAFETY_PARAM_CHECK :=
  ⟨⟨0, 3, host 0 0 [(Obj.SAR_STATUS 3, 2)], by decide +kernel⟩,
    ⟨0, 15, heldHost 2 3 [], by decide +kernel⟩,
    ⟨0, 0, heldHost 2 3 [], by decide +kernel⟩,
    ⟨0, 0x800000, host 1 3 [(Obj.CMP_FLAGS, 0xFFFFFF)], by decide +kernel⟩,
    ⟨0, 11, 0, host 1 3 [], by decide +kernel⟩,
    ⟨0, 0xFFFFFFFF, host 1 3 [], by decide +kernel⟩,
    ⟨0, [0x10, 0xFF, 0, 0, 1, 0, 0, 1, 9], host 2 3 [], by decide +kernel, by decide +kernel⟩,
    ⟨0, 1, host 1 3 [(Obj.HOST_RESET_ALLOWED, 1)], by decide +kernel⟩,
    ⟨0, 1, host 3 0 [], by decide +kernel⟩,
    ⟨0, 1, { host 1 3 [(Obj.STATION_STATE, stReady)] with bw := { (up []).bw with powerUp := false } }, by decide +kernel⟩,
    ⟨0, 2, host 3 0 [], by decide +kernel⟩,
    ⟨0, 1, heldHost 3 0 [], by decide +kernel⟩,
    ⟨0, 5, host 3 0 [(Obj.SAFETY_PARAM_CHECK, 5)], by decide +kernel⟩⟩

set_option maxRecDepth 100000 in
/-- States and operands that meet the hypotheses of `ResetPowerAndDebugRequests`, clause by clause. -/
theorem witness_ResetPowerAndDebugRequests :
    (∃ k : Nat, ∃ s : State, MayWriteN k Obj.DEVICE_RESET 1 s ∧ sessRole s k ≠ 3 ∧ [stHeld, stReady, stBlocked, stSafe].contains
      (station s) = true)
    ∧ (∃ k : Nat, ∃ s : State, MayWriteN k Obj.DEVICE_RESET 2 s ∧ sessRole s k ≠ 3 ∧ [stHeld, stReady, stBlocked, stSafe].contains
      (station s) = true)
    ∧ (∃ k : Nat, ∃ s : State, MayWriteN k Obj.DEVICE_RESET 3 s ∧ sessRole s k = 3 ∧ (station s = stHeld ∨ station s = stSafe))
    ∧ (∃ k : Nat, ∃ v : Nat, ∃ s : State, MayWriteN k Obj.POWER_RETRY v s ∧ rd s Obj.POWER_FAULT ≠ 0)
    ∧ (∃ k : Nat, ∃ v : Nat, ∃ s : State, v ≤ 3 ∧ MayWriteN k Obj.POWER_MAX_STATE v s)
    ∧ (∃ k : Nat, ∃ v : Nat, ∃ s : State, v < 2 ^ 128 ∧ MayWriteN k Obj.NEXT_DISPATCH v s)
    ∧ (∃ k : Nat, ∃ v : Nat, ∃ s : State, v < 2 ^ 64 ∧ MayWriteN k (Obj.LOG_CURSOR k) v s ∧ v ≤ rd s Obj.LOG_NEXT_SEQ)
    ∧ (∃ k : Nat, ∃ v : Nat, ∃ s : State, v < 2 ^ 64 ∧ MayWriteN k Obj.ALARM_ACK v s ∧ v ≤ rd s Obj.LOG_NEXT_SEQ)
    ∧ (∃ k : Nat, ∃ s : State, Ready k s)
    ∧ (∃ k : Nat, ∃ mac : List Byte, ∃ s : State, MayWrite k Obj.DEBUG_UNLOCK mac s ∧ (station s = stHeld ∨ station s = stSafe) ∧
      s.dbg.nonce ≠ [] ∧ mac = unlockProof s)
    ∧ ∃ k : Nat, ∃ v : Nat, ∃ s : State, MayWriteN k Obj.DEBUG_LOCK v s :=
  ⟨⟨0, heldHost 2 3 [], by decide +kernel⟩,
    ⟨0, host 2 3 [(Obj.STATION_STATE, stSafe)], by decide +kernel⟩,
    ⟨0, heldHost 3 0 [], by decide +kernel⟩,
    ⟨0, 1, (let s := host 2 3 [(Obj.POWER_FAULT, 1), (Obj.POWER_STATE, 3)]; { s with rp := { s.rp with fallback := true } }),
      by decide +kernel⟩,
    ⟨0, 3, heldHost 2 3 [], by decide +kernel⟩,
    ⟨0, 0, host 1 3 [(Obj.NEXT_DISPATCH, 5)], by decide +kernel⟩,
    ⟨0, 4, host 0 0 [(Obj.LOG_NEXT_SEQ, 4)], by decide +kernel⟩,
    ⟨0, 4, { host 1 3 [(Obj.LOG_NEXT_SEQ, 4)] with log := { (up []).log with alarms := [2, 4] } }, by decide +kernel⟩,
    ⟨0, heldHost 2 3 [], by decide +kernel⟩,
    ⟨0, unlockProof unlocking, unlocking, ⟨by decide +kernel, unlock_passes _ (hmac_length _ _)⟩, by decide +kernel, by decide +kernel,
      rfl⟩,
    ⟨0, 1, heldHost 2 3 [(Obj.DEBUG_STATE, 1)], by decide +kernel⟩⟩

/-- States and operands that meet the hypotheses of `PerformanceCounterReadsAgree`, clause by clause. -/
theorem witness_PerformanceCounterReadsAgree :
    (∃ s : State, ∃ _k : Nat, ∃ r : ObjRow, presentRow (optionCode s) (keyIndex Obj.PMC_READ) (keySub Obj.PMC_READ) = some r)
    ∧ (∃ s : State, ∃ _k : Nat, ∃ c : Nat, ∃ r : ObjRow, c < 32 ∧ presentRow (optionCode s) (keyIndex (Obj.PMC_VALUE c)) (keySub
      (Obj.PMC_VALUE c)) = some r)
    ∧ ∃ net : NetAddr, ∃ f : ObjFrame, ∃ k : Nat, ∃ r : ObjRow, ∃ s : State, Heard k net f s ∧ InTurn k f s ∧ f.service = 0x10 ∧
      (f.index = 0x2250 ∧ f.sub = 3 ∨ 0x2260 ≤ f.index ∧ f.index < 0x2280 ∧ f.sub = 5) ∧ readCheck s f.index f.sub = .inl r :=
  ⟨⟨up [], 0, rowOf Obj.PMC_READ, by decide +kernel⟩,
    ⟨up [], 0, 31, rowOf (Obj.PMC_VALUE 31), by decide +kernel⟩,
    ⟨hsvc, frame 0x10 Obj.PMC_READ 0 [], 0, rowOf Obj.PMC_READ, host 0 0 [], by decide +kernel⟩⟩

/-- States and operands that meet the hypotheses of `EventsCountersAndHistograms`, clause by clause. -/
theorem witness_EventsCountersAndHistograms :
    (∃ _rank : Nat, ∃ _num : Nat, ∃ _severity : Nat, ∃ _inst : Nat, ∃ _args : List Byte, ∃ s : State, alive s .lookout = true ∧
      s.log.intake.length < 512)
    ∧ (∃ _rank : Nat, ∃ _num : Nat, ∃ _severity : Nat, ∃ _inst : Nat, ∃ _args : List Byte, ∃ s : State, alive s .lookout = true ∧ 512 ≤
      s.log.intake.length)
    ∧ (∃ e : IntakeEntry, ∃ s : State, alive s .lookout = true ∧ commitDue s = true ∧ firstEntry s.log.intake = some e ∧ s.log.dropped
      = [])
    ∧ (∃ s : State, commitDue s = false)
    ∧ (∃ c : Nat, ∃ add : Nat, ∃ s : State, c < 32 ∧ alive s .fabric = true ∧ rd s Obj.PMC_FREEZE = 0 ∧ rd s (Obj.PMC_VALUE c) < 2 ^ 32
      ∧ rd s (Obj.PMC_VALUE c) + add < 2 ^ 32)
    ∧ (∃ c : Nat, ∃ add : Nat, ∃ s : State, c < 32 ∧ alive s .fabric = true ∧ rd s Obj.PMC_FREEZE = 0 ∧ rd s (Obj.PMC_VALUE c) < 2 ^ 32
      ∧ 2 ^ 32 ≤ rd s (Obj.PMC_VALUE c) + add ∧ rd s (Obj.PMC_SAMPLE c) = 0)
    ∧ (∃ c : Nat, ∃ add : Nat, ∃ s : State, c < 32 ∧ alive s .fabric = true ∧ rd s Obj.PMC_FREEZE = 0 ∧ rd s (Obj.PMC_VALUE c) < 2 ^ 32
      ∧ 2 ^ 32 ≤ rd s (Obj.PMC_VALUE c) + add ∧ rd s (Obj.PMC_SAMPLE c) ≠ 0 ∧ rd s (Obj.PMC_VALUE c) + add + rd s (Obj.PMC_PRELOAD c) <
      2 ^ 33 ∧ (s.pmc.waiting.any (fun r => r.counter = c) = false))
    ∧ (∃ c : Nat, ∃ add : Nat, ∃ s : State, c < 32 ∧ alive s .fabric = true ∧ rd s Obj.PMC_FREEZE = 0 ∧ rd s (Obj.PMC_VALUE c) < 2 ^ 32
      ∧ ∃ _w : Nat, ∃ _clear : Bool, 2 ^ 32 ≤ rd s (Obj.PMC_VALUE c) + add)
    ∧ (∃ _c : Nat, ∃ _add : Nat, ∃ s : State, rd s Obj.PMC_FREEZE ≠ 0)
    ∧ (∃ _context : Nat, ∃ r : PmcRequest, ∃ rest : List PmcRequest, ∃ s : State, alive s .fabric = true ∧ s.pmc.waiting = r :: rest ∧
      4 ≤ s.pmc.edge - r.edge ∧ s.pmc.edge - r.edge ≤ 15 ∧ s.pmc.ring.length < 512)
    ∧ (∃ _context : Nat, ∃ r : PmcRequest, ∃ rest : List PmcRequest, ∃ s : State, alive s .fabric = true ∧ s.pmc.waiting = r :: rest ∧
      s.pmc.edge - r.edge < 4)
    ∧ (∃ _context : Nat, ∃ r : PmcRequest, ∃ rest : List PmcRequest, ∃ s : State, alive s .fabric = true ∧ s.pmc.waiting = r :: rest ∧
      15 < s.pmc.edge - r.edge)
    ∧ (∃ h : Nat, ∃ inst : Nat, ∃ _value : Nat, ∃ s : State, alive s .fabric = true ∧ h < s.hists.length ∧ rd s (Obj.HIST_ENABLE h) ≠ 0
      ∧ (rd s (Obj.HIST_INSTANCE h) = 0xFFFF ∨ rd s (Obj.HIST_INSTANCE h) = inst))
    ∧ (∃ k : Nat, ∃ c : Nat, ∃ sub : Nat, ∃ v : Nat, ∃ s : State, c < 32 ∧ 1 ≤ sub ∧ sub ≤ 7 ∧ sub ≠ 5 ∧ MayWriteN k (objKey (0x2260 +
      c) sub) v s ∧ let w := leNat (namedBytes (objKey (0x2260 + c) sub) v); ((sub = 1 ∨ sub = 3) → pmcModeFits (if sub = 1 then w else
      rd s (Obj.PMC_EVENT c)) (if sub = 3 then w else rd s (Obj.PMC_MODE c)) = true))
    ∧ (∃ k : Nat, ∃ c : Nat, ∃ v : Nat, ∃ s : State, c < 32 ∧ v < 2 ^ 32 ∧ MayWriteN k (Obj.PMC_VALUE c) v s)
    ∧ (∃ k : Nat, ∃ v : Nat, ∃ s : State, v < 2 ^ 32 ∧ MayWriteN k Obj.PMC_STATUS_CLEAR v s)
    ∧ (∃ k : Nat, ∃ v : Nat, ∃ s : State, v < 2 ∧ MayWriteN k Obj.PMC_FREEZE v s)
    ∧ (∃ k : Nat, ∃ q : Nat, ∃ s : State, q < 2 ^ 32 ∧ MayWriteN k Obj.PMC_SAMPLE_RELEASE q s ∧ (s.pmc.ring.any (fun p => p.seq = q) =
      true))
    ∧ ∃ k : Nat, ∃ h : Nat, ∃ v : Nat, ∃ s : State, h < 8 ∧ MayWriteN k (Obj.HIST_CLEAR h) v s :=
  ⟨⟨4, 5, 3, 6, [1], up [], by decide +kernel⟩,
    ⟨4, 5, 3, 6, [1], { up [] with log := { (up []).log with intake := List.replicate 512 anEvent } }, by decide +kernel⟩,
    ⟨anEvent, { up [] with log := { (up []).log with intake := [anEvent] }, time := { (up []).time with acc := commitHold } },
      by decide +kernel⟩,
    ⟨up [], by decide +kernel⟩,
    ⟨31, 0xFFFFFFFF, up [], by decide +kernel⟩,
    ⟨31, 0xFFFFFFFF, up [(Obj.PMC_VALUE 31, 1)], by decide +kernel⟩,
    ⟨31, 0xFFFFFFFF, up [(Obj.PMC_VALUE 31, 1), (Obj.PMC_SAMPLE 31, 1), (Obj.PMC_PRELOAD 31, 7)], by decide +kernel⟩,
    ⟨31, 0xFFFFFFFF, up [(Obj.PMC_VALUE 31, 1)], by refine ⟨?_, ?_, ?_, ?_, 9, true, ?_⟩ <;> decide +kernel⟩,
    ⟨31, 5, up [(Obj.PMC_FREEZE, 1)], by decide +kernel⟩,
    ⟨3, { counter := 2, edge := 10 }, [],
      { up [] with pmc := { (up []).pmc with waiting := [{ counter := 2, edge := 10 }], edge := 25 } }, by decide +kernel⟩,
    ⟨3, { counter := 2, edge := 10 }, [],
      { up [] with pmc := { (up []).pmc with waiting := [{ counter := 2, edge := 10 }], edge := 13 } }, by decide +kernel⟩,
    ⟨3, { counter := 2, edge := 10 }, [],
      { up [] with pmc := { (up []).pmc with waiting := [{ counter := 2, edge := 10 }], edge := 26 } }, by decide +kernel⟩,
    ⟨7, 5, 100, up [(Obj.HIST_ENABLE 7, 1), (Obj.HIST_INSTANCE 7, 5), (Obj.HIST_WIDTH 7, 1)], by decide +kernel⟩,
    ⟨0, 31, 3, 0, host 2 3 [], by refine ⟨?_, ?_, ?_, ?_, ?_, ?_⟩ <;> decide +kernel⟩,
    ⟨0, 31, 0xFFFFFFFF, host 2 3 [], by decide +kernel⟩,
    ⟨0, 0xFFFFFFFF, host 1 3 [(Obj.PMC_STATUS, 5)], by decide +kernel⟩,
    ⟨0, 1, host 1 3 [], by decide +kernel⟩,
    ⟨0, 7,
      { host 1 3 [] with pmc := { (up []).pmc with ring := [{ tide := 0, offset := 0, seq := 7, counter := 0, skid := 4, inst := 0, context := 0, value := 0 }] } },
      by decide +kernel⟩,
    ⟨0, 7, 1, host 1 3 [], by decide +kernel⟩⟩

end Sys2Proof.Tests
end

namespace Sys2Proof.Proofs

open Sys2Proof.Machine Sys2Proof.Claims Sys2Proof.Laws

/-! ### Station time running (R20, R344, R484, R496) -/

/-- The objects that passing edges may change: the time spent outside RUN, and the counter block. -/
def runKeys : List Nat := Obj.DOZE_TIME :: pmcKeys

/-- Every key of the counter block lies between `PMC_STATUS` and the last counter. -/
theorem not_mem_pmcKeys {j : Nat} (h : j < 0x225001 ∨ 0x228000 ≤ j) : j ∉ pmcKeys := by
  simp only [pmcKeys, List.mem_cons, List.mem_map, List.mem_range, not_or, not_exists, not_and]
  refine ⟨?_, ?_, fun c hc => ?_⟩ <;> simp only [Obj.PMC_STATUS, Obj.PMC_SAMPLES_LOST, Obj.PMC_VALUE] <;> omega

theorem not_mem_runKeys {j : Nat} (h : j < 0x211011 ∨ 0x228000 ≤ j) : j ∉ runKeys := by
  refine List.not_mem_cons_of_ne_of_not_mem ?_ (not_mem_pmcKeys ?_)
  · simp only [Obj.DOZE_TIME]; omega
  · omega

/-- Additions to several counters, each of an amount that may depend on the state reached, change the counter block only. -/
theorem foldl_pmcAdd_frame (amount : State → Nat → Nat) (l : List Nat) (s : State) :
    l.foldl (fun t c => pmcAdd c (amount t c) t) s =
      { s with regs := (l.foldl (fun t c => pmcAdd c (amount t c) t) s).regs,
               pmc := (l.foldl (fun t c => pmcAdd c (amount t c) t) s).pmc } := by
  induction l generalizing s with
  | nil => rfl
  | cons c l ih => rw [List.foldl_cons, ih, pmcAdd_frame]

theorem rd_foldl_pmcAdd (amount : State → Nat → Nat) (l : List Nat) (s : State) (hl : ∀ c ∈ l, c < 32) {j : Nat}
    (h : j ∉ pmcKeys) : rd (l.foldl (fun t c => pmcAdd c (amount t c) t) s) j = rd s j := by
  induction l generalizing s with
  | nil => rfl
  | cons c l ih =>
    rw [List.foldl_cons, ih _ (fun d hd => hl d (List.mem_cons_of_mem _ hd)), rd_pmcAdd s _ (hl c List.mem_cons_self) h]

theorem pmcCycles_frame (n : Nat) (s : State) :
    pmcCycles n s = { s with regs := (pmcCycles n s).regs, pmc := (pmcCycles n s).pmc } := by
  unfold pmcCycles
  split
  · rfl
  · dsimp only
    rw [foldl_pmcAdd_frame, pmcEvent_frame]

theorem rd_pmcCycles (n : Nat) (s : State) {j : Nat} (h : j ∉ pmcKeys) : rd (pmcCycles n s) j = rd s j := by
  unfold pmcCycles
  split
  · rfl
  · have e := fun u => (rd_foldl_pmcAdd (fun t c => pmcCycleAdd t c n (getD' t.pmc.last c 0)) (List.range 32)
      (pmcEvent 0x01 0xFFFF n u) (fun c hc => List.mem_range.mp hc) h).trans (rd_pmcEvent u _ _ _ h)
    unfold rd at e ⊢
    dsimp only
    rw [e]

/-- `n` edges add `n` increments to station time and change no other record but the counter block. -/
theorem runEdges_frame (n : Nat) (s : State) :
    runEdges n s = { s with time := { s.time with acc := s.time.acc + n * s.time.inc },
                            regs := (runEdges n s).regs, pmc := (runEdges n s).pmc } := by
  unfold runEdges
  dsimp only
  split <;> split
  · rw [pmcCycles_frame]
  · rfl
  · rw [pmcCycles_frame]; rfl
  · rfl

theorem rd_runEdges (n : Nat) (s : State) {j : Nat} (h : j ∉ runKeys) : rd (runEdges n s) j = rd s j := by
  obtain ⟨hd, hp⟩ : j ≠ Obj.DOZE_TIME ∧ j ∉ pmcKeys := by simpa [runKeys] using h
  unfold runEdges
  dsimp only
  split <;> split
  · exact rd_pmcCycles _ _ hp
  · rfl
  · rw [rd_pmcCycles _ _ hp]; exact rd_countBy_other _ _ _ hd
  · exact rd_countBy_other _ _ _ hd

theorem runTo_frame (target : Nat) (s : State) :
    runTo target s = { s with time := { s.time with acc := s.time.acc + edgesTo s target * s.time.inc },
                              regs := (runTo target s).regs, pmc := (runTo target s).pmc } := runEdges_frame _ s

theorem rd_runTo (target : Nat) (s : State) {j : Nat} (h : j ∉ runKeys) : rd (runTo target s) j = rd s j := rd_runEdges _ s h

theorem runTo_acc (target : Nat) (s : State) : (runTo target s).time.acc = s.time.acc + edgesTo s target * s.time.inc := by
  rw [runTo_frame]

theorem runTo_rp (target : Nat) (s : State) : (runTo target s).rp = s.rp := by rw [runTo_frame]

theorem runTo_pending (target : Nat) (s : State) : (runTo target s).pending = s.pending := by rw [runTo_frame]

/-- Which domains run is decided by the reset state alone. -/
theorem alive_congr {s t : State} (h : t.rp = s.rp) (d : Domain) : alive t d = alive s d := by unfold alive; rw [h]

/-- The edges counted reach the target. -/
theorem target_le_edgesTo (target : Nat) (s : State) (h : 0 < s.time.inc) :
    target ≤ s.time.acc + edgesTo s target * s.time.inc := by
  unfold edgesTo
  split
  · omega
  · have := Nat.lt_div_mul_add (a := target - s.time.acc + s.time.inc - 1) h
    omega

/-- One edge less would not reach a target that lies ahead. -/
theorem edgesTo_lt (target : Nat) (s : State) (h : 0 < s.time.inc) (ha : s.time.acc < target) :
    s.time.acc + edgesTo s target * s.time.inc < target + s.time.inc := by
  unfold edgesTo
  rw [if_neg (by omega)]
  have := Nat.div_mul_le_self (target - s.time.acc + s.time.inc - 1) s.time.inc
  omega

theorem edgesTo_passed (target : Nat) (s : State) (h : target ≤ s.time.acc) : edgesTo s target = 0 := if_pos h

/-- Settles O6: the number of edges is the least that reaches the target, and edges change nothing but the time, the counter block and
`DOZE_TIME`. -/
theorem timeRunsToTheFirstEdge : Obligations.TimeRunsToTheFirstEdge := by
  intro target s hinc
  refine ⟨?_, fun ha => ?_, fun hp => ?_, ?_, fun j hd h1 h2 hv => ?_⟩
  · rw [runTo_acc]; exact target_le_edgesTo target s hinc
  · rw [runTo_acc]; exact edgesTo_lt target s hinc ha
  · rw [runTo_acc, edgesTo_passed target s hp, Nat.zero_mul, Nat.add_zero]
  · rw [runTo_frame]
  · refine rd_runTo target s ?_
    simp only [runKeys, pmcKeys, List.mem_cons, List.mem_map, List.mem_range, not_or, not_exists, not_and]
    exact ⟨hd, h1, h2, fun c hc e => hv c hc e.symm⟩

/-! ### Configured leaves, and what decides them (R16) -/

/-- Which leaves are configured is decided by the ordering code and by drove objects. -/
theorem leavesOf_congr {s t : State} (hc : rd t Obj.OPTION_CODE = rd s Obj.OPTION_CODE)
    (h : ∀ j, 0x340000 ≤ j → rd t j = rd s j) (d : Nat) : leavesOf t d = leavesOf s d := by
  unfold leavesOf droveOn droveCount optionCode rdBool
  rw [hc, h (Obj.DROVE_ENABLE d) (by simp only [Obj.DROVE_ENABLE]; omega), h (Obj.DROVE_LEAVES d) (by simp only [Obj.DROVE_LEAVES]; omega)]

theorem drovesOn_congr {s t : State} (hc : rd t Obj.OPTION_CODE = rd s Obj.OPTION_CODE)
    (h : ∀ j, 0x340000 ≤ j → rd t j = rd s j) : drovesOn t = drovesOn s := by
  unfold drovesOn
  have hd : droveOn t = droveOn s := by
    funext d
    unfold droveOn droveCount optionCode rdBool
    rw [hc, h (Obj.DROVE_ENABLE d) (by simp only [Obj.DROVE_ENABLE]; omega)]
  rw [hd]; unfold droveCount optionCode; rw [hc]

theorem allLeaves_congr {s t : State} (hc : rd t Obj.OPTION_CODE = rd s Obj.OPTION_CODE)
    (h : ∀ j, 0x340000 ≤ j → rd t j = rd s j) : allLeaves t = allLeaves s := by
  unfold allLeaves
  rw [drovesOn_congr hc h, funext (leavesOf_congr hc h)]

/-- Every configured leaf is one of the 16,384 of the command slots. -/
theorem lt_leafMax_of_mem_allLeaves {s : State} {L : Nat} (h : L ∈ allLeaves s) : L < leafMax := by
  obtain ⟨d, hd, hL⟩ := List.mem_flatMap.mp h
  have hd' : d < 128 := by
    have := List.mem_range.mp (List.mem_filter.mp hd).1
    unfold droveCount codeDroves at this
    split at this <;> omega
  unfold leavesOf at hL
  split at hL
  · obtain ⟨p, hp, rfl⟩ := List.mem_map.mp hL
    have := List.mem_range.mp hp
    simp only [leafMax]; omega
  · cases hL

/-! ### Command slots (R25, R44) -/

/-- Slots of one tide have one key per leaf; the slots of a tide and of the next never share one. -/
theorem slotKey_inj {n L M : Nat} : slotKey n L = slotKey n M ↔ L = M := by
  simp only [slotKey, leafMax]; omega

theorem slotKey_ne_next {t L M : Nat} (hL : L < leafMax) (hM : M < leafMax) : slotKey t L ≠ slotKey (t + 1) M := by
  simp only [slotKey, leafMax] at *; omega

/-- A count of a fault source notes the event and changes nothing else. -/
theorem countFault_frame (family source inst n : Nat) (s : State) :
    countFault family source inst n s = { s with faultEvents := (countFault family source inst n s).faultEvents } := by
  unfold countFault; split <;> rfl

/-- The heartbeat word changes the record of Breakwater only. -/
theorem heartbeatWord_frame (tide mask code : Nat) (s : State) :
    heartbeatWord tide mask code s = { s with bw := (heartbeatWord tide mask code s).bw } := by
  unfold heartbeatWord; split <;> [rfl; split <;> [rfl; split <;> rfl]]

theorem slotOf_repeatSlot (m L : Nat) (s : State) (n M : Nat) :
    slotOf (repeatSlot m L s) n M = if slotKey n M = slotKey m L then slotOf s (m - 1) L else slotOf s n M := by
  unfold repeatSlot
  dsimp only
  rw [countFault_frame]
  exact Tbl.get_set _ _ _ _ _

theorem rd_repeatSlot (m L : Nat) (s : State) :
    rd (repeatSlot m L s) Obj.CUTOFF_MISSES = satAdd (2 ^ 32 - 1) (rd s Obj.CUTOFF_MISSES) 1 := by
  unfold repeatSlot
  dsimp only
  rw [countFault_frame]
  exact rd_count_same _ _

theorem repeated_repeatSlot (m L : Nat) (s : State) : (repeatSlot m L s).repeated = L :: s.repeated := by
  unfold repeatSlot
  dsimp only
  rw [countFault_frame]
  rfl

/-- The cutoff of tide `t` repeats the slots of the leaves `ls`. -/
def repeatSlots (t : Nat) (ls : List Nat) (s : State) : State := ls.foldl (fun u L => repeatSlot (t + 1) L u) s

/-- The slots of the present tide stand, and so do those of the coming tide but for the leaves repeated, which get those of the present. -/
theorem slotOf_repeatSlots (t : Nat) (ls : List Nat) (s : State) (hls : ∀ L ∈ ls, L < leafMax) {M : Nat} (hM : M < leafMax) :
    slotOf (repeatSlots t ls s) t M = slotOf s t M
      ∧ slotOf (repeatSlots t ls s) (t + 1) M = if M ∈ ls then slotOf s t M else slotOf s (t + 1) M := by
  induction ls generalizing s with
  | nil => exact ⟨rfl, rfl⟩
  | cons L ls ih =>
    have hL : L < leafMax := hls L List.mem_cons_self
    have ⟨hnow, hnext⟩ := ih (repeatSlot (t + 1) L s) (fun K hK => hls K (List.mem_cons_of_mem _ hK))
    have hstand : slotOf (repeatSlot (t + 1) L s) t M = slotOf s t M := by
      rw [slotOf_repeatSlot, if_neg (slotKey_ne_next hM hL)]
    refine ⟨hnow.trans hstand, hnext.trans ?_⟩
    rw [hstand, slotOf_repeatSlot, Nat.add_sub_cancel]
    by_cases hML : M = L
    · subst hML; simp
    · simp [hML, slotKey_inj]

theorem mem_repeated_repeatSlots (t : Nat) (ls : List Nat) (s : State) (L : Nat) :
    L ∈ (repeatSlots t ls s).repeated ↔ L ∈ ls ∨ L ∈ s.repeated := by
  induction ls generalizing s with
  | nil => simp [repeatSlots]
  | cons K ls ih =>
    rw [repeatSlots, List.foldl_cons, ← repeatSlots, ih, repeated_repeatSlot]
    simp only [List.mem_cons]
    tauto

theorem satAdd_eq_min (max v n : Nat) : satAdd max v n = min max (v + n) := by unfold satAdd; split <;> omega

theorem rd_repeatSlots (t : Nat) (ls : List Nat) (s : State) (h : rd s Obj.CUTOFF_MISSES ≤ 2 ^ 32 - 1) :
    rd (repeatSlots t ls s) Obj.CUTOFF_MISSES = satAdd (2 ^ 32 - 1) (rd s Obj.CUTOFF_MISSES) ls.length := by
  induction ls generalizing s with
  | nil => unfold satAdd; rw [if_neg (by simpa using h)]; rfl
  | cons L ls ih =>
    have hle : rd (repeatSlot (t + 1) L s) Obj.CUTOFF_MISSES ≤ 2 ^ 32 - 1 := by
      rw [rd_repeatSlot, satAdd_eq_min]; exact Nat.min_le_left _ _
    rw [repeatSlots, List.foldl_cons, ← repeatSlots, ih _ hle, rd_repeatSlot]
    simp only [satAdd_eq_min, List.length_cons]
    omega

/-- The leaves whose slot was missed. -/
def missedLeaves (missed : List Nat) (s : State) : List Nat := (allLeaves s).filter (fun L => missed.contains L)

/-- The work of a cutoff repeats the slots missed; beside that it changes Breakwater's record only. -/
theorem cutoffWork_frame (t : Nat) (missed : List Nat) (s : State) :
    cutoffWork t missed s = { repeatSlots t (missedLeaves missed s) s with bw := (cutoffWork t missed s).bw } :=
  heartbeatWord_frame _ _ _ _

theorem slotOf_cutoffWork (t : Nat) (missed : List Nat) (s : State) (n L : Nat) :
    slotOf (cutoffWork t missed s) n L = slotOf (repeatSlots t (missedLeaves missed s) s) n L := by
  unfold slotOf; rw [cutoffWork_frame]

theorem repeated_cutoffWork (t : Nat) (missed : List Nat) (s : State) :
    (cutoffWork t missed s).repeated = (repeatSlots t (missedLeaves missed s) s).repeated := by rw [cutoffWork_frame]

theorem rd_cutoffWork (t : Nat) (missed : List Nat) (s : State) (j : Nat) :
    rd (cutoffWork t missed s) j = rd (repeatSlots t (missedLeaves missed s) s) j := by
  unfold rd; rw [cutoffWork_frame]

/-! ### The cutoff's state: time has run, and nothing of the slots with it -/

theorem allLeaves_runTo (target : Nat) (s : State) : allLeaves (runTo target s) = allLeaves s :=
  allLeaves_congr (rd_runTo _ _ (not_mem_runKeys (by decide))) fun _ hj => rd_runTo _ _ (not_mem_runKeys (by omega))

theorem slotOf_runTo (target : Nat) (s : State) (n L : Nat) : slotOf (runTo target s) n L = slotOf s n L := by
  unfold slotOf; rw [runTo_frame]

theorem exec_commandCutoff {missed : List Nat} {s : State} (ht : alive s .time = true) (hf : alive s .fabric = true) :
    exec (.commandCutoff missed) s = .next (cutoffWork (tideNow s) missed (runTo (markAt s (periodNs s - 300)) s)) := by
  show execCommandCutoff missed s = _
  unfold execCommandCutoff
  rw [whenAlive_on _ ht, whenAlive_on _ ((alive_congr (runTo_rp _ s) _).trans hf)]

/-- Settles O10: running to the cutoff leaves the leaves, the slots and the count as they are; the slots are then repeated one by one, and
the keys of two tides in a row never meet. -/
theorem cutoffRepeatsThePreviousCommand : Obligations.CutoffRepeatsThePreviousCommand := by
  intro missed s ht hf hmax
  refine ⟨_, exec_commandCutoff ht hf, ?_⟩
  generalize markAt s (periodNs s - 300) = target
  have hcount : rd (runTo target s) Obj.CUTOFF_MISSES = rd s Obj.CUTOFF_MISSES := rd_runTo _ _ (not_mem_runKeys (by decide))
  have hmissed : missedLeaves missed (runTo target s) = missedLeaves missed s := by unfold missedLeaves; rw [allLeaves_runTo]
  have hlt : ∀ L ∈ missedLeaves missed s, L < leafMax := fun L hL => lt_leafMax_of_mem_allLeaves (List.mem_filter.mp hL).1
  simp only [slotOf_cutoffWork, repeated_cutoffWork, rd_cutoffWork, hmissed]
  refine ⟨fun L (hL : L ∈ missedLeaves missed s) => ⟨?_, ?_⟩, fun L hL (hn : L ∉ missedLeaves missed s) => ?_, ?_⟩
  · rw [(slotOf_repeatSlots _ _ _ hlt (hlt L hL)).2, if_pos hL, slotOf_runTo]
  · exact (mem_repeated_repeatSlots _ _ _ _).mpr (.inl hL)
  · rw [(slotOf_repeatSlots _ _ _ hlt hL).2, if_neg hn, slotOf_runTo]
  · rw [rd_repeatSlots _ _ _ (hcount ▸ hmax), hcount]; rfl

/-! ### The tide start on the counter (R20, R23, R344) -/

/-- `t` stands at the instant of `s`, in the tide of `s`, with the same domains running and the same commands waiting. -/
structure SameTide (s t : State) : Prop where
  /-- station time -/
  acc : t.time.acc = s.time.acc
  /-- the reset state -/
  rp : t.rp = s.rp
  /-- the queue of commands -/
  pending : t.pending = s.pending
  /-- the number of the tide -/
  tide : rd t Obj.TIDE_NUMBER = rd s Obj.TIDE_NUMBER

namespace SameTide

variable {s t : State}

theorem refl (s : State) : SameTide s s := ⟨rfl, rfl, rfl, rfl⟩

/-- A change that leaves the objects alone. -/
theorem of_regs (acc : t.time.acc = s.time.acc) (rp : t.rp = s.rp) (pending : t.pending = s.pending) (regs : t.regs = s.regs) :
    SameTide s t := ⟨acc, rp, pending, by unfold rd; rw [regs]⟩

theorem trans {u : State} (h : SameTide s t) (g : SameTide t u) : SameTide s u :=
  ⟨g.acc.trans h.acc, g.rp.trans h.rp, g.pending.trans h.pending, g.tide.trans h.tide⟩

theorem wr (h : SameTide s t) {key : Nat} (hk : key ≠ Obj.TIDE_NUMBER) (v : Nat) : SameTide s (wr t key v) :=
  ⟨h.acc, h.rp, h.pending, (rd_wr_other t v hk.symm).trans h.tide⟩

theorem number (h : SameTide s t) (n : Nat) : SameTide (Machine.wr s Obj.TIDE_NUMBER n) (Machine.wr t Obj.TIDE_NUMBER n) :=
  ⟨h.acc, h.rp, h.pending, by rw [rd_wr_same, rd_wr_same]⟩

theorem setTime (h : SameTide s t) {f : TimeUnit → TimeUnit} (hf : (f t.time).acc = t.time.acc) : SameTide s (setTime f t) :=
  ⟨hf.trans h.acc, h.rp, h.pending, h.tide⟩

theorem emit (h : SameTide s t) (e : Ev) (inst : Nat) (args : List Byte) : SameTide s (emit e inst args t) :=
  h.trans ⟨by rw [emit_frame], by rw [emit_frame], by rw [emit_frame], rd_emit_other _ _ _ _ (by decide)⟩

theorem pmcEvent (h : SameTide s t) (sel inst n : Nat) : SameTide s (pmcEvent sel inst n t) :=
  h.trans ⟨by rw [pmcEvent_frame], by rw [pmcEvent_frame], by rw [pmcEvent_frame],
    rd_pmcEvent _ _ _ _ (not_mem_pmcKeys (by decide))⟩

theorem ite {p : Prop} [Decidable p] {u : State} (ht : SameTide s t) (hu : SameTide s u) : SameTide s (if p then t else u) := by
  split <;> assumption

end SameTide

theorem stepSlew_sameTide {s t : State} (h : SameTide s t) : SameTide s (stepSlew t) :=
  (h.setTime rfl).wr (by decide) _

theorem stepFreq_sameTide {s t : State} (c : Rat) (h : SameTide s t) : SameTide s (stepFreq c t) := by
  unfold stepFreq; exact h.setTime rfl

theorem takeRate_sameTide {s t : State} (h : SameTide s t) : SameTide s (takeRate t) := (h.setTime rfl).wr (by decide) _

/-- The correction of a tide start sets the rate; the counter stands (R344, R353). -/
theorem correctTime_sameTide {s t : State} (h : SameTide s t) : SameTide s (correctTime t) := by
  unfold correctTime
  extract_lets slewed servo corrected
  have hslewed : SameTide s slewed := stepFreq_sameTide _ (stepSlew_sameTide h)
  have hservo : SameTide s servo := .ite (.ite (hslewed.wr (by decide) _) (hslewed.wr (by decide) _)) (takeRate_sameTide h)
  have hcorrected : SameTide s corrected := .ite (hservo.wr (by decide) _) (hservo.wr (by decide) _)
  exact hcorrected.setTime rfl

/-- The quality of time and its alarm are brought up to date; the counter stands (R347). -/
theorem refreshTime_sameTide {s t : State} (h : SameTide s t) : SameTide s (refreshTime t) := by
  unfold refreshTime
  extract_lets e bound held
  have hbound : SameTide s bound := h.wr (by decide) _
  have hheld : SameTide s held := .ite (hbound.wr (by decide) _) hbound
  clear_value e held
  cases e with
  | none => exact hheld
  | some x => exact .ite ((hheld.setTime rfl).emit _ _ _) (.ite ((hheld.setTime rfl).emit _ _ _) hheld)

theorem wrMems_sameTide {s t : State} (key : Nat) (bs : List Byte) (h : SameTide s t) : SameTide s (wrMems t key bs) := by
  induction bs generalizing t key with
  | nil => exact h
  | cons b bs ih => exact ih _ (h.trans (.of_regs rfl rfl rfl rfl))

theorem setTideBits_sameTide {s t : State} (n L v : Nat) (h : SameTide s t) : SameTide s (setTideBits n L v t) :=
  h.trans (.of_regs rfl rfl rfl rfl)

theorem setRing_sameTide {s t : State} (n L : Nat) (bs : List Byte) (h : SameTide s t) : SameTide s (setRing n L bs t) :=
  wrMems_sameTide _ _ h

/-- The records of a tide begin in the telemetry ring and the tide records; no other unit takes part (R74). -/
theorem beginRecords_sameTide {s t : State} (n : Nat) (h : SameTide s t) : SameTide s (beginRecords n t) := by
  unfold beginRecords
  extract_lets lo cleared
  have hcleared : SameTide s cleared := h.trans (.of_regs rfl rfl rfl rfl)
  clear_value cleared
  generalize allLeaves cleared = ls
  induction ls generalizing cleared with
  | nil => exact hcleared
  | cons L ls ih =>
    rw [List.foldl_cons]
    exact ih _ (setRing_sameTide _ _ _ (setTideBits_sameTide _ _ _ hcleared))

theorem renewPhases_sameTide {s t : State} (ds : List Nat) (h : SameTide s t) : SameTide s (renewPhases ds t) :=
  h.trans (.of_regs rfl rfl rfl rfl)

theorem bwRenumber_sameTide {s t : State} (h : SameTide s t) : SameTide s (bwRenumber t) :=
  .ite (h.trans (.of_regs rfl rfl rfl rfl)) h

/-- What is kept by tide number starts afresh; the counter stands (R328, R359). -/
theorem renumber_sameTide (n : Nat) (s : State) : SameTide s (renumber n s) := by
  unfold renumber
  extract_lets emptied windows part leaves legs solar late machine causes started
  have hstarted : SameTide s started := .of_regs rfl rfl rfl rfl
  clear_value started
  exact bwRenumber_sameTide (renewPhases_sameTide _ (beginRecords_sameTide _ hstarted))

/-- The tide start sets the tide's number; the counter stands, and so does all else that `SameTide` names. -/
theorem beginTide_sameTide (n : Nat) (s : State) : SameTide (wr s Obj.TIDE_NUMBER n) (beginTide n s) := by
  unfold beginTide
  extract_lets machine fresh
  have hnumber : SameTide (wr s Obj.TIDE_NUMBER n) (wr fresh Obj.TIDE_NUMBER n) := .of_regs rfl rfl rfl rfl
  exact (refreshTime_sameTide (correctTime_sameTide hnumber)).pmcEvent _ _ _

/-- Outside a silence no step and no re-tide ends at a tide start. -/
theorem endRetide_endStep_of_no_silence {s : State} (h : s.time.silence = none) : endRetide (endStep s) = s := by
  have hstep : endStep s = s := by unfold endStep; rw [h]
  rw [hstep]; unfold endRetide; rw [h]

/-- The tide that TIDE_START begins: the first from the next number on, or from 0 when the numbers start afresh, whose start has not
passed. -/
def startedTide (s : State) : Nat := if s.time.restartTide then nextTide s 0 else nextTide s (tideNow s + 1)

/-- The state in which the units take the new tide up. -/
def startedState (s : State) : State :=
  beginTide (startedTide s)
    (if s.time.restartTide then renumber (startedTide s) (runTo (tideStartAt s (startedTide s)) s)
      else runTo (tideStartAt s (startedTide s)) s)

/-- It is the state to which time has run, with the new number. -/
theorem startedState_sameTide (s : State) :
    SameTide (wr (runTo (tideStartAt s (startedTide s)) s) Obj.TIDE_NUMBER (startedTide s)) (startedState s) := by
  refine .trans ?_ (beginTide_sameTide _ _)
  split
  · exact (renumber_sameTide _ _).number _
  · exact .refl _

theorem exec_tideStart (samples : List (Nat × Int)) {s : State} (ht : alive s .time = true) (hp : rd s Obj.POWER_STATE ≠ 3)
    (hq : s.time.silence = none) :
    exec (.tideStart samples) s = .next (whenAlive .lookout
      (tideWork (tideNow s) (startedTide s) s.time.restartTide samples) (startedState s)) := by
  show execTideStart samples s = _
  unfold execTideStart
  rw [whenAlive_on _ ht, if_neg hp]
  unfold startTide
  rw [endRetide_endStep_of_no_silence hq]
  rfl

/-- Settles O7: time runs to the first edge at or after the start of the tide found, and neither the new number nor what starts afresh
with it moves the counter. -/
theorem tideStartBeginsTheNextTide : Obligations.TideStartBeginsTheNextTide := by
  intro samples s ht hp hq hinc
  have hb := startedState_sameTide s
  have hrp : (startedState s).rp = s.rp := hb.rp.trans (runTo_rp _ s)
  have hacc : (startedState s).time.acc = s.time.acc + edgesTo s (tideStartAt s (startedTide s)) * s.time.inc :=
    hb.acc.trans (runTo_acc _ s)
  refine ⟨_, exec_tideStart samples ht hp hq, startedState s, ?_, ?_, ?_, fun ha => ?_, ?_⟩
  · rw [← alive_congr hrp]; rfl
  · rw [hb.tide, rd_wr_same]; rfl
  · rw [hacc]; exact target_le_edgesTo _ s hinc
  · rw [hacc]; exact edgesTo_lt _ s hinc ha
  · exact hb.pending.trans (runTo_pending _ s)

/-! ### Lists of records, read after a change of one -/

theorem getD'_modify {α : Type} (l : List α) (i j : Nat) (f : α → α) (d : α) :
    getD' (l.modify i f) j d = if j = i ∧ i < l.length then f (getD' l i d) else getD' l j d := by
  unfold getD'
  by_cases hj : j = i
  · subst hj
    by_cases hl : j < l.length <;> simp [hl]
  · simp [hj, Ne.symm hj]

theorem sess_setSess (s : State) (k j : Nat) (f : Session → Session) :
    sess (setSess s k f) j = if j = k ∧ k < s.sessions.length then f (sess s k) else sess s j := getD'_modify _ _ _ _ _

theorem sess_setSess_other (s : State) {k j : Nat} (f : Session → Session) (h : j ≠ k) : sess (setSess s k f) j = sess s j := by
  rw [sess_setSess, if_neg (by simp [h])]

/-- A field of a session's record that a change keeps. -/
theorem sess_setSess_field {α : Type} (s : State) (k : Nat) (f : Session → Session) (g : Session → α) (h : ∀ x, g (f x) = g x) :
    g (sess (setSess s k f) k) = g (sess s k) := by
  rw [sess_setSess]; split
  · exact h _
  · rfl

theorem subOf_setSub (s : State) (n j : Nat) (f : Subscription → Subscription) :
    subOf (setSub n f s) j = if j = n ∧ n < s.subs.length then f (subOf s n) else subOf s j := getD'_modify _ _ _ _ _

/-! ### The objects a request touches on its way (R282, R286, R289) -/

/-- An object apart from the host side, of which `KEYS_SET` alone is left, and from the counter block: no request touches it on its way. -/
abbrev Apart (j : Nat) : Prop := (j = Obj.KEYS_SET ∨ 0x120000 ≤ j) ∧ (j < 0x225000 ∨ 0x228000 ≤ j)

/-- The objects that decide how the device answers a host of `port`, and whether an installation session is open. -/
def pathKeys (port : Nat) : List Nat :=
  [Obj.OBJECT_UDP_PORT, Obj.VLAN_ID port, Obj.IP_GATEWAY port, Obj.IP_MASK port, Obj.IP_ADDRESS port]
    ++ (List.range 16).map Obj.SESSION_STATE

theorem not_mem_pathKeys {port j : Nat} (hp : port < 3) (h : Apart j) : j ∉ pathKeys port := by
  simp only [Apart, Obj.KEYS_SET] at h
  simp only [pathKeys, List.mem_append, List.mem_cons, List.mem_map, List.mem_range, List.not_mem_nil, or_false, not_or, not_exists,
    not_and]
  refine ⟨⟨?_, ?_, ?_, ?_, ?_⟩, fun c hc => ?_⟩ <;>
    simp only [Obj.OBJECT_UDP_PORT, Obj.VLAN_ID, Obj.IP_GATEWAY, Obj.IP_MASK, Obj.IP_ADDRESS, Obj.SESSION_STATE] <;> omega

theorem not_mem_hostKeys {k j : Nat} {s : State} (hk : k < 16) (hp : (sessNet s k).port < 3) (h : Apart j) : j ∉ hostKeys k s := by
  have hpmc : j ∉ pmcKeys := not_mem_pmcKeys (by omega)
  simp only [Apart, Obj.KEYS_SET] at h
  simp only [hostKeys, List.mem_cons, not_or]
  simp only [pmcKeys, List.mem_cons, not_or] at hpmc
  refine ⟨?_, ?_, ?_, hpmc⟩ <;> simp only [Obj.FRAMES_IN, Obj.FRAMES_OUT, Obj.SESSION_REQUESTS] <;> omega

theorem rd_booked_of_not_mem {k j : Nat} {s : State} (h : j ∉ hostKeys k s) : rd (booked k s) j = rd s j := by
  simp only [hostKeys, List.mem_cons, not_or] at h
  obtain ⟨hin, -, hreq, hpmc⟩ := h
  exact rd_booked s k (by simp only [pmcKeys, List.mem_cons, not_or]; exact hpmc) hreq hin

/-- Booking a request changes none of the objects that decide how it is answered. -/
theorem rd_booked_path {k j : Nat} {s : State} (hp : (sessNet s k).port < 3) (h : j ∈ pathKeys (sessNet s k).port) :
    rd (booked k s) j = rd s j := by
  simp only [pathKeys, List.mem_append, List.mem_cons, List.mem_map, List.mem_range, List.not_mem_nil, or_false] at h
  refine rd_booked s k (not_mem_pmcKeys ?_) ?_ ?_ <;>
    simp only [Obj.OBJECT_UDP_PORT, Obj.VLAN_ID, Obj.IP_GATEWAY, Obj.IP_MASK, Obj.IP_ADDRESS, Obj.SESSION_STATE, Obj.SESSION_REQUESTS,
      Obj.FRAMES_IN] at h ⊢ <;> omega

theorem reachable_congr {s t : State} {port : Nat} (a : Nat) (h : ∀ j ∈ pathKeys port, rd t j = rd s j) :
    reachable t port a = reachable s port a := by
  unfold reachable
  rw [h (Obj.IP_GATEWAY port) (by simp [pathKeys]), h (Obj.IP_MASK port) (by simp [pathKeys]), h (Obj.IP_ADDRESS port) (by simp [pathKeys])]

theorem outward_congr {s t : State} {net : NetAddr} (h : ∀ j ∈ pathKeys net.port, rd t j = rd s j) : outward t net = outward s net := by
  unfold outward vlanTag
  rw [h Obj.OBJECT_UDP_PORT (by simp [pathKeys]), h (Obj.VLAN_ID net.port) (by simp [pathKeys])]

theorem outward_sessNet (s : State) (k : Nat) : outward s (sessNet s k) = sessNet s k := rfl

theorem port_lt_of_hostUp {s : State} {port : Nat} (h : hostUp s port = true) : port < 3 := by
  unfold hostUp at h; simp at h; exact h.1.1.2

/-- Booking a request notes its number in its session's record, and changes no other record. -/
theorem booked_sessions (k : Nat) (s : State) :
    (booked k s).sessions = s.sessions.modify k (fun y => { y with execd := (sess s k).execd + 1 }) := by
  unfold booked; dsimp only; rw [pmcEvent_frame]; rfl

theorem sess_booked (k j : Nat) (s : State) :
    sess (booked k s) j = sess (setSess s k (fun y => { y with execd := (sess s k).execd + 1 })) j := by
  unfold sess; rw [booked_sessions]; rfl

theorem sess_booked_other {k j : Nat} (s : State) (h : j ≠ k) : sess (booked k s) j = sess s j :=
  (sess_booked k j s).trans (sess_setSess_other s _ h)

/-- A field of the session's record other than the number executed. -/
theorem sess_booked_field {α : Type} (k : Nat) (s : State) (g : Session → α) (h : ∀ x q, g { x with execd := q } = g x) :
    g (sess (booked k s) k) = g (sess s k) := by
  rw [sess_booked]; exact sess_setSess_field s k _ g (fun x => h x _)

/-- The port of a session whose turn it is exists, and so does its record. -/
theorem bounds_of_ready {k : Nat} {s : State} (h : Ready k s) : k < 16 ∧ (sessNet s k).port < 3 ∧ k < s.sessions.length := by
  obtain ⟨hk, hlen, hup, -⟩ := h
  exact ⟨hk, port_lt_of_hostUp hup, hlen⟩

theorem rd_booked_apart {k j : Nat} {s : State} (h : Ready k s) (hj : Apart j) : rd (booked k s) j = rd s j := by
  obtain ⟨hk, hport, -⟩ := bounds_of_ready h
  exact rd_booked_of_not_mem (not_mem_hostKeys hk hport hj)

/-! ### The note of a holder's write (R308) -/

/-- No refused write and no unapplied image entry of a master waits to be compared. -/
def Settled (s : State) : Prop := ∀ m, m < 4 → (masterImages s m).remembered = [] ∧ (masterImages s m).shadow = []

theorem setMaster_frame (m : Nat) (f : MasterImages → MasterImages) (s : State) :
    setMaster m f s = { s with images := (setMaster m f s).images } := by
  unfold setMaster; split <;> rfl

/-- A change of a master's record that lets nothing wait leaves nothing waiting. -/
theorem Settled.setMaster {s : State} (h : Settled s) (o : Nat) {f : MasterImages → MasterImages}
    (hf : ∀ x, x.remembered = [] → x.shadow = [] → (f x).remembered = [] ∧ (f x).shadow = []) : Settled (setMaster o f s) := by
  intro m hm
  obtain ⟨hrem, hsh⟩ := h m hm
  unfold Machine.setMaster
  split
  · exact ⟨hrem, hsh⟩
  · unfold masterImages at hrem hsh ⊢
    by_cases h0 : m = 0
    · simpa [h0] using ⟨rfl, rfl⟩
    · simp only [h0, if_false, getD'_modify] at hrem hsh ⊢
      split
      · next hmo => rw [← hmo.1]; exact hf _ hrem hsh
      · exact ⟨hrem, hsh⟩

/-- With nothing waiting, a holder's write meets nothing. -/
theorem meetRefused_settled {s : State} (h : Settled s) (key raw : Nat) {o : Nat} (ho : o < 4) :
    meetRefused key raw o s = { s with images := (meetRefused key raw o s).images } ∧ Settled (meetRefused key raw o s) := by
  obtain ⟨hrem, hsh⟩ := h o ho
  unfold meetRefused
  simp only [hrem, hsh, List.filter_nil, List.foldl_nil]
  exact ⟨setMaster_frame _ _ _, h.setMaster o fun x hr hs => by simp [hr, hs]⟩

/-- With nothing waiting, the note of a holder's write changes the masters' records only. -/
theorem noteHolderWrite_frame {s : State} (h : Settled s) (m key raw : Nat) :
    noteHolderWrite m key raw s = { s with images := (noteHolderWrite m key raw s).images } := by
  unfold noteHolderWrite
  dsimp only
  have hnoted := h.setMaster m (f := fun x => { x with wrote := (key, raw) :: x.wrote.filter (fun p => p.1 ≠ key) })
    fun x hr hs => ⟨hr, hs⟩
  split
  · exact setMaster_frame _ _ _
  · obtain ⟨e, hother⟩ := meetRefused_settled hnoted key raw (o := 3 - m) (by omega)
    rw [(meetRefused_settled hother key raw (o := 3) (by decide)).1, e, setMaster_frame]

/-! ### The write of an object that passes the checks (R287, R295) -/

theorem objKey_keyIndex_keySub (key : Nat) : objKey (keyIndex key) (keySub key) = key := by
  unfold objKey keyIndex keySub; omega

/-- Checks that pass have found the object's row. -/
theorem presentRow_of_checks {s : State} {k ix sub : Nat} {bs : List Byte} {r : ObjRow} (h : (writeChecks s k ix sub bs).2 = 0)
    (hr : findRow ix sub = some r) : presentRow (optionCode s) ix sub = some r := by
  have hne : presentRow (optionCode s) ix sub ≠ none := by
    intro e
    unfold writeChecks at h
    simp [e, refuse] at h
  unfold presentRow at hne ⊢
  rw [hr] at hne ⊢
  dsimp only at hne ⊢
  split at hne
  · next hf => rw [if_pos hf]
  · exact absurd rfl hne

/-- A write that passes does what its object's rule does; beside that the masters' records alone may change. -/
theorem writeObject_passed {s v : State} {k seq key : Nat} {bs : List Byte} {r : ObjRow}
    (h : (writeChecks s k (keyIndex key) (keySub key) bs).2 = 0) (hr : findRow (keyIndex key) (keySub key) = some r)
    (hv : applyWrite k seq key r bs s = (v, 0)) (hset : Settled v) :
    ∃ w, writeObject k seq (keyIndex key) (keySub key) bs s = (w, 0) ∧ w = { v with images := w.images } := by
  unfold writeObject
  simp only [presentRow_of_checks h hr, h, objKey_keyIndex_keySub, hv, accept]
  split
  · next hbad => exact absurd rfl hbad
  · split
    · exact ⟨_, rfl, noteHolderWrite_frame hset _ _ _⟩
    · exact ⟨_, rfl, rfl⟩

/-! ### The answer of a named write (R285, R286) -/

/-- A response of status 0 to a host the device reaches is sent, and counted. -/
theorem respond_reached {s : State} {net : NetAddr} (ks : List Byte) {r : ObjFrame} (hr : r.status = 0)
    (hn : reachable s net.port net.addr = true) :
    respond net ks r s = send (.datagram (outward s net) (rd s Obj.PCP_OBJECT) { r with tag := frameTag ks r })
      (countBy 64 s (Obj.FRAMES_OUT net.port) 1) := by
  unfold respond sendFrame
  dsimp only
  rw [if_pos hr, if_pos hn]

/-- Keeping the response with its session's record is a change of that record that neither the queue selected nor the requests held
show. -/
theorem keptReply_eq_setSess (k ident : Nat) (r : SentResponse) (w : State) :
    ∃ f : Session → Session, (∀ x, (f x).queueSelect = x.queueSelect ∧ (f x).held = x.held)
      ∧ (if (sess w k).ident = ident then setSess w k (fun y => { y with replies := (r :: y.replies).take repliesMax }) else w)
        = setSess w k f := by
  split
  · exact ⟨fun y => { y with replies := (r :: y.replies).take repliesMax }, fun x => ⟨rfl, rfl⟩, rfl⟩
  · refine ⟨id, fun x => ⟨rfl, rfl⟩, ?_⟩
    unfold setSess; rw [List.modify_id]

/-- Under the hypotheses of `named_accepted`, of the sessions' records only that of the session changes, and not the queue it selected. -/
theorem named_accepted_sessions {k key : Nat} {bs : List Byte} {s w : State} (h : Ready k s)
    (hw : writeObject k ((sess s k).execd + 1) (keyIndex key) (keySub key) bs (booked k s) = (w, 0))
    (h3 : ∀ j, j < 16 → rd w (Obj.SESSION_STATE j) ≠ 3) (hr : w.rp.resetDue = 0) (hh : (sess w k).held = [])
    (hn : reachable w (sessNet s k).port (sessNet s k).addr = true) :
    ∃ f : Session → Session, (∀ x, (f x).queueSelect = x.queueSelect)
      ∧ (namedRequest k 0x11 key bs s).sessions = w.sessions.modify k f := by
  obtain ⟨hk, _, hup, _, hst, _⟩ := h
  have hopen : sessOpen s k = true := by simp [sessOpen, hk, hst]
  have hserve : serve k (namedFrame s k 0x11 key bs) (booked k s) = (w, .plain 0) := by
    unfold serve
    rw [if_neg (by simp [fallbackMay, namedFrame])]
    show (_, Answer.plain _) = _
    simp only [namedFrame]
    rw [hw]
  let r := responseFrame (namedFrame s k 0x11 key bs) (sess s k).ident 0 0 false []
  obtain ⟨f, hf, hu⟩ := keptReply_eq_setSess k (sess s k).ident { seq := (sess s k).execd + 1, frame := r } w
  have hsent := respond_reached (net := sessNet s k) (sess s k).ks (r := r) rfl (s := setSess w k f) hn
  have hexec : executeRequest k (sessNet s k) (namedFrame s k 0x11 key bs) (countIn (sessNet s k).port s) =
      respond (sessNet s k) (sess s k).ks r (setSess w k f) := by
    have hport := port_lt_of_hostUp hup
    have hclosed : closeInstallation (respond (sessNet s k) (sess s k).ks r (setSess w k f)) =
        respond (sessNet s k) (sess s k).ks r (setSess w k f) := by
      refine closeInstallation_none _ fun j hj => ?_
      rw [hsent, rd_send, rd_countBy_other _ _ _ (by simp only [Obj.SESSION_STATE, Obj.FRAMES_OUT]; omega), rd_setSess]
      exact h3 j hj
    have hreset : (respond (sessNet s k) (sess s k).ks r (setSess w k f)).rp.resetDue = 0 := by rw [hsent]; exact hr
    unfold executeRequest
    dsimp only
    rw [show pmcEvent 0x13 0xFFFF 1 (countBy 64 (setSess (countIn (sessNet s k).port s) k
        (fun y => { y with execd := (namedFrame s k 0x11 key bs).seq })) (Obj.SESSION_REQUESTS k) 1) = booked k s from rfl, hserve]
    rw [if_neg (by simp [namedFrame])]
    refine Eq.trans (congrArg applyReset (congrArg closeInstallation (congrArg (respond (sessNet s k) (sess s k).ks r) hu))) ?_
    rw [hclosed, applyReset_none _ hreset]
  refine ⟨f, fun x => (hf x).1, ?_⟩
  unfold namedRequest
  dsimp only
  rw [if_pos (by simp [hup, hopen]), hexec, hsent, drainHeld_none]
  · rfl
  · exact (sess_setSess_field w k f Session.held fun x => (hf x).2).trans hh

/-! ### An accepted write, whole -/

/-- What an accepted write of session `k` leaves, where its object's rule alone would leave `v`: the effect `u` beside what every request
changes, and the objects `ks`. -/
structure WriteLeaves (k : Nat) (ks : List Nat) (u v s t : State) : Prop where
  /-- the answer, and what changes beside the effect -/
  done : Done k ks u s t
  /-- the session's selection -/
  select : (sess t k).queueSelect = (sess v k).queueSelect
  /-- the objects the rule wrote -/
  objects : ∀ j, Apart j → rd t j = rd v j

/-- The main rule of a named write: once the checks have passed, it is enough to know what the object's own rule does in the state in
which the request is booked. -/
theorem namedRequest_leaves {k key : Nat} {bs : List Byte} {ks : List Nat} {r : ObjRow} {s u v : State} (h : MayWrite k key bs s)
    (hrow : findRow (keyIndex key) (keySub key) = some r)
    (hv : applyWrite k ((sess s k).execd + 1) key r bs (booked k s) = (v, 0))
    (huv : ∃ a b c, v = { u with regs := a, sessions := b, pmc := c }) (hrp : u.rp = s.rp) (himg : u.images = s.images)
    (hother : ∀ j, j ≠ k → sess v j = sess s j) (hheld : (sess v k).held = (sess s k).held)
    (hks : ∀ j ∈ ks, Apart j) (hrd : ∀ j, j ∉ ks → rd v j = rd (booked k s) j) :
    WriteLeaves k ks u v s (namedRequest k 0x11 key bs s) := by
  obtain ⟨hready, hpass⟩ := h
  obtain ⟨_, _, _, huv⟩ := huv
  have ⟨hk, _, hup, hreach, _, hnone, hreset, hinst, _, hset⟩ := hready
  have hport := port_lt_of_hostUp hup
  have hvimg : v.images = s.images := by rw [huv, himg]
  obtain ⟨w, hw, hwv⟩ := writeObject_passed hpass hrow hv (by unfold Settled masterImages; rw [hvimg]; exact hset)
  have hwrd : ∀ j, rd w j = rd v j := fun j => by rw [hwv]; rfl
  have hwsess : ∀ j, sess w j = sess v j := fun j => by rw [hwv]; rfl
  have hpath : ∀ j ∈ pathKeys (sessNet s k).port, rd w j = rd s j := fun j hj =>
    (hwrd j).trans ((hrd j fun hjk => not_mem_pathKeys hport (hks j hjk) hj).trans (rd_booked_path hport hj))
  have h3 : ∀ j, j < 16 → rd w (Obj.SESSION_STATE j) ≠ 3 := fun j hj => by
    rw [hpath _ (List.mem_append_right _ (List.mem_map_of_mem (List.mem_range.mpr hj)))]; exact hinst j hj
  have hr : w.rp.resetDue = 0 := by rw [hwv]; show v.rp.resetDue = 0; rw [huv]; show u.rp.resetDue = 0; rw [hrp]; exact hreset
  have hh : (sess w k).held = [] := by rw [hwsess, hheld, hnone]
  have hn : reachable w (sessNet s k).port (sessNet s k).addr = true := (reachable_congr _ hpath).trans hreach
  have ho : outward w (sessNet s k) = sessNet s k := (outward_congr hpath).trans (outward_sessNet s k)
  obtain ⟨hans, hframe, hobj⟩ := named_accepted hready hw h3 hr hh hn ho
  obtain ⟨f, hf, hsess⟩ := named_accepted_sessions hready hw h3 hr hh hn
  generalize namedRequest k 0x11 key bs s = t at hans hframe hobj hsess
  have hsess' : ∀ j, sess t j = sess (setSess w k f) j := fun j => by unfold sess; rw [hsess]; rfl
  have htv : t = { v with regs := t.regs, sessions := t.sessions, outbox := t.outbox, images := t.images } := by
    have himages : t.images = w.images := by rw [hframe]
    rw [himages]
    refine hframe.trans ?_
    generalize t.regs = a, t.sessions = b, t.outbox = c
    rw [hwv]
  refine ⟨⟨hans, ?_, fun j hj => ?_, fun j hjk hjh => ?_⟩, ?_, fun j hj => ?_⟩
  · have hpmc : t.pmc = v.pmc := by rw [htv]
    rw [hpmc]
    refine htv.trans ?_
    generalize t.regs = a, t.sessions = b, t.outbox = c, t.images = d
    rw [huv]
  · rw [hsess', sess_setSess_other _ _ hj, hwsess, hother j hj]
  · rw [hobj j (by simp only [hostKeys, List.mem_cons, not_or] at hjh; exact hjh.2.1), hwrd, hrd j hjk, rd_booked_of_not_mem hjh]
  · rw [hsess', sess_setSess_field w k f Session.queueSelect hf, hwsess]
  · refine (hobj j fun e => not_mem_hostKeys hk hport hj ?_).trans (hwrd j)
    rw [e]; simp [hostKeys]

/-! ### Rows of the dictionary, and the bytes of a number -/

/-- The object exists, is of type `ty`, and is not persistent, so that its write goes by a rule of its own (R10). -/
abbrev Volatile (key : Nat) (ty : ObjTy) : Prop :=
  (findRow (keyIndex key) (keySub key)).map (fun r => (r.persist, r.ty)) = some (false, ty)

theorem row_of_volatile {key : Nat} {ty : ObjTy} (h : Volatile key ty) :
    ∃ r, findRow (keyIndex key) (keySub key) = some r ∧ r.persist = false ∧ r.ty = ty := by
  obtain ⟨r, hr, he⟩ := Option.map_eq_some_iff.mp h
  simp only [Prod.mk.injEq] at he
  exact ⟨r, hr, he⟩

theorem namedBytes_of_volatile {key : Nat} {ty : ObjTy} (h : Volatile key ty) (v : Nat) : namedBytes key v = leBytes ty.size v := by
  obtain ⟨r, hr, -, rfl⟩ := row_of_volatile h
  unfold namedBytes; rw [hr]

/-- Little-endian bytes spell the low part of their number (R6). -/
theorem leNat_leBytes (n v : Nat) : leNat (leBytes n v) = v % 256 ^ n := by
  induction n generalizing v with
  | zero => simp [leBytes, leNat, Nat.mod_one]
  | succ n ih =>
    rw [leBytes, leNat, ih, BitVec.toNat_ofNat, pow_succ' 256 n, Nat.mod_mul]

theorem leNat_namedBytes {key : Nat} {ty : ObjTy} (h : Volatile key ty) {v : Nat} (hv : v < 256 ^ ty.size) :
    leNat (namedBytes key v) = v := by
  rw [namedBytes_of_volatile h, leNat_leBytes, Nat.mod_eq_of_lt hv]

theorem volatile_roleKey : ∀ which < 4, Volatile (Obj.ROLE_KEY which) .domain := by decide +kernel
theorem volatile_subEnable : ∀ n < 16, Volatile (Obj.SUB_ENABLE n) .bool := by decide +kernel
theorem volatile_subRelease : ∀ n < 16, Volatile (Obj.SUB_RELEASE n) .u16 := by decide +kernel
theorem volatile_rtMeasure : ∀ d < 128, Volatile (Obj.RT_MEASURE d) .u8 := by decide +kernel
theorem volatile_missCounter : ∀ which < 3, Volatile (Obj.REFERENCE_MISSES + which) .u32 := by decide +kernel
theorem volatile_queuePost : Volatile Obj.QUEUE_POST .domain := by decide +kernel
theorem volatile_queueSelect : Volatile Obj.QUEUE_SELECT .u32 := by decide +kernel
theorem volatile_queueRelease : Volatile Obj.QUEUE_RELEASE .domain := by decide +kernel
theorem volatile_queueClearReturned : Volatile Obj.QUEUE_CLEAR_RETURNED .u32 := by decide +kernel
theorem volatile_rejoinRequest : Volatile Obj.REJOIN_REQUEST .u8 := by decide +kernel

/-! ### Which rule a write goes by -/

section

variable {k seq key : Nat} {r : ObjRow} {bs : List Byte} {s : State}

/-- A drove, queue, subscription or leaf object that is not P. -/
theorem applyWrite_flock (hp : r.persist = false) (h : 0x340000 ≤ key) : applyWrite k seq key r bs s = writeFlock k key bs s := by
  unfold applyWrite keyIndex
  dsimp only
  rw [if_neg (by simp [hp])]
  simp only [Obj.STATE_REQUEST, Obj.ALARM_ACK]
  iterate 12 rw [if_neg (by omega)]

/-- A subscription's object. -/
theorem writeFlock_sub {n sub : Nat} (hn : n < 16) (hs : sub < 256) (h : key = 0x362000 + n * 0x100 + sub) :
    writeFlock k key bs s = writeSub n sub (leNat bs) s := by
  have hix : keyIndex key = 0x3620 + n := by unfold keyIndex; omega
  have hsub : keySub key = sub := by unfold keySub; omega
  unfold writeFlock
  simp only [hix, hsub, Nat.add_sub_cancel_left]
  have hne : ∀ m < 0x362000, key ≠ m := fun m hm => by omega
  rw [if_neg (by omega), if_neg (hne _ (by decide)), if_neg (hne _ (by decide)), if_neg (hne _ (by decide)),
    if_neg (hne _ (by decide)), if_pos (by omega)]

end

/-! ### The shared operations of these writes, and what they leave alone -/

/-- A queue changes; beside it, only the objects that show the pool do. -/
theorem setQueue_frame (q : Nat) (f : Queue → Queue) (s : State) :
    setQueue q f s = { s with queues := Tbl.modify (fun _ => Queue.empty) s.queues q f, regs := (setQueue q f s).regs } := by
  unfold setQueue showPool; exact wrs_regs _ _

theorem rd_setQueue {j : Nat} (q : Nat) (f : Queue → Queue) (s : State) (h : j ∉ poolKeys) : rd (setQueue q f s) j = rd s j := by
  unfold setQueue showPool
  refine rd_wrs_other _ _ fun p hp e => h ?_
  subst e
  simp only [List.mem_cons, List.not_mem_nil, or_false] at hp
  rcases hp with rfl | rfl | rfl <;> simp [poolKeys]

/-- An observation changes the histograms only (R500). -/
theorem observe_frame (src inst v : Nat) (s : State) : observe src inst v s = { s with hists := (observe src inst v s).hists } := by
  unfold observe
  generalize List.range 8 = l
  induction l generalizing s with
  | nil => rfl
  | cons h l ih => rw [List.foldl_cons, ih]; split <;> rfl

theorem apart_of_mem_poolKeys {j : Nat} (h : j ∈ poolKeys) : Apart j := by
  simp only [poolKeys, List.mem_cons, List.not_mem_nil, or_false] at h
  rcases h with rfl | rfl | rfl <;> decide

theorem booked_changes (k : Nat) (s : State) : ∃ a b c, booked k s = { s with regs := a, sessions := b, pmc := c } :=
  ⟨_, _, _, booked_frame s k⟩

/-- `namedRequest_leaves` for an object that is not P and whose rule `effect` leaves the sessions alone: its effect on a state that
differs from `s` as the booked one does is `u`. -/
theorem volatileWrite_leaves {k key : Nat} {ty : ObjTy} {bs : List Byte} {ks : List Nat} {s u : State} (effect : State → State)
    (h : MayWrite k key bs s) (hrow : Volatile key ty)
    (hv : ∀ r, r.persist = false → applyWrite k ((sess s k).execd + 1) key r bs (booked k s) = (effect (booked k s), 0))
    (hu : ∀ a b c, ∃ a', effect { s with regs := a, sessions := b, pmc := c } = { u with regs := a', sessions := b, pmc := c })
    (hsame : u.rp = s.rp ∧ u.images = s.images) (hks : ∀ j ∈ ks, Apart j)
    (hrd : ∀ x j, j ∉ ks → rd (effect x) j = rd x j) :
    WriteLeaves k ks u (effect (booked k s)) s (namedRequest k 0x11 key bs s) := by
  obtain ⟨r, hr, hp, -⟩ := row_of_volatile hrow
  obtain ⟨a, b, c, hb⟩ := booked_changes k s
  obtain ⟨a', he⟩ := hu a b c
  have hs : ∀ j, sess (effect (booked k s)) j = sess (booked k s) j := fun j => by rw [hb, he]; rfl
  exact namedRequest_leaves h hr (hv r hp) ⟨a', b, c, by rw [hb, he]⟩ hsame.1 hsame.2
    (fun j hj => (hs j).trans (sess_booked_other s hj))
    ((congrArg Session.held (hs k)).trans (sess_booked_field k s Session.held fun _ _ => rfl)) hks (fun j hj => hrd _ j hj)

theorem only_pos {p : Prop} [Decidable p] (h : p) (key : Nat) : only p key = key := if_pos h

/-- What a request that is answered with status 0 changes beside its effect `u`. -/
theorem frame_of_done {k : Nat} {ks : List Nat} {u s t : State} (h : Done k ks u s t) :
    t = { u with regs := t.regs, sessions := t.sessions, pmc := t.pmc, outbox := t.outbox, images := t.images } := by
  obtain ⟨-, hframe, -⟩ := h
  exact hframe

/-- A command that is the named write completes with what the write leaves. -/
theorem completes_write {c : Instr} {k key : Nat} {bs : List Byte} {ks : List Nat} {u v s : State} {P : State → Prop}
    (hexec : exec c s = .next (namedRequest k 0x11 key bs s)) (hleaves : WriteLeaves k ks u v s (namedRequest k 0x11 key bs s))
    (h : ∀ t, WriteLeaves k ks u v s t → P t) : Completes c s P := ⟨_, hexec, h _ hleaves⟩

/-! ### ROLE_KEY (R294) -/

/-- The key a frame of session `k` carries, undone with its Ks and the request's number. -/
def carriedKey (k seq : Nat) (value : List Byte) (s : State) : List Byte :=
  if (sess s k).ks = [] then value
  else List.zipWith (· ^^^ ·) value (hmac (sess s k).ks (asciiBytes "KEYS" ++ leBytes 4 seq))

theorem carriedKey_booked (k seq : Nat) (value : List Byte) (s : State) :
    carriedKey k seq value (booked k s) = carriedKey k seq value s := by
  unfold carriedKey; rw [sess_booked_field k s Session.ks fun _ _ => rfl]

/-- A role key takes a value, and its bit of `KEYS_SET` shows it. -/
def setRoleKey (which : Nat) (value : List Byte) (s : State) : State :=
  wr (wrBlob s (Obj.ROLE_KEY which) value) Obj.KEYS_SET (setBit (rd s Obj.KEYS_SET) which)

theorem applyWrite_roleKey {k seq which : Nat} (hw : which < 4) (value : List Byte) (s : State) {r : ObjRow} (hp : r.persist = false) :
    applyWrite k seq (Obj.ROLE_KEY which) r value s = (setRoleKey which (carriedKey k seq value s) s, 0) := by
  have hix : keyIndex (Obj.ROLE_KEY which) = 0x1106 := by simp only [keyIndex, Obj.ROLE_KEY]; omega
  have hsub : keySub (Obj.ROLE_KEY which) - 1 = which := by simp only [keySub, Obj.ROLE_KEY]; omega
  unfold applyWrite
  rw [if_neg (by simp [hp]), if_neg (by simp only [Obj.ROLE_KEY, Obj.STATE_REQUEST]; omega), if_pos (by rw [hix]; decide)]
  unfold writeHostSide
  rw [if_pos hix, hsub]
  rfl

theorem roleKeyWrite_completes {k which : Nat} {value : List Byte} {s : State} (hw : which < 4)
    (h : MayWrite k (Obj.ROLE_KEY which) value s) :
    Completes (.roleKeyWrite k which value) s fun t =>
      Done k [Obj.KEYS_SET] { s with blobs := t.blobs } s t ∧ (∀ j, j ≠ Obj.ROLE_KEY which → rdBlob t j = rdBlob s j)
        ∧ rdBlob t (Obj.ROLE_KEY which) = carriedKey k ((sess s k).execd + 1) value s
        ∧ rd t Obj.KEYS_SET = setBit (rd s Obj.KEYS_SET) which := by
  have hapart : Apart Obj.KEYS_SET := by decide
  have hleaves := volatileWrite_leaves (ks := [Obj.KEYS_SET]) (setRoleKey which (carriedKey k ((sess s k).execd + 1) value s))
    (u := { s with blobs := Tbl.set blobDefault s.blobs (Obj.ROLE_KEY which) (carriedKey k ((sess s k).execd + 1) value s) })
    h (volatile_roleKey which hw) (fun r hp => by rw [applyWrite_roleKey hw value _ hp, carriedKey_booked])
    (fun a b c => ⟨_, rfl⟩) ⟨rfl, rfl⟩ (by simpa using hapart) (fun x j hj => rd_wr_other _ _ (by simpa using hj))
  refine completes_write (by show execRoleKeyWrite k which value s = _; unfold execRoleKeyWrite; rw [only_pos hw]) hleaves ?_
  rintro t ⟨hdone, -, hobj⟩
  have hblobs : t.blobs = Tbl.set blobDefault s.blobs (Obj.ROLE_KEY which) (carriedKey k ((sess s k).execd + 1) value s) := by
    rw [frame_of_done hdone]
  refine ⟨by rw [hblobs]; exact hdone, fun j hj => ?_, ?_, ?_⟩
  · unfold rdBlob; rw [hblobs]; exact Tbl.get_set_other _ _ _ hj
  · unfold rdBlob; rw [hblobs]; exact Tbl.get_set_same _ _ _ _
  · rw [hobj _ hapart, setRoleKey, rd_wr_same, rd_booked_apart h.1 hapart]

/-! ### Queues of a booked state -/

theorem queueOf_booked (k id : Nat) (s : State) : queueOf (booked k s) id = queueOf s id := by unfold queueOf; rw [booked_frame]

theorem leafCount_booked {k : Nat} {s : State} (h : Ready k s) : leafCount (booked k s) = leafCount s := by
  unfold leafCount optionCode; rw [rd_booked_apart h (by decide)]

theorem tideNow_booked {k : Nat} {s : State} (h : Ready k s) : tideNow (booked k s) = tideNow s := rd_booked_apart h (by decide)

theorem sessRole_booked {k : Nat} {s : State} (h : Ready k s) : sessRole (booked k s) k = sessRole s k := by
  obtain ⟨hk, hport, -⟩ := bounds_of_ready h
  refine rd_booked s k (not_mem_pmcKeys ?_) ?_ ?_ <;> simp only [Obj.SESSION_ROLE, Obj.SESSION_REQUESTS, Obj.FRAMES_IN] <;> omega

theorem postFits_booked {k : Nat} {s : State} (h : Ready k s) (id len : Nat) : postFits (booked k s) id len = postFits s id len := by
  unfold postFits
  rw [queueOf_booked, rd_booked_apart h (by simp only [Apart, Obj.CLASS_CAPACITY]; omega),
    rd_booked_apart h (j := Obj.POOL_DOWN_FREE) (by decide)]

/-- A change of one queue, read from the table of queues. -/
theorem queueOf_of_queues {s t : State} {id : Nat} {f : Queue → Queue}
    (h : t.queues = Tbl.modify (fun _ => Queue.empty) s.queues id f) (j : Nat) :
    queueOf t j = if j = id then f (queueOf s id) else queueOf s j := by
  unfold queueOf; rw [h]; exact Tbl.get_set _ _ _ _ _

/-- The effect of a change of one queue on a state with other objects, sessions and counters. -/
theorem setQueue_change (id : Nat) (f : Queue → Queue) (s : State) (a b c) :
    ∃ a', setQueue id f { s with regs := a, sessions := b, pmc := c } =
      { { s with queues := Tbl.modify (fun _ => Queue.empty) s.queues id f } with regs := a', sessions := b, pmc := c } :=
  ⟨_, setQueue_frame _ _ _⟩

/-! ### QUEUE_POST (R87) -/

/-- No sequence number lies behind itself (R248). -/
theorem behind_self (n : Nat) : behind n n = false := by
  simp only [behind, aheadOf, Bool.and_eq_false_iff, decide_eq_false_iff_not]
  omega

/-- The message a post appends to queue `id`. -/
def postedMsg (id : Nat) (body : List Byte) (s : State) : Msg :=
  { seq := (queueOf s id).nextSeq, body := body, tide := tideNow s, lost := false, back := false }

/-- A queue with a message at its end, numbered by `NEXT_SEQ`. -/
def appendMsg (m : Msg) (q : Queue) : Queue := { q with msgs := q.msgs ++ [m], nextSeq := (q.nextSeq + 1) % 65536 }

theorem postedMsg_booked {k : Nat} {s : State} (h : Ready k s) (id : Nat) (body : List Byte) :
    postedMsg id body (booked k s) = postedMsg id body s := by
  unfold postedMsg; rw [queueOf_booked, tideNow_booked h]

/-- What a post taken does: the message stands in its queue, and is counted. -/
def postMsg (id : Nat) (m : Msg) (s : State) : State := countBy 64 (setQueue id (appendMsg m) s) Obj.POSTS 1

/-- A post that no row of R87 refuses and that bears the queue's next number. -/
theorem hostPost_accepted {role id seq : Nat} {body : List Byte} {s : State} (hid : id ≤ 262143)
    (hbound : leafBound (queueClass id) = true) (hleaf : queueLeaf id < leafCount s)
    (hrole : (if queueClass id = 0 ∨ queueClass id = 2 then 2 else 1) ≤ role)
    (hbody : queueClass id = 1 → 4 ≤ body.length ∧ 0x40 ≤ leNat (body.take 1))
    (hstate : (queueOf s id).qstate = 1 ∨ (queueOf s id).qstate = 2) (hseq : seq = (queueOf s id).nextSeq)
    (hfits : postFits s id body.length = true) :
    hostPost role id seq body s = (postMsg id (postedMsg id body s) s, 0) := by
  unfold hostPost
  dsimp only
  rw [← hseq, behind_self, hfits, hbound, if_neg (by simp; omega), if_neg (by omega), if_neg (by omega), if_neg,
    if_neg (by omega), if_neg (by simp), if_neg (by simp), if_neg (by simp)]
  · rfl
  · rintro ⟨h1, h2⟩
    have := hbody h1
    omega

theorem queuePost_completes {k id : Nat} {value body : List Byte} {s : State} (h : MayWrite k Obj.QUEUE_POST value s)
    (hI : leNat (slice value 0 4) = id) (hB : value.drop 8 = body) (hid : id ≤ 262143) (hbound : leafBound (queueClass id) = true)
    (hleaf : queueLeaf id < leafCount s) (hrole : (if queueClass id = 0 ∨ queueClass id = 2 then 2 else 1) ≤ sessRole s k)
    (hbody : queueClass id = 1 → 4 ≤ body.length ∧ 0x40 ≤ leNat (body.take 1))
    (hstate : (queueOf s id).qstate = 1 ∨ (queueOf s id).qstate = 2) (hseq : leNat (slice value 4 2) = (queueOf s id).nextSeq)
    (hfits : postFits s id body.length = true) :
    Completes (.queuePost k value) s fun t =>
      Done k (Obj.POSTS :: poolKeys) { s with queues := t.queues } s t ∧ Posted id body s t ∧ Counted 64 Obj.POSTS s t := by
  have hapart : Apart Obj.POSTS := by decide
  have hposts : Obj.POSTS ∉ poolKeys := by decide
  have hleaves := volatileWrite_leaves (ks := Obj.POSTS :: poolKeys) (postMsg id (postedMsg id body s))
    (u := { s with queues := Tbl.modify (fun _ => Queue.empty) s.queues id (appendMsg (postedMsg id body s)) })
    h volatile_queuePost
    (fun r hp => by
      rw [applyWrite_flock hp (by decide)]
      show hostPost _ (leNat (slice value 0 4)) _ (value.drop 8) _ = _
      rw [hI, hB, ← postedMsg_booked h.1]
      refine hostPost_accepted hid hbound ?_ ?_ hbody ?_ ?_ ?_
      · rw [leafCount_booked h.1]; exact hleaf
      · rw [sessRole_booked h.1]; exact hrole
      · rw [queueOf_booked]; exact hstate
      · rw [queueOf_booked]; exact hseq
      · rw [postFits_booked h.1]; exact hfits)
    (fun a b c => by
      obtain ⟨a', e⟩ := setQueue_change id (appendMsg (postedMsg id body s)) s a b c
      rw [postMsg, e]; exact ⟨_, rfl⟩)
    ⟨rfl, rfl⟩ (List.forall_mem_cons.mpr ⟨hapart, fun _ => apart_of_mem_poolKeys⟩)
    (fun x j hj => by
      obtain ⟨hj1, hj2⟩ := not_or.mp (List.mem_cons.not.mp hj)
      rw [postMsg, rd_countBy_other _ _ _ hj1, rd_setQueue _ _ _ hj2])
  refine completes_write rfl hleaves ?_
  rintro t ⟨hdone, -, hobj⟩
  have hqueues : t.queues = Tbl.modify (fun _ => Queue.empty) s.queues id (appendMsg (postedMsg id body s)) := by rw [frame_of_done hdone]
  refine ⟨by rw [hqueues]; exact hdone, ⟨?_, fun j hj => ?_⟩, ?_⟩
  · rw [queueOf_of_queues hqueues, if_pos rfl]; rfl
  · rw [queueOf_of_queues hqueues, if_neg hj]
  · rw [Counted, hobj _ hapart, postMsg, rd_countBy_same, rd_setQueue _ _ _ hposts, rd_booked_apart h.1 hapart]

/-! ### QUEUE_SELECT, QUEUE_RELEASE and QUEUE_CLEAR_RETURNED (R88, R260) -/

/-- A session that holds the queue `v` selected. -/
def selectQueue (v : Nat) (x : Session) : Session := { x with queueSelect := v }

theorem queueSelect_completes {k v : Nat} {s : State} (h : MayWriteN k Obj.QUEUE_SELECT v s) (hv : v ≤ 262143) :
    Completes (.queueSelect k v) s fun t => Done k [] s s t ∧ (sess t k).queueSelect = v := by
  obtain ⟨r, hr, hp, -⟩ := row_of_volatile volatile_queueSelect
  have hv' : leNat (namedBytes Obj.QUEUE_SELECT v) = v := leNat_namedBytes volatile_queueSelect (by simp only [ObjTy.size]; omega)
  have happly : applyWrite k ((sess s k).execd + 1) Obj.QUEUE_SELECT r (namedBytes Obj.QUEUE_SELECT v) (booked k s) =
      (setSess (booked k s) k (selectQueue v), 0) := by
    rw [applyWrite_flock hp (by decide)]
    show accept (setSess _ k fun x => { x with queueSelect := leNat (namedBytes Obj.QUEUE_SELECT v) }) = _
    rw [hv']; rfl
  have hleaves := namedRequest_leaves (ks := []) (u := s) h hr happly
    (by obtain ⟨a, b, c, hb⟩ := booked_changes k s; rw [hb]; exact ⟨_, _, _, rfl⟩) rfl rfl
    (fun j hj => (sess_setSess_other _ _ hj).trans (sess_booked_other s hj))
    ((sess_setSess_field _ k (selectQueue v) Session.held fun _ => rfl).trans (sess_booked_field k s Session.held fun _ _ => rfl))
    (by simp) (fun j _ => rd_setSess _ _ _ j)
  refine completes_write rfl hleaves ?_
  rintro t ⟨hdone, hsel, -⟩
  have hlen : k < (booked k s).sessions.length := by
    rw [booked_sessions, List.length_modify]; exact (bounds_of_ready h.1).2.2
  exact ⟨hdone, by rw [hsel, sess_setSess, if_pos ⟨rfl, hlen⟩]; rfl⟩

/-- A queue without the message `m`, which its head was. -/
def dropMsg (m : Msg) (q : Queue) : Queue := { q with msgs := q.msgs.filter (fun x => !(x.seq = m.seq && x.back = m.back)) }

/-- What the release of the head of queue `id` does; of a host-bound queue the age is observed too. -/
def releaseHead (id : Nat) (m : Msg) (s : State) : State :=
  let t := setQueue id (dropMsg m) s
  if leafBound (queueClass id) then t else observe 6 (queueClass id) (tideNow t - m.tide) t

theorem queueRelease_head {id : Nat} {m : Msg} {s : State} (hid : id ≤ 262143) (hleaf : queueLeaf id < leafCount s)
    (hhead : (queueOf s id).head (queueClass id) = some m) :
    queueRelease id m.seq s = (releaseHead id m s, 0) := by
  unfold queueRelease
  dsimp only
  rw [if_neg (by omega), if_neg (by omega), hhead]
  dsimp only
  rw [if_pos rfl]
  rfl

/-- Beside the queue, only histograms change. -/
theorem releaseHead_frame (id : Nat) (m : Msg) (s : State) :
    releaseHead id m s = { setQueue id (dropMsg m) s with hists := (releaseHead id m s).hists } := by
  unfold releaseHead
  generalize setQueue id (dropMsg m) s = x
  split
  · rfl
  · exact observe_frame _ _ _ _

theorem queueRelease_completes {k id : Nat} {value : List Byte} {m : Msg} {s : State} (h : MayWrite k Obj.QUEUE_RELEASE value s)
    (hI : leNat (slice value 0 4) = id) (hid : id ≤ 262143) (hleaf : queueLeaf id < leafCount s)
    (hhead : (queueOf s id).head (queueClass id) = some m) (hseq : leNat (slice value 4 2) = m.seq) :
    Completes (.queueRelease k value) s fun t =>
      Done k poolKeys { s with queues := t.queues, hists := t.hists } s t ∧ queueOf t id = dropMsg m (queueOf s id)
        ∧ ∀ j, j ≠ id → queueOf t j = queueOf s j := by
  generalize hH : (releaseHead id m (booked k s)).hists = hists
  have hleaves := volatileWrite_leaves (ks := poolKeys) (fun x => { setQueue id (dropMsg m) x with hists := hists })
    (u := { s with queues := Tbl.modify (fun _ => Queue.empty) s.queues id (dropMsg m), hists := hists })
    h volatile_queueRelease
    (fun r hp => by
      rw [applyWrite_flock hp (by decide)]
      show queueRelease (leNat (slice value 0 4)) (leNat (slice value 4 2)) _ = _
      rw [hI, hseq, queueRelease_head hid (by rw [leafCount_booked h.1]; exact hleaf) (by rw [queueOf_booked]; exact hhead),
        releaseHead_frame, hH])
    (fun a b c => by
      obtain ⟨a', e⟩ := setQueue_change id (dropMsg m) s a b c
      rw [e]; exact ⟨_, rfl⟩)
    ⟨rfl, rfl⟩ (fun _ => apart_of_mem_poolKeys)
    (fun x j hj => (rd_setQueue id (dropMsg m) x hj :))
  refine completes_write rfl hleaves ?_
  rintro t ⟨hdone, -, -⟩
  have hqueues : t.queues = Tbl.modify (fun _ => Queue.empty) s.queues id (dropMsg m) := by rw [frame_of_done hdone]
  have hhists : t.hists = hists := by rw [frame_of_done hdone]
  refine ⟨by rw [hqueues, hhists]; exact hdone, ?_, fun j hj => ?_⟩
  · rw [queueOf_of_queues hqueues, if_pos rfl]
  · rw [queueOf_of_queues hqueues, if_neg hj]

/-- The messages of a queue that were not returned. -/
def keptMsgs (q : Queue) : List Msg := q.msgs.filter (fun m => !m.back)

/-- The state of queue `id` once its returned messages are cleared (R260). -/
def clearedState (id : Nat) (s : State) : Nat :=
  if keptMsgs (queueOf s id) = [] then restState s (queueLeaf id) (queueClass id) else 1

/-- A queue of which only the messages not returned are left, in the state `st`. -/
def clearedQueue (kept : List Msg) (st : Nat) (q : Queue) : Queue := { q with msgs := kept, qstate := st }

theorem clearedState_booked {k : Nat} {s : State} (h : Ready k s) (id : Nat) : clearedState id (booked k s) = clearedState id s := by
  have hleaf : ∀ L, leafOf (booked k s) L = leafOf s L := fun L => by unfold leafOf; rw [booked_frame]
  unfold clearedState restState penned
  rw [queueOf_booked, hleaf, rd_booked_apart h (by simp only [Apart, Obj.PROT_FLAGS]; omega)]

theorem clearReturned_returned {id : Nat} {s : State} (hid : id ≤ 262143) (hbound : leafBound (queueClass id) = true)
    (hleaf : queueLeaf id < leafCount s) (hstate : (queueOf s id).qstate = 3) :
    clearReturned id s = (setQueue id (clearedQueue (keptMsgs (queueOf s id)) (clearedState id s)) s, 0) := by
  unfold clearReturned
  dsimp only
  rw [if_neg (by simp [hbound]; omega), if_neg (by omega), if_neg (by simp [hstate])]
  rfl

theorem queueClearReturned_completes {k id : Nat} {s : State} (h : MayWriteN k Obj.QUEUE_CLEAR_RETURNED id s) (hid : id ≤ 262143)
    (hbound : leafBound (queueClass id) = true) (hleaf : queueLeaf id < leafCount s) (hstate : (queueOf s id).qstate = 3) :
    Completes (.queueClearReturned k id) s fun t =>
      Done k poolKeys { s with queues := t.queues } s t
        ∧ (queueOf t id).msgs = keptMsgs (queueOf s id)
        ∧ (queueOf t id).qstate = (if (queueOf t id).msgs = [] then restState s (queueLeaf id) (queueClass id) else 1)
        ∧ ∀ j, j ≠ id → queueOf t j = queueOf s j := by
  have hv : leNat (namedBytes Obj.QUEUE_CLEAR_RETURNED id) = id :=
    leNat_namedBytes volatile_queueClearReturned (by simp only [ObjTy.size]; omega)
  let f := clearedQueue (keptMsgs (queueOf s id)) (clearedState id s)
  have hleaves := volatileWrite_leaves (ks := poolKeys) (setQueue id f)
    (u := { s with queues := Tbl.modify (fun _ => Queue.empty) s.queues id f })
    h volatile_queueClearReturned
    (fun r hp => by
      rw [applyWrite_flock hp (by decide)]
      show clearReturned (leNat (namedBytes Obj.QUEUE_CLEAR_RETURNED id)) _ = _
      rw [hv, clearReturned_returned hid hbound (by rw [leafCount_booked h.1]; exact hleaf) (by rw [queueOf_booked]; exact hstate),
        queueOf_booked, clearedState_booked h.1])
    (fun a b c => setQueue_change id f s a b c) ⟨rfl, rfl⟩ (fun _ => apart_of_mem_poolKeys) (fun x j hj => rd_setQueue id f x hj)
  refine completes_write rfl hleaves ?_
  rintro t ⟨hdone, -, -⟩
  have hqueues : t.queues = Tbl.modify (fun _ => Queue.empty) s.queues id f := by rw [frame_of_done hdone]
  have hqueue : queueOf t id = f (queueOf s id) := by rw [queueOf_of_queues hqueues, if_pos rfl]
  refine ⟨by rw [hqueues]; exact hdone, ?_, ?_, fun j hj => ?_⟩
  · rw [hqueue]; rfl
  · rw [hqueue]; rfl
  · rw [queueOf_of_queues hqueues, if_neg hj]

/-! ### SUB_ENABLE and SUB_RELEASE (R99, R100) -/

theorem apart_subEnable {n : Nat} : Apart (Obj.SUB_ENABLE n) := by simp only [Apart, Obj.SUB_ENABLE]; omega

theorem applyWrite_subEnable {k seq n : Nat} (hn : n < 16) {v : Nat} (hv : v < 256) (s : State) {r : ObjRow} (hp : r.persist = false) :
    applyWrite k seq (Obj.SUB_ENABLE n) r (namedBytes (Obj.SUB_ENABLE n) v) s = writeSubEnable n v s := by
  rw [applyWrite_flock hp (by simp only [Obj.SUB_ENABLE]; omega),
    writeFlock_sub (sub := 1) hn (by decide) (by simp only [Obj.SUB_ENABLE]; omega),
    leNat_namedBytes (volatile_subEnable n hn) (by simpa [ObjTy.size] using hv)]
  rfl

/-- A subscription that forgets the window under way and what waits to be written. -/
def stopSub (x : Subscription) : Subscription := { x with window := none, ready := [] }

theorem subDisable_completes {k n : Nat} {s : State} (hn : n < 16) (h : MayWriteN k (Obj.SUB_ENABLE n) 0 s) :
    Completes (.subEnable k n 0) s fun t =>
      Done k [Obj.SUB_ENABLE n] { s with subs := t.subs } s t ∧ rd t (Obj.SUB_ENABLE n) = 0
        ∧ (n < s.subs.length → (subOf t n).window = none ∧ (subOf t n).ring = (subOf s n).ring) := by
  have hleaves := volatileWrite_leaves (ks := [Obj.SUB_ENABLE n]) (fun x => setSub n stopSub (wr x (Obj.SUB_ENABLE n) 0))
    (u := setSub n stopSub s) h (volatile_subEnable n hn)
    (fun r hp => by rw [applyWrite_subEnable hn (by decide) _ hp]; rfl)
    (fun a b c => ⟨_, rfl⟩) ⟨rfl, rfl⟩ (by simpa using apart_subEnable)
    (fun x j hj => rd_wr_other x 0 (by simpa using hj))
  refine completes_write (by show execSubEnable k n 0 s = _; unfold execSubEnable; rw [only_pos hn]; rfl) hleaves ?_
  rintro t ⟨hdone, -, hobj⟩
  have hsubs : t.subs = (setSub n stopSub s).subs := by rw [frame_of_done hdone]
  have hsub : subOf t n = subOf (setSub n stopSub s) n := by unfold subOf; rw [hsubs]
  refine ⟨by rw [hsubs]; exact hdone, by rw [hobj _ apart_subEnable, rd_setSub, rd_wr_same], fun hlen => ?_⟩
  rw [hsub, subOf_setSub, if_pos ⟨rfl, hlen⟩]
  exact ⟨rfl, rfl⟩

/-- The subscriptions enabled, with subscription `n` counted in. -/
def enabledWith (n : Nat) (s : State) : List Nat := (List.range 16).filter (fun j => decide (j = n) || rdBool s (Obj.SUB_ENABLE j))

/-- Booking a request changes neither which subscriptions are enabled nor what each of them needs. -/
theorem rates_booked {k : Nat} {s : State} (h : Ready k s) (n : Nat) :
    (enabledWith n (booked k s)).map (subRate (booked k s)) = (enabledWith n s).map (subRate s) := by
  have hon : enabledWith n (booked k s) = enabledWith n s := by
    unfold enabledWith rdBool
    simp only [rd_booked_apart h apart_subEnable]
  have hrate : subRate (booked k s) = subRate s := by
    funext j
    unfold subRate periodNs
    rw [rd_booked_apart h (j := Obj.SUB_FIELDS j) (by simp only [Apart, Obj.SUB_FIELDS]; omega),
      rd_booked_apart h (j := Obj.SUB_LEAF_COUNT j) (by simp only [Apart, Obj.SUB_LEAF_COUNT]; omega),
      rd_booked_apart h (j := Obj.SUB_MODE j) (by simp only [Apart, Obj.SUB_MODE]; omega),
      rd_booked_apart h (j := Obj.SUB_DECIMATION j) (by simp only [Apart, Obj.SUB_DECIMATION]; omega),
      rd_booked_apart h (j := Obj.TIDE_PERIOD) (by decide)]
  rw [hon, hrate]

theorem writeSubEnable_within {n : Nat} {s : State} (h : sumRat ((enabledWith n s).map (subRate s)) ≤ 500000000) :
    writeSubEnable n 1 s = (wr s (Obj.SUB_ENABLE n) 1, 0) := by
  unfold writeSubEnable
  rw [if_neg (by decide)]
  exact if_neg (not_lt.mpr h)

theorem subEnable_completes {k n : Nat} {s : State} (hn : n < 16) (h : MayWriteN k (Obj.SUB_ENABLE n) 1 s)
    (hrate : sumRat ((enabledWith n s).map (subRate s)) ≤ 500000000) :
    Completes (.subEnable k n 1) s fun t => Done k [Obj.SUB_ENABLE n] s s t ∧ rd t (Obj.SUB_ENABLE n) = 1 := by
  have hleaves := volatileWrite_leaves (ks := [Obj.SUB_ENABLE n]) (fun x => wr x (Obj.SUB_ENABLE n) 1) (u := s) h
    (volatile_subEnable n hn)
    (fun r hp => by
      rw [applyWrite_subEnable hn (by decide) _ hp, writeSubEnable_within (by rw [rates_booked h.1]; exact hrate)])
    (fun a b c => ⟨_, rfl⟩) ⟨rfl, rfl⟩ (by simpa using apart_subEnable) (fun x j hj => rd_wr_other x 1 (by simpa using hj))
  refine completes_write (by show execSubEnable k n 1 s = _; unfold execSubEnable; rw [only_pos hn]; rfl) hleaves ?_
  rintro t ⟨hdone, -, hobj⟩
  exact ⟨hdone, (hobj _ apart_subEnable).trans (rd_wr_same _ _ _)⟩

/-- A subscription without the records up to the one of counter `c`. -/
def freeRecords (c : Nat) (x : Subscription) : Subscription := { x with ring := (x.ring.dropWhile (fun p => p.1 ≠ c)).drop 1 }

/-- A subscription that holds a record is one of the subscriptions. -/
theorem lt_subs_of_ring {s : State} {n c : Nat} (h : (subOf s n).ring.any (fun p => p.1 = c) = true) : n < s.subs.length := by
  by_contra hlt
  have hidle : subOf s n = Subscription.idle := by simp [subOf, getD', List.getElem?_eq_none (not_lt.mp hlt)]
  rw [hidle] at h
  cases h

theorem subRelease_completes {k n c : Nat} {s : State} (hn : n < 16) (h : MayWriteN k (Obj.SUB_RELEASE n) c s) (hc : c < 65536)
    (hring : (subOf s n).ring.any (fun p => p.1 = c) = true) :
    Completes (.subRelease k n c) s fun t =>
      Done k [] { s with subs := t.subs } s t
        ∧ (subOf t n).ring = ((subOf s n).ring.dropWhile (fun p => p.1 ≠ c)).drop 1 ∧ ∀ j, j ≠ n → subOf t j = subOf s j := by
  have hv : leNat (namedBytes (Obj.SUB_RELEASE n) c) = c := leNat_namedBytes (volatile_subRelease n hn) (by simpa [ObjTy.size] using hc)
  have hbooked : subOf (booked k s) n = subOf s n := by unfold subOf; rw [booked_frame]
  have hleaves := volatileWrite_leaves (ks := []) (setSub n (freeRecords c)) (u := setSub n (freeRecords c) s) h
    (volatile_subRelease n hn)
    (fun r hp => by
      rw [applyWrite_flock hp (by simp only [Obj.SUB_RELEASE]; omega),
        writeFlock_sub (sub := 8) hn (by decide) (by simp only [Obj.SUB_RELEASE]; omega), hv]
      show accept (subRelease n c _) = _
      unfold subRelease
      rw [hbooked, if_pos hring]
      rfl)
    (fun a b c => ⟨_, rfl⟩) ⟨rfl, rfl⟩ (by simp) (fun x j _ => rfl)
  refine completes_write (by show execSubRelease k n c s = _; unfold execSubRelease; rw [only_pos hn]; rfl) hleaves ?_
  rintro t ⟨hdone, -, -⟩
  have hsubs : t.subs = (setSub n (freeRecords c) s).subs := by rw [frame_of_done hdone]
  have hsub : ∀ j, subOf t j = subOf (setSub n (freeRecords c) s) j := fun j => by unfold subOf; rw [hsubs]
  refine ⟨by rw [hsubs]; exact hdone, ?_, fun j hj => ?_⟩
  · rw [hsub, subOf_setSub, if_pos ⟨rfl, lt_subs_of_ring hring⟩]; rfl
  · rw [hsub, subOf_setSub, if_neg (by simp [hj])]

/-! ### The miss counters (R22) -/

/-- A refusal for the token has a status of its own (R308). -/
theorem refuseGoverned_ne_zero (m key raw : Nat) (s : State) : (refuseGoverned m key raw s).2 ≠ 0 := by
  unfold refuseGoverned
  dsimp only
  split
  · split <;> simp [abConflict, abToken]
  · split <;> simp [abToken]

/-- Checks that pass have found the value in the object's range (check 10 of R295). -/
theorem rangeOk_of_checks {s : State} {k ix sub : Nat} {bs : List Byte} {r : ObjRow} (h : (writeChecks s k ix sub bs).2 = 0)
    (hr : findRow ix sub = some r) : rangeOk (objKey ix sub) r bs = true := by
  have hrow := presentRow_of_checks h hr
  unfold writeChecks at h
  rw [hrow] at h
  dsimp only at h
  split at h
  · simp [refuse] at h
  split at h
  · simp [refuse] at h
  split at h
  · exact absurd h (refuseGoverned_ne_zero _ _ _ _)
  change lateChecks s k (objKey ix sub) r bs = 0 at h
  unfold lateChecks at h
  split_ifs at h with hstate hsafe hlength hrange
  · simpa using hrange

/-- A number that the range from 0 to 0 holds. -/
theorem eq_zero_of_holds {raw : Nat} (h : (Range.within 0 0).holds .u32 raw = true) : raw = 0 := by
  have hle : (raw : Rat) ≤ 0 := by
    simp only [Range.holds, ObjTy.value, Bool.and_eq_true] at h
    exact of_decide_eq_true h.2
  exact_mod_cast le_antisymm hle (Nat.cast_nonneg raw)

/-- The three miss counters take 0 only. -/
theorem range_missCounter : ∀ which < 3, (findRow (keyIndex (Obj.REFERENCE_MISSES + which)) (keySub (Obj.REFERENCE_MISSES + which))).map
    (fun r => r.range) = some (.within 0 0) := by decide +kernel

theorem apart_missCounter {which : Nat} (h : which < 3) : Apart (Obj.REFERENCE_MISSES + which) := by
  simp only [Apart, Obj.REFERENCE_MISSES]; omega

/-- No bit of a miss counter is reserved (R8). -/
theorem writtenCode_missCounter {which : Nat} (h : which < 3) (raw : Nat) : writtenCode (Obj.REFERENCE_MISSES + which) raw = raw := by
  interval_cases which <;> rfl

theorem applyWrite_missCounter {k seq which : Nat} (h : which < 3) (bs : List Byte) (s : State) {r : ObjRow} (hp : r.persist = false) :
    applyWrite k seq (Obj.REFERENCE_MISSES + which) r bs s = (wr s (Obj.REFERENCE_MISSES + which) (leNat bs), 0) := by
  unfold applyWrite
  rw [if_neg (by simp [hp])]
  interval_cases which <;> rfl

theorem missCounterClear_completes {k which v : Nat} {s : State} (hw : which < 3) (h : MayWriteN k (Obj.REFERENCE_MISSES + which) v s) :
    Completes (.missCounterClear k which v) s fun t =>
      Done k [Obj.REFERENCE_MISSES + which] s s t ∧ rd t (Obj.REFERENCE_MISSES + which) = 0 := by
  obtain ⟨r, hr, -, hty⟩ := row_of_volatile (volatile_missCounter which hw)
  have hrange : r.range = .within 0 0 := by simpa [hr] using range_missCounter which hw
  have hzero : leNat (namedBytes (Obj.REFERENCE_MISSES + which) v) = 0 := by
    have hok := rangeOk_of_checks h.2 hr
    unfold rangeOk at hok
    simp only [hty, valueOk, hrange, objKey_keyIndex_keySub, writeRaw, writtenCode_missCounter hw, Bool.and_eq_true] at hok
    exact eq_zero_of_holds hok.1.2
  have hapart := apart_missCounter hw
  have hleaves := volatileWrite_leaves (ks := [Obj.REFERENCE_MISSES + which]) (fun x => wr x (Obj.REFERENCE_MISSES + which) 0) (u := s) h
    (volatile_missCounter which hw) (fun r hp => by rw [applyWrite_missCounter hw _ _ hp, hzero])
    (fun a b c => ⟨_, rfl⟩) ⟨rfl, rfl⟩ (by simpa using hapart) (fun x j hj => rd_wr_other x 0 (by simpa using hj))
  refine completes_write (by show execMissCounterClear k which v s = _; unfold execMissCounterClear; rw [only_pos hw]; rfl) hleaves ?_
  rintro t ⟨hdone, -, hobj⟩
  exact ⟨hdone, by rw [hobj _ hapart, rd_wr_same]⟩

/-! ### RT_MEASURE and REJOIN_REQUEST (R63, R267) -/

/-- A drove whose measurement begins. -/
def beginMeasure (x : Drove) : Drove := { x with measure := some 0, measWant := false, measMax := 0, measTurn := none, measBad := false }

theorem startMeasure_eq (d : Nat) (s : State) : startMeasure d s = setDrove d beginMeasure (wr s (Obj.RT_MEASURE d) 1) := rfl

/-- A drove's record, read from the table of droves. -/
theorem droveOf_of_droves {s t : State} {d : Nat} {f : Drove → Drove} (h : t.droves = (setDrove d f s).droves) :
    droveOf t d = f (droveOf s d) := by
  unfold droveOf; rw [h]; exact droveOf_setDrove_same s d f

/-- A drove whose measurement is still to be made. -/
def awaitMeasure (x : Drove) : Drove := { x with measWant := true }

theorem measurable_booked {k : Nat} {s : State} (h : Ready k s) (d : Nat) : measurable (booked k s) d = measurable s d := by
  have hdrove : droveOf (booked k s) d = droveOf s d := by unfold droveOf; rw [booked_frame]
  have hleaf : ∀ L, leafOf (booked k s) L = leafOf s L := fun L => by unfold leafOf; rw [booked_frame]
  have hleaves : leavesOf (booked k s) d = leavesOf s d :=
    leavesOf_congr (rd_booked_apart h (by decide)) (fun j hj => rd_booked_apart h (by simp only [Apart]; omega)) d
  unfold measurable
  simp only [hdrove, hleaves, hleaf]

theorem applyWrite_rtMeasure {k seq d : Nat} (hd : d < 128) (bs : List Byte) (s : State) {r : ObjRow} (hp : r.persist = false) :
    applyWrite k seq (Obj.RT_MEASURE d) r bs s = (wantMeasure d s, 0) := by
  have hix : keyIndex (Obj.RT_MEASURE d) = 0x3400 + d := by simp only [keyIndex, Obj.RT_MEASURE]; omega
  rw [applyWrite_flock hp (by simp only [Obj.RT_MEASURE]; omega)]
  unfold writeFlock
  simp only [hix, Nat.add_sub_cancel_left]
  exact if_pos (by omega)

theorem apart_rtMeasure {d : Nat} : Apart (Obj.RT_MEASURE d) := by simp only [Apart, Obj.RT_MEASURE]; omega

theorem exec_rtMeasure {k d v : Nat} (hd : d < 128) (s : State) :
    exec (.rtMeasure k d v) s = .next (namedRequest k 0x11 (Obj.RT_MEASURE d) (namedBytes (Obj.RT_MEASURE d) v) s) := by
  show execRtMeasure k d v s = _
  unfold execRtMeasure
  rw [only_pos hd]
  rfl

theorem rtMeasure_begins {k d v : Nat} {s : State} (hd : d < 128) (h : MayWriteN k (Obj.RT_MEASURE d) v s) (hm : measurable s d = true) :
    Completes (.rtMeasure k d v) s fun t =>
      Done k [Obj.RT_MEASURE d] { s with droves := t.droves } s t ∧ rd t (Obj.RT_MEASURE d) = 1 ∧ (droveOf t d).measure = some 0 := by
  have hleaves := volatileWrite_leaves (ks := [Obj.RT_MEASURE d]) (startMeasure d)
    (u := setDrove d beginMeasure s) h (volatile_rtMeasure d hd)
    (fun r hp => by
      rw [applyWrite_rtMeasure hd _ _ hp, wantMeasure, if_pos (by rw [measurable_booked h.1]; exact hm)])
    (fun a b c => ⟨_, rfl⟩) ⟨rfl, rfl⟩ (by simpa using apart_rtMeasure) (fun x j hj => rd_wr_other x 1 (by simpa using hj))
  refine completes_write (exec_rtMeasure hd s) hleaves ?_
  rintro t ⟨hdone, -, hobj⟩
  have hdroves : t.droves = (setDrove d beginMeasure s).droves := by rw [frame_of_done hdone]
  refine ⟨by rw [hdroves]; exact hdone, ?_, by rw [droveOf_of_droves hdroves]; rfl⟩
  rw [hobj _ apart_rtMeasure, startMeasure_eq, rd_setDrove, rd_wr_same]

theorem rtMeasure_waits {k d v : Nat} {s : State} (hd : d < 128) (h : MayWriteN k (Obj.RT_MEASURE d) v s) (hm : measurable s d = false) :
    Completes (.rtMeasure k d v) s fun t => Done k [] { s with droves := t.droves } s t ∧ (droveOf t d).measWant = true := by
  have hleaves := volatileWrite_leaves (ks := []) (setDrove d awaitMeasure) (u := setDrove d awaitMeasure s) h (volatile_rtMeasure d hd)
    (fun r hp => by
      rw [applyWrite_rtMeasure hd _ _ hp, wantMeasure, if_neg (by rw [measurable_booked h.1, hm]; decide)]
      rfl)
    (fun a b c => ⟨_, rfl⟩) ⟨rfl, rfl⟩ (by simp) (fun x j _ => rfl)
  refine completes_write (exec_rtMeasure hd s) hleaves ?_
  rintro t ⟨hdone, -, -⟩
  have hdroves : t.droves = (setDrove d awaitMeasure s).droves := by rw [frame_of_done hdone]
  exact ⟨by rw [hdroves]; exact hdone, by rw [droveOf_of_droves hdroves]; rfl⟩

/-- A drove whose rejoining is asked for. -/
def askRejoin (x : Drove) : Drove := { x with rejoinAsk := true }

theorem rejoinRequest_present {d : Nat} {s : State} (h : d < droveCount s) :
    rejoinRequest d s = (setPlan d 0 1 0 (setDrove d askRejoin s), 0) := if_neg (not_le.mpr h)

theorem applyWrite_rejoinRequest {k seq : Nat} (bs : List Byte) (s : State) {r : ObjRow} (hp : r.persist = false) :
    applyWrite k seq Obj.REJOIN_REQUEST r bs s = rejoinRequest (leNat bs) s := by
  unfold applyWrite
  rw [if_neg (by simp [hp])]
  rfl

/-- The lowest bit of `TURN_PLAN`, written 0, is clear. -/
theorem bit_putBits_zero (v : Nat) : bit (putBits v 0 1 0) 0 = false := by
  simp only [bit, putBits, bits, Nat.testBit_zero, decide_eq_false_iff_not]
  omega

theorem rejoinRequest_completes {k d : Nat} {s : State} (h : MayWriteN k Obj.REJOIN_REQUEST d s) (hd : d < 128) (hd' : d < droveCount s) :
    Completes (.rejoinRequest k d) s fun t =>
      Done k [Obj.TURN_PLAN d] { s with droves := t.droves } s t ∧ (droveOf t d).rejoinAsk = true
        ∧ bit (rd t (Obj.TURN_PLAN d)) 0 = false := by
  have hv : leNat (namedBytes Obj.REJOIN_REQUEST d) = d := leNat_namedBytes volatile_rejoinRequest (by simp only [ObjTy.size]; omega)
  have hapart : Apart (Obj.TURN_PLAN d) := by simp only [Apart, Obj.TURN_PLAN]; omega
  have hcount : droveCount (booked k s) = droveCount s := by unfold droveCount optionCode; rw [rd_booked_apart h.1 (by decide)]
  have hleaves := volatileWrite_leaves (ks := [Obj.TURN_PLAN d]) (fun x => setPlan d 0 1 0 (setDrove d askRejoin x))
    (u := setDrove d askRejoin s) h volatile_rejoinRequest
    (fun r hp => by rw [applyWrite_rejoinRequest _ _ hp, hv, rejoinRequest_present (by rw [hcount]; exact hd')])
    (fun a b c => ⟨_, rfl⟩) ⟨rfl, rfl⟩ (by simpa using hapart)
    (fun x j hj => rd_wr_other (setDrove d askRejoin x) _ (by simpa using hj))
  refine completes_write rfl hleaves ?_
  rintro t ⟨hdone, -, hobj⟩
  have hdroves : t.droves = (setDrove d askRejoin s).droves := by rw [frame_of_done hdone]
  refine ⟨by rw [hdroves]; exact hdone, by rw [droveOf_of_droves hdroves]; rfl, ?_⟩
  rw [hobj _ hapart, setPlan, rd_wr_same]
  exact bit_putBits_zero _

/-- Settles O52: clause by clause, from what each object's own rule does once the request is booked. -/
theorem queueStoreAndDroveWrites : Obligations.QueueStoreAndDroveWrites :=
  ⟨fun _ _ _ _ hw h => roleKeyWrite_completes hw h,
    fun _ _ _ h hid hbound hleaf hrole hbody hstate hseq hfits =>
      queuePost_completes h rfl rfl hid hbound hleaf hrole hbody hstate hseq hfits,
    fun _ _ _ h hv => queueSelect_completes h hv,
    fun _ _ _ _ h hid hleaf hhead hseq => queueRelease_completes h rfl hid hleaf hhead hseq,
    fun _ _ _ h hid hbound hleaf hstate => queueClearReturned_completes h hid hbound hleaf hstate,
    fun _ _ _ hn h => subDisable_completes hn h,
    fun _ _ _ hn h hrate => subEnable_completes hn h hrate,
    fun _ _ _ _ hn h hc hring => subRelease_completes hn h hc hring,
    fun _ _ _ _ hw h => missCounterClear_completes hw h,
    fun _ _ _ _ hd h => ⟨rtMeasure_begins hd h, rtMeasure_waits hd h⟩,
    fun _ _ _ h hd hd' => rejoinRequest_completes h hd hd'⟩

end Sys2Proof.Proofs

namespace Sys2Proof.Proofs

open Sys2Proof.Machine Sys2Proof.Claims Sys2Proof.Laws

/-! ### Events, fault events and droves: one rule for each (R261, R489) -/

theorem rd_of_regs {s t : State} (h : t.regs = s.regs) (j : Nat) : rd t j = rd s j := by unfold rd; rw [h]

theorem droveOf_congr {s t : State} (h : t.droves = s.droves) (d : Nat) : droveOf t d = droveOf s d := by unfold droveOf; rw [h]

theorem droveOf_wr (s : State) (key v d : Nat) : droveOf (wr s key v) d = droveOf s d := rfl

theorem droveOf_count (s : State) (key d : Nat) : droveOf (count s key) d = droveOf s d := rfl

theorem droveOf_emit (e : Ev) (inst : Nat) (args : List Byte) (s : State) (d : Nat) : droveOf (emit e inst args s) d = droveOf s d :=
  droveOf_congr (by rw [emit_frame]) d

theorem droveOf_countFault (family source inst n : Nat) (s : State) (d : Nat) :
    droveOf (countFault family source inst n s) d = droveOf s d := droveOf_congr (by rw [countFault_frame]) d

/-- A quantity that no step of a fold changes stands at its end. -/
theorem foldl_keeps {α β : Type} (g : State → α) {f : State → β → State} (h : ∀ t x, g (f t x) = g t) (l : List β)
    (s : State) : g (l.foldl f s) = g s := by
  induction l generalizing s with
  | nil => rfl
  | cons x l ih => rw [List.foldl_cons, ih, h]

/-- An event is delivered when the intake has room. -/
theorem raised_emit (e : Ev) (inst : Nat) (args : List Byte) (s : State) : Raised e inst s (emit e inst args s) := by
  intro hroom
  refine ⟨intakeEntry e.code e.rank e.severity inst 0 args s, ?_, rfl, rfl, rfl, rfl⟩
  unfold emit
  rw [emitRaw_room _ _ _ _ _ _ _ hroom]
  exact List.mem_append_right _ List.mem_cons_self

/-- Delivery is a matter of the log alone. -/
theorem raised_congr {e : Ev} {inst : Nat} {s s' t t' : State} (h : Raised e inst s t) (hs : s'.log = s.log) (ht : t'.log = t.log) :
    Raised e inst s' t' := by
  unfold Raised; rw [hs, ht]; exact h

@[simp] theorem rd_countFault (family source inst n : Nat) (s : State) (j : Nat) : rd (countFault family source inst n s) j = rd s j :=
  rd_of_regs (by rw [countFault_frame]) j

/-- The event that one fault of a station source adds (R261). -/
def stationFault (source inst : Nat) : FaultEvent :=
  { rank := faultRank 0 source, family := 0, source := source, inst := inst, n := 1 }

theorem countFault_one (source inst : Nat) (s : State) :
    countFault 0 source inst 1 s = { s with faultEvents := s.faultEvents ++ [stationFault source inst] } := rfl

/-! ### Lock of a lane (R36, R71) -/

theorem spoilMeasure_frame (d : Nat) (s : State) : spoilMeasure d s = { s with droves := (spoilMeasure d s).droves } := by
  unfold spoilMeasure; split <;> rfl

theorem rd_spoilMeasure (d : Nat) (s : State) (j : Nat) : rd (spoilMeasure d s) j = rd s j := rd_of_regs (by rw [spoilMeasure_frame]) j

/-- A drove whose lane has lost lock. -/
def loseLock (x : Drove) : Drove := { x with locked := false, training := true }

/-- A drove whose lane has gained block lock. -/
def gainLock (x : Drove) : Drove := { x with locked := true, training := false }

theorem exec_laneLockLoss {d : Nat} {s : State} (hl : alive s .link = true) (hd : d < droveCount s) :
    exec (.laneLockLoss d) s = .next (showLane d (countFault 0 srcLanePath d 1
      (count (setDrove d loseLock (spoilMeasure d s)) (Obj.LOCK_LOSSES d)))) := by
  show execLaneLockLoss d s = _
  unfold execLaneLockLoss
  rw [whenAlive_on _ hl, if_pos hd]
  rfl

theorem laneLockLoss_completes {d : Nat} {s : State} (hl : alive s .link = true) (hd : d < droveCount s) :
    Completes (.laneLockLoss d) s fun t =>
      Counted 32 (Obj.LOCK_LOSSES d) s t ∧ (droveOf t d).locked = false ∧ (droveOf t d).training = true
        ∧ (∃ e, t.faultEvents = s.faultEvents ++ [e] ∧ e.family = 0 ∧ e.source = srcLanePath ∧ e.inst = d ∧ e.n = 1)
        ∧ t = { s with regs := t.regs, droves := t.droves, faultEvents := t.faultEvents }
        ∧ OnlyObjects [Obj.LOCK_LOSSES d, Obj.LANE_STATE d] s t := by
  have hdrove : droveOf (showLane d (countFault 0 srcLanePath d 1 (count (setDrove d loseLock (spoilMeasure d s)) (Obj.LOCK_LOSSES d)))) d
      = loseLock (droveOf (spoilMeasure d s) d) := by
    rw [showLane, droveOf_wr, droveOf_countFault, droveOf_count, droveOf_setDrove_same]
  refine ⟨_, exec_laneLockLoss hl hd, ?_, by rw [hdrove]; rfl, by rw [hdrove]; rfl,
    ⟨stationFault srcLanePath d, by rw [spoilMeasure_frame]; rfl, rfl, rfl, rfl, rfl⟩, by rw [spoilMeasure_frame, countFault_one]; rfl,
    fun j hj => ?_⟩
  · unfold Counted showLane
    rw [rd_wr_other _ _ (by simp only [Obj.LOCK_LOSSES, Obj.LANE_STATE]; omega), rd_countFault, rd_count_same, rd_setDrove,
      rd_spoilMeasure]
  · simp only [List.mem_cons, List.not_mem_nil, or_false, not_or] at hj
    obtain ⟨hlosses, hlane⟩ := hj
    rw [showLane, rd_wr_other _ _ hlane, rd_countFault, rd_count_other _ hlosses, rd_setDrove, rd_spoilMeasure]

theorem laneBlockLockGained_completes {d : Nat} {s : State} (hl : alive s .link = true) (hd : d < droveCount s) :
    Completes (.laneBlockLockGained d) s fun t =>
      (droveOf t d).locked = true ∧ (droveOf t d).training = false ∧ t = { s with regs := t.regs, droves := t.droves }
        ∧ OnlyObjects [Obj.LANE_STATE d] s t := by
  have hexec : exec (.laneBlockLockGained d) s = .next (showLane d (setDrove d gainLock s)) := by
    show execLaneBlockLockGained d s = _
    unfold execLaneBlockLockGained
    rw [whenAlive_on _ hl, if_pos hd]
    rfl
  have hdrove := droveOf_setDrove_same s d gainLock
  exact ⟨_, hexec, congrArg Drove.locked hdrove, congrArg Drove.training hdrove, rfl,
    fun j hj => rd_wr_other _ _ (by simpa using hj)⟩

/-! ### The tide phase of a lane (R19) -/

/-- The drift event goes to the log and counts one fault of the lane's phase; no object but `LOG_DROPPED` changes. -/
theorem driftEvent_frame (d : Nat) (s : State) :
    driftEvent d s = { s with regs := (driftEvent d s).regs, log := (driftEvent d s).log,
                              faultEvents := s.faultEvents ++ [stationFault srcLanePhase d] } := by
  unfold driftEvent
  rw [countFault_one, emit_frame]

theorem rd_driftEvent (d : Nat) (s : State) {j : Nat} (h : j ≠ Obj.LOG_DROPPED) : rd (driftEvent d s) j = rd s j :=
  (rd_countFault _ _ _ _ _ j).trans (rd_emit_other _ _ _ _ h)

theorem raised_driftEvent (d : Nat) (s : State) : Raised .laneTidePhaseDrift d s (driftEvent d s) :=
  raised_congr (raised_emit .laneTidePhaseDrift d (leBytes 1 d) s) rfl rfl

/-- A drove whose lane has the reference phase `p`. -/
def holdPhase (p : Nat) (x : Drove) : Drove := { x with phaseRef := some p, phaseRenew := false }

/-- The phase taken is shown and becomes the reference. The drift event comes first where a reference to be renewed differs too much. -/
theorem takePhase_eq (d p : Nat) (s : State) :
    ∃ u, takePhase d p s = setDrove d (holdPhase p) (wr u (Obj.LANE_TIDE_PHASE d) p) ∧ (u = s ∨ u = driftEvent d s)
      ∧ ∀ r, (droveOf s d).phaseRef = some r → (droveOf s d).phaseRenew = true → phaseDrift p r = true → u = driftEvent d s := by
  refine ⟨_, rfl, (ite_eq_or_eq _ _ _).symm, fun r href hrenew hdrift => ?_⟩
  simp only [href, hrenew, hdrift, Bool.and_self, if_true]

theorem takePhase_changes (d p : Nat) (s : State) :
    ∃ a b c, takePhase d p s = { s with regs := a, droves := (setDrove d (holdPhase p) s).droves, log := b, faultEvents := c } := by
  obtain ⟨u, he, rfl | rfl, -⟩ := takePhase_eq d p s
  · exact ⟨_, _, _, he⟩
  · rw [he, driftEvent_frame]; exact ⟨_, _, _, rfl⟩

theorem rd_takePhase (d p : Nat) (s : State) {j : Nat} (hp : j ≠ Obj.LANE_TIDE_PHASE d) (hl : j ≠ Obj.LOG_DROPPED) :
    rd (takePhase d p s) j = rd s j := by
  obtain ⟨u, he, hu, -⟩ := takePhase_eq d p s
  rw [he, rd_setDrove, rd_wr_other _ _ hp]
  rcases hu with rfl | rfl
  · rfl
  · exact rd_driftEvent d s hl

theorem rd_takePhase_same (d p : Nat) (s : State) : rd (takePhase d p s) (Obj.LANE_TIDE_PHASE d) = p := by
  obtain ⟨u, he, -⟩ := takePhase_eq d p s
  rw [he, rd_setDrove, rd_wr_same]

theorem droveOf_takePhase (d p : Nat) (s : State) : droveOf (takePhase d p s) d = holdPhase p (droveOf s d) := by
  obtain ⟨_, _, _, h⟩ := takePhase_changes d p s
  exact droveOf_of_droves (by rw [h])

theorem exec_lanePhaseCheck {d phase r : Nat} {s : State} (hl : alive s .link = true) (hr : (droveOf s d).phaseRef = some r) :
    exec (.lanePhaseCheck d phase) s = .next (if (droveOf s d).phaseRenew then takePhase d (phase % 64) s
      else if phaseDrift (phase % 64) r then driftEvent d s else s) := by
  show execLanePhaseCheck d phase s = _
  unfold execLanePhaseCheck
  rw [whenAlive_on _ hl]
  simp only [hr]

theorem lanePhaseCheck_near {d phase r : Nat} {s : State} (hl : alive s .link = true) (hr : (droveOf s d).phaseRef = some r)
    (hn : (droveOf s d).phaseRenew = false) (hp : phaseDrift (phase % 64) r = false) : exec (.lanePhaseCheck d phase) s = .next s := by
  rw [exec_lanePhaseCheck hl hr, hn, hp]; rfl

theorem lanePhaseCheck_drifted {d phase r : Nat} {s : State} (hl : alive s .link = true) (hr : (droveOf s d).phaseRef = some r)
    (hn : (droveOf s d).phaseRenew = false) (hp : phaseDrift (phase % 64) r = true) :
    Completes (.lanePhaseCheck d phase) s fun t =>
      Raised .laneTidePhaseDrift d s t ∧ t = { s with regs := t.regs, log := t.log, faultEvents := t.faultEvents }
        ∧ (∃ e, t.faultEvents = s.faultEvents ++ [e] ∧ e.family = 0 ∧ e.source = srcLanePhase ∧ e.inst = d)
        ∧ OnlyObjects [Obj.LOG_DROPPED] s t := by
  refine ⟨driftEvent d s, by rw [exec_lanePhaseCheck hl hr, hn, hp]; rfl, raised_driftEvent d s, ?_,
    ⟨stationFault srcLanePhase d, ?_, rfl, rfl, rfl⟩, fun j hj => rd_driftEvent d s (by simpa using hj)⟩ <;>
  rw [driftEvent_frame]

theorem lanePhaseCheck_renewed {d phase r : Nat} {s : State} (hl : alive s .link = true) (hr : (droveOf s d).phaseRef = some r)
    (hn : (droveOf s d).phaseRenew = true) :
    Completes (.lanePhaseCheck d phase) s fun t =>
      (droveOf t d).phaseRef = some (phase % 64) ∧ (droveOf t d).phaseRenew = false ∧ rd t (Obj.LANE_TIDE_PHASE d) = phase % 64
        ∧ (phaseDrift (phase % 64) r = true → Raised .laneTidePhaseDrift d s t) := by
  refine ⟨takePhase d (phase % 64) s, by rw [exec_lanePhaseCheck hl hr, hn]; rfl, by rw [droveOf_takePhase]; rfl,
    by rw [droveOf_takePhase]; rfl, rd_takePhase_same _ _ _, fun hp => ?_⟩
  obtain ⟨u, he, -, hu⟩ := takePhase_eq d (phase % 64) s
  rw [he, hu r hr hn hp]
  exact raised_congr (raised_driftEvent d s) rfl rfl

theorem lanePhaseCheck_unreferenced {d phase : Nat} {s : State} (hr : (droveOf s d).phaseRef = none) :
    exec (.lanePhaseCheck d phase) s = .next s := by
  show execLanePhaseCheck d phase s = _
  unfold execLanePhaseCheck whenAlive
  simp only [hr, ite_self]

/-! ### The round-trip measurement (R63, R65) -/

theorem showBridge_frame (d : Nat) (s : State) : showBridge d s = { s with regs := (showBridge d s).regs } := wrs_regs _ _

/-- A bridge shows two results, at the sub-indices 0x10 and 0x11 of its drove (R67). -/
theorem rd_showBridge (d : Nat) (s : State) {j : Nat} (h : j % 0x100 ≠ 0x10 ∧ j % 0x100 ≠ 0x11) : rd (showBridge d s) j = rd s j := by
  refine rd_wrs_other _ _ fun p hmem e => ?_
  simp only [List.mem_cons, List.not_mem_nil, or_false] at hmem
  rcases hmem with rfl | rfl <;> simp only [Obj.BRIDGE_ROUND_TRIP, Obj.BRIDGE_OUTBOUND_PASSAGE] at e <;> omega

theorem showBridges_changes (d e : Nat) (s : State) : ∃ a, showBridge e (showBridge d s) = { s with regs := a } :=
  ⟨_, by rw [showBridge_frame e, showBridge_frame d]⟩

/-- A drove without a measurement under way. -/
def endMeasure (x : Drove) : Drove := { x with measure := none }

/-- The results of a measurement change objects, the drove's record, and what a drift event changes. -/
theorem measured_changes (d phase : Nat) (s : State) :
    ∃ a b c, measured d phase s =
      { s with regs := a, droves := (setDrove d (holdPhase (phase % 64)) s).droves, log := b, faultEvents := c } := by
  unfold measured
  extract_lets x last out written
  obtain ⟨_, hwritten⟩ : ∃ a, written = { s with regs := a } := ⟨_, wrs_regs _ _⟩
  obtain ⟨_, _, _, hphase⟩ := takePhase_changes d (phase % 64) written
  obtain ⟨_, hbridges⟩ := showBridges_changes d (partner d) (takePhase d (phase % 64) written)
  rw [hbridges, hphase, hwritten]
  exact ⟨_, _, _, rfl⟩

/-- The results shown: the end of the measurement, the largest arrival and the phase (R63, R19). -/
theorem rd_measured (d phase : Nat) (s : State) :
    rd (measured d phase s) (Obj.RT_MEASURE d) = 2 ∧ rd (measured d phase s) (Obj.ROUND_TRIP d) = (droveOf s d).measMax
      ∧ rd (measured d phase s) (Obj.LANE_TIDE_PHASE d) = phase % 64 := by
  unfold measured showMinPeriod
  extract_lets x last out written
  have hshown : ∀ j v, 0x340000 ≤ j → j % 0x100 ≠ 0x10 ∧ j % 0x100 ≠ 0x11 →
      rd (wr (showBridge (partner d) (showBridge d (takePhase d (phase % 64) written))) Obj.MIN_PERIOD v) j
        = rd (takePhase d (phase % 64) written) j := fun j v hj h => by
    rw [rd_wr_other _ _ (by simp only [Obj.MIN_PERIOD]; omega), rd_showBridge _ _ h, rd_showBridge _ _ h]
  have hwritten : rd written (Obj.RT_MEASURE d) = 2 ∧ rd written (Obj.ROUND_TRIP d) = x.measMax := by
    simp [written, rd_wr, Obj.RT_MEASURE, Obj.ROUND_TRIP, Obj.OUTBOUND_PASSAGE, Obj.EARLIEST_TELEMETRY]
  obtain ⟨hdone, htrip⟩ := hwritten
  have hmeasureKey : Obj.RT_MEASURE d = 0x34000C + d * 0x100 := rfl
  have htripKey : Obj.ROUND_TRIP d = 0x34000D + d * 0x100 := rfl
  have hphaseKey : Obj.LANE_TIDE_PHASE d = 0x340013 + d * 0x100 := rfl
  have hlogKey : Obj.LOG_DROPPED = 0x180004 := rfl
  refine ⟨?_, ?_, ?_⟩
  · rw [hshown _ _ (by omega) (by omega), rd_takePhase _ _ _ (by omega) (by omega), hdone]
  · rw [hshown _ _ (by omega) (by omega), rd_takePhase _ _ _ (by omega) (by omega), htrip]
  · rw [hshown _ _ (by omega) (by omega), rd_takePhase_same]

theorem rtMeasurementEnd_measured {d phase n : Nat} {s : State} (hf : alive s .fabric = true) (hm : (droveOf s d).measure = some n)
    (hgood : (droveOf s d).measBad = false) (hmax : (droveOf s d).measMax ≠ 0) (hheld : station s = stHeld) (hn : measureTides ≤ n) :
    Completes (.rtMeasurementEnd d phase) s fun t =>
      rd t (Obj.RT_MEASURE d) = 2 ∧ rd t (Obj.ROUND_TRIP d) = (droveOf s d).measMax ∧ rd t (Obj.LANE_TIDE_PHASE d) = phase % 64
        ∧ (droveOf t d).phaseRef = some (phase % 64) ∧ (droveOf t d).measure = none
        ∧ t = { s with regs := t.regs, droves := t.droves, log := t.log, faultEvents := t.faultEvents } := by
  have hexec : exec (.rtMeasurementEnd d phase) s = .next (measured d phase (setDrove d endMeasure s)) := by
    show execRtMeasurementEnd d phase s = _
    unfold execRtMeasurementEnd
    rw [whenAlive_on _ hf]
    simp only [hm, hgood, hheld, hmax, not_lt.mpr hn, ne_eq, not_true_eq_false, decide_false, Bool.or_false, Bool.false_eq_true, if_false]
    rfl
  obtain ⟨_, _, _, hchanges⟩ := measured_changes d phase (setDrove d endMeasure s)
  have hdrove : droveOf (measured d phase (setDrove d endMeasure s)) d = holdPhase (phase % 64) (endMeasure (droveOf s d)) :=
    (droveOf_of_droves (by rw [hchanges])).trans (congrArg _ (droveOf_setDrove_same _ _ _))
  obtain ⟨hdone, htrip, hphase⟩ := rd_measured d phase (setDrove d endMeasure s)
  refine ⟨_, hexec, hdone, ?_, hphase, by rw [hdrove]; rfl, by rw [hdrove]; rfl, ?_⟩
  · rw [htrip, droveOf_setDrove_same]; rfl
  · rw [hchanges]; rfl

theorem rtMeasurementEnd_spoilt {d phase n : Nat} {s : State} (hf : alive s .fabric = true) (hm : (droveOf s d).measure = some n)
    (hbad : (droveOf s d).measBad = true) :
    Completes (.rtMeasurementEnd d phase) s fun t =>
      rd t (Obj.RT_MEASURE d) = 3 ∧ (droveOf t d).measure = none ∧ OnlyObjects [Obj.RT_MEASURE d] s t
        ∧ t = { s with regs := t.regs, droves := t.droves } := by
  have hexec : exec (.rtMeasurementEnd d phase) s = .next (wr (setDrove d endMeasure s) (Obj.RT_MEASURE d) 3) := by
    show execRtMeasurementEnd d phase s = _
    unfold execRtMeasurementEnd
    rw [whenAlive_on _ hf]
    simp only [hm, hbad, Bool.true_or, if_true]
    rfl
  exact ⟨_, hexec, rd_wr_same _ _ _, congrArg Drove.measure (droveOf_setDrove_same s d endMeasure),
    fun j hj => rd_wr_other _ _ (by simpa using hj), rfl⟩

/-- A drove whose second's margin has been shown. -/
def forgetMargin (x : Drove) : Drove := { x with margin := none }

theorem rtMarginSecond_completes {d : Nat} {m : Int} {s : State} (hf : alive s .fabric = true) (hm : (droveOf s d).margin = some m) :
    Completes (.rtMarginSecond d) s fun t =>
      rd t (Obj.RT_MARGIN d) = ofSigned 32 m ∧ (droveOf t d).margin = none ∧ (m < 200 → Raised .droveReturnMarginLow d s t)
        ∧ t = { s with regs := t.regs, droves := t.droves, log := t.log }
        ∧ OnlyObjects [Obj.RT_MARGIN d, Obj.LOG_DROPPED] s t := by
  let shown := setDrove d forgetMargin (wr s (Obj.RT_MARGIN d) (ofSigned 32 m))
  have hexec : exec (.rtMarginSecond d) s = .next (if m < 200 then
      emit .droveReturnMarginLow d (leBytes 1 d ++ leBytes 4 (ofSigned 32 m)) shown else shown) := by
    show execRtMarginSecond d s = _
    unfold execRtMarginSecond
    rw [whenAlive_on _ hf]
    simp only [hm]
    rfl
  have hdrove : (droveOf shown d).margin = none := congrArg Drove.margin (droveOf_setDrove_same _ d forgetMargin)
  have hmargin : rd shown (Obj.RT_MARGIN d) = ofSigned 32 m := rd_wr_same _ _ _
  have hother : ∀ j, j ∉ [Obj.RT_MARGIN d, Obj.LOG_DROPPED] → rd shown j = rd s j := fun j hj =>
    rd_wr_other s _ (fun e => hj (e ▸ List.mem_cons_self))
  refine ⟨_, hexec, ?_⟩
  split
  · refine ⟨?_, ?_, fun _ => raised_congr (raised_emit _ _ _ shown) rfl rfl, by rw [emit_frame]; rfl, fun j hj => ?_⟩
    · rw [rd_emit_other _ _ _ _ (by simp only [Obj.RT_MARGIN, Obj.LOG_DROPPED]; omega), hmargin]
    · rw [droveOf_emit, hdrove]
    · rw [rd_emit_other _ _ _ _ (fun e => hj (by simp [e])), hother j hj]
  · next hlow => exact ⟨hmargin, hdrove, fun h => absurd h hlow, rfl, hother⟩

/-! ### The average loop time (R61) -/

theorem judgeDelays_changes (ls : List Nat) (s : State) : ∃ a, ls.foldl (fun t L => judgeDelay L t) s = { s with leaves := a } := by
  induction ls generalizing s with
  | nil => exact ⟨_, rfl⟩
  | cons L ls ih =>
    obtain ⟨_, hone⟩ : ∃ a, judgeDelay L s = { s with leaves := a } := by
      unfold judgeDelay
      split
      · dsimp only; split <;> exact ⟨_, rfl⟩
      · exact ⟨_, rfl⟩
    obtain ⟨a, h⟩ := ih (judgeDelay L s)
    exact ⟨a, by rw [List.foldl_cons, h, hone]⟩

/-- A drove with a new average loop time, whose next average starts afresh. -/
def takeAverage (t : Nat) (x : Drove) : Drove := { x with tloop := some t, loopSum := 0, loopCount := 0, loopTides := 0 }

theorem tLoopAverage_completes {d : Nat} {s : State} (hf : alive s .fabric = true) (hc : (droveOf s d).loopCount ≠ 0)
    (ht : 1024 ≤ (droveOf s d).loopTides) :
    Completes (.tLoopAverage d) s fun t =>
      (droveOf t d).tloop = some (divHalfEven ((droveOf s d).loopSum : Int) (droveOf s d).loopCount).toNat
        ∧ (droveOf t d).loopSum = 0 ∧ (droveOf t d).loopCount = 0
        ∧ t = { s with regs := t.regs, droves := t.droves, leaves := t.leaves } := by
  let mean := (divHalfEven ((droveOf s d).loopSum : Int) (droveOf s d).loopCount).toNat
  let shown := showBridge (partner d) (showBridge d (setDrove d (takeAverage mean) s))
  have hexec : exec (.tLoopAverage d) s = .next ((leavesOf shown d).foldl (fun t L => judgeDelay L t) shown) := by
    show execTLoopAverage d s = _
    unfold execTLoopAverage
    rw [whenAlive_on _ hf, if_neg (by omega)]
    rfl
  obtain ⟨_, hshown⟩ : ∃ a, shown = { setDrove d (takeAverage mean) s with regs := a } := showBridges_changes _ _ _
  obtain ⟨_, hjudged⟩ := judgeDelays_changes (leavesOf shown d) shown
  have hdrove : droveOf ((leavesOf shown d).foldl (fun t L => judgeDelay L t) shown) d = takeAverage mean (droveOf s d) :=
    droveOf_of_droves (by rw [hjudged, hshown])
  refine ⟨_, hexec, by rw [hdrove]; rfl, by rw [hdrove]; rfl, by rw [hdrove]; rfl, ?_⟩
  rw [hjudged, hshown]
  rfl

/-! ### A bridge that reports nothing (R66) -/

theorem bridgeUnavailableTimeout_completes {pair : Nat} {s : State} (hf : alive s .fabric = true) (hp : pairOn s (2 * pair) = true)
    (h0 : bridgeSilent s (2 * pair) = true) (h1 : bridgeSilent s (2 * pair + 1) = true) :
    Completes (.bridgeUnavailableTimeout pair) s fun t => Raised .tailBridgeUnavailable (2 * pair) s t ∧ OnlyLogged [] s t := by
  have hexec : exec (.bridgeUnavailableTimeout pair) s =
      .next (emit .tailBridgeUnavailable (2 * pair) (leBytes 1 (2 * pair)) s) := by
    show execBridgeUnavailableTimeout pair s = _
    unfold execBridgeUnavailableTimeout
    rw [whenAlive_on _ hf, if_pos (by simp [hp, h0, h1])]
  exact ⟨_, hexec, raised_emit _ _ _ _, emit_frame _ _ _ _, fun j hj => rd_emit_other _ _ _ _ (by simpa using hj)⟩

/-- Settles O13: clause by clause, from what each of the commands leaves. -/
theorem laneLockPhaseAndMeasurements : Obligations.LaneLockPhaseAndMeasurements :=
  ⟨⟨fun _ _ hl hd _ => laneLockLoss_completes hl hd,
      fun _ _ hl hd => laneBlockLockGained_completes hl hd,
      fun _ _ _ _ hl hr hn => ⟨lanePhaseCheck_near hl hr hn, lanePhaseCheck_drifted hl hr hn⟩,
      fun _ _ _ _ hl hr hn => lanePhaseCheck_renewed hl hr hn,
      fun _ _ _ hr => lanePhaseCheck_unreferenced hr⟩,
    fun _ _ _ _ hf _ hm => ⟨rtMeasurementEnd_measured hf hm, rtMeasurementEnd_spoilt hf hm⟩,
    fun _ _ _ hf hm => rtMarginSecond_completes hf hm,
    fun _ _ hf hc ht => tLoopAverage_completes hf hc ht,
    fun _ _ hf hp h0 h1 => bridgeUnavailableTimeout_completes hf hp h0 h1⟩

/-! ### Verdicts and their counts (R57, R58) -/

/-- The verdict rests on the objects alone. -/
theorem verdict_of_regs {s t : State} (h : t.regs = s.regs) (d : Nat) (bs : List Byte) : verdict t d bs = verdict s d bs := by
  unfold verdict droveCheck rdBool
  simp only [rd_of_regs h]

theorem droveOn_of_regs {s t : State} (h : t.regs = s.regs) (d : Nat) : droveOn t d = droveOn s d := by
  unfold droveOn droveCount optionCode rdBool
  simp only [rd_of_regs h]

theorem leafOn_of_regs {s t : State} (h : t.regs = s.regs) (L : Nat) : leafOn t L = leafOn s L := by
  unfold leafOn
  rw [droveOn_of_regs h, rd_of_regs h]

/-- The counter of frames of a verdict that is not GOOD. -/
abbrev verdictKey (d v : Nat) : Nat := if v = 1 then Obj.FRAMES_STOMPED d else Obj.FRAMES_BAD d

theorem countVerdict_eq {v : Nat} (hv : v ≠ 0) (d : Nat) (s : State) :
    countVerdict d v s = pmcEvent 0x0D d 1 (countFault 0 srcLaneCheck d 1 (count s (verdictKey d v))) := if_neg hv

theorem countVerdict_changes {v : Nat} (hv : v ≠ 0) (d : Nat) (s : State) :
    ∃ a b c, countVerdict d v s = { s with regs := a, pmc := b, faultEvents := c } := by
  rw [countVerdict_eq hv, pmcEvent_frame, countFault_frame]
  exact ⟨_, _, _, rfl⟩

theorem counted_countVerdict {v d : Nat} (hv : v ≠ 0) (hd : d < 128) (s : State) :
    Counted 32 (verdictKey d v) s (countVerdict d v s) := by
  have hkey : verdictKey d v ∉ pmcKeys :=
    not_mem_pmcKeys (by unfold verdictKey; split <;> simp only [Obj.FRAMES_STOMPED, Obj.FRAMES_BAD] <;> omega)
  unfold Counted
  rw [countVerdict_eq hv, rd_pmcEvent _ _ _ _ hkey, rd_countFault, rd_count_same]

/-! ### Tide frames back (R58, R65, R264) -/

/-- Of the droves, only margins and counts of invalid blocks differ. -/
def OnlyMargins (s t : State) : Prop :=
  ∀ d, droveOf t d = { droveOf s d with margin := (droveOf t d).margin, invalid := (droveOf t d).invalid }

theorem OnlyMargins.trans {s t u : State} (h : OnlyMargins s t) (g : OnlyMargins t u) : OnlyMargins s u := fun d => by
  rw [g d, h d]

/-- A change of one drove's margin or count of invalid blocks. -/
theorem onlyMargins_setDrove {d : Nat} {f : Drove → Drove}
    (hf : ∀ x, f x = { x with margin := (f x).margin, invalid := (f x).invalid }) (s : State) : OnlyMargins s (setDrove d f s) := by
  intro e
  by_cases he : e = d
  · rw [he, droveOf_setDrove_same]; exact hf _
  · rw [droveOf_setDrove_other _ _ he]

theorem noteInvalid_changes (d n : Nat) (s : State) :
    (∃ a, noteInvalid d n s = { s with droves := a }) ∧ OnlyMargins s (noteInvalid d n s) := by
  unfold noteInvalid
  split
  · exact ⟨⟨_, rfl⟩, fun _ => rfl⟩
  · exact ⟨⟨_, rfl⟩, onlyMargins_setDrove (fun _ => rfl) s⟩

theorem noteInvalid_regs (d n : Nat) (s : State) : (noteInvalid d n s).regs = s.regs := by
  obtain ⟨⟨_, h⟩, -⟩ := noteInvalid_changes d n s
  rw [h]

theorem noteArrival_changes (d arrive : Nat) (s : State) :
    (∃ a b, noteArrival d arrive s = { s with droves := a, hists := b }) ∧ OnlyMargins s (noteArrival d arrive s) := by
  unfold noteArrival
  rw [observe_frame]
  exact ⟨⟨_, _, rfl⟩, OnlyMargins.trans (t := { s with hists := (observe 0 d (arrive / 10) s).hists }) (fun _ => rfl)
    (onlyMargins_setDrove (fun _ => rfl) _)⟩

/-- The drove at which invalid blocks of a return count: the one on whose lane it came. -/
def returnLane (ret : TideReturn) : Nat := if ret.bridged then partner ret.d else ret.d

/-- The state once a return has been heard: its invalid blocks and its arrival are noted. -/
def heard (ret : TideReturn) (s : State) : State := noteArrival ret.d ret.arrive (noteInvalid (returnLane ret) ret.invalid s)

theorem heard_changes (ret : TideReturn) (s : State) :
    (∃ a b, heard ret s = { s with droves := a, hists := b }) ∧ OnlyMargins s (heard ret s) := by
  obtain ⟨⟨_, hinvalid⟩, hm⟩ := noteInvalid_changes (returnLane ret) ret.invalid s
  obtain ⟨⟨a, b, harrival⟩, hm'⟩ := noteArrival_changes ret.d ret.arrive (noteInvalid (returnLane ret) ret.invalid s)
  exact ⟨⟨a, b, by rw [heard, harrival, hinvalid]⟩, hm.trans hm'⟩

theorem heard_regs (ret : TideReturn) (s : State) : (heard ret s).regs = s.regs := by
  obtain ⟨⟨_, _, h⟩, -⟩ := heard_changes ret s
  rw [h]

/-- A frame of the kind returned was launched on the drove in this tide. -/
def launchedFor (ret : TideReturn) (s : State) : Bool :=
  if ret.bridged then (droveOf s ret.d).launchedBr else (droveOf s ret.d).launched

/-- A drove that holds a return of the own or of the bridged frame. -/
def holdReturn (bridged : Bool) (r : Return) (x : Drove) : Drove := if bridged then { x with bridged := r } else { x with own := r }

theorem held_holdReturn (bridged : Bool) (r : Return) (x : Drove) :
    (if bridged then (holdReturn bridged r x).bridged else (holdReturn bridged r x).own) = r := by
  cases bridged <;> rfl

theorem setDrove_holdReturn (d : Nat) (bridged : Bool) (r : Return) (s : State) :
    (if bridged then setDrove d (fun x => { x with bridged := r }) s else setDrove d (fun x => { x with own := r }) s)
      = setDrove d (holdReturn bridged r) s := by
  cases bridged <;> rfl

/-- What a frame heard in time does (R58). -/
def judgeReturn (ret : TideReturn) (s : State) : State :=
  let v := verdict s ret.d ret.bytes
  if v = 0 then goodFrame (tideNow s) ret s else setDrove ret.d (holdReturn ret.bridged .bad) (countVerdict ret.d v s)

/-- What the fabric does with a return (R58, R264): only a frame launched on a drove in service is heard, and it is judged unless late. -/
def takeReturn (ret : TideReturn) (s : State) : State :=
  let noted := noteInvalid (returnLane ret) ret.invalid s
  if droveOn noted ret.d = false ∨ launchedFor ret s = false then noted
  else if rd noted Obj.RETURN_DEADLINE * 10 < ret.arrive then heard ret s
  else judgeReturn ret (heard ret s)

theorem exec_tideFrameReturn (ret : TideReturn) (s : State) :
    exec (.tideFrameReturn ret) s = .next (whenAlive .fabric (takeReturn ret) s) := by
  show execTideFrameReturn ret s = _
  unfold execTideFrameReturn
  congr 2
  funext x
  refine if_congr Iff.rfl rfl (if_congr decide_eq_true_iff rfl ?_)
  show _ = judgeReturn ret (heard ret x)
  unfold judgeReturn
  by_cases hv : verdict (heard ret x) ret.d ret.bytes = 0
  · have hcount : countVerdict ret.d (verdict (heard ret x) ret.d ret.bytes) (heard ret x) = heard ret x := if_pos hv
    exact ((if_pos hv).trans (congrArg (fun y => goodFrame (tideNow y) ret y) hcount)).trans (if_pos hv).symm
  · exact ((if_neg hv).trans (setDrove_holdReturn _ _ _ _)).trans (if_neg hv).symm

/-- A frame in time is judged by the verdict it has on arrival. -/
theorem exec_tideFrameReturn_inTime {ret : TideReturn} {s : State} (hf : alive s .fabric = true) (hon : droveOn s ret.d = true)
    (hdue : launchedFor ret s = true) (hin : ret.arrive ≤ rd s Obj.RETURN_DEADLINE * 10) :
    exec (.tideFrameReturn ret) s = .next (judgeReturn ret (heard ret s)) := by
  have hregs := noteInvalid_regs (returnLane ret) ret.invalid s
  rw [exec_tideFrameReturn, whenAlive_on _ hf]
  unfold takeReturn
  rw [if_neg (by simp [droveOn_of_regs hregs, hon, hdue]), rd_of_regs hregs, if_neg (not_lt.mpr hin)]

theorem exec_tideFrameReturn_late {ret : TideReturn} {s : State} (hlate : rd s Obj.RETURN_DEADLINE * 10 < ret.arrive) :
    ∃ t, exec (.tideFrameReturn ret) s = .next t ∧ (t = s ∨ t = noteInvalid (returnLane ret) ret.invalid s ∨ t = heard ret s) := by
  have hregs := noteInvalid_regs (returnLane ret) ret.invalid s
  refine ⟨_, exec_tideFrameReturn ret s, ?_⟩
  have htake : takeReturn ret s = noteInvalid (returnLane ret) ret.invalid s ∨ takeReturn ret s = heard ret s := by
    unfold takeReturn
    dsimp only
    rw [rd_of_regs hregs, if_pos hlate]
    exact ite_eq_or_eq _ _ _
  unfold whenAlive
  split
  · exact .inr htake
  · exact .inl rfl

theorem tideFrameReturn_late {ret : TideReturn} {s : State} (hlate : rd s Obj.RETURN_DEADLINE * 10 < ret.arrive) :
    Completes (.tideFrameReturn ret) s fun t => OnlyMargins s t ∧ t = { s with droves := t.droves, hists := t.hists } := by
  obtain ⟨t, hexec, rfl | rfl | rfl⟩ := exec_tideFrameReturn_late hlate
  · exact ⟨_, hexec, fun _ => rfl, rfl⟩
  · obtain ⟨⟨_, h⟩, hm⟩ := noteInvalid_changes (returnLane ret) ret.invalid s
    exact ⟨_, hexec, hm, by rw [h]⟩
  · obtain ⟨⟨_, _, h⟩, hm⟩ := heard_changes ret s
    exact ⟨_, hexec, hm, by rw [h]⟩

/-- A frame in time that is not GOOD counts at its drove, which holds a bad return (R58). -/
theorem tideFrameReturn_bad {ret : TideReturn} {v : Nat} {s : State} (hf : alive s .fabric = true) (hd : ret.d < 128)
    (hon : droveOn s ret.d = true) (hdue : launchedFor ret s = true) (hin : ret.arrive ≤ rd s Obj.RETURN_DEADLINE * 10)
    (hverdict : verdict s ret.d ret.bytes = v) (hv : v ≠ 0) :
    Completes (.tideFrameReturn ret) s fun t =>
      Counted 32 (verdictKey ret.d v) s t
        ∧ (if ret.bridged then (droveOf t ret.d).bridged else (droveOf t ret.d).own) = .bad ∧ t.mem = s.mem := by
  have hregs := heard_regs ret s
  obtain ⟨⟨_, _, hheard⟩, -⟩ := heard_changes ret s
  have hcounted := counted_countVerdict hv hd (heard ret s)
  obtain ⟨_, _, _, hcount⟩ := countVerdict_changes hv ret.d (heard ret s)
  refine ⟨_, exec_tideFrameReturn_inTime hf hon hdue hin, ?_⟩
  unfold judgeReturn
  dsimp only
  rw [verdict_of_regs hregs, hverdict, if_neg hv]
  refine ⟨?_, ?_, ?_⟩
  · unfold Counted at hcounted ⊢
    rw [rd_setDrove, hcounted, rd_of_regs hregs]
  · rw [droveOf_setDrove_same]; exact held_holdReturn _ _ _
  · rw [setDrove_mem, hcount, hheard]

/-! ### A GOOD tide frame (R58, R268) -/

theorem droveOf_setPlan (e lo w v : Nat) (s : State) (d : Nat) : droveOf (setPlan e lo w v s) d = droveOf s d := rfl

/-- A drove whose rejoin is confirmed. -/
def confirmDrove (x : Drove) : Drove := { x with rejoinTides := 0, trial := 0 }

theorem confirmRejoin_eq (d turn : Nat) (s : State) :
    confirmRejoin d turn s = s ∨ confirmRejoin d turn s = emit .laneRejoined d (leBytes 1 d)
      (count (setDrove d confirmDrove (setPlan d 24 8 0 (setPlan d 1 1 0 s))) Obj.REJOINS) := by
  unfold confirmRejoin
  split
  · exact .inr rfl
  · exact .inl rfl

/-- The confirmation of a rejoin changes objects, droves and the log. -/
theorem confirmRejoin_changes (d turn : Nat) (s : State) :
    ∃ a b c, confirmRejoin d turn s = { s with regs := a, droves := b, log := c } := by
  rcases confirmRejoin_eq d turn s with h | h
  · exact ⟨_, _, _, h⟩
  · obtain ⟨a, horphans⟩ : ∃ a, setPlan d 1 1 0 s = { s with regs := a } := ⟨_, rfl⟩
    obtain ⟨_, htries⟩ : ∃ b, setPlan d 24 8 0 { s with regs := a } = { s with regs := b } := ⟨_, rfl⟩
    rw [h, emit_frame, horphans, htries]
    exact ⟨_, _, _, rfl⟩

theorem own_confirmRejoin (d turn : Nat) (s : State) : (droveOf (confirmRejoin d turn s) d).own = (droveOf s d).own := by
  rcases confirmRejoin_eq d turn s with h | h
  · rw [h]
  · rw [h, droveOf_emit, droveOf_count, droveOf_setDrove_same, droveOf_setPlan, droveOf_setPlan, confirmDrove]

theorem rd_confirmRejoin (d turn : Nat) (s : State) {j : Nat} (hplan : j ≠ Obj.TURN_PLAN d) (hrejoins : j ≠ Obj.REJOINS)
    (hlog : j ≠ Obj.LOG_DROPPED) : rd (confirmRejoin d turn s) j = rd s j := by
  rcases confirmRejoin_eq d turn s with h | h
  · rw [h]
  · rw [h, rd_emit_other _ _ _ _ hlog, rd_count_other _ hrejoins, rd_setDrove]
    exact (rd_wr_other _ _ hplan).trans (rd_wr_other _ _ hplan)

/-- The state before a GOOD frame's slots are taken: it is counted, and its drove holds its turn. -/
theorem goodFrame_eq (n : Nat) (ret : TideReturn) (s : State) (hd : ret.d < 128) :
    ∃ u, goodFrame n ret s = (if leNat (slice ret.bytes 0 1) = 1 then takeSlots n ret u else u)
      ∧ Counted 64 (Obj.FRAMES_GOOD ret.d) s u
      ∧ (if ret.bridged then (droveOf u ret.d).bridged else (droveOf u ret.d).own) = .good (leNat (slice ret.bytes 18 1))
      ∧ (ret.bridged = false → rd u (Obj.TURN_POSITION ret.d) = leNat (slice ret.bytes 18 1)) ∧ u.mem = s.mem
      ∧ u.leaves = s.leaves := by
  unfold goodFrame
  extract_lets turn full d counted own noted
  refine ⟨noted, if_congr decide_eq_true_iff rfl rfl, ?_⟩
  cases hb : ret.bridged with
  | true =>
    have hnoted : noted = setDrove d (fun x => { x with bridged := .good turn }) counted := if_pos hb
    rw [hnoted]
    refine ⟨rd_countBy_same _ _ _ _, ?_, nofun, rfl, rfl⟩
    rw [if_pos rfl, droveOf_setDrove_same]
  | false =>
    have hnoted : noted = confirmRejoin d turn (wr own (Obj.TURN_POSITION d) turn) := if_neg (by simp [hb])
    obtain ⟨_, _, _, hconfirm⟩ := confirmRejoin_changes d turn (wr own (Obj.TURN_POSITION d) turn)
    have hplan : ∀ j, 0x340000 ≤ j → rd noted j = rd (wr own (Obj.TURN_POSITION d) turn) j := fun j hj => by
      rw [hnoted]
      refine rd_confirmRejoin _ _ _ ?_ ?_ ?_ <;> simp only [Obj.TURN_PLAN, Obj.REJOINS, Obj.LOG_DROPPED] <;> omega
    refine ⟨?_, ?_, fun _ => ?_, by rw [hnoted, hconfirm]; rfl, by rw [hnoted, hconfirm]; rfl⟩
    · unfold Counted
      rw [hplan _ (by simp only [Obj.FRAMES_GOOD]; omega),
        rd_wr_other _ _ (by simp only [Obj.FRAMES_GOOD, Obj.TURN_POSITION]; omega), rd_setDrove, rd_countBy_same]
    · rw [if_neg (by decide), hnoted, own_confirmRejoin, droveOf_wr, droveOf_setDrove_same]
    · rw [hplan _ (by simp only [Obj.TURN_POSITION]; omega), rd_wr_same]

/-- A GOOD frame in time (R58). -/
theorem tideFrameReturn_good {ret : TideReturn} {s : State} (hf : alive s .fabric = true) (hd : ret.d < 128)
    (hon : droveOn s ret.d = true) (hdue : launchedFor ret s = true) (hin : ret.arrive ≤ rd s Obj.RETURN_DEADLINE * 10)
    (hv : verdict s ret.d ret.bytes = 0) :
    Completes (.tideFrameReturn ret) s fun t =>
      ∃ u, t = (if leNat (slice ret.bytes 0 1) = 1 then takeSlots (tideNow s) ret u else u)
        ∧ Counted 64 (Obj.FRAMES_GOOD ret.d) s u
        ∧ (if ret.bridged then (droveOf u ret.d).bridged else (droveOf u ret.d).own) = .good (leNat (slice ret.bytes 18 1))
        ∧ (ret.bridged = false → rd u (Obj.TURN_POSITION ret.d) = leNat (slice ret.bytes 18 1)) ∧ u.mem = s.mem
        ∧ u.leaves = s.leaves := by
  have hregs := heard_regs ret s
  obtain ⟨⟨_, _, hheard⟩, -⟩ := heard_changes ret s
  obtain ⟨u, he, hcounted, hheld, hturn, hmem, hleaves⟩ := goodFrame_eq (tideNow s) ret (heard ret s) hd
  have hjudged : judgeReturn ret (heard ret s) = goodFrame (tideNow s) ret (heard ret s) := by
    unfold judgeReturn tideNow
    dsimp only
    rw [verdict_of_regs hregs, if_pos hv, rd_of_regs hregs]
  refine ⟨_, exec_tideFrameReturn_inTime hf hon hdue hin, u, hjudged.trans he, ?_, hheld, hturn, ?_, ?_⟩
  · unfold Counted at hcounted ⊢
    rw [hcounted, rd_of_regs hregs]
  · rw [hmem, hheard]
  · rw [hleaves, hheard]

/-- Settles O11: a frame is heard, which leaves its verdict as it is, and judged unless late; each verdict has its own rule. -/
theorem tideFrameReturnIsJudged : Obligations.TideFrameReturnIsJudged :=
  ⟨fun _ _ hf hd hon hdue hin =>
      ⟨fun hv => tideFrameReturn_bad hf hd hon hdue hin hv (by decide), fun hv => tideFrameReturn_bad hf hd hon hdue hin hv (by decide),
        fun hv => tideFrameReturn_good hf hd hon hdue hin hv⟩,
    fun _ _ hlate => tideFrameReturn_late hlate⟩

/-! ### Packing a container changes no object of the station or of the tide (R96)

The objects that packing writes, those of the pool, of retransmissions and of the counter block, all have indices from 0x2220 on. -/

theorem not_mem_poolKeys {j : Nat} (h : j < 0x360000) : j ∉ poolKeys := by
  simp only [poolKeys, Obj.POOL_DOWN_FREE, Obj.POOL_UP_FREE, Obj.POOL_DOWN_LOW, List.mem_cons, List.not_mem_nil, or_false]
  omega

theorem rd_packWelcome (room L : Nat) (p : Pack) (j : Nat) : rd (packWelcome room L p).2 j = rd p.2 j := by
  unfold packWelcome
  split <;> rfl

section

variable {j : Nat} (h : j < 0x222000)
include h

theorem rd_placeSegment (id : Nat) (s : State) : rd (placeSegment id s).2 j = rd s j := by
  unfold placeSegment
  extract_lets q L rep resent
  have hresent : rd resent j = rd s j := by
    simp only [resent]
    split
    · rw [rd_pmcEvent _ _ _ _ (not_mem_pmcKeys (by omega)), rd_countFault,
        rd_countBy_other _ _ _ (by simp only [Obj.LEAF_RETRANSMISSIONS]; omega),
        rd_countBy_other _ _ _ (by simp only [Obj.RETRANSMISSIONS]; omega)]
    · rfl
  split
  · rfl
  · exact (rd_setQueue _ _ _ (not_mem_poolKeys (by omega))).trans hresent

theorem rd_packAck (room : Nat) (p : Pack) (id : Nat) : rd (packAck room p id).2 j = rd p.2 j := by
  unfold packAck
  dsimp only
  split
  · exact rd_setQueue _ _ _ (not_mem_poolKeys (by omega))
  · rfl

theorem rd_packAcks (room : Nat) (ids : List Nat) (p : Pack) : rd (ids.foldl (packAck room) p).2 j = rd p.2 j := by
  induction ids generalizing p with
  | nil => rfl
  | cons id ids ih => rw [List.foldl_cons, ih, rd_packAck h]

theorem rd_packRepeats (room L fuel : Nat) (stopped : List Nat) (p : Pack) :
    rd (packRepeats room L fuel stopped p).2.2 j = rd p.2 j := by
  induction fuel generalizing stopped p with
  | zero => rfl
  | succ fuel ih =>
    unfold packRepeats
    split
    · rfl
    · extract_lets len placed
      split
      · exact (ih _ _).trans (rd_placeSegment h _ _)
      · exact ih _ _

theorem rd_packNew (room id fuel : Nat) (p : Pack) : rd (packNew room id fuel p).2 j = rd p.2 j := by
  induction fuel generalizing p with
  | zero => rfl
  | succ fuel ih =>
    unfold packNew
    extract_lets len placed
    split
    · exact (ih _).trans (rd_placeSegment h _ _)
    · rfl

theorem rd_packNews (room : Nat) (skip : Nat → Bool) (ids : List Nat) (p : Pack) :
    rd (ids.foldl (fun p id => if skip id then p else packNew room id 300 p) p).2 j = rd p.2 j := by
  induction ids generalizing p with
  | nil => rfl
  | cons id ids ih =>
    rw [List.foldl_cons, ih]
    split
    · rfl
    · exact rd_packNew h _ _ _ _

theorem rd_packContainer (s : State) (L room : Nat) : rd (packContainer s L room).2 j = rd s j := by
  unfold packContainer
  extract_lets acks welcome repeats
  have hrepeats : rd repeats.2.2 j = rd s j := by
    rw [rd_packRepeats h, rd_packWelcome, rd_packAcks h]
  split
  · exact hrepeats
  · exact (rd_packNews h room (fun id => repeats.1.contains id) _ repeats.2).trans hrepeats

end

/-! ### A slack-water frame goes out (R53, R95) -/

theorem leafOf_pmcEvent (sel inst n : Nat) (s : State) (L : Nat) : leafOf (pmcEvent sel inst n s) L = leafOf s L := by
  unfold leafOf; rw [pmcEvent_frame]

theorem outbox_pmcEvent (sel inst n : Nat) (s : State) : (pmcEvent sel inst n s).outbox = s.outbox := by rw [pmcEvent_frame]

theorem leafOf_countBy (w : Nat) (s : State) (key n L : Nat) : leafOf (countBy w s key n) L = leafOf s L := rfl

theorem sendSlack_sends (d lvl L room gap : Nat) (s : State) :
    ∃ bytes, Out.slackFrame d bytes ∈ (sendSlack d lvl L room gap s).outbox := by
  unfold sendSlack
  dsimp only
  rw [outbox_pmcEvent, outbox_pmcEvent, countBy, wr_outbox, setLeaf_outbox, setDrove_outbox, setDrove_outbox, send_outbox]
  exact ⟨_, List.mem_cons_self⟩

/-- The leaf is marked served in the present tide. -/
theorem leafOf_sendSlack (d lvl L room gap : Nat) (s : State) :
    (leafOf (sendSlack d lvl L room gap s) L).served = true ∧ (leafOf (sendSlack d lvl L room gap s) L).pollDue = false
      ∧ (leafOf (sendSlack d lvl L room gap s) L).lastFrame = tideNow s := by
  unfold sendSlack
  dsimp only
  rw [leafOf_pmcEvent, leafOf_pmcEvent, leafOf_countBy, leafOf_setLeaf_same]
  refine ⟨rfl, rfl, ?_⟩
  show rd (setDrove _ _ (setDrove _ _ (send _ _))) Obj.TIDE_NUMBER = rd s Obj.TIDE_NUMBER
  rw [rd_setDrove, rd_setDrove, rd_send, rd_packContainer (by decide)]

theorem exec_slackWaterFrameSend {d gap lvl L : Nat} {s : State} (hf : alive s .fabric = true) (hopen : slackOpen s d = true)
    (hroom : 64 ≤ slackRoom s d gap) (hchoice : slackChoice s d (slackRoom s d gap) = some (lvl, L)) :
    exec (.slackWaterFrameSend d gap) s =
      .next (sendSlack d lvl L (slackRoom s d gap) gap (runTo (markAt s (slackFrom s d)) s)) := by
  show execSlackWaterFrameSend d gap s = _
  unfold execSlackWaterFrameSend
  rw [whenAlive_on _ hf]
  dsimp only
  rw [if_neg (by simp [hopen, hroom]), hchoice]

theorem slackWaterFrameSend_completes {d gap lvl L : Nat} {s : State} (hf : alive s .fabric = true) (hopen : slackOpen s d = true)
    (hroom : 64 ≤ slackRoom s d gap) (hchoice : slackChoice s d (slackRoom s d gap) = some (lvl, L)) :
    Completes (.slackWaterFrameSend d gap) s fun t =>
      (∃ bytes, Out.slackFrame d bytes ∈ t.outbox) ∧ (leafOf t L).served = true ∧ (leafOf t L).pollDue = false
        ∧ (leafOf t L).lastFrame = tideNow s := by
  obtain ⟨hserved, hpoll, hlast⟩ := leafOf_sendSlack d lvl L (slackRoom s d gap) gap (runTo (markAt s (slackFrom s d)) s)
  exact ⟨_, exec_slackWaterFrameSend hf hopen hroom hchoice, sendSlack_sends _ _ _ _ _ _, hserved, hpoll,
    hlast.trans (rd_runTo _ _ (not_mem_runKeys (by decide)))⟩

/-! ### A slack-water frame comes back (R53, R58, R254) -/

/-- A quantity that no record changes stands after a container (R54). -/
theorem upRecords_keeps {α : Type} (g : State → α) {f : Nat → Nat → Nat → Nat → List Byte → State → State}
    (hf : ∀ kind flags seq epoch body s, g (f kind flags seq epoch body s) = g s) (fuel : Nat) (bs : List Byte) (s : State) :
    g (upRecords f fuel bs s) = g s := by
  induction fuel generalizing bs s with
  | zero => rfl
  | succ fuel ih =>
    unfold upRecords
    dsimp only
    split
    · rfl
    · rw [ih, hf]

theorem mem_badRecord (L kind flags seq epoch : Nat) (body : List Byte) (s : State) :
    (badRecord L kind flags seq epoch body s).mem = s.mem := by
  unfold badRecord
  dsimp only
  split
  · rfl
  · split
    · rfl
    · exact setQueue_mem (count s Obj.CREDIT_INVALID) _ _

theorem mem_dropPart (id : Nat) (s : State) : (dropPart id s).mem = s.mem := by
  unfold dropPart
  extract_lets q n
  split
  · rfl
  · exact setQueue_mem (countBy 32 s Obj.UP_DISCARDED n) _ _

section

variable {j : Nat} (h : 0x340000 ≤ j) (hj : j < 0x360000)
include h hj

theorem rd_badRecord (L kind flags seq epoch : Nat) (body : List Byte) (s : State) :
    rd (badRecord L kind flags seq epoch body s) j = rd s j := by
  have hcount : rd (count s Obj.CREDIT_INVALID) j = rd s j := rd_count_other s (by simp only [Obj.CREDIT_INVALID]; omega)
  unfold badRecord
  dsimp only
  split
  · rfl
  · split
    · exact hcount
    · rw [rd_setQueue _ _ _ (not_mem_poolKeys hj), hcount]

theorem rd_dropPart (id : Nat) (s : State) : rd (dropPart id s) j = rd s j := by
  unfold dropPart
  extract_lets q n
  split
  · rfl
  · rw [rd_setQueue _ _ _ (not_mem_poolKeys hj), rd_countBy_other _ _ _ (by simp only [Obj.UP_DISCARDED]; omega)]

end

/-- What a frame that is not GOOD carried is lost: its records refuse credit at most, and the partial messages of its leaf go
(R92, R254). -/
def loseFrame (L : Nat) (bs : List Byte) (s : State) : State :=
  dropParts L (upRecords (badRecord L) 300 (slice bs 16 (usedBytes bs)) s)

theorem loseFrame_keeps {α : Type} (g : State → α)
    (hrecord : ∀ L kind flags seq epoch body s, g (badRecord L kind flags seq epoch body s) = g s)
    (hpart : ∀ id s, g (dropPart id s) = g s) (L : Nat) (bs : List Byte) (s : State) : g (loseFrame L bs s) = g s :=
  (foldl_keeps g (fun t id => hpart id t) _ _).trans (upRecords_keeps g (hrecord L) _ _ _)

/-- The flights of a drove once a frame is back: the one it ends is gone. -/
def endFlight (ret : SlackReturn) (v : Nat) (x : Drove) : Drove :=
  let ended (f : Flight) : Bool :=
    decide (f.target = ret.target) && (decide (v ≠ 0) || decide (f.seq = leNat (slice ret.bytes 6 2)))
  { x with flying := x.flying.eraseP ended }

/-- The drove at which invalid blocks of a slack-water return count: the one on whose lane it came. -/
def slackLane (ret : SlackReturn) (s : State) : Nat := if slackBridged s (ret.d * 128 + ret.target) then partner ret.d else ret.d

/-- The state once a slack-water frame is back: its invalid blocks are noted and its flight has ended. -/
def landed (ret : SlackReturn) (s : State) : State :=
  setDrove ret.d (endFlight ret (verdict s ret.d ret.bytes)) (noteInvalid (slackLane ret s) ret.invalid s)

theorem landed_changes (ret : SlackReturn) (s : State) : ∃ a, landed ret s = { s with droves := a } := by
  obtain ⟨⟨_, hinvalid⟩, -⟩ := noteInvalid_changes (slackLane ret s) ret.invalid s
  rw [landed, hinvalid]
  exact ⟨_, rfl⟩

/-- The frame of a configured leaf lands; its records, or their loss, follow by the verdict. -/
theorem exec_slackWaterFrameReturn {ret : SlackReturn} {s : State} (hf : alive s .fabric = true)
    (hon : leafOn s (ret.d * 128 + ret.target) = true) :
    exec (.slackWaterFrameReturn ret) s = .next (
      if verdict s ret.d ret.bytes ≠ 0 then
        loseFrame (ret.d * 128 + ret.target) ret.bytes (countVerdict ret.d (verdict s ret.d ret.bytes) (landed ret s))
      else goodSlack ret.d (ret.d * 128 + ret.target) ret.bytes (landed ret s)) := by
  have hregs := noteInvalid_regs (slackLane ret s) ret.invalid s
  show execSlackWaterFrameReturn ret s = _
  unfold execSlackWaterFrameReturn
  rw [whenAlive_on _ hf]
  dsimp only
  rw [← slackLane, if_neg (by simp [leafOn_of_regs hregs, hon]), verdict_of_regs hregs]
  rfl

theorem slackWaterFrameReturn_bad {ret : SlackReturn} {s : State} (hf : alive s .fabric = true) (hd : ret.d < 128)
    (hon : leafOn s (ret.d * 128 + ret.target) = true) (hv : verdict s ret.d ret.bytes ≠ 0) :
    Completes (.slackWaterFrameReturn ret) s fun t =>
      Counted 32 (verdictKey ret.d (verdict s ret.d ret.bytes)) s t ∧ t.mem = s.mem := by
  have hexec := exec_slackWaterFrameReturn hf hon
  obtain ⟨a, hlanded⟩ := landed_changes ret s
  rw [if_pos hv, hlanded] at hexec
  have hcounted := counted_countVerdict hv hd { s with droves := a }
  obtain ⟨_, _, _, hcount⟩ := countVerdict_changes hv ret.d { s with droves := a }
  refine ⟨_, hexec, ?_, ?_⟩
  · have hkey : 0x340000 ≤ verdictKey ret.d (verdict s ret.d ret.bytes) ∧ verdictKey ret.d (verdict s ret.d ret.bytes) < 0x360000 := by
      unfold verdictKey; split <;> simp only [Obj.FRAMES_STOMPED, Obj.FRAMES_BAD] <;> omega
    obtain ⟨hlo, hhi⟩ := hkey
    exact (loseFrame_keeps (fun x => rd x _) (rd_badRecord hlo hhi) (rd_dropPart hlo hhi) _ _ _).trans hcounted
  · rw [loseFrame_keeps State.mem mem_badRecord mem_dropPart, hcount]

theorem slackWaterFrameReturn_good {ret : SlackReturn} {s : State} (hf : alive s .fabric = true)
    (hon : leafOn s (ret.d * 128 + ret.target) = true) (hv : verdict s ret.d ret.bytes = 0) :
    Completes (.slackWaterFrameReturn ret) s fun t =>
      ∃ u, t = upRecords (upRecord (ret.d * 128 + ret.target)) 300 (slice ret.bytes 16 (usedBytes ret.bytes)) u
        ∧ rd u (Obj.SLACK_IN_BYTES ret.d) = satAdd (2 ^ 64 - 1) (rd s (Obj.SLACK_IN_BYTES ret.d)) (usedBytes ret.bytes)
        ∧ OnlyObjects [Obj.SLACK_IN_BYTES ret.d] s u ∧ u.mem = s.mem ∧ u.queues = s.queues := by
  have hexec := exec_slackWaterFrameReturn hf hon
  obtain ⟨a, hlanded⟩ := landed_changes ret s
  rw [if_neg (not_not.mpr hv), hlanded] at hexec
  refine ⟨_, hexec, ?_⟩
  unfold goodSlack
  extract_lets counted arrived
  have harrived : ∃ b, arrived = { counted with leaves := b } := by
    simp only [arrived]
    split <;> exact ⟨_, rfl⟩
  obtain ⟨b, harrived⟩ := harrived
  refine ⟨arrived, rfl, ?_⟩
  rw [harrived]
  exact ⟨rd_countBy_same _ _ _ _, fun j hj => rd_countBy_other _ _ _ (by simpa using hj), rfl, rfl⟩

/-- Settles O12: packing and sending leave the number of the tide, and the loss of a bad frame's records leaves the counter of its
verdict. -/
theorem slackWaterFrames : Obligations.SlackWaterFrames :=
  ⟨fun _ _ _ _ _ hf hopen hroom hchoice => slackWaterFrameSend_completes hf hopen hroom hchoice,
    fun _ _ hf hd hon hv => slackWaterFrameReturn_bad hf hd hon hv,
    fun _ _ hf _ hon hv => slackWaterFrameReturn_good hf hon hv⟩

end Sys2Proof.Proofs

namespace Sys2Proof.Proofs

open Sys2Proof.Machine Sys2Proof.Claims Sys2Proof.Laws

/-! ### The canonical form of the stores and the queue of commands (R5, R6, R72, R73) -/

/-- Every command keeps the stores canonical and the waiting commands as they are, because its meaning does. -/
theorem exec_steady {q : List Instr} {s : State} (h : Steady q s) (c : Instr) : SteadyNext q (exec c s) := by
  cases c with
  | tideStart => exact execTideStart_steady h
  | referenceMark => exact execReferenceMark_steady h
  | returnDeadline => exact execReturnDeadline_steady h
  | gridSetPublish => exact execGridSetPublish_steady h
  | demandMark => exact execDemandMark_steady h
  | commandCutoff => exact execCommandCutoff_steady h
  | tideFrameReturn => exact execTideFrameReturn_steady h
  | slackWaterFrameSend => exact execSlackWaterFrameSend_steady h
  | slackWaterFrameReturn => exact execSlackWaterFrameReturn_steady h
  | blockEchoArrival => exact execBlockEchoArrival_steady h
  | echoLimitExpiry => exact execEchoLimitExpiry_steady h
  | laneLockLoss => exact execLaneLockLoss_steady h
  | rtMeasurementEnd => exact execRtMeasurementEnd_steady h
  | lanePhaseCheck => exact execLanePhaseCheck_steady h
  | rtMarginSecond => exact execRtMarginSecond_steady h
  | tLoopAverage => exact execTLoopAverage_steady h
  | bridgeUnavailableTimeout => exact execBridgeUnavailableTimeout_steady h
  | laneRejoin => exact execLaneRejoin_steady h
  | strayPenTimeExpiry => exact execStrayPenTimeExpiry_steady h
  | retxTimeoutExpiry => exact execRetxTimeoutExpiry_steady h
  | ackDelayExpiry => exact execAckDelayExpiry_steady h
  | pollIntervalExpiry => exact execPollIntervalExpiry_steady h
  | admitTimeoutExpiry => exact execAdmitTimeoutExpiry_steady h
  | readmitTimeoutExpiry => exact execReadmitTimeoutExpiry_steady h
  | leafPenning => exact execLeafPenning_steady h
  | penningComplete => exact execPenningComplete_steady h
  | bypassAckTimeoutExpiry => exact execBypassAckTimeoutExpiry_steady h
  | scClearDelayExpiry => exact execScClearDelayExpiry_steady h
  | uvRecordTimeout => exact execUvRecordTimeout_steady h
  | testTimeoutExpiry => exact execTestTimeoutExpiry_steady h
  | faultWindowBoundary => exact execFaultWindowBoundary_steady h
  | subWindowRecord => exact execSubWindowRecord_steady h
  | scrubLine => exact execScrubLine_steady h
  | scrubPeriodEnd => exact execScrubPeriodEnd_steady h
  | eccCorrectedError region addr => exact execEccCorrectedError_steady (a1 := addr) h
  | uncorrectableError => exact execUncorrectableError_steady h
  | arbPromotion => exact execArbPromotion_steady h
  | lockstepMismatch => exact execLockstepMismatch_steady h
  | pairSelfTestEnd => exact execPairSelfTestEnd_steady h
  | loopEngineFault => exact execLoopEngineFault_steady h
  | controlCapacityLost => exact execControlCapacityLost_steady h
  | traceTrigger => exact execTraceTrigger_steady h
  | traceArmed => exact execTraceArmed_steady h
  | voltageSample => exact execVoltageSample_steady h
  | sourceLossTimeout => exact execSourceLossTimeout_steady h
  | scrEstimate => exact execScrEstimate_steady h
  | rtConfirmExpiry => exact execRtConfirmExpiry_steady h
  | rtCurveCrossed => exact execRtCurveCrossed_steady h
  | rtExitHoldExpiry => exact execRtExitHoldExpiry_steady h
  | dpcEntry => exact execDpcEntry_steady h
  | dpcExitHoldExpiry => exact execDpcExitHoldExpiry_steady h
  | islandingDetected => exact execIslandingDetected_steady h
  | probePeriodStart => exact execProbePeriodStart_steady h
  | gridStall => exact execGridStall_steady h
  | reversalDwellEnd => exact execReversalDwellEnd_steady h
  | coastEnd => exact execCoastEnd_steady h
  | coastLimitExpiry => exact execCoastLimitExpiry_steady h
  | rampDownComplete => exact execRampDownComplete_steady h
  | rampDownGraceExpiry => exact execRampDownGraceExpiry_steady h
  | vocMeasurementEnd => exact execVocMeasurementEnd_steady h
  | scanDue => exact execScanDue_steady h
  | scanPointEnd => exact execScanPointEnd_steady h
  | scanAbandon => exact execScanAbandon_steady h
  | curtailStep => exact execCurtailStep_steady h
  | sentinelRotateExpiry => exact execSentinelRotateExpiry_steady h
  | chargeTimeoutExpiry => exact execChargeTimeoutExpiry_steady h
  | retideRestart => exact execRetideRestart_steady h
  | retideReady => exact execRetideReady_steady h
  | bootRestore => exact execBootRestore_steady h
  | validationComplete => exact execValidationComplete_steady h
  | commitSlotWritten => exact execCommitSlotWritten_steady h
  | commitVerified => exact execCommitVerified_steady h
  | sessionOpen => exact execSessionOpen_steady h
  | sessionAuth => exact execSessionAuth_steady h
  | sessionClose => exact execSessionClose_steady h
  | keepalive => exact execKeepalive_steady h
  | read => exact execRead_steady h
  | write => exact execWrite_steady h
  | blockReadStart => exact execBlockReadStart_steady h
  | blockReadSegment => exact execBlockReadSegment_steady h
  | blockWriteStart => exact execBlockWriteStart_steady h
  | blockWriteSegment => exact execBlockWriteSegment_steady h
  | blockWriteEnd => exact execBlockWriteEnd_steady h
  | transferTimeoutExpiry => exact execTransferTimeoutExpiry_steady h
  | heldRequestExpiry => exact execHeldRequestExpiry_steady h
  | halfOpenTimeout => exact execHalfOpenTimeout_steady h
  | sessionTimeoutExpiry => exact execSessionTimeoutExpiry_steady h
  | notifyAck => exact execNotifyAck_steady h
  | notifyRetryExpiry => exact execNotifyRetryExpiry_steady h
  | notify => exact execNotify_steady h
  | imageOut => exact execImageOut_steady h
  | imageCycleStart => exact execImageCycleStart_steady h
  | tokenRequest => exact execTokenRequest_steady h
  | tokenForced => exact execTokenForced_steady h
  | tokenRelease => exact execTokenRelease_steady h
  | tokenTimeoutExpiry => exact execTokenTimeoutExpiry_steady h
  | sessionEvict => exact execSessionEvict_steady h
  | roleKeyWrite => exact execRoleKeyWrite_steady h
  | svFrame => exact execSvFrame_steady h
  | frameDropped => exact execFrameDropped_steady h
  | arpIcmpRequest => exact execArpIcmpRequest_steady h
  | queuePost => exact execQueuePost_steady h
  | queueSelect => exact execQueueSelect_steady h
  | queueRelease => exact execQueueRelease_steady h
  | queueClearReturned => exact execQueueClearReturned_steady h
  | subEnable => exact execSubEnable_steady h
  | subRelease => exact execSubRelease_steady h
  | missCounterClear => exact execMissCounterClear_steady h
  | rtMeasure => exact execRtMeasure_steady h
  | rebalance => exact execRebalance_steady h
  | plausClear => exact execPlausClear_steady h
  | traceArm => exact execTraceArm_steady h
  | traceManualTrigger => exact execTraceManualTrigger_steady h
  | traceStop => exact execTraceStop_steady h
  | coreRestart => exact execCoreRestart_steady h
  | rampDownRequest => exact execRampDownRequest_steady h
  | islandClear => exact execIslandClear_steady h
  | gridModeWrite => exact execGridModeWrite_steady h
  | scanAbort => exact execScanAbort_steady h
  | selfTestCommand => exact execSelfTestCommand_steady h
  | scClearCommand => exact execScClearCommand_steady h
  | permanentBypassCommand => exact execPermanentBypassCommand_steady h
  | releaseBypassCommand => exact execReleaseBypassCommand_steady h
  | penWithoutBypassCommand => exact execPenWithoutBypassCommand_steady h
  | clearRetirementCommand => exact execClearRetirementCommand_steady h
  | leafReadmit => exact execLeafReadmit_steady h
  | readmitStep => exact execReadmitStep_steady h
  | rejoinRequest => exact execRejoinRequest_steady h
  | validate => exact execValidate_steady h
  | configCommit => exact execConfigCommit_steady h
  | draftFromCommitted => exact execDraftFromCommitted_steady h
  | draftFromFactory => exact execDraftFromFactory_steady h
  | hold => exact execHold_steady h
  | charge => exact execCharge_steady h
  | run => exact execRun_steady h
  | stop => exact execStop_steady h
  | block => exact execBlock_steady h
  | discharge => exact execDischarge_steady h
  | safeReset => exact execSafeReset_steady h
  | ptpSync => exact execPtpSync_steady h
  | ptpAnnounce => exact execPtpAnnounce_steady h
  | announceReceiptTimeout => exact execAnnounceReceiptTimeout_steady h
  | ptpDelayReqSend => exact execPtpDelayReqSend_steady h
  | ptpDelayResponse => exact execPtpDelayResponse_steady h
  | pdelayReqReceived => exact execPdelayReqReceived_steady h
  | tsEntryStale => exact execTsEntryStale_steady h
  | timeStep => exact execTimeStep_steady h
  | timeStepPermit => exact execTimeStepPermit_steady h
  | timeSet => exact execTimeSet_steady h
  | timeIncrementWrite => exact execTimeIncrementWrite_steady h
  | rateAdjustWrite => exact execRateAdjustWrite_steady h
  | ppsSecond => exact execPpsSecond_steady h
  | timeToleranceChange => exact execTimeToleranceChange_steady h
  | refLost => exact execRefLost_steady h
  | refRestored => exact execRefRestored_steady h
  | pllLock => exact execPllLock_steady h
  | gridSample => exact execGridSample_steady h
  | meterWindowBoundary => exact execMeterWindowBoundary_steady h
  | channelClockCheck => exact execChannelClockCheck_steady h
  | channelClockMissing => exact execChannelClockMissing_steady h
  | channelDataStuck => exact execChannelDataStuck_steady h
  | snapshotTrigger => exact execSnapshotTrigger_steady h
  | energyPreset => exact execEnergyPreset_steady h
  | meterFlagsClear => exact execMeterFlagsClear_steady h
  | pulseEmit => exact execPulseEmit_steady h
  | calChannels => exact execCalChannels_steady h
  | calHalfEnd => exact execCalHalfEnd_steady h
  | sarBackgroundConversion => exact execSarBackgroundConversion_steady h
  | sarDataRead => exact execSarDataRead_steady h
  | sarCal => exact execSarCal_steady h
  | sarCalEnd => exact execSarCalEnd_steady h
  | sarSelfCalEnd => exact execSarSelfCalEnd_steady h
  | sensorDecimatorOutput => exact execSensorDecimatorOutput_steady h
  | comparatorChange => exact execComparatorChange_steady h
  | blankingStart => exact execBlankingStart_steady h
  | blankingEnd => exact execBlankingEnd_steady h
  | cmpClear => exact execCmpClear_steady h
  | pwmValley => exact execPwmValley_steady h
  | pwmDutyWrite => exact execPwmDutyWrite_steady h
  | delayLineCalibration => exact execDelayLineCalibration_steady h
  | gpioOutWrite => exact execGpioOutWrite_steady h
  | gpioEdge => exact execGpioEdge_steady h
  | xcvrPoll => exact execXcvrPoll_steady h
  | pmbusPoll => exact execPmbusPoll_steady h
  | mbusRequest => exact execMbusRequest_steady h
  | mbusTransactionEnd => exact execMbusTransactionEnd_steady h
  | mbusRecovery => exact execMbusRecovery_steady h
  | safetyInputChange => exact execSafetyInputChange_steady h
  | sinDiscrepancyExpiry => exact execSinDiscrepancyExpiry_steady h
  | resetPress => exact execResetPress_steady h
  | breakwaterDemand => exact execBreakwaterDemand_steady h
  | blockSetRepeat => exact execBlockSetRepeat_steady h
  | blockRelease => exact execBlockRelease_steady h
  | periodicRelease => exact execPeriodicRelease_steady h
  | heartbeatWindowClose => exact execHeartbeatWindowClose_steady h
  | testPulse => exact execTestPulse_steady h
  | fastPathTest => exact execFastPathTest_steady h
  | channelDiagnosticCheck => exact execChannelDiagnosticCheck_steady h
  | channelFault => exact execChannelFault_steady h
  | aliveMonitorExpiry => exact execAliveMonitorExpiry_steady h
  | degradedTimeExpiry => exact execDegradedTimeExpiry_steady h
  | safetyReset => exact execSafetyReset_steady h
  | safetySessionReset => exact execSafetySessionReset_steady h
  | tripRelease => exact execTripRelease_steady h
  | safetyDemand => exact execSafetyDemand_steady h
  | safetySelftest => exact execSafetySelftest_steady h
  | breakwaterSelftestEnd => exact execBreakwaterSelftestEnd_steady h
  | safetyConfirm => exact execSafetyConfirm_steady h
  | pornLow => exact execPornLow_steady h
  | srstnLow => exact execSrstnLow_steady h
  | supplyMonitorTrip => exact execSupplyMonitorTrip_steady h
  | criticalStateParity => exact execCriticalStateParity_steady h
  | lookoutWatchdogExpiry => exact execLookoutWatchdogExpiry_steady h
  | coreReset => exact execCoreReset_steady h
  | systemReset => exact execSystemReset_steady h
  | fullReset => exact execFullReset_steady h
  | resetSourceReleased => exact execResetSourceReleased_steady h
  | domainRelease => exact execDomainRelease_steady h
  | optionLoadDone => exact execOptionLoadDone_steady h
  | storeInitDone => exact execStoreInitDone_steady h
  | bootComplete => exact execBootComplete_steady h
  | unitDoze => exact execUnitDoze_steady h
  | scheduledWake => exact execScheduledWake_steady h
  | wakeEvent => exact execWakeEvent_steady h
  | wakeAttemptTimeout => exact execWakeAttemptTimeout_steady h
  | powerRetry => exact execPowerRetry_steady h
  | powerMaxStateWrite => exact execPowerMaxStateWrite_steady h
  | nextDispatchWrite => exact execNextDispatchWrite_steady h
  | auxPowerWarning => exact execAuxPowerWarning_steady h
  | coveStoresExhausted => exact execCoveStoresExhausted_steady h
  | coveColdStart => exact execCoveColdStart_steady h
  | coveSecondResync => exact execCoveSecondResync_steady h
  | junctionTemperatureChange => exact execJunctionTemperatureChange_steady h
  | eventEmit => exact execEventEmit_steady h
  | eventCommit => exact execEventCommit_steady h
  | logCursorWrite => exact execLogCursorWrite_steady h
  | alarmAck => exact execAlarmAck_steady h
  | pmcOverflow => exact execPmcOverflow_steady h
  | pmcSampleCapture => exact execPmcSampleCapture_steady h
  | pmcSettingsWrite => exact execPmcSettingsWrite_steady h
  | pmcValueWrite => exact execPmcValueWrite_steady h
  | pmcStatusClear => exact execPmcStatusClear_steady h
  | pmcFreeze => exact execPmcFreeze_steady h
  | pmcSampleRelease => exact execPmcSampleRelease_steady h
  | histogramObservation => exact execHistogramObservation_steady h
  | histClear => exact execHistClear_steady h
  | debugChallenge => exact execDebugChallenge_steady h
  | debugUnlock => exact execDebugUnlock_steady h
  | debugLock => exact execDebugLock_steady h
  | laneBlockLockGained => exact execLaneBlockLockGained_steady h
  | hostPortLinkChange => exact execHostPortLinkChange_steady h
  | pllLockLoss => exact execPllLockLoss_steady h
  | syncReceiptTimeout => exact execSyncReceiptTimeout_steady h
  | delayExchangeTimeout => exact execDelayExchangeTimeout_steady h
  | pgCoreReport => exact execPgCoreReport_steady h
  | svStreamLossTimeout => exact execSvStreamLossTimeout_steady h
  | jtagAccess => exact execJtagAccess_steady h
  | clkoutAlignmentStep => exact execClkoutAlignmentStep_steady h
  | tripReadbackChange => exact execTripReadbackChange_steady h

/-- Taking the front command off the queue leaves the stores alone. -/
theorem steady_withPending {s : State} (h : s.Canonical) (rest : List Instr) : Steady rest { s with pending := rest } :=
  ⟨{ h with }, rfl⟩

theorem step_steady {s : State} (h : s.Canonical) : SteadyNext s.pending.tail (step s) := by
  unfold step
  split
  case h_1 hnone => rw [hnone]; exact steady_next (idle_steady ⟨h, hnone⟩)
  case h_2 c rest hfront => rw [hfront]; exact exec_steady (steady_withPending h rest) c

/-- Settles O3: the step runs the front command on the queue's rest, or lets an edge pass, and neither breaks a store or touches the
queue. -/
theorem stepKeepsCanonicalState : Obligations.StepKeepsCanonicalState := by
  intro s t hs hstep
  have ht : Steady s.pending.tail t := step_steady hs t hstep
  exact ⟨ht.canonical, ht.pending⟩

/-! ### RETX_TIMEOUT_EXPIRY (R252) -/

theorem queueOf_setQueue (id : Nat) (f : Queue → Queue) (s : State) (j : Nat) :
    queueOf (setQueue id f s) j = if j = id then f (queueOf s id) else queueOf s j :=
  queueOf_of_queues (by rw [setQueue_frame]) j

/-- Sending starts again after the message last acknowledged. -/
def resend (q : Queue) : Queue := { q with sentSeq := (q.ackedSeq + 1) % 65536, seg := 0, retx := true }

theorem exec_retxTimeoutExpiry {id : Nat} {s : State} (hf : alive s .fabric = true) (hbound : leafBound (queueClass id) = true)
    (hunacked : (queueOf s id).unacked = true) : exec (.retxTimeoutExpiry id) s = .next (setQueue id resend s) := by
  show execRetxTimeoutExpiry id s = _
  unfold execRetxTimeoutExpiry
  rw [whenAlive_on _ hf, if_pos hbound]
  unfold retransmit
  rw [if_pos hunacked]
  rfl

theorem retxTimeoutExpiry_completes {id : Nat} {s : State} (hf : alive s .fabric = true) (hbound : leafBound (queueClass id) = true)
    (hunacked : (queueOf s id).unacked = true) :
    Completes (.retxTimeoutExpiry id) s fun t =>
      queueOf t id = resend (queueOf s id) ∧ (∀ j, j ≠ id → queueOf t j = queueOf s j) ∧ OnlyObjects poolKeys s t
        ∧ t = { s with regs := t.regs, queues := t.queues } := by
  refine ⟨_, exec_retxTimeoutExpiry hf hbound hunacked, ?_, fun j hj => ?_, fun j hj => rd_setQueue _ _ _ hj, ?_⟩
  · rw [queueOf_setQueue, if_pos rfl]
  · rw [queueOf_setQueue, if_neg hj]
  · rw [setQueue_frame]

/-! ### ACK_DELAY_EXPIRY (R95) -/

/-- The acknowledgement that a queue owes is late. -/
def lateAck (q : Queue) : Queue := if q.ackOwed then { q with ackLate := true } else q

/-- The acknowledgement that queue `id` owes is late. -/
def lateAckOf (s : State) (id : Nat) : State :=
  if (queueOf s id).ackOwed then setQueue id (fun q => { q with ackLate := true }) s else s

theorem lateAck_lateAck (q : Queue) : lateAck (lateAck q) = lateAck q := by
  unfold lateAck
  by_cases h : q.ackOwed = true <;> simp [h]

theorem ackLate_lateAck {q : Queue} (h : q.ackOwed = true) : (lateAck q).ackLate = true := by unfold lateAck; rw [if_pos h]

theorem queueOf_lateAckOf (s : State) (id j : Nat) :
    queueOf (lateAckOf s id) j = if j = id then lateAck (queueOf s id) else queueOf s j := by
  unfold lateAckOf lateAck
  split
  · rw [queueOf_setQueue]
  · split
    · next hj => rw [hj]
    · rfl

/-- Of several queues each is marked once, and a queue marked twice is as one marked once. -/
theorem queueOf_lateAcks (ids : List Nat) (s : State) (j : Nat) :
    queueOf (ids.foldl lateAckOf s) j = if j ∈ ids then lateAck (queueOf s j) else queueOf s j := by
  induction ids generalizing s with
  | nil => rfl
  | cons id ids ih =>
    rw [List.foldl_cons, ih, queueOf_lateAckOf]
    by_cases hj : j = id
    · subst hj
      simp [lateAck_lateAck]
    · simp [hj]

theorem lateAcks_changes (ids : List Nat) (s : State) : ∃ a b, ids.foldl lateAckOf s = { s with regs := a, queues := b } := by
  induction ids generalizing s with
  | nil => exact ⟨_, _, rfl⟩
  | cons id ids ih =>
    obtain ⟨a, b, hrest⟩ := ih (lateAckOf s id)
    rw [List.foldl_cons, hrest]
    unfold lateAckOf
    split
    · exact ⟨a, b, by rw [setQueue_frame]⟩
    · exact ⟨a, b, rfl⟩

theorem exec_ackDelayExpiry {L : Nat} {s : State} (hf : alive s .fabric = true) :
    exec (.ackDelayExpiry L) s = .next ((upQueues L).foldl lateAckOf s) := by
  show execAckDelayExpiry L s = _
  unfold execAckDelayExpiry
  rw [whenAlive_on _ hf]
  rfl

theorem ackDelayExpiry_completes {L : Nat} {s : State} (hf : alive s .fabric = true) :
    Completes (.ackDelayExpiry L) s fun t =>
      (∀ id, id ∈ upQueues L → (queueOf s id).ackOwed = true → (queueOf t id).ackLate = true)
        ∧ (∀ id, id ∉ upQueues L → queueOf t id = queueOf s id) ∧ t = { s with regs := t.regs, queues := t.queues } := by
  refine ⟨_, exec_ackDelayExpiry hf, fun id hid howed => ?_, fun id hid => ?_, ?_⟩
  · rw [queueOf_lateAcks, if_pos hid]; exact ackLate_lateAck howed
  · rw [queueOf_lateAcks, if_neg hid]
  · obtain ⟨a, b, h⟩ := lateAcks_changes (upQueues L) s
    rw [h]

/-! ### POLL_INTERVAL_EXPIRY (R95, R269) and LANE_REJOIN (R267) -/

theorem exec_pollIntervalExpiry {leaf : Nat} {s : State} (hf : alive s .fabric = true) (hon : leafOn s leaf = true)
    (hstray : (leafOf s leaf).stray = true) :
    exec (.pollIntervalExpiry leaf) s = .next (setLeaf leaf (fun x => { x with pollDue := true }) s) := by
  show execPollIntervalExpiry leaf s = _
  unfold execPollIntervalExpiry
  rw [whenAlive_on _ hf]
  dsimp only
  rw [if_pos (by simp [hon, hstray])]

theorem pollIntervalExpiry_completes {leaf : Nat} {s : State} (hf : alive s .fabric = true) (hon : leafOn s leaf = true)
    (hstray : (leafOf s leaf).stray = true) :
    Completes (.pollIntervalExpiry leaf) s fun t =>
      leafOf t leaf = { leafOf s leaf with pollDue := true } ∧ t = { s with leaves := t.leaves }
        ∧ ∀ L, L ≠ leaf → leafOf t L = leafOf s L :=
  ⟨_, exec_pollIntervalExpiry hf hon hstray, leafOf_setLeaf_same _ _ _, rfl, fun _ hL => leafOf_setLeaf_other _ _ hL⟩

theorem exec_laneRejoin {d : Nat} {s : State} (hf : alive s .fabric = true) (hon : droveOn s d = true)
    (hready : rejoinReady s d = true) :
    exec (.laneRejoin d) s = .next (setDrove d (fun x => { x with rejoinDue := true, faulted := false }) s) := by
  show execLaneRejoin d s = _
  unfold execLaneRejoin
  rw [whenAlive_on _ hf, if_pos (by simp [hon, hready])]

theorem laneRejoin_completes {d : Nat} {s : State} (hf : alive s .fabric = true) (hon : droveOn s d = true)
    (hready : rejoinReady s d = true) :
    Completes (.laneRejoin d) s fun t =>
      droveOf t d = { droveOf s d with rejoinDue := true, faulted := false } ∧ t = { s with droves := t.droves }
        ∧ ∀ e, e ≠ d → droveOf t e = droveOf s e :=
  ⟨_, exec_laneRejoin hf hon hready, droveOf_setDrove_same _ _ _, rfl, fun _ he => droveOf_setDrove_other _ _ he⟩

/-- Settles O14: each timer changes the one record it is kept for, and a queue changed shows in the pool's objects at most. -/
theorem queueTimers : Obligations.QueueTimers :=
  ⟨fun _ _ hf hbound hunacked => retxTimeoutExpiry_completes hf hbound hunacked,
    fun _ _ hf => ackDelayExpiry_completes hf,
    fun _ _ hf hon hstray => pollIntervalExpiry_completes hf hon hstray,
    fun _ _ hf hon hready => laneRejoin_completes hf hon hready⟩

/-! ### Scrubbing, corrected errors and promotions (R78, R82) -/

theorem counted_count (key : Nat) (s : State) : Counted 32 key s (count s key) := rd_count_same _ _

theorem onlyRegs_count (key : Nat) (s : State) : OnlyRegs [key] s (count s key) :=
  ⟨rfl, fun _ hj => rd_count_other _ (by simpa using hj)⟩

/-- A counter of 64 bits counts, and so do the performance counters that select its event. -/
def tally (key sel inst : Nat) (s : State) : State := pmcEvent sel inst 1 (countBy 64 s key 1)

theorem counted_tally {key : Nat} (hkey : key ∉ pmcKeys) (sel inst : Nat) (s : State) : Counted 64 key s (tally key sel inst s) :=
  (rd_pmcEvent _ _ _ _ hkey).trans (rd_countBy_same _ _ _ _)

theorem tally_frame (key sel inst : Nat) (s : State) :
    tally key sel inst s = { s with regs := (tally key sel inst s).regs, pmc := (tally key sel inst s).pmc } := pmcEvent_frame _ _ _ _

theorem correctedError_eq (s : State) : correctedError s = tally Obj.ECC_CORRECTED 0x12 0xFFFF s := rfl

theorem exec_scrubLine {region addr found : Nat} {spot : MemError} {last : Bool} {s : State} (hf : alive s .fabric = true)
    (hlo : 1 ≤ region) (hhi : region ≤ 8) (hfound : found ≠ 2) :
    exec (.scrubLine region addr found spot last) s = .next
      (let t := if found = 1 then correctedError s else s
       if last && alive t .fabric then count t Obj.SCRUB_PASSES else t) := by
  show execScrubLine region addr found spot last s = _
  unfold execScrubLine
  rw [whenAlive_on _ hf, if_neg (by omega), if_neg hfound]

theorem scrubLine_clean {region addr : Nat} {spot : MemError} {s : State} (hf : alive s .fabric = true) (hlo : 1 ≤ region)
    (hhi : region ≤ 8) :
    Completes (.scrubLine region addr 0 spot true) s fun t => Counted 32 Obj.SCRUB_PASSES s t ∧ OnlyRegs [Obj.SCRUB_PASSES] s t := by
  refine ⟨count s Obj.SCRUB_PASSES, ?_, counted_count _ _, onlyRegs_count _ _⟩
  rw [exec_scrubLine hf hlo hhi (by decide)]
  simp [hf]

theorem scrubLine_corrected {region addr : Nat} {spot : MemError} {s : State} (hf : alive s .fabric = true) (hlo : 1 ≤ region)
    (hhi : region ≤ 8) :
    Completes (.scrubLine region addr 1 spot false) s fun t =>
      Counted 64 Obj.ECC_CORRECTED s t ∧ t = { s with regs := t.regs, pmc := t.pmc } := by
  refine ⟨correctedError s, ?_, counted_tally (not_mem_pmcKeys (by decide)) _ _ _, tally_frame _ _ _ _⟩
  rw [exec_scrubLine hf hlo hhi (by decide)]
  rfl

theorem scrubPeriodEnd_completes {s : State} (hf : alive s .fabric = true) :
    Completes .scrubPeriodEnd s fun t => Counted 32 Obj.SCRUB_OVERRUNS s t ∧ OnlyRegs [Obj.SCRUB_OVERRUNS] s t := by
  refine ⟨count s Obj.SCRUB_OVERRUNS, ?_, counted_count _ _, onlyRegs_count _ _⟩
  show execScrubPeriodEnd s = _
  unfold execScrubPeriodEnd
  rw [whenAlive_on _ hf]

theorem eccCorrectedError_completes {region addr : Nat} {s : State} (hlo : 1 ≤ region) (hhi : region ≤ 19)
    (hparity : parityRegion region = false) (hd : alive s (regionDomain region) = true) :
    Completes (.eccCorrectedError region addr) s fun t =>
      Counted 64 Obj.ECC_CORRECTED s t ∧ t = { s with regs := t.regs, pmc := t.pmc } := by
  refine ⟨correctedError s, ?_, counted_tally (not_mem_pmcKeys (by decide)) _ _ _, tally_frame _ _ _ _⟩
  show execEccCorrectedError region addr s = _
  unfold execEccCorrectedError
  rw [whenAlive_on _ hd, if_neg]
  simp only [hparity, Bool.false_eq_true, or_false]
  omega

theorem arbPromotion_completes {bank : Nat} {s : State} (hf : alive s .fabric = true) (hbank : bank < 64) :
    Completes (.arbPromotion bank) s fun t =>
      Counted 64 Obj.ARB_PROMOTIONS s t ∧ t = { s with regs := t.regs, pmc := t.pmc } := by
  refine ⟨tally Obj.ARB_PROMOTIONS 0x06 bank s, ?_, counted_tally (not_mem_pmcKeys (by decide)) _ _ _, tally_frame _ _ _ _⟩
  show execArbPromotion bank s = _
  unfold execArbPromotion
  rw [whenAlive_on _ hf, if_pos hbank]
  rfl

/-! ### Uncorrectable errors (R79) -/

/-- The counter of the uncorrectable errors of a region: of those with byte parity, or of those with ECC. -/
abbrev errorCounter (region : Nat) : Nat := if parityRegion region then Obj.PARITY_ERRORS else Obj.ECC_UNCORRECTED

/-- An error of a region at an address has been counted, and shows. -/
structure Shown (region addr : Nat) (s t : State) : Prop where
  /-- the counter of the region's kind of memory -/
  counted : Counted 32 (errorCounter region) s t
  /-- the address -/
  address : rd t Obj.LAST_ERROR_ADDRESS = addr % 2 ^ 32
  /-- the region -/
  region : rd t Obj.LAST_ERROR_REGION = region

theorem shown_reportError (region addr : Nat) (s : State) : Shown region addr s (reportError region addr s) := by
  have hcounter : errorCounter region ≠ Obj.LAST_ERROR_ADDRESS ∧ errorCounter region ≠ Obj.LAST_ERROR_REGION := by
    unfold errorCounter
    split <;> decide
  have hne : Obj.LAST_ERROR_ADDRESS ≠ Obj.LAST_ERROR_REGION := by decide
  refine ⟨?_, ?_, ?_⟩
  · exact (rd_wr_other _ _ hcounter.2).trans ((rd_wr_other _ _ hcounter.1).trans (rd_count_same _ _))
  · exact (rd_wr_other _ _ hne).trans (rd_wr_same _ _ _)
  · exact rd_wr_same _ _ _

theorem reportError_frame (region addr : Nat) (s : State) :
    reportError region addr s = { s with regs := (reportError region addr s).regs } := wrs_regs _ _

theorem poisonWord_frame (e : MemError) (s : State) : poisonWord e s = { s with poison := (poisonWord e s).poison } := by
  unfold poisonWord
  dsimp only
  split <;> rfl

/-- The word of the error is among the poisoned ones afterwards, whether it was before or not. -/
theorem poisonWord_poisons (e : MemError) (s : State) :
    (poisonWord e s).poison.any (fun p => decide (p.key = wordKey e.region e.addr)) = true := by
  unfold poisonWord
  dsimp only
  split
  · next hpoisoned =>
    obtain ⟨p, hp, hkey⟩ := List.any_eq_true.mp hpoisoned
    exact List.any_eq_true.mpr ⟨p, hp, (Bool.and_eq_true _ _ ▸ hkey).1⟩
  · simp

/-- The state on which the region of an error seen for the first time reacts. -/
def struck (e : MemError) (s : State) : State := poisonWord e (reportError e.region e.addr s)

theorem struck_changes (e : MemError) (s : State) :
    ∃ a, struck e s = { s with regs := (reportError e.region e.addr s).regs, poison := a } := by
  refine ⟨(struck e s).poison, ?_⟩
  conv_lhs => rw [struck, poisonWord_frame, reportError_frame]
  rfl

theorem shown_struck (e : MemError) (s : State) : Shown e.region e.addr s (struck e s) := by
  obtain ⟨a, hstruck⟩ := struck_changes e s
  obtain ⟨hcounted, haddress, hregion⟩ := shown_reportError e.region e.addr s
  rw [hstruck]
  exact ⟨hcounted, haddress, hregion⟩

theorem exec_uncorrectableError {e : MemError} {s : State} (hlo : 1 ≤ e.region) (hhi : e.region ≤ 19)
    (hd : alive s (regionDomain e.region) = true) :
    exec (.uncorrectableError e) s = .next
      (if e.again then (if poisoned s e.region e.addr then reportError e.region e.addr s else s)
       else if rewritten e.region then heal (fun w => w.key = wordKey e.region e.addr) (regionReaction e (struck e s))
       else regionReaction e (struck e s)) := by
  show execUncorrectableError e s = _
  unfold execUncorrectableError
  rw [whenAlive_on _ hd]
  unfold uncorrectable
  rw [if_neg (by omega)]
  rfl

theorem uncorrectableError_first {e : MemError} {s : State} (hlo : 1 ≤ e.region) (hhi : e.region ≤ 19)
    (hd : alive s (regionDomain e.region) = true) (hfirst : e.again = false) :
    exec (.uncorrectableError e) s = .next
      (if rewritten e.region then heal (fun w => w.key = wordKey e.region e.addr) (regionReaction e (struck e s))
       else regionReaction e (struck e s)) := by
  rw [exec_uncorrectableError hlo hhi hd, if_neg (by simp [hfirst])]

theorem uncorrectableError_again {e : MemError} {s : State} (hlo : 1 ≤ e.region) (hhi : e.region ≤ 19)
    (hd : alive s (regionDomain e.region) = true) (hagain : e.again = true) (hpoisoned : poisoned s e.region e.addr = true) :
    exec (.uncorrectableError e) s = .next (reportError e.region e.addr s) := by
  rw [exec_uncorrectableError hlo hhi hd, if_pos hagain, if_pos hpoisoned]

/-! ### SUB_WINDOW_RECORD (R76, R98, R99) -/

/-- A subscription with a complete window is one of the device's. -/
theorem lt_subs_of_ready {s : State} {k : Nat} (h : (subOf s k).ready ≠ []) : k < s.subs.length := by
  by_contra hk
  exact h (by simp [subOf, getD', List.getElem?_eq_none (not_lt.mp hk), Subscription.idle])

/-- The oldest complete window of a subscription has been taken, and `rest` is left. -/
def takeWindow (rest : List (Nat × List SubLeaf)) (x : Subscription) : Subscription := { x with ready := rest }

/-- A record counts as lost. -/
def loseRecord (x : Subscription) : Subscription := { x with lost := satAdd (2 ^ 32 - 1) x.lost 1 }

/-- A record stands at the end of the ring. -/
def appendRecord (r : List Byte) (x : Subscription) : Subscription :=
  { x with ring := x.ring ++ [(x.counter, r)], counter := (x.counter + 1) % 65536, lost := 0 }

theorem subOf_setSub_same {s : State} {k : Nat} (hk : k < s.subs.length) (f : Subscription → Subscription) :
    subOf (setSub k f s) k = f (subOf s k) := by
  rw [subOf_setSub, if_pos ⟨rfl, hk⟩]

theorem length_subs_setSub (k : Nat) (f : Subscription → Subscription) (s : State) :
    (setSub k f s).subs.length = s.subs.length := List.length_modify _ _ _

theorem subOf_pmcEvent (sel inst n : Nat) (s : State) (k : Nat) : subOf (pmcEvent sel inst n s) k = subOf s k := by
  unfold subOf; rw [pmcEvent_frame]

section

variable {k n : Nat} {xs : List SubLeaf} {rest : List (Nat × List SubLeaf)} {s : State}

/-- The record of a window is made of the objects, of what was lost and of the counter, none of which its taking changes. -/
theorem subRecord_takeWindow (hk : k < s.subs.length) :
    subRecord (setSub k (takeWindow rest) s) k n xs = subRecord s k n xs := by
  unfold subRecord
  rw [subOf_setSub_same hk]
  rfl

theorem exec_subWindowRecord {late : Bool} (hf : alive s .fabric = true) (hready : (subOf s k).ready = (n, xs) :: rest) :
    exec (.subWindowRecord k late) s = .next
      (if late || windowGone s k n
          || decide (subRingBytes < sumNat ((subOf s k).ring.map (fun p => p.2.length)) + (subRecord s k n xs).length) then
        dropSub k (setSub k (takeWindow rest) s)
      else pmcEvent 0x15 k 1 (setSub k (appendRecord (subRecord s k n xs)) (healInst 6 k (setSub k (takeWindow rest) s)))) := by
  have hk : k < s.subs.length := lt_subs_of_ready (by simp [hready])
  show execSubWindowRecord k late s = _
  unfold execSubWindowRecord
  rw [whenAlive_on _ hf, hready]
  have hring : (subOf (setSub k (takeWindow rest) s) k).ring = (subOf s k).ring := by rw [subOf_setSub_same hk]; rfl
  rw [← subRecord_takeWindow (rest := rest) hk, ← hring]
  rfl

theorem subWindowRecord_lost {late : Bool} (hf : alive s .fabric = true) (hready : (subOf s k).ready = (n, xs) :: rest)
    (hlost : late = true ∨ windowGone s k n = true) :
    Completes (.subWindowRecord k late) s fun t =>
      Counted 32 (Obj.SUB_LOST k) s t ∧ (subOf t k).ready = rest ∧ (subOf t k).ring = (subOf s k).ring := by
  have hk : k < s.subs.length := lt_subs_of_ready (by simp [hready])
  have hsub : subOf (dropSub k (setSub k (takeWindow rest) s)) k = loseRecord (takeWindow rest (subOf s k)) := by
    rw [← subOf_setSub_same hk (takeWindow rest)]
    exact subOf_setSub_same (by rwa [count, countBy, wr_subs, length_subs_setSub]) _
  refine ⟨dropSub k (setSub k (takeWindow rest) s), ?_, rd_count_same _ _, ?_, ?_⟩
  · rw [exec_subWindowRecord hf hready, if_pos (by rcases hlost with h | h <;> simp [h])]
  · rw [hsub]; rfl
  · rw [hsub]; rfl

theorem subWindowRecord_written (hf : alive s .fabric = true) (hready : (subOf s k).ready = (n, xs) :: rest)
    (hgone : windowGone s k n = false)
    (hfits : sumNat ((subOf s k).ring.map (fun p => p.2.length)) + (subRecord s k n xs).length ≤ subRingBytes) :
    Completes (.subWindowRecord k false) s fun t => subOf t k = appendRecord (subRecord s k n xs) (takeWindow rest (subOf s k)) := by
  have hk : k < s.subs.length := lt_subs_of_ready (by simp [hready])
  refine ⟨_, by rw [exec_subWindowRecord hf hready, if_neg (by simp [hgone, hfits])], ?_⟩
  dsimp only
  rw [subOf_pmcEvent, ← subOf_setSub_same hk (takeWindow rest)]
  exact subOf_setSub_same (by rwa [healInst, heal, length_subs_setSub]) _

end

/-- Settles O18: counters by the rule of each, errors by the state on which the region reacts, windows by the change of their
subscription. -/
theorem storeEvents : Obligations.StoreEvents := by
  refine ⟨fun _ _ _ _ hf hlo hhi => ⟨scrubLine_clean hf hlo hhi, scrubLine_corrected hf hlo hhi⟩,
    fun _ hf => scrubPeriodEnd_completes hf,
    fun _ _ _ hlo hhi hparity hd => eccCorrectedError_completes hlo hhi hparity hd,
    fun _ _ hf hbank => arbPromotion_completes hf hbank,
    fun e s hlo hhi hd => ⟨fun hfirst => ?_, fun hagain hpoisoned => ?_⟩,
    fun k n xs rest s hf hready => ⟨fun late hlost => subWindowRecord_lost hf hready hlost, fun hgone hfits => ?_⟩⟩
  · obtain ⟨hcounted, haddress, hregion⟩ := shown_struck e s
    obtain ⟨a, hstruck⟩ := struck_changes e s
    exact ⟨struck e s, hcounted, haddress, hregion, poisonWord_poisons _ _, by rw [hstruck],
      uncorrectableError_first hlo hhi hd hfirst⟩
  · obtain ⟨hcounted, haddress, hregion⟩ := shown_reportError e.region e.addr s
    exact ⟨_, uncorrectableError_again hlo hhi hd hagain hpoisoned, hcounted, haddress, hregion, reportError_frame _ _ _⟩
  · obtain ⟨t, hexec, hsub⟩ := subWindowRecord_written hf hready hgone hfits
    exact ⟨t, hexec, by rw [hsub]; rfl, by rw [hsub]; rfl, by rw [hsub]; rfl, by rw [hsub]; rfl⟩

end Sys2Proof.Proofs

namespace Sys2Proof.Proofs

open Sys2Proof.Machine Sys2Proof.Claims Sys2Proof.Laws

/-! ### Folds over the instances of a unit -/

/-- What each step of a fold makes true of its own element, and keeps true of every other, holds of all of them at its end. -/
theorem foldl_establishes {α : Type} {P : α → State → Prop} {f : State → α → State} (make : ∀ t x, P x (f t x))
    (keep : ∀ t x y, P y t → P y (f t x)) (l : List α) (s : State) {x : α} (hx : x ∈ l) : P x (l.foldl f s) := by
  induction l generalizing s with
  | nil => cases hx
  | cons y l ih =>
    rcases List.mem_cons.mp hx with rfl | hx
    · exact List.foldlRecOn (motive := P x) l f (make s x) fun t ht y _ => keep t y x ht
    · exact ih _ hx

/-- Each step of a fold changes the object of its own element from `v` to `g v`, and a second time would change nothing more. -/
theorem rd_foldl_own {f : State → Nat → State} {key : Nat → Nat} {g : Nat → Nat} (hkey : Function.Injective key)
    (hg : ∀ v, g (g v) = g v) (own : ∀ t x, rd (f t x) (key x) = g (rd t (key x)))
    (other : ∀ t x j, j ≠ key x → rd (f t x) j = rd t j) (l : List Nat) (s : State) (x : Nat) :
    rd (l.foldl f s) (key x) = if x ∈ l then g (rd s (key x)) else rd s (key x) := by
  induction l generalizing s with
  | nil => simp
  | cons y l ih =>
    rw [List.foldl_cons, ih]
    by_cases hxy : x = y
    · subst hxy; simp [own, hg]
    · rw [other s y _ fun e => hxy (hkey e)]; simp [hxy]

/-- An object that is none of the elements' own keeps its value. -/
theorem rd_foldl_other {f : State → Nat → State} {key : Nat → Nat} (other : ∀ t x j, j ≠ key x → rd (f t x) j = rd t j)
    (l : List Nat) (s : State) {j : Nat} (h : ∀ x ∈ l, j ≠ key x) : rd (l.foldl f s) j = rd s j :=
  List.foldlRecOn (motive := fun t => rd t j = rd s j) l f rfl fun t ht x hx => (other t x j (h x hx)).trans ht

/-- Work that changes nothing changes nothing whether its domain runs or not. -/
theorem whenAlive_self {d : Domain} {f : State → State} {s : State} (h : f s = s) : whenAlive d f s = s := by
  unfold whenAlive; rw [h, ite_self]

/-! ### What is present follows from the ordering code and the droves (R3, R16, R141) -/

/-- The objects that decide which droves, arms and leaves there are stand as they were. -/
def SamePlant (s t : State) : Prop := rd t Obj.OPTION_CODE = rd s Obj.OPTION_CODE ∧ ∀ j, 0x340000 ≤ j → rd t j = rd s j

theorem armDroves_congr {s t : State} (h : SamePlant s t) (a : Nat) : armDroves t a = armDroves s a := by
  obtain ⟨hcode, hdroves⟩ := h
  unfold armDroves
  rw [drovesOn_congr hcode hdroves]
  exact List.filter_congr fun d _ => by rw [hdroves (Obj.DROVE_ARM d) (by simp only [Obj.DROVE_ARM]; omega)]

theorem convOn_congr {s t : State} (h : SamePlant s t) (c : Nat) : convOn t c = convOn s c := by
  unfold convOn armOn
  simp only [armDroves_congr h]

theorem itemPresent_congr {s t : State} (h : SamePlant s t) (i : Nat) : itemPresent t i = itemPresent s i := by
  unfold itemPresent; rw [convOn_congr h]

theorem legPresent_congr {s t : State} (h : SamePlant s t) (g : Nat) : legPresent t g = legPresent s g := by
  unfold legPresent; rw [convOn_congr h]

theorem solarLeaves_congr {s t : State} (h : SamePlant s t) (a : Nat) : solarLeaves t a = solarLeaves s a := by
  obtain ⟨hcode, hdroves⟩ := id h
  unfold solarLeaves armLeaves
  rw [armDroves_congr h, funext (leavesOf_congr hcode hdroves)]
  exact List.filter_congr fun L _ => by rw [hdroves (Obj.LEAF_KIND_CFG L) (by simp only [Obj.LEAF_KIND_CFG]; omega)]

theorem pairLive_congr {s t : State} {p : Nat} (h : p < 4 → rd t (Obj.PAIR_STATE p) = rd s (Obj.PAIR_STATE p)) :
    pairLive t p = pairLive s p := by
  unfold pairLive
  by_cases hp : p < 4
  · rw [h hp]
  · simp [hp]

theorem lt_of_pairLive {s : State} {p : Nat} (h : pairLive s p = true) : p < 4 := by
  unfold pairLive at h; simp only [Bool.and_eq_true, decide_eq_true_eq] at h; exact h.1

theorem lt_of_engineLive {s : State} {e : Nat} (h : engineLive s e = true) : e < 8 := by
  unfold engineLive at h; simp only [Bool.and_eq_true, decide_eq_true_eq] at h; exact h.1

/-! ### Causes of a change of station state (R332) -/

@[simp] theorem rd_schedule (target cause arg : Nat) (s : State) (j : Nat) : rd (schedule target cause arg s) j = rd s j := rfl

theorem dueTide_congr {s t : State} (hstation : station t = station s) (hsm : t.sm.afterDemand = s.sm.afterDemand)
    (htide : tideNow t = tideNow s) (target : Nat) : dueTide t target = dueTide s target := by
  unfold dueTide; rw [hstation, hsm, htide]

/-- A change scheduled in a state that agrees with `s` on when it takes effect stands scheduled from `s`. -/
theorem scheduled_schedule {s u : State} {target : Nat} (h : dueTide u target = dueTide s target) (cause arg : Nat) :
    Scheduled target cause arg s (schedule target cause arg u) := by
  unfold Scheduled schedule
  rw [h]
  exact List.mem_append_right _ List.mem_cons_self

/-- The delivery of an event does not move a change's tide. -/
theorem dueTide_emit (e : Ev) (inst : Nat) (args : List Byte) (s : State) (target : Nat) :
    dueTide (emit e inst args s) target = dueTide s target :=
  dueTide_congr (rd_emit_other s _ _ _ (by decide)) (by rw [emit_frame]) (rd_emit_other s _ _ _ (by decide)) target

/-- An event is delivered and a change of state scheduled, and nothing else happens. -/
theorem schedule_emit (target cause arg : Nat) (e : Ev) (inst : Nat) (args : List Byte) (s : State) :
    let t := schedule target cause arg (emit e inst args s)
    Scheduled target cause arg s t ∧ Raised e inst s t ∧ OnlyObjects [Obj.LOG_DROPPED] s t
      ∧ t = { s with regs := t.regs, log := t.log, sm := t.sm } := by
  refine ⟨scheduled_schedule (dueTide_emit e inst args s target) cause arg, raised_congr (raised_emit e inst args s) rfl rfl,
    fun j hj => ?_, ?_⟩
  · rw [rd_schedule, rd_emit_other _ _ _ _ (by simpa using hj)]
  · unfold schedule; rw [emit_frame]

end Sys2Proof.Proofs

namespace Sys2Proof.Proofs

open Sys2Proof.Machine Sys2Proof.Claims Sys2Proof.Laws

/-! ### The trace (R158) -/

theorem rd_traceFire_state (s : State) : rd (traceFire s) Obj.TRACE_STATE = trFilling := rd_wr_same _ _ _

theorem rd_traceFire_tide (s : State) : rd (traceFire s) Obj.TRACE_TRIGGER_TIDE = tideNow s :=
  (rd_wr_other _ _ (by decide)).trans (rd_wr_same _ _ _)

theorem rd_traceFire_other (s : State) {j : Nat} (hstate : j ≠ Obj.TRACE_STATE) (htide : j ≠ Obj.TRACE_TRIGGER_TIDE) :
    rd (traceFire s) j = rd s j := (rd_wr_other _ _ hstate).trans (rd_wr_other _ _ htide)

theorem exec_traceTrigger {code : Nat} {s : State} (hf : alive s .fabric = true) (harmed : rd s Obj.TRACE_STATE = trArmed)
    (hcond : traceCondition s code = true) : exec (.traceTrigger code) s = .next (traceFire s) := by
  show execTraceTrigger code s = _
  unfold execTraceTrigger
  rw [whenAlive_on _ hf, if_pos ⟨harmed, hcond⟩]

theorem exec_traceTrigger_unarmed {code : Nat} {s : State} (h : rd s Obj.TRACE_STATE ≠ trArmed) :
    exec (.traceTrigger code) s = .next s :=
  congrArg Host.Outcome.next (whenAlive_self (if_neg fun ⟨harmed, _⟩ => h harmed))

/-- Every channel of the trace holds its pretrigger share. -/
def SharesHeld (s : State) : Prop := ∀ ch, ch ∈ traceChannels s → tracePre s ≤ (getD' s.trace.chans ch []).length

theorem exec_traceArmed {s : State} (hf : alive s .fabric = true) (harming : rd s Obj.TRACE_STATE = trArming) (h : SharesHeld s) :
    exec .traceArmed s = .next (wr s Obj.TRACE_STATE trArmed) := by
  show execTraceArmed s = _
  unfold execTraceArmed
  rw [whenAlive_on _ hf, if_pos ⟨harming, List.all_eq_true.mpr fun ch hch => decide_eq_true (h ch hch)⟩]

theorem exec_traceArmed_short {s : State} (h : ¬ SharesHeld s) : exec .traceArmed s = .next s :=
  congrArg Host.Outcome.next
    (whenAlive_self (if_neg fun ⟨_, hall⟩ => h fun ch hch => of_decide_eq_true (List.all_eq_true.mp hall ch hch)))

/-- Settles O21: the condition each command tests decides whether it writes its objects. -/
theorem traceTriggerAndArming : Obligations.TraceTriggerAndArming := by
  refine ⟨fun code s hf harmed hcond => ?_, fun code s h => exec_traceTrigger_unarmed h, fun s hf harming hheld => ?_,
    fun s ch hch hshort => exec_traceArmed_short fun hheld => absurd (hheld ch hch) (not_le.mpr hshort)⟩
  · refine ⟨_, exec_traceTrigger hf harmed hcond, rd_traceFire_tide s, rd_traceFire_state s, rfl, fun j hj => ?_⟩
    simp only [List.mem_cons, List.not_mem_nil, or_false, not_or] at hj
    exact rd_traceFire_other s hj.2 hj.1
  · exact ⟨_, exec_traceArmed hf harming hheld, rd_wr_same _ _ _, rfl, fun j hj => rd_wr_other s _ (by simpa using hj)⟩

end Sys2Proof.Proofs

namespace Sys2Proof.Proofs

open Sys2Proof.Machine Sys2Proof.Claims Sys2Proof.Laws

/-! ### The places published (R142) -/

theorem showPlaces_frame (s : State) : showPlaces s = { s with regs := (showPlaces s).regs } := wrs_regs _ _

/-- The objects that show places are the failover targets, the sums and the engines of the programs. -/
theorem rd_showPlaces (s : State) {j : Nat} (h : j < 0x31030C ∨ 0x315000 ≤ j) : rd (showPlaces s) j = rd s j := by
  refine rd_wrs_other _ _ fun p hp e => ?_
  simp only [List.mem_append, List.mem_map, List.mem_range] at hp
  rcases hp with (((⟨i, hi, rfl⟩ | ⟨i, hi, rfl⟩) | ⟨i, hi, rfl⟩) | ⟨i, hi, rfl⟩) | ⟨i, hi, rfl⟩ <;>
    simp only [Obj.ITEM_FAILOVER, Obj.LEG_FAILOVER, Obj.PAIR_WCET, Obj.ENGINE_WCET, Obj.PROG_ENGINE_NOW] at e <;> omega

/-- No object of the control cluster decides what is present. -/
theorem samePlant_of_cluster {s t : State} (h : ∀ j, j < 0x310000 ∨ 0x315000 ≤ j → rd t j = rd s j) : SamePlant s t :=
  ⟨h _ (by decide), fun j hj => h j (by omega)⟩

theorem samePlant_showPlaces (s : State) : SamePlant s (showPlaces s) := samePlant_of_cluster fun _ hj => rd_showPlaces s (by omega)

/-! ### A unit fails (R143, R144) -/

/-- The fault of unit `inst` is counted and reported, and the unit goes into self-test. -/
def faultUnit (e : Ev) (counter key source inst : Nat) (s : State) : State :=
  wr (countFault 0 source inst 1 (emit e inst (leBytes 1 inst) (count s counter))) key usSelfTest

theorem rd_faultUnit_other (e : Ev) {counter key j : Nat} (source inst : Nat) (s : State) (hkey : j ≠ key) (hlog : j ≠ Obj.LOG_DROPPED)
    (hcounter : j ≠ counter) : rd (faultUnit e counter key source inst s) j = rd s j := by
  unfold faultUnit
  rw [rd_wr_other _ _ hkey, rd_countFault, rd_emit_other _ _ _ _ hlog, rd_count_other _ hcounter]

/-- What the failure of a unit leaves beside its work: the fault counted, the event raised and one event of the source added, the unit in
self-test, and nothing else changed but objects and the cluster. -/
structure UnitFailed (e : Ev) (counter key source inst : Nat) (s t : State) : Prop where
  /-- the count of faults -/
  counted : Counted 32 counter s t
  /-- the unit's state -/
  state : rd t key = usSelfTest
  /-- the event in the log -/
  raised : Raised e inst s t
  /-- the event of the fault source -/
  event : t.faultEvents = s.faultEvents ++ [stationFault source inst]
  /-- what may change -/
  frame : t = { s with regs := t.regs, log := t.log, faultEvents := t.faultEvents, cl := t.cl }

theorem unitFailed_of_faultUnit {e : Ev} {counter key source inst : Nat} {s t : State} (hlog : counter ≠ Obj.LOG_DROPPED)
    (hne : counter ≠ key) (ht : ∃ a c, t = { faultUnit e counter key source inst s with regs := a, cl := c })
    (hcounter : rd t counter = rd (faultUnit e counter key source inst s) counter)
    (hkey : rd t key = rd (faultUnit e counter key source inst s) key) : UnitFailed e counter key source inst s t := by
  obtain ⟨a, c, ht⟩ := ht
  have hlogged : t.log = (emit e inst (leBytes 1 inst) (count s counter)).log := by rw [ht]; rfl
  have hevents : t.faultEvents = s.faultEvents ++ [stationFault source inst] := by
    rw [ht]
    show (emit e inst (leBytes 1 inst) (count s counter)).faultEvents ++ [stationFault source inst] = _
    rw [emit_frame]; rfl
  refine ⟨?_, hkey.trans (rd_wr_same _ _ _), raised_congr (raised_emit e inst _ (count s counter)) rfl hlogged, hevents, ?_⟩
  · unfold Counted
    rw [hcounter, faultUnit, rd_wr_other _ _ hne, rd_countFault, rd_emit_other _ _ _ _ hlog, rd_count_same]
  · rw [hevents, hlogged, ht]
    unfold faultUnit
    rw [countFault_one, emit_frame]
    rfl

/-! ### The items of a failed pair move (R143) -/

theorem unitOf_set_ne {xs : List Nat} {i k v p : Nat} (hnone : noUnit ≠ p) (hv : v ≠ p) (h : k ≠ i → unitOf xs k ≠ p) :
    unitOf (xs.set i v) k ≠ p := by
  unfold unitOf getD' at h ⊢
  by_cases hki : k = i
  · subst hki
    by_cases hlt : k < xs.length
    · simpa [hlt] using hv
    · simpa [hlt] using hnone
  · rw [List.getElem?_set_ne (Ne.symm hki)]; exact h hki

/-- The unit that takes over from `p`, the target being `q`: `q` where it is live and another unit, else none. -/
def standIn (live : Bool) (q p : Nat) : Nat := if live && decide (q ≠ p) then q else noUnit

theorem standIn_ne {live : Bool} {q p : Nat} (h : noUnit ≠ p) : standIn live q p ≠ p := by
  unfold standIn
  split
  · next hq => simp only [Bool.and_eq_true, decide_eq_true_eq] at hq; exact hq.2
  · exact h

theorem noUnit_ne {p : Nat} (h : p < 12) : noUnit ≠ p := by unfold noUnit; omega

theorem activatePair_frame (p : Nat) (s : State) : activatePair p s = { s with regs := (activatePair p s).regs } := by
  unfold activatePair; split <;> rfl

theorem rd_activatePair {p j : Nat} (s : State) (h : p < 4 → j ≠ Obj.PAIR_STATE p) : rd (activatePair p s) j = rd s j := by
  unfold activatePair; split
  · next hlive => exact rd_wr_other s _ (h (lt_of_pairLive hlive))
  · rfl

/-- The cluster with item `i` given by pair `p` to unit `dest`. -/
def giveItem (p i dest : Nat) (c : Cluster) : Cluster :=
  { c with items := c.items.set i dest, movedItems := c.movedItems ++ [(i, p)], refMiss := c.refMiss.set i 0 }

/-- Item `i` leaves pair `p`, where `p` holds it. -/
def moveItem (p : Nat) (s : State) (i : Nat) : State :=
  let dest := standIn (pairLive s (rd s (Obj.ITEM_FAILOVER i))) (rd s (Obj.ITEM_FAILOVER i)) p
  if itemPresent s i && decide (unitOf s.cl.items i = p) then activatePair dest (setCl (giveItem p i dest) s) else s

theorem moveItems_eq (p : Nat) (s : State) : moveItems p s = (List.range 5).foldl (moveItem p) s := rfl

theorem moveItem_changes (p : Nat) (s : State) (i : Nat) : ∃ a c, moveItem p s i = { s with regs := a, cl := c } := by
  unfold moveItem
  dsimp only
  split
  · exact ⟨_, _, activatePair_frame _ _⟩
  · exact ⟨s.regs, s.cl, rfl⟩

theorem moveItems_changes (p : Nat) (s : State) : ∃ a c, moveItems p s = { s with regs := a, cl := c } := by
  rw [moveItems_eq]
  refine List.foldlRecOn (motive := fun t : State => ∃ a c, t = { s with regs := a, cl := c }) _ _ ⟨s.regs, s.cl, rfl⟩ ?_
  rintro t ⟨a, c, rfl⟩ i -
  exact moveItem_changes p { s with regs := a, cl := c } i

section

variable {p : Nat} (hp : p < 4)
include hp

/-- A pair takes an item over in place of `p`, so the state of `p` stands. -/
theorem rd_moveItem (s : State) (i : Nat) {j : Nat} (h : ∀ q, q < 4 → q ≠ p → j ≠ Obj.PAIR_STATE q) :
    rd (moveItem p s i) j = rd s j := by
  unfold moveItem
  dsimp only
  split
  · rw [rd_activatePair _ fun hq => h _ hq (standIn_ne (noUnit_ne (by omega))), rd_setCl]
  · rfl

theorem rd_moveItems (s : State) {j : Nat} (h : ∀ q, q < 4 → q ≠ p → j ≠ Obj.PAIR_STATE q) : rd (moveItems p s) j = rd s j := by
  rw [moveItems_eq]
  exact foldl_keeps (rd · j) (fun t i => rd_moveItem hp t i h) _ s

theorem samePlant_moveItem (s : State) (i : Nat) : SamePlant s (moveItem p s i) :=
  samePlant_of_cluster fun _ hj => rd_moveItem hp s i fun q _ _ => by simp only [Obj.PAIR_STATE]; omega

/-- No item is where `p` held one: item `i`, if present, is not on `p`. -/
theorem unitOf_moveItem_ne (s : State) (i k : Nat) (h : k ≠ i → unitOf s.cl.items k ≠ p) :
    itemPresent s k = true → unitOf (moveItem p s i).cl.items k ≠ p := by
  intro hpresent
  unfold moveItem
  dsimp only
  split
  · rw [activatePair_frame]
    exact unitOf_set_ne (noUnit_ne (by omega)) (standIn_ne (noUnit_ne (by omega))) h
  · next hstays =>
    by_cases hki : k = i
    · subst hki; simpa [hpresent] using hstays
    · exact h hki

/-- When the items have moved, no present one is on the pair that failed. -/
theorem unitOf_moveItems_ne (s : State) {i : Nat} (hi : i < 5) :
    itemPresent (moveItems p s) i = true → unitOf (moveItems p s).cl.items i ≠ p := by
  rw [moveItems_eq]
  refine foldl_establishes (P := fun k t => itemPresent t k = true → unitOf t.cl.items k ≠ p) (fun t k hpresent => ?_)
    (fun t k m hm hpresent => ?_) _ s (List.mem_range.mpr hi)
  · rw [itemPresent_congr (samePlant_moveItem hp t k)] at hpresent
    exact unitOf_moveItem_ne hp t k k (fun hne => absurd rfl hne) hpresent
  · rw [itemPresent_congr (samePlant_moveItem hp t k)] at hpresent
    exact unitOf_moveItem_ne hp t k m (fun _ => hm hpresent) hpresent

end

/-! ### LOCKSTEP_MISMATCH (R143) -/

/-- A pair has failed, and its items have not moved. -/
def pairFaulted (p : Nat) (s : State) : State := faultUnit .controlPairFault Obj.PAIR_FAULTS (Obj.PAIR_STATE p) srcPair p s

theorem station_pairFaulted (p : Nat) (s : State) : station (pairFaulted p s) = station s :=
  rd_faultUnit_other _ _ _ _ (by simp only [Obj.STATION_STATE, Obj.PAIR_STATE]; omega) (by decide) (by decide)

theorem exec_lockstepMismatch {p : Nat} {s : State} (hp : alive s .processing = true) (hlive : pairLive s p = true) :
    exec (.lockstepMismatch p) s =
      .next (showPlaces (if station s = stCoast then pairFaulted p s else moveItems p (pairFaulted p s))) := by
  show execLockstepMismatch p s = _
  unfold execLockstepMismatch failPair
  rw [whenAlive_on _ hp, if_pos (by simp [hlive]), ← station_pairFaulted p s]
  rfl

theorem exec_lockstepMismatch_dead {p : Nat} {s : State} (hdead : pairLive s p = false) (hrest : rd s (Obj.PAIR_STATE p) ≠ usRestarting) :
    exec (.lockstepMismatch p) s = .next s :=
  congrArg Host.Outcome.next (whenAlive_self (if_neg (by simp [hdead, hrest])))

theorem showPlaces_cl (s : State) : (showPlaces s).cl = s.cl := by rw [showPlaces_frame]

/-- In whichever way the failed pair's work is left, the report of its failure stands. -/
theorem unitFailed_of_places {p : Nat} {s u : State} (hp : p < 4) (hu : ∃ a c, u = { pairFaulted p s with regs := a, cl := c })
    (hrd : ∀ j, (∀ q, q < 4 → q ≠ p → j ≠ Obj.PAIR_STATE q) → rd u j = rd (pairFaulted p s) j) :
    UnitFailed .controlPairFault Obj.PAIR_FAULTS (Obj.PAIR_STATE p) srcPair p s (showPlaces u) := by
  refine unitFailed_of_faultUnit (by decide) (by simp only [Obj.PAIR_FAULTS, Obj.PAIR_STATE]; omega) ?_ ?_ ?_
  · obtain ⟨a, c, hu⟩ := hu
    exact ⟨_, c, by rw [showPlaces_frame, hu]; rfl⟩
  · rw [rd_showPlaces _ (by decide)]
    exact hrd _ fun q hq _ => by simp only [Obj.PAIR_FAULTS, Obj.PAIR_STATE]; omega
  · rw [rd_showPlaces _ (by simp only [Obj.PAIR_STATE]; omega)]
    exact hrd _ fun q _ hne => by simp only [Obj.PAIR_STATE]; omega

theorem lockstepMismatch_completes {p : Nat} {s : State} (hp : alive s .processing = true) (hlive : pairLive s p = true) :
    Completes (.lockstepMismatch p) s fun t =>
      UnitFailed .controlPairFault Obj.PAIR_FAULTS (Obj.PAIR_STATE p) srcPair p s t ∧ (station s = stCoast → t.cl = s.cl)
        ∧ (station s ≠ stCoast → ∀ i, i < 5 → itemPresent t i = true → unitOf t.cl.items i ≠ p) := by
  have hlt := lt_of_pairLive hlive
  refine ⟨_, exec_lockstepMismatch hp hlive, ?_⟩
  by_cases hcoast : station s = stCoast
  · rw [if_pos hcoast]
    refine ⟨unitFailed_of_places hlt ⟨(pairFaulted p s).regs, (pairFaulted p s).cl, rfl⟩ fun _ _ => rfl, fun _ => ?_,
      fun hne => absurd hcoast hne⟩
    rw [showPlaces_cl, pairFaulted, faultUnit, wr_cl, countFault_frame, emit_frame]
    rfl
  · rw [if_neg hcoast]
    refine ⟨unitFailed_of_places hlt (moveItems_changes p _) fun j h => rd_moveItems hlt _ h, fun h => absurd h hcoast,
      fun _ i hi hpresent => ?_⟩
    rw [itemPresent_congr (samePlant_showPlaces _)] at hpresent
    rw [showPlaces_cl]
    exact unitOf_moveItems_ne hlt _ hi hpresent

/-! ### The legs and programs of a failed engine move (R141, R144) -/

theorem activateEngine_frame (e : Nat) (s : State) : activateEngine e s = { s with regs := (activateEngine e s).regs } := by
  unfold activateEngine; split <;> rfl

theorem rd_activateEngine {e j : Nat} (s : State) (h : e < 8 → j ≠ Obj.ENGINE_STATE e) : rd (activateEngine e s) j = rd s j := by
  unfold activateEngine; split
  · next hlive => exact rd_wr_other s _ (h (lt_of_engineLive hlive))
  · rfl

/-- The cluster with leg `g` given by engine `e` to unit `dest`, which computes from the samples of tide `first`. -/
def giveLeg (e g dest first : Nat) (c : Cluster) : Cluster :=
  { c with legs := c.legs.set g dest, movedLegs := c.movedLegs ++ [(g, e, first)],
           demandMiss := (c.demandMiss.set (2 * g) 0).set (2 * g + 1) 0 }

/-- Leg `g` leaves engine `e`, where `e` holds it. -/
def moveLeg (e first : Nat) (s : State) (g : Nat) : State :=
  let dest := standIn (engineLive s (rd s (Obj.LEG_FAILOVER g))) (rd s (Obj.LEG_FAILOVER g)) e
  if legPresent s g && decide (unitOf s.cl.legs g = e) then activateEngine dest (setCl (giveLeg e g dest first) s) else s

/-- The cluster with user program `u` on unit `dest`. -/
def giveProg (u dest : Nat) (c : Cluster) : Cluster := { c with progs := c.progs.set u dest }

/-- User program `u` leaves engine `e`, where `e` holds it, and goes on from its checkpoint. -/
def moveProg (e : Nat) (s : State) (u : Nat) : State :=
  let dest := engineTarget s e (progLoad s u)
  if unitOf s.cl.progs u = e then activateEngine dest (setCl (giveProg u dest) (restoreProg u s)) else s

theorem moveLegs_eq (e : Nat) (s : State) :
    moveLegs e s = (List.range 8).foldl (moveProg e) ((List.range 6).foldl (moveLeg e (firstSamples s)) s) := rfl

/-- A unit that the list does not hold is not the one of least load. -/
theorem leastLoad_ne {u : Nat} (hnone : noUnit ≠ u) {xs : List (Nat × Nat)} (h : ∀ x ∈ xs, x.1 ≠ u) : leastLoad xs ≠ u := by
  induction xs with
  | nil => exact hnone
  | cons x xs ih =>
    unfold leastLoad
    split
    · exact h x List.mem_cons_self
    · exact ih fun y hy => h y (List.mem_cons_of_mem _ hy)

theorem engineTarget_ne (s : State) {own : Nat} (w : Nat) (h : noUnit ≠ own) : engineTarget s own w ≠ own := by
  refine leastLoad_ne h fun x hx => ?_
  obtain ⟨e, hin, rfl⟩ := List.mem_map.mp (List.mem_filter.mp hx).1
  have hother := (List.mem_filter.mp hin).2
  simp only [Bool.and_eq_true, decide_eq_true_eq] at hother
  exact hother.2

/-- A miss of a program changes its two objects and the records of the programs, not where they run. -/
theorem progMiss_changes (u : Nat) (s : State) :
    ∃ a b, progMiss u s = { s with regs := a, cl := { s.cl with user := b } } := by
  unfold progMiss
  dsimp only
  split
  · exact ⟨_, _, rfl⟩
  · exact ⟨_, _, rfl⟩

theorem rd_progMiss {u j : Nat} (s : State) (hmisses : j ≠ Obj.PROG_MISSES u) (hstate : j ≠ Obj.PROG_STATE u) :
    rd (progMiss u s) j = rd s j := by
  unfold progMiss
  dsimp only
  split
  · rw [rd_wr_other _ _ hstate]; exact rd_count_other s hmisses
  · exact rd_count_other s hmisses

theorem restoreProg_changes (u : Nat) (s : State) :
    ∃ a b, restoreProg u s = { s with regs := a, cl := { s.cl with user := b } } := by
  unfold restoreProg
  refine List.foldlRecOn (motive := fun t : State => ∃ a b, t = { s with regs := a, cl := { s.cl with user := b } }) _ _
    ⟨s.regs, _, rfl⟩ ?_
  rintro t ⟨a, b, rfl⟩ _ -
  exact progMiss_changes u { s with regs := a, cl := { s.cl with user := b } }

theorem rd_restoreProg {u j : Nat} (s : State) (hmisses : j ≠ Obj.PROG_MISSES u) (hstate : j ≠ Obj.PROG_STATE u) :
    rd (restoreProg u s) j = rd s j := foldl_keeps (rd · j) (fun t _ => rd_progMiss t hmisses hstate) _ _

theorem moveLeg_changes (e first : Nat) (s : State) (g : Nat) :
    ∃ a c, moveLeg e first s g = { s with regs := a, cl := c } ∧ c.progs = s.cl.progs := by
  unfold moveLeg
  dsimp only
  split
  · exact ⟨_, _, activateEngine_frame _ _, rfl⟩
  · exact ⟨s.regs, s.cl, rfl, rfl⟩

theorem moveProg_changes (e : Nat) (s : State) (u : Nat) :
    ∃ a c, moveProg e s u = { s with regs := a, cl := c } ∧ c.legs = s.cl.legs := by
  unfold moveProg
  dsimp only
  split
  · obtain ⟨a, b, h⟩ := restoreProg_changes u s
    rw [h]
    exact ⟨_, _, activateEngine_frame _ _, rfl⟩
  · exact ⟨s.regs, s.cl, rfl, rfl⟩

/-- The state with the legs of engine `e` moved, and its programs still on it. -/
def legsMoved (e : Nat) (s : State) : State := (List.range 6).foldl (moveLeg e (firstSamples s)) s

/-- An object that moving the work of engine `e` leaves alone: neither the state of another engine nor an object of a program. -/
abbrev Unmoved (e j : Nat) : Prop := (∀ q, q < 8 → q ≠ e → j ≠ Obj.ENGINE_STATE q) ∧ (j < 0x314000 ∨ 0x315000 ≤ j)

theorem legsMoved_changes (e : Nat) (s : State) : ∃ a c, legsMoved e s = { s with regs := a, cl := c } := by
  refine List.foldlRecOn (motive := fun t : State => ∃ a c, t = { s with regs := a, cl := c }) _ _ ⟨s.regs, s.cl, rfl⟩ ?_
  rintro t ⟨a, c, rfl⟩ g -
  obtain ⟨a', c', h, -⟩ := moveLeg_changes e (firstSamples s) { s with regs := a, cl := c } g
  exact ⟨a', c', h⟩

theorem moveLegs_changes (e : Nat) (s : State) :
    ∃ a c, moveLegs e s = { s with regs := a, cl := c } ∧ c.legs = (legsMoved e s).cl.legs := by
  obtain ⟨a, c, h⟩ := legsMoved_changes e s
  refine List.foldlRecOn (motive := fun t : State => ∃ a c, t = { s with regs := a, cl := c } ∧ c.legs = (legsMoved e s).cl.legs) _ _
    ⟨a, c, h, by rw [h]⟩ ?_
  rintro t ⟨a, c, rfl, hlegs⟩ u -
  obtain ⟨a', c', h', hkept⟩ := moveProg_changes e { s with regs := a, cl := c } u
  exact ⟨a', c', h', hkept.trans hlegs⟩

section

variable {e : Nat} (he : e < 8)
include he

theorem rd_moveLeg (first : Nat) (s : State) (g : Nat) {j : Nat} (h : ∀ q, q < 8 → q ≠ e → j ≠ Obj.ENGINE_STATE q) :
    rd (moveLeg e first s g) j = rd s j := by
  unfold moveLeg
  dsimp only
  split
  · rw [rd_activateEngine _ fun hq => h _ hq (standIn_ne (noUnit_ne (by omega))), rd_setCl]
  · rfl

theorem rd_legsMoved (s : State) {j : Nat} (h : ∀ q, q < 8 → q ≠ e → j ≠ Obj.ENGINE_STATE q) : rd (legsMoved e s) j = rd s j :=
  foldl_keeps (rd · j) (fun t g => rd_moveLeg he _ t g h) _ s

theorem rd_moveProg (s : State) {u j : Nat} (hu : u < 8) (h : Unmoved e j) : rd (moveProg e s u) j = rd s j := by
  obtain ⟨hstate, hprog⟩ := h
  unfold moveProg
  dsimp only
  split
  · rw [rd_activateEngine _ fun hq => hstate _ hq (engineTarget_ne s _ (noUnit_ne (by omega))), rd_setCl]
    exact rd_restoreProg s (by simp only [Obj.PROG_MISSES]; omega) (by simp only [Obj.PROG_STATE]; omega)
  · rfl

theorem rd_moveLegs (s : State) {j : Nat} (h : Unmoved e j) : rd (moveLegs e s) j = rd s j := by
  rw [moveLegs_eq]
  refine List.foldlRecOn (motive := fun t => rd t j = rd s j) _ _ (rd_legsMoved he s h.1) fun t ht u hu => ?_
  exact (rd_moveProg he t (List.mem_range.mp hu) h).trans ht

theorem samePlant_moveLeg (first : Nat) (s : State) (g : Nat) : SamePlant s (moveLeg e first s g) :=
  samePlant_of_cluster fun _ hj => rd_moveLeg he first s g fun q _ _ => by simp only [Obj.ENGINE_STATE]; omega

theorem samePlant_moveLegs (s : State) : SamePlant (legsMoved e s) (moveLegs e s) :=
  samePlant_of_cluster fun j hj => by
    have hstate : ∀ q, q < 8 → q ≠ e → j ≠ Obj.ENGINE_STATE q := fun q _ _ => by simp only [Obj.ENGINE_STATE]; omega
    rw [rd_moveLegs he s ⟨hstate, by omega⟩, rd_legsMoved he s hstate]

theorem unitOf_moveLeg_ne (first : Nat) (s : State) (g k : Nat) (h : k ≠ g → unitOf s.cl.legs k ≠ e) :
    legPresent s k = true → unitOf (moveLeg e first s g).cl.legs k ≠ e := by
  intro hpresent
  unfold moveLeg
  dsimp only
  split
  · rw [activateEngine_frame]
    exact unitOf_set_ne (noUnit_ne (by omega)) (standIn_ne (noUnit_ne (by omega))) h
  · next hstays =>
    by_cases hkg : k = g
    · subst hkg; simpa [hpresent] using hstays
    · exact h hkg

theorem unitOf_legsMoved_ne (s : State) {g : Nat} (hg : g < 6) :
    legPresent (legsMoved e s) g = true → unitOf (legsMoved e s).cl.legs g ≠ e := by
  unfold legsMoved
  refine foldl_establishes (P := fun k t => legPresent t k = true → unitOf t.cl.legs k ≠ e) (fun t k hpresent => ?_)
    (fun t k m hm hpresent => ?_) _ s (List.mem_range.mpr hg)
  · rw [legPresent_congr (samePlant_moveLeg he _ t k)] at hpresent
    exact unitOf_moveLeg_ne he _ t k k (fun hne => absurd rfl hne) hpresent
  · rw [legPresent_congr (samePlant_moveLeg he _ t k)] at hpresent
    exact unitOf_moveLeg_ne he _ t k m (fun _ => hm hpresent) hpresent

/-- When the work has moved, no present leg is on the engine that failed. -/
theorem unitOf_legs_moveLegs_ne (s : State) {g : Nat} (hpresent : legPresent (moveLegs e s) g = true) :
    unitOf (moveLegs e s).cl.legs g ≠ e := by
  obtain ⟨a, c, hmoved, hlegs⟩ := moveLegs_changes e s
  have hg : g < 6 := by unfold legPresent at hpresent; simp only [Bool.and_eq_true, decide_eq_true_eq] at hpresent; exact hpresent.1
  have hcl : (moveLegs e s).cl.legs = (legsMoved e s).cl.legs := by rw [hmoved]; exact hlegs
  rw [legPresent_congr (samePlant_moveLegs he s)] at hpresent
  rw [hcl]
  exact unitOf_legsMoved_ne he s hg hpresent

theorem unitOf_moveProg_ne (s : State) (u k : Nat) (h : k ≠ u → unitOf s.cl.progs k ≠ e) :
    unitOf (moveProg e s u).cl.progs k ≠ e := by
  unfold moveProg
  dsimp only
  split
  · obtain ⟨a, b, hrestored⟩ := restoreProg_changes u s
    rw [activateEngine_frame, hrestored]
    exact unitOf_set_ne (noUnit_ne (by omega)) (engineTarget_ne s _ (noUnit_ne (by omega))) h
  · next hstays =>
    by_cases hku : k = u
    · subst hku; exact hstays
    · exact h hku

/-- When the work has moved, no program is on the engine that failed. -/
theorem unitOf_progs_moveLegs_ne (s : State) {u : Nat} (hu : u < 8) : unitOf (moveLegs e s).cl.progs u ≠ e := by
  rw [moveLegs_eq]
  exact foldl_establishes (P := fun k t => unitOf t.cl.progs k ≠ e)
    (fun t k => unitOf_moveProg_ne he t k k fun hne => absurd rfl hne) (fun t k m hm => unitOf_moveProg_ne he t k m fun _ => hm) _ _
    (List.mem_range.mpr hu)

end

/-! ### LOOP_ENGINE_FAULT (R144) -/

/-- An engine has failed, and its work has not moved. -/
def engineFaulted (e : Nat) (s : State) : State := faultUnit .loopEngineFault Obj.ENGINE_FAULTS (Obj.ENGINE_STATE e) srcEngine e s

theorem exec_loopEngineFault {e : Nat} {s : State} (hf : alive s .fabric = true) (hlive : engineLive s e = true) :
    exec (.loopEngineFault e) s = .next (showPlaces (moveLegs e (engineFaulted e s))) := by
  show execLoopEngineFault e s = _
  unfold execLoopEngineFault failEngine
  rw [whenAlive_on _ hf, if_pos hlive]
  rfl

theorem exec_loopEngineFault_dead {e : Nat} {s : State} (hdead : engineLive s e = false) : exec (.loopEngineFault e) s = .next s :=
  congrArg Host.Outcome.next (whenAlive_self (if_neg (by simp [hdead])))

theorem loopEngineFault_completes {e : Nat} {s : State} (hf : alive s .fabric = true) (hlive : engineLive s e = true) :
    Completes (.loopEngineFault e) s fun t =>
      UnitFailed .loopEngineFault Obj.ENGINE_FAULTS (Obj.ENGINE_STATE e) srcEngine e s t
        ∧ (∀ g, legPresent t g = true → unitOf t.cl.legs g ≠ e) ∧ ∀ u, u < 8 → unitOf t.cl.progs u ≠ e := by
  have he := lt_of_engineLive hlive
  refine ⟨_, exec_loopEngineFault hf hlive, ?_, fun g hpresent => ?_, fun u hu => ?_⟩
  · refine unitFailed_of_faultUnit (by decide) (by simp only [Obj.ENGINE_FAULTS, Obj.ENGINE_STATE]; omega) ?_ ?_ ?_
    · obtain ⟨a, c, hmoved, -⟩ := moveLegs_changes e (engineFaulted e s)
      exact ⟨_, c, by rw [showPlaces_frame, hmoved]; rfl⟩
    · rw [rd_showPlaces _ (by decide)]
      exact rd_moveLegs he _ ⟨fun q hq _ => by simp only [Obj.ENGINE_FAULTS, Obj.ENGINE_STATE]; omega, by decide⟩
    · rw [rd_showPlaces _ (by simp only [Obj.ENGINE_STATE]; omega)]
      exact rd_moveLegs he _ ⟨fun q _ hne => by simp only [Obj.ENGINE_STATE]; omega, by simp only [Obj.ENGINE_STATE]; omega⟩
  · rw [legPresent_congr (samePlant_showPlaces _)] at hpresent
    rw [showPlaces_cl]
    exact unitOf_legs_moveLegs_ne he _ hpresent
  · rw [showPlaces_cl]
    exact unitOf_progs_moveLegs_ne he _ hu

/-! ### PAIR_SELF_TEST_END (R143, R144) -/

/-- The object that shows the state of unit 0 to 3, a pair, or 4 to 11, an engine. -/
def unitKey (unit : Nat) : Nat := if unit < 4 then Obj.PAIR_STATE unit else Obj.ENGINE_STATE (unit - 4)

/-- The memory of the unit has been written afresh. -/
def healUnit (unit : Nat) (s : State) : State := if unit < 4 then healInst 11 unit s else healInst 12 (unit - 4) s

theorem healUnit_frame (unit : Nat) (s : State) : healUnit unit s = { s with poison := (healUnit unit s).poison } := by
  unfold healUnit; split <;> rfl

theorem exec_pairSelfTestEnd {unit : Nat} {s : State} (passed : Bool) (hp : alive s .processing = true) (hu : unit < 12)
    (htest : rd s (unitKey unit) = usSelfTest) :
    exec (.pairSelfTestEnd unit passed) s =
      .next (showPlaces (wr (healUnit unit s) (unitKey unit) (if passed then usStandby else usRetired))) := by
  show execPairSelfTestEnd unit passed s = _
  unfold execPairSelfTestEnd
  rw [whenAlive_on _ hp]
  exact congrArg Host.Outcome.next (if_pos ⟨hu, htest⟩)

theorem pairSelfTestEnd_completes {unit : Nat} {s : State} (passed : Bool) (hp : alive s .processing = true) (hu : unit < 12)
    (htest : rd s (unitKey unit) = usSelfTest) :
    Completes (.pairSelfTestEnd unit passed) s fun t =>
      rd t (unitKey unit) = (if passed then usStandby else usRetired) ∧ t = { s with regs := t.regs, poison := t.poison } := by
  have hkey : unitKey unit < 0x31030C := by unfold unitKey; split <;> simp only [Obj.PAIR_STATE, Obj.ENGINE_STATE] <;> omega
  refine ⟨_, exec_pairSelfTestEnd passed hp hu htest, ?_, ?_⟩
  · rw [rd_showPlaces _ (.inl hkey), rd_wr_same]
  · rw [showPlaces_frame, healUnit_frame]; rfl

/-- Settles O19: moving the work of a unit away never touches the unit's own state, and leaves no work on it. -/
theorem controlUnitFailures : Obligations.ControlUnitFailures := by
  refine ⟨fun p s hp hlive => ?_, fun e s hf hlive => ?_, fun unit passed s hp hu => pairSelfTestEnd_completes passed hp hu,
    fun p s hdead hrest => exec_lockstepMismatch_dead hdead hrest, fun e s hdead => exec_loopEngineFault_dead hdead⟩
  · obtain ⟨t, hexec, ⟨hcounted, hstate, hraised, hevent, hframe⟩, hcoast, hitems⟩ := lockstepMismatch_completes hp hlive
    exact ⟨t, hexec, hcounted, hstate, hraised, ⟨_, hevent, rfl, rfl, rfl, rfl⟩, hcoast, hitems, hframe⟩
  · obtain ⟨t, hexec, ⟨hcounted, hstate, hraised, hevent, hframe⟩, hlegs, hprogs⟩ := loopEngineFault_completes hf hlive
    exact ⟨t, hexec, hcounted, hstate, hraised, ⟨_, hevent, rfl, rfl, rfl, rfl⟩, hlegs, hprogs, hframe⟩

end Sys2Proof.Proofs

namespace Sys2Proof.Proofs

open Sys2Proof.Machine Sys2Proof.Claims Sys2Proof.Laws

/-! ### The pairs restart, and are ready again (R192, R194, R195) -/

/-- The cluster whose pairs restart: it neither serves nor waits to take its items up. -/
def haltItems (c : Cluster) : Cluster :=
  { c with takeUp := false, serving := false, refMiss := List.replicate 5 0, movedItems := [] }

/-- A pair takes a pair reset, unless it is retired. -/
def restartPair (s : State) (p : Nat) : State :=
  if rd s (Obj.PAIR_STATE p) = usRetired then s else wr s (Obj.PAIR_STATE p) usRestarting

/-- The state of a pair after the restart. -/
def restartedTo (st : Nat) : Nat := if st = usRetired then usRetired else usRestarting

theorem restartedTo_idem (st : Nat) : restartedTo (restartedTo st) = restartedTo st := by unfold restartedTo; split <;> simp_all

theorem restartPairs_eq (s : State) : restartPairs s = setCl haltItems ((List.range 4).foldl restartPair s) := rfl

theorem rd_restartPair_own (s : State) (p : Nat) : rd (restartPair s p) (Obj.PAIR_STATE p) = restartedTo (rd s (Obj.PAIR_STATE p)) := by
  unfold restartPair restartedTo
  split
  · next h => exact h
  · exact rd_wr_same _ _ _

theorem rd_restartPair_other (s : State) (p j : Nat) (h : j ≠ Obj.PAIR_STATE p) : rd (restartPair s p) j = rd s j := by
  unfold restartPair
  split
  · rfl
  · exact rd_wr_other s _ h

theorem pairState_injective : Function.Injective Obj.PAIR_STATE := fun p q h => by simp only [Obj.PAIR_STATE] at h; omega

theorem restartPairs_frame (s : State) : restartPairs s = { s with regs := (restartPairs s).regs, cl := haltItems s.cl } := by
  have hstates : (List.range 4).foldl restartPair s = { s with regs := ((List.range 4).foldl restartPair s).regs } := by
    refine List.foldlRecOn (motive := fun t : State => t = { s with regs := t.regs }) _ _ rfl fun t ht p _ => ?_
    unfold restartPair
    split
    · exact ht
    · rw [ht]; rfl
  rw [restartPairs_eq, hstates]
  rfl

theorem rd_restartPairs_pair (s : State) {p : Nat} (hp : p < 4) :
    rd (restartPairs s) (Obj.PAIR_STATE p) = if rd s (Obj.PAIR_STATE p) = usRetired then usRetired else usRestarting := by
  rw [restartPairs_eq, rd_setCl,
    rd_foldl_own pairState_injective restartedTo_idem rd_restartPair_own rd_restartPair_other, if_pos (List.mem_range.mpr hp)]
  rfl

theorem rd_restartPairs_other (s : State) {j : Nat} (h : ∀ p, p < 4 → j ≠ Obj.PAIR_STATE p) : rd (restartPairs s) j = rd s j := by
  rw [restartPairs_eq, rd_setCl]
  exact rd_foldl_other rd_restartPair_other _ s fun p hp => h p (List.mem_range.mp hp)

/-- A restarting pair is back in service. -/
def wakePair (s : State) (p : Nat) : State :=
  if rd s (Obj.PAIR_STATE p) = usRestarting then wr s (Obj.PAIR_STATE p) usActive else s

/-- The state of a pair once the restarted ones are ready. -/
def readyState (st : Nat) : Nat := if st = usRestarting then usActive else st

theorem readyState_idem (st : Nat) : readyState (readyState st) = readyState st := by unfold readyState; split <;> simp_all

theorem rd_wakePair_own (s : State) (p : Nat) : rd (wakePair s p) (Obj.PAIR_STATE p) = readyState (rd s (Obj.PAIR_STATE p)) := by
  unfold wakePair readyState
  split
  · exact rd_wr_same _ _ _
  · rfl

theorem rd_wakePair_other (s : State) (p j : Nat) (h : j ≠ Obj.PAIR_STATE p) : rd (wakePair s p) j = rd s j := by
  unfold wakePair
  split
  · exact rd_wr_other s _ h
  · rfl

/-- Every restarting pair is back in service. -/
def wakePairs (s : State) : State := (List.range 4).foldl wakePair s

theorem wakePairs_frame (s : State) : wakePairs s = { s with regs := (wakePairs s).regs } := by
  refine List.foldlRecOn (motive := fun t : State => t = { s with regs := t.regs }) _ _ rfl fun t ht p _ => ?_
  unfold wakePair
  split
  · rw [ht]; rfl
  · exact ht

theorem rd_wakePairs (s : State) {p : Nat} (hp : p < 4) :
    rd (wakePairs s) (Obj.PAIR_STATE p) = if rd s (Obj.PAIR_STATE p) = usRestarting then usActive else rd s (Obj.PAIR_STATE p) := by
  unfold wakePairs
  rw [rd_foldl_own pairState_injective readyState_idem rd_wakePair_own rd_wakePair_other, if_pos (List.mem_range.mpr hp)]
  rfl

/-- The cluster with item `i` on unit `dest`. -/
def putItem (i dest : Nat) (c : Cluster) : Cluster := { c with items := c.items.set i dest }

/-- An item whose unit is not live goes to its configured pair, else to a target. -/
def settleItem (s : State) (i : Nat) : State :=
  if pairLive s (unitOf s.cl.items i) then s
  else setCl (putItem i (if pairLive s (rd s (Obj.ITEM_PAIR i)) then rd s (Obj.ITEM_PAIR i) else itemTarget s i)) s

/-- The restarted pairs are in service, and every item has its unit. -/
def pairsSettled (s : State) : State := (List.range 5).foldl settleItem (wakePairs s)

/-- Every present item has a live unit. -/
def allItemsLive (s : State) : Bool := (List.range 5).all (fun i => !itemPresent s i || pairLive s (unitOf s.cl.items i))

theorem allItemsLive_iff (s : State) :
    allItemsLive s = true ↔ ∀ i, i < 5 → itemPresent s i = true → pairLive s (unitOf s.cl.items i) = true := by
  simp only [allItemsLive, List.all_eq_true, List.mem_range, Bool.or_eq_true, Bool.not_eq_true', ← Bool.not_eq_true, imp_iff_not_or]

/-- The cluster that takes its items up at the next tide start, or does not. -/
def readyToTakeUp (all : Bool) (c : Cluster) : Cluster := { c with takeUp := all }

/-- The pairs take their items up at the next tide start when every present item has a live unit. -/
def offerTakeUp (s : State) : State := showPlaces (setCl (readyToTakeUp (allItemsLive s)) s)

theorem pairsReady_eq (s : State) : pairsReady s = offerTakeUp (pairsSettled s) := by
  unfold pairsReady
  exact congrArg offerTakeUp (show _ = pairsSettled s from rfl)

theorem offerTakeUp_frame (s : State) :
    offerTakeUp s = { s with regs := (offerTakeUp s).regs, cl := readyToTakeUp (allItemsLive s) s.cl } := showPlaces_frame _

theorem rd_offerTakeUp (s : State) {j : Nat} (h : j < 0x31030C ∨ 0x315000 ≤ j) : rd (offerTakeUp s) j = rd s j := rd_showPlaces _ h

theorem offerTakeUp_iff (s : State) :
    (offerTakeUp s).cl.takeUp = true ↔
      ∀ i, i < 5 → itemPresent (offerTakeUp s) i = true → pairLive (offerTakeUp s) (unitOf (offerTakeUp s).cl.items i) = true := by
  have hpresent : ∀ i, itemPresent (offerTakeUp s) i = itemPresent s i := fun i =>
    itemPresent_congr (samePlant_of_cluster fun _ hj => rd_offerTakeUp s (by omega)) i
  have hlive : ∀ p, pairLive (offerTakeUp s) p = pairLive s p := fun p =>
    pairLive_congr fun hp => rd_offerTakeUp s (by simp only [Obj.PAIR_STATE]; omega)
  have hcl : (offerTakeUp s).cl = readyToTakeUp (allItemsLive s) s.cl := by rw [offerTakeUp_frame]
  simp only [hpresent, hlive, hcl]
  exact allItemsLive_iff s

/-- Settling the items changes where they are, and no object. -/
theorem pairsSettled_changes (s : State) : ∃ xs, pairsSettled s = { wakePairs s with cl := { s.cl with items := xs } } := by
  refine List.foldlRecOn (motive := fun t : State => ∃ xs, t = { wakePairs s with cl := { s.cl with items := xs } }) _ _
    ⟨s.cl.items, by rw [wakePairs_frame]⟩ ?_
  rintro t ⟨xs, rfl⟩ i -
  unfold settleItem
  split
  · exact ⟨xs, rfl⟩
  · exact ⟨_, rfl⟩

/-! ### COAST_END (R194) -/

theorem exec_coastEnd {s : State} (hp : alive s .processing = true) (hidle : s.cl.serving = false) :
    exec .coastEnd s = .next (pairsReady s) := by
  show execCoastEnd s = _
  unfold execCoastEnd
  rw [whenAlive_on _ hp, if_neg (by simp [hidle])]

theorem coastEnd_completes {s : State} (hp : alive s .processing = true) (hidle : s.cl.serving = false) :
    Completes .coastEnd s fun t =>
      (∀ p, p < 4 → rd t (Obj.PAIR_STATE p) = if rd s (Obj.PAIR_STATE p) = usRestarting then usActive else rd s (Obj.PAIR_STATE p))
        ∧ (t.cl.takeUp = true ↔ ∀ i, i < 5 → itemPresent t i = true → pairLive t (unitOf t.cl.items i) = true)
        ∧ t.cl.serving = false ∧ t = { s with regs := t.regs, cl := t.cl } := by
  refine ⟨_, exec_coastEnd hp hidle, ?_⟩
  obtain ⟨xs, hsettled⟩ := pairsSettled_changes s
  rw [pairsReady_eq]
  refine ⟨fun p hlt => ?_, offerTakeUp_iff _, ?_, ?_⟩
  · rw [rd_offerTakeUp _ (by simp only [Obj.PAIR_STATE]; omega), ← rd_wakePairs s hlt]
    exact rd_of_regs (by rw [hsettled]) _
  · rw [offerTakeUp_frame, hsettled]; exact hidle
  · rw [offerTakeUp_frame, hsettled, wakePairs_frame]

/-! ### CONTROL_CAPACITY_LOST (R145) -/

/-- The event of a capacity loss has been delivered. -/
def lossTold (i : Nat) (s : State) : State := emit .controlCapacityLost i (leBytes 1 i) s

theorem exec_controlCapacityLost_item {i : Nat} {s : State} (hp : alive s .processing = true) (hi : i < 5) (hlost : itemLost s i = true) :
    exec (.controlCapacityLost i) s = .next (capacityLost i s) := by
  show execControlCapacityLost i s = _
  unfold execControlCapacityLost
  rw [whenAlive_on _ hp, if_pos (by simp [hi, hlost])]

theorem exec_controlCapacityLost_leg {i : Nat} {s : State} (hp : alive s .processing = true) (hi : 5 ≤ i)
    (hpresent : legPresent s (i - 5) = true) (hdead : engineLive s (unitOf s.cl.legs (i - 5)) = false) :
    exec (.controlCapacityLost i) s = .next (capacityLost i s) := by
  show execControlCapacityLost i s = _
  unfold execControlCapacityLost
  rw [whenAlive_on _ hp, if_pos (by simp [hi, hpresent, hdead])]

theorem capacityLost_leg {i : Nat} {s : State} (hi : 5 ≤ i) (hlo : stCharging ≤ station s) (hhi : station s ≤ stRampDown) :
    capacityLost i s = schedule stBlocked causeCapacity 0 (lossTold i s) := by
  unfold capacityLost
  dsimp only
  rw [if_pos hi, if_pos ⟨hlo, hhi⟩]
  rfl

theorem capacityLost_running {i : Nat} {s : State} (hi : i < 5) (h : station s = stRunning ∨ station s = stRideThrough) :
    capacityLost i s = schedule stCoast causeCapacity 0 (lossTold i s) := by
  unfold capacityLost
  dsimp only
  rw [if_neg (by omega), if_pos h]
  rfl

theorem capacityLost_coast {i : Nat} {s : State} (hi : i < 5) (h : station s = stCoast) : capacityLost i s = lossTold i s := by
  unfold capacityLost
  dsimp only
  rw [if_neg (by omega), if_neg (by simp [h]), if_pos h]
  rfl

theorem capacityLost_rampDown {i : Nat} {s : State} (hi : i < 5) (h : station s = stRampDown) :
    capacityLost i s = restartPairs (wr (lossTold i s) Obj.TRG_STATE 2) := by
  unfold capacityLost
  dsimp only
  rw [if_neg (by omega), if_neg (by simp [h]), if_neg (by simp [h]), if_pos h]
  rfl

theorem itemLost_rampDown {i : Nat} {s : State} (hp : alive s .processing = true) (hi : i < 5) (hlost : itemLost s i = true)
    (h : station s = stRampDown) :
    Completes (.controlCapacityLost i) s fun t =>
      rd t Obj.TRG_STATE = 2 ∧ t.cl.serving = false ∧ Raised .controlCapacityLost i s t ∧ t.sm = s.sm
        ∧ ∀ p, p < 4 → rd t (Obj.PAIR_STATE p) = if rd s (Obj.PAIR_STATE p) = usRetired then usRetired else usRestarting := by
  refine ⟨_, (exec_controlCapacityLost_item hp hi hlost).trans (congrArg _ (capacityLost_rampDown hi h)), ?_, ?_, ?_, ?_,
    fun p hlt => ?_⟩
  · rw [rd_restartPairs_other _ fun p hlt => by simp only [Obj.TRG_STATE, Obj.PAIR_STATE]; omega, rd_wr_same]
  · rw [restartPairs_frame]; rfl
  · exact raised_congr (raised_emit _ i (leBytes 1 i) s) rfl (by rw [restartPairs_frame]; rfl)
  · rw [restartPairs_frame]
    unfold lossTold
    rw [wr_sm, emit_frame]
  · rw [rd_restartPairs_pair _ hlt, rd_wr_other _ _ (by simp only [Obj.TRG_STATE, Obj.PAIR_STATE]; omega), lossTold,
      rd_emit_other _ _ _ _ (by simp only [Obj.LOG_DROPPED, Obj.PAIR_STATE]; omega)]

/-! ### COAST_LIMIT_EXPIRY (R194) -/

theorem exec_coastLimitExpiry {s : State} {t0 : Nat} (hf : alive s .fabric = true) (hfrom : s.cl.coastFrom = some t0)
    (hcoast : station s = stCoast) (hdone : s.cl.coastDone = false) :
    exec .coastLimitExpiry s = .next (coastOverrun 2 (runTo ((t0 + rd s Obj.COAST_LIMIT * 1000000) * nsUnit) s)) := by
  show execCoastLimitExpiry s = _
  unfold execCoastLimitExpiry
  rw [whenAlive_on _ hf]
  simp only [hfrom, hcoast, hdone, and_self, if_true]

/-- An overrun of COAST is counted and adds one event of the source; the ramp-down it asks for changes no time. -/
theorem coastOverrun_counts (arg : Nat) (s : State) :
    Counted 32 Obj.COAST_OVERRUNS s (coastOverrun arg s) ∧ (coastOverrun arg s).time = s.time
      ∧ (coastOverrun arg s).faultEvents = s.faultEvents ++ [stationFault srcCoast 0] :=
  ⟨rd_count_same _ _, rfl, rfl⟩

theorem coastLimitExpiry_completes {s : State} {t0 : Nat} (hf : alive s .fabric = true) (hfrom : s.cl.coastFrom = some t0)
    (hcoast : station s = stCoast) (hdone : s.cl.coastDone = false) (hinc : 0 < s.time.inc) :
    Completes .coastLimitExpiry s fun t =>
      Counted 32 Obj.COAST_OVERRUNS s t ∧ (t0 + rd s Obj.COAST_LIMIT * 1000000) * nsUnit ≤ t.time.acc
        ∧ ∃ e, t.faultEvents = s.faultEvents ++ [e] ∧ e.family = 0 ∧ e.source = srcCoast ∧ e.n = 1 := by
  obtain ⟨hcounted, htime, hevent⟩ := coastOverrun_counts 2 (runTo ((t0 + rd s Obj.COAST_LIMIT * 1000000) * nsUnit) s)
  refine ⟨_, exec_coastLimitExpiry hf hfrom hcoast hdone, ?_, ?_, stationFault srcCoast 0, ?_, rfl, rfl, rfl⟩
  · unfold Counted at hcounted ⊢
    rw [hcounted, rd_runTo _ _ (not_mem_runKeys (by decide))]
  · rw [htime, runTo_acc]; exact target_le_edgesTo _ s hinc
  · rw [hevent, runTo_frame]

/-! ### The end of a ramp-down (R197) -/

theorem exec_rampDownComplete {s : State} (hf : alive s .fabric = true) (hramp : station s = stRampDown) (hdown : rampedDown s = true) :
    exec .rampDownComplete s = .next (schedule stBlocked causeRampEnd 0 s) := by
  show execRampDownComplete s = _
  unfold execRampDownComplete
  rw [whenAlive_on _ hf, if_pos ⟨hramp, hdown⟩]

theorem exec_rampDownGraceExpiry {s : State} {t0 : Nat} (hf : alive s .fabric = true) (hramp : station s = stRampDown)
    (hfrom : s.cl.rampFrom = some t0) :
    exec .rampDownGraceExpiry s = .next (schedule stBlocked causeRampEnd 0 (emit .rampDownIncomplete noInst []
      (runTo ((t0 + (rd s Obj.RAMP_DOWN_TIME + rd s Obj.RAMP_DOWN_GRACE) * 1000000) * nsUnit) s))) := by
  show execRampDownGraceExpiry s = _
  unfold execRampDownGraceExpiry
  rw [whenAlive_on _ hf]
  simp only [hfrom, hramp, if_true]

/-- Elsewhere than in RAMP-DOWN no ramp ends. -/
theorem exec_rampEnd_elsewhere {s : State} (h : station s ≠ stRampDown) :
    exec .rampDownComplete s = .next s ∧ exec .rampDownGraceExpiry s = .next s := by
  refine ⟨congrArg Host.Outcome.next (whenAlive_self (if_neg fun ⟨hramp, _⟩ => h hramp)),
    congrArg Host.Outcome.next (whenAlive_self ?_)⟩
  split
  · exact if_neg h
  · rfl

/-- A change to BLOCKED takes effect at the next tide start. -/
theorem dueTide_blocked (s : State) : dueTide s stBlocked = tideNow s + 1 := by unfold dueTide; rw [if_pos (.inl rfl)]

/-- Time that runs does not move the tide of a change to BLOCKED. -/
theorem dueTide_runTo_blocked (target : Nat) (s : State) : dueTide (runTo target s) stBlocked = dueTide s stBlocked := by
  rw [dueTide_blocked, dueTide_blocked]
  exact congrArg (· + 1) (rd_runTo target s (not_mem_runKeys (by decide)))

theorem rampDownGraceExpiry_completes {s : State} {t0 : Nat} (hf : alive s .fabric = true) (hramp : station s = stRampDown)
    (hfrom : s.cl.rampFrom = some t0) (hinc : 0 < s.time.inc) :
    Completes .rampDownGraceExpiry s fun t =>
      Scheduled stBlocked causeRampEnd 0 s t ∧ Raised .rampDownIncomplete noInst s t
        ∧ (t0 + (rd s Obj.RAMP_DOWN_TIME + rd s Obj.RAMP_DOWN_GRACE) * 1000000) * nsUnit ≤ t.time.acc
        ∧ t = { s with regs := t.regs, log := t.log, sm := t.sm, time := t.time, pmc := t.pmc } := by
  refine ⟨_, exec_rampDownGraceExpiry hf hramp hfrom, ?_⟩
  generalize htarget : (t0 + (rd s Obj.RAMP_DOWN_TIME + rd s Obj.RAMP_DOWN_GRACE) * 1000000) * nsUnit = target
  obtain ⟨-, hraised, -, hframe⟩ := schedule_emit stBlocked causeRampEnd 0 .rampDownIncomplete noInst [] (runTo target s)
  refine ⟨scheduled_schedule ((dueTide_emit _ _ _ _ _).trans (dueTide_runTo_blocked target s)) _ _,
    raised_congr hraised (by rw [runTo_frame]) rfl, ?_, ?_⟩
  · have htime : (schedule stBlocked causeRampEnd 0 (emit .rampDownIncomplete noInst [] (runTo target s))).time =
        (runTo target s).time := by rw [hframe]
    rw [htime, runTo_acc]
    exact target_le_edgesTo target s hinc
  · rw [hframe, runTo_frame]

/-- Settles O20: each command's own branch, over the restart of the pairs, the running of time and the scheduling of a change. -/
theorem capacityLossCoastAndRampDown : Obligations.CapacityLossCoastAndRampDown := by
  refine ⟨⟨fun i s hp hi hlost => ⟨fun hrun => ?_, fun hcoast => ?_, itemLost_rampDown hp hi hlost⟩,
      fun i s hp hi hpresent hdead hlo hhi => ?_, fun s hp hidle => coastEnd_completes hp hidle,
      fun s t0 hf hfrom hcoast hdone hinc => coastLimitExpiry_completes hf hfrom hcoast hdone hinc⟩,
    fun s hf hramp hdown => ?_, fun s t0 hf hramp hfrom hinc => rampDownGraceExpiry_completes hf hramp hfrom hinc,
    fun s h => exec_rampEnd_elsewhere h⟩
  · exact ⟨_, (exec_controlCapacityLost_item hp hi hlost).trans (congrArg _ (capacityLost_running hi hrun)),
      schedule_emit _ _ _ _ _ _ s⟩
  · exact ⟨_, (exec_controlCapacityLost_item hp hi hlost).trans (congrArg _ (capacityLost_coast hi hcoast)), raised_emit _ _ _ s,
      emit_frame s _ _ _, fun j hj => rd_emit_other s _ _ _ (by simpa using hj)⟩
  · exact ⟨_, (exec_controlCapacityLost_leg hp hi hpresent hdead).trans (congrArg _ (capacityLost_leg hi hlo hhi)),
      schedule_emit _ _ _ _ _ _ s⟩
  · refine ⟨_, exec_rampDownComplete hf hramp hdown, rfl, rfl, ?_⟩
    rw [← dueTide_blocked s]
    rfl

end Sys2Proof.Proofs

namespace Sys2Proof.Proofs

open Sys2Proof.Machine Sys2Proof.Claims Sys2Proof.Laws

/-! ### Objects that take 1 and nothing else (R7) -/

/-- The object exists, is an U8 that is not persistent, and takes the value 1 only. -/
abbrev Trigger (key : Nat) : Prop :=
  (findRow (keyIndex key) (keySub key)).map (fun r => (r.persist, r.ty, r.range)) = some (false, .u8, .within 1 1)

theorem volatile_of_trigger {key : Nat} (h : Trigger key) : Volatile key .u8 := by
  obtain ⟨r, hr, he⟩ := Option.map_eq_some_iff.mp h
  simp only [Prod.mk.injEq] at he
  obtain ⟨hp, hty, -⟩ := he
  simp [Volatile, hr, hp, hty]

/-- A number that the range from 1 to 1 holds. -/
theorem eq_one_of_holds {raw : Nat} (h : (Range.within 1 1).holds .u8 raw = true) : raw = 1 := by
  simp only [Range.holds, ObjTy.value, Bool.and_eq_true] at h
  have hle : (raw : Rat) ≤ 1 := of_decide_eq_true h.2
  have hge : (1 : Rat) ≤ raw := of_decide_eq_true h.1
  exact_mod_cast le_antisymm hle hge

/-- Checks that pass have found the value 1 in a write of such an object. -/
theorem leNat_of_trigger {k key : Nat} {bs : List Byte} {s : State} (h : Trigger key) (hcode : ∀ raw, writtenCode key raw = raw)
    (hpass : Passes k key bs s) : leNat bs = 1 := by
  obtain ⟨r, hr, he⟩ := Option.map_eq_some_iff.mp h
  simp only [Prod.mk.injEq] at he
  obtain ⟨-, hty, hrange⟩ := he
  have hok := rangeOk_of_checks hpass hr
  unfold rangeOk at hok
  simp only [hty, valueOk, hrange, objKey_keyIndex_keySub, writeRaw, hcode, Bool.and_eq_true] at hok
  exact eq_one_of_holds hok.1.2

theorem trigger_rebalance : Trigger Obj.REBALANCE := by decide +kernel
theorem trigger_plausClear : Trigger Obj.PLAUS_CLEAR := by decide +kernel
theorem trigger_coreRestart : Trigger Obj.CORE_RESTART := by decide +kernel
theorem trigger_rampDownRequest : Trigger Obj.RAMP_DOWN_REQUEST := by decide +kernel
theorem trigger_scanAbort : Trigger Obj.SCAN_ABORT := by decide +kernel
theorem volatile_islandClear : ∀ c < 2, Volatile (Obj.ISLAND_CLEAR c) .u8 := by decide +kernel
theorem volatile_traceControl : Volatile Obj.TRACE_CONTROL .u8 := by decide +kernel

/-! ### Writes of the control, grid and solar objects -/

/-- A grid or control object that is not P. -/
theorem applyWrite_control {k seq key : Nat} {r : ObjRow} {bs : List Byte} {s : State} (hp : r.persist = false) (hlo : 0x300000 ≤ key)
    (hhi : key < 0x330000) : applyWrite k seq key r bs s = writeControl key (leNat bs) s := by
  unfold applyWrite keyIndex
  dsimp only
  rw [if_neg (by simp [hp])]
  simp only [Obj.STATE_REQUEST, Obj.ALARM_ACK]
  iterate 11 rw [if_neg (by omega)]
  rw [if_pos (by omega)]

/-- `namedRequest_leaves` for a rule that, run in the state `booked k s`, leaves `v`: the effect `u`, and what the booking changed. -/
theorem bookedWrite_leaves {k key : Nat} {bs : List Byte} {ks : List Nat} {r : ObjRow} {s u v : State} (h : MayWrite k key bs s)
    (hrow : findRow (keyIndex key) (keySub key) = some r)
    (hv : applyWrite k ((sess s k).execd + 1) key r bs (booked k s) = (v, 0))
    (hu : ∃ a, v = { u with regs := a, sessions := (booked k s).sessions, pmc := (booked k s).pmc })
    (hsame : u.rp = s.rp ∧ u.images = s.images) (hks : ∀ j ∈ ks, Apart j) (hrd : ∀ j, j ∉ ks → rd v j = rd (booked k s) j) :
    WriteLeaves k ks u v s (namedRequest k 0x11 key bs s) := by
  obtain ⟨a, hu⟩ := hu
  have hs : ∀ j, sess v j = sess (booked k s) j := fun j => by unfold sess; rw [hu]
  exact namedRequest_leaves h hrow hv ⟨a, _, _, hu⟩ hsame.1 hsame.2 (fun j hj => (hs j).trans (sess_booked_other s hj))
    ((congrArg Session.held (hs k)).trans (sess_booked_field k s Session.held fun _ _ => rfl)) hks hrd

/-- `volatileWrite_leaves` for a grid or control object whose rule, given the value written, has the effect `effect`. -/
theorem controlWrite_leaves {k key v : Nat} {bs : List Byte} {ks : List Nat} {s u : State} (effect : State → State)
    (h : MayWrite k key bs s) (hrow : Volatile key .u8) (hlo : 0x300000 ≤ key) (hhi : key < 0x330000) (hval : leNat bs = v)
    (hv : writeControl key v (booked k s) = (effect (booked k s), 0))
    (hu : ∀ a b c, ∃ a', effect { s with regs := a, sessions := b, pmc := c } = { u with regs := a', sessions := b, pmc := c })
    (hsame : u.rp = s.rp ∧ u.images = s.images) (hks : ∀ j ∈ ks, Apart j) (hrd : ∀ x j, j ∉ ks → rd (effect x) j = rd x j) :
    WriteLeaves k ks u (effect (booked k s)) s (namedRequest k 0x11 key bs s) :=
  volatileWrite_leaves effect h hrow (fun _ hp => by rw [applyWrite_control hp hlo hhi, hval, hv]) hu hsame hks hrd

/-! ### REBALANCE and PLAUS_CLEAR (R143, R149) -/

/-- The cluster whose items are to return to their configured units. -/
def askRebalance (c : Cluster) : Cluster := { c with rebalance := true }

theorem rebalance_completes {k v : Nat} {s : State} (h : MayWriteN k Obj.REBALANCE v s) :
    Completes (.rebalance k v) s fun t => Done k [] { s with cl := t.cl } s t ∧ t.cl = { s.cl with rebalance := true } := by
  have hleaves := controlWrite_leaves (ks := []) (setCl askRebalance) (u := setCl askRebalance s) h (volatile_of_trigger trigger_rebalance)
    (by decide) (by decide) (leNat_of_trigger trigger_rebalance (fun _ => rfl) h.2) rfl (fun a b c => ⟨_, rfl⟩) ⟨rfl, rfl⟩ (by simp)
    (fun x j _ => rfl)
  refine completes_write rfl hleaves ?_
  rintro t ⟨hdone, -, -⟩
  have hcl : t.cl = askRebalance s.cl := by rw [frame_of_done hdone]; rfl
  exact ⟨by rw [hcl]; exact hdone, hcl⟩

/-- The flags of the plausibility checks are zero. -/
def clearPlaus (s : State) : State := wrs s [(Obj.PLAUS_FLAGS, 0), (Obj.SENSOR_FLAGS, 0), (Obj.SUM_CHECK_FLAGS, 0)]

theorem plausClear_completes {k v : Nat} {s : State} (h : MayWriteN k Obj.PLAUS_CLEAR v s) :
    Completes (.plausClear k v) s fun t =>
      Done k [Obj.PLAUS_FLAGS, Obj.SENSOR_FLAGS, Obj.SUM_CHECK_FLAGS] s s t ∧ rd t Obj.PLAUS_FLAGS = 0 ∧ rd t Obj.SENSOR_FLAGS = 0
        ∧ rd t Obj.SUM_CHECK_FLAGS = 0 := by
  have hleaves := controlWrite_leaves (ks := [Obj.PLAUS_FLAGS, Obj.SENSOR_FLAGS, Obj.SUM_CHECK_FLAGS]) clearPlaus (u := s) h
    (volatile_of_trigger trigger_plausClear) (by decide) (by decide) (leNat_of_trigger trigger_plausClear (fun _ => rfl) h.2) rfl
    (fun a b c => ⟨_, rfl⟩) ⟨rfl, rfl⟩ (by decide) (fun x j hj => rd_wrs_other x _ (by simpa [eq_comm] using hj))
  refine completes_write rfl hleaves ?_
  rintro t ⟨hdone, -, hobj⟩
  refine ⟨hdone, ?_, ?_, ?_⟩
  · rw [hobj _ (by decide)]; exact (rd_wr_other _ _ (by decide)).trans ((rd_wr_other _ _ (by decide)).trans (rd_wr_same _ _ _))
  · rw [hobj _ (by decide)]; exact (rd_wr_other _ _ (by decide)).trans (rd_wr_same _ _ _)
  · rw [hobj _ (by decide)]; exact rd_wr_same _ _ _

/-! ### TRACE_CONTROL (R158) -/

/-- The value that a named write of `TRACE_CONTROL` carries. -/
theorem leNat_traceControl {v : Nat} (hv : v < 3) : leNat (namedBytes Obj.TRACE_CONTROL v) = v :=
  leNat_namedBytes volatile_traceControl (by simp only [ObjTy.size]; omega)

/-- `TRACE_CONTROL` takes its value, and the trace its state. -/
def controlTrace (v st : Nat) (s : State) : State := wr (wr s Obj.TRACE_CONTROL v) Obj.TRACE_STATE st

theorem rd_controlTrace_other {v st j : Nat} (s : State) (h : j ∉ [Obj.TRACE_CONTROL, Obj.TRACE_STATE]) :
    rd (controlTrace v st s) j = rd s j := by
  simp only [List.mem_cons, List.not_mem_nil, or_false, not_or] at h
  exact (rd_wr_other _ _ h.2).trans (rd_wr_other _ _ h.1)

/-- A write of 1 in IDLE or DONE arms an empty trace. -/
theorem writeTraceControl_arm {s : State} (h : rd s Obj.TRACE_STATE = trIdle ∨ rd s Obj.TRACE_STATE = trDone) :
    writeControl Obj.TRACE_CONTROL 1 s = (controlTrace 1 trArming { s with trace := TraceUnit.empty }, 0) := by
  show writeTraceControl 1 s = _
  unfold writeTraceControl
  dsimp only
  rw [if_neg (by decide), if_neg (by decide), if_pos rfl, if_pos h]
  rfl

/-- A write of 2 fires an armed manual trace. -/
theorem writeTraceControl_fire {s : State} (h : rd s Obj.TRACE_STATE = trArmed) (hkind : rd s Obj.TRACE_TRIGGER_KIND = 0) :
    writeControl Obj.TRACE_CONTROL 2 s = (traceFire (wr s Obj.TRACE_CONTROL 2), 0) := by
  show writeTraceControl 2 s = _
  unfold writeTraceControl
  dsimp only
  rw [if_neg (by decide), if_neg (by decide), if_neg (by decide), if_pos ⟨h, (rd_wr_other s _ (by decide)).trans hkind⟩]
  rfl

theorem traceArm_completes {k : Nat} {s : State} (h : MayWriteN k Obj.TRACE_CONTROL 1 s)
    (hst : rd s Obj.TRACE_STATE = trIdle ∨ rd s Obj.TRACE_STATE = trDone) :
    Completes (.traceArm k) s fun t =>
      Done k [Obj.TRACE_CONTROL, Obj.TRACE_STATE] { s with trace := TraceUnit.empty } s t ∧ rd t Obj.TRACE_CONTROL = 1
        ∧ rd t Obj.TRACE_STATE = trArming := by
  have hleaves := controlWrite_leaves (ks := [Obj.TRACE_CONTROL, Obj.TRACE_STATE])
    (fun x => controlTrace 1 trArming { x with trace := TraceUnit.empty }) (u := { s with trace := TraceUnit.empty }) h
    volatile_traceControl (by decide) (by decide) (leNat_traceControl (by decide))
    (writeTraceControl_arm (by rw [rd_booked_apart h.1 (by decide)]; exact hst))
    (fun a b c => ⟨_, rfl⟩) ⟨rfl, rfl⟩ (by decide) (fun x j hj => rd_controlTrace_other { x with trace := TraceUnit.empty } hj)
  refine completes_write rfl hleaves ?_
  rintro t ⟨hdone, -, hobj⟩
  refine ⟨hdone, ?_, ?_⟩
  · rw [hobj _ (by decide)]; exact (rd_wr_other _ _ (by decide)).trans (rd_wr_same _ _ _)
  · rw [hobj _ (by decide)]; exact rd_wr_same _ _ _

theorem traceManualTrigger_completes {k : Nat} {s : State} (h : MayWriteN k Obj.TRACE_CONTROL 2 s) (hst : rd s Obj.TRACE_STATE = trArmed)
    (hkind : rd s Obj.TRACE_TRIGGER_KIND = 0) :
    Completes (.traceManualTrigger k) s fun t =>
      Done k [Obj.TRACE_CONTROL, Obj.TRACE_STATE, Obj.TRACE_TRIGGER_TIDE] s s t ∧ rd t Obj.TRACE_STATE = trFilling
        ∧ rd t Obj.TRACE_TRIGGER_TIDE = tideNow s := by
  have hleaves := controlWrite_leaves (ks := [Obj.TRACE_CONTROL, Obj.TRACE_STATE, Obj.TRACE_TRIGGER_TIDE])
    (fun x => traceFire (wr x Obj.TRACE_CONTROL 2)) (u := s) h
    volatile_traceControl (by decide) (by decide) (leNat_traceControl (by decide))
    (writeTraceControl_fire (by rw [rd_booked_apart h.1 (by decide)]; exact hst) (by rw [rd_booked_apart h.1 (by decide)]; exact hkind))
    (fun a b c => ⟨_, rfl⟩) ⟨rfl, rfl⟩ (by decide) (fun x j hj => by
      simp only [List.mem_cons, List.not_mem_nil, or_false, not_or] at hj
      obtain ⟨hcontrol, hstate, htide⟩ := hj
      rw [rd_traceFire_other _ hstate htide, rd_wr_other x _ hcontrol])
  refine completes_write rfl hleaves ?_
  rintro t ⟨hdone, -, hobj⟩
  refine ⟨hdone, ?_, ?_⟩
  · rw [hobj _ (by decide), rd_traceFire_state]
  · rw [hobj _ (by decide), rd_traceFire_tide]
    exact (rd_wr_other _ _ (by decide)).trans (rd_booked_apart h.1 (by decide))

theorem traceStop_completes {k : Nat} {s : State} (h : MayWriteN k Obj.TRACE_CONTROL 0 s) :
    Completes (.traceStop k) s fun t =>
      Done k [Obj.TRACE_CONTROL, Obj.TRACE_STATE] s s t ∧ rd t Obj.TRACE_CONTROL = 0 ∧ rd t Obj.TRACE_STATE = trIdle := by
  have hleaves := controlWrite_leaves (ks := [Obj.TRACE_CONTROL, Obj.TRACE_STATE]) (controlTrace 0 trIdle) (u := s) h
    volatile_traceControl (by decide) (by decide) (leNat_traceControl (by decide)) rfl
    (fun a b c => ⟨_, rfl⟩) ⟨rfl, rfl⟩ (by decide) (fun x j hj => rd_controlTrace_other x hj)
  refine completes_write rfl hleaves ?_
  rintro t ⟨hdone, -, hobj⟩
  refine ⟨hdone, ?_, ?_⟩
  · rw [hobj _ (by decide)]; exact (rd_wr_other _ _ (by decide)).trans (rd_wr_same _ _ _)
  · rw [hobj _ (by decide)]; exact rd_wr_same _ _ _

/-! ### CORE_RESTART and RAMP_DOWN_REQUEST (R195, R196) -/

/-- The identity objects lie below those that a request touches on its way. -/
theorem station_booked {k : Nat} {s : State} (h : Ready k s) : station (booked k s) = station s := by
  obtain ⟨hk, hport, -⟩ := bounds_of_ready h
  refine rd_booked s k (not_mem_pmcKeys (by decide)) ?_ ?_ <;>
    simp only [Obj.STATION_STATE, Obj.SESSION_REQUESTS, Obj.FRAMES_IN] <;> omega

theorem dueTide_booked {k : Nat} {s : State} (h : Ready k s) (target : Nat) : dueTide (booked k s) target = dueTide s target :=
  dueTide_congr (station_booked h) (by rw [booked_frame]) (tideNow_booked h) target

/-- The cause of a change asked for in state `s`, with the tide R332 gives it. -/
def causeFrom (target cause arg : Nat) (s : State) : Cause := { target := target, cause := cause, due := dueTide s target, arg := arg }

/-- A cause stands scheduled. -/
def addCause (c : Cause) (s : State) : State := { s with sm := { s.sm with causes := s.sm.causes ++ [c] } }

theorem schedule_booked {k : Nat} {s : State} (h : Ready k s) (target cause arg : Nat) :
    schedule target cause arg (booked k s) = addCause (causeFrom target cause arg s) (booked k s) := by
  unfold schedule addCause causeFrom
  rw [dueTide_booked h]

/-- An accepted write whose only effect is to schedule a change of station state. -/
theorem schedulingWrite_completes {c : Instr} {k key target cause arg : Nat} {bs : List Byte} {s : State}
    (hexec : exec c s = .next (namedRequest k 0x11 key bs s)) (h : MayWrite k key bs s) (hrow : Trigger key) (hlo : 0x300000 ≤ key)
    (hhi : key < 0x330000) (hcode : ∀ raw, writtenCode key raw = raw)
    (hv : writeControl key 1 (booked k s) = (schedule target cause arg (booked k s), 0)) :
    Completes c s fun t => Done k [] { s with sm := t.sm } s t ∧ Scheduled target cause arg s t := by
  have hleaves := controlWrite_leaves (ks := []) (addCause (causeFrom target cause arg s))
    (u := addCause (causeFrom target cause arg s) s) h (volatile_of_trigger hrow) hlo hhi (leNat_of_trigger hrow hcode h.2)
    (by rw [hv, schedule_booked h.1]) (fun a b c => ⟨_, rfl⟩) ⟨rfl, rfl⟩ (by simp) (fun x j _ => rfl)
  refine completes_write hexec hleaves ?_
  rintro t ⟨hdone, -, -⟩
  have hsm : t.sm = (addCause (causeFrom target cause arg s) s).sm := by rw [frame_of_done hdone]
  refine ⟨by rw [hsm]; exact hdone, ?_⟩
  unfold Scheduled
  rw [hsm]
  exact List.mem_append_right _ List.mem_cons_self

/-- In RUNNING, where R195 allows it, `CORE_RESTART` schedules COAST. -/
theorem writeCoreRestart_running {s : State} (hrun : station s = stRunning) (hallowed : restartAllowed s = true) :
    writeControl Obj.CORE_RESTART 1 s = (schedule stCoast causeGrid 0 s, 0) := by
  show writeCoreRestart 1 s = _
  unfold writeCoreRestart
  dsimp only
  rw [if_neg (by decide), if_pos hrun, if_pos hallowed]
  rfl

theorem coreRestart_coasts {k v : Nat} {s : State} (h : MayWriteN k Obj.CORE_RESTART v s) (hrun : station s = stRunning)
    (hallowed : restartAllowed (booked k s) = true) :
    Completes (.coreRestart k v) s fun t => Done k [] { s with sm := t.sm } s t ∧ Scheduled stCoast causeGrid 0 s t :=
  schedulingWrite_completes rfl h trigger_coreRestart (by decide) (by decide) (fun _ => rfl)
    (writeCoreRestart_running ((station_booked h.1).trans hrun) hallowed)

theorem apart_pairState {j : Nat} (h : j ∈ (List.range 4).map Obj.PAIR_STATE) : Apart j := by
  obtain ⟨p, hp, rfl⟩ := List.mem_map.mp h
  simp only [Apart, Obj.PAIR_STATE]
  omega

/-- The states from which `CORE_RESTART` restarts the pairs at once. -/
theorem writeCoreRestart_still {s : State} (h : [stHeld, stReady, stEnergised, stBlocked].contains (station s) = true) :
    writeControl Obj.CORE_RESTART 1 s = (restartPairs s, 0) := by
  have hrun : station s ≠ stRunning := fun e => by rw [e] at h; revert h; decide
  show writeCoreRestart 1 s = _
  unfold writeCoreRestart
  dsimp only
  rw [if_neg (by decide), if_neg hrun, if_pos h]
  rfl

theorem coreRestart_restarts {k v : Nat} {s : State} (h : MayWriteN k Obj.CORE_RESTART v s)
    (hstill : [stHeld, stReady, stEnergised, stBlocked].contains (station s) = true) :
    Completes (.coreRestart k v) s fun t =>
      Done k ((List.range 4).map Obj.PAIR_STATE) { s with cl := t.cl } s t
        ∧ ∀ p, p < 4 → rd t (Obj.PAIR_STATE p) = (if rd s (Obj.PAIR_STATE p) = usRetired then usRetired else usRestarting) := by
  have hleaves := controlWrite_leaves (ks := (List.range 4).map Obj.PAIR_STATE) restartPairs (u := setCl haltItems s) h
    (volatile_of_trigger trigger_coreRestart) (by decide) (by decide) (leNat_of_trigger trigger_coreRestart (fun _ => rfl) h.2)
    (writeCoreRestart_still (by rw [station_booked h.1]; exact hstill))
    (fun a b c => ⟨_, restartPairs_frame { s with regs := a, sessions := b, pmc := c }⟩) ⟨rfl, rfl⟩ (fun j hj => apart_pairState hj)
    (fun x j hj => rd_restartPairs_other x fun p hp e => hj (List.mem_map.mpr ⟨p, List.mem_range.mpr hp, e.symm⟩))
  refine completes_write rfl hleaves ?_
  rintro t ⟨hdone, -, hobj⟩
  have hcl : t.cl = haltItems s.cl := by rw [frame_of_done hdone]; rfl
  refine ⟨by rw [hcl]; exact hdone, fun p hp => ?_⟩
  have hapart : Apart (Obj.PAIR_STATE p) := apart_pairState (List.mem_map_of_mem (List.mem_range.mpr hp))
  rw [hobj _ hapart, rd_restartPairs_pair _ hp, rd_booked_apart h.1 hapart]

/-- The states from which `RAMP_DOWN_REQUEST` schedules RAMP-DOWN. -/
theorem writeRampDown_moving {s : State} (h : [stRunning, stRideThrough, stCoast].contains (station s) = true) :
    writeControl Obj.RAMP_DOWN_REQUEST 1 s = (schedule stRampDown causeGrid 1 s, 0) := by
  show writeRampDown 1 s = _
  unfold writeRampDown
  rw [if_neg (by decide), if_pos h]
  rfl

theorem rampDownRequest_completes {k v : Nat} {s : State} (h : MayWriteN k Obj.RAMP_DOWN_REQUEST v s)
    (hst : [stRunning, stRideThrough, stCoast].contains (station s) = true) :
    Completes (.rampDownRequest k v) s fun t => Done k [] { s with sm := t.sm } s t ∧ Scheduled stRampDown causeGrid 1 s t :=
  schedulingWrite_completes rfl h trigger_rampDownRequest (by decide) (by decide) (fun _ => rfl)
    (writeRampDown_moving (by rw [station_booked h.1]; exact hst))

/-! ### ISLAND_CLEAR (R186) -/

theorem writeControl_islandClear {c v : Nat} (hc : c < 2) (s : State) :
    writeControl (Obj.ISLAND_CLEAR c) v s = (wr s (Obj.ISLAND_FLAGS c) 0, 0) := by
  interval_cases c <;> rfl

theorem islandClear_completes {k c v : Nat} {s : State} (hc : c < 2) (h : MayWriteN k (Obj.ISLAND_CLEAR c) v s) :
    Completes (.islandClear k c v) s fun t => Done k [Obj.ISLAND_FLAGS c] s s t ∧ rd t (Obj.ISLAND_FLAGS c) = 0 := by
  have hapart : Apart (Obj.ISLAND_FLAGS c) := by simp only [Apart, Obj.ISLAND_FLAGS]; omega
  have hleaves := controlWrite_leaves (ks := [Obj.ISLAND_FLAGS c]) (fun x => wr x (Obj.ISLAND_FLAGS c) 0) (u := s) h
    (volatile_islandClear c hc) (by simp only [Obj.ISLAND_CLEAR]; omega) (by simp only [Obj.ISLAND_CLEAR]; omega) rfl
    (writeControl_islandClear hc _) (fun a b c => ⟨_, rfl⟩) ⟨rfl, rfl⟩ (by simpa using hapart)
    (fun x j hj => rd_wr_other x 0 (by simpa using hj))
  refine completes_write (by show execIslandClear k c v s = _; unfold execIslandClear; rw [only_pos hc]; rfl) hleaves ?_
  rintro t ⟨hdone, -, hobj⟩
  exact ⟨hdone, (hobj _ hapart).trans (rd_wr_same _ _ _)⟩

/-! ### GRID_MODE (R174, R322) -/

/-- The objects that a change of the draft shows itself in. -/
def draftKeys : List Nat := [Obj.DRAFT_GENERATION, Obj.LIVE_DIFFERS, Obj.VALIDATE_STATUS]

theorem draftChanged_frame (s : State) : draftChanged s = { s with regs := (draftChanged s).regs } := by
  unfold draftChanged
  dsimp only
  split <;> rfl

theorem rd_draftChanged (s : State) {j : Nat} (h : j ∉ draftKeys) : rd (draftChanged s) j = rd s j := by
  simp only [draftKeys, List.mem_cons, List.not_mem_nil, or_false, not_or] at h
  obtain ⟨hgeneration, hdiffers, hstatus⟩ := h
  unfold draftChanged
  dsimp only
  split
  · rw [rd_wr_other _ _ hdiffers, rd_wr_other _ _ hgeneration]
  · rw [rd_wr_other _ _ hstatus, rd_wr_other _ _ hdiffers, rd_wr_other _ _ hgeneration]

/-- The configuration with the value written to its draft. -/
def draftTakes (key v : Nat) (c : Configuration) : Configuration := { c with draft := c.draft.set key v }

theorem writeP_changes (key v : Nat) (s : State) : ∃ a, writeP key v s = { s with regs := a, cfg := draftTakes key v s.cfg } := by
  unfold writeP setDraft
  dsimp only
  rw [draftChanged_frame]
  split
  · exact ⟨_, rfl⟩
  · exact ⟨_, rfl⟩

theorem rd_writeP_other {key j : Nat} (v : Nat) (s : State) (hkey : j ≠ key) (h : j ∉ draftKeys) : rd (writeP key v s) j = rd s j := by
  unfold writeP setDraft
  dsimp only
  split
  · exact rd_draftChanged _ h
  · rw [rd_wr_other _ _ hkey]; exact rd_draftChanged _ h

/-- In HELD the live object stands; elsewhere it takes the value. -/
theorem rd_writeP_same {key : Nat} (v : Nat) (s : State) (h : key ∉ draftKeys) :
    rd (writeP key v s) key = if station s = stHeld then rd s key else v := by
  have hstation : ∀ x, station (draftChanged x) = station x := fun x => rd_draftChanged x (by decide)
  unfold writeP setDraft
  dsimp only
  rw [hstation, show station { s with cfg := { s.cfg with draft := s.cfg.draft.set key v } } = station s from rfl]
  split
  · exact rd_draftChanged _ h
  · exact rd_wr_same _ _ _

theorem row_gridMode : ∀ c < 2, (findRow (keyIndex (Obj.GRID_MODE c)) (keySub (Obj.GRID_MODE c))).map (fun r => (r.persist, r.ty))
    = some (true, .u8) := by decide +kernel

theorem applyWrite_gridMode {k seq c : Nat} (hc : c < 2) {r : ObjRow} (hp : r.persist = true) (hty : r.ty = .u8) (bs : List Byte)
    (s : State) : applyWrite k seq (Obj.GRID_MODE c) r bs s = (writeP (Obj.GRID_MODE c) (leNat bs) s, 0) := by
  unfold applyWrite writePersist
  dsimp only
  rw [if_pos hp, hty]
  interval_cases c <;> rfl

theorem gridModeWrite_completes {k c v : Nat} {s : State} (hc : c < 2) (hv : v < 2) (h : MayWriteN k (Obj.GRID_MODE c) v s) :
    Completes (.gridModeWrite k c v) s fun t =>
      Done k [Obj.GRID_MODE c, Obj.DRAFT_GENERATION, Obj.LIVE_DIFFERS, Obj.VALIDATE_STATUS] { s with cfg := t.cfg } s t
        ∧ t.cfg.draft = s.cfg.draft.set (Obj.GRID_MODE c) v
        ∧ rd t (Obj.GRID_MODE c) = (if station s = stHeld then rd s (Obj.GRID_MODE c) else v) := by
  obtain ⟨r, hr, he⟩ := Option.map_eq_some_iff.mp (row_gridMode c hc)
  simp only [Prod.mk.injEq] at he
  obtain ⟨hp, hty⟩ := he
  have hval : leNat (namedBytes (Obj.GRID_MODE c) v) = v := by
    unfold namedBytes
    rw [hr, leNat_leBytes, hty]
    exact Nat.mod_eq_of_lt (by simp only [ObjTy.size]; omega)
  have hapart : Apart (Obj.GRID_MODE c) := by simp only [Apart, Obj.GRID_MODE]; omega
  have hdraft : Obj.GRID_MODE c ∉ draftKeys := by interval_cases c <;> decide
  obtain ⟨a, hwritten⟩ := writeP_changes (Obj.GRID_MODE c) v (booked k s)
  obtain ⟨a', b, d, hb⟩ := booked_changes k s
  have hleaves := bookedWrite_leaves (ks := [Obj.GRID_MODE c, Obj.DRAFT_GENERATION, Obj.LIVE_DIFFERS, Obj.VALIDATE_STATUS])
    (u := { s with cfg := draftTakes (Obj.GRID_MODE c) v s.cfg }) (v := writeP (Obj.GRID_MODE c) v (booked k s)) h hr
    (by rw [applyWrite_gridMode hc hp hty, hval])
    ⟨a, by rw [hwritten, hb]⟩ ⟨rfl, rfl⟩ (by simp only [List.forall_mem_cons]; exact ⟨hapart, by decide⟩)
    (fun j hj => by
      rw [List.mem_cons, not_or] at hj
      exact rd_writeP_other v _ hj.1 hj.2)
  refine completes_write (by show execGridModeWrite k c v s = _; unfold execGridModeWrite; rw [only_pos hc]; rfl) hleaves ?_
  rintro t ⟨hdone, -, hobj⟩
  have hcfg : t.cfg = draftTakes (Obj.GRID_MODE c) v s.cfg := by rw [frame_of_done hdone]
  refine ⟨by rw [hcfg]; exact hdone, by rw [hcfg]; rfl, ?_⟩
  rw [hobj _ hapart, rd_writeP_same v _ hdraft, station_booked h.1, rd_booked_apart h.1 hapart]

/-! ### SCAN_ABORT (R213) -/

theorem abandonScan_changes (L : Nat) (s : State) : ∃ a b, abandonScan L s = { s with regs := a, solar := b } := by
  unfold abandonScan
  split
  · exact ⟨s.regs, s.solar, rfl⟩
  · exact ⟨_, _, rfl⟩

theorem rd_abandonScan (L : Nat) (s : State) {j : Nat} (h : j ≠ Obj.SCANS_ABANDONED) : rd (abandonScan L s) j = rd s j := by
  unfold abandonScan
  split
  · rfl
  · exact rd_count_other _ h

theorem solarOf_setSolar (L M : Nat) (f : SolarLeaf → SolarLeaf) (s : State) :
    solarOf (setSolar L f s) M = if M = L then f (solarOf s L) else solarOf s M := Tbl.get_set _ _ _ _ _

/-- An abandoned scan no longer runs, and no other begins. -/
theorem scan_abandonScan (L M : Nat) (s : State) :
    (solarOf (abandonScan L s) M).scan = if M = L then none else (solarOf s M).scan := by
  unfold abandonScan
  split
  · next h =>
    split
    · next e => rw [e, h]
    · rfl
  · show (solarOf (setSolar L _ s) M).scan = _
    rw [solarOf_setSolar]
    split <;> rfl

/-- The scans of an arm are abandoned. -/
def abandonArm (s : State) (a : Nat) : State := (solarLeaves s a).foldl (fun u L => abandonScan L u) s

/-- Every scan is abandoned. -/
def abandonScans (s : State) : State := (List.range 12).foldl abandonArm s

theorem writeControl_scanAbort (s : State) : writeControl Obj.SCAN_ABORT 1 s = (abandonScans s, 0) := rfl

theorem abandonArm_changes (s : State) (a : Nat) : ∃ b c, abandonArm s a = { s with regs := b, solar := c } := by
  refine List.foldlRecOn (motive := fun t : State => ∃ b c, t = { s with regs := b, solar := c }) _ _ ⟨s.regs, s.solar, rfl⟩ ?_
  rintro t ⟨b, c, rfl⟩ L -
  exact abandonScan_changes L { s with regs := b, solar := c }

theorem abandonScans_changes (s : State) : ∃ b c, abandonScans s = { s with regs := b, solar := c } := by
  refine List.foldlRecOn (motive := fun t : State => ∃ b c, t = { s with regs := b, solar := c }) _ _ ⟨s.regs, s.solar, rfl⟩ ?_
  rintro t ⟨b, c, rfl⟩ a -
  exact abandonArm_changes { s with regs := b, solar := c } a

theorem rd_abandonArm (s : State) (a : Nat) {j : Nat} (h : j ≠ Obj.SCANS_ABANDONED) : rd (abandonArm s a) j = rd s j :=
  foldl_keeps (rd · j) (fun t L => rd_abandonScan L t h) _ s

theorem rd_abandonScans (s : State) {j : Nat} (h : j ≠ Obj.SCANS_ABANDONED) : rd (abandonScans s) j = rd s j :=
  foldl_keeps (rd · j) (fun t a => rd_abandonArm t a h) _ s

theorem samePlant_of_solar {s t : State} (h : ∀ j, j ≠ Obj.SCANS_ABANDONED → rd t j = rd s j) : SamePlant s t :=
  ⟨h _ (by decide), fun j hj => h j (by simp only [Obj.SCANS_ABANDONED]; omega)⟩

theorem scan_abandonArm_own (s : State) (a : Nat) {L : Nat} (hL : L ∈ solarLeaves s a) : (solarOf (abandonArm s a) L).scan = none :=
  foldl_establishes (P := fun L t => (solarOf t L).scan = none) (fun t L => by rw [scan_abandonScan, if_pos rfl])
    (fun t L M hM => by rw [scan_abandonScan]; split <;> [rfl; exact hM]) _ s hL

theorem scan_abandonArm_none (s : State) (a : Nat) {L : Nat} (h : (solarOf s L).scan = none) :
    (solarOf (abandonArm s a) L).scan = none :=
  List.foldlRecOn (motive := fun t => (solarOf t L).scan = none) _ _ h fun t ht M _ => by
    rw [scan_abandonScan]; split <;> [rfl; exact ht]

/-- When every scan is abandoned, none runs. -/
theorem scan_abandonScans (s : State) {a L : Nat} (ha : a < 12) (hL : L ∈ solarLeaves s a) :
    (solarOf (abandonScans s) L).scan = none := by
  have hplant : ∀ t b, SamePlant t (abandonArm t b) := fun t b => samePlant_of_solar fun j hj => rd_abandonArm t b hj
  rw [← solarLeaves_congr (samePlant_of_solar fun j hj => rd_abandonScans s hj)] at hL
  revert L
  unfold abandonScans
  refine foldl_establishes (P := fun a t => ∀ {L}, L ∈ solarLeaves t a → (solarOf t L).scan = none) (fun t a L hL => ?_)
    (fun t a b hb L hL => ?_) _ s (List.mem_range.mpr ha)
  · rw [solarLeaves_congr (hplant t a)] at hL
    exact scan_abandonArm_own t a hL
  · rw [solarLeaves_congr (hplant t a)] at hL
    exact scan_abandonArm_none t a (hb hL)

theorem scanAbort_completes {k v : Nat} {s : State} (h : MayWriteN k Obj.SCAN_ABORT v s) :
    Completes (.scanAbort k v) s fun t =>
      Done k [Obj.SCANS_ABANDONED] { s with solar := t.solar } s t
        ∧ ∀ a, a < 12 → ∀ L, L ∈ solarLeaves s a → (solarOf t L).scan = none := by
  obtain ⟨r, hr, hp, -⟩ := row_of_volatile (volatile_of_trigger trigger_scanAbort)
  obtain ⟨a, c, habandoned⟩ := abandonScans_changes (booked k s)
  obtain ⟨a', b, d, hb⟩ := booked_changes k s
  have hleaves := bookedWrite_leaves (ks := [Obj.SCANS_ABANDONED]) (u := { s with solar := c }) (v := abandonScans (booked k s)) h hr
    (by rw [applyWrite_control hp (by decide) (by decide), leNat_of_trigger trigger_scanAbort (fun _ => rfl) h.2, writeControl_scanAbort])
    ⟨a, by rw [habandoned, hb]⟩ ⟨rfl, rfl⟩ (by decide)
    (fun j hj => rd_abandonScans _ (by simpa using hj))
  refine completes_write rfl hleaves ?_
  rintro t ⟨hdone, -, -⟩
  have hsolar : t.solar = c := by rw [frame_of_done hdone]
  refine ⟨by rw [hsolar]; exact hdone, fun a ha L hL => ?_⟩
  have hplant : SamePlant s (booked k s) := ⟨rd_booked_apart h.1 (by decide), fun j hj => rd_booked_apart h.1 ⟨by omega, by omega⟩⟩
  have hscan := scan_abandonScans (booked k s) ha (by rw [solarLeaves_congr hplant]; exact hL)
  rw [habandoned] at hscan
  unfold solarOf at hscan ⊢
  rw [hsolar]
  exact hscan

/-- Settles O53: clause by clause, from what each object's own rule does once the request is booked. -/
theorem controlGridAndSolarWrites : Obligations.ControlGridAndSolarWrites :=
  ⟨fun _ _ _ h => rebalance_completes h, fun _ _ _ h => plausClear_completes h, fun _ _ h hst => traceArm_completes h hst,
    fun _ _ h hst hkind => traceManualTrigger_completes h hst hkind, fun _ _ h => traceStop_completes h,
    fun _ _ _ h => ⟨coreRestart_coasts h, coreRestart_restarts h⟩, fun _ _ _ h hst => rampDownRequest_completes h hst,
    fun _ _ _ _ hc h => islandClear_completes hc h, fun _ _ _ _ hc hv h => gridModeWrite_completes hc hv h,
    fun _ _ _ h => scanAbort_completes h⟩

end Sys2Proof.Proofs

namespace Sys2Proof.Proofs

open Sys2Proof.Machine Sys2Proof.Claims Sys2Proof.Laws

/-! ### Bits of a number -/

theorem testBit_add_two_pow {v i : Nat} (h : v.testBit i = false) (j : Nat) :
    (v + 2 ^ i).testBit j = (decide (j = i) || v.testBit j) := by
  induction i generalizing v j with
  | zero =>
    have heven : v % 2 = 0 := by simpa [Nat.testBit_zero] using h
    cases j with
    | zero => simp only [Nat.testBit_zero]; simp; omega
    | succ j => rw [Nat.testBit_succ, Nat.testBit_succ, show (v + 2 ^ 0) / 2 = v / 2 by omega]; simp
  | succ i ih =>
    rw [Nat.testBit_succ] at h
    cases j with
    | zero => simp only [Nat.testBit_zero, Nat.pow_succ]; simp
    | succ j =>
      rw [Nat.testBit_succ, Nat.testBit_succ, show (v + 2 ^ (i + 1)) / 2 = v / 2 + 2 ^ i by rw [Nat.pow_succ]; omega, ih h]
      simp

theorem bit_setBit (v i j : Nat) : bit (setBit v i) j = (decide (j = i) || bit v j) := by
  unfold bit setBit
  split
  · next hset => by_cases hj : j = i <;> simp_all
  · next hclear => exact testBit_add_two_pow (by simpa using hclear) j

theorem bit_clearBit (v i j : Nat) : bit (clearBit v i) j = (decide (j ≠ i) && bit v j) := by
  unfold bit clearBit
  split
  · next hset =>
    obtain ⟨w, rfl⟩ := Nat.exists_eq_add_of_le' (Nat.ge_two_pow_of_testBit hset)
    have hclear : w.testBit i = false := by
      rw [Nat.add_comm, Nat.testBit_two_pow_add_eq] at hset
      simpa using hset
    rw [Nat.add_sub_cancel, testBit_add_two_pow hclear]
    by_cases hj : j = i <;> simp [hj, hclear]
  · next hclear => by_cases hj : j = i <;> simp_all

theorem bit_putBit (v i j : Nat) (b : Bool) : bit (putBit v i b) j = if j = i then b else bit v j := by
  cases b
  · simp [putBit, bit_clearBit]
  · simp [putBit, bit_setBit]

/-! ### The objects of an interface (R160, R200) -/

/-- The objects of one interface lie at different places. -/
theorem place_ne {a b : Nat} (h : a ≠ b) {c : Nat} : a + c * 0x4000 ≠ b + c * 0x4000 := by omega

/-- The place of an object in its interface tells it from the objects that lie at no such place. -/
theorem ne_place {j a : Nat} (h : j % 0x4000 ≠ a % 0x4000) {c : Nat} : j ≠ a + c * 0x4000 := by omega

theorem not_mem_pair {j a b : Nat} (ha : j ≠ a) (hb : j ≠ b) : j ∉ [a, b] := by simp [ha, hb]

theorem onlyObjects_trans {ks : List Nat} {s t u : State} (h : OnlyObjects ks s t) (g : OnlyObjects ks t u) : OnlyObjects ks s u :=
  fun j hj => (g j hj).trans (h j hj)

theorem onlyObjects_mono {ks ls : List Nat} {s t : State} (h : OnlyObjects ks s t) (hsub : ks ⊆ ls) : OnlyObjects ls s t :=
  fun j hj => h j fun hmem => hj (hsub hmem)

theorem onlyObjects_wr {ks : List Nat} {k : Nat} (hk : k ∈ ks) (s : State) (v : Nat) : OnlyObjects ks s (wr s k v) :=
  fun _ hj => rd_wr_other s v fun e => hj (e ▸ hk)

theorem onlyObjects_emit {ks : List Nat} (hk : Obj.LOG_DROPPED ∈ ks) (e : Ev) (inst : Nat) (args : List Byte) (s : State) :
    OnlyObjects ks s (emit e inst args s) := fun _ hj => rd_emit_other s e inst args fun h => hj (h ▸ hk)

/-! ### The converters and their flags (R201) -/

theorem conv_setConv (s : State) (c d : Nat) (f : Converter → Converter) :
    conv (setConv c f s) d = if d = c ∧ c < s.convs.length then f (conv s c) else conv s d := getD'_modify _ _ _ _ _

theorem conv_setConv_same {s : State} {c : Nat} (h : c < s.convs.length) (f : Converter → Converter) :
    conv (setConv c f s) c = f (conv s c) := by rw [conv_setConv, if_pos ⟨rfl, h⟩]

theorem conv_setConv_other (s : State) {c d : Nat} (h : d ≠ c) (f : Converter → Converter) :
    conv (setConv c f s) d = conv s d := by rw [conv_setConv, if_neg fun hand => h hand.1]

/-- A quantity of a converter that the change keeps. -/
theorem conv_setConv_field {α : Type} (g : Converter → α) {f : Converter → Converter} (h : ∀ x, g (f x) = g x) (s : State)
    (c d : Nat) : g (conv (setConv c f s) d) = g (conv s d) := by
  rw [conv_setConv]; split
  · next hd => rw [h, hd.1]
  · rfl

theorem rd_setSync_other {c j : Nat} (h : j ≠ Obj.SYNC_FLAGS c) (i : Nat) (b : Bool) (s : State) :
    rd (setSync c i b s) j = rd s j := rd_wr_other s _ h

theorem sync_setSync (c i j : Nat) (b : Bool) (s : State) : sync (setSync c i b s) c j = if j = i then b else sync s c j := by
  unfold sync setSync
  rw [rd_wr_same, bit_putBit]

theorem onlyObjects_setSync {ks : List Nat} {c : Nat} (hk : Obj.SYNC_FLAGS c ∈ ks) (i : Nat) (b : Bool) (s : State) :
    OnlyObjects ks s (setSync c i b s) := onlyObjects_wr hk s _

/-! ### What an event and its counter leave -/

/-- An event has been delivered and the counter `key` has counted it; nothing else differs. -/
structure Noted (e : Ev) (inst key : Nat) (s t : State) : Prop where
  raised : Raised e inst s t
  counted : Counted 32 key s t
  objects : OnlyObjects [key, Obj.LOG_DROPPED] s t
  changes : ∃ a b, t = { s with regs := a, log := b }

theorem noted_count_emit {key : Nat} (h : key ≠ Obj.LOG_DROPPED) (e : Ev) (inst : Nat) (args : List Byte) (s : State) :
    Noted e inst key s (count (emit e inst args s) key) where
  raised := raised_congr (raised_emit e inst args s) rfl rfl
  counted := by unfold Counted; rw [rd_count_same, rd_emit_other s _ _ _ h]
  objects := onlyObjects_trans (onlyObjects_emit (by simp) e inst args s) (onlyObjects_wr (by simp) _ _)
  changes := ⟨_, (emit e inst args s).log, by unfold count countBy wr; rw [emit_frame]⟩

/-- What decides when a change of state takes effect stands where neither the objects it reads nor the station's own record differ. -/
theorem dueTide_of_objects {ks : List Nat} {s t : State} (h : OnlyObjects ks s t) (hstation : Obj.STATION_STATE ∉ ks)
    (htide : Obj.TIDE_NUMBER ∉ ks) (hsm : t.sm = s.sm) (target : Nat) : dueTide t target = dueTide s target :=
  dueTide_congr (h _ hstation) (by rw [hsm]) (h _ htide) target

/-- A change scheduled once an event is noted stands scheduled from before. -/
theorem scheduled_noted {e : Ev} {inst key : Nat} {s t : State} (h : Noted e inst key s t)
    (hstation : Obj.STATION_STATE ≠ key) (htide : Obj.TIDE_NUMBER ≠ key) (target cause arg : Nat) :
    let u := schedule target cause arg t
    Counted 32 key s u ∧ Raised e inst s u ∧ Scheduled target cause arg s u ∧ OnlyObjects [key, Obj.LOG_DROPPED] s u
      ∧ u = { s with regs := u.regs, log := u.log, sm := u.sm } := by
  obtain ⟨hraised, hcounted, hobjects, a, b, rfl⟩ := h
  refine ⟨hcounted, raised_congr hraised rfl rfl, scheduled_schedule ?_ _ _, hobjects, rfl⟩
  exact dueTide_of_objects hobjects (not_mem_pair hstation (by decide)) (not_mem_pair htide (by decide)) rfl target

end Sys2Proof.Proofs

namespace Sys2Proof.Proofs

open Sys2Proof.Machine Sys2Proof.Claims Sys2Proof.Laws

/-! ### The voltage source in use (R161, R162) -/

theorem useSource_same {c src : Nat} {s : State} (h : rd s (Obj.SOURCE_IN_USE c) = src) : useSource c src s = s := if_pos h

/-- Another source comes into use: its number, ALT_IN_USE, and the note that the sector is not a transition (R198). -/
theorem useSource_other {c src : Nat} {s : State} (h : rd s (Obj.SOURCE_IN_USE c) ≠ src) :
    useSource c src s = setConv c (fun x => { x with sectorFresh := true })
      (setSync c sfAlt (src ≠ rd s (Obj.VOLTAGE_SOURCE c)) (wr s (Obj.SOURCE_IN_USE c) src)) := if_neg h

theorem rd_useSource_same (c src : Nat) (s : State) : rd (useSource c src s) (Obj.SOURCE_IN_USE c) = src := by
  by_cases h : rd s (Obj.SOURCE_IN_USE c) = src
  · rw [useSource_same h, h]
  · rw [useSource_other h, rd_setConv, rd_setSync_other (place_ne (by decide)), rd_wr_same]

theorem onlyObjects_useSource {ks : List Nat} {c : Nat} (hused : Obj.SOURCE_IN_USE c ∈ ks) (hsync : Obj.SYNC_FLAGS c ∈ ks) (src : Nat)
    (s : State) : OnlyObjects ks s (useSource c src s) := by
  by_cases h : rd s (Obj.SOURCE_IN_USE c) = src
  · rw [useSource_same h]; exact fun _ _ => rfl
  · rw [useSource_other h]
    exact onlyObjects_trans (onlyObjects_wr hused s src) (onlyObjects_setSync hsync _ _ _)

theorem useSource_changes (c src : Nat) (s : State) : ∃ a b, useSource c src s = { s with regs := a, convs := b } := by
  by_cases h : rd s (Obj.SOURCE_IN_USE c) = src
  · exact ⟨s.regs, s.convs, useSource_same h⟩
  · exact ⟨_, _, useSource_other h⟩

theorem useSource_log (c src : Nat) (s : State) : (useSource c src s).log = s.log := by
  obtain ⟨a, b, h⟩ := useSource_changes c src s
  rw [h]

theorem rd_changeSource_same (c src : Nat) (s : State) : rd (changeSource c src s) (Obj.SOURCE_IN_USE c) = src :=
  (rd_emit_other _ _ _ _ (ne_place (by decide)).symm).trans (rd_useSource_same c src s)

theorem onlyObjects_changeSource {ks : List Nat} {c : Nat} (hused : Obj.SOURCE_IN_USE c ∈ ks) (hsync : Obj.SYNC_FLAGS c ∈ ks)
    (hlog : Obj.LOG_DROPPED ∈ ks) (src : Nat) (s : State) : OnlyObjects ks s (changeSource c src s) :=
  onlyObjects_trans (onlyObjects_useSource hused hsync src s) (onlyObjects_emit hlog _ _ _ _)

theorem changeSource_changes (c src : Nat) (s : State) :
    ∃ a b l, changeSource c src s = { s with regs := a, convs := b, log := l } := by
  obtain ⟨a, b, h⟩ := useSource_changes c src s
  unfold changeSource
  rw [emit_frame, h]
  exact ⟨_, _, _, rfl⟩

theorem raised_changeSource (c src : Nat) (s : State) : Raised .voltageSourceChanged c s (changeSource c src s) :=
  raised_congr (raised_emit _ _ _ (useSource c src s)) (useSource_log c src s).symm rfl

/-! ### A source is lost (R162) -/

/-- The interface without a source: SOURCE_LOST set and LOCKED cleared, and the time for which the lock has been good broken off. -/
def showLoss (c : Nat) (s : State) : State :=
  setConv c (fun x => { x with goodSince := none }) (setSync c sfLocked false (setSync c sfLost true s))

/-- The loss reported: the event, and one event of its source (R261). -/
def reportLoss (c : Nat) (s : State) : State := countFault 0 srcVoltage c 1 (emit .voltageSourceLost c (leBytes 1 c) (showLoss c s))

theorem sync_reportLoss (c i : Nat) (s : State) :
    sync (reportLoss c s) c i = if i = sfLocked then false else if i = sfLost then true else sync s c i := by
  have h : rd (reportLoss c s) (Obj.SYNC_FLAGS c) = rd (showLoss c s) (Obj.SYNC_FLAGS c) :=
    (rd_countFault _ _ _ _ _ _).trans (rd_emit_other _ _ _ _ (ne_place (by decide)).symm)
  calc sync (reportLoss c s) c i = sync (showLoss c s) c i := congrArg (bit · i) h
    _ = sync (setSync c sfLocked false (setSync c sfLost true s)) c i := rfl
    _ = _ := by rw [sync_setSync, sync_setSync]

theorem reportLoss_changes (c : Nat) (s : State) :
    ∃ a b l, reportLoss c s = { s with regs := a, convs := b, log := l, faultEvents := s.faultEvents ++ [stationFault srcVoltage c] } := by
  unfold reportLoss
  rw [countFault_one, emit_frame]
  exact ⟨_, _, _, rfl⟩

theorem raised_reportLoss (c : Nat) (s : State) : Raised .voltageSourceLost c s (reportLoss c s) :=
  raised_congr (raised_emit .voltageSourceLost c (leBytes 1 c) (showLoss c s)) rfl (by unfold reportLoss; rw [countFault_frame])

theorem onlyObjects_reportLoss (c : Nat) (s : State) : OnlyObjects [Obj.SYNC_FLAGS c, Obj.LOG_DROPPED] s (reportLoss c s) := by
  have hshow : OnlyObjects [Obj.SYNC_FLAGS c, Obj.LOG_DROPPED] s (showLoss c s) :=
    onlyObjects_trans (onlyObjects_setSync (by simp) sfLost true s) (onlyObjects_setSync (by simp) sfLocked false _)
  exact fun j hj => (rd_countFault _ _ _ _ _ _).trans (onlyObjects_trans hshow (onlyObjects_emit (by simp) _ _ _ _) j hj)

/-- The reaction reads nothing that the report has changed. -/
theorem report_keeps {c : Nat} {s : State} :
    dpcOn (reportLoss c s) c = dpcOn s c ∧ station (reportLoss c s) = station s
      ∧ ∀ target, dueTide (reportLoss c s) target = dueTide s target := by
  have hobj := onlyObjects_reportLoss c s
  have hstation : Obj.STATION_STATE ∉ [Obj.SYNC_FLAGS c, Obj.LOG_DROPPED] := not_mem_pair (ne_place (by decide)) (by decide)
  have htide : Obj.TIDE_NUMBER ∉ [Obj.SYNC_FLAGS c, Obj.LOG_DROPPED] := not_mem_pair (ne_place (by decide)) (by decide)
  have hdpc : Obj.DPC_ACTIVE c ∉ [Obj.SYNC_FLAGS c, Obj.LOG_DROPPED] :=
    not_mem_pair (place_ne (by decide)) (ne_place (by decide)).symm
  obtain ⟨a, b, l, hchanges⟩ := reportLoss_changes c s
  exact ⟨by unfold dpcOn rdBool; rw [hobj _ hdpc], hobj _ hstation, dueTide_of_objects hobj hstation htide (by rw [hchanges])⟩

theorem sourceLostAction_changes (c : Nat) (s : State) : ∃ m, sourceLostAction c s = { s with sm := m } := by
  unfold sourceLostAction
  split
  · exact ⟨_, rfl⟩
  · split <;> exact ⟨_, rfl⟩

theorem sourceLostAction_dpc {c : Nat} {s : State} (hdpc : dpcOn s c = true) (hactive : isActive (station s) = true) :
    sourceLostAction c s = schedule stBlocked causeGrid 0 s := if_pos (by rw [hdpc, hactive]; rfl)

theorem sourceLostAction_ramps {c : Nat} {s : State} (hdpc : dpcOn s c = false)
    (hst : station s = stRunning ∨ station s = stRideThrough ∨ station s = stCoast) :
    sourceLostAction c s = schedule stRampDown causeGrid 6 s := by
  unfold sourceLostAction
  rw [if_neg (by simp [hdpc]), if_pos (by simpa using hst)]
  rfl

theorem exec_sourceLossTimeout_valid {c : Nat} {s : State} (h : sourceValid s c (rd s (Obj.SOURCE_IN_USE c)) = true) :
    exec (.sourceLossTimeout c) s = .next s :=
  congrArg Host.Outcome.next (whenAlive_self (if_pos (.inr (.inr h))))

section

variable {c : Nat} {s : State}

/-- An alternate source stands ready. -/
abbrev Alternate (c : Nat) (s : State) : Prop :=
  rd s (Obj.VOLTAGE_SOURCE_ALT c) < 3 ∧ rd s (Obj.VOLTAGE_SOURCE_ALT c) ≠ rd s (Obj.SOURCE_IN_USE c)
    ∧ sourceValid s c (rd s (Obj.VOLTAGE_SOURCE_ALT c)) = true

/-- What SOURCE_LOSS_TIMEOUT finds: an interface of a station from HELD onward whose source in use is not valid. -/
abbrev Sourceless (c : Nat) (s : State) : Prop :=
  c < 2 ∧ stHeld ≤ station s ∧ sourceValid s c (rd s (Obj.SOURCE_IN_USE c)) = false

theorem exec_sourceLossTimeout (hf : alive s .fabric = true) (h : Sourceless c s) :
    exec (.sourceLossTimeout c) s = .next (
      if Alternate c s then changeSource c (rd s (Obj.VOLTAGE_SOURCE_ALT c)) s
      else if sync s c sfLost then s else sourceLostAction c (reportLoss c s)) := by
  obtain ⟨hc, hheld, hgone⟩ := h
  show execSourceLossTimeout c s = _
  unfold execSourceLossTimeout
  rw [whenAlive_on _ hf]
  dsimp only
  rw [if_neg (not_or.mpr ⟨not_le.mpr hc, not_or.mpr ⟨not_lt.mpr hheld, by simp [hgone]⟩⟩)]
  rfl

theorem sourceLossTimeout_changes (hf : alive s .fabric = true) (h : Sourceless c s) (halt : Alternate c s) :
    Completes (.sourceLossTimeout c) s fun t =>
      rd t (Obj.SOURCE_IN_USE c) = rd s (Obj.VOLTAGE_SOURCE_ALT c) ∧ Raised .voltageSourceChanged c s t
        ∧ OnlyObjects [Obj.SOURCE_IN_USE c, Obj.SYNC_FLAGS c, Obj.LOG_DROPPED] s t
        ∧ t = { s with regs := t.regs, log := t.log, convs := t.convs } := by
  refine ⟨_, exec_sourceLossTimeout hf h, ?_⟩
  rw [if_pos halt]
  refine ⟨rd_changeSource_same c _ s, raised_changeSource c _ s, onlyObjects_changeSource (by simp) (by simp) (by simp) _ s, ?_⟩
  obtain ⟨a, b, l, hchanges⟩ := changeSource_changes c (rd s (Obj.VOLTAGE_SOURCE_ALT c)) s
  rw [hchanges]

theorem sourceLossTimeout_loses (hf : alive s .fabric = true) (h : Sourceless c s) (halt : ¬ Alternate c s)
    (hlost : sync s c sfLost = false) :
    Completes (.sourceLossTimeout c) s fun t =>
      sync t c sfLost = true ∧ sync t c sfLocked = false ∧ Raised .voltageSourceLost c s t
        ∧ (∃ e, t.faultEvents = s.faultEvents ++ [e] ∧ e.family = 0 ∧ e.source = srcVoltage ∧ e.inst = c ∧ e.n = 1)
        ∧ (dpcOn s c = true → isActive (station s) = true → Scheduled stBlocked causeGrid 0 s t)
        ∧ (dpcOn s c = false → station s = stRunning ∨ station s = stRideThrough ∨ station s = stCoast →
            Scheduled stRampDown causeGrid 6 s t)
        ∧ OnlyObjects [Obj.SYNC_FLAGS c, Obj.LOG_DROPPED] s t := by
  refine ⟨_, exec_sourceLossTimeout hf h, ?_⟩
  rw [if_neg halt, if_neg (by simp [hlost])]
  obtain ⟨hdpc, hstation, hdue⟩ := report_keeps (c := c) (s := s)
  obtain ⟨m, haction⟩ := sourceLostAction_changes c (reportLoss c s)
  obtain ⟨a, b, l, hreport⟩ := reportLoss_changes c s
  have hrd : ∀ j, rd (sourceLostAction c (reportLoss c s)) j = rd (reportLoss c s) j := fun j => rd_of_regs (by rw [haction]) j
  have hsync : ∀ i, sync (sourceLostAction c (reportLoss c s)) c i = sync (reportLoss c s) c i := fun i => congrArg (bit · i) (hrd _)
  refine ⟨?_, ?_, raised_congr (raised_reportLoss c s) rfl (by rw [haction]), ⟨stationFault srcVoltage c, ?_, rfl, rfl, rfl, rfl⟩,
    fun hon hactive => ?_, fun hoff hst => ?_, fun j hj => (hrd j).trans (onlyObjects_reportLoss c s j hj)⟩
  · rw [hsync, sync_reportLoss]; rfl
  · rw [hsync, sync_reportLoss]; rfl
  · rw [haction, hreport]
  · rw [sourceLostAction_dpc (hdpc.trans hon) (by rw [hstation, hactive])]
    exact scheduled_schedule (hdue _) _ _
  · rw [sourceLostAction_ramps (hdpc.trans hoff) (by rw [hstation]; exact hst)]
    exact scheduled_schedule (hdue _) _ _

theorem exec_sourceLossTimeout_shown (hf : alive s .fabric = true) (h : Sourceless c s) (halt : ¬ Alternate c s)
    (hlost : sync s c sfLost = true) : exec (.sourceLossTimeout c) s = .next s := by
  rw [exec_sourceLossTimeout hf h, if_neg halt, if_pos hlost]

end

/-- Settles O23: the three ways in which the timeout of a source that is not valid can go, and none where the source is valid. -/
theorem voltageSourceLoss : Obligations.VoltageSourceLoss :=
  ⟨fun _ _ hf hc hheld hgone =>
    ⟨fun hnumber hother hvalid => sourceLossTimeout_changes hf ⟨hc, hheld, hgone⟩ ⟨hnumber, hother, hvalid⟩,
      fun halt hlost => sourceLossTimeout_loses hf ⟨hc, hheld, hgone⟩ halt hlost,
      fun halt hlost => exec_sourceLossTimeout_shown hf ⟨hc, hheld, hgone⟩ halt hlost⟩,
    fun _ _ hvalid => exec_sourceLossTimeout_valid hvalid⟩

end Sys2Proof.Proofs

namespace Sys2Proof.Proofs

open Sys2Proof.Machine Sys2Proof.Claims Sys2Proof.Laws

/-! ### Entering ride-through and crossing a curve (R175, R177) -/

theorem exec_rtConfirmExpiry {c : Nat} {s : State} (hf : alive s .fabric = true) (hc : c < 2) (hrt : sync s c sfRt = true)
    (hst : station s = stRunning) (hahead : stateAhead s (tideNow s + 1) ≠ stRideThrough) :
    exec (.rtConfirmExpiry c) s =
      .next (schedule stRideThrough causeGrid 0 (count (emit .rideThroughEntered c (leBytes 1 c) s) (Obj.RT_ENTRIES c))) := by
  show execRtConfirmExpiry c s = _
  unfold execRtConfirmExpiry
  rw [whenAlive_on _ hf, if_pos (by simp [hc, hrt, hst, hahead])]

theorem rtConfirmExpiry_completes {c : Nat} {s : State} (hf : alive s .fabric = true) (hc : c < 2) (hrt : sync s c sfRt = true)
    (hst : station s = stRunning) (hahead : stateAhead s (tideNow s + 1) ≠ stRideThrough) :
    Completes (.rtConfirmExpiry c) s fun t =>
      Counted 32 (Obj.RT_ENTRIES c) s t ∧ Raised .rideThroughEntered c s t ∧ Scheduled stRideThrough causeGrid 0 s t
        ∧ OnlyObjects [Obj.RT_ENTRIES c, Obj.LOG_DROPPED] s t ∧ t = { s with regs := t.regs, log := t.log, sm := t.sm } :=
  ⟨_, exec_rtConfirmExpiry hf hc hrt hst hahead,
    scheduled_noted (noted_count_emit (ne_place (by decide)).symm _ _ _ _) (ne_place (by decide)) (ne_place (by decide)) _ _ _⟩

theorem exec_rtCurveCrossed {c : Nat} {s : State} (hf : alive s .fabric = true) (hc : c < 2) (hbeyond : beyondCurve s c = true)
    (hactive : isActive (station s) = true) :
    exec (.rtCurveCrossed c) s =
      .next (schedule stBlocked causeGrid 0 (count (emit .rideThroughLimitCrossed c (leBytes 1 c) s) (Obj.RT_BEYOND c))) := by
  show execRtCurveCrossed c s = _
  unfold execRtCurveCrossed
  rw [whenAlive_on _ hf, if_pos (by simp [hc, hbeyond, hactive])]
  rfl

theorem rtCurveCrossed_completes {c : Nat} {s : State} (hf : alive s .fabric = true) (hc : c < 2) (hbeyond : beyondCurve s c = true)
    (hactive : isActive (station s) = true) :
    Completes (.rtCurveCrossed c) s fun t =>
      Counted 32 (Obj.RT_BEYOND c) s t ∧ Raised .rideThroughLimitCrossed c s t ∧ Scheduled stBlocked causeGrid 0 s t
        ∧ OnlyObjects [Obj.RT_BEYOND c, Obj.LOG_DROPPED] s t ∧ t = { s with regs := t.regs, log := t.log, sm := t.sm } :=
  ⟨_, exec_rtCurveCrossed hf hc hbeyond hactive,
    scheduled_noted (noted_count_emit (ne_place (by decide)).symm _ _ _ _) (ne_place (by decide)) (ne_place (by decide)) _ _ _⟩

/-! ### The end of ride-through (R179) -/

/-- Nothing of either converter keeps RIDE-THROUGH. -/
theorem rideOver_iff (s : State) : rideOver s = true ↔
    ∀ c, c < 2 → sync s c sfRt = false ∧ (dpcOn s c = false ∨ (conv s c).dpcEnd = true) ∧ (conv s c).dpcDue = false := by
  have hboth : ∀ P : Nat → Prop, (∀ c, c < 2 → P c) ↔ P 0 ∧ P 1 :=
    fun P => ⟨fun h => ⟨h 0 (by decide), h 1 (by decide)⟩, fun h c hc => by interval_cases c <;> tauto⟩
  rw [hboth]
  simp [rideOver, and_assoc]

theorem endRide_over {s : State} (hst : station s = stRideThrough) (hclear : s.cl.rtClear = true) (hover : rideOver s = true)
    (hnone : s.sm.causes.any Cause.endsRide = false) : endRide s = schedule stRunning causeGrid 0 s :=
  if_pos ⟨hst, hclear, hover, hnone⟩

theorem endRide_keeps {s : State} (hover : rideOver s = false) : endRide s = s := if_neg fun h => by simp [hover] at h

theorem endRide_changes (s : State) : ∃ m, endRide s = { s with sm := m } := by
  unfold endRide
  split <;> exact ⟨_, rfl⟩

theorem endRide_elsewhere {s : State} (hst : station s ≠ stRideThrough) : endRide s = s := if_neg fun h => hst h.1

/-- The hold of R179 is noted as past. -/
def holdPast (s : State) : State := { s with cl := { s.cl with rtClear := true } }

theorem exec_rtExitHoldExpiry {s : State} (hf : alive s .fabric = true) (hrt : ∀ c, c < 2 → sync s c sfRt = false) :
    exec .rtExitHoldExpiry s = .next (endRide (holdPast s)) := by
  show execRtExitHoldExpiry s = _
  unfold execRtExitHoldExpiry
  rw [whenAlive_on _ hf, if_pos (by simp [hrt])]
  rfl

theorem rtExitHoldExpiry_ends {s : State} (hf : alive s .fabric = true) (hst : station s = stRideThrough)
    (hrt : ∀ c, c < 2 → sync s c sfRt = false) (hdpc : ∀ c, c < 2 → dpcOn s c = false ∧ (conv s c).dpcDue = false)
    (hnone : s.sm.causes.any Cause.endsRide = false) :
    Completes .rtExitHoldExpiry s fun t =>
      Scheduled stRunning causeGrid 0 s t ∧ t = { s with sm := t.sm, cl := { s.cl with rtClear := true } } := by
  refine ⟨_, exec_rtExitHoldExpiry hf hrt, ?_⟩
  have hover : rideOver (holdPast s) = true :=
    (rideOver_iff _).mpr fun c hc => ⟨hrt c hc, .inl (hdpc c hc).1, (hdpc c hc).2⟩
  rw [endRide_over (s := holdPast s) hst rfl hover hnone]
  exact ⟨scheduled_schedule (u := holdPast s) rfl _ _, rfl⟩

theorem exec_rtExitHoldExpiry_kept {c : Nat} {s : State} (hf : alive s .fabric = true) (hrt : ∀ c, c < 2 → sync s c sfRt = false)
    (hc : c < 2) (hdpc : dpcOn s c = true) (hend : (conv s c).dpcEnd = false) :
    exec .rtExitHoldExpiry s = .next { s with cl := { s.cl with rtClear := true } } := by
  have hnot : ¬ rideOver (holdPast s) = true := fun hover => by
    rcases ((rideOver_iff _).mp hover c hc).2.1 with hoff | hended
    · exact Bool.false_ne_true (hoff.symm.trans hdpc)
    · exact Bool.false_ne_true (hend.symm.trans hended)
  rw [exec_rtExitHoldExpiry hf hrt, endRide_keeps (Bool.eq_false_of_not_eq_true hnot)]
  rfl

/-! ### Entry and exit of direct power control (R181, R184) -/

/-- What DPC_ENTRY finds: direct power control enabled, inactive, in a state that allows it, and one of its conditions. -/
structure EntryFound (c : Nat) (s : State) : Prop where
  conv : c < 2
  enabled : rdBool s (Obj.DPC_ENABLE c) = true
  off : dpcOn s c = false
  state : dpcState s c = true
  condition : dpcCondition s c = true

theorem exec_dpcEntry {c : Nat} {s : State} (hf : alive s .fabric = true) (h : EntryFound c s) :
    exec (.dpcEntry c) s = .next (
      if sync s c sfAbsent || sync s c sfLost then schedule stBlocked causeGrid 0 s
      else setConv c (fun x => { x with dpcDue := true }) s) := by
  show execDpcEntry c s = _
  unfold execDpcEntry
  rw [whenAlive_on _ hf, if_pos (by simp [h.conv, h.enabled, h.off, h.state, h.condition])]
  rfl

theorem dpcEntry_due {c : Nat} {s : State} (hf : alive s .fabric = true) (hlen : c < s.convs.length) (h : EntryFound c s)
    (habsent : sync s c sfAbsent = false) (hlost : sync s c sfLost = false) :
    Completes (.dpcEntry c) s fun t =>
      conv t c = { conv s c with dpcDue := true } ∧ t = { s with convs := t.convs } ∧ ∀ d, d ≠ c → conv t d = conv s d := by
  refine ⟨_, exec_dpcEntry hf h, ?_⟩
  rw [if_neg (by simp [habsent, hlost])]
  exact ⟨conv_setConv_same hlen _, rfl, fun d hd => conv_setConv_other s hd _⟩

theorem dpcEntry_refused {c : Nat} {s : State} (hf : alive s .fabric = true) (h : EntryFound c s)
    (hblind : sync s c sfAbsent = true ∨ sync s c sfLost = true) :
    Completes (.dpcEntry c) s fun t => Scheduled stBlocked causeGrid 0 s t ∧ t = { s with sm := t.sm } := by
  refine ⟨_, exec_dpcEntry hf h, ?_⟩
  rw [if_pos (Bool.or_eq_true_iff.mpr hblind)]
  exact ⟨scheduled_schedule rfl _ _, rfl⟩

theorem exec_dpcExitHoldExpiry {c : Nat} {s : State} (hf : alive s .fabric = true) (hc : c < 2) (hdpc : dpcOn s c = true)
    (hv : rdPu s (Obj.DPC_ENTRY_V c) + 1 / 20 < vPos (conv s c)) (hlocked : sync s c sfLocked = true) :
    exec (.dpcExitHoldExpiry c) s = .next (endRide (setConv c (fun x => { x with dpcEnd := true }) s)) := by
  show execDpcExitHoldExpiry c s = _
  unfold execDpcExitHoldExpiry
  rw [whenAlive_on _ hf, if_pos (by simp only [hc, hdpc, hv, hlocked, decide_true, Bool.and_self])]

theorem dpcExitHoldExpiry_completes {c : Nat} {s : State} (hf : alive s .fabric = true) (hc : c < 2) (hlen : c < s.convs.length)
    (hdpc : dpcOn s c = true) (hv : rdPu s (Obj.DPC_ENTRY_V c) + 1 / 20 < vPos (conv s c)) (hlocked : sync s c sfLocked = true) :
    Completes (.dpcExitHoldExpiry c) s fun t =>
      conv t c = { conv s c with dpcEnd := true } ∧ t = { s with convs := t.convs, sm := t.sm }
        ∧ (station s ≠ stRideThrough → t.sm = s.sm) ∧ ∀ d, d ≠ c → conv t d = conv s d := by
  refine ⟨_, exec_dpcExitHoldExpiry hf hc hdpc hv hlocked, ?_⟩
  obtain ⟨m, hm⟩ := endRide_changes (setConv c (fun x => { x with dpcEnd := true }) s)
  have hconv : ∀ d, conv (endRide (setConv c (fun x => { x with dpcEnd := true }) s)) d
      = conv (setConv c (fun x => { x with dpcEnd := true }) s) d := fun d => by rw [hm]; rfl
  refine ⟨(hconv c).trans (conv_setConv_same hlen _), by rw [hm]; rfl, fun hst => ?_,
    fun d hd => (hconv d).trans (conv_setConv_other s hd _)⟩
  rw [endRide_elsewhere (s := setConv c _ s) hst, setConv_sm]

/-- Settles O24: each command on what it asks for. -/
theorem rideThroughAndDirectPower : Obligations.RideThroughAndDirectPower :=
  ⟨fun _ _ hf hc hrt hst hahead => rtConfirmExpiry_completes hf hc hrt hst hahead,
    fun _ _ hf hc hbeyond hactive => rtCurveCrossed_completes hf hc hbeyond hactive,
    fun _ hf hst hrt => ⟨fun hdpc hnone => rtExitHoldExpiry_ends hf hst hrt hdpc hnone,
      fun _ hc hdpc hend => exec_rtExitHoldExpiry_kept hf hrt hc hdpc hend⟩,
    fun _ _ hf hc hlen henabled hoff hstate hcondition =>
      ⟨fun habsent hlost => dpcEntry_due hf hlen ⟨hc, henabled, hoff, hstate, hcondition⟩ habsent hlost,
        fun hblind => dpcEntry_refused hf ⟨hc, henabled, hoff, hstate, hcondition⟩ hblind⟩,
    fun _ _ hf hc hlen hdpc hv hlocked => dpcExitHoldExpiry_completes hf hc hlen hdpc hv hlocked⟩

end Sys2Proof.Proofs

namespace Sys2Proof.Proofs

open Sys2Proof.Machine Sys2Proof.Claims Sys2Proof.Laws

/-! ### A detection (R186, R188) -/

theorem flagMethod_runs {c how : Nat} {s : State} (h : methodRuns s c how = true) :
    flagMethod c how s = wr s (Obj.ISLAND_FLAGS c) (setBit (rd s (Obj.ISLAND_FLAGS c)) how) := if_pos h

theorem flagMethod_regs (c how : Nat) (s : State) : ∃ a, flagMethod c how s = { s with regs := a } := by
  unfold flagMethod
  split <;> exact ⟨_, rfl⟩

theorem onlyObjects_flagMethod (c how : Nat) (s : State) : OnlyObjects [Obj.ISLAND_FLAGS c] s (flagMethod c how s) := by
  unfold flagMethod
  split
  · exact onlyObjects_wr (by simp) s _
  · exact fun _ _ => rfl

theorem station_flagMethod (c how : Nat) (s : State) : station (flagMethod c how s) = station s :=
  onlyObjects_flagMethod c how s _ (by simpa only [List.mem_singleton] using ne_place (by decide))

/-- A detection counted and its event raised, with the flag of its method latched. -/
def islandNoted (c how : Nat) (s : State) : State :=
  count (emit .islandingDetected c (leBytes 1 c ++ leBytes 1 how) (flagMethod c how s)) (Obj.ISLAND_DETECTIONS c)

theorem noted_islandNoted (c how : Nat) (s : State) :
    Noted .islandingDetected c (Obj.ISLAND_DETECTIONS c) (flagMethod c how s) (islandNoted c how s) :=
  noted_count_emit (ne_place (by decide)).symm _ _ _ _

theorem islandNoted_changes (c how : Nat) (s : State) : ∃ a b, islandNoted c how s = { s with regs := a, log := b } := by
  obtain ⟨a, hflag⟩ := flagMethod_regs c how s
  obtain ⟨b, l, hnoted⟩ := (noted_islandNoted c how s).changes
  exact ⟨b, l, by rw [hnoted, hflag]⟩

/-- The objects that a detection may change. -/
abbrev islandKeys (c : Nat) : List Nat := [Obj.ISLAND_FLAGS c, Obj.ISLAND_DETECTIONS c, Obj.LOG_DROPPED]

theorem onlyObjects_islandNoted (c how : Nat) (s : State) : OnlyObjects (islandKeys c) s (islandNoted c how s) :=
  onlyObjects_trans (onlyObjects_mono (onlyObjects_flagMethod c how s) (by simp))
    (onlyObjects_mono (noted_islandNoted c how s).objects (by simp))

/-- Nothing that decides when a change of state takes effect is an object of a detection. -/
theorem dueTide_of_islandKeys {c : Nat} {s t : State} (h : OnlyObjects (islandKeys c) s t) (hsm : t.sm = s.sm) (target : Nat) :
    dueTide t target = dueTide s target :=
  dueTide_of_objects h (List.not_mem_cons_of_ne_of_not_mem (ne_place (by decide)) (not_mem_pair (ne_place (by decide)) (by decide)))
    (List.not_mem_cons_of_ne_of_not_mem (ne_place (by decide)) (not_mem_pair (ne_place (by decide)) (by decide))) hsm target

theorem islandReaction_changes (c : Nat) (s : State) : ∃ a b, islandReaction c s = { s with convs := a, sm := b } := by
  unfold islandReaction
  split <;> exact ⟨_, _, rfl⟩

theorem rd_islandReaction (c : Nat) (s : State) (j : Nat) : rd (islandReaction c s) j = rd s j := by
  obtain ⟨a, b, h⟩ := islandReaction_changes c s
  exact rd_of_regs (by rw [h]) j

theorem islandReaction_one {c : Nat} {s : State} (h : rd s (Obj.ISLAND_REACTION c) = 1) :
    islandReaction c s = schedule stRampDown causeIslanding 5 s := by unfold islandReaction; rw [h]; rfl

theorem islandReaction_two {c : Nat} {s : State} (h : rd s (Obj.ISLAND_REACTION c) = 2) :
    islandReaction c s = schedule stBlocked causeIslanding 0 s := by unfold islandReaction; rw [h]; rfl

theorem islandReaction_three {c : Nat} {s : State} (h : rd s (Obj.ISLAND_REACTION c) = 3) :
    islandReaction c s = setConv c (fun x => { x with modeDue := true }) s := by unfold islandReaction; rw [h]; rfl

/-- A detection latches its flag and does nothing else while a flag stands or the station is not active. -/
theorem detectIsland_latched {c how : Nat} {s : State} (hruns : methodRuns s c how = true)
    (h : rd s (Obj.ISLAND_FLAGS c) ≠ 0 ∨ isActive (station s) = false) : detectIsland c how s = flagMethod c how s := by
  unfold detectIsland
  rw [if_neg (by simp [hruns])]
  exact if_pos (by rw [station_flagMethod]; exact h)

theorem detectIsland_first {c how : Nat} {s : State} (hruns : methodRuns s c how = true) (hflags : rd s (Obj.ISLAND_FLAGS c) = 0)
    (hactive : isActive (station s) = true) : detectIsland c how s = islandReaction c (islandNoted c how s) := by
  unfold detectIsland
  rw [if_neg (by simp [hruns])]
  exact if_neg (by rw [station_flagMethod, hactive]; simp [hflags])

theorem onlyObjects_detectIsland (c how : Nat) (s : State) : OnlyObjects (islandKeys c) s (detectIsland c how s) := by
  by_cases hruns : methodRuns s c how = true
  · by_cases hfirst : rd s (Obj.ISLAND_FLAGS c) = 0 ∧ isActive (station s) = true
    · rw [detectIsland_first hruns hfirst.1 hfirst.2]
      exact fun j hj => (rd_islandReaction c _ j).trans (onlyObjects_islandNoted c how s j hj)
    · have hlatched : rd s (Obj.ISLAND_FLAGS c) ≠ 0 ∨ isActive (station s) = false := by
        rw [not_and_or, Bool.not_eq_true] at hfirst; exact hfirst
      rw [detectIsland_latched hruns hlatched]
      exact onlyObjects_mono (onlyObjects_flagMethod c how s) (by simp)
  · rw [show detectIsland c how s = s from if_pos (Bool.eq_false_of_not_eq_true hruns)]
    exact fun _ _ => rfl

/-! ### ISLANDING_DETECTED (R186, R188) -/

/-- What ISLANDING_DETECTED finds: the condition of a method that runs, and no stall under direct power control. -/
structure Detects (c how : Nat) (s : State) : Prop where
  conv : c < 2
  found : islandFound s c how = true
  calm : how = 4 → dpcOn s c = false
  runs : methodRuns s c how = true

theorem stallFound_detects {c : Nat} {s : State} (h : dpcOn s c = false) : stallFound c s = detectIsland c 4 s :=
  if_neg (by simp [h])

theorem exec_islandingDetected {c how : Nat} {s : State} (hf : alive s .fabric = true) (hc : c < 2)
    (hfound : islandFound s c how = true) :
    exec (.islandingDetected c how) s = .next (if how = 4 then stallFound c s else detectIsland c how s) := by
  show execIslandingDetected c how s = _
  unfold execIslandingDetected
  rw [whenAlive_on _ hf, if_pos (by simp [hc, hfound])]

theorem exec_islandingDetected_calm {c how : Nat} {s : State} (hf : alive s .fabric = true) (h : Detects c how s) :
    exec (.islandingDetected c how) s = .next (detectIsland c how s) := by
  rw [exec_islandingDetected hf h.conv h.found]
  split
  · next hstall => rw [hstall, stallFound_detects (h.calm hstall)]
  · rfl

theorem islandingDetected_reacts {c how : Nat} {s : State} (hf : alive s .fabric = true) (hlen : c < s.convs.length)
    (h : Detects c how s) (hflags : rd s (Obj.ISLAND_FLAGS c) = 0) (hactive : isActive (station s) = true) :
    Completes (.islandingDetected c how) s fun t =>
      rd t (Obj.ISLAND_FLAGS c) = setBit 0 how ∧ Counted 32 (Obj.ISLAND_DETECTIONS c) s t ∧ Raised .islandingDetected c s t
        ∧ (rd s (Obj.ISLAND_REACTION c) = 1 → Scheduled stRampDown causeIslanding 5 s t)
        ∧ (rd s (Obj.ISLAND_REACTION c) = 2 → Scheduled stBlocked causeIslanding 0 s t)
        ∧ (rd s (Obj.ISLAND_REACTION c) = 3 → (conv t c).modeDue = true)
        ∧ OnlyObjects [Obj.ISLAND_FLAGS c, Obj.ISLAND_DETECTIONS c, Obj.LOG_DROPPED] s t := by
  refine ⟨_, exec_islandingDetected_calm hf h, ?_⟩
  have honly := onlyObjects_detectIsland c how s
  rw [detectIsland_first h.runs hflags hactive] at honly ⊢
  have hnoted := noted_islandNoted c how s
  obtain ⟨a, b, hchanges⟩ := islandNoted_changes c how s
  obtain ⟨a', b', hreaction⟩ := islandReaction_changes c (islandNoted c how s)
  obtain ⟨f, hflag⟩ := flagMethod_regs c how s
  have hreads : rd (islandNoted c how s) (Obj.ISLAND_REACTION c) = rd s (Obj.ISLAND_REACTION c) :=
    onlyObjects_islandNoted c how s _
      (List.not_mem_cons_of_ne_of_not_mem (place_ne (by decide)) (not_mem_pair (place_ne (by decide)) (ne_place (by decide)).symm))
  have hdue : ∀ target, dueTide (islandNoted c how s) target = dueTide s target :=
    dueTide_of_islandKeys (onlyObjects_islandNoted c how s) (by rw [hchanges])
  refine ⟨?_, ?_, ?_, fun hone => ?_, fun htwo => ?_, fun hthree => ?_, honly⟩
  · rw [rd_islandReaction, hnoted.objects _ (not_mem_pair (place_ne (by decide)) (ne_place (by decide)).symm), flagMethod_runs h.runs,
      rd_wr_same, hflags]
  · unfold Counted
    rw [rd_islandReaction, hnoted.counted,
      onlyObjects_flagMethod c how s _ (by simpa only [List.mem_singleton] using place_ne (by decide))]
  · exact raised_congr hnoted.raised (by rw [hflag]) (by rw [hreaction])
  · rw [islandReaction_one (hreads.trans hone)]
    exact scheduled_schedule (hdue _) _ _
  · rw [islandReaction_two (hreads.trans htwo)]
    exact scheduled_schedule (hdue _) _ _
  · rw [islandReaction_three (hreads.trans hthree), conv_setConv_same (by rw [hchanges]; exact hlen)]

theorem islandingDetected_latches {c how : Nat} {s : State} (hf : alive s .fabric = true) (h : Detects c how s)
    (hlatched : rd s (Obj.ISLAND_FLAGS c) ≠ 0 ∨ isActive (station s) = false) :
    Completes (.islandingDetected c how) s fun t =>
      rd t (Obj.ISLAND_FLAGS c) = setBit (rd s (Obj.ISLAND_FLAGS c)) how ∧ OnlyRegs [Obj.ISLAND_FLAGS c] s t := by
  refine ⟨_, exec_islandingDetected_calm hf h, ?_⟩
  rw [detectIsland_latched h.runs hlatched, flagMethod_runs h.runs]
  exact ⟨rd_wr_same _ _ _, rfl, onlyObjects_wr (by simp) s _⟩

/-! ### A stalled vector (R180, R185) -/

/-- A stall under direct power control blocks the station. -/
theorem stallFound_blocks {c : Nat} {s : State} (h : dpcOn s c = true) :
    Raised .gridVectorStalled c s (stallFound c s) ∧ Scheduled stBlocked causeGrid 0 s (stallFound c s)
      ∧ OnlyObjects [Obj.ISLAND_FLAGS c, Obj.LOG_DROPPED] s (stallFound c s) := by
  obtain ⟨a, hflag⟩ := flagMethod_regs c 4 s
  have hobj : OnlyObjects [Obj.ISLAND_FLAGS c, Obj.LOG_DROPPED] s (emit .gridVectorStalled c (leBytes 1 c) (flagMethod c 4 s)) :=
    onlyObjects_trans (onlyObjects_mono (onlyObjects_flagMethod c 4 s) (by simp)) (onlyObjects_emit (by simp) _ _ _ _)
  rw [show stallFound c s = schedule stBlocked causeGrid 0 (emit .gridVectorStalled c (leBytes 1 c) (flagMethod c 4 s)) from if_pos h]
  refine ⟨raised_congr (raised_emit _ _ _ (flagMethod c 4 s)) (by rw [hflag]) rfl, scheduled_schedule ?_ _ _, hobj⟩
  exact dueTide_of_objects hobj (not_mem_pair (ne_place (by decide)) (by decide)) (not_mem_pair (ne_place (by decide)) (by decide))
    (by rw [emit_frame, hflag]) _

theorem islandingDetected_blocks {c : Nat} {s : State} (hf : alive s .fabric = true) (hc : c < 2) (habsent : sync s c sfAbsent = false)
    (hdpc : dpcOn s c = true) :
    Completes (.islandingDetected c 4) s fun t =>
      Raised .gridVectorStalled c s t ∧ Scheduled stBlocked causeGrid 0 s t ∧ OnlyObjects [Obj.ISLAND_FLAGS c, Obj.LOG_DROPPED] s t :=
  ⟨_, exec_islandingDetected hf hc (congrArg (!·) habsent), stallFound_blocks hdpc⟩

theorem exec_gridStall_absent {c : Nat} {s : State} (h : sync s c sfAbsent = true) : exec (.gridStall c) s = .next s :=
  congrArg Host.Outcome.next (whenAlive_self (if_pos (.inr (.inl h))))

section

variable {c : Nat} {s : State} (hf : alive s .fabric = true) (hc : c < 2) (habsent : sync s c sfAbsent = false)
  (hheld : stHeld ≤ station s)
include hf hc habsent hheld

theorem exec_gridStall : exec (.gridStall c) s = .next (stallFound c (setSync c sfStalled true s)) := by
  show execGridStall c s = _
  unfold execGridStall
  rw [whenAlive_on _ hf, if_neg (not_or.mpr ⟨not_le.mpr hc, not_or.mpr ⟨by simp [habsent], not_lt.mpr hheld⟩⟩)]

theorem gridStall_blocks (hdpc : dpcOn s c = true) :
    Completes (.gridStall c) s fun t =>
      sync t c sfStalled = true ∧ Raised .gridVectorStalled c s t ∧ Scheduled stBlocked causeGrid 0 s t
        ∧ OnlyObjects [Obj.SYNC_FLAGS c, Obj.ISLAND_FLAGS c, Obj.LOG_DROPPED] s t := by
  refine ⟨_, exec_gridStall hf hc habsent hheld, ?_⟩
  have hset := onlyObjects_setSync (ks := [Obj.SYNC_FLAGS c]) List.mem_cons_self sfStalled true s
  have hdue : dueTide (setSync c sfStalled true s) stBlocked = dueTide s stBlocked :=
    dueTide_congr (rd_setSync_other (ne_place (by decide)) _ _ _) rfl (rd_setSync_other (ne_place (by decide)) _ _ _) _
  have hon : dpcOn (setSync c sfStalled true s) c = true := by
    unfold dpcOn rdBool; rw [rd_setSync_other (place_ne (by decide))]; exact hdpc
  obtain ⟨hraised, hscheduled, hobj⟩ := stallFound_blocks hon
  refine ⟨?_, raised_congr hraised rfl rfl, ?_, onlyObjects_trans (onlyObjects_mono hset (by simp)) (onlyObjects_mono hobj (by simp))⟩
  · unfold sync
    rw [hobj _ (not_mem_pair (place_ne (by decide)) (ne_place (by decide)).symm)]
    exact (sync_setSync c sfStalled sfStalled true s).trans (if_pos rfl)
  · unfold Scheduled; rw [← hdue]; exact hscheduled

theorem gridStall_detects (hdpc : dpcOn s c = false) :
    Completes (.gridStall c) s fun t =>
      sync t c sfStalled = true
        ∧ OnlyObjects [Obj.SYNC_FLAGS c, Obj.ISLAND_FLAGS c, Obj.ISLAND_DETECTIONS c, Obj.LOG_DROPPED] s t := by
  refine ⟨_, exec_gridStall hf hc habsent hheld, ?_⟩
  have hset := onlyObjects_setSync (ks := [Obj.SYNC_FLAGS c]) List.mem_cons_self sfStalled true s
  have hoff : dpcOn (setSync c sfStalled true s) c = false := by
    unfold dpcOn rdBool; rw [rd_setSync_other (place_ne (by decide))]; exact hdpc
  rw [stallFound_detects hoff]
  have hobj := onlyObjects_detectIsland c 4 (setSync c sfStalled true s)
  refine ⟨?_, onlyObjects_trans (onlyObjects_mono hset (by simp)) (onlyObjects_mono hobj (by simp))⟩
  unfold sync
  rw [hobj _ (List.not_mem_cons_of_ne_of_not_mem (place_ne (by decide)) (not_mem_pair (place_ne (by decide)) (ne_place (by decide)).symm))]
  exact (sync_setSync c sfStalled sfStalled true s).trans (if_pos rfl)

end

/-! ### The probe (R187) -/

theorem closeProbe_changes (c : Nat) (s : State) : ∃ a b, closeProbe c s = { s with regs := a, convs := b } := by
  unfold closeProbe
  dsimp only
  split
  · exact ⟨s.regs, s.convs, rfl⟩
  · split <;> exact ⟨_, _, rfl⟩

theorem convs_length_closeProbe (c : Nat) (s : State) : (closeProbe c s).convs.length = s.convs.length := by
  unfold closeProbe
  dsimp only
  split
  · rfl
  · split <;> exact List.length_modify ..

theorem onlyObjects_closeProbe (c : Nat) (s : State) : OnlyObjects [Obj.PROBE_Z c] s (closeProbe c s) := by
  unfold closeProbe
  dsimp only
  split
  · exact fun _ _ => rfl
  · split
    · exact fun _ _ => rfl
    · exact onlyObjects_wr (by simp) s _

/-- The end of a probe keeps a quantity that reads neither whether one runs nor how many have been over the limit. -/
theorem conv_closeProbe_field {α : Type} (g : Converter → α) (h : ∀ x n m, g { x with probe := n, probeOver := m } = g x) (s : State)
    (c d : Nat) : g (conv (closeProbe c s) d) = g (conv s d) := by
  unfold closeProbe
  dsimp only
  split
  · rfl
  · split
    · exact conv_setConv_field g (fun x => h x 0 x.probeOver) s c d
    · exact conv_setConv_field g (fun x => h x 0 _) (wrPu s (Obj.PROBE_Z c) _) c d

/-- The bursts of a probe begin at `ns`. -/
def beginBursts (ns : Nat) (x : Converter) : Converter :=
  { x with probe := 1, probeFrom := ns, probeSum := (0, 0, 0), probeMinus := (0, 0, 0) }

theorem exec_probePeriodStart {c : Nat} {s : State} (hf : alive s .fabric = true) (hc : c < 2) (hst : station s = stRunning)
    (henabled : bit (rd s (Obj.ISLAND_ENABLE c)) 3 = true) :
    exec (.probePeriodStart c) s = .next (setConv c (beginBursts (nowNs s)) (closeProbe c s)) := by
  show execProbePeriodStart c s = _
  unfold execProbePeriodStart
  rw [whenAlive_on _ hf, if_pos (by simp [hc, hst, henabled])]
  rfl

theorem probePeriodStart_completes {c : Nat} {s : State} (hf : alive s .fabric = true) (hc : c < 2) (hlen : c < s.convs.length)
    (hst : station s = stRunning) (henabled : bit (rd s (Obj.ISLAND_ENABLE c)) 3 = true) :
    Completes (.probePeriodStart c) s fun t =>
      (conv t c).probe = 1 ∧ (conv t c).probeFrom = nowNs s ∧ (conv t c).probeSum = (0, 0, 0) ∧ (conv t c).probeMinus = (0, 0, 0)
        ∧ t = { s with regs := t.regs, convs := t.convs } ∧ OnlyObjects [Obj.PROBE_Z c] s t := by
  refine ⟨_, exec_probePeriodStart hf hc hst henabled, ?_⟩
  obtain ⟨a, b, hchanges⟩ := closeProbe_changes c s
  rw [conv_setConv_same (by rw [convs_length_closeProbe]; exact hlen)]
  exact ⟨rfl, rfl, rfl, rfl, by rw [hchanges]; rfl, onlyObjects_closeProbe c s⟩

/-! ### The short-circuit ratio (R166) -/

/-- The 100 ms means of v+ and q of the second that has ended. -/
def secondMeans (s : State) (c : Nat) : List (Rat × Rat) :=
  ((conv s c).buckets.filter (fun b => decide (b.index / 10 + 1 = nowNs s / 1000000000) && decide (0 < b.nv) && decide (0 < b.nq))).map
    (fun b => (b.v / (b.nv : Rat), b.q / (b.nq : Rat)))

theorem scrEstimate_moves {c : Nat} {s : State} (hf : alive s .fabric = true) (hc : c < 2) (hten : (secondMeans s c).length = 10)
    (hrange : 1 / 50 ≤ (scrFit (secondMeans s c)).2) (hslope : (scrFit (secondMeans s c)).1 ≠ 0) :
    Completes (.scrEstimate c) s fun t =>
      rd t (Obj.SCR_EST c)
          = pu24OfRat (rdPu s (Obj.SCR_EST c) + (1 / (scrFit (secondMeans s c)).1 - rdPu s (Obj.SCR_EST c)) / 4)
        ∧ OnlyRegs [Obj.SCR_EST c] s t := by
  have hexec : exec (.scrEstimate c) s = .next (wrPu s (Obj.SCR_EST c)
      (rdPu s (Obj.SCR_EST c) + (1 / (scrFit (secondMeans s c)).1 - rdPu s (Obj.SCR_EST c)) / 4)) := by
    show execScrEstimate c s = _
    unfold execScrEstimate
    rw [whenAlive_on _ hf]
    dsimp only
    rw [← secondMeans, if_neg (not_or.mpr ⟨not_le.mpr hc, not_or.mpr ⟨not_not.mpr hten, not_lt.mpr hrange⟩⟩), if_neg hslope]
  exact ⟨_, hexec, rd_wr_same _ _ _, rfl, onlyObjects_wr (by simp) s _⟩

theorem exec_scrEstimate_holds {c : Nat} {s : State} (h : (secondMeans s c).length ≠ 10 ∨ (scrFit (secondMeans s c)).2 < 1 / 50) :
    exec (.scrEstimate c) s = .next s :=
  congrArg Host.Outcome.next (whenAlive_self (if_pos (.inr h)))

/-! ### The end of a dwell (R189, R190) -/

/-- What a reversal writes. -/
def turned (c dir : Nat) (s : State) : State :=
  wrs s [(Obj.DIRECTION c, dir), (Obj.REVERSAL_STATE c, 0), (Obj.REVERSAL_HOLD_REASON c, 0)]

/-- A reversal counted and its event raised. -/
def reversalNoted (c dir : Nat) (s : State) : State :=
  emit .powerReversal c (leBytes 1 c ++ leBytes 1 dir) (count (turned c dir s) (Obj.REVERSALS c))

theorem reverse_eq (c dir : Nat) (s : State) :
    reverse c dir s = setConv c
      (fun x => { x with lastReversal := some (nowNs (reversalNoted c dir s)), dwellFrom := none, ramping := true })
      (reversalNoted c dir s) := rfl

theorem rd_reverse {c dir j : Nat} {s : State} (h : j ≠ Obj.LOG_DROPPED) :
    rd (reverse c dir s) j = rd (count (turned c dir s) (Obj.REVERSALS c)) j := by
  rw [reverse_eq, rd_setConv]
  exact rd_emit_other _ _ _ _ h

theorem rd_turned_other {c dir j : Nat} {s : State} (hdir : j ≠ Obj.DIRECTION c) (hstate : j ≠ Obj.REVERSAL_STATE c)
    (hreason : j ≠ Obj.REVERSAL_HOLD_REASON c) : rd (turned c dir s) j = rd s j :=
  (rd_wr_other _ _ hreason).trans ((rd_wr_other _ _ hstate).trans (rd_wr_other _ _ hdir))

theorem counted_reverse (c dir : Nat) (s : State) : Counted 32 (Obj.REVERSALS c) s (reverse c dir s) := by
  unfold Counted
  rw [rd_reverse (ne_place (by decide)).symm, rd_count_same,
    rd_turned_other (place_ne (by decide)) (place_ne (by decide)) (place_ne (by decide))]

theorem raised_reverse (c dir : Nat) (s : State) : Raised .powerReversal c s (reverse c dir s) := by
  rw [reverse_eq]
  exact raised_congr (raised_emit .powerReversal c (leBytes 1 c ++ leBytes 1 dir) (count (turned c dir s) (Obj.REVERSALS c)))
    rfl (setConv_log _ _ _)

theorem reversalNoted_changes (c dir : Nat) (s : State) : ∃ a l, reversalNoted c dir s = { s with regs := a, log := l } := by
  have hcounted : ∃ a, count (turned c dir s) (Obj.REVERSALS c) = { s with regs := a } := by
    unfold count countBy wr
    rw [show turned c dir s = _ from wrs_regs s _]
    exact ⟨_, rfl⟩
  obtain ⟨a, hcounted⟩ := hcounted
  unfold reversalNoted
  rw [emit_frame, hcounted]
  exact ⟨_, _, rfl⟩

theorem reverse_frame (c dir : Nat) (s : State) :
    reverse c dir s
      = { s with regs := (reverse c dir s).regs, log := (reverse c dir s).log, convs := (reverse c dir s).convs } := by
  obtain ⟨a, l, hnoted⟩ := reversalNoted_changes c dir s
  rw [reverse_eq, hnoted]
  rfl

theorem reverse_shows (c dir : Nat) (s : State) :
    rd (reverse c dir s) (Obj.DIRECTION c) = dir ∧ rd (reverse c dir s) (Obj.REVERSAL_STATE c) = 0
      ∧ rd (reverse c dir s) (Obj.REVERSAL_HOLD_REASON c) = 0 := by
  have hrd : ∀ {a : Nat}, a + c * 0x4000 ≠ Obj.LOG_DROPPED → a + c * 0x4000 ≠ Obj.REVERSALS c →
      rd (reverse c dir s) (a + c * 0x4000) = rd (turned c dir s) (a + c * 0x4000) :=
    fun hlog hcount => (rd_reverse hlog).trans (rd_count_other _ hcount)
  refine ⟨?_, ?_, ?_⟩
  · rw [hrd (ne_place (by decide)).symm (place_ne (by decide))]
    exact (rd_wr_other _ _ (place_ne (by decide))).trans ((rd_wr_other _ _ (place_ne (by decide))).trans (rd_wr_same _ _ _))
  · rw [hrd (ne_place (by decide)).symm (place_ne (by decide))]
    exact (rd_wr_other _ _ (place_ne (by decide))).trans (rd_wr_same _ _ _)
  · rw [hrd (ne_place (by decide)).symm (place_ne (by decide))]
    exact rd_wr_same _ _ _

theorem onlyObjects_reverse (c dir : Nat) (s : State) :
    OnlyObjects [Obj.DIRECTION c, Obj.REVERSAL_STATE c, Obj.REVERSAL_HOLD_REASON c, Obj.REVERSALS c, Obj.LOG_DROPPED] s
      (reverse c dir s) := fun j hj => by
  simp only [List.mem_cons, List.not_mem_nil, or_false, not_or] at hj
  obtain ⟨hdir, hstate, hreason, hcount, hlog⟩ := hj
  rw [rd_reverse hlog, rd_count_other _ hcount, rd_turned_other hdir hstate hreason]

/-- The instant at which a dwell begun at `t0` ends. -/
abbrev dwellEnd (c t0 : Nat) (s : State) : State := runTo ((t0 + rd s (Obj.REVERSAL_DWELL c) * 1000000) * nsUnit) s

theorem exec_reversalDwellEnd_idle {c : Nat} {s : State} (h : isActive (station s) = false ∨ station s = stRideThrough) :
    exec (.reversalDwellEnd c) s = .next s := by
  refine congrArg Host.Outcome.next (whenAlive_self ?_)
  split
  · refine if_neg fun ⟨_, _, hactive, hride⟩ => ?_
    rcases h with hidle | hst
    · exact Bool.false_ne_true (hidle.symm.trans hactive)
    · exact hride hst
  · rfl

section

variable {c t0 : Nat} {s : State} (hp : alive s .processing = true) (hc : c < 2) (hstate : rd s (Obj.REVERSAL_STATE c) = 2)
  (hdwell : (conv s c).dwellFrom = some t0) (hactive : isActive (station s) = true) (hride : station s ≠ stRideThrough)

theorem direction_dwellEnd (c t0 : Nat) (s : State) : rd (dwellEnd c t0 s) (Obj.DIRECTION c) = rd s (Obj.DIRECTION c) :=
  rd_runTo _ s (not_mem_runKeys (.inr (by simp only [Obj.DIRECTION]; omega)))

include hp hc hstate hdwell hactive hride

theorem exec_reversalDwellEnd : exec (.reversalDwellEnd c) s = .next (endDwell c (dwellEnd c t0 s)) := by
  show execReversalDwellEnd c s = _
  unfold execReversalDwellEnd
  rw [whenAlive_on _ hp, hdwell]
  dsimp only
  rw [if_pos ⟨hc, hstate, hactive, hride⟩]

theorem reversalDwellEnd_turns (hfree : reversalReason (dwellEnd c t0 s) c (1 - rd s (Obj.DIRECTION c)) = 0) :
    Completes (.reversalDwellEnd c) s fun t =>
      rd t (Obj.DIRECTION c) = 1 - rd s (Obj.DIRECTION c) ∧ rd t (Obj.REVERSAL_STATE c) = 0 ∧ rd t (Obj.REVERSAL_HOLD_REASON c) = 0
        ∧ Counted 32 (Obj.REVERSALS c) (dwellEnd c t0 s) t ∧ Raised .powerReversal c (dwellEnd c t0 s) t
        ∧ OnlyObjects [Obj.DIRECTION c, Obj.REVERSAL_STATE c, Obj.REVERSAL_HOLD_REASON c, Obj.REVERSALS c, Obj.LOG_DROPPED]
          (dwellEnd c t0 s) t
        ∧ t = { dwellEnd c t0 s with regs := t.regs, log := t.log, convs := t.convs } := by
  refine ⟨_, exec_reversalDwellEnd hp hc hstate hdwell hactive hride, ?_⟩
  have hturn : endDwell c (dwellEnd c t0 s) = reverse c (1 - rd s (Obj.DIRECTION c)) (dwellEnd c t0 s) := by
    unfold endDwell
    rw [direction_dwellEnd]
    exact if_pos hfree
  rw [hturn]
  obtain ⟨hdir, hst, hreason⟩ := reverse_shows c (1 - rd s (Obj.DIRECTION c)) (dwellEnd c t0 s)
  exact ⟨hdir, hst, hreason, counted_reverse _ _ _, raised_reverse _ _ _, onlyObjects_reverse _ _ _, reverse_frame _ _ _⟩

theorem reversalDwellEnd_holds (hbarred : reversalReason (dwellEnd c t0 s) c (1 - rd s (Obj.DIRECTION c)) ≠ 0) :
    Completes (.reversalDwellEnd c) s fun t =>
      rd t (Obj.REVERSAL_STATE c) = 3
        ∧ rd t (Obj.REVERSAL_HOLD_REASON c) = reversalReason (dwellEnd c t0 s) c (1 - rd s (Obj.DIRECTION c))
        ∧ OnlyRegs [Obj.REVERSAL_STATE c, Obj.REVERSAL_HOLD_REASON c] (dwellEnd c t0 s) t := by
  refine ⟨_, exec_reversalDwellEnd hp hc hstate hdwell hactive hride, ?_⟩
  have hhold : endDwell c (dwellEnd c t0 s) = wrs (dwellEnd c t0 s) [(Obj.REVERSAL_STATE c, 3),
      (Obj.REVERSAL_HOLD_REASON c, reversalReason (dwellEnd c t0 s) c (1 - rd s (Obj.DIRECTION c)))] := by
    unfold endDwell
    rw [direction_dwellEnd]
    exact if_neg hbarred
  rw [hhold]
  exact ⟨(rd_wr_other _ _ (place_ne (by decide))).trans (rd_wr_same _ _ _), rd_wr_same _ _ _, rfl,
    onlyObjects_trans (onlyObjects_wr (by simp) _ 3) (onlyObjects_wr (by simp) _ _)⟩

end

theorem methodRuns_of {c how : Nat} {s : State} (hready : stReady ≤ station s) (hsafe : station s ≠ stSafe)
    (hlost : sync s c sfLost = false) (henabled : bit (rd s (Obj.ISLAND_ENABLE c)) how = true) : methodRuns s c how = true := by
  simp only [methodRuns, hready, hsafe, hlost, henabled, decide_true, ne_eq, not_false_eq_true, Bool.not_false, Bool.and_self]

/-- Settles O25: clause by clause; each command's hypotheses choose the branch it takes. -/
theorem islandingStallProbeAndReversal : Obligations.IslandingStallProbeAndReversal :=
  ⟨⟨fun _ _ _ hf hc hlen _ hfound hcalm hready hsafe hlost henabled =>
      ⟨fun hflags hactive => islandingDetected_reacts hf hlen ⟨hc, hfound, hcalm, methodRuns_of hready hsafe hlost henabled⟩ hflags hactive,
        fun hlatched => islandingDetected_latches hf ⟨hc, hfound, hcalm, methodRuns_of hready hsafe hlost henabled⟩ hlatched⟩,
      fun _ _ hf hc habsent hheld hdpc =>
        ⟨gridStall_blocks hf hc habsent hheld hdpc, islandingDetected_blocks hf hc habsent hdpc⟩,
      fun _ _ hf hc habsent hheld hdpc => gridStall_detects hf hc habsent hheld hdpc,
      fun _ _ hf hc hlen hst henabled => probePeriodStart_completes hf hc hlen hst henabled,
      fun _ _ habsent => exec_gridStall_absent habsent⟩,
    fun _ _ hf hc => ⟨fun hten hrange hslope => scrEstimate_moves hf hc hten hrange hslope, fun hfew => exec_scrEstimate_holds hfew⟩,
    fun _ _ _ hp hc hstate hdwell hactive hride =>
      ⟨fun hfree => reversalDwellEnd_turns hp hc hstate hdwell hactive hride hfree,
        fun hbarred => reversalDwellEnd_holds hp hc hstate hdwell hactive hride hbarred⟩,
    fun _ _ hidle => exec_reversalDwellEnd_idle hidle⟩

end Sys2Proof.Proofs

namespace Sys2Proof.Proofs

open Sys2Proof.Machine Sys2Proof.Claims Sys2Proof.Laws

/-! ### What a sample leaves in its converter (R163) -/

/-- The reading of a converter: the sources seen, the instant of its last sample, the vector of it, and its two sequences. -/
def reading (x : Converter) : List (Option Nat) × Option Nat × (Rat × Rat) × (Rat × Rat) × (Rat × Rat) :=
  (x.seen, x.stamp, (x.va, x.vb), (x.vpa, x.vpb), (x.vna, x.vnb))

theorem rtPresent_congr {s t : State} {c : Nat} {x y : Converter} (hreading : reading y = reading x)
    (hlow : rd t (Obj.LVRT_ENTRY c) = rd s (Obj.LVRT_ENTRY c)) (hhigh : rd t (Obj.HVRT_ENTRY c) = rd s (Obj.HVRT_ENTRY c))
    (hneg : rd t (Obj.NEG_ENTRY c) = rd s (Obj.NEG_ENTRY c)) : rtPresent t c y = rtPresent s c x := by
  simp only [reading, Prod.mk.injEq] at hreading
  obtain ⟨-, -, -, ⟨hpa, hpb⟩, hna, hnb⟩ := hreading
  unfold rtPresent vPos vNeg rdPu
  rw [hpa, hpb, hna, hnb, hlow, hhigh, hneg]

theorem reading_lockLoop (s : State) (c : Nat) (ts : Rat) (x : Converter) : reading (lockLoop s c ts x).1 = reading x := by
  unfold lockLoop
  dsimp only
  split <;> rfl

theorem reading_probeSample (s : State) (c ns : Nat) (x : Converter) : reading (probeSample s c ns x) = reading x := by
  unfold probeSample
  dsimp only
  split
  · rfl
  · split
    · rfl
    · split <;> rfl

/-! ### Work on a sample beside its reading -/

/-- Nothing but objects of `ks`, the converters and the cluster's record differs, and converter `c` has the same reading. -/
structure Follows (c : Nat) (ks : List Nat) (s t : State) : Prop where
  changes : ∃ a b x, t = { s with regs := a, convs := b, cl := x }
  objects : OnlyObjects ks s t
  length : t.convs.length = s.convs.length
  reading : reading (conv t c) = reading (conv s c)

namespace Follows

variable {c : Nat} {ks : List Nat} {s t u : State}

theorem refl (s : State) : Follows c ks s s := ⟨⟨s.regs, s.convs, s.cl, rfl⟩, fun _ _ => rfl, rfl, rfl⟩

theorem trans (h : Follows c ks s t) (g : Follows c ks t u) : Follows c ks s u where
  changes := by
    obtain ⟨a, b, x, rfl⟩ := h.changes
    obtain ⟨a', b', x', rfl⟩ := g.changes
    exact ⟨a', b', x', rfl⟩
  objects := onlyObjects_trans h.objects g.objects
  length := g.length.trans h.length
  reading := g.reading.trans h.reading

theorem mono {ls : List Nat} (h : Follows c ks s t) (hsub : ks ⊆ ls) : Follows c ls s t :=
  ⟨h.changes, onlyObjects_mono h.objects hsub, h.length, h.reading⟩

theorem wr (h : Follows c ks s t) {key : Nat} (hk : key ∈ ks) (v : Nat) : Follows c ks s (wr t key v) :=
  h.trans ⟨⟨_, t.convs, t.cl, rfl⟩, onlyObjects_wr hk t v, rfl, rfl⟩

theorem setConv (h : Follows c ks s t) {f : Converter → Converter} (hf : ∀ x, Proofs.reading (f x) = Proofs.reading x) :
    Follows c ks s (setConv c f t) :=
  h.trans ⟨⟨t.regs, _, t.cl, rfl⟩, fun _ _ => rfl, List.length_modify .., conv_setConv_field _ hf t c c⟩

end Follows

theorem trackSector_follows (c : Nat) (s : State) :
    Follows c [Obj.SYNC_FLAGS c, Obj.SECTOR_NOW c, Obj.SECTOR_TRANSITIONS c] s (trackSector c s) := by
  have hrefl : Follows c [Obj.SYNC_FLAGS c, Obj.SECTOR_NOW c, Obj.SECTOR_TRANSITIONS c] s s := .refl s
  have hsync : Obj.SYNC_FLAGS c ∈ [Obj.SYNC_FLAGS c, Obj.SECTOR_NOW c, Obj.SECTOR_TRANSITIONS c] := by simp
  have hturn := (hrefl.wr hsync (putBit (rd s (Obj.SYNC_FLAGS c)) sfAbsent false)).setConv
    (f := fun x => { x with sectorFresh := false }) fun _ => rfl
  unfold trackSector
  dsimp only
  split
  · exact hrefl
  · split
    · exact (hrefl.wr hsync _).wr hsync _
    · split
      · exact hturn
      · split
        · exact ((hturn.wr (by simp) _).wr (by simp) _).wr hsync _
        · exact hturn.wr (by simp) _

/-- VECTOR_ABSENT shows whether the vector is below `STALL_V_MIN` (R180). -/
theorem sync_trackSector_absent {c : Nat} {s : State} (hheld : stHeld ≤ station s) :
    sync (trackSector c s) c sfAbsent = decide (mag (conv s c).va (conv s c).vb < rdPu s (Obj.STALL_V_MIN c)) := by
  have hflag : ∀ {i : Nat} (b : Bool) (t : State), sfAbsent ≠ i → sync (setSync c i b t) c sfAbsent = sync t c sfAbsent :=
    fun b t hi => by rw [sync_setSync, if_neg hi]
  have hwr : ∀ {k : Nat} (v : Nat) (t : State), Obj.SYNC_FLAGS c ≠ k → sync (wr t k v) c sfAbsent = sync t c sfAbsent :=
    fun v t hk => by unfold sync; rw [rd_wr_other _ _ hk]
  have hpresent : ∀ f, sync (setConv c f (setSync c sfAbsent false s)) c sfAbsent = false := fun _ =>
    (sync_setSync c sfAbsent sfAbsent false s).trans (if_pos rfl)
  unfold trackSector
  dsimp only
  rw [if_neg (not_lt.mpr hheld)]
  split
  · next hlow => rw [hflag _ _ (by decide), sync_setSync, if_pos rfl, decide_eq_true hlow]
  · next hlow =>
    rw [decide_eq_false hlow]
    split
    · exact hpresent _
    · split
      · rw [hflag _ _ (by decide), countBy, hwr _ _ (place_ne (by decide)), hwr _ _ (place_ne (by decide)), hpresent]
      · rw [hwr _ _ (place_ne (by decide)), hpresent]

theorem probeDone_follows (c ns : Nat) (s : State) : Follows c [Obj.PROBE_Z c] s (probeDone c ns s) := by
  unfold probeDone
  split
  · obtain ⟨a, b, hchanges⟩ := closeProbe_changes c s
    exact ⟨⟨a, b, s.cl, hchanges⟩, onlyObjects_closeProbe c s, convs_length_closeProbe c s,
      conv_closeProbe_field reading (fun _ _ _ => rfl) s c c⟩
  · exact .refl s

theorem trackRt_follows (c ns : Nat) (s : State) : Follows c [Obj.SYNC_FLAGS c] s (trackRt c ns s) := by
  have hshown : Follows c [Obj.SYNC_FLAGS c] s (setSync c sfRt (rtPresent s c (conv s c)) s) := (Follows.refl s).wr (by simp) _
  unfold trackRt
  dsimp only
  split
  · have hclear := hshown.trans (u := { setSync c sfRt (rtPresent s c (conv s c)) s with cl := { s.cl with rtClear := false } })
      ⟨⟨_, _, _, rfl⟩, fun _ _ => rfl, rfl, rfl⟩
    split
    · exact hclear
    · exact hclear.setConv fun _ => rfl
  · split
    · exact hshown
    · exact hshown.setConv fun _ => rfl

/-- RT_CONDITION shows the condition (R175); of the objects nothing else changes. -/
theorem rd_trackRt (c ns : Nat) (s : State) (j : Nat) :
    rd (trackRt c ns s) j = rd (setSync c sfRt (rtPresent s c (conv s c)) s) j := by
  unfold trackRt
  dsimp only
  split
  · split <;> rfl
  · split <;> rfl

theorem sync_trackRt (c ns i : Nat) (s : State) :
    sync (trackRt c ns s) c i = if i = sfRt then rtPresent s c (conv s c) else sync s c i := by
  unfold sync
  rw [rd_trackRt]
  exact sync_setSync c sfRt i _ s

/-! ### The conditions shown (R175, R180) -/

/-- The objects that processing a sample may change. -/
abbrev sampleKeys (c : Nat) : List Nat := [Obj.SYNC_FLAGS c, Obj.SECTOR_NOW c, Obj.SECTOR_TRANSITIONS c, Obj.PROBE_Z c]

theorem not_mem_sampleKeys {a : Nat} (h : a % 0x4000 ∉ [0x220A, 0x220B, 0x220C, 0x2A11]) {c : Nat} :
    a + c * 0x4000 ∉ sampleKeys c := by
  simp only [List.mem_cons, List.not_mem_nil, or_false, not_or, Obj.SYNC_FLAGS, Obj.SECTOR_NOW, Obj.SECTOR_TRANSITIONS,
    Obj.PROBE_Z] at h ⊢
  omega

/-- The sector, the probe and the ride-through condition are brought up to a sample. -/
def tracked (c ns : Nat) (s : State) : State := trackRt c ns (probeDone c ns (trackSector c s))

theorem tracked_follows (c ns : Nat) (s : State) : Follows c (sampleKeys c) s (tracked c ns s) :=
  (((trackSector_follows c s).mono (by simp)).trans ((probeDone_follows c ns _).mono (by simp))).trans
    ((trackRt_follows c ns _).mono (by simp))

theorem sync_tracked_rt (c ns : Nat) (s : State) :
    sync (tracked c ns s) c sfRt = rtPresent (tracked c ns s) c (conv (tracked c ns s) c) := by
  have hrt := trackRt_follows c ns (probeDone c ns (trackSector c s))
  have hentry : ∀ {a : Nat}, a ≠ 0x30220A → a + c * 0x4000 ∉ [Obj.SYNC_FLAGS c] :=
    fun ha => by simpa only [List.mem_singleton] using place_ne ha
  unfold tracked
  rw [sync_trackRt, if_pos rfl]
  exact (rtPresent_congr hrt.reading (hrt.objects _ (hentry (by decide))) (hrt.objects _ (hentry (by decide)))
    (hrt.objects _ (hentry (by decide)))).symm

theorem sync_tracked_absent {c : Nat} (ns : Nat) {s : State} (hheld : stHeld ≤ station s) :
    sync (tracked c ns s) c sfAbsent = decide (mag (conv s c).va (conv s c).vb < rdPu s (Obj.STALL_V_MIN c)) := by
  have hprobe : sync (probeDone c ns (trackSector c s)) c sfAbsent = sync (trackSector c s) c sfAbsent :=
    congrArg (bit · sfAbsent) ((probeDone_follows c ns _).objects _ (by simpa only [List.mem_singleton] using place_ne (by decide)))
  unfold tracked
  rw [sync_trackRt, if_neg (by decide), hprobe, sync_trackSector_absent hheld]

/-! ### The steps of a sample (R163, R164) -/

/-- The voltage vector of a sample, per unit (R163). -/
def sampleVector (m : PocVolts) (s : State) : Rat × Rat :=
  let k := rdF s Obj.TRANSFORMER_RATIO * baseAc s * 1000
  clarke (m.va / k) (m.vb / k) (m.vc / k)

/-- The converter after the loop has taken the sample, and whether its frequency is clamped. -/
def looped (c : Nat) (m : PocVolts) (s : State) : Converter × Bool :=
  let ts := sampleSec (conv s c) m.ns
  lockLoop s c ts (separate s c (sampleVector m s) ts (conv s c))

/-- The converter with the times of its lock, and whether it is locked. -/
def locked (c : Nat) (m : PocVolts) (s : State) : Converter × Bool := lockFlag s c m.ns (looped c m s).1 (sync s c sfLocked)

/-- The converter that the sample leaves. -/
def sampled (c : Nat) (m : PocVolts) (s : State) : Converter :=
  let x := conv s c
  let l := (locked c m s).1
  probeSample s c m.ns { l with
    stamp := some m.ns, ageSum := x.ageSum + ((m.arrive : Int) - (m.ns : Int)), ageCount := x.ageCount + 1,
    omegas := ((m.ns, l.omega) :: x.omegas).filter (fun p => decide (m.ns ≤ p.1 + rd s (Obj.ROCOF_WINDOW c) * 1000000)) }

/-- The state with the sample's converter and the flags of the loop. -/
def synced (c : Nat) (m : PocVolts) (s : State) : State :=
  let t := setSync c sfLocked (locked c m s).2 (setSync c sfClamped (looped c m s).2 (setConv c (fun _ => sampled c m s) s))
  if (locked c m s).2 then setSync c sfLost false t else t

/-- The sample kept for the means of R166 and R175. -/
def keepSample (c : Nat) (m : PocVolts) (s : State) : State :=
  setConv c (fun x => { x with
    kept := { stamp := m.ns, v := vPos x, ip := x.set.ip, iq := x.set.iq, angle := atan2T x.vpb x.vpa, omega := x.omega }
      :: keptSince x m.ns,
    buckets := addBucket (m.ns / 100000000) (some (vPos x)) none x.buckets }) s

theorem keepSample_follows (c : Nat) (ks : List Nat) (m : PocVolts) (s : State) : Follows c ks s (keepSample c m s) :=
  (Follows.refl s).setConv fun _ => rfl

theorem sync_keepSample (c i : Nat) (m : PocVolts) (s : State) : sync (keepSample c m s) c i = sync s c i := rfl

theorem processSample_eq (c : Nat) (m : PocVolts) (s : State) :
    processSample c m s = keepSample c m (tracked c m.ns (synced c m s)) := by
  unfold processSample keepSample tracked synced sampled locked looped sampleVector
  rfl

theorem reading_sampled (c : Nat) (m : PocVolts) (s : State) :
    ∃ p q, reading (sampled c m s) = ((conv s c).seen, some m.ns, sampleVector m s, p, q) := by
  obtain ⟨p, q, hloop⟩ : ∃ p q, reading (looped c m s).1 = ((conv s c).seen, (conv s c).stamp, sampleVector m s, p, q) :=
    ⟨_, _, (reading_lockLoop _ _ _ _).trans rfl⟩
  simp only [reading, Prod.mk.injEq] at hloop
  obtain ⟨hseen, -, hvector, -⟩ := hloop
  unfold sampled
  rw [reading_probeSample]
  exact ⟨_, _, Prod.ext hseen (Prod.ext rfl (Prod.ext hvector rfl))⟩

theorem conv_synced {c : Nat} {m : PocVolts} {s : State} (hlen : c < s.convs.length) : conv (synced c m s) c = sampled c m s := by
  unfold synced
  dsimp only
  split <;> exact conv_setConv_same hlen _

/-- The loop's flags are all of the objects that it shows. -/
theorem synced_changes (c : Nat) (m : PocVolts) (s : State) :
    (∃ a b, synced c m s = { s with regs := a, convs := b }) ∧ OnlyObjects [Obj.SYNC_FLAGS c] s (synced c m s)
      ∧ (synced c m s).convs.length = s.convs.length := by
  have hflags : OnlyObjects [Obj.SYNC_FLAGS c] s
      (setSync c sfLocked (locked c m s).2 (setSync c sfClamped (looped c m s).2 (setConv c (fun _ => sampled c m s) s))) :=
    onlyObjects_trans (s := s) (t := setSync c sfClamped (looped c m s).2 (setConv c (fun _ => sampled c m s) s))
      (onlyObjects_setSync (s := setConv c (fun _ => sampled c m s) s) (by simp) _ _) (onlyObjects_setSync (by simp) _ _ _)
  unfold synced
  dsimp only
  split
  · exact ⟨⟨_, _, rfl⟩, onlyObjects_trans hflags (onlyObjects_setSync (by simp) _ _ _), List.length_modify ..⟩
  · exact ⟨⟨_, _, rfl⟩, hflags, List.length_modify ..⟩

/-! ### A sample of the source in use is processed (R163, R175, R180) -/

/-- What the steps after the loop leave: the reading of the loop's converter, with both conditions shown. -/
structure Processed (c : Nat) (m : PocVolts) (s t : State) : Prop where
  changes : ∃ a b x, t = { s with regs := a, convs := b, cl := x }
  objects : OnlyObjects (sampleKeys c) s t
  reading : ∃ p q, reading (conv t c) = ((conv s c).seen, some m.ns, sampleVector m s, p, q)
  condition : sync t c sfRt = rtPresent t c (conv t c)
  absent : sync t c sfAbsent = decide (mag (conv t c).va (conv t c).vb < rdPu t (Obj.STALL_V_MIN c))

theorem processSample_processed {c : Nat} {s : State} (m : PocVolts) (hlen : c < s.convs.length) (hheld : stHeld ≤ station s) :
    Processed c m s (processSample c m s) := by
  obtain ⟨⟨a, b, hsynced⟩, hflags, -⟩ := synced_changes c m s
  have hkept := keepSample_follows c (sampleKeys c) m (tracked c m.ns (synced c m s))
  have hall := (tracked_follows c m.ns (synced c m s)).trans hkept
  have hstation : station (synced c m s) = station s :=
    hflags _ (by simpa only [List.mem_singleton] using ne_place (by decide))
  rw [processSample_eq]
  refine ⟨?_, onlyObjects_trans (onlyObjects_mono hflags (by simp)) hall.objects, ?_, ?_, ?_⟩
  · obtain ⟨a', b', x, hchanges⟩ := hall.changes
    exact ⟨a', b', x, by rw [hchanges, hsynced]⟩
  · obtain ⟨p, q, hreading⟩ := reading_sampled c m s
    exact ⟨p, q, by rw [hall.reading, conv_synced hlen, hreading]⟩
  · rw [sync_keepSample, sync_tracked_rt]
    exact (rtPresent_congr hkept.reading (hkept.objects _ (not_mem_sampleKeys (by decide)))
      (hkept.objects _ (not_mem_sampleKeys (by decide))) (hkept.objects _ (not_mem_sampleKeys (by decide)))).symm
  · have hreading := hall.reading
    simp only [reading, Prod.mk.injEq] at hreading
    obtain ⟨-, -, ⟨hva, hvb⟩, -⟩ := hreading
    rw [sync_keepSample, sync_tracked_absent _ (by rw [hstation]; exact hheld), hva, hvb]
    unfold rdPu
    rw [hall.objects _ (not_mem_sampleKeys (by decide))]

/-! ### A sample arrives (R161, R162) -/

/-- The sample's instant is noted as that of its source. -/
def seeSource (c src ns : Nat) (s : State) : State := setConv c (fun x => { x with seen := x.seen.set src (some ns) }) s

/-- The source of a sample to use is in use from now on, with the event where another was. -/
def pickSource (c src : Nat) (s : State) : State :=
  if rd s (Obj.SOURCE_IN_USE c) = src ∨ rd s (Obj.SOURCE_IN_USE c) = 0xFF then useSource c src s else changeSource c src s

theorem convs_useSource {α : Type} (g : Converter → α) (h : ∀ x b, g { x with sectorFresh := b } = g x) (c src : Nat) (s : State) :
    (useSource c src s).convs.length = s.convs.length ∧ g (conv (useSource c src s) c) = g (conv s c) := by
  by_cases hused : rd s (Obj.SOURCE_IN_USE c) = src
  · rw [useSource_same hused]; exact ⟨rfl, rfl⟩
  · rw [useSource_other hused]
    exact ⟨List.length_modify .., conv_setConv_field g (fun x => h x true) (setSync c sfAlt _ (wr s _ src)) c c⟩

theorem pickSource_picks (c src : Nat) (s : State) :
    rd (pickSource c src s) (Obj.SOURCE_IN_USE c) = src
      ∧ (rd s (Obj.SOURCE_IN_USE c) ≠ src → rd s (Obj.SOURCE_IN_USE c) ≠ 0xFF → Raised .voltageSourceChanged c s (pickSource c src s))
      ∧ OnlyObjects [Obj.SOURCE_IN_USE c, Obj.SYNC_FLAGS c, Obj.LOG_DROPPED] s (pickSource c src s)
      ∧ ∃ a b l, pickSource c src s = { s with regs := a, convs := b, log := l } := by
  unfold pickSource
  split
  · next hused =>
    obtain ⟨a, b, hchanges⟩ := useSource_changes c src s
    exact ⟨rd_useSource_same c src s, fun hother hnone => absurd hused (not_or.mpr ⟨hother, hnone⟩),
      onlyObjects_useSource (by simp) (by simp) src s, a, b, s.log, hchanges⟩
  · exact ⟨rd_changeSource_same c src s, fun _ _ => raised_changeSource c src s,
      onlyObjects_changeSource (by simp) (by simp) (by simp) src s, changeSource_changes c src s⟩

theorem convs_pickSource (c src : Nat) (s : State) :
    (pickSource c src s).convs.length = s.convs.length ∧ (conv (pickSource c src s) c).seen = (conv s c).seen := by
  have huse := convs_useSource (·.seen) (fun _ _ => rfl) c src s
  unfold pickSource
  split
  · exact huse
  · have hconvs : (changeSource c src s).convs = (useSource c src s).convs := by unfold changeSource; rw [emit_frame]
    unfold conv at huse ⊢
    rw [hconvs]
    exact huse

theorem sampleVector_congr {s t : State} (m : PocVolts) (hratio : rd t Obj.TRANSFORMER_RATIO = rd s Obj.TRANSFORMER_RATIO)
    (hvoltage : rd t Obj.RATED_AC_VOLTAGE = rd s Obj.RATED_AC_VOLTAGE) : sampleVector m t = sampleVector m s := by
  simp only [sampleVector, baseAc, baseVac, rdF, hratio, hvoltage]

/-- A sample of bad quality, too old, or before HELD changes nothing. -/
theorem exec_voltageSample_missing {c src : Nat} {m : PocSample} {s : State}
    (h : m.good = false ∨ m.ns + lossNs s c < nowNs s ∨ station s < stHeld) : exec (.voltageSample c src m) s = .next s := by
  refine congrArg Host.Outcome.next (whenAlive_self ?_)
  unfold takeVoltage
  split
  · rfl
  · next hout =>
    rw [not_or, not_or] at hout
    exact if_pos (h.imp_right fun hlate => hlate.resolve_right hout.2.2)

/-- What VOLTAGE_SAMPLE finds: a valid sample in time, of a station from HELD onward. -/
structure Delivered (c src : Nat) (m : PocSample) (s : State) : Prop where
  conv : c < 2
  source : src < 3
  present : c < s.convs.length
  listed : src < (Machine.conv s c).seen.length
  held : stHeld ≤ station s
  good : m.good = true
  fresh : nowNs s ≤ m.ns + lossNs s c

theorem exec_voltageSample {c src : Nat} {m : PocSample} {s : State} (hf : alive s .fabric = true) (h : Delivered c src m s) :
    exec (.voltageSample c src m) s = .next (
      if takesSource s c src = false then seeSource c src m.ns s
      else processSample c (voltsOf s m) (pickSource c src (seeSource c src m.ns s))) := by
  have hin : ¬ (2 ≤ c ∨ 3 ≤ src ∨ station s < stHeld) :=
    not_or.mpr ⟨not_le.mpr h.conv, not_or.mpr ⟨not_le.mpr h.source, not_lt.mpr h.held⟩⟩
  have hvalid : ¬ ((voltsOf s m).good = false ∨ (voltsOf s m).ns + lossNs s c < (voltsOf s m).arrive) :=
    not_or.mpr ⟨by simp [voltsOf, h.good], not_lt.mpr h.fresh⟩
  show execVoltageSample c src m s = _
  unfold execVoltageSample
  rw [whenAlive_on _ hf]
  unfold takeVoltage
  rw [if_neg hin, if_neg hvalid]
  rfl

theorem conv_seeSource {c src ns : Nat} {s : State} (hlen : c < s.convs.length) :
    conv (seeSource c src ns s) c = { conv s c with seen := (conv s c).seen.set src (some ns) } := conv_setConv_same hlen _

theorem getD'_set_same {α : Type} {l : List α} {i : Nat} (h : i < l.length) (v d : α) : getD' (l.set i v) i d = v := by
  unfold getD'
  rw [List.getElem?_set_self h]
  rfl

theorem voltageSample_noted {c src : Nat} {m : PocSample} {s : State} (hf : alive s .fabric = true) (h : Delivered c src m s)
    (htakes : takesSource s c src = false) :
    Completes (.voltageSample c src m) s fun t =>
      getD' (conv t c).seen src none = some m.ns ∧ conv t c = { conv s c with seen := (conv t c).seen }
        ∧ t = { s with convs := t.convs } := by
  refine ⟨_, exec_voltageSample hf h, ?_⟩
  rw [if_pos htakes]
  refine ⟨?_, ?_, rfl⟩
  · rw [conv_seeSource h.present]; exact getD'_set_same h.listed _ _
  · rw [conv_seeSource h.present]

theorem voltageSample_processed {c src : Nat} {m : PocSample} {s : State} (hf : alive s .fabric = true) (h : Delivered c src m s)
    (htakes : takesSource s c src = true) :
    Completes (.voltageSample c src m) s fun t =>
      rd t (Obj.SOURCE_IN_USE c) = src ∧ (conv t c).stamp = some m.ns ∧ getD' (conv t c).seen src none = some m.ns
        ∧ ((conv t c).va, (conv t c).vb) = sampleVector (voltsOf s m) s
        ∧ sync t c sfRt = rtPresent t c (conv t c)
        ∧ sync t c sfAbsent = decide (mag (conv t c).va (conv t c).vb < rdPu t (Obj.STALL_V_MIN c))
        ∧ (rd s (Obj.SOURCE_IN_USE c) ≠ src → rd s (Obj.SOURCE_IN_USE c) ≠ 0xFF → Raised .voltageSourceChanged c s t)
        ∧ t = { s with regs := t.regs, convs := t.convs, log := t.log, cl := t.cl }
        ∧ OnlyObjects [Obj.SOURCE_IN_USE c, Obj.SYNC_FLAGS c, Obj.SECTOR_NOW c, Obj.SECTOR_TRANSITIONS c, Obj.PROBE_Z c,
            Obj.LOG_DROPPED] s t := by
  refine ⟨_, exec_voltageSample hf h, ?_⟩
  rw [if_neg (by simp [htakes])]
  obtain ⟨hsource, hraised, hpicked, a, b, l, hpick⟩ := pickSource_picks c src (seeSource c src m.ns s)
  obtain ⟨hlength, hseen⟩ := convs_pickSource c src (seeSource c src m.ns s)
  have hnoted : OnlyObjects [Obj.SOURCE_IN_USE c, Obj.SYNC_FLAGS c, Obj.LOG_DROPPED] s (pickSource c src (seeSource c src m.ns s)) :=
    fun j hj => (hpicked j hj).trans (rd_setConv s c _ j)
  have hplain : ∀ j, j % 0x4000 ∉ [0x2008, 0x220A, 4] → rd (pickSource c src (seeSource c src m.ns s)) j = rd s j := fun j hj => by
    simp only [List.mem_cons, List.not_mem_nil, or_false, not_or] at hj
    obtain ⟨hused, hsync, hlog⟩ := hj
    exact hnoted j (List.not_mem_cons_of_ne_of_not_mem (ne_place hused)
      (not_mem_pair (ne_place hsync) fun e => hlog (congrArg (· % 0x4000) e)))
  obtain ⟨⟨a', b', x, hchanges⟩, hobjects, ⟨p, q, hreading⟩, hcondition, habsent⟩ :=
    processSample_processed (c := c) (voltsOf s m)
      (show c < (pickSource c src (seeSource c src m.ns s)).convs.length by
        rw [hlength]; exact (List.length_modify ..).symm ▸ h.present)
      (show stHeld ≤ station (pickSource c src (seeSource c src m.ns s)) by
        unfold station; rw [hplain _ (by decide)]; exact h.held)
  rw [sampleVector_congr (s := s) _ (hplain _ (by decide)) (hplain _ (by decide)), hseen, conv_seeSource h.present] at hreading
  simp only [reading, Prod.mk.injEq] at hreading
  obtain ⟨hsources, hstamp, hvector, -⟩ := hreading
  refine ⟨(hobjects _ (not_mem_sampleKeys (by decide))).trans hsource, hstamp, ?_, hvector, hcondition, habsent,
    fun hother hnone => raised_congr (hraised hother hnone) rfl (by rw [hchanges]), ?_,
    onlyObjects_trans (onlyObjects_mono hnoted (by simp)) (onlyObjects_mono hobjects (by simp))⟩
  · rw [hsources]; exact getD'_set_same h.listed _ _
  · rw [hchanges, hpick]; rfl

/-- Settles O22: a sample that is missing, one that is only noted, and one that is processed. -/
theorem voltageSamples : Obligations.VoltageSamples :=
  ⟨fun _ _ _ _ hmissing => exec_voltageSample_missing hmissing,
    fun _ _ _ _ hf hc hsrc hlen hlisted hheld hgood hfresh htakes =>
      voltageSample_noted hf ⟨hc, hsrc, hlen, hlisted, hheld, hgood, hfresh⟩ htakes,
    fun _ _ _ _ hf hc hsrc hlen hlisted hheld hgood hfresh htakes =>
      voltageSample_processed hf ⟨hc, hsrc, hlen, hlisted, hheld, hgood, hfresh⟩ htakes⟩

end Sys2Proof.Proofs

namespace Sys2Proof.Proofs

open Sys2Proof.Machine Sys2Proof.Claims Sys2Proof.Laws

/-! ### The solar leaves, read after a change of one -/

@[simp] theorem rd_setSolar (L : Nat) (f : SolarLeaf → SolarLeaf) (s : State) (j : Nat) : rd (setSolar L f s) j = rd s j := rfl

@[simp] theorem solarOf_wr (s : State) (k v M : Nat) : solarOf (wr s k v) M = solarOf s M := rfl

@[simp] theorem solarOf_count (s : State) (k M : Nat) : solarOf (count s k) M = solarOf s M := rfl

@[simp] theorem solarOf_setSolar_same (L : Nat) (f : SolarLeaf → SolarLeaf) (s : State) :
    solarOf (setSolar L f s) L = f (solarOf s L) := by rw [solarOf_setSolar, if_pos rfl]

theorem solarOf_setSolar_other {L M : Nat} (f : SolarLeaf → SolarLeaf) (s : State) (h : M ≠ L) :
    solarOf (setSolar L f s) M = solarOf s M := by rw [solarOf_setSolar, if_neg h]

/-- A field that a change of leaves keeps. -/
theorem solarOf_setSolar_field {α : Type} (g : SolarLeaf → α) {f : SolarLeaf → SolarLeaf} (h : ∀ x, g (f x) = g x) (L M : Nat)
    (s : State) : g (solarOf (setSolar L f s) M) = g (solarOf s M) := by
  rw [solarOf_setSolar]
  split
  · next e => rw [h, e]
  · rfl

theorem solarOf_runTo (target : Nat) (s : State) (M : Nat) : solarOf (runTo target s) M = solarOf s M := by
  unfold solarOf; rw [runTo_frame]

/-- Which leaves of an arm are solar follows from the ordering code and the configuration of droves and leaves. -/
theorem solarLeaves_of_objects {s t : State} (hcode : rd t Obj.OPTION_CODE = rd s Obj.OPTION_CODE)
    (h : ∀ j, 0x340000 ≤ j → j % 256 < 0x30 → rd t j = rd s j) (a : Nat) : solarLeaves t a = solarLeaves s a := by
  have henable : ∀ d, rd t (Obj.DROVE_ENABLE d) = rd s (Obj.DROVE_ENABLE d) := fun d => by
    apply h <;> simp only [Obj.DROVE_ENABLE] <;> omega
  have hcount : ∀ d, rd t (Obj.DROVE_LEAVES d) = rd s (Obj.DROVE_LEAVES d) := fun d => by
    apply h <;> simp only [Obj.DROVE_LEAVES] <;> omega
  have harm : ∀ d, rd t (Obj.DROVE_ARM d) = rd s (Obj.DROVE_ARM d) := fun d => by
    apply h <;> simp only [Obj.DROVE_ARM] <;> omega
  have hkind : ∀ L, rd t (Obj.LEAF_KIND_CFG L) = rd s (Obj.LEAF_KIND_CFG L) := fun L => by
    apply h <;> simp only [Obj.LEAF_KIND_CFG] <;> omega
  have hon : droveOn t = droveOn s := funext fun d => by unfold droveOn droveCount optionCode rdBool; rw [hcode, henable]
  have hleaves : leavesOf t = leavesOf s := funext fun d => by unfold leavesOf; rw [hon, hcount]
  unfold solarLeaves armLeaves armDroves drovesOn droveCount optionCode
  simp only [hcode, hon, hleaves, harm, hkind]

theorem rd_runTo_solar (target : Nat) (s : State) {j : Nat} (h : 0x228000 ≤ j) : rd (runTo target s) j = rd s j :=
  rd_runTo _ s (not_mem_runKeys (.inr h))

theorem armOf_runTo (target : Nat) (s : State) (L : Nat) : armOf (runTo target s) L = armOf s L :=
  rd_runTo_solar _ s (by simp only [Obj.DROVE_ARM]; omega)

theorem curtailed_runTo (target : Nat) (s : State) (a : Nat) : curtailed (runTo target s) a = curtailed s a :=
  congrArg (fun v => decide (v ≠ 0)) (rd_runTo_solar _ s (by simp only [Obj.SOLAR_CURTAILED]; omega))

theorem solarLeaves_runTo (target : Nat) (s : State) (a : Nat) : solarLeaves (runTo target s) a = solarLeaves s a :=
  solarLeaves_of_objects (rd_runTo _ s (not_mem_runKeys (by decide))) (fun _ hj _ => rd_runTo_solar _ s (by omega)) a

/-- Nothing differs but objects and the solar unit. -/
def SolarOnly (s t : State) : Prop := ∃ a u, t = { s with regs := a, solar := u }

theorem SolarOnly.refl (s : State) : SolarOnly s s := ⟨_, _, rfl⟩

theorem SolarOnly.trans {s t u : State} (h : SolarOnly s t) (g : SolarOnly t u) : SolarOnly s u := by
  obtain ⟨_, _, rfl⟩ := h
  exact g

theorem SolarOnly.frame {s t : State} (h : SolarOnly s t) : t = { s with regs := t.regs, solar := t.solar } := by
  obtain ⟨_, _, rfl⟩ := h
  rfl

theorem SolarOnly.ite {p : Prop} [Decidable p] {s t u : State} (h : SolarOnly s t) (g : SolarOnly s u) :
    SolarOnly s (if p then t else u) := by
  split
  · exact h
  · exact g

theorem setSolar_only (L : Nat) (f : SolarLeaf → SolarLeaf) (s : State) : SolarOnly s (setSolar L f s) := ⟨_, _, rfl⟩

theorem wr_only (s : State) (key v : Nat) : SolarOnly s (wr s key v) := ⟨_, _, rfl⟩

theorem count_only (s : State) (key : Nat) : SolarOnly s (count s key) := ⟨_, _, rfl⟩

/-! ### What the leaves and arms show (R207, R222, R223) -/

/-- What showing leaves and arms changes: objects of theirs, and in the record of a leaf the value delivered before. -/
structure Shows (s t : State) : Prop where
  leaf : ∀ M, ∃ n v, solarOf t M = { solarOf s M with refTide := n, refOld := v }
  sentinels : t.solar.sentinels = s.solar.sentinels
  objects : ∀ j, j < 0x321000 ∨ j % 256 = 0x37 → rd t j = rd s j
  only : SolarOnly s t

theorem Shows.refl (s : State) : Shows s s := ⟨fun _ => ⟨_, _, rfl⟩, rfl, fun _ _ => rfl, .refl s⟩

theorem Shows.trans {s t u : State} (h : Shows s t) (g : Shows t u) : Shows s u where
  leaf M := by
    obtain ⟨_, _, ht⟩ := h.leaf M
    obtain ⟨n, v, hu⟩ := g.leaf M
    exact ⟨n, v, by rw [hu, ht]⟩
  sentinels := g.sentinels.trans h.sentinels
  objects j hj := (g.objects j hj).trans (h.objects j hj)
  only := h.only.trans g.only

/-- A field of a leaf other than the value delivered before. -/
theorem Shows.field {α : Type} {s t : State} (h : Shows s t) (g : SolarLeaf → α)
    (hg : ∀ x n v, g { x with refTide := n, refOld := v } = g x) (M : Nat) : g (solarOf t M) = g (solarOf s M) := by
  obtain ⟨n, v, e⟩ := h.leaf M
  rw [e, hg]

/-- Objects written, none of them a counter of the unit or a `LAST_SCAN`. -/
theorem wrs_shows {l : List (Nat × Nat)} (h : ∀ p ∈ l, 0x321000 ≤ p.1 ∧ p.1 % 256 ≠ 0x37) (s : State) : Shows s (wrs s l) := by
  refine ⟨fun M => ⟨(solarOf s M).refTide, (solarOf s M).refOld, ?_⟩, by rw [wrs_regs], fun j hj => ?_,
    ⟨_, s.solar, wrs_regs s l⟩⟩
  · unfold solarOf; rw [wrs_regs]
  · exact rd_wrs_other s l fun p hp e => by have := h p hp; omega

theorem deliver_shows (L : Nat) (s : State) : Shows s (deliver L s) := by
  unfold deliver
  dsimp only
  refine Shows.trans ?_ (wrs_shows ?_ _)
  · split
    · exact .refl s
    · refine ⟨fun M => ?_, rfl, fun _ _ => rfl, setSolar_only _ _ _⟩
      rw [solarOf_setSolar]
      split
      · next e => rw [e]; exact ⟨_, _, rfl⟩
      · exact ⟨_, _, rfl⟩
  · simp only [List.forall_mem_cons, List.not_mem_nil, IsEmpty.forall_iff, implies_true, and_true, Obj.MPPT_STATE, Obj.PV_V_REF,
      Obj.PV_VOC, Obj.PV_V_MPP, Obj.PV_P_MPP, Obj.PV_P_WINDOW, Obj.PV_STEP]
    omega

/-- What a leaf shows lies in its own objects from `MPPT_STATE` on. -/
theorem rd_deliver (L : Nat) (s : State) {j : Nat} (h : j < 0x400000 ∨ j % 256 < 0x30) : rd (deliver L s) j = rd s j := by
  unfold deliver
  dsimp only
  rw [rd_wrs_other]
  · split <;> rfl
  · simp only [List.forall_mem_cons, List.not_mem_nil, IsEmpty.forall_iff, implies_true, and_true, Obj.MPPT_STATE, Obj.PV_V_REF,
      Obj.PV_VOC, Obj.PV_V_MPP, Obj.PV_P_MPP, Obj.PV_P_WINDOW, Obj.PV_STEP]
    omega

theorem showCounts_shows (a : Nat) (s : State) : Shows s (showCounts a s) := by
  refine wrs_shows ?_ s
  simp only [List.forall_mem_cons, List.not_mem_nil, IsEmpty.forall_iff, implies_true, and_true, Obj.SOLAR_DARK, Obj.SOLAR_SCANNING]
  omega

theorem present_shows (L : Nat) (s : State) : Shows s (present L s) := (deliver_shows L s).trans (showCounts_shows _ _)

theorem presentArm_shows (a : Nat) (s : State) : Shows s (presentArm a s) :=
  Shows.trans (List.foldlRecOn (motive := Shows s) _ _ (.refl s) fun _ h L _ => h.trans (deliver_shows L _)) (showCounts_shows a _)

/-! ### Scans that start (R211) -/

/-- Scans that run in arm `a`. -/
def runningScans (s : State) (a : Nat) : Nat := ((solarLeaves s a).filter (fun M => (solarOf s M).scan.isSome)).length

/-- Nothing starts in a curtailed arm, or in one that runs all the scans it may. -/
theorem startScans_full {s : State} {a : Nat} (h : curtailed s a = true ∨ rd s Obj.SCAN_CONCURRENT ≤ runningScans s a) (fuel : Nat) :
    startScans a fuel s = s := by
  cases fuel with
  | zero => rfl
  | succ fuel => exact if_pos (h.imp_right .inr)

/-- Nothing starts where no scan is due. -/
theorem startScans_none {s : State} {a : Nat} (h : ∀ M ∈ solarLeaves s a, (solarOf s M).due = false) (fuel : Nat) :
    startScans a fuel s = s := by
  cases fuel with
  | zero => rfl
  | succ fuel =>
    have hnone : (solarLeaves s a).filter (fun L => (solarOf s L).due && (solarOf s L).state = mpTracking) = [] :=
      List.filter_eq_nil_iff.mpr fun M hM => by simp [h M hM]
    unfold startScans
    dsimp only
    rw [hnone]
    exact ite_self s

theorem firstDue_mem (s : State) {l : List Nat} (h : l ≠ []) : ∃ M ∈ l, firstDue s l = some M := by
  induction l with
  | nil => exact absurd rfl h
  | cons L l ih =>
    unfold firstDue
    cases hl : firstDue s l with
    | none => exact ⟨L, List.mem_cons_self, rfl⟩
    | some m =>
      obtain ⟨M, hM, e⟩ := ih fun e => by simp [e, firstDue] at hl
      obtain rfl : M = m := Option.some.inj (e.symm.trans hl)
      dsimp only
      split
      · exact ⟨M, List.mem_cons_of_mem _ hM, rfl⟩
      · exact ⟨L, List.mem_cons_self, rfl⟩

/-- With room in the arm, the only leaf that is due starts. -/
theorem startScans_only {s : State} {a L : Nat} (hfree : curtailed s a = false) (hinterval : rd s Obj.SCAN_INTERVAL ≠ 0)
    (hroom : runningScans s a < rd s Obj.SCAN_CONCURRENT) (hL : L ∈ solarLeaves s a) (hdue : (solarOf s L).due = true)
    (hstate : (solarOf s L).state = mpTracking) (hothers : ∀ M ∈ solarLeaves s a, M ≠ L → (solarOf s M).due = false) (fuel : Nat) :
    startScans a (fuel + 1) s = startScans a fuel (startScan L s) := by
  have hmem : L ∈ (solarLeaves s a).filter (fun L => (solarOf s L).due && (solarOf s L).state = mpTracking) :=
    List.mem_filter.mpr ⟨hL, by simp [hdue, hstate]⟩
  obtain ⟨M, hM, hfirst⟩ := firstDue_mem s (List.ne_nil_of_mem hmem)
  obtain ⟨hM, hready⟩ := List.mem_filter.mp hM
  obtain rfl : M = L := by_contra fun hne => by simp [hothers M hM hne] at hready
  have hopen : ¬ (curtailed s a = true ∨ rd s Obj.SCAN_INTERVAL = 0 ∨ rd s Obj.SCAN_CONCURRENT ≤ runningScans s a) := by
    simp only [hfree, hinterval, not_le.mpr hroom, or_self, Bool.false_eq_true, not_false_eq_true]
  conv_lhs => unfold startScans
  dsimp only
  rw [hfirst]
  exact if_neg hopen

/-- The record of a leaf whose scan begins at the instant `now` (R212). -/
def beginScan (now : Nat) (x : SolarLeaf) : SolarLeaf :=
  { x with
    vBefore := x.vref, pBefore := x.pWin, scan := some 0, vocRun := some 0, best := none, due := false, delayed := false,
    scanBase := .began now, dwell := 0, seen := 0, sumP := 0, sumV := 0, valid := 0, state := mpOpen }

/-- The scan of a leaf has begun, and its objects do not show it yet. -/
def scanBegun (L : Nat) (s : State) : State := wr (setSolar L (beginScan (nowNs s)) s) (Obj.LAST_SCAN L) (tideNow s)

theorem startScan_eq (L : Nat) (s : State) : startScan L s = deliver L (scanBegun L s) := rfl

theorem solarLeaves_startScan (L : Nat) (s : State) (a : Nat) : solarLeaves (startScan L s) a = solarLeaves s a := by
  have hrd : ∀ j, j < 0x400000 ∨ j % 256 < 0x30 → rd (startScan L s) j = rd s j := fun j hj => by
    rw [startScan_eq, rd_deliver L _ hj]
    exact rd_wr_other _ _ (by simp only [Obj.LAST_SCAN]; omega)
  exact solarLeaves_of_objects (hrd _ (.inl (by decide))) (fun j _ hj => hrd j (.inr hj)) a

/-! ### SCAN_DUE (R211) -/

/-- The record of a leaf whose scan has become due at the instant `t`. -/
def becomeDue (t : Nat) (x : SolarLeaf) : SolarLeaf := { x with due := true, delayed := false, dueAt := t }

/-- The scan of a leaf has become due at the instant `t`. -/
def markDue (L t : Nat) (s : State) : State := setSolar L (becomeDue t) s

theorem solarOf_markDue_same (L t : Nat) (s : State) : solarOf (markDue L t s) L = becomeDue t (solarOf s L) :=
  solarOf_setSolar_same L _ s

theorem solarOf_markDue_other {L M : Nat} (t : Nat) (s : State) (h : M ≠ L) : solarOf (markDue L t s) M = solarOf s M :=
  solarOf_setSolar_other _ s h

theorem runningScans_markDue (L t : Nat) (s : State) (a : Nat) : runningScans (markDue L t s) a = runningScans s a :=
  congrArg List.length (List.filter_congr fun M _ =>
    congrArg Option.isSome (solarOf_setSolar_field (f := becomeDue t) (·.scan) (fun _ => rfl) L M s))

theorem runningScans_runTo (target : Nat) (s : State) (a : Nat) : runningScans (runTo target s) a = runningScans s a := by
  unfold runningScans
  rw [solarLeaves_runTo]
  simp only [solarOf_runTo]

/-- Where nothing starts, the leaf stays due and the wait is counted. -/
theorem scanDue_waits {L t : Nat} {s : State} (h : startScans (armOf s L) 64 (markDue L t s) = markDue L t s) :
    scanDue L t s =
      count (setSolar L (fun x => { x with delayed := true }) (presentArm (armOf s L) (markDue L t s))) Obj.SCANS_DELAYED := by
  have hdue : (solarOf (presentArm (armOf s L) (markDue L t s)) L).due = true :=
    ((presentArm_shows _ _).field (·.due) (fun _ _ _ => rfl) L).trans (congrArg (·.due) (solarOf_markDue_same L t s))
  rw [← h] at hdue
  exact (if_pos hdue).trans (congrArg (fun u =>
    count (setSolar L (fun x => { x with delayed := true }) (presentArm (armOf s L) u)) Obj.SCANS_DELAYED) h)

/-- Where the leaf is no longer due once the scans have started, no wait is counted. -/
theorem scanDue_starts {L t : Nat} {s : State} (h : (solarOf (startScans (armOf s L) 64 (markDue L t s)) L).due = false) :
    scanDue L t s = presentArm (armOf s L) (startScans (armOf s L) 64 (markDue L t s)) := by
  refine if_neg ?_
  rw [Bool.not_eq_true]
  exact ((presentArm_shows _ _).field (·.due) (fun _ _ _ => rfl) L).trans h

/-- With no room in the arm, the scan is due and its wait counted. -/
theorem scanDue_full {L t0 : Nat} {s : State}
    (hfull : curtailed s (armOf s L) = true ∨ rd s Obj.SCAN_CONCURRENT ≤ runningScans s (armOf s L)) :
    (∃ n v, solarOf (scanDue L t0 s) L = { becomeDue t0 (solarOf s L) with refTide := n, refOld := v, delayed := true })
      ∧ Counted 32 Obj.SCANS_DELAYED s (scanDue L t0 s) ∧ SolarOnly s (scanDue L t0 s) := by
  have hshows := presentArm_shows (armOf s L) (markDue L t0 s)
  obtain ⟨n, v, hleaf⟩ := hshows.leaf L
  rw [scanDue_waits (startScans_full (by rw [runningScans_markDue]; exact hfull) 64)]
  refine ⟨⟨n, v, ?_⟩, ?_, (((setSolar_only ..).trans hshows.only).trans (setSolar_only ..)).trans (count_only ..)⟩
  · rw [solarOf_count, solarOf_setSolar_same, hleaf, solarOf_markDue_same]
  · rw [Counted, rd_count_same, rd_setSolar, hshows.objects _ (.inl (by decide))]; rfl

/-- With room in the arm and no other leaf due, the scan of a tracking leaf begins. -/
theorem startScans_markDue {L t0 : Nat} {s : State} (hinterval : rd s Obj.SCAN_INTERVAL ≠ 0) (hfree : curtailed s (armOf s L) = false)
    (hroom : runningScans s (armOf s L) < rd s Obj.SCAN_CONCURRENT) (hL : L ∈ solarLeaves s (armOf s L))
    (hstate : (solarOf s L).state = mpTracking) (hothers : ∀ M, M ∈ solarLeaves s (armOf s L) → (solarOf s M).due = false) :
    startScans (armOf s L) 64 (markDue L t0 s) = startScan L (markDue L t0 s) := by
  have hmarked := solarOf_markDue_same L t0 s
  rw [startScans_only (s := markDue L t0 s) hfree hinterval (by rw [runningScans_markDue]; exact hroom) hL (by rw [hmarked]; rfl)
    (by rw [hmarked]; exact hstate) (fun M hM hne => by rw [solarOf_markDue_other _ _ hne]; exact hothers M hM) 63]
  refine startScans_none (fun M hM => ?_) 63
  rw [solarLeaves_startScan] at hM
  rw [startScan_eq, (deliver_shows L _).field (·.due) (fun _ _ _ => rfl) M, scanBegun, solarOf_wr, solarOf_setSolar]
  split
  · rfl
  · next hne => rw [solarOf_markDue_other _ _ hne]; exact hothers M hM

/-- Where the only scan that starts is the one that becomes due, the leaf's scan has begun and nothing else is shown but that. -/
theorem scanDue_free {L t0 : Nat} {s : State} (h : startScans (armOf s L) 64 (markDue L t0 s) = startScan L (markDue L t0 s)) :
    Shows (scanBegun L (markDue L t0 s)) (scanDue L t0 s) := by
  rw [scanDue_starts, h]
  · exact (deliver_shows L _).trans (presentArm_shows _ _)
  · rw [h, startScan_eq, (deliver_shows L _).field (·.due) (fun _ _ _ => rfl) L, scanBegun, solarOf_wr, solarOf_setSolar_same]
    rfl

/-- A solar leaf with no scan due or running, whose next scan becomes due at the instant `t0`. -/
structure Awaits (L t0 : Nat) (s : State) : Prop where
  solar : isSolar s L = true
  interval : rd s Obj.SCAN_INTERVAL ≠ 0
  notDue : (solarOf s L).due = false
  idle : (solarOf s L).scan = none
  instant : scanInstant s L = some t0

section
variable {L t0 : Nat} {s : State} (hf : alive s .fabric = true) (h : Awaits L t0 s)
include hf h

theorem exec_scanDue : exec (.scanDue L) s = .next (scanDue L t0 (runTo (t0 * nsUnit) s)) := by
  show execScanDue L s = _
  unfold execScanDue
  rw [whenAlive_on _ hf, h.instant]
  simp only [h.solar, h.interval, h.notDue, h.idle, ne_eq, not_false_eq_true, decide_true, Bool.not_false, Option.isNone_none,
    Bool.and_self, if_true]

theorem scanDue_delays (hfull : curtailed s (armOf s L) = true ∨ rd s Obj.SCAN_CONCURRENT ≤ runningScans s (armOf s L)) :
    Completes (.scanDue L) s fun t =>
      (solarOf t L).due = true ∧ (solarOf t L).delayed = true ∧ (solarOf t L).dueAt = t0 ∧ (solarOf t L).scan = none
        ∧ Counted 32 Obj.SCANS_DELAYED s t ∧ t = { runTo (t0 * nsUnit) s with regs := t.regs, solar := t.solar } := by
  have hfull' := hfull
  rw [← curtailed_runTo (t0 * nsUnit), ← runningScans_runTo (t0 * nsUnit), ← armOf_runTo (t0 * nsUnit),
    ← rd_runTo_solar (t0 * nsUnit) s (by decide : _ ≤ Obj.SCAN_CONCURRENT)] at hfull'
  obtain ⟨⟨n, v, hleaf⟩, hcounted, honly⟩ := scanDue_full (t0 := t0) hfull'
  refine ⟨_, exec_scanDue hf h, ?_⟩
  rw [Counted, rd_runTo_solar _ _ (by decide)] at hcounted
  dsimp only
  rw [hleaf, solarOf_runTo]
  exact ⟨rfl, rfl, rfl, h.idle, hcounted, honly.frame⟩

theorem scanDue_begins (hfree : curtailed s (armOf s L) = false) (hroom : runningScans s (armOf s L) < rd s Obj.SCAN_CONCURRENT)
    (hL : L ∈ solarLeaves s (armOf s L)) (hstate : (solarOf s L).state = mpTracking)
    (hothers : ∀ M, M ∈ solarLeaves s (armOf s L) → (solarOf s M).due = false) :
    Completes (.scanDue L) s fun t =>
      (solarOf t L).scan = some 0 ∧ (solarOf t L).vocRun = some 0 ∧ (solarOf t L).due = false ∧ (solarOf t L).state = mpOpen
        ∧ (solarOf t L).vBefore = (solarOf s L).vref ∧ (solarOf t L).pBefore = (solarOf s L).pWin
        ∧ rd t (Obj.LAST_SCAN L) = tideNow s ∧ t = { runTo (t0 * nsUnit) s with regs := t.regs, solar := t.solar } := by
  have hshows := scanDue_free (startScans_markDue (t0 := t0) (s := runTo (t0 * nsUnit) s)
    (by rw [rd_runTo_solar _ _ (by decide)]; exact h.interval) (by rw [armOf_runTo, curtailed_runTo]; exact hfree)
    (by rw [armOf_runTo, runningScans_runTo, rd_runTo_solar _ _ (by decide)]; exact hroom)
    (by rw [armOf_runTo, solarLeaves_runTo]; exact hL) (by rw [solarOf_runTo]; exact hstate)
    (by simp only [armOf_runTo, solarLeaves_runTo, solarOf_runTo]; exact hothers))
  obtain ⟨n, v, hleaf⟩ := hshows.leaf L
  rw [scanBegun, solarOf_wr, solarOf_setSolar_same, solarOf_markDue_same, solarOf_runTo] at hleaf
  refine ⟨_, exec_scanDue hf h, ?_⟩
  dsimp only
  rw [hleaf]
  refine ⟨rfl, rfl, rfl, rfl, rfl, rfl, ?_, (((setSolar_only ..).trans (setSolar_only ..)).trans (wr_only ..) |>.trans hshows.only).frame⟩
  rw [hshows.objects _ (.inr (by simp only [Obj.LAST_SCAN]; omega))]
  exact (rd_wr_same _ _ _).trans (rd_runTo _ s (not_mem_runKeys (.inl (by decide))))

end

/-! ### SCAN_POINT_END (R212) -/

/-- The best point so far, the present one of power `p` among them; a tie goes to the earlier point, which has the higher voltage. -/
def bestPoint (p : Rat) (x : SolarLeaf) : Rat × Rat :=
  match x.best with
  | some b => if b.2 < p then (x.vref, p) else b
  | none => (x.vref, p)

/-- The dwell of a point is over, and the best point is kept. -/
def keepPoint (best : Rat × Rat) (x : SolarLeaf) : SolarLeaf :=
  { x with best := some best, dwell := 0, seen := 0, sumP := 0, sumV := 0, valid := 0 }

/-- The reference moves to point `j`. -/
def goToPoint (s : State) (j : Nat) (x : SolarLeaf) : SolarLeaf := { x with scan := some j, vref := scanPoint s x.voc j }

/-- The power that a scan must exceed to move the reference. -/
def gainLimit (s : State) (x : SolarLeaf) : Rat := x.pBefore * (1 + (rd s Obj.SCAN_GAIN_MIN : Rat) / 10000)

section
variable {L : Nat} {s : State} {b : Rat × Rat} (hbest : (solarOf s L).best = some b)

theorem endScan_only : SolarOnly s (endScan L s) := by
  unfold endScan
  dsimp only
  split <;> exact ⟨_, _, rfl⟩

theorem scan_endScan : (solarOf (endScan L s) L).scan = none := congrArg (·.scan) (solarOf_setSolar_same L _ _)

theorem counted_endScan : Counted 32 Obj.SCANS s (endScan L s) := by
  have hgain : Obj.SCANS ≠ Obj.SCAN_GAIN L := by simp only [Obj.SCANS, Obj.SCAN_GAIN]; omega
  unfold Counted endScan
  dsimp only
  rw [rd_setSolar]
  split
  · rw [rd_count_other _ (by decide), rd_wr_other _ _ hgain, rd_count_same]
  · rw [rd_wr_other _ _ hgain, rd_count_same]

include hbest

theorem endScan_moves (h : gainLimit s (solarOf s L) < b.2) :
    (solarOf (endScan L s) L).vref = b.1 ∧ (solarOf (endScan L s) L).pPrev = some b.2 ∧ Counted 32 Obj.SCAN_MOVES s (endScan L s) := by
  have hgain : Obj.SCAN_MOVES ≠ Obj.SCAN_GAIN L := by simp only [Obj.SCAN_MOVES, Obj.SCAN_GAIN]; omega
  unfold gainLimit at h
  unfold Counted endScan
  simp only [hbest, Option.getD_some, h, decide_true, if_true, solarOf_setSolar_same, rd_setSolar, rd_count_same, true_and]
  rw [rd_wr_other _ _ hgain, rd_count_other _ (by decide)]

theorem endScan_returns (h : b.2 ≤ gainLimit s (solarOf s L)) :
    (solarOf (endScan L s) L).vref = (solarOf s L).vBefore ∧ (solarOf (endScan L s) L).pPrev = some (solarOf s L).pBefore
      ∧ rd (endScan L s) Obj.SCAN_MOVES = rd s Obj.SCAN_MOVES := by
  have hgain : Obj.SCAN_MOVES ≠ Obj.SCAN_GAIN L := by simp only [Obj.SCAN_MOVES, Obj.SCAN_GAIN]; omega
  unfold gainLimit at h
  unfold endScan
  simp only [hbest, Option.getD_some, not_lt.mpr h, decide_false, Bool.false_eq_true, if_false, solarOf_setSolar_same, rd_setSolar,
    solarOf_wr, solarOf_count, true_and]
  rw [rd_wr_other _ _ hgain, rd_count_other _ (by decide)]

end

/-- A scan of a solar leaf is at point `j`, and the dwell of the point is over. -/
structure AtPointEnd (L j : Nat) (s : State) : Prop where
  solar : isSolar s L = true
  scan : (solarOf s L).scan = some j
  measured : (solarOf s L).vocRun = none
  dwell : solarTides s (rd s Obj.SCAN_DWELL) ≤ (solarOf s L).dwell

/-- Best point of the scan, the point whose dwell is over among them. -/
def bestNow (L : Nat) (s : State) : Rat × Rat :=
  bestPoint (scanPower L (solarTides s (rd s Obj.SCAN_DWELL)) (solarOf s L) s) (solarOf s L)

/-- The leaf with that point kept. -/
def pointKept (L : Nat) (s : State) : State := setSolar L (keepPoint (bestNow L s)) s

theorem solarOf_pointKept (L : Nat) (s : State) : solarOf (pointKept L s) L = keepPoint (bestNow L s) (solarOf s L) :=
  solarOf_setSolar_same L _ s

section
variable {L j : Nat} {s : State} (hf : alive s .fabric = true) (h : AtPointEnd L j s)
include hf h

theorem exec_scanPointEnd : exec (.scanPointEnd L) s = .next (present L (
    if j + 1 < rd s Obj.SCAN_POINTS then
      setSolar L (goToPoint s (j + 1)) (pointKept L s)
    else endScan L (pointKept L s))) := by
  have hover : ¬ (isSolar s L = false ∨ (solarOf s L).vocRun.isSome = true
      ∨ (solarOf s L).dwell < solarTides s (rd s Obj.SCAN_DWELL)) := by
    simp [h.solar, h.measured, h.dwell]
  show execScanPointEnd L s = _
  unfold execScanPointEnd
  rw [whenAlive_on _ hf]
  dsimp only
  rw [h.scan]
  dsimp only
  rw [if_neg hover]
  rfl

theorem scanPointEnd_next (hmore : j + 1 < rd s Obj.SCAN_POINTS) :
    Completes (.scanPointEnd L) s fun t =>
      (solarOf t L).scan = some (j + 1) ∧ (solarOf t L).best = some (bestNow L s) ∧ (solarOf t L).dwell = 0
        ∧ (solarOf t L).vref = scanPoint s (solarOf s L).voc (j + 1) ∧ t = { s with regs := t.regs, solar := t.solar } := by
  refine ⟨_, exec_scanPointEnd hf h, ?_⟩
  dsimp only
  rw [if_pos hmore]
  have hshows := present_shows L (setSolar L (goToPoint s (j + 1)) (pointKept L s))
  obtain ⟨n, v, hleaf⟩ := hshows.leaf L
  rw [solarOf_setSolar_same, solarOf_pointKept] at hleaf
  rw [hleaf]
  exact ⟨rfl, rfl, rfl, rfl, (((setSolar_only ..).trans (setSolar_only ..)).trans hshows.only).frame⟩

theorem scanPointEnd_last (hlast : rd s Obj.SCAN_POINTS ≤ j + 1) :
    Completes (.scanPointEnd L) s fun t =>
      (solarOf t L).scan = none ∧ Counted 32 Obj.SCANS s t
        ∧ (gainLimit s (solarOf s L) < (bestNow L s).2 →
            (solarOf t L).vref = (bestNow L s).1 ∧ (solarOf t L).pPrev = some (bestNow L s).2 ∧ Counted 32 Obj.SCAN_MOVES s t)
        ∧ ((bestNow L s).2 ≤ gainLimit s (solarOf s L) →
            (solarOf t L).vref = (solarOf s L).vBefore ∧ (solarOf t L).pPrev = some (solarOf s L).pBefore
              ∧ rd t Obj.SCAN_MOVES = rd s Obj.SCAN_MOVES)
        ∧ t = { s with regs := t.regs, solar := t.solar } := by
  refine ⟨_, exec_scanPointEnd hf h, ?_⟩
  dsimp only
  rw [if_neg (not_lt.mpr hlast)]
  have hkept := solarOf_pointKept L s
  have hbest : (solarOf (pointKept L s) L).best = some (bestNow L s) := by rw [hkept]; rfl
  have hlimit : gainLimit (pointKept L s) (solarOf (pointKept L s) L) = gainLimit s (solarOf s L) := by rw [hkept]; rfl
  have hshows := present_shows L (endScan L (pointKept L s))
  have hscans := hshows.objects Obj.SCANS (.inl (by decide))
  have hmoves := hshows.objects Obj.SCAN_MOVES (.inl (by decide))
  obtain ⟨n, v, hleaf⟩ := hshows.leaf L
  rw [hleaf, Counted, Counted, hscans, hmoves]
  refine ⟨scan_endScan, counted_endScan, fun hgains => ?_, fun hfails => ?_,
    (((setSolar_only ..).trans endScan_only).trans hshows.only).frame⟩
  · exact endScan_moves hbest (by rw [hlimit]; exact hgains)
  · have hreturns := endScan_returns hbest (by rw [hlimit]; exact hfails)
    rw [hkept] at hreturns
    exact hreturns

end

/-! ### SCAN_ABANDON (R213) -/

/-- The record of a leaf whose scan is abandoned at the instant `now`. -/
def abandoned (now : Nat) (x : SolarLeaf) : SolarLeaf :=
  { x with
    scan := none, vocRun := none, best := none, vref := x.vBefore, due := false, scanBase := .abandoned now, sumP := 0, sumV := 0,
    valid := 0 }

theorem abandonScan_idle {L : Nat} {s : State} (h : (solarOf s L).scan = none) : abandonScan L s = s := by
  unfold abandonScan; rw [h]

theorem abandonScan_running {L j : Nat} {s : State} (h : (solarOf s L).scan = some j) :
    abandonScan L s = count (setSolar L (abandoned (nowNs s)) s) Obj.SCANS_ABANDONED := by
  unfold abandonScan; rw [h]; rfl

theorem scanAbandon_completes {L j : Nat} {s : State} (hf : alive s .fabric = true) (hsolar : isSolar s L = true)
    (hcurtailed : curtailed s (armOf s L) = true) (hscan : (solarOf s L).scan = some j) :
    Completes (.scanAbandon L) s fun t =>
      Counted 32 Obj.SCANS_ABANDONED s t ∧ (solarOf t L).scan = none ∧ (solarOf t L).vocRun = none
        ∧ (solarOf t L).vref = (solarOf s L).vBefore ∧ t = { s with regs := t.regs, solar := t.solar } := by
  have hexec : exec (.scanAbandon L) s = .next (present L (abandonScan L s)) := by
    show execScanAbandon L s = _
    unfold execScanAbandon
    rw [whenAlive_on _ hf]
    dsimp only
    rw [hsolar, hcurtailed, Bool.true_or, Bool.true_or, Bool.and_self, if_pos rfl]
  refine ⟨_, hexec, ?_⟩
  dsimp only
  rw [abandonScan_running hscan]
  have hshows := present_shows L (count (setSolar L (abandoned (nowNs s)) s) Obj.SCANS_ABANDONED)
  have hcount := hshows.objects Obj.SCANS_ABANDONED (.inl (by decide))
  obtain ⟨n, v, hleaf⟩ := hshows.leaf L
  rw [solarOf_count, solarOf_setSolar_same] at hleaf
  rw [rd_count_same, rd_setSolar] at hcount
  rw [hleaf]
  exact ⟨hcount, rfl, rfl, rfl, (((setSolar_only ..).trans (count_only ..)).trans hshows.only).frame⟩

/-! ### The state of a leaf after its measurement (R207, R208) -/

/-- The row OPEN-CIRCUIT needs a measurement that runs. -/
theorem solarRow_open {s : State} {a L : Nat} {x : SolarLeaf} (h : x.vocRun = none) : solarRow s a L x ≠ mpOpen := by
  unfold solarRow
  simp only [h, Option.isSome_none, Bool.false_eq_true, if_false]
  split_ifs <;> decide

/-- The row SCANNING needs a scan that runs. -/
theorem solarRow_scanning {s : State} {a L : Nat} {x : SolarLeaf} (h : x.scan = none) : solarRow s a L x ≠ mpScanning := by
  unfold solarRow
  simp only [h, Option.isSome_none, Bool.false_eq_true, if_false]
  split_ifs <;> decide

theorem dropScan_only (L row : Nat) (s : State) : SolarOnly s (dropScan L row s) := by
  unfold dropScan
  have hdropped := SolarOnly.ite (p := row < mpOpen ∨ row = mpDark ∨ curtailed s (armOf s L) = true) (abandonScan_changes L s) (.refl s)
  exact .ite (hdropped.trans (setSolar_only ..)) hdropped

/-- With no measurement running, the leaf either stands, or its scan has been abandoned. -/
theorem dropScan_leaf {L : Nat} (row : Nat) {s : State} (hvoc : (solarOf s L).vocRun = none) :
    solarOf (dropScan L row s) L = solarOf s L
      ∨ (solarOf s L).scan ≠ none ∧ solarOf (dropScan L row s) L = abandoned (nowNs s) (solarOf s L) := by
  have hclear : ∀ u : State, (solarOf u L).vocRun = none →
      solarOf (if row < mpOpen then setSolar L (fun x => { x with vocRun := none }) u else u) L = solarOf u L := fun u hu => by
    split
    · rw [solarOf_setSolar_same, ← hu]
    · rfl
  unfold dropScan
  dsimp only
  by_cases hdrop : row < mpOpen ∨ row = mpDark ∨ curtailed s (armOf s L) = true
  · rw [if_pos hdrop]
    cases hscan : (solarOf s L).scan with
    | none => rw [abandonScan_idle hscan]; exact .inl (hclear s hvoc)
    | some j =>
      have habandoned : solarOf (abandonScan L s) L = abandoned (nowNs s) (solarOf s L) := by
        rw [abandonScan_running hscan, solarOf_count, solarOf_setSolar_same]
      exact .inr ⟨by simp, (hclear _ (by rw [habandoned]; rfl)).trans habandoned⟩
  · rw [if_neg hdrop]
    exact .inl (hclear s hvoc)

/-- What entering the row `row` leaves of a leaf's record: what is known of Voc, the scan, and, unless the row is DARK, the reference. -/
structure Enters (row : Nat) (x y : SolarLeaf) : Prop where
  state : y.state = row
  voc : (y.voc, y.vocKnown, y.estimated, y.vocRun) = (x.voc, x.vocKnown, x.estimated, x.vocRun)
  scan : (y.scan, y.dwell) = (x.scan, x.dwell)
  reference : row ≠ mpDark → (y.vref, y.dir, y.step, y.pPrev) = (x.vref, x.dir, x.step, x.pPrev)

/-- Leaving OPEN-CIRCUIT is a change of the leaf's record alone, into the row that the state without an ended scan gives. -/
theorem solarState_fromOpen {a L : Nat} (rho : Rat) {s : State} (hopen : (solarOf s L).state = mpOpen)
    (hvoc : (solarOf s L).vocRun = none) :
    let u := dropScan L (solarRow s a L (solarOf s L)) s
    ∃ f, solarState a L rho s = setSolar L f u ∧ Enters (solarRow u a L (solarOf u L)) (solarOf u L) (f (solarOf u L)) := by
  intro u
  have hleaf : (solarOf u L).state = mpOpen ∧ (solarOf u L).vocRun = none := by
    rcases dropScan_leaf (solarRow s a L (solarOf s L)) hvoc with h | ⟨-, h⟩ <;> rw [h]
    · exact ⟨hopen, hvoc⟩
    · exact ⟨hopen, rfl⟩
  obtain ⟨hopen, hvoc⟩ := hleaf
  have hrow := solarRow_open (s := u) (a := a) (L := L) hvoc
  have hentry : ¬ (mpOpen = mpOff ∨ mpOpen = mpDark ∨ (mpOpen = mpPaused ∧ (solarOf u L).vocKnown = false)
      ∨ (mpOpen = mpShed ∧ (solarOf u L).pMpp = 0)) := by
    rintro (h | h | ⟨h, -⟩ | ⟨h, -⟩) <;> exact absurd h (by decide)
  unfold solarState
  dsimp only
  rw [hopen, if_neg hrow]
  generalize solarRow u a L (solarOf u L) = row at hrow
  by_cases hhigher : row < mpOpen
  · rw [if_pos hhigher]
    exact ⟨_, rfl, rfl, rfl, rfl, fun _ => rfl⟩
  rw [if_neg hhigher]
  by_cases hdark : row = mpDark
  · rw [if_pos hdark]
    exact ⟨_, rfl, hdark.symm, rfl, rfl, fun h => absurd hdark h⟩
  rw [if_neg hdark, if_neg hrow, if_neg hentry, if_neg (by decide), if_neg (by decide)]
  by_cases hcurtailed : row = mpCurtailed
  · rw [if_pos hcurtailed]
    exact ⟨_, rfl, rfl, rfl, rfl, fun _ => rfl⟩
  · rw [if_neg hcurtailed]
    refine ⟨_, rfl, rfl, ?_, ?_, fun _ => ?_⟩ <;> split <;> rfl

/-! ### VOC_MEASUREMENT_END (R208) -/

/-- The record of a leaf whose measurement is over: Voc is the window's mean, and the scan or P&O goes on from it. -/
def measuredLeaf (s : State) (x : SolarLeaf) : SolarLeaf :=
  let x' : SolarLeaf :=
    { x with voc := windowV x, vocKnown := true, estimated := false, vocRun := none, sumP := 0, sumV := 0, valid := 0 }
  if x.scan.isSome then { x' with dwell := 0, seen := 0, vref := roundV (partOf (rd s Obj.SCAN_HIGH) (windowV x)) }
  else startPando s (partOf (rd s Obj.V_START) (windowV x)) x'

theorem measuredLeaf_voc (s : State) (x : SolarLeaf) :
    ((measuredLeaf s x).voc, (measuredLeaf s x).vocKnown, (measuredLeaf s x).estimated, (measuredLeaf s x).vocRun)
      = (windowV x, true, false, none) := by
  unfold measuredLeaf
  dsimp only
  split <;> rfl

theorem measuredLeaf_keeps (s : State) (x : SolarLeaf) :
    ((measuredLeaf s x).state, (measuredLeaf s x).scan) = (x.state, x.scan) := by
  unfold measuredLeaf
  dsimp only
  split <;> rfl

theorem measuredLeaf_pando {s : State} {x : SolarLeaf} (h : x.scan = none) :
    ((measuredLeaf s x).vref, (measuredLeaf s x).dir, (measuredLeaf s x).step, (measuredLeaf s x).pPrev)
      = (roundV (partOf (rd s Obj.V_START) (windowV x)), -1, (rd s Obj.STEP_INIT : Rat), none) := by
  unfold measuredLeaf
  rw [h]
  rfl

theorem measuredLeaf_scan {s : State} {x : SolarLeaf} {j : Nat} (h : x.scan = some j) :
    ((measuredLeaf s x).vref, (measuredLeaf s x).dwell) = (roundV (partOf (rd s Obj.SCAN_HIGH) (windowV x)), 0) := by
  unfold measuredLeaf
  rw [h]
  rfl

/-- The time of a running open-circuit measurement of a solar leaf is over. -/
structure AtVocEnd (L n : Nat) (s : State) : Prop where
  solar : isSolar s L = true
  running : (solarOf s L).vocRun = some n
  ended : solarTides s (rd s Obj.VOC_TIME) ≤ n
  opened : (solarOf s L).state = mpOpen

/-- The measurement that has ended holds enough valid tides. -/
def vocGood (L : Nat) (s : State) : Bool := windowGood (solarOf s L) (halfOf (solarTides s (rd s Obj.VOC_TIME)))

/-- The leaf whose measurement is over, its state not yet re-evaluated. -/
def measured (L : Nat) (s : State) : State := setSolar L (fun _ => measuredLeaf s (solarOf s L)) s

/-- What the re-evaluation of its state makes of that leaf. -/
structure Resumes (L : Nat) (s t : State) : Prop where
  voc : ((solarOf t L).voc, (solarOf t L).vocKnown, (solarOf t L).estimated, (solarOf t L).vocRun)
    = (windowV (solarOf s L), true, false, none)
  pando : (solarOf s L).scan = none → (solarOf t L).state ≠ mpDark →
    ((solarOf t L).vref, (solarOf t L).dir, (solarOf t L).step, (solarOf t L).pPrev)
      = (roundV (partOf (rd s Obj.V_START) (windowV (solarOf s L))), -1, (rd s Obj.STEP_INIT : Rat), none)
  scan : ∀ j, (solarOf s L).scan = some j → (solarOf t L).state = mpScanning →
    ((solarOf t L).vref, (solarOf t L).dwell, (solarOf t L).scan)
      = (roundV (partOf (rd s Obj.SCAN_HIGH) (windowV (solarOf s L))), 0, some j)
  only : SolarOnly s t

theorem solarState_measured (a L : Nat) (rho : Rat) {s : State} (hopen : (solarOf s L).state = mpOpen) :
    Resumes L s (solarState a L rho (measured L s)) := by
  have hleaf : solarOf (measured L s) L = measuredLeaf s (solarOf s L) := solarOf_setSolar_same L _ s
  have hmeasured := measuredLeaf_voc s (solarOf s L)
  have hkeeps := measuredLeaf_keeps s (solarOf s L)
  rw [← hleaf] at hmeasured hkeeps
  simp only [Prod.mk.injEq] at hmeasured hkeeps
  obtain ⟨hvoc, hknown, hestimated, hrun⟩ := hmeasured
  obtain ⟨hstate, hscan⟩ := hkeeps
  obtain ⟨f, hsolar, henters⟩ := solarState_fromOpen (a := a) rho (hstate.trans hopen) hrun
  have hdropped := dropScan_leaf (solarRow (measured L s) a L (solarOf (measured L s) L)) hrun
  have honly := (setSolar_only L (fun _ => measuredLeaf s (solarOf s L)) s).trans
    (dropScan_only L (solarRow (measured L s) a L (solarOf (measured L s) L)) (measured L s))
  rw [hsolar]
  generalize dropScan L (solarRow (measured L s) a L (solarOf (measured L s) L)) (measured L s) = u at *
  obtain ⟨hrow, hvocs, hscans, hreference⟩ := henters
  simp only [Prod.mk.injEq] at hscans
  refine ⟨?_, fun hnone hlight => ?_, fun j hj hscanning => ?_, honly.trans (setSolar_only ..)⟩ <;>
    rw [solarOf_setSolar_same] at *
  · rw [hvocs]
    rcases hdropped with h | ⟨-, h⟩ <;> rw [h]
    · rw [hvoc, hknown, hestimated, hrun]
    · simp only [abandoned, hvoc, hknown, hestimated]
  · have hstands : solarOf u L = solarOf (measured L s) L := hdropped.resolve_right fun h => h.1 (hscan.trans hnone)
    rw [hreference (fun e => hlight (hrow.trans e)), hstands, hleaf]
    exact measuredLeaf_pando hnone
  · rw [hrow] at hscanning
    have hstands : solarOf u L = solarOf (measured L s) L :=
      hdropped.resolve_right fun h => solarRow_scanning (by rw [h.2]; rfl) hscanning
    have hpoint := measuredLeaf_scan (s := s) hj
    simp only [Prod.mk.injEq] at hpoint ⊢
    rw [hscanning] at hreference
    have href := hreference (by decide)
    simp only [Prod.mk.injEq] at href
    rw [href.1, hscans.1, hscans.2, hstands, hscan, hleaf]
    exact ⟨hpoint.1, hpoint.2, hj⟩

section
variable {L n : Nat} {s : State} (hf : alive s .fabric = true) (h : AtVocEnd L n s)
include hf h

theorem exec_vocMeasurementEnd : exec (.vocMeasurementEnd L) s = .next (
    if vocGood L s = false then
      count (setSolar L (fun x => { x with vocRun := some 0, sumP := 0, sumV := 0, valid := 0 }) s) Obj.MPPT_HOLDS
    else present L (solarState (armOf s L) L (solarRho s (armOf s L)) (measured L s))) := by
  show execVocMeasurementEnd L s = _
  unfold execVocMeasurementEnd
  rw [whenAlive_on _ hf, if_pos h.solar]
  unfold vocEnd
  dsimp only
  rw [h.running]
  dsimp only
  rw [if_neg (not_lt.mpr h.ended)]
  rfl

theorem vocMeasurementEnd_repeats (hfew : vocGood L s = false) :
    Completes (.vocMeasurementEnd L) s fun t =>
      Counted 32 Obj.MPPT_HOLDS s t ∧ (solarOf t L).vocRun = some 0 ∧ (solarOf t L).voc = (solarOf s L).voc
        ∧ OnlyRegs [Obj.MPPT_HOLDS] { s with solar := t.solar } t := by
  refine ⟨_, exec_vocMeasurementEnd hf h, ?_⟩
  dsimp only
  rw [if_pos hfew, solarOf_count, solarOf_setSolar_same]
  exact ⟨rd_count_same .., rfl, rfl, rfl, fun j hj => rd_count_other _ (by simpa using hj)⟩

theorem vocMeasurementEnd_resumes (hgood : vocGood L s = true) :
    Completes (.vocMeasurementEnd L) s (Resumes L s) := by
  refine ⟨_, exec_vocMeasurementEnd hf h, ?_⟩
  rw [if_neg (by simp [hgood])]
  have hshows := present_shows L (solarState (armOf s L) L (solarRho s (armOf s L)) (measured L s))
  obtain ⟨hvoc, hpando, hscan, honly⟩ := solarState_measured (armOf s L) L (solarRho s (armOf s L)) h.opened
  obtain ⟨m, v, hleaf⟩ := hshows.leaf L
  generalize present L (solarState (armOf s L) L (solarRho s (armOf s L)) (measured L s)) = t at *
  refine ⟨?_, ?_, ?_, honly.trans hshows.only⟩ <;> rw [hleaf]
  · exact hvoc
  · exact hpando
  · exact hscan

end

/-! ### CURTAIL_STEP (R217) -/

/-- The record of a curtailed leaf after a step that sets the reference to `v`. -/
def stepLeaf (v : Rat) (x : SolarLeaf) : SolarLeaf :=
  { x with pWin := windowP x, vref := v, steps := [(x.vref, windowP x)], sumP := 0, sumV := 0, valid := 0, tides := 0 }

/-- The record of a leaf that leaves its curtailment loop for P&O. -/
def leaveLoop (s : State) (x : SolarLeaf) : SolarLeaf :=
  noteTracking s { x with
    leaving := false, state := mpTracking, step := (rd s Obj.STEP_INIT : Rat), run := 0, dir := -1, pPrev := none }

/-- A step sets the reference, which stands within the band of the target; a leaf that is leaving ends its loop at V_MPP. -/
theorem curtailStep_shows (a L : Nat) (s : State) :
    let x := solarOf s L
    let target := curtailTarget s a x
    ∃ v, (absRat (windowP x - target) ≤ partOf (rd s Obj.CURTAIL_BAND) target → v = x.vref)
      ∧ Shows (setSolar L (fun _ => if x.leaving && decide (v ≤ x.vMpp) then leaveLoop s (stepLeaf v x) else stepLeaf v x) s)
        (curtailStep a L s) := by
  refine ⟨_, fun hband => ?_, deliver_shows L _⟩
  exact if_neg (by simp [not_lt.mpr hband])

/-- A curtailed solar leaf whose curtailment period has ended. -/
structure AtCurtailEnd (L : Nat) (s : State) : Prop where
  solar : isSolar s L = true
  state : (solarOf s L).state = mpCurtailed
  ended : solarTides s (rd s Obj.CURTAIL_PERIOD) ≤ (solarOf s L).tides

/-- The curtailment period that has ended holds enough valid tides. -/
def curtailGood (L : Nat) (s : State) : Bool := windowGood (solarOf s L) (halfOf (solarTides s (rd s Obj.CURTAIL_PERIOD)))

section
variable {L : Nat} {s : State} (hf : alive s .fabric = true) (h : AtCurtailEnd L s)
include hf h

theorem exec_curtailStep : exec (.curtailStep L) s = .next (
    if curtailGood L s then curtailStep (armOf s L) L s else count s Obj.MPPT_HOLDS) := by
  show execCurtailStep L s = _
  unfold execCurtailStep
  rw [whenAlive_on _ hf]
  dsimp only
  rw [if_pos (by simp [h.solar, h.state, h.ended])]
  rfl

theorem curtailStep_holds (hfew : curtailGood L s = false) :
    Completes (.curtailStep L) s fun t => Counted 32 Obj.MPPT_HOLDS s t ∧ OnlyRegs [Obj.MPPT_HOLDS] s t := by
  refine ⟨_, exec_curtailStep hf h, ?_⟩
  rw [if_neg (by simp [hfew])]
  exact ⟨rd_count_same .., rfl, fun j hj => rd_count_other _ (by simpa using hj)⟩

theorem curtailStep_steps (hgood : curtailGood L s = true) :
    let x := solarOf s L
    let target := curtailTarget s (armOf s L) x
    Completes (.curtailStep L) s fun t =>
      (solarOf t L).pWin = windowP x ∧ (solarOf t L).steps = [(x.vref, windowP x)]
        ∧ (absRat (windowP x - target) ≤ partOf (rd s Obj.CURTAIL_BAND) target → (solarOf t L).vref = x.vref)
        ∧ (x.leaving = false → (solarOf t L).state = mpCurtailed)
        ∧ (x.leaving = true → (solarOf t L).vref ≤ x.vMpp → (solarOf t L).state = mpTracking ∧ (solarOf t L).leaving = false)
        ∧ t = { s with regs := t.regs, solar := t.solar } := by
  intro x target
  obtain ⟨v, hband, hshows⟩ := curtailStep_shows (armOf s L) L s
  obtain ⟨n, w, hleaf⟩ := hshows.leaf L
  refine ⟨_, exec_curtailStep hf h, ?_⟩
  have honly := ((setSolar_only ..).trans hshows.only).frame
  rw [if_pos hgood]
  dsimp only
  rw [hleaf, solarOf_setSolar_same]
  by_cases hdone : (x.leaving && decide (v ≤ x.vMpp)) = true
  · obtain ⟨hleaving, -⟩ := (Bool.and_eq_true _ _).mp hdone
    rw [if_pos hdone]
    exact ⟨rfl, rfl, hband, fun hstays => absurd (hstays.symm.trans hleaving) (by decide), fun _ _ => ⟨rfl, rfl⟩, honly⟩
  · rw [if_neg hdone]
    exact ⟨rfl, rfl, hband, fun _ => h.state, fun hleaving (hv : v ≤ x.vMpp) => absurd (by simp [hleaving, hv]) hdone, honly⟩

end

/-! ### Folds over solar leaves -/

theorem foldl_setSolar_leaves (f : SolarLeaf → SolarLeaf) (l : List Nat) (s : State) :
    ∃ m, l.foldl (fun t L => setSolar L f t) s = { s with solar := { s.solar with leaves := m } } := by
  refine List.foldlRecOn (motive := fun t : State => ∃ m, t = { s with solar := { s.solar with leaves := m } }) l _ ⟨_, rfl⟩ ?_
  rintro t ⟨m, rfl⟩ L -
  exact ⟨_, rfl⟩

/-- A field that one change of a leaf takes to `h` of itself, and a second to nothing more. -/
theorem solarOf_foldl_setSolar {α : Type} {f : SolarLeaf → SolarLeaf} (g : SolarLeaf → α) {h : α → α} (hf : ∀ x, g (f x) = h (g x))
    (hh : ∀ v, h (h v) = h v) (l : List Nat) (s : State) (M : Nat) :
    g (solarOf (l.foldl (fun t L => setSolar L f t) s) M) = if M ∈ l then h (g (solarOf s M)) else g (solarOf s M) := by
  induction l generalizing s with
  | nil => simp
  | cons L l ih =>
    rw [List.foldl_cons, ih]
    by_cases hML : M = L
    · subst hML; simp [hf, hh]
    · simp [solarOf_setSolar_other _ _ hML, hML]

/-! ### SENTINEL_ROTATE_EXPIRY (R216) -/

theorem length_nextInOrder_le (k : Nat) (last : Option Nat) (xs : List Nat) : (nextInOrder k last xs).length ≤ k :=
  List.length_take_le _ _

theorem mem_of_mem_nextInOrder {k L : Nat} {last : Option Nat} {xs : List Nat} (h : L ∈ nextInOrder k last xs) : L ∈ xs := by
  rcases List.mem_append.mp (List.mem_of_mem_take h) with h | h <;> exact List.mem_of_mem_filter h

/-- The record of a leaf that becomes a sentinel. -/
def becomeSentinel (x : SolarLeaf) : SolarLeaf :=
  { x with
    sentinelP := x.pMpp, sentinelWin := false, state := mpSentinel, pPrev := if x.state = mpTracking then x.pPrev else none,
    dir := if x.state = mpTracking then x.dir else -1, run := if x.state = mpTracking then x.run else 0, sumP := 0, sumV := 0,
    valid := 0 }

/-- The state of a leaf that is made a sentinel, and of one that is not. -/
theorem state_makeSentinels (a : Nat) (xs : List Nat) (s : State) (M : Nat) :
    (solarOf (makeSentinels a xs s) M).state = if M ∈ xs then mpSentinel else (solarOf s M).state :=
  solarOf_foldl_setSolar (f := becomeSentinel) (·.state) (h := fun _ => mpSentinel) (fun _ => rfl) (fun _ => rfl) xs s M

theorem makeSentinels_changes (a : Nat) (xs : List Nat) (s : State) :
    ∃ m last, makeSentinels a xs s = { s with
      solar := { s.solar with leaves := m, sentinels := s.solar.sentinels.modify a (· ++ xs), lastSentinel := last } } := by
  obtain ⟨m, e⟩ := foldl_setSolar_leaves becomeSentinel xs s
  unfold makeSentinels
  exact e.symm ▸ ⟨m, _, rfl⟩

theorem sentinelsOf_makeSentinels {a : Nat} (xs : List Nat) {s : State} (h : a < s.solar.sentinels.length) :
    sentinelsOf (makeSentinels a xs s) a = sentinelsOf s a ++ xs := by
  obtain ⟨m, last, e⟩ := makeSentinels_changes a xs s
  rw [e]
  exact (getD'_modify ..).trans (if_pos ⟨rfl, h⟩)

/-- The record of a sentinel that is released. -/
def releaseSentinel (x : SolarLeaf) : SolarLeaf :=
  if x.state = mpSentinel then { x with state := mpCurtailed, steps := [], sumP := 0, sumV := 0, valid := 0 } else x

/-- The arm with its sentinels released. -/
def releaseSentinels (a : Nat) (s : State) : State :=
  setUnit (fun u => { u with sentinels := u.sentinels.set a [] }) ((sentinelsOf s a).foldl (fun t L => setSolar L releaseSentinel t) s)

/-- The state in which released leaves stand. -/
def releasedState (st : Nat) : Nat := if st = mpSentinel then mpCurtailed else st

theorem state_releaseSentinel (x : SolarLeaf) : (releaseSentinel x).state = releasedState x.state := by
  unfold releaseSentinel releasedState
  split <;> rfl

theorem releasedState_idem (st : Nat) : releasedState (releasedState st) = releasedState st := by
  unfold releasedState
  split <;> rfl

theorem state_releaseSentinels (a : Nat) (s : State) (M : Nat) :
    (solarOf (releaseSentinels a s) M).state = if M ∈ sentinelsOf s a then releasedState (solarOf s M).state else (solarOf s M).state :=
  solarOf_foldl_setSolar (·.state) state_releaseSentinel releasedState_idem (sentinelsOf s a) s M

/-- Releasing the sentinels of an arm changes the solar unit alone, and leaves it as many lists of sentinels, that arm's empty. -/
theorem releaseSentinels_changes (a : Nat) (s : State) :
    ∃ m, releaseSentinels a s = { s with solar := { s.solar with leaves := m, sentinels := s.solar.sentinels.set a [] } } := by
  obtain ⟨m, e⟩ := foldl_setSolar_leaves releaseSentinel (sentinelsOf s a) s
  unfold releaseSentinels
  rw [e]
  exact ⟨m, rfl⟩

/-- The leaves that the arm's next sentinels are, once the present ones are released. -/
def nextSentinels (a : Nat) (s : State) : List Nat :=
  nextInOrder (rd s Obj.SENTINELS) (getD' s.solar.lastSentinel a none)
    ((solarLeaves s a).filter (fun L => (solarOf s L).state = mpCurtailed))

section
variable {a : Nat} {s : State}

theorem exec_sentinelRotateExpiry (hf : alive s .fabric = true) (hfitted : solarFitted s = true) (ha : a < 12)
    (hcurtailed : curtailed s a = true) : exec (.sentinelRotateExpiry a) s = .next (
      presentArm a (makeSentinels a (nextSentinels a (releaseSentinels a s)) (releaseSentinels a s))) := by
  show execSentinelRotateExpiry a s = _
  unfold execSentinelRotateExpiry
  rw [whenAlive_on _ hf, if_pos (by simp [hfitted, ha, hcurtailed])]
  rfl

theorem sentinelRotateExpiry_rotates (hf : alive s .fabric = true) (hfitted : solarFitted s = true) (ha : a < 12)
    (hlen : a < s.solar.sentinels.length) (hcurtailed : curtailed s a = true) :
    Completes (.sentinelRotateExpiry a) s fun t =>
      (sentinelsOf t a).length ≤ rd s Obj.SENTINELS ∧ (∀ L, L ∈ sentinelsOf t a → (solarOf t L).state = mpSentinel)
        ∧ (∀ L, L ∈ sentinelsOf t a → L ∈ solarLeaves s a)
        ∧ (∀ L, L ∈ sentinelsOf s a → L ∉ sentinelsOf t a → (solarOf s L).state = mpSentinel → (solarOf t L).state = mpCurtailed)
        ∧ t = { s with regs := t.regs, solar := t.solar } := by
  refine ⟨_, exec_sentinelRotateExpiry hf hfitted ha hcurtailed, ?_⟩
  have hreleased := state_releaseSentinels a s
  obtain ⟨m, hu⟩ := releaseSentinels_changes a s
  have hempty : sentinelsOf (releaseSentinels a s) a = [] := by rw [hu]; exact getD'_set_same hlen _ _
  have hlength : a < (releaseSentinels a s).solar.sentinels.length := by rw [hu]; exact (List.length_set ..).symm ▸ hlen
  have hleaves : solarLeaves (releaseSentinels a s) a = solarLeaves s a := by rw [hu]; rfl
  have hlimit : rd (releaseSentinels a s) Obj.SENTINELS = rd s Obj.SENTINELS := by rw [hu]; rfl
  have honly : SolarOnly s (releaseSentinels a s) := ⟨_, _, hu⟩
  generalize releaseSentinels a s = u at *
  obtain ⟨_, _, hmade⟩ := makeSentinels_changes a (nextSentinels a u) u
  have hshows := presentArm_shows a (makeSentinels a (nextSentinels a u) u)
  have hchosen : sentinelsOf (presentArm a (makeSentinels a (nextSentinels a u) u)) a = nextSentinels a u := by
    refine Eq.trans (congrArg (getD' · a []) hshows.sentinels) ?_
    exact (sentinelsOf_makeSentinels _ hlength).trans (by rw [hempty, List.nil_append])
  have hstate : ∀ M, (solarOf (presentArm a (makeSentinels a (nextSentinels a u) u)) M).state
      = if M ∈ nextSentinels a u then mpSentinel else (solarOf u M).state := fun M =>
    (hshows.field (·.state) (fun _ _ _ => rfl) M).trans (state_makeSentinels a _ u M)
  have hframe := ((honly.trans ⟨_, _, hmade⟩).trans hshows.only).frame
  dsimp only
  rw [hchosen]
  refine ⟨?_, fun L hL => ?_, fun L hL => ?_, fun L hold hnew hwas => ?_, hframe⟩
  · rw [← hlimit]; exact length_nextInOrder_le ..
  · rw [hstate, if_pos hL]
  · rw [← hleaves]; exact List.mem_of_mem_filter (mem_of_mem_nextInOrder hL)
  · rw [hstate, if_neg hnew, hreleased, if_pos hold, hwas]; rfl

end

/-! ### The statement -/

/-- Settles O26: scans that become due, end a point or are abandoned, the measurement's end, the curtailment step, and the rotation of
the sentinels. -/
theorem solarScansMeasurementAndCurtailment : Obligations.SolarScansMeasurementAndCurtailment := by
  refine ⟨⟨fun L t0 s hf hsolar hinterval hdue hscan hinstant => ?_, fun L j s hf hsolar hscan hvoc hdwell => ?_,
      fun L j s hf hsolar hcurtailed hscan => scanAbandon_completes hf hsolar hcurtailed hscan⟩,
    fun L n s hf hsolar hrun hended hopen => ?_, fun L s hf hsolar hstate hended => ?_,
    fun a s hf hfitted ha hlen hcurtailed => sentinelRotateExpiry_rotates hf hfitted ha hlen hcurtailed⟩
  · have h : Awaits L t0 s := ⟨hsolar, hinterval, hdue, hscan, hinstant⟩
    exact ⟨fun hfull => scanDue_delays hf h hfull, fun hfree hroom hL hstate hothers => scanDue_begins hf h hfree hroom hL hstate hothers⟩
  · have h : AtPointEnd L j s := ⟨hsolar, hscan, hvoc, hdwell⟩
    exact ⟨fun hmore => scanPointEnd_next hf h hmore, fun hlast => scanPointEnd_last hf h hlast⟩
  · have h : AtVocEnd L n s := ⟨hsolar, hrun, hended, hopen⟩
    refine ⟨fun hfew => vocMeasurementEnd_repeats hf h hfew, fun hgood => ?_⟩
    obtain ⟨t, ht, hvoc, hpando, hpoint, honly⟩ := vocMeasurementEnd_resumes hf h hgood
    simp only [Prod.mk.injEq] at hvoc hpando hpoint
    obtain ⟨hvoc, hknown, hestimated, hrun⟩ := hvoc
    exact ⟨t, ht, hvoc, hknown, hestimated, hrun, hpando, hpoint, honly.frame⟩
  · have h : AtCurtailEnd L s := ⟨hsolar, hstate, hended⟩
    exact ⟨fun hfew => curtailStep_holds hf h hfew, fun hgood => curtailStep_steps hf h hgood⟩

end Sys2Proof.Proofs

namespace Sys2Proof.Proofs

open Sys2Proof.Machine Sys2Proof.Claims Sys2Proof.Laws

/-! ### Work on queues and on a fold (R85, R238, R257)

What the operations of a fold change beside objects is told by two relations: `QueueWork` for the work on its queues, and `FoldWork` where
the leaves' records and the log change too. Each operation has its relation once, with the objects it may change. -/

/-- Nothing but objects of `ks` and the queues differs. -/
structure QueueWork (ks : List Nat) (s t : State) : Prop where
  changes : ∃ a b, t = { s with regs := a, queues := b }
  objects : OnlyObjects ks s t

namespace QueueWork

variable {ks : List Nat} {s t u : State}

theorem refl (s : State) : QueueWork ks s s := ⟨⟨_, _, rfl⟩, fun _ _ => rfl⟩

theorem trans (h : QueueWork ks s t) (g : QueueWork ks t u) : QueueWork ks s u where
  changes := by
    obtain ⟨a, b, rfl⟩ := h.changes
    obtain ⟨a', b', rfl⟩ := g.changes
    exact ⟨a', b', rfl⟩
  objects := onlyObjects_trans h.objects g.objects

theorem mono {ls : List Nat} (h : QueueWork ks s t) (hsub : ks ⊆ ls) : QueueWork ls s t :=
  ⟨h.changes, onlyObjects_mono h.objects hsub⟩

theorem foldl {f : State → Nat → State} (hf : ∀ t id, QueueWork ks t (f t id)) (ids : List Nat) (s : State) :
    QueueWork ks s (ids.foldl f s) :=
  List.foldlRecOn (motive := QueueWork ks s) ids f (refl s) fun t ht id _ => ht.trans (hf t id)

theorem leaf (h : QueueWork ks s t) (L : Nat) : leafOf t L = leafOf s L := by
  obtain ⟨a, b, rfl⟩ := h.changes
  rfl

theorem wr (h : QueueWork ks s t) {key : Nat} (hk : key ∈ ks) (v : Nat) : QueueWork ks s (wr t key v) :=
  h.trans ⟨⟨_, t.queues, rfl⟩, onlyObjects_wr hk t v⟩

theorem setQueue (h : QueueWork ks s t) (hks : poolKeys ⊆ ks) (id : Nat) (f : Queue → Queue) : QueueWork ks s (setQueue id f t) :=
  h.trans ⟨⟨_, _, setQueue_frame id f t⟩, fun _ hj => rd_setQueue id f t fun hmem => hj (hks hmem)⟩

end QueueWork

/-- Nothing but objects of `ks`, the leaves, the queues and the log differs, and the log's intake keeps what it holds. -/
structure FoldWork (ks : List Nat) (s t : State) : Prop where
  changes : ∃ a b c d, t = { s with regs := a, leaves := b, queues := c, log := d }
  objects : OnlyObjects ks s t
  intake : s.log.intake ⊆ t.log.intake

theorem intake_emit (e : Ev) (inst : Nat) (args : List Byte) (s : State) : s.log.intake ⊆ (emit e inst args s).log.intake := by
  unfold emit emitRaw
  split
  · exact List.Subset.refl _
  · exact List.subset_append_left _ _

namespace FoldWork

variable {ks : List Nat} {s t u : State}

theorem refl (s : State) : FoldWork ks s s := ⟨⟨_, _, _, _, rfl⟩, fun _ _ => rfl, List.Subset.refl _⟩

theorem trans (h : FoldWork ks s t) (g : FoldWork ks t u) : FoldWork ks s u where
  changes := by
    obtain ⟨a, b, c, d, rfl⟩ := h.changes
    obtain ⟨a', b', c', d', rfl⟩ := g.changes
    exact ⟨a', b', c', d', rfl⟩
  objects := onlyObjects_trans h.objects g.objects
  intake := List.Subset.trans h.intake g.intake

theorem mono {ls : List Nat} (h : FoldWork ks s t) (hsub : ks ⊆ ls) : FoldWork ls s t :=
  ⟨h.changes, onlyObjects_mono h.objects hsub, h.intake⟩

theorem queues (h : FoldWork ks s t) (g : QueueWork ks t u) : FoldWork ks s u := by
  obtain ⟨⟨a, b, rfl⟩, hobj⟩ := g
  exact h.trans ⟨⟨a, t.leaves, b, t.log, rfl⟩, hobj, List.Subset.refl _⟩

theorem setLeaf (h : FoldWork ks s t) (L : Nat) (f : Leaf → Leaf) : FoldWork ks s (setLeaf L f t) :=
  h.trans ⟨⟨t.regs, _, t.queues, t.log, rfl⟩, fun _ _ => rfl, List.Subset.refl _⟩

theorem emit (h : FoldWork ks s t) (hlog : Obj.LOG_DROPPED ∈ ks) (e : Ev) (inst : Nat) (args : List Byte) :
    FoldWork ks s (emit e inst args t) :=
  h.trans ⟨⟨_, t.leaves, t.queues, _, emit_frame t e inst args⟩, onlyObjects_emit hlog e inst args t, intake_emit e inst args t⟩

theorem wr (h : FoldWork ks s t) {key : Nat} (hk : key ∈ ks) (v : Nat) : FoldWork ks s (wr t key v) :=
  h.queues ((QueueWork.refl t).wr hk v)

/-- An event delivered before the work stands delivered after it. -/
theorem raised {e : Ev} {inst : Nat} (h : FoldWork ks t u) (hraised : Raised e inst s t) : Raised e inst s u := fun hroom => by
  obtain ⟨x, hx, hshown⟩ := hraised hroom
  exact ⟨x, h.intake hx, hshown⟩

/-- No event of a fault source is added. -/
theorem faultEvents (h : FoldWork ks s t) : t.faultEvents = s.faultEvents := by
  obtain ⟨a, b, c, d, rfl⟩ := h.changes
  rfl

end FoldWork

/-! ### The objects of a leaf (R245, R280) -/

/-- The objects of one leaf lie at different places. -/
theorem leafKey_ne {a b : Nat} (h : a ≠ b) {L : Nat} : a + L * 0x100 ≠ b + L * 0x100 := by omega

/-- No object of a leaf is one of the station's. -/
theorem leafKey_ne_station {a j : Nat} (h : j < a) {L : Nat} : a + L * 0x100 ≠ j := by omega

/-- The objects that the return of messages changes. -/
abbrev returnKeys : List Nat := Obj.RETURNED_MESSAGES :: poolKeys

theorem not_mem_returnKeys {a : Nat} (h : 0x400000 ≤ a) {L : Nat} : a + L * 0x100 ∉ returnKeys := by
  simp only [returnKeys, poolKeys, List.mem_cons, List.not_mem_nil, or_false, Obj.RETURNED_MESSAGES, Obj.POOL_DOWN_FREE,
    Obj.POOL_UP_FREE, Obj.POOL_DOWN_LOW]
  omega

theorem leafOf_emit (e : Ev) (inst : Nat) (args : List Byte) (s : State) (L : Nat) : leafOf (emit e inst args s) L = leafOf s L := by
  unfold leafOf; rw [emit_frame]

theorem leafOf_showLink (L : Nat) (s : State) (M : Nat) : leafOf (showLink L s) M = leafOf s M := rfl

theorem rd_showLink_other {L j : Nat} (s : State) (h : j ≠ Obj.LINK_STATE L) : rd (showLink L s) j = rd s j := rd_wr_other s _ h

theorem bit_setProt (L i j : Nat) (b : Bool) (s : State) :
    bit (rd (setProt L i b s) (Obj.PROT_FLAGS L)) j = if j = i then b else bit (rd s (Obj.PROT_FLAGS L)) j := by
  rw [setProt, rd_wr_same, bit_putBit]

theorem penned_of_objects {ks : List Nat} {s t : State} {L : Nat} (h : OnlyObjects ks s t) (hks : Obj.PROT_FLAGS L ∉ ks) :
    penned t L = penned s L := by unfold penned; rw [h _ hks]

theorem retired_of_objects {ks : List Nat} {s t : State} {L : Nat} (h : OnlyObjects ks s t) (hks : Obj.PROT_FLAGS L ∉ ks) :
    retired t L = retired s L := by unfold retired; rw [h _ hks]

/-! ### Retirement, and the completion of a penning (R238, R239, R260) -/

/-- The objects that retirement changes. -/
abbrev retireKeys (L : Nat) : List Nat := [Obj.PROT_FLAGS L, Obj.LINK_STATE L, Obj.LOG_DROPPED]

theorem retire_work (L : Nat) (s : State) : FoldWork (retireKeys L) s (retire L s) := by
  unfold retire
  split
  · exact .refl s
  · exact ((((FoldWork.refl s).wr (by simp) _).wr (by simp) _).emit (by simp) _ _ _).wr (by simp) _

/-- The flags a leaf shows once it is retired: PENNED and RETIRED stand, the others as they were. -/
theorem bit_retire {L : Nat} {s : State} (h : retired s L = false) (j : Nat) :
    bit (rd (retire L s) (Obj.PROT_FLAGS L)) j = if j = 7 then true else if j = 6 then true else bit (rd s (Obj.PROT_FLAGS L)) j := by
  unfold retire
  rw [if_neg (by simp [h]), rd_showLink_other _ (leafKey_ne (by decide)), rd_emit_other _ _ _ _ (leafKey_ne_station (by decide)),
    bit_setProt, bit_setProt]

theorem retired_retire (L : Nat) (s : State) : retired (retire L s) L = true := by
  cases h : retired s L
  · exact (bit_retire h 7).trans rfl
  · unfold retire; rw [if_pos h]; exact h

theorem penned_retire {L : Nat} {s : State} (h : penned s L = true) : penned (retire L s) L = true := by
  cases hr : retired s L
  · exact (bit_retire hr 6).trans rfl
  · unfold retire; rw [if_pos hr]; exact h

theorem returnWhere_work (id : Nat) (p : Msg → Bool) (s : State) : QueueWork returnKeys s (returnWhere id p s) := by
  unfold returnWhere
  dsimp only
  split
  · exact .refl s
  · exact ((QueueWork.refl s).wr (by simp) _).setQueue (List.subset_cons_self _ _) _ _

/-- A leaf whose fold a penning has handled. -/
def endPenning (x : Leaf) : Leaf := { x with penDone := true, bypassCmd := false }

/-- The completion of a penning is work on the queues between a change of the leaf's record and a new `LINK_STATE`. -/
theorem completePenning_eq (L : Nat) (s : State) :
    ∃ t, QueueWork returnKeys (setLeaf L endPenning s) t ∧ completePenning L s = showLink L t := by
  refine ⟨_, QueueWork.foldl (fun t id => ?_) (downQueues L) _, rfl⟩
  dsimp only
  split
  · exact (returnWhere_work _ _ _).setQueue (List.subset_cons_self _ _) _ _
  · exact returnWhere_work _ _ _

theorem completePenning_work (L : Nat) (s : State) : FoldWork (Obj.LINK_STATE L :: returnKeys) s (completePenning L s) := by
  obtain ⟨t, ht, heq⟩ := completePenning_eq L s
  rw [heq]
  exact (((FoldWork.refl s).setLeaf L endPenning).queues (ht.mono (List.subset_cons_self _ _))).wr List.mem_cons_self _

theorem leafOf_completePenning (L : Nat) (s : State) : leafOf (completePenning L s) L = endPenning (leafOf s L) := by
  obtain ⟨t, ht, heq⟩ := completePenning_eq L s
  rw [heq, leafOf_showLink, ht.leaf, leafOf_setLeaf_same]

theorem not_mem_completeKeys {a L : Nat} (ha : 0x400000 ≤ a) (h : a ≠ 0x400061) :
    a + L * 0x100 ∉ Obj.LINK_STATE L :: returnKeys :=
  List.not_mem_cons_of_ne_of_not_mem (leafKey_ne h) (not_mem_returnKeys ha)

/-! ### A leaf is penned (R238, R263, R276) -/

theorem endReadmit_work (L status : Nat) (s : State) :
    FoldWork [Obj.READMIT_STATUS L, Obj.LINK_STATE L] s (endReadmit L status s) := by
  unfold endReadmit
  split
  · exact .refl s
  · exact (((FoldWork.refl s).wr (by simp) _).setLeaf _ _).wr (by simp) _

theorem not_mem_endReadmitKeys {a L : Nat} (h : a ≠ 0x400063) (h' : a ≠ 0x400061) :
    a + L * 0x100 ∉ [Obj.READMIT_STATUS L, Obj.LINK_STATE L] := not_mem_pair (leafKey_ne h) (leafKey_ne h')

theorem appendBypass_work (L : Nat) (s : State) : FoldWork poolKeys s (appendBypass L s) := by
  unfold appendBypass enqueue
  dsimp only
  split
  · exact ((FoldWork.refl s).setLeaf _ _).queues ((QueueWork.refl _).setQueue (List.Subset.refl _) _ _)
  · exact (FoldWork.refl s).setLeaf _ _

/-- The status in which a penning ends a readmission under way. -/
abbrev penStatus (cause : Nat) : Nat := if cause = 7 then 0x92 else 0x90

/-- What a penning notes of a leaf not penned before: its cause, the reason of a cause 8, and one penning more. -/
def markPenned (L cause reason : Nat) (s : State) : State :=
  let s := if cause = 8 then wr s (Obj.LINK_PEN_REASON L) reason else s
  setLeaf L (fun x => { x with admitting := false, penDone := false })
    (countBy 16 (wr (setProt L 6 true s) (Obj.PEN_CAUSE L) cause) (Obj.PENNINGS L) 1)

/-- A leaf penned as often as `RETIRE_PENNINGS` says is retired. -/
def retireOften (L : Nat) (s : State) : State := if rd s Obj.RETIRE_PENNINGS ≤ rd s (Obj.PENNINGS L) then retire L s else s

/-- The fold of a leaf just penned awaits the bypass commanded, or is handled at once. -/
def handleFold (L : Nat) (bypass : Bool) (s : State) : State :=
  if bypass && !bit (rd s (Obj.PROT_FLAGS L)) 3 then
    showLink L (appendBypass L (setLeaf L (fun x => { x with bypassCmd := true }) s))
  else completePenning L s

section

variable {L : Nat} {s : State} (cause reason : Nat) (bypass : Bool)

theorem penned_endReadmit (L status : Nat) (s : State) : penned (endReadmit L status s) L = penned s L :=
  penned_of_objects (endReadmit_work L status s).objects (not_mem_endReadmitKeys (by decide) (by decide))

theorem penLeaf_again (h : penned s L = true) :
    penLeaf L cause reason bypass s = wr (endReadmit L (penStatus cause) s) (Obj.PEN_CAUSE L) cause := by
  unfold penLeaf
  exact if_pos ((penned_endReadmit L _ s).trans h)

theorem penLeaf_first (h : penned s L = false) :
    penLeaf L cause reason bypass s
      = handleFold L bypass (retireOften L (markPenned L cause reason (endReadmit L (penStatus cause) s))) := by
  unfold penLeaf
  exact if_neg (by simp [penned_endReadmit, h])

/-- The objects that the marks of a penning change. -/
abbrev markKeys (L : Nat) : List Nat := [Obj.PROT_FLAGS L, Obj.PEN_CAUSE L, Obj.PENNINGS L, Obj.LINK_PEN_REASON L]

theorem markPenned_work (L : Nat) (s : State) : FoldWork (markKeys L) s (markPenned L cause reason s) := by
  have hflags (t : State) (h : FoldWork (markKeys L) s t) : FoldWork (markKeys L) s
      (countBy 16 (wr (setProt L 6 true t) (Obj.PEN_CAUSE L) cause) (Obj.PENNINGS L) 1) :=
    ((h.wr (by simp) _).wr (by simp) _).wr (by simp) _
  unfold markPenned
  split
  · exact (hflags _ ((FoldWork.refl s).wr (by simp) _)).setLeaf _ _
  · exact (hflags _ (.refl s)).setLeaf _ _

/-- The objects that the rest of a penning changes, and it keeps the leaf penned. -/
abbrev settleKeys (L : Nat) : List Nat := retireKeys L ++ returnKeys

theorem not_mem_settleKeys {a L : Nat} (ha : 0x400000 ≤ a) (hflags : a ≠ 0x400041) (hlink : a ≠ 0x400061) :
    a + L * 0x100 ∉ settleKeys L := by
  refine List.not_mem_append ?_ (not_mem_returnKeys ha)
  simp only [List.mem_cons, List.not_mem_nil, or_false, not_or]
  exact ⟨leafKey_ne hflags, leafKey_ne hlink, leafKey_ne_station (by simp only [Obj.LOG_DROPPED]; omega)⟩

theorem retireOften_work (L : Nat) (s : State) : FoldWork (settleKeys L) s (retireOften L s) := by
  unfold retireOften
  split
  · exact (retire_work L s).mono (List.subset_append_left _ _)
  · exact .refl s

theorem penned_retireOften (h : penned s L = true) : penned (retireOften L s) L = true := by
  unfold retireOften
  split
  · exact penned_retire h
  · exact h

theorem handleFold_work (L : Nat) (s : State) : FoldWork (Obj.LINK_STATE L :: returnKeys) s (handleFold L bypass s) := by
  unfold handleFold
  split
  · refine FoldWork.wr (((FoldWork.refl s).setLeaf _ _).trans ((appendBypass_work L _).mono ?_)) List.mem_cons_self _
    exact List.Subset.trans (List.subset_cons_self _ _) (List.subset_cons_self _ _)
  · exact completePenning_work L s

end

/-- The leaf is PENNED, and shows the cause of its penning, and the reason of a first penning of cause 8 (R238, R276). -/
structure Pens (L cause reason : Nat) (s t : State) : Prop where
  causeShown : rd t (Obj.PEN_CAUSE L) = cause
  isPenned : penned t L = true
  reasonShown : cause = 8 → penned s L = false → rd t (Obj.LINK_PEN_REASON L) = reason

/-- Work on other objects leaves a penning as it is. -/
theorem Pens.after {L cause reason : Nat} {ks : List Nat} {s t u : State} (h : Pens L cause reason s t) (g : FoldWork ks t u)
    (hcause : Obj.PEN_CAUSE L ∉ ks) (hreason : Obj.LINK_PEN_REASON L ∉ ks) (hpenned : penned u L = true) :
    Pens L cause reason s u where
  causeShown := (g.objects _ hcause).trans h.causeShown
  isPenned := hpenned
  reasonShown := fun h8 hfirst => (g.objects _ hreason).trans (h.reasonShown h8 hfirst)

theorem markPenned_pens (L cause reason : Nat) (s : State) : Pens L cause reason s (markPenned L cause reason s) where
  causeShown := (rd_wr_other _ _ (leafKey_ne (by decide))).trans (rd_wr_same _ _ _)
  isPenned := by
    unfold markPenned penned
    rw [rd_setLeaf, rd_countBy_other _ _ _ (leafKey_ne (by decide)), rd_wr_other _ _ (leafKey_ne (by decide)), bit_setProt, if_pos rfl]
  reasonShown := fun h8 _ => by
    unfold markPenned
    rw [rd_setLeaf, rd_countBy_other _ _ _ (leafKey_ne (by decide)), rd_wr_other _ _ (leafKey_ne (by decide)), setProt,
      rd_wr_other _ _ (leafKey_ne (by decide)), if_pos h8, rd_wr_same]

theorem penLeaf_pens (L cause reason : Nat) (bypass : Bool) (s : State) :
    Pens L cause reason s (penLeaf L cause reason bypass s) := by
  cases h : penned s L
  case true =>
    rw [penLeaf_again cause reason bypass h]
    refine ⟨rd_wr_same _ _ _, ?_, fun _ hfirst => by simp [h] at hfirst⟩
    rw [penned, rd_wr_other _ _ (leafKey_ne (by decide))]
    exact (penned_endReadmit L _ s).trans h
  case false =>
    rw [penLeaf_first cause reason bypass h]
    have hmark := markPenned_pens L cause reason (endReadmit L (penStatus cause) s)
    have hretired := hmark.after (retireOften_work L _)
      (not_mem_settleKeys (by decide) (by decide) (by decide)) (not_mem_settleKeys (by decide) (by decide) (by decide))
      (penned_retireOften hmark.isPenned)
    have hfold := handleFold_work bypass L (retireOften L (markPenned L cause reason (endReadmit L (penStatus cause) s)))
    have hdone := hretired.after hfold (not_mem_completeKeys (by decide) (by decide)) (not_mem_completeKeys (by decide) (by decide))
      ((penned_of_objects hfold.objects (not_mem_completeKeys (by decide) (by decide))).trans hretired.isPenned)
    exact ⟨hdone.causeShown, hdone.isPenned, fun h8 _ => hdone.reasonShown h8 ((penned_endReadmit L _ s).trans h)⟩

/-- The objects that a penning changes. -/
abbrev penKeys (L : Nat) : List Nat := [Obj.READMIT_STATUS L, Obj.LINK_STATE L] ++ (markKeys L ++ settleKeys L)

theorem settleKeys_subset_penKeys (L : Nat) : settleKeys L ⊆ penKeys L :=
  List.subset_append_of_subset_right _ (List.subset_append_right _ _)

theorem penLeaf_work (L cause reason : Nat) (bypass : Bool) (s : State) : FoldWork (penKeys L) s (penLeaf L cause reason bypass s) := by
  have hend := (endReadmit_work L (penStatus cause) s).mono (ls := penKeys L) (List.subset_append_left _ _)
  cases h : penned s L
  case true =>
    rw [penLeaf_again cause reason bypass h]
    exact hend.wr (by simp) _
  case false =>
    rw [penLeaf_first cause reason bypass h]
    have hmark := hend.trans ((markPenned_work cause reason L _).mono (by simp))
    have hretired := hmark.trans ((retireOften_work L _).mono (settleKeys_subset_penKeys L))
    refine hretired.trans ((handleFold_work bypass L _).mono (List.cons_subset.mpr ⟨by simp, ?_⟩))
    exact List.Subset.trans (List.subset_append_right _ _) (settleKeys_subset_penKeys L)

end Sys2Proof.Proofs

namespace Sys2Proof.Proofs

open Sys2Proof.Machine Sys2Proof.Claims Sys2Proof.Laws

/-! ### An epoch opens, and an epoch ends (R256, R257, R260) -/

theorem dropPart_work (id : Nat) (s : State) : QueueWork (Obj.UP_DISCARDED :: poolKeys) s (dropPart id s) := by
  unfold dropPart
  extract_lets q n
  split
  · exact .refl s
  · exact ((QueueWork.refl s).wr List.mem_cons_self _).setQueue (List.subset_cons_self _ _) _ _

theorem openUp_work (id : Nat) (s : State) : QueueWork (Obj.UP_DISCARDED :: poolKeys) s (openUp id s) :=
  (dropPart_work id s).setQueue (List.subset_cons_self _ _) _ _

theorem openDown_work (id : Nat) (s : State) : QueueWork returnKeys s (openDown id s) :=
  (returnWhere_work id _ s).setQueue (List.subset_cons_self _ _) _ _

/-- A leaf to which a new epoch is offered. -/
def offerEpoch (x : Leaf) : Leaf :=
  { x with accepted := false, foldEnded := false, welcomeOwed := true, welcomeNew := true, welcomeFrames := [] }

/-- The epoch that opens after epoch `old`; an epoch that the leaf announces is passed over. -/
def openedEpoch (announced : Option Nat) (old : Nat) : Nat :=
  if some (nextEpoch old) = announced then nextEpoch (nextEpoch old) else nextEpoch old

theorem nextEpoch_ne (e : Nat) : nextEpoch e ≠ e := by
  unfold nextEpoch
  split <;> omega

/-- Where the leaf announces the epoch that was, the one that opens is another. -/
theorem openedEpoch_ne (old : Nat) : openedEpoch (some old) old ≠ old := by
  unfold openedEpoch
  rw [if_neg fun h => nextEpoch_ne old (Option.some.inj h)]
  exact nextEpoch_ne old

/-- The objects that the queues of a fold change at the opening of an epoch. -/
abbrev reopenKeys : List Nat := Obj.UP_DISCARDED :: returnKeys

/-- An epoch opens by work on the queues, after which the epoch and the leaf's record are new and the event is delivered. -/
theorem openEpoch_eq (L : Nat) (announced : Option Nat) (s : State) :
    ∃ t args, QueueWork reopenKeys s t ∧ openEpoch L announced s
      = showLink L (emit .foldEpochOpened L args (setLeaf L offerEpoch
          (wr (count t Obj.EPOCHS_OPENED) (Obj.FOLD_EPOCH L) (openedEpoch announced (rd s (Obj.FOLD_EPOCH L)))))) := by
  have hdown : ∀ t id, QueueWork reopenKeys t (openDown id t) := fun t id => (openDown_work id t).mono (List.subset_cons_self _ _)
  have hup : ∀ t id, QueueWork reopenKeys t (openUp id t) := fun t id =>
    (openUp_work id t).mono (List.cons_subset_cons _ (List.subset_cons_self _ _))
  exact ⟨_, _, (QueueWork.foldl hdown (downQueues L) s).trans (QueueWork.foldl hup (upQueues L) _), rfl⟩

/-- The objects that the opening of an epoch changes. -/
abbrev epochKeys (L : Nat) : List Nat :=
  [Obj.EPOCHS_OPENED, Obj.FOLD_EPOCH L, Obj.LINK_STATE L, Obj.LOG_DROPPED] ++ reopenKeys

theorem not_mem_epochKeys {a L : Nat} (ha : 0x400000 ≤ a) (hepoch : a ≠ 0x400060) (hlink : a ≠ 0x400061) :
    a + L * 0x100 ∉ epochKeys L := by
  refine List.not_mem_append ?_ (List.not_mem_cons_of_ne_of_not_mem ?_ (not_mem_returnKeys ha))
  · simp only [List.mem_cons, List.not_mem_nil, or_false, not_or]
    exact ⟨leafKey_ne_station (by simp only [Obj.EPOCHS_OPENED]; omega), leafKey_ne hepoch, leafKey_ne hlink,
      leafKey_ne_station (by simp only [Obj.LOG_DROPPED]; omega)⟩
  · exact leafKey_ne_station (by simp only [Obj.UP_DISCARDED]; omega)

theorem openEpoch_work (L : Nat) (announced : Option Nat) (s : State) : FoldWork (epochKeys L) s (openEpoch L announced s) := by
  obtain ⟨t, args, ht, heq⟩ := openEpoch_eq L announced s
  rw [heq]
  have hqueues := (FoldWork.refl s).queues (ht.mono (ls := epochKeys L) (List.subset_append_right _ _))
  exact ((((hqueues.wr (by simp) _).wr (by simp) _).setLeaf _ _).emit (by simp) _ _ _).wr (by simp) _

theorem leafOf_openEpoch (L : Nat) (announced : Option Nat) (s : State) :
    leafOf (openEpoch L announced s) L = offerEpoch (leafOf s L) := by
  obtain ⟨t, args, ht, heq⟩ := openEpoch_eq L announced s
  rw [heq, leafOf_showLink, leafOf_emit, leafOf_setLeaf_same]
  exact congrArg offerEpoch (ht.leaf L)

theorem rd_openEpoch_epoch (L : Nat) (announced : Option Nat) (s : State) :
    rd (openEpoch L announced s) (Obj.FOLD_EPOCH L) = openedEpoch announced (rd s (Obj.FOLD_EPOCH L)) := by
  obtain ⟨t, args, ht, heq⟩ := openEpoch_eq L announced s
  rw [heq, rd_showLink_other _ (leafKey_ne (by decide)), rd_emit_other _ _ _ _ (leafKey_ne_station (by decide)), rd_setLeaf, rd_wr_same]

/-- The end of an epoch is work on the queues after a change of the leaf's record. -/
theorem endEpoch_work (L : Nat) (s : State) :
    QueueWork returnKeys (setLeaf L (fun x => { x with foldEnded := true }) s) (endEpoch L s) :=
  QueueWork.foldl (fun t id => returnWhere_work id _ t) _ _

theorem foldEnded_endEpoch (L : Nat) (s : State) : (leafOf (endEpoch L s) L).foldEnded = true := by
  rw [(endEpoch_work L s).leaf, leafOf_setLeaf_same]

/-! ### LEAF_PENNING, STRAY_PEN_TIME_EXPIRY and ADMIT_TIMEOUT_EXPIRY (R127, R238, R269) -/

theorem leafPenning_completes {leaf cause reason : Nat} {s : State} (hf : alive s .fabric = true) (hon : leafOn s leaf = true) :
    Completes (.leafPenning leaf cause reason) s (Pens leaf cause reason s) := by
  refine ⟨_, ?_, penLeaf_pens leaf cause reason (cause = 2 || cause = 5) s⟩
  show execLeafPenning leaf cause reason s = _
  unfold execLeafPenning
  rw [whenAlive_on _ hf, if_pos hon]

section

variable {leaf : Nat} {s : State}

/-- The epoch that stands when a stray leaf is penned is the one that stood before. -/
theorem rd_penLeaf_epoch (leaf cause reason : Nat) (bypass : Bool) (s : State) :
    rd (penLeaf leaf cause reason bypass s) (Obj.FOLD_EPOCH leaf) = rd s (Obj.FOLD_EPOCH leaf) := by
  refine (penLeaf_work leaf cause reason bypass s).objects _ (List.not_mem_append ?_ (List.not_mem_append ?_ ?_))
  · exact not_mem_endReadmitKeys (by decide) (by decide)
  · simp only [List.mem_cons, List.not_mem_nil, or_false, not_or]
    exact ⟨leafKey_ne (by decide), leafKey_ne (by decide), leafKey_ne (by decide), leafKey_ne (by decide)⟩
  · exact not_mem_settleKeys (by decide) (by decide) (by decide)

/-- What follows the penning of a stray leaf: its epoch ends, unless an ANNOUNCE of the tide names it,
which opens a new one (R269, R276). -/
def endStray (leaf : Nat) (t : State) : Option Nat → State
  | some held => if held = rd t (Obj.FOLD_EPOCH leaf) then openEpoch leaf (some held) t else t
  | none => endEpoch leaf t

theorem exec_strayPenTimeExpiry (hf : alive s .fabric = true) (hstray : (leafOf s leaf).stray = true) :
    exec (.strayPenTimeExpiry leaf) s = .next (endStray leaf (penLeaf leaf 8 1 false s) (announcedNow s leaf)) := by
  show execStrayPenTimeExpiry leaf s = _
  unfold execStrayPenTimeExpiry
  rw [whenAlive_on _ hf, if_pos hstray]
  rfl

/-- The penning of a stray leaf stands where the leaf's epoch ends. -/
theorem pens_endEpoch {u : State} (h : Pens leaf 8 1 s u) : Pens leaf 8 1 s (endEpoch leaf u) := by
  have hwork : FoldWork returnKeys u (endEpoch leaf u) := ((FoldWork.refl u).setLeaf _ _).queues (endEpoch_work leaf u)
  exact h.after hwork (not_mem_returnKeys (by decide)) (not_mem_returnKeys (by decide))
    ((penned_of_objects hwork.objects (not_mem_returnKeys (by decide))).trans h.isPenned)

/-- The penning of a stray leaf stands where a new epoch opens. -/
theorem pens_openEpoch {u : State} (announced : Option Nat) (h : Pens leaf 8 1 s u) : Pens leaf 8 1 s (openEpoch leaf announced u) := by
  have hwork := openEpoch_work leaf announced u
  exact h.after hwork (not_mem_epochKeys (by decide) (by decide) (by decide)) (not_mem_epochKeys (by decide) (by decide) (by decide))
    ((penned_of_objects hwork.objects (not_mem_epochKeys (by decide) (by decide) (by decide))).trans h.isPenned)

theorem strayPenTimeExpiry_completes (hf : alive s .fabric = true) (hstray : (leafOf s leaf).stray = true) :
    Completes (.strayPenTimeExpiry leaf) s fun t =>
      Pens leaf 8 1 s t ∧ (announcedNow s leaf = none → (leafOf t leaf).foldEnded = true)
        ∧ (announcedNow s leaf = some (rd s (Obj.FOLD_EPOCH leaf)) →
            (leafOf t leaf).foldEnded = false ∧ rd t (Obj.FOLD_EPOCH leaf) ≠ rd s (Obj.FOLD_EPOCH leaf)) := by
  have hpens := penLeaf_pens leaf 8 1 false s
  refine ⟨_, exec_strayPenTimeExpiry hf hstray, ?_⟩
  cases hnow : announcedNow s leaf with
  | none => exact ⟨pens_endEpoch hpens, fun _ => foldEnded_endEpoch leaf _, fun h => by cases h⟩
  | some held =>
    have hepoch := rd_penLeaf_epoch leaf 8 1 false s
    unfold endStray
    dsimp only
    split
    · next hheld =>
      refine ⟨pens_openEpoch _ hpens, fun h => (by cases h), fun _ => ⟨?_, ?_⟩⟩
      · rw [leafOf_openEpoch]; rfl
      · rw [rd_openEpoch_epoch, hheld, hepoch]
        exact openedEpoch_ne _
    · next hheld => exact ⟨hpens, fun h => (by cases h), fun h => absurd ((Option.some.inj h).trans hepoch.symm) hheld⟩

theorem exec_admitTimeoutExpiry (hf : alive s .fabric = true) (hadmitting : (leafOf s leaf).admitting = true) :
    exec (.admitTimeoutExpiry leaf) s
      = .next (countFault 0 srcAdmit leaf 1 (emit .readmissionFailed leaf (leBytes 2 leaf) (penLeaf leaf 7 0 false s))) := by
  show execAdmitTimeoutExpiry leaf s = _
  unfold execAdmitTimeoutExpiry
  rw [whenAlive_on _ hf, if_pos hadmitting]

theorem admitTimeoutExpiry_completes (hf : alive s .fabric = true) (hadmitting : (leafOf s leaf).admitting = true) :
    Completes (.admitTimeoutExpiry leaf) s fun t =>
      rd t (Obj.PEN_CAUSE leaf) = 7 ∧ penned t leaf = true
        ∧ ∃ e, t.faultEvents = s.faultEvents ++ [e] ∧ e.family = 0 ∧ e.source = srcAdmit ∧ e.inst = leaf := by
  refine ⟨_, exec_admitTimeoutExpiry hf hadmitting, ?_, ?_, stationFault srcAdmit leaf, ?_, rfl, rfl, rfl⟩
  · rw [rd_countFault, rd_emit_other _ _ _ _ (leafKey_ne_station (by decide))]
    exact (penLeaf_pens leaf 7 0 false s).causeShown
  · unfold penned
    rw [rd_countFault, rd_emit_other _ _ _ _ (leafKey_ne_station (by decide))]
    exact (penLeaf_pens leaf 7 0 false s).isPenned
  · rw [countFault_one, emit_frame]
    exact congrArg (· ++ [stationFault srcAdmit leaf]) (penLeaf_work leaf 7 0 false s).faultEvents

end

/-- Settles O15: each of the three pennings takes its cause by `penLeaf`, and what follows a stray leaf's penning leaves that as it is. -/
theorem penningsTakeTheirCause : Obligations.PenningsTakeTheirCause := by
  refine ⟨fun leaf cause reason s hf hon => ?_, fun leaf s hf hstray => ?_, fun leaf s hf hadmitting =>
    admitTimeoutExpiry_completes hf hadmitting⟩
  · obtain ⟨t, ht, hpens⟩ := leafPenning_completes (cause := cause) (reason := reason) hf hon
    exact ⟨t, ht, hpens.causeShown, hpens.isPenned, hpens.reasonShown⟩
  · obtain ⟨t, ht, hpens, hended, hopened⟩ := strayPenTimeExpiry_completes hf hstray
    exact ⟨t, ht, hpens.causeShown, hpens.isPenned, hpens.reasonShown rfl, hended, hopened⟩

end Sys2Proof.Proofs

namespace Sys2Proof.Proofs

open Sys2Proof.Machine Sys2Proof.Claims Sys2Proof.Laws

/-! ### PENNING_COMPLETE and BYPASS_ACK_TIMEOUT_EXPIRY (R238, R260) -/

section

variable {leaf : Nat} {s : State} (hf : alive s .fabric = true)
include hf

theorem penningComplete_completes (hpenned : penned s leaf = true) (hopen : (leafOf s leaf).penDone = false)
    (hbypass : (leafOf s leaf).bypassCmd = false) :
    Completes (.penningComplete leaf) s fun t => (leafOf t leaf).penDone = true ∧ penned t leaf = true := by
  refine ⟨completePenning leaf s, ?_, ?_, ?_⟩
  · show execPenningComplete leaf s = _
    unfold execPenningComplete
    rw [whenAlive_on _ hf]
    dsimp only
    rw [if_pos (by simp [hpenned, hopen, hbypass])]
  · rw [leafOf_completePenning]; rfl
  · exact (penned_of_objects (completePenning_work leaf s).objects (not_mem_completeKeys (by decide) (by decide))).trans hpenned

theorem exec_bypassAckTimeoutExpiry (hpenned : penned s leaf = true) (hbypass : (leafOf s leaf).bypassCmd = true)
    (hlatched : bit (rd s (Obj.PROT_FLAGS leaf)) 3 = false) :
    exec (.bypassAckTimeoutExpiry leaf) s
      = .next (completePenning leaf (retire leaf (emit .permanentBypassNotConfirmed leaf (leBytes 2 leaf) s))) := by
  show execBypassAckTimeoutExpiry leaf s = _
  unfold execBypassAckTimeoutExpiry
  rw [whenAlive_on _ hf, if_pos (by simp [hpenned, hbypass, hlatched])]

theorem bypassAckTimeoutExpiry_completes (hpenned : penned s leaf = true) (hbypass : (leafOf s leaf).bypassCmd = true)
    (hlatched : bit (rd s (Obj.PROT_FLAGS leaf)) 3 = false) :
    Completes (.bypassAckTimeoutExpiry leaf) s fun t =>
      (leafOf t leaf).penDone = true ∧ retired t leaf = true ∧ Raised .permanentBypassNotConfirmed leaf s t := by
  refine ⟨_, exec_bypassAckTimeoutExpiry hf hpenned hbypass hlatched, ?_, ?_, ?_⟩
  · rw [leafOf_completePenning]; rfl
  · exact (retired_of_objects (completePenning_work leaf _).objects (not_mem_completeKeys (by decide) (by decide))).trans
      (retired_retire leaf _)
  · exact (completePenning_work leaf _).raised ((retire_work leaf _).raised (raised_emit _ _ _ s))

/-! ### The steps of a readmission and their timeout (R274) -/

theorem readmitTimeoutExpiry_completes (hlo : 1 ≤ (leafOf s leaf).readmit) (hhi : (leafOf s leaf).readmit ≤ 3) :
    Completes (.readmitTimeoutExpiry leaf) s fun t =>
      rd t (Obj.READMIT_STATUS leaf) = 0x91 ∧ (leafOf t leaf).readmit = 0
        ∧ OnlyObjects [Obj.READMIT_STATUS leaf, Obj.LINK_STATE leaf] s t ∧ t = { s with regs := t.regs, leaves := t.leaves } := by
  have hended : endReadmit leaf 0x91 s
      = showLink leaf (setLeaf leaf (fun x => { x with readmit := 0 }) (wr s (Obj.READMIT_STATUS leaf) 0x91)) := if_neg (by omega)
  refine ⟨endReadmit leaf 0x91 s, ?_, ?_, ?_, (endReadmit_work leaf 0x91 s).objects, by rw [hended]; rfl⟩
  · show execReadmitTimeoutExpiry leaf s = _
    unfold execReadmitTimeoutExpiry
    rw [whenAlive_on _ hf]
    dsimp only
    rw [if_pos ⟨hlo, hhi⟩]
  · rw [hended, rd_showLink_other _ (leafKey_ne (by decide)), rd_setLeaf, rd_wr_same]
  · rw [hended, leafOf_showLink, leafOf_setLeaf_same]

theorem exec_readmitStep : exec (.readmitStep leaf) s = .next (readmitStep leaf s) := by
  show execReadmitStep leaf s = _
  unfold execReadmitStep
  rw [whenAlive_on _ hf]

theorem readmitStep_acknowledged (hstep : (leafOf s leaf).readmit = 1) (hacked : (leafOf s leaf).readmitAcked = true) :
    Completes (.readmitStep leaf) s fun t => (leafOf t leaf).readmit = 2 ∧ t = { s with leaves := t.leaves } := by
  have h : readmitStep leaf s = setLeaf leaf (fun x => { x with readmit := 2 }) s := by
    unfold readmitStep
    simp only [hstep, hacked, if_true]
  refine ⟨_, exec_readmitStep hf, ?_, by rw [h]; rfl⟩
  rw [h, leafOf_setLeaf_same]

end

/-- A leaf that enters ADMITTING (R274 step 3). -/
def enterAdmitting (x : Leaf) : Leaf :=
  { x with readmit := 4, admitting := true, admitHold := 0, penDone := false, stray := false, bypassOwed := false }

/-- The state in which the queues of a fold that is readmitted open: its leaf is no longer penned. -/
def unpenned (L : Nat) (s : State) : State := setLeaf L enterAdmitting (wr (setProt L 6 false s) (Obj.PEN_CAUSE L) 0)

theorem penned_unpenned (L : Nat) (s : State) : penned (unpenned L s) L = false := by
  unfold unpenned penned
  rw [rd_setLeaf, rd_wr_other _ _ (leafKey_ne (by decide)), bit_setProt, if_pos rfl]

/-- Step 3 of a readmission opens closed queues once the leaf is no longer penned, and shows the step. -/
theorem readmitStep_accepted_eq {L : Nat} {s : State} (hstep : (leafOf s L).readmit = 3) (haccepted : (leafOf s L).accepted = true) :
    ∃ t, QueueWork poolKeys (unpenned L s) t ∧ readmitStep L s = showLink L (wr t (Obj.READMIT_STATUS L) 0x81) := by
  refine ⟨_, QueueWork.foldl (f := fun t id =>
    if (queueOf t id).qstate = 0 then setQueue id (fun q => { q with qstate := 1 }) t else t) (fun t id => ?_) (downQueues L) _, ?_⟩
  · split
    · exact (QueueWork.refl t).setQueue (List.Subset.refl _) _ _
    · exact .refl t
  · unfold readmitStep
    simp only [hstep, haccepted, if_true]
    rfl

/-- The state in which the end of a readmission is told: step 4 is over, and the readmission counts. -/
def readmissionEnded (L : Nat) (s : State) : State :=
  count (setLeaf L (fun x => { x with readmit := 0 }) (wr s (Obj.READMIT_STATUS L) 0x82)) Obj.READMISSIONS

section

variable {leaf : Nat} {s : State} (hf : alive s .fabric = true)
include hf

theorem readmitStep_accepted (hstep : (leafOf s leaf).readmit = 3) (haccepted : (leafOf s leaf).accepted = true) :
    Completes (.readmitStep leaf) s fun t =>
      (leafOf t leaf).readmit = 4 ∧ (leafOf t leaf).admitting = true ∧ penned t leaf = false
        ∧ rd t (Obj.READMIT_STATUS leaf) = 0x81 ∧ rd t (Obj.PEN_CAUSE leaf) = 0 := by
  obtain ⟨u, hu, heq⟩ := readmitStep_accepted_eq hstep haccepted
  have hleaf : leafOf (showLink leaf (wr u (Obj.READMIT_STATUS leaf) 0x81)) leaf = enterAdmitting (leafOf s leaf) := by
    refine (hu.leaf leaf).trans ?_
    rw [unpenned, leafOf_setLeaf_same]
    rfl
  have hkept : ∀ {a : Nat}, 0x400000 ≤ a → a ≠ 0x400061 → a ≠ 0x400063 →
      rd (showLink leaf (wr u (Obj.READMIT_STATUS leaf) 0x81)) (a + leaf * 0x100) = rd (unpenned leaf s) (a + leaf * 0x100) := by
    intro a ha hlink hstatus
    rw [rd_showLink_other _ (leafKey_ne hlink), rd_wr_other _ _ (leafKey_ne hstatus)]
    exact hu.objects _ fun hmem => not_mem_returnKeys ha (List.mem_cons_of_mem _ hmem)
  refine ⟨_, exec_readmitStep hf, ?_⟩
  rw [heq]
  dsimp only
  rw [hleaf]
  refine ⟨rfl, rfl, ?_, ?_, ?_⟩
  · rw [penned, hkept (by decide) (by decide) (by decide)]
    exact penned_unpenned leaf s
  · rw [rd_showLink_other _ (leafKey_ne (by decide)), rd_wr_same]
  · rw [hkept (by decide) (by decide) (by decide), unpenned, rd_setLeaf, rd_wr_same]

/-- The last step ends with the event of a leaf ELIGIBLE again, counted. -/
theorem readmitStep_eligible_eq (hstep : (leafOf s leaf).readmit = 4) (hadmitted : (leafOf s leaf).admitting = false)
    (heligible : rd s (Obj.LEAF_RANK_STATE leaf) = rkEligible) :
    exec (.readmitStep leaf) s
      = .next (showLink leaf (emit .readmissionComplete leaf (leBytes 2 leaf) (readmissionEnded leaf s))) := by
  rw [exec_readmitStep hf]
  unfold readmitStep
  simp only [hstep, hadmitted, heligible]
  rfl

theorem readmitStep_eligible (hstep : (leafOf s leaf).readmit = 4) (hadmitted : (leafOf s leaf).admitting = false)
    (heligible : rd s (Obj.LEAF_RANK_STATE leaf) = rkEligible) :
    Completes (.readmitStep leaf) s fun t =>
      (leafOf t leaf).readmit = 0 ∧ rd t (Obj.READMIT_STATUS leaf) = 0x82 ∧ Counted 32 Obj.READMISSIONS s t
        ∧ Raised .readmissionComplete leaf s t := by
  refine ⟨_, readmitStep_eligible_eq hf hstep hadmitted heligible, ?_, ?_, ?_,
    raised_congr (raised_emit .readmissionComplete leaf (leBytes 2 leaf) (readmissionEnded leaf s)) rfl rfl⟩
  · rw [leafOf_showLink, leafOf_emit, readmissionEnded, count, leafOf_countBy, leafOf_setLeaf_same]
  · rw [rd_showLink_other _ (leafKey_ne (by decide)), rd_emit_other _ _ _ _ (leafKey_ne_station (by decide)),
      readmissionEnded, rd_count_other _ (leafKey_ne_station (by decide)), rd_setLeaf, rd_wr_same]
  · unfold Counted
    rw [rd_showLink_other _ (leafKey_ne_station (by decide)).symm, rd_emit_other _ _ _ _ (by decide), readmissionEnded,
      rd_count_same, rd_setLeaf, rd_wr_other _ _ (leafKey_ne_station (by decide)).symm]

end

/-- Settles O16: the two ways a penning completes, and the steps of a readmission with their timeout. -/
theorem foldTimers : Obligations.FoldTimers :=
  ⟨fun _ _ hf hpenned hopen hbypass => penningComplete_completes hf hpenned hopen hbypass,
    fun _ _ hf hpenned hbypass hlatched => bypassAckTimeoutExpiry_completes hf hpenned hbypass hlatched,
    fun _ _ hf hlo hhi => readmitTimeoutExpiry_completes hf hlo hhi,
    fun _ _ hf hstep hacked => readmitStep_acknowledged hf hstep hacked,
    fun _ _ hf hstep haccepted => readmitStep_accepted hf hstep haccepted,
    fun _ _ hf hstep hadmitted heligible => readmitStep_eligible hf hstep hadmitted heligible⟩

end Sys2Proof.Proofs

namespace Sys2Proof.Proofs

open Sys2Proof.Machine Sys2Proof.Claims Sys2Proof.Laws

/-! ### The device posts a service command (R87, R231) -/

theorem serviceMsg_length (L op : Nat) (args : List Byte) (s : State) : (serviceMsg L op args s).length = 4 + args.length := by
  simp only [serviceMsg, List.length_append, leBytes_length]

/-- With room in class 1 a service command is a message at its end. -/
theorem postService_room {L op n : Nat} {args : List Byte} {s : State} (h : Room (L * 16 + 1) n s) (hn : n = 4 + args.length) :
    postService L op args s
      = some (setQueue (L * 16 + 1) (appendMsg (postedMsg (L * 16 + 1) (serviceMsg L op args s) s)) s) := by
  rw [hn, ← serviceMsg_length L op args s] at h
  exact if_pos h

/-! ### SC_CLEAR_DELAY_EXPIRY (R233) -/

/-- A leaf whose automatic clear waits for its conditions. -/
def awaitClear (x : Leaf) : Leaf := { x with scDelays := x.scDelays - 1, scClears := x.scClears + 1 }

/-- A leaf whose automatic clear is posted. -/
def clearPosted (x : Leaf) : Leaf := { x with scClears := x.scClears - 1 }

theorem queueOf_setLeaf (L : Nat) (f : Leaf → Leaf) (s : State) (id : Nat) : queueOf (setLeaf L f s) id = queueOf s id := rfl

/-- A clear that waits is posted where its conditions hold. -/
theorem tryScClear_posts {L : Nat} {s : State} (hclears : 0 < (leafOf s L).scClears) (hblock : blockInForce s = false)
    (harm : armOf s L < 12) (hshepherd : 1 ≤ rd s (Obj.SHEPHERD_STATE (armOf s L))) (hroom : Room (L * 16 + 1) 4 s) :
    ∃ m, tryScClear L s = setLeaf L clearPosted (setQueue (L * 16 + 1) (appendMsg m) s) := by
  refine ⟨postedMsg (L * 16 + 1) (serviceMsg L 0x02 [] s) s, ?_⟩
  unfold tryScClear
  rw [if_pos ⟨hclears, hblock, harm, hshepherd⟩, postService_room hroom rfl]
  rfl

section

variable {leaf : Nat} {s : State} (hf : alive s .fabric = true)
include hf

theorem exec_scClearDelayExpiry (hdelay : 0 < (leafOf s leaf).scDelays) :
    exec (.scClearDelayExpiry leaf) s = .next (tryScClear leaf (setLeaf leaf awaitClear s)) := by
  show execScClearDelayExpiry leaf s = _
  unfold execScClearDelayExpiry
  rw [whenAlive_on _ hf, if_pos hdelay]
  rfl

theorem scClearDelayExpiry_waits (hdelay : 0 < (leafOf s leaf).scDelays) (hblock : blockInForce s = true) :
    Completes (.scClearDelayExpiry leaf) s fun t =>
      (leafOf t leaf).scDelays = (leafOf s leaf).scDelays - 1 ∧ (leafOf t leaf).scClears = (leafOf s leaf).scClears + 1
        ∧ t = { s with leaves := t.leaves } := by
  have hwaits : tryScClear leaf (setLeaf leaf awaitClear s) = setLeaf leaf awaitClear s :=
    if_neg fun h => Bool.false_ne_true (h.2.1.symm.trans hblock)
  refine ⟨_, exec_scClearDelayExpiry hf hdelay, ?_⟩
  dsimp only
  rw [hwaits, leafOf_setLeaf_same]
  exact ⟨rfl, rfl, rfl⟩

theorem scClearDelayExpiry_posts (hdelay : 0 < (leafOf s leaf).scDelays) (hblock : blockInForce s = false) (harm : armOf s leaf < 12)
    (hshepherd : 1 ≤ rd s (Obj.SHEPHERD_STATE (armOf s leaf))) (hroom : Room (leaf * 16 + 1) 4 s) :
    Completes (.scClearDelayExpiry leaf) s fun t =>
      (leafOf t leaf).scDelays = (leafOf s leaf).scDelays - 1 ∧ (leafOf t leaf).scClears = (leafOf s leaf).scClears
        ∧ (queueOf t (leaf * 16 + 1)).msgs.length = (queueOf s (leaf * 16 + 1)).msgs.length + 1 := by
  have hclears : 0 < (leafOf (setLeaf leaf awaitClear s) leaf).scClears := by
    rw [leafOf_setLeaf_same]
    exact Nat.succ_pos _
  obtain ⟨m, hposts⟩ := tryScClear_posts (s := setLeaf leaf awaitClear s) hclears hblock harm hshepherd hroom
  refine ⟨_, exec_scClearDelayExpiry hf hdelay, ?_⟩
  dsimp only
  rw [hposts, leafOf_setLeaf_same, ((QueueWork.refl _).setQueue (List.Subset.refl poolKeys) _ _).leaf, leafOf_setLeaf_same,
    queueOf_setLeaf, queueOf_setQueue, if_pos rfl, queueOf_setLeaf]
  exact ⟨rfl, Nat.add_sub_cancel _ 1, List.length_append⟩

end

/-! ### Gate supplies (R234, R240) -/

/-- The event that one fault of a leaf protection source adds (R261). -/
def leafFault (source inst : Nat) : FaultEvent :=
  { rank := faultRank 1 source, family := 1, source := source, inst := inst, n := 1 }

theorem countFault_leaf (source inst : Nat) (s : State) :
    countFault 1 source inst 1 s = { s with faultEvents := s.faultEvents ++ [leafFault source inst] } := rfl

/-- A sighting has been judged: no object differs but those a retirement changes, the leaf waits for the same records, and every event
of a fault source stands. -/
structure Judged (L : Nat) (s t : State) : Prop where
  objects : OnlyObjects (retireKeys L) s t
  wait : (leafOf t L).uvWait = (leafOf s L).uvWait
  faults : s.faultEvents ⊆ t.faultEvents

theorem Judged.refl (L : Nat) (s : State) : Judged L s s := ⟨fun _ _ => rfl, rfl, List.Subset.refl _⟩

theorem Judged.trans {L : Nat} {s t u : State} (h : Judged L s t) (g : Judged L t u) : Judged L s u :=
  ⟨onlyObjects_trans h.objects g.objects, g.wait.trans h.wait, List.Subset.trans h.faults g.faults⟩

theorem Judged.ite {p : Prop} [Decidable p] {L : Nat} {s t u : State} (h : Judged L s t) (g : Judged L s u) :
    Judged L s (if p then t else u) := by
  split
  · exact h
  · exact g

/-- A change of the leaf's record that keeps what it waits for. -/
theorem judged_setLeaf {L : Nat} {f : Leaf → Leaf} (hwait : ∀ x, (f x).uvWait = x.uvWait) (s : State) : Judged L s (setLeaf L f s) :=
  ⟨fun _ _ => rfl, by rw [leafOf_setLeaf_same, hwait], List.Subset.refl _⟩

theorem leafOf_retire (L : Nat) (s : State) (M : Nat) : leafOf (retire L s) M = leafOf s M := by
  unfold retire
  split
  · rfl
  · rw [leafOf_showLink, leafOf_emit]
    rfl

theorem bypassAtRisk_judged (L : Nat) (s : State) : Judged L s (bypassAtRisk L s) where
  objects := onlyObjects_trans (t := countFault 1 4 L 1 (emit .bypassHoldAtRisk L (leBytes 2 L) s))
    (fun j hj => (rd_countFault ..).trans (onlyObjects_emit (by simp) _ _ _ s j hj)) (retire_work L _).objects
  wait := by
    unfold bypassAtRisk
    rw [leafOf_retire, countFault_leaf]
    exact congrArg Leaf.uvWait (leafOf_emit _ _ _ s L)
  faults := by
    unfold bypassAtRisk
    rw [(retire_work L _).faultEvents, countFault_leaf, emit_frame]
    exact List.subset_append_left _ _

/-- A leaf whose sighting beside a latched bypass has been acted on. -/
def actOnUv (x : Leaf) : Leaf := { x with uvNamed := 3 }

/-- A leaf whose GATE_UV is forgotten. -/
def dropUv (x : Leaf) : Leaf := { x with uvNamed := 0, uvHeld := false }

/-- A leaf whose last sighting, the one of `last`, has its supply known. -/
def nameSupply (supply : Nat) (last : List Bool) (x : Leaf) : Leaf :=
  { x with uvWait := [], uvNamed := if x.uvNamed = 3 then 3 else max x.uvNamed (if supply = 4 then 2 else 1),
           uvHeld := x.uvHeld || last.contains true }

theorem judgeHold_judged (L : Nat) (s : State) : Judged L s (judgeHold L s) := by
  unfold judgeHold
  split
  · exact (judged_setLeaf (f := actOnUv) (fun _ => rfl) s).trans (bypassAtRisk_judged L _)
  · exact .refl L s

theorem forgetUv_judged (L : Nat) (s : State) : Judged L s (forgetUv L s) := by
  unfold forgetUv
  split
  · exact .refl L s
  · exact judged_setLeaf (f := dropUv) (fun _ => rfl) s

/-- Once the supply of the oldest sighting is known, that sighting no longer waits, and what follows only judges it. -/
theorem nameUv_judged {L : Nat} {s : State} (supply : Nat) (h : (leafOf s L).uvWait ≠ []) :
    ∃ f : Leaf → Leaf, (f (leafOf s L)).uvWait = (leafOf s L).uvWait.tail ∧ Judged L (setLeaf L f s) (nameUv L supply s) := by
  unfold nameUv
  split
  · next held next rest hwait =>
    refine ⟨fun x => { x with uvWait := next :: rest }, by rw [hwait]; rfl, ?_⟩
    dsimp only
    split
    · exact bypassAtRisk_judged L _
    · exact .refl L _
  · next hlast =>
    refine ⟨nameSupply supply (leafOf s L).uvWait, ?_, ?_⟩
    · obtain ⟨x, xs, hwait⟩ := List.exists_cons_of_ne_nil h
      cases xs with
      | nil => rw [hwait]; rfl
      | cons next rest => exact (hlast x next rest hwait).elim
    · have hjudged := judgeHold_judged L (setLeaf L (nameSupply supply (leafOf s L).uvWait) s)
      exact Judged.ite hjudged (hjudged.trans (forgetUv_judged L _))

section

variable {leaf : Nat} {s : State} (hf : alive s .fabric = true)
include hf

theorem exec_uvRecordTimeout (hwait : (leafOf s leaf).uvWait ≠ []) :
    exec (.uvRecordTimeout leaf) s
      = .next (nameUv leaf 4 (countFault 1 1 leaf 1 (countBy 16 s (Obj.UV_EVENTS_UNKNOWN leaf) 1))) := by
  show execUvRecordTimeout leaf s = _
  unfold execUvRecordTimeout
  rw [whenAlive_on _ hf, if_neg hwait]
  rfl

theorem uvRecordTimeout_completes (hwait : (leafOf s leaf).uvWait ≠ []) :
    Completes (.uvRecordTimeout leaf) s fun t =>
      Counted 16 (Obj.UV_EVENTS_UNKNOWN leaf) s t ∧ (leafOf t leaf).uvWait = (leafOf s leaf).uvWait.tail
        ∧ ∃ e, e ∈ t.faultEvents ∧ e.family = 1 ∧ e.source = 1 ∧ e.inst = leaf := by
  refine ⟨_, exec_uvRecordTimeout hf hwait, ?_⟩
  obtain ⟨f, htail, hjudged⟩ := nameUv_judged (L := leaf)
    (s := countFault 1 1 leaf 1 (countBy 16 s (Obj.UV_EVENTS_UNKNOWN leaf) 1)) 4 hwait
  refine ⟨?_, ?_, leafFault 1 leaf, hjudged.faults ?_, rfl, rfl, rfl⟩
  · have hother : Obj.UV_EVENTS_UNKNOWN leaf ∉ retireKeys leaf := by
      simp only [List.mem_cons, List.not_mem_nil, or_false, not_or]
      exact ⟨leafKey_ne (by decide), leafKey_ne (by decide), leafKey_ne_station (by decide)⟩
    rw [Counted, hjudged.objects _ hother, rd_setLeaf, rd_countFault, rd_countBy_same]
  · rw [hjudged.wait, leafOf_setLeaf_same]
    exact htail
  · exact List.mem_append_right s.faultEvents List.mem_cons_self

/-! ### TEST_TIMEOUT_EXPIRY (R237) -/

theorem testTimeoutExpiry_completes (hrunning : bit (rd s (Obj.PROT_FLAGS leaf)) 5 = true) :
    Completes (.testTimeoutExpiry leaf) s fun t =>
      rd t (Obj.TEST_STATUS leaf) = 0x21 ∧ bit (rd t (Obj.PROT_FLAGS leaf)) 5 = false
        ∧ (∃ e, t.faultEvents = s.faultEvents ++ [e] ∧ e.family = 1 ∧ e.source = 3 ∧ e.inst = leaf)
        ∧ OnlyObjects [Obj.TEST_STATUS leaf, Obj.PROT_FLAGS leaf] s t
        ∧ t = { s with regs := t.regs, faultEvents := t.faultEvents } := by
  refine ⟨countFault 1 3 leaf 1 (setProt leaf 5 false (wr s (Obj.TEST_STATUS leaf) 0x21)), ?_, ?_, ?_,
    ⟨leafFault 3 leaf, rfl, rfl, rfl, rfl⟩, ?_, rfl⟩
  · show execTestTimeoutExpiry leaf s = _
    unfold execTestTimeoutExpiry
    rw [whenAlive_on _ hf, if_pos hrunning]
  · rw [rd_countFault, setProt, rd_wr_other _ _ (leafKey_ne (by decide)), rd_wr_same]
  · rw [rd_countFault, bit_setProt, if_pos rfl]
  · exact onlyObjects_trans (onlyObjects_wr (k := Obj.TEST_STATUS leaf) (by simp) s _)
      (onlyObjects_wr (k := Obj.PROT_FLAGS leaf) (by simp) _ _)

end

/-! ### FAULT_WINDOW_BOUNDARY (R261) -/

theorem Tbl.get_unlisted {α : Type} (d : Nat → α) {m : List (Nat × α)} {k : Nat} (h : ∀ p ∈ m, p.1 ≠ k) :
    Tbl.get d m k = d k := by
  induction m with
  | nil => rfl
  | cons p m ih =>
    rw [Tbl.get, if_neg (h p List.mem_cons_self).symm]
    exact ih fun q hq => h q (List.mem_cons_of_mem _ hq)

/-- One entry of the fault counts at a boundary of the window of the sources `mine` selects: a count of 1 leaves the table. -/
def leakEntry (mine : Nat → Bool) (p : Nat × Nat) : Option (Nat × Nat) :=
  if mine p.1 then (if p.2 ≤ 1 then none else some (p.1, p.2 - 1)) else some p

/-- At the head of a table in canonical form an entry that leaves it reads as the tail does, 0. -/
theorem get_leaked_cons (mine : Nat → Bool) {j v : Nat} {m : List (Nat × Nat)}
    (h : Tbl.get (fun _ => 0) (m.filterMap (leakEntry mine)) j = 0) (k : Nat) :
    Tbl.get (fun _ => 0) (((j, v) :: m).filterMap (leakEntry mine)) k
      = if k = j then (if mine j then v - 1 else v) else Tbl.get (fun _ => 0) (m.filterMap (leakEntry mine)) k := by
  rw [List.filterMap_cons, leakEntry]
  dsimp only
  cases mine j
  case false => rfl
  case true =>
    by_cases hv : v ≤ 1
    · rw [if_pos rfl, if_pos hv]
      dsimp only
      split
      · next hk => rw [hk, h, if_pos rfl]; omega
      · rfl
    · rw [if_pos rfl, if_neg hv]
      rfl

theorem get_leaked (mine : Nat → Bool) {m : List (Nat × Nat)} (h : Tbl.wf (fun _ => 0) m = true) (k : Nat) :
    Tbl.get (fun _ => 0) (m.filterMap (leakEntry mine)) k
      = if mine k then Tbl.get (fun _ => 0) m k - 1 else Tbl.get (fun _ => 0) m k := by
  induction m generalizing k with
  | nil => simp [Tbl.get]
  | cons p m ih =>
    obtain ⟨j, v⟩ := p
    obtain ⟨hsorted, hlisted⟩ := (Tbl.wf_iff _ _).mp h
    obtain ⟨hlt, hrest⟩ := List.pairwise_cons.mp hsorted
    have ih := ih ((Tbl.wf_iff _ _).mpr ⟨hrest, fun q hq => hlisted q (List.mem_cons_of_mem _ hq)⟩)
    have hgone : Tbl.get (fun _ => 0) m j = 0 := Tbl.get_unlisted _ fun q hq => Nat.ne_of_gt (hlt q hq)
    rw [get_leaked_cons mine (by rw [ih, hgone]; simp), ih, Tbl.get]
    split
    · next hk => rw [hk]
    · rfl

/-- The keys of the counts of one source. -/
def sourceKeys (family source k : Nat) : Bool :=
  decide (faultKey family source 0 ≤ k) && decide (k < faultKey family source 0 + 65536)

theorem faultCounts_leakSource (family source : Nat) (s : State) :
    (leakSource family source s).faultCounts = s.faultCounts.filterMap (leakEntry (sourceKeys family source)) := rfl

/-- A count is one of a source's own where family and source are the same. -/
theorem sourceKeys_faultKey {family source f k inst : Nat} (hinst : inst < 65536) :
    sourceKeys family source (faultKey f k inst) = decide (f * 16 + k = family * 16 + source) := by
  rw [sourceKeys, ← Bool.decide_and, decide_eq_decide]
  unfold faultKey
  omega

theorem faultCount_leakSource {family source f k inst : Nat} {s : State} (hs : s.Canonical) (hinst : inst < 65536) :
    faultCount (leakSource family source s) f k inst
      = if f * 16 + k = family * 16 + source then faultCount s f k inst - 1 else faultCount s f k inst := by
  unfold faultCount
  rw [faultCounts_leakSource, get_leaked _ hs.faultCounts, sourceKeys_faultKey hinst]
  simp only [decide_eq_true_eq]

theorem faultWindowBoundary_completes {family source : Nat} {s : State} (hf : alive s .fabric = true) (hs : s.Canonical) :
    Completes (.faultWindowBoundary family source) s fun t =>
      (∀ inst, inst < 65536 → faultCount t family source inst = faultCount s family source inst - 1)
        ∧ (∀ f k inst, inst < 65536 → k < 16 → source < 16 →
             (f ≠ family ∨ k ≠ source) → faultCount t f k inst = faultCount s f k inst)
        ∧ t = { s with faultCounts := t.faultCounts, faultLogged := t.faultLogged } := by
  refine ⟨leakSource family source s, ?_, fun inst hinst => ?_, fun f k inst hinst hk hsource hother => ?_, rfl⟩
  · show execFaultWindowBoundary family source s = _
    unfold execFaultWindowBoundary
    rw [whenAlive_on _ hf]
  · rw [faultCount_leakSource hs hinst, if_pos rfl]
  · rw [faultCount_leakSource hs hinst, if_neg (by omega)]

/-- Settles O17: the three timers of a leaf, and the boundary, which lowers the counts of its own source. -/
theorem protectionTimers : Obligations.ProtectionTimers :=
  ⟨fun _ _ hf hdelay => ⟨fun hblock => scClearDelayExpiry_waits hf hdelay hblock,
      fun hblock harm hshepherd hopen hfits => scClearDelayExpiry_posts hf hdelay hblock harm hshepherd ⟨.inl hopen, hfits⟩⟩,
    fun _ _ hf hwait => uvRecordTimeout_completes hf hwait,
    fun _ _ hf hrunning => testTimeoutExpiry_completes hf hrunning,
    fun _ _ _ hf hs => faultWindowBoundary_completes hf hs⟩

end Sys2Proof.Proofs

namespace Sys2Proof.Proofs

open Sys2Proof.Machine Sys2Proof.Claims Sys2Proof.Laws

/-! ### Objects of the leaves in the dictionary (R245, R280) -/

theorem rowsFor_leaf {L : Nat} (hL : L < 16384) : rowsFor (0x4000 + L) = rowsLeaves := by
  unfold rowsFor
  iterate 16 rw [if_neg (by omega)]
  rw [if_pos (by omega)]

/-- Every leaf has the objects of leaf 0. -/
theorem findRow_leaf {L : Nat} (hL : L < 16384) (sub : Nat) : findRow (0x4000 + L) sub = findRow 0x4000 sub := by
  have hrows : ∀ r ∈ rowsLeaves, r.base = 0x4000 ∧ r.stride = 1 ∧ r.count = 16384 := by decide
  unfold findRow
  rw [rowsFor_leaf hL, show rowsFor 0x4000 = rowsLeaves from rowsFor_leaf (L := 0) (by decide)]
  refine List.find?_congr fun r hr => ?_
  obtain ⟨hbase, hstride, hcount⟩ := hrows r hr
  have hlast : 0x4000 + L < 0x8000 := by omega
  simp [ObjRow.covers, hbase, hstride, hcount, hlast, Nat.mod_one]

theorem volatile_leaf {a L : Nat} {ty : ObjTy} (hL : L < 16384) (ha : a < 256) (h : Volatile (0x400000 + a) ty) :
    Volatile (0x400000 + a + L * 0x100) ty := by
  have hindex : keyIndex (0x400000 + a + L * 0x100) = 0x4000 + L := by unfold keyIndex; omega
  have hsub : keySub (0x400000 + a + L * 0x100) = keySub (0x400000 + a) := by unfold keySub; omega
  have hindex' : keyIndex (0x400000 + a) = 0x4000 := by unfold keyIndex; omega
  rw [Volatile, hindex, hsub, findRow_leaf hL, ← hindex']
  exact h

theorem volatile_protCommand {L : Nat} (hL : L < 16384) : Volatile (Obj.PROT_COMMAND L) .domain :=
  volatile_leaf (a := 0x40) hL (by decide) (by decide +kernel)

theorem volatile_leafReadmit {L : Nat} (hL : L < 16384) : Volatile (Obj.LEAF_READMIT L) .u8 :=
  volatile_leaf (a := 0x62) hL (by decide) (by decide +kernel)

/-! ### Writes of PROT_COMMAND and LEAF_READMIT (R232, R272, R287) -/

theorem writeFlock_leaf {k a L : Nat} (ha : a < 256) (bs : List Byte) (s : State) :
    writeFlock k (0x400000 + a + L * 0x100) bs s = if a = 0x40 then protCommand (sessRole s k) L bs s else leafReadmit L s := by
  have hindex : keyIndex (0x400000 + a + L * 0x100) = 0x4000 + L := by unfold keyIndex; omega
  have hsub : keySub (0x400000 + a + L * 0x100) = a := by unfold keySub; omega
  unfold writeFlock
  simp only [hindex, hsub, Nat.add_sub_cancel_left, Obj.QUEUE_SELECT, Obj.QUEUE_RELEASE, Obj.QUEUE_POST, Obj.QUEUE_CLEAR_RETURNED]
  iterate 6 rw [if_neg (by omega)]

theorem apart_leafKey {a L : Nat} (h : 0x400000 ≤ a) : Apart (a + L * 0x100) := by simp only [Apart]; omega

/-- `bookedWrite_leaves` for a leaf's object whose rule works on the leaf's fold. -/
theorem leafWrite_leaves {k a L : Nat} {ty : ObjTy} {bs : List Byte} {ks : List Nat} {s v : State} (ha : a < 256)
    (h : MayWrite k (0x400000 + a + L * 0x100) bs s) (hrow : Volatile (0x400000 + a + L * 0x100) ty)
    (hv : (if a = 0x40 then protCommand (sessRole (booked k s) k) L bs (booked k s) else leafReadmit L (booked k s)) = (v, 0))
    (hwork : FoldWork ks (booked k s) v) (hks : ∀ j ∈ ks, Apart j) :
    WriteLeaves k ks { s with leaves := v.leaves, queues := v.queues, log := v.log } v s
      (namedRequest k 0x11 (0x400000 + a + L * 0x100) bs s) := by
  obtain ⟨r, hr, hp, -⟩ := row_of_volatile hrow
  refine bookedWrite_leaves h hr (by rw [applyWrite_flock hp (by omega), writeFlock_leaf ha, hv]) ?_ ⟨rfl, rfl⟩ hks hwork.objects
  obtain ⟨b, c, d, e, rfl⟩ := hwork.changes
  rw [booked_frame]
  exact ⟨b, rfl⟩

/-- What each opcode of `PROT_COMMAND` does once its form and the role are right (R232). -/
def protRule (op L : Nat) (args : List Byte) (s : State) : WriteResult :=
  match op with
  | 1 => protSelfTest L args s
  | 2 => protScClear L s
  | 3 => protBypass L s
  | 4 => protRelease L s
  | 0x80 => protPen L s
  | _ => protClearRetired L s

theorem protCommand_runs {role L : Nat} {op : Byte} {args : List Byte} (s : State)
    (hop : [1, 2, 3, 4, 0x80, 0x81].contains op.toNat = true) (hrole : (if op.toNat = 2 then 1 else 2) ≤ role)
    (hargs : op.toNat = 1 ∨ args = []) : protCommand role L (op :: args) s = protRule op.toNat L args s := by
  unfold protCommand
  dsimp only
  rw [if_neg (by rw [hop]; decide), if_neg (not_lt.mpr hrole), if_neg fun h => hargs.elim h.1 h.2]
  rfl

/-- A command to a leaf completes with what its opcode's rule leaves of the booked state. -/
theorem protCommand_completes {c : Instr} {k L : Nat} {op : Byte} {args : List Byte} {ks : List Nat} {s v : State} {P : State → Prop}
    (hL : L < 16384) (h : MayWrite k (Obj.PROT_COMMAND L) (op :: args) s)
    (hexec : exec c s = .next (namedRequest k 0x11 (only (L < 16384) (Obj.PROT_COMMAND L)) (op :: args) s))
    (hop : [1, 2, 3, 4, 0x80, 0x81].contains op.toNat = true) (hrole : (if op.toNat = 2 then 1 else 2) ≤ sessRole s k)
    (hargs : op.toNat = 1 ∨ args = []) (hv : protRule op.toNat L args (booked k s) = (v, 0)) (hwork : FoldWork ks (booked k s) v)
    (hks : ∀ j ∈ ks, Apart j)
    (hP : ∀ t, WriteLeaves k ks { s with leaves := v.leaves, queues := v.queues, log := v.log } v s t → P t) : Completes c s P := by
  rw [only_pos hL] at hexec
  refine completes_write hexec (leafWrite_leaves (a := 0x40) (by decide) h (volatile_protCommand hL) ?_ hwork hks) hP
  rw [if_pos rfl, sessRole_booked h.1, protCommand_runs _ hop hrole hargs, hv]

/-! ### Commands that pen (R238) -/

theorem apart_of_mem_penKeys {L : Nat} : ∀ j ∈ penKeys L, Apart j := by
  simp only [List.forall_mem_append, List.forall_mem_cons]
  exact ⟨⟨apart_leafKey (by decide), apart_leafKey (by decide), by simp⟩,
    ⟨apart_leafKey (by decide), apart_leafKey (by decide), apart_leafKey (by decide), apart_leafKey (by decide), by simp⟩,
    ⟨apart_leafKey (by decide), apart_leafKey (by decide), by decide, by simp⟩, by decide, fun _ => apart_of_mem_poolKeys⟩

theorem class1Open_booked (k L : Nat) (s : State) : class1Open (booked k s) L = class1Open s L := by
  unfold class1Open; rw [queueOf_booked]

/-- A command that pens a leaf with cause 1. -/
theorem penCommand_completes {c : Instr} {k L : Nat} {op : Byte} {s : State} (bypass : Bool) (hL : L < 16384)
    (h : MayWrite k (Obj.PROT_COMMAND L) [op] s)
    (hexec : exec c s = .next (namedRequest k 0x11 (only (L < 16384) (Obj.PROT_COMMAND L)) [op] s))
    (hop : [1, 2, 3, 4, 0x80, 0x81].contains op.toNat = true) (hrole : (if op.toNat = 2 then 1 else 2) ≤ sessRole s k)
    (hrule : ∀ x, class1Open x L = true → protRule op.toNat L [] x = (penLeaf L 1 0 bypass x, 0)) (hopen : class1Open s L = true) :
    Completes c s fun t => Answered k 0 s t ∧ rd t (Obj.PEN_CAUSE L) = 1 ∧ penned t L = true := by
  refine protCommand_completes hL h hexec hop hrole (.inr rfl) (hrule _ ((class1Open_booked k L s).trans hopen))
    (penLeaf_work L 1 0 bypass _) apart_of_mem_penKeys ?_
  rintro t ⟨⟨hanswered, -⟩, -, hobjects⟩
  have hpens := penLeaf_pens L 1 0 bypass (booked k s)
  refine ⟨hanswered, ?_, ?_⟩
  · rw [hobjects _ (apart_leafKey (by decide))]
    exact hpens.causeShown
  · unfold penned
    rw [hobjects _ (apart_leafKey (by decide))]
    exact hpens.isPenned

theorem protBypass_open {L : Nat} {s : State} (h : class1Open s L = true) : protBypass L s = (penLeaf L 1 0 true s, 0) :=
  if_neg (by simp [h])

theorem protPen_open {L : Nat} {s : State} (h : class1Open s L = true) : protPen L s = (penLeaf L 1 0 false s, 0) :=
  if_neg (by simp [h])

theorem permanentBypassCommand_completes {k L : Nat} {s : State} (hL : L < 16384) (h : MayWrite k (Obj.PROT_COMMAND L) [(3 : Byte)] s)
    (hrole : 2 ≤ sessRole s k) (hopen : class1Open s L = true) :
    Completes (.permanentBypassCommand k L) s fun t => Answered k 0 s t ∧ rd t (Obj.PEN_CAUSE L) = 1 ∧ penned t L = true :=
  penCommand_completes true hL h rfl (by decide) hrole (fun _ => protBypass_open) hopen

theorem penWithoutBypassCommand_completes {k L : Nat} {s : State} (hL : L < 16384)
    (h : MayWrite k (Obj.PROT_COMMAND L) [(0x80 : Byte)] s) (hrole : 2 ≤ sessRole s k) (hopen : class1Open s L = true) :
    Completes (.penWithoutBypassCommand k L) s fun t => Answered k 0 s t ∧ rd t (Obj.PEN_CAUSE L) = 1 ∧ penned t L = true :=
  penCommand_completes false hL h rfl (by decide) hrole (fun _ => protPen_open) hopen

/-! ### Commands that post (R231, R232, R235) -/

theorem room_booked {k id n : Nat} {s : State} (h : Ready k s) (hroom : Room id n s) : Room id n (booked k s) := by
  rw [Room, queueOf_booked, postFits_booked h]
  exact hroom

theorem class1Open_of_room {L n : Nat} {s : State} (h : Room (L * 16 + 1) n s) : class1Open s L = true := by
  obtain ⟨hopen, -⟩ := h
  exact decide_eq_true (by omega)

theorem serviceMsg_booked (k L op : Nat) (args : List Byte) (s : State) :
    serviceMsg L op args (booked k s) = serviceMsg L op args s := by
  unfold serviceMsg; rw [queueOf_booked]

/-- The state in which session `k`'s service command to a leaf stands posted. -/
def commandPosted (k L op : Nat) (args : List Byte) (s : State) : State :=
  setQueue (L * 16 + 1) (appendMsg (postedMsg (L * 16 + 1) (serviceMsg L op args s) s)) (booked k s)

section

variable {k L op n : Nat} {args : List Byte} {s : State}

theorem postService_booked (h : Ready k s) (hroom : Room (L * 16 + 1) n s) (hn : n = 4 + args.length) :
    postService L op args (booked k s) = some (commandPosted k L op args s) := by
  rw [postService_room (room_booked h hroom) hn, serviceMsg_booked, postedMsg_booked h]
  rfl

theorem commandPosted_work : QueueWork poolKeys (booked k s) (commandPosted k L op args s) :=
  (QueueWork.refl _).setQueue (List.Subset.refl _) _ _

theorem commandPosted_queues (k L op : Nat) (args : List Byte) (s : State) : (commandPosted k L op args s).queues
    = Tbl.modify (fun _ => Queue.empty) s.queues (L * 16 + 1)
        (appendMsg (postedMsg (L * 16 + 1) (serviceMsg L op args s) s)) := by
  rw [commandPosted, setQueue_frame, booked_frame]

theorem commandPosted_leaves (k L op : Nat) (args : List Byte) (s : State) : (commandPosted k L op args s).leaves = s.leaves := by
  rw [commandPosted, setQueue_frame, booked_frame]

theorem commandPosted_log (k L op : Nat) (args : List Byte) (s : State) : (commandPosted k L op args s).log = s.log := by
  rw [commandPosted, setQueue_frame, booked_frame]

/-- A message appended to a queue is posted there. -/
theorem posted_of_queues {t : State} {id : Nat} {body : List Byte}
    (h : t.queues = Tbl.modify (fun _ => Queue.empty) s.queues id (appendMsg (postedMsg id body s))) : Posted id body s t := by
  refine ⟨?_, fun j hj => ?_⟩
  · rw [queueOf_of_queues h, if_pos rfl]
    rfl
  · rw [queueOf_of_queues h, if_neg hj]

/-- An accepted write whose rule, after posting the command, changes objects only. -/
theorem done_of_posted {ks : List Nat} {v t : State} (hqueues : v.queues = (commandPosted k L op args s).queues)
    (hleaves : v.leaves = s.leaves) (hlog : v.log = s.log)
    (hdone : Done k ks { s with leaves := v.leaves, queues := v.queues, log := v.log } s t) :
    Done k ks { s with queues := t.queues } s t ∧ Posted (L * 16 + 1) (serviceMsg L op args s) s t := by
  have htqueues : t.queues = v.queues := by rw [frame_of_done hdone]
  rw [hleaves, hlog, ← htqueues] at hdone
  exact ⟨hdone, posted_of_queues (htqueues.trans (hqueues.trans (commandPosted_queues k L op args s)))⟩

end

/-- What SELF_TEST leaves: its command posted, and a test shown to be running. -/
def testStarted (k L : Nat) (args : List Byte) (s : State) : State :=
  setProt L 5 true (wr (commandPosted k L 0x01 args s) (Obj.TEST_STATUS L) 0xFF)

/-- A test that starts shows in objects only. -/
theorem testStarted_frame (k L : Nat) (args : List Byte) (s : State) :
    (testStarted k L args s).queues = (commandPosted k L 0x01 args s).queues ∧ (testStarted k L args s).leaves = s.leaves
      ∧ (testStarted k L args s).log = s.log := by
  refine ⟨?_, ?_, ?_⟩
  · rw [testStarted, setProt, wr_queues, wr_queues]
  · rw [testStarted, setProt, wr_leaves, wr_leaves, commandPosted_leaves]
  · rw [testStarted, setProt, wr_log, wr_log, commandPosted_log]

section

variable {k L : Nat} {s : State} (hL : L < 16384)
include hL

/-- SC_CLEAR and RELEASE_BYPASS: an opcode whose rule is to post its command. -/
theorem postCommand_completes {c : Instr} {op : Byte} (h : MayWrite k (Obj.PROT_COMMAND L) [op] s)
    (hexec : exec c s = .next (namedRequest k 0x11 (only (L < 16384) (Obj.PROT_COMMAND L)) [op] s))
    (hop : [1, 2, 3, 4, 0x80, 0x81].contains op.toNat = true) (hrole : (if op.toNat = 2 then 1 else 2) ≤ sessRole s k)
    (hroom : Room (L * 16 + 1) 4 s)
    (hrule : ∀ u, postService L op.toNat [] (booked k s) = some u → protRule op.toNat L [] (booked k s) = (u, 0)) :
    Completes c s fun t =>
      Done k poolKeys { s with queues := t.queues } s t ∧ Posted (L * 16 + 1) (serviceMsg L op.toNat [] s) s t := by
  have hwork : FoldWork poolKeys (booked k s) (commandPosted k L op.toNat [] s) := (FoldWork.refl _).queues commandPosted_work
  refine protCommand_completes hL h hexec hop hrole (.inr rfl) (hrule _ (postService_booked h.1 hroom rfl)) hwork
    (fun _ => apart_of_mem_poolKeys) ?_
  rintro t ⟨hdone, -, -⟩
  exact done_of_posted rfl (commandPosted_leaves ..) (commandPosted_log ..) hdone

theorem scClearCommand_completes (h : MayWrite k (Obj.PROT_COMMAND L) [(2 : Byte)] s) (hrole : 1 ≤ sessRole s k)
    (htrip : bit (rd s (Obj.PROT_FLAGS L)) 0 = true) (hroom : Room (L * 16 + 1) 4 s) :
    Completes (.scClearCommand k L) s fun t =>
      Done k poolKeys { s with queues := t.queues } s t ∧ Posted (L * 16 + 1) (serviceMsg L 0x02 [] s) s t := by
  refine postCommand_completes hL h rfl (by decide) hrole hroom fun u hpost => ?_
  have hopen := class1Open_of_room (room_booked h.1 hroom)
  have htrip' : bit (rd (booked k s) (Obj.PROT_FLAGS L)) 0 = true := by
    rw [rd_booked_apart h.1 (apart_leafKey (by decide))]
    exact htrip
  show protScClear L (booked k s) = _
  unfold protScClear
  rw [if_neg (by simp [hopen, htrip']), show postService L 0x02 [] (booked k s) = some u from hpost]
  rfl

theorem releaseBypassCommand_completes (h : MayWrite k (Obj.PROT_COMMAND L) [(4 : Byte)] s) (hrole : 2 ≤ sessRole s k)
    (hpenned : penned s L = true) (hroom : Room (L * 16 + 1) 4 s) :
    Completes (.releaseBypassCommand k L) s fun t =>
      Done k poolKeys { s with queues := t.queues } s t ∧ Posted (L * 16 + 1) (serviceMsg L 0x04 [] s) s t := by
  refine postCommand_completes hL h rfl (by decide) hrole hroom fun u hpost => ?_
  have hopen := class1Open_of_room (room_booked h.1 hroom)
  have hpenned' : penned (booked k s) L = true := by
    rw [penned, rd_booked_apart h.1 (apart_leafKey (by decide))]
    exact hpenned
  show protRelease L (booked k s) = _
  unfold protRelease
  rw [if_neg (by simp [hopen, hpenned']), show postService L 0x04 [] (booked k s) = some u from hpost]
  rfl

theorem selfTestCommand_completes {args : List Byte} (h : MayWrite k (Obj.PROT_COMMAND L) ((1 : Byte) :: args) s)
    (hrole : 2 ≤ sessRole s k) (hargs : args.length = 2) (hcheck : testCheck (booked k s) L = 0) (hroom : Room (L * 16 + 1) 6 s) :
    Completes (.selfTestCommand k L args) s fun t =>
      Done k (Obj.TEST_STATUS L :: Obj.PROT_FLAGS L :: poolKeys) { s with queues := t.queues } s t
        ∧ Posted (L * 16 + 1) (serviceMsg L 0x01 args s) s t
         ∧ rd t (Obj.TEST_STATUS L) = 0xFF ∧ bit (rd t (Obj.PROT_FLAGS L)) 5 = true := by
  have hopen := class1Open_of_room (room_booked h.1 hroom)
  have hrule : protSelfTest L args (booked k s) = (testStarted k L args s, 0) := by
    unfold protSelfTest
    dsimp only
    rw [if_neg (by simp [hargs]), if_neg (by simp [hopen]), if_neg (by simp [hcheck]),
      postService_booked h.1 hroom (by rw [hargs])]
    rfl
  have hwork : FoldWork (Obj.TEST_STATUS L :: Obj.PROT_FLAGS L :: poolKeys) (booked k s) (testStarted k L args s) := by
    refine (((FoldWork.refl _).queues (commandPosted_work.mono ?_)).wr (by simp) _).wr (by simp) _
    exact List.Subset.trans (List.subset_cons_self _ _) (List.subset_cons_self _ _)
  refine protCommand_completes hL h rfl (by decide) hrole (.inl rfl) hrule hwork ?_ ?_
  · exact List.forall_mem_cons.mpr ⟨apart_leafKey (by decide),
      List.forall_mem_cons.mpr ⟨apart_leafKey (by decide), fun _ => apart_of_mem_poolKeys⟩⟩
  · rintro t ⟨hdone, -, hobjects⟩
    obtain ⟨hqueues, hleaves, hlog⟩ := testStarted_frame k L args s
    obtain ⟨hdone, hposted⟩ := done_of_posted hqueues hleaves hlog hdone
    refine ⟨hdone, hposted, ?_, ?_⟩
    · rw [hobjects _ (apart_leafKey (by decide)), testStarted, setProt, rd_wr_other _ _ (leafKey_ne (by decide)), rd_wr_same]
    · rw [hobjects _ (apart_leafKey (by decide)), testStarted, bit_setProt, if_pos rfl]

end

/-! ### CLEAR_RETIREMENT (R239) -/

/-- A leaf that is not retired and has no pennings counted. -/
def unretired (L : Nat) (s : State) : State := wr (setProt L 7 false s) (Obj.PENNINGS L) 0

/-- What CLEAR_RETIREMENT leaves: a leaf that was retired has its event. -/
def retirementCleared (L : Nat) (s : State) : State :=
  showLink L (if retired s L then emit .leafRetirementCleared L (leBytes 2 L) (unretired L s) else unretired L s)

theorem protClearRetired_held {L : Nat} {s : State} (hopen : class1Open s L = true) (hheld : station s = stHeld) :
    protClearRetired L s = (retirementCleared L s, 0) := if_neg (by simp [hopen, hheld])

/-- The objects that CLEAR_RETIREMENT changes. -/
abbrev clearKeys (L : Nat) : List Nat := [Obj.PROT_FLAGS L, Obj.PENNINGS L, Obj.LINK_STATE L, Obj.LOG_DROPPED]

theorem retirementCleared_work (L : Nat) (s : State) : FoldWork (clearKeys L) s (retirementCleared L s) := by
  have hunretired : FoldWork (clearKeys L) s (unretired L s) := ((FoldWork.refl s).wr (by simp) _).wr (by simp) _
  unfold retirementCleared
  split
  · exact (hunretired.emit (by simp) _ _ _).wr (by simp) _
  · exact hunretired.wr (by simp) _

/-- Only objects and the log take part. -/
theorem retirementCleared_frame (L : Nat) (s : State) :
    (retirementCleared L s).leaves = s.leaves ∧ (retirementCleared L s).queues = s.queues := by
  unfold retirementCleared
  split
  · rw [emit_frame]
    exact ⟨rfl, rfl⟩
  · exact ⟨rfl, rfl⟩

theorem rd_retirementCleared {a L : Nat} {s : State} (ha : 0x400000 ≤ a) (hlink : a ≠ 0x400061) :
    rd (retirementCleared L s) (a + L * 0x100) = rd (unretired L s) (a + L * 0x100) := by
  unfold retirementCleared
  rw [rd_showLink_other _ (leafKey_ne hlink)]
  split
  · exact rd_emit_other _ _ _ _ (leafKey_ne_station (by simp only [Obj.LOG_DROPPED]; omega))
  · rfl

theorem raised_retirementCleared {L : Nat} {s : State} (h : retired s L = true) :
    Raised .leafRetirementCleared L s (retirementCleared L s) := by
  refine raised_congr (raised_emit .leafRetirementCleared L (leBytes 2 L) (unretired L s)) rfl ?_
  unfold retirementCleared
  rw [if_pos h]
  rfl

theorem log_retirementCleared {L : Nat} {s : State} (h : retired s L = false) : (retirementCleared L s).log = s.log := by
  unfold retirementCleared
  rw [if_neg (by simp [h])]
  rfl

section

variable {k L : Nat} {s : State} (hL : L < 16384)
include hL

theorem clearRetirementCommand_completes (h : MayWrite k (Obj.PROT_COMMAND L) [(0x81 : Byte)] s) (hrole : 2 ≤ sessRole s k)
    (hopen : class1Open s L = true) (hheld : station s = stHeld) :
    Completes (.clearRetirementCommand k L) s fun t =>
      Done k [Obj.PROT_FLAGS L, Obj.PENNINGS L, Obj.LINK_STATE L, Obj.LOG_DROPPED] { s with log := t.log } s t
        ∧ retired t L = false ∧ rd t (Obj.PENNINGS L) = 0 ∧ (retired s L = true → Raised .leafRetirementCleared L s t)
        ∧ (retired s L = false → t.log = s.log) := by
  have hstation : station (booked k s) = stHeld :=
    (rd_booked s k (not_mem_pmcKeys (.inl (by decide))) (by simp only [Obj.STATION_STATE, Obj.SESSION_REQUESTS]; omega)
      (by simp only [Obj.STATION_STATE, Obj.FRAMES_IN]; omega)).trans hheld
  have hretired : retired (booked k s) L = retired s L := by rw [retired, rd_booked_apart h.1 (apart_leafKey (by decide))]; rfl
  have hlog : (booked k s).log = s.log := by rw [booked_frame]
  refine protCommand_completes hL h rfl (by decide) hrole (.inr rfl)
    (protClearRetired_held ((class1Open_booked k L s).trans hopen) hstation) (retirementCleared_work L _) ?_ ?_
  · exact List.forall_mem_cons.mpr ⟨apart_leafKey (by decide), List.forall_mem_cons.mpr ⟨apart_leafKey (by decide),
      List.forall_mem_cons.mpr ⟨apart_leafKey (by decide), by decide⟩⟩⟩
  · rintro t ⟨hdone, -, hobjects⟩
    have htlog : t.log = (retirementCleared L (booked k s)).log := by rw [frame_of_done hdone]
    obtain ⟨hleaves, hqueues⟩ := retirementCleared_frame L (booked k s)
    rw [hleaves, hqueues, ← htlog, booked_frame] at hdone
    refine ⟨hdone, ?_, ?_, fun hwas => ?_, fun hwas => ?_⟩
    · rw [retired, hobjects _ (apart_leafKey (by decide)), rd_retirementCleared (by decide) (by decide), unretired,
        rd_wr_other _ _ (leafKey_ne (by decide)), bit_setProt, if_pos rfl]
    · rw [hobjects _ (apart_leafKey (by decide)), rd_retirementCleared (by decide) (by decide), unretired, rd_wr_same]
    · exact raised_congr (raised_retirementCleared (hretired.trans hwas)) hlog.symm htlog
    · rw [htlog, log_retirementCleared (hretired.trans hwas), hlog]

end

/-! ### LEAF_READMIT (R272, R274) -/

/-- A leaf whose readmission has begun with the READMIT numbered `seq`. -/
def beginReadmit (seq : Nat) (x : Leaf) : Leaf := { x with readmit := 1, readmitSeq := seq, readmitAcked := false }

/-- What LEAF_READMIT leaves: its command posted, and the first step begun. -/
def readmitBegun (k L : Nat) (s : State) : State :=
  showLink L (setLeaf L (beginReadmit (queueOf s (L * 16 + 1)).nextSeq)
    (wr (commandPosted k L 0x05 (leBytes 2 L ++ leBytes 2 0) s) (Obj.READMIT_STATUS L) 0x80))

theorem readmitBegun_work (k L : Nat) (s : State) :
    FoldWork (Obj.READMIT_STATUS L :: Obj.LINK_STATE L :: poolKeys) (booked k s) (readmitBegun k L s) := by
  refine ((((FoldWork.refl _).queues (commandPosted_work.mono ?_)).wr (by simp) _).setLeaf _ _).wr (by simp) _
  exact List.Subset.trans (List.subset_cons_self _ _) (List.subset_cons_self _ _)

theorem readmitBegun_frame (k L : Nat) (s : State) :
    (readmitBegun k L s).queues = (commandPosted k L 0x05 (leBytes 2 L ++ leBytes 2 0) s).queues ∧ (readmitBegun k L s).log = s.log := by
  refine ⟨?_, ?_⟩
  · rw [readmitBegun, showLink, wr_queues, setLeaf_queues, wr_queues]
  · rw [readmitBegun, showLink, wr_log, setLeaf_log, wr_log, commandPosted_log]

theorem leafOf_readmitBegun (k L : Nat) (s : State) :
    leafOf (readmitBegun k L s) L = beginReadmit (queueOf s (L * 16 + 1)).nextSeq (leafOf s L) := by
  rw [readmitBegun, leafOf_showLink, leafOf_setLeaf_same]
  unfold leafOf
  rw [wr_leaves, commandPosted_leaves]

theorem leafReadmit_booked {k L : Nat} {s : State} (h : Ready k s) (hcheck : readmitCheck (booked k s) L = 0)
    (hroom : Room (L * 16 + 1) 8 s) : leafReadmit L (booked k s) = (readmitBegun k L s, 0) := by
  unfold leafReadmit
  dsimp only
  rw [if_neg (by simp [hcheck]), postService_booked h hroom (by simp only [List.length_append, leBytes_length]), queueOf_booked]
  rfl

theorem leafReadmit_completes {k L v : Nat} {s : State} (hL : L < 16384) (h : MayWriteN k (Obj.LEAF_READMIT L) v s)
    (hcheck : readmitCheck (booked k s) L = 0) (hroom : Room (L * 16 + 1) 8 s) :
    Completes (.leafReadmit k L v) s fun t =>
      Done k (Obj.READMIT_STATUS L :: Obj.LINK_STATE L :: poolKeys) { s with queues := t.queues, leaves := t.leaves } s t
        ∧ Posted (L * 16 + 1) (serviceMsg L 0x05 (leBytes 2 L ++ leBytes 2 0) s) s t ∧ rd t (Obj.READMIT_STATUS L) = 0x80
        ∧ (leafOf t L).readmit = 1 ∧ (leafOf t L).readmitSeq = (queueOf s (L * 16 + 1)).nextSeq := by
  have hexec : exec (.leafReadmit k L v) s
      = .next (namedRequest k 0x11 (Obj.LEAF_READMIT L) (namedBytes (Obj.LEAF_READMIT L) v) s) := by
    show execLeafReadmit k L v s = _
    unfold execLeafReadmit
    rw [only_pos hL]
    rfl
  refine completes_write hexec (leafWrite_leaves (a := 0x62) (by decide) h (volatile_leafReadmit hL)
    ((if_neg (by decide)).trans (leafReadmit_booked h.1 hcheck hroom)) (readmitBegun_work k L s) ?_) ?_
  · exact List.forall_mem_cons.mpr ⟨apart_leafKey (by decide),
      List.forall_mem_cons.mpr ⟨apart_leafKey (by decide), fun _ => apart_of_mem_poolKeys⟩⟩
  · rintro t ⟨hdone, -, hobjects⟩
    have htleaves : t.leaves = (readmitBegun k L s).leaves := by rw [frame_of_done hdone]
    have htqueues : t.queues = (readmitBegun k L s).queues := by rw [frame_of_done hdone]
    obtain ⟨hqueues, hlog⟩ := readmitBegun_frame k L s
    have hleaf : leafOf t L = beginReadmit (queueOf s (L * 16 + 1)).nextSeq (leafOf s L) := by
      rw [← leafOf_readmitBegun k L s]
      unfold leafOf
      rw [htleaves]
    rw [← htleaves, ← htqueues, hlog] at hdone
    refine ⟨hdone, posted_of_queues (htqueues.trans (hqueues.trans (commandPosted_queues ..))), ?_,
      by rw [hleaf]; rfl, by rw [hleaf]; rfl⟩
    rw [hobjects _ (apart_leafKey (by decide)), readmitBegun, rd_showLink_other _ (leafKey_ne (by decide)), rd_setLeaf, rd_wr_same]

/-- Settles O54: each opcode of `PROT_COMMAND`, and LEAF_READMIT, by its rule in the state in which the request is booked. -/
theorem leafCommandWrites : Obligations.LeafCommandWrites :=
  ⟨fun _ _ _ _ hL h hrole hargs hcheck hroom => selfTestCommand_completes hL h hrole hargs hcheck hroom,
    fun _ _ _ hL h hrole htrip hroom => scClearCommand_completes hL h hrole htrip hroom,
    fun _ _ _ hL h hrole hopen => permanentBypassCommand_completes hL h hrole hopen,
    fun _ _ _ hL h hrole hpenned hroom => releaseBypassCommand_completes hL h hrole hpenned hroom,
    fun _ _ _ hL h hrole hopen => penWithoutBypassCommand_completes hL h hrole hopen,
    fun _ _ _ hL h hrole hopen hheld => clearRetirementCommand_completes hL h hrole hopen hheld,
    fun _ _ _ _ hL h hcheck hroom => leafReadmit_completes hL h hcheck hroom⟩

end Sys2Proof.Proofs

namespace Sys2Proof.Proofs

open Sys2Proof.Machine Sys2Proof.Claims Sys2Proof.Laws

/-! ### Objects told apart by their sub-index, and those that direct frames (R282, R289) -/

@[simp] theorem keySub_add_mul (a i : Nat) : keySub (a + i * 0x100) = a % 0x100 := by unfold keySub; omega

theorem ne_of_keySub {i j : Nat} (h : keySub j ≠ keySub i) : j ≠ i := fun e => h (congrArg keySub e)

/-- `t` has the objects that direct the frames of `port` as `s` has them. -/
def SamePath (port : Nat) (s t : State) : Prop := ∀ j ∈ pathKeys port, rd t j = rd s j

/-- Counts at a port have a sub-index of their own; beside the ports, only what shows a session's state directs frames. -/
theorem not_mem_pathKeys_of {port j : Nat} (hp : port < 3) (h : (keySub j ≠ 1 ∧ (9 ≤ keySub j ∨ 0x110300 ≤ j)) ∨ 0x112000 ≤ j) :
    j ∉ pathKeys port := by
  unfold keySub at h
  simp only [pathKeys, List.mem_append, List.mem_cons, List.mem_map, List.mem_range, List.not_mem_nil, or_false, not_or, not_exists,
    not_and]
  refine ⟨⟨?_, ?_, ?_, ?_, ?_⟩, fun c hc => ?_⟩ <;>
    simp only [Obj.OBJECT_UDP_PORT, Obj.VLAN_ID, Obj.IP_GATEWAY, Obj.IP_MASK, Obj.IP_ADDRESS, Obj.SESSION_STATE] <;> omega

namespace SamePath

variable {port : Nat} {s t u : State}

theorem refl (s : State) : SamePath port s s := fun _ _ => rfl

theorem trans (h : SamePath port s t) (g : SamePath port t u) : SamePath port s u := fun j hj => (g j hj).trans (h j hj)

theorem of_objects {ks : List Nat} (h : OnlyObjects ks s t) (hks : ∀ j ∈ ks, j ∉ pathKeys port) : SamePath port s t :=
  fun j hj => h j fun hmem => hks j hmem hj

theorem reachable (h : SamePath port s t) (a : Nat) : reachable t port a = reachable s port a := reachable_congr a h

theorem outward {net : NetAddr} (h : SamePath net.port s t) : outward t net = outward s net := outward_congr h

theorem vlanTag (h : SamePath port s t) : vlanTag t port = vlanTag s port := by
  unfold Machine.vlanTag; rw [h (Obj.VLAN_ID port) (by simp [pathKeys])]

theorem addressed {net : NetAddr} (h : SamePath net.port s t) : addressed t net = addressed s net := by
  unfold Machine.addressed vlanFits; rw [h.vlanTag, h Obj.OBJECT_UDP_PORT (by simp [pathKeys])]

theorem state (h : SamePath port s t) {j : Nat} (hj : j < 16) : rd t (Obj.SESSION_STATE j) = rd s (Obj.SESSION_STATE j) :=
  h _ (List.mem_append_right _ (List.mem_map_of_mem (List.mem_range.mpr hj)))

end SamePath

theorem find?_congr_mem {α : Type} {p q : α → Bool} {l : List α} (h : ∀ x ∈ l, p x = q x) : l.find? p = l.find? q := by
  induction l with
  | nil => rfl
  | cons x l ih =>
    rw [List.find?_cons, List.find?_cons, h x List.mem_cons_self, ih fun y hy => h y (List.mem_cons_of_mem _ hy)]

theorem lt_of_mem_allSessions {j : Nat} (h : j ∈ allSessions) : j < 16 := List.mem_range.mp h

theorem sess_congr {s t : State} (h : t.sessions = s.sessions) (j : Nat) : sess t j = sess s j := by unfold sess; rw [h]

theorem findSession_congr {port : Nat} {s t : State} (h : SamePath port s t) (hs : t.sessions = s.sessions) (ident : Nat)
    (states : List Nat) : findSession t ident states = findSession s ident states := by
  refine find?_congr_mem fun j hj => ?_
  rw [h.state (lt_of_mem_allSessions hj), sess_congr hs]

theorem freeSlot_congr {port : Nat} {s t : State} (h : SamePath port s t) : freeSlot t = freeSlot s :=
  find?_congr_mem fun j hj => by rw [h.state (lt_of_mem_allSessions hj)]

/-! ### Frames counted in, dropped and answered (R283, R284, R296, R314) -/

theorem onlyRegs_countIn (port : Nat) (s : State) : OnlyRegs [Obj.FRAMES_IN port] s (countIn port s) :=
  ⟨rfl, onlyObjects_wr List.mem_cons_self s _⟩

theorem samePath_countIn {port : Nat} (hp : port < 3) (s : State) : SamePath port s (countIn port s) :=
  .of_objects (onlyRegs_countIn port s).2 (by simpa using not_mem_pathKeys_of hp (by simp))

theorem onlyRegs_countDropped (port : Nat) (s : State) :
    OnlyRegs [Obj.FRAMES_IN port, Obj.FRAMES_DROPPED port] s (countDropped port (countIn port s)) :=
  ⟨rfl, onlyObjects_trans (onlyObjects_wr (by simp) s _) (onlyObjects_wr (by simp) _ _)⟩

theorem counted_dropped (port : Nat) (s : State) :
    Counted 64 (Obj.FRAMES_IN port) s (countDropped port (countIn port s))
      ∧ Counted 32 (Obj.FRAMES_DROPPED port) s (countDropped port (countIn port s)) := by
  constructor
  · exact (rd_count_other _ (ne_of_keySub (by simp))).trans (rd_countBy_same _ _ _ _)
  · refine (rd_count_same _ _).trans ?_
    rw [countIn, rd_countBy_other _ _ _ (ne_of_keySub (by simp))]

/-- The abort that a response carries is counted. -/
def countAbort (status : Nat) (s : State) : State := if status = 0 then s else count s Obj.ABORTS_SENT

theorem onlyRegs_countAbort (status : Nat) (s : State) : OnlyRegs [Obj.ABORTS_SENT] s (countAbort status s) := by
  unfold countAbort
  split
  · exact ⟨rfl, fun _ _ => rfl⟩
  · exact onlyRegs_count _ _

theorem samePath_countAbort {port : Nat} (hp : port < 3) (status : Nat) (s : State) : SamePath port s (countAbort status s) :=
  .of_objects (onlyRegs_countAbort status s).2 (by simpa using not_mem_pathKeys_of hp (by decide))

/-- A response to a host the device reaches is sent, and counted; so is the abort it carries. -/
theorem respond_sent {net : NetAddr} (hp : net.port < 3) (ks : List Byte) (r : ObjFrame) {s : State}
    (hn : reachable s net.port net.addr = true) :
    respond net ks r s = send (.datagram (outward s net) (rd (countAbort r.status s) Obj.PCP_OBJECT) { r with tag := frameTag ks r })
      (countBy 64 (countAbort r.status s) (Obj.FRAMES_OUT net.port) 1) := by
  have hpath := samePath_countAbort hp r.status s
  show sendFrame net _ ks r (countAbort r.status s) = _
  unfold sendFrame
  rw [if_pos ((hpath.reachable _).trans hn), hpath.outward]
  rfl

/-- What a response sent leaves: the response itself, the counts of frames and aborts, and nothing else. -/
structure Sent (net : NetAddr) (ks : List Byte) (r : ObjFrame) (s t : State) : Prop where
  /-- the frame -/
  frame : ∃ pcp, t.outbox = .datagram (outward s net) pcp { r with tag := frameTag ks r } :: s.outbox
  /-- what else changes -/
  changes : t = { s with regs := t.regs, outbox := t.outbox }
  /-- the objects -/
  objects : OnlyObjects [Obj.FRAMES_OUT net.port, Obj.ABORTS_SENT] s t
  /-- a response of status 0 counts as a frame only -/
  accepted : r.status = 0 → OnlyObjects [Obj.FRAMES_OUT net.port] s t
  /-- an abort is counted -/
  aborted : r.status ≠ 0 → Counted 32 Obj.ABORTS_SENT s t

theorem respond_sends {net : NetAddr} (hp : net.port < 3) (ks : List Byte) (r : ObjFrame) {s : State}
    (hn : reachable s net.port net.addr = true) : Sent net ks r s (respond net ks r s) := by
  have hne : Obj.ABORTS_SENT ≠ Obj.FRAMES_OUT net.port := ne_of_keySub (by rw [keySub_add_mul]; decide)
  rw [respond_sent hp ks r hn]
  obtain ⟨hframe, hobj⟩ := onlyRegs_countAbort r.status s
  refine ⟨⟨rd (countAbort r.status s) Obj.PCP_OBJECT, ?_⟩, ?_, fun j hj => ?_, fun h0 j hj => ?_, fun h0 => ?_⟩
  · have hout : (countAbort r.status s).outbox = s.outbox := by rw [hframe]
    exact congrArg (_ :: ·) hout
  · rw [hframe]; rfl
  · rw [rd_send, rd_countBy_other _ _ _ (List.ne_of_not_mem_cons hj), hobj j (List.not_mem_of_not_mem_cons hj)]
  · rw [rd_send, rd_countBy_other _ _ _ (List.ne_of_not_mem_cons hj), countAbort, if_pos h0]
  · unfold Counted; rw [rd_send, rd_countBy_other _ _ _ hne, countAbort, if_neg h0, rd_count_same]

namespace Sent

variable {net : NetAddr} {ks : List Byte} {r : ObjFrame} {s t : State}

theorem samePath (hp : net.port < 3) (h : Sent net ks r s t) : SamePath net.port s t :=
  .of_objects h.objects (by
    simp only [List.mem_cons, List.not_mem_nil, or_false]
    rintro j (rfl | rfl)
    · exact not_mem_pathKeys_of hp (by simp)
    · exact not_mem_pathKeys_of hp (by decide))

/-- It is the last thing sent. -/
theorem replied (hp : net.port < 3) {f : ObjFrame} {ident arg code : Nat} {last : Bool} {payload : List Byte}
    (h : Sent net ks (responseFrame f ident arg code last payload) s t) : Replied ks net f arg code payload t := by
  obtain ⟨pcp, hout⟩ := h.frame
  rw [← (h.samePath hp).outward] at hout
  exact ⟨pcp, _, _, hout, rfl, rfl, rfl, rfl, rfl, rfl⟩

end Sent

/-! ### The commands that carry a request frame (R285) -/

theorem exec_request {net : NetAddr} {f : ObjFrame} {c : Instr} {code : Nat} (h : (c, code) ∈ requestRows net f) (s : State) :
    exec c s = .next (takeFrame net (asService code f) s) := by
  simp only [requestRows, List.mem_cons, Prod.mk.injEq, List.not_mem_nil, or_false] at h
  rcases h with ⟨rfl, rfl⟩ | ⟨rfl, rfl⟩ | ⟨rfl, rfl⟩ | ⟨rfl, rfl⟩ | ⟨rfl, rfl⟩ | ⟨rfl, rfl⟩ | ⟨rfl, rfl⟩ | ⟨rfl, rfl⟩ | ⟨rfl, rfl⟩
    | ⟨rfl, rfl⟩ | ⟨rfl, rfl⟩ <;> rfl

theorem asService_self (f : ObjFrame) : asService f.service f = f := by unfold asService; exact ite_self _

theorem exec_request_of_service {net : NetAddr} {f : ObjFrame} {c : Instr} {code : Nat} (h : (c, code) ∈ requestRows net f)
    (hf : f.service = code) (s : State) : exec c s = .next (takeFrame net f s) := by
  subst hf; rw [exec_request h, asService_self]

/-! ### Admission of a frame (R284, R297) -/

section

variable {net : NetAddr} {f : ObjFrame} {s : State}

theorem takeFrame_unaddressed (hup : hostUp s net.port = true) (ha : addressed s net = false) :
    takeFrame net f s = countDropped net.port (countIn net.port s) := by
  unfold takeFrame
  dsimp only
  rw [if_neg (by simp [hup]), if_pos ((samePath_countIn (port_lt_of_hostUp hup) s).addressed.trans ha)]

/-- A well-formed frame that names no open session, with the right tag under the key of the session that has just ended. -/
theorem takeFrame_ended {ks : List Byte} (hup : hostUp s net.port = true) (ha : addressed s net = true)
    (hnone : findSession s f.session [2, 3] = none) (hform : frameForm f 0 = true ∨ frameForm f 32 = true)
    (hkey : endedKey s f.session = some ks) (htag : f.tag = frameTag ks f) :
    takeFrame net f s = respond net [] (responseFrame f f.session 0 abSession false []) (countIn net.port s) := by
  have hpath := samePath_countIn (port_lt_of_hostUp hup) s
  unfold takeFrame
  dsimp only
  rw [if_neg (by simp [hup]), if_neg (by simp [hpath.addressed, ha]), findSession_congr hpath rfl, hnone]
  dsimp only
  rw [if_neg (by rcases hform with h | h <;> simp [h]), show endedKey (countIn net.port s) f.session = some ks from hkey]
  exact if_pos htag

/-- A well-formed frame that names no open session, without such a tag. -/
theorem takeFrame_unknown (hup : hostUp s net.port = true) (ha : addressed s net = true)
    (hnone : findSession s f.session [2, 3] = none) (hform : frameForm f 0 = true ∨ frameForm f 32 = true)
    (htag : ∀ ks, endedKey s f.session = some ks → f.tag ≠ frameTag ks f) : takeFrame net f s = countIn net.port s := by
  have hpath := samePath_countIn (port_lt_of_hostUp hup) s
  unfold takeFrame
  dsimp only
  rw [if_neg (by simp [hup]), if_neg (by simp [hpath.addressed, ha]), findSession_congr hpath rfl, hnone]
  dsimp only
  rw [if_neg (by rcases hform with h | h <;> simp [h])]
  split
  · next ks hkey => exact if_neg (htag ks hkey)
  · rfl

/-- A request of a session that has just ended is answered without a tag (R297). -/
theorem request_ended {c : Instr} {code : Nat} {ks : List Byte} (hrow : (c, code) ∈ requestRows net f) (hf : f.service = code)
    (hup : hostUp s net.port = true) (ha : addressed s net = true) (hnone : findSession s f.session [2, 3] = none)
    (hform : frameForm f 0 = true ∨ frameForm f 32 = true) (hkey : endedKey s f.session = some ks) (htag : f.tag = frameTag ks f)
    (hn : reachable s net.port net.addr = true) :
    Completes c s fun t =>
      (∃ pcp g, t.outbox = .datagram (outward s net) pcp g :: s.outbox ∧ g.service = code ∧ g.seq = f.seq ∧ g.status = 0x06000002 ∧ g.tag = [])
        ∧ OnlyObjects [Obj.FRAMES_IN net.port, Obj.FRAMES_OUT net.port, Obj.ABORTS_SENT] s t
        ∧ t = { s with regs := t.regs, outbox := t.outbox } := by
  have hp := port_lt_of_hostUp hup
  have hpath := samePath_countIn hp s
  have hsent := respond_sends hp [] (responseFrame f f.session 0 abSession false []) ((hpath.reachable net.addr).trans hn)
  refine ⟨_, exec_request_of_service hrow hf s, ?_⟩
  rw [takeFrame_ended hup ha hnone hform hkey htag]
  obtain ⟨⟨pcp, hout⟩, hchanges, hobj, -, -⟩ := hsent
  rw [hpath.outward] at hout
  exact ⟨⟨pcp, _, hout, hf, rfl, rfl, rfl⟩,
    onlyObjects_trans (onlyObjects_mono (onlyRegs_countIn _ s).2 (by simp)) (onlyObjects_mono hobj (by simp)), hchanges⟩

/-- Any other request of an unknown session is dropped (R297). -/
theorem request_dropped {c : Instr} {code : Nat} (hrow : (c, code) ∈ requestRows net f) (hf : f.service = code)
    (hup : hostUp s net.port = true) (ha : addressed s net = true) (hnone : findSession s f.session [2, 3] = none)
    (hform : frameForm f 0 = true ∨ frameForm f 32 = true) (htag : ∀ ks, endedKey s f.session = some ks → f.tag ≠ frameTag ks f) :
    Completes c s fun t => OnlyRegs [Obj.FRAMES_IN net.port] s t := by
  refine ⟨_, exec_request_of_service hrow hf s, ?_⟩
  rw [takeFrame_unknown hup ha hnone hform htag]
  exact onlyRegs_countIn _ s

/-- A SESSION_AUTH that names no half-open session is dropped (R290). -/
theorem sessionAuth_dropped (hup : hostUp s net.port = true) (ha : addressed s net = true) (hlen : f.payload.length = 32)
    (hform : frameForm f 0 = true) (hnone : findSession s f.session [1] = none) :
    Completes (.sessionAuth net f) s fun t => OnlyRegs [Obj.FRAMES_IN net.port] s t := by
  have hpath := samePath_countIn (port_lt_of_hostUp hup) s
  refine ⟨countIn net.port s, ?_, onlyRegs_countIn _ s⟩
  show execSessionAuth net f s = _
  unfold execSessionAuth
  dsimp only
  rw [if_neg (by simp [hup]), if_neg (by simp [hpath.addressed, ha, hform, hlen]), findSession_congr hpath rfl, hnone]

end

/-- Settles O48: the frame is counted in; what else happens is decided by the key of the session that has just ended. -/
theorem requestsForUnknownSessions : Obligations.RequestsForUnknownSessions :=
  fun _ _ _ _ _ hrow hf hup ha hnone hform =>
    ⟨fun _ hkey htag hn => request_ended hrow hf hup ha hnone hform hkey htag hn,
      fun htag => request_dropped hrow hf hup ha hnone hform htag,
      fun hlen hform0 hnone1 => sessionAuth_dropped hup ha hlen hform0 hnone1⟩

end Sys2Proof.Proofs

namespace Sys2Proof.Proofs

open Sys2Proof.Machine Sys2Proof.Claims Sys2Proof.Laws

/-! ### A request frame of a session, taken in its turn (R284, R286, R289) -/

/-- An object that a request frame of a session does not touch on its way. -/
theorem not_mem_frameKeys {k j : Nat} {net : NetAddr} (hk : k < 16) (hp : net.port < 3)
    (h : (keySub j ≤ 8 ∧ j < 0x110300) ∨ ((keySub j ≤ 3 ∨ keySub j = 7) ∧ j < 0x225000) ∨ Apart j) : j ∉ frameKeys k net := by
  unfold keySub at h
  simp only [Apart, Obj.KEYS_SET] at h
  simp only [frameKeys, List.mem_cons, List.mem_map, List.mem_range, not_or, not_exists, not_and]
  refine ⟨?_, ?_, ?_, ?_, ?_, ?_, ?_, ?_, ?_, fun c hc => ?_⟩ <;>
    simp only [Obj.FRAMES_IN, Obj.FRAMES_OUT, Obj.SESSION_PORT, Obj.SESSION_ADDRESS, Obj.SESSION_UDP, Obj.SESSION_REQUESTS,
      Obj.ABORTS_SENT, Obj.PMC_STATUS, Obj.PMC_SAMPLES_LOST, Obj.PMC_VALUE] <;> omega

theorem not_mem_frameKeys_of_path {k j : Nat} {net : NetAddr} (hk : k < 16) (hp : net.port < 3) (h : j ∈ pathKeys net.port) :
    j ∉ frameKeys k net := by
  refine not_mem_frameKeys hk hp ?_
  simp only [pathKeys, List.mem_append, List.mem_cons, List.mem_map, List.mem_range, List.not_mem_nil, or_false] at h
  unfold keySub
  rcases h with (rfl | rfl | rfl | rfl | rfl) | ⟨c, hc, rfl⟩ <;>
    simp only [Obj.OBJECT_UDP_PORT, Obj.VLAN_ID, Obj.IP_GATEWAY, Obj.IP_MASK, Obj.IP_ADDRESS, Obj.SESSION_STATE] <;> omega

/-- The objects that a request frame changes before its service runs. -/
def arrivalKeys (k : Nat) (net : NetAddr) : List Nat :=
  [Obj.FRAMES_IN net.port, Obj.SESSION_PORT k, Obj.SESSION_ADDRESS k, Obj.SESSION_UDP k, Obj.SESSION_REQUESTS k] ++ pmcKeys

theorem arrivalKeys_subset (k : Nat) (net : NetAddr) : arrivalKeys k net ⊆ frameKeys k net := by
  intro j hj
  simp only [arrivalKeys, pmcKeys, frameKeys, List.cons_append, List.nil_append, List.mem_cons] at hj ⊢
  tauto

theorem reached_frame (k : Nat) (net : NetAddr) (s : State) : reached k net s = { s with regs := (reached k net s).regs } :=
  wrs_regs _ _

theorem rd_reached (k : Nat) (net : NetAddr) (s : State) {j : Nat} (h : j ∉ arrivalKeys k net) : rd (reached k net s) j = rd s j := by
  simp only [arrivalKeys, List.cons_append, List.nil_append, List.mem_cons, not_or] at h
  obtain ⟨hin, hport, haddr, hudp, -, -⟩ := h
  refine (rd_wrs_other _ _ ?_).trans ((onlyRegs_countIn _ s).2 j (by simpa using hin))
  simp only [List.mem_cons, List.not_mem_nil, or_false]
  rintro p (rfl | rfl | rfl)
  · exact Ne.symm hport
  · exact Ne.symm haddr
  · exact Ne.symm hudp

theorem sess_reached (k : Nat) (net : NetAddr) (s : State) (j : Nat) : sess (reached k net s) j = sess s j :=
  sess_congr (by rw [reached_frame]) j

/-- The number of the request executed is noted in its session's record. -/
def setExecd (q : Nat) (x : Session) : Session := { x with execd := q }

/-- The state in which the service of request `f` of session `k` runs (R286). -/
abbrev begun (k : Nat) (f : ObjFrame) (s : State) : State :=
  pmcEvent 0x13 0xFFFF 1 (countBy 64 (setSess s k (setExecd f.seq)) (Obj.SESSION_REQUESTS k) 1)

theorem taken_eq_begun (k : Nat) (net : NetAddr) (f : ObjFrame) (s : State) : taken k net f s = begun k f (reached k net s) := rfl

theorem begun_frame (k : Nat) (f : ObjFrame) (s : State) :
    begun k f s = { setSess s k (setExecd f.seq) with regs := (begun k f s).regs, pmc := (begun k f s).pmc } := by
  exact pmcEvent_frame _ _ _ _

theorem rd_begun (k : Nat) (f : ObjFrame) (s : State) {j : Nat} (h : j ≠ Obj.SESSION_REQUESTS k) (hpmc : j ∉ pmcKeys) :
    rd (begun k f s) j = rd s j := by
  unfold begun; rw [rd_pmcEvent _ _ _ _ hpmc, rd_countBy_other _ _ _ h, rd_setSess]

theorem taken_frame (k : Nat) (net : NetAddr) (f : ObjFrame) (s : State) :
    taken k net f s = { setSess s k (setExecd f.seq) with regs := (taken k net f s).regs, pmc := (taken k net f s).pmc } := by
  refine (begun_frame k f (reached k net s)).trans ?_
  rw [← taken_eq_begun]
  generalize (taken k net f s).regs = a, (taken k net f s).pmc = b
  rw [reached_frame]; rfl

theorem rd_taken (k : Nat) (net : NetAddr) (f : ObjFrame) (s : State) {j : Nat} (h : j ∉ arrivalKeys k net) :
    rd (taken k net f s) j = rd s j := by
  have h' := h
  simp only [arrivalKeys, List.cons_append, List.nil_append, List.mem_cons, not_or] at h'
  obtain ⟨-, -, -, -, hreq, hpmc⟩ := h'
  rw [taken_eq_begun, rd_begun _ _ _ hreq hpmc, rd_reached _ _ _ h]

theorem rd_taken_of_frameKeys {k : Nat} {net : NetAddr} (f : ObjFrame) (s : State) {j : Nat} (h : j ∉ frameKeys k net) :
    rd (taken k net f s) j = rd s j := rd_taken k net f s fun hj => h (arrivalKeys_subset k net hj)

theorem sess_taken (k : Nat) (net : NetAddr) (f : ObjFrame) (s : State) (j : Nat) :
    sess (taken k net f s) j = sess (setSess s k (setExecd f.seq)) j := sess_congr (by rw [taken_frame]) j

/-- A field of the session's record other than the number executed. -/
theorem sess_taken_field {α : Type} (k : Nat) (net : NetAddr) (f : ObjFrame) (s : State) (g : Session → α)
    (h : ∀ x q, g (setExecd q x) = g x) (j : Nat) : g (sess (taken k net f s) j) = g (sess s j) := by
  rw [sess_taken, sess_setSess]
  split
  · next hj => rw [h, hj.1]
  · rfl

/-! ### What follows an answer (R286, R294, R460) -/

/-- Once the answer is given nothing more is due: no reset, no installation session to close, no request of session `k` that waits. -/
structure Calm (k : Nat) (w : State) : Prop where
  /-- resets -/
  reset : w.rp.resetDue = 0
  /-- installation sessions -/
  closed : ∀ j, j < 16 → rd w (Obj.SESSION_STATE j) ≠ 3
  /-- requests held -/
  held : (sess w k).held = []

/-- A session's record, but for the responses it keeps. -/
def apartReplies (x : Session) : Session := { x with replies := [] }

/-- The response is kept for a repeat, when the session is still the one that asked (R286). -/
def keepReply (k ident : Nat) (r : SentResponse) (w : State) : State :=
  if (sess w k).ident = ident then setSess w k (fun y => { y with replies := (r :: y.replies).take repliesMax }) else w

theorem keepReply_frame (k ident : Nat) (r : SentResponse) (w : State) :
    keepReply k ident r w = { w with sessions := (keepReply k ident r w).sessions } := by
  unfold keepReply; split <;> rfl

theorem sess_keepReply_other (k ident : Nat) (r : SentResponse) (w : State) {j : Nat} (h : j ≠ k) :
    sess (keepReply k ident r w) j = sess w j := by
  unfold keepReply; split
  · exact sess_setSess_other w _ h
  · rfl

theorem sess_keepReply (k ident : Nat) (r : SentResponse) (w : State) :
    apartReplies (sess (keepReply k ident r w) k) = apartReplies (sess w k) := by
  unfold keepReply; split
  · exact sess_setSess_field w k _ apartReplies fun _ => rfl
  · rfl

theorem rd_keepReply (k ident : Nat) (r : SentResponse) (w : State) (j : Nat) : rd (keepReply k ident r w) j = rd w j := by
  rw [keepReply_frame]; rfl

/-- The response frame to request `f` of a session, bearing the service's answer. -/
abbrev replyFrame (f : ObjFrame) (x : Session) (a : Answer) : ObjFrame := responseFrame f x.ident a.arg a.status a.last a.payload

/-- The state in which the response leaves: what the service left, with the response kept. -/
abbrev replying (k : Nat) (f : ObjFrame) (x : Session) (a : Answer) (w : State) : State :=
  keepReply k x.ident { seq := f.seq, frame := replyFrame f x a } w

/-- What an answered request of the session with record `x` leaves, where its service left `w`: the response, and beside it only what is
kept of it and the counts of frames and aborts. -/
structure Served (k : Nat) (net : NetAddr) (f : ObjFrame) (x : Session) (a : Answer) (w t : State) : Prop where
  /-- the response -/
  replied : Replied x.ks net f a.arg a.status a.payload t
  /-- the ports and sessions -/
  path : SamePath net.port w t
  /-- what may change -/
  changes : t = { w with regs := t.regs, sessions := t.sessions, outbox := t.outbox }
  /-- the objects -/
  objects : OnlyObjects [Obj.FRAMES_OUT net.port, Obj.ABORTS_SENT] w t
  /-- a status of 0 counts as a frame only -/
  accepted : a.status = 0 → OnlyObjects [Obj.FRAMES_OUT net.port] w t
  /-- an abort is counted -/
  aborted : a.status ≠ 0 → Counted 32 Obj.ABORTS_SENT w t
  /-- the other sessions' records -/
  others : ∀ j, j ≠ k → sess t j = sess w j
  /-- the session's record -/
  record : apartReplies (sess t k) = apartReplies (sess w k)

/-- A field of the session's record that its responses have no part in. -/
theorem Served.field {k : Nat} {net : NetAddr} {f : ObjFrame} {x : Session} {a : Answer} {w t : State} (h : Served k net f x a w t)
    {α : Type} (g : Session → α) (hg : ∀ y, g (apartReplies y) = g y) : g (sess t k) = g (sess w k) := by
  rw [← hg, h.record, hg]

theorem served_of_sent {k : Nat} {net : NetAddr} {f : ObjFrame} {x : Session} {a : Answer} {w t : State} (hp : net.port < 3)
    (h : Sent net x.ks (replyFrame f x a) (replying k f x a w) t) : Served k net f x a w t := by
  have hsess : ∀ j, sess t j = sess (replying k f x a w) j := sess_congr (by rw [h.changes])
  have hrd : ∀ j, rd (replying k f x a w) j = rd w j := rd_keepReply _ _ _ _
  refine ⟨h.replied hp, fun j hj => (h.samePath hp j hj).trans (hrd j), ?_, fun j hj => (h.objects j hj).trans (hrd j),
    fun h0 j hj => (h.accepted h0 j hj).trans (hrd j), fun h0 => ?_, fun j hj => ?_, ?_⟩
  · refine h.changes.trans ?_
    have hs : t.sessions = (replying k f x a w).sessions := by rw [h.changes]
    rw [hs]
    generalize t.regs = b, t.outbox = c
    unfold replying
    rw [keepReply_frame]
  · unfold Counted; rw [← hrd]; exact h.aborted h0
  · rw [hsess, sess_keepReply_other _ _ _ _ hj]
  · rw [hsess, sess_keepReply]

theorem respond_served {k : Nat} {net : NetAddr} {f : ObjFrame} {a : Answer} {w : State} (x : Session) (hp : net.port < 3)
    (hn : reachable w net.port net.addr = true) :
    Served k net f x a w (respond net x.ks (replyFrame f x a) (replying k f x a w)) := by
  have hn' : reachable (replying k f x a w) net.port net.addr = true := by
    unfold reachable at hn ⊢; simp only [rd_keepReply]; exact hn
  exact served_of_sent hp (respond_sends hp x.ks (replyFrame f x a) hn')

/-- A request but a SESSION_CLOSE, whose service left a calm state, is answered, and nothing more follows. -/
theorem executeRequest_served {k : Nat} {net : NetAddr} {f : ObjFrame} {s w : State} {a : Answer} (hp : net.port < 3)
    (hservice : f.service ≠ 0x03) (hserve : serve k f (begun k f s) = (w, a)) (hcalm : Calm k w)
    (hn : reachable w net.port net.addr = true) :
    Served k net f (sess s k) a w (drainHeld k 16 (executeRequest k net f s)) := by
  have hserved := respond_served (k := k) (f := f) (a := a) (sess s k) hp hn
  have hexec : executeRequest k net f s =
      applyReset (closeInstallation (respond net (sess s k).ks (replyFrame f (sess s k) a) (replying k f (sess s k) a w))) := by
    unfold executeRequest
    dsimp only
    rw [show pmcEvent 0x13 0xFFFF 1 (countBy 64 (setSess s k (fun y => { y with execd := f.seq })) (Obj.SESSION_REQUESTS k) 1)
      = begun k f s from rfl, hserve, if_neg (by simp [hservice])]
    rfl
  generalize respond net (sess s k).ks (replyFrame f (sess s k) a) (replying k f (sess s k) a w) = t at hexec hserved
  have hclosed : closeInstallation t = t := closeInstallation_none t fun j hj => by rw [hserved.path.state hj]; exact hcalm.closed j hj
  have hreset : applyReset t = t := applyReset_none t (by rw [hserved.changes]; exact hcalm.reset)
  have hheld : (sess t k).held = [] := (congrArg Session.held hserved.record).trans hcalm.held
  rw [hexec, hclosed, hreset, drainHeld_none _ _ _ hheld]
  exact hserved

/-! ### Request frames heard in their turn -/

section

variable {k : Nat} {net : NetAddr} {f : ObjFrame} {s : State}

theorem bounds_of_heard (h : Heard k net f s) : k < 16 ∧ net.port < 3 ∧ k < s.sessions.length := by
  obtain ⟨hk, hlen, ⟨hup, -, -⟩, -⟩ := h
  exact ⟨hk, port_lt_of_hostUp hup, hlen⟩

theorem samePath_taken (hk : k < 16) (hp : net.port < 3) (f : ObjFrame) (s : State) : SamePath net.port s (taken k net f s) :=
  fun _ hj => rd_taken_of_frameKeys f s (not_mem_frameKeys_of_path hk hp hj)

theorem takeFrame_heard (h : Heard k net f s) : takeFrame net f s = routeFrame k net f (reached k net s) := by
  obtain ⟨-, -, ⟨hup, ha, -⟩, hfind, hform, htag⟩ := h
  have hpath := samePath_countIn (port_lt_of_hostUp hup) s
  have hsess : sess (countIn net.port s) k = sess s k := rfl
  unfold takeFrame
  dsimp only
  rw [if_neg (by simp [hup]), if_neg (by simp [hpath.addressed, ha]), findSession_congr hpath rfl, hfind]
  dsimp only
  rw [hsess, if_neg (by rw [hform]; exact Bool.noConfusion), if_neg (not_not_intro htag)]
  rfl

/-- A next request runs at once. -/
theorem takeFrame_inTurn (h : Heard k net f s) (hturn : InTurn k f s) (hack : f.service ≠ 0x21) (himage : f.service ≠ 0x30) :
    takeFrame net f s = drainHeld k 16 (executeRequest k net f (reached k net s)) := by
  obtain ⟨hseq, -⟩ := hturn
  rw [takeFrame_heard h]
  unfold routeFrame
  dsimp only
  rw [if_neg hack, if_neg himage]
  unfold orderRequest
  dsimp only
  rw [if_pos (by rw [sess_reached]; exact hseq)]

theorem calm_taken (h : Heard k net f s) (hturn : InTurn k f s) : Calm k (taken k net f s) := by
  obtain ⟨hk, hp, -⟩ := bounds_of_heard h
  obtain ⟨-, hheld, hreset, hclosed⟩ := hturn
  refine ⟨?_, fun j hj => ?_, ?_⟩
  · rw [taken_frame]; exact hreset
  · rw [(samePath_taken hk hp f s).state hj]; exact hclosed j hj
  · rw [sess_taken_field k net f s Session.held (fun _ _ => rfl)]; exact hheld

theorem reachable_taken (h : Heard k net f s) : reachable (taken k net f s) net.port net.addr = true := by
  obtain ⟨hk, hp, -⟩ := bounds_of_heard h
  obtain ⟨-, -, ⟨-, -, hn⟩, -⟩ := h
  exact ((samePath_taken hk hp f s).reachable _).trans hn

/-- The main rule of a request frame heard in its turn: it is enough to know what its service answers, and that nothing more is due. -/
theorem request_served {c : Instr} {w : State} {a : Answer} (hrow : (c, f.service) ∈ requestRows net f)
    (hservice : f.service ≠ 0x03 ∧ f.service ≠ 0x21 ∧ f.service ≠ 0x30) (h : Heard k net f s) (hturn : InTurn k f s)
    (hserve : serve k f (taken k net f s) = (w, a)) (hcalm : Calm k w) (hn : reachable w net.port net.addr = true)
    {P : State → Prop} (hP : ∀ t, Served k net f (sess s k) a w t → P t) : Completes c s P := by
  obtain ⟨hclose, hack, himage⟩ := hservice
  obtain ⟨-, hp, -⟩ := bounds_of_heard h
  refine ⟨_, exec_request_of_service hrow rfl s, hP _ ?_⟩
  rw [takeFrame_inTurn h hturn hack himage, ← sess_reached k net s k]
  exact executeRequest_served hp hclose hserve hcalm hn

/-- `w` differs from `u` in records of sessions and the number of the next transfer only, and no request of session `k` is held. -/
structure Inward (k : Nat) (u w : State) : Prop where
  /-- what may change -/
  changes : w = { u with sessions := w.sessions, transfers := w.transfers }
  /-- the requests held -/
  held : (sess w k).held = (sess u k).held

theorem inward_refl (k : Nat) (u : State) : Inward k u u := ⟨rfl, rfl⟩

namespace Inward

variable {u w : State}

theorem rd (h : Inward k u w) (j : Nat) : rd w j = rd u j := by rw [h.changes]; rfl

theorem calm (h : Inward k u w) (hcalm : Calm k u) : Calm k w := by
  refine ⟨?_, fun j hj => ?_, h.held.trans hcalm.held⟩
  · rw [h.changes]; exact hcalm.reset
  · rw [h.rd]; exact hcalm.closed j hj

theorem reachable (h : Inward k u w) (p a : Nat) : reachable w p a = reachable u p a := by
  unfold Machine.reachable; simp only [h.rd]

/-- No object changes but those that every request frame may change. -/
theorem objects (h : Inward k (taken k net f s) w) {x : Session} {a : Answer} {t : State} (hserved : Served k net f x a w t) {j : Nat}
    (hj : j ∉ frameKeys k net) : Machine.rd t j = Machine.rd s j := by
  have hj' : j ∉ [Obj.FRAMES_OUT net.port, Obj.ABORTS_SENT] := fun hmem => hj (by
    simp only [List.mem_cons, List.not_mem_nil, or_false] at hmem
    simp only [frameKeys, List.mem_cons]
    tauto)
  rw [hserved.objects j hj', h.rd, rd_taken_of_frameKeys f s hj]

end Inward

/-- A request whose service changes records only. -/
theorem request_inward {c : Instr} {w : State} {a : Answer} (hrow : (c, f.service) ∈ requestRows net f)
    (hservice : f.service ≠ 0x03 ∧ f.service ≠ 0x21 ∧ f.service ≠ 0x30) (h : Heard k net f s) (hturn : InTurn k f s)
    (hserve : serve k f (taken k net f s) = (w, a)) (hw : Inward k (taken k net f s) w)
    {P : State → Prop} (hP : ∀ t, Served k net f (sess s k) a w t → P t) : Completes c s P :=
  request_served hrow hservice h hturn hserve (hw.calm (calm_taken h hturn)) ((hw.reachable _ _).trans (reachable_taken h)) hP

/-- A service that changes nothing: beside the answer, the counts and the session's record alone change. -/
theorem served_still {x : Session} {a : Answer} {t : State} (h : Served k net f x a (taken k net f s) t) :
    t = { s with regs := t.regs, sessions := t.sessions, pmc := t.pmc, outbox := t.outbox } := by
  have hpmc : t.pmc = (taken k net f s).pmc := by rw [h.changes]
  rw [hpmc]
  refine h.changes.trans ?_
  generalize t.regs = a, t.sessions = b, t.outbox = c
  rw [taken_frame]; rfl

/-- A service that changes nothing and refuses: the abort is counted once. -/
theorem served_refused {x : Session} {a : Answer} {t : State} (h0 : a.status ≠ 0)
    (h : Served k net f x a (taken k net f s) t) :
    Counted 32 Obj.ABORTS_SENT s t ∧ (∀ j, j ∉ frameKeys k net → rd t j = rd s j)
      ∧ t = { s with regs := t.regs, sessions := t.sessions, pmc := t.pmc, outbox := t.outbox } := by
  refine ⟨?_, fun _ hj => (inward_refl k _).objects h hj, served_still h⟩
  have hne : Obj.ABORTS_SENT ∉ arrivalKeys k net := by
    simp only [arrivalKeys, pmcKeys, List.cons_append, List.nil_append, List.mem_cons, List.mem_map, List.mem_range, not_or,
      not_exists, not_and]
    refine ⟨?_, ?_, ?_, ?_, ?_, ?_, ?_, fun c hc => ?_⟩ <;>
      simp only [Obj.FRAMES_IN, Obj.SESSION_PORT, Obj.SESSION_ADDRESS, Obj.SESSION_UDP, Obj.SESSION_REQUESTS,
        Obj.ABORTS_SENT, Obj.PMC_STATUS, Obj.PMC_SAMPLES_LOST, Obj.PMC_VALUE] <;> omega
  unfold Counted; rw [← rd_taken k net f s hne]; exact h.aborted h0

end

end Sys2Proof.Proofs

namespace Sys2Proof.Proofs

open Sys2Proof.Machine Sys2Proof.Claims Sys2Proof.Laws

/-! ### What each service answers (R285, R477) -/

section

variable {k : Nat} {f : ObjFrame} {u : State}

theorem serve_keepalive (hf : f.service = 0x04) : serve k f u = (u, .plain 0) := by
  unfold serve; rw [if_neg (by simp [hf, fallbackMay])]; simp only [hf]

theorem serve_read (hf : f.service = 0x10) : serve k f u = serveRead k f u := by
  unfold serve; rw [if_neg (by simp [hf, fallbackMay])]; simp only [hf]

theorem serve_write (hf : f.service = 0x11) :
    serve k f u = ((writeObject k f.seq f.index f.sub f.payload u).1, .plain (writeObject k f.seq f.index f.sub f.payload u).2) := by
  unfold serve; rw [if_neg (by simp [hf, fallbackMay])]; simp only [hf]

theorem serve_readStart (hfb : u.rp.fallback = false) (hf : f.service = 0x12) : serve k f u = serveReadStart k f u := by
  unfold serve; rw [if_neg (by simp [hfb])]; simp only [hf]

theorem serve_readSegment (hfb : u.rp.fallback = false) (hf : f.service = 0x13) : serve k f u = serveReadSegment k f u := by
  unfold serve; rw [if_neg (by simp [hfb])]; simp only [hf]

theorem serve_writeStart (hfb : u.rp.fallback = false) (hf : f.service = 0x14) : serve k f u = serveWriteStart k f u := by
  unfold serve; rw [if_neg (by simp [hfb])]; simp only [hf]

theorem serve_writeSegment (hfb : u.rp.fallback = false) (hf : f.service = 0x15) : serve k f u = serveWriteSegment k f u := by
  unfold serve; rw [if_neg (by simp [hfb])]; simp only [hf]

theorem serve_writeEnd (hfb : u.rp.fallback = false) (hf : f.service = 0x16) : serve k f u = serveWriteEnd k f u := by
  unfold serve; rw [if_neg (by simp [hfb])]; simp only [hf]

theorem serveRead_read {r : ObjRow} (hcheck : readCheck u f.index f.sub = .inl r)
    (hlen : (readObject k (objKey f.index f.sub) r u).2.length ≤ 1024) :
    serveRead k f u = ((readObject k (objKey f.index f.sub) r u).1,
      { arg := 0, status := 0, last := false, payload := (readObject k (objKey f.index f.sub) r u).2 }) := by
  unfold serveRead; rw [hcheck]; exact if_neg (Nat.not_lt.mpr hlen)

theorem serveRead_refused {code : Nat} (hcheck : readCheck u f.index f.sub = .inr code) : serveRead k f u = (u, .plain code) := by
  unfold serveRead; rw [hcheck]

theorem serveReadStart_starts {r : ObjRow} (hcheck : readCheck u f.index f.sub = .inl r) (hopen : transfersOpen u k < 8)
    (hlen : (readObject k (objKey f.index f.sub) r u).2.length ≤ 2 ^ 24) :
    serveReadStart k f u =
      (openTransfer k f false (readObject k (objKey f.index f.sub) r u).2.length (readObject k (objKey f.index f.sub) r u).2
          (readObject k (objKey f.index f.sub) r u).1,
        { arg := (readObject k (objKey f.index f.sub) r u).2.length, status := 0, last := false, payload := leBytes 4 u.transfers }) := by
  unfold serveReadStart
  rw [hcheck]
  dsimp only
  rw [if_neg (by omega), if_neg (by simp only [blockReadMax]; omega)]

theorem serveReadSegment_reads {x : Transfer} (hlen : f.payload.length = 4) (hx : namedTransfer u k false f.payload = some x) :
    serveReadSegment k f u =
      (u, { arg := 0, status := 0, last := decide (x.total ≤ f.arg + 1024), payload := slice x.data f.arg 1024 }) := by
  unfold serveReadSegment; rw [if_neg (by omega), hx]

theorem serveWriteStart_starts {r : ObjRow} (hrow : presentRow (optionCode u) f.index f.sub = some r) (hacc : r.acc ≠ .ro)
    (hrole : roleMay u k (objKey f.index f.sub) r = true) (harg : f.arg ≤ 2 ^ 20) (hopen : transfersOpen u k < 8) :
    serveWriteStart k f u =
      (openTransfer k f true f.arg [] u, { arg := 0, status := 0, last := false, payload := leBytes 4 u.transfers }) := by
  unfold serveWriteStart
  rw [hrow]
  dsimp only
  rw [if_neg hacc, if_neg (by simp [hrole]), if_neg (by simp only [blockWriteMax]; omega)]

/-- A transfer with bytes joined at its end. -/
def joinBytes (x : Transfer) (bs : List Byte) : Transfer := { x with data := x.data ++ bs }

/-- A session whose transfer is `x`. -/
def setTransfer (x : Option Transfer) (y : Session) : Session := { y with transfer := x }

theorem serveWriteSegment_joins {x : Transfer} (hlen : 4 ≤ f.payload.length) (hx : namedTransfer u k true f.payload = some x)
    (harg : f.arg = x.data.length) (htotal : x.data.length + (f.payload.length - 4) ≤ x.total) :
    serveWriteSegment k f u = (setSess u k (setTransfer (some (joinBytes x (f.payload.drop 4)))), .plain 0) := by
  unfold serveWriteSegment
  rw [if_neg (by omega), hx]
  dsimp only
  rw [if_neg (by rw [List.length_drop]; omega)]
  rfl

theorem serveWriteEnd_checked {x : Transfer} (hlen : f.payload.length = 8) (hx : namedTransfer u k true f.payload = some x)
    (htotal : x.data.length = x.total) (hcrc : crc32c x.data = leNat (slice f.payload 4 4))
    (hw : (writeObject k f.seq x.index x.sub x.data u).2 = 0) :
    serveWriteEnd k f u = (setSess (writeObject k f.seq x.index x.sub x.data u).1 k (setTransfer none), .plain 0) := by
  unfold serveWriteEnd
  rw [if_neg (by omega), hx]
  dsimp only
  rw [if_neg (by simp [htotal, hcrc]), if_pos hw, hw]
  rfl

theorem serveWriteEnd_refused {x : Transfer} (hlen : f.payload.length = 8) (hx : namedTransfer u k true f.payload = some x)
    (hbad : x.data.length ≠ x.total ∨ crc32c x.data ≠ leNat (slice f.payload 4 4)) :
    serveWriteEnd k f u = (u, .plain abTransferCheck) := by
  unfold serveWriteEnd
  rw [if_neg (by omega), hx]
  exact if_pos hbad

end

/-! ### What a read changes (R398, R502) -/

/-- A read leaves sessions, the reset state and the transfers alone. -/
theorem readObject_changes (k key : Nat) (r : ObjRow) (s : State) :
    ∃ a b c d, (readObject k key r s).1 = { s with regs := a, dbg := b, draws := c, lio := d } := by
  unfold readObject
  split
  · unfold debugChallenge drawBytes
    dsimp only
    split <;> exact ⟨_, _, _, _, rfl⟩
  · split
    · exact ⟨_, _, _, _, rfl⟩
    · exact ⟨_, _, _, _, rfl⟩

/-- Of the objects, a read changes at most a `SAR_STATUS`. -/
theorem rd_readObject (k key : Nat) (r : ObjRow) (s : State) {j : Nat} (h : j < 0x280000) : rd (readObject k key r s).1 j = rd s j := by
  unfold readObject
  split
  · unfold debugChallenge drawBytes
    dsimp only
    split <;> rfl
  · split
    · unfold takeSarData
      exact (rd_setLio _ _ _).trans (rd_wr_other _ _ (by simp only [Obj.SAR_STATUS]; omega))
    · rfl

theorem lt_of_mem_pathKeys {port j : Nat} (hp : port < 3) (h : j ∈ pathKeys port) : j < 0x112000 := by
  by_contra hge
  exact not_mem_pathKeys_of hp (.inr (by omega)) h

theorem samePath_readObject {port : Nat} (hp : port < 3) (k key : Nat) (r : ObjRow) (s : State) :
    SamePath port s (readObject k key r s).1 := fun j hj =>
  rd_readObject k key r s (by have := lt_of_mem_pathKeys hp hj; omega)

theorem readObject_sessions (k key : Nat) (r : ObjRow) (s : State) : (readObject k key r s).1.sessions = s.sessions := by
  obtain ⟨a, b, c, d, h⟩ := readObject_changes k key r s; rw [h]

theorem readObject_transfers (k key : Nat) (r : ObjRow) (s : State) : (readObject k key r s).1.transfers = s.transfers := by
  obtain ⟨a, b, c, d, h⟩ := readObject_changes k key r s; rw [h]

theorem calm_readObject {j : Nat} {s : State} (h : Calm j s) (k key : Nat) (r : ObjRow) : Calm j (readObject k key r s).1 := by
  refine ⟨?_, fun i hi => ?_, ?_⟩
  · obtain ⟨a, b, c, d, e⟩ := readObject_changes k key r s; rw [e]; exact h.reset
  · rw [rd_readObject k key r s (by simp only [Obj.SESSION_STATE]; omega)]; exact h.closed i hi
  · rw [sess_congr (readObject_sessions k key r s)]; exact h.held

/-! ### A transfer opens (R288) -/

/-- A session number beyond the table reads as a free session. -/
theorem sess_of_length_le {k : Nat} {s : State} (h : s.sessions.length ≤ k) : sess s k = Session.free := by
  unfold sess getD'; rw [List.getElem?_eq_none h]; rfl

theorem sess_setSess_none {α : Type} {k : Nat} {s : State} {f : Session → Session} (g : Session → α) {v : α}
    (hf : g (f (sess s k)) = v) (hfree : g Session.free = v) : g (sess (setSess s k f) k) = v := by
  rw [sess_setSess]
  split
  · exact hf
  · next h => rw [sess_of_length_le (by simpa using h)]; exact hfree

theorem openTransfer_inward (k : Nat) (f : ObjFrame) (write : Bool) (total : Nat) (data : List Byte) (s : State) :
    Inward k s (openTransfer k f write total data s) :=
  ⟨rfl, sess_setSess_field { s with transfers := s.transfers % (2 ^ 32 - 1) + 1 } k _ Session.held fun _ => rfl⟩

theorem transfer_openTransfer {k : Nat} (f : ObjFrame) (write : Bool) (total : Nat) (data : List Byte) {s : State}
    (hk : k < s.sessions.length) :
    (sess (openTransfer k f write total data s) k).transfer =
      some { ident := s.transfers, write := write, index := f.index, sub := f.sub, total := total, data := data } := by
  unfold openTransfer; dsimp only; rw [sess_setSess, if_pos ⟨rfl, hk⟩]

theorem setTransfer_inward (k : Nat) (x : Option Transfer) (s : State) : Inward k s (setSess s k (setTransfer x)) :=
  ⟨rfl, sess_setSess_field s k _ Session.held fun _ => rfl⟩

/-! ### The services in the state in which they run -/

section

variable {k : Nat} {net : NetAddr} {f : ObjFrame} {s : State}

theorem optionCode_taken (hk : k < 16) (hp : net.port < 3) (f : ObjFrame) (s : State) : optionCode (taken k net f s) = optionCode s :=
  rd_taken_of_frameKeys f s (not_mem_frameKeys hk hp (.inr (.inr (by decide))))

theorem readCheck_taken (hk : k < 16) (hp : net.port < 3) (f : ObjFrame) (s : State) (ix sub : Nat) :
    readCheck (taken k net f s) ix sub = readCheck s ix sub := by
  unfold readCheck; rw [optionCode_taken hk hp]

theorem fallback_taken (k : Nat) (net : NetAddr) (f : ObjFrame) (s : State) : (taken k net f s).rp.fallback = s.rp.fallback := by
  rw [taken_frame]; rfl

theorem transfers_taken (k : Nat) (net : NetAddr) (f : ObjFrame) (s : State) : (taken k net f s).transfers = s.transfers := by
  rw [taken_frame]; rfl

theorem sessions_length_taken (k : Nat) (net : NetAddr) (f : ObjFrame) (s : State) :
    (taken k net f s).sessions.length = s.sessions.length := by
  rw [taken_frame]; exact List.length_modify _ _ _

theorem transfer_taken (k : Nat) (net : NetAddr) (f : ObjFrame) (s : State) (j : Nat) :
    (sess (taken k net f s) j).transfer = (sess s j).transfer :=
  sess_taken_field k net f s Session.transfer (fun _ _ => rfl) j

theorem namedTransfer_taken (k : Nat) (net : NetAddr) (f : ObjFrame) (s : State) (write : Bool) (bs : List Byte) :
    namedTransfer (taken k net f s) k write bs = namedTransfer s k write bs := by
  unfold namedTransfer; rw [transfer_taken]

theorem transfersOpen_taken (k : Nat) (net : NetAddr) (f : ObjFrame) (s : State) :
    transfersOpen (taken k net f s) k = transfersOpen s k := by
  unfold transfersOpen; simp only [transfer_taken]

theorem roleMay_taken (hk : k < 16) (hp : net.port < 3) (f : ObjFrame) (s : State) (key : Nat) (r : ObjRow) :
    roleMay (taken k net f s) k key r = roleMay s k key r := by
  unfold roleMay sessRole
  rw [rd_taken_of_frameKeys f s (not_mem_frameKeys hk hp (.inr (.inl ⟨by simp, by simp only [Obj.SESSION_ROLE]; omega⟩))),
    rd_taken_of_frameKeys f s (not_mem_frameKeys hk hp (.inr (.inl ⟨by simp, by simp only [Obj.SESSION_STATE]; omega⟩)))]

theorem transfer_of_named {write : Bool} {bs : List Byte} {x : Transfer} (h : namedTransfer s k write bs = some x) :
    (sess s k).transfer = some x := by
  unfold namedTransfer at h
  split at h
  · next y hy =>
    split at h
    · rw [hy]; exact h
    · cases h
  · cases h

/-! ### READ and WRITE (R285, R295, R296) -/

theorem read_completes {r : ObjRow} (h : Heard k net f s) (hturn : InTurn k f s) (hf : f.service = 0x10)
    (hcheck : readCheck s f.index f.sub = .inl r) {x : State × List Byte}
    (hx : readObject k (objKey f.index f.sub) r (taken k net f s) = x) (hlen : x.2.length ≤ 1024) :
    Completes (.read net f) s fun t =>
      Replied (sess s k).ks net f 0 0 x.2 t ∧ ∀ j, j ≠ Obj.FRAMES_OUT net.port → rd t j = rd x.1 j := by
  obtain ⟨hk, hp, -⟩ := bounds_of_heard h
  subst hx
  refine request_served (by simp [requestRows, hf]) (by simp [hf]) h hturn
    ((serve_read hf).trans (serveRead_read ((readCheck_taken hk hp f s _ _).trans hcheck) hlen))
    (calm_readObject (calm_taken h hturn) _ _ _) (((samePath_readObject hp _ _ _ _).reachable _).trans (reachable_taken h)) fun t ht => ?_
  exact ⟨ht.replied, fun j hj => ht.accepted rfl j (by simpa using hj)⟩

theorem readCheck_ne_zero {ix sub code : Nat} (h : readCheck s ix sub = .inr code) : code ≠ 0 := by
  unfold readCheck at h
  split at h
  · cases h; decide
  · split at h
    · cases h; decide
    · cases h

theorem read_refused {code : Nat} (h : Heard k net f s) (hturn : InTurn k f s) (hf : f.service = 0x10)
    (hcheck : readCheck s f.index f.sub = .inr code) :
    Completes (.read net f) s fun t =>
      Replied (sess s k).ks net f 0 code [] t ∧ Counted 32 Obj.ABORTS_SENT s t
        ∧ (∀ j, j ∉ frameKeys k net → rd t j = rd s j)
        ∧ t = { s with regs := t.regs, sessions := t.sessions, pmc := t.pmc, outbox := t.outbox } := by
  obtain ⟨hk, hp, -⟩ := bounds_of_heard h
  exact request_inward (by simp [requestRows, hf]) (by simp [hf]) h hturn
    ((serve_read hf).trans (serveRead_refused ((readCheck_taken hk hp f s _ _).trans hcheck))) (inward_refl _ _) fun t ht =>
      ⟨ht.replied, served_refused (readCheck_ne_zero hcheck) ht⟩

theorem write_completes (h : Heard k net f s) (hturn : InTurn k f s) (hf : f.service = 0x11) {w : WriteResult}
    (hw : writeObject k f.seq f.index f.sub f.payload (taken k net f s) = w) (h0 : w.2 = 0)
    (hn : reachable w.1 net.port net.addr = true) (hcalm : Calm k w.1) :
    Completes (.write net f) s fun t =>
      Replied (sess s k).ks net f 0 0 [] t ∧ (∀ j, j ≠ Obj.FRAMES_OUT net.port → rd t j = rd w.1 j)
        ∧ t = { w.1 with regs := t.regs, sessions := t.sessions, outbox := t.outbox } := by
  subst hw
  refine request_served (by simp [requestRows, hf]) (by simp [hf]) h hturn ((serve_write hf).trans (by rw [h0])) hcalm hn fun t ht => ?_
  exact ⟨ht.replied, fun j hj => ht.accepted rfl j (by simpa using hj), ht.changes⟩

/-- A write that fails a check other than the token's leaves the state as it is. -/
theorem writeObject_refused {seq ix sub : Nat} {bs : List Byte}
    (htoken : tokenGoverns s k (objKey ix sub) = false ∨ tokenAccepts s k = true) (hcode : (writeChecks s k ix sub bs).2 ≠ 0) :
    writeObject k seq ix sub bs s = (s, (writeChecks s k ix sub bs).2) := by
  have hpass : (tokenGoverns s k (objKey ix sub) && !tokenAccepts s k) = false := by rcases htoken with h | h <;> simp [h]
  have hstays : (writeChecks s k ix sub bs).1 = s := by
    unfold writeChecks
    split
    · rfl
    · dsimp only
      split
      · rfl
      · split
        · rfl
        · rw [if_neg (by simp [hpass])]
  unfold writeObject
  dsimp only
  rw [if_pos hcode]
  exact Prod.ext hstays rfl

theorem write_refused (h : Heard k net f s) (hturn : InTurn k f s) (hf : f.service = 0x11)
    (htoken : tokenGoverns (taken k net f s) k (objKey f.index f.sub) = false ∨ tokenAccepts (taken k net f s) k = true) {code : Nat}
    (hcode : (writeChecks (taken k net f s) k f.index f.sub f.payload).2 = code) (h0 : code ≠ 0) :
    Completes (.write net f) s fun t =>
      Replied (sess s k).ks net f 0 code [] t ∧ Counted 32 Obj.ABORTS_SENT s t
        ∧ (∀ j, j ∉ frameKeys k net → rd t j = rd s j)
        ∧ t = { s with regs := t.regs, sessions := t.sessions, pmc := t.pmc, outbox := t.outbox } := by
  have hwrite : writeObject k f.seq f.index f.sub f.payload (taken k net f s) = (taken k net f s, code) := by
    rw [writeObject_refused htoken (by rwa [hcode]), hcode]
  have hserve : serve k f (taken k net f s) = (taken k net f s, .plain code) := by rw [serve_write hf, hwrite]
  exact request_inward (by simp [requestRows, hf]) (by simp [hf]) h hturn hserve (inward_refl _ _)
    fun t ht => ⟨ht.replied, served_refused h0 ht⟩

/-! ### Block transfers (R288) -/

theorem blockReadStart_completes {r : ObjRow} (h : Heard k net f s) (hturn : InTurn k f s) (hf : f.service = 0x12)
    (hfb : s.rp.fallback = false) (hcheck : readCheck s f.index f.sub = .inl r) (hopen : transfersOpen s k < 8) {x : State × List Byte}
    (hx : readObject k (objKey f.index f.sub) r (taken k net f s) = x) (hlen : x.2.length ≤ 2 ^ 24) :
    Completes (.blockReadStart net f) s fun t =>
      Replied (sess s k).ks net f x.2.length 0 (leBytes 4 s.transfers) t
        ∧ (sess t k).transfer =
            some { ident := s.transfers, write := false, index := f.index, sub := f.sub, total := x.2.length, data := x.2 } := by
  obtain ⟨hk, hp, hlt⟩ := bounds_of_heard h
  subst hx
  have hin := openTransfer_inward k f false (readObject k (objKey f.index f.sub) r (taken k net f s)).2.length
    (readObject k (objKey f.index f.sub) r (taken k net f s)).2 (readObject k (objKey f.index f.sub) r (taken k net f s)).1
  refine request_served (by simp [requestRows, hf]) (by simp [hf]) h hturn
    ((serve_readStart ((fallback_taken k net f s).trans hfb) hf).trans
      (serveReadStart_starts ((readCheck_taken hk hp f s _ _).trans hcheck) (by rw [transfersOpen_taken]; exact hopen) hlen))
    (hin.calm (calm_readObject (calm_taken h hturn) _ _ _))
    (((hin.reachable _ _).trans ((samePath_readObject hp _ _ _ _).reachable _)).trans (reachable_taken h)) fun t ht => ?_
  refine ⟨?_, (ht.field Session.transfer fun _ => rfl).trans ?_⟩
  · rw [← transfers_taken k net f s]; exact ht.replied
  · refine (transfer_openTransfer f _ _ _ ?_).trans ?_
    · rw [readObject_sessions, sessions_length_taken]; exact hlt
    · rw [readObject_transfers, transfers_taken]

theorem blockReadSegment_completes {x : Transfer} (h : Heard k net f s) (hturn : InTurn k f s) (hf : f.service = 0x13)
    (hfb : s.rp.fallback = false) (hlen : f.payload.length = 4) (hx : namedTransfer s k false f.payload = some x) :
    Completes (.blockReadSegment net f) s fun t =>
      Replied (sess s k).ks net f 0 0 (slice x.data f.arg 1024) t ∧ (sess t k).transfer = some x
        ∧ ∀ j, j ∉ frameKeys k net → rd t j = rd s j := by
  refine request_inward (by simp [requestRows, hf]) (by simp [hf]) h hturn
    ((serve_readSegment ((fallback_taken k net f s).trans hfb) hf).trans
      (serveReadSegment_reads hlen ((namedTransfer_taken k net f s _ _).trans hx))) (inward_refl _ _) fun t ht => ?_
  exact ⟨ht.replied, ((ht.field Session.transfer fun _ => rfl).trans (transfer_taken k net f s k)).trans (transfer_of_named hx),
    fun j hj => (inward_refl k _).objects ht hj⟩

theorem blockWriteStart_completes {r : ObjRow} (h : Heard k net f s) (hturn : InTurn k f s) (hf : f.service = 0x14)
    (hfb : s.rp.fallback = false) (hrow : presentRow (optionCode s) f.index f.sub = some r) (hacc : r.acc ≠ .ro)
    (hrole : roleMay s k (objKey f.index f.sub) r = true) (harg : f.arg ≤ 2 ^ 20) (hopen : transfersOpen s k < 8) :
    Completes (.blockWriteStart net f) s fun t =>
      Replied (sess s k).ks net f 0 0 (leBytes 4 s.transfers) t
        ∧ (sess t k).transfer =
            some { ident := s.transfers, write := true, index := f.index, sub := f.sub, total := f.arg, data := [] }
        ∧ ∀ j, j ∉ frameKeys k net → rd t j = rd s j := by
  obtain ⟨hk, hp, hlt⟩ := bounds_of_heard h
  have hin := openTransfer_inward k f true f.arg [] (taken k net f s)
  refine request_inward (by simp [requestRows, hf]) (by simp [hf]) h hturn
    ((serve_writeStart ((fallback_taken k net f s).trans hfb) hf).trans
      (serveWriteStart_starts (by rw [optionCode_taken hk hp]; exact hrow) hacc ((roleMay_taken hk hp f s _ _).trans hrole) harg
        (by rw [transfersOpen_taken]; exact hopen))) hin fun t ht => ?_
  refine ⟨?_, (ht.field Session.transfer fun _ => rfl).trans ?_, fun j hj => hin.objects ht hj⟩
  · rw [← transfers_taken k net f s]; exact ht.replied
  · refine (transfer_openTransfer f _ _ _ ?_).trans ?_
    · rw [sessions_length_taken]; exact hlt
    · rw [transfers_taken]

theorem blockWriteSegment_completes {x : Transfer} (h : Heard k net f s) (hturn : InTurn k f s) (hf : f.service = 0x15)
    (hfb : s.rp.fallback = false) (hlen : 4 ≤ f.payload.length) (hx : namedTransfer s k true f.payload = some x)
    (harg : f.arg = x.data.length) (htotal : x.data.length + (f.payload.length - 4) ≤ x.total) :
    Completes (.blockWriteSegment net f) s fun t =>
      Replied (sess s k).ks net f 0 0 [] t ∧ (sess t k).transfer = some (joinBytes x (f.payload.drop 4))
        ∧ ∀ j, j ∉ frameKeys k net → rd t j = rd s j := by
  obtain ⟨-, -, hlt⟩ := bounds_of_heard h
  have hin := setTransfer_inward k (some (joinBytes x (f.payload.drop 4))) (taken k net f s)
  refine request_inward (by simp [requestRows, hf]) (by simp [hf]) h hturn
    ((serve_writeSegment ((fallback_taken k net f s).trans hfb) hf).trans
      (serveWriteSegment_joins hlen ((namedTransfer_taken k net f s _ _).trans hx) harg htotal)) hin fun t ht => ?_
  refine ⟨ht.replied, (ht.field Session.transfer fun _ => rfl).trans ?_, fun j hj => hin.objects ht hj⟩
  have hset := sess_setSess (taken k net f s) k k (setTransfer (some (joinBytes x (f.payload.drop 4))))
  rw [if_pos ⟨rfl, by rw [sessions_length_taken]; exact hlt⟩] at hset
  exact congrArg Session.transfer hset

theorem blockWriteEnd_completes {x : Transfer} (h : Heard k net f s) (hturn : InTurn k f s) (hf : f.service = 0x16)
    (hfb : s.rp.fallback = false) (hlen : f.payload.length = 8) (hx : namedTransfer s k true f.payload = some x)
    (htotal : x.data.length = x.total) (hcrc : crc32c x.data = leNat (slice f.payload 4 4)) {w : WriteResult}
    (hw : writeObject k f.seq x.index x.sub x.data (taken k net f s) = w) (h0 : w.2 = 0)
    (hn : reachable w.1 net.port net.addr = true) (hcalm : Calm k w.1) :
    Completes (.blockWriteEnd net f) s fun t =>
      Replied (sess s k).ks net f 0 0 [] t ∧ (sess t k).transfer = none
        ∧ ∀ j, j ≠ Obj.FRAMES_OUT net.port → rd t j = rd w.1 j := by
  subst hw
  generalize hv : (writeObject k f.seq x.index x.sub x.data (taken k net f s)).1 = v at hn hcalm
  have hin := setTransfer_inward k none v
  refine request_served (by simp [requestRows, hf]) (by simp [hf]) h hturn
    ((serve_writeEnd ((fallback_taken k net f s).trans hfb) hf).trans
      (serveWriteEnd_checked hlen ((namedTransfer_taken k net f s _ _).trans hx) htotal hcrc h0))
    (hv ▸ hin.calm hcalm) (hv ▸ (hin.reachable _ _).trans hn) fun t ht => ?_
  rw [hv] at ht
  refine ⟨ht.replied, (ht.field Session.transfer fun _ => rfl).trans ?_, fun j hj => ht.accepted rfl j (by simpa using hj)⟩
  show (sess (setSess v k (setTransfer none)) k).transfer = none
  exact sess_setSess_none Session.transfer rfl rfl

theorem blockWriteEnd_refused {x : Transfer} (h : Heard k net f s) (hturn : InTurn k f s) (hf : f.service = 0x16)
    (hfb : s.rp.fallback = false) (hlen : f.payload.length = 8) (hx : namedTransfer s k true f.payload = some x)
    (hbad : x.data.length ≠ x.total ∨ crc32c x.data ≠ leNat (slice f.payload 4 4)) :
    Completes (.blockWriteEnd net f) s fun t =>
      Replied (sess s k).ks net f 0 abTransferCheck [] t ∧ ∀ j, j ∉ frameKeys k net → rd t j = rd s j :=
  request_inward (by simp [requestRows, hf]) (by simp [hf]) h hturn
    ((serve_writeEnd ((fallback_taken k net f s).trans hfb) hf).trans
      (serveWriteEnd_refused hlen ((namedTransfer_taken k net f s _ _).trans hx) hbad)) (inward_refl _ _) fun _ ht =>
    ⟨ht.replied, fun _ hj => (inward_refl k _).objects ht hj⟩

end

end Sys2Proof.Proofs

namespace Sys2Proof.Proofs

open Sys2Proof.Machine Sys2Proof.Claims Sys2Proof.Laws

/-! ### Timers of a session's requests (R286, R288) -/

theorem transferTimeoutExpiry_completes {k : Nat} {s : State} (hl : alive s .lookout = true) :
    Completes (.transferTimeoutExpiry k) s fun t =>
      (sess t k).transfer = none ∧ (∀ j, j ≠ k → sess t j = sess s j) ∧ t = { s with sessions := t.sessions } := by
  refine ⟨setSess s k (setTransfer none), ?_, sess_setSess_none Session.transfer rfl rfl, fun j hj => sess_setSess_other s _ hj, rfl⟩
  show execTransferTimeoutExpiry k s = _
  unfold execTransferTimeoutExpiry
  rw [whenAlive_on _ hl]
  rfl

/-- A session that holds the requests `hs`. -/
def setHeld (hs : List HeldRequest) (x : Session) : Session := { x with held := hs }

/-- The requests of `hs` that have not waited their 100 ms at the instant `now`, and those that have. -/
def keptRequests (now : Nat) (hs : List HeldRequest) : List HeldRequest := hs.filter (fun g => decide (now < g.since + heldLimit))

def lateRequests (now : Nat) (hs : List HeldRequest) : List HeldRequest := hs.filter (fun g => decide (g.since + heldLimit ≤ now))

/-- A held request is either kept or late. -/
theorem length_lateRequests (now : Nat) (hs : List HeldRequest) :
    hs.length - (keptRequests now hs).length = (lateRequests now hs).length := by
  have hsplit := hs.length_eq_length_filter_add (fun g => decide (now < g.since + heldLimit))
  have hnot : (fun g : HeldRequest => !decide (now < g.since + heldLimit)) = fun g => decide (g.since + heldLimit ≤ now) := by
    funext g; rw [← decide_not]; exact decide_eq_decide.mpr Nat.not_lt
  rw [hnot] at hsplit
  unfold keptRequests lateRequests
  omega

theorem exec_heldRequestExpiry {k : Nat} {h : HeldRequest} {rest : List HeldRequest} {s u : State} (hl : alive s .lookout = true)
    (hheld : (sess s k).held = h :: rest) (hu : runTo (h.since + heldLimit) s = u) :
    exec (.heldRequestExpiry k) s = .next (setSess (countBy 32 u Obj.SEQ_REJECTS (lateRequests u.time.acc (h :: rest)).length) k
      (setHeld (keptRequests u.time.acc (h :: rest)))) := by
  have hsess : (sess u k).held = h :: rest := by
    have hsame : sess u k = sess s k := sess_congr (by rw [← hu, runTo_frame]) k
    rw [hsame, hheld]
  show execHeldRequestExpiry k s = _
  unfold execHeldRequestExpiry
  rw [whenAlive_on _ hl, hheld]
  dsimp only
  rw [hu, hsess, ← length_lateRequests]
  rfl

theorem sessions_countBy (w : Nat) (s : State) (key n : Nat) : (countBy w s key n).sessions = s.sessions := rfl

theorem heldRequestExpiry_completes {k : Nat} {h : HeldRequest} {rest : List HeldRequest} {s u : State} (hl : alive s .lookout = true)
    (hheld : (sess s k).held = h :: rest) (hu : runTo (h.since + heldLimit) s = u) :
    Completes (.heldRequestExpiry k) s fun t =>
      (sess t k).held = keptRequests u.time.acc (h :: rest)
        ∧ rd t Obj.SEQ_REJECTS = satAdd (2 ^ 32 - 1) (rd u Obj.SEQ_REJECTS) (lateRequests u.time.acc (h :: rest)).length
        ∧ OnlyObjects [Obj.SEQ_REJECTS] u t ∧ (∀ j, j ≠ k → sess t j = sess s j)
        ∧ t = { u with regs := t.regs, sessions := t.sessions } := by
  have hsessions : u.sessions = s.sessions := by rw [← hu, runTo_frame]
  have hk : k < s.sessions.length := by
    by_contra hout
    rw [sess_of_length_le (Nat.not_lt.mp hout)] at hheld
    cases hheld
  refine ⟨_, exec_heldRequestExpiry hl hheld hu, ?_⟩
  generalize keptRequests u.time.acc (h :: rest) = kept, (lateRequests u.time.acc (h :: rest)).length = n
  refine ⟨?_, ?_, ?_, fun j hj => ?_, ?_⟩
  · rw [sess_setSess, if_pos ⟨rfl, by rwa [sessions_countBy, hsessions]⟩]; rfl
  · rw [rd_setSess, rd_countBy_same]
  · exact fun j hj => (rd_setSess _ _ _ j).trans (rd_countBy_other u _ _ (by simpa using hj))
  · rw [sess_setSess_other _ _ hj, sess_congr (sessions_countBy _ _ _ _), sess_congr hsessions]
  · obtain ⟨a, ha⟩ : ∃ a, countBy 32 u Obj.SEQ_REJECTS n = { u with regs := a } := ⟨_, countBy_regs _ _ _ _⟩
    rw [ha]; rfl

/-! ### Frames that are dropped, and the answers of the network layer (R282, R283, R314) -/

theorem frameDropped_completes {port : Nat} {s : State} (hup : hostUp s port = true) :
    Completes (.frameDropped port) s fun t =>
      Counted 64 (Obj.FRAMES_IN port) s t ∧ Counted 32 (Obj.FRAMES_DROPPED port) s t
        ∧ OnlyRegs [Obj.FRAMES_IN port, Obj.FRAMES_DROPPED port] s t := by
  obtain ⟨hin, hdropped⟩ := counted_dropped port s
  exact ⟨_, congrArg Host.Outcome.next (if_pos hup), hin, hdropped, onlyRegs_countDropped port s⟩

theorem request_unaddressed {net : NetAddr} {f : ObjFrame} {c : Instr} {code : Nat} {s : State} (hrow : (c, code) ∈ requestRows net f)
    (hup : hostUp s net.port = true) (ha : addressed s net = false) :
    Completes c s fun t =>
      Counted 32 (Obj.FRAMES_DROPPED net.port) s t ∧ OnlyRegs [Obj.FRAMES_IN net.port, Obj.FRAMES_DROPPED net.port] s t := by
  refine ⟨_, exec_request hrow s, ?_⟩
  rw [takeFrame_unaddressed hup ha]
  exact ⟨(counted_dropped net.port s).2, onlyRegs_countDropped net.port s⟩

/-- A frame taken in at a port and answered with `o`, which goes out of the same port. -/
def echo (port : Nat) (o : Out) (s : State) : State := countBy 64 (send o (countIn port s)) (Obj.FRAMES_OUT port) 1

theorem echo_leaves (port : Nat) (o : Out) (s : State) :
    (echo port o s).outbox = o :: s.outbox ∧ Counted 64 (Obj.FRAMES_IN port) s (echo port o s)
      ∧ Counted 64 (Obj.FRAMES_OUT port) s (echo port o s) ∧ OnlyObjects [Obj.FRAMES_IN port, Obj.FRAMES_OUT port] s (echo port o s)
      ∧ echo port o s = { s with regs := (echo port o s).regs, outbox := (echo port o s).outbox } := by
  refine ⟨rfl, ?_, ?_, fun j hj => ?_, rfl⟩ <;> unfold echo countIn
  · exact (rd_countBy_other _ _ _ (ne_of_keySub (by simp))).trans (rd_countBy_same s _ _ _)
  · refine (rd_countBy_same _ _ _ _).trans ?_
    rw [rd_send, rd_countBy_other _ _ _ (ne_of_keySub (by simp))]
  · simp only [List.mem_cons, List.not_mem_nil, or_false, not_or] at hj
    rw [rd_countBy_other _ _ _ hj.2, rd_send, rd_countBy_other _ _ _ hj.1]

theorem exec_arpRequest {port : Nat} {data : List Byte} {s : State} (hup : hostUp s port = true) :
    exec (.arpIcmpRequest port 0 (rd s (Obj.IP_ADDRESS port)) data) s =
      .next (echo port (.netReply port 0 (vlanTag s port) (leBytes 6 (rd s (Obj.MAC_ADDRESS port)))) s) := by
  have hp := port_lt_of_hostUp hup
  have hpath := samePath_countIn hp s
  have hown : rd (countIn port s) (Obj.IP_ADDRESS port) = rd s (Obj.IP_ADDRESS port) := hpath _ (by simp [pathKeys])
  have hmac : rd (countIn port s) (Obj.MAC_ADDRESS port) = rd s (Obj.MAC_ADDRESS port) :=
    (onlyRegs_countIn port s).2 _ (by simp)
  show execArpIcmpRequest port 0 _ data s = _
  unfold execArpIcmpRequest
  dsimp only
  rw [if_neg (by simp [hup]), if_pos rfl, if_pos hown.symm, hpath.vlanTag, hmac]
  rfl

theorem exec_icmpEcho {port target : Nat} {data : List Byte} {s : State} (hup : hostUp s port = true) (hlen : data.length ≤ 64)
    (hn : reachable s port target = true) :
    exec (.arpIcmpRequest port 1 target data) s = .next (echo port (.netReply port 1 (vlanTag s port) data) s) := by
  have hpath := samePath_countIn (port_lt_of_hostUp hup) s
  show execArpIcmpRequest port 1 target data s = _
  unfold execArpIcmpRequest
  dsimp only
  rw [if_neg (by simp [hup]), if_neg (by decide), if_pos ⟨rfl, hlen⟩, if_pos ((hpath.reachable _).trans hn), hpath.vlanTag]
  rfl

/-- Settles O49: each service answers as its own rule says, and the way of the request around it is the same for all. -/
theorem readsWritesAndTransfers : Obligations.ReadsWritesAndTransfers :=
  ⟨fun _ _ _ _ _ h hturn hf hcheck hlen => read_completes h hturn hf hcheck rfl hlen,
    fun _ _ _ _ _ h hturn hf hcheck => read_refused h hturn hf hcheck,
    fun _ _ _ _ h hturn hf h0 hn hreset hheld hclosed => write_completes h hturn hf rfl h0 hn ⟨hreset, hclosed, hheld⟩,
    fun _ _ _ _ h hturn hf htoken h0 => write_refused h hturn hf htoken rfl h0,
    fun _ _ _ _ _ h hturn hf hfb hcheck hopen hlen => blockReadStart_completes h hturn hf hfb hcheck hopen rfl hlen,
    fun _ _ _ _ _ h hturn hf hfb hlen hx => blockReadSegment_completes h hturn hf hfb hlen hx,
    fun _ _ _ _ _ h hturn hf hfb hrow hacc hrole harg hopen => blockWriteStart_completes h hturn hf hfb hrow hacc hrole harg hopen,
    fun _ _ _ _ _ h hturn hf hfb hlen hx harg htotal => blockWriteSegment_completes h hturn hf hfb hlen hx harg htotal,
    fun _ _ _ _ _ h hturn hf hfb hlen hx htotal hcrc h0 hn hreset hheld hclosed =>
      blockWriteEnd_completes h hturn hf hfb hlen hx htotal hcrc rfl h0 hn ⟨hreset, hclosed, hheld⟩,
    fun _ _ _ _ _ h hturn hf hfb hlen hx hbad => blockWriteEnd_refused h hturn hf hfb hlen hx hbad,
    fun _ _ hl => transferTimeoutExpiry_completes hl,
    fun _ _ _ _ hl hheld => heldRequestExpiry_completes hl hheld rfl,
    fun _ _ hup => frameDropped_completes hup,
    fun _ _ _ _ _ hrow hup ha => request_unaddressed hrow hup ha,
    fun port _ s hup => ⟨_, exec_arpRequest hup, echo_leaves port _ s⟩,
    fun port _ _ s hup hlen hn => ⟨_, exec_icmpEcho hup hlen hn, echo_leaves port _ s⟩⟩

end Sys2Proof.Proofs

namespace Sys2Proof.Proofs

open Sys2Proof.Machine Sys2Proof.Claims Sys2Proof.Laws

/-! ### Work among the sessions (R298, R299, R306, R308)

Notifications, the command token and the notes of the process-image cycle change the records of open sessions, what is sent, the masters'
records and the log. `HostWork` says what such work leaves alone; each operation has it once, with the objects it may change. -/

/-- An object that shows one session's state, master, role, place or mask. -/
def SessionKey (j : Nat) : Prop := 0x111001 ≤ j ∧ j < 0x112000 ∧ 1 ≤ keySub j ∧ keySub j ≤ 7

theorem sessionKey_of {a i : Nat} (hi : i < 16) (ha : 0x111001 ≤ a ∧ a ≤ 0x111007) : SessionKey (a + i * 0x100) := by
  unfold SessionKey keySub; omega

/-- A session's record, but for its notifications. -/
def apartNotes (x : Session) : Session := { x with notes := [], outSeq := 0, overflow := false }

/-- What a master's record says of its images: those under assembly, complete, applied or refused, and the values taken for its input
image. -/
def apartMarks (x : MasterImages) : MasterImages :=
  { x with missed := 0, outputsMissing := false, conflict := false, wrote := [], remembered := [], shadow := [], shadowHits := 0,
           applyFrom := 0 }

theorem masterImages_of_images {s t : State} (h : t.images = s.images) (m : Nat) : masterImages t m = masterImages s m := by
  unfold masterImages
  rw [h]

theorem masterImages_setMaster (s : State) (m j : Nat) (f : MasterImages → MasterImages) :
    masterImages (setMaster m f s) j
      = if j = m ∧ m ≠ 0 ∧ m - 1 < s.images.length then f (masterImages s m) else masterImages s j := by
  unfold masterImages setMaster
  by_cases hm : m = 0
  · simp [hm]
  rw [if_neg hm]
  by_cases hj : j = 0
  · rw [if_pos hj, if_neg (by omega), if_pos hj]
  rw [if_neg hj, if_neg hj, if_neg hm, getD'_modify]
  refine if_congr ?_ rfl rfl
  omega

theorem length_setMaster (s : State) (m : Nat) (f : MasterImages → MasterImages) :
    (setMaster m f s).images.length = s.images.length := by
  unfold setMaster
  split
  · rfl
  · exact List.length_modify _ _ _

/-- Nothing but objects of `ks`, those a notification may change, the sessions' notifications, the masters' records, the log and what is
sent differs. -/
structure HostWork (ks : List Nat) (s t : State) : Prop where
  /-- what may change -/
  changes : ∃ a b c d e, t = { s with regs := a, sessions := b, images := c, log := d, outbox := e }
  /-- the objects -/
  objects : ∀ j, j ∉ ks → j ∉ noteKeys s → rd t j = rd s j
  /-- the objects of the sessions -/
  session : ∀ j, SessionKey j → rd t j = rd s j
  /-- the sessions' records -/
  records : ∀ j, apartNotes (sess t j) = apartNotes (sess s j)
  /-- sessions that are not open -/
  closed : ∀ j, sessOpen s j = false → sess t j = sess s j
  /-- the number of records -/
  length : t.sessions.length = s.sessions.length
  /-- what was sent before -/
  sent : s.outbox ⊆ t.outbox
  /-- the masters' images -/
  masters : ∀ m, apartMarks (masterImages t m) = apartMarks (masterImages s m)
  /-- the number of the masters' records -/
  masterCount : t.images.length = s.images.length
  /-- without an event the log stands -/
  quiet : Obj.LOG_DROPPED ∉ ks → t.log = s.log

theorem sessOpen_congr {s t : State} (h : ∀ j, SessionKey j → rd t j = rd s j) (j : Nat) : sessOpen t j = sessOpen s j := by
  unfold sessOpen
  by_cases hj : j < 16
  · rw [h _ (sessionKey_of hj (by decide))]
  · simp [hj]

theorem noteKeys_congr {s t : State} (h : ∀ j, SessionKey j → rd t j = rd s j) : noteKeys t = noteKeys s := by
  unfold noteKeys
  refine congrArg (· ++ _) (List.map_congr_left fun j hj => ?_)
  show Obj.FRAMES_OUT (rd t (Obj.SESSION_PORT j)) = Obj.FRAMES_OUT (rd s (Obj.SESSION_PORT j))
  rw [h _ (sessionKey_of (List.mem_range.mp hj) (by decide))]

/-- A notification counts frames sent at ports, and notifications dropped of sessions. -/
theorem keySub_of_mem_noteKeys {s : State} {j : Nat} (h : j ∈ noteKeys s) : keySub j = 10 ∨ keySub j = 9 := by
  rcases List.mem_append.mp h with h | h
  · obtain ⟨i, -, rfl⟩ := List.mem_map.mp h
    exact .inl (by simp)
  · obtain ⟨i, -, rfl⟩ := List.mem_map.mp h
    exact .inr (by simp)

theorem not_mem_noteKeys {s : State} {j : Nat} (h10 : keySub j ≠ 10) (h9 : keySub j ≠ 9) : j ∉ noteKeys s := fun hmem =>
  (keySub_of_mem_noteKeys hmem).elim h10 h9

namespace HostWork

variable {ks : List Nat} {s t u : State}

theorem refl (s : State) : HostWork ks s s :=
  ⟨⟨_, _, _, _, _, rfl⟩, fun _ _ _ => rfl, fun _ _ => rfl, fun _ => rfl, fun _ _ => rfl, rfl, List.Subset.refl _,
    fun _ => rfl, rfl, fun _ => rfl⟩

theorem trans (h : HostWork ks s t) (g : HostWork ks t u) : HostWork ks s u where
  changes := by
    obtain ⟨a, b, c, d, e, rfl⟩ := h.changes
    obtain ⟨a', b', c', d', e', rfl⟩ := g.changes
    exact ⟨a', b', c', d', e', rfl⟩
  objects j hj hn := (g.objects j hj (by rwa [noteKeys_congr h.session])).trans (h.objects j hj hn)
  session j hj := (g.session j hj).trans (h.session j hj)
  records j := (g.records j).trans (h.records j)
  closed j hj := (g.closed j ((sessOpen_congr h.session j).trans hj)).trans (h.closed j hj)
  length := g.length.trans h.length
  sent := List.Subset.trans h.sent g.sent
  masters m := (g.masters m).trans (h.masters m)
  masterCount := g.masterCount.trans h.masterCount
  quiet hq := (g.quiet hq).trans (h.quiet hq)

theorem mono {ls : List Nat} (h : HostWork ks s t) (hsub : ks ⊆ ls) : HostWork ls s t :=
  { h with objects := fun j hj hn => h.objects j (fun hmem => hj (hsub hmem)) hn, quiet := fun hq => h.quiet fun hmem => hq (hsub hmem) }

theorem foldl {α : Type} {f : State → α → State} (hf : ∀ t x, HostWork ks t (f t x)) (l : List α) (s : State) :
    HostWork ks s (l.foldl f s) :=
  List.foldlRecOn (motive := HostWork ks s) l f (refl s) fun t ht x _ => ht.trans (hf t x)

theorem open_eq (h : HostWork ks s t) (j : Nat) : sessOpen t j = sessOpen s j := sessOpen_congr h.session j

/-- A change of the objects of `ks` alone. -/
theorem of_regs {a : List (Nat × Nat)} (ht : t = { s with regs := a }) (hobj : ∀ j, j ∉ ks → j ∉ noteKeys s → rd t j = rd s j)
    (hsession : ∀ j, SessionKey j → rd t j = rd s j) : HostWork ks s t where
  changes := ⟨a, s.sessions, s.images, s.log, s.outbox, ht⟩
  objects := hobj
  session := hsession
  records j := by rw [ht]; rfl
  closed j _ := by rw [ht]; rfl
  length := by rw [ht]
  sent := by rw [ht]; exact List.Subset.refl _
  masters m := congrArg apartMarks (masterImages_of_images (by rw [ht]) m)
  masterCount := by rw [ht]
  quiet _ := by rw [ht]

theorem wr (h : HostWork ks s t) {key : Nat} (hk : key ∈ ks) (hs : ¬ SessionKey key) (v : Nat) : HostWork ks s (wr t key v) :=
  h.trans (.of_regs rfl (fun _ hj _ => rd_wr_other t v fun e => hj (e ▸ hk)) fun _ hj => rd_wr_other t v fun e => hs (e ▸ hj))

theorem setMaster (h : HostWork ks s t) (m : Nat) {f : MasterImages → MasterImages} (hf : ∀ x, apartMarks (f x) = apartMarks x) :
    HostWork ks s (setMaster m f t) := by
  have hmasters : ∀ j, apartMarks (masterImages (Machine.setMaster m f t) j) = apartMarks (masterImages t j) := fun j => by
    rw [masterImages_setMaster]
    split
    · next hj => rw [hf, hj.1]
    · rfl
  have hcount := length_setMaster t m f
  refine h.trans ?_
  rw [setMaster_frame] at hmasters hcount ⊢
  exact ⟨⟨t.regs, t.sessions, _, t.log, t.outbox, rfl⟩, fun _ _ _ => rfl, fun _ _ => rfl, fun _ => rfl, fun _ _ => rfl, rfl,
    List.Subset.refl _, hmasters, hcount, fun _ => rfl⟩

theorem emit (h : HostWork ks s t) (hlog : Obj.LOG_DROPPED ∈ ks) (e : Ev) (inst : Nat) (args : List Byte) :
    HostWork ks s (emit e inst args t) := by
  refine h.trans ?_
  have hs : ¬ SessionKey Obj.LOG_DROPPED := by unfold SessionKey keySub; decide
  have hframe := emit_frame t e inst args
  exact ⟨⟨_, t.sessions, t.images, _, t.outbox, hframe⟩, fun j hj _ => rd_emit_other t e inst args fun e => hj (e ▸ hlog),
    fun j hj => rd_emit_other t e inst args fun e => hs (e ▸ hj), fun j => congrArg apartNotes (sess_congr (by rw [hframe]) j),
    fun j _ => sess_congr (by rw [hframe]) j, by rw [hframe], by rw [hframe]; exact List.Subset.refl _,
    fun m => congrArg apartMarks (masterImages_of_images (by rw [hframe]) m), by rw [hframe], fun hq => absurd hlog hq⟩

/-- A change of an open session's notifications. -/
theorem setNotes (h : HostWork ks s t) {k : Nat} (hopen : sessOpen s k = true) {f : Session → Session}
    (hf : ∀ x, apartNotes (f x) = apartNotes x) : HostWork ks s (setSess t k f) := by
  refine h.trans ⟨⟨t.regs, _, t.images, t.log, t.outbox, rfl⟩, fun _ _ _ => rfl, fun _ _ => rfl, fun j => ?_, fun j hj => ?_,
    List.length_modify _ _ _, List.Subset.refl _, fun _ => rfl, rfl, fun _ => rfl⟩
  · rw [sess_setSess]
    split
    · next hjk => rw [hf, hjk.1]
    · rfl
  · refine sess_setSess_other t f fun e => ?_
    rw [e, h.open_eq, hopen] at hj
    cases hj

/-- A frame sent to a session's host. -/
theorem sendFrame (h : HostWork ks s t) {k : Nat} (hk : k < 16) (pcp : Nat) (key : List Byte) (f : ObjFrame) :
    HostWork ks s (sendFrame (sessNet t k) pcp key f t) := by
  refine h.trans ?_
  unfold Machine.sendFrame
  split
  · have hport : Obj.FRAMES_OUT (sessNet t k).port ∈ noteKeys t :=
      List.mem_append_left _ (List.mem_map.mpr ⟨k, List.mem_range.mpr hk, rfl⟩)
    have hs : ¬ SessionKey (Obj.FRAMES_OUT (sessNet t k).port) := fun hkey => by
      obtain ⟨-, -, -, hle⟩ := hkey
      simp at hle
    exact ⟨⟨_, t.sessions, t.images, t.log, _, rfl⟩, fun _ _ hn => rd_countBy_other t _ _ fun e => hn (e ▸ hport),
      fun _ hj => rd_countBy_other t _ _ fun e => hs (e ▸ hj), fun _ => rfl, fun _ _ => rfl, rfl, List.subset_cons_self _ _,
      fun _ => rfl, rfl, fun _ => rfl⟩
  · exact refl t

end HostWork

/-! ### Notifications of a session (R298, R299) -/

section

variable {ks : List Nat} {k : Nat} {s : State}

theorem lt_of_sessOpen (h : sessOpen s k = true) : k < 16 := by
  unfold sessOpen at h
  simp only [Bool.and_eq_true, decide_eq_true_eq] at h
  exact h.1

/-- A notification joins those of a session. -/
def addNote (n : Notification) (x : Session) : Session := { x with notes := x.notes ++ [n] }

/-- A notification joins those of a session, which sends it under number `q`. -/
def sendNote (q : Nat) (n : Notification) (x : Session) : Session :=
  { x with notes := x.notes ++ [n], outSeq := q + 1, overflow := false }

/-- The notification as it goes out: numbered, and flagged when one was dropped before it. -/
def numberNote (x : Session) (n : Notification) : Notification := { n with seq := x.outSeq, flags := b2n x.overflow }

/-- The window of session `k` still lets the notification go out. -/
def mayGo (k : Nat) (n : Notification) (s : State) : Prop := n.seq = 0 ∧ sentCount (sess s k).notes < notifyWindow

theorem pumpNotes_stays {n : Notification} (h : ¬ mayGo k n s) (rest : List Notification) :
    pumpNotes k (n :: rest) s = pumpNotes k rest (setSess s k (addNote n)) := by
  unfold mayGo at h
  rw [pumpNotes]
  by_cases hseq : n.seq = 0
  · rw [if_neg (not_not_intro hseq), if_pos (by omega)]; rfl
  · rw [if_pos hseq]; rfl

/-- The state in which the notification goes out. -/
def outgoing (k : Nat) (n : Notification) (s : State) : State :=
  let t := setSess s k (sendNote (sess s k).outSeq (numberNote (sess s k) n))
  sendFrame (sessNet t k) (rd t Obj.PCP_NOTIFY) (sess t k).ks (notifyFrame (sess t k).ident (numberNote (sess s k) n)) t

theorem pumpNotes_goes {n : Notification} (h : mayGo k n s) (rest : List Notification) :
    pumpNotes k (n :: rest) s = pumpNotes k rest (outgoing k n s) := by
  obtain ⟨hseq, hroom⟩ := h
  rw [pumpNotes, if_neg (not_not_intro hseq), if_neg (by omega)]
  rfl

theorem outgoing_work {n : Notification} (hopen : sessOpen s k = true) : HostWork ks s (outgoing k n s) :=
  ((HostWork.refl s).setNotes (f := sendNote (sess s k).outSeq (numberNote (sess s k) n)) hopen fun _ => rfl).sendFrame
    (lt_of_sessOpen hopen) _ _ _

theorem pumpNotes_work (ns : List Notification) (hopen : sessOpen s k = true) : HostWork ks s (pumpNotes k ns s) := by
  induction ns generalizing s with
  | nil => exact .refl s
  | cons n rest ih =>
    by_cases hgo : mayGo k n s
    · rw [pumpNotes_goes hgo]
      have h : HostWork ks s (outgoing k n s) := outgoing_work hopen
      exact h.trans (ih ((h.open_eq k).trans hopen))
    · rw [pumpNotes_stays hgo]
      have h : HostWork ks s (setSess s k (addNote n)) := (HostWork.refl s).setNotes hopen fun _ => rfl
      exact h.trans (ih ((h.open_eq k).trans hopen))

theorem pumpSession_work (hopen : sessOpen s k = true) : HostWork ks s (pumpSession k s) := by
  have h : HostWork ks s (setSess s k fun x => { x with notes := [] }) := (HostWork.refl s).setNotes hopen fun _ => rfl
  exact h.trans (pumpNotes_work _ ((h.open_eq k).trans hopen))

/-- A notification that finds no room in session `k`. -/
def overflowed (k : Nat) (s : State) : State :=
  setSess (count s (Obj.NOTIFY_DROPPED k)) k (fun x => { x with overflow := true })

/-- A notification put into session `k`'s list. -/
def queued (k : Nat) (n : Notification) (s : State) : State := setSess s k (fun x => { x with notes := x.notes ++ [n] })

/-- The notification of a type, with its time and body, not sent yet. -/
def freshNote (kind stime : Nat) (body : List Byte) : Notification := { seq := 0, kind := kind, flags := 0, stime := stime, body := body }

/-- Session `k` takes a notification of the type. -/
def takesNote (k kind : Nat) (s : State) : Bool := sessOpen s k && bit (rd s (Obj.NOTIFY_MASK k)) (kind - 1)

theorem notifySession_masked {kind : Nat} (h : takesNote k kind s = false) (stime : Nat) (body : List Byte) :
    notifySession k kind stime body s = s := if_neg (by simpa [takesNote] using h)

theorem notifySession_full {kind : Nat} (h : takesNote k kind s = true) (hfull : notifyMax ≤ (sess s k).notes.length) (stime : Nat)
    (body : List Byte) : notifySession k kind stime body s = overflowed k s := by
  unfold notifySession
  unfold takesNote at h
  rw [if_pos h, if_pos hfull]
  rfl

theorem notifySession_queued {kind : Nat} (h : takesNote k kind s = true) (hroom : (sess s k).notes.length < notifyMax) (stime : Nat)
    (body : List Byte) : notifySession k kind stime body s = pumpSession k (queued k (freshNote kind stime body) s) := by
  unfold notifySession
  unfold takesNote at h
  rw [if_pos h, if_neg (by omega)]
  rfl

theorem overflowed_work (hopen : sessOpen s k = true) : HostWork ks s (overflowed k s) := by
  have hk := lt_of_sessOpen hopen
  have hmem : Obj.NOTIFY_DROPPED k ∈ noteKeys s := List.mem_append_right _ (List.mem_map.mpr ⟨k, List.mem_range.mpr hk, rfl⟩)
  have hs : ¬ SessionKey (Obj.NOTIFY_DROPPED k) := fun hkey => by
    obtain ⟨-, -, -, hle⟩ := hkey
    simp at hle
  refine HostWork.setNotes (.of_regs (a := (count s (Obj.NOTIFY_DROPPED k)).regs) rfl ?_ ?_) hopen fun _ => rfl
  · exact fun j _ hn => rd_countBy_other s _ _ fun e => hn (e ▸ hmem)
  · exact fun j hj => rd_countBy_other s _ _ fun e => hs (e ▸ hj)

theorem notifySession_work (kind stime : Nat) (body : List Byte) : HostWork ks s (notifySession k kind stime body s) := by
  by_cases hmask : takesNote k kind s = true
  · have hopen : sessOpen s k = true := (Bool.and_eq_true_iff.mp hmask).1
    by_cases hfull : notifyMax ≤ (sess s k).notes.length
    · rw [notifySession_full hmask hfull]
      exact overflowed_work hopen
    · rw [notifySession_queued hmask (by omega)]
      have h : HostWork ks s (queued k (freshNote kind stime body) s) := (HostWork.refl s).setNotes hopen fun _ => rfl
      exact h.trans (pumpSession_work ((h.open_eq k).trans hopen))
  · rw [notifySession_masked (by simpa using hmask)]
    exact .refl s

end

theorem notifyMaster_work {ks : List Nat} (m kind : Nat) (body : List Byte) (s : State) : HostWork ks s (notifyMaster m kind body s) := by
  refine HostWork.foldl (fun t j => ?_) _ s
  split
  · exact notifySession_work kind _ body
  · exact .refl t

/-! ### What a notification leaves of one session -/

/-- A notification as it stands after its session's window moved on: the same, or sent now with a number from `q` on. -/
def Numbered (q : Nat) (n n' : Notification) : Prop :=
  (n'.kind = n.kind ∧ n'.body = n.body ∧ n'.stime = n.stime) ∧ (n' = n ∨ (n.seq = 0 ∧ q ≤ n'.seq))

section

variable {k : Nat} {s : State}

theorem notes_addNote (n : Notification) (hk : k < s.sessions.length) :
    (sess (setSess s k (addNote n)) k).notes = (sess s k).notes ++ [n]
      ∧ (sess (setSess s k (addNote n)) k).outSeq = (sess s k).outSeq := by
  rw [sess_setSess, if_pos ⟨rfl, hk⟩]
  exact ⟨rfl, rfl⟩

theorem sess_sendFrame (net : NetAddr) (pcp : Nat) (ks : List Byte) (f : ObjFrame) (s : State) (j : Nat) :
    sess (sendFrame net pcp ks f s) j = sess s j := by
  unfold sendFrame
  split <;> rfl

theorem length_sendFrame (net : NetAddr) (pcp : Nat) (ks : List Byte) (f : ObjFrame) (s : State) :
    (sendFrame net pcp ks f s).sessions.length = s.sessions.length := by
  unfold sendFrame
  split <;> rfl

theorem notes_outgoing (n : Notification) (hk : k < s.sessions.length) :
    (sess (outgoing k n s) k).notes = (sess s k).notes ++ [numberNote (sess s k) n]
      ∧ (sess (outgoing k n s) k).outSeq = (sess s k).outSeq + 1 := by
  unfold outgoing
  rw [sess_sendFrame, sess_setSess, if_pos ⟨rfl, hk⟩]
  exact ⟨rfl, rfl⟩

theorem length_outgoing (n : Notification) : (outgoing k n s).sessions.length = s.sessions.length := by
  unfold outgoing
  rw [length_sendFrame]
  exact List.length_modify _ _ _

theorem Numbered.mono {p q : Nat} (hpq : p ≤ q) {n n' : Notification} (h : Numbered q n n') : Numbered p n n' :=
  ⟨h.1, h.2.imp_right fun g => ⟨g.1, hpq.trans g.2⟩⟩

/-- A session that works off its notifications keeps each in its place; those that go out have the session's next numbers. -/
theorem pumpNotes_notes (ns : List Notification) (hk : k < s.sessions.length) :
    ∃ ns', (sess (pumpNotes k ns s) k).notes = (sess s k).notes ++ ns' ∧ List.Forall₂ (Numbered (sess s k).outSeq) ns ns' := by
  induction ns generalizing s with
  | nil => exact ⟨[], (List.append_nil _).symm, .nil⟩
  | cons n rest ih =>
    by_cases hgo : mayGo k n s
    · obtain ⟨hnotes, hseq⟩ := notes_outgoing n hk
      obtain ⟨ns', heq, hall⟩ := ih (s := outgoing k n s) (by rwa [length_outgoing])
      refine ⟨numberNote (sess s k) n :: ns', ?_, .cons ⟨⟨rfl, rfl, rfl⟩, .inr ⟨hgo.1, Nat.le_refl _⟩⟩ ?_⟩
      · rw [pumpNotes_goes hgo, heq, hnotes, List.append_assoc, List.singleton_append]
      · exact hall.imp fun _ _ => Numbered.mono (hseq ▸ Nat.le_succ _)
    · obtain ⟨hnotes, hseq⟩ := notes_addNote n hk
      have hlen : (setSess s k (addNote n)).sessions.length = s.sessions.length := List.length_modify _ _ _
      obtain ⟨ns', heq, hall⟩ := ih (s := setSess s k (addNote n)) (by rwa [hlen])
      refine ⟨n :: ns', ?_, .cons ⟨⟨rfl, rfl, rfl⟩, .inl rfl⟩ (hseq ▸ hall)⟩
      rw [pumpNotes_stays hgo, heq, hnotes, List.append_assoc, List.singleton_append]

theorem pumpSession_notes (hk : k < s.sessions.length) :
    List.Forall₂ (Numbered (sess s k).outSeq) (sess s k).notes (sess (pumpSession k s) k).notes := by
  have hempty : sess (setSess s k fun x => { x with notes := [] }) k = { sess s k with notes := [] } := by
    rw [sess_setSess, if_pos ⟨rfl, hk⟩]
  obtain ⟨ns', heq, hall⟩ := pumpNotes_notes (s := setSess s k fun x => { x with notes := [] }) (sess s k).notes
    (by rw [show (setSess s k _).sessions.length = _ from List.length_modify _ _ _]; exact hk)
  rw [hempty] at heq hall
  unfold pumpSession
  rw [heq]
  exact hall

end

theorem Numbered.of_mem_left {q : Nat} {l l' : List Notification} (h : List.Forall₂ (Numbered q) l l') {n : Notification} (hn : n ∈ l) :
    ∃ n' ∈ l', Numbered q n n' := by
  induction h with
  | nil => cases hn
  | cons hhead _ ih =>
    rcases List.mem_cons.mp hn with rfl | hn
    · exact ⟨_, List.mem_cons_self, hhead⟩
    · obtain ⟨n', hmem, hrel⟩ := ih hn
      exact ⟨n', List.mem_cons_of_mem _ hmem, hrel⟩

theorem Numbered.of_mem_right {q : Nat} {l l' : List Notification} (h : List.Forall₂ (Numbered q) l l') {n' : Notification}
    (hn : n' ∈ l') : ∃ n ∈ l, Numbered q n n' := by
  induction h with
  | nil => cases hn
  | cons hhead _ ih =>
    rcases List.mem_cons.mp hn with rfl | hn
    · exact ⟨_, List.mem_cons_self, hhead⟩
    · obtain ⟨n, hmem, hrel⟩ := ih hn
      exact ⟨n, List.mem_cons_of_mem _ hmem, hrel⟩

end Sys2Proof.Proofs

namespace Sys2Proof.Proofs

open Sys2Proof.Machine Sys2Proof.Claims Sys2Proof.Laws

/-! ### A notification to every session, as one session sees it (R298, R299) -/

/-- Session `k` and its count of dropped notifications stand. -/
def Spares (k : Nat) (s t : State) : Prop := sess t k = sess s k ∧ rd t (Obj.NOTIFY_DROPPED k) = rd s (Obj.NOTIFY_DROPPED k)

section

variable {j k : Nat} {s : State}

theorem Spares.refl (k : Nat) (s : State) : Spares k s s := ⟨rfl, rfl⟩

theorem Spares.trans {t u : State} (h : Spares k s t) (g : Spares k t u) : Spares k s u := ⟨g.1.trans h.1, g.2.trans h.2⟩

theorem spares_setSess (hkj : k ≠ j) (f : Session → Session) : Spares k s (setSess s j f) := ⟨sess_setSess_other s f hkj, rfl⟩

theorem spares_sendFrame (net : NetAddr) (pcp : Nat) (ks : List Byte) (f : ObjFrame) : Spares k s (sendFrame net pcp ks f s) := by
  refine ⟨sess_sendFrame net pcp ks f s k, ?_⟩
  unfold sendFrame
  split
  · exact rd_countBy_other s _ _ (ne_of_keySub (by simp))
  · rfl

theorem spares_pumpNotes (hkj : k ≠ j) (ns : List Notification) (s : State) : Spares k s (pumpNotes j ns s) := by
  induction ns generalizing s with
  | nil => exact .refl k s
  | cons n rest ih =>
    by_cases hgo : mayGo j n s
    · rw [pumpNotes_goes hgo]
      refine .trans ?_ (ih _)
      exact (spares_setSess hkj _).trans (spares_sendFrame _ _ _ _)
    · rw [pumpNotes_stays hgo]
      exact (spares_setSess hkj _).trans (ih _)

theorem spares_notifySession (hkj : k ≠ j) (kind stime : Nat) (body : List Byte) (s : State) :
    Spares k s (notifySession j kind stime body s) := by
  by_cases hmask : takesNote j kind s = true
  · by_cases hfull : notifyMax ≤ (sess s j).notes.length
    · rw [notifySession_full hmask hfull]
      refine Spares.trans (t := count s (Obj.NOTIFY_DROPPED j)) ⟨rfl, rd_countBy_other s _ _ ?_⟩ (spares_setSess hkj _)
      simp only [Obj.NOTIFY_DROPPED]
      omega
    · rw [notifySession_queued hmask (by omega)]
      exact ((spares_setSess hkj _).trans (spares_setSess hkj _)).trans (spares_pumpNotes hkj _ _)
  · rw [notifySession_masked (by simpa using hmask)]
    exact .refl k s

theorem spares_foldl {l : List Nat} (hl : k ∉ l) (kind stime : Nat) (body : List Byte) (s : State) :
    Spares k s (l.foldl (fun t j => notifySession j kind stime body t) s) :=
  List.foldlRecOn (motive := Spares k s) l _ (.refl k s) fun t ht _ hj =>
    ht.trans (spares_notifySession (ne_of_mem_of_not_mem hj hl).symm kind stime body t)

/-- To one session the notification of all of them is its own one, met in a state with its record, its objects and its count. -/
theorem notifyAll_one (hk : k < 16) (kind stime : Nat) (body : List Byte) (s : State) :
    ∃ u, HostWork [] s u ∧ Spares k s u ∧ Spares k (notifySession k kind stime body u) (notifyAll kind stime body s) := by
  obtain ⟨l₁, l₂, hsplit, hl₁⟩ := List.eq_append_cons_of_mem (List.mem_range.mpr hk)
  have hl₂ : k ∉ l₂ := by
    have hnodup : (l₁ ++ k :: l₂).Nodup := hsplit ▸ List.nodup_range
    exact (List.nodup_cons.mp (List.nodup_append.mp hnodup).2.1).1
  refine ⟨_, HostWork.foldl (fun _ _ => notifySession_work kind stime body) l₁ s, spares_foldl hl₁ kind stime body s, ?_⟩
  unfold notifyAll allSessions
  rw [hsplit, List.foldl_append, List.foldl_cons]
  exact spares_foldl hl₂ kind stime body _

theorem takesNote_of_work {ks : List Nat} {u : State} (hk : k < 16) (kind : Nat) (h : HostWork ks s u) :
    takesNote k kind u = takesNote k kind s := by
  unfold takesNote
  rw [h.open_eq, h.session (Obj.NOTIFY_MASK k) (sessionKey_of hk (by decide))]

theorem notify_completes {kind : Nat} {body : List Byte} {P : State → Prop} (hl : alive s .lookout = true)
    (h : P (notifyAll kind (stimeNow s) body s)) : Completes (.notify kind body) s P :=
  ⟨_, congrArg Host.Outcome.next (whenAlive_on _ hl), h⟩

theorem notify_queues {kind : Nat} {body : List Byte} (hl : alive s .lookout = true) (hk : k < 16) (hlen : k < s.sessions.length)
    (htakes : takesNote k kind s = true) (hroom : (sess s k).notes.length < 64) :
    Completes (.notify kind body) s fun t =>
      (∃ n, n ∈ (sess t k).notes ∧ n.kind = kind ∧ n.body = body ∧ n.stime = stimeNow s)
        ∧ (sess t k).notes.length = (sess s k).notes.length + 1 := by
  obtain ⟨u, hwork, hbefore, hafter⟩ := notifyAll_one hk kind (stimeNow s) body s
  rw [notifySession_queued ((takesNote_of_work hk kind hwork).trans htakes) (by rw [hbefore.1]; exact hroom)] at hafter
  have hu : k < u.sessions.length := by rw [hwork.length]; exact hlen
  have hqueued : sess (queued k (freshNote kind (stimeNow s) body) u) k
      = { sess s k with notes := (sess s k).notes ++ [freshNote kind (stimeNow s) body] } := by
    unfold queued
    rw [sess_setSess, if_pos ⟨rfl, hu⟩, hbefore.1]
  have hnotes := pumpSession_notes (k := k) (s := queued k (freshNote kind (stimeNow s) body) u)
    (by rw [show (queued k _ u).sessions.length = _ from List.length_modify _ _ _]; exact hu)
  rw [hqueued, ← hafter.1] at hnotes
  refine notify_completes hl ⟨?_, ?_⟩
  · obtain ⟨n, hmem, ⟨hkind, hbody, hstime⟩, -⟩ := Numbered.of_mem_left hnotes
      (List.mem_append_right _ (List.mem_singleton_self _))
    exact ⟨n, hmem, hkind, hbody, hstime⟩
  · rw [← hnotes.length_eq, List.length_append]
    rfl

theorem notify_passes {kind : Nat} {body : List Byte} (hl : alive s .lookout = true)
    (hmask : sessOpen s k = false ∨ bit (rd s (Obj.NOTIFY_MASK k)) (kind - 1) = false) :
    Completes (.notify kind body) s fun t => sess t k = sess s k := by
  refine notify_completes hl ?_
  by_cases hk : k < 16
  · obtain ⟨u, hwork, hbefore, hafter⟩ := notifyAll_one hk kind (stimeNow s) body s
    have htakes : takesNote k kind s = false := by
      unfold takesNote
      rcases hmask with h | h <;> simp [h]
    rw [notifySession_masked ((takesNote_of_work hk kind hwork).trans htakes)] at hafter
    exact (hbefore.trans hafter).1
  · exact (spares_foldl (fun hmem => hk (List.mem_range.mp hmem)) kind _ body s).1

theorem notify_overflows {kind : Nat} {body : List Byte} (hl : alive s .lookout = true) (hk : k < 16) (hlen : k < s.sessions.length)
    (htakes : takesNote k kind s = true) (hfull : 64 ≤ (sess s k).notes.length) :
    Completes (.notify kind body) s fun t => Counted 32 (Obj.NOTIFY_DROPPED k) s t ∧ (sess t k).overflow = true := by
  obtain ⟨u, hwork, hbefore, hafter⟩ := notifyAll_one hk kind (stimeNow s) body s
  rw [notifySession_full ((takesNote_of_work hk kind hwork).trans htakes) (by rw [hbefore.1]; exact hfull)] at hafter
  have hu : k < u.sessions.length := by rw [hwork.length]; exact hlen
  refine notify_completes hl ⟨?_, ?_⟩
  · unfold Counted
    rw [hafter.2, ← hbefore.2]
    exact counted_count (Obj.NOTIFY_DROPPED k) u
  · rw [hafter.1]
    unfold overflowed
    rw [sess_setSess, if_pos ⟨rfl, hu⟩]

/-! ### Acknowledged and sent again (R299) -/

/-- The notifications an acknowledgement up to `q` leaves. -/
def dropAcked (q : Nat) (x : Session) : Session := { x with notes := x.notes.filter (fun n => decide (n.seq = 0) || decide (q < n.seq)) }

theorem takeFrame_ack {net : NetAddr} {f : ObjFrame} (h : Heard k net f s) (hsvc : f.service = 0x21) :
    takeFrame net f s = pumpSession k (setSess (reached k net s) k (dropAcked f.arg)) := by
  rw [takeFrame_heard h]
  unfold routeFrame
  rw [if_pos hsvc]
  rfl

theorem notifyAck_completes {net : NetAddr} {f : ObjFrame} (h : Heard k net f s) (hsvc : f.service = 0x21)
    (hseq : f.arg < (sess s k).outSeq) :
    Completes (.notifyAck net f) s fun t =>
      (∀ n, n ∈ (sess t k).notes → n.seq = 0 ∨ f.arg < n.seq)
        ∧ ∀ n, n ∈ (sess s k).notes → f.arg < n.seq → n ∈ (sess t k).notes := by
  have hlen : k < (reached k net s).sessions.length := by rw [reached_frame]; exact h.2.1
  have hacked : sess (setSess (reached k net s) k (dropAcked f.arg)) k = dropAcked f.arg (sess s k) := by
    rw [sess_setSess, if_pos ⟨rfl, hlen⟩, sess_reached]
  have hnotes := pumpSession_notes (k := k) (s := setSess (reached k net s) k (dropAcked f.arg))
    (by rw [show (setSess _ k (dropAcked f.arg)).sessions.length = _ from List.length_modify _ _ _]; exact hlen)
  rw [hacked] at hnotes
  refine ⟨_, exec_request_of_service (net := net) (code := 0x21) (by simp [requestRows]) hsvc s, ?_⟩
  rw [takeFrame_ack h hsvc]
  constructor
  · intro n hn
    obtain ⟨m, hm, -, hsame | ⟨-, hnew⟩⟩ := Numbered.of_mem_right hnotes hn
    · have hleft : (decide (m.seq = 0) || decide (f.arg < m.seq)) = true := (List.mem_filter.mp hm).2
      rw [hsame]
      simpa using hleft
    · exact .inr (Nat.lt_of_lt_of_le hseq hnew)
  · intro n hn hlater
    have hmem : n ∈ (dropAcked f.arg (sess s k)).notes := List.mem_filter.mpr ⟨hn, by simp [hlater]⟩
    obtain ⟨m, hm, -, hsame | ⟨hzero, -⟩⟩ := Numbered.of_mem_left hnotes hmem
    · exact hsame ▸ hm
    · omega

/-- Frames have been sent to hosts, and counted. -/
def OnlySent (s t : State) : Prop := t = { s with regs := t.regs, outbox := t.outbox } ∧ ∀ j, keySub j ≠ 10 → rd t j = rd s j

theorem OnlySent.sendFrame (net : NetAddr) (pcp : Nat) (ks : List Byte) (f : ObjFrame) {t : State} (h : OnlySent s t) :
    OnlySent s (sendFrame net pcp ks f t) := by
  obtain ⟨hframe, hobj⟩ := h
  unfold Machine.sendFrame
  split
  · refine ⟨by rw [hframe]; rfl, fun j hj => (rd_countBy_other t _ _ ?_).trans (hobj j hj)⟩
    exact ne_of_keySub (by simpa using hj)
  · exact ⟨hframe, hobj⟩

/-- Where session `k` is reached, and whether its host can be answered, does not turn on what is counted. -/
theorem OnlySent.place {t : State} (h : OnlySent s t) (k : Nat) :
    sessNet t k = sessNet s k ∧ ∀ net : NetAddr, reachable t net.port net.addr = reachable s net.port net.addr := by
  obtain ⟨-, hobj⟩ := h
  constructor
  · unfold sessNet outward vlanTag
    rw [hobj (Obj.SESSION_PORT k) (by simp), hobj (Obj.SESSION_ADDRESS k) (by simp), hobj (Obj.SESSION_UDP k) (by simp),
      hobj Obj.OBJECT_UDP_PORT (by decide), hobj (Obj.VLAN_ID _) (by simp)]
  · intro net
    unfold reachable
    rw [hobj (Obj.IP_GATEWAY _) (by simp), hobj (Obj.IP_MASK _) (by simp), hobj (Obj.IP_ADDRESS _) (by simp)]

/-- Session `k`'s notifications sent again. -/
def resendNotes (k : Nat) (ns : List Notification) (s : State) : State :=
  ns.foldl (fun t n => sendFrame (sessNet t k) (rd t Obj.PCP_NOTIFY) (sess t k).ks (notifyFrame (sess t k).ident n) t) s

theorem resendNotes_sent (ns : List Notification) (hreach : reachable s (sessNet s k).port (sessNet s k).addr = true) :
    OnlySent s (resendNotes k ns s) ∧ (resendNotes k ns s).outbox.length = s.outbox.length + ns.length := by
  induction ns generalizing s with
  | nil => exact ⟨⟨rfl, fun _ _ => rfl⟩, rfl⟩
  | cons n rest ih =>
    have hself : OnlySent s s := ⟨rfl, fun _ _ => rfl⟩
    generalize hu : sendFrame (sessNet s k) (rd s Obj.PCP_NOTIFY) (sess s k).ks (notifyFrame (sess s k).ident n) s = u
    have hsent : OnlySent s u := hu ▸ hself.sendFrame _ _ _ _
    have hlen : u.outbox.length = s.outbox.length + 1 := by
      rw [← hu]
      unfold sendFrame
      rw [if_pos hreach]
      rfl
    obtain ⟨hnet, hsame⟩ := hsent.place k
    obtain ⟨⟨hframe, hobj⟩, hcount⟩ := ih (s := u) (by rw [hnet, hsame, hreach])
    have hcons : resendNotes k (n :: rest) s = resendNotes k rest u := by rw [← hu]; rfl
    rw [hcons]
    refine ⟨⟨by rw [hframe, hsent.1], fun j hj => (hobj j hj).trans (hsent.2 j hj)⟩, ?_⟩
    rw [hcount, hlen, List.length_cons]
    omega

theorem notifyRetryExpiry_completes (hl : alive s .lookout = true) (hopen : sessOpen s k = true)
    (hreach : reachable s (sessNet s k).port (sessNet s k).addr = true) :
    Completes (.notifyRetryExpiry k) s fun t =>
      t.outbox.length = s.outbox.length + ((sess s k).notes.filter (fun n => n.seq ≠ 0)).length
        ∧ t = { s with regs := t.regs, outbox := t.outbox } := by
  obtain ⟨⟨hframe, -⟩, hcount⟩ := resendNotes_sent ((sess s k).notes.filter (fun n => n.seq ≠ 0)) hreach
  refine ⟨_, ?_, hcount, hframe⟩
  show execNotifyRetryExpiry k s = _
  unfold execNotifyRetryExpiry
  rw [whenAlive_on _ hl, if_pos hopen]
  rfl

end

end Sys2Proof.Proofs

namespace Sys2Proof.Proofs

open Sys2Proof.Machine Sys2Proof.Claims Sys2Proof.Laws

/-! ### The command token passes (R306) -/

/-- The objects that show the command token. -/
abbrev tokenKeys : List Nat := [Obj.TOKEN_HOLDER, Obj.TOKEN_TRANSFERS]

/-- The token has passed to `new`, which is counted; beside that only notifications went out. -/
structure Passed (new : Nat) (s t : State) : Prop where
  /-- what may change -/
  work : HostWork tokenKeys s t
  /-- the holder -/
  holder : rd t Obj.TOKEN_HOLDER = new
  /-- the count -/
  counted : Counted 32 Obj.TOKEN_TRANSFERS s t

theorem not_sessionKey_of_lt {j : Nat} (h : j < 0x111001) : ¬ SessionKey j := fun hkey => by
  obtain ⟨hlow, -⟩ := hkey
  omega

/-- The token shown with its new holder, and the pass counted. -/
def showHolder (new : Nat) (s : State) : State := count (wr s Obj.TOKEN_HOLDER new) Obj.TOKEN_TRANSFERS

/-- A master's output images apply from a cycle on. -/
def applyFromCycle (cycle : Nat) (x : MasterImages) : MasterImages := { x with applyFrom := cycle }

theorem showHolder_work (new : Nat) (s : State) : HostWork tokenKeys s (showHolder new s) :=
  ((HostWork.refl s).wr (by simp) (not_sessionKey_of_lt (by decide)) new).wr (by simp) (not_sessionKey_of_lt (by decide)) _

theorem passToken_eq (new reason : Nat) (s : State) :
    ∃ cycle body, passToken new reason s =
      notifyMaster 2 0x04 body (notifyMaster 1 0x04 body (setMaster new (applyFromCycle cycle) (showHolder new s))) := ⟨_, _, rfl⟩

theorem passToken_passed (new reason : Nat) (s : State) : Passed new s (passToken new reason s) := by
  obtain ⟨cycle, body, hpass⟩ := passToken_eq new reason s
  rw [hpass]
  have hshown : HostWork tokenKeys s (setMaster new (applyFromCycle cycle) (showHolder new s)) :=
    (showHolder_work new s).setMaster new (f := applyFromCycle cycle) fun _ => rfl
  have hrd : ∀ j, rd (setMaster new (applyFromCycle cycle) (showHolder new s)) j = rd (showHolder new s) j := fun j => by
    rw [setMaster_frame]
    rfl
  generalize setMaster new (applyFromCycle cycle) (showHolder new s) = u at hshown hrd
  have htold : HostWork [] u (notifyMaster 2 0x04 body (notifyMaster 1 0x04 body u)) :=
    (notifyMaster_work 1 0x04 body u).trans (notifyMaster_work 2 0x04 body _)
  refine ⟨hshown.trans (htold.mono (List.nil_subset _)), ?_, ?_⟩
  · rw [htold.objects _ List.not_mem_nil (not_mem_noteKeys (by decide) (by decide)), hrd, showHolder,
      rd_count_other _ (by decide), rd_wr_same]
  · unfold Counted
    rw [htold.objects _ List.not_mem_nil (not_mem_noteKeys (by decide) (by decide)), hrd, showHolder, rd_count_same,
      rd_wr_other _ _ (by decide)]

theorem sessMaster_congr {s t : State} (h : ∀ j, SessionKey j → rd t j = rd s j) {k : Nat} (hk : k < 16) :
    sessMaster t k = sessMaster s k := by
  unfold sessMaster
  exact h _ (sessionKey_of hk (by decide))

theorem masterOpen_congr {s t : State} (h : ∀ j, SessionKey j → rd t j = rd s j) (m : Nat) : masterOpen t m = masterOpen s m := by
  unfold masterOpen
  refine Bool.eq_iff_iff.mpr ?_
  simp only [List.any_eq_true]
  refine exists_congr fun k => and_congr_right fun hk => ?_
  rw [sessOpen_congr h, sessMaster_congr h (lt_of_mem_allSessions hk)]

/-- Who has the token once its holder fell silent. -/
def heirOf (s : State) : Nat :=
  if rdBool s Obj.TOKEN_AUTO_TAKE && masterOpen s (3 - rd s Obj.TOKEN_HOLDER) then 3 - rd s Obj.TOKEN_HOLDER else 0

/-- The event that the holder is lost. -/
def tokenLostEvent (s : State) : State := emit .commandTokenLost noInst (leBytes 1 (rd s Obj.TOKEN_HOLDER)) s

theorem tokenLostEvent_work (s : State) : HostWork [Obj.LOG_DROPPED] s (tokenLostEvent s) :=
  (HostWork.refl s).emit List.mem_cons_self _ _ _

theorem loseToken_passed {s : State} (h : rd s Obj.TOKEN_HOLDER ≠ 0) : Passed (heirOf s) (tokenLostEvent s) (loseToken s) := by
  have hwork := tokenLostEvent_work s
  have hauto : rdBool (tokenLostEvent s) Obj.TOKEN_AUTO_TAKE = rdBool s Obj.TOKEN_AUTO_TAKE := by
    unfold rdBool
    rw [hwork.objects _ (by decide) (not_mem_noteKeys (by decide) (by decide))]
  have hlose : loseToken s = passToken (heirOf s) trTimeout (tokenLostEvent s) := by
    unfold loseToken heirOf
    dsimp only
    rw [if_neg h, show emit .commandTokenLost noInst (leBytes 1 (rd s Obj.TOKEN_HOLDER)) s = tokenLostEvent s from rfl, hauto,
      masterOpen_congr hwork.session]
    split <;> rfl
  rw [hlose]
  exact passToken_passed _ _ _

theorem loseToken_free {s : State} (h : rd s Obj.TOKEN_HOLDER = 0) : loseToken s = s := if_pos h

theorem loseToken_work (s : State) : HostWork (Obj.LOG_DROPPED :: tokenKeys) s (loseToken s) := by
  by_cases h : rd s Obj.TOKEN_HOLDER = 0
  · rw [loseToken_free h]
    exact .refl s
  · exact ((tokenLostEvent_work s).mono (by simp)).trans ((loseToken_passed h).work.mono (by simp))

theorem tokenTimeoutExpiry_completes {s : State} (hl : alive s .lookout = true) (h : rd s Obj.TOKEN_HOLDER ≠ 0) :
    Completes .tokenTimeoutExpiry s fun t =>
      rd t Obj.TOKEN_HOLDER =
          (if rdBool s Obj.TOKEN_AUTO_TAKE && masterOpen s (3 - rd s Obj.TOKEN_HOLDER) then 3 - rd s Obj.TOKEN_HOLDER else 0)
        ∧ Counted 32 Obj.TOKEN_TRANSFERS s t ∧ Raised .commandTokenLost noInst s t := by
  have hpassed := loseToken_passed h
  refine ⟨loseToken s, congrArg Host.Outcome.next (whenAlive_on _ hl), hpassed.holder, ?_, ?_⟩
  · unfold Counted
    rw [← (tokenLostEvent_work s).objects _ (by decide) (not_mem_noteKeys (by decide) (by decide))]
    exact hpassed.counted
  · exact raised_congr (raised_emit _ _ _ s) rfl (hpassed.work.quiet (by decide))

theorem tokenTimeoutExpiry_free {s : State} (h : rd s Obj.TOKEN_HOLDER = 0) : exec .tokenTimeoutExpiry s = .next s :=
  congrArg Host.Outcome.next (whenAlive_self (loseToken_free h))

end Sys2Proof.Proofs

namespace Sys2Proof.Proofs

open Sys2Proof.Machine Sys2Proof.Claims Sys2Proof.Laws

/-! ### A write of an object the token does not govern (R295, R305) -/

/-- The note of a holder's write plays no part: what the object's rule answers is the write's answer. -/
theorem writeObject_exempt {s : State} {k seq key : Nat} {bs : List Byte} {r : ObjRow} {w : WriteResult}
    (h : (writeChecks s k (keyIndex key) (keySub key) bs).2 = 0) (hr : findRow (keyIndex key) (keySub key) = some r)
    (hexempt : tokenExempt key = true) (hw : applyWrite k seq key r bs s = w) :
    writeObject k seq (keyIndex key) (keySub key) bs s = w := by
  have hgoverns : tokenGoverns s k key = false := by
    unfold tokenGoverns
    rw [hexempt]
    simp
  unfold writeObject
  simp only [presentRow_of_checks h hr, h, objKey_keyIndex_keySub, hw, hgoverns, Bool.false_and]
  rw [if_neg (by simp), if_neg (by simp)]

section

variable {k key code : Nat} {bs : List Byte} {s w : State}

theorem samePath_booked (h : Ready k s) : SamePath (sessNet s k).port s (booked k s) := by
  obtain ⟨-, hport, -⟩ := bounds_of_ready h
  exact fun j hj => rd_booked_path hport hj

theorem booked_eq_begun (k key : Nat) (bs : List Byte) (s : State) :
    booked k s = begun k (namedFrame s k 0x11 key bs) (countIn (sessNet s k).port s) := rfl

/-- The main rule of a write that a named command stands for: it is enough to know what the write answers in the state in which the
request is booked, and that nothing more is due. -/
theorem namedRequest_served (h : Ready k s)
    (hw : writeObject k ((sess s k).execd + 1) (keyIndex key) (keySub key) bs (booked k s) = (w, code))
    (hcalm : Calm k w) (hn : reachable w (sessNet s k).port (sessNet s k).addr = true) :
    Served k (sessNet s k) (namedFrame s k 0x11 key bs) (sess s k) (.plain code) w (namedRequest k 0x11 key bs s) := by
  obtain ⟨hk, hport, -⟩ := bounds_of_ready h
  obtain ⟨-, -, hup, -, hopen, -⟩ := h
  have hrun : namedRequest k 0x11 key bs s
      = drainHeld k 16 (executeRequest k (sessNet s k) (namedFrame s k 0x11 key bs) (countIn (sessNet s k).port s)) := by
    unfold namedRequest
    exact if_pos (by simp [hup, sessOpen, hk, hopen])
  have hserve : serve k (namedFrame s k 0x11 key bs) (begun k (namedFrame s k 0x11 key bs) (countIn (sessNet s k).port s))
      = (w, .plain code) := by
    rw [serve_write rfl, ← booked_eq_begun]
    exact congrArg (fun x : WriteResult => (x.1, Answer.plain x.2)) hw
  have hservice : (namedFrame s k 0x11 key bs).service ≠ 0x03 := by
    unfold namedFrame
    simp
  have hserved := executeRequest_served hport hservice hserve hcalm hn
  rw [hrun]
  exact hserved

/-- It is answered to where the session is reached. -/
theorem answered_of_served (ho : outward w (sessNet s k) = sessNet s k) {t : State}
    (hserved : Served k (sessNet s k) (namedFrame s k 0x11 key bs) (sess s k) (.plain code) w t) : Answered k code s t := by
  obtain ⟨pcp, g, rest, hout, -, hseq, -, hstatus, -⟩ := hserved.replied
  rw [hserved.path.outward, ho] at hout
  exact ⟨pcp, g, rest, hout, hstatus, hseq⟩

/-! ### Such a write that works among the sessions -/

theorem calm_booked (h : Ready k s) : Calm k (booked k s) := by
  obtain ⟨hk, hport, -⟩ := bounds_of_ready h
  have hpath := samePath_booked h
  obtain ⟨-, -, -, -, -, hheld, hreset, hclosed, -⟩ := h
  refine ⟨?_, fun j hj => ?_, ?_⟩
  · rw [booked_frame]; exact hreset
  · rw [hpath.state hj]; exact hclosed j hj
  · rw [sess_booked_field k s Session.held fun _ _ => rfl]; exact hheld

theorem not_mem_hostKeys_of {j : Nat} (hsub : keySub j ≤ 7) (hj : j < 0x225001) : j ∉ hostKeys k s := by
  have hpmc : j ∉ pmcKeys := not_mem_pmcKeys (.inl hj)
  simp only [hostKeys, List.mem_cons, not_or]
  simp only [pmcKeys, List.mem_cons, not_or] at hpmc
  refine ⟨ne_of_keySub ?_, ne_of_keySub ?_, ne_of_keySub ?_, hpmc⟩ <;> rw [keySub_add_mul] <;> omega

theorem rd_booked_sessionKey {j : Nat} (hj : SessionKey j) : rd (booked k s) j = rd s j := by
  obtain ⟨hlow, hhigh, hsub, hle⟩ := hj
  exact rd_booked_of_not_mem (not_mem_hostKeys_of hle (by omega))

theorem HostWork.calm {ks : List Nat} {u : State} (h : HostWork ks u w) (hcalm : Calm k u) : Calm k w := by
  have hheld : (apartNotes (sess w k)).held = (apartNotes (sess u k)).held := congrArg Session.held (h.records k)
  refine ⟨?_, fun j hj => ?_, hheld.trans hcalm.held⟩
  · obtain ⟨_, _, _, _, _, hframe⟩ := h.changes
    rw [hframe]; exact hcalm.reset
  · rw [h.session _ (sessionKey_of hj (by decide))]; exact hcalm.closed j hj

/-- A port's addresses, its host's VLAN and the sessions' states stand, when none of them is among the objects. -/
theorem HostWork.samePath {ks : List Nat} {u : State} {port : Nat} (hp : port < 3) (h : HostWork ks u w)
    (hks : ∀ j ∈ ks, j ∉ pathKeys port) : SamePath port u w := by
  intro j hj
  refine h.objects j (fun hmem => hks j hmem hj) fun hnote => ?_
  exact not_mem_pathKeys_of hp (by rcases keySub_of_mem_noteKeys hnote with e | e <;> simp [e]) hj

/-- What a write that works among the sessions leaves, whatever it answers. -/
theorem namedRequest_hostWork {ks : List Nat} {r : ObjRow} (h : MayWrite k key bs s)
    (hrow : findRow (keyIndex key) (keySub key) = some r) (hexempt : tokenExempt key = true)
    (hw : applyWrite k ((sess s k).execd + 1) key r bs (booked k s) = (w, code)) (hwork : HostWork ks (booked k s) w)
    (hks : ∀ j ∈ ks, j ∉ pathKeys (sessNet s k).port) :
    Served k (sessNet s k) (namedFrame s k 0x11 key bs) (sess s k) (.plain code) w (namedRequest k 0x11 key bs s)
      ∧ Answered k code s (namedRequest k 0x11 key bs s) := by
  obtain ⟨hready, hpass⟩ := h
  obtain ⟨-, hport, -⟩ := bounds_of_ready hready
  have hpath : SamePath (sessNet s k).port s w := (samePath_booked hready).trans (hwork.samePath hport hks)
  have ⟨_, _, _, hreach, _⟩ := hready
  have hserved := namedRequest_served hready (writeObject_exempt hpass hrow hexempt hw) (hwork.calm (calm_booked hready))
    ((hpath.reachable _).trans hreach)
  exact ⟨hserved, answered_of_served (hpath.outward.trans (outward_sessNet s k)) hserved⟩

/-- As `namedRequest_hostWork`, for a write answered with status 0. -/
theorem namedRequest_told {ks : List Nat} {r : ObjRow} (h : MayWrite k key bs s)
    (hrow : findRow (keyIndex key) (keySub key) = some r) (hexempt : tokenExempt key = true)
    (hw : applyWrite k ((sess s k).execd + 1) key r bs (booked k s) = (w, 0)) (hwork : HostWork ks (booked k s) w)
    (hks : ∀ j ∈ ks, j ∉ pathKeys (sessNet s k).port) {t : State} (ht : namedRequest k 0x11 key bs s = t) :
    Told k ks { s with log := t.log } s t ∧ (∀ j, j ∉ hostKeys k s → rd t j = rd w j) ∧ t.log = w.log := by
  obtain ⟨hserved, hans⟩ := namedRequest_hostWork h hrow hexempt hw hwork hks
  rw [ht] at hserved hans
  have hout : ∀ j, j ∉ hostKeys k s → rd t j = rd w j := fun j hj =>
    hserved.accepted rfl j (by
      simp only [hostKeys, List.mem_cons, not_or] at hj
      simpa using hj.2.1)
  have hlog : t.log = w.log := by rw [hserved.changes]
  refine ⟨⟨hans, ?_, fun j hj hhost hnote => ?_⟩, hout, hlog⟩
  · obtain ⟨a, b, c, d, e, hframe⟩ := hwork.changes
    have hpmc : t.pmc = (booked k s).pmc := by rw [hserved.changes, hframe]
    have himages : t.images = c := by rw [hserved.changes, hframe]
    have hlog' : t.log = d := by rw [hlog, hframe]
    rw [hpmc, himages, hlog']
    refine hserved.changes.trans ?_
    generalize t.regs = a', t.sessions = b', t.outbox = e'
    rw [hframe, booked_frame]
  · rw [hout j hhost, hwork.objects j hj ?_, rd_booked_of_not_mem hhost]
    rw [noteKeys_congr fun _ => rd_booked_sessionKey]
    exact hnote

end

/-! ### The writes that pass the token (R306, R315) -/

theorem volatile_tokenRequest : Volatile Obj.TOKEN_REQUEST .u8 := by decide +kernel
theorem volatile_tokenRelease : Volatile Obj.TOKEN_RELEASE .u8 := by decide +kernel
theorem volatile_sessionEvict : Volatile Obj.SESSION_EVICT .u8 := by decide +kernel

/-- A write of a host-side object that is not P. -/
theorem applyWrite_hostSide {k seq key : Nat} {r : ObjRow} {bs : List Byte} {s : State} (hp : r.persist = false)
    (hix : 0x1100 ≤ keyIndex key ∧ keyIndex key ≤ 0x11FF) : applyWrite k seq key r bs s = writeHostSide k seq key bs s := by
  unfold applyWrite
  rw [if_neg (by simp [hp]), if_neg ?_, if_pos hix]
  rintro rfl
  exact absurd hix (by decide)

theorem applyWrite_tokenRequest {k seq v : Nat} {r : ObjRow} {s : State} (hp : r.persist = false) (hv : v < 256) :
    applyWrite k seq Obj.TOKEN_REQUEST r (namedBytes Obj.TOKEN_REQUEST v) s = writeTokenRequest k v s := by
  have hraw : writeRaw Obj.TOKEN_REQUEST (namedBytes Obj.TOKEN_REQUEST v) = v := leNat_namedBytes volatile_tokenRequest hv
  rw [applyWrite_hostSide hp (by decide)]
  unfold writeHostSide
  rw [hraw]
  rfl

theorem applyWrite_tokenRelease {k seq : Nat} {r : ObjRow} {bs : List Byte} {s : State} (hp : r.persist = false) :
    applyWrite k seq Obj.TOKEN_RELEASE r bs s = writeTokenRelease k s := by
  rw [applyWrite_hostSide hp (by decide)]
  rfl

section

variable {k m : Nat} {s : State}

theorem writeTokenRequest_free (hm : sessMaster s k = m) (hab : m = 1 ∨ m = 2) (hfree : rd s Obj.TOKEN_HOLDER = 0) :
    writeTokenRequest k m s = (passToken m trRequest s, 0) := by
  unfold writeTokenRequest
  dsimp only
  rw [hm, if_neg (by omega), if_pos rfl, if_pos hfree]
  rfl

theorem writeTokenRequest_held (hm : sessMaster s k = m) (hab : m = 1 ∨ m = 2) (hholds : rd s Obj.TOKEN_HOLDER = m) :
    writeTokenRequest k m s = (s, 0) := by
  unfold writeTokenRequest
  dsimp only
  rw [hm, if_neg (by omega), if_pos rfl, if_neg (by omega), if_pos hholds]
  rfl

theorem writeTokenRequest_other (hm : sessMaster s k = m) (hab : m = 1 ∨ m = 2) (hother : rd s Obj.TOKEN_HOLDER = 3 - m) :
    writeTokenRequest k m s = (notifyMaster (3 - m) 0x05 (leBytes 1 m ++ leBytes 3 0) s, abToken) := by
  unfold writeTokenRequest
  dsimp only
  rw [hm, if_neg (by omega), if_pos rfl, if_neg (by omega), if_neg (by omega), hother]
  rfl

theorem writeTokenRequest_forced (hm : sessMaster s k = m) (hab : m = 1 ∨ m = 2) (hrole : sessRole s k = 2)
    (hother : rd s Obj.TOKEN_HOLDER ≠ m) :
    writeTokenRequest k (m + 0x80) s = (emit .commandTokenForced noInst (leBytes 1 m) (passToken m trForced s), 0) := by
  unfold writeTokenRequest
  dsimp only
  rw [hm, if_neg (by omega), if_neg (by omega), if_pos rfl, if_neg (by omega), if_neg hother]
  rfl

theorem writeTokenRelease_holder (hab : sessMaster s k = 1 ∨ sessMaster s k = 2) (hholds : rd s Obj.TOKEN_HOLDER = sessMaster s k) :
    writeTokenRelease k s = (passToken 0 trRelease s, 0) := by
  unfold writeTokenRelease
  dsimp only
  rw [if_pos ⟨by omega, by omega, hholds.symm⟩]
  rfl

theorem sessMaster_booked (h : Ready k s) : sessMaster (booked k s) k = sessMaster s k := by
  obtain ⟨hk, -⟩ := h
  exact sessMaster_congr (fun _ => rd_booked_sessionKey) hk

theorem rd_booked_token {key : Nat} (hkey : key ∈ tokenKeys) : rd (booked k s) key = rd s key := by
  simp only [tokenKeys, List.mem_cons, List.not_mem_nil, or_false] at hkey
  rcases hkey with rfl | rfl <;> exact rd_booked_of_not_mem (not_mem_hostKeys_of (by decide) (by decide))

theorem holder_booked (k : Nat) (s : State) : rd (booked k s) Obj.TOKEN_HOLDER = rd s Obj.TOKEN_HOLDER := rd_booked_token (by simp)

theorem counted_of_booked {t w : State} (h : Counted 32 Obj.TOKEN_TRANSFERS (booked k s) w)
    (ht : rd t Obj.TOKEN_TRANSFERS = rd w Obj.TOKEN_TRANSFERS) : Counted 32 Obj.TOKEN_TRANSFERS s t := by
  have hbooked : rd (booked k s) Obj.TOKEN_TRANSFERS = rd s Obj.TOKEN_TRANSFERS := rd_booked_token (by simp)
  unfold Counted at h ⊢
  rw [ht, h, hbooked]

theorem tokenKeys_not_path {port : Nat} (hp : port < 3) : ∀ j ∈ Obj.LOG_DROPPED :: tokenKeys, j ∉ pathKeys port := by
  simp only [List.mem_cons, List.not_mem_nil, or_false]
  rintro j (rfl | rfl | rfl) <;> exact not_mem_pathKeys_of hp (by decide)

/-- A write that passes the token, when it is granted. -/
theorem namedRequest_passes {key new : Nat} {ty : ObjTy} {bs : List Byte} {w t : State} (h : MayWrite k key bs s) (hrow : Volatile key ty)
    (hexempt : tokenExempt key = true)
    (hw : ∀ r, r.persist = false → applyWrite k ((sess s k).execd + 1) key r bs (booked k s) = (w, 0))
    (hpassed : Passed new (booked k s) w) (ht : namedRequest k 0x11 key bs s = t) :
    Told k [Obj.TOKEN_HOLDER, Obj.TOKEN_TRANSFERS] s s t ∧ rd t Obj.TOKEN_HOLDER = new ∧ Counted 32 Obj.TOKEN_TRANSFERS s t := by
  obtain ⟨r, hr, hp, -⟩ := row_of_volatile hrow
  obtain ⟨-, hport, -⟩ := bounds_of_ready h.1
  obtain ⟨htold, hout, hlog⟩ := namedRequest_told h hr hexempt (hw r hp) hpassed.work
    (fun j hj => tokenKeys_not_path hport j (List.mem_cons_of_mem _ hj)) ht
  have hquiet : t.log = s.log := by
    rw [hlog, hpassed.work.quiet (by decide), booked_frame]
  refine ⟨?_, ?_, ?_⟩
  · rwa [hquiet] at htold
  · rw [hout _ (not_mem_hostKeys_of (by decide) (by decide)), hpassed.holder]
  · exact counted_of_booked hpassed.counted (hout _ (not_mem_hostKeys_of (by decide) (by decide)))

theorem tokenRequest_takes (h : MayWriteN k Obj.TOKEN_REQUEST m s) (hm : sessMaster s k = m) (hab : m = 1 ∨ m = 2)
    (hfree : rd s Obj.TOKEN_HOLDER = 0) :
    Completes (.tokenRequest k m) s fun t =>
      Told k [Obj.TOKEN_HOLDER, Obj.TOKEN_TRANSFERS] s s t ∧ rd t Obj.TOKEN_HOLDER = m ∧ Counted 32 Obj.TOKEN_TRANSFERS s t := by
  refine ⟨_, rfl, namedRequest_passes h volatile_tokenRequest (by decide) (fun r hp => ?_) (passToken_passed m trRequest _) rfl⟩
  rw [applyWrite_tokenRequest hp (by omega)]
  exact writeTokenRequest_free ((sessMaster_booked h.1).trans hm) hab ((holder_booked k s).trans hfree)

theorem tokenRequest_keeps (h : MayWriteN k Obj.TOKEN_REQUEST m s) (hm : sessMaster s k = m) (hab : m = 1 ∨ m = 2)
    (hholds : rd s Obj.TOKEN_HOLDER = m) : Completes (.tokenRequest k m) s fun t => Done k [] s s t := by
  have hheld := writeTokenRequest_held ((sessMaster_booked h.1).trans hm) hab ((holder_booked k s).trans hholds)
  obtain ⟨r, hr, hp, -⟩ := row_of_volatile volatile_tokenRequest
  have hleaves := namedRequest_leaves (ks := []) (u := s) h hr ((applyWrite_tokenRequest hp (by omega)).trans hheld)
    (booked_changes k s) rfl rfl (fun _ hj => sess_booked_other s hj) (sess_booked_field k s Session.held fun _ _ => rfl) (by simp)
    (fun _ _ => rfl)
  exact completes_write rfl hleaves fun t ht => ht.done

theorem tokenRequest_refused (h : MayWriteN k Obj.TOKEN_REQUEST m s) (hm : sessMaster s k = m) (hab : m = 1 ∨ m = 2)
    (hother : rd s Obj.TOKEN_HOLDER = 3 - m) :
    Completes (.tokenRequest k m) s fun t => Answered k abToken s t ∧ rd t Obj.TOKEN_HOLDER = 3 - m := by
  obtain ⟨r, hr, hp, -⟩ := row_of_volatile volatile_tokenRequest
  have hwork : HostWork [] (booked k s) (notifyMaster (3 - m) 0x05 (leBytes 1 m ++ leBytes 3 0) (booked k s)) :=
    notifyMaster_work _ _ _ _
  obtain ⟨hserved, hans⟩ := namedRequest_hostWork h hr (by decide) ((applyWrite_tokenRequest hp (by omega)).trans
    (writeTokenRequest_other ((sessMaster_booked h.1).trans hm) hab ((holder_booked k s).trans hother))) hwork
    fun _ hj => absurd hj List.not_mem_nil
  refine ⟨_, rfl, hans, ?_⟩
  refine (hserved.objects _ ?_).trans ?_
  · simp only [List.mem_cons, List.not_mem_nil, or_false, not_or]
    exact ⟨ne_of_keySub (by rw [keySub_add_mul]; decide), by decide⟩
  · rw [hwork.objects _ List.not_mem_nil (not_mem_noteKeys (by decide) (by decide)), holder_booked, hother]

theorem tokenForced_takes (h : MayWriteN k Obj.TOKEN_REQUEST (m + 0x80) s) (hm : sessMaster s k = m) (hab : m = 1 ∨ m = 2)
    (hrole : sessRole s k = 2) (hother : rd s Obj.TOKEN_HOLDER ≠ m) :
    Completes (.tokenForced k (m + 0x80)) s fun t =>
      Told k [Obj.TOKEN_HOLDER, Obj.TOKEN_TRANSFERS, Obj.LOG_DROPPED] { s with log := t.log } s t ∧ rd t Obj.TOKEN_HOLDER = m
        ∧ Counted 32 Obj.TOKEN_TRANSFERS s t ∧ Raised .commandTokenForced noInst s t := by
  obtain ⟨r, hr, hp, -⟩ := row_of_volatile volatile_tokenRequest
  obtain ⟨-, hport, -⟩ := bounds_of_ready h.1
  have hpassed := passToken_passed m trForced (booked k s)
  have hw : applyWrite k ((sess s k).execd + 1) Obj.TOKEN_REQUEST r (namedBytes Obj.TOKEN_REQUEST (m + 0x80)) (booked k s) =
      (emit .commandTokenForced noInst (leBytes 1 m) (passToken m trForced (booked k s)), 0) :=
    (applyWrite_tokenRequest hp (by omega)).trans (writeTokenRequest_forced ((sessMaster_booked h.1).trans hm) hab
      ((sessRole_booked h.1).trans hrole) (by rwa [holder_booked]))
  generalize passToken m trForced (booked k s) = p at hpassed hw
  have hwork : HostWork [Obj.TOKEN_HOLDER, Obj.TOKEN_TRANSFERS, Obj.LOG_DROPPED] (booked k s)
      (emit .commandTokenForced noInst (leBytes 1 m) p) := (hpassed.work.mono (by simp)).emit (by simp) _ _ _
  refine ⟨_, rfl, ?_⟩
  generalize ht : namedWrite k Obj.TOKEN_REQUEST (m + 0x80) s = t
  have hsub : [Obj.TOKEN_HOLDER, Obj.TOKEN_TRANSFERS, Obj.LOG_DROPPED] ⊆ Obj.LOG_DROPPED :: tokenKeys := by simp
  have hpath : ∀ j ∈ [Obj.TOKEN_HOLDER, Obj.TOKEN_TRANSFERS, Obj.LOG_DROPPED], j ∉ pathKeys (sessNet s k).port :=
    fun j hj => tokenKeys_not_path hport j (hsub hj)
  obtain ⟨htold, hout, hlog⟩ := namedRequest_told h hr (by decide) hw hwork hpath ht
  refine ⟨htold, ?_, ?_, ?_⟩
  · rw [hout _ (not_mem_hostKeys_of (by decide) (by decide)), rd_emit_other _ _ _ _ (by decide), hpassed.holder]
  · refine counted_of_booked hpassed.counted ((hout _ (not_mem_hostKeys_of (by decide) (by decide))).trans ?_)
    exact rd_emit_other _ _ _ _ (by decide)
  · refine raised_congr (raised_emit _ _ (leBytes 1 m) p) ?_ hlog
    rw [hpassed.work.quiet (by decide), booked_frame]

theorem tokenRelease_frees {v : Nat} (h : MayWriteN k Obj.TOKEN_RELEASE v s) (hab : sessMaster s k = 1 ∨ sessMaster s k = 2)
    (hholds : rd s Obj.TOKEN_HOLDER = sessMaster s k) :
    Completes (.tokenRelease k v) s fun t =>
      Told k [Obj.TOKEN_HOLDER, Obj.TOKEN_TRANSFERS] s s t ∧ rd t Obj.TOKEN_HOLDER = 0 ∧ Counted 32 Obj.TOKEN_TRANSFERS s t := by
  have hm := sessMaster_booked h.1
  refine ⟨_, rfl, namedRequest_passes h volatile_tokenRelease (by decide) (fun r hp => ?_) (passToken_passed 0 trRelease _) rfl⟩
  rw [applyWrite_tokenRelease hp]
  refine writeTokenRelease_holder (by rwa [hm]) ?_
  rw [hm, holder_booked, hholds]

end

/-- Settles O50: a notification reaches a session in a state that has its record; a token command is a write of the host side, which the
token does not govern, so that its answer is its rule's. -/
theorem notificationsAndTheToken : Obligations.NotificationsAndTheToken := by
  unfold Obligations.NotificationsAndTheToken
  refine ⟨fun kind k body s hl hk hlen hopen hmask hroom => ?_, fun kind k body s hl h => notify_passes hl h,
    fun kind k body s hl hk hlen hopen hmask hfull => ?_, fun net f k s h hsvc hseq => notifyAck_completes h hsvc hseq,
    fun k s hl hopen hreach => notifyRetryExpiry_completes hl hopen hreach,
    fun k m s h hm hab => ⟨tokenRequest_takes h hm hab, tokenRequest_keeps h hm hab, tokenRequest_refused h hm hab⟩,
    fun k m s h hm hab hrole hother => tokenForced_takes h hm hab hrole hother, fun k v s h hab hholds => tokenRelease_frees h hab hholds,
    fun s hl h => tokenTimeoutExpiry_completes hl h, fun s h => tokenTimeoutExpiry_free h⟩
  · exact notify_queues hl hk hlen (by simp [takesNote, hopen, hmask]) hroom
  · exact notify_overflows hl hk hlen (by simp [takesNote, hopen, hmask]) hfull

end Sys2Proof.Proofs

namespace Sys2Proof.Proofs

open Sys2Proof.Machine Sys2Proof.Claims Sys2Proof.Laws

/-! ### The objects of the host ports (R282, R283, R289) -/

/-- An object of a port's address or of the object protocol. -/
def NetKey (j : Nat) : Prop := j < 0x110700 ∧ keySub j ≤ 8

/-- `t` has the objects of the host ports as `s` has them. -/
def SameNet (s t : State) : Prop := ∀ j, NetKey j → rd t j = rd s j

namespace SameNet

variable {s t u : State} {net : NetAddr}

theorem trans (h : SameNet s t) (g : SameNet t u) : SameNet s u := fun j hj => (g j hj).trans (h j hj)

theorem reachable (hp : net.port < 3) (h : SameNet s t) : reachable t net.port net.addr = reachable s net.port net.addr := by
  unfold Machine.reachable
  rw [h (Obj.IP_GATEWAY net.port) ⟨by simp only [Obj.IP_GATEWAY]; omega, by simp⟩,
    h (Obj.IP_MASK net.port) ⟨by simp only [Obj.IP_MASK]; omega, by simp⟩,
    h (Obj.IP_ADDRESS net.port) ⟨by simp only [Obj.IP_ADDRESS]; omega, by simp⟩]

theorem outward (hp : net.port < 3) (h : SameNet s t) : outward t net = outward s net := by
  unfold Machine.outward vlanTag
  rw [h Obj.OBJECT_UDP_PORT ⟨by decide, by decide⟩, h (Obj.VLAN_ID net.port) ⟨by simp only [Obj.VLAN_ID]; omega, by simp⟩]

theorem of_objects {ks : List Nat} (h : OnlyObjects ks s t) (hks : ∀ j ∈ ks, ¬ NetKey j) : SameNet s t :=
  fun j hj => h j fun hmem => hks j hmem hj

theorem of_work {ks : List Nat} (h : HostWork ks s t) (hks : ∀ j ∈ ks, ¬ NetKey j) : SameNet s t := fun j hj => by
  refine h.objects j (fun hmem => hks j hmem hj) (not_mem_noteKeys ?_ ?_) <;> have := hj.2 <;> omega

end SameNet

theorem not_netKey_of_sub {j : Nat} (h : 8 < keySub j) : ¬ NetKey j := fun hj => absurd hj.2 (Nat.not_le.mpr h)

theorem not_netKey_of_le {j : Nat} (h : 0x110700 ≤ j) : ¬ NetKey j := fun hj => absurd hj.1 (Nat.not_lt.mpr h)

theorem sameNet_countIn (port : Nat) (s : State) : SameNet s (countIn port s) :=
  .of_objects (onlyRegs_countIn port s).2 (by simpa using not_netKey_of_sub (by simp))

/-! ### A session becomes free (R293) -/

/-- The objects of a session that becomes free, and the number of sessions open. -/
def freedKeys (k : Nat) : List Nat :=
  [Obj.SESSION_STATE k, Obj.SESSION_MASTER k, Obj.SESSION_ROLE k, Obj.SESSION_PORT k, Obj.SESSION_ADDRESS k, Obj.SESSION_UDP k,
    Obj.NOTIFY_MASK k, Obj.SESSION_REQUESTS k, Obj.NOTIFY_DROPPED k, Obj.SESSIONS_OPEN]

theorem not_mem_freedKeys {j k : Nat} (h : (j < 0x111001 + k * 0x100 ∨ 0x111009 + k * 0x100 < j) ∧ j ≠ 0x110701) :
    j ∉ freedKeys k := by
  simp only [freedKeys, List.mem_cons, List.not_mem_nil, or_false, not_or]
  refine ⟨?_, ?_, ?_, ?_, ?_, ?_, ?_, ?_, ?_, ?_⟩ <;>
    simp only [Obj.SESSION_STATE, Obj.SESSION_MASTER, Obj.SESSION_ROLE, Obj.SESSION_PORT, Obj.SESSION_ADDRESS, Obj.SESSION_UDP,
      Obj.NOTIFY_MASK, Obj.SESSION_REQUESTS, Obj.NOTIFY_DROPPED, Obj.SESSIONS_OPEN] <;> omega

theorem sessionState_not_freed {j k : Nat} (h : j ≠ k) : Obj.SESSION_STATE j ∉ freedKeys k :=
  not_mem_freedKeys (by simp only [Obj.SESSION_STATE]; omega)

/-- Session `k` is free in `t`; beside that nothing changed. -/
structure Freed (k : Nat) (s t : State) : Prop where
  /-- what may change -/
  changes : t = { s with regs := t.regs, sessions := t.sessions }
  /-- the objects -/
  objects : OnlyObjects (freedKeys k) s t
  /-- it is free -/
  state : rd t (Obj.SESSION_STATE k) = 0
  /-- its record, but for the keys of sessions that ended -/
  record : sess t k = { Session.free with ended := (sess t k).ended }
  /-- the other sessions' records -/
  others : ∀ j, j ≠ k → sess t j = sess s j

/-- The record of a free session, which remembers the keys of those that ended. -/
def freeRecord (ended : List (Nat × List Byte)) (_ : Session) : Session := { Session.free with ended := ended }

theorem freeSession_eq (k : Nat) (s : State) :
    ∃ ended n, freeSession k s = wr (setSess (clearSessionObjects k s) k (freeRecord ended)) Obj.SESSIONS_OPEN n := ⟨_, _, rfl⟩

theorem freeSession_freed (k : Nat) (s : State) : Freed k s (freeSession k s) := by
  obtain ⟨ended, n, hfree⟩ := freeSession_eq k s
  have hclear : OnlyObjects (freedKeys k) s (clearSessionObjects k s) := fun j hj => rd_wrs_other _ _ (by
    intro p hp e
    refine hj ?_
    rw [← e]
    simp only [List.mem_cons, List.not_mem_nil, or_false] at hp
    rcases hp with rfl | rfl | rfl | rfl | rfl | rfl | rfl | rfl | rfl <;> simp [freedKeys])
  have hstate : rd (clearSessionObjects k s) (Obj.SESSION_STATE k) = 0 := by
    unfold clearSessionObjects
    rw [wrs_cons, rd_wrs_other _ _ ?_, rd_wr_same]
    intro p hp
    simp only [List.mem_cons, List.not_mem_nil, or_false] at hp
    rcases hp with rfl | rfl | rfl | rfl | rfl | rfl | rfl | rfl <;> exact ne_of_keySub (by simp only [keySub_add_mul]; decide)
  have hregs : clearSessionObjects k s = { s with regs := (clearSessionObjects k s).regs } := wrs_regs _ _
  have hsess : ∀ j, sess (clearSessionObjects k s) j = sess s j := sess_congr (by rw [hregs])
  have hsess' : ∀ j, sess (wr (setSess (clearSessionObjects k s) k (freeRecord ended)) Obj.SESSIONS_OPEN n) j
      = sess (setSess (clearSessionObjects k s) k (freeRecord ended)) j := fun _ => rfl
  rw [hfree]
  generalize clearSessionObjects k s = u at hclear hstate hregs hsess hsess'
  refine ⟨by rw [hregs]; rfl, fun j hj => ?_, ?_, ?_, fun j hj => ?_⟩
  · rw [rd_wr_other _ _ (ne_of_mem_of_not_mem (by simp [freedKeys]) hj).symm, rd_setSess, hclear j hj]
  · rw [rd_wr_other _ _ (by simp only [Obj.SESSION_STATE, Obj.SESSIONS_OPEN]; omega), rd_setSess, hstate]
  · rw [hsess', sess_setSess]
    split
    · rfl
    · next hout =>
      have hlen : u.sessions.length ≤ k := by simpa using hout
      rw [sess_of_length_le hlen]
  · rw [hsess', sess_setSess_other _ _ hj, hsess]

/-- A free session has no identifier, no key, no transfer and no request that waits. -/
theorem blank_of_free {x : Session} {ended : List (Nat × List Byte)} (h : x = { Session.free with ended := ended }) :
    x.ident = 0 ∧ x.ks = [] ∧ x.transfer = none ∧ x.held = [] := by
  rw [h]
  exact ⟨rfl, rfl, rfl, rfl⟩

theorem Freed.blank {k : Nat} {s t : State} (h : Freed k s t) :
    (sess t k).ident = 0 ∧ (sess t k).ks = [] ∧ (sess t k).transfer = none ∧ (sess t k).held = [] := blank_of_free h.record

/-! ### A session ends (R293, R306) -/

/-- Session `k` has ended in `t`: told of it, freed, and the token it held passed on. -/
def Ended (k : Nat) (s t : State) : Prop :=
  ∃ u v, HostWork [] s u ∧ Freed k u v ∧ HostWork (Obj.LOG_DROPPED :: tokenKeys) v t

namespace Ended

variable {k : Nat} {s t : State}

theorem of_freed (h : Freed k s t) : Ended k s t := ⟨s, t, .refl s, h, .refl t⟩

theorem state (hk : k < 16) (h : Ended k s t) : rd t (Obj.SESSION_STATE k) = 0 := by
  obtain ⟨u, v, -, hfreed, hafter⟩ := h
  rw [hafter.session _ (sessionKey_of hk (by decide)), hfreed.state]

theorem state_other {j : Nat} (hj : j < 16) (hjk : j ≠ k) (h : Ended k s t) :
    rd t (Obj.SESSION_STATE j) = rd s (Obj.SESSION_STATE j) := by
  obtain ⟨u, v, hbefore, hfreed, hafter⟩ := h
  rw [hafter.session _ (sessionKey_of hj (by decide)), hfreed.objects _ (sessionState_not_freed hjk),
    hbefore.session _ (sessionKey_of hj (by decide))]

theorem record (h : Ended k s t) : sess t k = { Session.free with ended := (sess t k).ended } := by
  obtain ⟨u, v, -, hfreed, hafter⟩ := h
  have hclosed : sessOpen v k = false := by
    unfold sessOpen
    rw [hfreed.state]
    simp
  rw [hafter.closed k hclosed]
  exact hfreed.record

theorem blank (h : Ended k s t) :
    (sess t k).ident = 0 ∧ (sess t k).ks = [] ∧ (sess t k).transfer = none ∧ (sess t k).held = [] := blank_of_free h.record

/-- Another session's record changes in its notifications only. -/
theorem other {j : Nat} (hj : j ≠ k) (h : Ended k s t) : apartNotes (sess t j) = apartNotes (sess s j) := by
  obtain ⟨u, v, hbefore, hfreed, hafter⟩ := h
  rw [hafter.records, hfreed.others j hj, hbefore.records]

theorem resetDue (h : Ended k s t) : t.rp.resetDue = s.rp.resetDue := by
  obtain ⟨u, v, hbefore, hfreed, hafter⟩ := h
  obtain ⟨_, _, _, _, _, hu⟩ := hbefore.changes
  obtain ⟨_, _, _, _, _, ht⟩ := hafter.changes
  rw [ht, hfreed.changes, hu]

theorem sent (h : Ended k s t) : s.outbox ⊆ t.outbox := by
  obtain ⟨u, v, hbefore, hfreed, hafter⟩ := h
  have hout : v.outbox = u.outbox := by rw [hfreed.changes]
  exact List.Subset.trans hbefore.sent (hout ▸ hafter.sent)

theorem sameNet (h : Ended k s t) : SameNet s t := by
  obtain ⟨u, v, hbefore, hfreed, hafter⟩ := h
  refine ((SameNet.of_work hbefore (by simp)).trans fun j hj => hfreed.objects j (not_mem_freedKeys ?_)).trans (.of_work hafter ?_)
  · have hlow := hj.1
    omega
  · simp only [List.mem_cons, List.not_mem_nil, or_false]
    rintro j (rfl | rfl | rfl) <;> exact not_netKey_of_le (by decide)

theorem calm {i : Nat} (hk : k < 16) (h : Ended k s t) (hcalm : Calm i s) : Calm i t := by
  refine ⟨h.resetDue.trans hcalm.reset, fun j hj => ?_, ?_⟩
  · by_cases hjk : j = k
    · rw [hjk, h.state hk]
      decide
    · rw [h.state_other hj hjk]
      exact hcalm.closed j hj
  · by_cases hik : i = k
    · obtain ⟨-, -, -, hheld⟩ := h.blank
      rw [hik, hheld]
    · have hheld : (apartNotes (sess t i)).held = (apartNotes (sess s i)).held := congrArg Session.held (h.other hik)
      exact hheld.trans hcalm.held

end Ended

theorem endSession_ended (k : Nat) (reason : Option Nat) (s : State) : Ended k s (endSession k reason s) := by
  have htold : ∃ u, HostWork [] s u ∧
      (endSession k reason s = freeSession k u ∨ endSession k reason s = loseToken (freeSession k u)) := by
    unfold endSession
    dsimp only
    cases reason with
    | none =>
      refine ⟨s, .refl s, ?_⟩
      dsimp only
      split
      · exact .inr rfl
      · exact .inl rfl
    | some r =>
      refine ⟨_, notifySession_work (k := k) 0x07 (stimeNow s) (leBytes 1 r ++ leBytes 3 0), ?_⟩
      dsimp only
      split
      · exact .inr rfl
      · exact .inl rfl
  obtain ⟨u, hwork, hend | hend⟩ := htold <;> rw [hend]
  · exact ⟨u, _, hwork, freeSession_freed k u, .refl _⟩
  · exact ⟨u, _, hwork, freeSession_freed k u, loseToken_work _⟩

end Sys2Proof.Proofs

namespace Sys2Proof.Proofs

open Sys2Proof.Machine Sys2Proof.Claims Sys2Proof.Laws

/-! ### How a session is kept alive and ends (R285, R290, R293) -/

section

variable {k : Nat} {net : NetAddr} {f : ObjFrame} {s : State}

theorem keepalive_completes (h : Heard k net f s) (hturn : InTurn k f s) (hf : f.service = 0x04) :
    Completes (.keepalive net f) s fun t =>
      Replied (sess s k).ks net f 0 0 [] t ∧ (sess t k).execd = f.seq
        ∧ t = { s with regs := t.regs, sessions := t.sessions, pmc := t.pmc, outbox := t.outbox }
        ∧ ∀ j, j ∉ frameKeys k net → rd t j = rd s j := by
  obtain ⟨-, -, hlen⟩ := bounds_of_heard h
  refine request_inward (by simp [requestRows, hf]) (by simp [hf]) h hturn (serve_keepalive hf) (inward_refl k _) fun t ht => ?_
  refine ⟨ht.replied, ?_, served_still ht, fun _ hj => (inward_refl k _).objects ht hj⟩
  rw [ht.field Session.execd fun _ => rfl, sess_taken, sess_setSess, if_pos ⟨rfl, hlen⟩]
  rfl

theorem serve_close {u : State} (hf : f.service = 0x03) : serve k f u = (u, .plain 0) := by
  unfold serve; rw [if_neg (by simp [hf, fallbackMay])]; simp only [hf]

/-- A SESSION_CLOSE is answered, and then the session ends. -/
theorem executeRequest_closed {u : State} (hk : k < 16) (hp : net.port < 3) (hf : f.service = 0x03)
    (hserve : serve k f (begun k f s) = (u, .plain 0)) (hcalm : Calm k u) (hn : reachable u net.port net.addr = true) :
    ∃ w, Served k net f (sess s k) (.plain 0) u w ∧ Ended k w (drainHeld k 16 (executeRequest k net f s)) := by
  have hserved := respond_served (k := k) (f := f) (a := .plain 0) (sess s k) hp hn
  have hexec : executeRequest k net f s = applyReset (closeInstallation (endSession k none
      (respond net (sess s k).ks (replyFrame f (sess s k) (.plain 0)) (replying k f (sess s k) (.plain 0) u)))) := by
    unfold executeRequest
    dsimp only
    rw [show pmcEvent 0x13 0xFFFF 1 (countBy 64 (setSess s k (fun y => { y with execd := f.seq })) (Obj.SESSION_REQUESTS k) 1)
      = begun k f s from rfl, hserve, if_pos ⟨hf, rfl⟩]
    rfl
  generalize respond net (sess s k).ks (replyFrame f (sess s k) (.plain 0)) (replying k f (sess s k) (.plain 0) u) = w
    at hserved hexec
  have hcalm' : Calm k w := by
    refine ⟨?_, fun j hj => ?_, (congrArg Session.held hserved.record).trans hcalm.held⟩
    · rw [hserved.changes]; exact hcalm.reset
    · rw [hserved.path.state hj]; exact hcalm.closed j hj
  have hended := endSession_ended k none w
  have hdone := hended.calm hk hcalm'
  refine ⟨w, hserved, ?_⟩
  rw [hexec, closeInstallation_none _ hdone.closed, applyReset_none _ hdone.reset, drainHeld_none _ _ _ hdone.held]
  exact hended

theorem sessionClose_completes (h : Heard k net f s) (hturn : InTurn k f s) (hf : f.service = 0x03) :
    Completes (.sessionClose net f) s fun t =>
      rd t (Obj.SESSION_STATE k) = 0 ∧ (sess t k).transfer = none ∧ (sess t k).ks = []
        ∧ ∃ pcp g, .datagram (outward t net) pcp g ∈ t.outbox ∧ g.service = 0x03 ∧ g.seq = f.seq ∧ g.status = 0 := by
  obtain ⟨hk, hp, -⟩ := bounds_of_heard h
  have hcalm := calm_taken h hturn
  have hn := reachable_taken h
  rw [taken_eq_begun] at hcalm hn
  obtain ⟨w, hserved, hended⟩ := executeRequest_closed hk hp hf (serve_close hf) hcalm hn
  refine ⟨_, exec_request_of_service (net := net) (code := 0x03) (by simp [requestRows]) hf s, ?_⟩
  rw [takeFrame_inTurn h hturn (by simp [hf]) (by simp [hf])]
  generalize drainHeld k 16 (executeRequest k net f (reached k net s)) = t at hended
  obtain ⟨-, hks, htransfer, -⟩ := hended.blank
  obtain ⟨pcp, g, rest, hout, hservice, hseq, -, hstatus, -⟩ := hserved.replied
  refine ⟨hended.state hk, htransfer, hks, pcp, g, ?_, hservice.trans hf, hseq, hstatus⟩
  rw [hended.sameNet.outward hp]
  exact hended.sent (hout ▸ List.mem_cons_self)

theorem halfOpenTimeout_completes (hl : alive s .lookout = true) (hk : k < 16) (hstate : rd s (Obj.SESSION_STATE k) = 1) :
    Completes (.halfOpenTimeout k) s fun t =>
      rd t (Obj.SESSION_STATE k) = 0 ∧ (sess t k).ident = 0 ∧ (∀ j, j ≠ k → sess t j = sess s j)
        ∧ t = { s with regs := t.regs, sessions := t.sessions } := by
  have hfreed := freeSession_freed k s
  refine ⟨freeSession k s, ?_, hfreed.state, hfreed.blank.1, hfreed.others, hfreed.changes⟩
  show execHalfOpenTimeout k s = _
  unfold execHalfOpenTimeout
  rw [whenAlive_on _ hl, if_pos ⟨hstate, hk⟩]

theorem sessionTimeoutExpiry_completes (hl : alive s .lookout = true) (hopen : sessOpen s k = true) :
    Completes (.sessionTimeoutExpiry k) s fun t =>
      rd t (Obj.SESSION_STATE k) = 0 ∧ (sess t k).ks = [] ∧ (sess t k).transfer = none := by
  have hended := endSession_ended k (some scTimeout) s
  obtain ⟨-, hks, htransfer, -⟩ := hended.blank
  refine ⟨endSession k (some scTimeout) s, ?_, hended.state (lt_of_sessOpen hopen), hks, htransfer⟩
  show execSessionTimeoutExpiry k s = _
  unfold execSessionTimeoutExpiry
  rw [whenAlive_on _ hl, if_pos hopen]

/-! ### An engineer ends a session (R293) -/

/-- Session `v` ended by an engineer, open or half-open. -/
def evict (v : Nat) (s : State) : State :=
  if sessOpen s v then endSession v (some scEvicted) s else if rd s (Obj.SESSION_STATE v) = 1 then freeSession v s else s

theorem applyWrite_sessionEvict {seq v : Nat} {r : ObjRow} {s : State} (hp : r.persist = false) (hv : v < 256) :
    applyWrite k seq Obj.SESSION_EVICT r (namedBytes Obj.SESSION_EVICT v) s = (evict v s, 0) := by
  have hraw : writeRaw Obj.SESSION_EVICT (namedBytes Obj.SESSION_EVICT v) = v := leNat_namedBytes volatile_sessionEvict hv
  rw [applyWrite_hostSide hp (by decide)]
  unfold writeHostSide
  rw [hraw]
  rfl

theorem evict_ended {v : Nat} (hv : v < 16) (h : rd s (Obj.SESSION_STATE v) = 1 ∨ rd s (Obj.SESSION_STATE v) = 2) :
    Ended v s (evict v s) := by
  unfold evict
  rcases h with h | h
  · rw [if_neg (by simp [sessOpen, h]), if_pos h]
    exact .of_freed (freeSession_freed v s)
  · rw [if_pos (by simp [sessOpen, h, hv])]
    exact endSession_ended v (some scEvicted) s

theorem sessionEvict_completes {v : Nat} (h : MayWriteN k Obj.SESSION_EVICT v s) (hv : v < 16)
    (hstate : rd s (Obj.SESSION_STATE v) = 1 ∨ rd s (Obj.SESSION_STATE v) = 2) :
    Completes (.sessionEvict k v) s fun t =>
      Answered k 0 s t ∧ rd t (Obj.SESSION_STATE v) = 0 ∧ (sess t v).transfer = none
        ∧ ∀ j, j < 16 → j ≠ v → rd t (Obj.SESSION_STATE j) = rd s (Obj.SESSION_STATE j) := by
  obtain ⟨hready, hpass⟩ := h
  obtain ⟨r, hr, hp, -⟩ := row_of_volatile volatile_sessionEvict
  obtain ⟨hk, hport, -⟩ := bounds_of_ready hready
  have hpath := samePath_booked hready
  have hbooked : ∀ j, j < 16 → rd (booked k s) (Obj.SESSION_STATE j) = rd s (Obj.SESSION_STATE j) := fun j hj => hpath.state hj
  have hended : Ended v (booked k s) (evict v (booked k s)) := evict_ended hv (by rwa [hbooked v hv])
  have hcalm := hended.calm hv (calm_booked hready)
  have hw := writeObject_exempt hpass hr (by decide)
    (applyWrite_sessionEvict (k := k) (seq := (sess s k).execd + 1) (s := booked k s) hp (show v < 256 by omega))
  generalize evict v (booked k s) = w at hended hcalm hw
  have hn : reachable w (sessNet s k).port (sessNet s k).addr = true := by
    have ⟨_, _, _, hreach, _⟩ := hready
    rw [hended.sameNet.reachable hport, hpath.reachable, hreach]
  have ho : outward w (sessNet s k) = sessNet s k := by
    rw [hended.sameNet.outward hport, hpath.outward, outward_sessNet]
  have hserved := namedRequest_served hready hw hcalm hn
  refine ⟨_, rfl, answered_of_served ho hserved, ?_, ?_, fun j hj hjv => ?_⟩
  · exact (hserved.path.state hv).trans (hended.state hv)
  · obtain ⟨-, -, hnone, -⟩ := hended.blank
    by_cases hvk : v = k
    · subst hvk
      exact (hserved.field Session.transfer fun _ => rfl).trans hnone
    · exact (congrArg Session.transfer (hserved.others v hvk)).trans hnone
  · exact (hserved.path.state hj).trans ((hended.state_other hj hjv).trans (hbooked j hj))

end

end Sys2Proof.Proofs

namespace Sys2Proof.Proofs

open Sys2Proof.Machine Sys2Proof.Claims Sys2Proof.Laws

/-- What an object written once in a list holds. -/
theorem rd_wrs_mem {l : List (Nat × Nat)} (hl : (l.map (·.1)).Nodup) {p : Nat × Nat} (hp : p ∈ l) (s : State) :
    rd (wrs s l) p.1 = p.2 := by
  induction l generalizing s with
  | nil => cases hp
  | cons q l ih =>
    obtain ⟨hq, hnodup⟩ := List.nodup_cons.mp hl
    rw [wrs_cons]
    rcases List.mem_cons.mp hp with rfl | hp
    · rw [rd_wrs_other _ _ fun r hr e => hq (List.mem_map.mpr ⟨r, hr, e⟩), rd_wr_same]
    · exact ih hnodup hp _

/-! ### A session opens (R289, R290) -/

section

variable {k : Nat} {net : NetAddr} {f : ObjFrame} {s : State}

/-- The master and role a SESSION_OPEN asks for are allowed at its port. -/
abbrev asksAllowed (net : NetAddr) (f : ObjFrame) : Bool :=
  openAllowed (leNat (slice f.payload 0 1)) (leNat (slice f.payload 1 1)) net.port

/-- A well-formed SESSION_OPEN arrived, from an address that is not blocked. -/
structure OpenArrived (net : NetAddr) (f : ObjFrame) (s : State) : Prop where
  /-- the frame -/
  arrived : Arrived net s
  /-- its form -/
  form : frameForm f 0 = true
  /-- its length -/
  length : f.payload.length = 20
  /-- its sender -/
  unblocked : addressBlocked s net.addr = false

theorem port_lt_of_arrived (h : Arrived net s) : net.port < 3 := port_lt_of_hostUp h.1

theorem counted_reachable (h : Arrived net s) : reachable (countIn net.port s) net.port net.addr = true := by
  obtain ⟨hup, -, hreach⟩ := h
  rw [(sameNet_countIn net.port s).reachable (port_lt_of_hostUp hup), hreach]

theorem counted_addressed (h : Arrived net s) : addressed (countIn net.port s) net = true := by
  obtain ⟨hup, ha, -⟩ := h
  exact (samePath_countIn (port_lt_of_hostUp hup) s).addressed.trans ha

/-- Such a frame passes what a SESSION_OPEN is first held to. -/
theorem OpenArrived.holds (h : OpenArrived net f s) :
    ¬ hostUp s net.port = false ∧ ¬ (addressed (countIn net.port s) net = false ∨ frameForm f 0 = false ∨ f.payload.length ≠ 20)
      ∧ ¬ addressBlocked (countIn net.port s) net.addr = true := by
  obtain ⟨harr, hform, hlen, hblocked⟩ := h
  refine ⟨by simp [harr.1], by simp [counted_addressed harr, hform, hlen], ?_⟩
  rw [show addressBlocked (countIn net.port s) net.addr = false from hblocked]
  decide

/-- Outside the fallback service an allowed combination is not refused. -/
theorem allowed_of {master role port : Nat} (hask : openAllowed master role port = true) (hfb : s.rp.fallback = false) :
    ¬ (openAllowed master role port = false ∨ s.rp.fallback = true ∧ master ≠ 0 ∧ master ≠ 3) := by
  simp [hask, hfb]

/-- A response out of the order of requests, to the frame counted in. -/
theorem replied_untagged {w : State} {ks : List Byte} {ident arg code : Nat} {payload : List Byte} (hp : net.port < 3)
    (hn : reachable w net.port net.addr = true) :
    Replied ks net f arg code payload (respond net ks (responseFrame f ident arg code false payload) w) :=
  (respond_sends hp ks _ hn).replied hp

theorem sessions_respond (net : NetAddr) (ks : List Byte) (r : ObjFrame) (hp : net.port < 3) {w : State}
    (hn : reachable w net.port net.addr = true) : (respond net ks r w).sessions = w.sessions := by
  rw [(respond_sends hp ks r hn).changes]

theorem exec_sessionOpen_refused (h : OpenArrived net f s) (hask : asksAllowed net f = false) :
    exec (.sessionOpen net f) s = .next (respond net [] (responseFrame f 0 0 abAccess false []) (countIn net.port s)) := by
  obtain ⟨hup, hform, hblocked⟩ := h.holds
  show execSessionOpen net f s = _
  unfold execSessionOpen
  dsimp only
  rw [if_neg hup, if_neg hform, if_neg hblocked, if_pos (.inl hask)]

theorem exec_sessionOpen_full (h : OpenArrived net f s) (hask : asksAllowed net f = true) (hfb : s.rp.fallback = false)
    (hfull : freeSlot s = none) :
    exec (.sessionOpen net f) s = .next (respond net [] (responseFrame f 0 0 abResource false []) (countIn net.port s)) := by
  obtain ⟨hup, hform, hblocked⟩ := h.holds
  have hslot := (freeSlot_congr (samePath_countIn (port_lt_of_arrived h.arrived) s)).trans hfull
  show execSessionOpen net f s = _
  unfold execSessionOpen
  dsimp only
  rw [if_neg hup, if_neg hform, if_neg hblocked, if_neg (allowed_of hask (s := countIn net.port s) hfb), hslot]

/-- The record of a half-open session. -/
def halfOpenRecord (ident : Nat) (nh nd : List Byte) (x : Session) : Session :=
  { Session.free with ident := ident, nh := nh, nd := nd, ended := x.ended }

/-- The objects of a half-open session. -/
def halfOpenObjects (k : Nat) (net : NetAddr) (f : ObjFrame) : List (Nat × Nat) :=
  [(Obj.SESSION_STATE k, 1), (Obj.SESSION_MASTER k, leNat (slice f.payload 0 1)), (Obj.SESSION_ROLE k, leNat (slice f.payload 1 1)),
    (Obj.SESSION_PORT k, net.port), (Obj.SESSION_ADDRESS k, net.addr), (Obj.SESSION_UDP k, net.udp)]

theorem nodup_halfOpenObjects (k : Nat) (net : NetAddr) (f : ObjFrame) : ((halfOpenObjects k net f).map (·.1)).Nodup := by
  simp [halfOpenObjects]

/-- Session `k` half-open, its nonces being the host's and `nd`. -/
def halfOpened (k ident : Nat) (net : NetAddr) (f : ObjFrame) (nd : List Byte) (s : State) : State :=
  wrs (setSess s k (halfOpenRecord ident (slice f.payload 4 16) nd)) (halfOpenObjects k net f)

theorem sameNet_halfOpened (k ident : Nat) (net : NetAddr) (f : ObjFrame) (nd : List Byte) (s : State) :
    SameNet s (halfOpened k ident net f nd s) := by
  intro j hj
  refine rd_wrs_other _ _ fun p hp e => absurd hj (e ▸ not_netKey_of_le ?_)
  simp only [halfOpenObjects, List.mem_cons, List.not_mem_nil, or_false] at hp
  rcases hp with rfl | rfl | rfl | rfl | rfl | rfl <;> exact Nat.le_add_right_of_le (by decide)

theorem exec_sessionOpen_opens (h : OpenArrived net f s) (hask : asksAllowed net f = true) (hfb : s.rp.fallback = false)
    (hslot : freeSlot s = some k) :
    ∃ ident u, exec (.sessionOpen net f) s = .next (respond net []
        (responseFrame f ident 0 0 false (leBytes 16 (Config.random s.draws)))
        (halfOpened k ident net f (leBytes 16 (Config.random s.draws)) u))
      ∧ u = { countIn net.port s with draws := u.draws } := by
  obtain ⟨hup, hform, hblocked⟩ := h.holds
  have hslot' := (freeSlot_congr (samePath_countIn (port_lt_of_arrived h.arrived) s)).trans hslot
  have hexec : exec (.sessionOpen net f) s = execSessionOpen net f s := rfl
  rw [hexec]
  unfold execSessionOpen
  dsimp only
  rw [if_neg hup, if_neg hform, if_neg hblocked, if_neg (allowed_of hask (s := countIn net.port s) hfb), hslot']
  exact ⟨_, { countIn net.port s with draws := s.draws + 1 + 1 }, rfl, rfl⟩

theorem sessionOpen_opens (h : OpenArrived net f s) (hask : asksAllowed net f = true) (hfb : s.rp.fallback = false)
    (hslot : freeSlot s = some k) (hlen : k < s.sessions.length) :
    Completes (.sessionOpen net f) s fun t =>
      rd t (Obj.SESSION_STATE k) = 1 ∧ rd t (Obj.SESSION_MASTER k) = leNat (slice f.payload 0 1)
        ∧ rd t (Obj.SESSION_ROLE k) = leNat (slice f.payload 1 1) ∧ rd t (Obj.SESSION_PORT k) = net.port
        ∧ (sess t k).nh = slice f.payload 4 16 ∧ (sess t k).nd = leBytes 16 (Config.random s.draws) ∧ (sess t k).ks = []
        ∧ (∀ j, j ≠ k → sess t j = sess s j)
        ∧ Replied [] net f 0 0 (leBytes 16 (Config.random s.draws)) t := by
  obtain ⟨ident, u, hexec, hu⟩ := exec_sessionOpen_opens h hask hfb hslot
  have hp := port_lt_of_arrived h.arrived
  generalize leBytes 16 (Config.random s.draws) = nd at hexec
  have husess : u.sessions = s.sessions := by rw [hu]; rfl
  have hureach : reachable u net.port net.addr = true := by
    rw [hu]; exact counted_reachable h.arrived
  have hn : reachable (halfOpened k ident net f nd u) net.port net.addr = true := by
    rw [(sameNet_halfOpened k ident net f nd u).reachable hp, hureach]
  have hsent := respond_sends hp [] (responseFrame f ident 0 0 false nd) hn
  refine ⟨_, hexec, ?_⟩
  generalize respond net [] (responseFrame f ident 0 0 false nd) (halfOpened k ident net f nd u) = t at hsent
  have hrd : ∀ p ∈ halfOpenObjects k net f, rd t p.1 = p.2 := fun p hmem => by
    rw [hsent.objects _ ?_]
    · exact rd_wrs_mem (nodup_halfOpenObjects k net f) hmem _
    · simp only [halfOpenObjects, List.mem_cons, List.not_mem_nil, or_false] at hmem
      simp only [List.mem_cons, List.not_mem_nil, or_false, not_or]
      rcases hmem with rfl | rfl | rfl | rfl | rfl | rfl <;>
        exact ⟨ne_of_keySub (by simp only [keySub_add_mul]; decide), (Nat.lt_of_lt_of_le (by decide) (Nat.le_add_right _ _)).ne'⟩
  have hsess : ∀ j, sess t j = sess (setSess u k (halfOpenRecord ident (slice f.payload 4 16) nd)) j :=
    sess_congr (by rw [hsent.changes]; unfold halfOpened; rw [wrs_regs])
  have hself : sess t k = halfOpenRecord ident (slice f.payload 4 16) nd (sess u k) := by
    rw [hsess, sess_setSess, if_pos ⟨rfl, husess ▸ hlen⟩]
  refine ⟨hrd (_, _) (by simp [halfOpenObjects]), hrd (_, _) (by simp [halfOpenObjects]), hrd (_, _) (by simp [halfOpenObjects]),
    hrd (_, _) (by simp [halfOpenObjects]), by rw [hself]; rfl, by rw [hself]; rfl, by rw [hself]; rfl, fun j hj => ?_, hsent.replied hp⟩
  rw [hsess, sess_setSess_other _ _ hj, sess_congr husess]

theorem sessionOpen_refused (h : OpenArrived net f s) (hask : asksAllowed net f = false) :
    Completes (.sessionOpen net f) s fun t => t.sessions = s.sessions ∧ Replied [] net f 0 abAccess [] t := by
  have hp := port_lt_of_arrived h.arrived
  have hn := counted_reachable h.arrived
  exact ⟨_, exec_sessionOpen_refused h hask, sessions_respond net [] _ hp hn, replied_untagged hp hn⟩

theorem sessionOpen_full (h : OpenArrived net f s) (hask : asksAllowed net f = true) (hfb : s.rp.fallback = false)
    (hfull : freeSlot s = none) :
    Completes (.sessionOpen net f) s fun t => t.sessions = s.sessions ∧ Replied [] net f 0 abResource [] t := by
  have hp := port_lt_of_arrived h.arrived
  have hn := counted_reachable h.arrived
  exact ⟨_, exec_sessionOpen_full h hask hfb hfull, sessions_respond net [] _ hp hn, replied_untagged hp hn⟩

end

end Sys2Proof.Proofs

namespace Sys2Proof.Proofs

open Sys2Proof.Machine Sys2Proof.Claims Sys2Proof.Laws

/-! ### A session authenticates (R289, R290, R294) -/

section

variable {k : Nat} {net : NetAddr} {f : ObjFrame} {s : State}

/-- A well-formed SESSION_AUTH arrived that names the half-open session `k`. -/
structure AuthArrived (k : Nat) (net : NetAddr) (f : ObjFrame) (s : State) : Prop where
  /-- the frame -/
  arrived : Arrived net s
  /-- its form -/
  form : frameForm f 0 = true
  /-- its length -/
  length : f.payload.length = 32
  /-- its session -/
  found : findSession s f.session [1] = some k

theorem AuthArrived.lt (h : AuthArrived k net f s) : k < 16 := lt_of_mem_allSessions (List.mem_of_find?_eq_some h.found)

theorem AuthArrived.holds (h : AuthArrived k net f s) :
    ¬ hostUp s net.port = false ∧ ¬ (addressed (countIn net.port s) net = false ∨ frameForm f 0 = false ∨ f.payload.length ≠ 32)
      ∧ findSession (countIn net.port s) f.session [1] = some k := by
  obtain ⟨harr, hform, hlen, hfound⟩ := h
  refine ⟨by simp [harr.1], by simp [counted_addressed harr, hform, hlen], ?_⟩
  exact (findSession_congr (samePath_countIn (port_lt_of_arrived harr) s) rfl _ _).trans hfound

/-- A frame counted in changes no object but the count. -/
theorem rd_countIn_of_sub {port j : Nat} (hj : keySub j ≠ 9) (s : State) : rd (countIn port s) j = rd s j :=
  (onlyRegs_countIn port s).2 j (by simpa using ne_of_keySub (by rwa [keySub_add_mul]))

theorem installing_countIn (port : Nat) (s : State) : installing (countIn port s) = installing s := by
  unfold installing
  rw [rd_countIn_of_sub (by decide)]

theorem sessMaster_countIn (port k : Nat) (s : State) : sessMaster (countIn port s) k = sessMaster s k :=
  rd_countIn_of_sub (by simp) s

theorem sessRole_countIn (port k : Nat) (s : State) : sessRole (countIn port s) k = sessRole s k :=
  rd_countIn_of_sub (by simp) s

/-- The proof with which the device answers. -/
def deviceProof (key : List Byte) (x : Session) : List Byte := hmac key (asciiBytes "DEVC" ++ x.nd ++ x.nh ++ leBytes 4 x.ident)

/-- The key of the session that opens. -/
def sessionKs (key : List Byte) (x : Session) : List Byte := hmac key (asciiBytes "SESS" ++ x.nh ++ x.nd ++ leBytes 4 x.ident)

theorem exec_sessionAuth_installs (h : AuthArrived k net f s) (hzero : f.payload = List.replicate 32 0) (hport : net.port = 2)
    (hinst : installing s = true) (hmaster : sessMaster s k = 3) (hrole : sessRole s k = 2) :
    exec (.sessionAuth net f) s = .next (respond net [] (responseFrame f (sess s k).ident 0 0 false (List.replicate 32 0))
      (establish k [] 3 (notePlace k net (countIn net.port s)))) := by
  obtain ⟨hup, hform, hfound⟩ := h.holds
  show execSessionAuth net f s = _
  unfold execSessionAuth
  dsimp only
  rw [if_neg hup, if_neg hform, hfound]
  dsimp only
  rw [installing_countIn, sessMaster_countIn, sessRole_countIn, if_pos (by simp [hinst, hmaster, hrole, hport, hzero])]
  rfl

/-- What the host sent is no sign of an installation session. -/
theorem not_install {master role port : Nat} (h : installing s = false ∨ f.payload ≠ List.replicate 32 0) :
    ¬ (installing s && decide (master = 3) && decide (role = 2) && decide (port = 2)
      && decide (f.payload = List.replicate 32 0)) = true := by
  simp only [Bool.and_eq_true, decide_eq_true_eq]
  rintro ⟨⟨⟨⟨hinst, -⟩, -⟩, -⟩, hzero⟩
  rcases h with h | h
  · rw [h] at hinst
    cases hinst
  · exact h hzero

theorem exec_sessionAuth_opens (h : AuthArrived k net f s) (hinst : installing s = false ∨ f.payload ≠ List.replicate 32 0)
    (hkey : roleKey s (sessRole s k) ≠ [])
    (hproof : f.payload = openProof (roleKey s (sessRole s k)) (sess s k) (sessMaster s k) (sessRole s k)) :
    exec (.sessionAuth net f) s = .next (respond net []
      (responseFrame f (sess s k).ident 0 0 false (deviceProof (roleKey s (sessRole s k)) (sess s k)))
      (establish k (sessionKs (roleKey s (sessRole s k)) (sess s k)) 2 (notePlace k net (countIn net.port s)))) := by
  obtain ⟨hup, hform, hfound⟩ := h.holds
  have hinst' : installing (countIn net.port s) = false ∨ f.payload ≠ List.replicate 32 0 := by rwa [installing_countIn]
  show execSessionAuth net f s = _
  unfold execSessionAuth
  dsimp only
  rw [if_neg hup, if_neg hform, hfound]
  dsimp only
  rw [if_neg (not_install hinst'), sessMaster_countIn, sessRole_countIn,
    if_pos ⟨hkey, hproof⟩]
  rfl

theorem exec_sessionAuth_fails (h : AuthArrived k net f s) (hinst : installing s = false ∨ f.payload ≠ List.replicate 32 0)
    (hproof : f.payload ≠ openProof (roleKey s (sessRole s k)) (sess s k) (sessMaster s k) (sessRole s k)) :
    exec (.sessionAuth net f) s = .next (respond net [] (responseFrame f (sess s k).ident 0 abAuth false [])
      (freeSession k (authFailed net.addr (countIn net.port s)))) := by
  obtain ⟨hup, hform, hfound⟩ := h.holds
  have hinst' : installing (countIn net.port s) = false ∨ f.payload ≠ List.replicate 32 0 := by rwa [installing_countIn]
  have hwrong : ¬ (roleKey (countIn net.port s) (sessRole s k) ≠ [] ∧
      f.payload = openProof (roleKey (countIn net.port s) (sessRole s k)) (sess (countIn net.port s) k) (sessMaster s k) (sessRole s k)) :=
    fun hboth => hproof hboth.2
  show execSessionAuth net f s = _
  unfold execSessionAuth
  dsimp only
  rw [if_neg hup, if_neg hform, hfound]
  dsimp only
  rw [if_neg (not_install hinst'), sessMaster_countIn, sessRole_countIn, if_neg hwrong]
  rfl

/-! What a session established without an older one leaves. -/

/-- A session's record with its key. -/
def setKs (ks : List Byte) (x : Session) : Session := { x with ks := ks }

theorem establish_fresh {ks : List Byte} {st : Nat} (h : olderSessions s k (sessMaster s k) (sessRole s k) = []) :
    establish k ks st s = showSessions (wr (setSess s k (setKs ks)) (Obj.SESSION_STATE k) st) := by
  unfold establish
  dsimp only
  rw [h, if_neg (by simp)]
  rfl

/-- The state in which a SESSION_AUTH finds its session: the frame counted, the place noted. -/
theorem rd_placed {j : Nat} (hsub : keySub j ≤ 3) (k : Nat) (net : NetAddr) (s : State) :
    rd (notePlace k net (countIn net.port s)) j = rd s j := by
  unfold notePlace
  rw [rd_wrs_other, rd_countIn_of_sub (by omega)]
  intro p hp e
  simp only [List.mem_cons, List.not_mem_nil, or_false] at hp
  rw [← e] at hsub
  rcases hp with rfl | rfl | rfl <;> simp at hsub

theorem olderSessions_placed (k master role : Nat) (net : NetAddr) (s : State) :
    olderSessions (notePlace k net (countIn net.port s)) k master role = olderSessions s k master role := by
  unfold olderSessions sessOpen sessMaster sessRole
  refine List.filter_congr fun j _ => ?_
  rw [rd_placed (by simp), rd_placed (by simp),
    rd_placed (by simp)]

/-- What is left of a SESSION_AUTH whose session is established, with its response. -/
theorem established_leaves {ks : List Byte} {st : Nat} {payload : List Byte} (h : AuthArrived k net f s)
    (hlen : k < s.sessions.length) (holder : olderSessions s k (sessMaster s k) (sessRole s k) = []) {t : State}
    (ht : respond net [] (responseFrame f (sess s k).ident 0 0 false payload)
      (establish k ks st (notePlace k net (countIn net.port s))) = t) :
    rd t (Obj.SESSION_STATE k) = st ∧ (sess t k).ks = ks ∧ Replied [] net f 0 0 payload t := by
  have hp := port_lt_of_arrived h.arrived
  have hmaster : sessMaster (notePlace k net (countIn net.port s)) k = sessMaster s k :=
    rd_placed (by simp) _ _ _
  have hrole : sessRole (notePlace k net (countIn net.port s)) k = sessRole s k :=
    rd_placed (by simp) _ _ _
  have hplaced : SameNet s (notePlace k net (countIn net.port s)) := by
    refine (sameNet_countIn net.port s).trans fun j hj => rd_wrs_other _ _ fun p hmem e => absurd hj (e ▸ not_netKey_of_le ?_)
    simp only [List.mem_cons, List.not_mem_nil, or_false] at hmem
    rcases hmem with rfl | rfl | rfl <;> exact Nat.le_add_right_of_le (by decide)
  have hplen : k < (notePlace k net (countIn net.port s)).sessions.length := by
    unfold notePlace; rw [wrs_regs]; exact hlen
  rw [establish_fresh (by rw [hmaster, hrole, olderSessions_placed, holder])] at ht
  generalize notePlace k net (countIn net.port s) = u at hplaced hplen ht
  have hnet : SameNet u (showSessions (wr (setSess u k (setKs ks)) (Obj.SESSION_STATE k) st)) := fun j hj => by
    unfold showSessions
    rw [rd_wr_other _ _ fun e => not_netKey_of_le (by decide) (e ▸ hj),
      rd_wr_other _ _ fun e => not_netKey_of_le (Nat.le_add_right_of_le (by decide)) (e ▸ hj), rd_setSess]
  have hn : reachable (showSessions (wr (setSess u k (setKs ks)) (Obj.SESSION_STATE k) st)) net.port net.addr = true := by
    rw [(hplaced.trans hnet).reachable hp, h.arrived.2.2]
  have hsent := respond_sends hp [] (responseFrame f (sess s k).ident 0 0 false payload) hn
  rw [ht] at hsent
  refine ⟨?_, ?_, hsent.replied hp⟩
  · rw [hsent.objects _ ?_]
    · unfold showSessions
      rw [rd_wr_other _ _ (Nat.lt_of_lt_of_le (by decide) (Nat.le_add_right _ _)).ne', rd_wr_same]
    · simp only [List.mem_cons, List.not_mem_nil, or_false, not_or]
      exact ⟨ne_of_keySub (by simp only [keySub_add_mul]; decide), (Nat.lt_of_lt_of_le (by decide) (Nat.le_add_right _ _)).ne'⟩
  · have hsess := sess_congr (s := setSess u k (setKs ks)) (t := t) (by rw [hsent.changes]; rfl) k
    rw [hsess, sess_setSess, if_pos ⟨rfl, hplen⟩]
    rfl

theorem sessionAuth_fails (h : AuthArrived k net f s) (hinst : installing s = false ∨ f.payload ≠ List.replicate 32 0)
    (hproof : f.payload ≠ openProof (roleKey s (sessRole s k)) (sess s k) (sessMaster s k) (sessRole s k)) :
    Completes (.sessionAuth net f) s fun t =>
      rd t (Obj.SESSION_STATE k) = 0 ∧ Counted 32 Obj.AUTH_FAILURES s t ∧ Replied [] net f 0 abAuth [] t := by
  have hp := port_lt_of_arrived h.arrived
  have hk := h.lt
  have hfailed : ∀ j, j ≠ Obj.AUTH_FAILURES → rd (authFailed net.addr (countIn net.port s)) j = rd (countIn net.port s) j :=
    fun j hj => rd_count_other _ hj
  have hcount : rd (authFailed net.addr (countIn net.port s)) Obj.AUTH_FAILURES = satAdd (2 ^ 32 - 1) (rd s Obj.AUTH_FAILURES) 1 := by
    rw [← rd_countIn_of_sub (port := net.port) (by decide) s]
    exact rd_count_same _ _
  have hfreed := freeSession_freed k (authFailed net.addr (countIn net.port s))
  have hnet : SameNet s (freeSession k (authFailed net.addr (countIn net.port s))) :=
    ((sameNet_countIn net.port s).trans fun j hj => hfailed j fun e => not_netKey_of_le (by decide) (e ▸ hj)).trans
      fun j hj => hfreed.objects j (not_mem_freedKeys (by have := hj.1; omega))
  have hn : reachable (freeSession k (authFailed net.addr (countIn net.port s))) net.port net.addr = true := by
    rw [hnet.reachable hp, h.arrived.2.2]
  have hsent := respond_sends hp [] (responseFrame f (sess s k).ident 0 abAuth false []) hn
  refine ⟨_, exec_sessionAuth_fails h hinst hproof, ?_, ?_, hsent.replied hp⟩
  · rw [hsent.objects _ ?_, hfreed.state]
    simp only [List.mem_cons, List.not_mem_nil, or_false, not_or]
    exact ⟨ne_of_keySub (by simp only [keySub_add_mul]; decide), (Nat.lt_of_lt_of_le (by decide) (Nat.le_add_right _ _)).ne'⟩
  · unfold Counted
    rw [hsent.objects _ ?_, hfreed.objects _ ?_, hcount]
    · exact not_mem_freedKeys ⟨.inl (Nat.lt_of_lt_of_le (by decide) (Nat.le_add_right _ _)), by decide⟩
    · simp only [List.mem_cons, List.not_mem_nil, or_false, not_or]
      exact ⟨ne_of_keySub (by simp only [keySub_add_mul]; decide), by decide⟩

end

/-- Settles O47: each refusal or answer out of the order of requests is the response to a frame counted in; a session's end is told, frees
its record and its objects, and passes on the token it held. -/
theorem sessionsOpenAuthenticateAndEnd : Obligations.SessionsOpenAuthenticateAndEnd := by
  unfold Obligations.SessionsOpenAuthenticateAndEnd
  refine ⟨fun net f k s harr hform hlen hblocked hfb hask hslot hk =>
      sessionOpen_opens ⟨harr, hform, hlen, hblocked⟩ hask hfb hslot hk,
    fun net f s harr hform hlen hblocked hask => sessionOpen_refused ⟨harr, hform, hlen, hblocked⟩ hask,
    fun net f s harr hform hlen hblocked hfb hask hfull => sessionOpen_full ⟨harr, hform, hlen, hblocked⟩ hask hfb hfull,
    fun net f k s harr hform hlen hfound hk hinst hkey hproof holder => ?_,
    fun net f k s harr hform hzero hport hfound hk hinst hmaster hrole holder => ?_,
    fun net f k s harr hform hlen hfound hinst hproof => sessionAuth_fails ⟨harr, hform, hlen, hfound⟩ hinst hproof,
    fun net f k s h hturn hf => keepalive_completes h hturn hf, fun net f k s h hturn hf => sessionClose_completes h hturn hf,
    fun k s hl hk hstate => halfOpenTimeout_completes hl hk hstate, fun k s hl hopen => sessionTimeoutExpiry_completes hl hopen,
    fun k v s h hv hstate => sessionEvict_completes h hv hstate⟩
  · have h : AuthArrived k net f s := ⟨harr, hform, hlen, hfound⟩
    exact ⟨_, exec_sessionAuth_opens h hinst hkey hproof, established_leaves h hk holder rfl⟩
  · have h : AuthArrived k net f s := ⟨harr, hform, by rw [hzero, List.length_replicate], hfound⟩
    have hfresh : olderSessions s k (sessMaster s k) (sessRole s k) = [] := by rw [hmaster, hrole, holder]
    exact ⟨_, exec_sessionAuth_installs h hzero hport hinst hmaster hrole, established_leaves h hk hfresh rfl⟩

end Sys2Proof.Proofs

namespace Sys2Proof.Proofs

open Sys2Proof.Machine Sys2Proof.Claims Sys2Proof.Laws

/-! ### Contradictory orders (R308) -/

/-- The objects that a conflict of the masters changes. -/
abbrev conflictKeys : List Nat := [Obj.TOKEN_CONFLICTS, Obj.LOG_DROPPED]

/-- A master's record marked with a conflict. -/
def markConflict (x : MasterImages) : MasterImages := { x with conflict := true }

section

variable {s t : State}

theorem conflict_work (key refused hv rv : Nat) (s : State) : HostWork conflictKeys s (conflict key refused hv rv s) := by
  have hcount : HostWork conflictKeys s (count s Obj.TOKEN_CONFLICTS) :=
    (HostWork.refl s).wr (by simp) (not_sessionKey_of_lt (by decide)) _
  have hmarked := hcount.setMaster refused (f := markConflict) fun _ => rfl
  have htold : ∃ args body, conflict key refused hv rv s = notifyMaster 2 0x03 body (notifyMaster 1 0x03 body
      (emit .commandConflict noInst args (setMaster refused markConflict (count s Obj.TOKEN_CONFLICTS)))) := ⟨_, _, rfl⟩
  obtain ⟨args, body, htold⟩ := htold
  rw [htold]
  exact ((hmarked.emit (by simp) _ _ args).trans (notifyMaster_work 1 0x03 body _)).trans (notifyMaster_work 2 0x03 body _)

/-- One more entry of an unapplied image differs. -/
def countHit (x : MasterImages) : MasterImages := { x with shadowHits := x.shadowHits + 1 }

theorem shadowEntry_work (m key hv v : Nat) (s : State) : HostWork conflictKeys s (shadowEntry m key hv v s) := by
  unfold shadowEntry
  split
  · exact ((HostWork.refl s).setMaster m (f := countHit) fun _ => rfl).trans (conflict_work _ _ _ _ _)
  · exact .refl s

/-- What a master was refused of an object is forgotten. -/
def forgetRefused (key : Nat) (x : MasterImages) : MasterImages :=
  { x with remembered := x.remembered.filter (fun p => p.1 ≠ key), shadow := x.shadow.filter (fun p => p.1 ≠ key) }

theorem meetRefused_work (key raw o : Nat) (s : State) : HostWork conflictKeys s (meetRefused key raw o s) := by
  have hforgot : HostWork conflictKeys s (setMaster o (forgetRefused key) s) := (HostWork.refl s).setMaster o fun _ => rfl
  have hhits : ∀ (l : List (Nat × Nat)) (u : State), HostWork conflictKeys u (l.foldl (fun t p => conflict key o raw p.2 t) u) :=
    fun l u => HostWork.foldl (f := fun t (p : Nat × Nat) => conflict key o raw p.2 t) (fun t p => conflict_work key o raw p.2 t) l u
  have hghosts : ∀ (l : List (Nat × Nat)) (u : State), HostWork conflictKeys u (l.foldl (fun t p => shadowEntry o key raw p.2 t) u) :=
    fun l u => HostWork.foldl (f := fun t (p : Nat × Nat) => shadowEntry o key raw p.2 t) (fun t p => shadowEntry_work o key raw p.2 t) l u
  unfold meetRefused
  refine HostWork.trans ?_ (hghosts _ _)
  exact HostWork.trans hforgot (hhits _ _)

/-- A master's record that notes a write of the present cycle. -/
def noteWrite (key raw : Nat) (x : MasterImages) : MasterImages :=
  { x with wrote := (key, raw) :: x.wrote.filter (fun p => p.1 ≠ key) }

theorem noteHolderWrite_work (m key raw : Nat) (s : State) : HostWork conflictKeys s (noteHolderWrite m key raw s) := by
  have hnoted : HostWork conflictKeys s (setMaster m (noteWrite key raw) s) := (HostWork.refl s).setMaster m fun _ => rfl
  have hcases : noteHolderWrite m key raw s = setMaster m (noteWrite key raw) s ∨ noteHolderWrite m key raw s =
      meetRefused key raw 3 (meetRefused key raw (3 - m) (setMaster m (noteWrite key raw) s)) := by
    unfold noteHolderWrite
    dsimp only
    split
    · exact .inl rfl
    · exact .inr rfl
  rcases hcases with h | h <;> rw [h]
  · exact hnoted
  · exact (hnoted.trans (meetRefused_work _ _ _ _)).trans (meetRefused_work _ _ _ _)

/-- A master's record with one more entry of its unapplied image. -/
def addShadow (key raw : Nat) (x : MasterImages) : MasterImages := { x with shadow := x.shadow ++ [(key, raw)] }

theorem shadowImage_work (m : Nat) (es : List (Nat × List Byte)) (s : State) : HostWork conflictKeys s (shadowImage m es s) := by
  refine HostWork.foldl (fun t e => ?_) es s
  split
  · exact shadowEntry_work _ _ _ _ _
  · exact (HostWork.refl t).setMaster m (f := addShadow e.1 (writeRaw e.1 e.2)) fun _ => rfl

end

/-! ### An IMAGE_OUT frame is taken (R285, R301) -/

/-- The number of the last output image frame is noted in its session's record. -/
def setImageArg (arg : Nat) (x : Session) : Session := { x with imageArg := arg }

/-- The state in which an output image's fragment joins its image: the frame counted, the session's place and the frame's number noted. -/
def imaged (k : Nat) (net : NetAddr) (f : ObjFrame) (s : State) : State := setSess (reached k net s) k (setImageArg f.arg)

/-- An IMAGE_OUT frame of master A or B has arrived, newer than the last and of the length it states, outside the fallback service. -/
structure ImageHeard (k : Nat) (net : NetAddr) (f : ObjFrame) (s : State) : Prop where
  /-- the frame -/
  heard : Heard k net f s
  /-- its service -/
  service : f.service = 0x30
  /-- its port -/
  port : net.port ≠ 2
  /-- the service in force -/
  awake : s.rp.fallback = false
  /-- its master -/
  master : sessMaster s k = 1 ∨ sessMaster s k = 2
  /-- its number -/
  newer : aheadOf 32 f.arg (sess s k).imageArg = true
  /-- its head -/
  head : 24 ≤ f.payload.length
  /-- its length -/
  length : (f.payload.drop 24).length = leNat (slice f.payload 18 2)
  /-- its limit -/
  limit : (f.payload.drop 24).length ≤ 1000

section

variable {k : Nat} {net : NetAddr} {f : ObjFrame} {s : State}

theorem imaged_frame (k : Nat) (net : NetAddr) (f : ObjFrame) (s : State) :
    imaged k net f s = { s with regs := (imaged k net f s).regs, sessions := (imaged k net f s).sessions } := by
  unfold imaged
  rw [reached_frame]
  rfl

theorem rd_imaged (k : Nat) (net : NetAddr) (f : ObjFrame) (s : State) {j : Nat} (h : j ∉ arrivalKeys k net) :
    rd (imaged k net f s) j = rd s j := by
  unfold imaged
  rw [rd_setSess, rd_reached _ _ _ h]

theorem not_mem_arrivalKeys {j : Nat} (hport : net.port < 3) (hj : (0x110300 ≤ j ∧ keySub j ≤ 3) ∨ 0x112000 ≤ j)
    (hpmc : j < 0x225001 ∨ 0x228000 ≤ j) (hk : k < 16) : j ∉ arrivalKeys k net := by
  have hpmc' := not_mem_pmcKeys hpmc
  unfold keySub at hj
  simp only [arrivalKeys, List.cons_append, List.nil_append, List.mem_cons, not_or]
  refine ⟨?_, ?_, ?_, ?_, ?_, hpmc'⟩ <;>
    simp only [Obj.FRAMES_IN, Obj.SESSION_PORT, Obj.SESSION_ADDRESS, Obj.SESSION_UDP, Obj.SESSION_REQUESTS] <;> omega

theorem takeFrame_image (h : ImageHeard k net f s) :
    takeFrame net f s = respond net (sess s k).ks (responseFrame f (sess s k).ident 0 0 false [])
      (takeFragment k (sessMaster s k) f.payload (imaged k net f s)) := by
  obtain ⟨hheard, hservice, hport, hawake, hmaster, hnewer, hhead, hlength, hlimit⟩ := h
  obtain ⟨hk, hp, -⟩ := bounds_of_heard hheard
  have hm : sessMaster (reached k net s) k = sessMaster s k :=
    rd_reached k net s (not_mem_arrivalKeys hp (.inl ⟨by simp only [Obj.SESSION_MASTER]; omega, by simp⟩)
      (.inl (by simp only [Obj.SESSION_MASTER]; omega)) hk)
  have hm' : sessMaster (imaged k net f s) k = sessMaster s k := hm
  have hfb : (reached k net s).rp.fallback = false := by rw [reached_frame]; exact hawake
  have hsess := sess_reached k net s k
  have hroute : takeFrame net f s = takeImage k net f (reached k net s) := by
    rw [takeFrame_heard hheard]
    unfold routeFrame
    dsimp only
    rw [if_neg (by omega), if_pos hservice, if_neg hport, if_neg (by rw [hfb]; decide), if_pos (by rwa [hm])]
  rw [hroute]
  unfold takeImage
  dsimp only
  rw [if_neg (by rw [hsess, hnewer]; decide), if_neg (by omega), hsess]
  rw [show setSess (reached k net s) k (fun x => { x with imageArg := f.arg }) = imaged k net f s from rfl, hm']

theorem imageOut_completes (h : ImageHeard k net f s) {P : State → Prop}
    (hP : P (respond net (sess s k).ks (responseFrame f (sess s k).ident 0 0 false [])
      (takeFragment k (sessMaster s k) f.payload (imaged k net f s)))) : Completes (.imageOut net f) s P := by
  refine ⟨_, exec_request_of_service (net := net) (code := 0x30) (by simp [requestRows]) h.service s, ?_⟩
  rw [takeFrame_image h]
  exact hP

end

end Sys2Proof.Proofs

namespace Sys2Proof.Proofs

open Sys2Proof.Machine Sys2Proof.Claims Sys2Proof.Laws

/-! ### The image of a cycle (R301, R303, R305, R307) -/

section

variable {k m cycle : Nat} {s t : State}

/-- A field of the masters' records that a change of one keeps. -/
theorem masterImages_setMaster_field {α : Type} (g : MasterImages → α) {f : MasterImages → MasterImages} (hf : ∀ x, g (f x) = g x)
    (s : State) (m j : Nat) : g (masterImages (setMaster m f s) j) = g (masterImages s j) := by
  rw [masterImages_setMaster]
  split
  · next hj => rw [hf, hj.1]
  · rfl

theorem masterImages_setMaster_same (f : MasterImages → MasterImages) (hm : m ≠ 0) (hlen : m - 1 < s.images.length) :
    masterImages (setMaster m f s) m = f (masterImages s m) := by
  rw [masterImages_setMaster, if_pos ⟨rfl, hm, hlen⟩]

theorem rd_setMaster (m : Nat) (f : MasterImages → MasterImages) (s : State) (j : Nat) : rd (setMaster m f s) j = rd s j := by
  rw [setMaster_frame]
  rfl

theorem images_setMaster_congr (h : t.images = s.images) (m : Nat) (f : MasterImages → MasterImages) :
    (setMaster m f t).images = (setMaster m f s).images := by
  unfold setMaster
  split
  · exact h
  · rw [h]

theorem imageOf_congr (himages : t.images = s.images) (hblobs : t.blobs = s.blobs)
    (hsize : rd t (Obj.IMAGE_SIZE (2 * m - 2)) = rd s (Obj.IMAGE_SIZE (2 * m - 2))) (cycle : Nat) :
    imageOf t m cycle = imageOf s m cycle := by
  unfold imageOf outputMap mapOf rdBlob
  rw [masterImages_of_images himages, hsize, hblobs]

/-- A fragment of an image joins those that have arrived. -/
def joinPart (payload : List Byte) (x : MasterImages) : MasterImages :=
  { x with asm := addFragment (leNat (slice payload 0 8)) (leNat (slice payload 16 2)) (payload.drop 24) x.asm }

theorem takeFragment_late {payload : List Byte} (hnow : leNat (slice payload 0 8) ≠ rd s Obj.IMAGE_CYCLE_NOW)
    (hnext : leNat (slice payload 0 8) ≠ rd s Obj.IMAGE_CYCLE_NOW + 1) : takeFragment k m payload s = count s Obj.IMAGE_LATE := by
  unfold takeFragment
  exact if_pos ⟨hnow, hnext⟩

/-- A fragment of the present or the next cycle, whose image is not complete yet. -/
def Due (m : Nat) (payload : List Byte) (s : State) : Prop :=
  (leNat (slice payload 0 8) = rd s Obj.IMAGE_CYCLE_NOW ∨ leNat (slice payload 0 8) = rd s Obj.IMAGE_CYCLE_NOW + 1)
    ∧ (masterImages s m).complete.contains (leNat (slice payload 0 8)) = false

theorem takeFragment_part {payload : List Byte} (h : Due m payload s)
    (hpart : imageOf (setMaster m (joinPart payload) s) m (leNat (slice payload 0 8)) = none) :
    takeFragment k m payload s = setMaster m (joinPart payload) s := by
  obtain ⟨hcycle, hopen⟩ := h
  unfold takeFragment
  dsimp only
  unfold joinPart at hpart ⊢
  rw [if_neg (by omega), if_neg (by rw [hopen]; decide), hpart]

theorem takeFragment_whole {payload : List Byte} {es : List (Nat × List Byte)} (h : Due m payload s)
    (hwhole : imageOf (setMaster m (joinPart payload) s) m (leNat (slice payload 0 8)) = some es) :
    takeFragment k m payload s = completeImage k m (leNat (slice payload 0 8)) es (setMaster m (joinPart payload) s) := by
  obtain ⟨hcycle, hopen⟩ := h
  unfold takeFragment
  dsimp only
  unfold joinPart at hwhole ⊢
  rw [if_neg (by omega), if_neg (by rw [hopen]; decide), hwhole]

/-- A master's record with the image of a cycle complete. -/
def markComplete (cycle : Nat) (x : MasterImages) : MasterImages :=
  { x with complete := cycle :: x.complete, missed := 0, outputsMissing := false }

/-- A master's record with the image of a cycle applied, in part or whole. -/
def markApplied (cycle : Nat) (refused : Bool) (x : MasterImages) : MasterImages :=
  { x with applied := cycle :: x.applied, refused := if refused then cycle :: x.refused else x.refused }

theorem imageApplies_complete : imageApplies (setMaster m (markComplete cycle) s) m cycle = imageApplies s m cycle := by
  unfold imageApplies
  rw [rd_setMaster, rd_setMaster, masterImages_setMaster_field (fun x => x.applyFrom) (f := markComplete cycle) fun _ => rfl]

theorem completeImage_applied {es : List (Nat × List Byte)} (h : imageApplies s m cycle = true) :
    ∃ note, completeImage k m cycle es s = countBy 64 (setMaster m
      (markApplied cycle (imageEntries k m note es (setMaster m (markComplete cycle) s)).2)
      (imageEntries k m note es (setMaster m (markComplete cycle) s)).1) Obj.IMAGES_OUT_APPLIED 1 := by
  rw [← imageApplies_complete] at h
  unfold completeImage
  unfold markComplete at h ⊢
  dsimp only
  rw [if_pos h]
  exact ⟨_, rfl⟩

theorem completeImage_unapplied {es : List (Nat × List Byte)} (h : imageApplies s m cycle = false) :
    HostWork conflictKeys (setMaster m (markComplete cycle) s) (completeImage k m cycle es s) := by
  rw [← imageApplies_complete] at h
  have hcases : completeImage k m cycle es s = shadowImage m es (setMaster m (markComplete cycle) s)
      ∨ completeImage k m cycle es s = setMaster m (markComplete cycle) s := by
    unfold completeImage
    unfold markComplete at h ⊢
    dsimp only
    rw [if_neg (by rw [h]; decide)]
    split
    · exact .inl rfl
    · exact .inr rfl
  rcases hcases with e | e <;> rw [e]
  · exact shadowImage_work _ _ _
  · exact .refl _

end

end Sys2Proof.Proofs

namespace Sys2Proof.Proofs

open Sys2Proof.Machine Sys2Proof.Claims Sys2Proof.Laws

/-! ### An image with one entry, GPIO_OUT (R301, R413) -/

/-- What decides whether a row may be written with any four bytes. -/
def rowKind (r : ObjRow) : Fitted × ObjTy × Access × Bool × Range := (r.fitted, r.ty, r.acc, r.persist, r.range)

theorem rowKind_gpioOut : (findRow (keyIndex Obj.GPIO_OUT) (keySub Obj.GPIO_OUT)).map rowKind = some (.core, .u32, .rw, false, .any) := by
  decide +kernel

section

variable {k m : Nat} {v : List Byte} {s : State}

theorem presentRow_gpioOut (code : Nat) :
    ∃ r, presentRow code (keyIndex Obj.GPIO_OUT) (keySub Obj.GPIO_OUT) = some r ∧ rowKind r = (.core, .u32, .rw, false, .any) := by
  obtain ⟨r, hr, hkind⟩ := Option.map_eq_some_iff.mp rowKind_gpioOut
  have hfitted : r.fitted = .core := congrArg Prod.fst hkind
  have hsub : subFitted code (keyIndex Obj.GPIO_OUT) (keySub Obj.GPIO_OUT) = true := by
    unfold subFitted
    rw [show decide (0x40 < keySub Obj.GPIO_OUT) = false from rfl, Bool.and_false]
    rfl
  refine ⟨r, ?_, hkind⟩
  unfold presentRow
  rw [hr]
  dsimp only
  rw [if_pos]
  unfold ObjRow.fittedOn
  rw [hfitted, hsub]
  rfl

/-- Any four bytes may be written, outside the installation session and the fallback service. -/
theorem lateChecks_gpioOut {r : ObjRow} (hr : rowKind r = (.core, .u32, .rw, false, .any)) (hv : v.length = 4)
    (hstate : rd s (Obj.SESSION_STATE k) ≠ 3) (hfb : s.rp.fallback = false) : lateChecks s k Obj.GPIO_OUT r v = 0 := by
  simp only [rowKind, Prod.mk.injEq] at hr
  obtain ⟨-, hty, hacc, hpersist, hrange⟩ := hr
  have hstateMay : stateMay s k Obj.GPIO_OUT r = true := by
    unfold stateMay changesDraft
    simp [hacc, hpersist, hstate, hfb, Obj.GPIO_OUT, Obj.CONFIG_DRAFT, Obj.DRAFT_DISCARD]
  have hsafety : safetyForbids s Obj.GPIO_OUT v = false := by
    unfold safetyForbids
    simp [Obj.GPIO_OUT, Obj.STATE_REQUEST, keyIndex]
  have hlength : lengthOk Obj.GPIO_OUT r v = true := by
    unfold lengthOk
    rw [hty]
    exact decide_eq_true hv
  have hvalue : rangeOk Obj.GPIO_OUT r v = true := by
    unfold rangeOk valueOk
    rw [hty, hrange]
    rfl
  unfold lateChecks
  rw [if_neg (by rw [hstateMay]; decide), if_neg (by rw [hsafety]; decide), if_neg (by rw [hlength]; decide),
    if_neg (by rw [hvalue]; decide)]

/-- Driving pins sends their levels, and changes nothing else. -/
theorem drivePins_frame (mask : Nat) (s : State) : drivePins mask s = { s with outbox := (drivePins mask s).outbox } := by
  unfold drivePins
  generalize bitsSet 32 (mask &&& s.lio.gpioOut) = pins
  induction pins generalizing s with
  | nil => rfl
  | cons i pins ih =>
    rw [List.foldl_cons, ih]
    rfl

theorem applyWrite_gpioOut {seq : Nat} {r : ObjRow} (hp : r.persist = false) :
    applyWrite k seq Obj.GPIO_OUT r v s = (drivePins (2 ^ 32 - 1) (wr s Obj.GPIO_OUT (leNat v)), 0) := by
  unfold applyWrite
  rw [hp]
  rfl

/-- The state in which GPIO_OUT has a value and drives the pins. -/
def gpioDriven (v : List Byte) (s : State) : State := drivePins (2 ^ 32 - 1) (wr s Obj.GPIO_OUT (leNat v))

theorem rd_gpioDriven_same (v : List Byte) (s : State) : rd (gpioDriven v s) Obj.GPIO_OUT = leNat v := by
  unfold gpioDriven
  rw [drivePins_frame]
  exact rd_wr_same _ _ _

theorem rd_gpioDriven_other {j : Nat} (hj : j ≠ Obj.GPIO_OUT) (v : List Byte) (s : State) : rd (gpioDriven v s) j = rd s j := by
  unfold gpioDriven
  rw [drivePins_frame]
  exact rd_wr_other _ _ hj

theorem images_gpioDriven (v : List Byte) (s : State) : (gpioDriven v s).images = s.images := by
  unfold gpioDriven
  rw [drivePins_frame]
  rfl

/-- The one entry of the image is written, and no entry is refused. -/
theorem imageEntries_gpioOut (note : Bool) (hv : v.length = 4) (hstate : rd s (Obj.SESSION_STATE k) ≠ 3) (hfb : s.rp.fallback = false) :
    ∃ w, imageEntries k m note [(Obj.GPIO_OUT, v)] s = (w, false) ∧ HostWork conflictKeys (gpioDriven v s) w := by
  obtain ⟨r, hr, hkind⟩ := presentRow_gpioOut (optionCode s)
  have hp : r.persist = false := congrArg (fun x => x.2.2.2.1) hkind
  have hentry : ∃ w, imageEntry k m note (Obj.GPIO_OUT, v) s = (w, true) ∧ HostWork conflictKeys (gpioDriven v s) w := by
    unfold imageEntry
    dsimp only
    rw [hr]
    dsimp only
    rw [if_neg (by rw [lateChecks_gpioOut hkind hv hstate hfb]; decide), applyWrite_gpioOut hp]
    dsimp only
    rw [if_neg (by decide)]
    cases note
    · exact ⟨_, rfl, .refl _⟩
    · exact ⟨_, rfl, noteHolderWrite_work m Obj.GPIO_OUT (writeRaw Obj.GPIO_OUT v) (gpioDriven v s)⟩
  obtain ⟨w, hentry, hwork⟩ := hentry
  refine ⟨w, ?_, hwork⟩
  unfold imageEntries imageEntries
  rw [hentry]
  rfl

end

end Sys2Proof.Proofs

namespace Sys2Proof.Proofs

open Sys2Proof.Machine Sys2Proof.Claims Sys2Proof.Laws

/-! ### What an IMAGE_OUT frame does (R285, R301, R305, R307) -/

section

variable {k : Nat} {net : NetAddr} {f : ObjFrame} {s : State}

/-- The record of the frame's master, with the frame's fragment joined. -/
abbrev joined (k : Nat) (f : ObjFrame) (s : State) : State := setMaster (sessMaster s k) (joinPart f.payload) s

theorem images_imaged (k : Nat) (net : NetAddr) (f : ObjFrame) (s : State) : (imaged k net f s).images = s.images := by
  rw [imaged_frame]

theorem rd_imaged_image (h : ImageHeard k net f s) {j : Nat} (hj : 0x120000 ≤ j) (hj' : j < 0x225001) :
    rd (imaged k net f s) j = rd s j := by
  obtain ⟨hk, hp, -⟩ := bounds_of_heard h.heard
  exact rd_imaged k net f s (not_mem_arrivalKeys hp (.inr (by omega)) (.inl hj') hk)

theorem due_imaged (h : ImageHeard k net f s) (hdue : Due (sessMaster s k) f.payload s) :
    Due (sessMaster s k) f.payload (imaged k net f s) := by
  unfold Due
  rw [rd_imaged_image h (by decide) (by decide), masterImages_of_images (images_imaged k net f s)]
  exact hdue

theorem images_joined (k : Nat) (net : NetAddr) (f : ObjFrame) (s : State) :
    (setMaster (sessMaster s k) (joinPart f.payload) (imaged k net f s)).images = (joined k f s).images :=
  images_setMaster_congr (images_imaged k net f s) _ _

theorem blobs_setMaster (m : Nat) (g : MasterImages → MasterImages) (s : State) : (setMaster m g s).blobs = s.blobs := by
  rw [setMaster_frame]

theorem imageOf_imaged (h : ImageHeard k net f s) (cycle : Nat) :
    imageOf (setMaster (sessMaster s k) (joinPart f.payload) (imaged k net f s)) (sessMaster s k) cycle
      = imageOf (joined k f s) (sessMaster s k) cycle := by
  refine imageOf_congr (images_joined k net f s) ?_ ?_ cycle
  · rw [blobs_setMaster, blobs_setMaster, imaged_frame]
  · have hm := h.master
    rw [rd_setMaster, rd_setMaster, rd_imaged_image h] <;> simp only [Obj.IMAGE_SIZE] <;> omega

/-- A fragment whose image is not whole yet. -/
theorem imageOut_part (h : ImageHeard k net f s) (hdue : Due (sessMaster s k) f.payload s)
    (hpart : imageOf (joined k f s) (sessMaster s k) (leNat (slice f.payload 0 8)) = none) :
    Completes (.imageOut net f) s fun t =>
      t.images = (joined k f s).images ∧ Replied (sess s k).ks net f 0 0 [] t ∧ ∀ j, j ∉ frameKeys k net → rd t j = rd s j := by
  obtain ⟨hk, hp, -⟩ := bounds_of_heard h.heard
  obtain ⟨-, -, ⟨-, -, hreach⟩, -⟩ := h.heard
  refine imageOut_completes h ?_
  rw [takeFragment_part (due_imaged h hdue) (by rw [imageOf_imaged h, hpart])]
  have himages := images_joined k net f s
  generalize hu : setMaster (sessMaster s k) (joinPart f.payload) (imaged k net f s) = u at himages
  have hrd : ∀ j, j ∉ arrivalKeys k net → rd u j = rd s j := fun j hj => by
    rw [← hu, rd_setMaster, rd_imaged _ _ _ _ hj]
  have hpath : SamePath net.port s u := fun j hj =>
    hrd j fun hmem => not_mem_frameKeys_of_path hk hp hj (arrivalKeys_subset k net hmem)
  have hsent := respond_sends hp (sess s k).ks (responseFrame f (sess s k).ident 0 0 false []) ((hpath.reachable _).trans hreach)
  refine ⟨?_, hsent.replied hp, fun j hj => ?_⟩
  · rw [hsent.changes]
    exact himages
  · have hout : j ∉ [Obj.FRAMES_OUT net.port] := fun hmem => hj (by simp_all [frameKeys])
    rw [hsent.accepted rfl j hout, hrd j fun hmem => hj (arrivalKeys_subset k net hmem)]

/-- A fragment of another cycle. -/
theorem imageOut_late (h : ImageHeard k net f s) (hnow : leNat (slice f.payload 0 8) ≠ rd s Obj.IMAGE_CYCLE_NOW)
    (hnext : leNat (slice f.payload 0 8) ≠ rd s Obj.IMAGE_CYCLE_NOW + 1) :
    Completes (.imageOut net f) s fun t =>
      Counted 32 Obj.IMAGE_LATE s t ∧ t.images = s.images ∧ Replied (sess s k).ks net f 0 0 [] t := by
  obtain ⟨hk, hp, -⟩ := bounds_of_heard h.heard
  obtain ⟨-, -, ⟨-, -, hreach⟩, -⟩ := h.heard
  have hcycle := rd_imaged_image h (j := Obj.IMAGE_CYCLE_NOW) (by decide) (by decide)
  refine imageOut_completes h ?_
  rw [takeFragment_late (by rwa [hcycle]) (by rwa [hcycle])]
  have hlate := rd_imaged_image h (j := Obj.IMAGE_LATE) (by decide) (by decide)
  have himages := images_imaged k net f s
  have hpath : SamePath net.port s (imaged k net f s) := fun j hj =>
    rd_imaged k net f s fun hmem => not_mem_frameKeys_of_path hk hp hj (arrivalKeys_subset k net hmem)
  generalize imaged k net f s = u at hlate himages hpath
  have hpath' : SamePath net.port s (count u Obj.IMAGE_LATE) :=
    hpath.trans (.of_objects (onlyRegs_count _ u).2 (by simpa using not_mem_pathKeys_of hp (by decide)))
  have hsent := respond_sends hp (sess s k).ks (responseFrame f (sess s k).ident 0 0 false []) ((hpath'.reachable _).trans hreach)
  refine ⟨?_, ?_, hsent.replied hp⟩
  · unfold Counted
    rw [hsent.accepted rfl _ (by simpa using ne_of_keySub (by rw [keySub_add_mul]; decide)), rd_count_same, hlate]
  · rw [hsent.changes]
    exact himages

/-- A response of status 0 sends a frame, if any, and counts it. -/
theorem onlySent_respond (net : NetAddr) (ks : List Byte) {r : ObjFrame} (hr : r.status = 0) (w : State) :
    OnlySent w (respond net ks r w) := by
  unfold respond
  dsimp only
  rw [if_pos hr]
  exact OnlySent.sendFrame _ _ _ _ ⟨rfl, fun _ _ => rfl⟩

/-- The state in which the whole image is applied, or not. -/
def wholeAt (k : Nat) (net : NetAddr) (f : ObjFrame) (s : State) : State :=
  setMaster (sessMaster s k) (markComplete (leNat (slice f.payload 0 8)))
    (setMaster (sessMaster s k) (joinPart f.payload) (imaged k net f s))

theorem rd_wholeAt (h : ImageHeard k net f s) {j : Nat} (hj : 0x112000 ≤ j) (hj' : j < 0x225001 ∨ 0x228000 ≤ j) :
    rd (wholeAt k net f s) j = rd s j := by
  obtain ⟨hk, hp, -⟩ := bounds_of_heard h.heard
  unfold wholeAt
  rw [rd_setMaster, rd_setMaster, rd_imaged k net f s (not_mem_arrivalKeys hp (.inr hj) hj' hk)]

theorem length_wholeAt (k : Nat) (net : NetAddr) (f : ObjFrame) (s : State) :
    (wholeAt k net f s).images.length = s.images.length := by
  unfold wholeAt
  rw [length_setMaster, length_setMaster, images_imaged]

theorem applied_wholeAt (k : Nat) (net : NetAddr) (f : ObjFrame) (s : State) (m : Nat) :
    (masterImages (wholeAt k net f s) m).applied = (masterImages s m).applied := by
  unfold wholeAt
  rw [masterImages_setMaster_field (fun x => x.applied) (f := markComplete _) (fun _ => rfl),
    masterImages_setMaster_field (fun x => x.applied) (f := joinPart _) (fun _ => rfl),
    masterImages_of_images (images_imaged k net f s)]

theorem complete_wholeAt (h : ImageHeard k net f s) (himages : s.images.length = 3) :
    (masterImages (wholeAt k net f s) (sessMaster s k)).complete.contains (leNat (slice f.payload 0 8)) = true := by
  have hm := h.master
  unfold wholeAt
  rw [masterImages_setMaster_same _ (by omega) (by rw [length_setMaster, images_imaged]; omega)]
  simp [markComplete]

theorem imageApplies_imaged (h : ImageHeard k net f s) (cycle : Nat) :
    imageApplies (setMaster (sessMaster s k) (joinPart f.payload) (imaged k net f s)) (sessMaster s k) cycle
      = imageApplies s (sessMaster s k) cycle := by
  obtain ⟨hk, hp, -⟩ := bounds_of_heard h.heard
  have hrd : ∀ j, (0x110300 ≤ j ∧ keySub j ≤ 3) ∧ j < 0x225001 → rd (imaged k net f s) j = rd s j := fun j hj =>
    rd_imaged k net f s (not_mem_arrivalKeys hp (.inl hj.1) (.inl hj.2) hk)
  unfold imageApplies
  rw [rd_setMaster, rd_setMaster, masterImages_setMaster_field (fun x => x.applyFrom) (f := joinPart _) (fun _ => rfl),
    masterImages_of_images (images_imaged k net f s), hrd _ (by decide), hrd _ (by decide)]

/-- The whole image of a master that may not be applied. -/
theorem imageOut_withheld (h : ImageHeard k net f s) (himages : s.images.length = 3) (hdue : Due (sessMaster s k) f.payload s)
    {es : List (Nat × List Byte)} (hwhole : imageOf (joined k f s) (sessMaster s k) (leNat (slice f.payload 0 8)) = some es)
    (happlies : imageApplies s (sessMaster s k) (leNat (slice f.payload 0 8)) = false) :
    Completes (.imageOut net f) s fun t =>
      rd t Obj.GPIO_OUT = rd s Obj.GPIO_OUT ∧ rd t Obj.IMAGES_OUT_APPLIED = rd s Obj.IMAGES_OUT_APPLIED
        ∧ (masterImages t (sessMaster s k)).applied = (masterImages s (sessMaster s k)).applied
        ∧ (masterImages t (sessMaster s k)).complete.contains (leNat (slice f.payload 0 8)) = true := by
  refine imageOut_completes h ?_
  rw [takeFragment_whole (due_imaged h hdue) (by rw [imageOf_imaged h, hwhole])]
  have hwork := completeImage_unapplied (k := k) (es := es) ((imageApplies_imaged h _).trans happlies)
  generalize completeImage k (sessMaster s k) (leNat (slice f.payload 0 8)) es
    (setMaster (sessMaster s k) (joinPart f.payload) (imaged k net f s)) = w at hwork
  have hwork' : HostWork conflictKeys (wholeAt k net f s) w := hwork
  obtain ⟨hframe, hrd⟩ := onlySent_respond net (sess s k).ks (r := responseFrame f (sess s k).ident 0 0 false []) rfl w
  generalize respond net (sess s k).ks (responseFrame f (sess s k).ident 0 0 false []) w = t at hframe hrd
  have hmarks : apartMarks (masterImages t (sessMaster s k)) = apartMarks (masterImages (wholeAt k net f s) (sessMaster s k)) := by
    have himages : masterImages t (sessMaster s k) = masterImages w (sessMaster s k) := masterImages_of_images (by rw [hframe]) _
    rw [← hwork'.masters, himages]
  have hkept : ∀ j, keySub j ≠ 10 ∧ keySub j ≠ 9 → j ∉ conflictKeys → rd t j = rd (wholeAt k net f s) j := fun j hj hj' => by
    rw [hrd j hj.1, hwork'.objects j hj' (not_mem_noteKeys hj.1 hj.2)]
  refine ⟨?_, ?_, ?_, ?_⟩
  · rw [hkept _ (by decide) (by decide), rd_wholeAt h (by decide) (by decide)]
  · rw [hkept _ (by decide) (by decide), rd_wholeAt h (by decide) (by decide)]
  · have happlied := congrArg MasterImages.applied hmarks
    exact happlied.trans (applied_wholeAt k net f s _)
  · have hcomplete := congrArg (fun x => x.complete.contains (leNat (slice f.payload 0 8))) hmarks
    exact hcomplete.trans (complete_wholeAt h himages)

/-- The whole image of a master that may be applied, with the one entry GPIO_OUT. -/
theorem imageOut_applied (h : ImageHeard k net f s) (himages : s.images.length = 3) (hdue : Due (sessMaster s k) f.payload s)
    {v : List Byte}
    (hwhole : imageOf (joined k f s) (sessMaster s k) (leNat (slice f.payload 0 8)) = some [(Obj.GPIO_OUT, v)]) (hv : v.length = 4)
    (hstate : rd s (Obj.SESSION_STATE k) = 2) (happlies : imageApplies s (sessMaster s k) (leNat (slice f.payload 0 8)) = true) :
    Completes (.imageOut net f) s fun t =>
      rd t Obj.GPIO_OUT = leNat v ∧ Counted 64 Obj.IMAGES_OUT_APPLIED s t
        ∧ (masterImages t (sessMaster s k)).applied.contains (leNat (slice f.payload 0 8)) = true
        ∧ (masterImages t (sessMaster s k)).complete.contains (leNat (slice f.payload 0 8)) = true := by
  obtain ⟨hk, hp, -⟩ := bounds_of_heard h.heard
  have hm := h.master
  refine imageOut_completes h ?_
  rw [takeFragment_whole (due_imaged h hdue) (by rw [imageOf_imaged h, hwhole])]
  obtain ⟨note, hcompleted⟩ := completeImage_applied (k := k) (es := [(Obj.GPIO_OUT, v)]) ((imageApplies_imaged h _).trans happlies)
  rw [hcompleted, show setMaster (sessMaster s k) (markComplete (leNat (slice f.payload 0 8)))
    (setMaster (sessMaster s k) (joinPart f.payload) (imaged k net f s)) = wholeAt k net f s from rfl]
  have hopen : rd (wholeAt k net f s) (Obj.SESSION_STATE k) ≠ 3 := by
    unfold wholeAt
    rw [rd_setMaster, rd_setMaster, rd_imaged k net f s
      (not_mem_arrivalKeys hp (.inl ⟨by simp only [Obj.SESSION_STATE]; omega, by simp⟩)
        (.inl (by simp only [Obj.SESSION_STATE]; omega)) hk),
      hstate]
    decide
  have hawake : (wholeAt k net f s).rp.fallback = false := by
    unfold wholeAt
    rw [setMaster_frame, setMaster_frame, imaged_frame]
    exact h.awake
  obtain ⟨w, hentries, hwork⟩ := imageEntries_gpioOut (m := sessMaster s k) note hv hopen hawake
  rw [hentries]
  dsimp only
  have hcount : sessMaster s k - 1 < w.images.length := by
    rw [hwork.masterCount, images_gpioDriven, length_wholeAt]
    omega
  have happlied := masterImages_setMaster_same (markApplied (leNat (slice f.payload 0 8)) false) (by omega) hcount
  have hcomplete : (masterImages w (sessMaster s k)).complete.contains (leNat (slice f.payload 0 8)) = true := by
    have hmarks := congrArg (fun x => x.complete.contains (leNat (slice f.payload 0 8))) (hwork.masters (sessMaster s k))
    rw [masterImages_of_images (images_gpioDriven v _)] at hmarks
    exact hmarks.trans (complete_wholeAt h himages)
  have hrdw : ∀ j, rd (setMaster (sessMaster s k) (markApplied (leNat (slice f.payload 0 8)) false) w) j = rd w j :=
    rd_setMaster _ _ _
  generalize setMaster (sessMaster s k) (markApplied (leNat (slice f.payload 0 8)) false) w = x at happlied hrdw
  obtain ⟨hframe, hrd⟩ := onlySent_respond net (sess s k).ks (r := responseFrame f (sess s k).ident 0 0 false []) rfl
    (countBy 64 x Obj.IMAGES_OUT_APPLIED 1)
  generalize respond net (sess s k).ks (responseFrame f (sess s k).ident 0 0 false []) (countBy 64 x Obj.IMAGES_OUT_APPLIED 1) = t
    at hframe hrd
  have hmaster : masterImages t (sessMaster s k) = markApplied (leNat (slice f.payload 0 8)) false (masterImages w (sessMaster s k)) := by
    rw [← happlied]
    exact masterImages_of_images (by rw [hframe]; rfl) _
  refine ⟨?_, ?_, ?_, ?_⟩
  · rw [hrd _ (by decide), rd_countBy_other _ _ _ (by decide), hrdw,
      hwork.objects _ (by decide) (not_mem_noteKeys (by decide) (by decide)), rd_gpioDriven_same]
  · unfold Counted
    rw [hrd _ (by decide), rd_countBy_same, hrdw, hwork.objects _ (by decide) (not_mem_noteKeys (by decide) (by decide)),
      rd_gpioDriven_other (by decide), rd_wholeAt h (by decide) (by decide)]
  · rw [hmaster]
    simp [markApplied]
  · rw [hmaster]
    exact hcomplete

end

end Sys2Proof.Proofs

namespace Sys2Proof.Proofs

open Sys2Proof.Machine Sys2Proof.Claims Sys2Proof.Laws

/-! ### A process-image cycle starts (R300, R302 to R304) -/

theorem not_sessionKey_of_le {j : Nat} (h : 0x112000 ≤ j) : ¬ SessionKey j := fun hkey => by
  obtain ⟨-, hhigh, -⟩ := hkey
  omega

/-- The objects that judging the past cycle changes. -/
abbrev judgeKeys : List Nat := [Obj.IMAGE_MISSES, Obj.LOG_DROPPED]

/-- The host values of the user programs. -/
abbrev hostValueKeys : List Nat := (List.range 64).map Obj.HOST_VALUE

section

variable {k m prev cycle : Nat} {s t : State}

/-- A master's record with the number of cycles missed. -/
def setMissed (n : Nat) (x : MasterImages) : MasterImages := { x with missed := n }

/-- A master's record that shows outputs missing. -/
def markMissing (x : MasterImages) : MasterImages := { x with outputsMissing := true }

theorem judgeImages_work (prev m : Nat) (s : State) : HostWork judgeKeys s (judgeImages prev m s) := by
  have hset : ∀ n, HostWork judgeKeys s (setMaster m (setMissed n) s) := fun n => (HostWork.refl s).setMaster m fun _ => rfl
  unfold judgeImages
  split
  · exact hset 0
  · dsimp only
    split
    · refine HostWork.emit ?_ (by simp) _ _ _
      refine HostWork.wr ?_ (by simp) (not_sessionKey_of_le (by decide)) _
      exact (hset _).setMaster m (f := markMissing) fun _ => rfl
    · exact hset _

theorem showHostValues_work (s : State) : HostWork hostValueKeys s (showHostValues s) := by
  unfold showHostValues
  refine HostWork.foldl (fun t u => ?_) (List.range 8) s
  split
  · refine HostWork.foldl (fun v j => ?_) (List.range 64) t
    dsimp only
    split
    · next hslot =>
      obtain ⟨-, -, hlt⟩ := hslot
      refine (HostWork.refl v).wr (List.mem_map.mpr ⟨_, List.mem_range.mpr hlt, rfl⟩) (not_sessionKey_of_le ?_) _
      exact Nat.le_add_right_of_le (by decide)
    · exact .refl v
  · exact .refl t

/-- The number of the next frame of a session's input images and notifications counts one. -/
def nextSeq (x : Session) : Session := { x with outSeq := x.outSeq + 1 }

theorem sendFragments_work {tide flags : Nat} (n offset : Nat) (bs : List Byte) (hopen : sessOpen s k = true) :
    HostWork [] s (sendFragments k cycle tide flags n offset bs s) := by
  induction n generalizing s offset bs with
  | zero => exact .refl s
  | succ n ih =>
    unfold sendFragments
    split
    · exact .refl s
    · have hnumbered : HostWork [] s (setSess s k nextSeq) := (HostWork.refl s).setNotes hopen fun _ => rfl
      have hsent := hnumbered.sendFrame (lt_of_sessOpen hopen)
      exact (hsent _ _ _).trans (ih _ _ ((hsent _ _ _).open_eq k ▸ hopen))

/-- Master `m` has an open session that is not on HSVC. -/
def sendsTo (s : State) (m : Nat) : Bool := (masterSession s m).any fun j => decide ((sessNet s j).port ≠ 2)

/-- An input image is due to master `m`: it has a map, and an open session that is not on HSVC. -/
def imageDue (s : State) (m : Nat) : Bool := sendsTo s m && decide (rdBlob s (Obj.IMAGE_MAP (2 * m - 1)) ≠ [])

theorem masterSession_congr (h : ∀ j, SessionKey j → rd t j = rd s j) (m : Nat) : masterSession t m = masterSession s m := by
  refine find?_congr_mem fun j hj => ?_
  rw [sessOpen_congr h, sessMaster_congr h (lt_of_mem_allSessions hj)]

theorem imageDue_congr (h : ∀ j, SessionKey j → rd t j = rd s j) (hblobs : t.blobs = s.blobs) (m : Nat) :
    imageDue t m = imageDue s m := by
  have hsends : sendsTo t m = sendsTo s m := by
    unfold sendsTo
    rw [masterSession_congr h]
    cases hfound : masterSession s m with
    | none => rfl
    | some j =>
      have hj : j < 16 := lt_of_mem_allSessions (List.mem_of_find?_eq_some hfound)
      show decide (rd t (Obj.SESSION_PORT j) ≠ 2) = decide (rd s (Obj.SESSION_PORT j) ≠ 2)
      rw [h _ (sessionKey_of hj (by decide))]
  unfold imageDue rdBlob
  rw [hsends, hblobs]

theorem masterSession_open {j : Nat} (h : masterSession s m = some j) : sessOpen s j = true := by
  have hfound := List.find?_some (p := fun k => sessOpen s k && decide (sessMaster s k = m)) h
  exact (Bool.and_eq_true_iff.mp hfound).1

/-- An input image that is due is sent and counted. -/
theorem sendImage_sends (prev m : Nat) (s : State) :
    HostWork [Obj.IMAGES_IN_SENT] s (sendImage prev m s)
      ∧ (rd s Obj.IMAGES_IN_SENT ≤ 2 ^ 64 - 1 → rd (sendImage prev m s) Obj.IMAGES_IN_SENT
          = satAdd (2 ^ 64 - 1) (rd s Obj.IMAGES_IN_SENT) (if imageDue s m then 1 else 0)) := by
  have hidle : rd s Obj.IMAGES_IN_SENT ≤ 2 ^ 64 - 1 → imageDue s m = false → rd s Obj.IMAGES_IN_SENT
      = satAdd (2 ^ 64 - 1) (rd s Obj.IMAGES_IN_SENT) (if imageDue s m then 1 else 0) := fun hle hno => by
    rw [hno, if_neg (by decide), satAdd_eq_min]
    omega
  unfold sendImage
  cases hfound : masterSession s m with
  | none => exact ⟨.refl s, fun hle => hidle hle (by simp [imageDue, sendsTo, hfound])⟩
  | some j =>
    have hopen : sessOpen s j = true := masterSession_open hfound
    dsimp only
    split
    · next hnone => exact ⟨.refl s, fun hle => hidle hle (by
        rcases hnone with h | h <;> simp [imageDue, sendsTo, hfound, h])⟩
    · next hdue =>
      have hsent : ∀ tide flags bs, HostWork [] s (sendFragments j (rd s Obj.IMAGE_CYCLE_NOW) tide flags 5 0 bs s) :=
        fun tide flags bs => sendFragments_work 5 0 bs hopen
      refine ⟨((hsent _ _ _).mono (List.nil_subset _)).wr (by simp) (not_sessionKey_of_le (by decide)) _, fun _ => ?_⟩
      rw [rd_countBy_same, (hsent _ _ _).objects _ List.not_mem_nil (not_mem_noteKeys (by decide) (by decide)), if_pos]
      simpa [imageDue, sendsTo, hfound, not_or, and_comm] using hdue

theorem earlyImages_work (cycle : Nat) (s : State) : HostWork conflictKeys s (earlyImages cycle s) := by
  have hnoted : ∀ (h : Nat) (es : List (Nat × List Byte)) (u : State),
      HostWork conflictKeys u (es.foldl (fun t e => noteHolderWrite h e.1 (writeRaw e.1 e.2) t) u) := fun h es u =>
    HostWork.foldl (f := fun t (e : Nat × List Byte) => noteHolderWrite h e.1 (writeRaw e.1 e.2) t)
      (fun t e => noteHolderWrite_work h e.1 (writeRaw e.1 e.2) t) es u
  unfold earlyImages
  dsimp only
  split
  · exact .refl s
  · generalize (if (masterImages s (rd s Obj.TOKEN_HOLDER)).applied.contains cycle = true
      then imageOf s (rd s Obj.TOKEN_HOLDER) cycle else none) = applied
    cases applied with
    | none =>
      dsimp only
      split
      · exact shadowImage_work _ _ _
      · exact .refl s
    | some es =>
      dsimp only
      refine (hnoted (rd s Obj.TOKEN_HOLDER) es s).trans ?_
      generalize es.foldl (fun t e => noteHolderWrite (rd s Obj.TOKEN_HOLDER) e.1 (writeRaw e.1 e.2) t) s = u
      split
      · exact shadowImage_work _ _ _
      · exact .refl u

end

end Sys2Proof.Proofs

namespace Sys2Proof.Proofs

open Sys2Proof.Machine Sys2Proof.Claims Sys2Proof.Laws

theorem HostWork.blobs {ks : List Nat} {s t : State} (h : HostWork ks s t) : t.blobs = s.blobs := by
  obtain ⟨_, _, _, _, _, hframe⟩ := h.changes
  rw [hframe]

theorem HostWork.time {ks : List Nat} {s t : State} (h : HostWork ks s t) : t.time = s.time := by
  obtain ⟨_, _, _, _, _, hframe⟩ := h.changes
  rw [hframe]

/-- An object none of the work's changes. -/
theorem HostWork.kept {ks : List Nat} {s t : State} (h : HostWork ks s t) {j : Nat} (hj : j ∉ ks) (h10 : keySub j ≠ 10)
    (h9 : keySub j ≠ 9) : rd t j = rd s j := h.objects j hj (not_mem_noteKeys h10 h9)

section

variable {cycle : Nat} {s : State}

/-- The masters' records as a cycle starts with them. -/
def freshImages (cycle : Nat) (s : State) : State := { s with images := s.images.map (freshCycle cycle) }

theorem not_mem_hostValueKeys {j : Nat} (h : j < 0x122101) : j ∉ hostValueKeys := fun hmem => by
  obtain ⟨i, -, rfl⟩ := List.mem_map.mp hmem
  simp only [Obj.HOST_VALUE] at h
  omega

/-- The stages of the start of a cycle: the past one judged, the new one numbered and its host values shown, the input images sent, the
masters' records begun afresh, and the early images compared. -/
theorem imageCycle_stages (cycle : Nat) (s : State) :
    ∃ prev u, HostWork judgeKeys s u ∧ imageCycle cycle s = earlyImages cycle (freshImages cycle
      (sendImage prev 2 (sendImage prev 1 (showHostValues (wr u Obj.IMAGE_CYCLE_NOW cycle))))) := by
  have hjudged : HostWork judgeKeys s (if rd s Obj.IMAGE_CYCLE_NOW = 0 then s
      else (relevantMasters s).foldl (fun t m => judgeImages (rd s Obj.IMAGE_CYCLE_NOW) m t) s) := by
    split
    · exact .refl s
    · exact HostWork.foldl (f := fun t (m : Nat) => judgeImages (rd s Obj.IMAGE_CYCLE_NOW) m t) (fun t m => judgeImages_work _ m t) _ s
  refine ⟨rd s Obj.IMAGE_CYCLE_NOW, _, hjudged, ?_⟩
  unfold imageCycle freshImages
  dsimp only

theorem satAdd_le (max v n : Nat) : satAdd max v n ≤ max := by
  rw [satAdd_eq_min]
  exact Nat.min_le_left _ _

/-- A cycle's start numbers it, and sends and counts the input images that are due. -/
theorem imageCycle_starts (hle : rd s Obj.IMAGES_IN_SENT ≤ 2 ^ 64 - 1) :
    rd (imageCycle cycle s) Obj.IMAGE_CYCLE_NOW = cycle ∧ (imageCycle cycle s).time = s.time
      ∧ rd (imageCycle cycle s) Obj.IMAGES_IN_SENT = satAdd (2 ^ 64 - 1)
          (satAdd (2 ^ 64 - 1) (rd s Obj.IMAGES_IN_SENT) (if imageDue s 1 then 1 else 0)) (if imageDue s 2 then 1 else 0) := by
  obtain ⟨prev, u, hjudged, hstages⟩ := imageCycle_stages cycle s
  have hnumbered : HostWork [Obj.IMAGE_CYCLE_NOW] u (wr u Obj.IMAGE_CYCLE_NOW cycle) :=
    (HostWork.refl u).wr List.mem_cons_self (not_sessionKey_of_le (by decide)) cycle
  have hnow : rd (wr u Obj.IMAGE_CYCLE_NOW cycle) Obj.IMAGE_CYCLE_NOW = cycle := rd_wr_same _ _ _
  rw [hstages]
  generalize wr u Obj.IMAGE_CYCLE_NOW cycle = v at hnumbered hnow
  have hshown := showHostValues_work v
  generalize showHostValues v = w at hshown
  obtain ⟨hsentA, hcountA⟩ := sendImage_sends prev 1 w
  generalize sendImage prev 1 w = x at hsentA hcountA
  obtain ⟨hsentB, hcountB⟩ := sendImage_sends prev 2 x
  generalize sendImage prev 2 x = y at hsentB hcountB
  have hearly := earlyImages_work cycle (freshImages cycle y)
  generalize earlyImages cycle (freshImages cycle y) = t at hearly
  have hfresh : ∀ j, rd (freshImages cycle y) j = rd y j := fun _ => rfl
  have hw : rd w Obj.IMAGES_IN_SENT = rd s Obj.IMAGES_IN_SENT := by
    rw [hshown.kept (not_mem_hostValueKeys (by decide)) (by decide) (by decide), hnumbered.kept (by decide) (by decide) (by decide),
      hjudged.kept (by decide) (by decide) (by decide)]
  have hsession : ∀ j, SessionKey j → rd w j = rd s j := fun j hj => by
    rw [hshown.session j hj, hnumbered.session j hj, hjudged.session j hj]
  have hblobs : w.blobs = s.blobs := by rw [hshown.blobs, hnumbered.blobs, hjudged.blobs]
  have hdueA : imageDue w 1 = imageDue s 1 := imageDue_congr hsession hblobs 1
  have hdueB : imageDue x 2 = imageDue s 2 :=
    imageDue_congr (fun j hj => (hsentA.session j hj).trans (hsession j hj)) (hsentA.blobs.trans hblobs) 2
  have hx := hcountA (hw ▸ hle)
  refine ⟨?_, ?_, ?_⟩
  · rw [hearly.kept (by decide) (by decide) (by decide), hfresh, hsentB.kept (by decide) (by decide) (by decide),
      hsentA.kept (by decide) (by decide) (by decide), hshown.kept (not_mem_hostValueKeys (by decide)) (by decide) (by decide), hnow]
  · rw [hearly.time, show (freshImages cycle y).time = y.time from rfl, hsentB.time, hsentA.time, hshown.time, hnumbered.time,
      hjudged.time]
  · rw [hearly.kept (by decide) (by decide) (by decide), hfresh, hcountB (hx ▸ satAdd_le _ _ _), hx, hw, hdueA, hdueB]

/-- When the next cycle starts, and its number (R300). -/
theorem imageCycleStart_completes (hl : alive s .lookout = true) (hinc : 0 < s.time.inc)
    (hle : rd s Obj.IMAGES_IN_SENT ≤ 2 ^ 64 - 1) {cyc phase n : Nat} (hcyc : rd s Obj.IMAGE_CYCLE * 10000 * nsUnit = cyc)
    (hphase : rd s Obj.IMAGE_PHASE * nsUnit = phase) (hn : (s.time.acc - phase) / cyc + 1 = n) :
    Completes .imageCycleStart s fun t =>
      rd t Obj.IMAGE_CYCLE_NOW = n ∧ n * cyc + phase ≤ t.time.acc
        ∧ rd t Obj.IMAGES_IN_SENT = satAdd (2 ^ 64 - 1) (satAdd (2 ^ 64 - 1) (rd s Obj.IMAGES_IN_SENT) (if imageDue s 1 then 1 else 0))
            (if imageDue s 2 then 1 else 0) := by
  have hexec : exec .imageCycleStart s = .next (imageCycle n (runTo (n * cyc + phase) s)) := by
    show execImageCycleStart s = _
    unfold execImageCycleStart
    rw [whenAlive_on _ hl]
    dsimp only
    rw [hcyc, hphase, hn]
  have hacc : n * cyc + phase ≤ (runTo (n * cyc + phase) s).time.acc := by
    rw [runTo_acc]
    exact target_le_edgesTo _ s hinc
  have hrd : ∀ j, j < 0x211011 → rd (runTo (n * cyc + phase) s) j = rd s j := fun j hj => rd_runTo _ s (not_mem_runKeys (.inl hj))
  have hblobs : (runTo (n * cyc + phase) s).blobs = s.blobs := by rw [runTo_frame]
  generalize runTo (n * cyc + phase) s = u at hexec hacc hrd hblobs
  have hsent : rd u Obj.IMAGES_IN_SENT = rd s Obj.IMAGES_IN_SENT := hrd _ (by decide)
  have hsession : ∀ j, SessionKey j → rd u j = rd s j := fun j hj => hrd j (by have := hj.2.1; omega)
  obtain ⟨hnow, htime, hcount⟩ := imageCycle_starts (cycle := n) (s := u) (hsent ▸ hle)
  refine ⟨_, hexec, hnow, by rw [htime]; exact hacc, ?_⟩
  rw [hcount, hsent, imageDue_congr hsession hblobs, imageDue_congr hsession hblobs]

end

end Sys2Proof.Proofs

namespace Sys2Proof.Proofs

open Sys2Proof.Machine Sys2Proof.Claims Sys2Proof.Laws

/-! ### Sampled-value frames (R310, R311) -/

/-- The objects in which an accepted sample of stream `i` shows. -/
abbrev svKeys (i : Nat) : List Nat := [Obj.SV_LAST_SMPCNT i, Obj.SV_SMPSYNCH i, Obj.SV_STATE i]

theorem not_mem_svKeys {i j : Nat} (h : keySub j ≠ 8 ∧ keySub j ≠ 0x0B ∧ keySub j ≠ 0x0C) : j ∉ svKeys i := by
  obtain ⟨h8, hb, hc⟩ := h
  simp only [svKeys, List.mem_cons, List.not_mem_nil, or_false, not_or]
  exact ⟨ne_of_keySub (by simpa using hb), ne_of_keySub (by simpa using hc), ne_of_keySub (by simpa using h8)⟩

/-- Samples of stream `i` have been taken, and given to no converter. -/
structure Sampled (i : Nat) (s t : State) : Prop where
  /-- what may change -/
  changes : t = { s with regs := t.regs, svSeen := t.svSeen }
  /-- the objects -/
  objects : OnlyObjects (svKeys i) s t

section

variable {i : Nat} {s t u : State}

theorem Sampled.refl (i : Nat) (s : State) : Sampled i s s := ⟨rfl, fun _ _ => rfl⟩

theorem Sampled.trans (h : Sampled i s t) (g : Sampled i t u) : Sampled i s u := by
  refine ⟨?_, fun j hj => (g.objects j hj).trans (h.objects j hj)⟩
  obtain ⟨hframe, -⟩ := h
  rw [g.changes, hframe]

theorem nearInstant_congr (hrate : rd t (Obj.SV_RATE i) = rd s (Obj.SV_RATE i)) (htime : t.time = s.time) (smpCnt : Nat) :
    nearInstant t i smpCnt = nearInstant s i smpCnt := by
  unfold nearInstant nowNs
  rw [hrate, htime]

theorem streamFeeds_congr (h : ∀ j, keySub j ≤ 3 → rd t j = rd s j) (i c : Nat) : streamFeeds t i c = streamFeeds s i c := by
  unfold streamFeeds
  rw [h (Obj.SV_STREAM c) (by simp only [keySub, Obj.SV_STREAM]; omega),
    h (Obj.VOLTAGE_SOURCE c) (by simp only [keySub, Obj.VOLTAGE_SOURCE]; omega),
    h (Obj.VOLTAGE_SOURCE_ALT c) (by simp only [keySub, Obj.VOLTAGE_SOURCE_ALT]; omega)]

theorem Sampled.instant (h : Sampled i s t) (smpCnt : Nat) : nearInstant t i smpCnt = nearInstant s i smpCnt :=
  nearInstant_congr (h.objects _ (not_mem_svKeys (by simp))) (by rw [h.changes]) smpCnt

theorem Sampled.feeds (h : Sampled i s t) (c : Nat) : streamFeeds t i c = streamFeeds s i c :=
  streamFeeds_congr (fun j hj => h.objects j (not_mem_svKeys ⟨by omega, by omega, by omega⟩)) i c

/-- The instants of the samples seen in the last second. -/
def recentSamples (s : State) : List (Nat × Nat) := s.svSeen.filter (fun p => decide (nowNs s ≤ p.2 + 1000000000))

/-- The smpCnt and smpSynch of a new sample shown, and its instant kept. -/
def showSample (i : Nat) (a : SvAsdu) (s : State) : State :=
  wrs { s with svSeen := (i, nearInstant s i a.smpCnt) :: recentSamples s }
    [(Obj.SV_LAST_SMPCNT i, a.smpCnt), (Obj.SV_SMPSYNCH i, a.smpSynch % 256)]

/-- The state of a stream that has received a sample. -/
def showState (i : Nat) (a : SvAsdu) (s : State) : State :=
  if a.smpSynch = 2 then wr s (Obj.SV_STATE i) svValid
  else if rd s (Obj.SV_STATE i) = svValid then s else wr s (Obj.SV_STATE i) svReceiving

theorem showState_cases (i : Nat) (a : SvAsdu) (s : State) :
    showState i a s = s ∨ ∃ v, showState i a s = wr s (Obj.SV_STATE i) v := by
  unfold showState
  split
  · exact .inr ⟨_, rfl⟩
  · split
    · exact .inl rfl
    · exact .inr ⟨_, rfl⟩

theorem showSample_sampled (i : Nat) (a : SvAsdu) (s : State) : Sampled i s (showSample i a s) := by
  refine ⟨rfl, fun j hj => ?_⟩
  simp only [svKeys, List.mem_cons, List.not_mem_nil, or_false, not_or] at hj
  obtain ⟨hlast, hsynch, -⟩ := hj
  unfold showSample
  rw [wrs_cons, wrs_cons, wrs_nil, rd_wr_other _ _ hsynch, rd_wr_other _ _ hlast]
  rfl

theorem showState_sampled (i : Nat) (a : SvAsdu) (s : State) : Sampled i s (showState i a s) := by
  rcases showState_cases i a s with h | ⟨v, h⟩ <;> rw [h]
  · exact .refl i s
  · exact ⟨rfl, fun j hj => rd_wr_other _ _ fun e => hj (e ▸ by simp)⟩

theorem svSeen_showState (i : Nat) (a : SvAsdu) (s : State) : (showState i a s).svSeen = s.svSeen := by
  rcases showState_cases i a s with h | ⟨v, h⟩ <;> rw [h]
  rfl

theorem rd_showState {j : Nat} (hj : j ≠ Obj.SV_STATE i) (a : SvAsdu) (s : State) : rd (showState i a s) j = rd s j := by
  rcases showState_cases i a s with h | ⟨v, h⟩ <;> rw [h]
  exact rd_wr_other _ _ hj

theorem takeAsdu_old {a : SvAsdu} (h : oldSample s i a = true) (test : Bool) : takeAsdu i test a s = s := if_pos h

/-- Stream `i` is the source of no converter. -/
def FeedsNone (i : Nat) (s : State) : Prop := ∀ c, c < 2 → streamFeeds s i c = false

theorem FeedsNone.of_sampled (h : FeedsNone i s) (hs : Sampled i s t) : FeedsNone i t := fun c hc => (hs.feeds c).trans (h c hc)

theorem takeAsdu_new {a : SvAsdu} (h : oldSample s i a = false) (hnone : FeedsNone i s) (test : Bool) :
    takeAsdu i test a s = showState i a (showSample i a s) := by
  have hnone' := hnone.of_sampled ((showSample_sampled i a s).trans (showState_sampled i a _))
  have htake : takeAsdu i test a s = [0, 1].foldl (fun t c =>
      if streamFeeds t i c then takeVoltage c 2 (voltsOf t (streamSample t i c test a)) t else t) (showState i a (showSample i a s)) :=
    if_neg (by rw [h]; decide)
  rw [htake]
  generalize showState i a (showSample i a s) = u at hnone'
  simp only [List.foldl_cons, List.foldl_nil, hnone' 0 (by decide), hnone' 1 (by decide), Bool.false_eq_true, if_false]

theorem takeAsdu_sampled (hnone : FeedsNone i s) (test : Bool) (a : SvAsdu) : Sampled i s (takeAsdu i test a s) := by
  by_cases h : oldSample s i a = true
  · rw [takeAsdu_old h]
    exact .refl i s
  · rw [takeAsdu_new (by simpa using h) hnone]
    exact (showSample_sampled i a s).trans (showState_sampled i a _)

/-- The instant nearest to the present is not longer than a second past. -/
theorem nowNs_le_nearInstant (s : State) (i smpCnt : Nat) : nowNs s ≤ nearInstant s i smpCnt + 1000000000 := by
  unfold nearInstant
  dsimp only
  omega

/-- Once a sample is taken, those of its instant are old, and those that were old before. -/
theorem oldSample_takeAsdu (hnone : FeedsNone i s) (test : Bool) (a b : SvAsdu) :
    oldSample (takeAsdu i test a s) i b = true
      ↔ oldSample s i b = true ∨ nearInstant s i b.smpCnt = nearInstant s i a.smpCnt := by
  have hinstant := (takeAsdu_sampled hnone test a).instant b.smpCnt
  unfold oldSample
  rw [hinstant]
  by_cases h : oldSample s i a = true
  · rw [takeAsdu_old h]
    refine ⟨.inl, fun hor => hor.elim id fun hsame => ?_⟩
    rw [hsame]
    exact h
  · rw [takeAsdu_new (by simpa using h) hnone, svSeen_showState]
    show ((i, nearInstant s i a.smpCnt) :: recentSamples s).contains (i, nearInstant s i b.smpCnt) = true ↔ _
    have hrecent : nowNs s ≤ nearInstant s i b.smpCnt + 1000000000 := nowNs_le_nearInstant s i b.smpCnt
    simp only [List.contains_eq_mem, decide_eq_true_eq, List.mem_cons, Prod.mk.injEq, true_and, recentSamples, List.mem_filter, hrecent,
      and_true]
    exact or_comm

/-- The samples of a frame taken in order. -/
def takeAsdus (i : Nat) (test : Bool) (as : List SvAsdu) (s : State) : State := as.foldl (fun t a => takeAsdu i test a t) s

theorem takeAsdus_cons (i : Nat) (test : Bool) (a : SvAsdu) (as : List SvAsdu) (s : State) :
    takeAsdus i test (a :: as) s = takeAsdus i test as (takeAsdu i test a s) := rfl

theorem takeAsdus_sampled (hnone : FeedsNone i s) (test : Bool) (as : List SvAsdu) : Sampled i s (takeAsdus i test as s) := by
  induction as generalizing s with
  | nil => exact .refl i s
  | cons a as ih =>
    have h := takeAsdu_sampled hnone test a
    exact h.trans (ih (hnone.of_sampled h))

theorem oldSample_takeAsdus (hnone : FeedsNone i s) (test : Bool) (as : List SvAsdu) (b : SvAsdu) :
    oldSample (takeAsdus i test as s) i b = true
      ↔ oldSample s i b = true ∨ ∃ a ∈ as, nearInstant s i b.smpCnt = nearInstant s i a.smpCnt := by
  induction as generalizing s with
  | nil => simp [takeAsdus]
  | cons a as ih =>
    have h := takeAsdu_sampled hnone test a
    rw [takeAsdus_cons, ih (hnone.of_sampled h), oldSample_takeAsdu hnone]
    simp only [h.instant, List.exists_mem_cons_iff, or_assoc]

/-- The offset of a smpCnt in its second, ns. -/
theorem offset_strictMono {rate : Nat} (hpos : 0 < rate) (hrate : rate ≤ 15360) :
    StrictMono fun smpCnt : Nat => smpCnt * 1000000000 / rate := by
  refine strictMono_nat_of_lt_succ fun n => ?_
  calc n * 1000000000 / rate < n * 1000000000 / rate + 1 := Nat.lt_succ_self _
    _ = (n * 1000000000 + rate) / rate := (Nat.add_div_right _ hpos).symm
    _ ≤ (n + 1) * 1000000000 / rate := Nat.div_le_div_right (by omega)

theorem offset_lt {rate smpCnt : Nat} (h : smpCnt < rate) : smpCnt * 1000000000 / rate < 1000000000 :=
  Nat.div_lt_of_lt_mul (Nat.mul_lt_mul_of_pos_right h (by decide))

theorem nearInstant_mod {smpCnt : Nat} (h : smpCnt < rd s (Obj.SV_RATE i)) :
    nearInstant s i smpCnt % 1000000000 = smpCnt * 1000000000 / rd s (Obj.SV_RATE i) := by
  have hlt := offset_lt h
  unfold nearInstant
  dsimp only
  generalize smpCnt * 1000000000 / rd s (Obj.SV_RATE i) = offset at hlt ⊢
  omega

/-- Different smpCnts below the rate have different instants, at the rates R310 allows. -/
theorem nearInstant_inj {m n : Nat} (hrate : rd s (Obj.SV_RATE i) ≤ 15360) (hm : m < rd s (Obj.SV_RATE i)) (hn : n < rd s (Obj.SV_RATE i))
    (h : nearInstant s i m = nearInstant s i n) : m = n := by
  have hmod := congrArg (· % 1000000000) h
  rw [nearInstant_mod hm, nearInstant_mod hn] at hmod
  exact (offset_strictMono (by omega) hrate).injective hmod

theorem lastSmpCnt_takeAsdu {a : SvAsdu} (h : oldSample s i a = false) (hnone : FeedsNone i s) (test : Bool) :
    rd (takeAsdu i test a s) (Obj.SV_LAST_SMPCNT i) = a.smpCnt := by
  rw [takeAsdu_new h hnone, rd_showState (ne_of_keySub (by simp))]
  unfold showSample
  rw [wrs_cons, wrs_cons, wrs_nil, rd_wr_other _ _ (ne_of_keySub (by simp)), rd_wr_same]

/-- The last new sample of a list shows its smpCnt; without one the object stands. -/
theorem lastSmpCnt_takeAsdus (hnone : FeedsNone i s) (hrate : rd s (Obj.SV_RATE i) ≤ 15360) (test : Bool) {as : List SvAsdu}
    (hlt : ∀ a ∈ as, a.smpCnt < rd s (Obj.SV_RATE i)) (hnodup : (as.map (fun a => a.smpCnt)).Nodup) :
    rd (takeAsdus i test as s) (Obj.SV_LAST_SMPCNT i)
      = ((as.filter (fun a => !oldSample s i a)).getLast?.map (fun a => a.smpCnt)).getD (rd s (Obj.SV_LAST_SMPCNT i)) := by
  induction as generalizing s with
  | nil => rfl
  | cons a as ih =>
    obtain ⟨hfresh, hrest⟩ := List.nodup_cons.mp hnodup
    rw [takeAsdus_cons]
    by_cases hold : oldSample s i a = true
    · rw [takeAsdu_old hold, List.filter_cons_of_neg (by simp [hold])]
      exact ih hnone hrate (fun b hb => hlt b (List.mem_cons_of_mem _ hb)) hrest
    · have hsampled := takeAsdu_sampled hnone test a
      have hrate' := hsampled.objects (Obj.SV_RATE i) (not_mem_svKeys (by simp))
      have hsame : as.filter (fun b => !oldSample (takeAsdu i test a s) i b) = as.filter (fun b => !oldSample s i b) := by
        refine List.filter_congr fun b hb => congrArg _ (Bool.eq_iff_iff.mpr ((oldSample_takeAsdu hnone test a b).trans ?_))
        refine or_iff_left fun hinstant => hfresh (List.mem_map.mpr ⟨b, hb, ?_⟩)
        exact nearInstant_inj hrate (hlt b (List.mem_cons_of_mem _ hb)) (hlt a List.mem_cons_self) hinstant
      rw [ih (hnone.of_sampled hsampled) (hrate' ▸ hrate) (fun b hb => hrate' ▸ hlt b (List.mem_cons_of_mem _ hb)) hrest, hsame,
        lastSmpCnt_takeAsdu (by simpa using hold) hnone, List.filter_cons_of_pos (by simpa using hold), List.getLast?_cons]
      cases (as.filter fun b => !oldSample s i b).getLast? <;> rfl

end

end Sys2Proof.Proofs

namespace Sys2Proof.Proofs

open Sys2Proof.Machine Sys2Proof.Claims Sys2Proof.Laws

/-! ### A sampled-value frame arrives (R282, R310, R314) -/

section

variable {i port : Nat} {m : SvFrame} {s : State}

/-! Counting the frame in changes nothing that decides what becomes of it. -/

theorem vlanFits_countIn (port : Nat) (vlan : Option Nat) (s : State) : vlanFits (countIn port s) port vlan = vlanFits s port vlan := by
  unfold vlanFits vlanTag
  rw [rd_countIn_of_sub (by simp)]

theorem streamsFor_countIn (port : Nat) (m : SvFrame) (s : State) : streamsFor (countIn port s) m = streamsFor s m := by
  have henable : ∀ i, rd (countIn port s) (Obj.SV_ENABLE i) = rd s (Obj.SV_ENABLE i) := fun i => rd_countIn_of_sub (by simp) s
  have happid : ∀ i, rd (countIn port s) (Obj.SV_APPID i) = rd s (Obj.SV_APPID i) := fun i => rd_countIn_of_sub (by simp) s
  have hid : ∀ i, rdBlob (countIn port s) (Obj.SV_ID i) = rdBlob s (Obj.SV_ID i) := fun _ => rfl
  unfold streamsFor streamsOn rdBool
  simp only [henable, happid, hid]

theorem frameFits_countIn (port i : Nat) (m : SvFrame) (s : State) : frameFits (countIn port s) i m = frameFits s i m := by
  have hid : rdBlob (countIn port s) (Obj.SV_ID i) = rdBlob s (Obj.SV_ID i) := rfl
  have hfits : asduFits (countIn port s) i = asduFits s i := funext fun a => by
    unfold asduFits
    rw [hid, rd_countIn_of_sub (by simp), rd_countIn_of_sub (by simp)]
  unfold frameFits
  rw [hfits, rd_countIn_of_sub (by simp), rd_countIn_of_sub (by simp)]

theorem oldSample_countIn (port i : Nat) (a : SvAsdu) (s : State) : oldSample (countIn port s) i a = oldSample s i a := by
  unfold oldSample
  rw [nearInstant_congr (rd_countIn_of_sub (by simp) s) rfl]
  rfl

theorem streamFeeds_countIn (port i c : Nat) (s : State) : streamFeeds (countIn port s) i c = streamFeeds s i c :=
  streamFeeds_congr (fun _ hj => rd_countIn_of_sub (by omega) s) i c

/-- A frame on an Ethernet port that runs, untagged or of the port's VLAN, for stream `i` alone. -/
structure SvArrived (port i : Nat) (m : SvFrame) (s : State) : Prop where
  /-- the port runs -/
  up : hostUp s port = true
  /-- it is not HSVC -/
  ethernet : port ≠ 2
  /-- the tag -/
  vlan : vlanFits s port m.vlan = true
  /-- the stream -/
  stream : streamsFor s m = [i]

theorem exec_svFrame (h : SvArrived port i m s) :
    exec (.svFrame port m) s = .next (if frameFits s i m then acceptFrame i m (countIn port s)
      else count (countIn port s) (Obj.SV_DISCARDED i)) := by
  obtain ⟨hup, hport, hvlan, hstream⟩ := h
  show execSvFrame port m s = _
  unfold execSvFrame
  dsimp only
  rw [if_neg (by simp [hup]), if_neg (by rw [vlanFits_countIn, hvlan]; simp [hport]), streamsFor_countIn, hstream, List.foldl_cons,
    List.foldl_nil, frameFits_countIn]

theorem svFrame_unfit (h : SvArrived port i m s) (hfits : frameFits s i m = false) :
    Completes (.svFrame port m) s fun t =>
      Counted 32 (Obj.SV_DISCARDED i) s t ∧ OnlyRegs [Obj.FRAMES_IN port, Obj.SV_DISCARDED i] s t := by
  refine ⟨_, exec_svFrame h, ?_⟩
  rw [if_neg (by rw [hfits]; decide)]
  refine ⟨?_, rfl, onlyObjects_trans (onlyObjects_wr (by simp) s _) (onlyObjects_wr (by simp) _ _)⟩
  unfold Counted
  rw [rd_count_same, rd_countIn_of_sub (by simp)]

theorem svFrame_dropped (hup : hostUp s port = true) (hdrop : port = 2 ∨ vlanFits s port m.vlan = false) :
    Completes (.svFrame port m) s fun t =>
      Counted 32 (Obj.FRAMES_DROPPED port) s t ∧ OnlyRegs [Obj.FRAMES_IN port, Obj.FRAMES_DROPPED port] s t := by
  obtain ⟨-, hdropped⟩ := counted_dropped port s
  refine ⟨countDropped port (countIn port s), ?_, hdropped, onlyRegs_countDropped port s⟩
  show execSvFrame port m s = _
  unfold execSvFrame
  dsimp only
  rw [if_neg (by simp [hup]), if_pos (by rwa [vlanFits_countIn])]

/-- Every smpCnt of a frame that fits is below the stream's rate. -/
theorem smpCnt_lt_of_fits (h : frameFits s i m = true) : ∀ a ∈ m.asdus, a.smpCnt < rd s (Obj.SV_RATE i) := by
  unfold frameFits asduFits at h
  simp only [Bool.and_eq_true, List.all_eq_true, decide_eq_true_eq] at h
  exact fun a ha => (h.2 a ha).2

theorem svFrame_taken (h : SvArrived port i m s) (hfits : frameFits s i m = true) (hnew : ∃ a, a ∈ m.asdus ∧ oldSample s i a = false)
    (hnodup : (m.asdus.map (fun a => a.smpCnt)).Nodup) (hrate : rd s (Obj.SV_RATE i) ≤ 15360) (hnone : FeedsNone i s) :
    Completes (.svFrame port m) s fun t =>
      Counted 64 (Obj.SV_FRAMES i) s t ∧ Counted 64 (Obj.FRAMES_IN port) s t
        ∧ (∀ a, (m.asdus.filter (fun a => !oldSample s i a)).getLast? = some a → rd t (Obj.SV_LAST_SMPCNT i) = a.smpCnt)
        ∧ t = { s with regs := t.regs, svSeen := t.svSeen }
        ∧ (∀ a, a ∈ m.asdus → oldSample t i a = true)
        ∧ OnlyObjects [Obj.FRAMES_IN port, Obj.SV_FRAMES i, Obj.SV_LAST_SMPCNT i, Obj.SV_SMPSYNCH i, Obj.SV_STATE i] s t := by
  have hp := port_lt_of_hostUp h.up
  have hapart : Obj.SV_FRAMES i ≠ Obj.FRAMES_IN port := by simp only [Obj.SV_FRAMES, Obj.FRAMES_IN]; omega
  have hcounted := (onlyRegs_countIn port s).2
  have hin : rd (countIn port s) (Obj.FRAMES_IN port) = satAdd (2 ^ 64 - 1) (rd s (Obj.FRAMES_IN port)) 1 := rd_countBy_same _ _ _ _
  have hnone' : FeedsNone i (countIn port s) := fun c hc => (streamFeeds_countIn port i c s).trans (hnone c hc)
  have hrate' : rd (countIn port s) (Obj.SV_RATE i) = rd s (Obj.SV_RATE i) := rd_countIn_of_sub (by simp) s
  have haccept : acceptFrame i m (countIn port s) = countBy 64 (takeAsdus i m.test m.asdus (countIn port s)) (Obj.SV_FRAMES i) 1 := by
    refine if_neg ?_
    obtain ⟨a, ha, hold⟩ := hnew
    intro hall
    rw [List.all_eq_true] at hall
    rw [← oldSample_countIn port, hall a ha] at hold
    cases hold
  have hsampled := takeAsdus_sampled hnone' m.test m.asdus
  have hlast := lastSmpCnt_takeAsdus hnone' (hrate' ▸ hrate) m.test (fun a ha => hrate' ▸ smpCnt_lt_of_fits hfits a ha) hnodup
  have hold := oldSample_takeAsdus hnone' m.test m.asdus
  have hfilter : m.asdus.filter (fun a => !oldSample (countIn port s) i a) = m.asdus.filter (fun a => !oldSample s i a) :=
    List.filter_congr fun a _ => by rw [oldSample_countIn]
  rw [hfilter] at hlast
  refine ⟨_, exec_svFrame h, ?_⟩
  rw [if_pos hfits, haccept]
  generalize takeAsdus i m.test m.asdus (countIn port s) = u at hsampled hlast hold
  have hobj : ∀ j, j ≠ Obj.SV_FRAMES i → j ∉ svKeys i → rd (countBy 64 u (Obj.SV_FRAMES i) 1) j = rd (countIn port s) j :=
    fun j hne hj => (rd_countBy_other u _ _ hne).trans (hsampled.objects j hj)
  refine ⟨?_, ?_, fun a ha => ?_, ?_, fun a ha => ?_, fun j hj => ?_⟩
  · unfold Counted
    rw [rd_countBy_same, hsampled.objects _ (not_mem_svKeys (by simp)), hcounted _ (by simpa using hapart)]
  · exact (hobj _ hapart.symm (not_mem_svKeys (by simp))).trans hin
  · rw [rd_countBy_other _ _ _ (ne_of_keySub (by simp)), hlast, ha]
    rfl
  · have hframe := hsampled.changes
    rw [hframe]
    rfl
  · have hseen : oldSample (countBy 64 u (Obj.SV_FRAMES i) 1) i a = oldSample u i a := by
      unfold oldSample
      rw [nearInstant_congr (rd_countBy_other _ _ _ (ne_of_keySub (by simp))) rfl]
      rfl
    rw [hseen]
    exact (hold a).mpr (.inr ⟨a, ha, rfl⟩)
  · simp only [List.mem_cons, List.not_mem_nil, or_false, not_or] at hj
    obtain ⟨hframes, hsv, hrest⟩ := hj
    rw [hobj j hsv (by simpa using hrest), hcounted j (by simpa using hframes)]

theorem svStreamLossTimeout_completes {st : Nat} (hl : alive s .lookout = true) (hst : st < 8) (hon : rdBool s (Obj.SV_ENABLE st) = true) :
    Completes (.svStreamLossTimeout st) s fun t =>
      rd t (Obj.SV_STATE st) = (if rd s (Obj.SV_STATE st) = svValid ∧ rd s (Obj.SV_SMPSYNCH st) ≠ 2 then svReceiving else svNone)
        ∧ OnlyRegs [Obj.SV_STATE st] s t := by
  have hexec : exec (.svStreamLossTimeout st) s = .next (wr s (Obj.SV_STATE st)
      (if rd s (Obj.SV_STATE st) = svValid ∧ rd s (Obj.SV_SMPSYNCH st) ≠ 2 then svReceiving else svNone)) := by
    show execSvStreamLossTimeout st s = _
    unfold execSvStreamLossTimeout
    rw [whenAlive_on _ hl, if_pos ⟨hst, hon⟩]
    simp only [Bool.and_eq_true, decide_eq_true_eq]
  exact ⟨_, hexec, rd_wr_same _ _ _, rfl, onlyObjects_wr List.mem_cons_self s _⟩

end

/-- Settles O51: a fragment joins its image, and a whole image is applied, entry by entry, or compared; the start of a cycle is work
among the sessions, stage by stage; and different smpCnts of a frame have different instants, so that none makes another a second copy. -/
theorem imagesAndStreams : Obligations.ImagesAndStreams := by
  unfold Obligations.ImagesAndStreams
  refine ⟨?_, ?_, ?_, ?_, ?_, fun port m s hup hdrop => svFrame_dropped hup hdrop,
    fun st s hl hst hon => svStreamLossTimeout_completes hl hst hon⟩
  · intro net f k m s heard hservice hport hfb hm hab himages hnewer hhead hlength hlimit cycle joined hcycle hopen
    subst hm
    have h : ImageHeard k net f s := ⟨heard, hservice, hport, hfb, hab, hnewer, hhead, hlength, hlimit⟩
    have hdue : Due (sessMaster s k) f.payload s := ⟨hcycle, hopen⟩
    exact ⟨fun hpart => imageOut_part h hdue hpart,
      fun v hwhole hv hstate happlies _ => imageOut_applied h himages hdue hwhole hv hstate happlies,
      fun v hwhole happlies => imageOut_withheld h himages hdue hwhole happlies⟩
  · intro net f k s heard hservice hport hfb hab hnewer hhead hlength hlimit hnow hnext
    exact imageOut_late ⟨heard, hservice, hport, hfb, hab, hnewer, hhead, hlength, hlimit⟩ hnow hnext
  · intro s hl hinc _ hle cyc phase n sends
    have hsends : ∀ m, sends m = sendsTo s m := fun m => by
      show (match masterSession s m with | some j => decide ((sessNet s j).port ≠ 2) | none => false) = sendsTo s m
      unfold sendsTo
      cases masterSession s m <;> rfl
    have hdue : ∀ m, (if imageDue s m then 1 else 0)
        = if sends m = true ∧ rdBlob s (Obj.IMAGE_MAP (2 * m - 1)) ≠ [] then 1 else 0 := fun m => by
      rw [hsends]
      simp [imageDue]
    obtain ⟨t, hexec, hnow, hacc, hcount⟩ := imageCycleStart_completes hl hinc hle rfl rfl (rfl : _ = n)
    rw [hdue 1, hdue 2] at hcount
    exact ⟨t, hexec, hnow, hacc, hcount⟩
  · intro port i m s hup hport hvlan hstream hfits hnew hnodup hrate hnone
    exact svFrame_taken ⟨hup, hport, hvlan, hstream⟩ hfits hnew hnodup hrate hnone
  · intro port i m s hup hport hvlan hstream hfits
    exact svFrame_unfit ⟨hup, hport, hvlan, hstream⟩ hfits

end Sys2Proof.Proofs

namespace Sys2Proof.Proofs

open Sys2Proof.Machine Sys2Proof.Claims Sys2Proof.Laws

/-! ### The state after reset (R335, R462, R465) -/

/-- Every sparse store is empty after reset, but for `COVE_STATUS`, which is not at its Default. -/
theorem reset_canonical : State.reset.Canonical where
  regs := by decide +kernel
  blobs := rfl
  droves := rfl
  leaves := rfl
  queues := rfl
  slots := rfl
  tideRec := rfl
  samples := rfl
  faultCounts := rfl
  mem := by decide
  solar := rfl

/-- Only `COVE_STATUS` is listed after reset. -/
theorem rd_reset (j : Nat) : rd State.reset j = if j = Obj.COVE_STATUS then 0x40 else objDefault j := rfl

theorem rd_reset_other {j : Nat} (h : j ≠ Obj.COVE_STATUS) : rd State.reset j = objDefault j := (rd_reset j).trans (if_neg h)

theorem getD'_replicate {α : Type} (n i : Nat) (d : α) : getD' (List.replicate n d) i d = d := by
  unfold getD'
  rw [List.getElem?_replicate]
  split <;> rfl

theorem sess_reset (k : Nat) : sess State.reset k = Session.free := getD'_replicate 16 k Session.free

/-- Settles O4: what the state after reset lists, and what an unlisted entry reads as. -/
theorem resetStateIsCanonical : Obligations.ResetStateIsCanonical :=
  ⟨reset_canonical, rfl, rfl, (rd_reset_other (by decide)).trans (by decide +kernel), rfl, rfl, rfl, rfl, rfl,
    fun k => by rw [sess_reset]; rfl, rd_reset Obj.COVE_STATUS, fun _ h => rd_reset_other h⟩

end Sys2Proof.Proofs

namespace Sys2Proof.Proofs

open Sys2Proof.Machine Sys2Proof.Claims Sys2Proof.Laws

/-! ### Validation (R324, R325, R329) -/

/-- The objects that a validation shows its result in. -/
def verdictKeys : List Nat :=
  [Obj.VALIDATE_STATUS, Obj.VALIDATE_INDEX, Obj.VALIDATE_SUB, Obj.VALIDATE_DETAIL, Obj.VALIDATED_GENERATION, Obj.VALIDATED_CHECK]

/-- The result of judging `im`, of generation `gen` and with check `check`, as those objects show it. -/
def verdict (s : State) (im : Image) (gen check : Nat) : List (Nat × Nat) :=
  let r := validateImage s im
  [(Obj.VALIDATE_STATUS, r.1), (Obj.VALIDATE_INDEX, keyIndex r.2.key), (Obj.VALIDATE_SUB, keySub r.2.key),
    (Obj.VALIDATE_DETAIL, r.2.detail), (Obj.VALIDATED_GENERATION, gen), (Obj.VALIDATED_CHECK, check)]

/-- What a validation shows when it ends: `fresh` says that the draft is still the one judged. -/
def verdictShown (fresh : Prop) [Decidable fresh] (l : List (Nat × Nat)) (s : State) : State :=
  if fresh then wrs s l else wr (wrs s l) Obj.VALIDATE_STATUS 0xFE

section

variable {fresh : Prop} [Decidable fresh]

theorem verdictShown_frame (l : List (Nat × Nat)) (s : State) :
    verdictShown fresh l s = { s with regs := (verdictShown fresh l s).regs } := by
  unfold verdictShown
  split
  · exact wrs_regs s l
  · rw [wrs_regs]; rfl

theorem onlyObjects_verdictShown (s u : State) (im : Image) (gen check : Nat) :
    OnlyObjects verdictKeys u (verdictShown fresh (verdict s im gen check) u) := by
  have hshown : OnlyObjects verdictKeys u (wrs u (verdict s im gen check)) := fun j hj =>
    rd_wrs_other u _ fun p hp e => hj (e ▸ List.mem_map_of_mem (f := Prod.fst) hp)
  unfold verdictShown
  split
  · exact hshown
  · exact onlyObjects_trans hshown (onlyObjects_wr (by decide) _ _)

theorem rd_wrs_verdict {s u : State} {im : Image} {gen check : Nat} {p : Nat × Nat} (hp : p ∈ verdict s im gen check) :
    rd (wrs u (verdict s im gen check)) p.1 = p.2 := by
  have hnodup : verdictKeys.Nodup := by decide
  exact rd_wrs_mem (l := verdict s im gen check) hnodup hp u

theorem rd_verdictShown {s u : State} {im : Image} {gen check : Nat} {p : Nat × Nat} (hp : p ∈ verdict s im gen check)
    (hstatus : p.1 ≠ Obj.VALIDATE_STATUS) : rd (verdictShown fresh (verdict s im gen check) u) p.1 = p.2 := by
  unfold verdictShown
  split
  · exact rd_wrs_verdict hp
  · rw [rd_wr_other _ _ hstatus, rd_wrs_verdict hp]

theorem rd_verdictShown_status (s u : State) (im : Image) (gen check : Nat) :
    rd (verdictShown fresh (verdict s im gen check) u) Obj.VALIDATE_STATUS = if fresh then (validateImage s im).1 else 0xFE := by
  unfold verdictShown
  split
  · exact rd_wrs_verdict (p := (Obj.VALIDATE_STATUS, (validateImage s im).1)) List.mem_cons_self
  · exact rd_wr_same _ _ _

end

/-- The end of a validation writes the verdict, object by object. -/
theorem wrs_showFailure (s u : State) (im : Image) (gen check : Nat) :
    wrs (showFailure (validateImage s im).1 (validateImage s im).2 u) [(Obj.VALIDATED_GENERATION, gen), (Obj.VALIDATED_CHECK, check)]
      = wrs u (verdict s im gen check) := rfl

/-- The configuration when no validation of a draft is under way. -/
def draftJudged (c : Configuration) : Configuration := { c with validating := false, judged := none }

/-- The check of an image as the draft of state `s`. -/
def checkAsDraft (s : State) (im : Image) : Nat :=
  ({ draftImage s with vals := im.vals, blobs := im.blobs, extra := im.extra } : Image).check (optionCode s)

theorem exec_validationComplete {s : State} (hl : alive s .lookout = true) : exec .validationComplete s = .next (finishValidation s) :=
  congrArg Host.Outcome.next (whenAlive_on finishValidation hl)

theorem finishValidation_draft {s : State} {im : Image} {gen : Nat} (hrestoring : s.cfg.restoring = false)
    (hjudged : s.cfg.judged = some (im, gen)) :
    finishValidation s = verdictShown (rd s Obj.DRAFT_GENERATION = gen) (verdict s im gen (checkAsDraft s im))
      { s with cfg := draftJudged s.cfg } := by
  have hgen : rd (wrs { s with cfg := draftJudged s.cfg } (verdict s im gen (checkAsDraft s im))) Obj.DRAFT_GENERATION
      = rd s Obj.DRAFT_GENERATION :=
    (onlyObjects_verdictShown (fresh := True) s { s with cfg := draftJudged s.cfg } im gen (checkAsDraft s im)) _ (by decide)
  unfold finishValidation
  dsimp only
  rw [if_neg (by rw [hrestoring]; decide), hjudged]
  unfold verdictShown
  rw [← hgen]
  rfl

theorem validationComplete_draft {s : State} {im : Image} {gen : Nat} (hl : alive s .lookout = true)
    (hrestoring : s.cfg.restoring = false) (hjudged : s.cfg.judged = some (im, gen)) :
    Completes .validationComplete s fun t =>
      rd t Obj.VALIDATE_STATUS = (if rd s Obj.DRAFT_GENERATION = gen then (validateImage s im).1 else 0xFE)
        ∧ (∀ p ∈ verdict s im gen (checkAsDraft s im), p.1 ≠ Obj.VALIDATE_STATUS → rd t p.1 = p.2)
        ∧ t.cfg = draftJudged s.cfg ∧ OnlyRegs verdictKeys { s with cfg := t.cfg } t := by
  have hcfg : (verdictShown (rd s Obj.DRAFT_GENERATION = gen) (verdict s im gen (checkAsDraft s im))
      { s with cfg := draftJudged s.cfg }).cfg = draftJudged s.cfg := by rw [verdictShown_frame]
  refine ⟨_, (exec_validationComplete hl).trans (congrArg _ (finishValidation_draft hrestoring hjudged)),
    rd_verdictShown_status .., fun p hp hstatus => rd_verdictShown hp hstatus, hcfg, ?_⟩
  rw [hcfg]
  exact ⟨verdictShown_frame .., onlyObjects_verdictShown _ _ _ _ _⟩

/-- What the judgement of a restored image shows: the draft counts as judged unless it differs from that image. -/
def restoreShown (s : State) : State :=
  verdictShown (¬ imagesDiffer s.cfg.draft (baseImage s) = true)
    (verdict s (baseImage s) (rd s Obj.DRAFT_GENERATION) (draftCheck s)) s

theorem restoreShown_frame (s : State) : restoreShown s = { s with regs := (restoreShown s).regs } := verdictShown_frame _ s

theorem finishValidation_restored {s : State} (hrestoring : s.cfg.restoring = true) :
    finishValidation s = restoreEnd (validateImage s (baseImage s)).1 (restoreShown s) := by
  unfold finishValidation
  dsimp only
  have hcfg : (wrs s (verdict s (baseImage s) (rd s Obj.DRAFT_GENERATION) (draftCheck s))).cfg = s.cfg := by rw [wrs_regs]
  rw [if_pos hrestoring, wrs_showFailure, hcfg]
  unfold restoreShown verdictShown
  rw [ite_not]

/-- The configuration once the restored image has been judged. -/
def restoreJudged (valid : Bool) (c : Configuration) : Configuration := { c with restoring := false, valid := valid }

theorem restoreEnd_passed (s : State) :
    restoreEnd 0 s = schedule stReady causeCommit 0 { s with cfg := restoreJudged true s.cfg } := rfl

theorem restoreEnd_failed {code : Nat} (h : code ≠ 0) (s : State) :
    restoreEnd code s = wr { s with cfg := restoreJudged false s.cfg } Obj.HELD_REASON 2 := by
  unfold restoreEnd
  dsimp only
  rw [if_neg h, decide_eq_false h]
  rfl

theorem validationComplete_restored {s : State} (hl : alive s .lookout = true) (hrestoring : s.cfg.restoring = true) :
    Completes .validationComplete s fun t =>
      if (validateImage s (baseImage s)).1 = 0 then
        Scheduled stReady causeCommit 0 s t ∧ t.cfg = { s.cfg with restoring := false, valid := true }
          ∧ rd t Obj.HELD_REASON = rd s Obj.HELD_REASON
      else rd t Obj.HELD_REASON = 2 ∧ t.sm = s.sm ∧ t.cfg = { s.cfg with restoring := false, valid := false } := by
  have hcfg : (restoreShown s).cfg = s.cfg := by rw [restoreShown_frame]
  have hsm : (restoreShown s).sm = s.sm := by rw [restoreShown_frame]
  have hobjects : OnlyObjects verdictKeys s (restoreShown s) := onlyObjects_verdictShown s s _ _ _
  refine ⟨_, (exec_validationComplete hl).trans (congrArg _ (finishValidation_restored hrestoring)), ?_⟩
  split
  · next hpassed =>
    rw [hpassed, restoreEnd_passed]
    refine ⟨scheduled_schedule (dueTide_congr ?_ (congrArg StationMachine.afterDemand hsm) ?_ _) _ _,
      congrArg (restoreJudged true) hcfg, hobjects _ (by decide)⟩
    · exact hobjects Obj.STATION_STATE (by decide)
    · exact hobjects Obj.TIDE_NUMBER (by decide)
  · next hfailed =>
    rw [restoreEnd_failed hfailed]
    exact ⟨rd_wr_same _ _ _, hsm, congrArg (restoreJudged false) hcfg⟩

theorem validationComplete_idle {s : State} (hrestoring : s.cfg.restoring = false) (hjudged : s.cfg.judged = none) :
    exec .validationComplete s = .next s := by
  have hsame : finishValidation s = s := by
    unfold finishValidation
    dsimp only
    rw [if_neg (by rw [hrestoring]; decide), hjudged]
  exact congrArg Host.Outcome.next (whenAlive_self hsame)

/-- Settles O28: the verdict on a draft, as its objects show it, the one on a restored image, and no validation. -/
theorem validationResults : Obligations.ValidationResults := by
  refine ⟨fun s im gen hl hrestoring hjudged => ?_, fun s hl hrestoring => validationComplete_restored hl hrestoring,
    fun s hrestoring hjudged => validationComplete_idle hrestoring hjudged⟩
  obtain ⟨t, hexec, hstatus, hshown, hcfg, honly⟩ := validationComplete_draft hl hrestoring hjudged
  have hmem : ∀ p ∈ (verdict s im gen (checkAsDraft s im)).tail, rd t p.1 = p.2 := by
    refine fun p hp => hshown p (List.mem_of_mem_tail hp) fun e => ?_
    have hkey : p.1 ∈ verdictKeys.tail := List.mem_map_of_mem (f := Prod.fst) hp
    rw [e] at hkey
    exact absurd hkey (by decide)
  simp only [verdict, List.tail_cons, List.forall_mem_cons] at hmem
  obtain ⟨hindex, hsub, hdetail, hgen, hcheck, -⟩ := hmem
  exact ⟨t, hexec, hstatus, hindex, hsub, hdetail, hgen, hcheck, hcfg, honly⟩

end Sys2Proof.Proofs

namespace Sys2Proof.Proofs

open Sys2Proof.Machine Sys2Proof.Claims Sys2Proof.Laws

/-! ### Work on the management bus (R414) -/

/-- `t` is `s` with work done on the management bus: its record, its status object and what was sent may differ. -/
structure BusWork (s t : State) : Prop where
  /-- what may change -/
  changes : ∃ a b c, t = { s with regs := a, lio := b, outbox := c }
  /-- the objects -/
  objects : OnlyObjects [Obj.MBUS_STATUS] s t

namespace BusWork

variable {s t u : State}

theorem refl (s : State) : BusWork s s := ⟨⟨_, _, _, rfl⟩, fun _ _ => rfl⟩

theorem trans (h : BusWork s t) (g : BusWork t u) : BusWork s u := by
  obtain ⟨_, _, _, hchanges⟩ := h.changes
  obtain ⟨a, b, c, gchanges⟩ := g.changes
  exact ⟨⟨a, b, c, by rw [gchanges, hchanges]⟩, onlyObjects_trans h.objects g.objects⟩

theorem cfg (h : BusWork s t) : t.cfg = s.cfg := by obtain ⟨_, _, _, rfl⟩ := h.changes; rfl

theorem log (h : BusWork s t) : t.log = s.log := by obtain ⟨_, _, _, rfl⟩ := h.changes; rfl

end BusWork

theorem setLio_work (f : LocalIo → LocalIo) (s : State) : BusWork s (setLio f s) := ⟨⟨_, _, _, rfl⟩, fun _ _ => rfl⟩

theorem setBus_work (i : Nat) (b : Bool) (s : State) : BusWork s (setBus i b s) :=
  ⟨⟨_, _, _, rfl⟩, onlyObjects_wr List.mem_cons_self s _⟩

/-- `t` is `s` with more sent. -/
def Sends (s t : State) : Prop := ∃ o, t = { s with outbox := o }

theorem Sends.refl (s : State) : Sends s s := ⟨s.outbox, rfl⟩

theorem Sends.send {s t : State} (h : Sends s t) (o : Out) : Sends s (send o t) := by
  obtain ⟨_, rfl⟩ := h
  exact ⟨_, rfl⟩

/-- What a transaction puts on the bus is sent, and nothing else. -/
theorem runJob_sends (j : BusJob) (s : State) : Sends s (runJob j s) := by
  have hswitch : ∀ sw mask, Sends s (busSwitch sw mask s) := fun _ _ => (Sends.refl s).send _
  cases j with
  | eeprom => exact (Sends.refl s).send _
  | host =>
    unfold runJob
    dsimp only
    split
    · exact (hswitch _ _).send _
    · exact (Sends.refl s).send _
  | regulator r => exact List.foldlRecOn (motive := Sends s) _ _ (.refl s) fun _ ht _ _ => ht.send _
  | transceiver d => exact (((hswitch _ _).send _).send _).send _
  | txDisable d off => exact (hswitch _ _).send _

theorem runJob_work (j : BusJob) (s : State) : BusWork s (runJob j s) := by
  obtain ⟨o, h⟩ := runJob_sends j s
  rw [h]
  exact ⟨⟨_, _, _, rfl⟩, fun _ _ => rfl⟩

theorem startBus_work (s : State) : BusWork s (startBus s) := by
  unfold startBus
  split
  · exact .refl s
  · split
    · exact setBus_work _ _ s
    · exact ((setLio_work _ s).trans (setBus_work _ _ _)).trans (runJob_work _ _)

theorem addJob_work (j : BusJob) (s : State) : BusWork s (addJob j s) := by
  unfold addJob
  split
  · exact .refl s
  · exact setLio_work _ s

theorem endEeprom_work (s : State) : BusWork s (endEeprom s) := by
  unfold endEeprom
  dsimp only
  split
  · exact (((setLio_work _ s).trans (setLio_work _ _)).trans (setBus_work _ _ _)).trans (startBus_work _)
  · exact setLio_work _ s

/-! ### The slots of a commit (R326) -/

/-- The configuration with slot `k` set. -/
def slotTakes (k : Nat) (x : Slot) (c : Configuration) : Configuration := if k = 0 then { c with slot0 := x } else { c with slot1 := x }

theorem setSlotImage_eq (k : Nat) (x : Slot) (s : State) : setSlotImage k x s = { s with cfg := slotTakes k x s.cfg } := by
  unfold setSlotImage slotTakes
  split <;> rfl

/-- A slot that is set holds what it was set to; the images and the commit under way are not touched. -/
theorem slotTakes_frame (k : Nat) (x : Slot) (c : Configuration) :
    slotTakes k x c = { c with slot0 := (slotTakes k x c).slot0, slot1 := (slotTakes k x c).slot1 } := by
  unfold slotTakes
  split <;> rfl

theorem slotAt_of_takes {s : State} {k : Nat} {x : Slot} {c : Configuration} (h0 : s.cfg.slot0 = (slotTakes k x c).slot0)
    (h1 : s.cfg.slot1 = (slotTakes k x c).slot1) : slotAt s k = x := by
  unfold slotAt
  rw [h0, h1]
  unfold slotTakes
  split <;> rfl

/-! ### COMMIT_SLOT_WRITTEN and the failure of a commit (R326, R341) -/

section

variable {s : State} (hl : alive s .lookout = true)
include hl

theorem exec_commitSlotWritten {ok stuck : Bool} (hstep : s.cfg.commitStep = 1) :
    exec (.commitSlotWritten ok stuck) s = .next (if !ok || stuck then commitFails stuck s
      else wrs { s with cfg := { s.cfg with commitStep := 2 } } [(Obj.COMMIT_STATUS, 2), (Obj.COMMIT_PROGRESS, 100)]) := by
  show execCommitSlotWritten ok stuck s = _
  unfold execCommitSlotWritten
  rw [whenAlive_on _ hl, if_neg (not_not_intro hstep)]

theorem exec_commitVerified {ok stuck : Bool} (hstep : s.cfg.commitStep = 2) :
    exec (.commitVerified ok stuck) s = .next (if !ok || stuck then commitFails stuck s else commitApply s) := by
  show execCommitVerified ok stuck s = _
  unfold execCommitVerified
  rw [whenAlive_on _ hl, if_neg (not_not_intro hstep)]

theorem commitSlotWritten_done (hstep : s.cfg.commitStep = 1) :
    Completes (.commitSlotWritten true false) s fun t =>
      t.cfg = { s.cfg with commitStep := 2 } ∧ rd t Obj.COMMIT_STATUS = 2 ∧ rd t Obj.COMMIT_PROGRESS = 100
        ∧ OnlyRegs [Obj.COMMIT_STATUS, Obj.COMMIT_PROGRESS] { s with cfg := t.cfg } t := by
  refine ⟨_, exec_commitSlotWritten hl hstep, rfl, (rd_wr_other _ _ (by decide)).trans (rd_wr_same _ _ _), rd_wr_same _ _ _, rfl, ?_⟩
  exact onlyObjects_trans (onlyObjects_wr (k := Obj.COMMIT_STATUS) (by decide) _ 2)
    (onlyObjects_wr (k := Obj.COMMIT_PROGRESS) (by decide) _ 100)

end

/-- A commit that fails has ended, and leaves the images and the active slot as they are. -/
theorem commitFails_leaves (stuck : Bool) (s : State) :
    rd (commitFails stuck s) Obj.COMMIT_STATUS = (if stuck then 0x13 else 0x12) ∧ (commitFails stuck s).cfg.commitStep = 0
      ∧ (commitFails stuck s).cfg.committed = s.cfg.committed ∧ (commitFails stuck s).cfg.draft = s.cfg.draft
      ∧ rd (commitFails stuck s) Obj.ACTIVE_SLOT = rd s Obj.ACTIVE_SLOT := by
  have hbus := endEeprom_work s
  unfold commitFails
  dsimp only
  rw [setSlotImage_eq, slotTakes_frame, hbus.cfg]
  exact ⟨rd_wr_same _ _ _, rfl, rfl, rfl, (rd_wr_other _ _ (by decide)).trans (hbus.objects _ (by decide))⟩

/-! ### COMMIT_VERIFIED (R326 to R328) -/

/-- The configuration in which the committed image is `im`, and the draft holds its content. -/
def imageCommitted (im : Image) (c : Configuration) : Configuration :=
  { c with committed := some im, draft := { im with seconds := 0 }, valid := true }

/-- What the slot of a commit holds once it is verified. -/
def committedSlot (s : State) : Slot := .good (commitImage s) (satAdd (2 ^ 32 - 1) (rd s Obj.COMMITS) 1) (stimeNow s)

/-- The state in which the slot and the committed image have taken the draft's content. -/
def imageTaken (s : State) : State :=
  let t := setSlotImage (spareSlot s) (committedSlot s) (endEeprom s)
  wr { t with cfg := imageCommitted (commitImage s) t.cfg } Obj.LIVE_DIFFERS 0

/-- The commit waits for its values to take effect. -/
def awaitEffect (c : Configuration) : Configuration := { c with commitStep := 3 }

/-- The state of a commit made in HELD, before its values are to take effect. -/
def commitWaits (s : State) : State := wr { imageTaken s with cfg := awaitEffect (imageTaken s).cfg } Obj.COMMIT_STATUS 3

theorem commitApply_eq (s : State) :
    commitApply s = if (imageTaken s).cfg.commitHeld = false then commitDone (imageTaken s)
      else if (changedKeys (commitImage s) (baseImage s)).any retideKey then joinSilence (commitWaits s)
      else { commitWaits s with cfg := { (commitWaits s).cfg with applyDue := true } } := rfl

theorem imageTaken_cfg (s : State) :
    (imageTaken s).cfg = imageCommitted (commitImage s) (slotTakes (spareSlot s) (committedSlot s) s.cfg) := by
  unfold imageTaken
  dsimp only
  rw [setSlotImage_eq, wr_cfg, (endEeprom_work s).cfg]

theorem imageTaken_log (s : State) : (imageTaken s).log = s.log := by
  unfold imageTaken
  dsimp only
  rw [setSlotImage_eq, wr_log, (endEeprom_work s).log]

theorem onlyObjects_imageTaken (s : State) : OnlyObjects [Obj.MBUS_STATUS, Obj.LIVE_DIFFERS] s (imageTaken s) := by
  unfold imageTaken
  dsimp only
  rw [setSlotImage_eq]
  have hbus : OnlyObjects [Obj.MBUS_STATUS, Obj.LIVE_DIFFERS] s (endEeprom s) := onlyObjects_mono (endEeprom_work s).objects (by decide)
  exact onlyObjects_trans hbus (onlyObjects_wr (k := Obj.LIVE_DIFFERS) (by decide) _ _)

theorem imageTaken_commitHeld (s : State) : (imageTaken s).cfg.commitHeld = s.cfg.commitHeld := by
  rw [imageTaken_cfg, slotTakes_frame]
  rfl

/-- A state with the images and slots that a verified commit leaves. -/
structure HoldsCommit (s t : State) : Prop where
  /-- the committed image -/
  committed : t.cfg.committed = some (commitImage s)
  /-- the draft -/
  draft : t.cfg.draft = { commitImage s with seconds := 0 }
  /-- the slot written -/
  slot : slotAt t (spareSlot s) = committedSlot s

theorem holdsCommit_imageTaken (s : State) : HoldsCommit s (imageTaken s) where
  committed := by rw [imageTaken_cfg]; rfl
  draft := by rw [imageTaken_cfg]; rfl
  slot := slotAt_of_takes (c := s.cfg) (by rw [imageTaken_cfg]; rfl) (by rw [imageTaken_cfg]; rfl)

/-- Images and slots stand where the configuration differs in other records. -/
theorem HoldsCommit.congr {s t u : State} (h : HoldsCommit s t) (hcommitted : u.cfg.committed = t.cfg.committed)
    (hdraft : u.cfg.draft = t.cfg.draft) (h0 : u.cfg.slot0 = t.cfg.slot0) (h1 : u.cfg.slot1 = t.cfg.slot1) : HoldsCommit s u :=
  ⟨hcommitted.trans h.committed, hdraft.trans h.draft, by unfold slotAt; rw [h0, h1]; exact h.slot⟩

theorem spareSlot_imageTaken (s : State) : spareSlot (imageTaken s) = spareSlot s := by
  unfold spareSlot
  rw [onlyObjects_imageTaken s _ (by decide)]

/-- The figures that a commit shows (R343), from the slot it wrote. -/
def commitFigures (u : State) (im : Image) (n stime : Nat) : List (Nat × Nat) :=
  [(Obj.COMMITTED_GENERATION, im.generation), (Obj.COMMITTED_CHECK, im.check (optionCode u)), (Obj.ACTIVE_SLOT, spareSlot u),
    (Obj.COMMITS, n), (Obj.LAST_COMMIT_TIME, stime)]

/-- The objects that show them. -/
def figureKeys : List Nat :=
  [Obj.COMMITTED_GENERATION, Obj.COMMITTED_CHECK, Obj.ACTIVE_SLOT, Obj.COMMITS, Obj.LAST_COMMIT_TIME]

/-- The configuration when no commit is under way. -/
def commitEnded (c : Configuration) : Configuration := { c with commitStep := 0, retideWait := none, retideGood := [] }

/-- The state of a commit that is done, before its event. -/
def commitShown (u : State) : State := wr { showCommit u with cfg := commitEnded (showCommit u).cfg } Obj.COMMIT_STATUS 4

theorem commitDone_eq (u : State) :
    commitDone u = emit .configurationCommitted noInst
      (leBytes 4 (rd (commitShown u) Obj.COMMITTED_GENERATION) ++ leBytes 4 (rd (commitShown u) Obj.COMMITTED_CHECK)) (commitShown u) := rfl

theorem showCommit_good {u : State} {im : Image} {n stime : Nat} (h : slotAt u (spareSlot u) = .good im n stime) :
    showCommit u = wrs u (commitFigures u im n stime) := by
  unfold showCommit
  rw [h]
  rfl

/-- A commit that is done shows its figures and raises its event (R326 step 4, R343). -/
theorem commitDone_shows {u : State} {im : Image} {n stime : Nat} (h : slotAt u (spareSlot u) = .good im n stime) :
    rd (commitDone u) Obj.COMMIT_STATUS = 4 ∧ (commitDone u).cfg = commitEnded u.cfg
      ∧ Raised .configurationCommitted noInst u (commitDone u) ∧ ∀ p ∈ commitFigures u im n stime, rd (commitDone u) p.1 = p.2 := by
  have hshow := showCommit_good h
  have hcfg : (showCommit u).cfg = u.cfg := by rw [hshow, wrs_regs]
  have hlog : (commitShown u).log = u.log := by
    show (showCommit u).log = u.log
    rw [hshow, wrs_regs]
  rw [commitDone_eq]
  refine ⟨(rd_emit_other _ _ _ _ (by decide)).trans (rd_wr_same _ _ _), ?_, raised_congr (raised_emit _ _ _ _) hlog.symm rfl,
    fun p hp => ?_⟩
  · rw [emit_frame]
    exact congrArg commitEnded hcfg
  · have hkey : p.1 ∈ figureKeys := List.mem_map_of_mem (f := Prod.fst) hp
    have happart : ∀ j ∈ figureKeys, j ≠ Obj.LOG_DROPPED ∧ j ≠ Obj.COMMIT_STATUS := by decide
    have hnodup : figureKeys.Nodup := by decide
    obtain ⟨hdropped, hstatus⟩ := happart _ hkey
    refine (rd_emit_other _ _ _ _ hdropped).trans ((rd_wr_other _ _ hstatus).trans ?_)
    show rd (showCommit u) p.1 = p.2
    rw [hshow]
    exact rd_wrs_mem (l := commitFigures u im n stime) hnodup hp u

theorem slotAt_imageTaken (s : State) : slotAt (imageTaken s) (spareSlot (imageTaken s)) = committedSlot s := by
  rw [spareSlot_imageTaken]
  exact (holdsCommit_imageTaken s).slot

/-- A live commit is done at once, with its figures and its event (R327, R343). -/
theorem commitDone_live (s : State) :
    HoldsCommit s (commitDone (imageTaken s)) ∧ rd (commitDone (imageTaken s)) Obj.COMMIT_STATUS = 4
      ∧ (commitDone (imageTaken s)).cfg.commitStep = 0
      ∧ Raised .configurationCommitted noInst s (commitDone (imageTaken s)) ∧ Counted 32 Obj.COMMITS s (commitDone (imageTaken s))
      ∧ rd (commitDone (imageTaken s)) Obj.ACTIVE_SLOT = spareSlot s
      ∧ rd (commitDone (imageTaken s)) Obj.COMMITTED_GENERATION = (commitImage s).generation := by
  obtain ⟨hstatus, hcfg, hraised, hfigures⟩ := commitDone_shows (slotAt_imageTaken s)
  simp only [commitFigures, List.forall_mem_cons] at hfigures
  obtain ⟨hgen, -, hslot, hcommits, -⟩ := hfigures
  exact ⟨(holdsCommit_imageTaken s).congr (by rw [hcfg]; rfl) (by rw [hcfg]; rfl) (by rw [hcfg]; rfl) (by rw [hcfg]; rfl), hstatus,
    by rw [hcfg]; rfl, raised_congr hraised (imageTaken_log s).symm rfl, hcommits, hslot.trans (spareSlot_imageTaken s), hgen⟩

/-- The silence of a re-tide has begun, and only station time's record differs. -/
theorem joinSilence_begins (s : State) :
    (∃ q, (joinSilence s).time.silence = some q ∧ q.retide = true) ∧ joinSilence s = { s with time := (joinSilence s).time } := by
  unfold joinSilence
  split
  · exact ⟨⟨_, rfl, rfl⟩, rfl⟩
  · exact ⟨⟨_, rfl, rfl⟩, rfl⟩

theorem rd_commitWaits (s : State) {j : Nat} (h : j ∉ [Obj.MBUS_STATUS, Obj.LIVE_DIFFERS]) (hstatus : j ≠ Obj.COMMIT_STATUS) :
    rd (commitWaits s) j = rd s j := (rd_wr_other _ _ hstatus).trans (onlyObjects_imageTaken s j h)

theorem commitApply_live {s : State} (h : s.cfg.commitHeld = false) : commitApply s = commitDone (imageTaken s) := by
  rw [commitApply_eq, if_pos ((imageTaken_commitHeld s).trans h)]

theorem commitApply_held {s : State} (h : s.cfg.commitHeld = true) :
    commitApply s = if (changedKeys (commitImage s) (baseImage s)).any retideKey then joinSilence (commitWaits s)
      else { commitWaits s with cfg := { (commitWaits s).cfg with applyDue := true } } := by
  rw [commitApply_eq, if_neg (by rw [imageTaken_commitHeld, h]; decide)]

/-- What a commit made in HELD leaves when its slot is verified (R326 step 3, R328). -/
structure AwaitsEffect (s t : State) : Prop where
  /-- images and slots -/
  holds : HoldsCommit s t
  /-- the step shown -/
  status : rd t Obj.COMMIT_STATUS = 3
  /-- the step -/
  step : t.cfg.commitStep = 3
  /-- the count of commits -/
  commits : rd t Obj.COMMITS = rd s Obj.COMMITS
  /-- the active slot -/
  slot : rd t Obj.ACTIVE_SLOT = rd s Obj.ACTIVE_SLOT

theorem awaitsEffect_commitWaits (s : State) : AwaitsEffect s (commitWaits s) where
  holds := (holdsCommit_imageTaken s).congr rfl rfl rfl rfl
  status := rd_wr_same _ _ _
  step := rfl
  commits := rd_commitWaits s (by decide) (by decide)
  slot := rd_commitWaits s (by decide) (by decide)

theorem AwaitsEffect.joinSilence {s t : State} (h : AwaitsEffect s t) : AwaitsEffect s (joinSilence t) := by
  obtain ⟨-, hframe⟩ := joinSilence_begins t
  rw [hframe]
  exact ⟨h.holds.congr rfl rfl rfl rfl, h.status, h.step, h.commits, h.slot⟩

theorem AwaitsEffect.applyDue {s t : State} (h : AwaitsEffect s t) :
    AwaitsEffect s { t with cfg := { t.cfg with applyDue := true } } :=
  ⟨h.holds.congr rfl rfl rfl rfl, h.status, h.step, h.commits, h.slot⟩

theorem commitApply_waits {s : State} (h : s.cfg.commitHeld = true) :
    AwaitsEffect s (commitApply s) ∧ if (changedKeys (commitImage s) (baseImage s)).any retideKey then
        ∃ q, (commitApply s).time.silence = some q ∧ q.retide = true
      else (commitApply s).cfg.applyDue = true := by
  rw [commitApply_held h]
  split
  · exact ⟨(awaitsEffect_commitWaits s).joinSilence, (joinSilence_begins _).1⟩
  · exact ⟨(awaitsEffect_commitWaits s).applyDue, rfl⟩

theorem holdsCommit_commitApply (s : State) : HoldsCommit s (commitApply s) := by
  cases h : s.cfg.commitHeld
  case false =>
    rw [commitApply_live h]
    exact (commitDone_live s).1
  case true => exact (commitApply_waits h).1.holds

/-! ### RETIDE_READY (R328, R341) -/

/-- The configuration of a commit whose re-tide is over. -/
def retideOver (c : Configuration) : Configuration := { c with commitStep := 4, retideWait := none }

theorem exec_retideReady {s : State} {t0 : Nat} (hl : alive s .lookout = true) (hwait : s.cfg.retideWait = some t0)
    (hstep : s.cfg.commitStep = 3) :
    exec .retideReady s = .next (
      let u := if retideReturned s then s else runTo (t0 + 100000000 * nsUnit) s
      let u := { u with cfg := retideOver u.cfg }
      if blockInForce u || tripInForce u then u else schedule stReady causeCommit 0 u) := by
  show execRetideReady s = _
  unfold execRetideReady
  rw [whenAlive_on _ hl]
  dsimp only
  rw [hwait]
  dsimp only
  rw [if_neg (not_not_intro hstep)]
  rfl

theorem retideReady_returned {s : State} {t0 : Nat} (hl : alive s .lookout = true) (hwait : s.cfg.retideWait = some t0)
    (hstep : s.cfg.commitStep = 3) (hreturned : retideReturned s = true) :
    Completes .retideReady s fun t =>
      t.cfg = { s.cfg with commitStep := 4, retideWait := none } ∧ t = { s with cfg := t.cfg, sm := t.sm }
        ∧ (blockInForce s = false → tripInForce s = false → Scheduled stReady causeCommit 0 s t)
        ∧ (blockInForce s = true ∨ tripInForce s = true → t.sm = s.sm) := by
  refine ⟨_, exec_retideReady hl hwait hstep, ?_⟩
  have hblock : blockInForce { s with cfg := retideOver s.cfg } = blockInForce s := rfl
  have htrip : tripInForce { s with cfg := retideOver s.cfg } = tripInForce s := rfl
  dsimp only
  rw [if_pos hreturned, hblock, htrip]
  by_cases hdemand : (blockInForce s || tripInForce s) = true
  · rw [if_pos hdemand]
    refine ⟨rfl, rfl, fun hnoblock hnotrip => ?_, fun _ => rfl⟩
    rw [hnoblock, hnotrip] at hdemand
    exact absurd hdemand (by decide)
  · rw [if_neg hdemand]
    refine ⟨rfl, rfl, fun _ _ => scheduled_schedule rfl _ _, fun hforce => absurd ?_ hdemand⟩
    rwa [Bool.or_eq_true]

theorem retideReady_late {s : State} {t0 : Nat} (hl : alive s .lookout = true) (hwait : s.cfg.retideWait = some t0)
    (hstep : s.cfg.commitStep = 3) (hreturned : retideReturned s = false) (hinc : 0 < s.time.inc) :
    Completes .retideReady s fun t =>
      t0 + 100000000 * nsUnit ≤ t.time.acc ∧ t.cfg = { s.cfg with commitStep := 4, retideWait := none } := by
  refine ⟨_, exec_retideReady hl hwait hstep, ?_⟩
  obtain ⟨hreached, -⟩ := timeRunsToTheFirstEdge (t0 + 100000000 * nsUnit) s hinc
  have hcfg : retideOver (runTo (t0 + 100000000 * nsUnit) s).cfg = retideOver s.cfg := by rw [runTo_frame]
  dsimp only
  rw [hreturned, if_neg (by decide : ¬ false = true)]
  split
  · exact ⟨hreached, hcfg⟩
  · exact ⟨hreached, hcfg⟩

/-- Settles O27: a step that fails ends the commit; a verified slot holds the image, and a live commit differs from one made in HELD in
what follows; and the re-tide's end. -/
theorem commitSteps : Obligations.CommitSteps := by
  refine ⟨fun s hl hstep => commitSlotWritten_done hl hstep, fun stuck s hl => ⟨fun hstep => ?_, fun hstep => ?_⟩,
    fun s hl hstep => ?_, fun s t0 hl hwait hstep => ⟨retideReady_returned hl hwait hstep, retideReady_late hl hwait hstep⟩⟩
  · exact ⟨_, exec_commitSlotWritten hl hstep, commitFails_leaves stuck s⟩
  · exact ⟨_, exec_commitVerified hl hstep, commitFails_leaves stuck s⟩
  · obtain ⟨hcommitted, hdraft, hslot⟩ := holdsCommit_commitApply s
    refine ⟨_, exec_commitVerified hl hstep, hcommitted, hdraft, hslot, fun hlive => ?_, fun hheld => ?_⟩
    · rw [if_neg (by decide), commitApply_live hlive]
      exact (commitDone_live s).2
    · obtain ⟨⟨-, hstatus, hstep', hcommits, hactive⟩, heffect⟩ := commitApply_waits hheld
      exact ⟨hstatus, hstep', hcommits, hactive, heffect⟩

end Sys2Proof.Proofs

namespace Sys2Proof.Proofs

open Sys2Proof.Machine Sys2Proof.Claims Sys2Proof.Laws

/-! ### Writes of the configuration objects (R287, R319) -/

theorem trigger_validate : Trigger Obj.VALIDATE := by decide +kernel
theorem volatile_configCommit : Volatile Obj.CONFIG_COMMIT .u32 := by decide +kernel
theorem volatile_draftDiscard : Volatile Obj.DRAFT_DISCARD .u8 := by decide +kernel

/-- A configuration object that is not P. -/
theorem applyWrite_configuration {k seq key : Nat} {r : ObjRow} {bs : List Byte} {s : State} (hp : r.persist = false)
    (hlo : 0x140000 ≤ key) (hhi : key < 0x140400) : applyWrite k seq key r bs s = writeConfiguration key bs s := by
  unfold applyWrite keyIndex
  dsimp only
  rw [if_neg (by simp [hp])]
  simp only [Obj.STATE_REQUEST]
  iterate 3 rw [if_neg (by omega)]
  rw [if_pos (by omega)]

/-- `bookedWrite_leaves` for a configuration object whose rule leaves `v` of the booked state. -/
theorem configurationWrite_leaves {k key : Nat} {ty : ObjTy} {bs : List Byte} {ks : List Nat} {s u v : State} (h : MayWrite k key bs s)
    (hrow : Volatile key ty) (hlo : 0x140000 ≤ key) (hhi : key < 0x140400)
    (hv : writeConfiguration key bs (booked k s) = (v, 0))
    (hu : ∃ a, v = { u with regs := a, sessions := (booked k s).sessions, pmc := (booked k s).pmc })
    (hsame : u.rp = s.rp ∧ u.images = s.images) (hks : ∀ j ∈ ks, Apart j) (hobjects : OnlyObjects ks (booked k s) v) :
    WriteLeaves k ks u v s (namedRequest k 0x11 key bs s) := by
  obtain ⟨r, hr, hp, -⟩ := row_of_volatile hrow
  exact bookedWrite_leaves h hr ((applyWrite_configuration hp hlo hhi).trans hv) hu hsame hks hobjects

theorem cfg_booked (k : Nat) (s : State) : (booked k s).cfg = s.cfg := by rw [booked_frame]

/-! ### VALIDATE (R324) -/

/-- The configuration in which the draft as it stands is to be judged. -/
def judging (gen : Nat) (c : Configuration) : Configuration := { c with validating := true, judged := some (c.draft, gen) }

/-- The state in which a validation of the draft, of generation `gen`, has begun. -/
def validationBegun (gen : Nat) (s : State) : State := wr { s with cfg := judging gen s.cfg } Obj.VALIDATE_STATUS 0xFF

theorem writeConfiguration_validate (bs : List Byte) (s : State) :
    writeConfiguration Obj.VALIDATE bs s = (validationBegun (rd s Obj.DRAFT_GENERATION) s, 0) := rfl

theorem validate_completes {k v : Nat} {s : State} (h : MayWriteN k Obj.VALIDATE v s) :
    Completes (.validate k v) s fun t =>
      Done k [Obj.VALIDATE_STATUS] { s with cfg := t.cfg } s t ∧ rd t Obj.VALIDATE_STATUS = 0xFF
        ∧ t.cfg = { s.cfg with validating := true, judged := some (s.cfg.draft, rd s Obj.DRAFT_GENERATION) } := by
  have hgen : rd (booked k s) Obj.DRAFT_GENERATION = rd s Obj.DRAFT_GENERATION := rd_booked_apart h.1 (by decide)
  have hleaves := volatileWrite_leaves (ks := [Obj.VALIDATE_STATUS]) (validationBegun (rd s Obj.DRAFT_GENERATION))
    (u := { s with cfg := judging (rd s Obj.DRAFT_GENERATION) s.cfg }) h (volatile_of_trigger trigger_validate)
    (fun _ hp => by rw [applyWrite_configuration hp (by decide) (by decide), writeConfiguration_validate, hgen])
    (fun _ _ _ => ⟨_, rfl⟩) ⟨rfl, rfl⟩ (by decide) (fun x => onlyObjects_wr List.mem_cons_self { x with cfg := judging _ x.cfg } _)
  refine completes_write rfl hleaves ?_
  rintro t ⟨hdone, -, hobjects⟩
  have hcfg : t.cfg = judging (rd s Obj.DRAFT_GENERATION) s.cfg := by rw [frame_of_done hdone]
  exact ⟨by rw [hcfg]; exact hdone, (hobjects _ (by decide)).trans (rd_wr_same _ _ _), hcfg⟩

/-! ### CONFIG_COMMIT (R326) -/

/-- The checks of R326 hold for a commit of the check `v`. -/
structure MayCommit (v : Nat) (s : State) : Prop where
  /-- no validation of a draft -/
  validating : s.cfg.validating = false
  /-- no judgement of a restored image -/
  restoring : s.cfg.restoring = false
  /-- no commit -/
  idle : s.cfg.commitStep = 0
  /-- the draft is validated -/
  valid : rd s Obj.VALIDATE_STATUS = 0
  /-- with that check -/
  check : v = rd s Obj.VALIDATED_CHECK
  /-- outside HELD only RW objects change -/
  allowed : station s = stHeld ∨ (changedKeys s.cfg.draft (baseImage s)).all isRw = true

/-- The configuration in which step 1 of a commit has begun. -/
def commitBegun (held : Bool) (c : Configuration) : Configuration := { c with commitStep := 1, commitHeld := held }

/-- The state in which step 1 of a commit shows. -/
def commitShows (s : State) : State :=
  wrs { s with cfg := commitBegun (decide (station s = stHeld)) s.cfg } [(Obj.COMMIT_STATUS, 1), (Obj.COMMIT_PROGRESS, 0)]

/-- The transaction of step 1 waits for the bus. -/
def commitQueued (s : State) : State := addJob .eeprom (commitShows s)

theorem writeCommit_begins {v : Nat} {s : State} (h : MayCommit v s) : writeCommit v s = (startBus (commitQueued s), 0) := by
  unfold writeCommit
  dsimp only
  rw [if_neg (by simp [h.validating, h.restoring, h.idle]), if_neg (not_not_intro h.valid), if_neg (not_not_intro h.check), if_neg]
  · rfl
  · rintro ⟨hstation, hkeys⟩
    rcases h.allowed with hheld | hrw
    · exact hstation hheld
    · rw [hrw] at hkeys
      exact absurd hkeys (by decide)

/-- Between step 1 as it shows and its transaction at its place, only the bus has work. -/
theorem startBus_commitQueued (s : State) : BusWork (commitShows s) (startBus (commitQueued s)) :=
  (addJob_work _ _).trans (startBus_work _)

/-- Only what step 1 shows, and the bus, differ in objects. -/
theorem rd_startBus_commitQueued (s : State) :
    rd (startBus (commitQueued s)) Obj.COMMIT_STATUS = 1 ∧ rd (startBus (commitQueued s)) Obj.COMMIT_PROGRESS = 0
      ∧ OnlyObjects [Obj.COMMIT_STATUS, Obj.COMMIT_PROGRESS, Obj.MBUS_STATUS] s (startBus (commitQueued s)) := by
  have hbus := (startBus_commitQueued s).objects
  refine ⟨(hbus _ (by decide)).trans ((rd_wr_other _ _ (by decide)).trans (rd_wr_same _ _ _)),
    (hbus _ (by decide)).trans (rd_wr_same _ _ _), onlyObjects_trans (fun j hj => ?_) (onlyObjects_mono hbus (by decide))⟩
  simp only [List.mem_cons, List.not_mem_nil, or_false, not_or] at hj
  obtain ⟨hstatus, hprogress, -⟩ := hj
  exact (rd_wr_other _ _ hprogress).trans (rd_wr_other _ _ hstatus)

/-- Nothing else differs but the commit under way, the bus and what was sent. -/
theorem startBus_commitQueued_changes (s : State) :
    ∃ a l o, startBus (commitQueued s)
      = { s with regs := a, cfg := commitBegun (decide (station s = stHeld)) s.cfg, lio := l, outbox := o } := by
  obtain ⟨a, l, o, hchanges⟩ := (startBus_commitQueued s).changes
  exact ⟨a, l, o, by rw [hchanges]; rfl⟩

theorem writeConfiguration_configCommit (bs : List Byte) (s : State) :
    writeConfiguration Obj.CONFIG_COMMIT bs s = writeCommit (leNat bs) s := rfl

theorem mayCommit_booked {k v : Nat} {s : State} (hready : Ready k s) (h : MayCommit v s) : MayCommit v (booked k s) where
  validating := by rw [cfg_booked]; exact h.validating
  restoring := by rw [cfg_booked]; exact h.restoring
  idle := by rw [cfg_booked]; exact h.idle
  valid := by rw [rd_booked_apart hready (by decide)]; exact h.valid
  check := by rw [rd_booked_apart hready (by decide)]; exact h.check
  allowed := by
    unfold baseImage
    rw [station_booked hready, cfg_booked]
    exact h.allowed

theorem configCommit_completes {k v : Nat} {s : State} (h : MayWriteN k Obj.CONFIG_COMMIT v s) (hv : v < 2 ^ 32) (hmay : MayCommit v s) :
    Completes (.configCommit k v) s fun t =>
      Done k [Obj.COMMIT_STATUS, Obj.COMMIT_PROGRESS, Obj.MBUS_STATUS] { s with cfg := t.cfg, lio := t.lio } s t
        ∧ rd t Obj.COMMIT_STATUS = 1 ∧ rd t Obj.COMMIT_PROGRESS = 0
        ∧ t.cfg = { s.cfg with commitStep := 1, commitHeld := decide (station s = stHeld) } := by
  have hrule : writeConfiguration Obj.CONFIG_COMMIT (namedBytes Obj.CONFIG_COMMIT v) (booked k s)
      = (startBus (commitQueued (booked k s)), 0) := by
    rw [writeConfiguration_configCommit, leNat_namedBytes volatile_configCommit (by simpa [ObjTy.size] using hv),
      writeCommit_begins (mayCommit_booked h.1 hmay)]
  obtain ⟨hstatus, hprogress, hobjects⟩ := rd_startBus_commitQueued (booked k s)
  obtain ⟨a, l, o, hchanges⟩ := startBus_commitQueued_changes (booked k s)
  have hleaves := configurationWrite_leaves
    (u := { s with cfg := commitBegun (decide (station s = stHeld)) s.cfg, lio := l, outbox := o }) h volatile_configCommit (by decide)
    (by decide) hrule ⟨a, by rw [hchanges, station_booked h.1, booked_frame]⟩ ⟨rfl, rfl⟩ (by decide) hobjects
  refine completes_write rfl hleaves ?_
  rintro t ⟨hdone, -, hapart⟩
  have hcfg : t.cfg = commitBegun (decide (station s = stHeld)) s.cfg := by rw [frame_of_done hdone]
  have hlio : t.lio = l := by rw [frame_of_done hdone]
  exact ⟨by rw [hcfg, hlio]; exact hdone, (hapart _ (by decide)).trans hstatus, (hapart _ (by decide)).trans hprogress, hcfg⟩

/-! ### DRAFT_DISCARD (R323, R343) -/

/-- The objects of drove `d` that its measurement shows itself in, and `MIN_PERIOD`. -/
def measureKeys (d : Nat) : List Nat :=
  [Obj.RT_MEASURE d, Obj.ROUND_TRIP d, Obj.OUTBOUND_PASSAGE d, Obj.EARLIEST_TELEMETRY d, Obj.MIN_PERIOD]

theorem apart_measureKeys {d j : Nat} (h : j ∈ measureKeys d) : Apart j := by
  simp only [measureKeys, List.mem_cons, List.not_mem_nil, or_false] at h
  rcases h with rfl | rfl | rfl | rfl | rfl <;>
    simp only [Apart, Obj.RT_MEASURE, Obj.ROUND_TRIP, Obj.OUTBOUND_PASSAGE, Obj.EARLIEST_TELEMETRY, Obj.MIN_PERIOD] <;> omega

/-- `t` is `s` with measurements of droves cleared or begun, which show in the objects `ks`. -/
structure Remeasured (ks : List Nat) (s t : State) : Prop where
  /-- what may change -/
  changes : ∃ a b, t = { s with regs := a, droves := b }
  /-- the objects -/
  objects : OnlyObjects ks s t

theorem Remeasured.trans {ks : List Nat} {s t u : State} (h : Remeasured ks s t) (g : Remeasured ks t u) : Remeasured ks s u := by
  obtain ⟨_, _, hchanges⟩ := h.changes
  obtain ⟨a, b, gchanges⟩ := g.changes
  exact ⟨⟨a, b, by rw [gchanges, hchanges]⟩, onlyObjects_trans h.objects g.objects⟩

theorem Remeasured.refl (ks : List Nat) (s : State) : Remeasured ks s s := ⟨⟨_, _, rfl⟩, fun _ _ => rfl⟩

theorem clearMeasure_work (d : Nat) (s : State) : Remeasured (measureKeys d) s (clearMeasure d s) := by
  refine ⟨⟨_, _, rfl⟩, ?_⟩
  have hshown : OnlyObjects (measureKeys d) s
      (wrs s [(Obj.RT_MEASURE d, 0), (Obj.ROUND_TRIP d, 0), (Obj.OUTBOUND_PASSAGE d, 0), (Obj.EARLIEST_TELEMETRY d, 0)]) := fun j hj =>
    rd_wrs_other s _ fun p hp e => hj (e ▸ List.mem_append_left [Obj.MIN_PERIOD] (List.mem_map_of_mem (f := Prod.fst) hp))
  exact onlyObjects_trans hshown (onlyObjects_wr (k := Obj.MIN_PERIOD) (by simp [measureKeys]) _ _)

theorem wantMeasure_work (d : Nat) (s : State) : Remeasured (measureKeys d) s (wantMeasure d s) := by
  unfold wantMeasure
  split
  · rw [startMeasure_eq]
    exact ⟨⟨_, _, rfl⟩, onlyObjects_wr (k := Obj.RT_MEASURE d) List.mem_cons_self s 1⟩
  · exact ⟨⟨_, _, rfl⟩, fun _ _ => rfl⟩

/-- The objects that a new draft shows itself in, on a station of `n` droves. -/
def newDraftKeys (n : Nat) : List Nat := draftKeys ++ (List.range n).flatMap measureKeys

theorem apart_newDraftKeys {n j : Nat} (h : j ∈ newDraftKeys n) : Apart j := by
  rcases List.mem_append.mp h with hdraft | hmeasure
  · have hkeys : ∀ j ∈ draftKeys, Apart j := by decide
    exact hkeys j hdraft
  · obtain ⟨d, -, hd⟩ := List.mem_flatMap.mp hmeasure
    exact apart_measureKeys hd

/-- The configuration whose draft is `im`, undamaged. -/
def draftReplaced (im : Image) (c : Configuration) : Configuration := { c with draftDamaged := false, draft := im }

/-- The drove whose lane objects differ between two images is measured again. -/
def remeasure (old im : Image) (s : State) (d : Nat) : State :=
  if laneDiffers old im d then wantMeasure d (clearMeasure d s) else s

theorem newDraft_eq (im : Image) (s : State) :
    newDraft im s =
      let t := draftChanged { s with cfg := draftReplaced im s.cfg }
      if station t = stHeld then (List.range (droveCount t)).foldl (remeasure s.cfg.draft im) t else t := rfl

theorem remeasure_work (old im : Image) (s : State) (d : Nat) : Remeasured (measureKeys d) s (remeasure old im s d) := by
  unfold remeasure
  split
  · exact (clearMeasure_work d s).trans (wantMeasure_work d _)
  · exact .refl _ s

theorem remeasure_all (old im : Image) (n : Nat) (s : State) :
    Remeasured (newDraftKeys n) s ((List.range n).foldl (remeasure old im) s) := by
  refine List.foldlRecOn (motive := Remeasured (newDraftKeys n) s) _ _ (.refl _ s) fun t ht d hd => ht.trans ?_
  have hwork := remeasure_work old im t d
  exact ⟨hwork.changes, onlyObjects_mono hwork.objects fun j hj => List.mem_append_right _ (List.mem_flatMap.mpr ⟨d, hd, hj⟩)⟩

/-- A new draft: nothing differs beside it but objects and the measurements of droves. -/
theorem newDraft_work (im : Image) (s : State) :
    ∃ n, (∃ a b, newDraft im s = { s with regs := a, cfg := draftReplaced im s.cfg, droves := b })
      ∧ OnlyObjects (newDraftKeys n) s (newDraft im s) := by
  suffices hwork : ∃ n, Remeasured (newDraftKeys n) { s with cfg := draftReplaced im s.cfg } (newDraft im s) by
    obtain ⟨n, hchanges, hobjects⟩ := hwork
    exact ⟨n, hchanges, hobjects⟩
  rw [newDraft_eq]
  dsimp only
  have hdraft : ∀ n, Remeasured (newDraftKeys n) { s with cfg := draftReplaced im s.cfg }
      (draftChanged { s with cfg := draftReplaced im s.cfg }) := fun n =>
    ⟨⟨_, _, draftChanged_frame _⟩, fun j hj => rd_draftChanged _ fun hmem => hj (List.mem_append_left _ hmem)⟩
  split
  · exact ⟨_, (hdraft _).trans (remeasure_all _ im _ _)⟩
  · exact ⟨0, hdraft 0⟩

theorem writeConfiguration_draftDiscard (bs : List Byte) (s : State) :
    writeConfiguration Obj.DRAFT_DISCARD bs s = writeDiscard (leNat bs) s := rfl

/-- A write of `DRAFT_DISCARD` that gives the draft a new image. -/
theorem newDraft_completes {c : Instr} {k v : Nat} {im : Image} {s : State} (h : MayWriteN k Obj.DRAFT_DISCARD v s)
    (hexec : exec c s = .next (namedRequest k 0x11 Obj.DRAFT_DISCARD (namedBytes Obj.DRAFT_DISCARD v) s)) (hv : v < 256)
    (hrule : writeDiscard v (booked k s) = (newDraft im (booked k s), 0)) :
    Completes c s fun t => Answered k 0 s t ∧ t.cfg.draft = im ∧ t.cfg.committed = s.cfg.committed := by
  obtain ⟨n, ⟨a, b, hchanges⟩, hobjects⟩ := newDraft_work im (booked k s)
  have hleaves := configurationWrite_leaves (u := { s with cfg := draftReplaced im s.cfg, droves := b }) h volatile_draftDiscard
    (by decide) (by decide)
    (by rw [writeConfiguration_draftDiscard, leNat_namedBytes volatile_draftDiscard hv, hrule])
    ⟨a, by rw [hchanges, booked_frame]⟩ ⟨rfl, rfl⟩ (fun j hj => apart_newDraftKeys hj) hobjects
  refine completes_write hexec hleaves ?_
  rintro t ⟨hdone, -, -⟩
  have hcfg : t.cfg = draftReplaced im s.cfg := by rw [frame_of_done hdone]
  obtain ⟨hanswered, -⟩ := hdone
  exact ⟨hanswered, by rw [hcfg]; rfl, by rw [hcfg]; rfl⟩

theorem draftFromCommitted_completes {k : Nat} {im : Image} {s : State} (h : MayWriteN k Obj.DRAFT_DISCARD 1 s)
    (hcommitted : s.cfg.committed = some im) :
    Completes (.draftFromCommitted k) s fun t => Answered k 0 s t ∧ t.cfg.draft = im ∧ t.cfg.committed = some im := by
  have hrule : writeDiscard 1 (booked k s) = (newDraft im (booked k s), 0) := by
    unfold writeDiscard
    rw [if_pos rfl, cfg_booked, hcommitted]
    rfl
  obtain ⟨t, hexec, hanswered, hdraft, hstands⟩ := newDraft_completes (c := .draftFromCommitted k) h rfl (by decide) hrule
  exact ⟨t, hexec, hanswered, hdraft, hstands.trans hcommitted⟩

theorem draftFromFactory_completes {k : Nat} {s : State} (h : MayWriteN k Obj.DRAFT_DISCARD 2 s) :
    Completes (.draftFromFactory k) s fun t =>
      Answered k 0 s t ∧ t.cfg.draft = Image.factory ∧ t.cfg.committed = s.cfg.committed :=
  newDraft_completes h rfl (by decide) (if_neg (by decide))

end Sys2Proof.Proofs

namespace Sys2Proof.Proofs

open Sys2Proof.Machine Sys2Proof.Claims Sys2Proof.Laws

/-! ### Writes of the station's objects, which lie below those of the host side (R287, R308) -/

section

variable {k key : Nat} {bs : List Byte} {s : State}

/-- What is due after the answer, and the way to the host, are as they were before the request. -/
theorem calm_of_booked {w : State} (h : Ready k s) (hpath : SamePath (sessNet s k).port (booked k s) w) (hrp : w.rp = (booked k s).rp)
    (hsessions : w.sessions = (booked k s).sessions) : Calm k w := by
  have hcalm := calm_booked h
  refine ⟨?_, fun j hj => ?_, ?_⟩
  · rw [hrp]
    exact hcalm.reset
  · rw [hpath.state hj]
    exact hcalm.closed j hj
  · rw [sess_congr hsessions]
    exact hcalm.held

/-- A write whose rule leaves `w` of the booked state, apart from the notes of the masters, and does not touch the objects that direct
frames: its answer goes to where the session is reached. -/
theorem namedRequest_answered {w : State} {code : Nat} (h : Ready k s)
    (hw : writeObject k ((sess s k).execd + 1) (keyIndex key) (keySub key) bs (booked k s) = (w, code))
    (hpath : SamePath (sessNet s k).port (booked k s) w) (hrp : w.rp = (booked k s).rp) (hsessions : w.sessions = (booked k s).sessions) :
    Served k (sessNet s k) (namedFrame s k 0x11 key bs) (sess s k) (.plain code) w (namedRequest k 0x11 key bs s)
      ∧ Answered k code s (namedRequest k 0x11 key bs s) := by
  have hpath' : SamePath (sessNet s k).port s w := (samePath_booked h).trans hpath
  have ⟨_, _, _, hreach, _⟩ := h
  have hserved := namedRequest_served h hw (calm_of_booked h hpath hrp hsessions) ((hpath'.reachable _).trans hreach)
  exact ⟨hserved, answered_of_served (hpath'.outward.trans (outward_sessNet s k)) hserved⟩

/-- `bookedWrite_leaves` for objects that need not lie apart from the host side, as long as they direct no frames. -/
theorem bookedWrite_done {ks : List Nat} {r : ObjRow} {u v : State} (h : MayWrite k key bs s)
    (hrow : findRow (keyIndex key) (keySub key) = some r)
    (hv : applyWrite k ((sess s k).execd + 1) key r bs (booked k s) = (v, 0))
    (hu : ∃ a, v = { u with regs := a, sessions := (booked k s).sessions, pmc := (booked k s).pmc })
    (hsame : u.rp = s.rp ∧ u.images = s.images) (hks : ∀ j ∈ ks, j ∉ pathKeys (sessNet s k).port)
    (hobjects : OnlyObjects ks (booked k s) v) {t : State} (ht : namedRequest k 0x11 key bs s = t) :
    Done k ks u s t ∧ ∀ j, j ∉ hostKeys k s → rd t j = rd v j := by
  obtain ⟨hready, hpass⟩ := h
  obtain ⟨a, hu⟩ := hu
  obtain ⟨hrp, himages⟩ := hsame
  have hset : Settled v := by
    have ⟨_, _, _, _, _, _, _, _, _, hset⟩ := hready
    have hvimages : v.images = s.images := by rw [hu, himages]
    unfold Settled masterImages
    rw [hvimages]
    exact hset
  obtain ⟨w, hw, hwv⟩ := writeObject_passed hpass hrow hv hset
  have hwrd : ∀ j, rd w j = rd v j := fun j => by rw [hwv]; rfl
  have hbooked : (booked k s).rp = s.rp := by rw [booked_frame]
  have hpath : SamePath (sessNet s k).port (booked k s) w := fun j hj =>
    (hwrd j).trans (SamePath.of_objects hobjects hks j hj)
  obtain ⟨hserved, hanswered⟩ := namedRequest_answered hready hw hpath (by rw [hwv, hu, hbooked, hrp]) (by rw [hwv, hu])
  rw [ht] at hserved hanswered
  have hout : ∀ j, j ∉ hostKeys k s → rd t j = rd v j := fun j hj =>
    (hserved.accepted rfl j (by
      simp only [hostKeys, List.mem_cons, not_or] at hj
      simpa using hj.2.1)).trans (hwrd j)
  refine ⟨⟨hanswered, ?_, fun j hj => ?_, fun j hj hhost => ?_⟩, hout⟩
  · have hpmc : t.pmc = (booked k s).pmc := by rw [hserved.changes, hwv, hu]
    have himg : t.images = w.images := by rw [hserved.changes]
    rw [hpmc, himg]
    refine hserved.changes.trans ?_
    generalize t.regs = b, t.sessions = c, t.outbox = d
    rw [hwv, hu]
  · have hsess : sess w j = sess (booked k s) j := sess_congr (by rw [hwv, hu]) j
    rw [hserved.others j hj, hsess, sess_booked_other s hj]
  · rw [hout j hhost, hobjects j hj, rd_booked_of_not_mem hhost]

/-- A write that its object's own rule refuses. -/
theorem writeObject_rejected {seq code : Nat} {r : ObjRow} {w : State}
    (h : (writeChecks s k (keyIndex key) (keySub key) bs).2 = 0) (hr : findRow (keyIndex key) (keySub key) = some r)
    (hw : applyWrite k seq key r bs s = (w, code)) (hcode : code ≠ 0) :
    writeObject k seq (keyIndex key) (keySub key) bs s = (w, code) := by
  unfold writeObject
  simp only [presentRow_of_checks h hr, h, objKey_keyIndex_keySub, hw]
  rw [if_neg (by simp), if_neg (by simp [hcode])]

end

/-! ### State requests (R332 to R334) -/

theorem volatile_stateRequest : Volatile Obj.STATE_REQUEST .u8 := by decide +kernel

/-- What directs frames lies among the host side's objects. -/
theorem not_mem_pathKeys_of_lt {port j : Nat} (h : j < 0x110000) : j ∉ pathKeys port := by
  simp only [pathKeys, List.mem_append, List.mem_cons, List.mem_map, List.mem_range, List.not_mem_nil, or_false, not_or, not_exists,
    not_and]
  refine ⟨⟨?_, ?_, ?_, ?_, ?_⟩, fun c hc => ?_⟩ <;>
    simp only [Obj.OBJECT_UDP_PORT, Obj.VLAN_ID, Obj.IP_GATEWAY, Obj.IP_MASK, Obj.IP_ADDRESS, Obj.SESSION_STATE] <;> omega

theorem requestStatus_free (k port : Nat) (s : State) : Obj.REQUEST_STATUS ∉ pathKeys port ∧ Obj.REQUEST_STATUS ∉ hostKeys k s :=
  ⟨not_mem_pathKeys_of_lt (by decide), not_mem_hostKeys_of (by decide) (by decide)⟩

theorem applyWrite_stateRequest {k seq v : Nat} {r : ObjRow} {s : State} (hp : r.persist = false) (hv : v < 256) :
    applyWrite k seq Obj.STATE_REQUEST r (namedBytes Obj.STATE_REQUEST v) s = writeStateRequest (sessRole s k) v s := by
  unfold applyWrite
  dsimp only
  rw [if_neg (by simp [hp]), if_pos rfl, leNat_namedBytes volatile_stateRequest hv]

/-- `t` is `s` with the station machine's record and `REQUEST_STATUS` changed, and no change of the tide a new state takes effect at. -/
structure RequestWork (s t : State) : Prop where
  /-- what may change -/
  changes : ∃ a b, t = { s with regs := a, sm := b }
  /-- the objects -/
  objects : OnlyObjects [Obj.REQUEST_STATUS] s t
  /-- what R332 goes by -/
  afterDemand : t.sm.afterDemand = s.sm.afterDemand

namespace RequestWork

variable {s t : State}

theorem dueTide (h : RequestWork s t) (target : Nat) : dueTide t target = dueTide s target :=
  dueTide_congr (h.objects Obj.STATION_STATE (by decide)) h.afterDemand (h.objects Obj.TIDE_NUMBER (by decide)) target

theorem cfg (h : RequestWork s t) : t.cfg = s.cfg := by obtain ⟨_, _, rfl⟩ := h.changes; rfl

end RequestWork

theorem lapseRequest_work (s : State) : RequestWork s (lapseRequest s) := by
  unfold lapseRequest
  split
  · exact ⟨⟨_, _, rfl⟩, fun _ _ => rfl, rfl⟩
  · exact ⟨⟨_, _, rfl⟩, onlyObjects_wr List.mem_cons_self _ _, rfl⟩

/-- The state in which request `v` is pending and shown so. -/
def requestPending (v : Nat) (s : State) : State :=
  let t := lapseRequest s
  wr { t with sm := { t.sm with request := v } } Obj.REQUEST_STATUS 0xFF

theorem requestPending_work (v : Nat) (s : State) : RequestWork s (requestPending v s) := by
  have hlapse := lapseRequest_work s
  obtain ⟨a, b, hchanges⟩ := id hlapse.changes
  exact ⟨⟨_, _, by unfold requestPending; rw [hchanges]; rfl⟩,
    onlyObjects_trans hlapse.objects (onlyObjects_wr List.mem_cons_self _ _), hlapse.afterDemand⟩

theorem requestTarget_congr {s t : State} (h : t.cfg = s.cfg) (v : Nat) : requestTarget t v = requestTarget s v := by
  unfold requestTarget
  rw [h]

theorem takeRequest_leads {v target arg : Nat} {s : State} (h : requestTarget s v = some (target, arg)) :
    takeRequest v s = schedule target causeRequest arg (requestPending v s) := by
  have htarget := (requestTarget_congr (requestPending_work v s).cfg v).trans h
  unfold requestPending at htarget ⊢
  unfold takeRequest
  dsimp only at htarget ⊢
  rw [htarget]

theorem takeRequest_waits {v : Nat} {s : State} (h : requestTarget s v = none) : takeRequest v s = requestPending v s := by
  have htarget := (requestTarget_congr (requestPending_work v s).cfg v).trans h
  unfold requestPending at htarget ⊢
  unfold takeRequest
  dsimp only at htarget ⊢
  rw [htarget]

/-- A request that is taken is pending; where it leads anywhere, that change stands scheduled. -/
theorem takeRequest_taken (v : Nat) (s : State) :
    RequestWork s (takeRequest v s) ∧ rd (takeRequest v s) Obj.REQUEST_STATUS = 0xFF ∧ (takeRequest v s).sm.request = v
      ∧ ∀ target arg, requestTarget s v = some (target, arg) → Scheduled target causeRequest arg s (takeRequest v s) := by
  have hwork := requestPending_work v s
  obtain ⟨a, b, hchanges⟩ := id hwork.changes
  cases htarget : requestTarget s v with
  | none =>
    rw [takeRequest_waits htarget]
    exact ⟨hwork, rd_wr_same _ _ _, rfl, fun _ _ e => absurd e (by simp)⟩
  | some p =>
    obtain ⟨target', arg'⟩ := p
    rw [takeRequest_leads htarget]
    refine ⟨⟨⟨_, _, by unfold schedule; rw [hchanges]⟩, hwork.objects, hwork.afterDemand⟩,
      (rd_schedule ..).trans (rd_wr_same _ _ _), rfl, ?_⟩
    rintro target arg ⟨⟩
    exact scheduled_schedule (hwork.dueTide _) _ _

/-- A state request that no check refuses completes: it is pending, and where it leads anywhere, that change stands scheduled. -/
theorem stateRequest_completes {c : Instr} {k v : Nat} {s : State} (h : MayRequest k v s)
    (hexec : exec c s = .next (namedRequest k 0x11 Obj.STATE_REQUEST (namedBytes Obj.STATE_REQUEST v) s)) (hv : v < 256) :
    Completes c s fun t =>
      Asked k v s t ∧ ∀ target arg, requestTarget s v = some (target, arg) → Scheduled target causeRequest arg s t := by
  obtain ⟨hmay, hrole, hcheck⟩ := h
  obtain ⟨r, hr, hp, -⟩ := row_of_volatile volatile_stateRequest
  have hrule : writeStateRequest (sessRole (booked k s) k) v (booked k s) = (takeRequest v (booked k s), 0) := by
    unfold writeStateRequest
    rw [sessRole_booked hmay.1, if_neg fun ⟨hhold, hlow⟩ => absurd (hrole hhold) (not_le.mpr hlow)]
    exact if_pos hcheck
  obtain ⟨hwork, hstatus, hrequest, hscheduled⟩ := takeRequest_taken v (booked k s)
  obtain ⟨a, b, hchanges⟩ := hwork.changes
  obtain ⟨hpath, hhost⟩ := requestStatus_free k (sessNet s k).port s
  obtain ⟨hdone, hobjects⟩ := bookedWrite_done (u := { s with sm := b }) hmay hr ((applyWrite_stateRequest hp hv).trans hrule)
    ⟨a, by rw [hchanges, booked_frame]⟩ ⟨rfl, rfl⟩ (by simpa using hpath) hwork.objects rfl
  refine ⟨_, hexec, ?_⟩
  generalize namedRequest k 0x11 Obj.STATE_REQUEST (namedBytes Obj.STATE_REQUEST v) s = t at hdone hobjects
  have hsm : t.sm = b := by rw [frame_of_done hdone]
  have hsm' : t.sm = (takeRequest v (booked k s)).sm := by rw [hsm, hchanges]
  refine ⟨⟨by rw [hsm]; exact hdone, (hobjects _ hhost).trans hstatus, by rw [hsm', hrequest]⟩, fun target arg htarget => ?_⟩
  have hscheduled := hscheduled target arg ((requestTarget_congr (cfg_booked k s) v).trans htarget)
  unfold Scheduled at hscheduled ⊢
  rw [dueTide_booked hmay.1] at hscheduled
  rw [hsm']
  exact hscheduled

/-- As `stateRequest_completes`, for a request that leads to a state in any case. -/
theorem stateRequest_scheduled {c : Instr} {k v target arg : Nat} {s : State} (h : MayRequest k v s)
    (hexec : exec c s = .next (namedRequest k 0x11 Obj.STATE_REQUEST (namedBytes Obj.STATE_REQUEST v) s)) (hv : v < 256)
    (htarget : requestTarget s v = some (target, arg)) :
    Completes c s fun t => Asked k v s t ∧ Scheduled target causeRequest arg s t := by
  obtain ⟨t, hnext, hasked, hscheduled⟩ := stateRequest_completes h hexec hv
  exact ⟨t, hnext, hasked, hscheduled _ _ htarget⟩

theorem safeReset_completes {k : Nat} {s : State} (h : MayRequest k 7 s) :
    Completes (.safeReset k) s fun t =>
      Asked k 7 s t ∧ (if s.cfg.valid then Scheduled stBlocked causeRequest 0 s t else Scheduled stHeld causeRequest 2 s t) := by
  obtain ⟨t, hnext, hasked, hscheduled⟩ := stateRequest_completes (c := .safeReset k) h rfl (by decide)
  refine ⟨t, hnext, hasked, ?_⟩
  have htarget : requestTarget s 7 = some (if s.cfg.valid then (stBlocked, 0) else (stHeld, 2)) := rfl
  split
  · next hvalid => exact hscheduled _ _ (by rw [htarget, if_pos hvalid])
  · next hinvalid => exact hscheduled _ _ (by rw [htarget, if_neg hinvalid])

/-- A state request that a check refuses shows the check's code, and is answered so (R334). -/
theorem stateRequest_refused {c : Instr} {k v : Nat} {s : State} (h : MayWriteN k Obj.STATE_REQUEST v s)
    (hexec : exec c s = .next (namedRequest k 0x11 Obj.STATE_REQUEST (namedBytes Obj.STATE_REQUEST v) s)) (hv : v < 256)
    (hrole : v = 1 → 2 ≤ sessRole s k) (hcheck : requestCheck (booked k s) v ≠ 0) :
    Completes c s fun t =>
      Answered k abState s t ∧ rd t Obj.REQUEST_STATUS = requestCheck (booked k s) v ∧ t.sm = s.sm := by
  obtain ⟨hready, hpass⟩ := h
  obtain ⟨r, hr, hp, -⟩ := row_of_volatile volatile_stateRequest
  have hrule : writeStateRequest (sessRole (booked k s) k) v (booked k s)
      = (wr (booked k s) Obj.REQUEST_STATUS (requestCheck (booked k s) v), abState) := by
    unfold writeStateRequest
    rw [sessRole_booked hready, if_neg fun ⟨hhold, hlow⟩ => absurd (hrole hhold) (not_le.mpr hlow)]
    exact if_neg hcheck
  obtain ⟨hpath, hhost⟩ := requestStatus_free k (sessNet s k).port s
  obtain ⟨hserved, hanswered⟩ := namedRequest_answered hready
    (writeObject_rejected hpass hr ((applyWrite_stateRequest hp hv).trans hrule) (by decide))
    (SamePath.of_objects (onlyObjects_wr (ks := [Obj.REQUEST_STATUS]) List.mem_cons_self _ _) (by simpa using hpath))
    (wr_rp ..) (wr_sessions ..)
  refine ⟨_, hexec, hanswered, ?_, ?_⟩
  · rw [hserved.objects _ ?_, rd_wr_same]
    simp only [hostKeys, List.mem_cons, not_or] at hhost
    exact not_mem_pair hhost.2.1 (by decide)
  · rw [hserved.changes, booked_frame]
    rfl

/-- Settles O55: clause by clause, from what each object's own rule does once the request is booked. -/
theorem configurationAndStateRequests : Obligations.ConfigurationAndStateRequests := by
  refine ⟨fun _ _ _ h => validate_completes h,
    fun _ _ _ h hvalidating hrestoring hidle hvalid hv hcheck hallowed =>
      configCommit_completes h hv ⟨hvalidating, hrestoring, hidle, hvalid, hcheck, hallowed⟩,
    fun _ _ _ h hcommitted => draftFromCommitted_completes h hcommitted, fun _ _ h => draftFromFactory_completes h,
    fun k s => ⟨fun h => stateRequest_scheduled h rfl (by decide) rfl, fun h => stateRequest_scheduled h rfl (by decide) rfl,
      fun h => stateRequest_scheduled h rfl (by decide) rfl, fun h => stateRequest_scheduled h rfl (by decide) rfl,
      fun h => stateRequest_scheduled h rfl (by decide) rfl, fun h => ?_, safeReset_completes⟩,
    fun k v s h hv hrole hcheck c hc hcv => ?_⟩
  · obtain ⟨t, hnext, hasked, -⟩ := stateRequest_completes (c := .discharge k) h rfl (by decide)
    exact ⟨t, hnext, hasked⟩
  · subst hcv
    refine stateRequest_refused h ?_ hv hrole hcheck
    simp only [List.mem_cons, List.not_mem_nil, or_false] at hc
    rcases hc with rfl | rfl | rfl | rfl | rfl | rfl | rfl <;> rfl

end Sys2Proof.Proofs
